-- ==== Sys2Proof/Word.lean ====
section
/-! DEFINITION. Word: the register word and the byte of the device, and their plainest arithmetic. -/

namespace Sys2Proof

/-- A register of the register bus (R11): 32 bits. -/
abbrev Word := BitVec 32

/-- One byte of memory, of a buffer or of flash. -/
abbrev Byte := BitVec 8

end Sys2Proof
end

