-- ==== Sys2Proof/Syntax.lean ====
section
/-! DEFINITION. Syntax: the commands of the block, one constructor per row of the table of operations
and events, with the facts of the outside world each of them carries. -/

namespace Sys2Proof

/-- What the energy reading and the read-back were for one page of the journal (R709, R720):
`emj` is E_MJ before the page starts, `ok` whether it reads back as programmed. -/
structure PageFact where
  emj : Nat
  ok  : Bool
  deriving DecidableEq, Repr

/-- The supply and temperature readings of one 1 ms update (R78, R111, R113): millivolts, tenths of a
watt, and tenths of a degree as 16-bit two's complement. -/
structure Readings where
  vbank  : Nat
  vin    : Nat
  vcam   : Nat
  vejA   : Nat
  vejB   : Nat
  pin    : Nat
  tplate : Nat
  tj     : Nat
  deriving DecidableEq, Repr

/-- What the fuses read as (R171): variant code, serial, fuse map entries, the 32 bytes of the firmware
key digest, the minimum security version, the number of corrected
words, and the first uncorrectable word. -/
structure FuseFacts where
  variant    : Nat
  serial     : Nat
  fuseMap    : List Nat
  keyDigest  : List Byte
  minVer     : Nat
  corrected  : Nat
  badWord    : Option Nat
  deriving DecidableEq, Repr

/-- A firmware package as read from a slot or from the host (R178): its key, its signature, its security
version, the supervisor and tile firmware versions, and the bytes that are signed. -/
structure Package where
  key     : List Byte
  sig     : List Byte
  secVer  : Nat
  supVer  : Nat
  tileVer : Nat
  signed  : List Byte
  deriving DecidableEq, Repr

/-- A failure that the self-test finds (R172): a tile of a gill, a router, or the link between two routers. -/
inductive Finding where
  | tile (gill tile : Nat)
  | router (gill : Nat)
  | link (a b : Nat)
  deriving DecidableEq, Repr

/-- What the I2C bus did with a command of the controller (R692): whether the address was ACKed, after how
many ACKed data bytes a NACK came (none: every byte was ACKed), and the bytes read, the PEC included. -/
structure I2cResult where
  addrAck : Bool
  nackAt  : Option Nat
  read    : List Byte
  deriving DecidableEq, Repr

/-- A host write of configuration space (R668): D3hot, Bus Master Enable, Memory Space Enable, the MSI-X
enable and function mask, and a new BAR2 size as a power of two. -/
structure ConfigWrite where
  d3       : Bool
  bme      : Bool
  mse      : Bool
  msixEn   : Bool
  msixMask : Bool
  barLog2  : Option Nat
  deriving DecidableEq, Repr

/-- A serial sensor frame as received (R293): whether the start bit came in time, the data bits, nE and nW, the CRC bits,
the latch instant in ns and the measured line delay. -/
structure SerialFrame where
  started : Bool
  data    : Nat
  nE      : Bool
  nW      : Bool
  crc     : Nat
  at_     : Nat
  measNs  : Nat
  deriving DecidableEq, Repr

/-- An image header (R239, R264): width, height, the pixel format's code, what that code stands for (colour: 0 mono, 1
Bayer RG, 2 GR, 3 GB, 4 BG, 5 RGB, 6 another; bits of a pixel), the stream packet payload in bytes, whether the image is an
area image, and its stream. -/
structure ImgHead where
  width   : Nat
  height  : Nat
  code    : Nat
  color   : Nat
  bits    : Nat
  payload : Nat
  area    : Bool
  stream  : Nat
  deriving DecidableEq, Repr

/-- A completed PTP exchange (R339) in 2^-16 ns, each corrected by its correctionField: the Sync origin and the Sync's
ingress stamp; then end-to-end the egress stamp `a` of the Delay_Req and its receipt time `d` at the master, or
peer-to-peer the egress stamp `a` of the Pdelay_Req, its receipt `b` and the answer's send time `c` at the peer, and the
ingress stamp `d` of the Pdelay_Resp. -/
structure PtpExch where
  sync1 : Int
  sync2 : Int
  a : Int
  b : Int
  c : Int
  d : Int
  deriving DecidableEq, Repr

/-- The header of a received ring frame (R377) and whether its CRC is right; `ack` is ACK_SEQ where it is valid. -/
structure RingHead where
  crcOk : Bool
  vc : Nat
  src : Nat
  dst : Nat
  seq : Nat
  ack : Option Nat
  e2e : Nat
  endpoint : Nat
  epoch : Nat
  deriving DecidableEq, Repr

/-- What a module appends to a DISCOVER frame (R383): its position, die serial, ring size and layout digest. -/
structure RingMember where
  position : Nat
  serial : Nat
  size : Nat
  digest : List Byte
  deriving DecidableEq, Repr

/-- How a link's training ends (R376): up, with the lanes whose polarity was found inverted; a marker with the wrong
number, the expected and the received one; or any other failure, with the lane. -/
inductive TrainEnd where
  | up (inverted : Nat)
  | order (expected received : Nat)
  | fail (lane : Nat)
  deriving DecidableEq, Repr

/-- The commands: one constructor per row of the table of operations and events. Each names the
facts its rule makes the step depend on and the state does not hold. They stand in the table's order, those without
operands after the others (Lean's runtime numbers no more than 244 constructors that hold something). -/
inductive Instr where
  /-- REGISTER_WRITE (R13): A BAR0 or supervisor write to a register that has no row of its own sets the written fields by their access type. -/
  | registerWrite (off size value : Nat)
  /-- RC_READ (R13): A read of an RC register returns the value and clears the field in the same read. -/
  | rcRead (off size : Nat)
  /-- LOW_WORD_READ (R21): A read of the low word of a two-register value latches the high word into a shadow. -/
  | lowWordRead (off : Nat)
  /-- INPUT_LOSS (R79): V_IN below 17.5 V for 20 µs deasserts PWR_OK, asserts LINE_STOP, releases the bypass drive, stops new pulses and sheds compute. -/
  | inputLoss (pages : List PageFact)
  /-- OVERVOLTAGE_LOCKOUT (R74): V_IN above 31.5 V for 20 µs is handled as input loss. -/
  | overvoltageLockout (pages : List PageFact)
  /-- INTERNAL_RESET (R717): An internal reset writes staging and an END record of KIND 2, then resets and makes a cold start. -/
  | internalReset (pages : List PageFact)
  /-- THERMAL_TRIP (R100): TJ at or above 110 °C for 1 ms acts as input loss and holds the device in reset. -/
  | thermalTrip (pages : List PageFact)
  /-- HOLDUP_ESTIMATE_TICK (R78): Every 1 ms the delivered-energy estimate E_MJ is updated from the bank voltage. -/
  | holdupEstimateTick (r : Readings) (ok : Bool)
  /-- HOLDUP_CAP_MEASURED (R78): The bank capacitance measured during the 20 V to 40 V charge is written and judged against 1,700 µF. -/
  | holdupCapMeasured (uf : Nat)
  /-- POCXP_DETECT_DONE (R90): PoCXP detection on a position completes and the position is powered or reported as a sense failure. -/
  | pocxpDetectDone (lane : Nat) (found : Bool)
  /-- POCXP_OVERCURRENT (R90): A position in current limit for more than 1 ms is switched off and latched off. -/
  | pocxpOvercurrent (lane : Nat)
  /-- POCXP_FAULT_CLEAR (R115): Clearing a PWR_POCXP_STS FAULT bit lets the device retry the position. -/
  | pocxpFaultClear (value : Nat)
  /-- ENC_SUPPLY_FAULT (R110): ENC_5V of a channel in current limit for 10 ms is switched off and reported. -/
  | encSupplyFault (chan : Nat)
  /-- VEJ_SUPPLY_LOW (R107): A V_EJ group falling below 17.5 V sets its bit and reports STS_EJECT_SUPPLY_LOW once per fall. -/
  | vejSupplyLow (group : Nat)
  /-- READBACK_CHECK (R83): 50 µs after each output edge the output level is compared with its command. -/
  | readbackCheck (out : Nat) (level openLoad : Bool)
  /-- OUTPUT_OVERCURRENT (R106): An output in current limit for 2 ms is switched off and latched off. -/
  | outputOvercurrent (out : Nat)
  /-- RELAY_POSITION_CHECK (R110): 10 ms after a change the Ethernet relay or ring switch sensed position is compared with its drive. -/
  | relayPositionCheck (ring : Bool)
  /-- RELAY_REQUEST_WRITE (R114): A write to PWR_RELAY requests insertion of the ring switches or the through position of the Ethernet relays under their conditions. -/
  | relayRequestWrite (value : Nat)
  /-- DI_EDGE_QUALIFIED (R116): A discrete input that has held a new level for QUAL_US is qualified as an edge. -/
  | diEdgeQualified (input : Nat) (raw : Bool) (held : Nat)
  /-- DI_CFG_WRITE (R726): A write to MOT_DI_CFG changes polarity or qualification time from the next MOTION cycle without making an edge. -/
  | diCfgWrite (value : Nat)
  /-- LSTOP_RELEASE (R82): A write of 1 to EJ_LSTOP.RELEASE releases LINE_STOP or keeps the release pending until the hold ends. -/
  | lstopRelease (value : Nat)
  /-- PLL_LOCK_TIMEOUT (R128): A PLL not locked 200 µs after enable is disabled and its domain left unclocked. -/
  | pllLockTimeout (domain : Nat)
  /-- CLOCK_FAILURE (R129): A clock deviating beyond ±1 % in two consecutive monitor windows is acted on by domain. -/
  | clockFailure (domain : Nat)
  /-- MODE_REQUEST (R131): A write of PWR_MODE_REQ with GO starts, completes or refuses a power-mode transaction. -/
  | modeRequest (value : Nat)
  /-- MODE_ROLLBACK (R135): A wake latch or failed step before commit undoes the completed steps and reopens admission. -/
  | modeRollback (failedStep : Option Nat)
  /-- EXIT_COMPLETE (R136): Completion of the exit sets MODE to 1, records PWR_EXIT_US and resumes triggers and admission. -/
  | exitComplete (failed : Bool)
  /-- WAKE_PATTERN_COMPLETE (R368): A completed wake pattern on a receive direction sets the lane wake latch and may start its wake. -/
  | wakePatternComplete (lane : Nat) (asked : Bool)
  /-- CLOCKS (R170): Bring-up stage CLOCKS checks the reference, enables and locks every PLL and starts the hold-up charger. -/
  | clocks (refclk : Bool)
  /-- FUSES (R171): Bring-up stage FUSES reads and ECC-checks identity, trim, fuse map, key digest and minimum firmware version. -/
  | fuses (facts : FuseFacts)
  /-- SELFTEST (R172): Bring-up stage SELFTEST runs the mycelium and tile SRAM tests and adds findings to the session map. -/
  | selftest (found : List Finding)
  /-- MAP (R175): Bring-up stage MAP reads boot configuration and field map, merges the map, numbers units and fixes SYS_CAP_UNITS. -/
  | map (cfgOk copy0Ok copy1Ok : Bool)
  /-- TRAIN (R177): Bring-up stage TRAIN trains LPDDR5, calibrates lanes and starts the Ethernet PHYs. -/
  | train (ddr : Option Nat) (lanes phys : Nat)
  /-- FWLOAD (R178): Bring-up stage FWLOAD reads and authenticates a firmware package from the host or a flash slot. -/
  | fwload (a b : Option Package)
  /-- PKG_READY (R179): A write of BOOT_CTRL.PKG_READY offers a host package for authentication. -/
  | pkgReady
  /-- SPORE_ACK_TIMEOUT (R180): A spore not acknowledged within 100 µs is broadcast again, and after three tries the gill is mapped out and the device resets. -/
  | sporeAckTimeout (gill spore : Nat)
  /-- IMAGE (R182): Bring-up stage IMAGE loads the stored Exgar image when AUTO_IMAGE is 1. -/
  | image
  /-- COLD_START (R201): A write of BOOT_CTRL.COLD makes an internal reset and cold start. -/
  | coldStart (pages : List PageFact)
  /-- FIELD_ADDITION (R186): A write to BOOT_FMAP_ADD checks and appends an entry to both field-map copies. -/
  | fieldAddition (entry : Nat)
  /-- LOAD (R214): BOOT_IMG_CTRL.LOAD copies an image and runs the load stages, failing at the first stage that fails. -/
  | load (src : Nat)
  /-- UNLOAD (R228): BOOT_IMG_CTRL.UNLOAD returns the device to the no-image state when its conditions hold. -/
  | unload (src : Nat)
  /-- STORE (R217): BOOT_IMG_CTRL.STORE checks an image in device memory and writes it to the older flash slot. -/
  | store (src : Nat)
  /-- KEYREC (R213): BOOT_IMG_CTRL.KEYREC checks a key record and writes both key-table copies. -/
  | keyrec (src : Nat)
  /-- ROUTE_SET_CHANGE (R226): A write of MESH_ROUTESET with GO starts a route-set change or is refused. -/
  | routeSetChange (value : Nat)
  /-- EPOCH_BOUNDARY (R226): Once set NEXT is in every router, every source flips the epoch tag it applies. -/
  | epochBoundary (inflight : List Nat)
  /-- ROUTE_RELEASE (R226): A held route whose old-tag count reaches zero releases its first new-tag flit. -/
  | routeRelease (route : Nat)
  /-- EDGE_ACCEPTED (R287): An encoder pair edge that has lasted Q and respects MIN_SPACE_NS is accepted and decoded into X and E with every count comparison of the cycle. -/
  | edgeAccepted (chan mask held : Nat)
  /-- GLITCH_FAULT (R288): An excursion that returns before Q or arrives within MIN_SPACE_NS is counted as a glitch fault. -/
  | glitchFault (chan : Nat)
  /-- SERIAL_POLL (R293): Every POLL_US a serial sensor frame is started after the clock idle time. -/
  | serialPoll (chan : Nat)
  /-- SERIAL_READING (R294): A completed SSI or BiSS-C frame is checked and, if accepted, applied to X. -/
  | serialReading (chan : Nat) (frame : SerialFrame)
  /-- WIRE_DISAGREE (R296): Both wires of a pair at the same level for WIRE_CYC cycles declares a disagreement and sets ENC_WIRE. -/
  | wireDisagree (chan pair : Nat)
  /-- WIRE_FAULT (R297): A disagreement lasting FAULT_MS sets WIRE_FAULT, makes the speed invalid and may assert LINE_STOP. -/
  | wireFault (chan pair : Nat)
  /-- WIRE_FAULT_CLEAR (R297): Continuous agreement for FAULT_MS clears WIRE_FAULT. -/
  | wireFaultClear (chan pair : Nat)
  /-- COUNT_GATE_END (R299): At the end of each GATE_US gate the count estimator is updated and the method change-over tested. -/
  | countGateEnd (chan : Nat)
  /-- CH_CFG_WRITE (R315): A write to MOT_CH_CFG is checked and enabling sets E to X, invalidates speed and starts the first gate. -/
  | chCfgWrite (chan value : Nat)
  /-- SPEED_THRESHOLD_WRITE (R301): A write to V_HI or V_LO that would make V_LO at least V_HI is refused. -/
  | speedThresholdWrite (chan : Nat) (high : Bool) (value : Nat)
  /-- TRK_CFG_WRITE (R62): A write to MOT_TRK_CFG enables or disables track creation and restarts the conversion grid. -/
  | trkCfgWrite (value : Nat)
  /-- TRACK_DECLARE (R68): A write of MOT_TRK_DECL_HI with GO checks the gate and creates a declared track. -/
  | trackDeclare (value : Nat)
  /-- TRACK_COMMIT (R45): A write of MOT_TRK_COMMIT judges a commit against the slot's state and sequence number. -/
  | trackCommit (value : Nat)
  /-- TRACK_UNIT_MESSAGE (R428): A queue message to the track unit applies its offset and value pairs of declarations, commits and arms indivisibly. -/
  | trackUnitMessage (gill : Nat)
  /-- GATE_ENABLE (R58): A write of MOT_GATE_CFG.EN is refused unless the gate's offsets are consistent. -/
  | gateEnable (gate value : Nat)
  /-- GATE_OFFSET_WRITE (R58): A write to a gate's W, FIRE_OFFS or MARGIN while enabled is refused if it breaks the offset conditions. -/
  | gateOffsetWrite (gate which value : Nat)
  /-- ARM_COMMAND (R307): A write of EJ_ARM_CMD with GO inserts a count or time entry or refuses it. -/
  | armCommand (value : Nat)
  /-- DELAY_END (R308): ON_DELAY_US after a pulse starts the output is commanded on. -/
  | delayEnd (out : Nat)
  /-- PULSE_END (R308): WIDTH reached ends the pulse, moves to GAP and logs the entry. -/
  | pulseEnd (out : Nat)
  /-- GAP_END (R308): MIN_OFF_US after a pulse the output returns to IDLE and a held entry may start. -/
  | gapEnd (out : Nat)
  /-- MAX_ON (R309): A pulse on for MAX_ON_MS ends at once and reports STS_EJECT_MAX_ON. -/
  | maxOn (out : Nat)
  /-- DEFER_EXPIRED (R310): A held entry waiting DEFER_MAX_MS is discarded and logged SKIPPED. -/
  | deferExpired (out : Nat)
  /-- EJ_CTRL_WRITE (R311): Clearing EJ_CTRL.EN turns every output off and ends every pulse. -/
  | ejCtrlWrite (value : Nat)
  /-- OUT_CFG_WRITE (R311): Clearing EJ_OUT_CFG.EN turns that output off and ends its pulse. -/
  | outCfgWrite (out value : Nat)
  /-- FLUSH (R312): A write of EJ_OUT_CTRL.FLUSH removes every entry of the output and logs each FLUSHED. -/
  | flush (out value : Nat)
  /-- RATE_WRITE (R336): A write to PTP_RATE sets the rate trim from the next TIME cycle, saturated and refused by servo mode. -/
  | rateWrite (value : Nat)
  /-- STEP_REQUEST (R337): A write of PTP_STEP_CTRL.GO makes a step pending or is refused. -/
  | stepRequest (value : Nat)
  /-- PTP_CFG_WRITE (R355): A write to PTP_CFG while EN is 1 is refused except for EN, and clearing EN stops PTP messages. -/
  | ptpCfgWrite (value : Nat)
  /-- PTP_RX (R338): A received PTP event message is stamped at ingress and passed to the supervisor. -/
  | ptpRx (port kind seq sec domain : Nat) (inSubset : Bool) (took : Nat)
  /-- PTP_TX (R341): A transmitted event message is stamped at egress and either updated in one-step mode or queued for a follow-up. -/
  | ptpTx (port kind seq : Nat) (turn : Int) (took : Nat)
  /-- PTP_SAMPLE (R343): A completed exchange writes a sample, which the internal servo steps or slews on. -/
  | ptpSample (port : Nat) (x : PtpExch) (mono seq : Nat)
  /-- HOLDOVER (R344): No sample for HOLD_MS puts the servo in HOLDOVER. -/
  | holdover (port : Nat)
  /-- MARK_ARM (R348): A write of PTP_EVT_MARK_HI arms a count mark that stamps once when E reaches it. -/
  | markArm (value : Nat)
  /-- PORT_ENABLE (R243): A write of CXP_PORT_CFG.EN starts the port's bring-up or sends it to OFF. -/
  | portEnable (port value : Nat)
  /-- POCXP_POWERED (R243): Power on every used position moves a port from POWER to DISCOVER. -/
  | pocxpPowered (port : Nat)
  /-- DISCOVER (R243): Connection discovery at CXP-1 succeeds or fails after 500 ms. -/
  | discover (port : Nat) (ok : Bool)
  /-- CONFIG (R243): Lock at the configured rate on every lane moves the port to UP, or fails after 200 ms. -/
  | config (port : Nat) (ok : Bool)
  /-- CAMERA_LINK_DOWN (R243): Loss of lock or deskew in UP sends the port DOWN and retires outstanding triggers. -/
  | cameraLinkDown (port lane : Nat)
  /-- DOWN_RETRY (R243): 100 ms after DOWN the port rediscovers and counts a retry. -/
  | downRetry (port : Nat)
  /-- RESYNC_END (R262): A quiet period with no stream data ends RESYNC and returns the port to UP. -/
  | resyncEnd (port : Nat)
  /-- CTRL_TRANSACTION (R244): A write of CXP_CTRL_CMD with GO sends one tagged control packet through the mailbox. -/
  | ctrlTransaction (port value : Nat)
  /-- CTRL_ACK (R244): The camera's acknowledgement ends the mailbox transaction with its code and data. -/
  | ctrlAck (port code : Nat) (negative : Bool) (data : Nat) (bad : Bool)
  /-- CTRL_TIMEOUT (R244): No acknowledgement within CXP_CTRL_TMO sets TIMEOUT. -/
  | ctrlTimeout (port : Nat)
  /-- FRAME_TIME_TRIGGER (R242): Every PERIOD_US a FRAME_TIME trigger is issued. -/
  | frameTimeTrigger (port : Nat)
  /-- SOFT_TRIGGER (R242): A write of CXP_TRIG_SOFT.GO issues one FRAME_SOFT trigger. -/
  | softTrigger (port value : Nat)
  /-- DELAYED_TRIGGER (R265): A trigger waiting under DELAY is issued MIN_PERIOD_NS after the previous one. -/
  | delayedTrigger (port : Nat)
  /-- TRIG_CFG_WRITE (R265): A write to CXP_TRIG_CFG sets trigger source and policy and may retire waiting triggers. -/
  | trigCfgWrite (port value : Nat)
  /-- STREAM_PACKET (R260): A received stream packet is CRC-checked and its lines paired with outstanding triggers. -/
  | streamPacket (port lane tag : Nat) (bytes : List Byte) (bad : Bool) (symErrs stream : Nat) (lost : Bool)
  /-- IMAGE_HEADER (R264): A received image header is checked and starts pairing of an image or a rebind switch. -/
  | imageHeader (port lane tag : Nat) (head : ImgHead) (bad : Bool) (symErrs : Nat)
  /-- LINE_TIMEOUT (R261): A line trigger not paired within LINE_US is retired and sends the port to RESYNC. -/
  | lineTimeout (port : Nat)
  /-- FRAME_TIMEOUT (R261): A frame trigger whose image is incomplete after FRAME_MS is retired and sends the port to RESYNC. -/
  | frameTimeout (port : Nat)
  /-- PIPELINE_LINE (R253): A line passes the ISP stage chain and is assigned to open windows or discarded. -/
  | pipelineLine (pipe : Nat)
  /-- PART_IMAGE_COMPLETE (R250): A closed window whose triggers are all paired or retired writes flags, statistics and descriptor and notifies. -/
  | partImageComplete (pipe : Nat)
  /-- THROUGH_MEMORY_FRAME (R252): The through-memory context takes the oldest complete frame and processes it in spare PIXEL cycles. -/
  | throughMemoryFrame (pipe : Nat)
  /-- REBIND_REQUEST (R268): A write of CXP_BIND with GO sets a pending rebind or refuses it. -/
  | rebindRequest (port value : Nat)
  /-- REBIND_SWITCH (R269): At the next image header the camera moves to the new pipeline and splits open windows. -/
  | rebindSwitch (port : Nat)
  /-- OUT_HEAD_WRITE (R257): A write of ISP_OUT_HEAD frees the output slots of consumed descriptors. -/
  | outHeadWrite (pipe value : Nat)
  /-- PIPE_CELL_WRITE (R259): A write of ISP_PIPE_CELL naming a cell not produced by ISP pipelines is refused. -/
  | pipeCellWrite (pipe value : Nat)
  /-- TX_L0 (R372): LANE_TX_CMD L0 moves the transmit direction to L0, held until the synthesiser locks. -/
  | txL0 (lane : Nat)
  /-- TX_L1 (R372): LANE_TX_CMD L1 moves the transmit direction to electrical idle. -/
  | txL1 (lane : Nat)
  /-- TX_L2 (R372): LANE_TX_CMD L2 puts the transmit direction to sleep at once. -/
  | txL2 (lane : Nat)
  /-- TX_OFF (R372): LANE_TX_CMD OFF unpowers the transmit direction and cancels a held command. -/
  | txOff (lane : Nat)
  /-- TX_WAKE (R372): LANE_TX_CMD WAKE sends the wake pattern once the synthesiser is locked. -/
  | txWake (lane : Nat)
  /-- PRBS_ON (R375): LANE_TX_CMD PRBS_ON makes the generator drive the high-speed transmit. -/
  | prbsOn (lane : Nat)
  /-- PRBS_OFF (R375): LANE_TX_CMD PRBS_OFF stops the generator. -/
  | prbsOff (lane : Nat)
  /-- RX_STATE_COMMAND (R369): LANE_RX_CMD moves the receive direction to its target state, starting a fast relock when leaving L1 or L2. -/
  | rxStateCommand (lane value : Nat)
  /-- SYNTH_CAL_DONE (R366): Calibration of a quad synthesiser completes and it enters SETTLE, or it fails to OFF. -/
  | synthCalDone (quad : Nat) (ok : Bool)
  /-- SYNTH_LOCKED (R366): The synthesiser locks and any held transmit command is carried out. -/
  | synthLocked (quad : Nat) (ok : Bool)
  /-- HELD_COMMAND_TIMEOUT (R372): A transmit command still held after LANE_SYNTH_TMO fails. -/
  | heldCommandTimeout (lane : Nat)
  /-- FAST_RELOCK (R369): A receive direction's CDR locks and aligns within the guard. -/
  | fastRelock (lane : Nat)
  /-- WAKE_GUARD_EXPIRY (R370): A fast relock missing its guard falls back to full retraining. -/
  | wakeGuardExpiry (lane : Nat)
  /-- RETRAIN_COMPLETE (R370): Full retraining of a CXP lane ends in lock or sends the port DOWN. -/
  | retrainComplete (lane : Nat) (ok : Bool)
  /-- LOSS_OF_SIGNAL (R371): A receive direction in L0 without signal for 1 µs counts a loss of signal. -/
  | lossOfSignal (lane : Nat)
  /-- LOOP_WRITE (R374): A write of LANE_CFG.LOOP sets a loopback within 1 µs or is refused. -/
  | loopWrite (lane value : Nat)
  /-- PRBS_CHECKER_ENABLE (R375): Writing LANE_PRBS.CHK_EN to 1 clears the counters and starts the checker. -/
  | prbsCheckerEnable (lane value : Nat)
  /-- RING_ENABLE (R382): A write to RING_CTRL.EN starts or stops the ring unit. -/
  | ringEnable (value : Nat)
  /-- RING_TEST (R390): Setting TEST_W or TEST_E takes that side's link out of service and hands its lanes to the driver. -/
  | ringTest (value : Nat)
  /-- LINK_TRAINING_DONE (R376): Ring link training completes with the link up or failed. -/
  | linkTrainingDone (side : Nat) (how : TrainEnd)
  /-- TRAIN_RETRY (R376): 10 ms after a failed training the link trains again. -/
  | trainRetry (side : Nat)
  /-- RING_FRAME (R378): A received DATA frame is accepted or NAKed and delivered or forwarded. -/
  | ringFrame (side : Nat) (h : RingHead) (payload : List Byte)
  /-- ACK (R378): An ACK frame releases acknowledged frames from the retry buffer. -/
  | ack (side ackSeq : Nat)
  /-- NAK (R378): A NAK frame makes the transmitter replay from the oldest unacknowledged frame. -/
  | nak (side seq : Nat)
  /-- ACK_TIMEOUT (R378): The oldest frame waiting ACK_TMO_NS is replayed. -/
  | ackTimeout (side : Nat)
  /-- LINK_SLEEP (R381): A link direction idle for SLEEP_US sends SLEEP blocks and enters TX_IDLE. -/
  | linkSleep (side : Nat)
  /-- RING_DISCOVER (R383): A DISCOVER frame collects positions and, on return, the ring is judged COMPLETE, DEGRADED or FAULT. -/
  | ringDiscover (side : Nat) (h : RingHead) (members : List RingMember)
  /-- QUIESCE (R385): A QUIESCE frame stops DATA injection at the module until its retry buffers are empty. -/
  | quiesce (side : Nat) (h : RingHead)
  /-- QUIESCED (R385): A QUIESCED frame is forwarded once the module's buffers are empty and lets the master send SWITCH. -/
  | quiesced (side : Nat) (h : RingHead)
  /-- SWITCH (R385): A SWITCH frame applies the new layout, topology and epoch and is forwarded. -/
  | switch (side : Nat) (h : RingHead) (layout present epoch : Nat)
  /-- RING_LINK_DOWN (R388): A LINK_DOWN frame or a lost link moves the ring to RECOVER and holds unacknowledged frames. -/
  | ringLinkDown (side : Nat) (how : Option RingHead)
  /-- LAYOUT_REQ (R387): A LAYOUT_REQ frame reaches the master, which queues the layout change. -/
  | layoutReq (side : Nat) (h : RingHead) (layout : Nat)
  /-- LAYOUT_ANS (R387): A LAYOUT_ANS frame returns the master's answer to the requesting module. -/
  | layoutAns (side : Nat) (h : RingHead) (accepted : Bool)
  /-- LAYOUT_REQUEST (R387): A write of RING_LAYOUT with GO sends a layout request or is refused. -/
  | layoutRequest (value : Nat)
  /-- LINK_TMO_EXPIRY (R388): A lost link not up within LINK_TMO_MS lets the quiescence proceed without it. -/
  | linkTmoExpiry (side present : Nat)
  /-- BUNDLE_ISSUE (R407): The sequencer issues all 16 slots of a bundle together once interlocks allow. -/
  | bundleIssue (gill : Nat)
  /-- GLOBAL_LOAD_RESPONSE (R417): Data of a global load arrives and clears its destination's pending mark. -/
  | globalLoadResponse (gill slot ref retry : Nat)
  /-- GILL_MEM_FAULT_STOP (R436): An MMU fault report reaching the sequencer stops the gill at a bundle boundary. -/
  | gillMemFaultStop (gill : Nat)
  /-- SYNC_GRANT (R499): The waiter at the head of a cell's list is granted once the count reaches its N. -/
  | syncGrant (cell : Nat)
  /-- TIMED_OP_TIMEOUT (R500): A timed wait or queue operation reaching its timeout cancels and ends with failure or a stop. -/
  | timedOpTimeout (gill : Nat)
  /-- QUEUE_MESSAGE_ARRIVAL (R427): A message arriving at a gill's receive queue satisfies a waiting QRECV. -/
  | queueMessageArrival (gill port src srcPort : Nat)
  /-- QUEUE_CREDIT_RETURN (R427): A credit returns when the receiver takes a message and lets a waiting QSEND proceed. -/
  | queueCreditReturn (gill port : Nat)
  /-- FENCE_COMPLETE (R425): All earlier operations of a fence being performed lets the fenced bundle complete. -/
  | fenceComplete (gill : Nat)
  /-- INVOCATION_END (R437): A HALT whose fence is complete ends the invocation as completed or failed. -/
  | invocationEnd (gill : Nat)
  /-- DBG_HALT (R440): GILL_DBG_CTRL.HALT halts the gill at the next bundle boundary or is refused. -/
  | dbgHalt (gill : Nat)
  /-- DBG_RESUME (R440): GILL_DBG_CTRL.RESUME leaves HALTED. -/
  | dbgResume (gill : Nat)
  /-- DBG_STEP (R440): GILL_DBG_CTRL.STEP issues one bundle. -/
  | dbgStep (gill : Nat)
  /-- BOXDEC (R458): A detection item decodes anchor boxes into a sorted candidate list. -/
  | boxdec (eng item us : Nat)
  /-- NMS (R462): A detection item suppresses overlapping boxes and writes the kept list. -/
  | nms (eng item us : Nat)
  /-- TRANSACTION_RESPONSE (R502): A memory transaction returns a successful or failed response to its source. -/
  | transactionResponse (gill slot : Nat) (walk : Bool) (bad weak : Option Nat) (chan ns ref retry : Nat)
  /-- REFRESH (R482): A refresh command is issued on a channel at its interval. -/
  | refresh (chan ns : Nat)
  /-- ZQ_CALIBRATION (R482): Every 128 ms a ZQ calibration latch is issued per channel. -/
  | zqCalibration (chan : Nat)
  /-- MR4_READ (R483): Every 16 ms MR4 is read and the refresh interval adjusted. -/
  | mr4Read (chan range : Nat)
  /-- CONTROLLER_WATCHDOG (R512): A transaction unanswered for WDOG_US fails the controller's transactions and restarts the device. -/
  | controllerWatchdog (chan : Nat) (txs : List (Nat × Nat × Nat × Nat))
  /-- DMA_SUBMIT (R489): A write of DMA_SUB_HI.GO queues a driver chain or is refused. -/
  | dmaSubmit (eng value : Nat)
  /-- CHAIN_START (R493): An engine takes the next chain and reads its header and items. -/
  | chainStart (eng : Nat)
  /-- COPY (R492): A COPY item copies bytes between two VAs. -/
  | copy (eng item : Nat)
  /-- FILL (R492): A FILL item writes a repeated pattern. -/
  | fill (eng item : Nat)
  /-- COPY2D (R492): A COPY2D item copies rows with pitches. -/
  | copy2d (eng item : Nat)
  /-- SIGNAL (R492): A SIGNAL item adds N to a cell once earlier items complete. -/
  | signal (eng item : Nat)
  /-- CHAIN_END (R493): After the last record the engine sets its status, increments the cell and takes the next chain. -/
  | chainEnd (eng : Nat)
  /-- DMA_ABORT (R505): DMA_ENG_CTRL.ABORT cancels the running and queued chains. -/
  | dmaAbort (eng : Nat) (part : List (Nat × Nat))
  /-- SYNC_ADD (R498): A write of SYNC_ADD increments a cell as producer type 0x5 or is refused. -/
  | syncAdd (cell value : Nat)
  /-- SYNC_RESET (R501): SYNC_CTL.RESET returns a cell to INIT unless it has a waiter. -/
  | syncReset (cell : Nat)
  /-- SUBMIT (R525): A write of SCHED_SUB_CTRL.GO submits a host work judged by the admission checks. -/
  | submit (value : Nat)
  /-- WORK_MESSAGE (R524): A 16-word work message from a gill reaches a dispatcher and is judged. -/
  | workMessage (gill : Nat)
  /-- DISPATCH (R532): A dispatcher evaluates its ready works in rank order and starts or pre-empts. -/
  | dispatch (executor : Nat)
  /-- STEAL_TOKEN (R534): The steal token passes to the next gill, which may take a work from another list. -/
  | stealToken (part : Nat)
  /-- QUANTUM_EXPIRY (R538): A gang's minimum quantum expiring makes it eligible as a victim. -/
  | quantumExpiry (work : Nat)
  /-- PREEMPT_DRAIN_DONE (R539): Once stopped members' chains and messages have drained, the gang writes its save images. -/
  | preemptDrainDone (work : Nat)
  /-- SAVE_COMPLETE (R540): The last save image is written and the work becomes SAVED. -/
  | saveComplete (work : Nat) (bad : Option Nat)
  /-- RESTORE_COMPLETE (R542): Every member restored releases the saved gang together. -/
  | restoreComplete (work : Nat) (bad : Option Nat)
  /-- STATE_SWAP_COMPLETE (R536): A model's state area copy into a gill completes and sets its resident model. -/
  | stateSwapComplete (gill : Nat)
  /-- GANG_END (R544): A gang or unit work ends, writes a completion-log entry and increments CPL_CELL. -/
  | gangEnd (work : Nat)
  /-- WORK_CANCEL (R545): A write of SCHED_CANCEL cancels an admitted work or is refused. -/
  | workCancel (value : Nat)
  /-- WALK (R571): A WALK request finds the deepest cached prefix with state. -/
  | walk (gill : Option Nat)
  /-- INSERT (R573): An INSERT request adds a recipe's state block, evicting as needed. -/
  | insert (gill : Option Nat)
  /-- RELEASE (R572): A RELEASE request gives back a hold on a node. -/
  | release (gill : Option Nat)
  /-- PIN (R574): A PIN request sets PIN on a node. -/
  | pin (gill : Option Nat)
  /-- UNPIN (R574): An UNPIN request clears PIN on a node. -/
  | unpin (gill : Option Nat)
  /-- EVICT (R574): An EVICT request frees a named node's block. -/
  | evict (gill : Option Nat)
  /-- GATHER (R575): A GATHER request copies an adapter version's layers to a destination. -/
  | gather (gill : Option Nat) (done : Bool)
  /-- PUBLISH (R576): A PUBLISH request makes an adapter's staged version live. -/
  | publish (gill : Option Nat)
  /-- PFX_FORMAT (R586): PFX_CTRL.FORMAT initialises the node array and block pool or is refused. -/
  | pfxFormat (value : Nat)
  /-- ANN_ABORT (R610): ANN_CTRL.ABORT ends the problem by the unit's state. -/
  | annAbort (value : Nat)
  /-- VC_STALL (R640): A virtual channel holding a flit unmoved for STALL_US is reported. -/
  | vcStall (vc router last : Nat)
  /-- MBX_ENABLE (R654): MBX_CTRL.EN sets HEAD and DONE and fills the ring with blanks, or is refused. -/
  | mbxEnable (value : Nat)
  /-- MBX_HEAD_WRITE (R657): A write of MBX_HEAD frees records or is ignored if it moves wrongly. -/
  | mbxHeadWrite (value : Nat)
  /-- IRQ_PEND_CLEAR (R661): Writing 1 to an MBX_IRQ_PEND bit clears it or re-pends it if its condition holds. -/
  | irqPendClear (value : Nat)
  /-- WQ_DOORBELL (R662): A write of MBX_WQ_TAIL makes the host interface read and submit work-ring entries. -/
  | wqDoorbell (value : Nat)
  /-- BAR2_ACCESS (R648): A host BAR2 access is split at 64-byte boundaries into translated memory transactions. -/
  | bar2Access (off len : Nat) (data : Option (List Byte))
  /-- HOST_WINDOW_ACCESS (R650): A DMA access to the host window is sent to host memory. -/
  | hostWindowAccess (answer : Option (Nat × List Byte))
  /-- HOST_WINDOW_TIMEOUT (R651): A host-window transaction not completed within CPL_TMO_US fails with reason RANGE. -/
  | hostWindowTimeout (write : Bool) (cause : Nat)
  /-- RUNSET_SAVE (R667): MBX_RUNSET_CTRL.SAVE captures and stores the run set with the image digest. -/
  | runsetSave (autoApply runAuto : Bool)
  /-- SPI_PUSH (R683): A write of SPI_PUSH.GO adds an entry to the SPI queue or is refused. -/
  | spiPush (value : Nat)
  /-- SPI_ENTRY_END (R684): An SPI entry finishes its words and writes its completion record. -/
  | spiEntryEnd (status : Nat) (rx : List Nat)
  /-- SPI_ABORT (R687): An abort stops clocking, handles the partial word and skips queued entries. -/
  | spiAbort (value edges status : Nat) (rx : List Nat)
  /-- I2C_PUSH (R690): A write of I2C_PUSH.GO adds a command to the I²C queue or is refused. -/
  | i2cPush (value : Nat)
  /-- I2C_COMMAND_START (R691): A command starts on a free bus, first clearing a stuck SDA if needed. -/
  | i2cCommandStart (pulses : Nat)
  /-- I2C_COMMAND_END (R692): A command ends DONE or FAILED and writes its completion record. -/
  | i2cCommandEnd (r : I2cResult)
  /-- ARBITRATION_LOST (R694): SDA sampled low while released as controller stops driving and retries later. -/
  | arbitrationLost (byte bit : Nat) (winner : Option (Nat × Bool))
  /-- TARGET_TRANSACTION (R697): A transaction to the port's own address is served from the 256-byte window. -/
  | targetTransaction (read : Bool) (bytes : List Byte) (count : Nat)
  /-- TARGET_TRANSACTION_END (R698): STOP or repeated START applies the pending written bytes after a PEC check and logs the transaction. -/
  | targetTransactionEnd (repeated : Bool)
  /-- I2C_ABORT (R700): I2C_CTRL.ABORT releases the lines, fails the command and skips the queue. -/
  | i2cAbort (value written read : Nat)
  /-- STAGE_RECORD (R712): A producer appends a journal record to staging, or it is dropped when staging is full. -/
  | stageRecord (ty : Nat) (body : List Byte)
  /-- PAGE_PROGRAM (R708): A full page buffer is programmed after the energy check and verified. -/
  | pageProgram (ok : Bool)
  /-- FLUSH_MS_EXPIRY (R708): FLUSH_MS after a page's first record the page is programmed. -/
  | flushMsExpiry (ok : Bool)
  /-- JOURNAL_FLUSH (R708): JRN_CTRL.FLUSH programs the page buffer now. -/
  | journalFlush (ok : Bool)
  /-- SUBSECTOR_ERASE (R711): A runway below 128 pages erases the oldest subsector after the energy check. -/
  | subsectorErase (ok : Bool)
  /-- HOLDUP_FINAL_PAGE (R716): Once pulses have ended or 100 ms passed, the last page with an END record is programmed and the flash powered down. -/
  | holdupFinalPage (f : PageFact)
  /-- ETHERNET_LINK_CHANGE (R354): The 1000BASE-T link of an Ethernet port comes up or goes down, and the port's PTP state follows. -/
  | ethernetLinkChange (port : Nat) (up : Bool)
  /-- PERST_RELEASE (R664): Release of PERST# lets the endpoint answer configuration within 20 ms and moves HOST onto REFCLK by a glitch-free switch. -/
  | perstRelease (refclk : Bool)
  /-- PCIE_LINK_UP (R668): The PCI Express link trains, possibly below 16 GT/s x8, which reports STS_HOST_LINK_DEGRADED. -/
  | pcieLinkUp (speed width : Nat)
  /-- CONFIG_SPACE_WRITE (R668): A host configuration write sets D3hot, Bus Master Enable, Memory Space Enable or a BAR resize, with their effects on MSI-X, the host window and BAR2. -/
  | configSpaceWrite (w : ConfigWrite)
  /-- AER_ERROR (R668): An uncorrectable error logged by AER is counted in MBX_CNT_PCIE_ERR and reported as STS_HOST_PCIE_ERROR. -/
  | aerError (bit : Nat)
  /-- SUPPLY_LOW_CLEARED (R107): V_EJ_A, V_EJ_B or V_CAM rising back above its threshold clears its PWR_MOD_STATUS bit and re-arms the once-per-fall report. -/
  | supplyLowCleared (which : Nat)
  /-- WIRE_DISAGREE_END (R296): The two wires of a checked pair first read opposite levels again, which ends the disagreement. -/
  | wireDisagreeEnd (chan pair : Nat)
  /-- SLEEP_BLOCKS_RECEIVED (R381): The partner's SLEEP control blocks put the receive directions of a ring link into the same idle state with wake detection running. -/
  | sleepBlocksReceived (side state : Nat)
  /-- SWITCH_POSITION_REACHED (R94): The Ethernet relays or ring bypass switches settle in their new position, which updates ETH_POS or RING_POS, drops links and lets ring training begin. -/
  | switchPositionReached (ring : Bool)
  /-- PRBS_LOCK_ACQUIRED (R375): After 64 consecutive correct bits the PRBS checker sets LOCK and starts counting. -/
  | prbsLockAcquired (lane : Nat)
  /-- PRBS_LOCK_LOST (R375): 64 wrong bits within 1,024 clear LOCK, and the checker seeds itself again. -/
  | prbsLockLost (lane : Nat)
  /-- CXP_EVENT_PACKET (R239): A received CoaXPress event or heartbeat packet is counted in CXP_CNT_EVENT or ignored, and discarded. -/
  | cxpEventPacket (port : Nat) (event : Bool)
  /-- HELD_ACCESS_PERFORM (R140): A BAR0 access held for a gated domain is performed once the exit completes. -/
  | heldAccessPerform
  /-- POWER_ON_START (R74): V_IN having stayed at or above 18.5 V for 100 ms starts a cold start. -/
  | powerOnStart
  /-- VIN_SHORT_DIP (R112): A dip below 17.5 V shorter than 20 µs sets LOSS_SEEN and is not an input loss. -/
  | vinShortDip
  /-- NRST_ASSERT (R81): nRST_IN held low for at least 10 µs resets the whole device. -/
  | nrstAssert
  /-- NRST_RELEASE (R159): Release of nRST_IN after a valid low starts a cold start. -/
  | nrstRelease
  /-- THERMAL_THROTTLE_START (R100): TJ reaching THROTTLE caps CORE at 750 MHz, refuses new PLAN and MAINT work and reports the throttle. -/
  | thermalThrottleStart
  /-- THERMAL_THROTTLE_END (R100): TJ falling below THROTTLE minus 5 °C ends the throttle. -/
  | thermalThrottleEnd
  /-- VCAM_LOW (R91): V_CAM below 21.6 V for 1 ms removes power from every PoCXP position. -/
  | vcamLow
  /-- HEARTBEAT_LOSS (R94): No heartbeat pulse for 10 ms makes the module release the ring bypass switches. -/
  | heartbeatLoss
  /-- LSTOP_HOLD_EXPIRY (R82): HOLD_MS after the last assertion a pending release or AUTO_REL releases LINE_STOP. -/
  | lstopHoldExpiry
  /-- MYCELIUM_DRAINED (R133): Completion of every outstanding memory transaction lets the STANDBY entry put LPDDR5 in self-refresh and gate the remaining domains. -/
  | myceliumDrained
  /-- MODE_COMMIT (R134): In the single AON commit cycle the mode changes to the target unless an enabled wake latch is set. -/
  | modeCommit
  /-- MODE_ENTRY_TIMEOUT (R135): An entry exceeding TIMEOUT_US rolls back and reports STS_BOOT_PWR_TIMEOUT. -/
  | modeEntryTimeout
  /-- MODE_EXIT (R136): A set wake latch in DOZE or STANDBY starts the exit sequence back to RUN. -/
  | modeExit
  /-- WAKE_TIMER_EXPIRY (R138): PWR_WAKE_TIMER milliseconds after commit the TIMER wake latch sets. -/
  | wakeTimerExpiry
  /-- HOST_PKG_TIMEOUT (R179): HOST_WAIT_S without a host package makes FWLOAD fall back to the flash slots. -/
  | hostPkgTimeout
  /-- SPORES (R180): Bring-up stage SPORES broadcasts tile firmware as spores and collects acknowledgements. -/
  | spores
  /-- SUPERVISOR (R181): Bring-up stage SUPERVISOR releases the supervisor, which writes SYS_SUP_VER and recovers and replays the journal. -/
  | supervisor
  /-- SUP_START_TIMEOUT (R181): A supervisor silent for 20 ms fails bring-up with STS_BOOT_SUP_START. -/
  | supStartTimeout
  /-- HOLD (R167): Bring-up stage HOLD waits for the bank to be charged and both PHYs started. -/
  | hold
  /-- READY (R183): Bring-up completes, MODE becomes RUN, PWR_OK is released and session entries are queued for the field map. -/
  | ready
  /-- STAGE_TIMEOUT (R167): A bring-up stage not complete by its limit fails with STS_BOOT_STAGE_TIMEOUT. -/
  | stageTimeout
  /-- WARM_START (R185): A write of BOOT_CTRL.WARM restarts every domain except AON with the merged map and trained values kept. -/
  | warmStart
  /-- SAVE_CFG (R201): A write of BOOT_CTRL.SAVE_CFG writes BOOT_CFG to the boot configuration block under the journal rules. -/
  | saveCfg
  /-- PERST_ASSERT (R664): PERST# resets only the host interface, disables the work ring and host window and reports STS_HOST_FUNCTION_RESET. -/
  | perstAssert
  /-- FUNCTION_LEVEL_RESET (R664): A Function Level Reset resets the host interface as PERST# does. -/
  | functionLevelReset
  /-- LINK_DOWN (R664): Loss of the PCI Express link resets the host side and reports STS_HOST_LINK_DOWN. -/
  | linkDown
  /-- IMAGE_COMMIT (R215): In one MESH cycle every unit takes its shadow state, gate registers reset and the run fingerprint is computed. -/
  | imageCommit
  /-- STORE_COMPLETE (R217): The end of a slot write gives the slot its store sequence and clears STORE_PENDING. -/
  | storeComplete
  /-- KEYREC_APPLIED (R213): The key record takes effect when the second copy has been written. -/
  | keyrecApplied
  /-- ROUTE_CHANGE_COMPLETE (R226): When no old-tag flit remains, CURRENT takes NEXT and BUSY clears. -/
  | routeChangeComplete
  /-- ROUTE_CHANGE_TIMEOUT (R227): TIMEOUT_US without completion reports STS_IMAGE_CHANGE_TIMEOUT once and the change continues. -/
  | routeChangeTimeout
  /-- SPEED_PERIOD_TICK (R298): Every 1 µs the period estimator is updated and may trigger an immediate deadline conversion. -/
  | speedPeriodTick
  /-- CONV_PERIOD_TICK (R42): Every CONV_PERIOD microseconds each undecided track's deadline is converted to nanoseconds. -/
  | convPeriodTick
  /-- IMAGE_PRESENCE_REPORT (R38): A presence report from PRESENCE arriving on crossing 6 creates a track at the stamped count. -/
  | imagePresenceReport
  /-- TIME_ENTRY_DUE (R308): The monotonic copy reaching a time key makes the time-list head due. -/
  | timeEntryDue
  /-- EJ_LOG_READ (R330): A read of EJ_LOG_DATA0 copies the selected entry into a shadow. -/
  | ejLogRead
  /-- MOTION_FREERUN (R346): No time value for 1 µs makes the MOTION copy advance by itself and sets MOT_FREERUN. -/
  | motionFreerun
  /-- STEP_APPLY (R337): In the first TIME cycle after the request the step changes PTP time and offset and increments STEP_SEQ. -/
  | stepApply
  /-- SAMPLE_POP (R343): A read of PTP_SMP_OFS_LO moves the oldest sample into a shadow. -/
  | samplePop
  /-- EVT_POP (R348): A read of PTP_EVT_DATA0 moves the oldest event stamp into a shadow. -/
  | evtPop
  /-- PTP_SNAPSHOT_READ (R359): A read of PTP_SNAP_FRAC latches PTP time and MONO from one TIME cycle. -/
  | ptpSnapshotRead
  /-- PTP_OFS_READ (R360): A read of PTP_OFS_NS latches both offset seconds words. -/
  | ptpOfsRead
  /-- QUIESCE_TIMEOUT (R386): A quiescence not complete within QUIESCE_TMO_US is abandoned. -/
  | quiesceTimeout
  /-- TOPOLOGY_RETRY (R386): 1 ms after an abandoned topology change it is attempted again. -/
  | topologyRetry
  /-- UNMAP (R488): MMU_OP UNMAP clears the page's entry in the selected contexts. -/
  | unmap
  /-- MAP_R (R488): MMU_OP MAP_R maps a page read only in the selected contexts. -/
  | mapR
  /-- MAP_RW (R488): MMU_OP MAP_RW maps a page read and write in the selected contexts. -/
  | mapRw
  /-- MMU_OP_COMPLETE (R488): Every source acknowledging the cache removal clears OP_BUSY. -/
  | mmuOpComplete
  /-- FAULT_RECORD_POP (R515): A read of MMU_FQ_DATA0 moves the oldest fault record into a shadow. -/
  | faultRecordPop
  /-- DEADLINE_UPDATE (R528): A converter deadline arriving over crossing 9 replaces an admitted work's DEADLINE. -/
  | deadlineUpdate
  /-- CPL_LOG_READ (R556): A read of SCHED_CPL_DATA0 copies the selected log entry into a shadow. -/
  | cplLogRead
  /-- RESHARD_END (R549): End frames from every owing position end the inbound re-shard, which writes its status and increments CELL. -/
  | reshardEnd
  /-- ADP_WRITE (R577): ADP_CMD WRITE checks and installs a live adapter descriptor. -/
  | adpWrite
  /-- ADP_STAGE (R577): ADP_CMD STAGE checks and installs a staged adapter version. -/
  | adpStage
  /-- ADP_PUBLISH (R576): ADP_CMD PUBLISH makes the staged version live. -/
  | adpPublish
  /-- ADP_CLEAR (R577): ADP_CMD CLEAR empties a descriptor unless gathers are in flight. -/
  | adpClear
  /-- ADP_DESC_READ (R590): A read of ADP_DESC0 copies the selected descriptor into the window. -/
  | adpDescRead
  /-- AUG_JOB (R579): An augmentation job reads its header, operators and samples and augments each sample in order. -/
  | augJob
  /-- ANNEAL_PROBLEM (R597): A problem handed to puffball is read whole, checked and initialised. -/
  | annealProblem
  /-- SWEEP_END (R605): The end of a sweep with its exchange round updates outputs and checks the end conditions. -/
  | sweepEnd
  /-- ANN_RESULT_WRITE (R607): Puffball writes its records and header and ends the work. -/
  | annResultWrite
  /-- TIMING_WINDOW_ARM (R643): MESH_TW_CTRL.ARM clears the counts and opens a window at the release of a work. -/
  | timingWindowArm
  /-- VERDICT_RECORD_WRITE (R655): The mailbox writer places a verdict record in its slot, counting gaps and overflows. -/
  | verdictRecordWrite
  /-- MBX_READY_AGE (R660): The oldest unread record waiting AGE_US makes MBX_READY pending. -/
  | mbxReadyAge
  /-- WQ_ENTRY_SUBMIT (R662): One work-ring entry is read and submitted to its dispatcher. -/
  | wqEntrySubmit
  /-- RUNSET_APPLY (R667): MBX_RUNSET_CTRL.APPLY, or READY with AUTO_APPLY, applies the run set in order. -/
  | runsetApply
  /-- SPI_ENTRY_START (R684): An SPI entry whose conditions hold asserts its select and starts clocking. -/
  | spiEntryStart
  /-- SPI_CPL_POP (R689): A read of SPI_CPL0 moves the oldest record into a shadow. -/
  | spiCplPop
  /-- SCL_TIMEOUT (R693): A stretched SCL beyond the limit releases the lines and fails the command. -/
  | sclTimeout
  /-- BUS_FREE (R691): tBUF after a STOP, or 50 µs idle, makes the bus free for a waiting command. -/
  | busFree
  /-- TWIN_COMMIT (R699): I2C_CTRL.TWIN_COMMIT applies the shadow window at once or at the next START. -/
  | twinCommit
  /-- I2C_CPL_POP (R704): A read of I2C_CPL0 moves the oldest record into a shadow. -/
  | i2cCplPop
  /-- I2C_TLOG_POP (R704): A read of I2C_TLOG moves the oldest target-log entry into a shadow. -/
  | i2cTlogPop
  /-- DEFER_LONG (R710): A deferral lasting 2 s reports STS_JOURNAL_DEFER_LONG once. -/
  | deferLong
  /-- COUNTERS_RECORD (R713): Every CNT_S seconds the supervisor stages a COUNTERS record. -/
  | countersRecord
  /-- EJECT_TAIL_RECORD (R713): At least every 100 ms waiting eject-log entries are staged in EJECT_TAIL records. -/
  | ejectTailRecord
  /-- JOURNAL_READ (R723): JRN_RD_CTRL.GO reads a journal page into JRN_RD_DATA. -/
  | journalRead
  /-- TIME_VALUES_RESUME (R346): Time values arriving again over crossing 3 let the free-running MOTION copy resynchronise, and MOT_FREERUN clears once the received MONO passes it. -/
  | timeValuesResume
  /-- I2C_BUS_START (R699): A START or repeated START from any controller is seen on the I2C bus, making it busy and applying a waiting window commit. -/
  | i2cBusStart
  /-- TARGET_SCL_TIMEOUT (R702): SCL held low for 35 ms while the target is addressed discards its transaction and reports STS_I2C_SCL_TIMEOUT with detail 1. -/
  | targetSclTimeout
  /-- FIELD_MAP_COPIES_WRITTEN (R186): Both field-map copies finish their flash write, and WRITE_PENDING clears. -/
  | fieldMapCopiesWritten
  /-- RUN_SET_STORED (R667): The run-set store to flash completes, which clears SAVE_PENDING and sets VALID. -/
  | runSetStored
  /-- BANK_DISCHARGE_FLOOR (R77): The hold-up bank falls to its 18 V floor, which ends the journal path and leaves the module unpowered. -/
  | bankDischargeFloor
  deriving DecidableEq, Repr

end Sys2Proof
end

