-- ==== Sys2Proof/Decode.lean ====
section
/-! DEFINITION. Decode: the device is a block and takes commands; its opcode table gives no row any bits, so no
word spells a command. -/

namespace Sys2Proof

/-- The command a word spells by the table's bits: none, since the table gives no row any. [Log 9 DESIGN CHOICE] -/
def decodeTableWord (_ _ : Nat) : Option Instr := none

end Sys2Proof
end

