-- ==== Sys2Proof/Machine/Sparse.lean ====
section
/-! DEFINITION. Sparse: a finite map from addresses or numbers to values, held as a list in ONE
canonical form: keys strictly rising, and no entry equal to what an unlisted key reads as. -/

namespace Sys2Proof.Machine

/-- A sparse map: (key, value) pairs. -/
abbrev Sparse (α : Type) := List (Nat × α)

/-- The value at a key; `d` where the key is not listed. -/
def Sparse.get {α : Type} : Sparse α → Nat → α → α
  | [], _, d => d
  | (k', v) :: l, k, d => if k = k' then v else if k < k' then d else Sparse.get l k d

/-- Removes the entry of a key. -/
def Sparse.erase {α : Type} : Sparse α → Nat → Sparse α
  | [], _ => []
  | (k', v) :: l, k => if k = k' then l else if k < k' then (k', v) :: l else (k', v) :: Sparse.erase l k

/-- Lists a key with a value, in order. -/
def Sparse.insert {α : Type} : Sparse α → Nat → α → Sparse α
  | [], k, v => [(k, v)]
  | (k', v') :: l, k, v =>
    if k = k' then (k, v) :: l
    else if k < k' then (k, v) :: (k', v') :: l
    else (k', v') :: Sparse.insert l k v

/-- Writes a value at a key whose unlisted reading is `d`: writing `d` removes the entry. -/
def Sparse.put {α : Type} [DecidableEq α] (l : Sparse α) (k : Nat) (v d : α) : Sparse α :=
  if v = d then Sparse.erase l k else Sparse.insert l k v

/-- Every key of the list is above `n`. -/
def Sparse.above {α : Type} (n : Nat) : Sparse α → Bool
  | [] => true
  | (k, _) :: l => decide (n < k) && Sparse.above n l

/-- The keys rise strictly. -/
def Sparse.sorted {α : Type} : Sparse α → Bool
  | [] => true
  | (k, _) :: l => Sparse.above k l && Sparse.sorted l

/-- The canonical form, for the unlisted readings `d`. -/
def Sparse.wf {α : Type} [DecidableEq α] (d : Nat → α) (l : Sparse α) : Bool :=
  Sparse.sorted l && l.all (fun p => p.2 != d p.1)

end Sys2Proof.Machine
end

