-- ==== Sys2Proof/Machine/PfxBase.lean ====
section
/-! DEFINITION. PfxBase: the state of the prefix walker, the adapter table and the augmentation unit (chapter 14) beyond
their registers and the node array in memory. -/

namespace Sys2Proof.Machine

/-- A request entry (R567). -/
structure PReq where
  op : Nat
  flags : Nat
  arg : Nat
  va1 : Nat
  va2 : Nat
  resultVa : Nat
  deriving DecidableEq, Repr

/-- Where a request came from: a gill and its port, or the work whose list it stands in. -/
inductive PSrc where
  | gill (gill port : Nat)
  | work (id : Nat)
  deriving DecidableEq, Repr

/-- A node with STATE, as the walker keeps it on chip for the order of eviction: LRU, REFS and PIN. -/
structure PCand where
  lru : Nat
  refs : Nat
  pin : Bool
  deriving DecidableEq, Repr

/-- An adapter descriptor (R564), with the gathers in flight on its old and on its current live version. -/
structure Adapter where
  live : Bool := false
  stage : Bool := false
  rank : Nat := 0
  model : Nat := 0
  ty : Nat := 0
  nlayer : Nat := 0
  scale : Nat := 0
  liveVa : Nat := 0
  stageVa : Nat := 0
  gen : Nat := 0
  owner : Nat := 0
  inPrev : Nat := 0
  inLive : Nat := 0
  deriving DecidableEq, Repr

/-- A gather in flight: its request and source, the descriptor it read, whether it reads the staged version, and the
generation it counts against: none while the version it reads is not a live one. -/
structure GatherRun where
  req : PReq
  src : PSrc
  desc : Adapter
  staged : Bool
  against : Option Nat := none
  deriving DecidableEq, Repr

/-- The unit: its request number; the nodes and the blocks in use; the eviction candidates by node; the requests still to
come of the work's list; the adapter table by index; the gather in flight. -/
structure Prefix where
  reqNo : Nat := 1
  nodes : List Nat := []
  blocks : List Nat := []
  cands : Sparse (Option PCand) := []
  list : Option (Nat × List PReq) := none
  adapters : Sparse Adapter := []
  gather : Option GatherRun := none
  deriving DecidableEq, Repr

end Sys2Proof.Machine
end

