-- ==== Sys2Proof/Config.lean ====
section
/-! DEFINITION. Config: what the spec leaves open. Each constant is opaque: nothing in Lean can evaluate
it, so a statement that holds of the model holds whatever the value is. -/

namespace Sys2Proof.Config

/-- A value the spec leaves open, for the n-th time one is taken (see State.fresh). [Log 4 DESIGN CHOICE] -/
opaque freeValue : Nat → BitVec 64

/-- The k-th of a list of values the spec leaves open, for the n-th time one is taken. [Log 4 DESIGN CHOICE] -/
opaque freeEach : Nat → Nat → BitVec 64

/-- The byte the host's memory returns at a bus address, for the n-th time, where no command has told it.
[Log 64 DESIGN CHOICE] -/
opaque hostData : Nat → Nat → BitVec 8

/-- A byte of a save image whose content the spec does not place (R540), by the number of the save and its own number.
[Log 57 DESIGN CHOICE] -/
opaque saveData : Nat → Nat → BitVec 8

/-- The SRC word of a STATUS journal record (R707), whose meaning the spec does not give. -/
opaque journalSource : Nat → Nat → BitVec 16

/-- The firmware package that the bytes the host has placed spell (R179): the spec does not lay its fields out.
[Log 13 DESIGN CHOICE] -/
opaque package : List Byte → Option Package

/-- The digest of the Olhoxon image authority key (R212), which the spec does not reproduce. [Log 28 PRESUMED] -/
opaque authorityDigest : List Byte

/-- Which of +0 and −0 a minimum (false) or a maximum (true) of the two gives: its sign (R419). [Log 54 PRESUMED] -/
opaque zeroSign : Bool → Bool

/-- Where within two units in the last place VRCP (0), VRSQ (1) and VEXP2 (2) of an operand lie (R419).
[Log 54 PRESUMED] -/
opaque ulp : Nat → Nat → BitVec 8

/-- What VCVT gives where the spec states no result: source type, target type, lane (R419). [Log 54 PRESUMED] -/
opaque convert : Nat → Nat → Nat → BitVec 32

/-- What a stage of an image pipeline gives where the spec states no value: the stage's code and the operands (R253).
[Log 43 DESIGN CHOICE] -/
opaque isp (stage a b : Nat) : BitVec 16

end Sys2Proof.Config
end

