-- ==== Sys2Proof/Machine/Crypto.lean ====
section
/-! DEFINITION. Crypto: byte order, CRC-32 of IEEE 802.3, CRC-8, and SHA-256 (PRESUMED: FIPS 180-4,
which the spec names in R163, R207 and R616 and does not define), and the ECDSA P-256 verification of R178 and R210
(PRESUMED: FIPS 186-4). -/

namespace Sys2Proof.Machine

/-- The `n` bytes of a number, least significant first. -/
def leBytes : Nat → Nat → List Byte
  | 0, _ => []
  | n + 1, v => BitVec.ofNat 8 v :: leBytes n (v / 256)

/-- The number spelled by bytes, least significant first. -/
def leNat : List Byte → Nat
  | [] => 0
  | b :: l => b.toNat + 256 * leNat l

/-- The number spelled by bytes, most significant first. -/
def beNat (l : List Byte) : Nat := leNat l.reverse

/-- The `n` bytes of a number, most significant first. -/
def beBytes (n v : Nat) : List Byte := (leBytes n v).reverse

/-- Bytes `off` to `off + n - 1` of a list, padded with zeros. -/
def slice (l : List Byte) (off n : Nat) : List Byte :=
  let t := (l.drop off).take n
  t ++ List.replicate (n - t.length) 0

/-- A little-endian field of `n` bytes at `off`. -/
def leAt (l : List Byte) (off n : Nat) : Nat := leNat ((l.drop off).take n)

/-- `n` steps of a reflected CRC register with polynomial `poly`. -/
def crcSteps (poly : Nat) : Nat → Nat → Nat
  | 0, r => r
  | n + 1, r => crcSteps poly n (if r % 2 = 1 then (r / 2) ^^^ poly else r / 2)

/-- CRC-32 of IEEE 802.3 over bytes. -/
def crc32 (l : List Byte) : Nat :=
  (l.foldl (fun r b => crcSteps 0xEDB88320 8 (r ^^^ b.toNat)) 0xFFFFFFFF) ^^^ 0xFFFFFFFF

/-- `n` steps of a CRC register of `w` bits, most significant bit first. -/
def crcMsbSteps (w poly : Nat) : Nat → Nat → Nat
  | 0, r => r
  | n + 1, r =>
    crcMsbSteps w poly n
      (if r / 2 ^ (w - 1) % 2 = 1 then (2 * r % 2 ^ w) ^^^ poly else 2 * r % 2 ^ w)

/-- CRC-8 with polynomial x^8 + x^2 + x + 1 (R692), from zero. -/
def crc8 (l : List Byte) : Nat :=
  l.foldl (fun r b => crcMsbSteps 8 7 8 (r ^^^ b.toNat)) 0

namespace Sha

def rotr (n : Nat) (x : Nat) : Nat := (x >>> n) ||| ((x <<< (32 - n)) % 0x100000000)

/-- The greatest number whose `k`-th power is at most `n`, among those that extend `r` by bits below 2^fuel. -/
def floorRoot (k n : Nat) : Nat → Nat → Nat
  | 0, r => r
  | b + 1, r => floorRoot k n b (if (r + 2 ^ b) ^ k ≤ n then r + 2 ^ b else r)

/-- Whether no number from 2 on divides a number. -/
def isPrime (n : Nat) : Bool := decide (2 ≤ n) && (List.range n).all (fun d => d < 2 || n % d != 0)

/-- The first `k` primes, below 312. -/
def primes (k : Nat) : List Nat := ((List.range 312).filter isPrime).take k

/-- The first 32 bits of the fraction of the `k`-th root of a number. -/
def rootFraction (k n : Nat) : Nat := floorRoot k (n * 2 ^ (32 * k)) 36 0 % 2 ^ 32

/-- The constants of the rounds: of the cube roots of the first 64 primes. -/
def kTable : List Nat := (primes 64).map (rootFraction 3)

/-- The initial hash value: of the square roots of the first 8 primes. -/
def hInit : List Nat := (primes 8).map (rootFraction 2)

/-- The sixteen most recent words of the message schedule, newest first, extended by one. -/
def nextW (ws : List Nat) : Nat :=
  let w2 := ws.getD 1 0
  let w7 := ws.getD 6 0
  let w15 := ws.getD 14 0
  let w16 := ws.getD 15 0
  let s0 := rotr 7 w15 ^^^ rotr 18 w15 ^^^ (w15 >>> 3)
  let s1 := rotr 17 w2 ^^^ rotr 19 w2 ^^^ (w2 >>> 10)
  (w16 + s0 + w7 + s1) % 0x100000000

/-- The 64 words of the schedule from the 16 words of a block. -/
def expand : Nat → List Nat → List Nat
  | 0, acc => acc.reverse
  | n + 1, acc => expand n (nextW acc :: acc)

def round (h : List Nat) (kw : Nat × Nat) : List Nat :=
  match h with
  | [a, b, c, d, e, f, g, hh] =>
    let s1 := rotr 6 e ^^^ rotr 11 e ^^^ rotr 25 e
    let ch := (e &&& f) ^^^ ((0xFFFFFFFF - e) &&& g)
    let t1 := hh + s1 + ch + kw.1 + kw.2
    let s0 := rotr 2 a ^^^ rotr 13 a ^^^ rotr 22 a
    let mj := (a &&& b) ^^^ (a &&& c) ^^^ (b &&& c)
    [(t1 + s0 + mj) % 0x100000000, a, b, c, (d + t1) % 0x100000000, e, f, g]
  | _ => h

def block (h : List Nat) (ws : List Nat) : List Nat :=
  let full := expand 48 ws.reverse
  let r := (kTable.zip full).foldl round h
  List.zipWith (fun x y => (x + y) % 0x100000000) h r

/-- Cuts bytes into big-endian words, `n` words at most. -/
def words : Nat → List Byte → List Nat
  | 0, _ => []
  | n + 1, l => beNat (l.take 4) :: words n (l.drop 4)

def blocks : Nat → List Nat → List Byte → List Nat
  | 0, h, _ => h
  | n + 1, h, l => blocks n (block h (words 16 l)) (l.drop 64)

end Sha

/-- SHA-256 of bytes: 32 bytes. [Log 28 PRESUMED] -/
def sha256 (m : List Byte) : List Byte :=
  let n := m.length
  let padN := (119 - n % 64) % 64
  let p := m ++ [0x80] ++ List.replicate padN 0 ++ beBytes 8 (8 * n)
  (Sha.blocks (p.length / 64) Sha.hInit p).flatMap (beBytes 4)

/-! ## ECDSA over P-256 (R178, R210) -/

namespace P256

/-- The field, the coefficient b (a is −3), the order of the group and its base point. [Log 28 PRESUMED] -/
def prime : Nat := 2 ^ 256 - 2 ^ 224 + 2 ^ 192 + 2 ^ 96 - 1
def coeffB : Nat := 0x5ac635d8aa3a93e7b3ebbd55769886bc651d06b0cc53b0f63bce3c3e27d2604b
def order : Nat := 0xffffffff00000000ffffffffffffffffbce6faada7179e84f3b9cac2fc632551
def base : Nat × Nat :=
  (0x6b17d1f2e12c4247f8bce6e563a440f277037d812deb33a0f4a13945d898c296,
   0x4fe342e2fe1a7f9b8ee7eb4a7c0f9e162bce33576b315ececbb6406837bf51f5)

/-- x^e modulo m, for an exponent of `n` bits. -/
def powMod (m x : Nat) : Nat → Nat → Nat
  | 0, _ => 1 % m
  | n + 1, e =>
    let h := powMod m (x * x % m) n (e / 2)
    if e % 2 = 1 then x * h % m else h

/-- The inverse modulo a prime. -/
def inv (m x : Nat) : Nat := powMod m (x % m) 256 (m - 2)

/-- x − y modulo the field. -/
def sub (x y : Nat) : Nat := (x + (prime - y % prime)) % prime

/-- The sum of two points; none is the point at infinity. -/
def add (p q : Option (Nat × Nat)) : Option (Nat × Nat) :=
  match p, q with
  | none, q => q
  | p, none => p
  | some a, some b =>
    if a.1 = b.1 ∧ (a.2 + b.2) % prime = 0 then none
    else
      let l := if a = b then (3 * a.1 * a.1 + (prime - 3)) * inv prime (2 * a.2) % prime
        else sub b.2 a.2 * inv prime (sub b.1 a.1) % prime
      let x := sub (l * l) (a.1 + b.1)
      some (x, sub (l * sub a.1 x) a.2)

/-- A point times a number of `n` bits. -/
def mul (p : Option (Nat × Nat)) : Nat → Nat → Option (Nat × Nat)
  | 0, _ => none
  | n + 1, e =>
    let h := mul (add p p) n (e / 2)
    if e % 2 = 1 then add p h else h

/-- A key is a point of the curve. -/
def onCurve (x y : Nat) : Bool :=
  decide (x < prime) && decide (y < prime) && y * y % prime == (x * x * x + (prime - 3) * x + coeffB) % prime

/-- Whether (r, s) signs a number under a key. -/
def verify (x y e r s : Nat) : Bool :=
  let w := inv order s
  onCurve x y && decide (0 < r) && decide (r < order) && decide (0 < s) && decide (s < order)
    && (match add (mul (some base) 256 (e * w % order)) (mul (some (x, y)) 256 (r * w % order)) with
      | some q => q.1 % order == r
      | none => false)

end P256

/-- Whether a signature, r then s, over a SHA-256 digest verifies under a key, X then Y, each 32 bytes big-endian (R210).
[Log 28 PRESUMED] -/
def ecdsaVerify (key digest sig : List Byte) : Bool :=
  key.length == 64 && sig.length == 64
    && P256.verify (beNat (key.take 32)) (beNat (key.drop 32)) (beNat digest) (beNat (sig.take 32)) (beNat (sig.drop 32))

end Sys2Proof.Machine
end

