-- ==== Sys2Proof/Machine/AnnBase.lean ====
section
/-! DEFINITION. AnnBase: the state of the puffball annealer (chapter 15) beyond its registers. -/

namespace Sys2Proof.Machine

/-- A replica engine: its spins (true is +1), its energy, its offset, its stall count and its best end-of-sweep energy. -/
structure Replica where
  spins : List Bool := []
  e : Int := 0
  ofs : Nat := 0
  stall : Nat := 0
  best : Int := 0
  deriving DecidableEq, Repr

/-- A state kept for the result. -/
structure KeptState where
  e : Int
  sweep : Nat
  replica : Nat
  seen : Nat
  spins : List Bool
  deriving DecidableEq, Repr

/-- A problem as it was read (R594, R595): a spin's neighbours stand in `adj` with their coefficients. -/
structure AnnProb where
  n : Nat := 0
  replicas : Nat := 0
  sched : Nat := 0
  jscale : Nat := 0
  hscale : Nat := 0
  out : Nat := 0
  k : Nat := 0
  seed : Nat := 0
  spinVa : Nat := 0
  coupVa : Nat := 0
  resultVa : Nat := 0
  sweeps : Nat := 0
  target : Int := 0
  period : Nat := 0
  flags : Nat := 0
  timeMs : Nat := 0
  ofsStep : Nat := 0
  ofsMax : Nat := 0
  betas : List Nat := []
  fields : List Int := []
  clamps : List Nat := []
  adj : List (List (Nat × Int)) := []
  deriving DecidableEq, Repr

/-- The annealer: the work and its problem, the replicas, the states kept, how many exchanges were tried and accepted and
flips accepted, when the first sweep began and when the run ended, the result flags, and whether an abort is asked for. -/
structure Annealer where
  work : Option Nat := none
  prob : AnnProb := {}
  reps : List Replica := []
  kept : List KeptState := []
  sweep : Nat := 0
  tried : Nat := 0
  acc : Nat := 0
  flips : Nat := 0
  startMono : Nat := 0
  endMono : Nat := 0
  flags : Nat := 0
  abort : Bool := false
  deriving DecidableEq, Repr

end Sys2Proof.Machine
end

