-- ==== Sys2Proof/Machine/MotionBase.lean ====
section
/-! DEFINITION. MotionBase: the state of the encoder channels, the tracks, the ejector outputs, the eject log,
network time, and the camera ports and pipelines, beyond their registers. -/

namespace Sys2Proof.Machine

/-- A non-negative rational number: a speed in counts a second. [Log 33 DESIGN CHOICE] -/
structure Speed where
  num : Nat := 0
  den : Nat := 1
  deriving DecidableEq, Repr

/-- An encoder channel (R284 to R303). `edge` are the times of the last accepted edge of IN0 to IN2; `hall` the
Hall reference; `enAt` when EN was set; `steps` the counted steps or accepted readings since EN, `wireSteps` those
since a wire fault cleared; `dir` the direction of the last step and `marks` the moments of the steps counted since it
changed, newest first; `stepAt` the last counted step; `gateAt`, `gateUs` and `gateSteps` the running count
gate; `toCount` a change to the count method that waits for a gate; `vp`, `vc` and `v` the estimators and the
published estimate; `glitches` the glitch faults in all; `reads` the last accepted readings as (X, time), newest
first, `raw` the last one as read; `rejects` and `goods` runs of rejected and accepted readings, `lost` that the run of
rejections has been told; `apart` the pairs in disagreement, `apartAt` since when their wires have read the same level,
`faulted` those whose disagreement has become a wire fault, `agreeAt` since when a pair has agreed, and `broken` the pairs
whose wire fault stands; `idxClean` that it has not been backward since the last index latch;
`vhi` the v_hi of the last conversion (none where it parked) and `valid` its speed-valid indication. -/
structure Chan where
  edge : List (Option Nat) := [none, none, none]
  hall : Option Nat := none
  enAt : Nat := 0
  steps : Nat := 0
  wireSteps : Nat := 2
  dir : Option Bool := none
  marks : List Nat := []
  stepAt : Nat := 0
  gateAt : Nat := 0
  gateUs : Nat := 1000
  gateSteps : Nat := 0
  toCount : Bool := false
  vp : Speed := {}
  vc : Speed := {}
  v : Speed := {}
  glitches : Nat := 0
  reads : List (Int × Nat) := []
  raw : Option Nat := none
  rejects : Nat := 0
  goods : Nat := 0
  lost : Bool := false
  apart : Nat := 0
  apartAt : List Nat := [0, 0, 0]
  faulted : Nat := 0
  agreeAt : List (Option Nat) := [none, none, none]
  broken : Nat := 0
  idxClean : Bool := false
  vhi : Option Speed := none
  valid : Bool := false
  deriving DecidableEq, Repr

/-- Track states (R36). FREE is the absence of a track. -/
inductive TSt where
  | pending
  | window
  | compute
  | decided
  deriving DecidableEq, Repr

/-- A track (R33, R39): P, W, F and D as 48-bit counts, its evidence flags (bits 0 IMG_CRC, 1 ENC_WIRE,
2 ENC_GLITCH, 3 NO_IMG), its verdict, a held commit with its source, the channel's glitch faults when it entered
WINDOW, its deadline, and whether E has reached P, from where on its evidence counts (R41). -/
structure Track where
  seq : Nat
  gate : Nat
  chan : Nat
  p : Nat
  w : Nat
  f : Nat
  d : Nat
  st : TSt := .pending
  flags : Nat := 0
  verdict : Nat := 0
  held : Option (Nat × Nat) := none
  glBase : Nat := 0
  dl : Nat := 0
  atP : Bool := false
  deriving DecidableEq, Repr

/-- An arm entry (R304): its key, a count or a time; gate or 0xFF; slot; sequence number; verdict; the eject-log flag
bits collected so far; whether it was armed past F within tolerance; whether it was written in this MOTION cycle. -/
structure ArmEnt where
  key : Nat
  time : Bool := false
  gate : Nat := 0xFF
  slot : Nat := 0xFFFF
  seq : Nat := 0
  verdict : Nat := 0
  flags : Nat := 0
  late : Bool := false
  fresh : Bool := true
  deriving DecidableEq, Repr

/-- A held entry: when it fell due, and E at that moment. -/
structure HeldEnt where
  ent : ArmEnt
  due : Nat
  e : Nat
  deriving DecidableEq, Repr

/-- The entry whose pulse runs: its outcome code, E when it left the queue, its TIME_NS. -/
structure CurEnt where
  ent : ArmEnt
  outcome : Nat
  e : Nat
  ns : Nat
  deriving DecidableEq, Repr

/-- A readback check that is due 50 µs after an edge (R83): the level commanded, when it is due, and the number of the
eject-log entry of the pulse once that has been written. -/
structure EjCheck where
  on : Bool
  due : Nat
  entry : Option Nat := none
  deriving DecidableEq, Repr

/-- An ejector output (R304 to R312): its count list and time list, its held entries, its pulse; the end of the
present phase; the end an EXTEND in DELAY has set; the end count; when it turned on; whether its command is on; the
readback checks that are due, oldest first. -/
structure EjOut where
  counts : List ArmEnt := []
  times : List ArmEnt := []
  held : List HeldEnt := []
  cur : Option CurEnt := none
  endAt : Nat := 0
  extTo : Nat := 0
  endCnt : Option Nat := none
  onAt : Nat := 0
  on : Bool := false
  checks : List EjCheck := []
  deriving DecidableEq, Repr

/-- The eject log: its entries by index, and how many have been written. -/
structure EjLog where
  ents : Sparse (List Byte) := []
  total : Nat := 0
  lost : Nat := 0
  deriving DecidableEq, Repr

/-- A deadline update on crossing 9: slot, sequence number, deadline. -/
structure DlUpd where
  slot : Nat
  seq : Nat
  dl : Nat
  deriving DecidableEq, Repr

/-- A status event on crossing 10 (R123): code, detail and instance. -/
structure StsEvt where
  sts : Nat
  detail : Nat
  inst : Nat
  deriving DecidableEq, Repr

/-- The MOTION domain: channels, tracks by slot, outputs, the eject log, the deadline updates on crossing 9, the status
events on crossing 10, and the last point of the grid of conversions; the items dropped at each crossing and its highest
fill (R126, R154). [Log 40 DESIGN CHOICE] -/
structure Motion where
  chans : List Chan := List.replicate 4 {}
  tracks : Sparse Track := []
  outs : List EjOut := List.replicate 16 {}
  log : EjLog := {}
  xing9 : List DlUpd := []
  xing10 : List StsEvt := []
  gridAt : Option Nat := none
  drops : Sparse Nat := []
  hwms : Sparse Nat := []
  deriving DecidableEq, Repr

/-- An event stamp (R347). -/
structure EvtStamp where
  source : Nat
  index : Nat
  e : Nat
  mono : Nat
  deriving DecidableEq, Repr

/-- A servo sample (R343). -/
structure Sample where
  port : Nat
  ofs : Int
  delay : Nat
  mono : Nat
  seq : Nat
  deriving DecidableEq, Repr

/-- A stamp of a received or transmitted PTP message: port, message kind, sequenceId, the PTP time in 2^-16 ns, and
the STEP_SEQ in force; of a received one, its origin time in seconds completed to 64 bits (R334). -/
structure PtpStamp where
  port : Nat
  kind : Nat
  seq : Nat
  time : Int
  stepSeq : Nat
  origin : Nat
  deriving DecidableEq, Repr

/-- A step in the step log: STEP_SEQ, MONO and Δ. -/
structure StepEnt where
  seq : Nat
  mono : Nat
  delta : Int
  deriving DecidableEq, Repr

/-- Network time (chapter 08). `mono` and the fraction `frac` of 32 bits; `ofs` the offset in nanoseconds; a pending
step as seconds and nanoseconds; the MOTION copy where it does not follow MONO: its value, since when it runs free, and
whether values have resumed; the step log, newest first; the sample queue; the servo's integral and its run of close
samples; the received messages on crossing 21 and the transmit stamp queues; the event queue and whether it is losing;
when a sample was last heard of; when the counters stopped. -/
structure NetTime where
  mono : Nat := 0
  frac : Nat := 0
  ofs : Int := 0
  runs : Bool := false
  step : Option (Int × Nat) := none
  copy : Option (Nat × Nat × Bool) := none
  steps : List StepEnt := []
  samples : List Sample := []
  acc : Int := 0
  close : Nat := 0
  rx : List PtpStamp := []
  tx : List (List PtpStamp) := [[], []]
  evts : List EvtStamp := []
  evtRun : Bool := false
  heardAt : Nat := 0
  stopAt : Nat := 0
  deriving DecidableEq, Repr

end Sys2Proof.Machine
end

