-- ==== Sys2Proof/Machine/CamBase.lean ====
section
/-! DEFINITION. CamBase: the state of the camera ports, the image pipelines and the part images in assembly, beyond
their registers (chapter 06). -/

namespace Sys2Proof.Machine

/-- A trigger with its stamp (R241): count, MONO, trigger number; whether it waited under DELAY; when issued; whether an
image has been paired with it at its header; and `void`, that it was retired when it fell due, and only keeps the place of
its missing line behind the lines of the triggers before it (R250). -/
structure Trig where
  count : Nat
  mono : Nat
  num : Nat
  late : Bool := false
  at_ : Nat := 0
  taken : Bool := false
  void : Bool := false
  deriving DecidableEq, Repr

/-- An open window of a camera (R248): its slot, the track slot, sequence number, P and W. -/
structure CamWin where
  slot : Nat
  trk : Nat
  seq : Nat
  p : Nat
  w : Nat
  deriving DecidableEq, Repr

/-- An image being received: its header; whether it has been rejected; whether it has been told as unsolicited; the trigger
of its frame; bytes of the line so far and whether one came in a failed packet; lines received; failed packets and lines
lost so far; the pipeline it goes to; its frame slot; its sequence number; whether it has been told as truncated. -/
structure RxImg where
  head : ImgHead
  rejected : Bool := false
  told : Bool := false
  trig : Option Trig := none
  buf : List Byte := []
  bad : Bool := false
  lines : Nat := 0
  fails : Nat := 0
  lost : Nat := 0
  pipe : Nat := 0
  fb : Option Nat := none
  seq : Nat := 0
  trunc : Bool := false
  deriving DecidableEq, Repr

/-- A frame in a slot of FRAME_PART: its slot, header, stamp, sequence number, pipeline, line flags, and whether the
whole frame is in. -/
structure FbFrame where
  slot : Nat
  head : ImgHead
  trig : Trig
  seq : Nat
  pipe : Nat
  flags : List Nat := []
  whole : Bool := false
  order : Nat := 0
  deriving DecidableEq, Repr

/-- A packet of the stream that a port receives (R239, R260): data, or an image header; whether it failed its CRC, its code
and disparity errors, and for data whether crossing 5 loses the lines that it completes. -/
inductive CamPkt where
  | data (bytes : List Byte) (bad : Bool) (sym : Nat) (lost : Bool)
  | header (head : ImgHead) (bad : Bool) (sym : Nat)
  deriving DecidableEq, Repr

/-- An event on crossing 6 (R275): a presence report, as pipeline and stamp count; an event of a line of a port, as its
stamp count and the flag it sets in the tracks in whose window it lies; an undelivered-image event of a track. -/
inductive CamEvt where
  | presence (pipe count : Nat)
  | line (port count flag : Nat)
  | track (slot seq : Nat)
  deriving DecidableEq, Repr

/-- A camera port beyond its registers: when it entered its state; the trigger number; the next
LINE_ENC count; when the last trigger was issued; when a FRAME_TIME trigger fell due last; outstanding triggers, oldest
first; triggers waiting under DELAY; open windows; those that have freed their slots in this MOTION cycle and whose close
items follow its triggers (R248); the image being received; whether data without a header has been told; the count of
frames; a pending rebind; the transaction tag of the mailbox, whether the running transaction writes, and since when it
runs; frames in memory, in order; the rate taken at the last DISCOVER; when stream data last came; the tag of the next
stream packet, and the packets that have come ahead of it, with tag and moment (R240). -/
structure CamPort where
  stAt : Nat := 0
  num : Nat := 0
  next : Option Nat := none
  lastAt : Option Nat := none
  timeAt : Option Nat := none
  outst : List Trig := []
  waits : List Trig := []
  wins : List CamWin := []
  closing : List CamWin := []
  img : Option RxImg := none
  stray : Bool := false
  frames : Nat := 0
  rebind : Option Nat := none
  tag : Nat := 0
  ctrlWrite : Bool := false
  ctrlAt : Nat := 0
  fbs : List FbFrame := []
  fbOrder : Nat := 0
  rate : Nat := 0
  dataAt : Nat := 0
  tagNext : Nat := 0
  arrived : List (Nat × Nat × CamPkt) := []
  deriving DecidableEq, Repr

/-- A line inside a pipeline: its port, stamp, flags (bits 0 CRC, 1 MISSING, 2 LATE_TRIG, 3 TRUNC), whether every
source of it is missing, its row and whether it ends an image, its whole-frame image's sequence number, whether it comes
through memory, its format, whether NORM has scaled it, its channels of pixels, what STATS has seen of it, and the output
slots of the parts it was assigned to after PRESENCE. -/
structure PLine where
  port : Nat
  count : Nat
  mono : Nat
  flags : Nat
  void : Bool
  row : Nat
  last : Bool
  frame : Option Nat
  tm : Bool
  color : Nat := 0
  norm : Bool := false
  chans : List (List Int) := []
  stat : List (List Nat) := []
  wins : List Nat := []
  deriving DecidableEq, Repr

/-- A received line that waits for its pipeline, with its bytes as received and its format; or, with `leave`, the mark behind
the last line of a camera that has left the pipeline (R269). [Log 42 PRESUMED] -/
structure InLine where
  line : PLine
  leave : Bool := false
  bytes : List Byte := []
  width : Nat := 0
  bits : Nat := 8
  deriving DecidableEq, Repr

/-- A line of a part image: its place by stamp, stamp, flags, whether it is missing whole, its packed planes, its
width and channels, and its samples for STATS. -/
structure OutLine where
  off : Nat
  count : Nat
  mono : Nat
  flags : Nat
  void : Bool
  planes : List (List Byte)
  width : Nat
  chans : Nat
  stat : List (List Nat)
  deriving DecidableEq, Repr

/-- A part image in assembly (R249, R250): port; track slot (0xFFFF for a whole frame), sequence number, P and W; the
output slot; whether its close item has been processed; its lines in stamp order; SPLIT; through memory; and `missing`, that
a frame trigger of its window was retired with no image to fill. -/
structure PartImg where
  port : Nat
  trk : Nat
  seq : Nat
  p : Nat
  w : Nat
  slot : Nat
  closed : Bool := false
  lines : List OutLine := []
  split : Bool := false
  tm : Bool := false
  missing : Bool := false
  deriving DecidableEq, Repr

/-- An output slot that is taken, and the descriptor entry that frees it once written. -/
structure SlotUse where
  slot : Nat
  desc : Option Nat
  deriving DecidableEq, Repr

/-- What a stage holds back: the line before, and the lines not yet passed on. -/
structure StageBuf where
  prev : Option PLine := none
  q : List PLine := []
  deriving DecidableEq, Repr

/-- A context of a pipeline (R252): what each stage holds back, by its place in the chain; PRESENCE's run of lines, its
first stamp, whether it may report, and its gap. -/
structure IspCtx where
  held : Sparse StageBuf := []
  run : Nat := 0
  runAt : Nat := 0
  ready : Bool := true
  gap : Nat := 0
  deriving DecidableEq, Repr

/-- A pipeline beyond its registers: lines that wait, in order; its in-line and its through-memory context; the parts in
assembly; the output slots in use; the moments and pixels of the lines that each context has processed in the last 100 ms
(R282). -/
structure Pipe where
  inq : List InLine := []
  ctx0 : IspCtx := {}
  ctx1 : IspCtx := {}
  parts : List PartImg := []
  uses : List SlotUse := []
  load0 : List (Nat × Nat) := []
  load1 : List (Nat × Nat) := []
  deriving DecidableEq, Repr

/-- The cameras: ports and pipelines, and the events on crossing 6, in the order produced. [Log 40 DESIGN CHOICE] -/
structure Cams where
  ports : List CamPort := List.replicate 8 {}
  pipes : List Pipe := List.replicate 4 {}
  xing6 : List CamEvt := []
  deriving DecidableEq, Repr

end Sys2Proof.Machine
end

