-- ==== Sys2Proof/Machine/ImageBase.lean ====
section
/-! DEFINITION. ImageBase: the records of an Exgar image (R207 to R209, R219, R547), its compiled routes
(R221), and the state of the loader. -/

namespace Sys2Proof.Machine

structure PartRec where
  part : Nat
  program : Nat
  mask : Nat
  quantum : Nat
  savePart : Nat
  deriving DecidableEq, Repr

/-- A program: live regions and waits as listed; its code, 128 bytes a bundle. -/
structure ProgRec where
  prog : Nat
  bundles : Nat
  entry : Nat
  live : List (Nat × Nat)
  waits : List (Nat × Bool)
  code : List Byte
  deriving DecidableEq, Repr

structure RouteRec where
  route : Nat
  src : Nat
  dst : Nat
  vc : Nat
  urgent : Bool
  bw : Nat
  setMask : Nat
  via : Nat
  deriving DecidableEq, Repr

structure MemRec where
  part : Nat
  kind : Nat
  page : Nat
  base : Nat
  size : Nat
  readers : Nat
  writers : Nat
  shared : Bool
  hostVis : Bool
  deriving DecidableEq, Repr

structure IspRec where
  pipe : Nat
  nstage : Nat
  stages : List Nat
  outPart : Nat
  paramOff : Nat
  params : List Byte
  deriving DecidableEq, Repr

structure CamRec where
  port : Nat
  lanes : Nat
  mode : Nat
  pipe : Nat
  alt : Nat
  chan : Nat
  framePart : Nat
  pxRate : Nat
  gateMask : Nat
  deriving DecidableEq, Repr

structure QueueRec where
  queue : Nat
  cls : Nat
  place : Nat
  part : Nat
  target : Nat
  depth : Nat
  model : Nat
  submit : Nat
  deriving DecidableEq, Repr

structure ModelRec where
  model : Nat
  weightPart : Nat
  weightOff : Nat
  weightLen : Nat
  parts : Nat
  stateKib : Nat
  program : Nat
  deriving DecidableEq, Repr

structure GateRec where
  gate : Nat
  chan : Nat
  out : Nat
  alt : Nat
  src : Nat
  pres : Nat
  camMask : Nat
  deriving DecidableEq, Repr

structure SyncRec where
  cell : Nat
  init : Nat
  parts : Nat
  units : Nat
  deriving DecidableEq, Repr

structure ShardRec where
  model : Nat
  pos : Nat
  len : Nat
  srcOff : Nat
  dstVa : Nat
  deriving DecidableEq, Repr

structure LayoutRec where
  layout : Nat
  cell : Nat
  statusVa : Nat
  shards : List ShardRec
  deriving DecidableEq, Repr

structure RingRec where
  position : Nat
  size : Nat
  nlayout : Nat
  layouts : List LayoutRec
  deriving DecidableEq, Repr

structure DataRec where
  part : Nat
  offset : Nat
  bytes : List Byte
  deriving DecidableEq, Repr

/-- A compiled route of a route set: its number (none for an implied one), its ends and channel, and its
physical paths, one for each pair of end routers. -/
structure CRoute where
  route : Option Nat
  src : Nat
  dst : Nat
  vc : Nat
  urgent : Bool
  bw : Nat
  via : Nat
  paths : List (List Nat)
  sect : Nat
  recd : Nat
  deriving DecidableEq, Repr

/-- An image as the loader holds it: header values, the records of each section, and, by route set, the
compiled routes. `names` are the section types in section-table order. -/
structure Image where
  total : Nat
  keySlot : Nat
  secVer : Nat
  minSup : Nat
  minTile : Nat
  variants : Nat
  id : Nat
  rev : Nat
  names : List Nat
  digest : List Byte
  parts : List PartRec
  progs : List ProgRec
  routes : List RouteRec
  mems : List MemRec
  isps : List IspRec
  cams : List CamRec
  queues : List QueueRec
  models : List ModelRec
  gates : List GateRec
  syncs : List SyncRec
  rings : List RingRec
  datas : List DataRec
  sets : List (Nat × List CRoute)
  deriving DecidableEq, Repr

/-- One flash image slot (R217). -/
structure ImgSlot where
  valid : Bool := false
  seq   : Nat := 0
  bytes : List Byte := []
  deriving DecidableEq, Repr

/-- A route-set change in progress (R226): the set asked for, whether the epoch boundary has passed, when the change and the
boundary came, and the indexes of the new set's routes that are held. -/
structure RouteChange where
  next : Nat := 0
  flipped : Bool := false
  startAt : Nat := 0
  flipAt : Nat := 0
  held : List Nat := []
  late : Bool := false
  deriving DecidableEq, Repr

/-- The loader (R205 to R238). `shadow` is an image that has passed every stage before COMMIT; `storing` the
slot being written, with its sequence and bytes; `keys` the key table's slots (none: empty), its minimum
and its record sequence; `keyNew` a key table being written; `memOnly` that the shadow came from memory. -/
structure Loader where
  active : Option Image := none
  shadow : Option Image := none
  loadAt : Nat := 0
  slots : List ImgSlot := [{}, {}]
  storing : Option (Nat × Nat × List Byte) := none
  keys : List (Option (List Byte)) := [none, none, none, none]
  minSec : Nat := 0
  keySeq : Nat := 0
  keyNew : Option (List (Option (List Byte)) × Nat × Nat) := none
  change : Option RouteChange := none
  deriving DecidableEq, Repr

end Sys2Proof.Machine
end

