-- ==== Sys2Proof/Machine/MemBase.lean ====
section
/-! DEFINITION. MemBase: the state of translation, of the controllers, of the DMA engines and of the sync
cells' wait lists (chapter 12). -/

namespace Sys2Proof.Machine

/-- A page whose mapping the driver has changed in one context (R488): valid or not, and writable. -/
structure MapOver where
  ctx   : Nat
  base  : Nat
  size  : Nat
  pa    : Nat
  valid : Bool
  w     : Bool
  deriving DecidableEq, Repr

/-- The MMU and the controllers. `remap` holds changed pages, newest first; `op` the changes of the operation
in progress; `fq` the fault queue's records, oldest first, `fseq` the next fault number, `losing` that a
run of losses goes on (R511); `bad` and `weak` are the 32-byte blocks of memory that hold an uncorrectable
or a single-bit error (R485); by channel, when it was last refreshed, calibrated and its MR4 read (R482). -/
structure Mmu where
  remap  : List MapOver := []
  op     : List MapOver := []
  fq     : List (List Byte) := []
  fseq   : Nat := 0
  losing : Bool := false
  bad    : List Nat := []
  weak   : List Nat := []
  lastZq : List Nat := [0, 0, 0, 0]
  lastRef : List Nat := [0, 0, 0, 0]
  lastMr4 : List Nat := [0, 0, 0, 0]
  deriving DecidableEq, Repr

/-- A chain in a queue (R489): where it stands (`va`, or a byte of `gill`'s local memory), the gills its tile
window may reach (R496), the cell to increment, and the scheduler's work it belongs to. -/
structure Chain where
  va     : Nat
  gill   : Option Nat
  reach  : Option Nat
  cell   : Option Nat
  work   : Option Nat
  deriving DecidableEq, Repr

/-- What an item came to (R494). -/
structure ItemRes where
  status : Nat
  state  : Nat
  bytes  : Nat
  detail : Nat
  deriving DecidableEq, Repr

/-- A chain that an engine runs: header values, the items' bytes, each item's result, and how many
completion records are written. -/
structure RunChain where
  chain : Chain
  tag   : Nat
  stop  : Bool
  cpl   : Nat
  items : List (List Byte)
  res   : List (Option ItemRes)
  recs  : Nat
  deriving DecidableEq, Repr

/-- A DMA engine: its queue, the chain it runs, the status of its last chain. -/
structure DmaEng where
  queue  : List Chain := []
  run    : Option RunChain := none
  last   : Nat := 0
  failed : Nat := 0
  deriving DecidableEq, Repr

/-- A gill on a cell's wait list (R499): the cell, the gill and the N it waits for. -/
structure Waiter where
  cell : Nat
  gill : Nat
  n    : Nat
  deriving DecidableEq, Repr

/-- An ended chain that a unit-target queue submitted: its work and outcome, for the scheduler. -/
structure ChainDone where
  work   : Nat
  status : Nat
  deriving DecidableEq, Repr

end Sys2Proof.Machine
end

