-- ==== Sys2Proof/Machine/Regs.lean ====
section
/-! DEFINITION. Regs: the register map (R11 and the register table of each chapter): every register's
BAR0 offset, the bits of each access type (R13), its reset value and its named fields. -/

namespace Sys2Proof.Machine

/-- One register: its BAR0 offset, the masks of its RW, W1C, WO and RC bits (R13; every other bit is
read only or reserved, R14) and its value at reset. -/
structure Reg where
  off   : Nat
  rw    : Nat
  w1c   : Nat
  wo    : Nat
  rc    : Nat
  reset : Nat
  deriving DecidableEq, Repr

/-- A named field [hi:lo] of a register. -/
structure Fld where
  reg : Reg
  hi  : Nat
  lo  : Nat
  deriving DecidableEq, Repr

/-- The offset of register `k` of `cnt` that stand `stride` bytes apart. There is no register at `cnt` or beyond: such
a number gives an offset outside BAR0. -/
def regOff (base stride cnt k : Nat) : Nat := if k < cnt then base + stride * k else 0x1000000 + base

namespace R


/-! ## Registers of chapter 00 -/

/-- SYS_ID, R28. -/
def SYS_ID : Reg := ⟨0x0, 0x0, 0x0, 0x0, 0x0, 0x5C40040⟩
def SYS_ID_FAMILY : Fld := ⟨SYS_ID, 31, 16⟩
def SYS_ID_VARIANT : Fld := ⟨SYS_ID, 15, 0⟩
/-- SYS_REV, R29. -/
def SYS_REV : Reg := ⟨0x4, 0x0, 0x0, 0x0, 0x0, 0x21⟩
def SYS_REV_LETTER : Fld := ⟨SYS_REV, 7, 4⟩
def SYS_REV_NUMBER : Fld := ⟨SYS_REV, 3, 0⟩
/-- SYS_CAP_UNITS, R30. -/
def SYS_CAP_UNITS : Reg := ⟨0x8, 0x0, 0x0, 0x0, 0x0, 0x2F090840⟩
def SYS_CAP_UNITS_MEM_LOG2 : Fld := ⟨SYS_CAP_UNITS, 30, 27⟩
def SYS_CAP_UNITS_RING : Fld := ⟨SYS_CAP_UNITS, 26, 26⟩
def SYS_CAP_UNITS_PUFFBALL : Fld := ⟨SYS_CAP_UNITS, 25, 25⟩
def SYS_CAP_UNITS_EJ_OUT : Fld := ⟨SYS_CAP_UNITS, 24, 20⟩
def SYS_CAP_UNITS_ENC_CH : Fld := ⟨SYS_CAP_UNITS, 19, 17⟩
def SYS_CAP_UNITS_CXP_LANES : Fld := ⟨SYS_CAP_UNITS, 16, 12⟩
def SYS_CAP_UNITS_CXP_PORTS : Fld := ⟨SYS_CAP_UNITS, 11, 8⟩
def SYS_CAP_UNITS_GILLS : Fld := ⟨SYS_CAP_UNITS, 7, 0⟩
/-- SYS_SUP_VER, R31. -/
def SYS_SUP_VER : Reg := ⟨0xC, 0x0, 0x0, 0x0, 0x0, 0x0⟩
def SYS_SUP_VER_MAJOR : Fld := ⟨SYS_SUP_VER, 31, 24⟩
def SYS_SUP_VER_MINOR : Fld := ⟨SYS_SUP_VER, 23, 16⟩
def SYS_SUP_VER_PATCH : Fld := ⟨SYS_SUP_VER, 15, 0⟩
/-- SYS_TILE_VER, R32. -/
def SYS_TILE_VER : Reg := ⟨0x10, 0x0, 0x0, 0x0, 0x0, 0x0⟩
def SYS_TILE_VER_MAJOR : Fld := ⟨SYS_TILE_VER, 31, 24⟩
def SYS_TILE_VER_MINOR : Fld := ⟨SYS_TILE_VER, 23, 16⟩
def SYS_TILE_VER_PATCH : Fld := ⟨SYS_TILE_VER, 15, 0⟩

/-! ## Registers of chapter 01 -/

/-- MOT_TRK_CFG, R62. -/
def MOT_TRK_CFG : Reg := ⟨0x10800, 0xFFF3, 0x0, 0x0, 0x0, 0xA42⟩
def MOT_TRK_CFG_CONV_PERIOD : Fld := ⟨MOT_TRK_CFG, 15, 8⟩
def MOT_TRK_CFG_GUARD : Fld := ⟨MOT_TRK_CFG, 7, 4⟩
def MOT_TRK_CFG_FULL_POLICY : Fld := ⟨MOT_TRK_CFG, 1, 1⟩
def MOT_TRK_CFG_EN : Fld := ⟨MOT_TRK_CFG, 0, 0⟩
/-- MOT_TRK_VMIN, R63. -/
def MOT_TRK_VMIN : Reg := ⟨0x10804, 0xFFFFFF, 0x0, 0x0, 0x0, 0x64⟩
def MOT_TRK_VMIN_VMIN : Fld := ⟨MOT_TRK_VMIN, 23, 0⟩
/-- MOT_TRK_VMAX, R63. -/
def MOT_TRK_VMAX : Reg := ⟨0x10808, 0xFFFFFF, 0x0, 0x0, 0x0, 0xFFFFFF⟩
def MOT_TRK_VMAX_VMAX : Fld := ⟨MOT_TRK_VMAX, 23, 0⟩
/-- MOT_TRK_REV_LIMIT, R63. -/
def MOT_TRK_REV_LIMIT : Reg := ⟨0x1080C, 0xFFFFFF, 0x0, 0x0, 0x0, 0x3E8⟩
def MOT_TRK_REV_LIMIT_REV_LIMIT : Fld := ⟨MOT_TRK_REV_LIMIT, 23, 0⟩
/-- MOT_TRK_GLITCH_THR, R63. -/
def MOT_TRK_GLITCH_THR : Reg := ⟨0x10810, 0xFFFFFF, 0x0, 0x0, 0x0, 0x1⟩
def MOT_TRK_GLITCH_THR_GLITCH_THR : Fld := ⟨MOT_TRK_GLITCH_THR, 23, 0⟩
/-- MOT_TRK_FORCE, R64. -/
def MOT_TRK_FORCE : Reg := ⟨0x10814, 0x7, 0x0, 0x0, 0x0, 0x7⟩
def MOT_TRK_FORCE_ENC_GLITCH : Fld := ⟨MOT_TRK_FORCE, 2, 2⟩
def MOT_TRK_FORCE_ENC_WIRE : Fld := ⟨MOT_TRK_FORCE, 1, 1⟩
def MOT_TRK_FORCE_IMG_CRC : Fld := ⟨MOT_TRK_FORCE, 0, 0⟩
/-- MOT_TRK_STATUS, R65. -/
def MOT_TRK_STATUS : Reg := ⟨0x10818, 0x0, 0x0, 0x0, 0x0, 0x0⟩
def MOT_TRK_STATUS_FALLBACK : Fld := ⟨MOT_TRK_STATUS, 19, 16⟩
def MOT_TRK_STATUS_LAST_STS : Fld := ⟨MOT_TRK_STATUS, 15, 0⟩
/-- MOT_TRK_ACTIVE, R66. -/
def MOT_TRK_ACTIVE : Reg := ⟨0x1081C, 0x0, 0x0, 0x0, 0x0, 0x0⟩
def MOT_TRK_ACTIVE_ACTIVE : Fld := ⟨MOT_TRK_ACTIVE, 9, 0⟩
/-- MOT_TRK_OPENED, R66. -/
def MOT_TRK_OPENED : Reg := ⟨0x10820, 0x0, 0x0, 0x0, 0xFFFFFFFF, 0x0⟩
def MOT_TRK_OPENED_OPENED : Fld := ⟨MOT_TRK_OPENED, 31, 0⟩
/-- MOT_TRK_DROPPED, R66. -/
def MOT_TRK_DROPPED : Reg := ⟨0x10824, 0x0, 0x0, 0x0, 0xFFFFFFFF, 0x0⟩
def MOT_TRK_DROPPED_DROPPED : Fld := ⟨MOT_TRK_DROPPED, 31, 0⟩
/-- MOT_TRK_NEXT_SEQ, R66. -/
def MOT_TRK_NEXT_SEQ : Reg := ⟨0x10828, 0xFFFFFFFF, 0x0, 0x0, 0x0, 0x0⟩
def MOT_TRK_NEXT_SEQ_NEXT_SEQ : Fld := ⟨MOT_TRK_NEXT_SEQ, 31, 0⟩
/-- MOT_TRK_SEL, R67. -/
def MOT_TRK_SEL : Reg := ⟨0x1082C, 0x1FF, 0x0, 0x0, 0x0, 0x0⟩
def MOT_TRK_SEL_SLOT : Fld := ⟨MOT_TRK_SEL, 8, 0⟩
/-- MOT_TRK_V_SEQ, R67. -/
def MOT_TRK_V_SEQ : Reg := ⟨0x10830, 0x0, 0x0, 0x0, 0x0, 0x0⟩
def MOT_TRK_V_SEQ_SEQ : Fld := ⟨MOT_TRK_V_SEQ, 31, 0⟩
/-- MOT_TRK_V_STATE, R67. -/
def MOT_TRK_V_STATE : Reg := ⟨0x10834, 0x0, 0x0, 0x0, 0x0, 0x0⟩
def MOT_TRK_V_STATE_GATE : Fld := ⟨MOT_TRK_V_STATE, 19, 16⟩
def MOT_TRK_V_STATE_VERDICT : Fld := ⟨MOT_TRK_V_STATE, 15, 12⟩
def MOT_TRK_V_STATE_FLAGS : Fld := ⟨MOT_TRK_V_STATE, 11, 8⟩
def MOT_TRK_V_STATE_HELD : Fld := ⟨MOT_TRK_V_STATE, 7, 7⟩
def MOT_TRK_V_STATE_STATE : Fld := ⟨MOT_TRK_V_STATE, 2, 0⟩
/-- MOT_TRK_V_DL_LO, R67. -/
def MOT_TRK_V_DL_LO : Reg := ⟨0x10838, 0x0, 0x0, 0x0, 0x0, 0x0⟩
def MOT_TRK_V_DL_LO_DL_LO : Fld := ⟨MOT_TRK_V_DL_LO, 31, 0⟩
/-- MOT_TRK_V_DL_HI, R67. -/
def MOT_TRK_V_DL_HI : Reg := ⟨0x1083C, 0x0, 0x0, 0x0, 0x0, 0x0⟩
def MOT_TRK_V_DL_HI_DL_HI : Fld := ⟨MOT_TRK_V_DL_HI, 31, 0⟩
/-- MOT_TRK_DECL_LO, R68. -/
def MOT_TRK_DECL_LO : Reg := ⟨0x10840, 0xFFFFFFFF, 0x0, 0x0, 0x0, 0x0⟩
def MOT_TRK_DECL_LO_P_LO : Fld := ⟨MOT_TRK_DECL_LO, 31, 0⟩
/-- MOT_TRK_DECL_HI, R68. -/
def MOT_TRK_DECL_HI : Reg := ⟨0x10844, 0xFFFFF, 0x0, 0x80000000, 0x0, 0x0⟩
def MOT_TRK_DECL_HI_GO : Fld := ⟨MOT_TRK_DECL_HI, 31, 31⟩
def MOT_TRK_DECL_HI_GATE : Fld := ⟨MOT_TRK_DECL_HI, 19, 16⟩
def MOT_TRK_DECL_HI_P_HI : Fld := ⟨MOT_TRK_DECL_HI, 15, 0⟩
/-- MOT_TRK_COMMIT_SEQ, R68. -/
def MOT_TRK_COMMIT_SEQ : Reg := ⟨0x10848, 0xFFFFFFFF, 0x0, 0x0, 0x0, 0x0⟩
def MOT_TRK_COMMIT_SEQ_SEQ : Fld := ⟨MOT_TRK_COMMIT_SEQ, 31, 0⟩
/-- MOT_TRK_COMMIT, R68. -/
def MOT_TRK_COMMIT : Reg := ⟨0x1084C, 0x0, 0x0, 0xFFF, 0x0, 0x0⟩
def MOT_TRK_COMMIT_VERDICT : Fld := ⟨MOT_TRK_COMMIT, 11, 9⟩
def MOT_TRK_COMMIT_SLOT : Fld := ⟨MOT_TRK_COMMIT, 8, 0⟩
/-- MOT_GATE_CFG, R69 (k below 16). -/
def MOT_GATE_CFG (k : Nat) : Reg := ⟨regOff 0x10900 0x20 16 k, 0x1, 0x0, 0x0, 0x0, 0x0⟩
def MOT_GATE_CFG_ALT_OUT (k : Nat) : Fld := ⟨MOT_GATE_CFG k, 15, 12⟩
def MOT_GATE_CFG_OUT (k : Nat) : Fld := ⟨MOT_GATE_CFG k, 11, 8⟩
def MOT_GATE_CFG_SRC (k : Nat) : Fld := ⟨MOT_GATE_CFG k, 7, 6⟩
def MOT_GATE_CFG_CHAN (k : Nat) : Fld := ⟨MOT_GATE_CFG k, 5, 4⟩
def MOT_GATE_CFG_EN (k : Nat) : Fld := ⟨MOT_GATE_CFG k, 0, 0⟩
/-- MOT_GATE_PRES_OFFS, R69 (k below 16). -/
def MOT_GATE_PRES_OFFS (k : Nat) : Reg := ⟨regOff 0x10904 0x20 16 k, 0xFFFFFF, 0x0, 0x0, 0x0, 0x0⟩
def MOT_GATE_PRES_OFFS_PRES_OFFS (k : Nat) : Fld := ⟨MOT_GATE_PRES_OFFS k, 23, 0⟩
/-- MOT_GATE_WIN, R69 (k below 16). -/
def MOT_GATE_WIN (k : Nat) : Reg := ⟨regOff 0x10908 0x20 16 k, 0xFFFFFF, 0x0, 0x0, 0x0, 0x0⟩
def MOT_GATE_WIN_W (k : Nat) : Fld := ⟨MOT_GATE_WIN k, 23, 0⟩
/-- MOT_GATE_FIRE, R69 (k below 16). -/
def MOT_GATE_FIRE (k : Nat) : Reg := ⟨regOff 0x1090C 0x20 16 k, 0xFFFFFF, 0x0, 0x0, 0x0, 0x0⟩
def MOT_GATE_FIRE_FIRE_OFFS (k : Nat) : Fld := ⟨MOT_GATE_FIRE k, 23, 0⟩
/-- MOT_GATE_MARGIN, R69 (k below 16). -/
def MOT_GATE_MARGIN (k : Nat) : Reg := ⟨regOff 0x10910 0x20 16 k, 0xFFFFFF, 0x0, 0x0, 0x0, 0x1⟩
def MOT_GATE_MARGIN_MARGIN (k : Nat) : Fld := ⟨MOT_GATE_MARGIN k, 23, 0⟩
/-- EJ_DISP, R70 (k below 16). -/
def EJ_DISP (k : Nat) : Reg := ⟨regOff 0x12800 0x4 16 k, 0xFF303FFC, 0x0, 0x0, 0x0, 0x201150⟩
def EJ_DISP_LATE_TOL (k : Nat) : Fld := ⟨EJ_DISP k, 31, 24⟩
def EJ_DISP_OVF (k : Nat) : Fld := ⟨EJ_DISP k, 21, 20⟩
def EJ_DISP_ACT (k : Nat) : Fld := ⟨EJ_DISP k, 13, 2⟩
/-- EJ_LATE_CNT, R71. -/
def EJ_LATE_CNT : Reg := ⟨0x12840, 0x0, 0x0, 0x0, 0xFFFFFFFF, 0x0⟩
def EJ_LATE_CNT_LATE : Fld := ⟨EJ_LATE_CNT, 31, 0⟩
/-- EJ_LATE_ARRIVED, R71. -/
def EJ_LATE_ARRIVED : Reg := ⟨0x12844, 0x0, 0x0, 0x0, 0xFFFFFFFF, 0x0⟩
def EJ_LATE_ARRIVED_LATE_ARRIVED : Fld := ⟨EJ_LATE_ARRIVED, 31, 0⟩
/-- EJ_OVF_CNT, R71. -/
def EJ_OVF_CNT : Reg := ⟨0x12848, 0x0, 0x0, 0x0, 0xFFFFFFFF, 0x0⟩
def EJ_OVF_CNT_OVERFLOW : Fld := ⟨EJ_OVF_CNT, 31, 0⟩
/-- EJ_FIRE_LATE_CNT, R71. -/
def EJ_FIRE_LATE_CNT : Reg := ⟨0x1284C, 0x0, 0x0, 0x0, 0xFFFFFFFF, 0x0⟩
def EJ_FIRE_LATE_CNT_FIRE_LATE : Fld := ⟨EJ_FIRE_LATE_CNT, 31, 0⟩
/-- EJ_POL_STATUS, R71. -/
def EJ_POL_STATUS : Reg := ⟨0x12850, 0x0, 0x0, 0x0, 0x0, 0x0⟩
def EJ_POL_STATUS_LAST_STS : Fld := ⟨EJ_POL_STATUS, 15, 0⟩

/-! ## Registers of chapter 02 -/

/-- PWR_VIN, R111. -/
def PWR_VIN : Reg := ⟨0x3100, 0x0, 0x0, 0x0, 0x0, 0x0⟩
def PWR_VIN_VIN_MV : Fld := ⟨PWR_VIN, 15, 0⟩
/-- PWR_VCAM, R111. -/
def PWR_VCAM : Reg := ⟨0x3104, 0x0, 0x0, 0x0, 0x0, 0x0⟩
def PWR_VCAM_VCAM_MV : Fld := ⟨PWR_VCAM, 15, 0⟩
/-- PWR_VEJ, R111. -/
def PWR_VEJ : Reg := ⟨0x3108, 0x0, 0x0, 0x0, 0x0, 0x0⟩
def PWR_VEJ_VEJ_B_MV : Fld := ⟨PWR_VEJ, 31, 16⟩
def PWR_VEJ_VEJ_A_MV : Fld := ⟨PWR_VEJ, 15, 0⟩
/-- PWR_MOD_STATUS, R112. -/
def PWR_MOD_STATUS : Reg := ⟨0x310C, 0x0, 0x4, 0x0, 0x0, 0x0⟩
def PWR_MOD_STATUS_LAST_STS : Fld := ⟨PWR_MOD_STATUS, 31, 16⟩
def PWR_MOD_STATUS_THROTTLE : Fld := ⟨PWR_MOD_STATUS, 9, 9⟩
def PWR_MOD_STATUS_CHARGED : Fld := ⟨PWR_MOD_STATUS, 8, 8⟩
def PWR_MOD_STATUS_VEJ_B_LOW : Fld := ⟨PWR_MOD_STATUS, 7, 7⟩
def PWR_MOD_STATUS_VEJ_A_LOW : Fld := ⟨PWR_MOD_STATUS, 6, 6⟩
def PWR_MOD_STATUS_VCAM_LOW : Fld := ⟨PWR_MOD_STATUS, 5, 5⟩
def PWR_MOD_STATUS_VIN_HIGH : Fld := ⟨PWR_MOD_STATUS, 4, 4⟩
def PWR_MOD_STATUS_VIN_LOW : Fld := ⟨PWR_MOD_STATUS, 3, 3⟩
def PWR_MOD_STATUS_LOSS_SEEN : Fld := ⟨PWR_MOD_STATUS, 2, 2⟩
/-- PWR_HOLDUP, R113. -/
def PWR_HOLDUP : Reg := ⟨0x3110, 0x0, 0x0, 0x0, 0x0, 0x0⟩
def PWR_HOLDUP_VBANK_MV : Fld := ⟨PWR_HOLDUP, 31, 16⟩
def PWR_HOLDUP_E_MJ : Fld := ⟨PWR_HOLDUP, 15, 0⟩
/-- PWR_HOLDUP_CAP, R113. -/
def PWR_HOLDUP_CAP : Reg := ⟨0x3114, 0x0, 0x0, 0x0, 0x0, 0x0⟩
def PWR_HOLDUP_CAP_CAP_UF : Fld := ⟨PWR_HOLDUP_CAP, 15, 0⟩
/-- PWR_TEMP, R113. -/
def PWR_TEMP : Reg := ⟨0x3118, 0x0, 0x0, 0x0, 0x0, 0x0⟩
def PWR_TEMP_TPLATE : Fld := ⟨PWR_TEMP, 31, 16⟩
def PWR_TEMP_TJ : Fld := ⟨PWR_TEMP, 15, 0⟩
/-- PWR_THERM_CFG, R113. -/
def PWR_THERM_CFG : Reg := ⟨0x311C, 0xFF, 0x0, 0x0, 0x0, 0x64⟩
def PWR_THERM_CFG_THROTTLE : Fld := ⟨PWR_THERM_CFG, 7, 0⟩
/-- PWR_RELAY, R114. -/
def PWR_RELAY : Reg := ⟨0x3120, 0x3, 0x0, 0x0, 0x0, 0x0⟩
def PWR_RELAY_RING_POS : Fld := ⟨PWR_RELAY, 5, 5⟩
def PWR_RELAY_ETH_POS : Fld := ⟨PWR_RELAY, 4, 4⟩
def PWR_RELAY_RING_INSERT : Fld := ⟨PWR_RELAY, 1, 1⟩
def PWR_RELAY_ETH_INSERT : Fld := ⟨PWR_RELAY, 0, 0⟩
/-- PWR_POCXP, R115. -/
def PWR_POCXP : Reg := ⟨0x3124, 0xFFFF, 0x0, 0x0, 0x0, 0x0⟩
def PWR_POCXP_EN : Fld := ⟨PWR_POCXP, 15, 0⟩
/-- PWR_POCXP_STS, R115. -/
def PWR_POCXP_STS : Reg := ⟨0x3128, 0x0, 0xFFFF0000, 0x0, 0x0, 0x0⟩
def PWR_POCXP_STS_FAULT : Fld := ⟨PWR_POCXP_STS, 31, 16⟩
def PWR_POCXP_STS_ON : Fld := ⟨PWR_POCXP_STS, 15, 0⟩
/-- PWR_ENC_SUP, R115. -/
def PWR_ENC_SUP : Reg := ⟨0x312C, 0xF, 0xF0, 0x0, 0x0, 0x0⟩
def PWR_ENC_SUP_FAULT : Fld := ⟨PWR_ENC_SUP, 7, 4⟩
def PWR_ENC_SUP_EN : Fld := ⟨PWR_ENC_SUP, 3, 0⟩
/-- PWR_POWER, R111. -/
def PWR_POWER : Reg := ⟨0x3130, 0x0, 0x0, 0x0, 0x0, 0x0⟩
def PWR_POWER_PIN_DW : Fld := ⟨PWR_POWER, 15, 0⟩
/-- MOT_DI_CFG, R116. -/
def MOT_DI_CFG : Reg := ⟨0x10B00, 0xFFFFFF, 0x0, 0x0, 0x0, 0xA⟩
def MOT_DI_CFG_POL : Fld := ⟨MOT_DI_CFG, 23, 16⟩
def MOT_DI_CFG_QUAL_US : Fld := ⟨MOT_DI_CFG, 15, 0⟩
/-- MOT_DI_STS, R116. -/
def MOT_DI_STS : Reg := ⟨0x10B04, 0x0, 0x0, 0x0, 0x0, 0x0⟩
def MOT_DI_STS_LEVEL : Fld := ⟨MOT_DI_STS, 7, 0⟩
/-- EJ_LSTOP, R117. -/
def EJ_LSTOP : Reg := ⟨0x12860, 0xFFFF0015, 0x0, 0x2, 0x0, 0x1F40018⟩
def EJ_LSTOP_HOLD_MS : Fld := ⟨EJ_LSTOP, 31, 16⟩
def EJ_LSTOP_MISMATCH_STOP : Fld := ⟨EJ_LSTOP, 4, 4⟩
def EJ_LSTOP_ASSERTED : Fld := ⟨EJ_LSTOP, 3, 3⟩
def EJ_LSTOP_AUTO_REL : Fld := ⟨EJ_LSTOP, 2, 2⟩
def EJ_LSTOP_RELEASE : Fld := ⟨EJ_LSTOP, 1, 1⟩
def EJ_LSTOP_RUN : Fld := ⟨EJ_LSTOP, 0, 0⟩
/-- EJ_OUT_STS, R117. -/
def EJ_OUT_STS : Reg := ⟨0x12864, 0x0, 0xFFFFFFFF, 0x0, 0x0, 0x0⟩
def EJ_OUT_STS_OVERCURRENT : Fld := ⟨EJ_OUT_STS, 31, 16⟩
def EJ_OUT_STS_OPEN_LOAD : Fld := ⟨EJ_OUT_STS, 15, 0⟩

/-! ## Registers of chapter 03 -/

/-- CLK_STATUS, R152. -/
def CLK_STATUS : Reg := ⟨0x2000, 0x0, 0x0, 0x0, 0x0, 0x10001⟩
def CLK_STATUS_RUNNING : Fld := ⟨CLK_STATUS, 24, 16⟩
def CLK_STATUS_LOCK : Fld := ⟨CLK_STATUS, 8, 0⟩
/-- CLK_FAIL, R153. -/
def CLK_FAIL : Reg := ⟨0x2004, 0x0, 0x1FF, 0x0, 0x0, 0x0⟩
def CLK_FAIL_LAST_STS : Fld := ⟨CLK_FAIL, 31, 16⟩
def CLK_FAIL_FAIL : Fld := ⟨CLK_FAIL, 8, 0⟩
/-- CLK_MEAS_SEL, R153. -/
def CLK_MEAS_SEL : Reg := ⟨0x2008, 0xF, 0x0, 0x0, 0x0, 0x0⟩
def CLK_MEAS_SEL_DOMAIN : Fld := ⟨CLK_MEAS_SEL, 3, 0⟩
/-- CLK_MEAS, R153. -/
def CLK_MEAS : Reg := ⟨0x200C, 0x0, 0x0, 0x0, 0x0, 0x0⟩
def CLK_MEAS_KHZ : Fld := ⟨CLK_MEAS, 23, 0⟩
/-- CLK_CORE, R153. -/
def CLK_CORE : Reg := ⟨0x2010, 0x0, 0x0, 0x0, 0x0, 0x3E8⟩
def CLK_CORE_THROTTLED : Fld := ⟨CLK_CORE, 16, 16⟩
def CLK_CORE_CORE_MHZ : Fld := ⟨CLK_CORE, 10, 0⟩
/-- CLK_XING_SEL, R154. -/
def CLK_XING_SEL : Reg := ⟨0x2020, 0x1F, 0x0, 0x0, 0x0, 0x0⟩
def CLK_XING_SEL_XING : Fld := ⟨CLK_XING_SEL, 4, 0⟩
/-- CLK_XING_HWM, R154. -/
def CLK_XING_HWM : Reg := ⟨0x2024, 0x0, 0x0, 0x0, 0xFFFF, 0x0⟩
def CLK_XING_HWM_HWM : Fld := ⟨CLK_XING_HWM, 15, 0⟩
/-- CLK_XING_DROP, R154. -/
def CLK_XING_DROP : Reg := ⟨0x2028, 0x0, 0x0, 0x0, 0xFFFFFFFF, 0x0⟩
def CLK_XING_DROP_DROP : Fld := ⟨CLK_XING_DROP, 31, 0⟩
/-- PWR_MODE_REQ, R155. -/
def PWR_MODE_REQ : Reg := ⟨0x3000, 0x7, 0x0, 0x80000000, 0x0, 0x1⟩
def PWR_MODE_REQ_GO : Fld := ⟨PWR_MODE_REQ, 31, 31⟩
def PWR_MODE_REQ_TARGET : Fld := ⟨PWR_MODE_REQ, 2, 0⟩
/-- PWR_MODE_STATUS, R156. -/
def PWR_MODE_STATUS : Reg := ⟨0x3004, 0x0, 0x0, 0x0, 0x0, 0x0⟩
def PWR_MODE_STATUS_LAST_STS : Fld := ⟨PWR_MODE_STATUS, 31, 16⟩
def PWR_MODE_STATUS_STEP : Fld := ⟨PWR_MODE_STATUS, 15, 12⟩
def PWR_MODE_STATUS_RESULT : Fld := ⟨PWR_MODE_STATUS, 9, 8⟩
def PWR_MODE_STATUS_BUSY : Fld := ⟨PWR_MODE_STATUS, 7, 7⟩
def PWR_MODE_STATUS_MODE : Fld := ⟨PWR_MODE_STATUS, 2, 0⟩
/-- PWR_MODE_CFG, R157. -/
def PWR_MODE_CFG : Reg := ⟨0x3008, 0xFFFFFFFF, 0x0, 0x0, 0x0, 0x3E800C8⟩
def PWR_MODE_CFG_TIMEOUT_US : Fld := ⟨PWR_MODE_CFG, 31, 16⟩
def PWR_MODE_CFG_MOVE_CNT : Fld := ⟨PWR_MODE_CFG, 15, 0⟩
/-- PWR_WAKE_EN, R157. -/
def PWR_WAKE_EN : Reg := ⟨0x300C, 0xFF003C, 0x0, 0x0, 0x0, 0x7⟩
def PWR_WAKE_EN_DI : Fld := ⟨PWR_WAKE_EN, 23, 16⟩
def PWR_WAKE_EN_TIMER : Fld := ⟨PWR_WAKE_EN, 5, 5⟩
def PWR_WAKE_EN_LANE : Fld := ⟨PWR_WAKE_EN, 4, 4⟩
def PWR_WAKE_EN_DI_EN : Fld := ⟨PWR_WAKE_EN, 3, 3⟩
def PWR_WAKE_EN_MOTION : Fld := ⟨PWR_WAKE_EN, 2, 2⟩
def PWR_WAKE_EN_HOST : Fld := ⟨PWR_WAKE_EN, 1, 1⟩
def PWR_WAKE_EN_TRACK : Fld := ⟨PWR_WAKE_EN, 0, 0⟩
/-- PWR_WAKE_LATCH, R157. -/
def PWR_WAKE_LATCH : Reg := ⟨0x3010, 0x0, 0x3F, 0x0, 0x0, 0x0⟩
def PWR_WAKE_LATCH_LATCH : Fld := ⟨PWR_WAKE_LATCH, 5, 0⟩
/-- PWR_WAKE_LANE, R158. -/
def PWR_WAKE_LANE : Reg := ⟨0x3014, 0xFFFFFF, 0x0, 0x0, 0x0, 0x0⟩
def PWR_WAKE_LANE_RX : Fld := ⟨PWR_WAKE_LANE, 23, 0⟩
/-- PWR_WAKE_TIMER, R158. -/
def PWR_WAKE_TIMER : Reg := ⟨0x3018, 0xFFFFFFFF, 0x0, 0x0, 0x0, 0x0⟩
def PWR_WAKE_TIMER_MS : Fld := ⟨PWR_WAKE_TIMER, 31, 0⟩
/-- PWR_ROLLBACKS, R158. -/
def PWR_ROLLBACKS : Reg := ⟨0x301C, 0x0, 0x0, 0x0, 0xFFFFFFFF, 0x0⟩
def PWR_ROLLBACKS_COUNT : Fld := ⟨PWR_ROLLBACKS, 31, 0⟩
/-- PWR_EXIT_US, R158. -/
def PWR_EXIT_US : Reg := ⟨0x3020, 0x0, 0x0, 0x0, 0x0, 0x0⟩
def PWR_EXIT_US_EXIT_US : Fld := ⟨PWR_EXIT_US, 15, 0⟩

/-! ## Registers of chapter 04 -/

/-- SYS_SERIAL_LO, R198. -/
def SYS_SERIAL_LO : Reg := ⟨0x14, 0x0, 0x0, 0x0, 0x0, 0x0⟩
def SYS_SERIAL_LO_SERIAL_LO : Fld := ⟨SYS_SERIAL_LO, 31, 0⟩
/-- SYS_SERIAL_HI, R198. -/
def SYS_SERIAL_HI : Reg := ⟨0x18, 0x0, 0x0, 0x0, 0x0, 0x0⟩
def SYS_SERIAL_HI_SERIAL_HI : Fld := ⟨SYS_SERIAL_HI, 31, 0⟩
/-- SYS_BOOT_STATUS, R198. -/
def SYS_BOOT_STATUS : Reg := ⟨0x1C, 0x0, 0x0, 0x0, 0x0, 0x0⟩
def SYS_BOOT_STATUS_LAST_STS : Fld := ⟨SYS_BOOT_STATUS, 31, 16⟩
def SYS_BOOT_STATUS_WARM : Fld := ⟨SYS_BOOT_STATUS, 15, 15⟩
def SYS_BOOT_STATUS_DEGRADED : Fld := ⟨SYS_BOOT_STATUS, 14, 14⟩
def SYS_BOOT_STATUS_STAGE : Fld := ⟨SYS_BOOT_STATUS, 11, 8⟩
def SYS_BOOT_STATUS_STATE : Fld := ⟨SYS_BOOT_STATUS, 1, 0⟩
/-- SYS_START_MS, R198. -/
def SYS_START_MS : Reg := ⟨0x20, 0x0, 0x0, 0x0, 0x0, 0x0⟩
def SYS_START_MS_START_MS : Fld := ⟨SYS_START_MS, 15, 0⟩
/-- SYS_FATAL, R199. -/
def SYS_FATAL : Reg := ⟨0x24, 0x0, 0x0, 0x0, 0x0, 0x0⟩
def SYS_FATAL_DETAIL : Fld := ⟨SYS_FATAL, 31, 16⟩
def SYS_FATAL_FATAL_STS : Fld := ⟨SYS_FATAL, 15, 0⟩
/-- BOOT_CFG, R200. -/
def BOOT_CFG : Reg := ⟨0x1000, 0xFFFF001F, 0x0, 0x0, 0x0, 0xA0006⟩
def BOOT_CFG_HOST_WAIT_S : Fld := ⟨BOOT_CFG, 31, 16⟩
def BOOT_CFG_WARM_BIST : Fld := ⟨BOOT_CFG, 4, 4⟩
def BOOT_CFG_SLOT_PREF : Fld := ⟨BOOT_CFG, 3, 3⟩
def BOOT_CFG_AUTO_FMAP : Fld := ⟨BOOT_CFG, 2, 2⟩
def BOOT_CFG_AUTO_IMAGE : Fld := ⟨BOOT_CFG, 1, 1⟩
def BOOT_CFG_SRC : Fld := ⟨BOOT_CFG, 0, 0⟩
/-- BOOT_CTRL, R201. -/
def BOOT_CTRL : Reg := ⟨0x1004, 0x0, 0x0, 0xF, 0x0, 0x0⟩
def BOOT_CTRL_PKG_READY : Fld := ⟨BOOT_CTRL, 3, 3⟩
def BOOT_CTRL_SAVE_CFG : Fld := ⟨BOOT_CTRL, 2, 2⟩
def BOOT_CTRL_WARM : Fld := ⟨BOOT_CTRL, 1, 1⟩
def BOOT_CTRL_COLD : Fld := ⟨BOOT_CTRL, 0, 0⟩
/-- BOOT_MAP_COUNT, R202. -/
def BOOT_MAP_COUNT : Reg := ⟨0x1008, 0x0, 0x0, 0x0, 0x0, 0x0⟩
def BOOT_MAP_COUNT_COUNT : Fld := ⟨BOOT_MAP_COUNT, 7, 0⟩
/-- BOOT_MAP_SEL, R202. -/
def BOOT_MAP_SEL : Reg := ⟨0x100C, 0xFF, 0x0, 0x0, 0x0, 0x0⟩
def BOOT_MAP_SEL_INDEX : Fld := ⟨BOOT_MAP_SEL, 7, 0⟩
/-- BOOT_MAP_ENTRY, R202. -/
def BOOT_MAP_ENTRY : Reg := ⟨0x1010, 0x0, 0x0, 0x0, 0x0, 0x0⟩
def BOOT_MAP_ENTRY_ENTRY : Fld := ⟨BOOT_MAP_ENTRY, 31, 0⟩
/-- BOOT_MAP_DIGEST, R202 (k below 8). -/
def BOOT_MAP_DIGEST (k : Nat) : Reg := ⟨regOff 0x1020 0x4 8 k, 0x0, 0x0, 0x0, 0x0, 0x0⟩
def BOOT_MAP_DIGEST_DIGEST (k : Nat) : Fld := ⟨BOOT_MAP_DIGEST k, 31, 0⟩
/-- BOOT_FMAP_ADD, R203. -/
def BOOT_FMAP_ADD : Reg := ⟨0x1040, 0x0, 0x0, 0xFFFFFFFF, 0x0, 0x0⟩
def BOOT_FMAP_ADD_ENTRY : Fld := ⟨BOOT_FMAP_ADD, 31, 0⟩
/-- BOOT_FMAP_STATUS, R203. -/
def BOOT_FMAP_STATUS : Reg := ⟨0x1044, 0x0, 0x0, 0x0, 0x0, 0x0⟩
def BOOT_FMAP_STATUS_LAST_STS : Fld := ⟨BOOT_FMAP_STATUS, 31, 16⟩
def BOOT_FMAP_STATUS_MERGE_PENDING : Fld := ⟨BOOT_FMAP_STATUS, 9, 9⟩
def BOOT_FMAP_STATUS_WRITE_PENDING : Fld := ⟨BOOT_FMAP_STATUS, 8, 8⟩
def BOOT_FMAP_STATUS_FIELD_COUNT : Fld := ⟨BOOT_FMAP_STATUS, 7, 0⟩
/-- BOOT_L2P_SEL, R203. -/
def BOOT_L2P_SEL : Reg := ⟨0x1048, 0x3F3F, 0x0, 0x0, 0x0, 0x0⟩
def BOOT_L2P_SEL_LGILL : Fld := ⟨BOOT_L2P_SEL, 13, 8⟩
def BOOT_L2P_SEL_LTILE : Fld := ⟨BOOT_L2P_SEL, 5, 0⟩
/-- BOOT_L2P, R203. -/
def BOOT_L2P : Reg := ⟨0x104C, 0x0, 0x0, 0x0, 0x0, 0x0⟩
def BOOT_L2P_VALID : Fld := ⟨BOOT_L2P, 31, 31⟩
def BOOT_L2P_PGILL : Fld := ⟨BOOT_L2P, 13, 8⟩
def BOOT_L2P_PTILE : Fld := ⟨BOOT_L2P, 6, 0⟩
/-- BOOT_FW_SLOT, R204. -/
def BOOT_FW_SLOT : Reg := ⟨0x1050, 0x0, 0x0, 0x0, 0x0, 0x0⟩
def BOOT_FW_SLOT_SLOT : Fld := ⟨BOOT_FW_SLOT, 1, 0⟩
/-- BOOT_HOST_PKG, R204. -/
def BOOT_HOST_PKG : Reg := ⟨0x1054, 0xFFFFFFFF, 0x0, 0x0, 0x0, 0x0⟩
def BOOT_HOST_PKG_LENGTH : Fld := ⟨BOOT_HOST_PKG, 31, 0⟩
/-- BOOT_RESTARTS, R204. -/
def BOOT_RESTARTS : Reg := ⟨0x1058, 0x0, 0x0, 0x0, 0x0, 0x0⟩
def BOOT_RESTARTS_COUNT : Fld := ⟨BOOT_RESTARTS, 1, 0⟩
/-- BOOT_FUSE_CORR, R204. -/
def BOOT_FUSE_CORR : Reg := ⟨0x105C, 0x0, 0x0, 0x0, 0x0, 0x0⟩
def BOOT_FUSE_CORR_CORR : Fld := ⟨BOOT_FUSE_CORR, 7, 0⟩
/-- BOOT_LANE_CAL, R204. -/
def BOOT_LANE_CAL : Reg := ⟨0x1060, 0x0, 0x0, 0x0, 0x0, 0x0⟩
def BOOT_LANE_CAL_DOWN : Fld := ⟨BOOT_LANE_CAL, 23, 0⟩
/-- BOOT_STAGE_US, R204 (k below 10). -/
def BOOT_STAGE_US (k : Nat) : Reg := ⟨regOff 0x1084 0x4 10 k, 0x0, 0x0, 0x0, 0x0, 0x0⟩
def BOOT_STAGE_US_TIME (k : Nat) : Fld := ⟨BOOT_STAGE_US k, 31, 0⟩

/-! ## Registers of chapter 05 -/

/-- BOOT_IMG_CTRL, R234. -/
def BOOT_IMG_CTRL : Reg := ⟨0x1100, 0x30, 0x0, 0xF, 0x0, 0x0⟩
def BOOT_IMG_CTRL_SRC : Fld := ⟨BOOT_IMG_CTRL, 5, 4⟩
def BOOT_IMG_CTRL_KEYREC : Fld := ⟨BOOT_IMG_CTRL, 3, 3⟩
def BOOT_IMG_CTRL_STORE : Fld := ⟨BOOT_IMG_CTRL, 2, 2⟩
def BOOT_IMG_CTRL_UNLOAD : Fld := ⟨BOOT_IMG_CTRL, 1, 1⟩
def BOOT_IMG_CTRL_LOAD : Fld := ⟨BOOT_IMG_CTRL, 0, 0⟩
/-- BOOT_IMG_ADDR_LO, R235. -/
def BOOT_IMG_ADDR_LO : Reg := ⟨0x1104, 0xFFFFFFFF, 0x0, 0x0, 0x0, 0x0⟩
def BOOT_IMG_ADDR_LO_ADDR_LO : Fld := ⟨BOOT_IMG_ADDR_LO, 31, 0⟩
/-- BOOT_IMG_ADDR_HI, R235. -/
def BOOT_IMG_ADDR_HI : Reg := ⟨0x1108, 0xFFFFFFFF, 0x0, 0x0, 0x0, 0x0⟩
def BOOT_IMG_ADDR_HI_ADDR_HI : Fld := ⟨BOOT_IMG_ADDR_HI, 31, 0⟩
/-- BOOT_IMG_LEN, R235. -/
def BOOT_IMG_LEN : Reg := ⟨0x110C, 0xFFFFFFFF, 0x0, 0x0, 0x0, 0x0⟩
def BOOT_IMG_LEN_LEN : Fld := ⟨BOOT_IMG_LEN, 31, 0⟩
/-- BOOT_IMG_STATUS, R236. -/
def BOOT_IMG_STATUS : Reg := ⟨0x1110, 0x0, 0x0, 0x0, 0x0, 0x0⟩
def BOOT_IMG_STATUS_LAST_STS : Fld := ⟨BOOT_IMG_STATUS, 31, 16⟩
def BOOT_IMG_STATUS_SECTION : Fld := ⟨BOOT_IMG_STATUS, 15, 10⟩
def BOOT_IMG_STATUS_STAGE : Fld := ⟨BOOT_IMG_STATUS, 9, 6⟩
def BOOT_IMG_STATUS_BUSY : Fld := ⟨BOOT_IMG_STATUS, 2, 2⟩
def BOOT_IMG_STATUS_STATE : Fld := ⟨BOOT_IMG_STATUS, 1, 0⟩
/-- BOOT_IMG_DETAIL, R236. -/
def BOOT_IMG_DETAIL : Reg := ⟨0x1114, 0x0, 0x0, 0x0, 0x0, 0x0⟩
def BOOT_IMG_DETAIL_DETAIL : Fld := ⟨BOOT_IMG_DETAIL, 31, 16⟩
def BOOT_IMG_DETAIL_RECORD : Fld := ⟨BOOT_IMG_DETAIL, 15, 0⟩
/-- BOOT_IMG_ACTIVE, R237. -/
def BOOT_IMG_ACTIVE : Reg := ⟨0x1118, 0x0, 0x0, 0x0, 0x0, 0x0⟩
def BOOT_IMG_ACTIVE_IMAGE_ID : Fld := ⟨BOOT_IMG_ACTIVE, 31, 0⟩
/-- BOOT_IMG_REV, R237. -/
def BOOT_IMG_REV : Reg := ⟨0x111C, 0x0, 0x0, 0x0, 0x0, 0x0⟩
def BOOT_IMG_REV_IMAGE_REV : Fld := ⟨BOOT_IMG_REV, 31, 0⟩
/-- BOOT_IMG_SLOTS, R237. -/
def BOOT_IMG_SLOTS : Reg := ⟨0x1120, 0x0, 0x0, 0x0, 0x0, 0x0⟩
def BOOT_IMG_SLOTS_STORE_PENDING : Fld := ⟨BOOT_IMG_SLOTS, 31, 31⟩
def BOOT_IMG_SLOTS_NEWEST : Fld := ⟨BOOT_IMG_SLOTS, 30, 30⟩
def BOOT_IMG_SLOTS_VALID : Fld := ⟨BOOT_IMG_SLOTS, 29, 28⟩
def BOOT_IMG_SLOTS_SEQ : Fld := ⟨BOOT_IMG_SLOTS, 27, 0⟩
/-- BOOT_IMG_KEYS, R237. -/
def BOOT_IMG_KEYS : Reg := ⟨0x1124, 0x0, 0x0, 0x0, 0x0, 0x10000000⟩
def BOOT_IMG_KEYS_FILLED : Fld := ⟨BOOT_IMG_KEYS, 31, 28⟩
def BOOT_IMG_KEYS_MIN_SEC : Fld := ⟨BOOT_IMG_KEYS, 27, 0⟩
/-- BOOT_IMG_LOAD_MS, R237. -/
def BOOT_IMG_LOAD_MS : Reg := ⟨0x1128, 0x0, 0x0, 0x0, 0x0, 0x0⟩
def BOOT_IMG_LOAD_MS_LOAD_MS : Fld := ⟨BOOT_IMG_LOAD_MS, 15, 0⟩
/-- BOOT_IMG_DIGEST, R237 (k below 8). -/
def BOOT_IMG_DIGEST (k : Nat) : Reg := ⟨regOff 0x1140 0x4 8 k, 0x0, 0x0, 0x0, 0x0, 0x0⟩
def BOOT_IMG_DIGEST_DIGEST (k : Nat) : Fld := ⟨BOOT_IMG_DIGEST k, 31, 0⟩
/-- MESH_ROUTESET, R238. -/
def MESH_ROUTESET : Reg := ⟨0x50000, 0xF00, 0x0, 0x10000, 0x0, 0x0⟩
def MESH_ROUTESET_EPOCH : Fld := ⟨MESH_ROUTESET, 18, 18⟩
def MESH_ROUTESET_BUSY : Fld := ⟨MESH_ROUTESET, 17, 17⟩
def MESH_ROUTESET_GO : Fld := ⟨MESH_ROUTESET, 16, 16⟩
def MESH_ROUTESET_NEXT : Fld := ⟨MESH_ROUTESET, 11, 8⟩
def MESH_ROUTESET_CURRENT : Fld := ⟨MESH_ROUTESET, 3, 0⟩
/-- MESH_EPOCH_CFG, R238. -/
def MESH_EPOCH_CFG : Reg := ⟨0x50004, 0xFFFF, 0x0, 0x0, 0x0, 0x3E8⟩
def MESH_EPOCH_CFG_TIMEOUT_US : Fld := ⟨MESH_EPOCH_CFG, 15, 0⟩
/-- MESH_EPOCH_STATUS, R238. -/
def MESH_EPOCH_STATUS : Reg := ⟨0x50008, 0x0, 0x0, 0x0, 0x0, 0x0⟩
def MESH_EPOCH_STATUS_LAST_STS : Fld := ⟨MESH_EPOCH_STATUS, 31, 16⟩
def MESH_EPOCH_STATUS_HELD : Fld := ⟨MESH_EPOCH_STATUS, 15, 0⟩
/-- MESH_EPOCH_HOLD, R238. -/
def MESH_EPOCH_HOLD : Reg := ⟨0x5000C, 0x0, 0x0, 0x0, 0xFFFFFFFF, 0x0⟩
def MESH_EPOCH_HOLD_HOLD_NS : Fld := ⟨MESH_EPOCH_HOLD, 31, 0⟩
/-- MESH_EPOCH_COUNT, R238. -/
def MESH_EPOCH_COUNT : Reg := ⟨0x50010, 0x0, 0x0, 0x0, 0xFFFFFFFF, 0x0⟩
def MESH_EPOCH_COUNT_COUNT : Fld := ⟨MESH_EPOCH_COUNT, 31, 0⟩

/-! ## Registers of chapter 06 -/

/-- CXP_PORT_CFG, R276 (k below 8). -/
def CXP_PORT_CFG (k : Nat) : Reg := ⟨regOff 0x20000 0x1000 8 k, 0xF21, 0x0, 0x0, 0x0, 0xC00⟩
def CXP_PORT_CFG_RATE (k : Nat) : Fld := ⟨CXP_PORT_CFG k, 11, 8⟩
def CXP_PORT_CFG_UPLINK_HS (k : Nat) : Fld := ⟨CXP_PORT_CFG k, 5, 5⟩
def CXP_PORT_CFG_EN (k : Nat) : Fld := ⟨CXP_PORT_CFG k, 0, 0⟩
/-- CXP_PORT_STATUS, R276 (k below 8). -/
def CXP_PORT_STATUS (k : Nat) : Reg := ⟨regOff 0x20004 0x1000 8 k, 0x0, 0x0, 0x0, 0x0, 0x0⟩
def CXP_PORT_STATUS_LAST_STS (k : Nat) : Fld := ⟨CXP_PORT_STATUS k, 31, 16⟩
def CXP_PORT_STATUS_RATE_ACT (k : Nat) : Fld := ⟨CXP_PORT_STATUS k, 11, 8⟩
def CXP_PORT_STATUS_LANES_UP (k : Nat) : Fld := ⟨CXP_PORT_STATUS k, 6, 4⟩
def CXP_PORT_STATUS_STATE (k : Nat) : Fld := ⟨CXP_PORT_STATUS k, 2, 0⟩
/-- CXP_BIND, R277 (k below 8). -/
def CXP_BIND (k : Nat) : Reg := ⟨regOff 0x20008 0x1000 8 k, 0x3, 0x0, 0x100, 0x0, 0x0⟩
def CXP_BIND_CURRENT (k : Nat) : Fld := ⟨CXP_BIND k, 25, 24⟩
def CXP_BIND_MODE (k : Nat) : Fld := ⟨CXP_BIND k, 16, 16⟩
def CXP_BIND_PENDING (k : Nat) : Fld := ⟨CXP_BIND k, 9, 9⟩
def CXP_BIND_GO (k : Nat) : Fld := ⟨CXP_BIND k, 8, 8⟩
def CXP_BIND_NEXT (k : Nat) : Fld := ⟨CXP_BIND k, 1, 0⟩
/-- CXP_TRIG_CFG, R278 (k below 8). -/
def CXP_TRIG_CFG (k : Nat) : Reg := ⟨regOff 0x2000C 0x1000 8 k, 0xFF17FFFF, 0x0, 0x0, 0x0, 0x10000001⟩
def CXP_TRIG_CFG_MAX_OUT (k : Nat) : Fld := ⟨CXP_TRIG_CFG k, 31, 24⟩
def CXP_TRIG_CFG_POLICY (k : Nat) : Fld := ⟨CXP_TRIG_CFG k, 20, 20⟩
def CXP_TRIG_CFG_SRC (k : Nat) : Fld := ⟨CXP_TRIG_CFG k, 18, 16⟩
def CXP_TRIG_CFG_DIV (k : Nat) : Fld := ⟨CXP_TRIG_CFG k, 15, 0⟩
/-- CXP_TRIG_PHASE_LO, R278 (k below 8). -/
def CXP_TRIG_PHASE_LO (k : Nat) : Reg := ⟨regOff 0x20010 0x1000 8 k, 0xFFFFFFFF, 0x0, 0x0, 0x0, 0x0⟩
def CXP_TRIG_PHASE_LO_PHASE_LO (k : Nat) : Fld := ⟨CXP_TRIG_PHASE_LO k, 31, 0⟩
/-- CXP_TRIG_PHASE_HI, R278 (k below 8). -/
def CXP_TRIG_PHASE_HI (k : Nat) : Reg := ⟨regOff 0x20014 0x1000 8 k, 0xFFFF, 0x0, 0x0, 0x0, 0x0⟩
def CXP_TRIG_PHASE_HI_PHASE_HI (k : Nat) : Fld := ⟨CXP_TRIG_PHASE_HI k, 15, 0⟩
/-- CXP_TRIG_MINP, R278 (k below 8). -/
def CXP_TRIG_MINP (k : Nat) : Reg := ⟨regOff 0x20018 0x1000 8 k, 0xFFFFFF, 0x0, 0x0, 0x0, 0x3E8⟩
def CXP_TRIG_MINP_MIN_PERIOD_NS (k : Nat) : Fld := ⟨CXP_TRIG_MINP k, 23, 0⟩
/-- CXP_TRIG_PERIOD, R278 (k below 8). -/
def CXP_TRIG_PERIOD (k : Nat) : Reg := ⟨regOff 0x2001C 0x1000 8 k, 0xFFFFFFFF, 0x0, 0x0, 0x0, 0x0⟩
def CXP_TRIG_PERIOD_PERIOD_US (k : Nat) : Fld := ⟨CXP_TRIG_PERIOD k, 31, 0⟩
/-- CXP_TRIG_SOFT, R278 (k below 8). -/
def CXP_TRIG_SOFT (k : Nat) : Reg := ⟨regOff 0x20020 0x1000 8 k, 0x0, 0x0, 0x1, 0x0, 0x0⟩
def CXP_TRIG_SOFT_GO (k : Nat) : Fld := ⟨CXP_TRIG_SOFT k, 0, 0⟩
/-- CXP_WDOG, R279 (k below 8). -/
def CXP_WDOG (k : Nat) : Reg := ⟨regOff 0x20024 0x1000 8 k, 0xFFFFFFFF, 0x0, 0x0, 0x0, 0x6403E8⟩
def CXP_WDOG_FRAME_MS (k : Nat) : Fld := ⟨CXP_WDOG k, 31, 16⟩
def CXP_WDOG_LINE_US (k : Nat) : Fld := ⟨CXP_WDOG k, 15, 0⟩
/-- CXP_WIN, R279 (k below 8). -/
def CXP_WIN (k : Nat) : Reg := ⟨regOff 0x20028 0x1000 8 k, 0x0, 0x0, 0x0, 0x0, 0x0⟩
def CXP_WIN_SLOTS_OPEN (k : Nat) : Fld := ⟨CXP_WIN k, 7, 4⟩
def CXP_WIN_OPEN (k : Nat) : Fld := ⟨CXP_WIN k, 2, 0⟩
/-- CXP_FB_CFG, R279 (k below 8). -/
def CXP_FB_CFG (k : Nat) : Reg := ⟨regOff 0x2002C 0x1000 8 k, 0x1F, 0x0, 0x0, 0x0, 0x4⟩
def CXP_FB_CFG_SLOTS (k : Nat) : Fld := ⟨CXP_FB_CFG k, 4, 0⟩
/-- CXP_FB_STATUS, R279 (k below 8). -/
def CXP_FB_STATUS (k : Nat) : Reg := ⟨regOff 0x20030 0x1000 8 k, 0x0, 0x0, 0x0, 0x0, 0x0⟩
def CXP_FB_STATUS_FULL (k : Nat) : Fld := ⟨CXP_FB_STATUS k, 4, 0⟩
/-- CXP_HDR_SIZE, R279 (k below 8). -/
def CXP_HDR_SIZE (k : Nat) : Reg := ⟨regOff 0x20034 0x1000 8 k, 0x0, 0x0, 0x0, 0x0, 0x0⟩
def CXP_HDR_SIZE_HEIGHT (k : Nat) : Fld := ⟨CXP_HDR_SIZE k, 31, 16⟩
def CXP_HDR_SIZE_WIDTH (k : Nat) : Fld := ⟨CXP_HDR_SIZE k, 15, 0⟩
/-- CXP_HDR_FMT, R279 (k below 8). -/
def CXP_HDR_FMT (k : Nat) : Reg := ⟨regOff 0x20038 0x1000 8 k, 0x0, 0x0, 0x0, 0x0, 0x0⟩
def CXP_HDR_FMT_PIXEL_FORMAT (k : Nat) : Fld := ⟨CXP_HDR_FMT k, 31, 0⟩
/-- CXP_CNT_LINES, R280 (k below 8). -/
def CXP_CNT_LINES (k : Nat) : Reg := ⟨regOff 0x20040 0x1000 8 k, 0x0, 0x0, 0x0, 0xFFFFFFFF, 0x0⟩
def CXP_CNT_LINES_COUNT (k : Nat) : Fld := ⟨CXP_CNT_LINES k, 31, 0⟩
/-- CXP_CNT_FRAMES, R280 (k below 8). -/
def CXP_CNT_FRAMES (k : Nat) : Reg := ⟨regOff 0x20044 0x1000 8 k, 0x0, 0x0, 0x0, 0xFFFFFFFF, 0x0⟩
def CXP_CNT_FRAMES_COUNT (k : Nat) : Fld := ⟨CXP_CNT_FRAMES k, 31, 0⟩
/-- CXP_CNT_CRC, R280 (k below 8). -/
def CXP_CNT_CRC (k : Nat) : Reg := ⟨regOff 0x20048 0x1000 8 k, 0x0, 0x0, 0x0, 0xFFFFFFFF, 0x0⟩
def CXP_CNT_CRC_COUNT (k : Nat) : Fld := ⟨CXP_CNT_CRC k, 31, 0⟩
/-- CXP_CNT_SYM, R280 (k below 8). -/
def CXP_CNT_SYM (k : Nat) : Reg := ⟨regOff 0x2004C 0x1000 8 k, 0x0, 0x0, 0x0, 0xFFFFFFFF, 0x0⟩
def CXP_CNT_SYM_COUNT (k : Nat) : Fld := ⟨CXP_CNT_SYM k, 31, 0⟩
/-- CXP_CNT_MARKED, R280 (k below 8). -/
def CXP_CNT_MARKED (k : Nat) : Reg := ⟨regOff 0x20050 0x1000 8 k, 0x0, 0x0, 0x0, 0xFFFFFFFF, 0x0⟩
def CXP_CNT_MARKED_COUNT (k : Nat) : Fld := ⟨CXP_CNT_MARKED k, 31, 0⟩
/-- CXP_CNT_UNDELIV, R280 (k below 8). -/
def CXP_CNT_UNDELIV (k : Nat) : Reg := ⟨regOff 0x20054 0x1000 8 k, 0x0, 0x0, 0x0, 0xFFFFFFFF, 0x0⟩
def CXP_CNT_UNDELIV_COUNT (k : Nat) : Fld := ⟨CXP_CNT_UNDELIV k, 31, 0⟩
/-- CXP_CNT_OVERTRIG, R280 (k below 8). -/
def CXP_CNT_OVERTRIG (k : Nat) : Reg := ⟨regOff 0x20058 0x1000 8 k, 0x0, 0x0, 0x0, 0xFFFFFFFF, 0x0⟩
def CXP_CNT_OVERTRIG_COUNT (k : Nat) : Fld := ⟨CXP_CNT_OVERTRIG k, 31, 0⟩
/-- CXP_CNT_OVERRUN, R280 (k below 8). -/
def CXP_CNT_OVERRUN (k : Nat) : Reg := ⟨regOff 0x2005C 0x1000 8 k, 0x0, 0x0, 0x0, 0xFFFFFFFF, 0x0⟩
def CXP_CNT_OVERRUN_COUNT (k : Nat) : Fld := ⟨CXP_CNT_OVERRUN k, 31, 0⟩
/-- CXP_CNT_UNSOL, R280 (k below 8). -/
def CXP_CNT_UNSOL (k : Nat) : Reg := ⟨regOff 0x20060 0x1000 8 k, 0x0, 0x0, 0x0, 0xFFFFFFFF, 0x0⟩
def CXP_CNT_UNSOL_COUNT (k : Nat) : Fld := ⟨CXP_CNT_UNSOL k, 31, 0⟩
/-- CXP_CNT_DISCARD, R280 (k below 8). -/
def CXP_CNT_DISCARD (k : Nat) : Reg := ⟨regOff 0x20064 0x1000 8 k, 0x0, 0x0, 0x0, 0xFFFFFFFF, 0x0⟩
def CXP_CNT_DISCARD_COUNT (k : Nat) : Fld := ⟨CXP_CNT_DISCARD k, 31, 0⟩
/-- CXP_CNT_EVENT, R280 (k below 8). -/
def CXP_CNT_EVENT (k : Nat) : Reg := ⟨regOff 0x20068 0x1000 8 k, 0x0, 0x0, 0x0, 0xFFFFFFFF, 0x0⟩
def CXP_CNT_EVENT_COUNT (k : Nat) : Fld := ⟨CXP_CNT_EVENT k, 31, 0⟩
/-- CXP_CNT_RETRY, R280 (k below 8). -/
def CXP_CNT_RETRY (k : Nat) : Reg := ⟨regOff 0x2006C 0x1000 8 k, 0x0, 0x0, 0x0, 0xFFFFFFFF, 0x0⟩
def CXP_CNT_RETRY_COUNT (k : Nat) : Fld := ⟨CXP_CNT_RETRY k, 31, 0⟩
/-- CXP_CTRL_ADDR, R281 (k below 8). -/
def CXP_CTRL_ADDR (k : Nat) : Reg := ⟨regOff 0x20080 0x1000 8 k, 0xFFFFFFFF, 0x0, 0x0, 0x0, 0x0⟩
def CXP_CTRL_ADDR_ADDR (k : Nat) : Fld := ⟨CXP_CTRL_ADDR k, 31, 0⟩
/-- CXP_CTRL_DATA, R281 (k below 8). -/
def CXP_CTRL_DATA (k : Nat) : Reg := ⟨regOff 0x20084 0x1000 8 k, 0xFFFFFFFF, 0x0, 0x0, 0x0, 0x0⟩
def CXP_CTRL_DATA_DATA (k : Nat) : Fld := ⟨CXP_CTRL_DATA k, 31, 0⟩
/-- CXP_CTRL_CMD, R281 (k below 8). -/
def CXP_CTRL_CMD (k : Nat) : Reg := ⟨regOff 0x20088 0x1000 8 k, 0x1, 0x0, 0x80000000, 0x0, 0x0⟩
def CXP_CTRL_CMD_GO (k : Nat) : Fld := ⟨CXP_CTRL_CMD k, 31, 31⟩
def CXP_CTRL_CMD_WRITE (k : Nat) : Fld := ⟨CXP_CTRL_CMD k, 0, 0⟩
/-- CXP_CTRL_STATUS, R281 (k below 8). -/
def CXP_CTRL_STATUS (k : Nat) : Reg := ⟨regOff 0x2008C 0x1000 8 k, 0x0, 0x0, 0x0, 0x0, 0x0⟩
def CXP_CTRL_STATUS_ACK (k : Nat) : Fld := ⟨CXP_CTRL_STATUS k, 31, 16⟩
def CXP_CTRL_STATUS_TIMEOUT (k : Nat) : Fld := ⟨CXP_CTRL_STATUS k, 2, 2⟩
def CXP_CTRL_STATUS_ERROR (k : Nat) : Fld := ⟨CXP_CTRL_STATUS k, 1, 1⟩
def CXP_CTRL_STATUS_BUSY (k : Nat) : Fld := ⟨CXP_CTRL_STATUS k, 0, 0⟩
/-- CXP_CTRL_TMO, R281 (k below 8). -/
def CXP_CTRL_TMO (k : Nat) : Reg := ⟨regOff 0x20090 0x1000 8 k, 0xFFFF, 0x0, 0x0, 0x0, 0xC8⟩
def CXP_CTRL_TMO_MS (k : Nat) : Fld := ⟨CXP_CTRL_TMO k, 15, 0⟩
/-- ISP_PIPE_STATUS, R282 (k below 4). -/
def ISP_PIPE_STATUS (k : Nat) : Reg := ⟨regOff 0x30000 0x400 4 k, 0x0, 0x0, 0x0, 0x0, 0xF00⟩
def ISP_PIPE_STATUS_LAST_STS (k : Nat) : Fld := ⟨ISP_PIPE_STATUS k, 31, 16⟩
def ISP_PIPE_STATUS_INLINE_PORT (k : Nat) : Fld := ⟨ISP_PIPE_STATUS k, 11, 8⟩
def ISP_PIPE_STATUS_TM_FRAMES (k : Nat) : Fld := ⟨ISP_PIPE_STATUS k, 7, 4⟩
def ISP_PIPE_STATUS_HELD (k : Nat) : Fld := ⟨ISP_PIPE_STATUS k, 1, 1⟩
def ISP_PIPE_STATUS_RUN (k : Nat) : Fld := ⟨ISP_PIPE_STATUS k, 0, 0⟩
/-- ISP_PIPE_CELL, R282 (k below 4). -/
def ISP_PIPE_CELL (k : Nat) : Reg := ⟨regOff 0x30004 0x400 4 k, 0x80000FFF, 0x0, 0x0, 0x0, 0x0⟩
def ISP_PIPE_CELL_EN (k : Nat) : Fld := ⟨ISP_PIPE_CELL k, 31, 31⟩
def ISP_PIPE_CELL_CELL (k : Nat) : Fld := ⟨ISP_PIPE_CELL k, 11, 0⟩
/-- ISP_OUT_CFG, R282 (k below 4). -/
def ISP_OUT_CFG (k : Nat) : Reg := ⟨regOff 0x30008 0x400 4 k, 0x7F, 0x0, 0x0, 0x0, 0x8⟩
def ISP_OUT_CFG_SLOTS (k : Nat) : Fld := ⟨ISP_OUT_CFG k, 6, 0⟩
/-- ISP_OUT_TAIL, R282 (k below 4). -/
def ISP_OUT_TAIL (k : Nat) : Reg := ⟨regOff 0x3000C 0x400 4 k, 0x0, 0x0, 0x0, 0x0, 0x0⟩
def ISP_OUT_TAIL_TAIL (k : Nat) : Fld := ⟨ISP_OUT_TAIL k, 10, 0⟩
/-- ISP_OUT_HEAD, R282 (k below 4). -/
def ISP_OUT_HEAD (k : Nat) : Reg := ⟨regOff 0x30010 0x400 4 k, 0x7FF, 0x0, 0x0, 0x0, 0x0⟩
def ISP_OUT_HEAD_HEAD (k : Nat) : Fld := ⟨ISP_OUT_HEAD k, 10, 0⟩
/-- ISP_LOAD, R282 (k below 4). -/
def ISP_LOAD (k : Nat) : Reg := ⟨regOff 0x30014 0x400 4 k, 0x0, 0x0, 0x0, 0x0, 0x0⟩
def ISP_LOAD_TM_MPXS (k : Nat) : Fld := ⟨ISP_LOAD k, 31, 16⟩
def ISP_LOAD_INLINE_MPXS (k : Nat) : Fld := ⟨ISP_LOAD k, 15, 0⟩
/-- ISP_CNT_PARTS, R283 (k below 4). -/
def ISP_CNT_PARTS (k : Nat) : Reg := ⟨regOff 0x30020 0x400 4 k, 0x0, 0x0, 0x0, 0xFFFFFFFF, 0x0⟩
def ISP_CNT_PARTS_COUNT (k : Nat) : Fld := ⟨ISP_CNT_PARTS k, 31, 0⟩
/-- ISP_CNT_TM_FRAMES, R283 (k below 4). -/
def ISP_CNT_TM_FRAMES (k : Nat) : Reg := ⟨regOff 0x30024 0x400 4 k, 0x0, 0x0, 0x0, 0xFFFFFFFF, 0x0⟩
def ISP_CNT_TM_FRAMES_COUNT (k : Nat) : Fld := ⟨ISP_CNT_TM_FRAMES k, 31, 0⟩
/-- ISP_CNT_OUT_FULL, R283 (k below 4). -/
def ISP_CNT_OUT_FULL (k : Nat) : Reg := ⟨regOff 0x30028 0x400 4 k, 0x0, 0x0, 0x0, 0xFFFFFFFF, 0x0⟩
def ISP_CNT_OUT_FULL_COUNT (k : Nat) : Fld := ⟨ISP_CNT_OUT_FULL k, 31, 0⟩
/-- ISP_CNT_PRESENCE, R283 (k below 4). -/
def ISP_CNT_PRESENCE (k : Nat) : Reg := ⟨regOff 0x3002C 0x400 4 k, 0x0, 0x0, 0x0, 0xFFFFFFFF, 0x0⟩
def ISP_CNT_PRESENCE_COUNT (k : Nat) : Fld := ⟨ISP_CNT_PRESENCE k, 31, 0⟩
/-- ISP_CNT_OUTSIDE, R283 (k below 4). -/
def ISP_CNT_OUTSIDE (k : Nat) : Reg := ⟨regOff 0x30030 0x400 4 k, 0x0, 0x0, 0x0, 0xFFFFFFFF, 0x0⟩
def ISP_CNT_OUTSIDE_COUNT (k : Nat) : Fld := ⟨ISP_CNT_OUTSIDE k, 31, 0⟩

/-! ## Registers of chapter 07 -/

/-- MOT_CH_CFG, R321 (k below 4). -/
def MOT_CH_CFG (k : Nat) : Reg := ⟨regOff 0x10000 0x100 4 k, 0xFF1, 0x0, 0x0, 0x0, 0xA00⟩
def MOT_CH_CFG_AVG (k : Nat) : Fld := ⟨MOT_CH_CFG k, 11, 10⟩
def MOT_CH_CFG_WIRE_STOP (k : Nat) : Fld := ⟨MOT_CH_CFG k, 9, 9⟩
def MOT_CH_CFG_Z_EN (k : Nat) : Fld := ⟨MOT_CH_CFG k, 8, 8⟩
def MOT_CH_CFG_DIR_INV (k : Nat) : Fld := ⟨MOT_CH_CFG k, 7, 7⟩
def MOT_CH_CFG_MODE (k : Nat) : Fld := ⟨MOT_CH_CFG k, 6, 4⟩
def MOT_CH_CFG_EN (k : Nat) : Fld := ⟨MOT_CH_CFG k, 0, 0⟩
/-- MOT_CH_QUAL, R322 (k below 4). -/
def MOT_CH_QUAL (k : Nat) : Reg := ⟨regOff 0x10004 0x100 4 k, 0xFFFF, 0x0, 0x0, 0x0, 0x14⟩
def MOT_CH_QUAL_QUAL_NS (k : Nat) : Fld := ⟨MOT_CH_QUAL k, 15, 0⟩
/-- MOT_CH_SPACE, R322 (k below 4). -/
def MOT_CH_SPACE (k : Nat) : Reg := ⟨regOff 0x10008 0x100 4 k, 0xFFFFFF, 0x0, 0x0, 0x0, 0x32⟩
def MOT_CH_SPACE_MIN_SPACE_NS (k : Nat) : Fld := ⟨MOT_CH_SPACE k, 23, 0⟩
/-- MOT_CH_WIRE, R322 (k below 4). -/
def MOT_CH_WIRE (k : Nat) : Reg := ⟨regOff 0x1000C 0x100 4 k, 0xFFFF00FF, 0x0, 0x0, 0x0, 0xA0004⟩
def MOT_CH_WIRE_FAULT_MS (k : Nat) : Fld := ⟨MOT_CH_WIRE k, 31, 16⟩
def MOT_CH_WIRE_WIRE_CYC (k : Nat) : Fld := ⟨MOT_CH_WIRE k, 7, 0⟩
/-- MOT_CH_GATE, R322 (k below 4). -/
def MOT_CH_GATE (k : Nat) : Reg := ⟨regOff 0x10010 0x100 4 k, 0xFFFF, 0x0, 0x0, 0x0, 0x3E8⟩
def MOT_CH_GATE_GATE_US (k : Nat) : Fld := ⟨MOT_CH_GATE k, 15, 0⟩
/-- MOT_CH_VHI, R322 (k below 4). -/
def MOT_CH_VHI (k : Nat) : Reg := ⟨regOff 0x10014 0x100 4 k, 0xFFFFFF, 0x0, 0x0, 0x0, 0xF4240⟩
def MOT_CH_VHI_V_HI (k : Nat) : Fld := ⟨MOT_CH_VHI k, 23, 0⟩
/-- MOT_CH_VLO, R322 (k below 4). -/
def MOT_CH_VLO (k : Nat) : Reg := ⟨regOff 0x10018 0x100 4 k, 0xFFFFFF, 0x0, 0x0, 0x0, 0xC3500⟩
def MOT_CH_VLO_V_LO (k : Nat) : Fld := ⟨MOT_CH_VLO k, 23, 0⟩
/-- MOT_CH_CPR, R322 (k below 4). -/
def MOT_CH_CPR (k : Nat) : Reg := ⟨regOff 0x1001C 0x100 4 k, 0xFFFFFF, 0x0, 0x0, 0x0, 0x0⟩
def MOT_CH_CPR_CPR (k : Nat) : Fld := ⟨MOT_CH_CPR k, 23, 0⟩
/-- MOT_CH_X_LO, R323 (k below 4). -/
def MOT_CH_X_LO (k : Nat) : Reg := ⟨regOff 0x10020 0x100 4 k, 0xFFFFFFFF, 0x0, 0x0, 0x0, 0x0⟩
def MOT_CH_X_LO_X_LO (k : Nat) : Fld := ⟨MOT_CH_X_LO k, 31, 0⟩
/-- MOT_CH_X_HI, R323 (k below 4). -/
def MOT_CH_X_HI (k : Nat) : Reg := ⟨regOff 0x10024 0x100 4 k, 0xFFFF, 0x0, 0x0, 0x0, 0x0⟩
def MOT_CH_X_HI_X_HI (k : Nat) : Fld := ⟨MOT_CH_X_HI k, 15, 0⟩
/-- MOT_CH_E_LO, R323 (k below 4). -/
def MOT_CH_E_LO (k : Nat) : Reg := ⟨regOff 0x10028 0x100 4 k, 0x0, 0x0, 0x0, 0x0, 0x0⟩
def MOT_CH_E_LO_E_LO (k : Nat) : Fld := ⟨MOT_CH_E_LO k, 31, 0⟩
/-- MOT_CH_E_HI, R323 (k below 4). -/
def MOT_CH_E_HI (k : Nat) : Reg := ⟨regOff 0x1002C 0x100 4 k, 0x0, 0x0, 0x0, 0x0, 0x0⟩
def MOT_CH_E_HI_E_HI (k : Nat) : Fld := ⟨MOT_CH_E_HI k, 15, 0⟩
/-- MOT_CH_SPEED, R323 (k below 4). -/
def MOT_CH_SPEED (k : Nat) : Reg := ⟨regOff 0x10030 0x100 4 k, 0x0, 0x0, 0x0, 0x0, 0x0⟩
def MOT_CH_SPEED_SPEED (k : Nat) : Fld := ⟨MOT_CH_SPEED k, 31, 0⟩
/-- MOT_CH_STATUS, R324 (k below 4). -/
def MOT_CH_STATUS (k : Nat) : Reg := ⟨regOff 0x10034 0x100 4 k, 0x0, 0x20, 0x0, 0x0, 0x0⟩
def MOT_CH_STATUS_LAST_STS (k : Nat) : Fld := ⟨MOT_CH_STATUS k, 31, 16⟩
def MOT_CH_STATUS_HALL (k : Nat) : Fld := ⟨MOT_CH_STATUS k, 15, 13⟩
def MOT_CH_STATUS_LEVEL (k : Nat) : Fld := ⟨MOT_CH_STATUS k, 11, 9⟩
def MOT_CH_STATUS_SENSOR_FAULT (k : Nat) : Fld := ⟨MOT_CH_STATUS k, 7, 7⟩
def MOT_CH_STATUS_WIRE_FAULT (k : Nat) : Fld := ⟨MOT_CH_STATUS k, 6, 6⟩
def MOT_CH_STATUS_WIRE_SEEN (k : Nat) : Fld := ⟨MOT_CH_STATUS k, 5, 5⟩
def MOT_CH_STATUS_BACKWARD (k : Nat) : Fld := ⟨MOT_CH_STATUS k, 4, 4⟩
def MOT_CH_STATUS_METHOD (k : Nat) : Fld := ⟨MOT_CH_STATUS k, 3, 3⟩
def MOT_CH_STATUS_SPEED_VALID (k : Nat) : Fld := ⟨MOT_CH_STATUS k, 2, 2⟩
def MOT_CH_STATUS_IDX_VALID (k : Nat) : Fld := ⟨MOT_CH_STATUS k, 1, 1⟩
def MOT_CH_STATUS_ACTIVE (k : Nat) : Fld := ⟨MOT_CH_STATUS k, 0, 0⟩
/-- MOT_CH_IDX_LO, R323 (k below 4). -/
def MOT_CH_IDX_LO (k : Nat) : Reg := ⟨regOff 0x10038 0x100 4 k, 0x0, 0x0, 0x0, 0x0, 0x0⟩
def MOT_CH_IDX_LO_IDX_LO (k : Nat) : Fld := ⟨MOT_CH_IDX_LO k, 31, 0⟩
/-- MOT_CH_IDX_HI, R323 (k below 4). -/
def MOT_CH_IDX_HI (k : Nat) : Reg := ⟨regOff 0x1003C 0x100 4 k, 0x0, 0x0, 0x0, 0x0, 0x0⟩
def MOT_CH_IDX_HI_IDX_HI (k : Nat) : Fld := ⟨MOT_CH_IDX_HI k, 15, 0⟩
/-- MOT_CH_CNT_GLITCH, R325 (k below 4). -/
def MOT_CH_CNT_GLITCH (k : Nat) : Reg := ⟨regOff 0x10040 0x100 4 k, 0x0, 0x0, 0x0, 0xFFFFFFFF, 0x0⟩
def MOT_CH_CNT_GLITCH_COUNT (k : Nat) : Fld := ⟨MOT_CH_CNT_GLITCH k, 31, 0⟩
/-- MOT_CH_CNT_WIRE, R325 (k below 4). -/
def MOT_CH_CNT_WIRE (k : Nat) : Reg := ⟨regOff 0x10044 0x100 4 k, 0x0, 0x0, 0x0, 0xFFFFFFFF, 0x0⟩
def MOT_CH_CNT_WIRE_COUNT (k : Nat) : Fld := ⟨MOT_CH_CNT_WIRE k, 31, 0⟩
/-- MOT_CH_CNT_QUAD, R325 (k below 4). -/
def MOT_CH_CNT_QUAD (k : Nat) : Reg := ⟨regOff 0x10048 0x100 4 k, 0x0, 0x0, 0x0, 0xFFFFFFFF, 0x0⟩
def MOT_CH_CNT_QUAD_COUNT (k : Nat) : Fld := ⟨MOT_CH_CNT_QUAD k, 31, 0⟩
/-- MOT_CH_CNT_INDEX, R325 (k below 4). -/
def MOT_CH_CNT_INDEX (k : Nat) : Reg := ⟨regOff 0x1004C 0x100 4 k, 0x0, 0x0, 0x0, 0xFFFFFFFF, 0x0⟩
def MOT_CH_CNT_INDEX_COUNT (k : Nat) : Fld := ⟨MOT_CH_CNT_INDEX k, 31, 0⟩
/-- MOT_CH_CNT_SER, R325 (k below 4). -/
def MOT_CH_CNT_SER (k : Nat) : Reg := ⟨regOff 0x10050 0x100 4 k, 0x0, 0x0, 0x0, 0xFFFFFFFF, 0x0⟩
def MOT_CH_CNT_SER_COUNT (k : Nat) : Fld := ⟨MOT_CH_CNT_SER k, 31, 0⟩
/-- MOT_CH_CNT_REV, R325 (k below 4). -/
def MOT_CH_CNT_REV (k : Nat) : Reg := ⟨regOff 0x10054 0x100 4 k, 0x0, 0x0, 0x0, 0xFFFFFFFF, 0x0⟩
def MOT_CH_CNT_REV_COUNT (k : Nat) : Fld := ⟨MOT_CH_CNT_REV k, 31, 0⟩
/-- MOT_CH_SER_CFG, R326 (k below 4). -/
def MOT_CH_SER_CFG (k : Nat) : Reg := ⟨regOff 0x10060 0x100 4 k, 0xFFFF007F, 0x0, 0x0, 0x0, 0x3E80059⟩
def MOT_CH_SER_CFG_CLK_KHZ (k : Nat) : Fld := ⟨MOT_CH_SER_CFG k, 31, 16⟩
def MOT_CH_SER_CFG_GRAY (k : Nat) : Fld := ⟨MOT_CH_SER_CFG k, 6, 6⟩
def MOT_CH_SER_CFG_BITS (k : Nat) : Fld := ⟨MOT_CH_SER_CFG k, 5, 0⟩
/-- MOT_CH_SER_TIM, R326 (k below 4). -/
def MOT_CH_SER_TIM (k : Nat) : Reg := ⟨regOff 0x10064 0x100 4 k, 0xFFFFFFFF, 0x0, 0x0, 0x0, 0x280032⟩
def MOT_CH_SER_TIM_TMO_US (k : Nat) : Fld := ⟨MOT_CH_SER_TIM k, 31, 16⟩
def MOT_CH_SER_TIM_POLL_US (k : Nat) : Fld := ⟨MOT_CH_SER_TIM k, 15, 0⟩
/-- MOT_CH_SER_CRC, R326 (k below 4). -/
def MOT_CH_SER_CRC (k : Nat) : Reg := ⟨regOff 0x10068 0x100 4 k, 0x1FFFFF, 0x0, 0x0, 0x0, 0x60003⟩
def MOT_CH_SER_CRC_CRC_LEN (k : Nat) : Fld := ⟨MOT_CH_SER_CRC k, 20, 16⟩
def MOT_CH_SER_CRC_POLY (k : Nat) : Fld := ⟨MOT_CH_SER_CRC k, 15, 0⟩
/-- MOT_CH_SER_JUMP, R326 (k below 4). -/
def MOT_CH_SER_JUMP (k : Nat) : Reg := ⟨regOff 0x1006C 0x100 4 k, 0xF0FFFFFF, 0x0, 0x0, 0x0, 0x300003E8⟩
def MOT_CH_SER_JUMP_FAIL_MAX (k : Nat) : Fld := ⟨MOT_CH_SER_JUMP k, 31, 28⟩
def MOT_CH_SER_JUMP_JUMP_MAX (k : Nat) : Fld := ⟨MOT_CH_SER_JUMP k, 23, 0⟩
/-- MOT_CH_SER_DLY, R326 (k below 4). -/
def MOT_CH_SER_DLY (k : Nat) : Reg := ⟨regOff 0x10070 0x100 4 k, 0xFFFF, 0x0, 0x0, 0x0, 0x0⟩
def MOT_CH_SER_DLY_MEAS_NS (k : Nat) : Fld := ⟨MOT_CH_SER_DLY k, 31, 16⟩
def MOT_CH_SER_DLY_SSI_NS (k : Nat) : Fld := ⟨MOT_CH_SER_DLY k, 15, 0⟩
/-- EJ_OUT_CFG, R327 (k below 16). -/
def EJ_OUT_CFG (k : Nat) : Reg := ⟨regOff 0x12000 0x40 16 k, 0x39, 0x0, 0x0, 0x0, 0x10⟩
def EJ_OUT_CFG_CHAN (k : Nat) : Fld := ⟨EJ_OUT_CFG k, 31, 30⟩
def EJ_OUT_CFG_REARM (k : Nat) : Fld := ⟨EJ_OUT_CFG k, 5, 4⟩
def EJ_OUT_CFG_WIDTH_CNT (k : Nat) : Fld := ⟨EJ_OUT_CFG k, 3, 3⟩
def EJ_OUT_CFG_EN (k : Nat) : Fld := ⟨EJ_OUT_CFG k, 0, 0⟩
/-- EJ_OUT_WIDTH, R327 (k below 16). -/
def EJ_OUT_WIDTH (k : Nat) : Reg := ⟨regOff 0x12004 0x40 16 k, 0xFFFFFF, 0x0, 0x0, 0x0, 0x4E20⟩
def EJ_OUT_WIDTH_WIDTH (k : Nat) : Fld := ⟨EJ_OUT_WIDTH k, 23, 0⟩
/-- EJ_OUT_TIMING, R327 (k below 16). -/
def EJ_OUT_TIMING (k : Nat) : Reg := ⟨regOff 0x12008 0x40 16 k, 0xFFFFFFFF, 0x0, 0x0, 0x0, 0x3E80000⟩
def EJ_OUT_TIMING_MIN_OFF_US (k : Nat) : Fld := ⟨EJ_OUT_TIMING k, 31, 16⟩
def EJ_OUT_TIMING_ON_DELAY_US (k : Nat) : Fld := ⟨EJ_OUT_TIMING k, 15, 0⟩
/-- EJ_OUT_LIMIT, R327 (k below 16). -/
def EJ_OUT_LIMIT (k : Nat) : Reg := ⟨regOff 0x1200C 0x40 16 k, 0xFFFFFFFF, 0x0, 0x0, 0x0, 0x3E80032⟩
def EJ_OUT_LIMIT_MAX_ON_MS (k : Nat) : Fld := ⟨EJ_OUT_LIMIT k, 31, 16⟩
def EJ_OUT_LIMIT_DEFER_MAX_MS (k : Nat) : Fld := ⟨EJ_OUT_LIMIT k, 15, 0⟩
/-- EJ_OUT_STATUS, R328 (k below 16). -/
def EJ_OUT_STATUS (k : Nat) : Reg := ⟨regOff 0x12010 0x40 16 k, 0x0, 0x0, 0x0, 0x0, 0x0⟩
def EJ_OUT_STATUS_FILL (k : Nat) : Fld := ⟨EJ_OUT_STATUS k, 24, 16⟩
def EJ_OUT_STATUS_HELD (k : Nat) : Fld := ⟨EJ_OUT_STATUS k, 15, 7⟩
def EJ_OUT_STATUS_STATE (k : Nat) : Fld := ⟨EJ_OUT_STATUS k, 2, 0⟩
/-- EJ_OUT_CTRL, R328 (k below 16). -/
def EJ_OUT_CTRL (k : Nat) : Reg := ⟨regOff 0x12014 0x40 16 k, 0x0, 0x0, 0x1, 0x0, 0x0⟩
def EJ_OUT_CTRL_FLUSH (k : Nat) : Fld := ⟨EJ_OUT_CTRL k, 0, 0⟩
/-- EJ_OUT_HEAD_LO, R328 (k below 16). -/
def EJ_OUT_HEAD_LO (k : Nat) : Reg := ⟨regOff 0x12018 0x40 16 k, 0x0, 0x0, 0x0, 0x0, 0x0⟩
def EJ_OUT_HEAD_LO_HEAD_LO (k : Nat) : Fld := ⟨EJ_OUT_HEAD_LO k, 31, 0⟩
/-- EJ_OUT_HEAD_HI, R328 (k below 16). -/
def EJ_OUT_HEAD_HI (k : Nat) : Reg := ⟨regOff 0x1201C 0x40 16 k, 0x0, 0x0, 0x0, 0x0, 0x0⟩
def EJ_OUT_HEAD_HI_VALID (k : Nat) : Fld := ⟨EJ_OUT_HEAD_HI k, 31, 31⟩
def EJ_OUT_HEAD_HI_HEAD_HI (k : Nat) : Fld := ⟨EJ_OUT_HEAD_HI k, 15, 0⟩
/-- EJ_OUT_CNT_FIRED, R328 (k below 16). -/
def EJ_OUT_CNT_FIRED (k : Nat) : Reg := ⟨regOff 0x12020 0x40 16 k, 0x0, 0x0, 0x0, 0xFFFFFFFF, 0x0⟩
def EJ_OUT_CNT_FIRED_COUNT (k : Nat) : Fld := ⟨EJ_OUT_CNT_FIRED k, 31, 0⟩
/-- EJ_OUT_CNT_COALESCED, R328 (k below 16). -/
def EJ_OUT_CNT_COALESCED (k : Nat) : Reg := ⟨regOff 0x12024 0x40 16 k, 0x0, 0x0, 0x0, 0xFFFFFFFF, 0x0⟩
def EJ_OUT_CNT_COALESCED_COUNT (k : Nat) : Fld := ⟨EJ_OUT_CNT_COALESCED k, 31, 0⟩
/-- EJ_OUT_CNT_EXTENDED, R328 (k below 16). -/
def EJ_OUT_CNT_EXTENDED (k : Nat) : Reg := ⟨regOff 0x12028 0x40 16 k, 0x0, 0x0, 0x0, 0xFFFFFFFF, 0x0⟩
def EJ_OUT_CNT_EXTENDED_COUNT (k : Nat) : Fld := ⟨EJ_OUT_CNT_EXTENDED k, 31, 0⟩
/-- EJ_OUT_CNT_DEFERRED, R328 (k below 16). -/
def EJ_OUT_CNT_DEFERRED (k : Nat) : Reg := ⟨regOff 0x1202C 0x40 16 k, 0x0, 0x0, 0x0, 0xFFFFFFFF, 0x0⟩
def EJ_OUT_CNT_DEFERRED_COUNT (k : Nat) : Fld := ⟨EJ_OUT_CNT_DEFERRED k, 31, 0⟩
/-- EJ_OUT_CNT_SKIPPED, R328 (k below 16). -/
def EJ_OUT_CNT_SKIPPED (k : Nat) : Reg := ⟨regOff 0x12030 0x40 16 k, 0x0, 0x0, 0x0, 0xFFFFFFFF, 0x0⟩
def EJ_OUT_CNT_SKIPPED_COUNT (k : Nat) : Fld := ⟨EJ_OUT_CNT_SKIPPED k, 31, 0⟩
/-- EJ_CTRL, R329. -/
def EJ_CTRL : Reg := ⟨0x12400, 0x1, 0x0, 0x0, 0x0, 0x0⟩
def EJ_CTRL_EN : Fld := ⟨EJ_CTRL, 0, 0⟩
/-- EJ_ARM_KEY_LO, R329. -/
def EJ_ARM_KEY_LO : Reg := ⟨0x12404, 0xFFFFFFFF, 0x0, 0x0, 0x0, 0x0⟩
def EJ_ARM_KEY_LO_KEY_LO : Fld := ⟨EJ_ARM_KEY_LO, 31, 0⟩
/-- EJ_ARM_KEY_HI, R329. -/
def EJ_ARM_KEY_HI : Reg := ⟨0x12408, 0xFFFFFFFF, 0x0, 0x0, 0x0, 0x0⟩
def EJ_ARM_KEY_HI_KEY_HI : Fld := ⟨EJ_ARM_KEY_HI, 31, 0⟩
/-- EJ_ARM_SEQ, R329. -/
def EJ_ARM_SEQ : Reg := ⟨0x1240C, 0xFFFFFFFF, 0x0, 0x0, 0x0, 0x0⟩
def EJ_ARM_SEQ_SEQ : Fld := ⟨EJ_ARM_SEQ, 31, 0⟩
/-- EJ_ARM_CMD, R329. -/
def EJ_ARM_CMD : Reg := ⟨0x12410, 0x10F, 0x0, 0x80000000, 0x0, 0x0⟩
def EJ_ARM_CMD_GO : Fld := ⟨EJ_ARM_CMD, 31, 31⟩
def EJ_ARM_CMD_TIME : Fld := ⟨EJ_ARM_CMD, 8, 8⟩
def EJ_ARM_CMD_OUT : Fld := ⟨EJ_ARM_CMD, 3, 0⟩
/-- EJ_ARM_STATUS, R329. -/
def EJ_ARM_STATUS : Reg := ⟨0x12414, 0x0, 0x0, 0x0, 0x0, 0x0⟩
def EJ_ARM_STATUS_LAST_STS : Fld := ⟨EJ_ARM_STATUS, 31, 16⟩
def EJ_ARM_STATUS_ACCEPTED : Fld := ⟨EJ_ARM_STATUS, 0, 0⟩
/-- EJ_LOG_TAIL, R329. -/
def EJ_LOG_TAIL : Reg := ⟨0x12420, 0x0, 0x0, 0x0, 0x0, 0x0⟩
def EJ_LOG_TAIL_TAIL : Fld := ⟨EJ_LOG_TAIL, 15, 0⟩
/-- EJ_LOG_SEL, R329. -/
def EJ_LOG_SEL : Reg := ⟨0x12424, 0x3FF, 0x0, 0x0, 0x0, 0x0⟩
def EJ_LOG_SEL_INDEX : Fld := ⟨EJ_LOG_SEL, 9, 0⟩
/-- EJ_LOG_LOST, R329. -/
def EJ_LOG_LOST : Reg := ⟨0x12428, 0x0, 0x0, 0x0, 0xFFFFFFFF, 0x0⟩
def EJ_LOG_LOST_LOST : Fld := ⟨EJ_LOG_LOST, 31, 0⟩
/-- EJ_LOG_DATA, R329 (k below 8). -/
def EJ_LOG_DATA (k : Nat) : Reg := ⟨regOff 0x12440 0x4 8 k, 0x0, 0x0, 0x0, 0x0, 0x0⟩
def EJ_LOG_DATA_DATA (k : Nat) : Fld := ⟨EJ_LOG_DATA k, 31, 0⟩

/-! ## Registers of chapter 08 -/

/-- PTP_CFG, R358. -/
def PTP_CFG : Reg := ⟨0x8000, 0xFF00003F, 0x0, 0x0, 0x0, 0x0⟩
def PTP_CFG_DOMAIN : Fld := ⟨PTP_CFG, 31, 24⟩
def PTP_CFG_ROLE : Fld := ⟨PTP_CFG, 5, 4⟩
def PTP_CFG_P2P : Fld := ⟨PTP_CFG, 3, 3⟩
def PTP_CFG_ONE_STEP : Fld := ⟨PTP_CFG, 2, 2⟩
def PTP_CFG_UDP : Fld := ⟨PTP_CFG, 1, 1⟩
def PTP_CFG_EN : Fld := ⟨PTP_CFG, 0, 0⟩
/-- PTP_STATUS, R358. -/
def PTP_STATUS : Reg := ⟨0x8004, 0x0, 0x0, 0x0, 0x0, 0x0⟩
def PTP_STATUS_LAST_STS : Fld := ⟨PTP_STATUS, 31, 16⟩
def PTP_STATUS_STEP_SEQ : Fld := ⟨PTP_STATUS, 15, 8⟩
def PTP_STATUS_SYNC : Fld := ⟨PTP_STATUS, 7, 6⟩
def PTP_STATUS_MOT_FREERUN : Fld := ⟨PTP_STATUS, 5, 5⟩
/-- PTP_SNAP_FRAC, R359. -/
def PTP_SNAP_FRAC : Reg := ⟨0x8010, 0x0, 0x0, 0x0, 0x0, 0x0⟩
def PTP_SNAP_FRAC_FRAC : Fld := ⟨PTP_SNAP_FRAC, 15, 0⟩
/-- PTP_SNAP_NS, R359. -/
def PTP_SNAP_NS : Reg := ⟨0x8014, 0x0, 0x0, 0x0, 0x0, 0x0⟩
def PTP_SNAP_NS_NS : Fld := ⟨PTP_SNAP_NS, 29, 0⟩
/-- PTP_SNAP_SEC_LO, R359. -/
def PTP_SNAP_SEC_LO : Reg := ⟨0x8018, 0x0, 0x0, 0x0, 0x0, 0x0⟩
def PTP_SNAP_SEC_LO_SEC_LO : Fld := ⟨PTP_SNAP_SEC_LO, 31, 0⟩
/-- PTP_SNAP_SEC_HI, R359. -/
def PTP_SNAP_SEC_HI : Reg := ⟨0x801C, 0x0, 0x0, 0x0, 0x0, 0x0⟩
def PTP_SNAP_SEC_HI_SEC_HI : Fld := ⟨PTP_SNAP_SEC_HI, 31, 0⟩
/-- PTP_SNAP_MONO_LO, R359. -/
def PTP_SNAP_MONO_LO : Reg := ⟨0x8020, 0x0, 0x0, 0x0, 0x0, 0x0⟩
def PTP_SNAP_MONO_LO_MONO_LO : Fld := ⟨PTP_SNAP_MONO_LO, 31, 0⟩
/-- PTP_SNAP_MONO_HI, R359. -/
def PTP_SNAP_MONO_HI : Reg := ⟨0x8024, 0x0, 0x0, 0x0, 0x0, 0x0⟩
def PTP_SNAP_MONO_HI_MONO_HI : Fld := ⟨PTP_SNAP_MONO_HI, 31, 0⟩
/-- PTP_RATE, R360. -/
def PTP_RATE : Reg := ⟨0x8030, 0xFFFFFFFF, 0x0, 0x0, 0x0, 0x0⟩
def PTP_RATE_RATE : Fld := ⟨PTP_RATE, 31, 0⟩
/-- PTP_STEP_SEC_LO, R360. -/
def PTP_STEP_SEC_LO : Reg := ⟨0x8034, 0xFFFFFFFF, 0x0, 0x0, 0x0, 0x0⟩
def PTP_STEP_SEC_LO_STEP_SEC_LO : Fld := ⟨PTP_STEP_SEC_LO, 31, 0⟩
/-- PTP_STEP_SEC_HI, R360. -/
def PTP_STEP_SEC_HI : Reg := ⟨0x8038, 0xFFFFFFFF, 0x0, 0x0, 0x0, 0x0⟩
def PTP_STEP_SEC_HI_STEP_SEC_HI : Fld := ⟨PTP_STEP_SEC_HI, 31, 0⟩
/-- PTP_STEP_NS, R360. -/
def PTP_STEP_NS : Reg := ⟨0x803C, 0x3FFFFFFF, 0x0, 0x0, 0x0, 0x0⟩
def PTP_STEP_NS_STEP_NS : Fld := ⟨PTP_STEP_NS, 29, 0⟩
/-- PTP_STEP_CTRL, R360. -/
def PTP_STEP_CTRL : Reg := ⟨0x8040, 0x0, 0x0, 0x80000000, 0x0, 0x0⟩
def PTP_STEP_CTRL_GO : Fld := ⟨PTP_STEP_CTRL, 31, 31⟩
def PTP_STEP_CTRL_BUSY : Fld := ⟨PTP_STEP_CTRL, 0, 0⟩
/-- PTP_OFS_NS, R360. -/
def PTP_OFS_NS : Reg := ⟨0x8044, 0x0, 0x0, 0x0, 0x0, 0x0⟩
def PTP_OFS_NS_OFS_NS : Fld := ⟨PTP_OFS_NS, 29, 0⟩
/-- PTP_OFS_SEC_LO, R360. -/
def PTP_OFS_SEC_LO : Reg := ⟨0x8048, 0x0, 0x0, 0x0, 0x0, 0x0⟩
def PTP_OFS_SEC_LO_OFS_SEC_LO : Fld := ⟨PTP_OFS_SEC_LO, 31, 0⟩
/-- PTP_OFS_SEC_HI, R360. -/
def PTP_OFS_SEC_HI : Reg := ⟨0x804C, 0x0, 0x0, 0x0, 0x0, 0x0⟩
def PTP_OFS_SEC_HI_OFS_SEC_HI : Fld := ⟨PTP_OFS_SEC_HI, 31, 0⟩
/-- PTP_SERVO_CFG, R361. -/
def PTP_SERVO_CFG : Reg := ⟨0x8050, 0xFFFFF03, 0x0, 0x0, 0x0, 0x7A12000⟩
def PTP_SERVO_CFG_MAX_PPB : Fld := ⟨PTP_SERVO_CFG, 27, 8⟩
def PTP_SERVO_CFG_MODE : Fld := ⟨PTP_SERVO_CFG, 1, 0⟩
/-- PTP_STEP_THR, R361. -/
def PTP_STEP_THR : Reg := ⟨0x8054, 0xFFFFFFFF, 0x0, 0x0, 0x0, 0x186A0⟩
def PTP_STEP_THR_STEP_THR : Fld := ⟨PTP_STEP_THR, 31, 0⟩
/-- PTP_SERVO_GAIN, R361. -/
def PTP_SERVO_GAIN : Reg := ⟨0x8058, 0xFFFFFFFF, 0x0, 0x0, 0x0, 0xB3334CCD⟩
def PTP_SERVO_GAIN_KP : Fld := ⟨PTP_SERVO_GAIN, 31, 16⟩
def PTP_SERVO_GAIN_KI : Fld := ⟨PTP_SERVO_GAIN, 15, 0⟩
/-- PTP_HOLD, R361. -/
def PTP_HOLD : Reg := ⟨0x805C, 0xFFFFFFFF, 0x0, 0x0, 0x0, 0xBB80064⟩
def PTP_HOLD_HOLD_MS : Fld := ⟨PTP_HOLD, 31, 16⟩
def PTP_HOLD_LOCK_NS : Fld := ⟨PTP_HOLD, 15, 0⟩
/-- PTP_SMP_STATUS, R362. -/
def PTP_SMP_STATUS : Reg := ⟨0x8060, 0x0, 0x0, 0x0, 0xFFFF0000, 0x0⟩
def PTP_SMP_STATUS_LOST : Fld := ⟨PTP_SMP_STATUS, 31, 16⟩
def PTP_SMP_STATUS_SEQ : Fld := ⟨PTP_SMP_STATUS, 15, 8⟩
def PTP_SMP_STATUS_PORT : Fld := ⟨PTP_SMP_STATUS, 7, 7⟩
def PTP_SMP_STATUS_COUNT : Fld := ⟨PTP_SMP_STATUS, 4, 0⟩
/-- PTP_SMP_OFS_LO, R362. -/
def PTP_SMP_OFS_LO : Reg := ⟨0x8064, 0x0, 0x0, 0x0, 0x0, 0x0⟩
def PTP_SMP_OFS_LO_OFS_LO : Fld := ⟨PTP_SMP_OFS_LO, 31, 0⟩
/-- PTP_SMP_OFS_HI, R362. -/
def PTP_SMP_OFS_HI : Reg := ⟨0x8068, 0x0, 0x0, 0x0, 0x0, 0x0⟩
def PTP_SMP_OFS_HI_OFS_HI : Fld := ⟨PTP_SMP_OFS_HI, 31, 0⟩
/-- PTP_SMP_DELAY, R362. -/
def PTP_SMP_DELAY : Reg := ⟨0x806C, 0x0, 0x0, 0x0, 0x0, 0x0⟩
def PTP_SMP_DELAY_DELAY : Fld := ⟨PTP_SMP_DELAY, 31, 0⟩
/-- PTP_SMP_MONO_LO, R362. -/
def PTP_SMP_MONO_LO : Reg := ⟨0x8070, 0x0, 0x0, 0x0, 0x0, 0x0⟩
def PTP_SMP_MONO_LO_MONO_LO : Fld := ⟨PTP_SMP_MONO_LO, 31, 0⟩
/-- PTP_SMP_MONO_HI, R362. -/
def PTP_SMP_MONO_HI : Reg := ⟨0x8074, 0x0, 0x0, 0x0, 0x0, 0x0⟩
def PTP_SMP_MONO_HI_MONO_HI : Fld := ⟨PTP_SMP_MONO_HI, 31, 0⟩
/-- PTP_PORT_CFG, R363 (k below 2). -/
def PTP_PORT_CFG (k : Nat) : Reg := ⟨regOff 0x8100 0x40 2 k, 0xFFF0003, 0x0, 0x0, 0x0, 0x0⟩
def PTP_PORT_CFG_VID (k : Nat) : Fld := ⟨PTP_PORT_CFG k, 27, 16⟩
def PTP_PORT_CFG_VLAN_EN (k : Nat) : Fld := ⟨PTP_PORT_CFG k, 1, 1⟩
def PTP_PORT_CFG_EN (k : Nat) : Fld := ⟨PTP_PORT_CFG k, 0, 0⟩
/-- PTP_TX_LAT, R363 (k below 2). -/
def PTP_TX_LAT (k : Nat) : Reg := ⟨regOff 0x8104 0x40 2 k, 0xFFFFFFFF, 0x0, 0x0, 0x0, 0xB80000⟩
def PTP_TX_LAT_TX_LAT (k : Nat) : Fld := ⟨PTP_TX_LAT k, 31, 0⟩
/-- PTP_RX_LAT, R363 (k below 2). -/
def PTP_RX_LAT (k : Nat) : Reg := ⟨regOff 0x8108 0x40 2 k, 0xFFFFFFFF, 0x0, 0x0, 0x0, 0x13E0000⟩
def PTP_RX_LAT_RX_LAT (k : Nat) : Fld := ⟨PTP_RX_LAT k, 31, 0⟩
/-- PTP_ASYM, R363 (k below 2). -/
def PTP_ASYM (k : Nat) : Reg := ⟨regOff 0x810C 0x40 2 k, 0xFFFFFFFF, 0x0, 0x0, 0x0, 0x0⟩
def PTP_ASYM_ASYM (k : Nat) : Fld := ⟨PTP_ASYM k, 31, 0⟩
/-- PTP_PORT_STATUS, R363 (k below 2). -/
def PTP_PORT_STATUS (k : Nat) : Reg := ⟨regOff 0x8110 0x40 2 k, 0x0, 0x0, 0x0, 0x0, 0x0⟩
def PTP_PORT_STATUS_LINK (k : Nat) : Fld := ⟨PTP_PORT_STATUS k, 4, 4⟩
def PTP_PORT_STATUS_STATE (k : Nat) : Fld := ⟨PTP_PORT_STATUS k, 3, 0⟩
/-- PTP_CNT_RXEV, R363 (k below 2). -/
def PTP_CNT_RXEV (k : Nat) : Reg := ⟨regOff 0x8120 0x40 2 k, 0x0, 0x0, 0x0, 0xFFFFFFFF, 0x0⟩
def PTP_CNT_RXEV_COUNT (k : Nat) : Fld := ⟨PTP_CNT_RXEV k, 31, 0⟩
/-- PTP_CNT_TXEV, R363 (k below 2). -/
def PTP_CNT_TXEV (k : Nat) : Reg := ⟨regOff 0x8124 0x40 2 k, 0x0, 0x0, 0x0, 0xFFFFFFFF, 0x0⟩
def PTP_CNT_TXEV_COUNT (k : Nat) : Fld := ⟨PTP_CNT_TXEV k, 31, 0⟩
/-- PTP_CNT_RXDROP, R363 (k below 2). -/
def PTP_CNT_RXDROP (k : Nat) : Reg := ⟨regOff 0x8128 0x40 2 k, 0x0, 0x0, 0x0, 0xFFFFFFFF, 0x0⟩
def PTP_CNT_RXDROP_COUNT (k : Nat) : Fld := ⟨PTP_CNT_RXDROP k, 31, 0⟩
/-- PTP_CNT_TXLOST, R363 (k below 2). -/
def PTP_CNT_TXLOST (k : Nat) : Reg := ⟨regOff 0x812C 0x40 2 k, 0x0, 0x0, 0x0, 0xFFFFFFFF, 0x0⟩
def PTP_CNT_TXLOST_COUNT (k : Nat) : Fld := ⟨PTP_CNT_TXLOST k, 31, 0⟩
/-- PTP_CNT_OTHER, R363 (k below 2). -/
def PTP_CNT_OTHER (k : Nat) : Reg := ⟨regOff 0x8130 0x40 2 k, 0x0, 0x0, 0x0, 0xFFFFFFFF, 0x0⟩
def PTP_CNT_OTHER_COUNT (k : Nat) : Fld := ⟨PTP_CNT_OTHER k, 31, 0⟩
/-- PTP_EVT_CFG, R364. -/
def PTP_EVT_CFG : Reg := ⟨0x8200, 0x31FF00FF, 0x0, 0x0, 0x0, 0x0⟩
def PTP_EVT_CFG_DI_CHAN : Fld := ⟨PTP_EVT_CFG, 29, 28⟩
def PTP_EVT_CFG_MARK_EN : Fld := ⟨PTP_EVT_CFG, 24, 24⟩
def PTP_EVT_CFG_REV : Fld := ⟨PTP_EVT_CFG, 23, 20⟩
def PTP_EVT_CFG_IDX : Fld := ⟨PTP_EVT_CFG, 19, 16⟩
def PTP_EVT_CFG_DI : Fld := ⟨PTP_EVT_CFG, 7, 0⟩
/-- PTP_EVT_MARK_LO, R364. -/
def PTP_EVT_MARK_LO : Reg := ⟨0x8204, 0xFFFFFFFF, 0x0, 0x0, 0x0, 0x0⟩
def PTP_EVT_MARK_LO_MARK_LO : Fld := ⟨PTP_EVT_MARK_LO, 31, 0⟩
/-- PTP_EVT_MARK_HI, R364. -/
def PTP_EVT_MARK_HI : Reg := ⟨0x8208, 0x3FFFF, 0x0, 0x0, 0x0, 0x0⟩
def PTP_EVT_MARK_HI_MARK_CHAN : Fld := ⟨PTP_EVT_MARK_HI, 17, 16⟩
def PTP_EVT_MARK_HI_MARK_HI : Fld := ⟨PTP_EVT_MARK_HI, 15, 0⟩
/-- PTP_EVT_STATUS, R364. -/
def PTP_EVT_STATUS : Reg := ⟨0x820C, 0x0, 0x0, 0x0, 0x0, 0x0⟩
def PTP_EVT_STATUS_COUNT : Fld := ⟨PTP_EVT_STATUS, 6, 0⟩
/-- PTP_EVT_DATA, R364 (k below 4). -/
def PTP_EVT_DATA (k : Nat) : Reg := ⟨regOff 0x8210 0x4 4 k, 0x0, 0x0, 0x0, 0x0, 0x0⟩
def PTP_EVT_DATA_DATA (k : Nat) : Fld := ⟨PTP_EVT_DATA k, 31, 0⟩
/-- PTP_EVT_LOST, R364. -/
def PTP_EVT_LOST : Reg := ⟨0x8220, 0x0, 0x0, 0x0, 0xFFFFFFFF, 0x0⟩
def PTP_EVT_LOST_LOST : Fld := ⟨PTP_EVT_LOST, 31, 0⟩
/-- PTP_STEP_LOG_SEL, R364. -/
def PTP_STEP_LOG_SEL : Reg := ⟨0x8240, 0xF, 0x0, 0x0, 0x0, 0x0⟩
def PTP_STEP_LOG_SEL_INDEX : Fld := ⟨PTP_STEP_LOG_SEL, 3, 0⟩
/-- PTP_STEP_LOG, R364 (k below 5). -/
def PTP_STEP_LOG (k : Nat) : Reg := ⟨regOff 0x8244 0x4 5 k, 0x0, 0x0, 0x0, 0x0, 0x0⟩
def PTP_STEP_LOG_LOG (k : Nat) : Fld := ⟨PTP_STEP_LOG k, 31, 0⟩

/-! ## Registers of chapter 09 -/

/-- LANE_CFG, R395 (k below 24). -/
def LANE_CFG (k : Nat) : Reg := ⟨regOff 0x40000 0x400 24 k, 0x7, 0x0, 0x0, 0x0, 0x0⟩
def LANE_CFG_LOOP (k : Nat) : Fld := ⟨LANE_CFG k, 2, 0⟩
/-- LANE_STATUS, R395 (k below 24). -/
def LANE_STATUS (k : Nat) : Reg := ⟨regOff 0x40004 0x400 24 k, 0x0, 0x0, 0x0, 0x0, 0xF⟩
def LANE_STATUS_LAST_STS (k : Nat) : Fld := ⟨LANE_STATUS k, 31, 16⟩
def LANE_STATUS_DOWN (k : Nat) : Fld := ⟨LANE_STATUS k, 15, 15⟩
def LANE_STATUS_OWNED (k : Nat) : Fld := ⟨LANE_STATUS k, 14, 14⟩
def LANE_STATUS_HELD (k : Nat) : Fld := ⟨LANE_STATUS k, 13, 13⟩
def LANE_STATUS_SYNTH (k : Nat) : Fld := ⟨LANE_STATUS k, 12, 11⟩
def LANE_STATUS_RX_INV_DET (k : Nat) : Fld := ⟨LANE_STATUS k, 10, 10⟩
def LANE_STATUS_ALIGNED (k : Nat) : Fld := ⟨LANE_STATUS k, 9, 9⟩
def LANE_STATUS_CDR_LOCK (k : Nat) : Fld := ⟨LANE_STATUS k, 8, 8⟩
def LANE_STATUS_SIG_DET (k : Nat) : Fld := ⟨LANE_STATUS k, 7, 7⟩
def LANE_STATUS_TX_STATE (k : Nat) : Fld := ⟨LANE_STATUS k, 3, 2⟩
def LANE_STATUS_RX_STATE (k : Nat) : Fld := ⟨LANE_STATUS k, 1, 0⟩
/-- LANE_TX_CMD, R396 (k below 24). -/
def LANE_TX_CMD (k : Nat) : Reg := ⟨regOff 0x40008 0x400 24 k, 0x7, 0x0, 0x80000000, 0x0, 0x3⟩
def LANE_TX_CMD_GO (k : Nat) : Fld := ⟨LANE_TX_CMD k, 31, 31⟩
def LANE_TX_CMD_CMD (k : Nat) : Fld := ⟨LANE_TX_CMD k, 2, 0⟩
/-- LANE_RX_CMD, R396 (k below 24). -/
def LANE_RX_CMD (k : Nat) : Reg := ⟨regOff 0x4000C 0x400 24 k, 0x3, 0x0, 0x80000000, 0x0, 0x3⟩
def LANE_RX_CMD_GO (k : Nat) : Fld := ⟨LANE_RX_CMD k, 31, 31⟩
def LANE_RX_CMD_STATE (k : Nat) : Fld := ⟨LANE_RX_CMD k, 1, 0⟩
/-- LANE_TMO, R396 (k below 24). -/
def LANE_TMO (k : Nat) : Reg := ⟨regOff 0x40010 0x400 24 k, 0xFFFFFFFF, 0x0, 0x0, 0x0, 0x1403E8⟩
def LANE_TMO_GUARD_L2_US (k : Nat) : Fld := ⟨LANE_TMO k, 31, 16⟩
def LANE_TMO_GUARD_L1_NS (k : Nat) : Fld := ⟨LANE_TMO k, 15, 0⟩
/-- LANE_SYNTH_TMO, R396 (k below 24). -/
def LANE_SYNTH_TMO (k : Nat) : Reg := ⟨regOff 0x40014 0x400 24 k, 0xFFFF, 0x0, 0x0, 0x0, 0x64⟩
def LANE_SYNTH_TMO_US (k : Nat) : Fld := ⟨LANE_SYNTH_TMO k, 15, 0⟩
/-- LANE_PRBS, R397 (k below 24). -/
def LANE_PRBS (k : Nat) : Reg := ⟨regOff 0x40018 0x400 24 k, 0x1330, 0x0, 0x0, 0x0, 0x330⟩
def LANE_PRBS_LOCK (k : Nat) : Fld := ⟨LANE_PRBS k, 16, 16⟩
def LANE_PRBS_CHK_EN (k : Nat) : Fld := ⟨LANE_PRBS k, 12, 12⟩
def LANE_PRBS_CHK_SEL (k : Nat) : Fld := ⟨LANE_PRBS k, 9, 8⟩
def LANE_PRBS_GEN_SEL (k : Nat) : Fld := ⟨LANE_PRBS k, 5, 4⟩
/-- LANE_PRBS_ERR, R397 (k below 24). -/
def LANE_PRBS_ERR (k : Nat) : Reg := ⟨regOff 0x4001C 0x400 24 k, 0x0, 0x0, 0x0, 0xFFFFFFFF, 0x0⟩
def LANE_PRBS_ERR_ERR (k : Nat) : Fld := ⟨LANE_PRBS_ERR k, 31, 0⟩
/-- LANE_PRBS_BITS_LO, R397 (k below 24). -/
def LANE_PRBS_BITS_LO (k : Nat) : Reg := ⟨regOff 0x40020 0x400 24 k, 0x0, 0x0, 0x0, 0x0, 0x0⟩
def LANE_PRBS_BITS_LO_BITS_LO (k : Nat) : Fld := ⟨LANE_PRBS_BITS_LO k, 31, 0⟩
/-- LANE_PRBS_BITS_HI, R397 (k below 24). -/
def LANE_PRBS_BITS_HI (k : Nat) : Reg := ⟨regOff 0x40024 0x400 24 k, 0x0, 0x0, 0x0, 0x0, 0x0⟩
def LANE_PRBS_BITS_HI_BITS_HI (k : Nat) : Fld := ⟨LANE_PRBS_BITS_HI k, 31, 0⟩
/-- LANE_CNT_WAKE, R398 (k below 24). -/
def LANE_CNT_WAKE (k : Nat) : Reg := ⟨regOff 0x40040 0x400 24 k, 0x0, 0x0, 0x0, 0xFFFFFFFF, 0x0⟩
def LANE_CNT_WAKE_COUNT (k : Nat) : Fld := ⟨LANE_CNT_WAKE k, 31, 0⟩
/-- LANE_CNT_GUARD, R398 (k below 24). -/
def LANE_CNT_GUARD (k : Nat) : Reg := ⟨regOff 0x40044 0x400 24 k, 0x0, 0x0, 0x0, 0xFFFFFFFF, 0x0⟩
def LANE_CNT_GUARD_COUNT (k : Nat) : Fld := ⟨LANE_CNT_GUARD k, 31, 0⟩
/-- LANE_CNT_RETRAIN, R398 (k below 24). -/
def LANE_CNT_RETRAIN (k : Nat) : Reg := ⟨regOff 0x40048 0x400 24 k, 0x0, 0x0, 0x0, 0xFFFFFFFF, 0x0⟩
def LANE_CNT_RETRAIN_COUNT (k : Nat) : Fld := ⟨LANE_CNT_RETRAIN k, 31, 0⟩
/-- LANE_CNT_LOS, R398 (k below 24). -/
def LANE_CNT_LOS (k : Nat) : Reg := ⟨regOff 0x4004C 0x400 24 k, 0x0, 0x0, 0x0, 0xFFFFFFFF, 0x0⟩
def LANE_CNT_LOS_COUNT (k : Nat) : Fld := ⟨LANE_CNT_LOS k, 31, 0⟩
/-- LANE_CNT_TXFAIL, R398 (k below 24). -/
def LANE_CNT_TXFAIL (k : Nat) : Reg := ⟨regOff 0x40050 0x400 24 k, 0x0, 0x0, 0x0, 0xFFFFFFFF, 0x0⟩
def LANE_CNT_TXFAIL_COUNT (k : Nat) : Fld := ⟨LANE_CNT_TXFAIL k, 31, 0⟩
/-- LANE_CNT_ALIGN, R398 (k below 24). -/
def LANE_CNT_ALIGN (k : Nat) : Reg := ⟨regOff 0x40054 0x400 24 k, 0x0, 0x0, 0x0, 0xFFFFFFFF, 0x0⟩
def LANE_CNT_ALIGN_COUNT (k : Nat) : Fld := ⟨LANE_CNT_ALIGN k, 31, 0⟩
/-- RING_CTRL, R399. -/
def RING_CTRL : Reg := ⟨0x48000, 0x7, 0x0, 0x0, 0x0, 0x0⟩
def RING_CTRL_TEST_E : Fld := ⟨RING_CTRL, 2, 2⟩
def RING_CTRL_TEST_W : Fld := ⟨RING_CTRL, 1, 1⟩
def RING_CTRL_EN : Fld := ⟨RING_CTRL, 0, 0⟩
/-- RING_STATUS, R399. -/
def RING_STATUS : Reg := ⟨0x48004, 0x0, 0x0, 0x0, 0x0, 0x0⟩
def RING_STATUS_LAST_STS : Fld := ⟨RING_STATUS, 31, 16⟩
def RING_STATUS_LOCAL_READY : Fld := ⟨RING_STATUS, 9, 9⟩
def RING_STATUS_MASTER : Fld := ⟨RING_STATUS, 8, 8⟩
def RING_STATUS_STATE : Fld := ⟨RING_STATUS, 2, 0⟩
/-- RING_TOPO, R399. -/
def RING_TOPO : Reg := ⟨0x48008, 0x0, 0x0, 0x0, 0x0, 0x0⟩
def RING_TOPO_PRESENT : Fld := ⟨RING_TOPO, 31, 24⟩
def RING_TOPO_EPOCH : Fld := ⟨RING_TOPO, 23, 16⟩
def RING_TOPO_MASTER_POS : Fld := ⟨RING_TOPO, 14, 12⟩
def RING_TOPO_SIZE : Fld := ⟨RING_TOPO, 11, 8⟩
def RING_TOPO_POSITION : Fld := ⟨RING_TOPO, 2, 0⟩
/-- RING_LAYOUT, R399. -/
def RING_LAYOUT : Reg := ⟨0x4800C, 0x700, 0x0, 0x10000, 0x0, 0x0⟩
def RING_LAYOUT_BUSY : Fld := ⟨RING_LAYOUT, 18, 18⟩
def RING_LAYOUT_GO : Fld := ⟨RING_LAYOUT, 16, 16⟩
def RING_LAYOUT_NEXT : Fld := ⟨RING_LAYOUT, 10, 8⟩
def RING_LAYOUT_CURRENT : Fld := ⟨RING_LAYOUT, 2, 0⟩
/-- RING_LINK_CFG, R400. -/
def RING_LINK_CFG : Reg := ⟨0x48010, 0xFFFFC0FF, 0x0, 0x0, 0x0, 0x4040⟩
def RING_LINK_CFG_SLEEP_US : Fld := ⟨RING_LINK_CFG, 31, 16⟩
def RING_LINK_CFG_TX_IDLE : Fld := ⟨RING_LINK_CFG, 15, 14⟩
def RING_LINK_CFG_WINDOW : Fld := ⟨RING_LINK_CFG, 7, 0⟩
/-- RING_RETRY_CFG, R400. -/
def RING_RETRY_CFG : Reg := ⟨0x48014, 0xFFFF000F, 0x0, 0x0, 0x0, 0x7D00008⟩
def RING_RETRY_CFG_ACK_TMO_NS : Fld := ⟨RING_RETRY_CFG, 31, 16⟩
def RING_RETRY_CFG_RETRY_MAX : Fld := ⟨RING_RETRY_CFG, 3, 0⟩
/-- RING_TMO, R400. -/
def RING_TMO : Reg := ⟨0x48018, 0xFFFFFFFF, 0x0, 0x0, 0x0, 0x3201F4⟩
def RING_TMO_LINK_TMO_MS : Fld := ⟨RING_TMO, 31, 16⟩
def RING_TMO_QUIESCE_TMO_US : Fld := ⟨RING_TMO, 15, 0⟩
/-- RING_CNT_DUP, R401. -/
def RING_CNT_DUP : Reg := ⟨0x48020, 0x0, 0x0, 0x0, 0xFFFFFFFF, 0x0⟩
def RING_CNT_DUP_COUNT : Fld := ⟨RING_CNT_DUP, 31, 0⟩
/-- RING_CNT_LOST, R401. -/
def RING_CNT_LOST : Reg := ⟨0x48024, 0x0, 0x0, 0x0, 0xFFFFFFFF, 0x0⟩
def RING_CNT_LOST_COUNT : Fld := ⟨RING_CNT_LOST, 31, 0⟩
/-- RING_CNT_DST_ABSENT, R401. -/
def RING_CNT_DST_ABSENT : Reg := ⟨0x48028, 0x0, 0x0, 0x0, 0xFFFFFFFF, 0x0⟩
def RING_CNT_DST_ABSENT_COUNT : Fld := ⟨RING_CNT_DST_ABSENT, 31, 0⟩
/-- RING_CNT_QUIESCE, R401. -/
def RING_CNT_QUIESCE : Reg := ⟨0x4802C, 0x0, 0x0, 0x0, 0xFFFFFFFF, 0x0⟩
def RING_CNT_QUIESCE_COUNT : Fld := ⟨RING_CNT_QUIESCE, 31, 0⟩
/-- RING_QUIESCE_US, R401. -/
def RING_QUIESCE_US : Reg := ⟨0x48030, 0x0, 0x0, 0x0, 0xFFFFFFFF, 0x0⟩
def RING_QUIESCE_US_COUNT : Fld := ⟨RING_QUIESCE_US, 31, 0⟩
/-- RING_SIDE_STATUS, R401 (k below 2). -/
def RING_SIDE_STATUS (k : Nat) : Reg := ⟨regOff 0x48040 0x40 2 k, 0x0, 0x0, 0x0, 0x0, 0x0⟩
def RING_SIDE_STATUS_LINK (k : Nat) : Fld := ⟨RING_SIDE_STATUS k, 6, 4⟩
def RING_SIDE_STATUS_LANES_UP (k : Nat) : Fld := ⟨RING_SIDE_STATUS k, 3, 0⟩
/-- RING_SIDE_FRAMES_TX, R401 (k below 2). -/
def RING_SIDE_FRAMES_TX (k : Nat) : Reg := ⟨regOff 0x48044 0x40 2 k, 0x0, 0x0, 0x0, 0xFFFFFFFF, 0x0⟩
def RING_SIDE_FRAMES_TX_COUNT (k : Nat) : Fld := ⟨RING_SIDE_FRAMES_TX k, 31, 0⟩
/-- RING_SIDE_FRAMES_RX, R401 (k below 2). -/
def RING_SIDE_FRAMES_RX (k : Nat) : Reg := ⟨regOff 0x48048 0x40 2 k, 0x0, 0x0, 0x0, 0xFFFFFFFF, 0x0⟩
def RING_SIDE_FRAMES_RX_COUNT (k : Nat) : Fld := ⟨RING_SIDE_FRAMES_RX k, 31, 0⟩
/-- RING_SIDE_CRC, R401 (k below 2). -/
def RING_SIDE_CRC (k : Nat) : Reg := ⟨regOff 0x4804C 0x40 2 k, 0x0, 0x0, 0x0, 0xFFFFFFFF, 0x0⟩
def RING_SIDE_CRC_COUNT (k : Nat) : Fld := ⟨RING_SIDE_CRC k, 31, 0⟩
/-- RING_SIDE_NAK_RETRY, R401 (k below 2). -/
def RING_SIDE_NAK_RETRY (k : Nat) : Reg := ⟨regOff 0x48050 0x40 2 k, 0x0, 0x0, 0x0, 0xFFFFFFFF, 0x0⟩
def RING_SIDE_NAK_RETRY_COUNT (k : Nat) : Fld := ⟨RING_SIDE_NAK_RETRY k, 31, 0⟩
/-- RING_SIDE_TMO_RETRY, R401 (k below 2). -/
def RING_SIDE_TMO_RETRY (k : Nat) : Reg := ⟨regOff 0x48054 0x40 2 k, 0x0, 0x0, 0x0, 0xFFFFFFFF, 0x0⟩
def RING_SIDE_TMO_RETRY_COUNT (k : Nat) : Fld := ⟨RING_SIDE_TMO_RETRY k, 31, 0⟩
/-- RING_SIDE_RETRY_HWM, R401 (k below 2). -/
def RING_SIDE_RETRY_HWM (k : Nat) : Reg := ⟨regOff 0x48058 0x40 2 k, 0x0, 0x0, 0x0, 0xFFFFFFFF, 0x0⟩
def RING_SIDE_RETRY_HWM_COUNT (k : Nat) : Fld := ⟨RING_SIDE_RETRY_HWM k, 31, 0⟩
/-- RING_SIDE_TRAIN, R401 (k below 2). -/
def RING_SIDE_TRAIN (k : Nat) : Reg := ⟨regOff 0x4805C 0x40 2 k, 0x0, 0x0, 0x0, 0xFFFFFFFF, 0x0⟩
def RING_SIDE_TRAIN_COUNT (k : Nat) : Fld := ⟨RING_SIDE_TRAIN k, 31, 0⟩

/-! ## Registers of chapter 10 -/

/-- GILL_STATUS, R441 (k below 64). -/
def GILL_STATUS (k : Nat) : Reg := ⟨regOff 0x100000 0x4000 64 k, 0x0, 0x0, 0x0, 0x0, 0x1F00⟩
def GILL_STATUS_LAST_STS (k : Nat) : Fld := ⟨GILL_STATUS k, 31, 16⟩
def GILL_STATUS_PART (k : Nat) : Fld := ⟨GILL_STATUS k, 12, 8⟩
def GILL_STATUS_STATE (k : Nat) : Fld := ⟨GILL_STATUS k, 2, 0⟩
/-- GILL_PC, R441 (k below 64). -/
def GILL_PC (k : Nat) : Reg := ⟨regOff 0x100004 0x4000 64 k, 0x0, 0x0, 0x0, 0x0, 0x0⟩
def GILL_PC_PROG (k : Nat) : Fld := ⟨GILL_PC k, 27, 16⟩
def GILL_PC_PC (k : Nat) : Fld := ⟨GILL_PC k, 11, 0⟩
/-- GILL_FAULT, R442 (k below 64). -/
def GILL_FAULT (k : Nat) : Reg := ⟨regOff 0x100008 0x4000 64 k, 0x0, 0x0, 0x0, 0x0, 0x0⟩
def GILL_FAULT_STS (k : Nat) : Fld := ⟨GILL_FAULT k, 31, 16⟩
def GILL_FAULT_SLOT (k : Nat) : Fld := ⟨GILL_FAULT k, 15, 12⟩
def GILL_FAULT_PC (k : Nat) : Fld := ⟨GILL_FAULT k, 11, 0⟩
/-- GILL_FAULT_INFO, R442 (k below 64). -/
def GILL_FAULT_INFO (k : Nat) : Reg := ⟨regOff 0x10000C 0x4000 64 k, 0x0, 0x0, 0x0, 0x0, 0x0⟩
def GILL_FAULT_INFO_INFO (k : Nat) : Fld := ⟨GILL_FAULT_INFO k, 31, 0⟩
/-- GILL_CNT_BUNDLES, R443 (k below 64). -/
def GILL_CNT_BUNDLES (k : Nat) : Reg := ⟨regOff 0x100010 0x4000 64 k, 0x0, 0x0, 0x0, 0xFFFFFFFF, 0x0⟩
def GILL_CNT_BUNDLES_COUNT (k : Nat) : Fld := ⟨GILL_CNT_BUNDLES k, 31, 0⟩
/-- GILL_CNT_STALL, R443 (k below 64). -/
def GILL_CNT_STALL (k : Nat) : Reg := ⟨regOff 0x100014 0x4000 64 k, 0x0, 0x0, 0x0, 0xFFFFFFFF, 0x0⟩
def GILL_CNT_STALL_COUNT (k : Nat) : Fld := ⟨GILL_CNT_STALL k, 31, 0⟩
/-- GILL_CNT_WAIT, R443 (k below 64). -/
def GILL_CNT_WAIT (k : Nat) : Reg := ⟨regOff 0x100018 0x4000 64 k, 0x0, 0x0, 0x0, 0xFFFFFFFF, 0x0⟩
def GILL_CNT_WAIT_COUNT (k : Nat) : Fld := ⟨GILL_CNT_WAIT k, 31, 0⟩
/-- GILL_CNT_GLOBAL, R443 (k below 64). -/
def GILL_CNT_GLOBAL (k : Nat) : Reg := ⟨regOff 0x10001C 0x4000 64 k, 0x0, 0x0, 0x0, 0xFFFFFFFF, 0x0⟩
def GILL_CNT_GLOBAL_COUNT (k : Nat) : Fld := ⟨GILL_CNT_GLOBAL k, 31, 0⟩
/-- GILL_DBG_CTRL, R444 (k below 64). -/
def GILL_DBG_CTRL (k : Nat) : Reg := ⟨regOff 0x100020 0x4000 64 k, 0x0, 0x0, 0x7, 0x0, 0x0⟩
def GILL_DBG_CTRL_STEP (k : Nat) : Fld := ⟨GILL_DBG_CTRL k, 2, 2⟩
def GILL_DBG_CTRL_RESUME (k : Nat) : Fld := ⟨GILL_DBG_CTRL k, 1, 1⟩
def GILL_DBG_CTRL_HALT (k : Nat) : Fld := ⟨GILL_DBG_CTRL k, 0, 0⟩
/-- GILL_DBG_SEL, R444 (k below 64). -/
def GILL_DBG_SEL (k : Nat) : Reg := ⟨regOff 0x100024 0x4000 64 k, 0xFF, 0x0, 0x0, 0x0, 0x0⟩
def GILL_DBG_SEL_INDEX (k : Nat) : Fld := ⟨GILL_DBG_SEL k, 7, 0⟩
/-- GILL_DBG_DATA, R444 (k below 64). -/
def GILL_DBG_DATA (k : Nat) : Reg := ⟨regOff 0x100028 0x4000 64 k, 0x0, 0x0, 0x0, 0x0, 0x0⟩
def GILL_DBG_DATA_DATA (k : Nat) : Fld := ⟨GILL_DBG_DATA k, 31, 0⟩
/-- GILL_LOOP, R444 (k below 64). -/
def GILL_LOOP (k : Nat) : Reg := ⟨regOff 0x10002C 0x4000 64 k, 0x0, 0x0, 0x0, 0x0, 0x0⟩
def GILL_LOOP_DEPTH (k : Nat) : Fld := ⟨GILL_LOOP k, 2, 0⟩

/-! ## Registers of chapter 11 -/

/-- DET_STATUS, R472. -/
def DET_STATUS : Reg := ⟨0x70E00, 0x0, 0x0, 0x0, 0x0, 0x0⟩
def DET_STATUS_LAST_STS : Fld := ⟨DET_STATUS, 31, 16⟩
def DET_STATUS_BUSY : Fld := ⟨DET_STATUS, 0, 0⟩
/-- DET_CNT_BOXDEC, R472. -/
def DET_CNT_BOXDEC : Reg := ⟨0x70E04, 0x0, 0x0, 0x0, 0xFFFFFFFF, 0x0⟩
def DET_CNT_BOXDEC_BOXDEC : Fld := ⟨DET_CNT_BOXDEC, 31, 0⟩
/-- DET_CNT_NMS, R472. -/
def DET_CNT_NMS : Reg := ⟨0x70E08, 0x0, 0x0, 0x0, 0xFFFFFFFF, 0x0⟩
def DET_CNT_NMS_NMS : Fld := ⟨DET_CNT_NMS, 31, 0⟩
/-- DET_CNT_FAIL, R472. -/
def DET_CNT_FAIL : Reg := ⟨0x70E0C, 0x0, 0x0, 0x0, 0xFFFFFFFF, 0x0⟩
def DET_CNT_FAIL_FAIL : Fld := ⟨DET_CNT_FAIL, 31, 0⟩
/-- DET_CNT_DROPPED, R472. -/
def DET_CNT_DROPPED : Reg := ⟨0x70E10, 0x0, 0x0, 0x0, 0xFFFFFFFF, 0x0⟩
def DET_CNT_DROPPED_DROPPED : Fld := ⟨DET_CNT_DROPPED, 31, 0⟩
/-- DET_MAX_US, R472. -/
def DET_MAX_US : Reg := ⟨0x70E14, 0x0, 0x0, 0x0, 0xFFFFFFFF, 0x0⟩
def DET_MAX_US_MAX_US : Fld := ⟨DET_MAX_US, 31, 0⟩

/-! ## Registers of chapter 12 -/

/-- MMU_STATUS, R516. -/
def MMU_STATUS : Reg := ⟨0x60000, 0x0, 0x0, 0x0, 0x0, 0x0⟩
def MMU_STATUS_LAST_STS : Fld := ⟨MMU_STATUS, 31, 16⟩
def MMU_STATUS_OP_BUSY : Fld := ⟨MMU_STATUS, 8, 8⟩
def MMU_STATUS_FQ_COUNT : Fld := ⟨MMU_STATUS, 6, 0⟩
/-- MMU_OP, R516. -/
def MMU_OP : Reg := ⟨0x60004, 0x3, 0x0, 0x80000000, 0x0, 0x0⟩
def MMU_OP_GO : Fld := ⟨MMU_OP, 31, 31⟩
def MMU_OP_OP : Fld := ⟨MMU_OP, 1, 0⟩
/-- MMU_OP_VA_LO, R516. -/
def MMU_OP_VA_LO : Reg := ⟨0x60008, 0xFFFFFFFF, 0x0, 0x0, 0x0, 0x0⟩
def MMU_OP_VA_LO_VA_LO : Fld := ⟨MMU_OP_VA_LO, 31, 0⟩
/-- MMU_OP_VA_HI, R516. -/
def MMU_OP_VA_HI : Reg := ⟨0x6000C, 0xFF, 0x0, 0x0, 0x0, 0x0⟩
def MMU_OP_VA_HI_VA_HI : Fld := ⟨MMU_OP_VA_HI, 7, 0⟩
/-- MMU_OP_PA_LO, R516. -/
def MMU_OP_PA_LO : Reg := ⟨0x60010, 0xFFFFFFFF, 0x0, 0x0, 0x0, 0x0⟩
def MMU_OP_PA_LO_PA_LO : Fld := ⟨MMU_OP_PA_LO, 31, 0⟩
/-- MMU_OP_PA_HI, R516. -/
def MMU_OP_PA_HI : Reg := ⟨0x60014, 0xFF, 0x0, 0x0, 0x0, 0x0⟩
def MMU_OP_PA_HI_PA_HI : Fld := ⟨MMU_OP_PA_HI, 7, 0⟩
/-- MMU_OP_CTX, R516. -/
def MMU_OP_CTX : Reg := ⟨0x60018, 0xFFFF, 0x0, 0x0, 0x0, 0x0⟩
def MMU_OP_CTX_CTX : Fld := ⟨MMU_OP_CTX, 15, 0⟩
/-- MMU_FQ_LOST, R516. -/
def MMU_FQ_LOST : Reg := ⟨0x60020, 0x0, 0x0, 0x0, 0xFFFFFFFF, 0x0⟩
def MMU_FQ_LOST_COUNT : Fld := ⟨MMU_FQ_LOST, 31, 0⟩
/-- MMU_CNT_FAULTS, R516. -/
def MMU_CNT_FAULTS : Reg := ⟨0x60024, 0x0, 0x0, 0x0, 0xFFFFFFFF, 0x0⟩
def MMU_CNT_FAULTS_COUNT : Fld := ⟨MMU_CNT_FAULTS, 31, 0⟩
/-- MMU_CNT_WALKS, R516. -/
def MMU_CNT_WALKS : Reg := ⟨0x60028, 0x0, 0x0, 0x0, 0xFFFFFFFF, 0x0⟩
def MMU_CNT_WALKS_COUNT : Fld := ⟨MMU_CNT_WALKS, 31, 0⟩
/-- MMU_FQ_DATA, R516 (k below 8). -/
def MMU_FQ_DATA (k : Nat) : Reg := ⟨regOff 0x60040 0x4 8 k, 0x0, 0x0, 0x0, 0x0, 0x0⟩
def MMU_FQ_DATA_DATA (k : Nat) : Fld := ⟨MMU_FQ_DATA k, 31, 0⟩
/-- MEM_CFG, R517. -/
def MEM_CFG : Reg := ⟨0x60800, 0xFFFF0001, 0x0, 0x0, 0x0, 0x640000⟩
def MEM_CFG_WDOG_US : Fld := ⟨MEM_CFG, 31, 16⟩
def MEM_CFG_REF_MODE : Fld := ⟨MEM_CFG, 0, 0⟩
/-- MEM_ECC_STATUS, R517. -/
def MEM_ECC_STATUS : Reg := ⟨0x60804, 0x0, 0xF, 0x0, 0x0, 0x0⟩
def MEM_ECC_STATUS_UNCORR_OUT : Fld := ⟨MEM_ECC_STATUS, 3, 0⟩
/-- MEM_CH_STATUS, R517 (k below 4). -/
def MEM_CH_STATUS (k : Nat) : Reg := ⟨regOff 0x60840 0x20 4 k, 0x0, 0x0, 0x0, 0x0, 0x0⟩
def MEM_CH_STATUS_TRAINED (k : Nat) : Fld := ⟨MEM_CH_STATUS k, 4, 4⟩
def MEM_CH_STATUS_TEMP (k : Nat) : Fld := ⟨MEM_CH_STATUS k, 3, 2⟩
def MEM_CH_STATUS_SELF_REFRESH (k : Nat) : Fld := ⟨MEM_CH_STATUS k, 1, 1⟩
/-- MEM_CH_CNT_CORR, R517 (k below 4). -/
def MEM_CH_CNT_CORR (k : Nat) : Reg := ⟨regOff 0x60844 0x20 4 k, 0x0, 0x0, 0x0, 0xFFFFFFFF, 0x0⟩
def MEM_CH_CNT_CORR_COUNT (k : Nat) : Fld := ⟨MEM_CH_CNT_CORR k, 31, 0⟩
/-- MEM_CH_CNT_UNCORR, R517 (k below 4). -/
def MEM_CH_CNT_UNCORR (k : Nat) : Reg := ⟨regOff 0x60848 0x20 4 k, 0x0, 0x0, 0x0, 0xFFFFFFFF, 0x0⟩
def MEM_CH_CNT_UNCORR_COUNT (k : Nat) : Fld := ⟨MEM_CH_CNT_UNCORR k, 31, 0⟩
/-- MEM_CH_UNCORR_LO, R517 (k below 4). -/
def MEM_CH_UNCORR_LO (k : Nat) : Reg := ⟨regOff 0x6084C 0x20 4 k, 0x0, 0x0, 0x0, 0x0, 0x0⟩
def MEM_CH_UNCORR_LO_ADDR (k : Nat) : Fld := ⟨MEM_CH_UNCORR_LO k, 31, 0⟩
/-- MEM_CH_UNCORR_HI, R517 (k below 4). -/
def MEM_CH_UNCORR_HI (k : Nat) : Reg := ⟨regOff 0x60850 0x20 4 k, 0x0, 0x0, 0x0, 0x0, 0x0⟩
def MEM_CH_UNCORR_HI_ADDR (k : Nat) : Fld := ⟨MEM_CH_UNCORR_HI k, 7, 0⟩
/-- MEM_CH_REF_MAX, R517 (k below 4). -/
def MEM_CH_REF_MAX (k : Nat) : Reg := ⟨regOff 0x60854 0x20 4 k, 0x0, 0x0, 0x0, 0xFFFF, 0x0⟩
def MEM_CH_REF_MAX_NS (k : Nat) : Fld := ⟨MEM_CH_REF_MAX k, 15, 0⟩
/-- MEM_CH_LAT_MAX, R517 (k below 4). -/
def MEM_CH_LAT_MAX (k : Nat) : Reg := ⟨regOff 0x60858 0x20 4 k, 0x0, 0x0, 0x0, 0xFFFF, 0x0⟩
def MEM_CH_LAT_MAX_NS (k : Nat) : Fld := ⟨MEM_CH_LAT_MAX k, 15, 0⟩
/-- DMA_ENG_STATUS, R518 (k below 16). -/
def DMA_ENG_STATUS (k : Nat) : Reg := ⟨regOff 0x70000 0x40 16 k, 0x0, 0x0, 0x0, 0x0, 0x0⟩
def DMA_ENG_STATUS_STATUS (k : Nat) : Fld := ⟨DMA_ENG_STATUS k, 31, 0⟩
/-- DMA_ENG_CTRL, R518 (k below 16). -/
def DMA_ENG_CTRL (k : Nat) : Reg := ⟨regOff 0x70004 0x40 16 k, 0x0, 0x0, 0x2, 0x0, 0x0⟩
def DMA_ENG_CTRL_ABORT (k : Nat) : Fld := ⟨DMA_ENG_CTRL k, 1, 1⟩
/-- DMA_SUB_LO, R518 (k below 16). -/
def DMA_SUB_LO (k : Nat) : Reg := ⟨regOff 0x70008 0x40 16 k, 0xFFFFFFFF, 0x0, 0x0, 0x0, 0x0⟩
def DMA_SUB_LO_VA_LO (k : Nat) : Fld := ⟨DMA_SUB_LO k, 31, 0⟩
/-- DMA_SUB_HI, R518 (k below 16). -/
def DMA_SUB_HI (k : Nat) : Reg := ⟨regOff 0x7000C 0x40 16 k, 0xFF, 0x0, 0x80000000, 0x0, 0x0⟩
def DMA_SUB_HI_GO (k : Nat) : Fld := ⟨DMA_SUB_HI k, 31, 31⟩
def DMA_SUB_HI_VA_HI (k : Nat) : Fld := ⟨DMA_SUB_HI k, 7, 0⟩
/-- DMA_SUB_CELL, R518 (k below 16). -/
def DMA_SUB_CELL (k : Nat) : Reg := ⟨regOff 0x70010 0x40 16 k, 0x80000FFF, 0x0, 0x0, 0x0, 0x0⟩
def DMA_SUB_CELL_C (k : Nat) : Fld := ⟨DMA_SUB_CELL k, 31, 31⟩
def DMA_SUB_CELL_CELL (k : Nat) : Fld := ⟨DMA_SUB_CELL k, 11, 0⟩
/-- DMA_SUB_STATUS, R518 (k below 16). -/
def DMA_SUB_STATUS (k : Nat) : Reg := ⟨regOff 0x70014 0x40 16 k, 0x0, 0x0, 0x0, 0x0, 0x0⟩
def DMA_SUB_STATUS_LAST_STS (k : Nat) : Fld := ⟨DMA_SUB_STATUS k, 31, 16⟩
def DMA_SUB_STATUS_ACCEPTED (k : Nat) : Fld := ⟨DMA_SUB_STATUS k, 0, 0⟩
/-- DMA_CNT_CHAINS, R518 (k below 16). -/
def DMA_CNT_CHAINS (k : Nat) : Reg := ⟨regOff 0x70018 0x40 16 k, 0x0, 0x0, 0x0, 0xFFFFFFFF, 0x0⟩
def DMA_CNT_CHAINS_COUNT (k : Nat) : Fld := ⟨DMA_CNT_CHAINS k, 31, 0⟩
/-- DMA_CNT_ITEMS, R518 (k below 16). -/
def DMA_CNT_ITEMS (k : Nat) : Reg := ⟨regOff 0x7001C 0x40 16 k, 0x0, 0x0, 0x0, 0xFFFFFFFF, 0x0⟩
def DMA_CNT_ITEMS_COUNT (k : Nat) : Fld := ⟨DMA_CNT_ITEMS k, 31, 0⟩
/-- DMA_CNT_FAILED, R518 (k below 16). -/
def DMA_CNT_FAILED (k : Nat) : Reg := ⟨regOff 0x70020 0x40 16 k, 0x0, 0x0, 0x0, 0xFFFFFFFF, 0x0⟩
def DMA_CNT_FAILED_COUNT (k : Nat) : Fld := ⟨DMA_CNT_FAILED k, 31, 0⟩
/-- SYNC_COUNT, R519 (k below 4096). -/
def SYNC_COUNT (k : Nat) : Reg := ⟨regOff 0x80000 0x10 4096 k, 0x0, 0x0, 0x0, 0x0, 0x0⟩
def SYNC_COUNT_COUNT (k : Nat) : Fld := ⟨SYNC_COUNT k, 23, 0⟩
/-- SYNC_ADD, R519 (k below 4096). -/
def SYNC_ADD (k : Nat) : Reg := ⟨regOff 0x80004 0x10 4096 k, 0x0, 0x0, 0xFFFF, 0x0, 0x0⟩
def SYNC_ADD_N (k : Nat) : Fld := ⟨SYNC_ADD k, 15, 0⟩
/-- SYNC_STATE, R519 (k below 4096). -/
def SYNC_STATE (k : Nat) : Reg := ⟨regOff 0x80008 0x10 4096 k, 0x0, 0x3, 0x0, 0x0, 0x0⟩
def SYNC_STATE_LAST_STS (k : Nat) : Fld := ⟨SYNC_STATE k, 31, 16⟩
def SYNC_STATE_WAITERS (k : Nat) : Fld := ⟨SYNC_STATE k, 14, 8⟩
def SYNC_STATE_DECLARED (k : Nat) : Fld := ⟨SYNC_STATE k, 2, 2⟩
def SYNC_STATE_PRODUCER_REFUSED (k : Nat) : Fld := ⟨SYNC_STATE k, 1, 1⟩
def SYNC_STATE_OVERFLOW (k : Nat) : Fld := ⟨SYNC_STATE k, 0, 0⟩
/-- SYNC_CTL, R519 (k below 4096). -/
def SYNC_CTL (k : Nat) : Reg := ⟨regOff 0x8000C 0x10 4096 k, 0x0, 0x0, 0x80000000, 0x0, 0x0⟩
def SYNC_CTL_RESET (k : Nat) : Fld := ⟨SYNC_CTL k, 31, 31⟩

/-! ## Registers of chapter 13 -/

/-- SCHED_STATUS, R555. -/
def SCHED_STATUS : Reg := ⟨0x90000, 0x0, 0x0, 0x0, 0x0, 0x0⟩
def SCHED_STATUS_LAST_STS : Fld := ⟨SCHED_STATUS, 31, 16⟩
def SCHED_STATUS_THROTTLE : Fld := ⟨SCHED_STATUS, 1, 1⟩
def SCHED_STATUS_ADMIT_OPEN : Fld := ⟨SCHED_STATUS, 0, 0⟩
/-- SCHED_SUB_W, R555 (k below 16). -/
def SCHED_SUB_W (k : Nat) : Reg := ⟨regOff 0x90040 0x4 16 k, 0xFFFFFFFF, 0x0, 0x0, 0x0, 0x0⟩
def SCHED_SUB_W_W (k : Nat) : Fld := ⟨SCHED_SUB_W k, 31, 0⟩
/-- SCHED_SUB_CTRL, R555. -/
def SCHED_SUB_CTRL : Reg := ⟨0x90080, 0x0, 0x0, 0x80000000, 0x0, 0x0⟩
def SCHED_SUB_CTRL_GO : Fld := ⟨SCHED_SUB_CTRL, 31, 31⟩
/-- SCHED_SUB_STATUS, R555. -/
def SCHED_SUB_STATUS : Reg := ⟨0x90084, 0x0, 0x0, 0x0, 0x0, 0x0⟩
def SCHED_SUB_STATUS_LAST_STS : Fld := ⟨SCHED_SUB_STATUS, 31, 16⟩
def SCHED_SUB_STATUS_ACCEPTED : Fld := ⟨SCHED_SUB_STATUS, 0, 0⟩
/-- SCHED_SUB_ID, R555. -/
def SCHED_SUB_ID : Reg := ⟨0x90088, 0x0, 0x0, 0x0, 0x0, 0x0⟩
def SCHED_SUB_ID_WORK_ID : Fld := ⟨SCHED_SUB_ID, 31, 0⟩
/-- SCHED_CANCEL, R555. -/
def SCHED_CANCEL : Reg := ⟨0x90090, 0x0, 0x0, 0xFFFFFFFF, 0x0, 0x0⟩
def SCHED_CANCEL_WORK_ID : Fld := ⟨SCHED_CANCEL, 31, 0⟩
/-- SCHED_CPL_TAIL, R556. -/
def SCHED_CPL_TAIL : Reg := ⟨0x900A0, 0x0, 0x0, 0x0, 0x0, 0x0⟩
def SCHED_CPL_TAIL_TAIL : Fld := ⟨SCHED_CPL_TAIL, 15, 0⟩
/-- SCHED_CPL_SEL, R556. -/
def SCHED_CPL_SEL : Reg := ⟨0x900A4, 0x3FF, 0x0, 0x0, 0x0, 0x0⟩
def SCHED_CPL_SEL_INDEX : Fld := ⟨SCHED_CPL_SEL, 9, 0⟩
/-- SCHED_CPL_LOST, R556. -/
def SCHED_CPL_LOST : Reg := ⟨0x900A8, 0x0, 0x0, 0x0, 0xFFFFFFFF, 0x0⟩
def SCHED_CPL_LOST_LOST : Fld := ⟨SCHED_CPL_LOST, 31, 0⟩
/-- SCHED_CPL_DATA, R556 (k below 8). -/
def SCHED_CPL_DATA (k : Nat) : Reg := ⟨regOff 0x900C0 0x4 8 k, 0x0, 0x0, 0x0, 0x0, 0x0⟩
def SCHED_CPL_DATA_DATA (k : Nat) : Fld := ⟨SCHED_CPL_DATA k, 31, 0⟩
/-- SCHED_Q_CFG, R557 (k below 256). -/
def SCHED_Q_CFG (k : Nat) : Reg := ⟨regOff 0x91000 0x20 256 k, 0xFFFF0007, 0x0, 0x0, 0x0, 0x5⟩
def SCHED_Q_CFG_EST_US (k : Nat) : Fld := ⟨SCHED_Q_CFG k, 31, 16⟩
def SCHED_Q_CFG_PLACE (k : Nat) : Fld := ⟨SCHED_Q_CFG k, 7, 7⟩
def SCHED_Q_CFG_CLASS (k : Nat) : Fld := ⟨SCHED_Q_CFG k, 6, 5⟩
def SCHED_Q_CFG_FAIL_INC (k : Nat) : Fld := ⟨SCHED_Q_CFG k, 2, 2⟩
def SCHED_Q_CFG_DOOM (k : Nat) : Fld := ⟨SCHED_Q_CFG k, 1, 1⟩
def SCHED_Q_CFG_RUN (k : Nat) : Fld := ⟨SCHED_Q_CFG k, 0, 0⟩
/-- SCHED_Q_STATUS, R557 (k below 256). -/
def SCHED_Q_STATUS (k : Nat) : Reg := ⟨regOff 0x91004 0x20 256 k, 0x0, 0x0, 0x0, 0x0, 0x0⟩
def SCHED_Q_STATUS_LAST_STS (k : Nat) : Fld := ⟨SCHED_Q_STATUS k, 31, 16⟩
def SCHED_Q_STATUS_FILL (k : Nat) : Fld := ⟨SCHED_Q_STATUS k, 12, 0⟩
/-- SCHED_Q_ADMITTED, R557 (k below 256). -/
def SCHED_Q_ADMITTED (k : Nat) : Reg := ⟨regOff 0x91008 0x20 256 k, 0x0, 0x0, 0x0, 0xFFFFFFFF, 0x0⟩
def SCHED_Q_ADMITTED_COUNT (k : Nat) : Fld := ⟨SCHED_Q_ADMITTED k, 31, 0⟩
/-- SCHED_Q_REFUSED, R557 (k below 256). -/
def SCHED_Q_REFUSED (k : Nat) : Reg := ⟨regOff 0x9100C 0x20 256 k, 0x0, 0x0, 0x0, 0xFFFFFFFF, 0x0⟩
def SCHED_Q_REFUSED_COUNT (k : Nat) : Fld := ⟨SCHED_Q_REFUSED k, 31, 0⟩
/-- SCHED_Q_DONE, R557 (k below 256). -/
def SCHED_Q_DONE (k : Nat) : Reg := ⟨regOff 0x91010 0x20 256 k, 0x0, 0x0, 0x0, 0xFFFFFFFF, 0x0⟩
def SCHED_Q_DONE_COUNT (k : Nat) : Fld := ⟨SCHED_Q_DONE k, 31, 0⟩
/-- SCHED_Q_FAILED, R557 (k below 256). -/
def SCHED_Q_FAILED (k : Nat) : Reg := ⟨regOff 0x91014 0x20 256 k, 0x0, 0x0, 0x0, 0xFFFFFFFF, 0x0⟩
def SCHED_Q_FAILED_COUNT (k : Nat) : Fld := ⟨SCHED_Q_FAILED k, 31, 0⟩
/-- SCHED_Q_PREEMPTED, R557 (k below 256). -/
def SCHED_Q_PREEMPTED (k : Nat) : Reg := ⟨regOff 0x91018 0x20 256 k, 0x0, 0x0, 0x0, 0xFFFFFFFF, 0x0⟩
def SCHED_Q_PREEMPTED_COUNT (k : Nat) : Fld := ⟨SCHED_Q_PREEMPTED k, 31, 0⟩
/-- SCHED_Q_DOOMED, R557 (k below 256). -/
def SCHED_Q_DOOMED (k : Nat) : Reg := ⟨regOff 0x9101C 0x20 256 k, 0x0, 0x0, 0x0, 0xFFFFFFFF, 0x0⟩
def SCHED_Q_DOOMED_COUNT (k : Nat) : Fld := ⟨SCHED_Q_DOOMED k, 31, 0⟩
/-- SCHED_P_STATUS, R558 (k below 32). -/
def SCHED_P_STATUS (k : Nat) : Reg := ⟨regOff 0x93000 0x20 32 k, 0x0, 0x0, 0x0, 0x0, 0x0⟩
def SCHED_P_STATUS_SAVED (k : Nat) : Fld := ⟨SCHED_P_STATUS k, 15, 8⟩
def SCHED_P_STATUS_RUNNING (k : Nat) : Fld := ⟨SCHED_P_STATUS k, 7, 0⟩
/-- SCHED_P_QUANTUM, R558 (k below 32). -/
def SCHED_P_QUANTUM (k : Nat) : Reg := ⟨regOff 0x93004 0x20 32 k, 0x0, 0x0, 0x0, 0x0, 0x0⟩
def SCHED_P_QUANTUM_QUANTUM_US (k : Nat) : Fld := ⟨SCHED_P_QUANTUM k, 31, 0⟩
/-- SCHED_P_SAVE_MAX_US, R558 (k below 32). -/
def SCHED_P_SAVE_MAX_US (k : Nat) : Reg := ⟨regOff 0x93008 0x20 32 k, 0x0, 0x0, 0x0, 0xFFFFFFFF, 0x0⟩
def SCHED_P_SAVE_MAX_US_VALUE (k : Nat) : Fld := ⟨SCHED_P_SAVE_MAX_US k, 31, 0⟩
/-- SCHED_P_RESTORE_MAX_US, R558 (k below 32). -/
def SCHED_P_RESTORE_MAX_US (k : Nat) : Reg := ⟨regOff 0x9300C 0x20 32 k, 0x0, 0x0, 0x0, 0xFFFFFFFF, 0x0⟩
def SCHED_P_RESTORE_MAX_US_VALUE (k : Nat) : Fld := ⟨SCHED_P_RESTORE_MAX_US k, 31, 0⟩
/-- SCHED_P_SWAP_MAX_US, R558 (k below 32). -/
def SCHED_P_SWAP_MAX_US (k : Nat) : Reg := ⟨regOff 0x93010 0x20 32 k, 0x0, 0x0, 0x0, 0xFFFFFFFF, 0x0⟩
def SCHED_P_SWAP_MAX_US_VALUE (k : Nat) : Fld := ⟨SCHED_P_SWAP_MAX_US k, 31, 0⟩
/-- SCHED_P_PREEMPTS, R558 (k below 32). -/
def SCHED_P_PREEMPTS (k : Nat) : Reg := ⟨regOff 0x93014 0x20 32 k, 0x0, 0x0, 0x0, 0xFFFFFFFF, 0x0⟩
def SCHED_P_PREEMPTS_VALUE (k : Nat) : Fld := ⟨SCHED_P_PREEMPTS k, 31, 0⟩
/-- SCHED_P_START_MAX_US, R558 (k below 32). -/
def SCHED_P_START_MAX_US (k : Nat) : Reg := ⟨regOff 0x93018 0x20 32 k, 0x0, 0x0, 0x0, 0xFFFFFFFF, 0x0⟩
def SCHED_P_START_MAX_US_VALUE (k : Nat) : Fld := ⟨SCHED_P_START_MAX_US k, 31, 0⟩
/-- SCHED_P_STEALS, R558 (k below 32). -/
def SCHED_P_STEALS (k : Nat) : Reg := ⟨regOff 0x9301C 0x20 32 k, 0x0, 0x0, 0x0, 0xFFFFFFFF, 0x0⟩
def SCHED_P_STEALS_VALUE (k : Nat) : Fld := ⟨SCHED_P_STEALS k, 31, 0⟩
/-- SCHED_GILL_RES, R558 (k below 64). -/
def SCHED_GILL_RES (k : Nat) : Reg := ⟨regOff 0x93800 0x4 64 k, 0x0, 0x0, 0x0, 0x0, 0xFFFF⟩
def SCHED_GILL_RES_LEVEL (k : Nat) : Fld := ⟨SCHED_GILL_RES k, 17, 16⟩
def SCHED_GILL_RES_MODEL (k : Nat) : Fld := ⟨SCHED_GILL_RES k, 15, 0⟩
/-- SCHED_RS_STATUS, R558. -/
def SCHED_RS_STATUS : Reg := ⟨0x93A00, 0x0, 0x0, 0x0, 0x0, 0x0⟩
def SCHED_RS_STATUS_LAST_STS : Fld := ⟨SCHED_RS_STATUS, 31, 16⟩
def SCHED_RS_STATUS_BUSY : Fld := ⟨SCHED_RS_STATUS, 8, 8⟩
def SCHED_RS_STATUS_LAYOUT : Fld := ⟨SCHED_RS_STATUS, 2, 0⟩
/-- SCHED_RS_BYTES, R558. -/
def SCHED_RS_BYTES : Reg := ⟨0x93A04, 0x0, 0x0, 0x0, 0xFFFFFFFF, 0x0⟩
def SCHED_RS_BYTES_BYTES : Fld := ⟨SCHED_RS_BYTES, 31, 0⟩

/-! ## Registers of chapter 14 -/

/-- PFX_CTRL, R589. -/
def PFX_CTRL : Reg := ⟨0xB0000, 0x1, 0x0, 0x2, 0x0, 0x0⟩
def PFX_CTRL_FORMAT : Fld := ⟨PFX_CTRL, 1, 1⟩
def PFX_CTRL_EN : Fld := ⟨PFX_CTRL, 0, 0⟩
/-- PFX_STATUS, R589. -/
def PFX_STATUS : Reg := ⟨0xB0004, 0x0, 0x0, 0x0, 0x0, 0x0⟩
def PFX_STATUS_LAST_STS : Fld := ⟨PFX_STATUS, 31, 16⟩
def PFX_STATUS_CORRUPT : Fld := ⟨PFX_STATUS, 2, 2⟩
def PFX_STATUS_BUSY : Fld := ⟨PFX_STATUS, 1, 1⟩
def PFX_STATUS_FORMATTED : Fld := ⟨PFX_STATUS, 0, 0⟩
/-- PFX_BASE_LO, R589. -/
def PFX_BASE_LO : Reg := ⟨0xB0008, 0xFFFFFFFF, 0x0, 0x0, 0x0, 0x0⟩
def PFX_BASE_LO_BASE_LO : Fld := ⟨PFX_BASE_LO, 31, 0⟩
/-- PFX_BASE_HI, R589. -/
def PFX_BASE_HI : Reg := ⟨0xB000C, 0xFF, 0x0, 0x0, 0x0, 0x0⟩
def PFX_BASE_HI_BASE_HI : Fld := ⟨PFX_BASE_HI, 7, 0⟩
/-- PFX_CFG, R589. -/
def PFX_CFG : Reg := ⟨0xB0010, 0xFFFFFFFF, 0x0, 0x0, 0x0, 0x400040⟩
def PFX_CFG_NODES_K : Fld := ⟨PFX_CFG, 31, 16⟩
def PFX_CFG_BLK_4K : Fld := ⟨PFX_CFG, 15, 0⟩
/-- PFX_NBLK, R589. -/
def PFX_NBLK : Reg := ⟨0xB0014, 0x1FFFF, 0x0, 0x0, 0x0, 0x400⟩
def PFX_NBLK_NBLK : Fld := ⟨PFX_NBLK, 16, 0⟩
/-- PFX_USED, R589. -/
def PFX_USED : Reg := ⟨0xB0018, 0x0, 0x0, 0x0, 0x0, 0x0⟩
def PFX_USED_BLKS : Fld := ⟨PFX_USED, 31, 16⟩
def PFX_USED_NODES : Fld := ⟨PFX_USED, 15, 0⟩
/-- PFX_CNT_WALK, R589. -/
def PFX_CNT_WALK : Reg := ⟨0xB0020, 0x0, 0x0, 0x0, 0xFFFFFFFF, 0x0⟩
def PFX_CNT_WALK_COUNT : Fld := ⟨PFX_CNT_WALK, 31, 0⟩
/-- PFX_CNT_HIT, R589. -/
def PFX_CNT_HIT : Reg := ⟨0xB0024, 0x0, 0x0, 0x0, 0xFFFFFFFF, 0x0⟩
def PFX_CNT_HIT_COUNT : Fld := ⟨PFX_CNT_HIT, 31, 0⟩
/-- PFX_CNT_INSERT, R589. -/
def PFX_CNT_INSERT : Reg := ⟨0xB0028, 0x0, 0x0, 0x0, 0xFFFFFFFF, 0x0⟩
def PFX_CNT_INSERT_COUNT : Fld := ⟨PFX_CNT_INSERT, 31, 0⟩
/-- PFX_CNT_EVICT, R589. -/
def PFX_CNT_EVICT : Reg := ⟨0xB002C, 0x0, 0x0, 0x0, 0xFFFFFFFF, 0x0⟩
def PFX_CNT_EVICT_COUNT : Fld := ⟨PFX_CNT_EVICT, 31, 0⟩
/-- PFX_CNT_FAIL, R589. -/
def PFX_CNT_FAIL : Reg := ⟨0xB0030, 0x0, 0x0, 0x0, 0xFFFFFFFF, 0x0⟩
def PFX_CNT_FAIL_COUNT : Fld := ⟨PFX_CNT_FAIL, 31, 0⟩
/-- ADP_SEL, R590. -/
def ADP_SEL : Reg := ⟨0xB8000, 0x3FF, 0x0, 0x0, 0x0, 0x0⟩
def ADP_SEL_INDEX : Fld := ⟨ADP_SEL, 9, 0⟩
/-- ADP_CMD, R590. -/
def ADP_CMD : Reg := ⟨0xB8010, 0x7, 0x0, 0x80000000, 0x0, 0x0⟩
def ADP_CMD_GO : Fld := ⟨ADP_CMD, 31, 31⟩
def ADP_CMD_OP : Fld := ⟨ADP_CMD, 2, 0⟩
/-- ADP_STATUS, R590. -/
def ADP_STATUS : Reg := ⟨0xB8014, 0x0, 0x0, 0x0, 0x0, 0x0⟩
def ADP_STATUS_LAST_STS : Fld := ⟨ADP_STATUS, 31, 16⟩
/-- ADP_INFLIGHT, R590. -/
def ADP_INFLIGHT : Reg := ⟨0xB8018, 0x0, 0x0, 0x0, 0x0, 0x0⟩
def ADP_INFLIGHT_PREV : Fld := ⟨ADP_INFLIGHT, 31, 16⟩
def ADP_INFLIGHT_LIVE : Fld := ⟨ADP_INFLIGHT, 15, 0⟩
/-- ADP_DESC, R590 (k below 8). -/
def ADP_DESC (k : Nat) : Reg := ⟨regOff 0xB8020 0x4 8 k, 0xFFFFFFFF, 0x0, 0x0, 0x0, 0x0⟩
def ADP_DESC_DESC (k : Nat) : Fld := ⟨ADP_DESC k, 31, 0⟩
/-- ADP_CNT_GATHERS, R590. -/
def ADP_CNT_GATHERS : Reg := ⟨0xB8040, 0x0, 0x0, 0x0, 0xFFFFFFFF, 0x0⟩
def ADP_CNT_GATHERS_COUNT : Fld := ⟨ADP_CNT_GATHERS, 31, 0⟩
/-- ADP_CNT_PUBLISHES, R590. -/
def ADP_CNT_PUBLISHES : Reg := ⟨0xB8044, 0x0, 0x0, 0x0, 0xFFFFFFFF, 0x0⟩
def ADP_CNT_PUBLISHES_COUNT : Fld := ⟨ADP_CNT_PUBLISHES, 31, 0⟩
/-- AUG_STATUS, R591. -/
def AUG_STATUS : Reg := ⟨0xBC000, 0x0, 0x0, 0x0, 0x0, 0x0⟩
def AUG_STATUS_LAST_STS : Fld := ⟨AUG_STATUS, 31, 16⟩
def AUG_STATUS_BUSY : Fld := ⟨AUG_STATUS, 0, 0⟩
/-- AUG_POOL_LO, R591. -/
def AUG_POOL_LO : Reg := ⟨0xBC004, 0xFFFFFFFF, 0x0, 0x0, 0x0, 0x0⟩
def AUG_POOL_LO_POOL_LO : Fld := ⟨AUG_POOL_LO, 31, 0⟩
/-- AUG_POOL_HI, R591. -/
def AUG_POOL_HI : Reg := ⟨0xBC008, 0xFF, 0x0, 0x0, 0x0, 0x0⟩
def AUG_POOL_HI_POOL_HI : Fld := ⟨AUG_POOL_HI, 7, 0⟩
/-- AUG_POOL_SIZE, R591. -/
def AUG_POOL_SIZE : Reg := ⟨0xBC00C, 0xFFFFFFFF, 0x0, 0x0, 0x0, 0x0⟩
def AUG_POOL_SIZE_SIZE : Fld := ⟨AUG_POOL_SIZE, 31, 0⟩
/-- AUG_POOL_TAIL, R591. -/
def AUG_POOL_TAIL : Reg := ⟨0xBC010, 0x0, 0x0, 0x0, 0x0, 0x0⟩
def AUG_POOL_TAIL_TAIL : Fld := ⟨AUG_POOL_TAIL, 31, 0⟩
/-- AUG_POOL_HEAD, R591. -/
def AUG_POOL_HEAD : Reg := ⟨0xBC014, 0xFFFFFFFF, 0x0, 0x0, 0x0, 0x0⟩
def AUG_POOL_HEAD_HEAD : Fld := ⟨AUG_POOL_HEAD, 31, 0⟩
/-- AUG_CNT_SAMPLES, R591. -/
def AUG_CNT_SAMPLES : Reg := ⟨0xBC020, 0x0, 0x0, 0x0, 0xFFFFFFFF, 0x0⟩
def AUG_CNT_SAMPLES_COUNT : Fld := ⟨AUG_CNT_SAMPLES, 31, 0⟩
/-- AUG_CNT_DIM_REFUSED, R591. -/
def AUG_CNT_DIM_REFUSED : Reg := ⟨0xBC024, 0x0, 0x0, 0x0, 0xFFFFFFFF, 0x0⟩
def AUG_CNT_DIM_REFUSED_COUNT : Fld := ⟨AUG_CNT_DIM_REFUSED, 31, 0⟩
/-- AUG_CNT_FAILED, R591. -/
def AUG_CNT_FAILED : Reg := ⟨0xBC028, 0x0, 0x0, 0x0, 0xFFFFFFFF, 0x0⟩
def AUG_CNT_FAILED_COUNT : Fld := ⟨AUG_CNT_FAILED, 31, 0⟩

/-! ## Registers of chapter 15 -/

/-- ANN_CTRL, R614. -/
def ANN_CTRL : Reg := ⟨0xC0000, 0x0, 0x0, 0x2, 0x0, 0x0⟩
def ANN_CTRL_ABORT : Fld := ⟨ANN_CTRL, 1, 1⟩
/-- ANN_STATUS, R614. -/
def ANN_STATUS : Reg := ⟨0xC0004, 0x0, 0x0, 0x0, 0x0, 0x0⟩
def ANN_STATUS_LAST_STS : Fld := ⟨ANN_STATUS, 31, 16⟩
def ANN_STATUS_STATE : Fld := ⟨ANN_STATUS, 2, 0⟩
/-- ANN_WORK, R614. -/
def ANN_WORK : Reg := ⟨0xC0008, 0x0, 0x0, 0x0, 0x0, 0x0⟩
def ANN_WORK_WORK_ID : Fld := ⟨ANN_WORK, 31, 0⟩
/-- ANN_SWEEP, R614. -/
def ANN_SWEEP : Reg := ⟨0xC000C, 0x0, 0x0, 0x0, 0x0, 0x0⟩
def ANN_SWEEP_SWEEP : Fld := ⟨ANN_SWEEP, 23, 0⟩
/-- ANN_BEST, R614. -/
def ANN_BEST : Reg := ⟨0xC0010, 0x0, 0x0, 0x0, 0x0, 0x0⟩
def ANN_BEST_BEST : Fld := ⟨ANN_BEST, 31, 0⟩
/-- ANN_CNT_PROBLEMS, R615. -/
def ANN_CNT_PROBLEMS : Reg := ⟨0xC0020, 0x0, 0x0, 0x0, 0xFFFFFFFF, 0x0⟩
def ANN_CNT_PROBLEMS_COUNT : Fld := ⟨ANN_CNT_PROBLEMS, 31, 0⟩
/-- ANN_CNT_FAILED, R615. -/
def ANN_CNT_FAILED : Reg := ⟨0xC0024, 0x0, 0x0, 0x0, 0xFFFFFFFF, 0x0⟩
def ANN_CNT_FAILED_COUNT : Fld := ⟨ANN_CNT_FAILED, 31, 0⟩
/-- ANN_CNT_SWEEPS, R615. -/
def ANN_CNT_SWEEPS : Reg := ⟨0xC0028, 0x0, 0x0, 0x0, 0xFFFFFFFF, 0x0⟩
def ANN_CNT_SWEEPS_COUNT : Fld := ⟨ANN_CNT_SWEEPS, 31, 0⟩
/-- ANN_MAX_US, R615. -/
def ANN_MAX_US : Reg := ⟨0xC002C, 0x0, 0x0, 0x0, 0xFFFFFFFF, 0x0⟩
def ANN_MAX_US_VALUE : Fld := ⟨ANN_MAX_US, 31, 0⟩

/-! ## Registers of chapter 16 -/

/-- SYS_REPRO_DIGEST, R641 (k below 8). -/
def SYS_REPRO_DIGEST (k : Nat) : Reg := ⟨regOff 0x40 0x4 8 k, 0x0, 0x0, 0x0, 0x0, 0x0⟩
def SYS_REPRO_DIGEST_DIGEST (k : Nat) : Fld := ⟨SYS_REPRO_DIGEST k, 31, 0⟩
/-- SYS_REPRO_STATUS, R641. -/
def SYS_REPRO_STATUS : Reg := ⟨0x60, 0x0, 0x3F001E, 0x0, 0x0, 0x0⟩
def SYS_REPRO_STATUS_T_LINK_SLEEP : Fld := ⟨SYS_REPRO_STATUS, 21, 21⟩
def SYS_REPRO_STATUS_T_MODE : Fld := ⟨SYS_REPRO_STATUS, 20, 20⟩
def SYS_REPRO_STATUS_T_PFX : Fld := ⟨SYS_REPRO_STATUS, 19, 19⟩
def SYS_REPRO_STATUS_T_STEAL : Fld := ⟨SYS_REPRO_STATUS, 18, 18⟩
def SYS_REPRO_STATUS_T_PREEMPT : Fld := ⟨SYS_REPRO_STATUS, 17, 17⟩
def SYS_REPRO_STATUS_T_THROTTLE : Fld := ⟨SYS_REPRO_STATUS, 16, 16⟩
def SYS_REPRO_STATUS_R_TIMED_OUT : Fld := ⟨SYS_REPRO_STATUS, 4, 4⟩
def SYS_REPRO_STATUS_R_RING_LOST : Fld := ⟨SYS_REPRO_STATUS, 3, 3⟩
def SYS_REPRO_STATUS_R_RESHARD : Fld := ⟨SYS_REPRO_STATUS, 2, 2⟩
def SYS_REPRO_STATUS_R_ANN : Fld := ⟨SYS_REPRO_STATUS, 1, 1⟩
def SYS_REPRO_STATUS_R_MAP_PENDING : Fld := ⟨SYS_REPRO_STATUS, 0, 0⟩
/-- MESH_PROG_CFG, R642. -/
def MESH_PROG_CFG : Reg := ⟨0x50100, 0x8000FFFF, 0x0, 0x0, 0x0, 0x800003E8⟩
def MESH_PROG_CFG_EN : Fld := ⟨MESH_PROG_CFG, 31, 31⟩
def MESH_PROG_CFG_STALL_US : Fld := ⟨MESH_PROG_CFG, 15, 0⟩
/-- MESH_PROG_STATUS, R642. -/
def MESH_PROG_STATUS : Reg := ⟨0x50104, 0x0, 0x0, 0x0, 0x0, 0x0⟩
def MESH_PROG_STATUS_LAST_STS : Fld := ⟨MESH_PROG_STATUS, 31, 16⟩
def MESH_PROG_STATUS_VC : Fld := ⟨MESH_PROG_STATUS, 13, 12⟩
def MESH_PROG_STATUS_ROUTER : Fld := ⟨MESH_PROG_STATUS, 5, 0⟩
/-- MESH_PROG_CNT, R642. -/
def MESH_PROG_CNT : Reg := ⟨0x50108, 0x0, 0x0, 0x0, 0xFFFFFFFF, 0x0⟩
def MESH_PROG_CNT_COUNT : Fld := ⟨MESH_PROG_CNT, 31, 0⟩
/-- MESH_TW_CTRL, R643. -/
def MESH_TW_CTRL : Reg := ⟨0x50110, 0x0, 0x0, 0x80000000, 0x0, 0x0⟩
def MESH_TW_CTRL_ARM : Fld := ⟨MESH_TW_CTRL, 31, 31⟩
def MESH_TW_CTRL_OPEN : Fld := ⟨MESH_TW_CTRL, 1, 1⟩
def MESH_TW_CTRL_DONE : Fld := ⟨MESH_TW_CTRL, 0, 0⟩
/-- MESH_TW_WORK, R643. -/
def MESH_TW_WORK : Reg := ⟨0x50114, 0xFFFFFFFF, 0x0, 0x0, 0x0, 0x0⟩
def MESH_TW_WORK_WORK_ID : Fld := ⟨MESH_TW_WORK, 31, 0⟩
/-- MESH_TW_SRC, R643. -/
def MESH_TW_SRC : Reg := ⟨0x50118, 0xFFFF, 0x0, 0x0, 0x0, 0x0⟩
def MESH_TW_SRC_SRC : Fld := ⟨MESH_TW_SRC, 15, 0⟩
/-- MESH_TW_G, R643. -/
def MESH_TW_G : Reg := ⟨0x5011C, 0x0, 0x0, 0x0, 0x0, 0x0⟩
def MESH_TW_G_G : Fld := ⟨MESH_TW_G, 31, 0⟩
/-- MESH_TW_REF_NS, R643. -/
def MESH_TW_REF_NS : Reg := ⟨0x50120, 0x0, 0x0, 0x0, 0x0, 0x0⟩
def MESH_TW_REF_NS_NS : Fld := ⟨MESH_TW_REF_NS, 31, 0⟩
/-- MESH_TW_RETRY_NS, R643. -/
def MESH_TW_RETRY_NS : Reg := ⟨0x50124, 0x0, 0x0, 0x0, 0x0, 0x0⟩
def MESH_TW_RETRY_NS_NS : Fld := ⟨MESH_TW_RETRY_NS, 31, 0⟩
/-- MESH_TW_RUN_NS, R643. -/
def MESH_TW_RUN_NS : Reg := ⟨0x50128, 0x0, 0x0, 0x0, 0x0, 0x0⟩
def MESH_TW_RUN_NS_NS : Fld := ⟨MESH_TW_RUN_NS, 31, 0⟩
/-- MESH_TW_FLAGS, R643. -/
def MESH_TW_FLAGS : Reg := ⟨0x5012C, 0x0, 0x0, 0x0, 0x0, 0x0⟩
def MESH_TW_FLAGS_MISSED : Fld := ⟨MESH_TW_FLAGS, 4, 4⟩
def MESH_TW_FLAGS_LINK_SLEEP : Fld := ⟨MESH_TW_FLAGS, 3, 3⟩
def MESH_TW_FLAGS_MODE : Fld := ⟨MESH_TW_FLAGS, 2, 2⟩
def MESH_TW_FLAGS_THROTTLE : Fld := ⟨MESH_TW_FLAGS, 1, 1⟩
def MESH_TW_FLAGS_PREEMPT : Fld := ⟨MESH_TW_FLAGS, 0, 0⟩

/-! ## Registers of chapter 17 -/

/-- MBX_CTRL, R671. -/
def MBX_CTRL : Reg := ⟨0xA0000, 0x1, 0x0, 0x0, 0x0, 0x0⟩
def MBX_CTRL_INIT : Fld := ⟨MBX_CTRL, 1, 1⟩
def MBX_CTRL_EN : Fld := ⟨MBX_CTRL, 0, 0⟩
/-- MBX_CFG, R671. -/
def MBX_CFG : Reg := ⟨0xA0004, 0x31F, 0x0, 0x0, 0x0, 0x20A⟩
def MBX_CFG_LINK_AUTO : Fld := ⟨MBX_CFG, 9, 9⟩
def MBX_CFG_CONSUMER : Fld := ⟨MBX_CFG, 8, 8⟩
def MBX_CFG_OVF : Fld := ⟨MBX_CFG, 4, 4⟩
def MBX_CFG_ENTRIES_LOG2 : Fld := ⟨MBX_CFG, 3, 0⟩
/-- MBX_RING_LO, R671. -/
def MBX_RING_LO : Reg := ⟨0xA0008, 0xFFFFFFFF, 0x0, 0x0, 0x0, 0x0⟩
def MBX_RING_LO_RING_LO : Fld := ⟨MBX_RING_LO, 31, 0⟩
/-- MBX_RING_HI, R671. -/
def MBX_RING_HI : Reg := ⟨0xA000C, 0xFF, 0x0, 0x0, 0x0, 0x0⟩
def MBX_RING_HI_RING_HI : Fld := ⟨MBX_RING_HI, 7, 0⟩
/-- MBX_HEAD, R671. -/
def MBX_HEAD : Reg := ⟨0xA0010, 0xFFFFFFFF, 0x0, 0x0, 0x0, 0x0⟩
def MBX_HEAD_HEAD : Fld := ⟨MBX_HEAD, 31, 0⟩
/-- MBX_DONE, R671. -/
def MBX_DONE : Reg := ⟨0xA0014, 0x0, 0x0, 0x0, 0x0, 0x0⟩
def MBX_DONE_DONE : Fld := ⟨MBX_DONE, 31, 0⟩
/-- MBX_RSEQ_NEXT, R671. -/
def MBX_RSEQ_NEXT : Reg := ⟨0xA0018, 0x0, 0x0, 0x0, 0x0, 0x1⟩
def MBX_RSEQ_NEXT_RSEQ_NEXT : Fld := ⟨MBX_RSEQ_NEXT, 31, 0⟩
/-- MBX_IRQ_CFG, R671. -/
def MBX_IRQ_CFG : Reg := ⟨0xA001C, 0xFFFFFFFF, 0x0, 0x0, 0x0, 0x3E80001⟩
def MBX_IRQ_CFG_AGE_US : Fld := ⟨MBX_IRQ_CFG, 31, 16⟩
def MBX_IRQ_CFG_THR : Fld := ⟨MBX_IRQ_CFG, 15, 0⟩
/-- MBX_CNT_WRITTEN, R672. -/
def MBX_CNT_WRITTEN : Reg := ⟨0xA0040, 0x0, 0x0, 0x0, 0xFFFFFFFF, 0x0⟩
def MBX_CNT_WRITTEN_COUNT : Fld := ⟨MBX_CNT_WRITTEN, 31, 0⟩
/-- MBX_CNT_OVF, R672. -/
def MBX_CNT_OVF : Reg := ⟨0xA0044, 0x0, 0x0, 0x0, 0xFFFFFFFF, 0x0⟩
def MBX_CNT_OVF_COUNT : Fld := ⟨MBX_CNT_OVF, 31, 0⟩
/-- MBX_CNT_GAP, R672. -/
def MBX_CNT_GAP : Reg := ⟨0xA0048, 0x0, 0x0, 0x0, 0xFFFFFFFF, 0x0⟩
def MBX_CNT_GAP_COUNT : Fld := ⟨MBX_CNT_GAP, 31, 0⟩
/-- MBX_CNT_OFF, R672. -/
def MBX_CNT_OFF : Reg := ⟨0xA004C, 0x0, 0x0, 0x0, 0xFFFFFFFF, 0x0⟩
def MBX_CNT_OFF_COUNT : Fld := ⟨MBX_CNT_OFF, 31, 0⟩
/-- MBX_CNT_HEAD_BAD, R672. -/
def MBX_CNT_HEAD_BAD : Reg := ⟨0xA0050, 0x0, 0x0, 0x0, 0xFFFFFFFF, 0x0⟩
def MBX_CNT_HEAD_BAD_COUNT : Fld := ⟨MBX_CNT_HEAD_BAD, 31, 0⟩
/-- MBX_CNT_HWM, R672. -/
def MBX_CNT_HWM : Reg := ⟨0xA0054, 0x0, 0x0, 0x0, 0xFFFFFFFF, 0x0⟩
def MBX_CNT_HWM_COUNT : Fld := ⟨MBX_CNT_HWM, 31, 0⟩
/-- MBX_PCI_ID, R673. -/
def MBX_PCI_ID : Reg := ⟨0xA0400, 0x0, 0x0, 0x0, 0x0, 0x5C401D7A⟩
def MBX_PCI_ID_DEVICE : Fld := ⟨MBX_PCI_ID, 31, 16⟩
def MBX_PCI_ID_VENDOR : Fld := ⟨MBX_PCI_ID, 15, 0⟩
/-- MBX_LINK, R673. -/
def MBX_LINK : Reg := ⟨0xA0404, 0x0, 0x0, 0x0, 0x0, 0x0⟩
def MBX_LINK_UP : Fld := ⟨MBX_LINK, 12, 12⟩
def MBX_LINK_SPEED : Fld := ⟨MBX_LINK, 11, 8⟩
def MBX_LINK_WIDTH : Fld := ⟨MBX_LINK, 5, 0⟩
/-- MBX_HCFG, R673. -/
def MBX_HCFG : Reg := ⟨0xA0408, 0xFFFF, 0x0, 0x0, 0x0, 0x2710⟩
def MBX_HCFG_CPL_TMO_US : Fld := ⟨MBX_HCFG, 15, 0⟩
/-- MBX_HSTATUS, R673. -/
def MBX_HSTATUS : Reg := ⟨0xA040C, 0x0, 0x0, 0x0, 0x0, 0x0⟩
def MBX_HSTATUS_LAST_STS : Fld := ⟨MBX_HSTATUS, 31, 16⟩
def MBX_HSTATUS_D3 : Fld := ⟨MBX_HSTATUS, 1, 1⟩
def MBX_HSTATUS_BME : Fld := ⟨MBX_HSTATUS, 0, 0⟩
/-- MBX_BAR2_VA_LO, R673. -/
def MBX_BAR2_VA_LO : Reg := ⟨0xA0410, 0xFFFFFFFF, 0x0, 0x0, 0x0, 0x0⟩
def MBX_BAR2_VA_LO_BAR2_VA_LO : Fld := ⟨MBX_BAR2_VA_LO, 31, 0⟩
/-- MBX_BAR2_VA_HI, R673. -/
def MBX_BAR2_VA_HI : Reg := ⟨0xA0414, 0xFF, 0x0, 0x0, 0x0, 0x0⟩
def MBX_BAR2_VA_HI_BAR2_VA_HI : Fld := ⟨MBX_BAR2_VA_HI, 7, 0⟩
/-- MBX_HWIN_BASE_LO, R673. -/
def MBX_HWIN_BASE_LO : Reg := ⟨0xA0418, 0xFFFFFFFF, 0x0, 0x0, 0x0, 0x0⟩
def MBX_HWIN_BASE_LO_HWIN_BASE_LO : Fld := ⟨MBX_HWIN_BASE_LO, 31, 0⟩
/-- MBX_HWIN_BASE_HI, R673. -/
def MBX_HWIN_BASE_HI : Reg := ⟨0xA041C, 0xFFFFFFFF, 0x0, 0x0, 0x0, 0x0⟩
def MBX_HWIN_BASE_HI_HWIN_BASE_HI : Fld := ⟨MBX_HWIN_BASE_HI, 31, 0⟩
/-- MBX_HWIN_SIZE, R673. -/
def MBX_HWIN_SIZE : Reg := ⟨0xA0420, 0xFFFFFFFF, 0x0, 0x0, 0x0, 0x0⟩
def MBX_HWIN_SIZE_SIZE : Fld := ⟨MBX_HWIN_SIZE, 31, 0⟩
/-- MBX_HWIN_CTRL, R673. -/
def MBX_HWIN_CTRL : Reg := ⟨0xA0424, 0x1, 0x0, 0x0, 0x0, 0x0⟩
def MBX_HWIN_CTRL_EN : Fld := ⟨MBX_HWIN_CTRL, 0, 0⟩
/-- MBX_CNT_BAR2_FAULT, R673. -/
def MBX_CNT_BAR2_FAULT : Reg := ⟨0xA0440, 0x0, 0x0, 0x0, 0xFFFFFFFF, 0x0⟩
def MBX_CNT_BAR2_FAULT_COUNT : Fld := ⟨MBX_CNT_BAR2_FAULT, 31, 0⟩
/-- MBX_CNT_HWIN_FAULT, R673. -/
def MBX_CNT_HWIN_FAULT : Reg := ⟨0xA0444, 0x0, 0x0, 0x0, 0xFFFFFFFF, 0x0⟩
def MBX_CNT_HWIN_FAULT_COUNT : Fld := ⟨MBX_CNT_HWIN_FAULT, 31, 0⟩
/-- MBX_CNT_PCIE_ERR, R673. -/
def MBX_CNT_PCIE_ERR : Reg := ⟨0xA0448, 0x0, 0x0, 0x0, 0xFFFFFFFF, 0x0⟩
def MBX_CNT_PCIE_ERR_COUNT : Fld := ⟨MBX_CNT_PCIE_ERR, 31, 0⟩
/-- MBX_CNT_RESETS, R673. -/
def MBX_CNT_RESETS : Reg := ⟨0xA044C, 0x0, 0x0, 0x0, 0xFFFFFFFF, 0x0⟩
def MBX_CNT_RESETS_COUNT : Fld := ⟨MBX_CNT_RESETS, 31, 0⟩
/-- MBX_WQ_CTRL, R674. -/
def MBX_WQ_CTRL : Reg := ⟨0xA0600, 0x1, 0x0, 0x0, 0x0, 0x0⟩
def MBX_WQ_CTRL_EN : Fld := ⟨MBX_WQ_CTRL, 0, 0⟩
/-- MBX_WQ_CFG, R674. -/
def MBX_WQ_CFG : Reg := ⟨0xA0604, 0xF, 0x0, 0x0, 0x0, 0x6⟩
def MBX_WQ_CFG_LOG2 : Fld := ⟨MBX_WQ_CFG, 3, 0⟩
/-- MBX_WQ_BASE_LO, R674. -/
def MBX_WQ_BASE_LO : Reg := ⟨0xA0608, 0xFFFFFFFF, 0x0, 0x0, 0x0, 0x0⟩
def MBX_WQ_BASE_LO_BASE_LO : Fld := ⟨MBX_WQ_BASE_LO, 31, 0⟩
/-- MBX_WQ_BASE_HI, R674. -/
def MBX_WQ_BASE_HI : Reg := ⟨0xA060C, 0xFF, 0x0, 0x0, 0x0, 0x0⟩
def MBX_WQ_BASE_HI_BASE_HI : Fld := ⟨MBX_WQ_BASE_HI, 7, 0⟩
/-- MBX_WQ_TAIL, R674. -/
def MBX_WQ_TAIL : Reg := ⟨0xA0610, 0xFFFFFFFF, 0x0, 0x0, 0x0, 0x0⟩
def MBX_WQ_TAIL_TAIL : Fld := ⟨MBX_WQ_TAIL, 31, 0⟩
/-- MBX_WQ_HEAD, R674. -/
def MBX_WQ_HEAD : Reg := ⟨0xA0614, 0x0, 0x0, 0x0, 0x0, 0x0⟩
def MBX_WQ_HEAD_HEAD : Fld := ⟨MBX_WQ_HEAD, 31, 0⟩
/-- MBX_RUNSET_CTRL, R674. -/
def MBX_RUNSET_CTRL : Reg := ⟨0xA0700, 0x18, 0x0, 0x3, 0x0, 0x0⟩
def MBX_RUNSET_CTRL_RUN_AUTO : Fld := ⟨MBX_RUNSET_CTRL, 4, 4⟩
def MBX_RUNSET_CTRL_AUTO_APPLY : Fld := ⟨MBX_RUNSET_CTRL, 3, 3⟩
def MBX_RUNSET_CTRL_APPLY : Fld := ⟨MBX_RUNSET_CTRL, 1, 1⟩
def MBX_RUNSET_CTRL_SAVE : Fld := ⟨MBX_RUNSET_CTRL, 0, 0⟩
/-- MBX_RUNSET_STATUS, R674. -/
def MBX_RUNSET_STATUS : Reg := ⟨0xA0704, 0x0, 0x0, 0x0, 0x0, 0x0⟩
def MBX_RUNSET_STATUS_LAST_STS : Fld := ⟨MBX_RUNSET_STATUS, 31, 16⟩
def MBX_RUNSET_STATUS_APPLIED : Fld := ⟨MBX_RUNSET_STATUS, 2, 2⟩
def MBX_RUNSET_STATUS_SAVE_PENDING : Fld := ⟨MBX_RUNSET_STATUS, 1, 1⟩
def MBX_RUNSET_STATUS_VALID : Fld := ⟨MBX_RUNSET_STATUS, 0, 0⟩
/-- MBX_IRQ_PEND, R675. -/
def MBX_IRQ_PEND : Reg := ⟨0xA0800, 0x0, 0xFFFFFFFF, 0x0, 0x0, 0x0⟩
def MBX_IRQ_PEND_PEND : Fld := ⟨MBX_IRQ_PEND, 31, 0⟩
/-- MBX_CELL_WATCH, R675 (k below 4). -/
def MBX_CELL_WATCH (k : Nat) : Reg := ⟨regOff 0xA0810 0x4 4 k, 0x80000FFF, 0x0, 0x0, 0x0, 0x0⟩
def MBX_CELL_WATCH_EN (k : Nat) : Fld := ⟨MBX_CELL_WATCH k, 31, 31⟩
def MBX_CELL_WATCH_CELL (k : Nat) : Fld := ⟨MBX_CELL_WATCH k, 11, 0⟩
/-- MBX_IRQ_VEC, R675 (k below 8). -/
def MBX_IRQ_VEC (k : Nat) : Reg := ⟨regOff 0xA0880 0x4 8 k, 0xBFBFBFBF, 0x0, 0x0, 0x0, 0x0⟩
def MBX_IRQ_VEC_EN3 (k : Nat) : Fld := ⟨MBX_IRQ_VEC k, 31, 31⟩
def MBX_IRQ_VEC_VECTOR3 (k : Nat) : Fld := ⟨MBX_IRQ_VEC k, 29, 24⟩
def MBX_IRQ_VEC_EN2 (k : Nat) : Fld := ⟨MBX_IRQ_VEC k, 23, 23⟩
def MBX_IRQ_VEC_VECTOR2 (k : Nat) : Fld := ⟨MBX_IRQ_VEC k, 21, 16⟩
def MBX_IRQ_VEC_EN1 (k : Nat) : Fld := ⟨MBX_IRQ_VEC k, 15, 15⟩
def MBX_IRQ_VEC_VECTOR1 (k : Nat) : Fld := ⟨MBX_IRQ_VEC k, 13, 8⟩
def MBX_IRQ_VEC_EN0 (k : Nat) : Fld := ⟨MBX_IRQ_VEC k, 7, 7⟩
def MBX_IRQ_VEC_VECTOR0 (k : Nat) : Fld := ⟨MBX_IRQ_VEC k, 5, 0⟩
/-- MBX_MSIX_ADDR_LO, R671 (k below 64). -/
def MBX_MSIX_ADDR_LO (k : Nat) : Reg := ⟨regOff 0xA2000 0x10 64 k, 0xFFFFFFFF, 0x0, 0x0, 0x0, 0x0⟩
def MBX_MSIX_ADDR_LO_ADDR_LO (k : Nat) : Fld := ⟨MBX_MSIX_ADDR_LO k, 31, 0⟩
/-- MBX_MSIX_ADDR_HI, R671 (k below 64). -/
def MBX_MSIX_ADDR_HI (k : Nat) : Reg := ⟨regOff 0xA2004 0x10 64 k, 0xFFFFFFFF, 0x0, 0x0, 0x0, 0x0⟩
def MBX_MSIX_ADDR_HI_ADDR_HI (k : Nat) : Fld := ⟨MBX_MSIX_ADDR_HI k, 31, 0⟩
/-- MBX_MSIX_DATA, R671 (k below 64). -/
def MBX_MSIX_DATA (k : Nat) : Reg := ⟨regOff 0xA2008 0x10 64 k, 0xFFFFFFFF, 0x0, 0x0, 0x0, 0x0⟩
def MBX_MSIX_DATA_DATA (k : Nat) : Fld := ⟨MBX_MSIX_DATA k, 31, 0⟩
/-- MBX_MSIX_CTRL, R671 (k below 64). -/
def MBX_MSIX_CTRL (k : Nat) : Reg := ⟨regOff 0xA200C 0x10 64 k, 0x1, 0x0, 0x0, 0x0, 0x1⟩
def MBX_MSIX_CTRL_MASK (k : Nat) : Fld := ⟨MBX_MSIX_CTRL k, 0, 0⟩
/-- MBX_MSIX_PBA, R671 (k below 2). -/
def MBX_MSIX_PBA (k : Nat) : Reg := ⟨regOff 0xA3000 0x4 2 k, 0x0, 0x0, 0x0, 0x0, 0x0⟩
def MBX_MSIX_PBA_PENDING (k : Nat) : Fld := ⟨MBX_MSIX_PBA k, 31, 0⟩

/-! ## Registers of chapter 18 -/

/-- SPI_CTRL, R703. -/
def SPI_CTRL : Reg := ⟨0x5000, 0x1, 0x0, 0x2, 0x0, 0x0⟩
def SPI_CTRL_ABORT : Fld := ⟨SPI_CTRL, 1, 1⟩
def SPI_CTRL_EN : Fld := ⟨SPI_CTRL, 0, 0⟩
/-- SPI_CFG, R703. -/
def SPI_CFG : Reg := ⟨0x5004, 0xFFFFFF, 0x0, 0x0, 0x0, 0x2110B⟩
def SPI_CFG_IDLE : Fld := ⟨SPI_CFG, 23, 16⟩
def SPI_CFG_HOLD : Fld := ⟨SPI_CFG, 15, 12⟩
def SPI_CFG_SETUP : Fld := ⟨SPI_CFG, 11, 8⟩
def SPI_CFG_DIV : Fld := ⟨SPI_CFG, 7, 0⟩
/-- SPI_STATUS, R703. -/
def SPI_STATUS : Reg := ⟨0x5008, 0x0, 0x0, 0x0, 0x0, 0x0⟩
def SPI_STATUS_LAST_STS : Fld := ⟨SPI_STATUS, 31, 16⟩
def SPI_STATUS_CPL_FILL : Fld := ⟨SPI_STATUS, 13, 8⟩
def SPI_STATUS_BUSY : Fld := ⟨SPI_STATUS, 7, 7⟩
def SPI_STATUS_Q_FILL : Fld := ⟨SPI_STATUS, 5, 0⟩
/-- SPI_ENT0, R703. -/
def SPI_ENT0 : Reg := ⟨0x5010, 0xFFFFFFFF, 0x0, 0x0, 0x0, 0x70⟩
def SPI_ENT0_STAT_VAL : Fld := ⟨SPI_ENT0, 31, 24⟩
def SPI_ENT0_STAT_MASK : Fld := ⟨SPI_ENT0, 23, 16⟩
def SPI_ENT0_PART_REJECT : Fld := ⟨SPI_ENT0, 15, 15⟩
def SPI_ENT0_RX_EN : Fld := ⟨SPI_ENT0, 14, 14⟩
def SPI_ENT0_STAT_CHK : Fld := ⟨SPI_ENT0, 13, 13⟩
def SPI_ENT0_STATUS : Fld := ⟨SPI_ENT0, 12, 12⟩
def SPI_ENT0_CHAIN : Fld := ⟨SPI_ENT0, 11, 11⟩
def SPI_ENT0_CONT : Fld := ⟨SPI_ENT0, 10, 10⟩
def SPI_ENT0_LSB_FIRST : Fld := ⟨SPI_ENT0, 9, 9⟩
def SPI_ENT0_BITS_M1 : Fld := ⟨SPI_ENT0, 8, 4⟩
def SPI_ENT0_CPOL : Fld := ⟨SPI_ENT0, 3, 3⟩
def SPI_ENT0_CPHA : Fld := ⟨SPI_ENT0, 2, 2⟩
def SPI_ENT0_CS : Fld := ⟨SPI_ENT0, 1, 0⟩
/-- SPI_ENT1, R703. -/
def SPI_ENT1 : Reg := ⟨0x5014, 0x1FFFFFF, 0x0, 0x0, 0x0, 0x10000⟩
def SPI_ENT1_COUNT : Fld := ⟨SPI_ENT1, 24, 16⟩
def SPI_ENT1_RX_OFF : Fld := ⟨SPI_ENT1, 15, 8⟩
def SPI_ENT1_TX_OFF : Fld := ⟨SPI_ENT1, 7, 0⟩
/-- SPI_ENT2, R703. -/
def SPI_ENT2 : Reg := ⟨0x5018, 0xFFFF00FF, 0x0, 0x0, 0x0, 0x0⟩
def SPI_ENT2_TAG : Fld := ⟨SPI_ENT2, 31, 16⟩
def SPI_ENT2_CMD : Fld := ⟨SPI_ENT2, 7, 0⟩
/-- SPI_PUSH, R703. -/
def SPI_PUSH : Reg := ⟨0x501C, 0x0, 0x0, 0x80000000, 0x0, 0x0⟩
def SPI_PUSH_GO : Fld := ⟨SPI_PUSH, 31, 31⟩
/-- SPI_CPL, R703 (k below 3). -/
def SPI_CPL (k : Nat) : Reg := ⟨regOff 0x5020 0x4 3 k, 0x0, 0x0, 0x0, 0x0, 0x0⟩
def SPI_CPL_RECORD (k : Nat) : Fld := ⟨SPI_CPL k, 31, 0⟩
/-- SPI_CNT_ENTRIES, R703. -/
def SPI_CNT_ENTRIES : Reg := ⟨0x5040, 0x0, 0x0, 0x0, 0xFFFFFFFF, 0x0⟩
def SPI_CNT_ENTRIES_COUNT : Fld := ⟨SPI_CNT_ENTRIES, 31, 0⟩
/-- SPI_CNT_FAILED, R703. -/
def SPI_CNT_FAILED : Reg := ⟨0x5044, 0x0, 0x0, 0x0, 0xFFFFFFFF, 0x0⟩
def SPI_CNT_FAILED_COUNT : Fld := ⟨SPI_CNT_FAILED, 31, 0⟩
/-- SPI_TXBUF, R703 (k below 256). -/
def SPI_TXBUF (k : Nat) : Reg := ⟨regOff 0x5400 0x4 256 k, 0xFFFFFFFF, 0x0, 0x0, 0x0, 0x0⟩
def SPI_TXBUF_DATA (k : Nat) : Fld := ⟨SPI_TXBUF k, 31, 0⟩
/-- SPI_RXBUF, R703 (k below 256). -/
def SPI_RXBUF (k : Nat) : Reg := ⟨regOff 0x5800 0x4 256 k, 0x0, 0x0, 0x0, 0x0, 0x0⟩
def SPI_RXBUF_DATA (k : Nat) : Fld := ⟨SPI_RXBUF k, 31, 0⟩
/-- I2C_CTRL, R704. -/
def I2C_CTRL : Reg := ⟨0x6000, 0x3, 0x0, 0xC, 0x0, 0x0⟩
def I2C_CTRL_TWIN_COMMIT : Fld := ⟨I2C_CTRL, 3, 3⟩
def I2C_CTRL_ABORT : Fld := ⟨I2C_CTRL, 2, 2⟩
def I2C_CTRL_TEN : Fld := ⟨I2C_CTRL, 1, 1⟩
def I2C_CTRL_CEN : Fld := ⟨I2C_CTRL, 0, 0⟩
/-- I2C_CFG, R704. -/
def I2C_CFG : Reg := ⟨0x6004, 0xFFF7, 0x0, 0x0, 0x0, 0x34⟩
def I2C_CFG_STRETCH_MAX_MS : Fld := ⟨I2C_CFG, 15, 8⟩
def I2C_CFG_RETRY_MAX : Fld := ⟨I2C_CFG, 7, 4⟩
def I2C_CFG_SMBUS : Fld := ⟨I2C_CFG, 2, 2⟩
def I2C_CFG_SPEED : Fld := ⟨I2C_CFG, 1, 0⟩
/-- I2C_STATUS, R704. -/
def I2C_STATUS : Reg := ⟨0x6008, 0x0, 0x0, 0x0, 0x0, 0x0⟩
def I2C_STATUS_LAST_STS : Fld := ⟨I2C_STATUS, 31, 16⟩
def I2C_STATUS_HOLDING : Fld := ⟨I2C_STATUS, 15, 15⟩
def I2C_STATUS_TGT_ACTIVE : Fld := ⟨I2C_STATUS, 14, 14⟩
def I2C_STATUS_CTL_ACTIVE : Fld := ⟨I2C_STATUS, 13, 13⟩
def I2C_STATUS_BUS_BUSY : Fld := ⟨I2C_STATUS, 12, 12⟩
/-- I2C_FILL, R704. -/
def I2C_FILL : Reg := ⟨0x600C, 0x0, 0x0, 0x0, 0x0, 0x0⟩
def I2C_FILL_TLOG : Fld := ⟨I2C_FILL, 20, 16⟩
def I2C_FILL_CPL : Fld := ⟨I2C_FILL, 12, 8⟩
def I2C_FILL_Q : Fld := ⟨I2C_FILL, 4, 0⟩
/-- I2C_CMD0, R704. -/
def I2C_CMD0 : Reg := ⟨0x6010, 0x7FFFF7F, 0x0, 0x0, 0x0, 0x0⟩
def I2C_CMD0_NOSTOP : Fld := ⟨I2C_CMD0, 26, 26⟩
def I2C_CMD0_BLOCK : Fld := ⟨I2C_CMD0, 25, 25⟩
def I2C_CMD0_PEC : Fld := ⟨I2C_CMD0, 24, 24⟩
def I2C_CMD0_RLEN : Fld := ⟨I2C_CMD0, 23, 16⟩
def I2C_CMD0_WLEN : Fld := ⟨I2C_CMD0, 15, 8⟩
def I2C_CMD0_ADDR : Fld := ⟨I2C_CMD0, 6, 0⟩
/-- I2C_CMD1, R704. -/
def I2C_CMD1 : Reg := ⟨0x6014, 0xFFFFFFFF, 0x0, 0x0, 0x0, 0x0⟩
def I2C_CMD1_TAG : Fld := ⟨I2C_CMD1, 31, 16⟩
def I2C_CMD1_RX_OFF : Fld := ⟨I2C_CMD1, 15, 8⟩
def I2C_CMD1_TX_OFF : Fld := ⟨I2C_CMD1, 7, 0⟩
/-- I2C_PUSH, R704. -/
def I2C_PUSH : Reg := ⟨0x6018, 0x0, 0x0, 0x80000000, 0x0, 0x0⟩
def I2C_PUSH_GO : Fld := ⟨I2C_PUSH, 31, 31⟩
/-- I2C_CPL0, R704. -/
def I2C_CPL0 : Reg := ⟨0x6020, 0x0, 0x0, 0x0, 0x0, 0x0⟩
def I2C_CPL0_RETRIES : Fld := ⟨I2C_CPL0, 23, 20⟩
def I2C_CPL0_STATE : Fld := ⟨I2C_CPL0, 18, 16⟩
def I2C_CPL0_TAG : Fld := ⟨I2C_CPL0, 15, 0⟩
/-- I2C_CPL1, R704. -/
def I2C_CPL1 : Reg := ⟨0x6024, 0x0, 0x0, 0x0, 0x0, 0x0⟩
def I2C_CPL1_STS : Fld := ⟨I2C_CPL1, 31, 16⟩
def I2C_CPL1_WRITTEN : Fld := ⟨I2C_CPL1, 15, 8⟩
def I2C_CPL1_READ : Fld := ⟨I2C_CPL1, 7, 0⟩
/-- I2C_TGT_CFG, R704. -/
def I2C_TGT_CFG : Reg := ⟨0x6030, 0xFF, 0x0, 0x0, 0x0, 0x4C⟩
def I2C_TGT_CFG_PEC : Fld := ⟨I2C_TGT_CFG, 7, 7⟩
def I2C_TGT_CFG_ADDR : Fld := ⟨I2C_TGT_CFG, 6, 0⟩
/-- I2C_TLOG, R704. -/
def I2C_TLOG : Reg := ⟨0x6034, 0x0, 0x0, 0x0, 0x0, 0x0⟩
def I2C_TLOG_LEN : Fld := ⟨I2C_TLOG, 23, 16⟩
def I2C_TLOG_START_PTR : Fld := ⟨I2C_TLOG, 15, 8⟩
def I2C_TLOG_RO_NACK : Fld := ⟨I2C_TLOG, 4, 4⟩
def I2C_TLOG_PEC_FAIL : Fld := ⟨I2C_TLOG, 3, 3⟩
def I2C_TLOG_END : Fld := ⟨I2C_TLOG, 2, 1⟩
def I2C_TLOG_DIR : Fld := ⟨I2C_TLOG, 0, 0⟩
/-- I2C_CNT_CMDS, R704. -/
def I2C_CNT_CMDS : Reg := ⟨0x6040, 0x0, 0x0, 0x0, 0xFFFFFFFF, 0x0⟩
def I2C_CNT_CMDS_COUNT : Fld := ⟨I2C_CNT_CMDS, 31, 0⟩
/-- I2C_CNT_ARB_LOST, R704. -/
def I2C_CNT_ARB_LOST : Reg := ⟨0x6044, 0x0, 0x0, 0x0, 0xFFFFFFFF, 0x0⟩
def I2C_CNT_ARB_LOST_COUNT : Fld := ⟨I2C_CNT_ARB_LOST, 31, 0⟩
/-- I2C_CNT_NACK, R704. -/
def I2C_CNT_NACK : Reg := ⟨0x6048, 0x0, 0x0, 0x0, 0xFFFFFFFF, 0x0⟩
def I2C_CNT_NACK_COUNT : Fld := ⟨I2C_CNT_NACK, 31, 0⟩
/-- I2C_CNT_TGT_TXN, R704. -/
def I2C_CNT_TGT_TXN : Reg := ⟨0x604C, 0x0, 0x0, 0x0, 0xFFFFFFFF, 0x0⟩
def I2C_CNT_TGT_TXN_COUNT : Fld := ⟨I2C_CNT_TGT_TXN, 31, 0⟩
/-- I2C_TXBUF, R704 (k below 64). -/
def I2C_TXBUF (k : Nat) : Reg := ⟨regOff 0x6400 0x4 64 k, 0xFFFFFFFF, 0x0, 0x0, 0x0, 0x0⟩
def I2C_TXBUF_DATA (k : Nat) : Fld := ⟨I2C_TXBUF k, 31, 0⟩
/-- I2C_RXBUF, R704 (k below 64). -/
def I2C_RXBUF (k : Nat) : Reg := ⟨regOff 0x6500 0x4 64 k, 0x0, 0x0, 0x0, 0x0, 0x0⟩
def I2C_RXBUF_DATA (k : Nat) : Fld := ⟨I2C_RXBUF k, 31, 0⟩
/-- I2C_TWIN, R704 (k below 64). -/
def I2C_TWIN (k : Nat) : Reg := ⟨regOff 0x6600 0x4 64 k, 0xFFFFFFFF, 0x0, 0x0, 0x0, 0x0⟩
def I2C_TWIN_DATA (k : Nat) : Fld := ⟨I2C_TWIN k, 31, 0⟩
/-- I2C_TWIN_LIVE, R704 (k below 64). -/
def I2C_TWIN_LIVE (k : Nat) : Reg := ⟨regOff 0x6700 0x4 64 k, 0x0, 0x0, 0x0, 0x0, 0x0⟩
def I2C_TWIN_LIVE_DATA (k : Nat) : Fld := ⟨I2C_TWIN_LIVE k, 31, 0⟩

/-! ## Registers of chapter 19 -/

/-- JRN_CTRL, R722. -/
def JRN_CTRL : Reg := ⟨0x4000, 0x0, 0x0, 0x2, 0x0, 0x0⟩
def JRN_CTRL_FLUSH : Fld := ⟨JRN_CTRL, 1, 1⟩
def JRN_CTRL_ARMED : Fld := ⟨JRN_CTRL, 0, 0⟩
/-- JRN_CFG, R722. -/
def JRN_CFG : Reg := ⟨0x4004, 0xFFFFFFFF, 0x0, 0x0, 0x0, 0x3C0323C⟩
def JRN_CFG_RESERVE_MJ : Fld := ⟨JRN_CFG, 31, 16⟩
def JRN_CFG_FLUSH_MS : Fld := ⟨JRN_CFG, 15, 8⟩
def JRN_CFG_CNT_S : Fld := ⟨JRN_CFG, 7, 0⟩
/-- JRN_STATUS, R722. -/
def JRN_STATUS : Reg := ⟨0x4008, 0x0, 0x0, 0x0, 0x0, 0x0⟩
def JRN_STATUS_LAST_STS : Fld := ⟨JRN_STATUS, 31, 16⟩
def JRN_STATUS_LAST_END : Fld := ⟨JRN_STATUS, 6, 4⟩
def JRN_STATUS_REPLAYED : Fld := ⟨JRN_STATUS, 3, 3⟩
def JRN_STATUS_DEFERRED : Fld := ⟨JRN_STATUS, 1, 1⟩
def JRN_STATUS_BUSY : Fld := ⟨JRN_STATUS, 0, 0⟩
/-- JRN_SEQ, R722. -/
def JRN_SEQ : Reg := ⟨0x400C, 0x0, 0x0, 0x0, 0x0, 0x0⟩
def JRN_SEQ_JSEQ : Fld := ⟨JRN_SEQ, 31, 0⟩
/-- JRN_STAGE, R722. -/
def JRN_STAGE : Reg := ⟨0x4010, 0x0, 0x0, 0x0, 0xFFFF0000, 0x0⟩
def JRN_STAGE_HWM : Fld := ⟨JRN_STAGE, 31, 16⟩
def JRN_STAGE_BYTES : Fld := ⟨JRN_STAGE, 15, 0⟩
/-- JRN_RUNWAY, R722. -/
def JRN_RUNWAY : Reg := ⟨0x4014, 0x0, 0x0, 0x0, 0x0, 0x0⟩
def JRN_RUNWAY_PAGES : Fld := ⟨JRN_RUNWAY, 15, 0⟩
/-- JRN_WRPTR, R722. -/
def JRN_WRPTR : Reg := ⟨0x4018, 0x0, 0x0, 0x0, 0x0, 0x0⟩
def JRN_WRPTR_OFS : Fld := ⟨JRN_WRPTR, 27, 0⟩
/-- JRN_OLDEST, R722. -/
def JRN_OLDEST : Reg := ⟨0x401C, 0x0, 0x0, 0x0, 0x0, 0x0⟩
def JRN_OLDEST_OFS : Fld := ⟨JRN_OLDEST, 27, 0⟩
/-- JRN_START_CNT, R722. -/
def JRN_START_CNT : Reg := ⟨0x4020, 0x0, 0x0, 0x0, 0x0, 0x0⟩
def JRN_START_CNT_COUNT : Fld := ⟨JRN_START_CNT, 31, 0⟩
/-- JRN_LAST_LOSS, R722. -/
def JRN_LAST_LOSS : Reg := ⟨0x4024, 0x0, 0x0, 0x0, 0x0, 0x0⟩
def JRN_LAST_LOSS_E_MJ : Fld := ⟨JRN_LAST_LOSS, 31, 16⟩
def JRN_LAST_LOSS_PAGES : Fld := ⟨JRN_LAST_LOSS, 15, 0⟩
/-- JRN_CNT_PAGES, R723. -/
def JRN_CNT_PAGES : Reg := ⟨0x4030, 0x0, 0x0, 0x0, 0xFFFFFFFF, 0x0⟩
def JRN_CNT_PAGES_COUNT : Fld := ⟨JRN_CNT_PAGES, 31, 0⟩
/-- JRN_CNT_ERASES, R723. -/
def JRN_CNT_ERASES : Reg := ⟨0x4034, 0x0, 0x0, 0x0, 0xFFFFFFFF, 0x0⟩
def JRN_CNT_ERASES_COUNT : Fld := ⟨JRN_CNT_ERASES, 31, 0⟩
/-- JRN_CNT_DEFER, R723. -/
def JRN_CNT_DEFER : Reg := ⟨0x4038, 0x0, 0x0, 0x0, 0xFFFFFFFF, 0x0⟩
def JRN_CNT_DEFER_COUNT : Fld := ⟨JRN_CNT_DEFER, 31, 0⟩
/-- JRN_CNT_DROP, R723. -/
def JRN_CNT_DROP : Reg := ⟨0x403C, 0x0, 0x0, 0x0, 0xFFFFFFFF, 0x0⟩
def JRN_CNT_DROP_COUNT : Fld := ⟨JRN_CNT_DROP, 31, 0⟩
/-- JRN_CNT_CRC, R723. -/
def JRN_CNT_CRC : Reg := ⟨0x4040, 0x0, 0x0, 0x0, 0xFFFFFFFF, 0x0⟩
def JRN_CNT_CRC_COUNT : Fld := ⟨JRN_CNT_CRC, 31, 0⟩
/-- JRN_CNT_FLASH_FAIL, R723. -/
def JRN_CNT_FLASH_FAIL : Reg := ⟨0x4044, 0x0, 0x0, 0x0, 0xFFFFFFFF, 0x0⟩
def JRN_CNT_FLASH_FAIL_COUNT : Fld := ⟨JRN_CNT_FLASH_FAIL, 31, 0⟩
/-- JRN_RD_OFS, R723. -/
def JRN_RD_OFS : Reg := ⟨0x4080, 0xFFFFF00, 0x0, 0x0, 0x0, 0x0⟩
def JRN_RD_OFS_PAGE : Fld := ⟨JRN_RD_OFS, 27, 8⟩
/-- JRN_RD_CTRL, R723. -/
def JRN_RD_CTRL : Reg := ⟨0x4084, 0x0, 0x0, 0x80000000, 0x0, 0x0⟩
def JRN_RD_CTRL_GO : Fld := ⟨JRN_RD_CTRL, 31, 31⟩
def JRN_RD_CTRL_DONE : Fld := ⟨JRN_RD_CTRL, 0, 0⟩
/-- JRN_RD_DATA, R723 (k below 64). -/
def JRN_RD_DATA (k : Nat) : Reg := ⟨regOff 0x4100 0x4 64 k, 0x0, 0x0, 0x0, 0x0, 0x0⟩
def JRN_RD_DATA_DATA (k : Nat) : Fld := ⟨JRN_RD_DATA k, 31, 0⟩
/-- JRN_TOT, R723 (k below 16). -/
def JRN_TOT (k : Nat) : Reg := ⟨regOff 0x4200 0x4 16 k, 0x0, 0x0, 0x0, 0x0, 0x0⟩
def JRN_TOT_TOTAL (k : Nat) : Fld := ⟨JRN_TOT k, 31, 0⟩

end R

/-- A row of the map: `cnt` registers from `base` on, `stride` bytes apart. -/
structure RegRow where
  base : Nat
  stride : Nat
  cnt : Nat
  reg : Reg
  deriving DecidableEq, Repr

/-- The rows of the Sys block. -/
def rowsSys : List RegRow := [
  ⟨0x0, 0x4, 1, R.SYS_ID⟩,
  ⟨0x4, 0x4, 1, R.SYS_REV⟩,
  ⟨0x8, 0x4, 1, R.SYS_CAP_UNITS⟩,
  ⟨0xC, 0x4, 1, R.SYS_SUP_VER⟩,
  ⟨0x10, 0x4, 1, R.SYS_TILE_VER⟩,
  ⟨0x14, 0x4, 1, R.SYS_SERIAL_LO⟩,
  ⟨0x18, 0x4, 1, R.SYS_SERIAL_HI⟩,
  ⟨0x1C, 0x4, 1, R.SYS_BOOT_STATUS⟩,
  ⟨0x20, 0x4, 1, R.SYS_START_MS⟩,
  ⟨0x24, 0x4, 1, R.SYS_FATAL⟩,
  ⟨0x40, 0x4, 8, R.SYS_REPRO_DIGEST 0⟩,
  ⟨0x60, 0x4, 1, R.SYS_REPRO_STATUS⟩]

/-- The rows of the Boot block. -/
def rowsBoot : List RegRow := [
  ⟨0x1000, 0x4, 1, R.BOOT_CFG⟩,
  ⟨0x1004, 0x4, 1, R.BOOT_CTRL⟩,
  ⟨0x1008, 0x4, 1, R.BOOT_MAP_COUNT⟩,
  ⟨0x100C, 0x4, 1, R.BOOT_MAP_SEL⟩,
  ⟨0x1010, 0x4, 1, R.BOOT_MAP_ENTRY⟩,
  ⟨0x1020, 0x4, 8, R.BOOT_MAP_DIGEST 0⟩,
  ⟨0x1040, 0x4, 1, R.BOOT_FMAP_ADD⟩,
  ⟨0x1044, 0x4, 1, R.BOOT_FMAP_STATUS⟩,
  ⟨0x1048, 0x4, 1, R.BOOT_L2P_SEL⟩,
  ⟨0x104C, 0x4, 1, R.BOOT_L2P⟩,
  ⟨0x1050, 0x4, 1, R.BOOT_FW_SLOT⟩,
  ⟨0x1054, 0x4, 1, R.BOOT_HOST_PKG⟩,
  ⟨0x1058, 0x4, 1, R.BOOT_RESTARTS⟩,
  ⟨0x105C, 0x4, 1, R.BOOT_FUSE_CORR⟩,
  ⟨0x1060, 0x4, 1, R.BOOT_LANE_CAL⟩,
  ⟨0x1084, 0x4, 10, R.BOOT_STAGE_US 0⟩,
  ⟨0x1100, 0x4, 1, R.BOOT_IMG_CTRL⟩,
  ⟨0x1104, 0x4, 1, R.BOOT_IMG_ADDR_LO⟩,
  ⟨0x1108, 0x4, 1, R.BOOT_IMG_ADDR_HI⟩,
  ⟨0x110C, 0x4, 1, R.BOOT_IMG_LEN⟩,
  ⟨0x1110, 0x4, 1, R.BOOT_IMG_STATUS⟩,
  ⟨0x1114, 0x4, 1, R.BOOT_IMG_DETAIL⟩,
  ⟨0x1118, 0x4, 1, R.BOOT_IMG_ACTIVE⟩,
  ⟨0x111C, 0x4, 1, R.BOOT_IMG_REV⟩,
  ⟨0x1120, 0x4, 1, R.BOOT_IMG_SLOTS⟩,
  ⟨0x1124, 0x4, 1, R.BOOT_IMG_KEYS⟩,
  ⟨0x1128, 0x4, 1, R.BOOT_IMG_LOAD_MS⟩,
  ⟨0x1140, 0x4, 8, R.BOOT_IMG_DIGEST 0⟩]

/-- The rows of the Clk block. -/
def rowsClk : List RegRow := [
  ⟨0x2000, 0x4, 1, R.CLK_STATUS⟩,
  ⟨0x2004, 0x4, 1, R.CLK_FAIL⟩,
  ⟨0x2008, 0x4, 1, R.CLK_MEAS_SEL⟩,
  ⟨0x200C, 0x4, 1, R.CLK_MEAS⟩,
  ⟨0x2010, 0x4, 1, R.CLK_CORE⟩,
  ⟨0x2020, 0x4, 1, R.CLK_XING_SEL⟩,
  ⟨0x2024, 0x4, 1, R.CLK_XING_HWM⟩,
  ⟨0x2028, 0x4, 1, R.CLK_XING_DROP⟩]

/-- The rows of the Pwr block. -/
def rowsPwr : List RegRow := [
  ⟨0x3100, 0x4, 1, R.PWR_VIN⟩,
  ⟨0x3104, 0x4, 1, R.PWR_VCAM⟩,
  ⟨0x3108, 0x4, 1, R.PWR_VEJ⟩,
  ⟨0x310C, 0x4, 1, R.PWR_MOD_STATUS⟩,
  ⟨0x3110, 0x4, 1, R.PWR_HOLDUP⟩,
  ⟨0x3114, 0x4, 1, R.PWR_HOLDUP_CAP⟩,
  ⟨0x3118, 0x4, 1, R.PWR_TEMP⟩,
  ⟨0x311C, 0x4, 1, R.PWR_THERM_CFG⟩,
  ⟨0x3120, 0x4, 1, R.PWR_RELAY⟩,
  ⟨0x3124, 0x4, 1, R.PWR_POCXP⟩,
  ⟨0x3128, 0x4, 1, R.PWR_POCXP_STS⟩,
  ⟨0x312C, 0x4, 1, R.PWR_ENC_SUP⟩,
  ⟨0x3130, 0x4, 1, R.PWR_POWER⟩,
  ⟨0x3000, 0x4, 1, R.PWR_MODE_REQ⟩,
  ⟨0x3004, 0x4, 1, R.PWR_MODE_STATUS⟩,
  ⟨0x3008, 0x4, 1, R.PWR_MODE_CFG⟩,
  ⟨0x300C, 0x4, 1, R.PWR_WAKE_EN⟩,
  ⟨0x3010, 0x4, 1, R.PWR_WAKE_LATCH⟩,
  ⟨0x3014, 0x4, 1, R.PWR_WAKE_LANE⟩,
  ⟨0x3018, 0x4, 1, R.PWR_WAKE_TIMER⟩,
  ⟨0x301C, 0x4, 1, R.PWR_ROLLBACKS⟩,
  ⟨0x3020, 0x4, 1, R.PWR_EXIT_US⟩]

/-- The rows of the Jrn block. -/
def rowsJrn : List RegRow := [
  ⟨0x4000, 0x4, 1, R.JRN_CTRL⟩,
  ⟨0x4004, 0x4, 1, R.JRN_CFG⟩,
  ⟨0x4008, 0x4, 1, R.JRN_STATUS⟩,
  ⟨0x400C, 0x4, 1, R.JRN_SEQ⟩,
  ⟨0x4010, 0x4, 1, R.JRN_STAGE⟩,
  ⟨0x4014, 0x4, 1, R.JRN_RUNWAY⟩,
  ⟨0x4018, 0x4, 1, R.JRN_WRPTR⟩,
  ⟨0x401C, 0x4, 1, R.JRN_OLDEST⟩,
  ⟨0x4020, 0x4, 1, R.JRN_START_CNT⟩,
  ⟨0x4024, 0x4, 1, R.JRN_LAST_LOSS⟩,
  ⟨0x4030, 0x4, 1, R.JRN_CNT_PAGES⟩,
  ⟨0x4034, 0x4, 1, R.JRN_CNT_ERASES⟩,
  ⟨0x4038, 0x4, 1, R.JRN_CNT_DEFER⟩,
  ⟨0x403C, 0x4, 1, R.JRN_CNT_DROP⟩,
  ⟨0x4040, 0x4, 1, R.JRN_CNT_CRC⟩,
  ⟨0x4044, 0x4, 1, R.JRN_CNT_FLASH_FAIL⟩,
  ⟨0x4080, 0x4, 1, R.JRN_RD_OFS⟩,
  ⟨0x4084, 0x4, 1, R.JRN_RD_CTRL⟩,
  ⟨0x4100, 0x4, 64, R.JRN_RD_DATA 0⟩,
  ⟨0x4200, 0x4, 16, R.JRN_TOT 0⟩]

/-- The rows of the Spi block. -/
def rowsSpi : List RegRow := [
  ⟨0x5000, 0x4, 1, R.SPI_CTRL⟩,
  ⟨0x5004, 0x4, 1, R.SPI_CFG⟩,
  ⟨0x5008, 0x4, 1, R.SPI_STATUS⟩,
  ⟨0x5010, 0x4, 1, R.SPI_ENT0⟩,
  ⟨0x5014, 0x4, 1, R.SPI_ENT1⟩,
  ⟨0x5018, 0x4, 1, R.SPI_ENT2⟩,
  ⟨0x501C, 0x4, 1, R.SPI_PUSH⟩,
  ⟨0x5020, 0x4, 3, R.SPI_CPL 0⟩,
  ⟨0x5040, 0x4, 1, R.SPI_CNT_ENTRIES⟩,
  ⟨0x5044, 0x4, 1, R.SPI_CNT_FAILED⟩,
  ⟨0x5400, 0x4, 256, R.SPI_TXBUF 0⟩,
  ⟨0x5800, 0x4, 256, R.SPI_RXBUF 0⟩]

/-- The rows of the I2c block. -/
def rowsI2c : List RegRow := [
  ⟨0x6000, 0x4, 1, R.I2C_CTRL⟩,
  ⟨0x6004, 0x4, 1, R.I2C_CFG⟩,
  ⟨0x6008, 0x4, 1, R.I2C_STATUS⟩,
  ⟨0x600C, 0x4, 1, R.I2C_FILL⟩,
  ⟨0x6010, 0x4, 1, R.I2C_CMD0⟩,
  ⟨0x6014, 0x4, 1, R.I2C_CMD1⟩,
  ⟨0x6018, 0x4, 1, R.I2C_PUSH⟩,
  ⟨0x6020, 0x4, 1, R.I2C_CPL0⟩,
  ⟨0x6024, 0x4, 1, R.I2C_CPL1⟩,
  ⟨0x6030, 0x4, 1, R.I2C_TGT_CFG⟩,
  ⟨0x6034, 0x4, 1, R.I2C_TLOG⟩,
  ⟨0x6040, 0x4, 1, R.I2C_CNT_CMDS⟩,
  ⟨0x6044, 0x4, 1, R.I2C_CNT_ARB_LOST⟩,
  ⟨0x6048, 0x4, 1, R.I2C_CNT_NACK⟩,
  ⟨0x604C, 0x4, 1, R.I2C_CNT_TGT_TXN⟩,
  ⟨0x6400, 0x4, 64, R.I2C_TXBUF 0⟩,
  ⟨0x6500, 0x4, 64, R.I2C_RXBUF 0⟩,
  ⟨0x6600, 0x4, 64, R.I2C_TWIN 0⟩,
  ⟨0x6700, 0x4, 64, R.I2C_TWIN_LIVE 0⟩]

/-- The rows of the Ptp block. -/
def rowsPtp : List RegRow := [
  ⟨0x8000, 0x4, 1, R.PTP_CFG⟩,
  ⟨0x8004, 0x4, 1, R.PTP_STATUS⟩,
  ⟨0x8010, 0x4, 1, R.PTP_SNAP_FRAC⟩,
  ⟨0x8014, 0x4, 1, R.PTP_SNAP_NS⟩,
  ⟨0x8018, 0x4, 1, R.PTP_SNAP_SEC_LO⟩,
  ⟨0x801C, 0x4, 1, R.PTP_SNAP_SEC_HI⟩,
  ⟨0x8020, 0x4, 1, R.PTP_SNAP_MONO_LO⟩,
  ⟨0x8024, 0x4, 1, R.PTP_SNAP_MONO_HI⟩,
  ⟨0x8030, 0x4, 1, R.PTP_RATE⟩,
  ⟨0x8034, 0x4, 1, R.PTP_STEP_SEC_LO⟩,
  ⟨0x8038, 0x4, 1, R.PTP_STEP_SEC_HI⟩,
  ⟨0x803C, 0x4, 1, R.PTP_STEP_NS⟩,
  ⟨0x8040, 0x4, 1, R.PTP_STEP_CTRL⟩,
  ⟨0x8044, 0x4, 1, R.PTP_OFS_NS⟩,
  ⟨0x8048, 0x4, 1, R.PTP_OFS_SEC_LO⟩,
  ⟨0x804C, 0x4, 1, R.PTP_OFS_SEC_HI⟩,
  ⟨0x8050, 0x4, 1, R.PTP_SERVO_CFG⟩,
  ⟨0x8054, 0x4, 1, R.PTP_STEP_THR⟩,
  ⟨0x8058, 0x4, 1, R.PTP_SERVO_GAIN⟩,
  ⟨0x805C, 0x4, 1, R.PTP_HOLD⟩,
  ⟨0x8060, 0x4, 1, R.PTP_SMP_STATUS⟩,
  ⟨0x8064, 0x4, 1, R.PTP_SMP_OFS_LO⟩,
  ⟨0x8068, 0x4, 1, R.PTP_SMP_OFS_HI⟩,
  ⟨0x806C, 0x4, 1, R.PTP_SMP_DELAY⟩,
  ⟨0x8070, 0x4, 1, R.PTP_SMP_MONO_LO⟩,
  ⟨0x8074, 0x4, 1, R.PTP_SMP_MONO_HI⟩,
  ⟨0x8100, 0x40, 2, R.PTP_PORT_CFG 0⟩,
  ⟨0x8104, 0x40, 2, R.PTP_TX_LAT 0⟩,
  ⟨0x8108, 0x40, 2, R.PTP_RX_LAT 0⟩,
  ⟨0x810C, 0x40, 2, R.PTP_ASYM 0⟩,
  ⟨0x8110, 0x40, 2, R.PTP_PORT_STATUS 0⟩,
  ⟨0x8120, 0x40, 2, R.PTP_CNT_RXEV 0⟩,
  ⟨0x8124, 0x40, 2, R.PTP_CNT_TXEV 0⟩,
  ⟨0x8128, 0x40, 2, R.PTP_CNT_RXDROP 0⟩,
  ⟨0x812C, 0x40, 2, R.PTP_CNT_TXLOST 0⟩,
  ⟨0x8130, 0x40, 2, R.PTP_CNT_OTHER 0⟩,
  ⟨0x8200, 0x4, 1, R.PTP_EVT_CFG⟩,
  ⟨0x8204, 0x4, 1, R.PTP_EVT_MARK_LO⟩,
  ⟨0x8208, 0x4, 1, R.PTP_EVT_MARK_HI⟩,
  ⟨0x820C, 0x4, 1, R.PTP_EVT_STATUS⟩,
  ⟨0x8210, 0x4, 4, R.PTP_EVT_DATA 0⟩,
  ⟨0x8220, 0x4, 1, R.PTP_EVT_LOST⟩,
  ⟨0x8240, 0x4, 1, R.PTP_STEP_LOG_SEL⟩,
  ⟨0x8244, 0x4, 5, R.PTP_STEP_LOG 0⟩]

/-- The rows of the Mot block. -/
def rowsMot : List RegRow := [
  ⟨0x10800, 0x4, 1, R.MOT_TRK_CFG⟩,
  ⟨0x10804, 0x4, 1, R.MOT_TRK_VMIN⟩,
  ⟨0x10808, 0x4, 1, R.MOT_TRK_VMAX⟩,
  ⟨0x1080C, 0x4, 1, R.MOT_TRK_REV_LIMIT⟩,
  ⟨0x10810, 0x4, 1, R.MOT_TRK_GLITCH_THR⟩,
  ⟨0x10814, 0x4, 1, R.MOT_TRK_FORCE⟩,
  ⟨0x10818, 0x4, 1, R.MOT_TRK_STATUS⟩,
  ⟨0x1081C, 0x4, 1, R.MOT_TRK_ACTIVE⟩,
  ⟨0x10820, 0x4, 1, R.MOT_TRK_OPENED⟩,
  ⟨0x10824, 0x4, 1, R.MOT_TRK_DROPPED⟩,
  ⟨0x10828, 0x4, 1, R.MOT_TRK_NEXT_SEQ⟩,
  ⟨0x1082C, 0x4, 1, R.MOT_TRK_SEL⟩,
  ⟨0x10830, 0x4, 1, R.MOT_TRK_V_SEQ⟩,
  ⟨0x10834, 0x4, 1, R.MOT_TRK_V_STATE⟩,
  ⟨0x10838, 0x4, 1, R.MOT_TRK_V_DL_LO⟩,
  ⟨0x1083C, 0x4, 1, R.MOT_TRK_V_DL_HI⟩,
  ⟨0x10840, 0x4, 1, R.MOT_TRK_DECL_LO⟩,
  ⟨0x10844, 0x4, 1, R.MOT_TRK_DECL_HI⟩,
  ⟨0x10848, 0x4, 1, R.MOT_TRK_COMMIT_SEQ⟩,
  ⟨0x1084C, 0x4, 1, R.MOT_TRK_COMMIT⟩,
  ⟨0x10900, 0x20, 16, R.MOT_GATE_CFG 0⟩,
  ⟨0x10904, 0x20, 16, R.MOT_GATE_PRES_OFFS 0⟩,
  ⟨0x10908, 0x20, 16, R.MOT_GATE_WIN 0⟩,
  ⟨0x1090C, 0x20, 16, R.MOT_GATE_FIRE 0⟩,
  ⟨0x10910, 0x20, 16, R.MOT_GATE_MARGIN 0⟩,
  ⟨0x10B00, 0x4, 1, R.MOT_DI_CFG⟩,
  ⟨0x10B04, 0x4, 1, R.MOT_DI_STS⟩,
  ⟨0x10000, 0x100, 4, R.MOT_CH_CFG 0⟩,
  ⟨0x10004, 0x100, 4, R.MOT_CH_QUAL 0⟩,
  ⟨0x10008, 0x100, 4, R.MOT_CH_SPACE 0⟩,
  ⟨0x1000C, 0x100, 4, R.MOT_CH_WIRE 0⟩,
  ⟨0x10010, 0x100, 4, R.MOT_CH_GATE 0⟩,
  ⟨0x10014, 0x100, 4, R.MOT_CH_VHI 0⟩,
  ⟨0x10018, 0x100, 4, R.MOT_CH_VLO 0⟩,
  ⟨0x1001C, 0x100, 4, R.MOT_CH_CPR 0⟩,
  ⟨0x10020, 0x100, 4, R.MOT_CH_X_LO 0⟩,
  ⟨0x10024, 0x100, 4, R.MOT_CH_X_HI 0⟩,
  ⟨0x10028, 0x100, 4, R.MOT_CH_E_LO 0⟩,
  ⟨0x1002C, 0x100, 4, R.MOT_CH_E_HI 0⟩,
  ⟨0x10030, 0x100, 4, R.MOT_CH_SPEED 0⟩,
  ⟨0x10034, 0x100, 4, R.MOT_CH_STATUS 0⟩,
  ⟨0x10038, 0x100, 4, R.MOT_CH_IDX_LO 0⟩,
  ⟨0x1003C, 0x100, 4, R.MOT_CH_IDX_HI 0⟩,
  ⟨0x10040, 0x100, 4, R.MOT_CH_CNT_GLITCH 0⟩,
  ⟨0x10044, 0x100, 4, R.MOT_CH_CNT_WIRE 0⟩,
  ⟨0x10048, 0x100, 4, R.MOT_CH_CNT_QUAD 0⟩,
  ⟨0x1004C, 0x100, 4, R.MOT_CH_CNT_INDEX 0⟩,
  ⟨0x10050, 0x100, 4, R.MOT_CH_CNT_SER 0⟩,
  ⟨0x10054, 0x100, 4, R.MOT_CH_CNT_REV 0⟩,
  ⟨0x10060, 0x100, 4, R.MOT_CH_SER_CFG 0⟩,
  ⟨0x10064, 0x100, 4, R.MOT_CH_SER_TIM 0⟩,
  ⟨0x10068, 0x100, 4, R.MOT_CH_SER_CRC 0⟩,
  ⟨0x1006C, 0x100, 4, R.MOT_CH_SER_JUMP 0⟩,
  ⟨0x10070, 0x100, 4, R.MOT_CH_SER_DLY 0⟩]

/-- The rows of the Ej block. -/
def rowsEj : List RegRow := [
  ⟨0x12800, 0x4, 16, R.EJ_DISP 0⟩,
  ⟨0x12840, 0x4, 1, R.EJ_LATE_CNT⟩,
  ⟨0x12844, 0x4, 1, R.EJ_LATE_ARRIVED⟩,
  ⟨0x12848, 0x4, 1, R.EJ_OVF_CNT⟩,
  ⟨0x1284C, 0x4, 1, R.EJ_FIRE_LATE_CNT⟩,
  ⟨0x12850, 0x4, 1, R.EJ_POL_STATUS⟩,
  ⟨0x12860, 0x4, 1, R.EJ_LSTOP⟩,
  ⟨0x12864, 0x4, 1, R.EJ_OUT_STS⟩,
  ⟨0x12000, 0x40, 16, R.EJ_OUT_CFG 0⟩,
  ⟨0x12004, 0x40, 16, R.EJ_OUT_WIDTH 0⟩,
  ⟨0x12008, 0x40, 16, R.EJ_OUT_TIMING 0⟩,
  ⟨0x1200C, 0x40, 16, R.EJ_OUT_LIMIT 0⟩,
  ⟨0x12010, 0x40, 16, R.EJ_OUT_STATUS 0⟩,
  ⟨0x12014, 0x40, 16, R.EJ_OUT_CTRL 0⟩,
  ⟨0x12018, 0x40, 16, R.EJ_OUT_HEAD_LO 0⟩,
  ⟨0x1201C, 0x40, 16, R.EJ_OUT_HEAD_HI 0⟩,
  ⟨0x12020, 0x40, 16, R.EJ_OUT_CNT_FIRED 0⟩,
  ⟨0x12024, 0x40, 16, R.EJ_OUT_CNT_COALESCED 0⟩,
  ⟨0x12028, 0x40, 16, R.EJ_OUT_CNT_EXTENDED 0⟩,
  ⟨0x1202C, 0x40, 16, R.EJ_OUT_CNT_DEFERRED 0⟩,
  ⟨0x12030, 0x40, 16, R.EJ_OUT_CNT_SKIPPED 0⟩,
  ⟨0x12400, 0x4, 1, R.EJ_CTRL⟩,
  ⟨0x12404, 0x4, 1, R.EJ_ARM_KEY_LO⟩,
  ⟨0x12408, 0x4, 1, R.EJ_ARM_KEY_HI⟩,
  ⟨0x1240C, 0x4, 1, R.EJ_ARM_SEQ⟩,
  ⟨0x12410, 0x4, 1, R.EJ_ARM_CMD⟩,
  ⟨0x12414, 0x4, 1, R.EJ_ARM_STATUS⟩,
  ⟨0x12420, 0x4, 1, R.EJ_LOG_TAIL⟩,
  ⟨0x12424, 0x4, 1, R.EJ_LOG_SEL⟩,
  ⟨0x12428, 0x4, 1, R.EJ_LOG_LOST⟩,
  ⟨0x12440, 0x4, 8, R.EJ_LOG_DATA 0⟩]

/-- The rows of the Cxp block. -/
def rowsCxp : List RegRow := [
  ⟨0x20000, 0x1000, 8, R.CXP_PORT_CFG 0⟩,
  ⟨0x20004, 0x1000, 8, R.CXP_PORT_STATUS 0⟩,
  ⟨0x20008, 0x1000, 8, R.CXP_BIND 0⟩,
  ⟨0x2000C, 0x1000, 8, R.CXP_TRIG_CFG 0⟩,
  ⟨0x20010, 0x1000, 8, R.CXP_TRIG_PHASE_LO 0⟩,
  ⟨0x20014, 0x1000, 8, R.CXP_TRIG_PHASE_HI 0⟩,
  ⟨0x20018, 0x1000, 8, R.CXP_TRIG_MINP 0⟩,
  ⟨0x2001C, 0x1000, 8, R.CXP_TRIG_PERIOD 0⟩,
  ⟨0x20020, 0x1000, 8, R.CXP_TRIG_SOFT 0⟩,
  ⟨0x20024, 0x1000, 8, R.CXP_WDOG 0⟩,
  ⟨0x20028, 0x1000, 8, R.CXP_WIN 0⟩,
  ⟨0x2002C, 0x1000, 8, R.CXP_FB_CFG 0⟩,
  ⟨0x20030, 0x1000, 8, R.CXP_FB_STATUS 0⟩,
  ⟨0x20034, 0x1000, 8, R.CXP_HDR_SIZE 0⟩,
  ⟨0x20038, 0x1000, 8, R.CXP_HDR_FMT 0⟩,
  ⟨0x20040, 0x1000, 8, R.CXP_CNT_LINES 0⟩,
  ⟨0x20044, 0x1000, 8, R.CXP_CNT_FRAMES 0⟩,
  ⟨0x20048, 0x1000, 8, R.CXP_CNT_CRC 0⟩,
  ⟨0x2004C, 0x1000, 8, R.CXP_CNT_SYM 0⟩,
  ⟨0x20050, 0x1000, 8, R.CXP_CNT_MARKED 0⟩,
  ⟨0x20054, 0x1000, 8, R.CXP_CNT_UNDELIV 0⟩,
  ⟨0x20058, 0x1000, 8, R.CXP_CNT_OVERTRIG 0⟩,
  ⟨0x2005C, 0x1000, 8, R.CXP_CNT_OVERRUN 0⟩,
  ⟨0x20060, 0x1000, 8, R.CXP_CNT_UNSOL 0⟩,
  ⟨0x20064, 0x1000, 8, R.CXP_CNT_DISCARD 0⟩,
  ⟨0x20068, 0x1000, 8, R.CXP_CNT_EVENT 0⟩,
  ⟨0x2006C, 0x1000, 8, R.CXP_CNT_RETRY 0⟩,
  ⟨0x20080, 0x1000, 8, R.CXP_CTRL_ADDR 0⟩,
  ⟨0x20084, 0x1000, 8, R.CXP_CTRL_DATA 0⟩,
  ⟨0x20088, 0x1000, 8, R.CXP_CTRL_CMD 0⟩,
  ⟨0x2008C, 0x1000, 8, R.CXP_CTRL_STATUS 0⟩,
  ⟨0x20090, 0x1000, 8, R.CXP_CTRL_TMO 0⟩]

/-- The rows of the Isp block. -/
def rowsIsp : List RegRow := [
  ⟨0x30000, 0x400, 4, R.ISP_PIPE_STATUS 0⟩,
  ⟨0x30004, 0x400, 4, R.ISP_PIPE_CELL 0⟩,
  ⟨0x30008, 0x400, 4, R.ISP_OUT_CFG 0⟩,
  ⟨0x3000C, 0x400, 4, R.ISP_OUT_TAIL 0⟩,
  ⟨0x30010, 0x400, 4, R.ISP_OUT_HEAD 0⟩,
  ⟨0x30014, 0x400, 4, R.ISP_LOAD 0⟩,
  ⟨0x30020, 0x400, 4, R.ISP_CNT_PARTS 0⟩,
  ⟨0x30024, 0x400, 4, R.ISP_CNT_TM_FRAMES 0⟩,
  ⟨0x30028, 0x400, 4, R.ISP_CNT_OUT_FULL 0⟩,
  ⟨0x3002C, 0x400, 4, R.ISP_CNT_PRESENCE 0⟩,
  ⟨0x30030, 0x400, 4, R.ISP_CNT_OUTSIDE 0⟩]

/-- The rows of the Lane block. -/
def rowsLane : List RegRow := [
  ⟨0x40000, 0x400, 24, R.LANE_CFG 0⟩,
  ⟨0x40004, 0x400, 24, R.LANE_STATUS 0⟩,
  ⟨0x40008, 0x400, 24, R.LANE_TX_CMD 0⟩,
  ⟨0x4000C, 0x400, 24, R.LANE_RX_CMD 0⟩,
  ⟨0x40010, 0x400, 24, R.LANE_TMO 0⟩,
  ⟨0x40014, 0x400, 24, R.LANE_SYNTH_TMO 0⟩,
  ⟨0x40018, 0x400, 24, R.LANE_PRBS 0⟩,
  ⟨0x4001C, 0x400, 24, R.LANE_PRBS_ERR 0⟩,
  ⟨0x40020, 0x400, 24, R.LANE_PRBS_BITS_LO 0⟩,
  ⟨0x40024, 0x400, 24, R.LANE_PRBS_BITS_HI 0⟩,
  ⟨0x40040, 0x400, 24, R.LANE_CNT_WAKE 0⟩,
  ⟨0x40044, 0x400, 24, R.LANE_CNT_GUARD 0⟩,
  ⟨0x40048, 0x400, 24, R.LANE_CNT_RETRAIN 0⟩,
  ⟨0x4004C, 0x400, 24, R.LANE_CNT_LOS 0⟩,
  ⟨0x40050, 0x400, 24, R.LANE_CNT_TXFAIL 0⟩,
  ⟨0x40054, 0x400, 24, R.LANE_CNT_ALIGN 0⟩]

/-- The rows of the Ring block. -/
def rowsRing : List RegRow := [
  ⟨0x48000, 0x4, 1, R.RING_CTRL⟩,
  ⟨0x48004, 0x4, 1, R.RING_STATUS⟩,
  ⟨0x48008, 0x4, 1, R.RING_TOPO⟩,
  ⟨0x4800C, 0x4, 1, R.RING_LAYOUT⟩,
  ⟨0x48010, 0x4, 1, R.RING_LINK_CFG⟩,
  ⟨0x48014, 0x4, 1, R.RING_RETRY_CFG⟩,
  ⟨0x48018, 0x4, 1, R.RING_TMO⟩,
  ⟨0x48020, 0x4, 1, R.RING_CNT_DUP⟩,
  ⟨0x48024, 0x4, 1, R.RING_CNT_LOST⟩,
  ⟨0x48028, 0x4, 1, R.RING_CNT_DST_ABSENT⟩,
  ⟨0x4802C, 0x4, 1, R.RING_CNT_QUIESCE⟩,
  ⟨0x48030, 0x4, 1, R.RING_QUIESCE_US⟩,
  ⟨0x48040, 0x40, 2, R.RING_SIDE_STATUS 0⟩,
  ⟨0x48044, 0x40, 2, R.RING_SIDE_FRAMES_TX 0⟩,
  ⟨0x48048, 0x40, 2, R.RING_SIDE_FRAMES_RX 0⟩,
  ⟨0x4804C, 0x40, 2, R.RING_SIDE_CRC 0⟩,
  ⟨0x48050, 0x40, 2, R.RING_SIDE_NAK_RETRY 0⟩,
  ⟨0x48054, 0x40, 2, R.RING_SIDE_TMO_RETRY 0⟩,
  ⟨0x48058, 0x40, 2, R.RING_SIDE_RETRY_HWM 0⟩,
  ⟨0x4805C, 0x40, 2, R.RING_SIDE_TRAIN 0⟩]

/-- The rows of the Mesh block. -/
def rowsMesh : List RegRow := [
  ⟨0x50000, 0x4, 1, R.MESH_ROUTESET⟩,
  ⟨0x50004, 0x4, 1, R.MESH_EPOCH_CFG⟩,
  ⟨0x50008, 0x4, 1, R.MESH_EPOCH_STATUS⟩,
  ⟨0x5000C, 0x4, 1, R.MESH_EPOCH_HOLD⟩,
  ⟨0x50010, 0x4, 1, R.MESH_EPOCH_COUNT⟩,
  ⟨0x50100, 0x4, 1, R.MESH_PROG_CFG⟩,
  ⟨0x50104, 0x4, 1, R.MESH_PROG_STATUS⟩,
  ⟨0x50108, 0x4, 1, R.MESH_PROG_CNT⟩,
  ⟨0x50110, 0x4, 1, R.MESH_TW_CTRL⟩,
  ⟨0x50114, 0x4, 1, R.MESH_TW_WORK⟩,
  ⟨0x50118, 0x4, 1, R.MESH_TW_SRC⟩,
  ⟨0x5011C, 0x4, 1, R.MESH_TW_G⟩,
  ⟨0x50120, 0x4, 1, R.MESH_TW_REF_NS⟩,
  ⟨0x50124, 0x4, 1, R.MESH_TW_RETRY_NS⟩,
  ⟨0x50128, 0x4, 1, R.MESH_TW_RUN_NS⟩,
  ⟨0x5012C, 0x4, 1, R.MESH_TW_FLAGS⟩]

/-- The rows of the Mmu block. -/
def rowsMmu : List RegRow := [
  ⟨0x60000, 0x4, 1, R.MMU_STATUS⟩,
  ⟨0x60004, 0x4, 1, R.MMU_OP⟩,
  ⟨0x60008, 0x4, 1, R.MMU_OP_VA_LO⟩,
  ⟨0x6000C, 0x4, 1, R.MMU_OP_VA_HI⟩,
  ⟨0x60010, 0x4, 1, R.MMU_OP_PA_LO⟩,
  ⟨0x60014, 0x4, 1, R.MMU_OP_PA_HI⟩,
  ⟨0x60018, 0x4, 1, R.MMU_OP_CTX⟩,
  ⟨0x60020, 0x4, 1, R.MMU_FQ_LOST⟩,
  ⟨0x60024, 0x4, 1, R.MMU_CNT_FAULTS⟩,
  ⟨0x60028, 0x4, 1, R.MMU_CNT_WALKS⟩,
  ⟨0x60040, 0x4, 8, R.MMU_FQ_DATA 0⟩,
  ⟨0x60800, 0x4, 1, R.MEM_CFG⟩,
  ⟨0x60804, 0x4, 1, R.MEM_ECC_STATUS⟩,
  ⟨0x60840, 0x20, 4, R.MEM_CH_STATUS 0⟩,
  ⟨0x60844, 0x20, 4, R.MEM_CH_CNT_CORR 0⟩,
  ⟨0x60848, 0x20, 4, R.MEM_CH_CNT_UNCORR 0⟩,
  ⟨0x6084C, 0x20, 4, R.MEM_CH_UNCORR_LO 0⟩,
  ⟨0x60850, 0x20, 4, R.MEM_CH_UNCORR_HI 0⟩,
  ⟨0x60854, 0x20, 4, R.MEM_CH_REF_MAX 0⟩,
  ⟨0x60858, 0x20, 4, R.MEM_CH_LAT_MAX 0⟩]

/-- The rows of the Dma block. -/
def rowsDma : List RegRow := [
  ⟨0x70E00, 0x4, 1, R.DET_STATUS⟩,
  ⟨0x70E04, 0x4, 1, R.DET_CNT_BOXDEC⟩,
  ⟨0x70E08, 0x4, 1, R.DET_CNT_NMS⟩,
  ⟨0x70E0C, 0x4, 1, R.DET_CNT_FAIL⟩,
  ⟨0x70E10, 0x4, 1, R.DET_CNT_DROPPED⟩,
  ⟨0x70E14, 0x4, 1, R.DET_MAX_US⟩,
  ⟨0x70000, 0x40, 16, R.DMA_ENG_STATUS 0⟩,
  ⟨0x70004, 0x40, 16, R.DMA_ENG_CTRL 0⟩,
  ⟨0x70008, 0x40, 16, R.DMA_SUB_LO 0⟩,
  ⟨0x7000C, 0x40, 16, R.DMA_SUB_HI 0⟩,
  ⟨0x70010, 0x40, 16, R.DMA_SUB_CELL 0⟩,
  ⟨0x70014, 0x40, 16, R.DMA_SUB_STATUS 0⟩,
  ⟨0x70018, 0x40, 16, R.DMA_CNT_CHAINS 0⟩,
  ⟨0x7001C, 0x40, 16, R.DMA_CNT_ITEMS 0⟩,
  ⟨0x70020, 0x40, 16, R.DMA_CNT_FAILED 0⟩]

/-- The rows of the Sync block. -/
def rowsSync : List RegRow := [
  ⟨0x80000, 0x10, 4096, R.SYNC_COUNT 0⟩,
  ⟨0x80004, 0x10, 4096, R.SYNC_ADD 0⟩,
  ⟨0x80008, 0x10, 4096, R.SYNC_STATE 0⟩,
  ⟨0x8000C, 0x10, 4096, R.SYNC_CTL 0⟩]

/-- The rows of the Sched block. -/
def rowsSched : List RegRow := [
  ⟨0x90000, 0x4, 1, R.SCHED_STATUS⟩,
  ⟨0x90040, 0x4, 16, R.SCHED_SUB_W 0⟩,
  ⟨0x90080, 0x4, 1, R.SCHED_SUB_CTRL⟩,
  ⟨0x90084, 0x4, 1, R.SCHED_SUB_STATUS⟩,
  ⟨0x90088, 0x4, 1, R.SCHED_SUB_ID⟩,
  ⟨0x90090, 0x4, 1, R.SCHED_CANCEL⟩,
  ⟨0x900A0, 0x4, 1, R.SCHED_CPL_TAIL⟩,
  ⟨0x900A4, 0x4, 1, R.SCHED_CPL_SEL⟩,
  ⟨0x900A8, 0x4, 1, R.SCHED_CPL_LOST⟩,
  ⟨0x900C0, 0x4, 8, R.SCHED_CPL_DATA 0⟩,
  ⟨0x91000, 0x20, 256, R.SCHED_Q_CFG 0⟩,
  ⟨0x91004, 0x20, 256, R.SCHED_Q_STATUS 0⟩,
  ⟨0x91008, 0x20, 256, R.SCHED_Q_ADMITTED 0⟩,
  ⟨0x9100C, 0x20, 256, R.SCHED_Q_REFUSED 0⟩,
  ⟨0x91010, 0x20, 256, R.SCHED_Q_DONE 0⟩,
  ⟨0x91014, 0x20, 256, R.SCHED_Q_FAILED 0⟩,
  ⟨0x91018, 0x20, 256, R.SCHED_Q_PREEMPTED 0⟩,
  ⟨0x9101C, 0x20, 256, R.SCHED_Q_DOOMED 0⟩,
  ⟨0x93000, 0x20, 32, R.SCHED_P_STATUS 0⟩,
  ⟨0x93004, 0x20, 32, R.SCHED_P_QUANTUM 0⟩,
  ⟨0x93008, 0x20, 32, R.SCHED_P_SAVE_MAX_US 0⟩,
  ⟨0x9300C, 0x20, 32, R.SCHED_P_RESTORE_MAX_US 0⟩,
  ⟨0x93010, 0x20, 32, R.SCHED_P_SWAP_MAX_US 0⟩,
  ⟨0x93014, 0x20, 32, R.SCHED_P_PREEMPTS 0⟩,
  ⟨0x93018, 0x20, 32, R.SCHED_P_START_MAX_US 0⟩,
  ⟨0x9301C, 0x20, 32, R.SCHED_P_STEALS 0⟩,
  ⟨0x93800, 0x4, 64, R.SCHED_GILL_RES 0⟩,
  ⟨0x93A00, 0x4, 1, R.SCHED_RS_STATUS⟩,
  ⟨0x93A04, 0x4, 1, R.SCHED_RS_BYTES⟩]

/-- The rows of the Mbx block. -/
def rowsMbx : List RegRow := [
  ⟨0xA0000, 0x4, 1, R.MBX_CTRL⟩,
  ⟨0xA0004, 0x4, 1, R.MBX_CFG⟩,
  ⟨0xA0008, 0x4, 1, R.MBX_RING_LO⟩,
  ⟨0xA000C, 0x4, 1, R.MBX_RING_HI⟩,
  ⟨0xA0010, 0x4, 1, R.MBX_HEAD⟩,
  ⟨0xA0014, 0x4, 1, R.MBX_DONE⟩,
  ⟨0xA0018, 0x4, 1, R.MBX_RSEQ_NEXT⟩,
  ⟨0xA001C, 0x4, 1, R.MBX_IRQ_CFG⟩,
  ⟨0xA0040, 0x4, 1, R.MBX_CNT_WRITTEN⟩,
  ⟨0xA0044, 0x4, 1, R.MBX_CNT_OVF⟩,
  ⟨0xA0048, 0x4, 1, R.MBX_CNT_GAP⟩,
  ⟨0xA004C, 0x4, 1, R.MBX_CNT_OFF⟩,
  ⟨0xA0050, 0x4, 1, R.MBX_CNT_HEAD_BAD⟩,
  ⟨0xA0054, 0x4, 1, R.MBX_CNT_HWM⟩,
  ⟨0xA0400, 0x4, 1, R.MBX_PCI_ID⟩,
  ⟨0xA0404, 0x4, 1, R.MBX_LINK⟩,
  ⟨0xA0408, 0x4, 1, R.MBX_HCFG⟩,
  ⟨0xA040C, 0x4, 1, R.MBX_HSTATUS⟩,
  ⟨0xA0410, 0x4, 1, R.MBX_BAR2_VA_LO⟩,
  ⟨0xA0414, 0x4, 1, R.MBX_BAR2_VA_HI⟩,
  ⟨0xA0418, 0x4, 1, R.MBX_HWIN_BASE_LO⟩,
  ⟨0xA041C, 0x4, 1, R.MBX_HWIN_BASE_HI⟩,
  ⟨0xA0420, 0x4, 1, R.MBX_HWIN_SIZE⟩,
  ⟨0xA0424, 0x4, 1, R.MBX_HWIN_CTRL⟩,
  ⟨0xA0440, 0x4, 1, R.MBX_CNT_BAR2_FAULT⟩,
  ⟨0xA0444, 0x4, 1, R.MBX_CNT_HWIN_FAULT⟩,
  ⟨0xA0448, 0x4, 1, R.MBX_CNT_PCIE_ERR⟩,
  ⟨0xA044C, 0x4, 1, R.MBX_CNT_RESETS⟩,
  ⟨0xA0600, 0x4, 1, R.MBX_WQ_CTRL⟩,
  ⟨0xA0604, 0x4, 1, R.MBX_WQ_CFG⟩,
  ⟨0xA0608, 0x4, 1, R.MBX_WQ_BASE_LO⟩,
  ⟨0xA060C, 0x4, 1, R.MBX_WQ_BASE_HI⟩,
  ⟨0xA0610, 0x4, 1, R.MBX_WQ_TAIL⟩,
  ⟨0xA0614, 0x4, 1, R.MBX_WQ_HEAD⟩,
  ⟨0xA0700, 0x4, 1, R.MBX_RUNSET_CTRL⟩,
  ⟨0xA0704, 0x4, 1, R.MBX_RUNSET_STATUS⟩,
  ⟨0xA0800, 0x4, 1, R.MBX_IRQ_PEND⟩,
  ⟨0xA0810, 0x4, 4, R.MBX_CELL_WATCH 0⟩,
  ⟨0xA0880, 0x4, 8, R.MBX_IRQ_VEC 0⟩,
  ⟨0xA2000, 0x10, 64, R.MBX_MSIX_ADDR_LO 0⟩,
  ⟨0xA2004, 0x10, 64, R.MBX_MSIX_ADDR_HI 0⟩,
  ⟨0xA2008, 0x10, 64, R.MBX_MSIX_DATA 0⟩,
  ⟨0xA200C, 0x10, 64, R.MBX_MSIX_CTRL 0⟩,
  ⟨0xA3000, 0x4, 2, R.MBX_MSIX_PBA 0⟩]

/-- The rows of the Pfx block. -/
def rowsPfx : List RegRow := [
  ⟨0xB0000, 0x4, 1, R.PFX_CTRL⟩,
  ⟨0xB0004, 0x4, 1, R.PFX_STATUS⟩,
  ⟨0xB0008, 0x4, 1, R.PFX_BASE_LO⟩,
  ⟨0xB000C, 0x4, 1, R.PFX_BASE_HI⟩,
  ⟨0xB0010, 0x4, 1, R.PFX_CFG⟩,
  ⟨0xB0014, 0x4, 1, R.PFX_NBLK⟩,
  ⟨0xB0018, 0x4, 1, R.PFX_USED⟩,
  ⟨0xB0020, 0x4, 1, R.PFX_CNT_WALK⟩,
  ⟨0xB0024, 0x4, 1, R.PFX_CNT_HIT⟩,
  ⟨0xB0028, 0x4, 1, R.PFX_CNT_INSERT⟩,
  ⟨0xB002C, 0x4, 1, R.PFX_CNT_EVICT⟩,
  ⟨0xB0030, 0x4, 1, R.PFX_CNT_FAIL⟩]

/-- The rows of the Adp block. -/
def rowsAdp : List RegRow := [
  ⟨0xB8000, 0x4, 1, R.ADP_SEL⟩,
  ⟨0xB8010, 0x4, 1, R.ADP_CMD⟩,
  ⟨0xB8014, 0x4, 1, R.ADP_STATUS⟩,
  ⟨0xB8018, 0x4, 1, R.ADP_INFLIGHT⟩,
  ⟨0xB8020, 0x4, 8, R.ADP_DESC 0⟩,
  ⟨0xB8040, 0x4, 1, R.ADP_CNT_GATHERS⟩,
  ⟨0xB8044, 0x4, 1, R.ADP_CNT_PUBLISHES⟩]

/-- The rows of the Aug block. -/
def rowsAug : List RegRow := [
  ⟨0xBC000, 0x4, 1, R.AUG_STATUS⟩,
  ⟨0xBC004, 0x4, 1, R.AUG_POOL_LO⟩,
  ⟨0xBC008, 0x4, 1, R.AUG_POOL_HI⟩,
  ⟨0xBC00C, 0x4, 1, R.AUG_POOL_SIZE⟩,
  ⟨0xBC010, 0x4, 1, R.AUG_POOL_TAIL⟩,
  ⟨0xBC014, 0x4, 1, R.AUG_POOL_HEAD⟩,
  ⟨0xBC020, 0x4, 1, R.AUG_CNT_SAMPLES⟩,
  ⟨0xBC024, 0x4, 1, R.AUG_CNT_DIM_REFUSED⟩,
  ⟨0xBC028, 0x4, 1, R.AUG_CNT_FAILED⟩]

/-- The rows of the Ann block. -/
def rowsAnn : List RegRow := [
  ⟨0xC0000, 0x4, 1, R.ANN_CTRL⟩,
  ⟨0xC0004, 0x4, 1, R.ANN_STATUS⟩,
  ⟨0xC0008, 0x4, 1, R.ANN_WORK⟩,
  ⟨0xC000C, 0x4, 1, R.ANN_SWEEP⟩,
  ⟨0xC0010, 0x4, 1, R.ANN_BEST⟩,
  ⟨0xC0020, 0x4, 1, R.ANN_CNT_PROBLEMS⟩,
  ⟨0xC0024, 0x4, 1, R.ANN_CNT_FAILED⟩,
  ⟨0xC0028, 0x4, 1, R.ANN_CNT_SWEEPS⟩,
  ⟨0xC002C, 0x4, 1, R.ANN_MAX_US⟩]

/-- The rows of the Gill block. -/
def rowsGill : List RegRow := [
  ⟨0x100000, 0x4000, 64, R.GILL_STATUS 0⟩,
  ⟨0x100004, 0x4000, 64, R.GILL_PC 0⟩,
  ⟨0x100008, 0x4000, 64, R.GILL_FAULT 0⟩,
  ⟨0x10000C, 0x4000, 64, R.GILL_FAULT_INFO 0⟩,
  ⟨0x100010, 0x4000, 64, R.GILL_CNT_BUNDLES 0⟩,
  ⟨0x100014, 0x4000, 64, R.GILL_CNT_STALL 0⟩,
  ⟨0x100018, 0x4000, 64, R.GILL_CNT_WAIT 0⟩,
  ⟨0x10001C, 0x4000, 64, R.GILL_CNT_GLOBAL 0⟩,
  ⟨0x100020, 0x4000, 64, R.GILL_DBG_CTRL 0⟩,
  ⟨0x100024, 0x4000, 64, R.GILL_DBG_SEL 0⟩,
  ⟨0x100028, 0x4000, 64, R.GILL_DBG_DATA 0⟩,
  ⟨0x10002C, 0x4000, 64, R.GILL_LOOP 0⟩]

/-- The blocks of BAR0 (R11): the rows of the block that holds an offset. -/
def rowsAt (off : Nat) : List RegRow :=
  if off < 0x1000 then rowsSys
  else if off < 0x2000 then rowsBoot
  else if off < 0x3000 then rowsClk
  else if off < 0x4000 then rowsPwr
  else if off < 0x5000 then rowsJrn
  else if off < 0x6000 then rowsSpi
  else if off < 0x8000 then rowsI2c
  else if off < 0x10000 then rowsPtp
  else if off < 0x12000 then rowsMot
  else if off < 0x20000 then rowsEj
  else if off < 0x30000 then rowsCxp
  else if off < 0x40000 then rowsIsp
  else if off < 0x48000 then rowsLane
  else if off < 0x50000 then rowsRing
  else if off < 0x60000 then rowsMesh
  else if off < 0x70000 then rowsMmu
  else if off < 0x80000 then rowsDma
  else if off < 0x90000 then rowsSync
  else if off < 0xA0000 then rowsSched
  else if off < 0xB0000 then rowsMbx
  else if off < 0xB8000 then rowsPfx
  else if off < 0xBC000 then rowsAdp
  else if off < 0xC0000 then rowsAug
  else if off < 0x100000 then rowsAnn
  else if off < 0x200000 then rowsGill
  else []

/-- Whether a row holds the register at `off`. -/
def RegRow.has (r : RegRow) (off : Nat) : Bool :=
  r.base ≤ off && (off - r.base) % r.stride == 0 && decide ((off - r.base) / r.stride < r.cnt)

/-- The register at a BAR0 offset; none where no register stands (R646). -/
def regAt (off : Nat) : Option Reg :=
  ((rowsAt off).find? (·.has off)).map (fun r => { r.reg with off := off })

/-- What an offset reads as when nothing has written it: the register's reset value, 0 where no register
stands (R646). -/
def resetOf (off : Nat) : Nat :=
  match regAt off with
  | some r => r.reset
  | none => 0

end Sys2Proof.Machine
end

