-- ==== Sys2Proof/Machine/RingBase.lean ====
section
/-! DEFINITION. RingBase: the state of the serial lanes and of the ring unit beyond their registers (chapter 09). -/

namespace Sys2Proof.Machine

/-- A lane: the state of its uplink driver (0 L0, 3 OFF); the held transmit command and when it was issued; when the guard
of a fast relock ends; whether a full retraining runs; whether the generator drives the transmitter. -/
structure Lane where
  up : Nat := 3
  held : Option (Nat × Nat) := none
  guardAt : Option Nat := none
  retrain : Bool := false
  gen : Bool := false
  deriving DecidableEq, Repr

/-- A frame of the ring (R377), without its link sequence: TYPE 0 DATA or 3 CTRL. `info` are the words of a CTRL frame's
contents, a DISCOVER's members among them. -/
structure RFrame where
  ty : Nat := 0
  vc : Nat := 3
  src : Nat
  dst : Nat
  e2e : Nat := 0
  endpoint : Nat := 0
  epoch : Nat := 0
  op : Nat := 0
  payload : List Byte := []
  info : List Nat := []
  members : List RingMember := []
  deriving DecidableEq, Repr

/-- A frame in a retry buffer: its SEQ, its replays, when it was first and last sent. -/
structure RSent where
  seq : Nat
  frame : RFrame
  replays : Nat
  firstAt : Nat
  lastAt : Nat
  deriving DecidableEq, Repr

/-- One side of the ring unit: the retry buffer, the frames waiting for room in it, the next SEQ, the SEQ expected,
whether a NAK has been sent for it; WINDOW, ACK_TMO_NS and RETRY_MAX as the link took them at its training; when a failed
training ended and when the link was lost; whether its receive and its transmit directions sleep, and since when the
transmit direction has had nothing to send; the position whose LINK_DOWN came in on this side, beyond which it does not
reach, and when. -/
structure RSide where
  buf : List RSent := []
  wait : List RFrame := []
  next : Nat := 0
  expect : Nat := 0
  naking : Bool := false
  window : Nat := 64
  ackTmo : Nat := 2000
  retryMax : Nat := 8
  failedAt : Option Nat := none
  lostAt : Option Nat := none
  rxSleep : Bool := false
  txSleep : Bool := false
  idleAt : Nat := 0
  cut : Option (Nat × Nat) := none
  deriving DecidableEq, Repr

/-- A change the master holds: a new layout with its requester, or a new topology. -/
structure RChange where
  layout : Option (Nat × Nat) := none
  topo : Option Nat := none
  deriving DecidableEq, Repr

/-- A frame's worth of an inbound re-shard: who sends it, where it goes and its length. -/
structure RPiece where
  src : Nat
  va : Nat
  len : Nat
  deriving DecidableEq, Repr

/-- An inbound re-shard (R549): the pieces still to come, the positions whose end frame is still to come, the cell and the
record's place, the bytes so far, and the layout it brings in. -/
structure Reshard where
  pieces : List RPiece
  ends : List Nat
  cell : Nat
  statusVa : Nat
  bytesIn : Nat := 0
  missing : Nat := 0
  lost : Nat := 0
  layout : Nat := 0
  deriving DecidableEq, Repr

/-- The ring unit (R376 to R392): its sides, west and east; the next E2E_SEQ by destination and channel and the one
expected by source and channel; the DATA frames held at the ring endpoint and those held for a lost link, oldest first;
whether injection is stopped, since when, and the sides on which a QUIESCED waits; the master's change in progress, the
sides from which its QUIESCED has come back, the changes queued, and when an abandoned topology change is tried again;
whether the own DISCOVER is on its way; an inbound re-shard. -/
structure Ring where
  sides : List RSide := [{}, {}]
  e2eTx : Sparse Nat := []
  e2eRx : Sparse Nat := []
  held : List RFrame := []
  lostHeld : List RFrame := []
  stop : Bool := false
  stopAt : Nat := 0
  owed : List Nat := []
  cur : Option RChange := none
  back : Nat := 0
  queue : List RChange := []
  topo : Option Nat := none
  topoAt : Option Nat := none
  asking : Bool := false
  reshard : Option Reshard := none
  deriving DecidableEq, Repr

/-- The lanes: each lane's state beyond its registers, and each quad's synthesiser state (R366). -/
structure Lanes where
  lane : List Lane := List.replicate 24 {}
  synth : List Nat := List.replicate 6 0
  deriving DecidableEq, Repr

end Sys2Proof.Machine
end

