-- ==== Sys2Proof/Machine/GillBase.lean ====
section
/-! DEFINITION. GillBase: the state of a gill (R402, R417, R424 to R431) and the messages of the queue ports on
their way (R427). -/

namespace Sys2Proof.Machine

/-- A message in a receive queue: who sent it, from which port, and its words. -/
structure QMsg where
  gill  : Nat
  port  : Nat
  words : List Nat
  deriving DecidableEq, Repr

/-- A queue port: the endpoint and destination port it is bound to; the messages received; the credits that
senders hold, and those on their way back (R427). -/
structure QPort where
  bound : Option (Nat × Nat) := none
  recv  : List QMsg := []
  used  : Nat := 0
  back  : Nat := 0
  deriving DecidableEq, Repr

/-- A message on its way: sender's gill and port, destination endpoint and port, the words, and the sender's
operation number. -/
structure Flight where
  gill  : Nat
  port  : Nat
  dst   : Nat
  dport : Nat
  words : List Nat
  seq   : Nat
  tag   : Nat := 0
  deriving DecidableEq, Repr

/-- One 64-byte block of a global access (R417): the bundle's slot, its transaction slot, the operation's number, write or read,
address and length, destination (a scalar, or 64 + a vector register) with the tile, the enabled lanes of the
tile, the bytes (to write, or read so far), how it stands: 0 outstanding, 1 done, 2 failed, and the lanes that later
bundles have written. -/
structure GAcc where
  ls    : Nat
  slot  : Nat
  seq   : Nat
  write : Bool
  va    : Nat
  len   : Nat
  reg   : Nat
  tile  : Nat
  mask  : Nat
  data  : List Byte
  st    : Nat
  lapsed : Nat
  deriving DecidableEq, Repr

/-- A loop-stack entry (R414). -/
structure LoopEnt where
  start : Nat
  end_  : Nat
  count : Nat
  deriving DecidableEq, Repr

/-- A gill beyond its registers: the register files of R402 (`v` and `a` hold the lanes, an empty list being
all zeros; `p` one mask of 1,024 bits each; `wb` the weight buffers, tile × 8,192 + byte), the accesses in
flight, counts waiting for earlier stores (R426) as number, cell and N; `cyc` the CORE cycles of the
invocation, `ready` the cycle from which a register or unit may be used (R409); `blocked` the moment since
which the bundle at the PC waits, `granted` the outcome of its wait; `halt` the status of a HALT that drains;
`memFault` the slot, transaction slot and address of a reported fault; `stopReq` that a pre-emption waits for the boundary; `outcome` how the invocation ended. -/
structure Gill where
  s       : List Nat := List.replicate 64 0
  v       : List (List Nat) := List.replicate 32 []
  a       : List (List Nat) := List.replicate 8 []
  p       : List Nat := List.replicate 8 0
  g       : List (List Nat) := List.replicate 16 [0, 0, 0, 0, 0, 0, 0, 0]
  wb      : Sparse Byte := []
  loops   : List LoopEnt := []
  ports   : List QPort := List.replicate 8 {}
  acc     : List GAcc := []
  sincs   : List (Nat × Nat × Nat) := []
  seq     : Nat := 0
  cyc     : Nat := 0
  cycHi   : Nat := 0
  ready   : Sparse Nat := []
  blocked : Option Nat := none
  granted : Option Bool := none
  waiting : Bool := false
  halt    : Option Nat := none
  stopReq : Bool := false
  memFault : Option (Nat × Nat × Nat) := none
  outcome : Option Nat := none
  gang    : List Nat := []
  starts  : Nat := 0
  deriving DecidableEq, Repr

end Sys2Proof.Machine
end

