-- ==== Sys2Proof/Machine/SchedBase.lean ====
section
/-! DEFINITION. SchedBase: the state of the scheduler (R520 to R558). -/

namespace Sys2Proof.Machine

/-- Work states (R523). -/
inductive WSt where
  | held
  | ready
  | running
  | saving
  | saved
  | restoring
  deriving DecidableEq, Repr

/-- A saved member: its gill, context, program and PC: what its image holds at places the spec does not give.
[Log 57 DESIGN CHOICE] -/
structure Saved where
  gill : Nat
  ctx  : Gill
  prog : Nat
  pc   : Nat
  ended : Bool
  deriving DecidableEq, Repr

/-- An admitted work: admission number, queue, source (0 host, 1 gill, 2 track unit), the 16 words of its
descriptor, state, gill set, whether its set is fixed; the state swaps still due; since when it runs, and for
how long it has; whether its quantum has expired; pre-emptions, save level, saved members; when it became
ready; whether its unit has it; since when its swaps, its save or its restore are under way. -/
structure Work where
  id    : Nat
  queue : Nat
  src   : Nat
  desc  : List Nat
  st    : WSt
  gset  : List Nat := []
  swaps : List Nat := []
  since : Option Nat := none
  ranNs : Nat := 0
  quantumOver : Bool := false
  preempts : Nat := 0
  level : Nat := 0
  drained : Bool := false
  saved : List Saved := []
  readyAt : Nat := 0
  handed : Bool := false
  phaseAt : Nat := 0
  deriving DecidableEq, Repr

/-- A submission held while admission is closed (R527): its source, its descriptor, and whether it came through
the work ring. -/
structure HeldSub where
  src  : Nat
  desc : List Nat
  ring : Bool
  deriving DecidableEq, Repr

/-- The scheduler: admitted works, oldest first; the next admission number; held submissions; the completion
log by index, and how many entries it has lost; the steal token of each partition; the INCONCLUSIVE commits
due (R531), as slot and sequence number. -/
structure Sched where
  works  : List Work := []
  nextId : Nat := 1
  held   : List HeldSub := []
  log    : Sparse (List Byte) := []
  lost   : Nat := 0
  tokens : Sparse Nat := []
  incs   : List (Nat × Nat) := []
  deriving DecidableEq, Repr

/-- The timing window and the progress monitor (R639 to R643): whether the window is armed and waits for its
work's release, when it opened, the counts of each gill (operations into the MESH domain, refresh delay, ring
retry delay, both in ns); the stalls reported, as channel, router and the moment of the channel's last move. -/
structure TimeWin where
  armed  : Bool := false
  at_    : Nat := 0
  counts : Sparse (Nat × Nat × Nat) := []
  stalls : List (Nat × Nat × Nat) := []
  deriving DecidableEq, Repr

end Sys2Proof.Machine
end

