-- ==== Sys2Proof/Machine/StateBase.lean ====
section
/-! DEFINITION. StateBase: the state of the module itself: the wires out, held register accesses, the
journal and the flash, power, clocks and modes, bring-up, the mailbox and the host interface. -/

namespace Sys2Proof.Machine

/-- What the device sends out on a wire, a pin or a link, in the order sent. [Log 3 DESIGN CHOICE] -/
inductive Out where
  /-- An MSI-X message on a vector (R661). -/
  | msix (vector : Nat)
  /-- A trigger on the uplink of a CXP port's lowest-numbered lane with its stamp: its number, MONO and count (R240, R241). -/
  | trigger (port lane num : Nat) (mono : Nat) (count : Int)
  /-- A CoaXPress control packet on the uplink of a port's lowest-numbered lane: tag, write, address, data (R240, R244). -/
  | ctrl (port lane tag : Nat) (write : Bool) (addr data : Nat)
  /-- The write of the camera's connection configuration in CONFIG: port, lane, RATE and LANES (R243). -/
  | camConfig (port lane rate lanes : Nat)
  /-- A ring frame on a side: side, kind, words of its header and payload bytes (R377). -/
  | ring (side kind : Nat) (hdr : List Nat) (payload : List Byte)
  /-- A frame from the ring that leaves crossing 18 for an endpoint (R380): endpoint, source, channel and payload. -/
  | mesh (endpoint src vc : Nat) (payload : List Byte)
  /-- A PTP message on a port: port, kind, sequence and correction (R341). -/
  | ptp (port kind seq : Nat) (correction : Int)
  /-- On a lane: 4 the wake pattern, 6 PRBS off, 8 to 11 PRBS by pattern, 7 the sixteen SLEEP blocks
  (R372, R375, R381). -/
  | lane (lane what : Nat)
  /-- An SPI frame's words on MOSI: select, prefix included, words (R684). -/
  | spi (cs : Nat) (status : Option Nat) (words : List Nat)
  /-- An I2C transaction started by the controller: address, bytes written, bytes read (R692). -/
  | i2c (addr : Nat) (wr : List Byte) (rd : Nat)
  /-- Bytes the I2C target sent to another controller (R697). -/
  | i2cTarget (bytes : List Byte)
  /-- A start of a serial sensor frame on an encoder channel (R293). -/
  | poll (chan : Nat)
  /-- The command of an ejector output changes (R308): output and level. -/
  | eject (output : Nat) (on : Bool)
  /-- A write that left on the PCI Express link (R650): host bus address and bytes. -/
  | hostWrite (addr : Nat) (bytes : List Byte)
  deriving DecidableEq, Repr

/-- A register access held for a gated domain (R140): the register's offset, the value of a write, and of a read its
first byte within the register and its length in bytes (8: the register and the next one, R20). -/
structure HeldAccess where
  off   : Nat
  write : Bool
  value : Nat
  lane  : Nat
  len   : Nat
  deriving DecidableEq, Repr

/-- The last report of a limited status for one case of it (R724). -/
structure LimitedReport where
  sts   : Nat
  case_ : Nat
  at_   : Nat
  since : Nat
  deriving DecidableEq, Repr

/-- The register bus (R11, R20, R21, R725): what the last read returned, the shadows of the high words
latched by reads of low words, and the accesses held for gated domains, oldest first. -/
structure Bus where
  data    : Nat := 0
  shadows : Sparse (Option Nat) := []
  held    : List HeldAccess := []
  limited : List LimitedReport := []
  deriving DecidableEq, Repr

/-- A journal record (R706, R707) before it is laid out: type, length in 32-byte units, sequence number,
MONO, start count and body. -/
structure JRec where
  ty    : Nat
  len   : Nat
  jseq  : Nat
  mono  : Nat
  start : Nat
  body  : List Byte
  deriving DecidableEq, Repr

/-- One request to the flash port for a region other than the journal ring (R705, R709): the object written, as STORE
records number it (R707), and for the boot configuration (1) the value it takes. -/
structure FlashReq where
  object : Nat
  value  : Nat
  deriving DecidableEq, Repr

/-- The journal engine (R705 to R723) beyond its registers. Pages are numbered over the whole ring, 16 to a
subsector; a page not listed is erased, and an empty list is a page that failed its read-back (R720).
`spoiled` holds subsectors whose erase was abandoned or failed. `tailSent` counts the eject-log entries
journalled. `deferring` says a run of deferrals goes on, since `deferAt`; `cntAt` is when the last COUNTERS record was
staged, `lossAt` when shedding began, `lossPages` the pages programmed since; `stageDrop` counts the records of a run of drops, `dropFirst` is its first status. -/
structure Journal where
  staging   : List JRec := []
  jseq      : Nat := 0
  startCnt  : Nat := 0
  wr        : Nat := 0
  oldest    : Nat := 0
  runway    : Nat := 0
  pages     : Sparse (List Byte) := []
  spoiled   : List Nat := []
  reqs      : List FlashReq := []
  deferring : Bool := false
  deferLong : Bool := false
  deferAt   : Nat := 0
  cntAt     : Nat := 0
  lossAt    : Nat := 0
  lossPages : Nat := 0
  stageDrop : Nat := 0
  dropFirst : Nat := 0
  runwayLow : Bool := false
  tailSent  : Nat := 0
  holdup    : Bool := false
  flashOff  : Bool := false
  flushWait : Bool := false
  readPage  : List Byte := []
  deriving DecidableEq, Repr

/-- The module's supplies, relays, pins and LINE_STOP timing (R74 to R117) beyond its registers. `lost` says an
input loss has been acted on, `dead` that the module is unpowered, `resetReq` that an internal reset is due;
`pocxpDet` are the lanes in detection, `pocxpUsed` the lanes the image's ports use; `ethFault` and `ringFault` that a
position sense has differed from its drive since the start; `holdEnd` is the moment at which a running hold of LINE_STOP
ends, `relPend` a pending release; `diRaw` the raw qualified levels, `diSince` since when the raw level of an input has
differed from its qualified one. -/
structure Power where
  vinGood   : Bool := false
  inReset   : Bool := true
  tripHeld  : Bool := false
  nrstLow   : Bool := false
  resetReq  : Bool := false
  pwrOk     : Bool := false
  shed      : Bool := false
  lost      : Bool := false
  dead      : Bool := true
  ethDrive  : Bool := false
  ringDrive : Bool := false
  heartbeat : Bool := true
  pocxpDet  : Nat := 0
  pocxpUsed : Nat := 0
  tripNext  : Bool := false
  ethFault  : Bool := false
  ringFault : Bool := false
  holdEnd   : Option Nat := none
  relPend   : Bool := false
  diRaw     : Nat := 0
  diSince   : List (Option Nat) := List.replicate 8 none
  deriving DecidableEq, Repr

/-- A power-mode transaction in progress (R131 to R144). `exiting` says the exit sequence runs, `driver` that
a request started it; `second` is the target of a second transaction (R137); `lanes` are the lane
direction states of step 1; `startAt` and `commitAt` are when it started and when the last entry committed; `armed` the
wake latches armed; `moveTop` the highest count of each channel
since arming and `moveBase` its count when the latch was armed (R138); `relock` the PLLs that a rollback has enabled again
at `relockAt` (R128, R135). -/
structure ModeTx where
  active  : Bool := false
  exiting : Bool := false
  driver  : Bool := false
  origin  : Nat := 0
  target  : Nat := 0
  second  : Option Nat := none
  drained : Bool := false
  lanes   : List (Nat × Nat) := []
  startAt : Nat := 0
  commitAt : Nat := 0
  armed   : Nat := 0
  moveTop : List Int := [0, 0, 0, 0]
  moveBase : List Int := [0, 0, 0, 0]
  relock  : Nat := 0
  relockAt : Nat := 0
  deriving DecidableEq, Repr

/-- A copy of the field map in flash: its sequence number and its entries (R173). -/
structure FieldCopy where
  seq : Nat := 0
  map : List Nat := []
  deriving DecidableEq, Repr

/-- Bring-up (R159 to R204) beyond its registers. `running` says a stage runs, `warm` that the start is a warm one, since
`startAt`, the stage since `stageAt`; `noLock` are the domains whose PLL has not locked. The maps are lists of entries
(R161): `fieldMap` with the additions accepted, `fieldQueue` those not yet in both copies, `field0` and `field1` the copies in
flash. `pkgs` are the packages of the flash slots as last read, `pkgCopy` the one copied to the reserved region of LPDDR5
last; `sporeTries` the broadcasts again of a spore that a gill missed, by 65,536 × gill + spore. `mapped` says that MAP has
completed; `early` are the statuses raised before the journal is there, and `earlyAccess` that a write was discarded and
reported. `hostWait` is the wait for a host package. `phyStart` are the PHYs started, `noImage` says that the stored image
was not loaded. `cfgBlock` is the boot configuration block in flash, none where it is invalid. -/
structure Boot where
  running    : Bool := false
  warm       : Bool := false
  startAt    : Nat := 0
  stageAt    : Nat := 0
  noLock     : Nat := 0
  fuseMap    : List Nat := []
  sessionMap : List Nat := []
  fieldMap   : List Nat := []
  fieldQueue : List Nat := []
  field0     : FieldCopy := {}
  field1     : FieldCopy := {}
  pkgs       : List (Option Package) := [none, none]
  pkgCopy    : Option Package := none
  merged     : List Nat := []
  mapped     : Bool := false
  keyDigest  : List Byte := []
  minVer     : Nat := 0
  early      : List (Nat × Nat × Nat) := []
  earlyAccess : Bool := false
  hostWait   : Bool := false
  supVer     : Nat := 0
  tileVer    : Nat := 0
  trained    : Bool := false
  phyStart   : Nat := 0
  sporeTries : Sparse Nat := []
  supStarted : Bool := false
  noImage    : Bool := false
  cfgBlock   : Option Nat := none
  deriving DecidableEq, Repr

/-- One verdict record before the mailbox writer lays it out (R652). -/
structure VRec where
  rseq : Nat
  tseq : Nat
  mono : Nat
  p    : Int
  gate : Nat
  verdict : Nat
  rule : Nat
  status : Nat
  evid : Nat
  disp : Nat
  slot : Nat
  deriving DecidableEq, Repr

/-- A write in the host window's posted-write buffer (R651): who wrote, the physical and the bus address, the bytes, and
when it was accepted. -/
structure HwWrite where
  src  : Nat
  pa   : Nat
  bus  : Nat
  data : List Byte
  at_  : Nat := 0
  deriving DecidableEq, Repr

/-- The mailbox writer and the host interface (R644 to R675) beyond their registers. `xing8` holds the
records on crossing 8, oldest first; `unread` the written records not yet consumed, with the moment each was
written; `ovfRun` the overflows of the run that goes on. `refclk` says HOST runs on REFCLK. `autoLink` is the
AUTO consumption of R664. `hwFail` is the cause with which the next read of the host window fails.
[Log 64 DESIGN CHOICE] -/
structure Mailbox where
  xing8    : List VRec := []
  unread   : List (Nat × Nat) := []
  ovfRun   : Nat := 0
  perst    : Bool := false
  refclk   : Bool := false
  mse      : Bool := false
  barLog2  : Nat := 32
  barNext  : Option Nat := none
  msixEn   : Bool := false
  msixMask : Bool := false
  autoLink : Bool := false
  hostMem  : Sparse Byte := []
  hwPosted : List HwWrite := []
  hwFail   : Option Nat := none
  bar2Data : List Byte := []
  runDigest : List Byte := []
  runAuto  : Bool := false
  runValid : Bool := false
  runRegs  : List (Nat × Nat) := []
  runNew   : Option (List Byte × Bool × List (Nat × Nat)) := none
  deriving DecidableEq, Repr

/-- An SPI queue entry: the three words pushed (R683). -/
structure SpiEntry where
  ent0 : Nat
  ent1 : Nat
  ent2 : Nat
  deriving DecidableEq, Repr

/-- A completion record of either port, as words (R689, R704). -/
structure CplRec where
  w0 : Nat
  w1 : Nat
  w2 : Nat
  deriving DecidableEq, Repr

/-- The SPI controller beyond its registers (R676 to R689). `selected` is the select that a chained entry
has left asserted. -/
structure Spi where
  queue    : List SpiEntry := []
  running  : Option SpiEntry := none
  cpl      : List CplRec := []
  selected : Option Nat := none
  deriving DecidableEq, Repr

/-- An I2C queue command: the two words pushed (R690), and whether its completion record stands already
(a command of a hold sequence that is sent again, R694). -/
structure I2cCmd where
  cmd0 : Nat
  cmd1 : Nat
  recorded : Bool
  deriving DecidableEq, Repr

/-- A transaction addressed to the target, in progress (R697, R698): the bytes it stores when it ends. -/
structure TgtTxn where
  read     : Bool
  startPtr : Nat
  len      : Nat
  roNack   : Bool
  pecBad   : Bool
  pend     : List (Nat × Byte)
  deriving DecidableEq, Repr

/-- The I2C port beyond its registers (R680, R690 to R700). `seq` holds the commands of the hold sequence
already begun, oldest first, the one on the bus last. -/
structure I2c where
  queue   : List I2cCmd := []
  seq     : List I2cCmd := []
  running : Bool := false
  retries : Nat := 0
  cpl     : List CplRec := []
  busFree : Bool := false
  waiting : Option (List Nat) := none
  tptr    : Nat := 0
  tgt     : Option TgtTxn := none
  tlog    : List Nat := []
  deriving DecidableEq, Repr

end Sys2Proof.Machine
end

