-- ==== Sys2Proof/Machine/State.lean ====
section
/-! DEFINITION. State: all the state of the block, as plain data, its reasons to stop, and the state right
after reset. -/

namespace Sys2Proof.Machine

/-- Reasons for which a command is refused. -/
inductive Refusal where
  /-- Raised by an arm of exec whose command has no meaning yet: safe. -/
  | notModelled (mnemonic : String)
  deriving DecidableEq, Repr

/-- Reasons for which the machine stops with a fault. -/
inductive Fault where
  /-- Raised by no command: the spec gives every command an effect. -/
  | never
  deriving DecidableEq, Repr

/-- The whole state of the block. `now` counts the nanoseconds since power was applied (the model's own
clock); `free` numbers the free values taken (the model's own field, Config.freeValue); `out` is what the
device has sent, newest first; `pending` holds the commands that wait, first in, first out. -/
structure State where
  regs    : Sparse Word := []
  mem     : List Host.Cell := []
  bus     : Bus := {}
  now     : Nat := 0
  free    : Nat := 0
  time    : NetTime := {}
  pwr     : Power := {}
  mode    : ModeTx := {}
  img     : Loader := {}
  boot    : Boot := {}
  mmu     : Mmu := {}
  sram    : List Host.Cell := []
  dma     : List DmaEng := List.replicate 16 {}
  chainsDone : List ChainDone := []
  waits   : List Waiter := []
  gill    : List Gill := List.replicate 64 {}
  flights : List Flight := []
  sched   : Sched := {}
  tw      : TimeWin := {}
  mot     : Motion := {}
  cam     : Cams := {}
  lanes   : Lanes := {}
  ring    : Ring := {}
  pfx     : Prefix := {}
  ann     : Annealer := {}
  jrn     : Journal := {}
  mbx     : Mailbox := {}
  spi     : Spi := {}
  i2c     : I2c := {}
  out     : List Out := []
  pending : List Instr := []
  deriving DecidableEq, Repr

/-- The outcome of a command. [Log 1 DESIGN CHOICE] -/
abbrev Res := Host.Outcome State Fault Refusal

/-- The state right after reset: every register at its reset value, memory with nothing listed, every
queue empty; the key table as shipped (R212). [Log 6 DESIGN CHOICE, 8 DESIGN CHOICE] -/
def State.reset : State := { img := { keys := [some Config.authorityDigest, none, none, none] } }

end Sys2Proof.Machine
end

