-- ==== Sys2Proof/Machine/Ops.lean ====
section
/-! DEFINITION. Ops: the operations every family shares: registers and fields, free values, interrupts,
the journal's staging buffer, status reports, LINE_STOP, and memory by bytes. -/

namespace Sys2Proof.Machine

/-! ## Registers and fields -/

/-- The value a register holds (R13). -/
def State.rd (s : State) (r : Reg) : Word := Sparse.get s.regs r.off (BitVec.ofNat 32 r.reset)

/-- Puts a value into a register. -/
def State.wr (s : State) (r : Reg) (v : Word) : State :=
  { s with regs := Sparse.put s.regs r.off v (BitVec.ofNat 32 r.reset) }

/-- The bits a field has. -/
def Fld.width (f : Fld) : Nat := f.hi - f.lo + 1

/-- A field's value in a register value. -/
def Fld.of (f : Fld) (v : Nat) : Nat := v / 2 ^ f.lo % 2 ^ f.width

/-- A register value with a field replaced. -/
def Fld.into (f : Fld) (v n : Nat) : Nat := v - Fld.of f v * 2 ^ f.lo + n % 2 ^ f.width * 2 ^ f.lo

/-- The value a field holds. -/
def State.fld (s : State) (f : Fld) : Nat := f.of (s.rd f.reg).toNat

/-- Puts a value into a field. -/
def State.setF (s : State) (f : Fld) (n : Nat) : State :=
  s.wr f.reg (BitVec.ofNat 32 (f.into (s.rd f.reg).toNat n))

/-- Whether a field is not 0. -/
def State.bit (s : State) (f : Fld) : Bool := s.fld f != 0

/-- Sets or clears a one-bit field. -/
def State.setB (s : State) (f : Fld) (b : Bool) : State := s.setF f b.toNat

/-- Adds to a counter, which saturates at its all-ones value (R15). -/
def State.inc (s : State) (f : Fld) (n : Nat := 1) : State :=
  s.setF f (min (s.fld f + n) (2 ^ f.width - 1))

/-- Raises a maximum register to a value (saturated). -/
def State.raise (s : State) (f : Fld) (n : Nat) : State :=
  s.setF f (min (max (s.fld f) n) (2 ^ f.width - 1))

/-- The 64-bit value of a low and a high register. -/
def State.pair (s : State) (lo hi : Fld) : Nat := s.fld lo + 2 ^ 32 * s.fld hi

/-- Writes a value over a low and a high register. -/
def State.setPair (s : State) (lo hi : Fld) (v : Nat) : State := (s.setF lo v).setF hi (v / 2 ^ 32)

/-- Clears the registers of an offset range to their reset values. -/
def State.clearRegs (s : State) (lo hi : Nat) : State :=
  { s with regs := s.regs.filter (fun p => !(decide (lo ≤ p.1) && decide (p.1 < hi))) }

/-- Replaces an element of a list, if it is there. -/
def setAt {α : Type} (l : List α) (k : Nat) (v : α) : List α := l.set k v

/-- The sum of a number over a list. -/
def sumOf {α : Type} (l : List α) (f : α → Nat) : Nat := (l.map f).foldl (· + ·) 0

/-- The two's-complement reading of the low `w` bits of a number. -/
def signed (w n : Nat) : Int :=
  let m := n % 2 ^ w
  if m < 2 ^ (w - 1) then (m : Int) else (m : Int) - (2 ^ w : Nat)

/-- The low `w` bits of an integer. -/
def unsignedOf (w : Nat) (i : Int) : Nat := (i % ((2 ^ w : Nat) : Int)).toNat

/-! ## Free values and what leaves the device -/

/-- Takes a free value: a number nothing constrains. [Log 4 DESIGN CHOICE] -/
def State.fresh (s : State) : Nat × State :=
  ((Config.freeValue s.free).toNat, { s with free := s.free + 1 })

/-- Takes `n` free values. [Log 4 DESIGN CHOICE] -/
def State.freshList (s : State) (n : Nat) : List Nat × State :=
  ((List.range n).map (fun k => (Config.freeEach s.free k).toNat), { s with free := s.free + 1 })

/-- Chooses one of a list by a free value: the spec does not say which. [Log 4 DESIGN CHOICE, 38 DESIGN CHOICE] -/
def State.pick (s : State) (l : List Nat) : Option Nat × State :=
  match l with
  | [] => (none, s)
  | [a] => (some a, s)
  | _ =>
    let (v, s) := s.fresh
    (l[v % l.length]?, s)

/-- Sends something out. [Log 3 DESIGN CHOICE] -/
def State.emit (s : State) (o : Out) : State := { s with out := o :: s.out }

/-! ## Units present -/

def State.gills (s : State) : Nat := s.fld R.SYS_CAP_UNITS_GILLS
def State.cxpPorts (s : State) : Nat := s.fld R.SYS_CAP_UNITS_CXP_PORTS
def State.cxpLanes (s : State) : Nat := s.fld R.SYS_CAP_UNITS_CXP_LANES
def State.encChans (s : State) : Nat := s.fld R.SYS_CAP_UNITS_ENC_CH
def State.ejOuts (s : State) : Nat := s.fld R.SYS_CAP_UNITS_EJ_OUT
def State.hasRing (s : State) : Bool := s.bit R.SYS_CAP_UNITS_RING
def State.hasAnnealer (s : State) : Bool := s.bit R.SYS_CAP_UNITS_PUFFBALL

/-- A lane that this variant has (R3, R12). -/
def State.laneHere (s : State) (l : Nat) : Bool :=
  decide (l < s.cxpLanes) || (s.hasRing && decide (16 ≤ l) && decide (l < 24))

/-- The power mode (R121): 0 START, 1 RUN, 2 DOZE, 3 STANDBY, 4 HOLDUP. -/
def State.pmode (s : State) : Nat := s.fld R.PWR_MODE_STATUS_MODE

/-- Bring-up's state (R198): 0 in progress, 1 READY, 2 READY_NO_IMAGE, 3 FAILED. -/
def State.bootState (s : State) : Nat := s.fld R.SYS_BOOT_STATUS_STATE

/-- The domains that DOZE gates do work: in RUN outside a transaction, and in START once bring-up has ended without an
image (R121, R139, R183). -/
def State.runs (s : State) : Bool := (s.pmode == 1 && !s.mode.active) || (s.pmode == 0 && s.bootState == 2)

/-! ## Interrupts (R660, R661) -/

/-- Sends the MSI-X message of a vector: under a mask it is noted in the PBA; in D3hot, or with the function
disabled or no Bus Master Enable, none is sent. -/
def State.msix (s : State) (v : Nat) : State :=
  if !s.mbx.msixEn || s.bit R.MBX_HSTATUS_D3 || !s.bit R.MBX_HSTATUS_BME then s
  else if s.mbx.msixMask || s.bit (R.MBX_MSIX_CTRL_MASK v) then
    let r := R.MBX_MSIX_PBA_PENDING (v / 32)
    s.setF r (s.fld r ||| 2 ^ (v % 32))
  else s.emit (.msix v)

/-- A source becomes pending: one message if its byte of MBX_IRQ_VEC is enabled; a source already pending
sends none. [Log 69 DESIGN CHOICE] -/
def State.pend (s : State) (src : Nat) : State :=
  let p := s.fld R.MBX_IRQ_PEND_PEND
  if p.testBit src then s
  else
    let s := s.setF R.MBX_IRQ_PEND_PEND (p ||| 2 ^ src)
    let b := (s.rd (R.MBX_IRQ_VEC (src / 4))).toNat / 2 ^ (8 * (src % 4)) % 256
    if 128 ≤ b then s.msix (b % 64) else s

/-! ## Journal staging (R706 to R712) -/

/-- Bytes the records of a list take. -/
def recBytes (l : List JRec) : Nat := (l.map (fun r => 32 * r.len)).foldl (· + ·) 0

/-- Bytes staged. -/
def State.staged (s : State) : Nat := recBytes s.jrn.staging

/-- The staging buffer's size, and the part kept for START, DIGESTS, STORE, END and DROP records. -/
def stageSize : Nat := 14336
def stageKept : Nat := 1024

/-- Whether a record of a type and length fits staging (R712). -/
def State.stageFits (s : State) (ty len : Nat) : Bool :=
  let lim := if ty = 1 ∨ ty = 2 ∨ ty = 3 then stageSize - stageKept else stageSize
  decide (s.staged + 32 * len ≤ lim)

/-- Appends a record, numbered and stamped; the caller has checked that it fits. -/
def State.stagePut (s : State) (ty len : Nat) (body : List Byte) : State :=
  let r : JRec := ⟨ty, len, s.jrn.jseq, s.time.mono, s.jrn.startCnt, body⟩
  let s := { s with jrn := { s.jrn with staging := s.jrn.staging ++ [r], jseq := s.jrn.jseq + 1 } }
  ((s.setF R.JRN_SEQ_JSEQ s.jrn.jseq).setF R.JRN_STAGE_BYTES s.staged).raise R.JRN_STAGE_HWM s.staged

/-- The body of a STATUS record (R707). -/
def statusBody (sts detail inst : Nat) : List Byte :=
  leBytes 2 sts ++ leBytes 2 detail ++ leBytes 2 (Config.journalSource sts inst).toNat ++ [0, 0]

/-- A record that does not fit is discarded and counted, and reported once for each run (R712). `first` is
the status of the record, none where it carries none: DROP then reports a free value. -/
def State.stageDropped (s : State) (first : Option Nat) : State :=
  let s := s.inc R.JRN_CNT_DROP_COUNT
  if s.jrn.stageDrop ≠ 0 then { s with jrn := { s.jrn with stageDrop := s.jrn.stageDrop + 1 } }
  else
    let (f, s) := match first with
      | some f => (f, s)
      | none => s.fresh
    let s := { s with jrn := { s.jrn with stageDrop := 1, dropFirst := f % 65536 } }
    let s := (s.setF R.JRN_STATUS_LAST_STS 0xE003).pend 30
    if s.stageFits 1 1 then s.stagePut 1 1 (statusBody 0xE003 0 0)
    else
      let s := s.inc R.JRN_CNT_DROP_COUNT
      { s with jrn := { s.jrn with stageDrop := 2 } }

/-- A producer stages a record. No producer waits on staging (R712). -/
def State.stage (s : State) (ty len : Nat) (body : List Byte) (first : Option Nat := none) : State :=
  if s.stageFits ty len then s.stagePut ty len body else s.stageDropped first

/-- A status goes to the journal; one raised before the supervisor has replayed it is kept and journalled
then, in the order raised (R196, R718). -/
def State.journal (s : State) (sts detail inst : Nat) : State :=
  if s.bit R.JRN_STATUS_REPLAYED then s.stage 1 1 (statusBody sts detail inst) (some sts)
  else { s with boot := { s.boot with early := s.boot.early ++ [(sts, detail, inst)] } }

/-! ## Status reports (R25, R26, R110, R724) -/

/-- A status reaches the journal and raises the interrupt of its area (R660). [Log 11 DEDUCED, 69 DESIGN CHOICE] -/
def State.post (s : State) (sts detail inst : Nat) : State :=
  (s.journal sts (detail % 65536) inst).pend (16 + sts / 4096)

/-- The fill of a crossing: its high-water mark (R154). -/
def State.xingFill (s : State) (n fill : Nat) : State :=
  { s with mot.hwms := Sparse.put s.mot.hwms n (max fill (Sparse.get s.mot.hwms n 0)) 0 }

/-- An item met a full crossing of the MOTION domain: it is counted and reported (R126). CLK_XING_DROP and
CLK_XING_HWM show the counts of the crossing that CLK_XING_SEL names (R154). -/
def State.xingDrop (s : State) (n : Nat) : State :=
  ({ s with mot.drops := Sparse.put s.mot.drops n (min (Sparse.get s.mot.drops n 0 + 1) 0xFFFFFFFF) 0 }.setF
    R.CLK_FAIL_LAST_STS 0x1907).post 0x1907 n 0

/-- Whether a domain is clocked and ungated (R152). -/
def State.clocked (s : State) (d : Nat) : Bool := (s.fld R.CLK_STATUS_RUNNING).testBit d

/-- Reports a status: its block's LAST_STS, the journal, and the interrupt of its area (R660). -/
def State.report (s : State) (last : Fld) (sts detail : Nat) (inst : Nat := 0) : State :=
  (s.setF last sts).post sts detail inst

/-- Reports a status of the MOTION domain: its event crosses to MESH (R123); it waits on crossing 10 while MESH is not
clocked, and a full crossing discards it (R126). [Log 40 DESIGN CHOICE] -/
def State.motReport (s : State) (last : Fld) (sts detail : Nat) (inst : Nat := 0) : State :=
  let s := s.setF last sts
  if s.clocked 7 then (s.xingFill 10 1).post sts detail inst
  else if 64 ≤ s.mot.xing10.length then s.xingDrop 10
  else
    let s := { s with mot.xing10 := s.mot.xing10 ++ [(⟨sts, detail, inst⟩ : StsEvt)] }
    s.xingFill 10 s.mot.xing10.length

/-- The status events that wait on crossing 10 reach MESH, in order. -/
def State.xingDrain (s : State) : State :=
  s.mot.xing10.foldl (fun (s : State) (e : StsEvt) => s.post e.sts e.detail e.inst) { s with mot.xing10 := [] }

/-- `n` events of a status that is limited to one report in `ms` for an instance (R724): the number of events since the
previous report, these included and saturated to 16 bits, where a report is due. -/
def State.limit (s : State) (sts inst ms n : Nat) : Option Nat × State :=
  let rest := s.bus.limited.filter (fun e => !(e.sts == sts && e.case_ == inst))
  match s.bus.limited.find? (fun e => e.sts == sts && e.case_ == inst) with
  | some e =>
    if s.now < e.at_ + ms * 1000000 then
      (none, { s with bus.limited := { e with since := e.since + n } :: rest })
    else (some (min (e.since + n) 65535), { s with bus.limited := ⟨sts, inst, s.now, 0⟩ :: rest })
  | none => (some (min n 65535), { s with bus.limited := ⟨sts, inst, s.now, 0⟩ :: rest })

/-- Reports a limited status (R724). `detail` is given the number of events that the report stands for. -/
def State.reportLimited (s : State) (last : Fld) (sts : Nat) (detail : Nat → Nat) (inst : Nat)
    (ms : Nat := 1000) (n : Nat := 1) : State :=
  match s.limit sts inst ms n with
  | (some k, s) => s.report last sts (detail k) inst
  | (none, s) => s

/-- Reports a status of the image loader: BOOT_IMG_DETAIL holds its detail word (R235, R236). -/
def State.imgReport (s : State) (sts detail : Nat) : State :=
  (s.setF R.BOOT_IMG_DETAIL_DETAIL detail).report R.BOOT_IMG_STATUS_LAST_STS sts detail

/-! ## LINE_STOP (R82) -/

/-- The moment at which a hold that starts now ends: it takes the HOLD_MS of this moment (R82). -/
def State.holdFrom (s : State) : Nat := s.now + 1000000 * s.fld R.EJ_LSTOP_HOLD_MS

/-- A cause of assertion: LINE_STOP is asserted, the hold starts or restarts, and a pending release is cancelled. Before
bring-up ends the hold has not started. -/
def State.lineStop (s : State) : State :=
  let was := s.bit R.EJ_LSTOP_ASSERTED
  let s := s.setB R.EJ_LSTOP_ASSERTED true
  let s := { s with pwr := { s.pwr with
    holdEnd := if s.bootState = 0 then none else some s.holdFrom, relPend := false } }
  if was then s else s.pend 7

/-- Whether the LINE_STOP contact is closed: the line may run (R82). A thermal trip is the beginning of a reset (R100). -/
def State.contactClosed (s : State) : Bool :=
  s.pwr.vinGood && !s.pwr.inReset && !s.pwr.tripHeld && s.bit R.EJ_LSTOP_RUN && !s.bit R.EJ_LSTOP_ASSERTED

/-! ## Flags of the reproducibility promise and of the timing window (R641, R643) -/

/-- Something that voids timing repeatability: its flag of SYS_REPRO_STATUS, and its flag of the timing
window while one is open. -/
def State.timing (s : State) (flag : Fld) (tw : Option Fld) : State :=
  let s := s.setB flag true
  match tw with
  | some f => if s.bit R.MESH_TW_CTRL_OPEN then s.setB f true else s
  | none => s

/-- Something that voids the promise on results: its flag of SYS_REPRO_STATUS, reported when it sets from 0
(R640). -/
def State.voided (s : State) (flag : Fld) : State :=
  if s.bit flag then s
  else (s.setB flag true).report R.MESH_PROG_STATUS_LAST_STS 0x9203 flag.lo

/-! ## Memory by bytes -/

/-- One byte of device memory at a physical address; a byte nothing has written reads 0 (the model's
choice). [Log 5 DESIGN CHOICE] -/
def State.byte (s : State) (a : Nat) : Byte := Sparse.get s.mem a 0

/-- Writes one byte. -/
def State.setByte (s : State) (a : Nat) (b : Byte) : State := { s with mem := Sparse.put s.mem a b 0 }

/-- `n` bytes from an address. -/
def State.bytes (s : State) (a : Nat) : Nat → List Byte
  | 0 => []
  | n + 1 => s.byte a :: s.bytes (a + 1) n

/-- Writes bytes from an address on. -/
def State.setBytes (s : State) (a : Nat) : List Byte → State
  | [] => s
  | b :: l => (s.setByte a b).setBytes (a + 1) l

end Sys2Proof.Machine
end

