-- ==== Sys2Proof/Machine/Access.lean ====
section
/-! DEFINITION. Access: what stands between a BAR0 access and its register: bring-up (R192), absent units
(R17), gated domains (R140), and the wake latches (R138). -/

namespace Sys2Proof.Machine

/-- A wake source's pattern is complete: its latch sets if it is armed and its source enabled (R138, R143). A latch that
an entry has armed stays armed until it sets; one that has set is armed again by the next entry. [Log 26 DESIGN CHOICE] -/
def State.wake (s : State) (bit : Nat) : State :=
  if s.mode.armed.testBit bit && (s.rd R.PWR_WAKE_EN).toNat.testBit bit then
    { s.setF R.PWR_WAKE_LATCH_LATCH (s.fld R.PWR_WAKE_LATCH_LATCH ||| 2 ^ bit) with
      mode.armed := s.mode.armed - 2 ^ bit }
  else s

/-- Whether an enabled wake latch is set (R134). -/
def State.wakeSet (s : State) : Bool :=
  (s.fld R.PWR_WAKE_LATCH_LATCH &&& ((s.rd R.PWR_WAKE_EN).toNat % 64)) != 0

/-- The lowest enabled wake latch that is set. -/
def State.wakeBit (s : State) : Nat :=
  let m := s.fld R.PWR_WAKE_LATCH_LATCH &&& ((s.rd R.PWR_WAKE_EN).toNat % 64)
  ((List.range 6).find? (fun b => m.testBit b)).getD 0

/-- A port without its link, or with the Ethernet relays in bypass, is FAULTY or DISABLED (R354): the spec does not
say which. [Log 45 DESIGN CHOICE] -/
def State.ptpPortDown (s : State) (n : Nat) : State :=
  let (v, s) := s.pick [2, 3]
  s.setF (R.PTP_PORT_STATUS_STATE n) (v.getD 2)

/-- The domain of the block at an offset where a power mode may gate it: CXP, LANE and RING stand in LANE, ISP in PIXEL, MMU
in MEM, GILL in CORE, the others from MESH on in MESH; none for the blocks of AON, MOTION, TIME and HOST (R121, R140).
[Log 68 DESIGN CHOICE] -/
def gateDomain (off : Nat) : Option Nat :=
  if off < 0x20000 ∨ (0xA0000 ≤ off ∧ off < 0xB0000) then none
  else if off < 0x30000 then some 4
  else if off < 0x40000 then some 5
  else if off < 0x50000 then some 4
  else if 0x60000 ≤ off ∧ off < 0x70000 then some 6
  else if 0x100000 ≤ off then some 8
  else some 7

/-- Whether a block's domain is gated: from the step of an entry that gates it to the end of the exit or rollback (R133,
R140). A domain that has lost its clock is not gated. [Log 68 DESIGN CHOICE] -/
def State.gated (s : State) (off : Nat) : Bool :=
  match gateDomain off with
  | some d => !s.clocked d && !s.boot.noLock.testBit d
  | none => false

/-- Whether the unit whose register stands at `off` is absent (R17). -/
def State.absent (s : State) (off : Nat) : Bool :=
  if 0x10000 ≤ off ∧ off < 0x10400 then decide (s.encChans ≤ (off - 0x10000) / 0x100)
  else if 0x12000 ≤ off ∧ off < 0x12400 then decide (s.ejOuts ≤ (off - 0x12000) / 0x40)
  else if 0x20000 ≤ off ∧ off < 0x30000 then decide (s.cxpPorts ≤ (off - 0x20000) / 0x1000)
  else if 0x40000 ≤ off ∧ off < 0x48000 then !s.laneHere ((off - 0x40000) / 0x400)
  else if 0x48000 ≤ off ∧ off < 0x50000 then !s.hasRing
  else if 0xC0000 ≤ off ∧ off < 0x100000 then !s.hasAnnealer
  else if 0x100000 ≤ off then decide (s.gills ≤ (off - 0x100000) / 0x4000)
  else false

/-- Whether the blocks SYS, BOOT, CLK and PWR are served while bring-up runs or has failed early (R192). -/
def State.earlyServed (s : State) : Bool := s.boot.mapped || s.bootState == 3

/-- A BAR0 access to the register at `off`: `k` performs it. During bring-up a write to another block is
reported once, an absent unit's block too: which units are absent is fixed by the end of MAP; afterwards an absent unit
reads 0 and ignores writes; a gated block's access is held, and wakes. A read covers `len` bytes from byte `lane` of the
register on. [Log 12 DESIGN CHOICE, 68 DESIGN CHOICE, 72 DESIGN CHOICE] -/
def State.access (s : State) (off value : Nat) (write : Bool) (k : State → State) (lane : Nat := 0) (len : Nat := 4) :
    State :=
  if s.pwr.inReset || s.pmode == 4 then { s with bus.data := 0 }
  else if s.bootState = 0 ∨ !s.boot.mapped then
    if off < 0x4000 then if s.earlyServed then k s else { s with bus.data := 0 }
    else if !write then { s with bus.data := 0 }
    else if s.boot.earlyAccess || s.bootState != 0 then s
    else { s with boot.earlyAccess := true }.report R.SYS_BOOT_STATUS_LAST_STS 0x1015
           (off / 4096 % 4096)
  else if s.absent off then { s with bus.data := 0 }
  else if s.gated off then
    { s with bus.held := s.bus.held ++ [(⟨off, write, value, lane, len⟩ : HeldAccess)] }.wake 1
  else k s

/-- A write by the host of a register that has a command of its own. -/
def State.regWrite (s : State) (r : Reg) (value : Nat) (k : State → State) : State :=
  s.access r.off value true k

/-- A read by the host of a register that has a command of its own. -/
def State.regRead (s : State) (r : Reg) (k : State → State) : State :=
  s.access r.off 0 false k

end Sys2Proof.Machine
end

