-- ==== Sys2Proof/Machine/ImageParse.lean ====
section
/-! DEFINITION. ImageParse: reads an Exgar image's bytes into records (R206 to R210, R219, R547) and makes the
checks of stage HEADER. -/

namespace Sys2Proof.Machine

/-- Why a load stage failed (R214): stage, status, detail word, first offending section and record. -/
structure ImgFail where
  stage : Nat
  sts : Nat
  detail : Nat
  sect : Nat
  recd : Nat
  deriving DecidableEq, Repr

/-- A check of the loader. -/
def needs (ok : Bool) (f : ImgFail) : Except ImgFail Unit := if ok then .ok () else .error f

/-- Runs a check over a list, with each element's index; the first failure ends it. -/
def checkAll {α : Type} (f : Nat → α → Except ImgFail Unit) : Nat → List α → Except ImgFail Unit
  | _, [] => .ok ()
  | k, x :: l => do
    f k x
    checkAll f (k + 1) l

/-- One entry of the section table (R208). -/
structure SectEnt where
  type : Nat
  flags : Nat
  off : Nat
  len : Nat
  count : Nat
  digest : List Byte
  deriving DecidableEq, Repr

/-- Cuts bytes into records of `n` bytes, `k` at most. -/
def chunks (n : Nat) : Nat → List Byte → List (List Byte)
  | 0, _ => []
  | k + 1, b => if b = [] then [] else b.take n :: chunks n k (b.drop n)

def readPart (b : List Byte) : PartRec := ⟨leAt b 0 1, leAt b 2 2, leAt b 4 8, leAt b 12 4, leAt b 16 2⟩

def readRoute (b : List Byte) : RouteRec :=
  ⟨leAt b 0 2, leAt b 2 2, leAt b 4 2, leAt b 6 1, (leAt b 7 1).testBit 0, leAt b 8 2, leAt b 10 2, leAt b 12 2⟩

def readMem (b : List Byte) : MemRec :=
  ⟨leAt b 0 2, leAt b 2 1, leAt b 3 1, leAt b 4 8, leAt b 12 8, leAt b 20 2, leAt b 22 2,
   (leAt b 24 2).testBit 0, (leAt b 24 2).testBit 1⟩

def readIsp (b : List Byte) : IspRec :=
  ⟨leAt b 0 1, leAt b 1 1, ((slice b 2 16).take (leAt b 1 1)).map (·.toNat), leAt b 18 2, leAt b 20 4, []⟩

def readCam (b : List Byte) : CamRec :=
  ⟨leAt b 0 1, leAt b 1 1, leAt b 2 1, leAt b 3 1, leAt b 4 1, leAt b 5 1, leAt b 6 2, leAt b 8 2, leAt b 10 2⟩

def readQueue (b : List Byte) : QueueRec :=
  ⟨leAt b 0 2, leAt b 2 1, leAt b 3 1, leAt b 4 2, leAt b 6 2, leAt b 8 2, leAt b 10 2, leAt b 12 1⟩

def readModel (b : List Byte) : ModelRec :=
  ⟨leAt b 0 2, leAt b 2 2, leAt b 4 8, leAt b 12 8, leAt b 20 4, leAt b 24 2, leAt b 26 2⟩

def readGate (b : List Byte) : GateRec :=
  ⟨leAt b 0 1, leAt b 1 1, leAt b 2 1, leAt b 3 1, leAt b 4 1, leAt b 5 1, leAt b 6 1⟩

def readSync (b : List Byte) : SyncRec := ⟨leAt b 0 2, leAt b 2 2, leAt b 4 4, leAt b 8 2⟩

def readData (b : List Byte) : DataRec := ⟨leAt b 0 2, leAt b 4 8, b.drop 12⟩

def readShard (b : List Byte) : ShardRec := ⟨leAt b 0 2, leAt b 2 1, leAt b 4 4, leAt b 8 8, leAt b 16 8⟩

/-- Layout blocks, `n` of them (R547). -/
def readLayouts : Nat → List Byte → List LayoutRec
  | 0, _ => []
  | n + 1, b =>
    let k := leAt b 2 2
    ⟨leAt b 0 1, leAt b 4 2, leAt b 8 8, (chunks 32 k (b.drop 32)).map readShard⟩
      :: readLayouts n (b.drop (32 + 32 * k))

/-- A multiple of `a` at or above `v`. -/
def roundUp (v a : Nat) : Nat := (v + a - 1) / a * a

/-- The length of a program record, and the offset of its code. -/
def progHead (b : List Byte) : Nat := roundUp (64 + 4 * (leAt b 6 1 + leAt b 7 1)) 128
def progLen (b : List Byte) : Nat := progHead b + 128 * leAt b 2 2

def readProg (b : List Byte) : ProgRec :=
  let nl := leAt b 6 1
  let pairAt := fun k => (leAt b (64 + 4 * k) 2, leAt b (66 + 4 * k) 2)
  ⟨leAt b 0 2, leAt b 2 2, leAt b 4 2, (List.range nl).map pairAt,
   (List.range (leAt b 7 1)).map (fun k => ((pairAt (nl + k)).1, (pairAt (nl + k)).2 == 1)),
   (b.drop (progHead b)).take (128 * leAt b 2 2)⟩

/-- Programs, `n` at most; none where the bytes end within one. -/
def readProgs : Nat → List Byte → Option (List ProgRec)
  | 0, b => if b = [] then some [] else none
  | n + 1, b =>
    if b.length < 64 ∨ b.length < progLen b then none
    else (readProgs n (b.drop (progLen b))).map (readProg b :: ·)

/-- The record size of a section type; 0 for the variable ones (R209). -/
def recSize (t : Nat) : Nat := [0, 32, 0, 16, 32, 64, 16, 16, 32, 16, 12, 64, 0].getD t 0

/-- The most records of a section type (R209). -/
def recMax (t : Nat) : Nat := [0, 32, 256, 1024, 64, 4, 8, 256, 64, 16, 4096, 1, 1].getD t 0

/-- The section table. -/
def readTable (b : List Byte) : List SectEnt :=
  (chunks 48 (leAt b 12 2) (b.drop 0x80)).map (fun e =>
    ⟨leAt e 0 2, leAt e 2 2, leAt e 4 4, leAt e 8 4, leAt e 12 4, slice e 16 32⟩)

/-- The bytes of a section. -/
def sectBytes (b : List Byte) (e : SectEnt) : List Byte := (b.drop e.off).take e.len

/-- Whether a section holds COUNT whole records (R208). -/
def sectWhole (b : List Byte) (e : SectEnt) : Bool :=
  if e.type = 2 then (readProgs e.count (sectBytes b e)).isSome
  else if e.type = 12 then e.count == 1 && decide (12 ≤ e.len)
  else e.len == recSize e.type * e.count

/-- Stage HEADER's checks of R206 to R209: the failing header offset, and the section. -/
def headerBad (b : List Byte) : Option (Nat × Nat) :=
  let total := leAt b 8 4
  let n := leAt b 12 2
  if leAt b 0 4 ≠ 0x52475845 then some (0, 0)
  else if leAt b 4 2 ≠ 1 then some (4, 0)
  else if leAt b 6 2 ≠ 128 then some (6, 0)
  else if total % 64 ≠ 0 ∨ 2 ^ 26 < total ∨ b.length < total ∨ total < 0x80 + 48 * n + 128 then some (8, 0)
  else if n = 0 ∨ 32 < n then some (12, 0)
  else if 3 < leAt b 14 1 then some (14, 0)
  else if leAt b 15 1 ≠ 0 then some (15, 0)
  else if 8 ≤ leAt b 28 4 then some (28, 0)
  else if (slice b 40 88).any (· != 0) then some (40, 0)
  else
    let t := readTable b
    let bad := t.zipIdx.findSome? (fun (e, i) =>
      let o := 0x80 + 48 * i
      let before := t.take i
      if e.type = 0 ∨ 12 < e.type ∨ (e.type ≠ 12 ∧ before.any (·.type == e.type)) then some (o, i)
      else if e.flags ≠ 0 then some (o + 2, i)
      else if e.off % 4096 ≠ 0 ∨ e.off < 0x80 + 48 * n ∨ total - 128 < e.off then some (o + 4, i)
      else if total - 128 < e.off + e.len then some (o + 8, i)
      else if before.any (fun x => decide (x.off < e.off + e.len) && decide (e.off < x.off + x.len)) then
        some (o + 4, i)
      else if !sectWhole b e then some (o + 8, i)
      else none)
    match bad with
    | some x => some x
    | none => if [1, 2, 3, 4, 7].all (fun r => t.any (·.type == r)) then none else some (12, 0)

/-- The records of a section type, read by `f`. -/
def recsOf {α : Type} (b : List Byte) (t : List SectEnt) (ty : Nat) (f : List Byte → α) : List α :=
  match t.find? (·.type == ty) with
  | some e => (chunks (recSize ty) e.count (sectBytes b e)).map f
  | none => []

/-- The image that well-formed bytes spell, its routes not yet compiled. LAYOUT_OFF and PARAM_OFF count from
the first DATA section's start. -/
def readImage (b : List Byte) : Image :=
  let b := b.take (leAt b 8 4)
  let t := readTable b
  let data0 := ((t.find? (·.type == 12)).map (sectBytes b)).getD []
  { total := leAt b 8 4, keySlot := leAt b 14 1, secVer := leAt b 16 4, minSup := leAt b 20 4
    minTile := leAt b 24 4, variants := leAt b 28 4, id := leAt b 32 4, rev := leAt b 36 4
    names := t.map (·.type)
    digest := sha256 (b.take (128 + 48 * leAt b 12 2))
    parts := recsOf b t 1 readPart
    progs := ((t.find? (·.type == 2)).bind (fun e => readProgs e.count (sectBytes b e))).getD []
    routes := recsOf b t 3 readRoute
    mems := recsOf b t 4 readMem
    isps := recsOf b t 5 (fun r => { readIsp r with params := (data0.drop (leAt r 20 4)).take 0x40000 })
    cams := recsOf b t 6 readCam
    queues := recsOf b t 7 readQueue
    models := recsOf b t 8 readModel
    gates := recsOf b t 9 readGate
    syncs := recsOf b t 10 readSync
    rings := recsOf b t 11 (fun r =>
      ⟨leAt r 0 1, leAt r 1 1, leAt r 2 1, readLayouts (leAt r 2 1) (data0.drop (leAt r 4 4))⟩)
    datas := (t.filter (·.type == 12)).map (fun e => readData (sectBytes b e))
    sets := [] }

end Sys2Proof.Machine
end

