-- ==== Sys2Proof/Machine/Units.lean ====
section
/-! DEFINITION. Units: the disabled-unit map and the logical numbering (R160 to R166), and where the endpoints
of the mycelium stand (R218). -/

namespace Sys2Proof.Machine

/-- Fields of a map entry (R161). -/
def mapType (e : Nat) : Nat := e / 2 ^ 30 % 4
def mapSource (e : Nat) : Nat := e / 2 ^ 28 % 4
def mapGill (e : Nat) : Nat := e / 2 ^ 8 % 64
def mapTile (e : Nat) : Nat := e % 128

/-- An entry with its SOURCE replaced. -/
def mapWith (e src : Nat) : Nat := mapType e * 2 ^ 30 + src * 2 ^ 28 + mapGill e * 256 + mapTile e

/-- Inserts an entry into the merged map in the order of R162, keeping the lowest SOURCE. -/
def mapInsert (e : Nat) : List Nat → List Nat
  | [] => [e]
  | x :: l =>
    if mapWith e 0 = mapWith x 0 then (if mapSource e < mapSource x then e :: l else x :: l)
    else if mapWith e 0 < mapWith x 0 then e :: x :: l
    else x :: mapInsert e l

/-- The merged map of the three sources (R162). -/
def mergeMap (fuse field session : List Nat) : List Nat :=
  ((fuse ++ field ++ session).filter (fun e => mapType e != 0)).foldl (fun m e => mapInsert e m) []

/-- The map digest (R163). -/
def mapDigest (m : List Nat) : List Byte := sha256 (m.flatMap (fun e => leBytes 4 (mapWith e 0)))

/-- Physical tiles of a gill that no TILE entry names, in chain order. -/
def goodTiles (m : List Nat) (g : Nat) : List Nat :=
  (List.range 68).filter (fun t => !m.any (fun e => mapType e == 1 && mapGill e == g && mapTile e == t))

/-- A usable physical gill (R164). -/
def gillUsable (m : List Nat) (g : Nat) : Bool :=
  !m.any (fun e => (mapType e == 2 || mapType e == 3) && mapGill e == g)
    && decide (64 ≤ (goodTiles m g).length)

/-- The physical gills of the logical gills, in logical order, for a variant's gill count (R164). -/
def logicalGills (m : List Nat) (count : Nat) : List Nat :=
  ((List.range 64).filter (gillUsable m)).take count

/-- A disabled router (R161). -/
def routerDead (m : List Nat) (r : Nat) : Bool := m.any (fun e => mapType e == 3 && mapGill e == r)

/-- The variant's gill, CXP port, lane, encoder and output counts, whether it has puffball and the ring,
and the log2 of its memory in GiB (R2, R30), by variant code. -/
def variantUnits (code : Nat) : List Nat :=
  if code = 0x40 then [64, 8, 16, 4, 16, 1, 1, 5]
  else if code = 0x24 then [40, 4, 8, 2, 8, 0, 1, 4]
  else [20, 2, 4, 2, 8, 0, 0, 3]

/-- Bytes of device memory (R473). -/
def State.memBytes (s : State) : Nat := 2 ^ s.fld R.SYS_CAP_UNITS_MEM_LOG2 * 2 ^ 30

/-- Bytes of device memory below the reserved region (R474). -/
def State.memFree (s : State) : Nat := s.memBytes - 2 ^ 28

/-- The endpoints of one type that the device presents (R218). -/
def State.epCount (s : State) (t : Nat) : Nat :=
  match t with
  | 1 => s.gills
  | 2 => 4
  | 3 => 4
  | 4 => s.cxpPorts
  | 5 => 1
  | 6 => 1
  | 7 => 16
  | 8 => if s.hasAnnealer then 1 else 0
  | 9 => 1
  | 10 => 1
  | 11 => if s.hasRing then 2 else 0
  | 13 => 1
  | _ => 0

/-- The physical router of an endpoint code, for logical gills `lg` (R218). -/
def epRouter (lg : List Nat) (code : Nat) : Nat :=
  let i := code % 4096
  match code / 4096 with
  | 1 => lg.getD i 0
  | 2 => [0, 7, 56, 63].getD i 0
  | 3 => 8 * (i + 1)
  | 4 => 8 * (i / 2 + 1)
  | 5 => 3
  | 6 => 39
  | 7 => 4
  | 8 => 60
  | 9 => 59
  | 10 => 58
  | 11 => if i = 0 then 40 else 47
  | _ => 3

/-- The bits set in a mask of `n` bits, ascending. -/
def bitsOf (n m : Nat) : List Nat := (List.range n).filter (fun b => m.testBit b)

/-- The physical routers of an endpoint code: those of its gills for a partition; none where the endpoint
is absent. `masks` are the partitions' gill masks. -/
def State.routersOf (s : State) (lg : List Nat) (masks : List (Nat × Nat)) (code : Nat) : List Nat :=
  let t := code / 4096
  let i := code % 4096
  if t = 12 then
    match masks.find? (fun p => p.1 == i) with
    | some p => ((bitsOf 64 p.2).filter (· < s.gills)).map (fun g => lg.getD g 0)
    | none => []
  else if i < s.epCount t then [epRouter lg code] else []

end Sys2Proof.Machine
end

