-- ==== Sys2Proof/Machine/ImageCheck.lean ====
section
/-! DEFINITION. ImageCheck: the load stages HEADER to DEPEND (R211, R214, R218 to R223, and the loader's rules
of R19, R404, R478, R497, R529, R537, R540, R547, R551, R569). -/

namespace Sys2Proof.Machine

/-- The first section of a type, as an index of the section table. -/
def Image.sectOf (im : Image) (ty : Nat) : Nat := (im.names.idxOf? ty).getD 0

/-- Runs a check over the section table in order; a DATA section brings its place among the DATA sections. -/
def Image.eachSect (f : Nat → Nat → Nat → Except ImgFail Unit) : Nat → Nat → List Nat → Except ImgFail Unit
  | _, _, [] => .ok ()
  | i, d, ty :: l => do
    f ty i d
    Image.eachSect f (i + 1) (if ty = 12 then d + 1 else d) l

/-! ## UNITS (R19) -/

/-- Whether a code names an absent unit. -/
def State.codeAbsent (s : State) (code : Nat) : Bool :=
  let t := code / 4096
  (t == 1 && decide (s.gills ≤ code % 4096)) || (t == 4 && decide (s.cxpPorts ≤ code % 4096))
    || (t == 8 && !s.hasAnnealer) || (t == 11 && !s.hasRing)

/-- Stage UNITS. -/
def State.checkUnits (s : State) (im : Image) : Except ImgFail Unit :=
  im.names |> Image.eachSect (fun ty i _ =>
    let bad := fun r => (⟨5, 0x2004, r, i, r⟩ : ImgFail)
    match ty with
    | 1 => checkAll (fun r p => needs (p.mask / 2 ^ s.gills == 0) (bad r)) 0 im.parts
    | 6 => checkAll (fun r c => needs (decide (c.port < s.cxpPorts) && decide (2 * c.port + c.lanes ≤ s.cxpLanes)
        && decide (c.chan < s.encChans)) (bad r)) 0 im.cams
    | 3 => checkAll (fun r x => needs (!s.codeAbsent x.src && !s.codeAbsent x.dst
        && (x.via == 0xFFFF || decide (x.via < s.gills))) (bad r)) 0 im.routes
    | 7 => checkAll (fun r q => needs (!s.codeAbsent q.target) (bad r)) 0 im.queues
    | 9 => checkAll (fun r g => needs (decide (g.out < s.ejOuts) && decide (g.alt < s.ejOuts)
        && decide (g.chan < s.encChans)) (bad r)) 0 im.gates
    | 11 => needs s.hasRing (bad 0)
    | _ => .ok ()) 0 0

/-! ## RESOURCES (R220) -/

def Image.part? (im : Image) (p : Nat) : Option PartRec := im.parts.find? (·.part == p)
def Image.mem? (im : Image) (p : Nat) : Option MemRec := im.mems.find? (·.part == p)
def Image.prog? (im : Image) (p : Nat) : Option ProgRec := im.progs.find? (·.prog == p)
def Image.model? (im : Image) (m : Nat) : Option ModelRec := im.models.find? (·.model == m)
def Image.queue? (im : Image) (q : Nat) : Option QueueRec := im.queues.find? (·.queue == q)
def Image.sync? (im : Image) (c : Nat) : Option SyncRec := im.syncs.find? (·.cell == c)
def Image.gate? (im : Image) (g : Nat) : Option GateRec := im.gates.find? (·.gate == g)
def Image.isp? (im : Image) (p : Nat) : Option IspRec := im.isps.find? (·.pipe == p)

/-- The memory partition that covers a range. -/
def Image.memAt (im : Image) (va n : Nat) : Option MemRec :=
  im.mems.find? (fun m => decide (m.base ≤ va) && decide (va + n ≤ m.base + m.size))

/-- The programs that may run on a partition: its own and those of its models (R404). -/
def Image.progsOn (im : Image) (p : Nat) : List ProgRec :=
  (((im.part? p).map (·.program)).toList ++ (im.models.filter (·.parts.testBit p)).map (·.program)).filterMap
    im.prog?

/-- Bytes of a program's live regions in one tile. -/
def ProgRec.liveBytes (p : ProgRec) : Nat := (p.live.map (fun r => 64 * r.2)).foldl (· + ·) 0

/-- Bytes of a gill's save image (R540). -/
def ProgRec.saveBytes (p : ProgRec) : Nat := 40960 + 64 * (11264 + p.liveBytes)

/-- The largest save image of a partition's programs, rounded up to 4 KiB (R540). -/
def Image.saveMax (im : Image) (p : Nat) : Nat :=
  ((im.progsOn p).map (fun q => roundUp q.saveBytes 4096)).foldl max 0

/-- The distinct classes of the queues a partition executes. -/
def Image.classes (im : Image) (p : Nat) : List Nat :=
  (List.range 4).filter (fun c => im.queues.any (fun q => q.part == p && q.cls == c))

/-- Bytes of the largest state area of a partition's models. -/
def Image.stateBytes (im : Image) (p : Nat) : Nat :=
  ((im.models.filter (·.parts.testBit p)).map (fun m => 1024 * m.stateKib)).foldl max 0

/-- The bits of a mask. -/
def popcount (n m : Nat) : Nat := (bitsOf n m).length

/-- The lanes of a camera record (R89). -/
def CamRec.laneMask (c : CamRec) : Nat := (2 ^ c.lanes - 1) * 2 ^ (2 * c.port)

/-- Whether two memory partitions overlap without both being shared. -/
def memClash (a b : MemRec) : Bool :=
  decide (a.base < b.base + b.size) && decide (b.base < a.base + a.size) && !(a.shared && b.shared)

/-- The rule of a memory kind (R478). -/
def Image.kindOk (im : Image) (m : MemRec) : Bool :=
  match m.kind with
  | 0 => true
  | 1 => m.writers &&& 0xFF5F == 0
  | 2 => (!im.cams.any (fun c => c.mode == 1 && c.framePart == m.part) || m.writers.testBit 4)
      && (!im.isps.any (fun r => r.outPart == m.part) || m.writers.testBit 3)
  | 3 => m.writers.testBit 9
  | 4 => m.readers.testBit 9
  | 5 => m.writers == 0x40 && m.hostVis
  | 6 => m.readers == 0 && m.writers == 0
  | 7 => m.writers.testBit 8
  | _ => false

/-- Checks of a PARTITIONS record. -/
def Image.checkPart (im : Image) (i r : Nat) (p : PartRec) : Except ImgFail Unit := do
  let lim : ImgFail := ⟨6, 0x2008, r, i, r⟩
  let ovl : ImgFail := ⟨6, 0x2009, r, i, r⟩
  needs (decide (p.part < 32) && !(im.parts.take r).any (·.part == p.part)) lim
  needs ((im.parts.take r).all (fun q => q.mask &&& p.mask == 0)) ovl
  needs ((im.prog? p.program).isSome && decide (10 ≤ p.quantum) && decide (p.quantum ≤ 100000)) lim
  needs (decide (sumOf (im.progsOn p.part) (·.bundles) ≤ 4096)) lim
  needs ((im.progsOn p.part).all (fun q => q.live.all (fun l =>
    l.2 == 0 || decide (im.stateBytes p.part ≤ 64 * l.1)))) ovl
  needs ((im.progsOn p.part).all (fun q => decide (q.liveBytes + im.stateBytes p.part ≤ 65536))) lim
  match im.mem? p.savePart with
  | none => .error lim
  | some m =>
    needs (m.kind == 6) lim
    needs (decide (((im.classes p.part).length - 1) * popcount 64 p.mask * im.saveMax p.part ≤ m.size)) lim

/-- Own shards of a module's position in a layout. -/
def RingRec.own (g : RingRec) (l : LayoutRec) : List ShardRec := l.shards.filter (·.pos == g.position)

/-- Whether a route's endpoint, where it is a partition, has its record. -/
def Image.endThere (im : Image) (code : Nat) : Bool := code / 4096 != 12 || (im.part? (code % 4096)).isSome

/-- Checks of the RING record and its layout blocks (R219, R547). -/
def Image.checkRing (im : Image) (i r : Nat) (g : RingRec) : Except ImgFail Unit := do
  let lim : ImgFail := ⟨6, 0x2008, r, i, r⟩
  let ovl : ImgFail := ⟨6, 0x2009, r, i, r⟩
  needs (decide (g.position < g.size) && decide (2 ≤ g.size) && decide (g.size ≤ 8)
    && decide (1 ≤ g.nlayout) && decide (g.nlayout ≤ 8)) lim
  needs (g.layouts.zipIdx.all (fun p => p.1.layout == p.2 && decide (1 ≤ p.1.shards.length)
    && decide (p.1.shards.length ≤ 1024) && p.1.shards.all (fun h => h.len % 64 == 0 && h.srcOff % 64 == 0
      && (im.model? h.model).isSome))) lim
  needs (g.layouts.all (fun l => (g.own l).all (fun h =>
    match im.memAt h.dstVa h.len with
    | some m => m.kind == 1 && m.readers.testBit 11 && m.writers.testBit 11
    | none => false))) lim
  needs (g.layouts.zipIdx.all (fun p => (g.layouts.take p.2).all (fun l => (g.own l).all (fun a =>
    (g.own p.1).all (fun b => !(decide (a.dstVa < b.dstVa + b.len) && decide (b.dstVa < a.dstVa + a.len))))))) ovl

/-- Stage RESOURCES. -/
def State.checkResources (s : State) (im : Image) : Except ImgFail Unit :=
  im.names |> Image.eachSect (fun ty i d =>
    let lim := fun r => (⟨6, 0x2008, r, i, r⟩ : ImgFail)
    let ovl := fun r => (⟨6, 0x2009, r, i, r⟩ : ImgFail)
    let fits := fun n => needs (decide (n ≤ recMax ty)) (lim (recMax ty))
    match ty with
    | 1 => do
      fits im.parts.length
      checkAll (fun r p => im.checkPart i r p) 0 im.parts
    | 2 => do
      fits im.progs.length
      checkAll (fun r p => needs (!(im.progs.take r).any (·.prog == p.prog) && decide (p.bundles ≤ 4096)
        && decide (p.live.length ≤ 16) && decide (p.waits.length ≤ 64)
        && p.live.all (fun l => decide (l.1 + l.2 ≤ 1024)) && p.waits.all (fun w => decide (w.1 < 4096)))
        (lim r)) 0 im.progs
    | 3 => do
      fits im.routes.length
      checkAll (fun r p => needs (!(im.routes.take r).any (·.route == p.route) && im.endThere p.src && im.endThere p.dst)
        (lim r)) 0 im.routes
    | 4 => do
      fits im.mems.length
      checkAll (fun r m => do
        let pg := if m.page = 1 then 0x200000 else 4096
        needs (!(im.mems.take r).any (·.part == m.part) && decide (m.page ≤ 1) && m.base % pg == 0
          && m.size % pg == 0 && decide (m.base + m.size ≤ s.memFree)) (lim r)
        needs (!(im.mems.take r).any (memClash m)) (ovl r)
        needs (im.kindOk m) (lim r)) 0 im.mems
    | 5 => do
      fits im.isps.length
      checkAll (fun r p => needs (decide (p.pipe < 4) && decide (p.nstage ≤ 16)
        && !(im.isps.take r).any (·.pipe == p.pipe)
        && (match im.mem? p.outPart with | some m => m.kind == 2 | none => false)) (lim r)) 0 im.isps
    | 6 => do
      fits im.cams.length
      checkAll (fun r c => do
        let upTo := im.cams.take (r + 1)
        let same := upTo.filter (·.pipe == c.pipe)
        needs ((c.lanes == 1 || c.lanes == 2 || (c.lanes == 4 && c.port % 2 == 0)) && decide (c.pipe < 4)
          && decide (c.mode ≤ 1)) (lim r)
        needs ((im.cams.take r).all (fun x => x.laneMask &&& c.laneMask == 0)) (ovl r)
        needs (decide ((same.filter (·.mode == 0)).length ≤ 1)
          && (c.mode == 0 || (match im.mem? c.framePart with | some m => m.kind == 2 | none => false))
          && decide (sumOf same (·.pxRate) ≤ 3200)
          && (im.isp? c.pipe).isSome && (bitsOf 8 c.alt).all (fun k => (im.isp? k).isSome)
          && (bitsOf 16 c.gateMask).all (fun g => (im.gate? g).isSome)) (lim r)) 0 im.cams
    | 7 => do
      fits im.queues.length
      checkAll (fun r q => needs (!(im.queues.take r).any (·.queue == q.queue) && decide (q.queue < 256)
        && decide (q.cls ≤ 3) && decide (q.place ≤ 1) && (List.range 9).any (fun k => q.depth == 2 ^ (k + 4))
        && (q.part == 0xFFFF || (im.part? q.part).isSome) && (q.model == 0xFFFF || (im.model? q.model).isSome))
        (lim r)) 0 im.queues
    | 8 => do
      fits im.models.length
      checkAll (fun r m => needs (!(im.models.take r).any (·.model == m.model)
        && (match im.mem? m.weightPart with
            | some w => w.kind == 1 && decide (m.weightOff + m.weightLen ≤ w.size)
            | none => false)
        && (im.prog? m.program).isSome && decide (m.stateKib ≤ 64)
        && (bitsOf 32 m.parts).all (fun p => (im.part? p).isSome)) (lim r)) 0 im.models
    | 9 => do
      fits im.gates.length
      checkAll (fun r g => needs (decide (g.gate < 16) && !(im.gates.take r).any (·.gate == g.gate)
        && (bitsOf 8 g.camMask).all (fun k => decide (k < im.cams.length)) && decide (g.src ≤ 2)
        && (g.src != 0 || decide (g.pres < 8)) && (g.src != 1 || (im.isp? g.pres).isSome)
        && im.queues.any (fun q => q.cls == 1 && q.submit.testBit 2 && q.part != 0xFFFF)) (lim r)) 0 im.gates
    | 10 => do
      fits im.syncs.length
      checkAll (fun r c => needs (decide (c.cell < 4096) && !(im.syncs.take r).any (·.cell == c.cell)
        && (bitsOf 32 c.parts).all (fun p => (im.part? p).isSome)) (lim r)) 0 im.syncs
    | 11 => do
      fits im.rings.length
      checkAll (fun r g => im.checkRing i r g) 0 im.rings
    | _ =>
      match im.datas[d]? with
      | none => .ok ()
      | some x => needs (match im.mem? x.part with
          | some m => decide (x.offset + x.bytes.length ≤ m.size)
          | none => false) (lim 0)) 0 0

/-! ## ROUTES (R221, R222) -/

/-- Steps along one axis from `a` to `b`. -/
def axisSteps (a b : Nat) : List Nat :=
  if a ≤ b then (List.range (b - a)).map (fun k => a + k + 1) else (List.range (a - b)).map (fun k => a - k - 1)

/-- X-then-Y (or Y-then-X) over the grid, the first router included. -/
def gridPath (xFirst : Bool) (a b : Nat) : List Nat :=
  let c := a % 8
  let r := a / 8
  let cb := b % 8
  let rb := b / 8
  if xFirst then
    a :: ((axisSteps c cb).map (fun x => 8 * r + x) ++ (axisSteps r rb).map (fun y => 8 * y + cb))
  else
    a :: ((axisSteps r rb).map (fun y => 8 * y + c) ++ (axisSteps c cb).map (fun x => 8 * rb + x))

/-- The path of R221 from one router to another: none where no candidate is clear. -/
def compilePath (map : List Nat) (a b : Nat) (via : Option Nat) : Option (List Nat) :=
  let clear := fun (p : List Nat) => p.all (fun r => !routerDead map r)
  match via with
  | some v =>
    let p := gridPath true a v ++ (gridPath true v b).tail
    if clear p then some p else none
  | none =>
    if clear (gridPath true a b) then some (gridPath true a b)
    else if clear (gridPath false a b) then some (gridPath false a b)
    else
      ((List.range 64).find? (fun m => !routerDead map m && clear (gridPath true a m)
        && clear (gridPath true m b))).map (fun m => gridPath true a m ++ (gridPath true m b).tail)

/-- A route before it is compiled: as declared, or implied by a record of a section (R221, R497, R569). -/
structure RawRoute where
  route : Option Nat
  src : Nat
  dst : Nat
  vc : Nat
  urgent : Bool
  bw : Nat
  setMask : Nat
  via : Nat
  sect : Nat
  recd : Nat
  deriving DecidableEq, Repr

/-- The endpoint codes of a type that can issue memory traffic. -/
def State.codesOf (s : State) (t : Nat) : List Nat :=
  if t = 2 then [] else (List.range (s.epCount t)).map (fun i => t * 4096 + i)

/-- The implied memory routes of an endpoint. -/
def implied (sect recd mask : Nat) (writer : Bool) (ep : Nat) : List RawRoute :=
  (List.range 4).flatMap (fun c =>
    let mc := 0x2000 + c
    [⟨none, ep, mc, 2, false, 0, mask, 0xFFFF, sect, recd⟩, ⟨none, mc, ep, 1, false, 0, mask, 0xFFFF, sect, recd⟩]
      ++ (if writer then [⟨none, ep, mc, 0, false, 0, mask, 0xFFFF, sect, recd⟩] else []))

/-- Every route of an image, declared ones first; an implied route stands once. -/
def State.allRoutes (s : State) (im : Image) : List RawRoute :=
  let rs := im.sectOf 3
  let decl : List RawRoute := im.routes.zipIdx.map (fun (r, k) =>
    ⟨some r.route, r.src, r.dst, r.vc, r.urgent, r.bw, r.setMask, r.via, rs, k⟩)
  let memR := im.mems.zipIdx.flatMap (fun (m, k) =>
    (bitsOf 16 (m.readers ||| m.writers)).flatMap (fun t =>
      (s.codesOf t).flatMap (implied (im.sectOf 4) k 0xFFFF (m.writers.testBit t))))
  let syncR := (s.codesOf 1 ++ s.codesOf 3 ++ s.codesOf 7 ++ s.codesOf 5).flatMap (fun ep =>
    ([⟨none, ep, 0x2000, 2, false, 0, 0xFFFF, 0xFFFF, rs, 0⟩,
      ⟨none, 0x2000, ep, 1, false, 0, 0xFFFF, 0xFFFF, rs, 0⟩] : List RawRoute))
  let back := (decl.filter (fun r => r.vc == 3 && r.src / 4096 == 1 && r.dst == 0x9000)).map (fun r =>
    { r with route := none, src := r.dst, dst := r.src, urgent := false, bw := 0, via := 0xFFFF })
  let impl := (memR ++ syncR ++ back).foldl (fun (acc : List RawRoute) r =>
    if acc.any (fun x => x.src == r.src && x.dst == r.dst && x.vc == r.vc) then acc else r :: acc) []
  decl ++ impl.reverse

/-- The route sets to compile: those that some SET_MASK names, and set 0, which is in force at commit (R215). -/
def Image.setNums (im : Image) : List Nat :=
  (List.range 16).filter (fun k => k == 0 || im.routes.any (·.setMask.testBit k))

/-- The routes of a set: a declared route replaces the implied one of the same ends and channel (R221). -/
def setRoutes (all : List RawRoute) (k : Nat) : List RawRoute :=
  let mine := all.filter (·.setMask.testBit k)
  mine.filter (fun r => r.route.isSome
    || !mine.any (fun x => x.route.isSome && x.src == r.src && x.dst == r.dst && x.vc == r.vc))

/-- A failure that names a route: its number, or the record that implies it. -/
def routeFail (stage sts : Nat) (r : RawRoute) : ImgFail := ⟨stage, sts, r.route.getD r.recd, r.sect, r.recd⟩

/-- Compiles one route. -/
def State.compileRoute (s : State) (lg : List Nat) (masks : List (Nat × Nat)) (r : RawRoute) :
    Except ImgFail CRoute := do
  let bad := routeFail 7 0x200A r
  let a := s.routersOf lg masks r.src
  let b := s.routersOf lg masks r.dst
  needs (!a.isEmpty && !b.isEmpty && decide (r.vc < 4) && (r.via == 0xFFFF || decide (r.via < s.gills))) bad
  let via := if r.via = 0xFFFF then none else lg[r.via]?
  let ps := a.flatMap (fun x => b.map (fun y => compilePath s.boot.merged x y via))
  needs (ps.all (·.isSome)) bad
  .ok ⟨r.route, r.src, r.dst, r.vc, r.urgent, r.bw, r.via, ps.filterMap id, r.sect, r.recd⟩

/-- The links of a path, in order. -/
def linksOf : List Nat → List (Nat × Nat)
  | a :: b :: l => (a, b) :: linksOf (b :: l)
  | _ => []

/-- The links a compiled route crosses, each once. -/
def CRoute.links (r : CRoute) : List (Nat × Nat) := (r.paths.flatMap linksOf).eraseDups

/-- Bandwidth of every link and the number of routes of a set (R222). -/
def checkBandwidth (rs : List CRoute) : Except ImgFail Unit := do
  checkAll (fun k r => needs (r.links.all (fun l =>
    decide (sumOf ((rs.take (k + 1)).filter (·.links.contains l)) (·.bw) ≤ 61440)))
    ⟨7, 0x200A, r.route.getD r.recd, r.sect, r.recd⟩) 0 rs
  match rs[4096]? with
  | some r => .error ⟨7, 0x2008, r.recd, r.sect, r.recd⟩
  | none => .ok ()

/-- The failure of the first record, in section-table order and then in record order (R214). -/
def firstFail (l : List ImgFail) : Option ImgFail :=
  l.foldl (fun (a : Option ImgFail) f => match a with
    | some g => if f.sect < g.sect ∨ (f.sect = g.sect ∧ f.recd < g.recd) then some f else a
    | none => some f) none

/-- The failure of a check. -/
def failOf {α : Type} (x : Except ImgFail α) : Option ImgFail :=
  match x with
  | .error f => some f
  | .ok _ => none

/-- A check over several things at once: the failure of the first record ends it. -/
def checkEach {α β : Type} (f : α → Except ImgFail β) (l : List α) : Except ImgFail Unit :=
  match firstFail (l.filterMap (fun x => failOf (f x))) with
  | some e => .error e
  | none => .ok ()

/-- Stage ROUTES: every set's compiled routes. -/
def State.compileSets (s : State) (im : Image) : Except ImgFail (List (Nat × List CRoute)) := do
  let lg := logicalGills s.boot.merged s.gills
  let masks := im.parts.map (fun p => (p.part, p.mask))
  let all := s.allRoutes im
  checkEach (s.compileRoute lg masks) (im.setNums.flatMap (setRoutes all))
  let sets ← im.setNums.mapM (fun k => do
    let rs ← (setRoutes all k).mapM (s.compileRoute lg masks)
    .ok (k, rs))
  checkEach (fun x => checkBandwidth x.2) sets
  .ok sets

/-! ## DEPEND (R223) -/

/-- Whether a set has a route between two codes on a channel. -/
def hasRoute (rs : List CRoute) (src dst vc : Nat) (urgent : Bool) : Bool :=
  rs.any (fun r => r.src == src && r.dst == dst && r.vc == vc && (r.urgent || !urgent))

/-- Whether a partition reaches a code: by its own code, or gill by gill. -/
def Image.partReaches (im : Image) (rs : List CRoute) (p dst vc : Nat) (urgent : Bool) : Bool :=
  hasRoute rs (0xC000 + p) dst vc urgent
    || (match im.part? p with
        | some q => (bitsOf 64 q.mask).all (fun g => hasRoute rs (0x1000 + g) dst vc urgent)
        | none => false)

/-- Check 1 for a queue in a set. -/
def Image.queueRoutes (im : Image) (rs : List CRoute) (q : QueueRec) : Bool :=
  let ex := if q.part = 0xFFFF then q.target else 0xC000 + q.part
  (!q.submit.testBit 0 || hasRoute rs 0x5000 ex 3 false)
    && (!q.submit.testBit 1 || rs.any (fun r => (r.src / 4096 == 1 || r.src / 4096 == 12) && r.dst == ex && r.vc == 3))
    && (!q.submit.testBit 2 || hasRoute rs 0x6000 ex 3 false)
    && (q.part == 0xFFFF || q.target == 0 || q.target == 0xFFFF || im.partReaches rs q.part q.target 3 false)
    && (q.part == 0xFFFF || 2 ≤ q.cls || im.partReaches rs q.part 0x6000 3 true)

/-- The wait opcodes of a program's code, by the encoding of R405 and R425, as opcode and cell. -/
def ProgRec.waitOps (p : ProgRec) : List (Nat × Nat) :=
  (List.range p.bundles).filterMap (fun k =>
    let w := leAt p.code (128 * k + 104) 8
    let op := w / 2 ^ 56
    if op = 2 ∨ op = 3 ∨ op = 4 then some (op, w / 2 ^ 20 % 4096) else none)

/-- The cells a program waits on without a timeout. -/
def ProgRec.untimed (p : ProgRec) : List Nat :=
  ((p.waitOps.filter (·.1 == 2)).map (·.2) ++ (p.waits.filter (!·.2)).map (·.1)).eraseDups

/-- Whether directed edges form a cycle: `n` rounds of taking away nodes that no remaining edge enters. -/
def acyclic {α : Type} [BEq α] : Nat → List (α × α) → Bool
  | 0, es => es.isEmpty
  | n + 1, es =>
    if es.isEmpty then true
    else
      let es' := es.filter (fun e => es.any (fun f => f.2 == e.1))
      if es'.length = es.length then false else acyclic n es'

/-- The edges that remain where no more can be taken away. -/
def cyclePart {α : Type} [BEq α] : Nat → List (α × α) → List (α × α)
  | 0, es => es
  | n + 1, es => cyclePart n (es.filter (fun e => es.any (fun f => f.2 == e.1)))

/-- The link dependencies of a path. -/
def depsOf (p : List Nat) : List ((Nat × Nat) × (Nat × Nat)) := (linksOf p).zip (linksOf p).tail

/-- Check 1 for one set: the routes that declared objects need. -/
def Image.checkNeeds (im : Image) (rs : List CRoute) : Except ImgFail Unit :=
  im.names |> Image.eachSect (fun ty i _ =>
    let bad := fun r => (⟨8, 0x200A, r, i, r⟩ : ImgFail)
    match ty with
    | 5 => checkAll (fun r p => needs ((List.range 4).all (fun c =>
        hasRoute rs (0x3000 + p.pipe) (0x2000 + c) 0 false)) (bad r)) 0 im.isps
    | 6 => checkAll (fun r c => needs (rs.any (fun x => x.src == 0x4000 + c.port && x.dst == 0x3000 + c.pipe))
        (bad r)) 0 im.cams
    | 7 => checkAll (fun r q => needs (im.queueRoutes rs q) (bad r)) 0 im.queues
    | _ => .ok ()) 0 0

/-- Check 2 for one route: channel 1 and memory responses go together. -/
def checkResponse (r : CRoute) : Except ImgFail Unit :=
  needs ((r.src / 4096 == 2) == (r.vc == 1)) ⟨8, 0x200A, r.route.getD r.recd, r.sect, r.recd⟩

/-- Check 3 for one set: no cycle of link dependencies on a channel. -/
def checkCycles (rs : List CRoute) : Except ImgFail Unit :=
  checkAll (fun _ vc =>
    let mine := rs.filter (·.vc == vc)
    let es := (mine.flatMap (fun r => r.paths.flatMap depsOf)).eraseDups
    if acyclic 512 es then .ok ()
    else
      let cyc := cyclePart 512 es
      match mine.find? (fun r => r.paths.any (fun p => (depsOf p).any cyc.contains)) with
      | some r => .error ⟨8, 0x200B, 3 * 4096 + r.route.getD r.recd % 4096, r.sect, r.recd⟩
      | none => .ok ()) 0 (List.range 4)

/-- Check 4 for one route: an URGENT one is in every set, the same. -/
def checkUrgent (sets : List (Nat × List CRoute)) (r : CRoute) : Except ImgFail Unit :=
  needs (!r.urgent || sets.all (fun x => x.2.any (fun y => y.urgent && y.src == r.src
    && y.dst == r.dst && y.vc == r.vc && y.via == r.via)))
    ⟨8, 0x200A, r.route.getD r.recd, r.sect, r.recd⟩

/-- The most urgent class a partition executes; 4 for none. -/
def Image.bestClass (im : Image) (p : Nat) : Nat := (im.classes p).headD 4

/-- Stage DEPEND. -/
def Image.checkDepend (im : Image) (sets : List (Nat × List CRoute)) : Except ImgFail Unit := do
  checkEach (fun x => im.checkNeeds x.2) sets
  checkEach checkResponse (sets.flatMap (·.2))
  checkEach (fun x => checkCycles x.2) sets
  checkEach (checkUrgent sets) (sets.flatMap (·.2))
  let sp := im.sectOf 2
  checkAll (fun r p => needs (p.waitOps.all (fun w => p.waits.any (fun x => x.1 == w.2 && (w.1 == 2 || x.2))
    && (im.sync? w.2).isSome)) ⟨8, 0x200B, 5 * 4096 + p.prog % 4096, sp, r⟩) 0 im.progs
  checkAll (fun r p => checkAll (fun _ c => needs (match im.sync? c with
      | some y => y.parts != 0 || y.units != 0
      | none => false) ⟨8, 0x200B, 6 * 4096 + c % 4096, sp, r⟩) 0 p.untimed) 0 im.progs
  let waits := fun (p : Nat) => ((im.progsOn p).flatMap (·.untimed)).eraseDups
  let edges := (im.parts.flatMap (fun p => (waits p.part).flatMap (fun c =>
    match im.sync? c with
    | some y => (bitsOf 32 y.parts).map (fun b => (p.part, b))
    | none => []))).eraseDups
  let cyc := cyclePart 32 edges
  checkAll (fun r p => needs (acyclic 32 edges || !cyc.any (·.1 == p.part))
    ⟨8, 0x200B, 7 * 4096 + p.part, im.sectOf 1, r⟩) 0 im.parts
  checkAll (fun r q => needs (q.part == 0xFFFF || decide (2 ≤ q.cls) || (waits q.part).all (fun c =>
    match im.sync? c with
    | some y => (bitsOf 32 y.parts).all (fun b => decide (im.bestClass b ≤ q.cls))
    | none => true)) ⟨8, 0x200B, 8 * 4096 + q.queue % 4096, im.sectOf 7, r⟩) 0 im.queues

/-! ## The stages of R214 -/

/-- Stages HEADER to DIGEST on the copied bytes. -/
def State.checkFront (s : State) (b : List Byte) : Except ImgFail Image := do
  match headerBad b with
  | some (o, i) => .error ⟨2, 0x2001, o, i, 0⟩
  | none =>
    let im := readImage b
    let v := s.fld R.SYS_ID_VARIANT
    let bit := if v = 0x40 then 0 else if v = 0x24 then 1 else 2
    needs (im.variants.testBit bit) ⟨2, 0x2006, 0, 0, 0⟩
    needs (decide (im.minSup ≤ (s.rd R.SYS_SUP_VER).toNat)) ⟨2, 0x2007, 0, 0, 0⟩
    needs (decide (im.minTile ≤ (s.rd R.SYS_TILE_VER).toNat)) ⟨2, 0x2007, 1, 0, 0⟩
    let tr := slice b (im.total - 128) 128
    let key := tr.take 64
    needs (match s.img.keys.getD im.keySlot none with
      | some d => d == sha256 key
      | none => false) ⟨3, 0x2002, im.keySlot, 0, 0⟩
    needs (ecdsaVerify key im.digest (tr.drop 64)) ⟨3, 0x2002, im.keySlot, 0, 0⟩
    needs (decide (s.img.minSec ≤ im.secVer)) ⟨3, 0x2003, 0, 0, 0⟩
    checkAll (fun i e => needs (sha256 (sectBytes b e) == e.digest) ⟨4, 0x2005, i, i, 0⟩) 0 (readTable b)
    .ok im

/-- Stages UNITS to DEPEND: the image with its compiled routes. -/
def State.checkBack (s : State) (im : Image) : Except ImgFail Image := do
  s.checkUnits im
  s.checkResources im
  let sets ← s.compileSets im
  im.checkDepend sets
  .ok { im with sets := sets }

end Sys2Proof.Machine
end

