-- ==== Sys2Proof/Machine/Journal.lean ====
section
/-! DEFINITION. Journal: the journal engine and the flash port (chapter 19): record layout, the energy check,
page programs, erases, the hold-up sequence and replay. -/

namespace Sys2Proof.Machine

/-! ## Layout of the ring (R705, R706) -/

def ringBase : Nat := 0x0A100000
def ringSubs : Nat := 24320
def ringPages : Nat := 389120

/-- The bytes of a record (R706). -/
def JRec.layout (r : JRec) : List Byte :=
  let pre := leBytes 2 0x5A4A ++ leBytes 1 r.ty ++ leBytes 1 r.len ++ leBytes 4 r.jseq
    ++ leBytes 8 r.mono ++ leBytes 4 r.start
  let body := slice r.body 0 (32 * r.len - 24)
  pre ++ leBytes 4 (crc32 (pre ++ leBytes 4 0 ++ body)) ++ body

/-- The bytes of a page that holds records; unused bytes stay erased. -/
def pageBytes (l : List JRec) : List Byte :=
  let b := l.flatMap JRec.layout
  b ++ List.replicate (256 - b.length) 0xFF

/-- The whole records that fit a page with `room` bytes left, in order. -/
def pageTake : Nat → List JRec → List JRec
  | _, [] => []
  | room, r :: l => if 32 * r.len ≤ room then r :: pageTake (room - 32 * r.len) l else []

/-- Cuts records into pages, at most `n`. -/
def pagesOf : Nat → List JRec → List (List JRec)
  | 0, _ => []
  | _, [] => []
  | n + 1, l =>
    let p := pageTake 256 l
    p :: pagesOf n (l.drop p.length)

/-- Reads the record at the front of bytes: none where MAGIC, LEN or CRC is wrong (R718). -/
def readRec (b : List Byte) : Option JRec :=
  let len := leAt b 3 1
  let all := b.take (32 * len)
  if leAt b 0 2 = 0x5A4A ∧ 1 ≤ len ∧ len ≤ 8 ∧ 32 * len ≤ b.length
      ∧ crc32 (all.take 20 ++ leBytes 4 0 ++ all.drop 24) = leAt b 20 4 then
    some ⟨leAt b 2 1, len, leAt b 4 4, leAt b 8 8, leAt b 16 4, all.drop 24⟩
  else none

/-- The records of a page and the number skipped as wrong; a part that reads erased ends it. -/
def readPage : Nat → List Byte → List JRec × Nat
  | 0, _ => ([], 0)
  | n + 1, b =>
    if b = [] ∨ leAt b 0 2 = 0xFFFF then ([], 0)
    else match readRec b with
      | some r => let t := readPage n (b.drop (32 * r.len)); (r :: t.1, t.2)
      | none => let t := readPage n (b.drop 32); (t.1, t.2 + 1)

/-- The records of the ring, in page order, each with its page. -/
def ringRecs (p : Sparse (List Byte)) : List (Nat × JRec) :=
  p.flatMap (fun e => (readPage 8 e.2).1.map (fun r => (e.1, r)))

/-! ## The energy check and deferral (R709, R710) -/

/-- The reserve of the check: 0 in HOLDUP. -/
def State.reserve (s : State) : Nat :=
  if s.pmode = 4 then 0 else s.fld R.JRN_CFG_RESERVE_MJ

/-- E_MJ covers an operation's cost and the reserve. [Log 66 DESIGN CHOICE] -/
def State.energyOk (s : State) (cost : Nat) : Bool :=
  decide (cost + s.reserve ≤ s.fld R.PWR_HOLDUP_E_MJ)

/-- An operation fails the check: it is deferred, counted, and reported once for each run (R710). -/
def State.deferOp (s : State) (region : Nat) : State :=
  let s := (s.setB R.JRN_STATUS_DEFERRED true).inc R.JRN_CNT_DEFER_COUNT
  if s.jrn.deferring then s
  else
    let s := { s with jrn := { s.jrn with deferring := true, deferLong := false, deferAt := s.now } }
    s.report R.JRN_STATUS_LAST_STS 0xE001 region

/-- The run of deferrals ends. -/
def State.deferEnd (s : State) : State :=
  { s.setB R.JRN_STATUS_DEFERRED false with
    jrn := { s.jrn with deferring := false, deferLong := false } }

/-- The row of R705 in which an object stands. -/
def regionOf (object : Nat) : Nat := [5, 0, 0, 1, 2, 3, 4].getD object 5

/-- Stages a STORE record for an object's copy. [Log 65 DESIGN CHOICE] -/
def State.stageStore (s : State) (object copy seq : Nat) (mark : List Byte) : State :=
  s.stage 8 2 ([BitVec.ofNat 8 object, BitVec.ofNat 8 copy] ++ leBytes 4 seq ++ slice mark 0 16)

/-- A write to flash passes: the supervisor has started (R190), and the energy check allows it. -/
def State.flashOpen (s : State) : Bool := s.boot.supStarted && s.energyOk 15

/-- Writes of the boot configuration block at the head of the port are carried out (R201); their CRC is a free value. -/
def State.cfgStores : Nat → State → State
  | 0, s => s
  | n + 1, s => match s.jrn.reqs with
    | r :: l =>
      if r.object = 1 ∧ s.flashOpen then
        let (v, s) := s.fresh
        State.cfgStores n ({ s with jrn.reqs := l, boot.cfgBlock := some r.value }.stageStore 1 0 0 (leBytes 4 v))
      else s
    | [] => s

/-- Asks the flash port for a write of an object (R705): requests keep their order; one that fails the check is deferred, and
before the supervisor starts all wait (R190). -/
def State.flashAsk (s : State) (object : Nat) (value : Nat := 0) : State :=
  let s := { s with jrn := { s.jrn with reqs := s.jrn.reqs ++ [⟨object, value⟩] } }
  if !s.boot.supStarted then s
  else if s.energyOk 15 ∧ !s.jrn.deferring then State.cfgStores s.jrn.reqs.length s
  else s.deferOp (regionOf object)

/-- The supervisor has started: the requests that wait are carried out, or deferred (R190, R710). -/
def State.reqsOpen (s : State) : State :=
  match s.jrn.reqs with
  | [] => s
  | r :: _ => if s.energyOk 15 then State.cfgStores s.jrn.reqs.length s else s.deferOp (regionOf r.object)

/-- Whether the flash port can carry out the write of an object now: it is the oldest request and passes the check. -/
def State.flashReady (s : State) (object : Nat) : Bool :=
  (match s.jrn.reqs with
   | r :: _ => r.object == object
   | [] => false) && s.flashOpen

/-- The oldest request leaves the port. -/
def State.flashDone (s : State) : State :=
  let s := if s.jrn.deferring then s.deferEnd else s
  let s := { s with jrn := { s.jrn with reqs := s.jrn.reqs.tail } }
  State.cfgStores s.jrn.reqs.length s

/-! ## Pages and erases (R708, R711, R720) -/

/-- Refreshes the registers that mirror the engine. -/
def State.jrnRegs (s : State) : State :=
  let s := s.setF R.JRN_WRPTR_OFS (ringBase + 256 * s.jrn.wr)
  let s := s.setF R.JRN_OLDEST_OFS (ringBase + 4096 * s.jrn.oldest)
  let s := s.setF R.JRN_RUNWAY_PAGES (min s.jrn.runway 65535)
  let s := s.setF R.JRN_SEQ_JSEQ s.jrn.jseq
  s.setF R.JRN_START_CNT_COUNT s.jrn.startCnt

/-- The page after those of subsectors that have failed to erase, which are skipped (R720). -/
def skipSpoiled (spoiled : List Nat) : Nat → Nat → Nat
  | 0, p => p
  | n + 1, p => if spoiled.contains (p / 16) then skipSpoiled spoiled n ((p / 16 + 1) % ringSubs * 16) else p

/-- Programs the page at the write pointer with records; a page whose read-back differs is left as it is
and reported (R720). -/
def State.putPage (s : State) (recs : List JRec) (ok : Bool) : State :=
  let at_ := s.jrn.wr
  let s := { s with jrn := { s.jrn with
    pages := Sparse.insert s.jrn.pages at_ (if ok then pageBytes recs else [])
    wr := skipSpoiled s.jrn.spoiled s.jrn.spoiled.length ((at_ + 1) % ringPages), runway := s.jrn.runway - 1 } }
  let s := (s.inc R.JRN_CNT_PAGES_COUNT).jrnRegs
  if ok then s
  else
    (s.inc R.JRN_CNT_FLASH_FAIL_COUNT).report R.JRN_STATUS_LAST_STS 0xE007
      ((ringBase + 256 * at_) / 4096 % 65536)

/-- Once a page's worth of staging is free again, the run of drops is told in one DROP record (R712). -/
def State.dropRecord (s : State) : State :=
  if s.jrn.stageDrop ≠ 0 ∧ s.staged + 256 ≤ stageSize - stageKept then
    let body := leBytes 4 s.jrn.stageDrop ++ leBytes 2 s.jrn.dropFirst ++ [0, 0]
    let s := { s with jrn := { s.jrn with stageDrop := 0 } }
    s.stage 9 1 body
  else s

/-- The records of the page buffer, and whether it is full: the next record does not fit. -/
def State.pageReady (s : State) : List JRec × Bool :=
  let p := pageTake 256 s.jrn.staging
  (p, recBytes p == 256 || decide (p.length < s.jrn.staging.length))

/-- Programs the page buffer, if the flash port, the check and the runway let it. -/
def State.programNow (s : State) (ok : Bool) : State :=
  let p := s.pageReady.1
  if p = [] ∨ s.jrn.flashOff then s
  else if s.jrn.reqs ≠ [] ∧ s.jrn.deferring then { s with jrn := { s.jrn with flushWait := true } }
  else if s.jrn.runway ≤ 65 ∧ s.pmode ≠ 4 then
    if s.jrn.runwayLow then s
    else
      let s := { s with jrn := { s.jrn with runwayLow := true } }
      s.report R.JRN_STATUS_LAST_STS 0xE004 s.jrn.runway
  else if !s.energyOk 15 then
    { s.deferOp 5 with jrn := { (s.deferOp 5).jrn with flushWait := true } }
  else
    let s := { s with jrn := { s.jrn with flushWait := false } }
    let s := if s.jrn.deferring then s.deferEnd else s
    let s := if ok then { s with jrn := { s.jrn with staging := s.jrn.staging.drop p.length } } else s
    let s := (s.putPage p ok).dropRecord
    s.setF R.JRN_STAGE_BYTES s.staged

/-- Removes the pages of a subsector. -/
def dropSub (p : Sparse (List Byte)) (sub : Nat) : Sparse (List Byte) :=
  p.filter (fun e => !(e.1 / 16 == sub))

/-- Erases the oldest subsector of the ring when the runway is below 128 pages (R711); one that fails to
erase is skipped until the next start and reported (R720). -/
def State.eraseOldest (s : State) (ok : Bool) : State :=
  if 128 ≤ s.jrn.runway ∨ s.jrn.flashOff then s
  else if !s.energyOk 1 then s.deferOp 5
  else
    let s := if s.jrn.deferring then s.deferEnd else s
    let sub := s.jrn.oldest
    let s := { s with jrn := { s.jrn with
      pages := dropSub s.jrn.pages sub, oldest := (sub + 1) % ringSubs } }
    let s := s.inc R.JRN_CNT_ERASES_COUNT
    if ok then
      let s := { s with jrn := { s.jrn with
        runway := s.jrn.runway + 16,
        spoiled := s.jrn.spoiled.filter (· != sub) } }
      let s := if 65 < s.jrn.runway then { s with jrn := { s.jrn with runwayLow := false } } else s
      s.jrnRegs
    else
      let s := { s with jrn := { s.jrn with spoiled := sub :: s.jrn.spoiled } }
      ((s.inc R.JRN_CNT_FLASH_FAIL_COUNT).report R.JRN_STATUS_LAST_STS 0xE007
        ((ringBase + 4096 * sub) / 4096 % 65536)).jrnRegs

/-! ## Records the supervisor and the engine make (R707, R713, R714) -/

/-- Adds to a lifetime total (R714). -/
def State.total (s : State) (k : Nat) (n : Nat := 1) : State := s.inc (R.JRN_TOT_TOTAL k) n

/-- The body of a COUNTERS record. -/
def State.countersBody (s : State) : List Byte :=
  (List.range 16).flatMap (fun k => leBytes 4 (s.fld (R.JRN_TOT_TOTAL k)))

/-- The body of an EJECT_TAIL record (its LEN is the entries plus 1): entries of 32 bytes, the first one's TAIL number. -/
def tailBody (first : Nat) (entries : List (List Byte)) : List Byte :=
  leBytes 2 entries.length ++ [0, 0] ++ leBytes 4 first ++ entries.flatten

/-- The 32 bytes of a register array of eight words. -/
def State.words8 (s : State) (r : Nat → Fld) : List Byte :=
  (List.range 8).flatMap (fun k => leBytes 4 (s.fld (r k)))

/-- Stages a DIGESTS record: image digest, map digest and run fingerprint. -/
def State.stageDigests (s : State) : State :=
  s.stage 4 4 (s.words8 R.BOOT_IMG_DIGEST_DIGEST ++ s.words8 R.BOOT_MAP_DIGEST_DIGEST
    ++ s.words8 R.SYS_REPRO_DIGEST_DIGEST)

/-- Stages a START record. -/
def State.stageStart (s : State) : State :=
  s.stage 5 2 ([BitVec.ofNat 8 s.boot.warm.toNat, BitVec.ofNat 8 s.bootState]
    ++ leBytes 2 (s.fld R.SYS_START_MS_START_MS) ++ leBytes 4 (s.rd R.SYS_CAP_UNITS).toNat
    ++ leBytes 4 (s.rd R.SYS_SUP_VER).toNat ++ leBytes 4 (s.rd R.SYS_TILE_VER).toNat
    ++ leBytes 4 (s.rd R.SYS_SERIAL_LO).toNat ++ leBytes 4 (s.rd R.SYS_SERIAL_HI).toNat)

/-- Makes a record that goes to flash without staging (R716): numbered and stamped now. -/
def State.makeRec (s : State) (ty len : Nat) (body : List Byte) : JRec × State :=
  (⟨ty, len, s.jrn.jseq, s.time.mono, s.jrn.startCnt, body⟩,
   { s with jrn := { s.jrn with jseq := s.jrn.jseq + 1 } })

/-- Programs pages in order, each only if E_MJ covers it; the facts of the pages run out with the energy.
A page that fails its read-back is written again as a further page (R716, R719, R720). The count is of the
pages written. -/
def State.programSeq (need : Nat) : List PageFact → State → List (List JRec) → Nat → State × Nat
  | [], s, _, n => (s, n)
  | _ :: _, s, [], n => (s, n)
  | f :: fs, s, p :: ps, n =>
    if f.emj < need then (s, n)
    else
      let s := (s.setF R.PWR_HOLDUP_E_MJ f.emj).putPage p f.ok
      State.programSeq need fs s (if f.ok then ps else ps ++ [p]) (n + 1)

end Sys2Proof.Machine
end

