-- ==== Sys2Proof/Machine/Memory.lean ====
section
/-! DEFINITION. Memory: translation, transactions by 64-byte blocks, ECC, the fault queue, the host window and
the sync cells (R473 to R488, R497 to R502, R508 to R515, R650, R651). -/

namespace Sys2Proof.Machine

/-! ## Failures (R487, R502, R511, R514) -/

/-- The status of a failure reason (R487). -/
def reasonSts (r : Nat) : Nat :=
  [0, 0x8001, 0x8002, 0x8003, 0x8004, 0x8006, 0x7109, 0x8106, 0x8105, 0x8302].getD r 0

/-- The channel that serves a physical address (R474). -/
def chanOf (pa : Nat) : Nat := pa / 256 % 4

/-- Appends a fault record; one that finds the queue full is discarded and counted (R511, R515). -/
def State.faultRecord (s : State) (va src reason acc tag ctx : Nat) : State :=
  let r := leBytes 8 va ++ leBytes 2 src ++ leBytes 1 reason ++ leBytes 1 acc ++ leBytes 4 tag
    ++ leBytes 8 s.time.mono ++ leBytes 2 (reasonSts reason) ++ leBytes 1 ctx ++ [0] ++ leBytes 4 s.mmu.fseq
  let s := { s with mmu.fseq := s.mmu.fseq + 1 }
  if 64 ≤ s.mmu.fq.length then
    let s := s.inc R.MMU_FQ_LOST_COUNT
    if s.mmu.losing then s
    else { s with mmu.losing := true }.report R.MMU_STATUS_LAST_STS 0x8007 0
  else
    let s := { s with mmu.fq := s.mmu.fq ++ [r], mmu.losing := false }
    s.setF R.MMU_STATUS_FQ_COUNT s.mmu.fq.length

/-- A transaction of a source fails: it is reported and recorded. `pa` is the physical address for reasons 5
and 9; access is 0 read, 1 write, 2 walk. -/
def State.txFail (s : State) (reason src ctx va pa acc tag : Nat) : State :=
  let s := s.inc R.MMU_CNT_FAULTS_COUNT
  let s := match reason with
    | 1 => s.reportLimited R.MMU_STATUS_LAST_STS 0x8001 (fun _ => src) src
    | 2 => s.reportLimited R.MMU_STATUS_LAST_STS 0x8002 (fun _ => src) src
    | 3 => s.reportLimited R.MMU_STATUS_LAST_STS 0x8003 (fun _ => src) src
    | 4 => s.report R.MMU_STATUS_LAST_STS 0x8004 (chanOf pa)
    | 5 => s.report R.MMU_STATUS_LAST_STS 0x8006 (chanOf pa)
    | _ => s
  if reason ≤ 5 ∨ reason = 9 then
    s.faultRecord (if reason = 5 ∨ reason = 9 then pa else va) src reason acc tag ctx
  else s

/-! ## Translation (R475 to R477, R486, R647, R650) -/

/-- The bytes of the host window that are open. -/
def State.hwinBytes (s : State) : Nat :=
  if s.bit R.MBX_HWIN_CTRL_EN && s.bit R.MBX_HSTATUS_BME then s.fld R.MBX_HWIN_SIZE_SIZE * 2 ^ 21 else 0

/-- A physical address in the host window's range (R474). -/
def inHostWin (pa : Nat) : Bool := decide (2 ^ 38 ≤ pa) && decide (pa < 2 ^ 39)

/-- A context's mapping of a VA: the physical address and the right to write; every mapping may be read. -/
def State.mapOf (s : State) (maps : List MapOver) (ctx va : Nat) : Option (Nat × Bool) :=
  match maps.find? (fun o => o.ctx == ctx && decide (o.base ≤ va) && decide (va < o.base + o.size)) with
  | some o => if o.valid then some (o.pa + (va - o.base), o.w) else none
  | none =>
    if ctx = 13 then (if va < s.memBytes then some (va, true) else none)
    else if ctx = 7 ∧ inHostWin va then (if va - 2 ^ 38 < s.hwinBytes then some (va, true) else none)
    else match s.img.active with
      | none => none
      | some im =>
        match im.mems.find? (fun m => decide (m.base ≤ va) && decide (va < m.base + m.size)
            && ((m.readers ||| m.writers).testBit ctx || (ctx == 5 && m.hostVis))) with
        | some m => some (va, m.writers.testBit ctx)
        | none => none

/-- Translates a VA of a context: the physical address, or the failure reason. While a change of its page is
in progress the old or the new mapping may serve, by a free value (R488). -/
def State.xlate (s : State) (ctx va : Nat) (write : Bool) : Except Nat Nat × State :=
  let hit := s.mmu.op.any (fun o => o.ctx == ctx && decide (o.base ≤ va) && decide (va < o.base + o.size))
  let (k, s) := if hit then s.fresh else (0, s)
  let maps := if hit && k % 2 == 1 then s.mmu.op ++ s.mmu.remap else s.mmu.remap
  let r : Except Nat Nat :=
    if 2 ^ 39 ≤ va then .error 3
    else if ctx = 7 ∧ inHostWin va ∧ s.hwinBytes ≤ va - 2 ^ 38 then .error 3
    else match s.mapOf maps ctx va with
      | none => .error 1
      | some (pa, w) =>
        if write && !w then .error 2
        else if pa < s.memBytes ∨ inHostWin pa then .ok pa else .error 3
  (r, s)

/-- Misses of up to `n` translations, each walked by the MMU: how many missed is a free value, since the
spec gives the caches no replacement rule (R486). -/
def State.walks (s : State) (n : Nat) : State :=
  let (k, s) := s.fresh
  s.inc R.MMU_CNT_WALKS_COUNT (k % (n + 1))

/-! ## The host window (R650, R651) -/

/-- A host-window access fails: 1 timeout, 2 Unsupported Request, 3 Completer Abort, 4 disabled. -/
def State.hwinFault (s : State) (cause : Nat) : State :=
  (s.inc R.MBX_CNT_HWIN_FAULT_COUNT).reportLimited R.MBX_HSTATUS_LAST_STS 0xC008 (fun _ => cause) 0

/-- The byte the host's memory returns at a bus address: what the host last answered there, or a free
value. -/
def State.hostByte (s : State) (a : Nat) : Byte :=
  match s.mbx.hostMem.find? (fun p => p.1 == a) with
  | some p => p.2
  | none => Config.hostData s.free a

/-- The host bus address of a physical address in the window. -/
def State.hostBus (s : State) (pa : Nat) : Nat :=
  s.pair R.MBX_HWIN_BASE_LO_HWIN_BASE_LO R.MBX_HWIN_BASE_HI_HWIN_BASE_HI + (pa - 2 ^ 38)

/-! ## Transactions (R479, R480, R485) -/

/-- Bytes at a physical address, of memory or of the host window. -/
def State.physRead (s : State) (pa n : Nat) : List Byte :=
  if inHostWin pa then (List.range n).map (fun k => s.hostByte (s.hostBus pa + k)) else s.bytes pa n

/-- Writes bytes at a physical address. A full 64-byte write stores fresh check bits. -/
def State.physWrite (s : State) (pa : Nat) (b : List Byte) : State :=
  let s := s.setBytes pa b
  if b.length = 64 ∧ pa % 64 = 0 then
    { s with
      mmu.bad := s.mmu.bad.filter (fun k => !(k / 2 == pa / 64))
      mmu.weak := s.mmu.weak.filter (fun k => !(k / 2 == pa / 64)) }
  else s

/-- The ECC outcome of a read of a piece of a block (R485): a corrected error is counted and reported, an
uncorrectable one is latched, and fails the read. -/
def State.eccRead (s : State) (pa n : Nat) : Bool × State :=
  if inHostWin pa then (true, s)
  else
    let c := chanOf pa
    let hit := fun (l : List Nat) => l.any (fun k => decide (32 * k < pa + n) && decide (pa < 32 * k + 32))
    let s := if hit s.mmu.weak then
        ((s.inc (R.MEM_CH_CNT_CORR_COUNT c)).total 13).reportLimited R.MMU_STATUS_LAST_STS 0x8005 (fun _ => c) c
      else s
    if hit s.mmu.bad then
      let s := (s.inc (R.MEM_CH_CNT_UNCORR_COUNT c)).total 14
      let out := s.fld R.MEM_ECC_STATUS_UNCORR_OUT
      let s := if out.testBit c then s
        else
          let s := s.setF R.MEM_ECC_STATUS_UNCORR_OUT (out ||| 2 ^ c)
          let s := s.setPair (R.MEM_CH_UNCORR_LO_ADDR c) (R.MEM_CH_UNCORR_HI_ADDR c) pa
          if out = 0 then s.report R.MESH_PROG_STATUS_LAST_STS 0x9202 c else s
      (false, s)
    else (true, s)

/-- A failed transaction: its reason, and the VA of its block's piece. -/
structure TxErr where
  reason : Nat
  va : Nat
  deriving DecidableEq, Repr

/-- The length of the first piece of a range, up to the next 64-byte boundary. -/
def pieceLen (va n : Nat) : Nat := min n (64 - va % 64)

/-- One read transaction of a piece of one block. -/
def State.readPiece (s : State) (src ctx va n tag : Nat) : Except TxErr (List Byte) × State :=
  match s.xlate ctx va false with
  | (.error r, s) =>
    let s := if inHostWin va && ctx == 7 && r == 3 then s.hwinFault 4 else s
    (.error ⟨r, va⟩, s.txFail r src ctx va 0 0 tag)
  | (.ok pa, s) =>
    if inHostWin pa ∧ s.mbx.hwFail.isSome then
      let s := { s with mbx.hwFail := none }.hwinFault (s.mbx.hwFail.getD 1)
      (.error ⟨3, va⟩, s.txFail 3 src ctx va 0 0 tag)
    else match s.eccRead pa n with
    | (true, s) => (.ok (s.physRead pa n), s)
    | (false, s) => (.error ⟨5, va⟩, s.txFail 5 src ctx va pa 0 tag)

/-- One write transaction of a piece of one block. -/
def State.writePiece (s : State) (src ctx va tag : Nat) (b : List Byte) : Option TxErr × State :=
  match s.xlate ctx va true with
  | (.error r, s) =>
    let s := if inHostWin va && ctx == 7 && r == 3 then s.hwinFault 4 else s
    (some ⟨r, va⟩, s.txFail r src ctx va 0 1 tag)
  | (.ok pa, s) => (none, if inHostWin pa then
      { s with mbx.hwPosted := s.mbx.hwPosted ++ [(⟨src, pa, s.hostBus pa, b, s.now⟩ : HwWrite)] } else s.physWrite pa b)

/-- Reads a range piece by piece, until one fails; `fuel` bounds the pieces. -/
def State.readLoop (src ctx tag : Nat) : Nat → State → Nat → Nat → List Byte → Except TxErr (List Byte) × State
  | 0, s, _, _, acc => (.ok acc, s)
  | fuel + 1, s, va, n, acc =>
    if n = 0 then (.ok acc, s)
    else
      let k := pieceLen va n
      match s.readPiece src ctx va k tag with
      | (.error e, s) => (.error e, s)
      | (.ok b, s) => State.readLoop src ctx tag fuel s (va + k) (n - k) (acc ++ b)

/-- Reads `n` bytes at a VA in a context. [Log 55 DESIGN CHOICE] -/
def State.vread (s : State) (src ctx va n : Nat) (tag : Nat := 0) : Except TxErr (List Byte) × State :=
  let p := n / 64 + 2
  State.readLoop src ctx tag p (s.walks p) va n []

/-- Writes a range piece by piece, until one fails. -/
def State.writeLoop (src ctx tag : Nat) : Nat → State → Nat → List Byte → Option TxErr × State
  | 0, s, _, _ => (none, s)
  | fuel + 1, s, va, b =>
    if b = [] then (none, s)
    else
      let k := pieceLen va b.length
      match s.writePiece src ctx va tag (b.take k) with
      | (some e, s) => (some e, s)
      | (none, s) => State.writeLoop src ctx tag fuel s (va + k) (b.drop k)

/-- Writes bytes at a VA in a context; the first failure. [Log 55 DESIGN CHOICE] -/
def State.vwrite (s : State) (src ctx va : Nat) (b : List Byte) (tag : Nat := 0) : Option TxErr × State :=
  let p := b.length / 64 + 2
  State.writeLoop src ctx tag p (s.walks p) va b

/-! ## Refresh and calibration (R482, R483) -/

/-- The refresh interval of a channel in nanoseconds, by REF_MODE and the temperature range, and the delay a refresh may
add (R482, R483). -/
def State.refreshNs (s : State) (chan : Nat) : Nat × Nat :=
  let t := min (s.fld (R.MEM_CH_STATUS_TEMP chan)) 2
  if s.bit R.MEM_CFG_REF_MODE then (3906 / 2 ^ t, 300) else (244 / 2 ^ t, 150)

/-- Whether an event of a channel is due: the interval since the last has passed, and the channel is not in self-refresh. -/
def State.memDue (s : State) (chan : Nat) (last : List Nat) (ns : Nat) : Bool :=
  !s.bit (R.MEM_CH_STATUS_SELF_REFRESH chan) && decide (last.getD chan 0 + ns ≤ s.now)

/-- A refresh of a channel, delaying the transactions that meet it by up to `ns`. -/
def State.refresh (s : State) (chan ns : Nat) : State :=
  if !s.memDue chan s.mmu.lastRef (s.refreshNs chan).1 then s
  else
    let s := s.raise (R.MEM_CH_REF_MAX_NS chan) (min ns (s.refreshNs chan).2)
    { s with mmu.lastRef := setAt s.mmu.lastRef chan s.now }

/-- A ZQ calibration latch of a channel, each 128 ms. -/
def State.zqCal (s : State) (chan : Nat) : State :=
  if !s.memDue chan s.mmu.lastZq 128000000 then s
  else { s with mmu.lastZq := setAt s.mmu.lastZq chan s.now }

/-- A read of MR4, each 16 ms, gives a channel's temperature range; every change is reported. -/
def State.mr4 (s : State) (chan range : Nat) : State :=
  if !s.memDue chan s.mmu.lastMr4 16000000 then s
  else
    let s := { s with mmu.lastMr4 := setAt s.mmu.lastMr4 chan s.now }
    if s.fld (R.MEM_CH_STATUS_TEMP chan) == range then s
    else (s.setF (R.MEM_CH_STATUS_TEMP chan) range).report R.MMU_STATUS_LAST_STS 0x8301 (chan * 256 + range)

/-! ## Run-time MMU changes (R488, R510) -/

/-- The reason an MMU change is refused, 0 for none: of several, the one that the rule lists first.
[Log 55 DESIGN CHOICE] -/
def State.mmuRefusal (s : State) (op va pa ctxs : Nat) : Nat :=
  match s.img.active.bind (fun im => im.memAt va 1) with
  | none => 1
  | some m =>
    let pg := if m.page = 1 then 2 ^ 21 else 4096
    if m.kind = 5 ∨ m.kind = 6 then 1
    else if pa < m.base ∨ m.base + m.size ≤ pa then 2
    else if va % pg ≠ 0 ∨ pa % pg ≠ 0 then 3
    else if (bitsOf 16 ctxs).any (fun c => !(m.readers ||| m.writers).testBit c) then 4
    else if s.bit R.MMU_STATUS_OP_BUSY then 5
    else if op = 0 then 6
    else 0

/-- GO of MMU_OP: the change is refused, or is in progress until every source has acknowledged. -/
def State.mmuGo (s : State) (op : Nat) : State :=
  let va := s.fld R.MMU_OP_VA_LO_VA_LO + 2 ^ 32 * s.fld R.MMU_OP_VA_HI_VA_HI
  let pa := s.fld R.MMU_OP_PA_LO_PA_LO + 2 ^ 32 * s.fld R.MMU_OP_PA_HI_PA_HI
  let ctxs := s.fld R.MMU_OP_CTX_CTX
  let r := s.mmuRefusal op va pa ctxs
  if r ≠ 0 then s.report R.MMU_STATUS_LAST_STS 0x8008 r
  else
    match s.img.active.bind (fun im => im.memAt va 1) with
    | none => s
    | some m =>
      let pg := if m.page = 1 then 2 ^ 21 else 4096
      { (s.setB R.MMU_STATUS_OP_BUSY true) with
        mmu.op := (bitsOf 16 ctxs).map (fun c =>
          (⟨c, va, pg, pa, op != 1, op == 3 && m.writers.testBit c⟩ : MapOver)) }

/-- A write of MMU_OP. -/
def State.writeMmuOp (s : State) (v : Nat) : State :=
  let op := R.MMU_OP_OP.of v
  let s := s.setF R.MMU_OP_OP op
  if R.MMU_OP_GO.of v = 1 then s.mmuGo op else s

/-- Every source has acknowledged: the new mapping holds. [Log 55 DESIGN CHOICE] -/
def State.mmuOpDone (s : State) : State :=
  if !s.bit R.MMU_STATUS_OP_BUSY then s
  else { (s.setB R.MMU_STATUS_OP_BUSY false) with mmu.remap := s.mmu.op ++ s.mmu.remap, mmu.op := [] }

/-- A read of MMU_FQ_DATA0 moves the oldest record into the shadow; zeros from an empty queue (R515, R725). -/
def State.fqPop (s : State) : State :=
  let r := s.mmu.fq.headD (List.replicate 32 0)
  let s := { s with mmu.fq := s.mmu.fq.tail, bus.data := leAt r 0 4 }
  let s := (List.range 8).foldl (fun s k => s.setF (R.MMU_FQ_DATA_DATA k) (leAt r (4 * k) 4)) s
  s.setF R.MMU_STATUS_FQ_COUNT s.mmu.fq.length

/-! ## Sync cells (R497 to R501) -/

/-- Whether a source is a declared producer of a cell: a gill by its partition, a unit by its type. -/
def State.cellProducer (s : State) (cell src : Nat) (part : Option Nat) : Bool :=
  match s.img.active.bind (·.sync? cell) with
  | none => false
  | some c =>
    match part with
    | some p => c.parts.testBit p
    | none => c.units.testBit (src / 4096)

/-- Interrupts of the cells the host watches (R660). -/
def State.cellWatch (s : State) (cell : Nat) : State :=
  (List.range 4).foldl (fun s k =>
    if s.bit (R.MBX_CELL_WATCH_EN k) && s.fld (R.MBX_CELL_WATCH_CELL k) == cell then s.pend (8 + k) else s) s

/-- An increment of a cell by a source (its endpoint code, and its partition for a gill or a partition's
work): whether it was taken (R498). -/
def State.cellAdd (s : State) (cell n src : Nat) (part : Option Nat) : Bool × State :=
  if s.cellProducer cell src part then
    let v := s.fld (R.SYNC_COUNT_COUNT cell) + n
    let s := if v < 2 ^ 24 then s.setF (R.SYNC_COUNT_COUNT cell) v
      else ((s.setF (R.SYNC_COUNT_COUNT cell) 0xFFFFFF).setB (R.SYNC_STATE_OVERFLOW cell) true).report
        (R.SYNC_STATE_LAST_STS cell) 0x8201 cell
    (true, s.cellWatch cell)
  else
    (false, (s.setB (R.SYNC_STATE_PRODUCER_REFUSED cell) true).reportLimited
      (R.SYNC_STATE_LAST_STS cell) 0x8202 (fun _ => src) src)

/-- The waiters of a cell, first in first. -/
def State.cellWaiters (s : State) (cell : Nat) : List Waiter := s.waits.filter (·.cell == cell)

/-- Refreshes a cell's WAITERS field. -/
def State.cellRegs (s : State) (cell : Nat) : State :=
  s.setF (R.SYNC_STATE_WAITERS cell) (s.cellWaiters cell).length

/-- A gill joins a cell's wait list. -/
def State.cellWait (s : State) (cell gill n : Nat) : State :=
  { s with waits := s.waits ++ [(⟨cell, gill, n⟩ : Waiter)] }.cellRegs cell

/-- The head of a cell's wait list, if the count covers its N (R499). -/
def State.grantable (s : State) (cell : Nat) : Option Waiter :=
  match s.cellWaiters cell with
  | w :: _ => if w.n ≤ s.fld (R.SYNC_COUNT_COUNT cell) then some w else none
  | [] => none

/-- Takes a gill off every wait list, the counts unchanged (R500). -/
def State.cellCancel (s : State) (gill : Nat) : State :=
  match s.waits.find? (·.gill == gill) with
  | none => s
  | some w => { s with waits := s.waits.filter (·.gill != gill) }.cellRegs w.cell

/-- SYNC_CTL.RESET (R501). -/
def State.cellReset (s : State) (cell : Nat) : State :=
  match s.img.active.bind (·.sync? cell) with
  | none => s
  | some c =>
    if (s.cellWaiters cell).isEmpty then
      ((s.setF (R.SYNC_COUNT_COUNT cell) c.init).setB (R.SYNC_STATE_OVERFLOW cell) false).setB
        (R.SYNC_STATE_PRODUCER_REFUSED cell) false
    else s.report (R.SYNC_STATE_LAST_STS cell) 0x8203 cell

/-- SYNC_ADD: an increment by the host, as type 0x5. -/
def State.hostCellAdd (s : State) (cell n : Nat) : State := (s.cellAdd cell n 0x5000 none).2

end Sys2Proof.Machine
end

