-- ==== Sys2Proof/Machine/Dma.lean ====
section
/-! DEFINITION. Dma: the DMA engines, their chains and the transfer items (R489 to R496, R503 to R508). -/

namespace Sys2Proof.Machine

/-! ## Engines and chains -/

/-- Engine `e`. -/
def State.eng (s : State) (e : Nat) : DmaEng := s.dma.getD e {}

/-- DMA_ENG_STATUS, from the engine (R495). -/
def DmaEng.status (d : DmaEng) (aborting : Bool) : Nat :=
  d.last % 65536 * 2 ^ 16 + min d.queue.length 16 * 2 ^ 11 + d.run.isSome.toNat * 2 ^ 10 + aborting.toNat * 2 ^ 9
    + min d.failed 255

/-- Puts an engine back and refreshes its status word. -/
def State.setEng (s : State) (e : Nat) (d : DmaEng) : State :=
  { s with dma := setAt s.dma e d }.setF (R.DMA_ENG_STATUS_STATUS e) (d.status false)

/-- Reports a DMA status of an engine (R514). -/
def State.dmaReport (s : State) (e sts detail : Nat) : State :=
  s.report (R.DMA_SUB_STATUS_LAST_STS e) sts detail

/-- Queues a chain; the caller has seen that the queue is not full. -/
def State.chainPush (s : State) (e : Nat) (c : Chain) : State :=
  let d := s.eng e
  s.setEng e { d with queue := d.queue ++ [c] }

/-- Whether an engine's queue is full (R489). -/
def State.chainFull (s : State) (e : Nat) : Bool := decide (16 ≤ (s.eng e).queue.length)

/-- A driver's submission (R489). -/
def State.driverSubmit (s : State) (e : Nat) : State :=
  if s.chainFull e then
    (s.dmaReport e 0x8103 e).setB (R.DMA_SUB_STATUS_ACCEPTED e) false
  else
    let va := s.fld (R.DMA_SUB_LO_VA_LO e) + 2 ^ 32 * s.fld (R.DMA_SUB_HI_VA_HI e)
    let cell := if s.bit (R.DMA_SUB_CELL_C e) then some (s.fld (R.DMA_SUB_CELL_CELL e)) else none
    (s.chainPush e ⟨va, none, none, cell, none⟩).setB (R.DMA_SUB_STATUS_ACCEPTED e) true

/-- A write of DMA_SUB_HI. -/
def State.writeDmaHi (s : State) (e v : Nat) : State :=
  let s := s.setF (R.DMA_SUB_HI_VA_HI e) ((R.DMA_SUB_HI_VA_HI e).of v)
  if (R.DMA_SUB_HI_GO e).of v = 1 then s.driverSubmit e else s

/-! ## The tile window (R475, R496) -/

/-- A byte of a logical gill's local memory: tile and offset in one number (R475). -/
def sramAddr (gill tile off : Nat) : Nat := gill * 2 ^ 22 + tile * 2 ^ 16 + off

/-- One byte of tile SRAM; a byte nothing has written reads 0 (the model's choice). [Log 5 DESIGN CHOICE] -/
def State.sramByte (s : State) (a : Nat) : Byte := Sparse.get s.sram a 0

/-- `n` bytes of tile SRAM. -/
def State.sramBytes (s : State) (a n : Nat) : List Byte := (List.range n).map (fun k => s.sramByte (a + k))

/-- Writes bytes of tile SRAM. -/
def State.setSram (s : State) (a : Nat) : List Byte → State
  | [] => s
  | b :: l => ({ s with sram := Sparse.put s.sram a b 0 }).setSram (a + 1) l

/-- Whether a VA lies in the tile window. -/
def inTileWin (va : Nat) : Bool := va / 2 ^ 39 == 1

/-- Whether a chain may reach a gill through the tile window (R496): none for any gill that is present. -/
def State.reaches (s : State) (reach : Option Nat) (g : Nat) : Bool :=
  decide (g < s.gills) && (match reach with
    | none => true
    | some p => match s.img.active.bind (·.part? p) with
      | some r => r.mask.testBit g
      | none => false)

/-- A LOCAL failure (R496). -/
def State.localFail (s : State) (e va : Nat) : TxErr × State :=
  (⟨8, va⟩, s.dmaReport e 0x8105 (va % 2 ^ 39 / 2 ^ 22))

/-- A chain's read of a piece of one block. -/
def State.dmaReadPiece (s : State) (e item : Nat) (reach : Option Nat) (va n : Nat) :
    Except TxErr (List Byte) × State :=
  if inTileWin va then
    if s.reaches reach (va % 2 ^ 39 / 2 ^ 22) then (.ok (s.sramBytes (va % 2 ^ 39) n), s)
    else let (x, s) := s.localFail e va; (.error x, s)
  else s.readPiece (0x7000 + e) 7 va n (e * 65536 + item)

/-- A chain's write of a piece of one block. -/
def State.dmaWritePiece (s : State) (e item : Nat) (reach : Option Nat) (va : Nat) (b : List Byte) :
    Option TxErr × State :=
  if inTileWin va then
    if s.reaches reach (va % 2 ^ 39 / 2 ^ 22) then (none, s.setSram (va % 2 ^ 39) b)
    else let (x, s) := s.localFail e va; (some x, s)
  else s.writePiece (0x7000 + e) 7 va (e * 65536 + item) b

/-- A chain's read of a range. -/
def State.dmaRead (e item : Nat) (reach : Option Nat) : Nat → State → Nat → Nat → List Byte →
    Except TxErr (List Byte) × State
  | 0, s, _, _, acc => (.ok acc, s)
  | fuel + 1, s, va, n, acc =>
    if n = 0 then (.ok acc, s)
    else
      let k := pieceLen va n
      match s.dmaReadPiece e item reach va k with
      | (.error x, s) => (.error x, s)
      | (.ok b, s) => State.dmaRead e item reach fuel s (va + k) (n - k) (acc ++ b)

/-- Reads a range for a chain. -/
def State.dmaGet (s : State) (e item : Nat) (reach : Option Nat) (va n : Nat) : Except TxErr (List Byte) × State :=
  State.dmaRead e item reach (n / 64 + 2) (s.walks (n / 64 + 2)) va n []

/-- A chain's write of a range; the first failure ends it. -/
def State.dmaWrite (e item : Nat) (reach : Option Nat) : Nat → State → Nat → List Byte → Option TxErr × State
  | 0, s, _, _ => (none, s)
  | fuel + 1, s, va, b =>
    if b = [] then (none, s)
    else
      let k := pieceLen va b.length
      match s.dmaWritePiece e item reach va (b.take k) with
      | (some x, s) => (some x, s)
      | (none, s) => State.dmaWrite e item reach fuel s (va + k) (b.drop k)

/-- Writes a range for a chain. -/
def State.dmaPut (s : State) (e item : Nat) (reach : Option Nat) (va : Nat) (b : List Byte) :
    Option TxErr × State :=
  State.dmaWrite e item reach (b.length / 64 + 2) (s.walks (b.length / 64 + 2)) va b

/-! ## Items (R491, R494, R504) -/

def itemOp (b : List Byte) : Nat := leAt b 0 1
def itemFlags (b : List Byte) : Nat := leAt b 1 1
def itemLen (b : List Byte) : Nat := leAt b 2 2
def itemTag (b : List Byte) : Nat := leAt b 4 4
def itemFence (b : List Byte) : Bool := (itemFlags b).testBit 0

/-- The length an OP has, 0 for an OP that does not exist (R491). -/
def opLen (op : Nat) : Nat :=
  match op with
  | 1 => 48
  | 2 => 32
  | 3 => 48
  | 4 => 32
  | 0x10 => 80
  | 0x11 => 48
  | _ => 0

/-- Whether an item's header keeps R491. -/
def itemHeadOk (b : List Byte) : Bool :=
  opLen (itemOp b) != 0 && itemLen b == opLen (itemOp b) && decide (itemFlags b ≤ 1) && leAt b 8 8 == 0

/-- Cuts the bytes after a chain's header into `n` items. An item whose LEN is wrong ends the cutting: the
items after it cannot be found (R506). -/
def cutItems : Nat → List Byte → List (List Byte)
  | 0, _ => []
  | n + 1, b =>
    let k := opLen (itemOp b)
    if k = 0 ∨ itemLen b ≠ k ∨ b.length < k then b.take 16 :: List.replicate n []
    else b.take k :: cutItems n (b.drop k)

/-- The results known when the items are read: one whose header is wrong ends FAILED, and where its LEN is
wrong every later one ends SKIPPED (R506). -/
def firstRes : List (List Byte) → List (Option ItemRes)
  | [] => []
  | b :: l =>
    if b = [] then some ⟨0, 3, 0, 0⟩ :: firstRes l
    else if itemHeadOk b then none :: firstRes l
    else some ⟨0x8101, 2, 0, 0⟩ :: firstRes l

/-- Writes the completion records that are due, in chain order (R493, R508). OP and TAG of an item the engine
cannot find (R506) are a free value. -/
def State.writeRecs (e : Nat) : Nat → State → RunChain → State × RunChain
  | 0, s, r => (s, r)
  | fuel + 1, s, r =>
    match r.res[r.recs]? with
    | some (some x) =>
      let b := r.items.getD r.recs []
      let (f, s) := if b = [] then s.fresh else (0, s)
      let tag := if b = [] then f / 256 else itemTag b
      let op := if b = [] then f else itemOp b
      let i := r.recs
      let bytes := leBytes 2 x.status ++ leBytes 1 op ++ leBytes 1 x.state ++ leBytes 4 tag
        ++ leBytes 4 x.bytes ++ leBytes 4 x.detail
      let s := s.inc (R.DMA_CNT_ITEMS_COUNT e)
      let s := if x.state = 1 then s else s.inc (R.DMA_CNT_FAILED_COUNT e)
      let s := if r.cpl = 0 then s
        else match s.dmaPut e i r.chain.reach (r.cpl + 16 * i) bytes with
          | (some _, s) => s.dmaReport e 0x8104 i
          | (none, s) => s
      State.writeRecs e fuel s { r with recs := i + 1 }
    | _ => (s, r)

/-- Puts the running chain back. -/
def State.setRun (s : State) (e : Nat) (r : RunChain) : State :=
  let (s, r) := State.writeRecs e (r.items.length + 1) s r
  s.setEng e { s.eng e with run := some r }

/-- Item `i` of the running chain may start: it is its turn by FENCE, by SIGNAL's order, and after every earlier
detection item (R456); `ordered` says that every earlier item must have completed. -/
def RunChain.canStart (r : RunChain) (i : Nat) (ordered : Bool) : Bool :=
  r.res.getD i (some ⟨0, 0, 0, 0⟩) == none
    && (!(ordered || itemFence (r.items.getD i [])) || (r.res.take i).all (·.isSome))
    && ((r.items.zip r.res).take i).all (fun p => p.2.isSome || decide (itemOp p.1 < 0x10))

/-- An item ends: under STOP_ON_FAIL a failure makes every later item SKIPPED (R504). -/
def RunChain.finish (r : RunChain) (i : Nat) (x : ItemRes) : RunChain :=
  let res := r.res.set i (some x)
  { r with res := if x.state = 2 ∧ r.stop then
      res.zipIdx.map (fun p => if i < p.2 && p.1 == none then some ⟨0, 3, 0, 0⟩ else p.1)
    else res }

/-- Runs item `i` of engine `e`, if it has the OP and may start: `k` gives its result. [Log 56 DESIGN CHOICE] -/
def State.runItem (s : State) (e i op : Nat) (ordered : Bool)
    (k : State → RunChain → List Byte → ItemRes × State) : State :=
  match (s.eng e).run with
  | none => s
  | some r =>
    let b := r.items.getD i []
    if itemOp b = op ∧ r.canStart i ordered then
      let (x, s) := k s r b
      let s := if x.status = 0x8101 then s.dmaReport e 0x8101 i else s
      s.setRun e (r.finish i x)
    else s

/-- The result of an item that was done, and of one whose body is wrong. -/
def itemDone (n : Nat) : ItemRes := ⟨0, 1, n, 0⟩
def itemBad (i : Nat) : ItemRes := ⟨0x8101, 2, 0, i⟩

/-- The destination block writes that may still be done once a transfer has failed: `mask` says which of the
following ones were (R504: those bytes may or may not have been written). -/
def State.straggle (e item : Nat) (reach : Option Nat) (get : State → Nat → Nat → Except TxErr (List Byte) × State) :
    Nat → State → Nat → Nat → Nat → State
  | 0, s, _, _, _ => s
  | fuel + 1, s, dst, n, mask =>
    if n = 0 then s
    else
      let k := pieceLen dst n
      let s :=
        if mask % 2 = 0 then s
        else match get s dst k with
          | (.ok b, s) => (s.dmaWritePiece e item reach dst b).2
          | (.error _, s) => s
      State.straggle e item reach get fuel s (dst + k) (n - k) (mask / 2)

/-- Moves `n` bytes to `dst`, by the destination's blocks; `get` fetches a piece. The failure and how many
bytes were done before it. -/
def State.moveLoop (e item : Nat) (reach : Option Nat) (get : State → Nat → Nat → Except TxErr (List Byte) × State) :
    Nat → State → Nat → Nat → Nat → Option TxErr × Nat × State
  | 0, s, _, _, d => (none, d, s)
  | fuel + 1, s, dst, n, d =>
    if n = 0 then (none, d, s)
    else
      let k := pieceLen dst n
      let fail := fun (s : State) (x : TxErr) =>
        let (m, s) := s.fresh
        (some x, d, State.straggle e item reach get 64 s (dst + k) (n - k) m)
      match get s dst k with
      | (.error x, s) => fail s x
      | (.ok b, s) =>
        match s.dmaWritePiece e item reach dst b with
        | (some x, s) => fail s x
        | (none, s) => State.moveLoop e item reach get fuel s (dst + k) (n - k) (d + k)

/-- The result of a transfer that ended with an error or none, `done` bytes written first. -/
def moveRes (done : Nat) : Option TxErr → ItemRes
  | none => itemDone done
  | some x => ⟨reasonSts x.reason, 2, done, x.va % 2 ^ 32⟩

/-- Two ranges overlap. -/
def rangesMeet (a n b m : Nat) : Bool := decide (a < b + m) && decide (b < a + n)

/-- COPY (R492); `limit` bytes at most (all but where an abort cuts it). -/
def State.copyItem (e i limit : Nat) (s : State) (r : RunChain) (b : List Byte) : ItemRes × State :=
  let src := leAt b 16 8
  let dst := leAt b 24 8
  let n := leAt b 32 4
  if src % 4 ≠ 0 ∨ dst % 4 ≠ 0 ∨ n % 4 ≠ 0 ∨ n < 4 ∨ 2 ^ 28 < n
      ∨ rangesMeet src n dst n then (itemBad i, s)
  else
    let get := fun (s : State) (d k : Nat) => s.dmaGet e i r.chain.reach (src + (d - dst)) k
    let m := min n limit
    let (x, d, s) := State.moveLoop e i r.chain.reach get (m / 64 + 2) s dst m 0
    (moveRes d x, s)

/-- FILL (R492). -/
def State.fillItem (e i limit : Nat) (s : State) (r : RunChain) (b : List Byte) : ItemRes × State :=
  let dst := leAt b 16 8
  let n := leAt b 24 4
  let pat := slice b 28 4
  if dst % 4 ≠ 0 ∨ n % 4 ≠ 0 then (itemBad i, s)
  else
    let get := fun (s : State) (d k : Nat) =>
      ((.ok ((List.range k).map (fun j => pat.getD ((d - dst + j) % 4) 0)) : Except TxErr (List Byte)), s)
    let m := min n limit
    let (x, d, s) := State.moveLoop e i r.chain.reach get (m / 64 + 2) (s.walks (m / 64 + 2)) dst m 0
    (moveRes d x, s)

/-- The rows of a COPY2D, one after another. -/
def State.rowsLoop (e i : Nat) (r : RunChain) (src dst row sp dp : Nat) : Nat → Nat → State → Nat →
    Option TxErr × Nat × State
  | 0, _, s, d => (none, d, s)
  | n + 1, k, s, d =>
    let src' := src + k * sp
    let dst' := dst + k * dp
    let get := fun (s : State) (a m : Nat) => s.dmaGet e i r.chain.reach (src' + (a - dst')) m
    match State.moveLoop e i r.chain.reach get (row / 64 + 2) s dst' row 0 with
    | (some x, m, s) => (some x, d + m, s)
    | (none, m, s) => State.rowsLoop e i r src dst row sp dp n (k + 1) s (d + m)

/-- COPY2D (R492). -/
def State.copy2dItem (e i : Nat) (s : State) (r : RunChain) (b : List Byte) : ItemRes × State :=
  let src := leAt b 16 8
  let dst := leAt b 24 8
  let row := leAt b 32 4
  let rows := leAt b 36 4
  let sp := leAt b 40 4
  let dp := leAt b 44 4
  let meet := (List.range rows).any (fun j => (List.range rows).any (fun k =>
    rangesMeet (src + j * sp) row (dst + k * dp) row))
  if src % 4 ≠ 0 ∨ dst % 4 ≠ 0 ∨ row % 4 ≠ 0 ∨ sp % 4 ≠ 0 ∨ dp % 4 ≠ 0 ∨ rows = 0 ∨ 65535 < rows ∨ meet then
    (itemBad i, s)
  else
    let (x, d, s) := State.rowsLoop e i r src dst row sp dp rows 0 s 0
    (moveRes d x, s)

/-- SIGNAL (R492, R504). -/
def State.signalItem (e i : Nat) (s : State) (_ : RunChain) (b : List Byte) : ItemRes × State :=
  let cell := leAt b 16 2
  if 4096 ≤ cell then (itemBad i, s)
  else
    match s.cellAdd cell (leAt b 18 2) (0x7000 + e) none with
    | (true, s) => (itemDone 0, s)
    | (false, s) => (⟨0x8202, 2, 0, 0x7000 + e⟩, s)

/-! ## The course of a chain (R493, R505, R506) -/

/-- The end of a chain: status, the cell, the work it belongs to, and the engine is free. -/
def State.chainOver (s : State) (e : Nat) (c : Chain) (last failed : Nat) : State :=
  let d := s.eng e
  let s := s.setEng e { d with run := none, last := last, failed := failed }
  let s := s.inc (R.DMA_CNT_CHAINS_COUNT e)
  let s := match c.cell with
    | some k => (s.cellAdd k 1 (0x7000 + e) none).2
    | none => s
  match c.work with
  | some w => { s with chainsDone := s.chainsDone ++ [(⟨w, last⟩ : ChainDone)] }
  | none => s

/-- Reads bytes of a chain, from local memory within one tile or at its VA in context 0x7. -/
def State.chainBytes (s : State) (e : Nat) (c : Chain) (off n : Nat) : Option (List Byte) × State :=
  match c.gill with
  | some g =>
    if c.va / 65536 = (c.va + off + n - 1) / 65536 then (some (s.sramBytes (g * 2 ^ 22 + c.va + off) n), s)
    else (none, s)
  | none =>
    match s.vread (0x7000 + e) 7 (c.va + off) n (e * 65536) with
    | (.ok b, s) => (some b, s)
    | (.error _, s) => (none, s)

/-- Reads a chain's items, one header and one body after another. -/
def State.readItems (e : Nat) (c : Chain) : Nat → State → Nat → List Byte → Option (List Byte) × State
  | 0, s, _, acc => (some acc, s)
  | n + 1, s, off, acc =>
    match s.chainBytes e c off 16 with
    | (none, s) => (none, s)
    | (some h, s) =>
      let k := opLen (itemOp h)
      if k = 0 ∨ itemLen h ≠ k then (some (acc ++ h), s)
      else if 0x4000 < off + k then (none, s)
      else match s.chainBytes e c (off + 16) (k - 16) with
        | (none, s) => (none, s)
        | (some b, s) => State.readItems e c n s (off + k) (acc ++ h ++ b)

/-- Whether a chain header keeps R490. -/
def chainHeadOk (h : List Byte) : Bool :=
  decide (1 ≤ leAt h 0 2) && decide (leAt h 0 2 ≤ 256) && decide (leAt h 2 1 ≤ 1) && leAt h 3 1 == 0
    && leAt h 8 8 % 16 == 0 && (slice h 16 16).all (· == 0)

/-- The chain that a header and its items make. -/
def mkRun (c : Chain) (h body : List Byte) : RunChain :=
  let items := cutItems (leAt h 0 2) body
  ⟨c, leAt h 4 4, (leAt h 2 1).testBit 0, leAt h 8 8, items,
   (firstRes items).zipIdx.map (fun p => p.1.map (fun x => if x.status = 0x8101 then { x with detail := p.2 } else x)), 0⟩

/-- Reads a chain: none where its header breaks R490 or it cannot be read. -/
def State.readChain (s : State) (e : Nat) (c : Chain) : Option RunChain × State :=
  match s.chainBytes e c 0 32 with
  | (none, s) => (none, s)
  | (some h, s) =>
    if !chainHeadOk h then (none, s)
    else match State.readItems e c (leAt h 0 2) s 32 [] with
      | (none, s) => (none, s)
      | (some body, s) => (some (mkRun c h body), s)

/-- Reports the items whose headers are wrong. -/
def State.reportBad (e : Nat) (s : State) (r : RunChain) : State :=
  r.res.foldl (fun s x => match x with
    | some y => if y.status = 0x8101 then s.dmaReport e 0x8101 y.detail else s
    | none => s) s

/-- An engine takes its next chain and reads it. A wrong header ends the chain at once (R506). -/
def State.chainStart (s : State) (e : Nat) : State :=
  let d := s.eng e
  match d.run, d.queue with
  | none, c :: q =>
    let s := s.setEng e { d with queue := q }
    match s.readChain e c with
    | (none, s) => (s.dmaReport e 0x8102 e).chainOver e c 0x8102 255
    | (some r, s) => (State.reportBad e s r).setRun e (if r.stop ∧ r.res.any (fun x => x.any (·.state == 2))
        then r.finish ((r.res.findIdx? (fun x => x.any (·.state == 2))).getD 0) ⟨0x8101, 2, 0,
          (r.res.findIdx? (fun x => x.any (·.state == 2))).getD 0⟩ else r)
  | _, _ => s

/-- The status of the first failed item of a chain, and how many items did not end DONE (R495). -/
def RunChain.outcome (r : RunChain) : Nat × Nat :=
  (((r.res.filterMap id).find? (·.state == 2)).elim 0 (·.status),
   min ((r.res.filterMap id).filter (·.state != 1)).length 255)

/-- The last record of a chain is written (R493). -/
def State.chainEnd (s : State) (e : Nat) : State :=
  match (s.eng e).run with
  | none => s
  | some r =>
    if r.recs < r.items.length then s
    else s.chainOver e r.chain r.outcome.1 r.outcome.2

/-- Cuts an unfinished item at an abort: `done` bytes of a COPY or FILL were already written. -/
def State.cutItem (e : Nat) (s : State) (r : RunChain) (i done : Nat) : Nat × State :=
  let b := r.items.getD i []
  if done = 0 ∨ !r.canStart i false then (0, s)
  else if itemOp b = 1 then let (x, s) := State.copyItem e i done s r b; (x.bytes, s)
  else if itemOp b = 2 then let (x, s) := State.fillItem e i done s r b; (x.bytes, s)
  else (0, s)

/-- Ends every unfinished item of a chain CANCELLED; `part` tells how far the items begun had come. -/
def State.cancelItems (e : Nat) (s : State) (r : RunChain) (part : List (Nat × Nat)) : State × RunChain :=
  let (s, r) := (List.range r.items.length).foldl (fun (acc : State × RunChain) i =>
    let (s, r) := acc
    if r.res.getD i none == none then
      let (n, s) := State.cutItem e s r i (((part.find? (·.1 == i)).map (·.2)).getD 0)
      (s, { r with res := r.res.set i (some ⟨0x8106, 4, n, e⟩) })
    else (s, r)) (s, r)
  State.writeRecs e (r.items.length + 1) s r

/-- Every queued chain has each of its items recorded CANCELLED (R505). -/
def State.cancelQueue (e : Nat) (s : State) : List Chain → State
  | [] => s
  | c :: q =>
    let s := match s.readChain e c with
      | (none, s) => (s.dmaReport e 0x8102 e).chainOver e c 0x8102 255
      | (some r, s) =>
        let (s, r) := State.cancelItems e s r []
        s.chainOver e c r.outcome.1 r.outcome.2
    State.cancelQueue e s q

/-- DMA_ENG_CTRL.ABORT, carried to its end (R505). [Log 56 DESIGN CHOICE] -/
def State.dmaAbort (s : State) (e : Nat) (part : List (Nat × Nat)) : State :=
  let d := s.eng e
  let s := s.setEng e { d with queue := [] }
  let s := match d.run with
    | none => s
    | some r =>
      let (s, r) := State.cancelItems e s r part
      s.chainOver e r.chain r.outcome.1 r.outcome.2
  (State.cancelQueue e s d.queue).dmaReport e 0x8106 e

/-- A host-window read of a COPY or COPY2D item fails: the item ends with reason RANGE (R651). -/
def State.hostReadFail (s : State) (e i cause done : Nat) : State :=
  match (s.eng e).run with
  | none => s
  | some r =>
    let b := r.items.getD i []
    if (itemOp b = 1 ∨ itemOp b = 3) ∧ r.canStart i false then
      let s := s.hwinFault cause
      let s := s.txFail 3 (0x7000 + e) 7 (leAt b 16 8) 0 0 (e * 65536 + i)
      let (n, s) := State.cutItem e s r i done
      s.setRun e (r.finish i ⟨0x8003, 2, n, leAt b 16 8 % 2 ^ 32⟩)
    else s

end Sys2Proof.Machine
end

