-- ==== Sys2Proof/Machine/Float.lean ====
section
/-! DEFINITION. Float: the number formats of a gill (R418 to R423): binary32 with subnormals flushed, BF16,
FP8 E4M3, and their conversions, by exact dyadic arithmetic. -/

namespace Sys2Proof.Machine

/-- An exact finite number: sign, magnitude, and a power of two. -/
structure Dy where
  neg : Bool
  m   : Nat
  e   : Int
  deriving DecidableEq, Repr

/-- A decoded value: a NaN, an infinity of a sign, or a finite number. -/
inductive FVal where
  | nan
  | inf (neg : Bool)
  | fin (d : Dy)
  deriving DecidableEq, Repr

def nanBits : Nat := 0x7FC00000
def infBits (neg : Bool) : Nat := if neg then 0xFF800000 else 0x7F800000
def zeroBits (neg : Bool) : Nat := if neg then 0x80000000 else 0

/-- The signed numerator of a number scaled to exponent `e` (not above its own). -/
def Dy.at (d : Dy) (e : Int) : Int :=
  let n : Int := (d.m * 2 ^ (d.e - e).toNat : Nat)
  if d.neg then -n else n

/-- A signed numerator at an exponent; `z` is the sign of an exact zero. -/
def dyOf (n : Int) (e : Int) (z : Bool) : Dy :=
  if n = 0 then ⟨z, 0, 0⟩ else ⟨decide (n < 0), n.natAbs, e⟩

/-- The exact sum; a zero sum of different signs is +0. -/
def Dy.add (a b : Dy) : Dy :=
  if a.m = 0 ∧ b.m = 0 then ⟨a.neg && b.neg, 0, 0⟩
  else
    let e := min a.e b.e
    dyOf (a.at e + b.at e) e false

/-- The exact product. -/
def Dy.mul (a b : Dy) : Dy := ⟨a.neg != b.neg, a.m * b.m, a.e + b.e⟩

/-- Rounds `n / d` to the nearest natural, ties to even. -/
def divRne (n d : Nat) : Nat :=
  let q := n / d
  let r := n % d
  if d < 2 * r ∨ (2 * r = d ∧ q % 2 = 1) then q + 1 else q

/-- Rounds a finite number to binary32, ties to even; a subnormal result becomes zero of its sign. -/
def Dy.round (d : Dy) : Nat :=
  if d.m = 0 then zeroBits d.neg
  else
    let top : Int := d.e + Nat.log2 d.m
    let q : Int := max (top - 23) (-149)
    let k : Nat := if q ≤ d.e then d.m * 2 ^ (d.e - q).toNat else divRne d.m (2 ^ (q - d.e).toNat)
    let k' : Nat := if k = 2 ^ 24 then 2 ^ 23 else k
    let q' : Int := if k = 2 ^ 24 then q + 1 else q
    if k' < 2 ^ 23 then zeroBits d.neg
    else if 104 < q' then infBits d.neg
    else zeroBits d.neg + (q' + 150 : Int).toNat * 2 ^ 23 + (k' - 2 ^ 23)

/-- Decodes binary32; a subnormal reads as zero of its sign (R418). -/
def f32 (b : Nat) : FVal :=
  let neg := b / 2 ^ 31 % 2 == 1
  let e := b / 2 ^ 23 % 256
  let m := b % 2 ^ 23
  if e = 255 then (if m = 0 then .inf neg else .nan)
  else if e = 0 then .fin ⟨neg, 0, 0⟩
  else .fin ⟨neg, 2 ^ 23 + m, Int.ofNat e - 150⟩

/-- Encodes a value as binary32; every NaN is the one NaN. -/
def FVal.bits : FVal → Nat
  | .nan => nanBits
  | .inf n => infBits n
  | .fin d => d.round

/-- The sum of two values, not yet rounded. -/
def FVal.add : FVal → FVal → FVal
  | .nan, _ => .nan
  | _, .nan => .nan
  | .inf a, .inf b => if a = b then .inf a else .nan
  | .inf a, _ => .inf a
  | _, .inf b => .inf b
  | .fin a, .fin b => .fin (a.add b)

/-- The product of two values, not yet rounded. -/
def FVal.mul : FVal → FVal → FVal
  | .nan, _ => .nan
  | _, .nan => .nan
  | .inf a, .inf b => .inf (a != b)
  | .inf a, .fin d => if d.m = 0 then .nan else .inf (a != d.neg)
  | .fin d, .inf b => if d.m = 0 then .nan else .inf (d.neg != b)
  | .fin a, .fin b => .fin (a.mul b)

def FVal.negate : FVal → FVal
  | .nan => .nan
  | .inf a => .inf (!a)
  | .fin d => .fin { d with neg := !d.neg }

def fadd (a b : Nat) : Nat := ((f32 a).add (f32 b)).bits
def fsub (a b : Nat) : Nat := ((f32 a).add (f32 b).negate).bits
def fmul (a b : Nat) : Nat := ((f32 a).mul (f32 b)).bits

/-- a × b + c, rounded once. -/
def ffma (a b c : Nat) : Nat := (((f32 a).mul (f32 b)).add (f32 c)).bits

/-- Compares two values: none where either is NaN, else whether the first is below, and whether equal. -/
def FVal.cmp : FVal → FVal → Option (Bool × Bool)
  | .nan, _ => none
  | _, .nan => none
  | .inf a, .inf b => some (a && !b, a == b)
  | .inf a, .fin _ => some (a, false)
  | .fin _, .inf b => some (!b, false)
  | .fin a, .fin b =>
    let e := min a.e b.e
    some (decide (a.at e < b.at e), decide (a.at e = b.at e))

def isNan (b : Nat) : Bool := f32 b == .nan

/-- The minimum or maximum of two binary32 values: a NaN yields the other operand. Between +0 and −0 the
spec does not say which is chosen: a free value. -/
def fminmax (isMax : Bool) (a b : Nat) : Nat :=
  match (f32 a).cmp (f32 b) with
  | none => if isNan a then (if isNan b then nanBits else (f32 b).bits) else (f32 a).bits
  | some (lt, eq) =>
    if eq then (if (f32 a).bits = (f32 b).bits then (f32 a).bits
                else zeroBits (Config.zeroSign isMax))
    else if lt != isMax then (f32 a).bits else (f32 b).bits

/-! ## BF16 and FP8 -/

/-- A BF16 value as binary32 bits. -/
def bf16to32 (h : Nat) : Nat := h % 65536 * 65536

/-- Rounds a finite number to BF16, ties to even; a subnormal result becomes zero (R418). [Log 54 PRESUMED] -/
def Dy.roundBf16 (d : Dy) : Nat :=
  if d.m = 0 then zeroBits d.neg / 65536
  else
    let top : Int := d.e + Nat.log2 d.m
    let q : Int := max (top - 7) (-133)
    let k : Nat := if q ≤ d.e then d.m * 2 ^ (d.e - q).toNat else divRne d.m (2 ^ (q - d.e).toNat)
    let k' : Nat := if k = 2 ^ 8 then 2 ^ 7 else k
    let q' : Int := if k = 2 ^ 8 then q + 1 else q
    if k' < 2 ^ 7 then zeroBits d.neg / 65536
    else if 120 < q' then infBits d.neg / 65536
    else zeroBits d.neg / 65536 + (q' + 134 : Int).toNat * 2 ^ 7 + (k' - 2 ^ 7)

/-- Encodes a value as BF16. -/
def FVal.bf16 : FVal → Nat
  | .nan => nanBits / 65536
  | .inf n => infBits n / 65536
  | .fin d => d.roundBf16

/-- Decodes FP8 E4M3 (R421): no infinities, all ones is NaN. -/
def fp8 (b : Nat) : FVal :=
  let neg := b / 128 % 2 == 1
  let e := b / 8 % 16
  let m := b % 8
  if e = 15 ∧ m = 7 then .nan
  else if e = 0 then .fin ⟨neg, m, -9⟩
  else .fin ⟨neg, 8 + m, Int.ofNat e - 10⟩

/-! ## Conversions -/

/-- An integer as an exact number. -/
def dyInt (i : Int) : Dy := dyOf i 0 false

/-- Rounds a finite number to the nearest integer, ties to even. -/
def Dy.toInt (d : Dy) : Int :=
  let n := if 0 ≤ d.e then d.m * 2 ^ d.e.toNat else divRne d.m (2 ^ (-d.e).toNat)
  if d.neg then -(n : Int) else n

/-- Limits an integer to a range. -/
def satInt (lo hi i : Int) : Int := if i < lo then lo else if hi < i then hi else i

/-! ## Functions within two units in the last place (R419) -/

/-- The largest r with r × r at most n, by `fuel` steps from a bit down. -/
def isqrtFrom : Nat → Nat → Nat → Nat
  | 0, _, r => r
  | b + 1, n, r => isqrtFrom b n (if (r + 2 ^ b) * (r + 2 ^ b) ≤ n then r + 2 ^ b else r)

def isqrt (n : Nat) : Nat := isqrtFrom (Nat.log2 n / 2 + 1) n 0

/-- A positive result near `n / d × 2 ^ e`: truncated to 24 significant bits and moved by an offset the spec
leaves open, so that it lies within two units in the last place. `pick` chooses the offset. -/
def nearUlp (n d : Nat) (e : Int) (neg : Bool) (pick : Nat) : Nat :=
  let k := 24 + Nat.log2 d
  let q := n * 2 ^ k / d
  let top := Nat.log2 q
  let exact := n * 2 ^ k % d = 0 ∧ q % 2 ^ (top - 23) = 0
  let m := q / 2 ^ (top - 23)
  let m' := if exact then m + pick % 5 - 2 else m + pick % 4 - 1
  Dy.round ⟨neg, m', e - k + (top - 23 : Nat)⟩

/-- 1/b. -/
def frcp (b : Nat) : Nat :=
  match f32 b with
  | .nan => nanBits
  | .inf n => zeroBits n
  | .fin d => if d.m = 0 then infBits d.neg else nearUlp 1 d.m (-d.e) d.neg (Config.ulp 0 b).toNat

/-- 1/√b. -/
def frsq (b : Nat) : Nat :=
  match f32 b with
  | .nan => nanBits
  | .inf n => if n then nanBits else zeroBits false
  | .fin d =>
    if d.m = 0 then infBits d.neg
    else if d.neg then nanBits
    else
      let odd := d.e % 2 ≠ 0
      let m := if odd then 2 * d.m else d.m
      let e := if odd then d.e - 1 else d.e
      let r := isqrt (2 ^ 160 / m)
      nearUlp r 1 (-80 - e / 2) false (if r * r * m = 2 ^ 160 then (Config.ulp 1 b).toNat
        else (Config.ulp 1 b).toNat % 4)

/-- 2 raised to 2 to the minus k, scaled by 2 to the 60. -/
def rootTwo : Nat → Nat
  | 0 => 2 ^ 61
  | k + 1 => isqrt (rootTwo k * 2 ^ 60)

/-- 2 raised to a fraction of 32 bits, scaled by 2 to the 60; `k` counts its bits from the most significant. -/
def expFrac : Nat → Nat → Nat → Nat
  | 0, _, acc => acc
  | n + 1, f, acc =>
    let k := 32 - n
    expFrac n f (if f.testBit (32 - k) then acc * rootTwo k / 2 ^ 60 else acc)

/-- 2^b. -/
def fexp2 (b : Nat) : Nat :=
  match f32 b with
  | .nan => nanBits
  | .inf n => if n then zeroBits false else infBits false
  | .fin d =>
    if d.m = 0 then nearUlp 1 1 0 false (Config.ulp 2 b).toNat
    else
      let n := d.at (min d.e (-32)) / (2 ^ (-32 - min d.e (-32)).toNat : Nat)
      let i := n / (2 ^ 32 : Nat)
      let f := (n % (2 ^ 32 : Nat)).toNat
      if 128 ≤ i then infBits false
      else if i < -127 then zeroBits false
      else if f = 0 then nearUlp 1 1 i false (Config.ulp 2 b).toNat
      else nearUlp (expFrac 32 f (2 ^ 60)) 1 (i - 60) false ((Config.ulp 2 b).toNat % 4)

end Sys2Proof.Machine
end

