-- ==== Sys2Proof/Machine/GillFmt.lean ====
section
/-! DEFINITION. GillFmt: the slots of a bundle (R405, R406, R411 to R425, R429): fields, legality and
destinations, on the encoding alone. -/

namespace Sys2Proof.Machine

/-- A field [hi:lo] of a slot. -/
def bf (x hi lo : Nat) : Nat := x / 2 ^ lo % 2 ^ (hi - lo + 1)

/-- The mask of a field. -/
def fm (hi lo : Nat) : Nat := (2 ^ (hi - lo + 1) - 1) * 2 ^ lo

def opOf (x : Nat) : Nat := bf x 63 56
def pnOf (x : Nat) : Bool := bf x 55 55 == 1
def prOf (x : Nat) : Nat := bf x 54 52

/-- A slot whose set bits are all within the common bits and the fields given. -/
def within (x fields : Nat) : Bool := (x &&& fm 51 0) ||| fields == fields

/-- The second operand of a scalar slot: its source bits when SB is legal. -/
def sbFields (x : Nat) : Option Nat :=
  match bf x 33 32 with
  | 0 => some (fm 39 34)
  | 1 => some (fm 33 32 + fm 31 0)
  | _ => none

/-- A legal scalar slot (R411 to R413). -/
def scalarOk (x : Nat) : Bool :=
  let op := opOf x
  if 1 ≤ op ∧ op ≤ 0xF then
    match sbFields x with
    | some b => within x (fm 51 40 + b)
    | none => false
  else if op = 0x10 then
    match sbFields x with
    | some b => within x (fm 51 46 + b)
    | none => false
  else if 0x18 ≤ op ∧ op ≤ 0x1D then
    match sbFields x with
    | some b => within x (fm 48 46 + fm 45 40 + b)
    | none => false
  else if 0x20 ≤ op ∧ op ≤ 0x23 then within x (fm 48 46 + fm 42 40 + fm 36 34)
  else if op = 0x25 ∨ op = 0x26 then within x (fm 51 46 + fm 42 40)
  else if op = 0x28 then within x (fm 51 46 + 7)
  else false

/-- A legal branch slot (R414). -/
def branchOk (x : Nat) : Bool :=
  match opOf x with
  | 0x01 => within x (fm 39 38 + fm 11 0)
  | 0x02 => within x (fm 45 40 + fm 39 38)
  | 0x03 => within x (fm 51 46 + fm 39 38 + fm 11 0)
  | 0x05 => within x (fm 45 40 + fm 39 38 + fm 11 0)
  | 0x06 => within x (fm 39 38 + fm 11 0)
  | 0x07 => within x (fm 39 38)
  | _ => false

/-- A legal load or store slot (R416). -/
def lsOk (x : Nat) : Bool :=
  let op := opOf x
  if 0x01 ≤ op ∧ op ≤ 0x08 then within x (fm 51 40 + fm 31 0)
  else if op = 0x10 ∨ op = 0x11 ∨ op = 0x14 then within x (fm 50 40 + fm 31 0)
  else if op = 0x12 ∨ op = 0x13 then within x (fm 50 46 + fm 39 36)
  else if op = 0x20 ∨ op = 0x21 then within x (fm 51 40 + fm 31 0) && bf x 45 40 % 2 == 0
  else if op = 0x22 ∨ op = 0x23 then within x (fm 50 40 + fm 31 0) && bf x 45 40 % 2 == 0
  else false

/-- Integer types of R418. -/
def isIntT (t : Nat) : Bool := t == 0 || t == 1 || t == 3 || t == 4 || t == 6

/-- The second operand of a vector slot. -/
def vbFields (x : Nat) : Option Nat :=
  match bf x 33 32 with
  | 0 => some (fm 41 37)
  | 1 => some (fm 33 32 + fm 5 0)
  | 2 => some (fm 33 32 + fm 31 0)
  | _ => none

/-- A vector slot whose named fields, with its second operand, are all it uses. -/
def vbWithin (x fields : Nat) : Bool :=
  match vbFields x with
  | some b => within x (fields + fm 36 34 + b)
  | none => false

/-- A legal slot of V0 or V1 (R419). -/
def v01Ok (x : Nat) : Bool :=
  let op := opOf x
  let t := bf x 36 34
  let ab := fm 51 47 + fm 46 42
  if t = 7 then false
  else if op = 1 ∨ op = 2 ∨ op = 6 ∨ op = 7 ∨ op = 0xD ∨ op = 0xE then isIntT t && vbWithin x ab
  else if 3 ≤ op ∧ op ≤ 5 ∨ op = 8 ∨ op = 9 then vbWithin x ab
  else if op = 0xA then (t == 0 || t == 2 || t == 3 || t == 6) && within x (ab + fm 36 34)
  else if op = 0xB then vbWithin x (fm 51 47)
  else if 0x10 ≤ op ∧ op ≤ 0x15 then decide (t ≤ 2) && vbWithin x (fm 49 47 + fm 46 42)
  else if op = 0x18 then bf x 2 0 != 7 && within x (ab + fm 36 34 + 7)
  else if op = 0x19 then t == 0 && vbWithin x (fm 51 47)
  else false

/-- A legal slot of V2 (R419). -/
def v2Ok (x : Nat) : Bool :=
  let op := opOf x
  let t := bf x 36 34
  let ab := fm 51 47 + fm 46 42
  match op with
  | 1 => t != 5 && t != 7 && vbWithin x ab
  | 2 => isIntT t && vbWithin x ab
  | 3 => (t == 2 || t == 5) && vbWithin x ab
  | 4 => (t == 2 || t == 5) && vbWithin x ab
  | 5 => (t == 2 || t == 5) && vbWithin x ab
  | 6 => t == 2 && vbWithin x (fm 51 47)
  | 7 => t == 2 && vbWithin x (fm 51 47)
  | 8 => t == 2 && vbWithin x (fm 51 47)
  | 9 => (t == 3 || t == 4) && vbWithin x ab
  | _ => false

/-- A legal slot of V3 (R420). -/
def v3Ok (x : Nat) : Bool :=
  let op := opOf x
  let t := bf x 36 34
  let ab := fm 51 47 + fm 46 42 + fm 36 34
  if t = 7 then false
  else match op with
  | 1 => vbWithin x (fm 51 47 + fm 46 42)
  | 2 => within x (ab + fm 10 0)
  | 3 => within x (ab + fm 10 0)
  | 4 => within x (ab + fm 9 0)
  | 5 => (t == 0 || t == 2) && within x ab
  | 6 => decide (t ≤ 2) && within x ab
  | 7 => decide (t ≤ 2) && within x ab
  | 8 => decide (t ≤ 2) && within x ab
  | 9 => within x (fm 46 42 + fm 36 34 + fm 21 16 + fm 9 0)
  | 0xA => within x (fm 51 47 + fm 36 34 + fm 21 16 + fm 9 0)
  | 0xB => (t == 0 || t == 2) && within x ab
  | _ => false

/-- K and the rows of the weight buffer of a matrix type (R421). -/
def mmaK (t : Nat) : Nat := if t = 2 then 4 else 2
def mmaRows (t : Nat) : Nat := if t = 2 then 1024 else if t = 4 then 256 else 512

/-- A legal slot M0 (R422). -/
def m0Ok (x : Nat) : Bool :=
  let t := bf x 43 40
  opOf x == 1 && decide (t ≤ 4) && (t != 4 || bf x 35 35 == 0) && within x (fm 51 24)
    && decide (bf x 34 25 + mmaK t ≤ mmaRows t)

/-- A legal slot M1 (R423). -/
def m1Ok (x : Nat) : Bool :=
  match opOf x with
  | 1 => within x (fm 43 31 + fm 15 0)
  | 2 =>
    let o := bf x 25 23
    if o ≤ 3 then within x (fm 51 44 + fm 30 23)
    else decide (o ≤ 5) && within x (fm 51 44 + fm 25 23)
  | 3 => within x (fm 51 49)
  | 4 => within x (fm 51 44)
  | _ => false

/-- A legal address-generator slot (R424). -/
def agOk (x : Nat) : Bool :=
  match opOf x with
  | 1 => within x (fm 51 42 + fm 31 0)
  | 2 => within x (fm 51 39)
  | 3 => within x (fm 51 48 + fm 41 39 + fm 31 0)
  | 4 => within x (fm 51 48)
  | 5 => within x (fm 51 42)
  | 6 => within x (fm 51 39)
  | 7 => within x (fm 51 48 + fm 37 35)
  | _ => false

/-- A legal sync slot (R425). -/
def syOk (x : Nat) : Bool :=
  let msg := within x (fm 51 34 + fm 3 0) && decide (bf x 51 46 + bf x 3 0 ≤ 63)
  match opOf x with
  | 1 => within x (fm 31 4)
  | 2 => within x (fm 31 4)
  | 3 => within x (fm 45 40 + fm 36 34 + fm 31 4)
  | 4 => within x (fm 36 34 + fm 31 4)
  | 5 => within x (fm 51 46 + fm 31 20)
  | 6 => within x 0
  | 8 => msg
  | 9 => msg
  | 0xA => within x (fm 51 46 + fm 39 37)
  | _ => false

/-- A legal DMA slot (R429). -/
def dmaOk (x : Nat) : Bool :=
  match opOf x with
  | 1 => if bf x 29 29 = 1 then within x (fm 51 29 + fm 15 0) else within x (fm 51 42 + fm 15 0)
  | 2 => within x (fm 51 42)
  | _ => false

/-- A legal slot `k` (R406, R435): a NOP has every other bit 0. -/
def slotOk (k x : Nat) : Bool :=
  if k = 15 then x == 0
  else if opOf x = 0 then x == 0
  else if k ≤ 1 then scalarOk x
  else if k = 2 then branchOk x
  else if k ≤ 4 then lsOk x
  else if k ≤ 6 then v01Ok x
  else if k = 7 then v2Ok x
  else if k = 8 then v3Ok x
  else if k = 9 then m0Ok x
  else if k = 10 then m1Ok x
  else if k ≤ 12 then agOk x
  else if k = 13 then syOk x
  else dmaOk x

/-! ## Registers by one number: 0 to 63 s, 64 to 95 v, 96 to 103 p, 104 to 111 a, 112 to 127 g -/

def vKey (n : Nat) : Nat := 64 + n
def pKey (n : Nat) : Nat := 96 + n
def aKey (n : Nat) : Nat := 104 + n
def gKey (n : Nat) : Nat := 112 + n

/-- The registers a legal slot names as destinations (R432). -/
def slotDests (k x : Nat) : List Nat :=
  let op := opOf x
  if op = 0 then []
  else if k ≤ 1 then
    if 0x18 ≤ op ∧ op ≤ 0x23 then [pKey (bf x 48 46)] else [bf x 51 46]
  else if k = 2 then (if op = 3 then [bf x 51 46] else [])
  else if k ≤ 4 then
    if op ≤ 5 ∨ op = 0x20 then [bf x 51 46]
    else if op = 0x10 ∨ op = 0x14 ∨ op = 0x22 then [vKey (bf x 50 46)]
    else if op = 0x12 then [vKey (bf x 50 46), gKey (bf x 39 36)]
    else if op = 0x13 then [gKey (bf x 39 36)]
    else []
  else if k ≤ 6 then (if 0x10 ≤ op ∧ op ≤ 0x15 then [pKey (bf x 49 47)] else [vKey (bf x 51 47)])
  else if k = 7 then [vKey (bf x 51 47)]
  else if k = 8 then (if op = 9 then [bf x 21 16] else [vKey (bf x 51 47)])
  else if k = 9 then [aKey (bf x 51 49)]
  else if k = 10 then
    match op with
    | 2 => [vKey (bf x 48 44)]
    | 3 => [aKey (bf x 51 49)]
    | 4 => [aKey (bf x 51 49)]
    | _ => []
  else if k ≤ 12 then
    if op ≤ 5 then [gKey (bf x 51 48)] else if op = 6 then [bf x 47 42] else [pKey (bf x 37 35)]
  else if k = 13 then
    let p := if bf x 36 34 = 0 then [] else [pKey (bf x 36 34)]
    match op with
    | 3 => p
    | 4 => p
    | 5 => [bf x 51 46]
    | 8 => p
    | 9 => p ++ (List.range (bf x 3 0 + 1)).map (fun j => bf x 51 46 + j)
    | _ => []
  else if k = 14 then (if op = 2 then [bf x 51 46] else [])
  else []

/-- The 16 slots of a bundle (R405). -/
def bundleSlots (code : List Byte) (pc : Nat) : List Nat :=
  (List.range 16).map (fun k => leAt code (128 * pc + 8 * k) 8)

/-- A slot of a vector class: its predicate acts lane by lane (R408). -/
def laneClass (k x : Nat) : Bool :=
  (5 ≤ k && decide (k ≤ 10))
    || ((k == 3 || k == 4) && (decide (0x10 ≤ opOf x ∧ opOf x ≤ 0x14) || opOf x == 0x22 || opOf x == 0x23))

end Sys2Proof.Machine
end

