-- ==== Sys2Proof/Machine/GillAlu.lean ====
section
/-! DEFINITION. GillAlu: what the slots of a bundle compute (R412, R418 to R423) and the walk of an
address-generator descriptor (R450 to R455). -/

namespace Sys2Proof.Machine

/-! ## Reading the register files -/

def Gill.sreg (g : Gill) (k : Nat) : Nat := g.s.getD k 0
def Gill.vlane (g : Gill) (r l : Nat) : Nat := (g.v.getD r []).getD l 0
def Gill.alane (g : Gill) (r l : Nat) : Nat := (g.a.getD r []).getD l 0

/-- Every lane set. -/
def allLanes : Nat := 2 ^ 1024 - 1

/-- A predicate register; p0 reads all ones (R402). -/
def Gill.preg (g : Gill) (k : Nat) : Nat := if k = 0 then allLanes else g.p.getD k 0

/-- The lanes a slot's predicate enables, after PN. -/
def Gill.mask (g : Gill) (x : Nat) : Nat :=
  let m := g.preg (prOf x)
  if pnOf x then allLanes - m else m

/-- Whether a slot acts by lane 0 (R408). -/
def Gill.acts (g : Gill) (x : Nat) : Bool := (g.mask x).testBit 0

def Gill.setS (g : Gill) (k v : Nat) : Gill := { g with s := g.s.set k (v % 2 ^ 32) }
def Gill.setV (g : Gill) (r : Nat) (f : Nat → Nat) : Gill :=
  { g with v := g.v.set r ((List.range 1024).map (fun l => f l % 2 ^ 32)) }
def Gill.setA (g : Gill) (r : Nat) (f : Nat → Nat) : Gill :=
  { g with a := g.a.set r ((List.range 1024).map (fun l => f l % 2 ^ 32)) }

/-- Writes a predicate register; writes to p0 are discarded. -/
def Gill.setP (g : Gill) (k m : Nat) : Gill := if k = 0 then g else { g with p := g.p.set k m }

/-- The mask of the lanes that satisfy a test. -/
def lanesOf (f : Nat → Bool) : Nat := sumOf (List.range 1024) (fun l => if f l then 2 ^ l else 0)

/-- Every lane with one bit. -/
def boolLanes (b : Bool) : Nat := if b then allLanes else 0

def wrap32 (i : Int) : Nat := unsignedOf 32 i

/-! ## Scalar arithmetic (R412) -/

/-- The scalar results 0x01 to 0x10. -/
def scalarAlu (op a b : Nat) : Nat :=
  let sa := signed 32 a
  let sb := signed 32 b
  let sh := b % 32
  match op with
  | 0x01 => (a + b) % 2 ^ 32
  | 0x02 => wrap32 ((a : Int) - b)
  | 0x03 => a * b % 2 ^ 32
  | 0x04 => wrap32 (sa * sb / (2 ^ 32 : Nat))
  | 0x05 => a * b / 2 ^ 32
  | 0x06 => a &&& b
  | 0x07 => a ||| b
  | 0x08 => a ^^^ b
  | 0x09 => a * 2 ^ sh % 2 ^ 32
  | 0x0A => a / 2 ^ sh
  | 0x0B => wrap32 (sa / (2 ^ sh : Nat))
  | 0x0C => if sa ≤ sb then a else b
  | 0x0D => if sa ≤ sb then b else a
  | 0x0E => min a b
  | 0x0F => max a b
  | _ => b

/-- The comparisons 0x18 to 0x1D. -/
def scalarCmp (op a b : Nat) : Bool :=
  match op with
  | 0x18 => a == b
  | 0x19 => a != b
  | 0x1A => decide (signed 32 a < signed 32 b)
  | 0x1B => decide (a < b)
  | 0x1C => decide (signed 32 a ≤ signed 32 b)
  | _ => decide (a ≤ b)

/-- The predicate operations 0x20 to 0x23. -/
def predAlu (op a b : Nat) : Nat :=
  match op with
  | 0x20 => a &&& b
  | 0x21 => a ||| b
  | 0x22 => a ^^^ b
  | _ => a &&& (allLanes - b)

/-! ## Vector arithmetic, an element at a time (R418, R419) -/

/-- Bits of an element of a type. -/
def elemBits (t : Nat) : Nat := if t = 3 ∨ t = 4 then 8 else if t = 5 ∨ t = 6 then 16 else 32

def elemSigned (t : Nat) : Bool := t == 0 || t == 3 || t == 6

/-- An integer element. -/
def elemInt (t e : Nat) : Int := if elemSigned t then signed (elemBits t) e else (e : Int)

/-- The value of a floating-point element. -/
def elemF (t e : Nat) : FVal := f32 (if t = 5 then bf16to32 e else e)

/-- The bits of a floating-point element. -/
def elemFBits (t : Nat) (x : FVal) : Nat := if t = 5 then x.bf16 else x.bits

/-- The extremes of an integer type. -/
def elemLo (t : Nat) : Int := if elemSigned t then -((2 ^ (elemBits t - 1) : Nat) : Int) else 0
def elemHi (t : Nat) : Int :=
  if elemSigned t then ((2 ^ (elemBits t - 1) : Nat) : Int) - 1 else ((2 ^ elemBits t : Nat) : Int) - 1

/-- Applies an operation to each element of a lane. -/
def byElems (t : Nat) (f : Nat → Nat → Nat → Nat) (a b d : Nat) : Nat :=
  let w := elemBits t
  sumOf (List.range (32 / w)) (fun k =>
    f (bf a (w * k + w - 1) (w * k)) (bf b (w * k + w - 1) (w * k)) (bf d (w * k + w - 1) (w * k)) % 2 ^ w * 2 ^ (w * k))

/-- Converts an element between types of equally many elements (R419). -/
def convElem (t u a : Nat) : Nat :=
  let uf := u == 2 || u == 5
  if t = 2 ∨ t = 5 then
    match elemF t a with
    | .nan => if uf then elemFBits u .nan else (Config.convert t u a).toNat
    | .inf n => if uf then elemFBits u (.inf n) else unsignedOf (elemBits u) (if n then elemLo u else elemHi u)
    | .fin d => if uf then elemFBits u (.fin d)
        else unsignedOf (elemBits u) (satInt (elemLo u) (elemHi u) d.toInt)
  else if uf then elemFBits u (.fin (dyInt (elemInt t a)))
  else unsignedOf (elemBits u) (satInt (elemLo u) (elemHi u) (elemInt t a))

/-- VCVT of a lane: where the two types hold different numbers of elements the spec states no result. -/
def convLane (t u a : Nat) : Nat :=
  if elemBits t = elemBits u then byElems t (fun e _ _ => convElem t u e) a 0 0
  else (Config.convert t u a).toNat

/-- V0 and V1: one element. -/
def v01Elem (op t a b : Nat) : Nat :=
  let w := elemBits t
  let ia := elemInt t a
  let ib := elemInt t b
  let isF := t == 2 || t == 5
  let mm := fun (mx : Bool) =>
    if t = 2 then fminmax mx a b
    else if t = 5 then fminmax mx (bf16to32 a) (bf16to32 b) / 65536
    else if (decide (ia < ib)) != mx then a else b
  match op with
  | 0x01 => unsignedOf w (ia + ib)
  | 0x02 => unsignedOf w (ia - ib)
  | 0x03 => a &&& b
  | 0x04 => a ||| b
  | 0x05 => a ^^^ b
  | 0x06 => a * 2 ^ (b % w)
  | 0x07 => unsignedOf w (ia / (2 ^ (b % w) : Nat))
  | 0x08 => mm false
  | 0x09 => mm true
  | 0x0A => if isF then (if isNan a then nanBits else (f32 a).bits % 2 ^ 31) else unsignedOf w ia.natAbs
  | 0x0D => unsignedOf w (satInt (elemLo t) (elemHi t) (ia + ib))
  | 0x0E => unsignedOf w (satInt (elemLo t) (elemHi t) (ia - ib))
  | _ => b

/-- The compares: EQ, NE, LT, LE, GT, GE from 0x10. -/
def vCmp (op t a b : Nat) : Bool :=
  let r : Option (Bool × Bool) :=
    if t = 2 then (f32 a).cmp (f32 b)
    else some (decide (elemInt t a < elemInt t b), decide (elemInt t a = elemInt t b))
  match r with
  | none => op == 0x11
  | some (lt, eq) =>
    match op with
    | 0x10 => eq
    | 0x11 => !eq
    | 0x12 => lt
    | 0x13 => lt || eq
    | 0x14 => !(lt || eq)
    | _ => !lt

/-- V2: one element. -/
def v2Elem (op t a b d : Nat) : Nat :=
  let w := elemBits t
  match op with
  | 1 => if t = 2 then fmul a b else unsignedOf w (elemInt t a * elemInt t b)
  | 2 => unsignedOf w (elemInt t a * elemInt t b / (2 ^ w : Nat))
  | 3 => elemFBits t (((elemF t a).mul (elemF t b)).add (elemF t d))
  | 4 => elemFBits t ((elemF t a).add (elemF t b))
  | 5 => elemFBits t ((elemF t a).add (elemF t b).negate)
  | 6 => frcp b
  | 7 => frsq b
  | _ => fexp2 b

/-- VDOT4 of a lane. -/
def vDot4 (t a b d : Nat) : Nat :=
  wrap32 ((d : Int) + (List.range 4).foldl (fun acc k =>
    acc + elemInt t (bf a (8 * k + 7) (8 * k)) * elemInt t (bf b (8 * k + 7) (8 * k))) 0)

/-- The second operand of a vector slot in a lane. -/
def Gill.vb (g : Gill) (x l : Nat) : Nat :=
  match bf x 33 32 with
  | 0 => g.vlane (bf x 41 37) l
  | 1 => g.sreg (bf x 5 0)
  | _ => bf x 31 0

/-- Writes enabled lanes of a vector register. -/
def Gill.vSet (g new : Gill) (x d : Nat) (f : Nat → Nat) : Gill :=
  let m := g.mask x
  new.setV d (fun l => if m.testBit l then f l else g.vlane d l)

/-- A slot of V0 or V1, from the registers of `g`. -/
def Gill.doV01 (g new : Gill) (x : Nat) : Gill :=
  let op := opOf x
  let t := bf x 36 34
  let ra := bf x 46 42
  if 0x10 ≤ op ∧ op ≤ 0x15 then
    let m := g.mask x
    new.setP (bf x 49 47) (lanesOf (fun l => m.testBit l && vCmp op t (g.vlane ra l) (g.vb x l)))
  else if op = 0x18 then g.vSet new x (bf x 51 47) (fun l => convLane t (bf x 2 0) (g.vlane ra l))
  else if op = 0x19 then g.vSet new x (bf x 51 47) (fun l => l + g.vb x l)
  else if op = 0x0B then g.vSet new x (bf x 51 47) (fun l => g.vb x l)
  else g.vSet new x (bf x 51 47) (fun l => byElems t (fun a b _ => v01Elem op t a b) (g.vlane ra l) (g.vb x l) 0)

/-- A slot of V2. -/
def Gill.doV2 (g new : Gill) (x : Nat) : Gill :=
  let op := opOf x
  let t := bf x 36 34
  let d := bf x 51 47
  let a := fun l => g.vlane (bf x 46 42) l
  if op = 9 then g.vSet new x d (fun l => vDot4 t (a l) (g.vb x l) (g.vlane d l))
  else g.vSet new x d (fun l => byElems t (v2Elem op t) (a l) (g.vb x l) (g.vlane d l))

/-! ## Permutes and reductions (R420) -/

/-- Sums pairs of a list, then pairs of pairs; `n` levels. -/
def treeSum (f : Nat → Nat → Nat) : Nat → List Nat → Nat
  | 0, l => l.headD 0
  | n + 1, l => treeSum f n ((List.range (l.length / 2)).map (fun k => f (l.getD (2 * k) 0) (l.getD (2 * k + 1) 0)))

/-- The lanes of `a` that contribute to a reduction. -/
def Gill.contrib (g : Gill) (x l : Nat) : Bool :=
  (g.mask x).testBit l && !(bf x 36 34 == 2 && isNan (g.vlane (bf x 46 42) l))

/-- The identity of a maximum or minimum. -/
def extreme (isMax : Bool) (t : Nat) : Nat :=
  if t = 2 then infBits isMax else unsignedOf 32 (if isMax then elemLo t else elemHi t)

/-- A sum of lanes from `lo`, 2 to the `n` of them. -/
def Gill.sumLanes (g : Gill) (x lo n : Nat) : Nat :=
  let v := fun l => if g.contrib x l then g.vlane (bf x 46 42) l else 0
  if bf x 36 34 = 2 then treeSum fadd n ((List.range (2 ^ n)).map (fun k => v (lo + k)))
  else sumOf (List.range (2 ^ n)) (fun k => v (lo + k)) % 2 ^ 32

/-- The maximum or minimum of the enabled lanes. -/
def Gill.extLanes (g : Gill) (x : Nat) (isMax : Bool) : Nat :=
  let t := bf x 36 34
  (List.range 1024).foldl (fun acc l =>
    if g.contrib x l then v01Elem (if isMax then 9 else 8) t acc (g.vlane (bf x 46 42) l) else acc) (extreme isMax t)

/-- A slot of V3. -/
def Gill.doV3 (g new : Gill) (x : Nat) : Gill :=
  let op := opOf x
  let d := bf x 51 47
  let m := g.mask x
  let a := fun l => g.vlane (bf x 46 42) l
  let n := signed 11 (bf x 10 0)
  match op with
  | 1 => g.vSet new x d (fun l => a (l / 16 * 16 + g.vb x l % 16))
  | 2 => g.vSet new x d (fun l => if 0 ≤ (l : Int) - n ∧ (l : Int) - n < 1024 then a ((l : Int) - n).toNat else 0)
  | 3 => g.vSet new x d (fun l => a (((l : Int) - n) % 1024).toNat)
  | 4 => g.vSet new x d (fun _ => a (bf x 9 0))
  | 5 => new.setV d (fun l => if l = 0 then g.sumLanes x 0 10 else 0)
  | 6 => new.setV d (fun l => if l = 0 then g.extLanes x true else 0)
  | 7 => new.setV d (fun l => if l = 0 then g.extLanes x false else 0)
  | 8 =>
    let mx := g.extLanes x true
    let at_ := (List.range 1024).find? (fun l => g.contrib x l && vCmp 0x10 (bf x 36 34) (a l) mx)
    new.setV d (fun l => if l = 0 then mx else if l = 1 then at_.getD 0xFFFFFFFF else 0)
  | 9 => if m.testBit (bf x 9 0) then new.setS (bf x 21 16) (a (bf x 9 0)) else new
  | 0xA => new.setV d (fun l => if l = bf x 9 0 ∧ m.testBit l then g.sreg (bf x 21 16) else g.vlane d l)
  | _ => new.setV d (fun l => if l % 16 = 0 then g.sumLanes x l 4 else 0)

/-! ## Matrix (R421 to R423) -/

/-- One byte of a tile's weight buffer. -/
def Gill.wbyte (g : Gill) (t o : Nat) : Nat := (Sparse.get g.wb (t * 8192 + o) 0).toNat

/-- The integer product of input `k` and weight (row, j). -/
def mmaInt (t x w : Nat) : Int :=
  match t with
  | 0 => signed 8 x * signed 8 w
  | 1 => (x : Int) * signed 8 w
  | _ => signed 4 x * signed 4 w

/-- The floating-point product of an input and a weight, exact. -/
def mmaF (t x w : Nat) : FVal := if t = 3 then (fp8 x).mul (fp8 w) else (f32 (bf16to32 x)).mul (f32 (bf16to32 w))

/-- Input element `k` of a lane. -/
def mmaIn (t half lane k : Nat) : Nat :=
  let h := if t = 4 then lane else lane / 2 ^ (16 * half) % 65536
  if t = 2 then bf h (4 * k + 3) (4 * k) else if t = 4 then bf h (16 * k + 15) (16 * k) else bf h (8 * k + 7) (8 * k)

/-- Weight (row, j) of a tile. -/
def Gill.mmaW (g : Gill) (t tile row j : Nat) : Nat :=
  if t = 2 then
    let b := g.wbyte tile (8 * row + j / 2)
    bf b (4 * (j % 2) + 3) (4 * (j % 2))
  else if t = 4 then g.wbyte tile (32 * row + 2 * j) + 256 * g.wbyte tile (32 * row + 2 * j + 1)
  else g.wbyte tile (16 * row + j)

/-- One lane of an MMA's new accumulator. -/
def Gill.mmaLane (g : Gill) (x l : Nat) : Nat :=
  let t := bf x 43 40
  let tile := l / 16
  let ln := g.vlane (bf x 48 44) (16 * tile + bf x 39 36)
  let old := g.alane (bf x 51 49) l
  let row := bf x 34 25
  let zero := bf x 24 24 == 1
  let ks := List.range (mmaK t)
  if t ≤ 2 then
    let s := ks.foldl (fun acc k =>
      acc + mmaInt t (mmaIn t (bf x 35 35) ln k) (g.mmaW t tile (row + k) (l % 16))) (0 : Int)
    wrap32 (if zero then s else s + old)
  else
    let s := (ks.tail.foldl (fun acc k =>
      acc.add (mmaF t (mmaIn t (bf x 35 35) ln k) (g.mmaW t tile (row + k) (l % 16))))
      (mmaF t (mmaIn t (bf x 35 35) ln 0) (g.mmaW t tile row (l % 16)))).bits
    if zero then s else fadd old s

/-- MMA. -/
def Gill.doMma (g new : Gill) (x : Nat) : Gill :=
  let m := g.mask x
  let r := bf x 51 49
  new.setA r (fun l => if m.testBit l then g.mmaLane x l else g.alane r l)

/-- An integer shifted right, rounded half to even. -/
def shiftRne (i : Int) (k : Nat) : Int :=
  let q := i / (2 ^ k : Nat)
  let r := i % (2 ^ k : Nat)
  if (2 ^ k : Nat) < 2 * r ∨ (2 * r = (2 ^ k : Nat) ∧ q % 2 = 1) then q + 1 else q

/-- MRD's conversion of an accumulator lane. -/
def mrdLane (outt shift a : Nat) : Nat :=
  let i := signed 32 a
  match outt with
  | 0 => wrap32 (i / (2 ^ shift : Nat))
  | 1 => wrap32 (satInt (-128) 127 (shiftRne i shift))
  | 2 => wrap32 (satInt 0 255 (shiftRne i shift))
  | 3 => wrap32 (satInt (-32768) 32767 (shiftRne i shift))
  | 4 => a
  | _ => (f32 a).bf16

/-- MRD, MCLR and MWR. -/
def Gill.doM1 (g new : Gill) (x : Nat) : Gill :=
  let m := g.mask x
  let r := bf x 51 49
  match opOf x with
  | 2 => g.vSet new x (bf x 48 44) (fun l => mrdLane (bf x 25 23) (bf x 30 26) (g.alane r l))
  | 3 => new.setA r (fun l => if m.testBit l then 0 else g.alane r l)
  | _ => new.setA r (fun l => if m.testBit l then g.vlane (bf x 48 44) l else g.alane r l)

/-! ## Address-generator descriptors (R450 to R455, R465, R466) -/

/-- A field of a descriptor word. -/
def df (d : List Nat) (w hi lo : Nat) : Nat := bf (d.getD w 0) hi lo

/-- The block size of an access element. -/
def dBlock (d : List Nat) : Nat :=
  match df d 0 17 16 with
  | 0 => 64
  | 3 => 32
  | _ => 16

/-- R465: the reason a descriptor stops the gill: 1 field, 2 PIXB, 3 position; 0 for none. -/
def dBad (d : List Nat) : Nat :=
  if df d 3 23 16 = 0 ∨ df d 4 3 0 = 0 ∨ df d 4 7 4 = 0 ∨ df d 4 25 20 = 0 ∨ df d 2 15 0 = 0
      ∨ df d 2 31 16 = 0 ∨ df d 5 31 16 = 0 ∨ df d 0 23 20 ≠ 0 ∨ df d 4 31 30 ≠ 0 ∨ df d 6 31 22 ≠ 0
      ∨ df d 7 31 26 ≠ 0 then 1
  else if df d 1 15 0 < df d 4 25 20 * dBlock d then 2
  else if df d 4 25 20 ≤ df d 6 5 0 ∨ df d 4 3 0 ≤ df d 6 9 6 ∨ df d 4 7 4 ≤ df d 6 13 10
      ∨ df d 3 23 16 ≤ df d 6 21 14 ∨ df d 5 31 16 ≤ df d 7 15 0 then 3
  else 0

/-- BASE, PIXB or ROWB off the block size (R465). -/
def dAlign (d : List Nat) : Bool :=
  df d 0 15 0 % dBlock d != 0 || df d 1 15 0 % dBlock d != 0 || df d 1 31 16 % dBlock d != 0

/-- Clamps or mirrors a coordinate (R452). -/
def padCoord (pad : Nat) (n i : Int) : Int :=
  if 0 ≤ i ∧ i < n then i
  else
    let i := if pad = 3 then (if i < 0 then -i else 2 * n - 2 - i) else i
    max 0 (min i (n - 1))

/-- The access of a tile at the current position (R451): whether it is inside, and lc, lr and the address. -/
def dAccess (d : List Nat) (t : Nat) : Bool × Int × Int × Int :=
  let tw : Int := df d 3 23 16
  let sx : Int := df d 4 10 8 + 1
  let sy : Int := df d 4 13 11 + 1
  let dx : Int := df d 4 16 14 + 1
  let dy : Int := df d 4 19 17 + 1
  let padl : Int := df d 3 27 24
  let padt : Int := df d 3 31 28
  let ox : Int := t * tw + df d 6 21 14
  let oy : Int := df d 5 15 0 + df d 7 15 0
  let ix := ox * sx + df d 6 9 6 * dx - padl
  let iy := oy * sy + (df d 4 29 26 + df d 6 13 10 : Nat) * dy - padt
  let w : Int := df d 2 15 0
  let h : Int := df d 2 31 16
  let ins := decide (0 ≤ ix) && decide (ix < w) && decide (0 ≤ iy) && decide (iy < h)
  let pad := df d 0 19 18
  let ix' := if ins then ix else padCoord pad w ix
  let iy' := if ins then iy else padCoord pad h iy
  let lc := ix' - (t * tw * sx - padl)
  let lr := iy' - signed 16 (df d 3 15 0)
  (ins, lc, lr, df d 0 15 0 + lr * df d 1 31 16 + lc * df d 1 15 0 + df d 6 5 0 * dBlock d)

/-- Whether an access touches SRAM (R466). -/
def dTouches (d : List Nat) (store inside : Bool) : Bool := inside || (!store && 2 ≤ df d 0 19 18)

/-- R466 in one tile. -/
def dRange (d : List Nat) (store : Bool) (t : Nat) : Bool :=
  match dAccess d t with
  | (ins, lc, lr, a) =>
    let lim : Int := min (if df d 7 25 16 = 0 then 65536 else 64 * df d 7 25 16) 65536
    !dTouches d store ins || (decide (0 ≤ lr) && decide (0 ≤ lc) && decide (a + dBlock d ≤ lim))

/-- Advances a descriptor `n` steps (R453). -/
def dStep (d : List Nat) (n : Nat) : List Nat :=
  let c := [df d 4 25 20, df d 4 3 0, df d 4 7 4, df d 3 23 16, df d 5 31 16]
  let p := [df d 6 5 0, df d 6 9 6, df d 6 13 10, df d 6 21 14, df d 7 15 0]
  let r := (List.range 5).foldl (fun (acc : List Nat × Nat) k =>
    let m := max 1 (c.getD k 1)
    let v := p.getD k 0 + acc.2
    (acc.1 ++ [v % m], v / m)) ([], n)
  let q := r.1
  (d.set 6 (d.getD 6 0 / 2 ^ 22 * 2 ^ 22 + q.getD 0 0 % 64 + q.getD 1 0 % 16 * 2 ^ 6 + q.getD 2 0 % 16 * 2 ^ 10
      + q.getD 3 0 % 256 * 2 ^ 14)).set 7 (d.getD 7 0 / 65536 * 65536 + q.getD 4 0 % 65536)

/-- GRST. -/
def dReset (d : List Nat) : List Nat := (d.set 6 0).set 7 (d.getD 7 0 / 65536 * 65536)

/-- A lane that padding fills (R452). -/
def dPadLane (d : List Nat) : Nat :=
  if df d 0 19 18 = 0 then 0
  else
    let b := df d 0 31 24
    match df d 0 17 16 with
    | 0 => b * 0x01010101
    | 2 => b
    | _ => unsignedOf 32 (signed 8 b)

/-- Lane `j` of a block of bytes (R454). -/
def dLane (d : List Nat) (b : List Byte) (j : Nat) : Nat :=
  match df d 0 17 16 with
  | 0 => leAt b (4 * j) 4
  | 1 => unsignedOf 32 (signed 8 (leAt b j 1))
  | 2 => leAt b j 1
  | _ => unsignedOf 32 (signed 16 (leAt b (2 * j) 2))

/-- Bytes a lane stores through a descriptor. -/
def dElemBytes (d : List Nat) : Nat := dBlock d / 16

end Sys2Proof.Machine
end

