-- ==== Sys2Proof/Machine/Gill.lean ====
section
/-! DEFINITION. Gill: a gill's bundles, one at a time: hazards, stop conditions, waits, effects, global
accesses, messages and the course of an invocation (R407 to R440). -/

namespace Sys2Proof.Machine

/-! ## A gill -/

def State.gl (s : State) (g : Nat) : Gill := s.gill.getD g {}
def State.setGl (s : State) (g : Nat) (x : Gill) : State :=
  { s with gill := setAt s.gill g x }.setF (R.GILL_LOOP_DEPTH g) x.loops.length

/-- The state of a gill: 0 IDLE, 1 RUN, 2 STALL, 3 WAIT, 4 HALTED, 5 FAULTED, 6 SAVING, 7 OFF. -/
def State.gst (s : State) (g : Nat) : Nat := s.fld (R.GILL_STATUS_STATE g)
def State.gpc (s : State) (g : Nat) : Nat := s.fld (R.GILL_PC_PC g)
def State.gpart (s : State) (g : Nat) : Nat := s.fld (R.GILL_STATUS_PART g)

/-- CORE's frequency in MHz (R100). -/
def State.coreMhz (s : State) : Nat := s.fld R.CLK_CORE_CORE_MHZ

/-- The program a gill runs. -/
def State.gprog (s : State) (g : Nat) : Option ProgRec :=
  s.img.active.bind (·.prog? (s.fld (R.GILL_PC_PROG g)))

/-- The stop of a gill (R439): state, GILL_FAULT, the report, and the outcome for the scheduler.
[Log 52 DESIGN CHOICE] -/
def State.gillStop (s : State) (g slot sts val info : Nat) : State :=
  let s := s.setF (R.GILL_STATUS_STATE g) 5
  let s := ((s.setF (R.GILL_FAULT_STS g) sts).setF (R.GILL_FAULT_SLOT g) slot).setF (R.GILL_FAULT_PC g) (s.gpc g)
  let s := s.setF (R.GILL_FAULT_INFO_INFO g) info
  let s := (s.setGl g { s.gl g with outcome := some sts, blocked := none, granted := none, waiting := false }).cellCancel g
  s.report (R.GILL_STATUS_LAST_STS g) sts (slot * 4096 + val % 4096) g

/-! ## What a slot reads and writes, and when (R409) -/

/-- Weight-buffer units an MMA reads, as keys from 128; 256 is the matrix unit; 264 on, accumulators for MRD. -/
def mmaUnits (x : Nat) : List Nat :=
  let t := bf x 43 40
  let sz := if t = 2 then 8 else if t = 4 then 32 else 16
  let lo := bf x 34 25 * sz / 64
  let hi := ((bf x 34 25 + mmaK t) * sz - 1) / 64
  (List.range (hi - lo + 1)).map (fun j => 128 + lo + j)

/-- The registers and units an enabled slot reads. -/
def slotReads (k x : Nat) : List Nat :=
  let op := opOf x
  let pr := pKey (prOf x)
  if op = 0 then []
  else if k ≤ 1 then
    let a := if 0x20 ≤ op ∧ op ≤ 0x26 then [pKey (bf x 42 40)] else if op = 0x10 ∨ op = 0x28 then [] else [bf x 45 40]
    let b := if 0x20 ≤ op ∧ op ≤ 0x23 then [pKey (bf x 36 34)]
      else if op < 0x20 ∧ bf x 33 32 = 0 then [bf x 39 34] else []
    pr :: a ++ b
  else if k = 2 then (if op = 2 ∨ op = 5 then [pr, bf x 45 40] else [pr])
  else if k ≤ 4 then
    let base := if op = 0x12 ∨ op = 0x13 then [gKey (bf x 39 36)]
      else if 0x20 ≤ op then [bf x 45 40, bf x 45 40 + 1] else [bf x 45 40]
    let data := if 6 ≤ op ∧ op ≤ 8 ∨ op = 0x21 then [bf x 51 46]
      else if op = 0x11 ∨ op = 0x13 ∨ op = 0x23 then [vKey (bf x 50 46)] else []
    pr :: base ++ data
  else if k ≤ 8 then
    let b := match bf x 33 32 with
      | 0 => if k = 8 ∧ op ≠ 1 then [] else [vKey (bf x 41 37)]
      | 1 => [bf x 5 0]
      | _ => []
    let a := if k = 8 ∧ op = 0xA then [bf x 21 16] else [vKey (bf x 46 42)]
    let d := if k = 7 ∧ (op = 3 ∨ op = 9) ∨ (k = 8 ∧ op = 0xA) then [vKey (bf x 51 47)] else []
    pr :: a ++ b ++ d
  else if k = 9 then
    [pr, vKey (bf x 48 44), 256] ++ (if bf x 24 24 = 1 then [] else [aKey (bf x 51 49)]) ++ mmaUnits x
  else if k = 10 then
    match op with
    | 1 => [pr, bf x 43 38]
    | 2 => [pr, 264 + bf x 51 49]
    | 4 => [pr, vKey (bf x 48 44)]
    | _ => [pr]
  else if k ≤ 12 then
    match op with
    | 1 => [pr, bf x 47 42]
    | 2 => [pr, bf x 47 42]
    | 3 => [pr]
    | 5 => [pr, bf x 47 42, gKey (bf x 51 48)]
    | _ => [pr, gKey (bf x 51 48)]
  else if k = 13 then
    match op with
    | 3 => [pr, bf x 45 40]
    | 8 => [pr, bf x 45 40] ++ (List.range (bf x 3 0 + 1)).map (fun j => bf x 51 46 + j)
    | 9 => [pr, bf x 45 40]
    | 0xA => [pr, bf x 51 46]
    | _ => [pr]
  else (if op = 1 then [pr, bf x 51 46] else [pr])

/-- What a slot makes ready, and how many cycles after issue. -/
def slotReady (k x : Nat) : List (Nat × Nat) :=
  let op := opOf x
  let ds := slotDests k x
  let all := fun (n : Nat) => ds.map (fun d => (d, n))
  if op = 0 then []
  else if k ≤ 1 then all (if k ≤ 1 ∧ 3 ≤ op ∧ op ≤ 5 then 2 else 1)
  else if k = 2 then all 1
  else if k ≤ 4 then
    if 0x20 ≤ op then []
    else if op = 0x14 then all 6
    else ds.map (fun d => (d, if 112 ≤ d then 1 else 4))
  else if k ≤ 6 then all 1
  else if k = 7 then
    all (if 6 ≤ op ∧ op ≤ 8 then 6 else if op = 9 ∨ bf x 36 34 = 2 ∨ bf x 36 34 = 5 then 4 else 3)
  else if k = 8 then
    all (match op with
      | 1 => 2
      | 0xB => 4
      | 9 => 8
      | 5 => 10
      | 6 => 10
      | 7 => 10
      | 8 => 10
      | _ => 6)
  else if k = 9 then
    let busy := if bf x 43 40 = 4 then 4 else 1
    [(256, busy), (aKey (bf x 51 49), 1), (264 + bf x 51 49, busy + 3)]
  else if k = 10 then
    match op with
    | 1 => [(128 + bf x 37 31, 4)]
    | 2 => all 2
    | _ => [(aKey (bf x 51 49), 1), (264 + bf x 51 49, 1)]
  else if k ≤ 12 then all (if op = 1 then 4 else if op = 7 then 2 else 1)
  else if k = 13 then all (if op = 5 then 4 else 1)
  else all (if op = 2 then 4 else 1)

/-- Whether a slot is enabled: any lane of a vector slot, lane 0 of another; MLDW and the branch always act. -/
def Gill.enabled (g : Gill) (k x : Nat) : Bool :=
  if opOf x = 0 then false
  else if k = 2 ∨ (k = 10 ∧ opOf x = 1) ∨ ((k = 3 ∨ k = 4) ∧ (opOf x = 0x12 ∨ opOf x = 0x13)) then true
  else if k = 5 ∨ k = 6 ∨ k = 8 then true
  else if laneClass k x then g.mask x != 0
  else g.acts x

/-- The enabled slots, each with its number. -/
def Gill.live (g : Gill) (sl : List Nat) : List (Nat × Nat) :=
  ((List.range 16).map (fun k => (k, sl.getD k 0))).filter (fun p => g.enabled p.1 p.2)

/-! ## Stop conditions (R432, R435, R438) -/

/-- A stop: its slot, status, value and information. -/
structure Stop where
  slot : Nat
  sts  : Nat
  val  : Nat
  info : Nat
  deriving DecidableEq, Repr

/-- The stop of the lowest-numbered slot. [Log 52 DESIGN CHOICE] -/
def firstStop : List Stop → Option Stop
  | [] => none
  | x :: l =>
    match firstStop l with
    | none => some x
    | some y => if y.slot < x.slot then some y else some x

/-- Stops of the encoding: illegal slots, and two slots that name one destination. [Log 52 DESIGN CHOICE] -/
def encStops (sl : List Nat) : List Stop :=
  let at_ := fun k => sl.getD k 0
  let ill := ((List.range 16).filter (fun k => !slotOk k (at_ k))).map (fun k => (⟨k, 0x9801, opOf (at_ k), 0⟩ : Stop))
  let ds := (List.range 16).map (fun k => if slotOk k (at_ k) then slotDests k (at_ k) else [])
  let con := (List.range 16).filterMap (fun k =>
    ((List.range 16).find? (fun j => decide (k < j) && (ds.getD k []).any (fun d => (ds.getD j []).contains d))).map
      (fun j => (⟨k, 0x9802, j, j⟩ : Stop)))
  ill ++ con

/-- The local address of a load or store slot. -/
def Gill.lsAddr (g : Gill) (x : Nat) : Nat := (g.sreg (bf x 45 40) + bf x 31 0) % 2 ^ 32

/-- The global address. -/
def Gill.glAddr (g : Gill) (x : Nat) : Nat :=
  unsignedOf 64 (((g.sreg (bf x 45 40) + 2 ^ 32 * g.sreg (bf x 45 40 + 1) : Nat) : Int) + signed 32 (bf x 31 0))

/-- A local address that is out of range or misaligned stops the gill. -/
def addrStop (k a al : Nat) : Option Stop :=
  if 2 ^ 22 ≤ a ∨ a % al ≠ 0 then some ⟨k, 0x9803, a % 4096, a⟩ else none

/-- A global address that is misaligned. -/
def galignStop (k a al : Nat) : Option Stop :=
  if a % al ≠ 0 then some ⟨k, 0x9803, a % 4096, a % 2 ^ 32⟩ else none

/-- R465 and R466 for the descriptor of a slot: `tiles` are the tiles that access memory. -/
def descStop (k gi : Nat) (d : List Nat) (store : Bool) (tiles : List Nat) : Option Stop :=
  if dBad d ≠ 0 then some ⟨k, 0x980E, gi * 256 + dBad d, gi⟩
  else if dAlign d then some ⟨k, 0x9803, df d 0 15 0 % 4096, df d 0 15 0⟩
  else if tiles.any (fun t => !dRange d store t) then some ⟨k, 0x980E, gi * 256 + 4, gi⟩
  else none

/-- The tiles that hold an enabled lane. -/
def tilesOn (m : Nat) : List Nat := (List.range 64).filter (fun t => m / 2 ^ (16 * t) % 65536 != 0)

/-- Whether a branch slot's condition holds (R414). -/
def Gill.brTaken (g : Gill) (x : Nat) : Bool :=
  let m := g.mask x
  opOf x != 0 && (match bf x 39 38 with
    | 0 => m.testBit 0
    | 1 => m != 0
    | 2 => m == allLanes
    | _ => m == 0)

/-- The back-edges of a bundle at `pc` (R415): the next PC and the loop stack. -/
def backEdge (pc : Nat) : List LoopEnt → Nat × List LoopEnt
  | [] => (pc + 1, [])
  | e :: l =>
    if e.end_ ≠ pc then (pc + 1, e :: l)
    else if 1 < e.count then (e.start, { e with count := e.count - 1 } :: l)
    else backEdge pc l

/-- The next PC, the loop stack, and the cycles a branch adds. -/
def Gill.nextPc (g : Gill) (x pc : Nat) : Nat × List LoopEnt × Nat :=
  let tgt := bf x 11 0
  if g.brTaken x then
    match opOf x with
    | 1 => (tgt, g.loops, 2)
    | 2 => (g.sreg (bf x 45 40) % 4096, g.loops, 2)
    | 3 => (tgt, g.loops, 2)
    | 5 => if g.sreg (bf x 45 40) = 0 then (tgt + 1, g.loops, 0)
        else (pc + 1, ⟨pc + 1, tgt, g.sreg (bf x 45 40)⟩ :: g.loops, 0)
    | 6 => (pc, g.loops, 0)
    | _ => (pc + 1, g.loops.tail, 0)
  else
    let r := backEdge pc g.loops
    (r.1, r.2, 0)

/-- Stops of the branch slot and of the PC. -/
def Gill.brStop (g : Gill) (x pc bundles : Nat) : Option Stop :=
  let tgt := bf x 11 0
  let loop := g.brTaken x && opOf x == 5
  if loop && (decide (tgt < pc + 1) || decide (bundles ≤ tgt)) then some ⟨2, 0x9804, tgt, tgt⟩
  else if loop && g.sreg (bf x 45 40) != 0 && decide (4 ≤ g.loops.length) then some ⟨2, 0x9805, pc, pc⟩
  else
    let n := (g.nextPc x pc).1
    if bundles ≤ n then some ⟨2, 0x9804, n, n⟩ else none

/-- The offsets a message to the track unit may name (R428). -/
def trackOffset (o : Nat) : Bool :=
  o == 0x10840 || o == 0x10844 || o == 0x10848 || o == 0x1084C || o == 0x12404 || o == 0x12408 || o == 0x1240C
    || o == 0x12410

/-- The first word of a track-unit message that is not allowed. -/
def trackBad (w : List Nat) : Option Nat :=
  match (List.range (w.length / 2)).find? (fun k => !trackOffset (w.getD (2 * k) 0)) with
  | some k => some (2 * k)
  | none => if w.length % 2 = 1 then some (w.length - 1) else none

/-- The route set that new flits follow: from the epoch boundary of a change on the new one (R226). -/
def State.routeSet (s : State) : Nat :=
  match s.img.change with
  | some c => if c.flipped then c.next else s.fld R.MESH_ROUTESET_CURRENT
  | none => s.fld R.MESH_ROUTESET_CURRENT

/-- The compiled routes that new flits follow. -/
def State.curRoutes (s : State) : List CRoute :=
  match s.img.active with
  | none => []
  | some im => ((im.sets.find? (·.1 == s.routeSet)).map (·.2)).getD []

/-- Whether a message travels on a route: gill to endpoint, by their own codes or their partitions'. A message of the prefix
walker comes from its own code. -/
def State.onRoute (s : State) (r : CRoute) (f : Flight) : Bool :=
  r.vc == 3
    && (if f.gill < 64 then r.src == 0x1000 + f.gill || r.src == 0xC000 + s.gpart f.gill else r.src == 0x9000)
    && (r.dst == f.dst || (f.dst / 4096 == 1 && r.dst == 0xC000 + s.gpart (f.dst % 4096)))

/-- Whether a message of the new tag waits at its source: its route is held until the flits of the old tag on it have been
returned as credit (R226). -/
def State.flightHeld (s : State) (f : Flight) : Bool :=
  match s.img.change with
  | some c => c.flipped && f.tag == s.fld R.MESH_ROUTESET_EPOCH
      && c.held.any (fun i => match s.curRoutes[i]? with
        | some r => s.onRoute r f
        | none => false)
  | none => false

/-- Whether a gill may bind a port to an endpoint (R427, R543). -/
def State.mayBind (s : State) (g e dport : Nat) : Bool :=
  let p := s.gpart g
  let rs := s.curRoutes
  let whole := match s.img.active.bind (·.part? p) with
    | some r => (bitsOf 64 r.mask).all (fun k => (s.gl g).gang.contains k)
    | none => false
  (hasRoute rs (0x1000 + g) e 3 false || hasRoute rs (0xC000 + p) e 3 false)
    && (if e / 4096 = 1 then (s.gl g).gang.contains (e % 4096)
        else if e / 4096 = 12 then e == 0xC000 + p && (dport == 7 || whole)
        else e / 4096 != 0)

/-- The words a QSEND sends. -/
def Gill.qWords (g : Gill) (x : Nat) : List Nat := (List.range (bf x 3 0 + 1)).map (fun j => g.sreg (bf x 51 46 + j))

/-- Stops of an enabled slot's operands. A send over a route that is no longer in force stops as one of an unbound port.
[Log 31 DESIGN CHOICE, 51 DESIGN CHOICE] -/
def State.slotStop (s : State) (gi : Nat) (g : Gill) (k x : Nat) : Option Stop :=
  let op := opOf x
  if k = 3 ∨ k = 4 then
    if op = 1 ∨ op = 2 ∨ op = 6 then addrStop k (g.lsAddr x) 1
    else if op = 3 ∨ op = 4 ∨ op = 7 then addrStop k (g.lsAddr x) 2
    else if op = 5 ∨ op = 8 then addrStop k (g.lsAddr x) 4
    else if op = 0x10 ∨ op = 0x11 ∨ op = 0x14 then addrStop k (g.lsAddr x) 64
    else if op = 0x12 ∨ op = 0x13 then
      descStop k (bf x 39 36) (g.g.getD (bf x 39 36) []) (op == 0x13) (tilesOn (g.mask x))
    else if op = 0x20 ∨ op = 0x21 then galignStop k (g.glAddr x) 4
    else galignStop k (g.glAddr x) 64
  else if k = 10 ∧ op = 1 then addrStop k ((g.sreg (bf x 43 38) + unsignedOf 32 (signed 16 (bf x 15 0))) % 2 ^ 32) 64
  else if k = 11 ∨ k = 12 then
    if op = 1 then addrStop k ((g.sreg (bf x 47 42) + bf x 31 0) % 2 ^ 32) 32
    else if op = 7 then descStop k (bf x 51 48) (g.g.getD (bf x 51 48) []) false []
    else none
  else if k = 13 then
    let q := bf x 39 37
    let b := (g.ports.getD q {}).bound
    if op = 8 then
      match b with
      | none => some ⟨k, 0x980A, q, q⟩
      | some (e, dp) =>
        if !s.mayBind gi e dp then some ⟨k, 0x980A, q, q⟩
        else if e = 0x6000 then (trackBad (g.qWords x)).map (fun w => ⟨k, 0x9809, w, (g.qWords x).getD w 0⟩) else none
    else if op = 9 then (if b = none then some ⟨k, 0x980A, q, q⟩ else none)
    else if op = 0xA then
      let w := g.sreg (bf x 51 46)
      if s.mayBind gi (w % 65536) (w / 65536 % 8) then none else some ⟨k, 0x980A, q, q⟩
    else none
  else if k = 14 ∧ op = 1 then
    addrStop k ((g.sreg (bf x 51 46) + unsignedOf 32 (signed 16 (bf x 15 0))) % 2 ^ 32) 1
  else none

/-! ## Waits (R425 to R427, R429, R499) -/

/-- Nothing earlier of the gill remains to be performed (R425 FENCE). -/
def State.drained (s : State) (gi : Nat) : Bool :=
  (s.gl gi).acc.all (fun a => !a.write) && (s.gl gi).sincs.isEmpty && s.flights.all (fun f => f.gill != gi)

/-- The gills of a partition. -/
def State.partGills (s : State) (p : Nat) : List Nat :=
  match s.img.active.bind (·.part? p) with
  | some r => (bitsOf 64 r.mask).filter (· < s.gills)
  | none => []

/-- The gill ports that a message to an endpoint goes to; none for a unit or a dispatcher. -/
def State.receivers (s : State) (e dport : Nat) : List Nat :=
  if e / 4096 = 1 then [e % 4096]
  else if e / 4096 = 12 ∧ dport ≠ 7 then s.partGills (e % 4096)
  else []

/-- The lanes of its destination that an enabled slot writes; bit 0 for a scalar. -/
def Gill.writes (g : Gill) (k x : Nat) : Nat :=
  if k = 8 ∧ opOf x = 9 then (if (g.mask x).testBit (bf x 9 0) then 1 else 0)
  else if k = 8 ∧ (5 ≤ opOf x ∧ opOf x ≤ 8 ∨ opOf x = 0xB) then allLanes
  else if laneClass k x then g.mask x else allLanes

/-- The loads in flight after a bundle: what its slots write stays written when an earlier load returns, so that the
registers follow the order of the program (R434). -/
def Gill.overwritten (g : Gill) (live : List (Nat × Nat)) : List GAcc :=
  g.acc.map (fun a =>
    let ws := if a.write then [] else live.filter (fun p => (slotDests p.1 p.2).contains a.reg)
    { a with lapsed := ws.foldl (fun m p => m ||| g.writes p.1 p.2 / 2 ^ (16 * a.tile) % 65536) a.lapsed })

/-- Whether every receiver of a port's destination has a credit (R427). -/
def State.hasCredit (s : State) (e dport : Nat) : Bool :=
  (s.receivers e dport).all (fun r => decide ((((s.gl r).ports.getD dport {}).used) < 16))

/-- How the sync slot of a bundle stands: it must wait, it acts, or a timed operation has timed out. -/
inductive SyRes where
  | wait
  | go
  | timeout
  deriving DecidableEq, Repr

/-- The sync slot's wait. -/
def State.syWait (s : State) (gi : Nat) (g : Gill) (x : Nat) : SyRes :=
  let byGrant := match g.granted with
    | some true => SyRes.go
    | some false => SyRes.timeout
    | none => SyRes.wait
  match opOf x with
  | 2 => byGrant
  | 3 => byGrant
  | 4 => if (s.cellWaiters (bf x 31 20)).isEmpty && decide (bf x 19 4 ≤ s.fld (R.SYNC_COUNT_COUNT (bf x 31 20))) then .go
      else .timeout
  | 6 => if s.drained gi || g.granted == some true then .go else .wait
  | 8 =>
    match (g.ports.getD (bf x 39 37) {}).bound with
    | some (e, p) => if s.hasCredit e p then .go else byGrant
    | none => .go
  | 9 => if (g.ports.getD (bf x 39 37) {}).recv.isEmpty then byGrant else .go
  | _ => .go

/-- A bundle waits: it joins a cell's wait list once, and counts its wait from now. -/
def State.startWait (s : State) (gi x : Nat) (onCell : Bool) : State :=
  let g := s.gl gi
  let s := s.setF (R.GILL_STATUS_STATE gi) 3
  let s := if onCell && !g.waiting then s.cellWait (bf x 31 20) gi (bf x 19 4) else s
  s.setGl gi { g with blocked := some (g.blocked.getD s.now), waiting := g.waiting || onCell }

/-- The cycles since a bundle began to wait. -/
def State.waitedCycles (s : State) (g : Gill) : Nat :=
  match g.blocked with
  | some t => (s.now - t) * s.coreMhz / 1000
  | none => 0

/-! ## Effects of a bundle -/

/-- Loads `n` bytes of a gill's local memory. -/
def State.glBytes (s : State) (gi a n : Nat) : List Byte := s.sramBytes (gi * 2 ^ 22 + a) n

/-- A local load or MFS-free scalar result of LS slots, from the memory before the bundle. -/
def State.doLoad (s : State) (gi : Nat) (g new : Gill) (x : Nat) : Gill :=
  let op := opOf x
  let a := g.lsAddr x
  let r := bf x 50 46
  let m := g.mask x
  let tl := fun (t : Nat) => s.glBytes gi (t * 65536 + a % 65536) 64
  match op with
  | 1 => new.setS (bf x 51 46) (leAt (s.glBytes gi a 1) 0 1)
  | 2 => new.setS (bf x 51 46) (unsignedOf 32 (signed 8 (leAt (s.glBytes gi a 1) 0 1)))
  | 3 => new.setS (bf x 51 46) (leAt (s.glBytes gi a 2) 0 2)
  | 4 => new.setS (bf x 51 46) (unsignedOf 32 (signed 16 (leAt (s.glBytes gi a 2) 0 2)))
  | 5 => new.setS (bf x 51 46) (leAt (s.glBytes gi a 4) 0 4)
  | 0x10 => new.setV r (fun l => if m.testBit l then leAt (tl (l / 16)) (4 * (l % 16)) 4 else g.vlane r l)
  | 0x14 =>
    let b := s.glBytes gi a 64
    new.setV r (fun l => if m.testBit l then leAt b (4 * (l % 16)) 4 else g.vlane r l)
  | 0x12 =>
    let d := g.g.getD (bf x 39 36) []
    let blk := fun (t : Nat) => match dAccess d t with
      | (ins, _, _, ad) => if dTouches d false ins then some (s.glBytes gi (t * 65536 + ad.toNat) (dBlock d)) else none
    let new := new.setV r (fun l =>
      if m.testBit l then
        match blk (l / 16) with
        | some b => dLane d b (l % 16)
        | none => dPadLane d
      else g.vlane r l)
    { new with g := new.g.set (bf x 39 36) (dStep d 1) }
  | 0x13 => { new with g := new.g.set (bf x 39 36) (dStep (g.g.getD (bf x 39 36) []) 1) }
  | _ => new

/-- Stores `n` bytes of each enabled lane of a tile. -/
def State.storeLanes (s : State) (gi base t m : Nat) (n : Nat) (v : Nat → Nat) : State :=
  (List.range 16).foldl (fun s j =>
    if m.testBit (16 * t + j) then s.setSram (gi * 2 ^ 22 + t * 65536 + base + n * j) (leBytes n (v (16 * t + j))) else s) s

/-- A local store. -/
def State.doStore (s : State) (gi : Nat) (g : Gill) (x : Nat) : State :=
  let a := g.lsAddr x
  let v := g.sreg (bf x 51 46)
  let m := g.mask x
  let vl := fun l => g.vlane (bf x 50 46) l
  match opOf x with
  | 6 => s.setSram (gi * 2 ^ 22 + a) (leBytes 1 v)
  | 7 => s.setSram (gi * 2 ^ 22 + a) (leBytes 2 v)
  | 8 => s.setSram (gi * 2 ^ 22 + a) (leBytes 4 v)
  | 0x11 => (List.range 64).foldl (fun s t => s.storeLanes gi (a % 65536) t m 4 vl) s
  | 0x13 =>
    let d := g.g.getD (bf x 39 36) []
    (List.range 64).foldl (fun s t => match dAccess d t with
      | (ins, _, _, ad) => if ins then s.storeLanes gi ad.toNat t m (dElemBytes d) vl else s) s
  | _ => s

/-- The blocks of a global access of slot `k`, without their transaction slots. [Log 51 DESIGN CHOICE] -/
def Gill.glBlocks (g : Gill) (k x seq : Nat) : List GAcc :=
  let a := g.glAddr x
  let m := g.mask x
  let r := bf x 50 46
  match opOf x with
  | 0x20 => [⟨k, 0, seq, false, a, 4, bf x 51 46, 0, 1, [], 0, 0⟩]
  | 0x21 => [⟨k, 0, seq, true, a, 4, 0, 0, 1, leBytes 4 (g.sreg (bf x 51 46)), 0, 0⟩]
  | 0x22 => (List.range 64).map (fun t =>
      (⟨k, 0, seq, false, (a + 64 * t) % 2 ^ 64, 64, 64 + r, t, m / 2 ^ (16 * t) % 65536, [], 0, 0⟩ : GAcc))
  | 0x23 => (List.range 64).map (fun t =>
      (⟨k, 0, seq, true, (a + 64 * t) % 2 ^ 64, 64, 64 + r, t, m / 2 ^ (16 * t) % 65536,
        (List.range 16).flatMap (fun j => leBytes 4 (g.vlane r (16 * t + j))), 0, 0⟩ : GAcc))
  | _ => []

/-- Transaction slots taken. -/
def Gill.slotsUsed (g : Gill) : List Nat := (g.acc.filter (·.st == 0)).map (·.slot)

/-- Free transaction slots, from one that a free value names on. -/
def Gill.freeSlots (g : Gill) (f : Nat) : List Nat :=
  let l := (List.range 64).filter (fun k => !g.slotsUsed.contains k)
  l.rotateLeft (f % (l.length + 1))

/-- Issues the global accesses of a bundle, loads first (R433). -/
def State.doGlobal (s : State) (gi : Nat) (old : Gill) (live : List (Nat × Nat)) : State :=
  let ls := live.filter (fun p => (p.1 == 3 || p.1 == 4) && 0x20 ≤ opOf p.2)
  if ls = [] then s
  else
    let g := s.gl gi
    let bl := ls.flatMap (fun p => old.glBlocks p.1 p.2 g.seq)
    let bl := bl.filter (fun a => !a.write) ++ bl.filter (·.write)
    let (f, s) := s.fresh
    let acc := (bl.zip (g.freeSlots f)).map (fun p => { p.1 with slot := p.2 })
    (s.setGl gi { g with acc := g.acc ++ acc }).inc (R.GILL_CNT_GLOBAL_COUNT gi) bl.length

/-- The value MFS reads (R413). -/
def State.mfs (s : State) (gi : Nat) (g : Gill) (k : Nat) : Nat :=
  let ps := s.partGills (s.gpart gi)
  match k with
  | 0 => gi
  | 1 => s.gpart gi
  | 2 => (ps.filter (· < gi)).length
  | 3 => ps.length
  | 4 => g.cyc % 2 ^ 32
  | 5 => g.cycHi
  | 6 => (s.rd R.SYS_TILE_VER).toNat
  | _ => g.starts % 2 ^ 32

/-- A scalar slot. -/
def State.doScalar (s : State) (gi : Nat) (g new : Gill) (x : Nat) : Gill :=
  let op := opOf x
  let a := g.sreg (bf x 45 40)
  let b := if bf x 33 32 = 1 then bf x 31 0 else g.sreg (bf x 39 34)
  if op ≤ 0x10 then new.setS (bf x 51 46) (scalarAlu op a b)
  else if op ≤ 0x1D then new.setP (bf x 48 46) (boolLanes (scalarCmp op a b))
  else if op ≤ 0x23 then new.setP (bf x 48 46) (predAlu op (g.preg (bf x 42 40)) (g.preg (bf x 36 34)))
  else if op = 0x25 then new.setS (bf x 51 46) ((List.range 1024).filter (fun l => (g.preg (bf x 42 40)).testBit l)).length
  else if op = 0x26 then
    new.setS (bf x 51 46) (((List.range 1024).find? (fun l => (g.preg (bf x 42 40)).testBit l)).getD 0xFFFFFFFF)
  else
    let new := new.setS (bf x 51 46) (s.mfs gi g (bf x 2 0))
    if bf x 2 0 = 4 then { new with cycHi := g.cyc / 2 ^ 32 % 2 ^ 32 } else new

/-- MLDW: each tile's 64 bytes into its weight buffer. -/
def State.doMldw (s : State) (gi : Nat) (g new : Gill) (x : Nat) : Gill :=
  let a := (g.sreg (bf x 43 38) + unsignedOf 32 (signed 16 (bf x 15 0))) % 65536
  { new with wb := (List.range 64).foldl (fun wb t =>
      (s.glBytes gi (t * 65536 + a) 64).zipIdx.foldl (fun wb p =>
        Sparse.put wb (t * 8192 + 64 * bf x 37 31 + p.2) p.1 0) wb) new.wb }

/-- An address-generator slot. -/
def State.doAg (s : State) (gi : Nat) (g new : Gill) (x : Nat) : Gill :=
  let r := bf x 51 48
  let d := g.g.getD r []
  let sv := g.sreg (bf x 47 42)
  match opOf x with
  | 1 =>
    let b := s.glBytes gi ((sv + bf x 31 0) % 2 ^ 22) 32
    { new with g := new.g.set r ((List.range 8).map (fun k => leAt b (4 * k) 4)) }
  | 2 => { new with g := new.g.set r (d.set (bf x 41 39) sv) }
  | 3 => { new with g := new.g.set r (d.set (bf x 41 39) (bf x 31 0)) }
  | 4 => { new with g := new.g.set r (dReset d) }
  | 5 => { new with g := new.g.set r (dStep d sv) }
  | 6 => new.setS (bf x 47 42) (d.getD (bf x 41 39) 0)
  | _ => new.setP (bf x 37 35) (lanesOf (fun l => (dAccess d (l / 16)).1))

/-- The register results of a bundle's enabled slots but the sync and DMA slots'. -/
def State.doRegs (s : State) (gi : Nat) (g new : Gill) (k x : Nat) (pc : Nat) : Gill :=
  if k ≤ 1 then s.doScalar gi g new x
  else if k = 2 then (if opOf x = 3 ∧ g.brTaken x then new.setS (bf x 51 46) (pc + 1) else new)
  else if k ≤ 4 then s.doLoad gi g new x
  else if k ≤ 6 then g.doV01 new x
  else if k = 7 then g.doV2 new x
  else if k = 8 then g.doV3 new x
  else if k = 9 then g.doMma new x
  else if k = 10 then (if opOf x = 1 then s.doMldw gi g new x else g.doM1 new x)
  else if k ≤ 12 then s.doAg gi g new x
  else new

/-- SINCs whose earlier stores and messages are all performed are performed, in order (R426). -/
def State.settle (gi : Nat) : Nat → State → State
  | 0, s => s
  | n + 1, s =>
    let g := s.gl gi
    match g.sincs with
    | [] => s
    | (q, c, k) :: rest =>
      if g.acc.all (fun a => !a.write || decide (q ≤ a.seq)) && s.flights.all (fun f => f.gill != gi || decide (q ≤ f.seq)) then
        State.settle gi n ((s.setGl gi { g with sincs := rest }).cellAdd c k (0x1000 + gi) (some (s.gpart gi))).2
      else s

/-- Performs what is due of a gill's counts. -/
def State.settleAll (s : State) (gi : Nat) : State := State.settle gi ((s.gl gi).sincs.length + 1) s

/-- A message leaves: a credit of each receiver is taken, and one message for each is on its way. -/
def State.doSend (s : State) (gi q e dport : Nat) (w : List Nat) : State :=
  let rs := s.receivers e dport
  let seq := (s.gl gi).seq
  let tag := s.fld R.MESH_ROUTESET_EPOCH
  if rs = [] then { s with flights := s.flights ++ [(⟨gi, q, e, dport, w, seq, tag⟩ : Flight)] }
  else rs.foldl (fun s r =>
    let g := s.gl r
    let p := g.ports.getD dport {}
    { (s.setGl r { g with ports := g.ports.set dport { p with used := p.used + 1 } }) with
      flights := s.flights ++ [(⟨gi, q, 0x1000 + r, dport, w, seq, tag⟩ : Flight)] }) s

/-- The sync slot's effect; `ok` is false for a timeout. The registers are written into the gill. -/
def State.doSy (s : State) (gi : Nat) (old : Gill) (x : Nat) (ok : Bool) : State :=
  let cell := bf x 31 20
  let n := bf x 19 4
  let g := s.gl gi
  let p := fun (g : Gill) => g.setP (bf x 36 34) (boolLanes ok)
  let q := bf x 39 37
  match opOf x with
  | 1 => s.setGl gi { g with sincs := g.sincs ++ [(g.seq, cell, n)] }
  | 3 => s.setGl gi (p g)
  | 4 =>
    let s := s.setGl gi (p g)
    if ok then s.setF (R.SYNC_COUNT_COUNT cell) (s.fld (R.SYNC_COUNT_COUNT cell) - n) else s
  | 5 => s.setGl gi (g.setS (bf x 51 46) (s.fld (R.SYNC_COUNT_COUNT cell)))
  | 8 =>
    let s := s.setGl gi (p g)
    match ok, (old.ports.getD q {}).bound with
    | true, some (e, dp) => s.doSend gi q e dp (old.qWords x)
    | _, _ => s
  | 9 =>
    let pt := g.ports.getD q {}
    match ok, pt.recv with
    | true, msg :: rest =>
      let g := { g with ports := g.ports.set q { pt with recv := rest, back := pt.back + 1 } }
      s.setGl gi (p (msg.words.zipIdx.foldl (fun g w => g.setS (bf x 51 46 + w.2) w.1) g))
    | _, _ => s.setGl gi (p g)
  | 0xA =>
    let w := old.sreg (bf x 51 46)
    s.setGl gi { g with ports := g.ports.set q { g.ports.getD q {} with bound := some (w % 65536, w / 65536 % 8) } }
  | _ => s

/-- The DMA slot's effect (R429). -/
def State.doDma (s : State) (gi : Nat) (old : Gill) (x : Nat) : State :=
  let e := bf x 45 42
  if opOf x = 1 then
    let a := (old.sreg (bf x 51 46) + unsignedOf 32 (signed 16 (bf x 15 0))) % 2 ^ 32
    s.chainPush e ⟨a, some gi, some (s.gpart gi), if bf x 29 29 = 1 then some (bf x 41 30) else none, none⟩
  else s.setGl gi ((s.gl gi).setS (bf x 51 46) ((s.rd (R.DMA_ENG_STATUS e)).toNat))

/-- The cycle at which every register and unit the slots read is ready. [Log 53 DESIGN CHOICE] -/
def Gill.readyAt (g : Gill) (live : List (Nat × Nat)) : Nat :=
  (live.flatMap (fun p => slotReads p.1 p.2)).foldl (fun m k => max m (Sparse.get g.ready k 0)) g.cyc

/-- The count registers of the timing window: those of the gill that MESH_TW_SRC names, or the largest among a
partition's gills (R643). -/
def State.twRegs (s : State) : State :=
  let src := s.fld R.MESH_TW_SRC_SRC
  let gs := if src / 4096 = 12 then s.partGills (src % 4096) else if src / 4096 = 1 then [src % 4096] else []
  let top := fun (f : Nat × Nat × Nat → Nat) =>
    min (gs.foldl (fun m g => max m (f (Sparse.get s.tw.counts g (0, 0, 0)))) 0) (2 ^ 32 - 1)
  ((s.setF R.MESH_TW_G_G (top (·.1))).setF R.MESH_TW_REF_NS_NS (top (·.2.1))).setF R.MESH_TW_RETRY_NS_NS (top (·.2.2))

/-- Adds to a gill's counts while the timing window is open. [Log 53 DESIGN CHOICE] -/
def State.twCount (s : State) (gi n ref retry : Nat) : State :=
  if s.bit R.MESH_TW_CTRL_OPEN then
    let c := Sparse.get s.tw.counts gi (0, 0, 0)
    { s with tw.counts := Sparse.put s.tw.counts gi (c.1 + n, c.2.1 + ref, c.2.2 + retry) (0, 0, 0) }.twRegs
  else s

/-- The operations of a bundle that cross into the MESH domain (R624). -/
def Gill.crossings (g : Gill) (live : List (Nat × Nat)) : Nat :=
  sumOf live (fun p => if p.1 = 3 ∨ p.1 = 4 then (if 0x20 ≤ opOf p.2 then (g.glBlocks p.1 p.2 0).length else 0)
    else if p.1 = 13 then 1 else if p.1 = 14 ∧ opOf p.2 = 1 then 1 else 0)

/-- A bundle issues: all its slots act on the registers and memory before it (R407). [Log 51 DESIGN CHOICE] -/
def State.performBundle (s : State) (gi pc : Nat) (sl : List Nat) (live : List (Nat × Nat)) (ok : Bool) : State :=
  let old := s.gl gi
  let br := sl.getD 2 0
  let start := old.readyAt live
  let wait := s.waitedCycles old
  let stalled := s.gst gi == 2
  let nx := old.nextPc br pc
  let new := live.foldl (fun new p => s.doRegs gi old new p.1 p.2 pc) old
  let cyc := start + wait
  let ready := (live.flatMap (fun p => slotReady p.1 p.2)).foldl (fun r p => Sparse.put r p.1 (cyc + p.2) 0) old.ready
  let new := { new with
    acc := old.overwritten (live.filter (fun p => ok || p.1 != 13)), loops := nx.2.1, cyc := cyc + 1 + nx.2.2, ready := ready, seq := old.seq + 1, blocked := none, granted := none,
    waiting := false, halt := if old.brTaken br && opOf br == 6 then some (bf br 11 0) else none }
  let s := s.setGl gi new
  let s := (s.inc (R.GILL_CNT_BUNDLES_COUNT gi)).inc (R.GILL_CNT_STALL_COUNT gi)
    (start - old.cyc + if stalled then wait else 0)
  let s := if stalled then s else s.inc (R.GILL_CNT_WAIT_COUNT gi) wait
  let s := live.foldl (fun s p => if p.1 = 3 ∨ p.1 = 4 then s.doStore gi old p.2 else s) s
  let s := (s.doGlobal gi old live).twCount gi (old.crossings live) 0 0
  let s := live.foldl (fun s p =>
    if p.1 = 13 then s.doSy gi old p.2 ok else if p.1 = 14 then s.doDma gi old p.2 else s) s
  ((s.setF (R.GILL_PC_PC gi) nx.1).setF (R.GILL_STATUS_STATE gi) 1).settleAll gi

/-- Tries to issue the bundle at a gill's PC. [Log 52 DESIGN CHOICE] -/
def State.issueCore (s : State) (gi : Nat) : State :=
  match s.gprog gi with
  | none => s
  | some pr =>
    let g := s.gl gi
    let pc := s.gpc gi
    let sl := bundleSlots pr.code pc
    let stop := fun (s : State) (x : Stop) => s.gillStop gi x.slot x.sts x.val x.info
    let live := (g.live sl).filter (fun p => slotOk p.1 p.2)
    let reads := live.flatMap (fun p => slotReads p.1 p.2)
    let pend := g.acc.any (fun a => !a.write && reads.contains a.reg)
    let need := sumOf live (fun p => if p.1 = 3 ∨ p.1 = 4 then (g.glBlocks p.1 p.2 0).length else 0)
    if pend || decide (64 < g.slotsUsed.length + need) then
      (s.setF (R.GILL_STATUS_STATE gi) 2).setGl gi { g with blocked := some (g.blocked.getD s.now) }
    else
      let br := sl.getD 2 0
      let stops := encStops sl ++ live.filterMap (fun p => s.slotStop gi g p.1 p.2)
        ++ (if slotOk 2 br then g.brStop br pc pr.bundles else none).toList
      match firstStop stops with
      | some x => stop s x
      | none =>
        let sy := live.find? (fun p => p.1 == 13)
        let sx := (sy.map (·.2)).getD 0
        let r : SyRes := match sy with
          | some p => s.syWait gi g p.2
          | none => SyRes.go
        let full := live.any (fun p => p.1 == 14 && opOf p.2 == 1 && s.chainFull (bf p.2 45 42))
        if r = SyRes.wait then s.startWait gi sx (opOf sx == 2 || opOf sx == 3)
        else if full then
          (s.setF (R.GILL_STATUS_STATE gi) 3).setGl gi { g with blocked := some (g.blocked.getD s.now) }
        else if r = SyRes.timeout ∧ bf sx 36 34 = 0 then
          let s := s.voided R.SYS_REPRO_STATUS_R_TIMED_OUT
          if 8 ≤ opOf sx then s.gillStop gi 13 0x9807 (bf sx 39 37) (bf sx 39 37)
          else s.gillStop gi 13 0x9808 (bf sx 31 20) (bf sx 31 20)
        else
          let s := if r = SyRes.timeout then s.voided R.SYS_REPRO_STATUS_R_TIMED_OUT else s
          let msg := ((g.ports.getD (bf sx 39 37) {}).recv.head?).map (·.words)
          match decide (opOf sx = 9) && r == .go, msg with
          | true, some w =>
            if w.length = bf sx 3 0 + 1 then s.performBundle gi pc sl live true
            else
              let pt := g.ports.getD (bf sx 39 37) {}
              let pt := { pt with recv := pt.recv.tail, back := pt.back + 1 }
              let s := s.setGl gi { g with ports := g.ports.set (bf sx 39 37) pt }
              s.gillStop gi 13 0x980B w.length (w.headD 0)
          | _, _ => s.performBundle gi pc sl live (r == .go)

/-- Whether a gill runs: it may issue a bundle. -/
def State.running (s : State) (gi : Nat) : Bool :=
  decide (gi < s.gills) && decide (1 ≤ s.gst gi ∧ s.gst gi ≤ 3) && (s.gl gi).halt == none && s.runs

/-- BUNDLE_ISSUE. [Log 53 DESIGN CHOICE] -/
def State.bundleIssue (s : State) (gi : Nat) : State := if s.running gi then s.issueCore gi else s

/-! ## Responses and events (R417, R425 to R427, R436, R437, R499, R500) -/

/-- The outstanding access of a gill in a transaction slot, if every earlier access to its block is done. -/
def Gill.due (g : Gill) (slot : Nat) (write : Bool) : Option GAcc :=
  match g.acc.findIdx? (fun a => a.slot == slot && a.st == 0 && a.write == write) with
  | none => none
  | some i =>
    match g.acc[i]? with
    | none => none
    | some a => if (g.acc.take i).any (fun b => b.st == 0 && b.va / 64 == a.va / 64) then none else some a

/-- Records the first global fault of a gill for its stop (R436). -/
def Gill.fault (g : Gill) (a : GAcc) : Gill :=
  { g with memFault := some (g.memFault.getD (a.ls, a.slot, a.va)) }

/-- A load's last block is here: its destination is written, unless one failed, and its marks are cleared. -/
def Gill.landed (g : Gill) (a : GAcc) : Gill :=
  let mine := g.acc.filter (fun b => b.seq == a.seq && b.ls == a.ls && !b.write)
  if mine.any (fun b => b.st != 1) then g
  else
    let g := { g with acc := g.acc.filter (fun b => !(b.seq == a.seq && b.ls == a.ls && !b.write)) }
    if a.reg < 64 then (if (mine.headD a).lapsed.testBit 0 then g else g.setS a.reg (leAt ((mine.headD a).data) 0 4))
    else
      let r := a.reg - 64
      g.setV r (fun l =>
        match mine.find? (fun b => b.tile == l / 16) with
        | some b =>
          if b.mask.testBit (l % 16) && !b.lapsed.testBit (l % 16) then leAt b.data (4 * (l % 16)) 4 else g.vlane r l
        | none => g.vlane r l)

/-- Puts an access back with another state and data. -/
def Gill.setAcc (g : Gill) (a : GAcc) (st : Nat) (d : List Byte) : Gill :=
  { g with acc := g.acc.map (fun b => if b == a then { b with st := st, data := d } else b) }

/-- GLOBAL_LOAD_RESPONSE: the block of a load in a transaction slot is read. -/
def State.loadResponse (s : State) (gi slot : Nat) : State :=
  match (s.gl gi).due slot false with
  | none => s
  | some a =>
    if a.mask = 0 then s.setGl gi (((s.gl gi).setAcc a 1 (List.replicate 64 0)).landed a)
    else match s.vread (0x1000 + gi) 1 a.va a.len slot with
      | (.ok b, s) => s.setGl gi (((s.gl gi).setAcc a 1 b).landed a)
      | (.error _, s) => s.setGl gi (((s.gl gi).setAcc a 2 []).fault a)

/-- Writes the enabled lanes of a block, run by run. -/
def State.writeMasked (s : State) (gi slot : Nat) (a : GAcc) : Option TxErr × State :=
  if a.len = 4 ∨ a.mask = 65535 then s.vwrite (0x1000 + gi) 1 a.va a.data slot
  else (List.range 16).foldl (fun (acc : Option TxErr × State) j =>
    if acc.1 == none && a.mask.testBit j then acc.2.vwrite (0x1000 + gi) 1 (a.va + 4 * j) (slice a.data (4 * j) 4) slot
    else acc) (none, s)

/-- A global store in a transaction slot is performed. -/
def State.storeResponse (s : State) (gi slot : Nat) : State :=
  match (s.gl gi).due slot true with
  | none => s
  | some a =>
    let (x, s) := s.writeMasked gi slot a
    let g := s.gl gi
    let g := { g with acc := g.acc.filter (fun b => !(b == a)) }
    (s.setGl gi (match x with
      | some _ => g.fault a
      | none => g)).settleAll gi

/-- The stop for a fault that has reached the sequencer (R436). -/
def State.memFaultStop (s : State) (gi : Nat) : State :=
  match (s.gl gi).memFault with
  | none => s
  | some (ls, slot, va) =>
    if 1 ≤ s.gst gi ∧ s.gst gi ≤ 4 then
      (s.setGl gi { s.gl gi with memFault := none, halt := none }).gillStop gi ls 0x9806 slot (va % 2 ^ 32)
    else s

/-- SYNC_GRANT: the head waiter of a cell is granted once the count covers its N (R499). -/
def State.syncGrant (s : State) (cell : Nat) : State :=
  match s.grantable cell with
  | none => s
  | some w =>
    let s := { s with waits := s.waits.filter (· != w) }.cellRegs cell
    let s := s.setF (R.SYNC_COUNT_COUNT cell) (s.fld (R.SYNC_COUNT_COUNT cell) - w.n)
    s.setGl w.gill { s.gl w.gill with granted := some true }

/-- The sync slot of the bundle at a gill's PC. -/
def State.sySlot (s : State) (gi : Nat) : Nat :=
  match s.gprog gi with
  | none => 0
  | some pr => (bundleSlots pr.code (s.gpc gi)).getD 13 0

/-- TIMED_OP_TIMEOUT: the wait has lasted the cycles s[T] and is cancelled; with P 0 the gill stops (R425, R500). -/
def State.timedOut (s : State) (gi : Nat) : State :=
  let g := s.gl gi
  let x := s.sySlot gi
  if (s.gst gi = 3 ∨ s.gst gi = 4) ∧ g.blocked ≠ none ∧ g.granted = none ∧ (opOf x = 3 ∨ opOf x = 8 ∨ opOf x = 9)
      ∧ g.sreg (bf x 45 40) ≤ s.waitedCycles g then
    let s := s.cellCancel gi
    if bf x 36 34 = 0 then
      let s := s.voided R.SYS_REPRO_STATUS_R_TIMED_OUT
      if opOf x = 3 then s.gillStop gi 13 0x9808 (bf x 31 20) (bf x 31 20)
      else s.gillStop gi 13 0x9807 (bf x 39 37) (bf x 39 37)
    else s.setGl gi { g with granted := some false }
  else s

/-- Takes the oldest message on its way that satisfies a test; one that its route holds is not on its way yet. -/
def State.takeFlight (s : State) (p : Flight → Bool) : Option Flight × State :=
  match s.flights.findIdx? (fun f => p f && !s.flightHeld f) with
  | none => (none, s)
  | some i => (s.flights[i]?, { s with flights := s.flights.eraseIdx i })

/-- QUEUE_MESSAGE_ARRIVAL: the oldest message from a sending port reaches a gill's receive queue. -/
def State.arrive (s : State) (gi port src sport : Nat) : State :=
  match s.takeFlight (fun f => f.dst == 0x1000 + gi && f.dport == port && f.gill == src && f.port == sport) with
  | (none, s) => s
  | (some f, s) =>
    let g := s.gl gi
    let p := g.ports.getD port {}
    (s.setGl gi { g with ports := g.ports.set port { p with recv := p.recv ++ [(⟨f.gill, f.port, f.words⟩ : QMsg)] } }).settleAll
      f.gill

/-- QUEUE_CREDIT_RETURN: a credit of a gill's port is back with its senders. -/
def State.creditBack (s : State) (gi port : Nat) : State :=
  let g := s.gl gi
  let p := g.ports.getD port {}
  if p.back = 0 then s
  else s.setGl gi { g with ports := g.ports.set port { p with used := p.used - 1, back := p.back - 1 } }

/-- FENCE_COMPLETE: every earlier operation is performed. -/
def State.fenceDone (s : State) (gi : Nat) : State :=
  if s.gst gi = 3 ∧ opOf (s.sySlot gi) = 6 ∧ s.drained gi then s.setGl gi { s.gl gi with granted := some true } else s

/-- INVOCATION_END: a HALT whose fence is complete (R437). -/
def State.invocationEnd (s : State) (gi : Nat) : State :=
  match (s.gl gi).halt with
  | none => s
  | some h =>
    if s.drained gi then
      let s := (s.setGl gi { s.gl gi with halt := none, outcome := some (if h = 0 then 0 else 0x980C) }).setF
        (R.GILL_STATUS_STATE gi) 0
      if h = 0 then s else s.report (R.GILL_STATUS_LAST_STS gi) 0x980C (2 * 4096 + h) gi
    else s

/-- The start of an invocation (R430): its registers, and the gill runs from ENTRY. -/
def State.gillStart (s : State) (gi prog entry : Nat) (desc gang : List Nat) : State :=
  let g := s.gl gi
  let fresh : Gill := {}
  let s := s.setGl gi { fresh with
    s := (List.range 64).map (fun k => desc.getD k 0), gang := gang, starts := g.starts + 1, seq := g.seq,
    sincs := g.sincs,
    ports := g.ports.map (fun p => { p with bound := none, recv := [], used := p.used - p.recv.length }),
    acc := g.acc.filter (fun a => a.write && a.st == 0) }
  ((s.setF (R.GILL_PC_PROG gi) prog).setF (R.GILL_PC_PC gi) entry).setF (R.GILL_STATUS_STATE gi) 1

/-! ## Debug (R440, R444) -/

/-- Whether debug requests to a gill are refused: its partition executes an EJECT-PATH or INSPECT queue. -/
def State.dbgRefused (s : State) (gi : Nat) : Bool :=
  match s.img.active with
  | none => false
  | some im => im.queues.any (fun q => q.part == s.gpart gi && decide (q.cls ≤ 1))

/-- A refused debug request. -/
def State.dbgNo (s : State) (gi bit : Nat) : State := s.report (R.GILL_STATUS_LAST_STS gi) 0x980D bit gi

/-- HALT. -/
def State.dbgHalt (s : State) (gi : Nat) : State :=
  if s.dbgRefused gi then s.dbgNo gi 0
  else if 1 ≤ s.gst gi ∧ s.gst gi ≤ 3 then s.setF (R.GILL_STATUS_STATE gi) 4 else s

/-- RESUME. -/
def State.dbgResume (s : State) (gi : Nat) : State :=
  if s.dbgRefused gi then s.dbgNo gi 1
  else if s.gst gi = 4 then s.setF (R.GILL_STATUS_STATE gi) 1 else s

/-- STEP. -/
def State.dbgStep (s : State) (gi : Nat) : State :=
  if s.dbgRefused gi then s.dbgNo gi 2
  else if s.gst gi = 4 ∧ (s.gl gi).halt = none then
    let t := (s.setF (R.GILL_STATUS_STATE gi) 1).issueCore gi
    if 1 ≤ t.gst gi ∧ t.gst gi ≤ 3 then t.setF (R.GILL_STATUS_STATE gi) 4 else t
  else s

/-- GILL_DBG_DATA. -/
def State.dbgData (s : State) (gi : Nat) : Nat :=
  let g := s.gl gi
  let i := s.fld (R.GILL_DBG_SEL_INDEX gi)
  if s.gst gi ≠ 4 ∧ s.gst gi ≠ 5 then 0
  else if i < 64 then g.sreg i
  else if i < 72 then g.preg (i - 64) % 2 ^ 32
  else if i < 76 then ((g.loops.reverse[i - 72]?).map (·.count)).getD 0
  else 0

end Sys2Proof.Machine
end

