-- ==== Sys2Proof/Machine/Sched.lean ====
section
/-! DEFINITION. Sched: submission, ranking, placement, dispatch, state swap, pre-emption, completion and
cancellation of works (R520 to R546, R552 to R554). -/

namespace Sys2Proof.Machine

/-! ## Reading works -/

/-- A field of a descriptor word (R522). -/
def Work.dw (w : Work) (k hi lo : Nat) : Nat := bf (w.desc.getD k 0) hi lo

/-- The deadline, and the word pair that means none. -/
def Work.deadline (w : Work) : Nat := w.desc.getD 4 0 + 2 ^ 32 * w.desc.getD 5 0

/-- The image's record of a queue. -/
def State.queueOf (s : State) (q : Nat) : Option QueueRec := s.img.active.bind (·.queue? q)

/-- The executor of a queue: its partition's code, or its target. -/
def QueueRec.executor (q : QueueRec) : Nat := if q.part = 0xFFFF then q.target else 0xC000 + q.part

/-- The class of a work's queue. -/
def State.wclass (s : State) (w : Work) : Nat := ((s.queueOf w.queue).map (·.cls)).getD 3

/-- Whether a work ranks before another: class, deadline, admission number (R521). -/
def State.ranksBefore (s : State) (a b : Work) : Bool :=
  let ca := s.wclass a
  let cb := s.wclass b
  decide (ca < cb) || (ca == cb && (decide (a.deadline < b.deadline) || (a.deadline == b.deadline && decide (a.id < b.id))))

/-- Inserts a work by rank. -/
def State.rankInsert (s : State) (w : Work) : List Work → List Work
  | [] => [w]
  | x :: l => if s.ranksBefore w x then w :: x :: l else x :: s.rankInsert w l

/-- Works in rank order. -/
def State.byRank (s : State) (l : List Work) : List Work := l.foldl (fun acc w => s.rankInsert w acc) []

/-- The work of an admission number. -/
def State.work? (s : State) (id : Nat) : Option Work := s.sched.works.find? (·.id == id)

/-- Puts a work back. -/
def State.setWork (s : State) (w : Work) : State :=
  { s with sched.works := s.sched.works.map (fun x => if x.id == w.id then w else x) }

/-- A status of the scheduler, and of a queue where one applies (R554). -/
def State.schedReport (s : State) (sts detail : Nat) (q : Option Nat) : State :=
  let s := s.report R.SCHED_STATUS_LAST_STS sts detail (q.getD 0)
  match q with
  | some k => if k < 256 then s.setF (R.SCHED_Q_STATUS_LAST_STS k) sts else s
  | none => s

/-- Gangs running and saved on a partition (R558). -/
def State.partRegs (s : State) (p : Nat) : State :=
  let on := s.sched.works.filter (fun w => ((s.queueOf w.queue).map (·.part)) == some p)
  (s.setF (R.SCHED_P_STATUS_RUNNING p) (on.filter (·.st == .running)).length).setF (R.SCHED_P_STATUS_SAVED p)
    (on.filter (·.st == .saved)).length

/-- Refreshes a queue's fill and its partition's gang counts. -/
def State.queueRegs (s : State) (q : Nat) : State :=
  let s := s.setF (R.SCHED_Q_STATUS_FILL q) (s.sched.works.filter (·.queue == q)).length
  match s.queueOf q with
  | some r => if r.part < 32 then s.partRegs r.part else s
  | none => s

/-! ## The completion log (R544, R552, R556) -/

/-- Writes a completion-log entry. -/
def State.cplLog (s : State) (id q state src sts preempts seq runUs : Nat) : State :=
  let b := leBytes 4 id ++ leBytes 2 q ++ leBytes 1 state ++ leBytes 1 src ++ leBytes 2 sts
    ++ leBytes 2 (min preempts 65535) ++ leBytes 4 seq ++ leBytes 8 s.time.mono ++ leBytes 4 runUs ++ leBytes 4 0
  let tail := s.fld R.SCHED_CPL_TAIL_TAIL
  let k := tail % 1024
  let full := s.sched.log.any (fun p => p.1 == k)
  let s := { s with sched.log := Sparse.put s.sched.log k b [] }
  let s := s.setF R.SCHED_CPL_TAIL_TAIL (tail + 1)
  if full then
    let n := s.sched.lost
    let s := { s with sched.lost := n + 1 }.inc R.SCHED_CPL_LOST_LOST
    if (n + 1) % 1024 = 0 then (s.schedReport 0x900B 0 none).pend 2 else s.pend 2
  else s.pend 2

/-- A read of SCHED_CPL_DATA0: the selected entry goes to the shadow; zeros where none is written. -/
def State.cplRead (s : State) : State :=
  let b := Sparse.get s.sched.log (s.fld R.SCHED_CPL_SEL_INDEX) []
  let s := (List.range 8).foldl (fun s k => s.setF (R.SCHED_CPL_DATA_DATA k) (leAt b (4 * k) 4)) s
  { s with bus.data := leAt b 0 4 }

/-- CPL_CELL of a descriptor is incremented, if it asks for it (R526, R544). -/
def State.cplCell (s : State) (q : Option QueueRec) (desc : List Nat) : State :=
  if bf (desc.getD 9 0) 31 31 = 0 then s
  else
    let cell := bf (desc.getD 9 0) 11 0
    match q with
    | none => s
    | some r =>
      if r.part = 0xFFFF then (s.cellAdd cell 1 r.target none).2
      else (s.cellAdd cell 1 (0xC000 + r.part) (some r.part)).2

/-! ## Submission (R524 to R527) -/

/-- The first check of R525 that a submission fails: its status and detail. -/
def State.judge (s : State) (src : Nat) (d : List Nat) : Option (Nat × Nat) :=
  let q := bf (d.getD 0 0) 15 0
  match s.img.active with
  | none => some (0x9001, 0)
  | some im =>
    match im.queue? q with
    | none => some (0x9002, src)
    | some r =>
      let n := if r.part = 0xFFFF then 1 else (s.partGills r.part).length
      let mask : Nat := ((im.part? r.part).map (·.mask)).getD 0
      let width := bf (d.getD 0 0) 31 24
      let home : Nat := d.getD 7 0 + 2 ^ 32 * d.getD 8 0
      if !r.submit.testBit src then some (0x9002, src)
      else if bf (d.getD 0 0) 23 16 ≠ 0 ∨ n < width ∨ ((r.place = 1 ∨ r.part = 0xFFFF) ∧ width ≠ 1) then some (0x9003, 0)
      else if bf (d.getD 3 0) 31 16 ≠ 0 then some (0x9003, 3)
      else if bf (d.getD 6 0) 31 16 ≠ 0 then some (0x9003, 6)
      else if (home % 2 ^ 32) &&& mask != home % 2 ^ 32 then some (0x9003, 7)
      else if home &&& mask != home then some (0x9003, 8)
      else if bf (d.getD 9 0) 30 12 ≠ 0 ∨ (bf (d.getD 9 0) 31 31 = 1 ∧ (im.sync? (bf (d.getD 9 0) 11 0)).isNone) then
        some (0x9003, 9)
      else if r.depth ≤ (s.sched.works.filter (·.queue == q)).length ∨ 16384 ≤ s.sched.works.length then
        some (0x9004, if src = 2 then bf (d.getD 3 0) 8 0 else q)
      else if 2 ≤ r.cls ∧ s.bit R.SCHED_STATUS_THROTTLE then some (0x9005, q)
      else none

/-- The gills of an affinity work's set, in ascending order (R533). -/
def State.affinity (s : State) (r : QueueRec) (w : Work) : List Nat :=
  let ps := s.partGills r.part
  let n := if w.dw 0 31 24 = 0 then ps.length else w.dw 0 31 24
  let home := w.desc.getD 7 0 + 2 ^ 32 * w.desc.getD 8 0
  let a := ps.filter (home.testBit ·)
  let b := ps.filter (fun g => !home.testBit g && s.fld (R.SCHED_GILL_RES_MODEL g) == r.model)
  let c := ps.filter (fun g => !home.testBit g && s.fld (R.SCHED_GILL_RES_MODEL g) != r.model)
  let sel := (a ++ b ++ c).take n
  ps.filter (sel.contains ·)

/-- The work of an open timing window ends: the window closes (R643). One that ends before its release closes
an armed window. -/
def State.twClose (s : State) (id : Nat) : State :=
  if s.fld R.MESH_TW_WORK_WORK_ID = id % 2 ^ 32 ∧ (s.tw.armed ∨ s.bit R.MESH_TW_CTRL_OPEN) then
    let ns := if s.tw.armed then 0 else min (s.now - s.tw.at_) (2 ^ 32 - 1)
    { ((s.setB R.MESH_TW_CTRL_OPEN false).setB R.MESH_TW_CTRL_DONE true).setF R.MESH_TW_RUN_NS_NS ns with
      tw.armed := false }
  else s

/-- The release of a work opens the window armed for it; throttle, link sleep, a power-mode transaction and a route-set
change that hold then are in it. -/
def State.twOpen (s : State) (id : Nat) : State :=
  if s.tw.armed ∧ s.fld R.MESH_TW_WORK_WORK_ID = id % 2 ^ 32 then
    let s := { s.setB R.MESH_TW_CTRL_OPEN true with tw.armed := false, tw.at_ := s.now }
    let s := if s.bit R.SCHED_STATUS_THROTTLE then s.setB R.MESH_TW_FLAGS_THROTTLE true else s
    let s := if s.bit R.PWR_MODE_STATUS_BUSY ∨ s.img.change.isSome then s.setB R.MESH_TW_FLAGS_MODE true else s
    if (List.range 2).any (fun k => s.fld (R.RING_SIDE_STATUS_LINK k) == 3) then s.setB R.MESH_TW_FLAGS_LINK_SLEEP true else s
  else s

/-- TIMING_WINDOW_ARM (R639, R643): every count and flag is cleared; a work that is released already, or is not
admitted, ends the window at once. -/
def State.twArm (s : State) : State :=
  let s := { s with tw.counts := [], tw.armed := true }
  let s := ((((s.setF R.MESH_TW_CTRL_OPEN 0).setF R.MESH_TW_CTRL_DONE 0).wr R.MESH_TW_FLAGS 0).setF
    R.MESH_TW_RUN_NS_NS 0).twRegs
  let id := s.fld R.MESH_TW_WORK_WORK_ID
  match s.sched.works.find? (fun w => w.id % 2 ^ 32 == id) with
  | some w =>
    if w.handed ∨ w.since.isSome ∨ w.st = .saving ∨ w.st = .saved ∨ w.st = .restoring then
      { (s.setB R.MESH_TW_CTRL_DONE true).setB R.MESH_TW_FLAGS_MISSED true with tw.armed := false }
    else s
  | none => { (s.setB R.MESH_TW_CTRL_DONE true).setB R.MESH_TW_FLAGS_MISSED true with tw.armed := false }

/-- VC_STALL (R640): a router output has held a flit of a channel and moved none since `last`. It is reported once
until the channel moves. -/
def State.vcStall (s : State) (vc router last : Nat) : State :=
  if s.bit R.MESH_PROG_CFG_EN ∧ vc < 4 ∧ router < 64 ∧ last + s.fld R.MESH_PROG_CFG_STALL_US * 1000 ≤ s.now
      ∧ !s.tw.stalls.contains (vc, router, last) then
    let old := s.tw.stalls.filter (fun x => !(x.1 == vc && x.2.1 == router))
    let s := { s with tw.stalls := (vc, router, last) :: old }
    let s := (s.setF R.MESH_PROG_STATUS_VC vc).setF R.MESH_PROG_STATUS_ROUTER router
    (s.inc R.MESH_PROG_CNT_COUNT).report R.MESH_PROG_STATUS_LAST_STS 0x9201 (vc * 4096 + router)
  else s

/-- A work leaves the list. -/
def State.workGone (s : State) (id : Nat) : State :=
  { s with sched.works := s.sched.works.filter (fun x => !(x.id == id)) }

/-- The nanoseconds a work has run (R556). -/
def State.workRan (s : State) (w : Work) : Nat :=
  w.ranNs + (match w.since with
    | some t => s.now - t
    | none => 0)

/-- A work ends for the log and its submitter: entry, CPL_CELL, the freed queue entry (R544). -/
def State.endWork (s : State) (w : Work) (state sts : Nat) : State :=
  let s := s.cplLog w.id w.queue state w.src sts w.preempts (w.desc.getD 2 0) (s.workRan w / 1000)
  let s := s.cplCell (s.queueOf w.queue) w.desc
  let s := (s.workGone w.id).twClose w.id
  let s := if state = 1 then s.inc (R.SCHED_Q_DONE_COUNT w.queue) else s.inc (R.SCHED_Q_FAILED_COUNT w.queue)
  let s := if state = 2 ∧ w.src = 2 ∧ s.bit (R.SCHED_Q_CFG_FAIL_INC w.queue) then
      { s with sched.incs := s.sched.incs ++ [(w.dw 3 8 0, w.desc.getD 2 0)] } else s
  s.queueRegs w.queue

/-- R553: the estimate misses the deadline. -/
def State.doomed (s : State) (w : Work) : Bool :=
  let est := s.fld (R.SCHED_Q_CFG_EST_US w.queue)
  est != 0 && decide (w.deadline < s.time.mono + est * 1000)

/-- Checks a work's deadline: with DOOM it ends, otherwise it is counted; whether it goes on. -/
def State.doomCheck (s : State) (w : Work) : Bool × State :=
  if s.doomed w then
    if s.bit (R.SCHED_Q_CFG_DOOM w.queue) then
      (false, (s.schedReport 0x9006 w.queue (some w.queue)).endWork w 5 0x9006)
    else (true, s.inc (R.SCHED_Q_DOOMED_COUNT w.queue))
  else (true, s)

/-- A work becomes READY: its gill set is fixed, or it goes to a list (R533, R534). -/
def State.makeReady (s : State) (w : Work) : State :=
  match s.queueOf w.queue with
  | none => s
  | some r =>
    let w := { w with st := WSt.ready, readyAt := s.now }
    let w := if r.part = 0xFFFF then w
      else if r.place = 1 then
        let ps := s.partGills r.part
        { w with gset := [ps.getD (w.id % ps.length) 0] }
      else { w with gset := s.affinity r w }
    ((s.setWork w).doomCheck w).2

/-- Whether the track of a slot and sequence number stands in COMPUTE. -/
def State.inCompute (s : State) (slot seq : Nat) : Bool :=
  s.mot.tracks.any (fun t => t.1 == slot && t.2.seq == seq && t.2.st == .compute)

/-- A submission is accepted: it takes the next admission number. The work of a track stays HELD until the track is in
COMPUTE (R528), which it may be already when closed admission has held the submission back. -/
def State.takeWork (s : State) (src : Nat) (d : List Nat) : State :=
  let q := bf (d.getD 0 0) 15 0
  let id := s.sched.nextId
  let d := (d.set 1 (id % 2 ^ 32)).set 6 (bf (d.getD 6 0) 7 0 + 256 * src)
  let w : Work := { id := id, queue := q, src := src, desc := d, st := if src = 2 then .held else .ready, readyAt := s.now }
  let s := { s with sched.works := s.sched.works ++ [w], sched.nextId := id + 1 }
  let s := (s.inc (R.SCHED_Q_ADMITTED_COUNT q)).queueRegs q
  if src = 2 ∧ !s.inCompute (w.dw 3 8 0) (d.getD 2 0) then s else s.makeReady w

/-- A refused submission (R526, R529, R662). -/
def State.refuse (s : State) (src : Nat) (ring : Bool) (d : List Nat) (sts detail : Nat) : State :=
  let q := bf (d.getD 0 0) 15 0
  let r := s.queueOf q
  let s := s.schedReport sts (if src = 2 then bf (d.getD 3 0) 8 0 else detail) (r.map (·.queue))
  let s := if r.isSome then s.inc (R.SCHED_Q_REFUSED_COUNT q) else s
  let s := if ring then s.pend 3 else s
  if src = 0 ∧ !ring then (s.setB R.SCHED_SUB_STATUS_ACCEPTED false).setF R.SCHED_SUB_STATUS_LAST_STS sts
  else (s.cplLog 0 q 4 src sts 0 (d.getD 2 0) 0).cplCell r d

/-- A submission is judged. [Log 57 DESIGN CHOICE] -/
def State.judgeSub (s : State) (src : Nat) (d : List Nat) (ring : Bool := false) : State :=
  match s.judge src d with
  | some (sts, detail) => s.refuse src ring d sts detail
  | none =>
    let id := s.sched.nextId
    let s := s.takeWork src d
    if src = 0 ∧ !ring then
      ((s.setB R.SCHED_SUB_STATUS_ACCEPTED true).setF R.SCHED_SUB_STATUS_LAST_STS 0).setF R.SCHED_SUB_ID_WORK_ID id
    else s

/-- Admission is closed: host and track-unit submissions are held (R527). -/
def State.admitShut (s : State) : Bool := !s.bit R.SCHED_STATUS_ADMIT_OPEN || s.pmode == 2 || s.pmode == 3

/-- A submission arrives: 0 from the host, 1 from a gill, 2 from the track unit; `ring` says through the work
ring. -/
def State.submit (s : State) (src : Nat) (d : List Nat) (ring : Bool := false) : State :=
  if src ≠ 1 ∧ s.admitShut then { s with sched.held := s.sched.held ++ [(⟨src, d, ring⟩ : HeldSub)] }
  else s.judgeSub src d ring

/-- Admission reopens: the held submissions are judged in arrival order. -/
def State.admitOpen (s : State) : State :=
  let l := s.sched.held
  l.foldl (fun s h => s.judgeSub h.src h.desc h.ring) ({ s with sched.held := [] }.setB R.SCHED_STATUS_ADMIT_OPEN true)

/-- The descriptor in the submission registers. -/
def State.subWords (s : State) : List Nat := (List.range 16).map (fun k => s.fld (R.SCHED_SUB_W_W k))

/-- A write of SCHED_SUB_CTRL: a submission by the host, which is also a wake source (R138). -/
def State.writeSub (s : State) (v : Nat) : State :=
  if R.SCHED_SUB_CTRL_GO.of v = 1 then (s.wake 1).submit 0 s.subWords else s

/-! ## Track-unit work (R528, R530) -/

/-- The queue that takes track-unit work. -/
def State.trackQueue (s : State) : Option QueueRec :=
  match s.img.active with
  | none => none
  | some im => ((im.queues.filter (fun q => q.cls == 1 && q.submit.testBit 2)).foldl (fun (a : Option QueueRec) q =>
      match a with
      | none => some q
      | some b => if q.queue < b.queue then some q else a) none)

/-- The track unit submits a work for a track. -/
def State.trackSubmit (s : State) (seq slot gate : Nat) (deadline : Nat) (p : Nat) : State :=
  match s.trackQueue with
  | none => s
  | some q => s.submit 2 ([q.queue, 0, seq, slot, deadline % 2 ^ 32, deadline / 2 ^ 32, gate, 0, 0, 0, p % 2 ^ 32,
      p / 2 ^ 32 % 65536, 0, 0, 0, 0])

/-- The work of a track, admitted or held back. -/
def State.trackWork? (s : State) (slot seq : Nat) : Option Work :=
  s.sched.works.find? (fun w => w.src == 2 && w.dw 3 8 0 == slot && w.desc.getD 2 0 == seq)

/-- The track enters COMPUTE: its work becomes READY. -/
def State.trackReady (s : State) (slot seq : Nat) : State :=
  match s.trackWork? slot seq with
  | some w => if w.st = .held then s.makeReady w else s
  | none => s

/-- A new deadline from the converter, while the work is admitted (R528). -/
def State.trackDeadline (s : State) (slot seq d : Nat) : State :=
  match s.trackWork? slot seq with
  | some w => s.setWork { w with desc := (w.desc.set 4 (d % 2 ^ 32)).set 5 (d / 2 ^ 32) }
  | none => s

/-! ## Gills of a gang -/

/-- Stops a member without a save: its gill is free; a FAULTED one stays so until its next start (R439). -/
def State.memberStop (s : State) (g : Nat) : State :=
  let s := s.cellCancel g
  (s.setGl g { s.gl g with blocked := none, granted := none, waiting := false, halt := none, outcome := none }).setF
    (R.GILL_STATUS_STATE g) (if s.gst g = 5 then 5 else 0)

/-- Frees the gills of a work: members are stopped, a saved level is given back. -/
def State.freeGills (s : State) (w : Work) : State :=
  let s := if w.st = .ready ∨ w.st = .held ∨ w.st = .saved then s else w.gset.foldl State.memberStop s
  if w.st = .saved ∨ w.st = .restoring then
    w.gset.foldl (fun (s : State) (g : Nat) => s.setF (R.SCHED_GILL_RES_LEVEL g) (s.fld (R.SCHED_GILL_RES_LEVEL g) - 1)) s
  else s

/-- Ends a work and frees its gills. -/
def State.finishWork (s : State) (w : Work) (state sts : Nat) : State := (s.freeGills w).endWork w state sts

/-- Whether some gang holds a gill. -/
def State.gillBusy (s : State) (g : Nat) : Bool :=
  s.sched.works.any (fun w => (w.st == .running || w.st == .saving || w.st == .restoring) && w.gset.contains g)

/-- The program of a queue's works (R520). -/
def State.queueProg (s : State) (r : QueueRec) : Option ProgRec :=
  match s.img.active with
  | none => none
  | some im =>
    if r.model = 0xFFFF then (im.part? r.part).bind (fun p => im.prog? p.program)
    else (im.model? r.model).bind (fun m => im.prog? m.program)

/-- Every member is released in one cycle (R520, R522, R536). -/
def State.release (s : State) (w : Work) (r : QueueRec) : State :=
  let n := w.gset.length
  let s := s.setWork { w with st := .running, since := some s.now, quantumOver := false, swaps := [] }
  let s := match s.queueProg r with
    | none => s
    | some pr => w.gset.zipIdx.foldl (fun (s : State) (p : Nat × Nat) =>
        (s.gillStart p.1 pr.prog pr.entry (w.desc.set 15 (p.2 + 65536 * n)) w.gset).setF (R.SCHED_GILL_RES_MODEL p.1)
          r.model) s
  let s := s.twOpen w.id
  let top := match s.img.active with
    | some im => im.queues.all (fun q => q.part != r.part || decide (r.cls ≤ q.cls))
    | none => false
  let s := if top then s.raise (R.SCHED_P_START_MAX_US_VALUE r.part) ((s.now - w.readyAt) / 1000) else s
  s.queueRegs w.queue

/-- The gills that need a state swap for a queue's model (R536). -/
def State.swapsDue (s : State) (r : QueueRec) (gs : List Nat) : List Nat :=
  if r.model = 0xFFFF then [] else gs.filter (fun g => s.fld (R.SCHED_GILL_RES_MODEL g) != r.model)

/-- Starts a READY gang, or the resumption of a SAVED one. -/
def State.startGang (s : State) (w : Work) (r : QueueRec) : State :=
  let sw := s.swapsDue r w.gset
  if w.st = .saved then
    (s.setWork { w with st := .restoring, swaps := sw, phaseAt := s.now }).queueRegs w.queue
  else if sw = [] then s.release w r
  else (s.setWork { w with st := .running, swaps := sw, phaseAt := s.now }).queueRegs w.queue

/-! ## Pre-emption (R538 to R542) -/

/-- Whether a running gang may be a victim now, apart from its class. -/
def State.mayPreempt (s : State) (w : Work) : Bool :=
  w.st == .running && w.since.isSome && w.gset.all (fun g => s.gst g != 4)

/-- The gangs that hold gills of a set. -/
def State.holders (s : State) (gs : List Nat) : List Work :=
  s.sched.works.filter (fun w => (w.st == .running || w.st == .saving || w.st == .restoring)
    && w.gset.any (gs.contains ·))

/-- Stops every member of a victim at a bundle boundary (R539). A wait already granted completes first. -/
def State.preemptStop (s : State) (w : Work) : State :=
  let s := w.gset.foldl (fun (s : State) (g : Nat) =>
    let s := if s.gst g = 3 ∧ (s.gl g).granted = some true then s.issueCore g else s
    if 1 ≤ s.gst g ∧ s.gst g ≤ 3 ∧ (s.gl g).halt = none then
      let s := s.cellCancel g
      (s.setGl g { s.gl g with blocked := none, granted := none, waiting := false }).setF (R.GILL_STATUS_STATE g) 6
    else s) s
  let run := s.workRan w
  let s := s.setWork { w with st := .saving, since := none, ranNs := run, preempts := w.preempts + 1, drained := false }
  let s := s.inc (R.SCHED_Q_PREEMPTED_COUNT w.queue)
  let s := match s.queueOf w.queue with
    | some r => s.inc (R.SCHED_P_PREEMPTS_VALUE r.part)
    | none => s
  let s := if s.fld R.MESH_TW_WORK_WORK_ID = w.id % 2 ^ 32 then
      s.timing R.SYS_REPRO_STATUS_T_PREEMPT (some R.MESH_TW_FLAGS_PREEMPT)
    else s.timing R.SYS_REPRO_STATUS_T_PREEMPT none
  s.queueRegs w.queue

/-- Pre-empts for a READY work whose gills less urgent gangs hold, if all of them may be stopped now. -/
def State.tryPreempt (s : State) (w : Work) : State :=
  let c := s.wclass w
  let h := s.holders w.gset
  if h.all (fun v => decide (c < s.wclass v) && s.mayPreempt v && v.quantumOver) then h.foldl State.preemptStop s else s

/-! ## Dispatch (R532, R546, R553) -/

/-- Considers the candidates of a partition in rank order; `taken` are gills that READY works of higher rank need. -/
def State.dispatchLoop (s : State) (taken : List Nat) : List Work → State
  | [] => s
  | w :: l =>
    match s.queueOf w.queue with
    | none => s.dispatchLoop taken l
    | some r =>
      let (go, s) := if w.st = .ready then s.doomCheck w else (true, s)
      if !go then s.dispatchLoop taken l
      else
        let s := if w.gset.any (taken.contains ·) then s
          else if w.gset.all (fun g => !s.gillBusy g) then s.startGang w r
          else if w.st = .ready then s.tryPreempt w
          else s
        s.dispatchLoop (if w.st = .ready then taken ++ w.gset else taken) l

/-- The works a dispatcher may start: READY ones of its executor's running queues, and SAVED ones. -/
def State.dispatchable (s : State) (ex : Nat) : List Work :=
  s.byRank (s.sched.works.filter (fun w => (w.st == .saved || (w.st == .ready && s.bit (R.SCHED_Q_CFG_RUN w.queue)))
    && ((s.queueOf w.queue).map QueueRec.executor) == some ex))

/-- Whether a unit accepts another work: a DMA engine while its queue has room, another unit one at a time. -/
def State.unitAccepts (s : State) (ex : Nat) : Bool :=
  if ex / 4096 = 7 then !s.chainFull (ex % 4096)
  else s.sched.works.all (fun w => !(w.handed && ((s.queueOf w.queue).map QueueRec.executor) == some ex))

/-- Hands the works of a unit's dispatcher to the unit, in rank order, while it accepts them. -/
def State.handLoop (s : State) (ex : Nat) : List Work → State
  | [] => s
  | w :: l =>
    if s.unitAccepts ex then
      let (go, s) := s.doomCheck w
      if !go then s.handLoop ex l
      else
        let s := (s.setWork { w with st := .running, handed := true, since := some s.now }).queueRegs w.queue
        let s := s.twOpen w.id
        let s := if ex / 4096 = 7 then
            s.chainPush (ex % 4096) ⟨w.desc.getD 10 0 + 2 ^ 32 * w.desc.getD 11 0, none, none, none, some w.id⟩
          else s
        s.handLoop ex l
    else s

/-- DISPATCH of an executor. Nothing starts outside RUN mode. -/
def State.dispatch (s : State) (ex : Nat) : State :=
  if !s.runs then s
  else if ex / 4096 = 12 then s.dispatchLoop [] (s.dispatchable ex)
  else s.handLoop ex (s.dispatchable ex)

/-- STEAL_TOKEN (R534): the gill that holds the token may steal; then the token passes on. -/
def State.stealToken (s : State) (p : Nat) : State :=
  let ps := s.partGills p
  let k := Sparse.get s.sched.tokens p 0 % (ps.length + if ps = [] then 1 else 0)
  let g := ps.getD k 0
  let mine := fun (w : Work) => w.st == .ready
    && (match s.queueOf w.queue with
        | some r => r.place == 1 && r.part == p
        | none => false)
  let idle := !s.gillBusy g && s.sched.works.all (fun w => !(mine w && w.gset == [g]))
  let s := match idle, s.byRank (s.sched.works.filter mine) with
    | true, w :: _ => ((s.setWork { w with gset := [g] }).inc (R.SCHED_P_STEALS_VALUE p)).timing R.SYS_REPRO_STATUS_T_STEAL none
    | _, _ => s
  { s with sched.tokens := Sparse.put s.sched.tokens p ((k + 1) % (ps.length + if ps = [] then 1 else 0)) 0 }

/-- Whether a gang has run for its partition's MIN_QUANTUM_US since it last started or resumed. -/
def State.quantumDone (s : State) (w : Work) : Bool :=
  let us := ((s.queueOf w.queue).map (fun r => s.fld (R.SCHED_P_QUANTUM_QUANTUM_US r.part))).getD 0
  w.st == .running && w.since.any (fun t => decide (t + 1000 * us ≤ s.now))

/-- QUANTUM_EXPIRY (R538): a gang whose quantum is over may be a victim from now on. -/
def State.quantumExpiry (s : State) (id : Nat) : State :=
  match s.work? id with
  | some w =>
    if s.quantumDone w then
      let s := s.setWork { w with quantumOver := true }
      match s.queueOf w.queue with
      | some r => s.dispatch r.executor
      | none => s
    else s
  | none => s

/-- Whole microseconds since the swaps, the save or the restore of a work began (R558). [Log 57 DESIGN CHOICE] -/
def State.phaseUs (s : State) (w : Work) : Nat := (s.now - w.phaseAt) / 1000

/-- STATE_SWAP_COMPLETE (R536, R554): a gill's state area is copied from the model's weights. -/
def State.swapDone (s : State) (g : Nat) : State :=
  match s.sched.works.find? (fun w => w.swaps.contains g && (w.st == .running || w.st == .restoring)) with
  | none => s
  | some w =>
    match s.queueOf w.queue with
    | none => s
    | some r =>
      match s.img.active.bind (fun im => (im.model? r.model).bind (fun m => (im.mem? m.weightPart).map (fun p => (m, p)))) with
      | none => s
      | some (m, p) =>
        let n := m.stateKib * 1024
        let res := (List.range 64).foldl (fun (acc : Bool × State) t =>
          if acc.1 then
            match acc.2.vread (0x1000 + g) 1 (p.base + m.weightOff + t * n) n with
            | (.ok b, s) => (true, s.setSram (sramAddr g t 0) b)
            | (.error _, s) => (false, s)
          else acc) (true, s)
        if res.1 then
          let s := (res.2.setF (R.SCHED_GILL_RES_MODEL g) r.model).raise (R.SCHED_P_SWAP_MAX_US_VALUE r.part) (s.phaseUs w)
          let w := { w with swaps := w.swaps.filter (· != g) }
          let w := if w.swaps = [] then { w with phaseAt := s.now } else w
          let s := s.setWork w
          if w.swaps = [] ∧ w.st = .running then s.release w r else s
        else
          let s := res.2.setF (R.SCHED_GILL_RES_MODEL g) 0xFFFF
          (s.schedReport 0x900A g (some w.queue)).finishWork w 2 0x900A

/-- Whether nothing of a gang is on its way: chains, messages to its members, loads (R431, R539). -/
def State.gangDrained (s : State) (w : Work) : Bool :=
  s.dma.all (fun d => d.queue.all (fun c => c.gill.all (fun g => !w.gset.contains g))
      && d.run.all (fun r => r.chain.gill.all (fun g => !w.gset.contains g)))
    && s.flights.all (fun f => !w.gset.any (fun g => f.dst == 0x1000 + g))
    && w.gset.all (fun g => (s.gl g).acc.all (·.write))

/-- The lowest save level that no image of a gill of the set takes (R540). -/
def State.freeLevel (s : State) (gs : List Nat) : Nat :=
  let used := (s.sched.works.filter (fun w => (w.st == .saved || w.st == .restoring || (w.st == .saving && w.drained))
    && w.gset.any (gs.contains ·))).map (·.level)
  ((List.range (used.length + 1)).find? (fun k => !used.contains k)).getD 0

/-- PREEMPT_DRAIN_DONE (R539): the lowest free save level is taken and the members are written. -/
def State.drainDone (s : State) (id : Nat) : State :=
  match s.work? id with
  | none => s
  | some w =>
    if w.st = .saving ∧ !w.drained ∧ s.gangDrained w then
      s.setWork { w with drained := true, level := s.freeLevel w.gset, phaseAt := s.now }
    else s

/-- What the model keeps beside the save image of a member. -/
def State.saveMember (s : State) (g : Nat) : Saved :=
  ⟨g, s.gl g, s.fld (R.GILL_PC_PROG g), s.gpc g, s.gst g != 6⟩

/-- The save image of a gill in blocks of 64 bytes (R540): 640 of sequencer state, then for each tile 176 of slices and weight
buffer, and the live regions in declaration order. The spec gives no places inside the first two: their bytes are free.
[Log 57 DESIGN CHOICE] -/
def State.saveBlocks (s : State) (g k : Nat) : List (List Byte) :=
  let free := fun (at_ n : Nat) => (List.range n).map (fun j => (List.range 64).map (fun b => Config.saveData k (64 * (at_ + j) + b)))
  let live := match s.gprog g with
    | some pr => pr.live
    | none => []
  free 0 640 ++ (List.range 64).flatMap (fun t => free (640 + 176 * t) 176 ++ live.flatMap (fun l =>
    (List.range l.2).map (fun m => s.sramBytes (sramAddr g t (64 * (l.1 + m))) 64)))

/-- Where the image of a gill at a save level lies (R540): BASE of SAVE_PART plus (level × n + i) × B_max.
[Log 57 DESIGN CHOICE] -/
def State.saveVa (s : State) (part g level : Nat) : Option Nat :=
  s.img.active.bind (fun im => (im.part? part).bind (fun p => (im.mem? p.savePart).map (fun m =>
    m.base + (level * (s.partGills part).length + (s.partGills part).idxOf g) * im.saveMax part)))

/-- A member writes its save image. The save path alone maps the partition, at VA = physical address (R476, R478); the last
block goes first, which no one can tell. -/
def State.storeImage (s : State) (part level g : Nat) : State :=
  match s.saveVa part g level with
  | none => s
  | some va =>
    (s.saveBlocks g s.free).zipIdx.reverse.foldl (fun (s : State) (b : List Byte × Nat) => s.physWrite (va + 64 * b.2) b.1) s.fresh.2

/-- The save path's walk for a member meets an uncorrectable error in a page-table read (R486). -/
def State.saveWalkFail (s : State) (part level g : Nat) : State :=
  let va := (s.saveVa part g level).getD 0
  s.txFail 4 (0x1000 + g) 1 va va 2 0

/-- SAVE_COMPLETE (R540, R554): the images are written and the work is SAVED, or a walk that fails for a member ends it. -/
def State.saveDone (s : State) (id : Nat) (bad : Option Nat) : State :=
  match s.work? id with
  | none => s
  | some w =>
    if w.st = .saving ∧ w.drained then
      let part := ((s.queueOf w.queue).map (·.part)).getD 0
      match bad.filter (w.gset.contains ·) with
      | some g => ((s.saveWalkFail part w.level g).schedReport 0x9008 g (some w.queue)).finishWork w 2 0x9008
      | none =>
        let sv := w.gset.map s.saveMember
        let s := w.gset.foldl (fun (s : State) (g : Nat) =>
          (s.setF (R.GILL_STATUS_STATE g) 0).setF (R.SCHED_GILL_RES_LEVEL g) (s.fld (R.SCHED_GILL_RES_LEVEL g) + 1)) s
        let s := w.gset.foldl (State.storeImage · part w.level) s
        let s := s.raise (R.SCHED_P_SAVE_MAX_US_VALUE part) (s.phaseUs w)
        (s.setWork { w with st := .saved, saved := sv }).queueRegs w.queue
    else s

/-- Reads blocks of a save image for a member, until one has an uncorrectable error. -/
def State.imageRead (g : Nat) : Nat → State → Nat → Option (List Byte) × State
  | 0, s, _ => (some [], s)
  | k + 1, s, va =>
    match s.eccRead va 64 with
    | (true, s) =>
      match State.imageRead g k s (va + 64) with
      | (b, t) => (b.map (s.bytes va 64 ++ ·), t)
    | (false, s) => (none, s.txFail 5 (0x1000 + g) 1 va va 0 0)

/-- The live regions of a member come from its save image, tile after tile (R540). -/
def State.restoreLive (s : State) (g : Nat) (pr : ProgRec) (b : List Byte) : State :=
  (List.range 64).foldl (fun (s : State) (t : Nat) =>
    (pr.live.foldl (fun (acc : Nat × State) l =>
      (acc.1 + 64 * l.2, acc.2.setSram (sramAddr g t (64 * l.1)) ((b.drop acc.1).take (64 * l.2))))
      (40960 + t * (11264 + pr.liveBytes) + 11264, s)).2) s

/-- A member comes back as it was saved, its live regions from its image, which it reads whole: whether every
read of it has stood. It issues its waiting bundle again (R431). -/
def State.restoreMember (s : State) (part level : Nat) (m : Saved) : Bool × State :=
  let s := s.setGl m.gill m.ctx
  let s := ((s.setF (R.GILL_PC_PROG m.gill) m.prog).setF (R.GILL_PC_PC m.gill) m.pc).setF (R.GILL_STATUS_STATE m.gill)
    (if m.ended then 0 else 1)
  match s.saveVa part m.gill level, s.gprog m.gill with
  | some va, some pr =>
    match State.imageRead m.gill (pr.saveBytes / 64) s va with
    | (some b, s) => (true, s.restoreLive m.gill pr b)
    | (none, s) => (false, s)
  | _, _ => (true, s)

/-- The members come back; the first whose image cannot be read. -/
def State.restoreAll (part level : Nat) : List Saved → State → Option Nat × State
  | [], s => (none, s)
  | m :: l, s =>
    match s.restoreMember part level m with
    | (true, s) => State.restoreAll part level l s
    | (false, s) => (some m.gill, s)

/-- RESTORE_COMPLETE (R542, R554): every member is back and they are released together, or a fault ends the work: a walk that
fails for a member, or an image that cannot be read. -/
def State.restoreDone (s : State) (id : Nat) (bad : Option Nat) : State :=
  match s.work? id with
  | none => s
  | some w =>
    if w.st = .restoring ∧ w.swaps = [] then
      let rec_ := s.queueOf w.queue
      let part := (rec_.map (·.part)).getD 0
      let res := match bad.filter (w.gset.contains ·) with
        | some g => (some g, s.saveWalkFail part w.level g)
        | none => State.restoreAll part w.level w.saved s
      match res with
      | (some g, s) => (s.schedReport 0x9009 g (some w.queue)).finishWork w 2 0x9009
      | (none, s) =>
        let s := w.gset.foldl (fun (s : State) (g : Nat) =>
          (s.setF (R.SCHED_GILL_RES_MODEL g) ((rec_.map (·.model)).getD 0xFFFF)).setF (R.SCHED_GILL_RES_LEVEL g)
            (s.fld (R.SCHED_GILL_RES_LEVEL g) - 1)) s
        let s := s.raise (R.SCHED_P_RESTORE_MAX_US_VALUE part) (s.phaseUs w)
        (s.setWork { w with st := .running, since := some s.now, quantumOver := false, saved := [], drained := false }).queueRegs
          w.queue
    else s

/-! ## The end of works (R520, R544, R545) -/

/-- GANG_END: a gang whose members have all ended, or one of which has failed; a unit work that its unit has
finished. -/
def State.gangEnd (s : State) (id : Nat) : State :=
  match s.work? id with
  | none => s
  | some w =>
    if w.handed then
      match s.chainsDone.find? (·.work == id) with
      | none => s
      | some d =>
        let s := { s with chainsDone := s.chainsDone.filter (fun x => !(x.work == id)) }
        s.endWork w (if d.status = 0 then 1 else 2) d.status
    else if w.since.isSome ∨ w.st = .saving then
      match w.gset.filterMap (fun g => (s.gl g).outcome.bind (fun o => if o = 0 then none else some o)) with
      | sts :: _ => s.finishWork w 2 sts
      | [] => if w.gset.all (fun g => (s.gl g).outcome == some 0) then s.finishWork w 1 0 else s
    else s

/-- Cancels a work in any state (R545); a unit work already handed over is not cancelled. -/
def State.cancelWork (s : State) (w : Work) : State := s.finishWork w 3 0

/-- A write of SCHED_CANCEL. -/
def State.hostCancel (s : State) (id : Nat) : State :=
  match s.sched.works.find? (fun w => w.id % 2 ^ 32 == id) with
  | some w => if w.handed then s.schedReport 0x9007 0 none else s.cancelWork w
  | none => s.schedReport 0x9007 0 none

/-- The track unit cancels a track's work (R530). -/
def State.trackCancel (s : State) (slot seq : Nat) : State :=
  match s.trackWork? slot seq with
  | some w => s.cancelWork w
  | none => { s with sched.held := s.sched.held.filter (fun h =>
      !(h.src == 2 && bf (h.desc.getD 3 0) 8 0 == slot && h.desc.getD 2 0 == seq)) }

/-- WORK_MESSAGE (R524): the oldest message of a gill to a dispatcher is judged, if it has 16 words. -/
def State.workMessage (s : State) (src : Nat) : State :=
  match s.takeFlight (fun f => f.gill == src && (f.dst / 4096 == 12 || f.dst / 4096 == 7 || f.dst / 4096 == 8
      || f.dst / 4096 == 10)) with
  | (none, s) => s
  | (some f, s) =>
    let s := s.settleAll src
    if f.words.length = 16 then s.submit 1 f.words else s

end Sys2Proof.Machine
end

