-- ==== Sys2Proof/Machine/Prefix.lean ====
section
/-! DEFINITION. Prefix: the prefix walker, the adapter table and the gather (R559 to R577, R585 to R590). -/

namespace Sys2Proof.Machine

/-! ## Nodes (R560, R561) -/

/-- A node as it stands in memory. -/
structure PNode where
  flags : Nat := 0
  parent : Nat := 0xFFFF
  first : Nat := 0xFFFF
  next : Nat := 0xFFFF
  tree : Nat := 0
  refs : Nat := 0
  ins : Nat := 0
  block : Nat := 0xFFFFFFFF
  depth : Nat := 0
  edge : List Nat := []
  lru : Nat := 0
  deriving DecidableEq, Repr

/-- Whether a node is in use, owns a state block, and is pinned. -/
def PNode.used (n : PNode) : Bool := n.flags.testBit 0
def PNode.state (n : PNode) : Bool := n.flags.testBit 1
def PNode.pin (n : PNode) : Bool := n.flags.testBit 2

/-- FLAGS of a node. -/
def nodeFlags (state pin : Bool) : Nat := 1 + 2 * state.toNat + 4 * pin.toNat

/-- The 64 bytes of a node. -/
def PNode.bytes (n : PNode) : List Byte :=
  leBytes 2 n.flags ++ leBytes 2 n.parent ++ leBytes 2 n.first ++ leBytes 2 n.next ++ leBytes 1 n.edge.length
    ++ leBytes 1 n.tree ++ leBytes 2 n.refs ++ leBytes 4 n.ins ++ leBytes 4 n.block ++ leBytes 2 n.depth ++ [0, 0]
    ++ slice (n.edge.flatMap (leBytes 2)) 0 24 ++ leBytes 8 n.lru ++ leBytes 8 0

/-- Reads a node's 64 bytes. -/
def readNode (b : List Byte) : PNode :=
  { flags := leAt b 0 2, parent := leAt b 2 2, first := leAt b 4 2, next := leAt b 6 2, tree := leAt b 9 1
    refs := leAt b 10 2, ins := leAt b 12 4, block := leAt b 16 4, depth := leAt b 20 2
    edge := (List.range (min 12 (leAt b 8 1))).map (fun k => leAt b (0x18 + 2 * k) 2), lru := leAt b 0x30 8 }

/-- BASE of the partition, NODES, BLK_BYTES and NBLK. -/
def State.pfxBase (s : State) : Nat := s.fld R.PFX_BASE_LO_BASE_LO + 2 ^ 32 * s.fld R.PFX_BASE_HI_BASE_HI
def State.pfxNodes (s : State) : Nat := 1024 * s.fld R.PFX_CFG_NODES_K
def State.blkBytes (s : State) : Nat := 4096 * s.fld R.PFX_CFG_BLK_4K

/-- The VA of a block. -/
def State.blockVa (s : State) (b : Nat) : Nat := s.pfxBase + 2 ^ 22 + b * s.blkBytes

/-- A failed request: its status in the result, what the block reports with its detail, and W1 of the result. -/
structure PErr where
  sts : Nat
  last : Nat
  detail : Nat
  w1 : Nat
  deriving DecidableEq, Repr

/-- Reads a node in one transaction (R587); a failure is the reason's status. -/
def State.nodeGet (s : State) (n : Nat) : Except PErr PNode × State :=
  match s.vread 0x9000 9 (s.pfxBase + 64 * n) 64 with
  | (.ok b, s) => (.ok (readNode b), s)
  | (.error e, s) => (.error ⟨reasonSts e.reason, 0xA003, n, 0⟩, s)

/-- Writes a node; a failure sets CORRUPT (R588). -/
def State.nodePut (s : State) (n : Nat) (x : PNode) : Option PErr × State :=
  match s.vwrite 0x9000 9 (s.pfxBase + 64 * n) x.bytes with
  | (none, s) => (none, s)
  | (some e, s) => (some ⟨reasonSts e.reason, 0xA003, n, 0⟩, s.setB R.PFX_STATUS_CORRUPT true)

/-- Writes several nodes in order, until one fails. -/
def State.nodePuts (s : State) : List (Nat × PNode) → Option PErr × State
  | [] => (none, s)
  | (n, x) :: l =>
    match s.nodePut n x with
    | (none, s) => s.nodePuts l
    | (some e, s) => (some e, s)

/-- PFX_USED shows the blocks and nodes in use (R589). -/
def State.pfxRegs (s : State) : State :=
  (s.setF R.PFX_USED_BLKS (min 0xFFFF s.pfx.blocks.length)).setF R.PFX_USED_NODES (min 0xFFFF s.pfx.nodes.length)

/-- The candidates on chip follow a node. -/
def State.candPut (s : State) (n : Nat) (x : PNode) : State :=
  let c := if x.state then some (⟨x.lru, x.refs, x.pin⟩ : PCand) else none
  { s with pfx.cands := Sparse.put s.pfx.cands n c none }

/-- The lowest free index from `lo` below `hi`. -/
def lowestFree (used : List Nat) (lo hi : Nat) : Option Nat :=
  ((List.range (hi - lo)).map (lo + ·)).find? (fun i => !used.contains i)

/-- The indexes a node may take: 16 to NODES − 1, and never 0xFFFF (R562). -/
def State.nodeTop (s : State) : Nat := min s.pfxNodes 0xFFFF

/-! ## Walking (R559, R571, R573) -/

/-- The first token of a recipe that is reserved. -/
def badToken (r : List Nat) : Option Nat := r.findIdx? (fun t => t == 0 || decide (0xFFF0 ≤ t))

/-- Reads a recipe and checks it (R559). -/
def State.recipe (s : State) (va len : Nat) : Except PErr (List Nat) × State :=
  if len = 0 ∨ 4096 < len then (.error ⟨0xA001, 0xA001, 0, 0⟩, s)
  else match s.vread 0x9000 9 va (2 * len) with
    | (.error e, s) => (.error ⟨reasonSts e.reason, 0xA003, 0xFFFF, 0⟩, s)
    | (.ok b, s) =>
      let r := (List.range len).map (fun k => leAt b (2 * k) 2)
      match badToken r with
      | some k => (.error ⟨0xA001, 0xA001, k, 0⟩, s)
      | none => (.ok r, s)

/-- The child of a node whose edge begins with a token, and the sibling before it; siblings ascend by first token. -/
def State.childOf (tok : Nat) : Nat → State → Nat → Option Nat → Except PErr (Option (Nat × PNode) × Option Nat) × State
  | 0, s, _, prev => (.ok (none, prev), s)
  | fuel + 1, s, n, prev =>
    if n = 0xFFFF then (.ok (none, prev), s)
    else match s.nodeGet n with
      | (.error e, s) => (.error e, s)
      | (.ok x, s) =>
        let t := x.edge.headD 0
        if t = tok then (.ok (some (n, x), prev), s)
        else if tok < t then (.ok (none, prev), s)
        else State.childOf tok fuel s x.next (some n)

/-- The path of a walk: the nodes entered whole, from the root on, each with its contents; how many tokens matched; the
node entered partway, with the tokens of its edge that matched; the sibling after which a new child of the last node goes. -/
structure PPath where
  path : List (Nat × PNode)
  m : Nat := 0
  part : Option (Nat × PNode × Nat) := none
  prev : Option Nat := none
  deriving DecidableEq, Repr

/-- Tokens that two lists have in common at their front. -/
def commonLen : List Nat → List Nat → Nat
  | a :: l, b :: m => if a = b then commonLen l m + 1 else 0
  | _, _ => 0

/-- Follows the rest of a recipe from the last node of a path. -/
def State.follow : Nat → State → List Nat → PPath → Except PErr PPath × State
  | 0, s, _, p => (.ok p, s)
  | fuel + 1, s, rest, p =>
    match rest, p.path.getLast? with
    | tok :: _, some (_, x) =>
      match State.childOf tok (s.pfxNodes + 1) s x.first none with
      | (.error e, s) => (.error e, s)
      | (.ok (none, prev), s) => (.ok { p with prev := prev }, s)
      | (.ok (some (n, y), prev), s) =>
        let k := commonLen rest y.edge
        if k < y.edge.length then (.ok { p with m := p.m + k, part := some (n, y, k), prev := prev }, s)
        else State.follow fuel s (rest.drop k) { path := p.path ++ [(n, y)], m := p.m + k }
    | _, _ => (.ok p, s)

/-- The path of a recipe in a tree. -/
def State.pathOf (s : State) (tree : Nat) (r : List Nat) : Except PErr PPath × State :=
  match s.nodeGet tree with
  | (.error e, s) => (.error e, s)
  | (.ok x, s) => State.follow (r.length + 1) s r { path := [(tree, x)] }

/-- What a request comes to: STATUS aside, FLAGS, NODE, W1 and VA of the result (R568). -/
structure PRes where
  flags : Nat := 0
  node : Nat := 0xFFFF
  w1 : Nat := 0
  va : Nat := 0
  deriving DecidableEq, Repr

/-- Writes a node and keeps its candidate. -/
def State.nodeSet (s : State) (n : Nat) (x : PNode) : Option PErr × State :=
  match s.nodePut n x with
  | (none, s) => (none, s.candPut n x)
  | (some e, s) => (some e, s)

/-- Writes nodes and keeps their candidates, until one fails. -/
def State.nodeSets (s : State) : List (Nat × PNode) → Option PErr × State
  | [] => (none, s)
  | (n, x) :: l =>
    match s.nodeSet n x with
    | (none, s) => s.nodeSets l
    | (some e, s) => (some e, s)

/-- Takes the next request number. -/
def State.nextReq (s : State) : Nat × State :=
  (s.pfx.reqNo, { s with pfx.reqNo := (s.pfx.reqNo + 1) % 2 ^ 64 })

/-- A WALK (R571). -/
def State.pfxWalk (s : State) (q : PReq) : Except PErr PRes × State :=
  let s := s.inc R.PFX_CNT_WALK_COUNT
  let (no, s) := s.nextReq
  match s.recipe q.va1 q.arg with
  | (.error e, s) => (.error e, s)
  | (.ok r, s) =>
    match s.pathOf (q.flags % 16) r with
    | (.error e, s) => (.error e, s)
    | (.ok p, s) =>
      let upto := (p.path.reverse.dropWhile (fun e => !e.2.state)).reverse
      match upto.getLast? with
      | none => (.ok {}, s)
      | some (n, x) =>
        let hold := q.flags.testBit 4
        if hold && x.refs == 0xFFFF then (.error ⟨0xA006, 0xA006, n, 0⟩, s)
        else
          let s := s.inc R.PFX_CNT_HIT_COUNT
          let ws := upto.map (fun e => (e.1, { e.2 with
            lru := no, refs := if e.1 = n ∧ hold then e.2.refs + 1 else e.2.refs }))
          match s.nodeSets ws with
          | (some e, s) => (.error e, s)
          | (none, s) => (.ok { flags := 1 + 4 * hold.toNat, node := n, w1 := x.depth, va := s.blockVa x.block }, s)

/-! ## Eviction (R574) -/

/-- Unlinks a child from its parent's chain of siblings. -/
def State.unlink (child next : Nat) : Nat → State → Nat → Option PErr × State
  | 0, s, _ => (none, s)
  | fuel + 1, s, at_ =>
    match s.nodeGet at_ with
    | (.error e, s) => (some e, s)
    | (.ok x, s) =>
      if x.next = child then s.nodePut at_ { x with next := next }
      else if x.next = 0xFFFF then (none, s)
      else State.unlink child next fuel s x.next

/-- Removes nodes without STATE and children, upwards, not those of `keep` nor roots; counts them. -/
def State.prune (keep : List Nat) : Nat → State → Nat → Option PErr × State
  | 0, s, _ => (none, s)
  | fuel + 1, s, n =>
    if n < 16 ∨ keep.contains n then (none, s)
    else match s.nodeGet n with
      | (.error e, s) => (some e, s)
      | (.ok x, s) =>
        if x.state ∨ x.first ≠ 0xFFFF then (none, s)
        else match s.nodeGet x.parent with
          | (.error e, s) => (some e, s)
          | (.ok p, s) =>
            let (e, s) := if p.first = n then s.nodePut x.parent { p with first := x.next }
              else State.unlink n x.next (s.pfxNodes + 1) s p.first
            match e with
            | some e => (some e, s)
            | none =>
              match s.nodePut n { flags := 0, parent := 0, first := 0, next := 0, block := 0 } with
              | (some e, s) => (some e, s)
              | (none, s) =>
                let s := { s with pfx.nodes := s.pfx.nodes.filter (· != n) }
                State.prune keep fuel s x.parent

/-- Evicts a node: its block is freed, STATE cleared, and what has become empty removed. -/
def State.evictNode (s : State) (keep : List Nat) (n : Nat) : Option PErr × State :=
  match s.nodeGet n with
  | (.error e, s) => (some e, s)
  | (.ok x, s) =>
    match s.nodeSet n { x with flags := nodeFlags false x.pin, block := 0xFFFFFFFF } with
    | (some e, s) => (some e, s)
    | (none, s) =>
      let s := { s with pfx.blocks := s.pfx.blocks.filter (· != x.block) }.inc R.PFX_CNT_EVICT_COUNT
      let s := s.timing R.SYS_REPRO_STATUS_T_PFX none
      State.prune keep (s.pfxNodes + 1) s n

/-- The candidate with the lowest LRU, ties to the lowest index; REFS is 0 and PIN clear. -/
def victim (keep : List Nat) (c : Sparse (Option PCand)) : Option Nat :=
  (c.foldl (fun (b : Option (Nat × Nat)) e =>
    match e.2 with
    | some x =>
      if x.refs ≠ 0 ∨ x.pin ∨ keep.contains e.1 then b
      else match b with
        | some (l, _) => if x.lru < l then some (x.lru, e.1) else b
        | none => some (x.lru, e.1)
    | none => b) none).map (·.2)

/-- Whether the free nodes and blocks suffice. -/
def State.roomFor (s : State) (nodes : Nat) : Bool :=
  decide (s.pfx.nodes.length + nodes ≤ s.nodeTop - 16) && decide (s.pfx.blocks.length + 1 ≤ s.fld R.PFX_NBLK_NBLK)

/-- Evicts until there is room: how many nodes were evicted, or that the candidates cannot supply it. -/
def State.evictFor (keep : List Nat) (nodes : Nat) : Nat → State → Nat → Except (Option PErr) Nat × State
  | 0, s, _ => (.error none, s)
  | fuel + 1, s, k =>
    if s.roomFor nodes then (.ok k, s)
    else match victim keep s.pfx.cands with
      | none => (.error none, s)
      | some n =>
        match s.evictNode keep n with
        | (some e, s) => (.error (some e), s)
        | (none, s) => State.evictFor keep nodes fuel s (k + 1)

/-! ## Insert (R573) -/

/-- Takes the lowest free node. -/
def State.takeNode (s : State) : Nat × State :=
  let n := (lowestFree s.pfx.nodes 16 s.nodeTop).getD 16
  (n, { s with pfx.nodes := s.pfx.nodes ++ [n] })

/-- A chain of new nodes of up to 12 tokens each below a parent: the nodes from the top, linked downwards. -/
def State.chainNodes (tree : Nat) : Nat → State → Nat → Nat → List Nat → List (Nat × PNode) × State
  | 0, s, _, _, _ => ([], s)
  | fuel + 1, s, parent, depth, toks =>
    if toks = [] then ([], s)
    else
      let (n, s) := s.takeNode
      let e := toks.take 12
      let (l, s) := State.chainNodes tree fuel s n (depth + e.length) (toks.drop 12)
      let x : PNode := { flags := 1, parent := parent, tree := tree, depth := depth + e.length, edge := e
                         first := (l.head?.map (·.1)).getD 0xFFFF }
      ((n, x) :: l, s)

/-- Gives the last node of a list its state. -/
def giveState (block no : Nat) (l : List (Nat × PNode)) : List (Nat × PNode) :=
  match l.getLast? with
  | none => []
  | some (n, x) => l.dropLast ++ [(n, { x with
      flags := nodeFlags true x.pin, block := block, ins := no % 2 ^ 32, lru := no })]

/-- The children of a node, each with its contents. -/
def State.childList : Nat → State → Nat → Except PErr (List (Nat × PNode)) × State
  | 0, s, _ => (.ok [], s)
  | fuel + 1, s, n =>
    if n = 0xFFFF then (.ok [], s)
    else match s.nodeGet n with
      | (.error e, s) => (.error e, s)
      | (.ok x, s) =>
        match State.childList fuel s x.next with
        | (.error e, s) => (.error e, s)
        | (.ok l, s) => (.ok ((n, x) :: l), s)

/-- Links a new child of a node after its sibling `prev`, or as the first: the parent or the sibling as it becomes. -/
def State.linkChild (s : State) (parent : Nat × PNode) (prev : Option Nat) (child : Nat) :
    Except PErr ((Nat × PNode) × Nat) × State :=
  match prev with
  | none => (.ok ((parent.1, { parent.2 with first := child }), parent.2.first), s)
  | some p =>
    match s.nodeGet p with
    | (.error e, s) => (.error e, s)
    | (.ok x, s) => (.ok ((p, { x with next := child }), x.next), s)

/-- Links the tree (step 6): the nodes to write, children before what points at them, and the node that has the state. -/
def State.linkTree (s : State) (tree block no : Nat) (r : List Nat) (p : PPath) : Except PErr (List (Nat × PNode) × Nat) × State :=
  match p.path.getLast? with
  | none => (.ok ([], 0), s)
  | some top =>
    match p.part with
    | none =>
      if p.m = r.length then
        let l := giveState block no [top]
        (.ok (l, top.1), s)
      else
        let (l, s) := State.chainNodes tree (r.length + 1) s top.1 p.m (r.drop p.m)
        let l := giveState block no l
        let head := (l.head?.map (·.1)).getD 0
        match s.linkChild top p.prev head with
        | (.error e, s) => (.error e, s)
        | (.ok (w, next), s) =>
          let l := match l with
            | (n, x) :: rest => (n, { x with next := next }) :: rest
            | [] => []
          (.ok (l ++ [w], ((l.getLast?).map (·.1)).getD 0), s)
    | some (n, x, k) =>
      let (mid, s) := s.takeNode
      let (l, s) := State.chainNodes tree (r.length + 1) s mid p.m (r.drop p.m)
      let l := giveState block no l
      let low := { x with parent := mid, edge := x.edge.drop k, next := 0xFFFF }
      let m0 : PNode := { flags := 1, parent := x.parent, next := x.next, tree := tree, depth := p.m, edge := x.edge.take k }
      let (low, l, first) := match l with
        | (c, y) :: rest =>
          if y.edge.headD 0 < low.edge.headD 0 then (low, (c, { y with next := n }) :: rest, c)
          else ({ low with next := c }, (c, y) :: rest, n)
        | [] => (low, [], n)
      let m0 := { m0 with first := first }
      let m0 := if r.length = p.m then ((giveState block no [(mid, m0)]).head?.map (·.2)).getD m0 else m0
      let (w, s) := match p.prev with
        | none => (Except.ok (top.1, { top.2 with first := mid }), s)
        | some q => match s.nodeGet q with
          | (.error e, s) => (Except.error e, s)
          | (.ok y, s) => (Except.ok (q, { y with next := mid }), s)
      match w with
      | .error e => (.error e, s)
      | .ok w => (.ok (l ++ [(n, low), (mid, m0), w], ((l.getLast?).map (·.1)).getD mid), s)

/-- Holds a node that is linked: REFS increases. -/
def State.holdNode (s : State) (n : Nat) : Option PErr × State :=
  match s.nodeGet n with
  | (.error e, s) => (some e, s)
  | (.ok x, s) =>
    if x.refs = 0xFFFF then (some ⟨0xA006, 0xA006, n, 0⟩, s) else s.nodeSet n { x with refs := x.refs + 1 }

/-- An INSERT (R573). [Log 58 DESIGN CHOICE] -/
def State.pfxInsert (s : State) (q : PReq) : Except PErr PRes × State :=
  let s := s.inc R.PFX_CNT_INSERT_COUNT
  let (no, s) := s.nextReq
  let tree := q.flags % 16
  let hold := q.flags.testBit 4
  match s.recipe q.va1 q.arg with
  | (.error e, s) => (.error e, s)
  | (.ok r, s) =>
    match s.pathOf tree r with
    | (.error e, s) => (.error e, s)
    | (.ok p, s) =>
      let old := match p.part, p.path.getLast? with
        | none, some t => if p.m = r.length && t.2.state then some t else none
        | _, _ => none
      match old with
      | some (n, x) =>
        if hold && x.refs == 0xFFFF then (.error ⟨0xA006, 0xA006, n, 0⟩, s)
        else match s.nodeSet n { x with lru := no, refs := if hold then x.refs + 1 else x.refs } with
          | (some e, s) => (.error e, s)
          | (none, s) => (.ok { flags := 2 + 4 * hold.toNat, node := n, w1 := x.depth, va := s.blockVa x.block }, s)
      | none =>
        let nodes := (if p.part.isSome then 1 else 0) + (r.length - p.m + 11) / 12
        let keep := p.path.map (·.1) ++ (match p.part with | some e => [e.1] | none => [])
        match State.evictFor keep nodes (s.pfx.cands.length + 1) s 0 with
        | (.error none, _) => (.error ⟨0xA002, 0xA002, tree, 0⟩, s)
        | (.error (some e), s) => (.error e, s)
        | (.ok k, s) =>
          let fail := fun (e : PErr) => (Except.error e : Except PErr PRes)
          let block := (lowestFree s.pfx.blocks 0 (s.fld R.PFX_NBLK_NBLK)).getD 0
          match s.vread 0x9000 9 q.va2 s.blkBytes with
          | (.error e, s) => (fail ⟨reasonSts e.reason, 0xA003, 0xFFFF, 256 * min k 255⟩, s)
          | (.ok b, s) =>
            match s.vwrite 0x9000 9 (s.blockVa block) b with
            | (some e, s) => (fail ⟨reasonSts e.reason, 0xA003, 0xFFFF, 256 * min k 255⟩, s)
            | (none, s) =>
              let s := { s with pfx.blocks := s.pfx.blocks ++ [block] }
              match s.pathOf tree r with
              | (.error e, s) => (fail e, s)
              | (.ok p, s) =>
                match s.linkTree tree block no r p with
                | (.error e, s) => (fail e, s)
                | (.ok (ws, n), s) =>
                  match s.nodeSets ws with
                  | (some e, s) => (fail e, s)
                  | (none, s) =>
                    let s := s.timing R.SYS_REPRO_STATUS_T_PFX none
                    match if hold then s.holdNode n else (none, s) with
                    | (some e, s) => (fail e, s)
                    | (none, s) =>
                      (.ok { flags := 4 * hold.toNat, node := n, w1 := (r.length + 256 * min k 255) % 65536
                             va := s.blockVa block }, s)

/-! ## The other prefix requests (R572, R574) -/

/-- A hold that fails. -/
def refErr (n : Nat) : PErr := ⟨0xA006, 0xA006, n, 0⟩

/-- A request on a named node. Node 0xFFFF is never read and never in use (R562). -/
def State.pfxNode (s : State) (q : PReq) (k : PNode → Except PErr (Option PNode)) : Except PErr PRes × State :=
  if s.pfxNodes ≤ q.arg then (.error ⟨0xA008, 0xA008, q.op, 0⟩, s)
  else if s.nodeTop ≤ q.arg then (.error (refErr q.arg), s)
  else match s.nodeGet q.arg with
    | (.error e, s) => (.error e, s)
    | (.ok x, s) =>
      match k x with
      | .error e => (.error e, s)
      | .ok none => (.ok { node := q.arg }, s)
      | .ok (some y) =>
        match s.nodeSet q.arg y with
        | (some e, s) => (.error e, s)
        | (none, s) => (.ok { node := q.arg }, s)

/-- RELEASE gives back a hold. -/
def State.pfxRelease (s : State) (q : PReq) : Except PErr PRes × State :=
  s.pfxNode q (fun x => if x.used && x.refs != 0 then .ok (some { x with refs := x.refs - 1 }) else .error (refErr q.arg))

/-- PIN sets PIN. [Log 58 DESIGN CHOICE] -/
def State.pfxPin (s : State) (q : PReq) : Except PErr PRes × State :=
  s.pfxNode q (fun x => if x.used && x.refs != 0xFFFF then .ok (some { x with flags := x.flags ||| 4 }) else .error (refErr q.arg))

/-- UNPIN clears PIN. -/
def State.pfxUnpin (s : State) (q : PReq) : Except PErr PRes × State :=
  s.pfxNode q (fun x => if x.used then .ok (some { x with flags := nodeFlags x.state false }) else .error (refErr q.arg))

/-- EVICT of a named node. [Log 58 DESIGN CHOICE] -/
def State.pfxEvict (s : State) (q : PReq) : Except PErr PRes × State :=
  if s.pfxNodes ≤ q.arg then (.error ⟨0xA008, 0xA008, q.op, 0⟩, s)
  else if s.nodeTop ≤ q.arg then (.error (refErr q.arg), s)
  else match s.nodeGet q.arg with
    | (.error e, s) => (.error e, s)
    | (.ok x, s) =>
      if !x.state || x.pin || x.refs != 0 then (.error (refErr q.arg), s)
      else match s.evictNode [] q.arg with
        | (some e, s) => (.error e, s)
        | (none, s) => (.ok { node := q.arg, w1 := 256 }, s)

/-! ## Adapters (R564, R565, R575 to R577) -/

/-- A descriptor of the table. -/
def State.adapter (s : State) (i : Nat) : Adapter := Sparse.get s.pfx.adapters i {}

/-- Puts a descriptor. -/
def State.setAdapter (s : State) (i : Nat) (a : Adapter) : State :=
  { s with pfx.adapters := Sparse.put s.pfx.adapters i a {} }

/-- ADP_INFLIGHT shows the selected descriptor's gathers. -/
def State.adpRegs (s : State) : State :=
  let a := s.adapter (s.fld R.ADP_SEL_INDEX)
  (s.setF R.ADP_INFLIGHT_PREV a.inPrev).setF R.ADP_INFLIGHT_LIVE a.inLive

/-- An adapter status. -/
def State.adpReport (s : State) (sts i : Nat) : State := s.report R.ADP_STATUS_LAST_STS sts i

/-- The 32 bytes of a descriptor. -/
def Adapter.bytes (a : Adapter) : List Byte :=
  leBytes 1 (a.live.toNat + 2 * a.stage.toNat) ++ leBytes 1 a.rank ++ leBytes 2 a.model ++ leBytes 1 a.ty
    ++ leBytes 1 a.nlayer ++ leBytes 2 a.scale ++ leBytes 8 a.liveVa ++ leBytes 8 a.stageVa ++ leBytes 4 a.gen
    ++ leBytes 4 a.owner

/-- The window's fields. -/
def State.adpWindow (s : State) : Adapter :=
  let b := (List.range 8).flatMap (fun k => leBytes 4 (s.fld (R.ADP_DESC_DESC k)))
  { rank := leAt b 1 1, model := leAt b 2 2, ty := leAt b 4 1, nlayer := leAt b 5 1, scale := leAt b 6 2
    liveVa := leAt b 8 8, stageVa := leAt b 16 8, gen := leAt b 24 4, owner := leAt b 28 4 }

/-- A layer-table entry is within its ranges (R565). -/
def layerOk (b : List Byte) : Bool :=
  let dim := fun (d : Nat) => decide (16 ≤ d) && decide (d ≤ 16384) && d % 16 == 0
  dim (leAt b 0 2) && dim (leAt b 2 2) && leAt b 6 2 == 0 && leAt b 8 8 % 64 == 0 && leAt b 16 8 % 64 == 0
    && leAt b 24 8 == 0

/-- Checks a descriptor's fields and the layer table at a VA. -/
def State.adpCheck (s : State) (a : Adapter) (va : Nat) : Bool × State :=
  if 4 ≤ a.rank ∧ a.rank ≤ 64 ∧ a.rank % 4 = 0 ∧ a.ty ≤ 2 ∧ 1 ≤ a.nlayer then
    match s.vread 0x9000 9 va (32 * a.nlayer) with
    | (.error _, s) => (false, s)
    | (.ok b, s) => ((List.range a.nlayer).all (fun k => layerOk (slice b (32 * k) 32)), s)
  else (false, s)

/-- The gathers of the live version are the old version's now. -/
def Adapter.turn (a : Adapter) : Adapter :=
  { a with gen := (a.gen + 1) % 2 ^ 32, inPrev := a.inPrev + a.inLive, inLive := 0 }

/-- A gather that reads the staged version of an adapter and counts against none yet. -/
def GatherRun.onStage (i : Nat) (g : GatherRun) : Bool := g.staged && g.against.isNone && g.req.arg == i

/-- PUBLISH of a descriptor: the failure's status, if it fails. A gather on the version it makes live counts against it.
[Log 59 DESIGN CHOICE] -/
def State.adpPublish (s : State) (i : Nat) : Option Nat × State :=
  let a := s.adapter i
  if !a.stage ∨ 1024 ≤ i then (some 0xA101, s)
  else if a.inPrev ≠ 0 then (some 0xA103, s)
  else
    let on := s.pfx.gather.any (·.onStage i)
    let s := s.setAdapter i { a.turn with live := true, stage := false, liveVa := a.stageVa, inLive := on.toNat }
    let s := { s with pfx.gather := s.pfx.gather.map (fun (g : GatherRun) =>
      if g.onStage i then { g with against := some a.turn.gen } else g) }
    (none, (s.inc R.ADP_CNT_PUBLISHES_COUNT).adpRegs)

/-- ADP_CMD with GO: 1 WRITE, 2 STAGE, 3 PUBLISH, 4 CLEAR on the selected descriptor. -/
def State.adpCmd (s : State) (op : Nat) : State :=
  let i := s.fld R.ADP_SEL_INDEX
  let a := s.adapter i
  let w := s.adpWindow
  let s := s.setF R.ADP_CMD_OP op
  match op with
  | 1 =>
    if a.inPrev ≠ 0 then s.adpReport 0xA103 i
    else match s.adpCheck w w.liveVa with
      | (false, s) => s.adpReport 0xA102 i
      | (true, s) =>
        (s.setAdapter i { a.turn with
          live := true, rank := w.rank, model := w.model, ty := w.ty, nlayer := w.nlayer, scale := w.scale
          liveVa := w.liveVa, owner := w.owner }).adpRegs
  | 2 =>
    match s.adpCheck w w.stageVa with
    | (false, s) => s.adpReport 0xA102 i
    | (true, s) =>
      s.setAdapter i { a with
        stage := true, rank := w.rank, model := w.model, ty := w.ty, nlayer := w.nlayer, scale := w.scale
        stageVa := w.stageVa, owner := w.owner }
  | 3 =>
    match s.adpPublish i with
    | (some e, s) => s.adpReport e i
    | (none, s) => s
  | 4 => if a.inPrev ≠ 0 ∨ a.inLive ≠ 0 then s.adpReport 0xA103 i else (s.setAdapter i {}).adpRegs
  | _ => s

/-- A write of ADP_CMD. -/
def State.writeAdpCmd (s : State) (v : Nat) : State :=
  if R.ADP_CMD_GO.of v = 1 then s.adpCmd (R.ADP_CMD_OP.of v) else s.setF R.ADP_CMD_OP (R.ADP_CMD_OP.of v)

/-- A read of ADP_DESC0 copies the selected descriptor into the window (R590). -/
def State.adpRead (s : State) : State :=
  let b := (s.adapter (s.fld R.ADP_SEL_INDEX)).bytes
  let s := (List.range 8).foldl (fun (s : State) (k : Nat) => s.setF (R.ADP_DESC_DESC k) (leAt b (4 * k) 4)) s
  { s with bus.data := leAt b 0 4 }

/-! ## Requests (R567 to R570) -/

/-- A request entry as words of bytes. -/
def readReq (b : List Byte) : PReq :=
  ⟨leAt b 0 1, leAt b 1 1, leAt b 2 2, leAt b 8 8, leAt b 16 8, leAt b 24 8⟩

/-- The unit's handed work on 0x9000, whose list has been read or is read now. A failed read ends it. -/
def State.pfxList (s : State) : State :=
  if s.pfx.list.isSome then s
  else match s.sched.works.find? (fun w => w.handed && ((s.queueOf w.queue).map QueueRec.executor) == some 0x9000
      && s.chainsDone.all (fun d => d.work != w.id)) with
    | none => s
    | some w =>
      let n := w.desc.getD 12 0
      let va := w.desc.getD 10 0 + 2 ^ 32 * w.desc.getD 11 0
      if n = 0 ∨ 256 < n then
        { s with chainsDone := s.chainsDone ++ [(⟨w.id, 0xA008⟩ : ChainDone)] }.report R.PFX_STATUS_LAST_STS 0xA008 0
      else match s.vread 0x9000 9 va (32 * n) with
        | (.error e, s) => { s with chainsDone := s.chainsDone ++ [(⟨w.id, reasonSts e.reason⟩ : ChainDone)] }
        | (.ok b, s) =>
          { s with pfx.list := some (w.id, (List.range n).map (fun k => readReq (slice b (32 * k) 32))) }

/-- The next request from a source: the oldest message of a gill to the unit, with its words, or the list's next. -/
def State.pfxNext (s : State) (gill : Option Nat) : Option (PReq × PSrc × Bool) :=
  match gill with
  | some g =>
    (s.flights.find? (fun f => (f.gill == g && f.dst == 0x9000) && !s.flightHeld f)).map (fun f =>
      (readReq (f.words.flatMap (leBytes 4)), PSrc.gill g f.port, f.words.length == 8))
  | none =>
    match s.pfx.list with
    | some (id, r :: _) => some (r, .work id, true)
    | _ => none

/-- Takes that request away. -/
def State.pfxTake (s : State) (src : PSrc) : State :=
  match src with
  | .gill g _ => let (_, s) := s.takeFlight (fun f => f.gill == g && f.dst == 0x9000); s.settleAll g
  | .work _ => { s with pfx.list := s.pfx.list.map (fun e => (e.1, e.2.tail)) }

/-- A result is written, and sent to the gill that asked as a message to its port; the last result of a list ends the
work. [Log 58 DESIGN CHOICE] -/
def State.pfxResult (s : State) (q : PReq) (src : PSrc) (sts : Nat) (r : PRes) : State :=
  let b := leBytes 2 sts ++ leBytes 1 q.op ++ leBytes 1 r.flags ++ leBytes 2 r.node ++ leBytes 2 r.w1 ++ leBytes 8 r.va
  let s := if q.resultVa = 0 then s else (s.vwrite 0x9000 9 q.resultVa b).2
  match src with
  | .gill g port =>
    let x := s.gl g
    let p := x.ports.getD port {}
    let s := s.setGl g { x with ports := x.ports.set port { p with used := p.used + 1 } }
    { s with flights := s.flights ++ [(⟨64, port, 0x1000 + g, port, (List.range 4).map (fun k => leAt b (4 * k) 4), 0,
      s.fld R.MESH_ROUTESET_EPOCH⟩ : Flight)] }
  | .work id =>
    if s.pfx.list = some (id, []) then
      { s with pfx.list := none, chainsDone := s.chainsDone ++ [(⟨id, 0⟩ : ChainDone)] }
    else s

/-- A request fails: it is reported to its block and counted. -/
def State.pfxFail (s : State) (q : PReq) (src : PSrc) (e : PErr) : State :=
  let s := if q.op = 8 ∨ q.op = 9 then s.adpReport e.last e.detail
    else (s.report R.PFX_STATUS_LAST_STS e.last e.detail).inc R.PFX_CNT_FAIL_COUNT
  s.pfxResult q src (if e.sts = 0 then e.last else e.sts) { w1 := e.w1 }

/-- One request of the unit with an operation: the request taken must have it. A request with no defined operation, or a
message of another length, is refused whatever is asked for. -/
def State.pfxDo (s : State) (op : Nat) (gill : Option Nat) (k : State → PReq → PSrc → State) : State :=
  if s.pfx.gather.isSome then s
  else
    let s := s.pfxList
    match s.pfxNext gill with
    | none => s
    | some (q, src, whole) =>
      if !whole ∨ !([1, 2, 3, 4, 5, 6, 8, 9].contains q.op) then
        (s.pfxTake src).pfxFail q src ⟨0xA008, 0xA008, q.op, 0⟩
      else if q.op ≠ op then s
      else k (s.pfxTake src) q src

/-- A prefix request, once the walker takes them (R585, R588). -/
def State.pfxRun (s : State) (op : Nat) (gill : Option Nat) (f : State → PReq → Except PErr PRes × State) : State :=
  s.pfxDo op gill fun s q src =>
    if !s.bit R.PFX_STATUS_FORMATTED || !s.bit R.PFX_CTRL_EN then s.pfxFail q src ⟨0xA005, 0xA005, 0, 0⟩
    else if s.bit R.PFX_STATUS_CORRUPT then s.pfxFail q src ⟨0xA004, 0xA004, 0, 0⟩
    else match f s q with
      | (.ok r, s) => (s.pfxResult q src 0 r).pfxRegs
      | (.error e, s) => (s.pfxFail q src e).pfxRegs

/-! ## Gather (R575, R588) -/

/-- The destination's write: memory, or the tile window within the reach of the submitter (R496), for every gill that the
bytes fall on. -/
def State.gatherPut (s : State) (reach : Option Nat) (va : Nat) (b : List Byte) : Option Nat × State :=
  if inTileWin va then
    let g := va % 2 ^ 39 / 2 ^ 22
    let last := (va % 2 ^ 39 + b.length - 1) / 2 ^ 22
    if (List.range (last + 1 - g)).all (fun k => s.reaches reach (g + k)) then (none, s.setSram (va % 2 ^ 39) b) else (some 8, s)
  else match s.vwrite 0x9000 9 va b with
    | (none, s) => (none, s)
    | (some e, s) => (some e.reason, s)

/-- Pads to a multiple of 64 bytes. -/
def pad64 (b : List Byte) : List Byte := b ++ List.replicate ((64 - b.length % 64) % 64) 0

/-- Copies layer entries to the destination: the bytes written, or the failure's reason. -/
def State.gatherLoop (a : Adapter) (va : Nat) (reach : Option Nat) : Nat → State → Nat → Nat → Nat → Except Nat Nat × State
  | 0, s, _, _, n => (.ok n, s)
  | k + 1, s, i, dst, n =>
    match s.vread 0x9000 9 (va + 32 * i) 32 with
    | (.error e, s) => (.error e.reason, s)
    | (.ok b, s) =>
      let din := leAt b 0 2
      let dout := leAt b 2 2
      let el := if a.ty = 2 then 2 else 1
      match s.vread 0x9000 9 (leAt b 8 8) (a.rank * din * el) with
      | (.error e, s) => (.error e.reason, s)
      | (.ok am, s) =>
        match s.vread 0x9000 9 (leAt b 16 8) (dout * a.rank * el) with
        | (.error e, s) => (.error e.reason, s)
        | (.ok bm, s) =>
          let head := leBytes 2 (leAt b 4 2) ++ leBytes 1 a.rank ++ leBytes 1 a.ty ++ leBytes 2 din ++ leBytes 2 dout
            ++ leBytes 2 a.scale ++ leBytes 4 a.gen
          let out := pad64 head ++ pad64 am ++ pad64 bm
          match s.gatherPut reach dst out with
          | (some r, s) => (.error r, s)
          | (none, s) => State.gatherLoop a va reach k s (i + 1) (dst + out.length) (n + out.length)

/-- A GATHER begins: the snapshot of the descriptor, counted in flight. -/
def State.gatherStart (s : State) (q : PReq) (src : PSrc) : State :=
  let a := s.adapter q.arg
  let staged := q.flags.testBit 5
  let count := q.va2 / 65536 % 65536
  if q.arg ≥ 1024 ∨ !(if staged then a.stage else a.live) then s.pfxFail q src ⟨0xA101, 0xA101, q.arg, 0⟩
  else if count = 0 ∨ a.nlayer < q.va2 % 65536 + count then s.pfxFail q src ⟨0xA102, 0xA102, q.arg, 0⟩
  else
    let s := (s.inc R.ADP_CNT_GATHERS_COUNT).setB R.PFX_STATUS_BUSY true
    let s := if staged then s else s.setAdapter q.arg { a with inLive := a.inLive + 1 }
    { s with pfx.gather := some ⟨q, src, a, staged, if staged then none else some a.gen⟩ }.adpRegs

/-- The gather in flight completes: its count is given back, and its result written. -/
def State.gatherEnd (s : State) : State :=
  match s.pfx.gather with
  | none => s
  | some g =>
    let s := { s with pfx.gather := none }.setB R.PFX_STATUS_BUSY false
    let reach := match g.src with
      | .gill i _ => some (s.gpart i)
      | .work _ => none
    let (out, s) := State.gatherLoop g.desc (if g.staged then g.desc.stageVa else g.desc.liveVa) reach (g.req.va2 / 65536 % 65536) s
      (g.req.va2 % 65536) g.req.va1 0
    let a := s.adapter g.req.arg
    let s := match g.against with
      | none => s
      | some k => s.setAdapter g.req.arg (if a.gen = k then { a with inLive := a.inLive - 1 } else { a with inPrev := a.inPrev - 1 })
    let s := s.adpRegs
    match out with
    | .ok n => s.pfxResult g.req g.src 0 { w1 := g.desc.gen % 65536, va := n }
    | .error r => s.pfxFail g.req g.src ⟨reasonSts r, 0xA104, g.req.arg, 0⟩

/-! ## FORMAT (R586) -/

/-- A node of the empty tree. -/
def freshNode (n : Nat) : PNode :=
  if n < 16 then { flags := 1, tree := n } else { parent := 0, first := 0, next := 0, block := 0 }

/-- FORMAT. -/
def State.pfxFormat (s : State) : State :=
  let kind3 := s.img.active.bind (fun im => im.mems.find? (·.kind == 3))
  let bad := match kind3 with
    | none => true
    | some m => s.pfxBase != m.base || decide (m.size < 2 ^ 22 + s.fld R.PFX_NBLK_NBLK * s.blkBytes)
  if s.bit R.PFX_STATUS_BUSY || bad then s.report R.PFX_STATUS_LAST_STS 0xA007 0
  else
    let s := s.setB R.PFX_STATUS_CORRUPT false
    let s := { s with pfx := { s.pfx with reqNo := 1, nodes := [], blocks := [], cands := [] } }
    let (e, s) := s.nodePuts ((List.range s.nodeTop).map (fun n => (n, freshNode n)))
    let s := (s.setB R.PFX_STATUS_FORMATTED true).pfxRegs
    match e with
    | some e => s.report R.PFX_STATUS_LAST_STS e.last e.detail
    | none => s

/-- A write of PFX_CTRL. -/
def State.writePfxCtrl (s : State) (v : Nat) : State :=
  let s := s.setF R.PFX_CTRL_EN (R.PFX_CTRL_EN.of v)
  if R.PFX_CTRL_FORMAT.of v = 1 then s.pfxFormat else s

/-- At every start and every image load FORMATTED reads 0 and the adapter table is EMPTY (R586). -/
def State.pfxClear (s : State) : State :=
  let s := (s.setB R.PFX_STATUS_FORMATTED false).setB R.PFX_STATUS_CORRUPT false
  ({ s with pfx := {} }.setB R.PFX_STATUS_BUSY false).pfxRegs.adpRegs

/-! ## Commands -/

/-- WALK (R571): the request of a gill's message, or the list's next with `gill` none. -/
def execWalk (gill : Option Nat) (s : State) : Res := .next (s.pfxRun 1 gill State.pfxWalk)
/-- INSERT (R573). -/
def execInsert (gill : Option Nat) (s : State) : Res := .next (s.pfxRun 2 gill State.pfxInsert)
/-- RELEASE (R572). -/
def execRelease (gill : Option Nat) (s : State) : Res := .next (s.pfxRun 3 gill State.pfxRelease)
/-- PIN (R574). -/
def execPin (gill : Option Nat) (s : State) : Res := .next (s.pfxRun 4 gill State.pfxPin)
/-- UNPIN (R574). -/
def execUnpin (gill : Option Nat) (s : State) : Res := .next (s.pfxRun 5 gill State.pfxUnpin)
/-- EVICT (R574). -/
def execEvict (gill : Option Nat) (s : State) : Res := .next (s.pfxRun 6 gill State.pfxEvict)

/-- GATHER (R575): it begins with its snapshot, or with `done` the one in flight completes. [Log 59 DESIGN CHOICE] -/
def execGather (gill : Option Nat) (done : Bool) (s : State) : Res :=
  .next (if done then s.gatherEnd else s.pfxDo 8 gill State.gatherStart)

/-- PUBLISH (R576). [Log 59 DESIGN CHOICE] -/
def execPublish (gill : Option Nat) (s : State) : Res := .next <|
  s.pfxDo 9 gill fun s q src =>
    match s.adpPublish q.arg with
    | (some e, s) => s.pfxFail q src ⟨e, e, q.arg, 0⟩
    | (none, s) => s.pfxResult q src 0 {}

/-- PFX_FORMAT (R586): a write of PFX_CTRL. -/
def execPfxFormat (value : Nat) (s : State) : Res := .next (s.regWrite R.PFX_CTRL value (·.writePfxCtrl value))

/-- ADP_WRITE (R577): ADP_CMD with GO and OP 1. -/
def execAdpWrite (s : State) : Res := .next (s.regWrite R.ADP_CMD (2 ^ 31 + 1) (·.adpCmd 1))
/-- ADP_STAGE (R577). -/
def execAdpStage (s : State) : Res := .next (s.regWrite R.ADP_CMD (2 ^ 31 + 2) (·.adpCmd 2))
/-- ADP_PUBLISH (R576). -/
def execAdpPublish (s : State) : Res := .next (s.regWrite R.ADP_CMD (2 ^ 31 + 3) (·.adpCmd 3))
/-- ADP_CLEAR (R577). -/
def execAdpClear (s : State) : Res := .next (s.regWrite R.ADP_CMD (2 ^ 31 + 4) (·.adpCmd 4))
/-- ADP_DESC_READ (R590). -/
def execAdpDescRead (s : State) : Res := .next (s.regRead (R.ADP_DESC 0) State.adpRead)

end Sys2Proof.Machine
end

