-- ==== Sys2Proof/Machine/Augment.lean ====
section
/-! DEFINITION. Augment: the augmentation unit (R566, R578 to R583, R588, R591). -/

namespace Sys2Proof.Machine

/-! ## Draws (R581) -/

/-- Ten rounds of Philox-4x32 on a counter and a key. -/
def philox : Nat → Nat → Nat → Nat → Nat → Nat → Nat → List Nat
  | 0, c0, c1, c2, c3, _, _ => [c0, c1, c2, c3]
  | r + 1, c0, c1, c2, c3, k0, k1 =>
    let p0 := c0 * 0xD2511F53
    let p1 := c2 * 0xCD9E8D57
    philox r (p1 / 2 ^ 32 ^^^ c1 ^^^ k0) (p1 % 2 ^ 32) (p0 / 2 ^ 32 ^^^ c3 ^^^ k1) (p0 % 2 ^ 32)
      ((k0 + 0x9E3779B9) % 2 ^ 32) ((k1 + 0xBB67AE85) % 2 ^ 32)

/-- The draw block for a seed, a sample index, an operator index and a block number. -/
def drawBlock (seed index op d : Nat) : List Nat :=
  philox 10 (d % 2 ^ 32) op (index % 2 ^ 32) (index / 2 ^ 32) (seed % 2 ^ 32) (seed / 2 ^ 32)

/-- uniform(u, n). -/
def uniform (u n : Nat) : Nat := u * n / 2 ^ 32

/-! ## Jobs (R578, R582) -/

/-- An operator. -/
structure AugOp where
  op : Nat
  p : Nat
  a : Int
  b : Int
  deriving DecidableEq, Repr

/-- A sample entry. -/
structure AugSample where
  src : Nat
  index : Nat
  width : Nat
  height : Nat
  ch : Nat
  outW : Nat
  outH : Nat
  pitch : Nat
  deriving DecidableEq, Repr

/-- Bytes of an element: U8, S8, U16. -/
def elemBytes (e : Nat) : Nat := if e = 2 then 2 else 1

/-- Saturates to an element type. -/
def satElem (e : Nat) (v : Int) : Int :=
  if e = 0 then max 0 (min 255 v) else if e = 1 then max (-128) (min 127 v) else max 0 (min 65535 v)

/-- An element from its bytes, and its bytes. -/
def elemOf (e n : Nat) : Int := if e = 1 then signed 8 n else (n : Int)

/-- An operator within its ranges, for output sizes that every CUTOUT must fit. -/
def AugOp.ok (outs : List (Nat × Nat)) (x : AugOp) : Bool :=
  decide (1 ≤ x.op) && decide (x.op ≤ 8) && decide (x.p ≤ 65536)
    && (!(x.op == 5 || x.op == 6) || decide (x.a ≤ x.b))
    && (!(x.op == 7) || (decide (0 ≤ x.a) && decide (x.a ≤ 255)))
    && (!(x.op == 8) || (decide (0 ≤ x.a) && decide (0 ≤ x.b)
        && outs.all (fun o => decide (x.a ≤ (o.1 : Int)) && decide (x.b ≤ (o.2 : Int)))))

/-- Output size: 0 means the input size. -/
def AugSample.out (x : AugSample) : Nat × Nat :=
  (if x.outW = 0 then x.width else x.outW, if x.outH = 0 then x.height else x.outH)

/-- The first check of R566 that a sample fails. -/
def AugSample.check (x : AugSample) (elem : Nat) (crop : Bool) : Option Nat :=
  if x.width < 1 ∨ 16384 < x.width then some 1
  else if x.height < 1 ∨ 65535 < x.height then some 2
  else if x.ch < 1 ∨ 4 < x.ch then some 3
  else if 2 ^ 28 < x.width * x.height * x.ch then some 4
  else if x.pitch < x.width * x.ch * elemBytes elem ∨ x.pitch % 4 ≠ 0 then some 5
  else if x.width < x.out.1 ∨ x.height < x.out.2 then some 6
  else if !crop ∧ x.out ≠ (x.width, x.height) then some 7
  else none

/-! ## Operators (R582) -/

/-- An image: its lines, each of pixels, each of channels. -/
abbrev AugImg := List (List (List Int))

/-- Numbers the elements of an image in order. -/
def mapElems (f : Nat → Int → Int) (im : AugImg) : AugImg :=
  im.zipIdx.map (fun (ln : List (List Int) × Nat) => ln.1.zipIdx.map (fun (px : List Int × Nat) =>
    px.1.zipIdx.map (fun (v : Int × Nat) => f ((ln.2 * ln.1.length + px.2) * px.1.length + v.2) v.1)))

/-- Keeps a rectangle of an image. -/
def cropImg (x y w h : Nat) (im : AugImg) : AugImg := ((im.drop y).take h).map (fun l => (l.drop x).take w)

/-- One operator on an image: `o` is its place in the list. -/
def AugOp.run (x : AugOp) (seed index elem o : Nat) (out : Nat × Nat) (im : AugImg) : AugImg :=
  let u := drawBlock seed index o 0
  let u1 := u.getD 1 0
  let u2 := u.getD 2 0
  let on := decide (u.getD 0 0 / 65536 < x.p)
  let w := (im.headD []).length
  let h := im.length
  let span := (x.b - x.a + 1).toNat
  if x.op = 4 then
    if on then cropImg (uniform u1 (w - out.1 + 1)) (uniform u2 (h - out.2 + 1)) out.1 out.2 im
    else cropImg ((w - out.1) / 2) ((h - out.2) / 2) out.1 out.2 im
  else if !on then im
  else match x.op with
    | 1 => im.map List.reverse
    | 2 => im.reverse
    | 3 => (im.map List.reverse).reverse
    | 5 => mapElems (fun _ v => satElem elem (v + x.a + uniform u1 span)) im
    | 6 => mapElems (fun _ v => satElem elem ((v * (x.a + uniform u1 span) + 128) / 256)) im
    | 7 => mapElems (fun e v =>
        let d := (drawBlock seed index o (1 + e / 4)).getD (e % 4) 0
        satElem elem (v + (((d / 2 ^ 24 : Nat) : Int) - 128) * x.a / 128)) im
    | _ =>
      let x0 := uniform u1 (w - x.a.toNat + 1)
      let y0 := uniform u2 (h - x.b.toNat + 1)
      im.zipIdx.map (fun (ln : List (List Int) × Nat) => ln.1.zipIdx.map (fun (px : List Int × Nat) =>
        if x0 ≤ px.2 ∧ px.2 < x0 + x.a.toNat ∧ y0 ≤ ln.2 ∧ ln.2 < y0 + x.b.toNat then px.1.map (fun _ => 0) else px.1))

/-- The operators in list order. -/
def augRun (ops : List AugOp) (seed index elem : Nat) (out : Nat × Nat) (im : AugImg) : AugImg :=
  ops.zipIdx.foldl (fun im (x : AugOp × Nat) => x.1.run seed index elem x.2 out im) im

/-- The bytes of an image, packed line after line. -/
def imgBytes (elem : Nat) (im : AugImg) : List Byte :=
  im.flatMap (fun l => l.flatMap (fun px => px.flatMap (fun v => leBytes (elemBytes elem) (unsignedOf 16 v))))

/-- A line of an image from its bytes. -/
def lineOf (elem ch w : Nat) (b : List Byte) : List (List Int) :=
  (List.range w).map (fun x => (List.range ch).map (fun c =>
    elemOf elem (leAt b ((x * ch + c) * elemBytes elem) (elemBytes elem))))

/-! ## The unit (R579, R580) -/

/-- A status of the unit. -/
def State.augReport (s : State) (sts detail : Nat) : State := s.report R.AUG_STATUS_LAST_STS sts detail

/-- Reads the lines of a sample. -/
def State.augRead (elem : Nat) (x : AugSample) : Nat → State → Nat → Except Nat AugImg × State
  | 0, s, _ => (.ok [], s)
  | k + 1, s, y =>
    match s.vread 0xA000 10 (x.src + y * x.pitch) (x.width * x.ch * elemBytes elem) with
    | (.error e, s) => (.error (reasonSts e.reason), s)
    | (.ok b, s) =>
      match State.augRead elem x k s (y + 1) with
      | (.error e, s) => (.error e, s)
      | (.ok l, s) => (.ok (lineOf elem x.ch x.width b :: l), s)

/-- Where an output of `n` bytes goes in the pool, and the tail after it; none where too little is free. A ring that is
filled whole would read as empty, so that one does not fit. -/
def poolPlace (size head tail n : Nat) : Option (Nat × Nat) :=
  if head ≤ tail then
    if tail + n < size ∨ tail + n = size ∧ head ≠ 0 then some (tail, (tail + n) % max 1 size)
    else if n < head then some (0, n)
    else none
  else if tail + n < head then some (tail, tail + n)
  else none

/-- One sample: its status, the bytes of its output and their VA. -/
def State.augSample (s : State) (seed elem : Nat) (ops : List AugOp) (k : Nat) (x : AugSample) : (Nat × Nat × Nat) × State :=
  match x.check elem (ops.any (·.op == 4)) with
  | some n => ((0xA201, 0, 0), (s.inc R.AUG_CNT_DIM_REFUSED_COUNT).augReport 0xA201 n)
  | none =>
    let bytes := x.out.1 * x.out.2 * x.ch * elemBytes elem
    match poolPlace (s.fld R.AUG_POOL_SIZE_SIZE) (s.fld R.AUG_POOL_HEAD_HEAD) (s.fld R.AUG_POOL_TAIL_TAIL)
        ((bytes + 4095) / 4096 * 4096) with
    | none => ((0xA202, 0, 0), (s.inc R.AUG_CNT_FAILED_COUNT).augReport 0xA202 k)
    | some (at_, tail) =>
      let s := s.setF R.AUG_POOL_TAIL_TAIL tail
      let va := s.fld R.AUG_POOL_LO_POOL_LO + 2 ^ 32 * s.fld R.AUG_POOL_HI_POOL_HI + at_
      match State.augRead elem x x.height s 0 with
      | (.error e, s) => ((e, 0, 0), (s.inc R.AUG_CNT_FAILED_COUNT).augReport 0xA204 k)
      | (.ok im, s) =>
        match s.vwrite 0xA000 10 va (imgBytes elem (augRun ops seed x.index elem x.out im)) with
        | (some e, s) => ((reasonSts e.reason, 0, 0), (s.inc R.AUG_CNT_FAILED_COUNT).augReport 0xA204 k)
        | (none, s) => ((0, bytes, va), s.inc R.AUG_CNT_SAMPLES_COUNT)

/-- The samples in entry order, each with its result written. -/
def State.augSamples (seed elem : Nat) (ops : List AugOp) (resVa : Nat) : List AugSample → State → Nat → State
  | [], s, _ => s
  | x :: l, s, k =>
    let ((sts, n, va), s) := s.augSample seed elem ops k x
    let s := (s.vwrite 0xA000 10 (resVa + 16 * k) (leBytes 2 sts ++ [0, 0] ++ leBytes 4 n ++ leBytes 8 va)).2
    State.augSamples seed elem ops resVa l s (k + 1)

/-- An operator and a sample entry from their bytes. -/
def readOp (b : List Byte) : AugOp := ⟨leAt b 0 1, leAt b 4 4, signed 32 (leAt b 8 4), signed 32 (leAt b 12 4)⟩
def readSample (b : List Byte) : AugSample :=
  ⟨leAt b 0 8, leAt b 8 8, leAt b 16 2, leAt b 18 2, leAt b 20 1, leAt b 22 2, leAt b 24 2, leAt b 26 4⟩

/-- The first thing of a job that is outside its range: the index of the operator, 0 for the header and the samples. -/
def jobBad (head : List Byte) (ops : List (List Byte)) (samples : List (List Byte)) : Option Nat :=
  let outs := samples.map (fun b => (readSample b).out)
  if 16 < leAt head 0x10 1 ∨ 2 < leAt head 0x11 1 ∨ leAt head 0x12 2 < 1 ∨ 256 < leAt head 0x12 2 ∨ leAt head 0x14 4 ≠ 0
      ∨ leAt head 0x20 8 ≠ 0 ∨ leAt head 0x28 8 ≠ 0 ∨ leAt head 0x30 8 ≠ 0 ∨ leAt head 0x38 8 ≠ 0 then some 0
  else match ops.findIdx? (fun b => leAt b 1 3 != 0 || !(readOp b).ok outs) with
    | some k => some k
    | none =>
      if 1 < (ops.filter (fun b => leAt b 0 1 == 4)).length then
        some (((List.range ops.length).filter (fun k => leAt (ops.getD k []) 0 1 == 4)).getD 1 0)
      else if samples.any (fun b => leAt b 0x15 1 != 0 || leAt b 0x1E 2 != 0) then some 0
      else none

/-- A job runs: header, operators and samples are read before any sample is performed. -/
def State.augJob (s : State) : State :=
  match s.sched.works.find? (fun w => w.handed && ((s.queueOf w.queue).map QueueRec.executor) == some 0xA000
      && s.chainsDone.all (fun d => d.work != w.id)) with
  | none => s
  | some w =>
    let va := w.desc.getD 10 0 + 2 ^ 32 * w.desc.getD 11 0
    let done := fun (s : State) (sts : Nat) => { s with chainsDone := s.chainsDone ++ [(⟨w.id, sts⟩ : ChainDone)] }
    match s.vread 0xA000 10 va 64 with
    | (.error e, s) => done s (reasonSts e.reason)
    | (.ok head, s) =>
      let nops := leAt head 0x10 1
      let ns := leAt head 0x12 2
      if 16 < nops ∨ ns < 1 ∨ 256 < ns then done (s.augReport 0xA203 0) 0xA203
      else match s.vread 0xA000 10 (leAt head 8 8) (16 * nops) with
        | (.error e, s) => done s (reasonSts e.reason)
        | (.ok ob, s) =>
          match s.vread 0xA000 10 (va + 64) (32 * ns) with
          | (.error e, s) => done s (reasonSts e.reason)
          | (.ok sb, s) =>
            let ops := (List.range nops).map (fun k => slice ob (16 * k) 16)
            let samples := (List.range ns).map (fun k => slice sb (32 * k) 32)
            match jobBad head ops samples with
            | some k => done (s.augReport 0xA203 k) 0xA203
            | none =>
              done (State.augSamples (leAt head 0 8) (leAt head 0x11 1) (ops.map readOp) (leAt head 0x18 8)
                (samples.map readSample) s 0) 0

/-- AUG_JOB (R579): the job of the work the unit has. [Log 60 DESIGN CHOICE] -/
def execAugJob (s : State) : Res := .next s.augJob

end Sys2Proof.Machine
end

