-- ==== Sys2Proof/Machine/Anneal.lean ====
section
/-! DEFINITION. Anneal: the puffball annealer (R593 to R607, R610, R613). -/

namespace Sys2Proof.Machine

/-! ## Energy and draws (R593, R598, R601) -/

/-- The sign of a spin. -/
def spinSign (b : Bool) : Int := if b then 1 else -1

/-- The local field of a spin. -/
def AnnProb.local (p : AnnProb) (sp : List Bool) (i : Nat) : Int :=
  2 ^ p.jscale * ((p.adj.getD i []).foldl (fun a c => a + c.2 * spinSign (sp.getD c.1 false)) 0) + 2 ^ p.hscale * p.fields.getD i 0

/-- The energy of a state: each coupled pair counts once. -/
def AnnProb.energy (p : AnnProb) (sp : List Bool) : Int :=
  (List.range p.n).foldl (fun a i =>
    a + spinSign (sp.getD i false) * (2 ^ p.jscale * (((p.adj.getD i []).filter (fun c => decide (i < c.1))).foldl
      (fun a c => a + c.2 * spinSign (sp.getD c.1 false)) 0) + 2 ^ p.hscale * p.fields.getD i 0)) 0

/-- A draw: the output word of the Philox rounds. -/
def annDraw (seed c0 c1 c2 w : Nat) : Nat := (philox 10 c0 c1 c2 0 (seed % 2 ^ 32) (seed / 2 ^ 32)).getD w 0

/-- Binary search for the largest number whose double less one, to the 256th power, is at most `x`. -/
def rootSearch (x : Nat) : Nat → Nat → Nat
  | 0, n => n
  | b + 1, n =>
    let m := n + 2 ^ b
    rootSearch x b (if (2 * m - 1) ^ 256 ≤ x then m else n)

/-- t(k): the nearest integer to 2^32 × 2^(−k / 256), at most 0xFFFF_FFFF. -/
def thrTable (k : Nat) : Nat := min 0xFFFFFFFF (rootSearch (2 ^ (256 * 33 - k)) 33 0)

/-- thr(y). -/
def thr (y : Nat) : Nat := if 32 ≤ y / 65536 then 0 else thrTable (y / 256 % 256) / 2 ^ (y / 65536)

/-! ## Reading and checks (R594, R595, R597) -/

/-- The header of a problem. -/
def readProb (b : List Byte) : AnnProb :=
  { n := leAt b 0 2, replicas := leAt b 2 1, sched := leAt b 3 1, jscale := leAt b 4 1, hscale := leAt b 5 1
    out := leAt b 6 1, k := leAt b 7 1, seed := leAt b 8 8, spinVa := leAt b 16 8, coupVa := leAt b 24 8
    resultVa := leAt b 32 8, sweeps := leAt b 40 4, target := signed 32 (leAt b 44 4), period := leAt b 48 2
    flags := leAt b 50 1, timeMs := leAt b 52 2, ofsStep := leAt b 56 4, ofsMax := leAt b 60 4 }

/-- The offset of the first header field outside its range (check 1). -/
def AnnProb.headBad (p : AnnProb) (b : List Byte) : Option Nat :=
  let l : List (Nat × Bool) := [(0, decide (1 ≤ p.n) && decide (p.n ≤ 8192)), (2, decide (1 ≤ p.replicas) && decide (p.replicas ≤ 32)),
    (3, decide (p.sched ≤ 1)), (4, decide (p.jscale ≤ 7)), (5, decide (p.hscale ≤ 7)), (6, decide (p.out ≤ 1)),
    (7, if p.out = 0 then p.k == 0 else decide (1 ≤ p.k) && decide (p.k ≤ 64)), (16, p.spinVa % 4 == 0), (24, p.coupVa % 4 == 0),
    (32, p.resultVa % 64 == 0), (40, decide (1 ≤ p.sweeps) && decide (p.sweeps ≤ 2 ^ 24)),
    (48, decide (1 ≤ p.period) && decide (p.period ≤ 1024)), (50, decide (p.flags < 4)), (51, leAt b 51 1 == 0),
    (54, leAt b 54 2 == 0), (56, p.sched == 1 || p.ofsStep == 0), (60, p.sched == 1 || p.ofsMax == 0)]
  (l.find? (fun e => !e.2)).map (·.1)

/-- The spin of the first bad coupling entry: a reserved field, a neighbour out of range, the spin itself, or a repeated one
(check 4). -/
def couplingBad (n : Nat) (raw : List (List Nat)) : Option Nat :=
  raw.zipIdx.findIdx? (fun e =>
    e.1.any (fun w => w / 2 ^ 13 % 8 != 0 || w / 2 ^ 20 != 0 || decide (n ≤ w % 8192) || w % 8192 == e.2)
      || decide ((e.1.map (· % 8192)).eraseDups.length < e.1.length))

/-- The spin of the first entry that the neighbour's list does not hold likewise (check 5). -/
def AnnProb.asym (p : AnnProb) : Option Nat :=
  p.adj.zipIdx.findIdx? (fun e => e.1.any (fun c => !(p.adj.getD c.1 []).contains (e.2, c.2)))

/-- A failed problem: its status and detail; a memory fault has its reason reported already. -/
structure AnnErr where
  sts : Nat
  detail : Nat
  deriving DecidableEq, Repr

/-- Reads bytes for the annealer. -/
def State.annRead (s : State) (va n : Nat) : Except AnnErr (List Byte) × State :=
  match s.vread 0x8000 8 va n with
  | (.ok b, s) => (.ok b, s)
  | (.error _, s) => (.error ⟨0xB006, 1⟩, s)

/-- Cuts a coupling array into the spins' lists. -/
def cutLists (degs : List Nat) (ws : List Nat) : List (List Nat) :=
  match degs with
  | [] => []
  | d :: l => ws.take d :: cutLists l (ws.drop d)

/-- The checks on what was read, in order. -/
def AnnProb.check (p : AnnProb) (spins : List (List Byte)) (raw : List (List Nat)) : Option AnnErr :=
  match (if p.sched = 0 then (List.range (p.replicas - 1)).find? (fun k => decide (p.betas.getD k 0 < p.betas.getD (k + 1) 0)) else none) with
  | some k => some ⟨0xB002, k⟩
  | none =>
    match spins.findIdx? (fun b => decide (96 < leAt b 1 1) || decide (2 < leAt b 2 1) || leAt b 3 1 != 0) with
    | some i => some ⟨0xB003, i⟩
    | none =>
      match couplingBad p.n raw with
      | some i => some ⟨0xB004, i⟩
      | none => p.asym.map (fun i => ⟨0xB005, i⟩)

/-- The spins of a spin array, 4 bytes each, and how many coupling entries they announce. -/
def cutSpins (n : Nat) (sb : List Byte) : List (List Byte) := (List.range n).map (fun i => slice sb (4 * i) 4)
def spinTotal (spins : List (List Byte)) : Nat := spins.foldl (fun a b => a + leAt b 1 1) 0

/-- A problem with its betas, its spins and its couplings, and the failure of its checks if there is one. -/
def AnnProb.fill (p : AnnProb) (bb sb cb : List Byte) : AnnProb × Option AnnErr :=
  let spins := cutSpins p.n sb
  let raw := cutLists (spins.map (fun b => leAt b 1 1)) ((List.range (spinTotal spins)).map (fun k => leAt cb (4 * k) 4))
  let p := { p with
    betas := (List.range p.replicas).map (fun k => leAt bb (4 * k) 4)
    fields := spins.map (fun b => signed 8 (leAt b 0 1))
    clamps := spins.map (fun b => leAt b 2 1)
    adj := raw.map (fun l => l.map (fun w => (w % 8192, signed 4 (w / 65536)))) }
  (p, p.check spins raw)

/-- Reads and checks a problem: what of it was read, and the failure if there is one. [Log 61 DESIGN CHOICE] -/
def State.annLoad (s : State) (va : Nat) : (Option AnnProb × Option AnnErr) × State :=
  match s.annRead va 64 with
  | (.error e, s) => ((none, some e), s)
  | (.ok hb, s) =>
    let p := readProb hb
    match p.headBad hb with
    | some o => ((some p, some ⟨0xB001, o⟩), s)
    | none =>
      match s.annRead (va + 64) (4 * p.replicas) with
      | (.error e, s) => ((some p, some e), s)
      | (.ok bb, s) =>
        match s.annRead p.spinVa (4 * p.n) with
        | (.error e, s) => ((some p, some e), s)
        | (.ok sb, s) =>
          match s.annRead p.coupVa (4 * spinTotal (cutSpins p.n sb)) with
          | (.error e, s) => ((some p, some e), s)
          | (.ok cb, s) => ((some (p.fill bb sb cb).1, (p.fill bb sb cb).2), s)

/-! ## Runs (R599 to R605) -/

/-- The initial state of a replica. -/
def AnnProb.init (p : AnnProb) (r : Nat) : Replica :=
  let sp := (List.range p.n).map (fun i =>
    match p.clamps.getD i 0 with
    | 1 => true
    | 2 => false
    | _ => !p.flags.testBit 1 && (annDraw p.seed 0 (0x200 + r) (i / 4) (i % 4)).testBit 31)
  let e := p.energy sp
  { spins := sp, e := e, best := e }

/-- One spin of one replica in a sweep: whether it flipped, and the replica after it. -/
def AnnProb.visit (p : AnnProb) (sw i r : Nat) (x : Replica) : Bool × Replica :=
  if p.clamps.getD i 0 ≠ 0 then (false, x)
  else
    let d := -2 * spinSign (x.spins.getD i false) * p.local x.spins i
    let eff := d - x.ofs
    let flip := decide (eff ≤ 0)
      || decide (annDraw p.seed sw r (i / 4) (i % 4) < thr (p.betas.getD r 0 * eff.toNat))
    if flip then (true, { x with spins := x.spins.set i (!x.spins.getD i false), e := x.e + d }) else (false, x)

/-- A strictly lower energy replaces the best state. -/
def keepBest (sw r : Nat) (x : Replica) (best : List KeptState) : List KeptState :=
  match best with
  | b :: _ => if x.e < b.e then [⟨x.e, sw, r, 0, x.spins⟩] else best
  | [] => [⟨x.e, sw, r, 0, x.spins⟩]

/-- Every replica visits one spin position, in ascending replica order. -/
def Annealer.position (sw i : Nat) (a : Annealer) : Annealer :=
  a.reps.zipIdx.foldl (fun a (x : Replica × Nat) =>
    let (f, y) := a.prob.visit sw i x.2 x.1
    if f then
      { a with
        reps := a.reps.set x.2 y
        flips := a.flips + 1
        kept := if a.prob.out = 0 then keepBest sw x.2 y a.kept else a.kept }
    else a) a

/-- The key of R604: energy, sweep, replica. -/
def keyLt (a b : KeptState) : Bool :=
  decide (a.e < b.e) || (decide (a.e = b.e) && (decide (a.sweep < b.sweep) || (a.sweep == b.sweep && decide (a.replica < b.replica))))

/-- Puts a state into the set in key order. -/
def keyInsert (x : KeptState) : List KeptState → List KeptState
  | [] => [x]
  | y :: l => if keyLt x y then x :: y :: l else y :: keyInsert x l

/-- Offers a state to the set of at most K distinct ones. -/
def offer (k : Nat) (x : KeptState) (l : List KeptState) : List KeptState :=
  if l.any (fun y => y.spins == x.spins) then
    l.map (fun y => if y.spins == x.spins then { y with seen := min 0xFFFF (y.seen + 1) } else y)
  else (keyInsert x l).take k

/-- SAMPLE: after a sweep, each replica's state is offered in ascending order. -/
def Annealer.sample (sw : Nat) (a : Annealer) : Annealer :=
  if a.prob.out = 0 then a
  else { a with kept := a.reps.zipIdx.foldl (fun l (x : Replica × Nat) =>
    offer a.prob.k ⟨x.1.e, sw, x.2, 1, x.1.spins⟩ l) a.kept }

/-- Tries the exchange of replicas k and k + 1. -/
def Annealer.tryPair (sw : Nat) (a : Annealer) (k : Nat) : Annealer :=
  let x := a.reps.getD k {}
  let y := a.reps.getD (k + 1) {}
  let d := ((a.prob.betas.getD k 0 : Int) - a.prob.betas.getD (k + 1) 0) * (x.e - y.e)
  let ok := decide (0 ≤ d) || decide (annDraw a.prob.seed sw (0x100 + k) 0 0 < thr (-d).toNat)
  let a := { a with tried := a.tried + 1 }
  if ok then { a with reps := (a.reps.set k y).set (k + 1) x, acc := a.acc + 1 } else a

/-- The exchange round after a sweep, under TEMPER. -/
def Annealer.exchange (sw : Nat) (a : Annealer) : Annealer :=
  let p := a.prob
  if p.sched ≠ 0 ∨ sw % max 1 p.period ≠ 0 then a
  else
    let x := sw / max 1 p.period
    ((List.range (p.replicas - 1)).filter (fun k => k % 2 == x % 2)).foldl (Annealer.tryPair sw) a

/-- The rules of OFFSET after a sweep. -/
def AnnProb.offset (p : AnnProb) (x : Replica) : Replica :=
  if p.sched = 0 then x
  else if x.e < x.best then { x with best := x.e, stall := 0, ofs := 0 }
  else if p.period ≤ x.stall + 1 then { x with ofs := min (x.ofs + p.ofsStep) p.ofsMax, stall := 0 }
  else { x with stall := x.stall + 1 }

/-- One whole sweep with its exchange round. -/
def Annealer.sweepOnce (a : Annealer) : Annealer :=
  let sw := a.sweep + 1
  let a := (List.range a.prob.n).foldl (fun a i => a.position sw i) a
  let a := (a.sample sw).exchange sw
  { a with sweep := sw, reps := a.reps.map a.prob.offset }

/-- The lowest energy held. -/
def Annealer.low (a : Annealer) : Option Int :=
  match a.kept with
  | [] => (a.reps.map (·.e)).min?
  | k :: _ => some k.e

/-! ## The unit (R596, R606, R607, R610, R613 to R615) -/

/-- A status of the annealer. -/
def State.annReport (s : State) (sts detail : Nat) : State := s.report R.ANN_STATUS_LAST_STS sts detail

/-- The header of a result. -/
def Annealer.header (a : Annealer) (sts count : Nat) : List Byte :=
  leBytes 2 sts ++ leBytes 1 a.prob.out ++ leBytes 1 a.flags ++ leBytes 2 count ++ leBytes 2 a.prob.n ++ leBytes 4 a.sweep
    ++ leBytes 4 a.tried ++ leBytes 4 a.acc ++ leBytes 4 0 ++ leBytes 8 a.flips ++ leBytes 8 a.prob.seed
    ++ leBytes 8 a.endMono ++ leBytes 8 0 ++ leBytes 8 0

/-- The bits of a state, eight to a byte from the lowest. -/
def packBits : Nat → List Bool → List Byte
  | 0, _ => []
  | n + 1, l => BitVec.ofNat 8 (((l.take 8).zipIdx.map (fun (b : Bool × Nat) => b.1.toNat * 2 ^ b.2)).foldl (· + ·) 0) :: packBits n (l.drop 8)

/-- A state record. -/
def Annealer.record (a : Annealer) (x : KeptState) : List Byte :=
  leBytes 4 (unsignedOf 32 x.e) ++ leBytes 4 x.sweep ++ leBytes 1 x.replica ++ [0] ++ leBytes 2 x.seen ++ List.replicate 52 0
    ++ packBits ((a.prob.n + 511) / 512 * 64) x.spins

/-- The work ends: the counters, and the outcome for the scheduler. -/
def State.annEnd (s : State) (sts : Nat) : State :=
  match s.ann.work with
  | none => s
  | some id =>
    let us := match s.work? id with
      | some w => (s.now - w.since.getD s.now) / 1000
      | none => 0
    let s := (s.inc R.ANN_CNT_PROBLEMS_COUNT).raise R.ANN_MAX_US_VALUE us
    let s := if sts = 0 then s else s.inc R.ANN_CNT_FAILED_COUNT
    { s with ann.work := none, chainsDone := s.chainsDone ++ [(⟨id, sts⟩ : ChainDone)] }.setF R.ANN_STATUS_STATE 0

/-- A problem that ends before any sweep: its header with COUNT 0, if it can be written. -/
def State.annFail (s : State) (e : AnnErr) (place : Bool) : State :=
  let s := { s with ann.endMono := s.time.mono }.annReport e.sts e.detail
  let s := if place then (s.vwrite 0x8000 8 s.ann.prob.resultVa (s.ann.header e.sts 0)).2 else s
  s.annEnd e.sts

/-- The annealer takes the work handed to it: it reads and checks the problem whole, and starts. -/
def State.annStart (s : State) : State :=
  if s.fld R.ANN_STATUS_STATE ≠ 0 ∨ !s.hasAnnealer then s
  else match s.sched.works.find? (fun w => w.handed && ((s.queueOf w.queue).map QueueRec.executor) == some 0x8000
      && s.chainsDone.all (fun d => d.work != w.id)) with
    | none => s
    | some w =>
      let s := { s with ann := { work := some w.id } }.setF R.ANN_WORK_WORK_ID w.id
      let s := (s.setF R.ANN_SWEEP_SWEEP 0).setF R.ANN_BEST_BEST 0
      let ((p, e), s) := s.annLoad (w.desc.getD 10 0 + 2 ^ 32 * (w.desc.getD 11 0 % 256))
      let s := { s with ann.prob := p.getD {} }
      match e with
      | some e => s.annFail e p.isSome
      | none =>
        let q := p.getD {}
        let reps := (List.range q.replicas).map q.init
        let a : Annealer := { work := some w.id, prob := q, reps := reps, startMono := s.time.mono }
        let a := if q.out = 0 then { a with kept := reps.zipIdx.foldl (fun l (x : Replica × Nat) => keepBest 0 x.2 x.1 l) [] } else a
        let s := { s with ann := a }.setF R.ANN_STATUS_STATE 3
        s.setF R.ANN_BEST_BEST (unsignedOf 32 (a.low.getD 0))

/-- The end of a sweep: the run goes on, or ends with every flag that applies (R605). -/
def State.annSweep (s : State) : State :=
  if s.fld R.ANN_STATUS_STATE ≠ 3 then s
  else
    let a := s.ann.sweepOnce
    let p := a.prob
    let met := p.flags.testBit 0 && (match a.low with | some e => decide (e ≤ p.target) | none => false)
    let late := p.timeMs != 0 && decide (a.startMono + 1000000 * p.timeMs ≤ s.time.mono)
    let over_ := decide (p.sweeps ≤ a.sweep) || met || late || a.abort
    let a := if over_ then { a with
      flags := met.toNat + 2 * late.toNat + 4 * a.abort.toNat
      endMono := s.time.mono } else a
    let s := ({ s with ann := a }.inc R.ANN_CNT_SWEEPS_COUNT).setF R.ANN_SWEEP_SWEEP a.sweep
    let s := s.setF R.ANN_BEST_BEST (unsignedOf 32 (a.low.getD 0))
    if !over_ then s
    else
      let s := if late then s.annReport 0xB008 (min a.sweep 65535) else s
      let s := if a.abort then s.annReport 0xB007 (min a.sweep 65535) else s
      let s := if late || a.abort then s.voided R.SYS_REPRO_STATUS_R_ANN else s
      s.setF R.ANN_STATUS_STATE 4

/-- Writes the records in order, until one fails. -/
def State.annRecords (a : Annealer) : List KeptState → State → Nat → Bool × State
  | [], s, _ => (true, s)
  | x :: l, s, va =>
    let b := a.record x
    match s.vwrite 0x8000 8 va b with
    | (some _, s) => (false, s)
    | (none, s) => State.annRecords a l s (va + b.length)

/-- The result is written, records first and header last, and the work ends. -/
def State.annWrite (s : State) : State :=
  if s.fld R.ANN_STATUS_STATE ≠ 4 then s
  else
    let a := s.ann
    let sts := if a.flags.testBit 2 then 0xB007 else 0
    match State.annRecords a a.kept s (a.prob.resultVa + 64) with
    | (false, s) =>
      let s := s.annReport 0xB006 2
      ((s.vwrite 0x8000 8 a.prob.resultVa (a.header 0xB006 0)).2).annEnd 0xB006
    | (true, s) =>
      match s.vwrite 0x8000 8 a.prob.resultVa (a.header sts a.kept.length) with
      | (none, s) => s.annEnd sts
      | (some _, s) => (s.annReport 0xB006 2).annEnd 0xB006

/-- A write of ANN_CTRL (R610): ABORT is handled by the unit's state. -/
def State.writeAnnCtrl (s : State) (v : Nat) : State :=
  if R.ANN_CTRL_ABORT.of v = 0 then s
  else match s.fld R.ANN_STATUS_STATE with
    | 3 => { s with ann.abort := true }
    | 1 | 2 => ({ s with ann.flags := 4 }.voided R.SYS_REPRO_STATUS_R_ANN).annFail ⟨0xB007, 0⟩ true
    | _ => s

/-- The run is abandoned: no result and no completion (R612). -/
def State.annDrop (s : State) : State := { s with ann := {} }.setF R.ANN_STATUS_STATE 0

/-- ANNEAL_PROBLEM (R597). [Log 61 DESIGN CHOICE] -/
def execAnnealProblem (s : State) : Res := .next s.annStart
/-- SWEEP_END (R600 to R605). -/
def execSweepEnd (s : State) : Res := .next s.annSweep
/-- ANN_RESULT_WRITE (R607). [Log 61 DESIGN CHOICE] -/
def execAnnResultWrite (s : State) : Res := .next s.annWrite
/-- ANN_ABORT (R610): a write of ANN_CTRL. -/
def execAnnAbort (value : Nat) (s : State) : Res := .next (s.regWrite R.ANN_CTRL value (·.writeAnnCtrl value))

end Sys2Proof.Machine
end

