-- ==== Sys2Proof/Machine/Mailbox.lean ====
section
/-! DEFINITION. Mailbox: the verdict mailbox, its interrupts, the work ring, BAR2, the host window and the resets of
the host side (R644 to R668). -/

namespace Sys2Proof.Machine

/-- The distance from `a` to `b` modulo 2^32. -/
def seqDist (a b : Nat) : Nat := (b + 2 ^ 32 - a % 2 ^ 32) % 2 ^ 32

/-! ## The ring (R653 to R657, R665) -/

/-- N, the ring's records. -/
def State.ringN (s : State) : Nat := 2 ^ s.fld R.MBX_CFG_ENTRIES_LOG2

/-- The ring's VA. -/
def State.ringVa (s : State) : Nat := s.pair R.MBX_RING_LO_RING_LO R.MBX_RING_HI_RING_HI

/-- DONE + 1 − HEAD: the records between HEAD and DONE. -/
def State.mbxLevel (s : State) : Nat := seqDist (s.fld R.MBX_HEAD_HEAD) (s.fld R.MBX_DONE_DONE + 1)

/-- Whether the consumer is the device (R664, R665). -/
def State.mbxAuto (s : State) : Bool := s.bit R.MBX_CFG_CONSUMER || s.mbx.autoLink

/-- The condition of MBX_READY (R660). [Log 62 DESIGN CHOICE] -/
def State.mbxReady (s : State) : Bool :=
  s.bit R.MBX_CTRL_EN && (decide (s.fld R.MBX_IRQ_CFG_THR ≤ s.mbxLevel)
    || (match s.mbx.unread with
        | (_, t) :: _ => s.fld R.MBX_IRQ_CFG_AGE_US != 0 && decide (t + s.fld R.MBX_IRQ_CFG_AGE_US * 1000 ≤ s.now)
        | [] => false))

/-- MBX_READY becomes pending where its condition holds. -/
def State.mbxCheck (s : State) : State := if s.mbxReady then s.pend 0 else s

/-- HEAD takes a value; the records before it are read. -/
def State.mbxSetHead (s : State) (h : Nat) : State :=
  let s := s.setF R.MBX_HEAD_HEAD h
  let s := { s with mbx.unread := s.mbx.unread.filter (fun u => decide (seqDist h u.1 < 2 ^ 31)) }
  s.mbxCheck

/-- MBX_HEAD_WRITE (R657). -/
def State.writeMbxHead (s : State) (v : Nat) : State :=
  if seqDist (s.fld R.MBX_HEAD_HEAD) v ≤ s.mbxLevel then s.mbxSetHead (v % 2 ^ 32) else s.inc R.MBX_CNT_HEAD_BAD_COUNT

/-- The end of a run of overflows is reported with its length (R656, R670). -/
def State.ovfEnd (s : State) : State :=
  if s.mbx.ovfRun = 0 then s
  else { s with mbx.ovfRun := 0 }.report R.MBX_HSTATUS_LAST_STS 0xC005 (min s.mbx.ovfRun 65535)

/-- Clearing EN stops the writer (R654). -/
def State.mbxStop (s : State) : State := (s.setB R.MBX_CTRL_EN false).ovfEnd

/-- Why an enable is refused: the MBX offset that is at fault (R654). -/
def State.mbxRefusal (s : State) : Option Nat :=
  match s.img.active with
  | none => some 0
  | some im =>
    let a := s.ringVa
    if im.mems.any (fun m => m.kind == 5 && decide (m.base ≤ a) && decide (a + 32 * s.ringN ≤ m.base + m.size))
        ∧ a % 32 = 0 then none else some 8

/-- The blank of a slot (R654). -/
def blankRec (e n k : Nat) : List Byte :=
  let b := (e + 2 ^ 32 - n + (k + n * e - e) % n) % 2 ^ 32
  leBytes 4 b ++ List.replicate 26 0 ++ leBytes 2 (65535 - b % 65536)

/-- The ring is enabled (R654): HEAD, DONE and a blank in every slot. -/
def State.mbxStart (s : State) : State :=
  match s.mbxRefusal with
  | some o => (s.setB R.MBX_CTRL_EN false).report R.MBX_HSTATUS_LAST_STS 0xC007 o
  | none =>
    let e := s.fld R.MBX_RSEQ_NEXT_RSEQ_NEXT
    let s := (s.setF R.MBX_HEAD_HEAD e).setF R.MBX_DONE_DONE (e + 2 ^ 32 - 1)
    let s := { s with mbx.unread := [], mbx.ovfRun := 0 }
    let s := s.physWrite s.ringVa ((List.range s.ringN).flatMap (blankRec e s.ringN))
    s.setB R.MBX_CTRL_EN true

/-- A write of MBX_CTRL. [Log 62 DESIGN CHOICE] -/
def State.writeMbxCtrl (s : State) (v : Nat) : State :=
  if v % 2 = 1 then if s.bit R.MBX_CTRL_EN then s else s.mbxStart
  else if s.bit R.MBX_CTRL_EN then s.mbxStop else s

/-- The 32 bytes of a verdict record (R652). -/
def VRec.layout (r : VRec) : List Byte :=
  leBytes 4 r.rseq ++ leBytes 4 r.tseq ++ leBytes 8 r.mono ++ leBytes 6 (unsignedOf 48 r.p) ++ leBytes 1 r.gate
    ++ leBytes 1 (r.verdict % 16 + 16 * r.rule) ++ leBytes 2 r.status ++ leBytes 1 r.evid ++ leBytes 1 r.disp
    ++ leBytes 2 r.slot ++ leBytes 2 (65535 - r.rseq % 65536)

/-- The largest DONE + 1 − HEAD is kept (R672). -/
def State.mbxHwm (s : State) : State :=
  if s.mbxLevel ≤ s.ringN then s.raise R.MBX_CNT_HWM_COUNT s.mbxLevel else s

/-- Records missing before one that has come (R655). -/
def State.mbxGap (s : State) (n : Nat) : State :=
  if n = 0 then s
  else
    let s := (s.inc R.MBX_CNT_GAP_COUNT n).total 12 n
    (s.report R.MBX_HSTATUS_LAST_STS 0xC006 (min n 65535)).pend 1

/-- Puts a record into its slot. -/
def State.mbxPut (s : State) (r : VRec) : State :=
  let s := s.physWrite (s.ringVa + 32 * (r.rseq % s.ringN)) r.layout
  { s.inc R.MBX_CNT_WRITTEN_COUNT with mbx.unread := s.mbx.unread ++ [(r.rseq, s.now)] }

/-- A record that finds the ring full (R656): `top` is the HEAD that makes room. -/
def State.mbxFull (s : State) (r : VRec) (top : Nat) : State :=
  let s := { s with mbx.ovfRun := s.mbx.ovfRun + 1 }
  let s := ((s.inc R.MBX_CNT_OVF_COUNT).total 12).pend 1
  if s.bit R.MBX_CFG_OVF then (s.mbxSetHead top).mbxPut r else s

/-- A record in sequence: AUTO makes room for it, a full ring follows the overflow policy (R656, R665). -/
def State.mbxPlace (s : State) (r : VRec) : State :=
  let top := seqDist s.ringN (r.rseq + 1)
  if s.mbxAuto then (s.mbxSetHead top).ovfEnd.mbxPut r
  else if s.ringN ≤ seqDist (s.fld R.MBX_HEAD_HEAD) r.rseq then s.mbxFull r top
  else s.ovfEnd.mbxPut r

/-- The writer takes a record (R655). -/
def State.mbxTake (s : State) (r : VRec) : State :=
  let d := seqDist (s.fld R.MBX_DONE_DONE + 1) r.rseq
  if !s.bit R.MBX_CTRL_EN || decide (0x80000000 ≤ d) then s.inc R.MBX_CNT_OFF_COUNT
  else (((s.mbxGap d).mbxPlace r).setF R.MBX_DONE_DONE r.rseq).mbxHwm.mbxCheck

/-- VERDICT_RECORD_WRITE: the oldest record of crossing 8; the MESH domain is clocked. -/
def State.verdictWrite (s : State) : State :=
  match s.mbx.xing8 with
  | r :: l => if s.runs ∨ s.pmode = 1 ∨ s.pmode = 2 then { s with mbx.xing8 := l }.mbxTake r else s
  | [] => s

/-- A write of MBX_IRQ_CFG: THR 0 reads back as 1 (R671). -/
def State.writeMbxIrqCfg (s : State) (v : Nat) : State :=
  let s := s.wr R.MBX_IRQ_CFG (BitVec.ofNat 32 v)
  (if s.fld R.MBX_IRQ_CFG_THR = 0 then s.setF R.MBX_IRQ_CFG_THR 1 else s).mbxCheck

/-- A write of MBX_CFG ends the AUTO consumption of R664; it is ignored while the ring is enabled (R668, R671).
[Log 62 DESIGN CHOICE] -/
def State.writeMbxCfg (s : State) (v : Nat) : State :=
  let s := { s with mbx.autoLink := false }
  if s.bit R.MBX_CTRL_EN then s.report R.MBX_HSTATUS_LAST_STS 0xC007 4
  else
    let s := s.wr R.MBX_CFG (BitVec.ofNat 32 (v &&& R.MBX_CFG.rw))
    s.setF R.MBX_CFG_ENTRIES_LOG2 (max 8 (s.fld R.MBX_CFG_ENTRIES_LOG2))

/-- Writes a register of a ring unless the ring is enabled (R668). -/
def State.writeLocked (s : State) (en : Fld) (r : Reg) (v : Nat) : State :=
  if s.bit en then s.report R.MBX_HSTATUS_LAST_STS 0xC007 (r.off % 4096) else s.wr r (BitVec.ofNat 32 (v &&& r.rw))

/-! ## Interrupts (R661) -/

/-- A write of MBX_IRQ_PEND: a cleared source whose condition still holds is pending again. -/
def State.irqClear (s : State) (v : Nat) : State :=
  let p := s.fld R.MBX_IRQ_PEND_PEND
  let s := s.setF R.MBX_IRQ_PEND_PEND (p - (p &&& v))
  if (p &&& v).testBit 0 then s.mbxCheck else s

/-- Sends the messages noted in the PBA whose masks no longer hold them. -/
def State.msixFlush (s : State) : State :=
  if !s.mbx.msixEn || s.mbx.msixMask || s.bit R.MBX_HSTATUS_D3 || !s.bit R.MBX_HSTATUS_BME then s
  else (List.range 64).foldl (fun (s : State) (v : Nat) =>
    let r := R.MBX_MSIX_PBA_PENDING (v / 32)
    if (s.fld r).testBit (v % 32) ∧ !s.bit (R.MBX_MSIX_CTRL_MASK v) then
      (s.setF r (s.fld r - 2 ^ (v % 32))).emit (.msix v)
    else s) s

/-! ## The work ring (R662, R663) -/

/-- The work ring's entries. -/
def State.wqN (s : State) : Nat := 2 ^ s.fld R.MBX_WQ_CFG_LOG2

/-- WQ_DOORBELL. -/
def State.writeWqTail (s : State) (v : Nat) : State :=
  let s := s.wake 1
  let h := s.fld R.MBX_WQ_HEAD_HEAD
  let d := seqDist h v
  if s.wqN < d ∨ d < seqDist h (s.fld R.MBX_WQ_TAIL_TAIL) then s.report R.MBX_HSTATUS_LAST_STS 0xC00A 0
  else s.setF R.MBX_WQ_TAIL_TAIL v

/-- A write of MBX_WQ_CFG. -/
def State.writeWqCfg (s : State) (v : Nat) : State :=
  if s.bit R.MBX_WQ_CTRL_EN then s.report R.MBX_HSTATUS_LAST_STS 0xC007 0x604
  else s.setF R.MBX_WQ_CFG_LOG2 (max 4 (min 12 (v % 16)))

/-- WQ_ENTRY_SUBMIT: the entry at HEAD is read and submitted. -/
def State.wqSubmit (s : State) : State :=
  let h := s.fld R.MBX_WQ_HEAD_HEAD
  if !s.bit R.MBX_WQ_CTRL_EN ∨ h = s.fld R.MBX_WQ_TAIL_TAIL ∨ s.pmode = 3 then s
  else
    let k := h % s.wqN
    match s.vread 0x5000 5 (s.pair R.MBX_WQ_BASE_LO_BASE_LO R.MBX_WQ_BASE_HI_BASE_HI + 64 * k) 64 with
    | (.error _, s) => ((s.setB R.MBX_WQ_CTRL_EN false).report R.MBX_HSTATUS_LAST_STS 0xC009 k).pend 3
    | (.ok b, s) => (s.setF R.MBX_WQ_HEAD_HEAD (h + 1)).submit 0 ((List.range 16).map (fun j => leAt b (4 * j) 4)) true

/-! ## BAR2 (R647, R648) -/

/-- A BAR2 piece fails. -/
def State.bar2Fault (s : State) (reason : Nat) : State :=
  (s.inc R.MBX_CNT_BAR2_FAULT_COUNT).reportLimited R.MBX_HSTATUS_LAST_STS 0xC004 (fun _ => reason) 0

/-- The VA of a BAR2 offset while an image is active; without one, the physical address. -/
def State.bar2Va (s : State) (o : Nat) : Nat :=
  if s.img.active.isSome then s.pair R.MBX_BAR2_VA_LO_BAR2_VA_LO R.MBX_BAR2_VA_HI_BAR2_VA_HI + o else o

/-- Reads one piece: all ones where it fails. -/
def State.bar2Read (s : State) (a n : Nat) : List Byte × State :=
  if s.img.active.isSome then
    match s.readPiece 0x5000 5 a n 0 with
    | (.ok b, s) => (b, s)
    | (.error e, s) => (List.replicate n 0xFF, s.bar2Fault e.reason)
  else if a + n ≤ s.memFree then
    match s.eccRead a n with
    | (true, s) => (s.physRead a n, s)
    | (false, s) => (List.replicate n 0xFF, (s.txFail 5 0x5000 5 a a 0 0).bar2Fault 5)
  else (List.replicate n 0xFF, (s.txFail 3 0x5000 5 a a 0 0).bar2Fault 3)

/-- Writes one piece; one that fails is discarded. -/
def State.bar2Write (s : State) (a : Nat) (b : List Byte) : State :=
  if s.img.active.isSome then
    match s.writePiece 0x5000 5 a 0 b with
    | (some e, s) => s.bar2Fault e.reason
    | (none, s) => s
  else if a + b.length ≤ s.memFree then s.physWrite a b
  else (s.txFail 3 0x5000 5 a a 1 0).bar2Fault 3

/-- Reads a range piece by piece. -/
def State.bar2ReadLoop : Nat → State → Nat → Nat → List Byte → State
  | 0, s, _, _, acc => { s with mbx.bar2Data := acc }
  | fuel + 1, s, a, n, acc =>
    if n = 0 then { s with mbx.bar2Data := acc }
    else
      let k := pieceLen a n
      let r := s.bar2Read a k
      State.bar2ReadLoop fuel r.2 (a + k) (n - k) (acc ++ r.1)

/-- Writes a range piece by piece. -/
def State.bar2WriteLoop : Nat → State → Nat → List Byte → State
  | 0, s, _, _ => s
  | fuel + 1, s, a, b =>
    if b = [] then s
    else
      let k := pieceLen a b.length
      State.bar2WriteLoop fuel (s.bar2Write a (b.take k)) (a + k) (b.drop k)

/-- Whether the function answers a BAR access: its link is up, it is in D0 and Memory Space Enable is set.
[Log 63 DESIGN CHOICE] -/
def State.barOpen (s : State) : Bool :=
  s.bit R.MBX_LINK_UP && s.mbx.mse && !s.bit R.MBX_HSTATUS_D3 && !s.mbx.perst && s.pmode != 3

/-- BAR2_ACCESS: a write of bytes, or a read of `n` bytes into `bar2Data`. -/
def State.bar2 (s : State) (off n : Nat) (wr : Option (List Byte)) : State :=
  let len := (wr.map (·.length)).getD n
  if !s.barOpen ∨ 2 ^ s.mbx.barLog2 < off + len then s
  else match wr with
    | some b => State.bar2WriteLoop (b.length / 64 + 2) s (s.bar2Va off) b
    | none => State.bar2ReadLoop (n / 64 + 2) s (s.bar2Va off) n []

/-! ## The host window (R650, R651) -/

/-- HOST_WINDOW_ACCESS: the oldest posted write leaves on the link and reaches host memory. -/
def State.hwLeave (s : State) : State :=
  match s.mbx.hwPosted with
  | w :: l =>
    if s.bit R.MBX_LINK_UP then
      let m := w.data.zipIdx.foldl (fun m p => Sparse.insert m (w.bus + p.2) p.1) s.mbx.hostMem
      { s with mbx.hwPosted := l, mbx.hostMem := m }.emit (.hostWrite w.bus w.data)
    else s
  | [] => s

/-- The host's memory holds `b` from a bus address on, as its completions show. -/
def State.hwAnswer (s : State) (a : Nat) (b : List Byte) : State :=
  { s with mbx.hostMem := b.zipIdx.foldl (fun m p => Sparse.insert m (a + p.2) p.1) s.mbx.hostMem }

/-- Whether the oldest posted write has not left on the link within CPL_TMO_US. -/
def State.hwOverdue (s : State) : Bool :=
  s.mbx.hwPosted.head?.any (fun w => decide (w.at_ + 1000 * s.fld R.MBX_HCFG_CPL_TMO_US ≤ s.now))

/-- The oldest posted write is discarded and fails (R651). -/
def State.hwDiscard (s : State) (cause : Nat) : State :=
  match s.mbx.hwPosted with
  | w :: l => ({ s with mbx.hwPosted := l }.hwinFault cause).txFail 3 w.src 7 w.pa w.pa 1 0
  | [] => s

/-! ## Resets of the host side, the link and configuration (R644, R664, R668) -/

/-- R664: the host interface is reset and reports a status. [Log 63 DESIGN CHOICE] -/
def State.hostReset (s : State) (sts detail : Nat) (linkLost : Bool) : State :=
  let s := ((s.clearRegs 0xA2000 0xA2400).clearRegs 0xA3000 0xA3008).clearRegs 0xA0410 0xA0418
  let s := s.setF R.MBX_IRQ_PEND_PEND 0
  let s := (s.setB R.MBX_HSTATUS_D3 false).setB R.MBX_HSTATUS_BME false
  let s := (s.setB R.MBX_WQ_CTRL_EN false).setB R.MBX_HWIN_CTRL_EN false
  let s := { s with
    mbx.mse := false, mbx.barLog2 := 32, mbx.barNext := none, mbx.msixEn := false, mbx.msixMask := false
    bus.held := s.bus.held.filter (·.write) }
  let s := s.mbx.hwPosted.foldl (fun (s : State) _ => s.hwDiscard 1) s
  let s := if linkLost then ((s.setF R.MBX_LINK_UP 0).setF R.MBX_LINK_SPEED 0).setF R.MBX_LINK_WIDTH 0 else s
  let s := if s.bit R.MBX_CFG_LINK_AUTO then { s with mbx.autoLink := true } else s
  (s.inc R.MBX_CNT_RESETS_COUNT).report R.MBX_HSTATUS_LAST_STS sts detail

/-- Whether the function answers configuration requests (R176). -/
def State.cfgOpen (s : State) : Bool := (s.boot.mapped || s.bootState == 3) && !s.mbx.perst && s.bit R.MBX_LINK_UP

/-- CONFIG_SPACE_WRITE. -/
def State.cfgWrite (s : State) (w : ConfigWrite) : State :=
  if !s.cfgOpen then s
  else
    let s := (s.setB R.MBX_HSTATUS_D3 w.d3).setB R.MBX_HSTATUS_BME w.bme
    let next := match w.barLog2 with
      | some n => if 32 ≤ n ∧ n ≤ 35 ∧ n ≤ 30 + s.fld R.SYS_CAP_UNITS_MEM_LOG2 then some n else s.mbx.barNext
      | none => s.mbx.barNext
    let s := { s with mbx.mse := w.mse, mbx.msixEn := w.msixEn, mbx.msixMask := w.msixMask }
    let s := if w.mse then { s with mbx.barNext := next }
      else { s with mbx.barLog2 := next.getD s.mbx.barLog2, mbx.barNext := none }
    s.msixFlush

/-- PCIE_LINK_UP: speed 1 to 4, width in lanes. -/
def State.linkTrained (s : State) (speed width : Nat) : State :=
  if s.mbx.perst ∨ s.pwr.inReset ∨ !(1 ≤ speed ∧ speed ≤ 4) ∨ !([1, 2, 4, 8].contains width) ∨ !(s.fld R.CLK_STATUS_RUNNING).testBit 3 then s
  else
    let s := ((s.setF R.MBX_LINK_UP 1).setF R.MBX_LINK_SPEED speed).setF R.MBX_LINK_WIDTH width
    if speed < 4 ∨ width < 8 then s.report R.MBX_HSTATUS_LAST_STS 0xC00C (speed * 256 + width) else s

/-! ## The run set (R666, R667) -/

/-- RUNSET_SAVE's part after the capture: the store waits for the flash port (R705). -/
def State.runsetAsk (s : State) (regs : List (Nat × Nat)) : State :=
  if s.img.active.isNone then s
  else
    let s := { s with mbx.runNew := some (s.words8 R.BOOT_IMG_DIGEST_DIGEST, s.bit R.MBX_RUNSET_CTRL_AUTO_APPLY, regs) }
    (s.setB R.MBX_RUNSET_STATUS_SAVE_PENDING true).flashAsk 4

/-- RUN_SET_STORED: both copies are written and verified. [Log 30 DESIGN CHOICE] -/
def State.runsetStored (s : State) : State :=
  match s.mbx.runNew with
  | none => s
  | some (d, a, l) =>
    if s.flashReady 4 then
      let s := { s with mbx.runDigest := d, mbx.runAuto := a, mbx.runRegs := l, mbx.runValid := true, mbx.runNew := none }
      let s := (s.setB R.MBX_RUNSET_STATUS_SAVE_PENDING false).setB R.MBX_RUNSET_STATUS_VALID true
      s.flashDone.stageStore 4 0 0 d
    else s

end Sys2Proof.Machine
end

