-- ==== Sys2Proof/Machine/MotTime.lean ====
section
/-! DEFINITION. MotTime: the MOTION copy of the monotonic count (R346), 48-bit counts (R34), the event stamp queue
(R347, R348), and what the MOTION domain sends over full crossings (R126). -/

namespace Sys2Proof.Machine

/-- The MOTION copy of MONO (R346). While it runs free it advances 5 ns a MOTION cycle; once values have resumed it
holds until MONO passes it. [Log 32 DESIGN CHOICE] -/
def State.motNow (s : State) : Nat :=
  match s.time.copy with
  | none => s.time.mono
  | some (v, at_, false) => v + (s.now - at_) / 5 * 5
  | some (v, _, true) => max v s.time.mono

/-- The difference of two counts as a 48-bit signed number (R34). -/
def d48 (a b : Nat) : Int := signed 48 (unsignedOf 48 (Int.ofNat a - Int.ofNat b))

/-- A 48-bit count plus an integer. -/
def add48 (a : Nat) (i : Int) : Nat := unsignedOf 48 (Int.ofNat a + i)

/-- An event at count c has come about: E − c is zero or positive (R34). -/
def reached (e c : Nat) : Bool := decide (0 ≤ d48 e c)

/-- X of a channel. -/
def State.xOf (s : State) (c : Nat) : Nat := (s.fld (R.MOT_CH_X_LO_X_LO c)) + 2 ^ 32 * s.fld (R.MOT_CH_X_HI_X_HI c)

/-- E of a channel. -/
def State.eOf (s : State) (c : Nat) : Nat := (s.fld (R.MOT_CH_E_LO_E_LO c)) + 2 ^ 32 * s.fld (R.MOT_CH_E_HI_E_HI c)

/-- Puts X. -/
def State.setX (s : State) (c v : Nat) : State := s.setPair (R.MOT_CH_X_LO_X_LO c) (R.MOT_CH_X_HI_X_HI c) v

/-- Puts E. -/
def State.setE (s : State) (c v : Nat) : State := s.setPair (R.MOT_CH_E_LO_E_LO c) (R.MOT_CH_E_HI_E_HI c) v

/-- The channel of a number. -/
def State.ch (s : State) (c : Nat) : Chan := s.mot.chans.getD c {}

/-- Puts a channel back. -/
def State.setCh (s : State) (c : Nat) (x : Chan) : State := { s with mot.chans := setAt s.mot.chans c x }

/-- Whether a channel is backward (R285). -/
def State.backward (s : State) (c : Nat) : Bool := s.bit (R.MOT_CH_STATUS_BACKWARD c)

/-- A motion-area status of a channel; limited ones are limited to one a millisecond for each channel (R320). -/
def State.chReport (s : State) (c sts detail : Nat) : State :=
  s.motReport (R.MOT_CH_STATUS_LAST_STS c) sts detail c

def State.chLimited (s : State) (c sts : Nat) (detail : Nat → Nat) : State :=
  match s.limit sts c 1 1 with
  | (some k, s) => s.chReport c sts (detail k)
  | (none, s) => s

/-- A selected event writes a stamp; a full queue loses it, and a run of losses is reported once (R348).
[Log 36 DESIGN CHOICE] -/
def State.evtPush (s : State) (source index e mono : Nat) : State :=
  if s.time.evts.length < 64 then
    let s := { s with time.evts := s.time.evts ++ [(⟨source, index, e, mono⟩ : EvtStamp)], time.evtRun := false }
    s.setF R.PTP_EVT_STATUS_COUNT s.time.evts.length
  else
    let s := s.inc R.PTP_EVT_LOST_LOST
    if s.time.evtRun then s
    else { s with time.evtRun := true }.report R.PTP_STATUS_LAST_STS 0x6008 0

/-- A count mark fires in the first cycle in which E reaches its key (R348). -/
def State.markCheck (s : State) (c : Nat) : State :=
  let key := s.fld R.PTP_EVT_MARK_LO_MARK_LO + 2 ^ 32 * s.fld R.PTP_EVT_MARK_HI_MARK_HI
  if s.bit R.PTP_EVT_CFG_MARK_EN && s.fld R.PTP_EVT_MARK_HI_MARK_CHAN == c && reached (s.eOf c) key then
    (s.setB R.PTP_EVT_CFG_MARK_EN false).evtPush 3 c (s.eOf c) s.motNow
  else s


/-- An eject-area status of a track or an output (R61, R320). -/
def State.ejReport (s : State) (sts detail : Nat) : State := s.motReport R.EJ_POL_STATUS_LAST_STS sts detail

end Sys2Proof.Machine
end

