-- ==== Sys2Proof/Machine/Cam.lean ====
section
/-! DEFINITION. Cam: the MOTION side of the cameras (R241 to R250, R265 to R267): triggers, their retirement, windows,
and the events that reach the track unit. -/

namespace Sys2Proof.Machine

/-! ## Ports and records -/

/-- The state of a port, and putting it back. -/
def State.port (s : State) (p : Nat) : CamPort := s.cam.ports.getD p {}
def State.setPort (s : State) (p : Nat) (x : CamPort) : State := { s with cam.ports := setAt s.cam.ports p x }

/-- A pipeline, and putting it back. -/
def State.pipe (s : State) (k : Nat) : Pipe := s.cam.pipes.getD k {}
def State.setPipe (s : State) (k : Nat) (x : Pipe) : State := { s with cam.pipes := setAt s.cam.pipes k x }

/-- The CAMERAS record of a port. -/
def State.camRec (s : State) (p : Nat) : Option CamRec := s.img.active.bind (fun im => im.cams.find? (·.port == p))

/-- The encoder channel of a port: channel 0 where no record names it (R243). -/
def State.camChan (s : State) (p : Nat) : Nat := ((s.camRec p).map (·.chan)).getD 0

/-- The gates whose windows a port sees. -/
def State.camGates (s : State) (p : Nat) : Nat := ((s.camRec p).map (·.gateMask)).getD 0

/-- The lanes a port uses: those of its record, or the lane at position A (R243). -/
def State.portLanes (s : State) (p : Nat) : List Nat :=
  match s.camRec p with
  | some r => (List.range r.lanes).map (2 * p + ·)
  | none => [2 * p]

/-- The lowest-numbered lane of a port: the one its uplink traffic leaves on (R240). -/
def State.portLane (s : State) (p : Nat) : Nat := (s.portLanes p).headD (2 * p)

/-- The state code of a port (R243). -/
def State.pst (s : State) (p : Nat) : Nat := s.fld (R.CXP_PORT_STATUS_STATE p)

/-- A status of a port, or of a pipeline (R275). -/
def State.camReport (s : State) (p sts detail : Nat) : State := s.report (R.CXP_PORT_STATUS_LAST_STS p) sts detail p
def State.ispReport (s : State) (k sts detail : Nat) : State := s.report (R.ISP_PIPE_STATUS_LAST_STS k) sts detail k

/-- Line triggers are suspended outside RUN, and during a power-mode transaction (R139). -/
def State.trigOff (s : State) : Bool := !s.runs

/-- A count lies in a window [P, P + W). -/
def inWin (count p w : Nat) : Bool := decide (0 ≤ d48 count p) && decide (d48 count p < (w : Int))

/-- An evidence event reaches a track: only while its window is open (R41). -/
def State.trackFlag (s : State) (slot seq flag : Nat) : State :=
  match s.mot.tracks.find? (fun t => t.1 == slot) with
  | some (_, t) =>
    if t.st = .window ∧ t.seq = seq then
      { s with mot.tracks := Sparse.insert s.mot.tracks slot { t with flags := t.flags ||| 2 ^ flag } }
    else s
  | none => s

/-! ## Events of lines (R41, R260, R261, R275) -/

/-- An event of a line with a count reaches every track in whose window of the port it lies: a track for which this camera
has opened no window takes none. [Log 74 DESIGN CHOICE] -/
def State.winEvent (s : State) (p count flag : Nat) : State :=
  ((s.port p).wins ++ (s.port p).closing).foldl (fun (s : State) (w : CamWin) =>
    if inWin count w.p w.w then s.trackFlag w.trk w.seq flag else s) s

/-- An event reaches the track unit. A presence report is not taken here: it creates a track. -/
def State.camEvent (s : State) (e : CamEvt) : State :=
  match e with
  | .presence _ _ => s
  | .line p count flag => s.winEvent p count flag
  | .track slot seq => s.trackFlag slot seq 3

/-- An event is sent on crossing 6: it reaches the track unit behind the presence reports that wait there, at once where
none does. [Log 40 DESIGN CHOICE] -/
def State.camSend (s : State) (e : CamEvt) : State :=
  let s := s.xingFill 6 (min 64 (s.cam.xing6.length + 1))
  match e, s.cam.xing6 with
  | .presence _ _, l => { s with cam.xing6 := l ++ [e] }
  | _, [] => s.camEvent e
  | _, l => { s with cam.xing6 := l ++ [e] }

/-- The events at the front of crossing 6 reach the track unit, up to the next presence report. -/
def State.camDrain : List CamEvt → State → State
  | [], s => { s with cam.xing6 := [] }
  | .presence k c :: l, s => { s with cam.xing6 := .presence k c :: l }
  | e :: l, s => State.camDrain l (s.camEvent e)

/-! ## Retirement (R261, R250) -/

/-- A placeholder for a line whose trigger is retired: zeros, flagged MISSING (R250). -/
def voidLine (p : Nat) (t : Trig) : InLine :=
  { line := { port := p, count := t.count, mono := t.mono, flags := if t.late then 6 else 2, void := true, row := 0,
              last := false, frame := none, tm := false } }

/-- A trigger is retired as undelivered: counted, and told to the tracks in whose windows it lies. -/
def State.undeliv (s : State) (p : Nat) (t : Trig) : State :=
  (s.inc (R.CXP_CNT_UNDELIV_COUNT p)).camSend (.line p t.count 3)

/-- What a retired trigger leaves to fill: for a line camera its line goes to the pipeline as missing; for a frame camera
the parts in whose windows it lies miss an image. A held pipeline takes no line. -/
def State.voidIn (s : State) (p : Nat) (t : Trig) : State :=
  let k := s.fld (R.CXP_BIND_CURRENT p)
  let x := s.pipe k
  if (s.camRec p).isNone then s
  else if s.fld (R.CXP_TRIG_CFG_SRC p) = 1 then
    if s.bit (R.ISP_PIPE_STATUS_HELD k) then s else s.setPipe k { x with inq := x.inq ++ [voidLine p t] }
  else { s with cam.pipes := s.cam.pipes.map (fun k => { k with parts := k.parts.map (fun q =>
      if q.port == p && q.trk != 0xFFFF && inWin t.count q.p q.w then { q with missing := true } else q) }) }

/-- The places that retired triggers keep ahead of every outstanding trigger are filled. -/
def State.voidFlush (s : State) (p : Nat) : State :=
  let x := s.port p
  (x.outst.takeWhile (·.void)).foldl (fun (s : State) (t : Trig) => s.voidIn p t)
    (s.setPort p { x with outst := x.outst.dropWhile (·.void) })

/-- The oldest outstanding trigger, or the one whose place comes first, is retired. -/
def State.retire (s : State) (p : Nat) (t : Trig) : State := ((s.undeliv p t).voidIn p t).voidFlush p

/-- A trigger that falls due now is retired: its place comes behind the triggers that are outstanding and those that wait.
[Log 41 DESIGN CHOICE] -/
def State.retireDue (s : State) (p : Nat) (t : Trig) : State :=
  let s := s.undeliv p t
  let x := s.port p
  let v := { t with void := true }
  if s.fld (R.CXP_TRIG_CFG_SRC p) ≠ 1 then s.voidIn p t
  else if x.waits != [] then s.setPort p { x with waits := x.waits ++ [v] }
  else if x.outst != [] then s.setPort p { x with outst := x.outst ++ [v] }
  else s.voidIn p t

/-- Retires every outstanding trigger. -/
def State.retireOut (s : State) (p : Nat) : State :=
  let l := (s.port p).outst
  l.foldl (fun (s : State) (t : Trig) => if t.void then s.voidIn p t else s.retire p t) (s.setPort p { s.port p with outst := [] })

/-- Retires every trigger that waits under DELAY; no overrun is told (R265). -/
def State.retireWaits (s : State) (p : Nat) : State :=
  let l := (s.port p).waits
  (l.foldl (fun (s : State) (t : Trig) =>
      let s := if t.void then s else s.undeliv p t
      s.setPort p { s.port p with outst := (s.port p).outst ++ [{ t with void := true }] })
    (s.setPort p { s.port p with waits := [] })).voidFlush p

/-! ## Issuing triggers (R245, R265, R266) -/

/-- A trigger leaves the port and is outstanding (R247): its number and its MONO are those of the issuing cycle (R241). -/
def State.trigIssue (s : State) (p : Nat) (t : Trig) : State :=
  let x := s.port p
  let t := { t with at_ := s.now, mono := s.motNow, num := x.num }
  (s.setPort p { x with num := (x.num + 1) % 65536, lastAt := some s.now, outst := x.outst ++ [t] }).emit
    (.trigger p (s.portLane p) x.num t.mono (signed 48 t.count))

/-- A trigger is dropped: retired, counted and reported as an overrun (R265). -/
def State.trigDrop (s : State) (p : Nat) (t : Trig) : State :=
  ((s.retireDue p t).inc (R.CXP_CNT_OVERRUN_COUNT p)).camReport p 0x3007 (s.port p).num

/-- Triggers outstanding on a port (R247). -/
def CamPort.open_ (x : CamPort) : Nat := (x.outst.filter (fun t => !t.void)).length

/-- Triggers that wait under DELAY (R265). -/
def CamPort.waiting (x : CamPort) : Nat := (x.waits.filter (fun t => !t.void)).length

/-- A trigger falls due on a port, with its stamp count. [Log 41 DESIGN CHOICE] -/
def State.trigDue (s : State) (p count : Nat) : State :=
  let x := s.port p
  let t : Trig := { count := count, mono := s.motNow, num := x.num, at_ := s.now }
  if s.pst p = 0 then s
  else if s.pst p ≠ 4 ∨ s.trigOff then s.retireDue p t
  else if s.fld (R.CXP_TRIG_CFG_MAX_OUT p) ≤ x.open_ then s.trigDrop p t
  else
    let soon := match x.lastAt with
      | some at_ => decide (s.now < at_ + s.fld (R.CXP_TRIG_MINP_MIN_PERIOD_NS p))
      | none => false
    if soon || x.waits != [] then
      if s.bit (R.CXP_TRIG_CFG_POLICY p) && decide (x.waiting ≤ 4) then
        s.setPort p { x with waits := x.waits ++ [{ t with late := true }] }
      else s.trigDrop p t
    else s.trigIssue p t

/-- The oldest trigger that waits under DELAY is issued, MIN_PERIOD_NS after the previous one (R265).
[Log 41 DESIGN CHOICE] -/
def State.trigDelayed (s : State) (p : Nat) : State :=
  let x := s.port p
  let ready := match x.lastAt with
    | some at_ => decide (at_ + s.fld (R.CXP_TRIG_MINP_MIN_PERIOD_NS p) ≤ s.now)
    | none => true
  match x.waits with
  | [] => s
  | t :: l =>
    if !ready || s.pst p != 4 || s.trigOff then s
    else
      let s := s.setPort p { x with waits := [] }
      let s := if s.fld (R.CXP_TRIG_CFG_MAX_OUT p) ≤ x.open_ then s.trigDrop p t else s.trigIssue p t
      let y := s.port p
      (s.setPort p { y with outst := y.outst ++ l.takeWhile (·.void), waits := l.dropWhile (·.void) }).voidFlush p

/-- The first LINE_ENC trigger count above E: PHASE plus a multiple of DIV (R245). -/
def State.firstCount (s : State) (p : Nat) : Nat :=
  let e := s.eOf (s.camChan p)
  let ph := s.fld (R.CXP_TRIG_PHASE_LO_PHASE_LO p) + 2 ^ 32 * s.fld (R.CXP_TRIG_PHASE_HI_PHASE_HI p)
  let d : Int := max 1 (s.fld (R.CXP_TRIG_CFG_DIV p))
  add48 ph ((d48 e ph / d + 1) * d)

/-- Issues the LINE_ENC triggers that E has reached, in ascending count; `n` bounds how many there can be. -/
def State.lineTrigs (p : Nat) : Nat → State → State
  | 0, s => s
  | n + 1, s =>
    match (s.port p).next with
    | none => s
    | some c =>
      if reached (s.eOf (s.camChan p)) c then
        let s := s.setPort p { s.port p with next := some (add48 c (max 1 (s.fld (R.CXP_TRIG_CFG_DIV p)))) }
        State.lineTrigs p n (s.trigDue p c)
      else s

/-- The line triggers of every port on a channel whose E has changed. -/
def State.lineTrigAll (s : State) (c : Nat) : State :=
  (List.range s.cxpPorts).foldl (fun (s : State) (p : Nat) =>
    if s.fld (R.CXP_TRIG_CFG_SRC p) = 1 ∧ s.camChan p = c then
      match (s.port p).next with
      | some k => State.lineTrigs p ((d48 (s.eOf c) k).toNat / max 1 (s.fld (R.CXP_TRIG_CFG_DIV p)) + 1) s
      | none => s
    else s) s

/-! ## Windows (R248, R249, R271) -/

/-- CXP_WIN shows the open windows. -/
def State.winRegs (s : State) (p : Nat) : State :=
  let l := (s.port p).wins
  (s.setF (R.CXP_WIN_OPEN p) l.length).setF (R.CXP_WIN_SLOTS_OPEN p) (l.foldl (fun m w => m ||| 2 ^ w.slot) 0)

/-- A part image starts on a pipeline: it takes an output slot and a ring entry, or is not assembled (R257, R271). -/
def State.partStart (s : State) (k : Nat) (q : PartImg) : State :=
  let x := s.pipe k
  let free := (List.range (s.fld (R.ISP_OUT_CFG_SLOTS k))).filter (fun i => x.uses.all (fun u => u.slot != i))
  let ring := (s.fld (R.ISP_OUT_TAIL_TAIL k) + 2048 - s.fld (R.ISP_OUT_HEAD_HEAD k)) % 2048
  let no := fun (s : State) =>
    let s := (s.inc (R.ISP_CNT_OUT_FULL_COUNT k)).ispReport k 0x3102 q.trk
    if q.trk = 0xFFFF then s else s.camSend (.track q.trk q.seq)
  if 2047 ≤ ring + x.parts.length then no s
  else match s.pick free with
    | (none, s) => no s
    | (some i, s) =>
      let x := s.pipe k
      s.setPipe k { x with parts := x.parts ++ [{ q with slot := i }], uses := x.uses ++ [⟨i, none⟩] }

/-- A window opens on a port for a track; with all four slots taken it is an overtrigger (R56, R248).
[Log 38 DESIGN CHOICE] -/
def State.winOpen (s : State) (p slot seq pc w : Nat) : State :=
  let x := s.port p
  let free := (List.range 4).filter (fun i => x.wins.all (fun v => v.slot != i))
  match s.pick free with
  | (none, s) => ((s.inc (R.CXP_CNT_OVERTRIG_COUNT p)).camReport p 0x3006 slot).camSend (.track slot seq)
  | (some i, s) =>
    let x := s.port p
    let s := (s.setPort p { x with wins := x.wins ++ [(⟨i, slot, seq, pc, w⟩ : CamWin)] }).winRegs p
    let k := s.fld (R.CXP_BIND_CURRENT p)
    if s.bit (R.ISP_PIPE_STATUS_HELD k) then s
    else
      let s := s.partStart k { port := p, trk := slot, seq := seq, p := pc, w := w, slot := 0, tm := s.bit (R.CXP_BIND_MODE p) }
      s

/-- The windows of a track open on each of its gate's cameras; FRAME_ENC triggers follow, stamped P (R242, R248). -/
def State.winOpenAll (s : State) (gate slot seq pc w : Nat) : State :=
  let ports := (List.range s.cxpPorts).filter (fun p => (s.camGates p).testBit gate)
  let s := ports.foldl (fun (s : State) (p : Nat) => s.winOpen p slot seq pc w) s
  ports.foldl (fun (s : State) (p : Nat) => if s.fld (R.CXP_TRIG_CFG_SRC p) = 2 then s.trigDue p pc else s) s

/-- The slots of a track's windows are free from the start of the cycle in which they close (R267). -/
def State.winFree (s : State) (slot seq : Nat) : State :=
  (List.range s.cxpPorts).foldl (fun (s : State) (p : Nat) =>
    let x := s.port p
    let mine := fun (w : CamWin) => w.trk == slot && w.seq == seq
    if x.wins.any mine then
      (s.setPort p { x with wins := x.wins.filter (fun w => !mine w), closing := x.closing ++ x.wins.filter mine }).winRegs p
    else s) s

/-- The windows of a track close: their slots are free, and their parts take the close item (R248). -/
def State.winCloseAll (s : State) (slot seq : Nat) : State :=
  (List.range s.cxpPorts).foldl (fun (s : State) (p : Nat) =>
    let x := s.port p
    let mine := fun (w : CamWin) => w.trk == slot && w.seq == seq
    if x.wins.any mine || x.closing.any mine then
      let s := (s.setPort p { x with
        wins := x.wins.filter (fun w => !mine w), closing := x.closing.filter (fun w => !mine w) }).winRegs p
      { s with cam.pipes := s.cam.pipes.map (fun k => { k with parts := k.parts.map (fun q =>
          if q.port == p && q.trk == slot && q.seq == seq then { q with closed := true } else q) }) }
    else s) s

end Sys2Proof.Machine
end

