-- ==== Sys2Proof/Machine/Isp.lean ====
section
/-! DEFINITION. Isp: the stages of the image pipelines (R253 to R256), lines through a chain, and the assembly, output and
descriptors of part images (R249, R250, R257 to R259, R271). -/

namespace Sys2Proof.Machine

/-! ## Chains and parameters (R254, R255) -/

/-- The parameter blocks of a chain, in order: a length, the bytes, padded to a multiple of 4. -/
def paramBlocks : Nat → List Byte → List (List Byte)
  | 0, _ => []
  | n + 1, b =>
    let len := leAt b 0 4
    slice b 4 len :: paramBlocks n (b.drop (4 + (len + 3) / 4 * 4))

/-- Bytes the blocks of a chain take. -/
def paramBytes : Nat → List Byte → Nat
  | 0, _ => 0
  | n + 1, b =>
    let len := 4 + (leAt b 0 4 + 3) / 4 * 4
    len + paramBytes n (b.drop len)

/-- Bytes a stage's block has at least: for SHADING, LUT and NORM those of one column or channel. -/
def stageMin (code : Nat) : Nat :=
  match code with
  | 2 => 8
  | 3 => 2
  | 4 => 2
  | 6 => 24
  | 7 => 8192
  | 8 => 2
  | 9 => 4
  | 10 => 10
  | 11 => 10
  | 13 => 6
  | 14 => 1
  | _ => 0

/-- Whether a stage's block fits (R254): it has the bytes that the stage reads, and DEFECT's list its 1,024 columns at most.
[Log 43 DESIGN CHOICE] -/
def blockFits (code : Nat) (b : List Byte) : Bool :=
  decide (stageMin code ≤ b.length) && (code != 3 || (decide (leAt b 0 2 ≤ 1024) && decide (2 + 2 * leAt b 0 2 ≤ b.length)))

/-- The place of the first stage that makes a chain invalid; none for a valid chain. -/
def chainBad (r : IspRec) : Option Nat :=
  let n := r.stages.length
  let blocks := paramBlocks n r.params
  if r.stages.head? ≠ some 1 then some 0
  else if r.stages.getLast? ≠ some 14 then some (n - 1)
  else
    match (List.range n).find? (fun i => (r.stages.take i).contains (r.stages.getD i 0)) with
    | some i => some i
    | none =>
      (List.range n).find? (fun i =>
        decide (r.params.length < paramBytes i r.params + 4 + (leAt r.params (paramBytes i r.params) 4))
          || !blockFits (r.stages.getD i 0) (blocks.getD i []))

/-- Channels of a colour format. -/
def colorChans (color : Nat) : Nat := if color = 5 then 3 else 1

/-- Whether a format of `ch` channels, `bayer` when a Bayer format, suits the stages of a chain: DEMOSAIC takes a Bayer
format, CCM three channels, and LUT and NORM have a table or a block for each channel (R254). [Log 43 DESIGN CHOICE] -/
def chainSuits : List (Nat × List Byte) → Bool → Nat → Bool
  | [], _, _ => true
  | (c, b) :: l, bayer, ch =>
    match c with
    | 5 => bayer && chainSuits l false 3
    | 6 => ch == 3 && chainSuits l bayer ch
    | 7 => decide (8192 * ch ≤ b.length) && chainSuits l bayer ch
    | 13 => decide (6 * ch ≤ b.length) && chainSuits l bayer ch
    | _ => chainSuits l bayer ch

/-! ## Arithmetic of the stages (R253) -/

/-- A quotient the spec does not say how to round: one way or the other. -/
def unrounded (stage : Nat) (num : Int) (den : Nat) : Int :=
  let d : Int := max den 1
  num / d + (if num % d = 0 then 0 else ((Config.isp stage (unsignedOf 64 num) den).toNat % 2 : Nat))

/-- A result outside 16 bits, for which the spec states no value. -/
def within16 (stage : Nat) (v : Int) : Int :=
  if 0 ≤ v ∧ v ≤ 65535 then v else Int.ofNat (Config.isp stage (unsignedOf 64 v) 0).toNat

/-- A pixel of a line's channel; zero in a missing line. -/
def PLine.px (l : PLine) (c x : Nat) : Int := (l.chans.getD c []).getD x 0

/-- Pixels of a line. -/
def PLine.width (l : PLine) : Nat := (l.chans.headD []).length

/-- Applies a function to every pixel, with its channel and column. -/
def PLine.each (l : PLine) (f : Nat → Nat → Int → Int) : PLine :=
  { l with chans := l.chans.mapIdx (fun c px => px.mapIdx (fun x v => f c x v)) }

/-- A signed 16-bit parameter. -/
def s16At (b : List Byte) (o : Nat) : Int := signed 16 (leAt b o 2)

/-- The colour of a Bayer pixel, by format and place: 0 red, 1 green, 2 blue. -/
def bayerAt (color row col : Nat) : Nat :=
  let t := match color with
    | 1 => [0, 1, 1, 2]
    | 2 => [1, 0, 2, 1]
    | 3 => [1, 2, 0, 1]
    | _ => [2, 1, 1, 0]
  t.getD (2 * (row % 2) + col % 2) 0

/-- The 3 × 3 neighbours of a pixel, as row offset, column offset and value; none where a line or a column is not there. -/
def around (p : Option PLine) (l : PLine) (n : Option PLine) (c x w : Nat) : List (Option Int) :=
  [p, some l, n].flatMap (fun o => [0, 1, 2].map (fun d =>
    match o with
    | none => none
    | some k => if x + d = 0 ∨ w < x + d then none else some (k.px c (x + d - 1))))

/-- Bilinear interpolation of a colour at a pixel: the pixel itself, or the mean of the nearest neighbours of that colour;
at an edge the spec states no value. -/
def bayerPick (l : PLine) (nb : List (Option Int)) (x want : Nat) : Int :=
  if bayerAt l.color l.row x = want then l.px 0 x
  else
    let near := fun (ks : List Nat) => ks.filter (fun k =>
      decide (bayerAt l.color (l.row + 1 + k / 3) (x + 1 + k % 3) = want))
    let ks := match near [1, 3, 5, 7] with
      | [] => near [0, 2, 6, 8]
      | k => k
    let vs := ks.map (fun k => nb.getD k none)
    if vs.any Option.isNone then Int.ofNat (Config.isp 5 x (l.row * 4 + want)).toNat
    else unrounded 5 ((vs.map (fun v => v.getD 0)).foldl (· + ·) 0) vs.length

/-- DEMOSAIC of a line with its neighbours. -/
def demosaic (p : Option PLine) (l : PLine) (n : Option PLine) : PLine :=
  if l.void then l
  else
    let w := l.width
    { l with color := 5, chans := [0, 1, 2].map (fun want => (List.range w).map (fun x =>
        bayerPick l (around p l n 0 x w) x want)) }

/-- FILTER of a line with its neighbours: the kernel by rows, top row first. -/
def filter3 (b : List Byte) (p : Option PLine) (l : PLine) (n : Option PLine) : PLine :=
  if l.void then l
  else
    let w := l.width
    l.each (fun c x _ =>
      let nb := around p l n c x w
      if nb.any Option.isNone then Int.ofNat (Config.isp 10 x (l.row * 4 + c)).toNat
      else
        let t := (List.range 9).map (fun k => signed 8 (leAt b k 1) * ((nb.getD k none).getD 0))
        within16 10 (t.foldl (· + ·) 0 / ((2 ^ (leAt b 9 1) : Nat) : Int)))

/-- BIN of FY lines: means of FX × FY pixels; stamp of the first line, flags joined. -/
def binLines (fx : Nat) (ls : List PLine) : Option PLine :=
  match ls with
  | [] => none
  | h :: _ =>
    let w := ls.foldl (fun m l => max m l.width) 0
    let ch := ls.foldl (fun m l => max m l.chans.length) 0
    let n := w / max fx 1
    some { h with
      flags := ls.foldl (fun f l => f ||| l.flags) 0, void := ls.all (·.void), last := ls.any (·.last)
      chans := (List.range ch).map (fun c => (List.range n).map (fun x =>
        unrounded 8 ((ls.flatMap (fun l => (List.range fx).map (fun d => l.px c (x * fx + d)))).foldl (· + ·) 0)
          (fx * ls.length)))
      stat := (List.range (ls.foldl (fun m l => max m l.stat.length) 0)).map (fun c => ls.flatMap (fun l => l.stat.getD c [])) }

/-- The smallest and largest value of a PACK layout. -/
def packRange (layout : Nat) : Int × Int :=
  match layout with
  | 2 => (0, 65535)
  | 3 => (-128, 127)
  | _ => (0, 255)

/-- NORM of one value: scaled by 2^-16 to the nearest, offset, saturated to the PACK type. -/
def normPx (layout scale : Nat) (off v : Int) : Int :=
  let t := v * Int.ofNat scale
  let q := t / 65536
  let r := t % 65536
  let q := if r < 32768 then q
    else if 32768 < r then q + 1
    else q + (((Config.isp 13 (unsignedOf 64 t) 0).toNat % 2 : Nat) : Int)
  let (lo, hi) := packRange layout
  max lo (min hi (q + off))

/-- A stage that needs no other line. -/
def stageOne (code layout : Nat) (b : List Byte) (l : PLine) : PLine :=
  match code with
  | 2 => l.each (fun c _ v => max 0 (v - leAt b (2 * c) 2))
  | 3 =>
    let cols := (List.range (min 1024 (leAt b 0 2))).map (fun i => leAt b (2 + 2 * i) 2)
    let w := l.width
    l.each (fun c x v => if cols.contains x then
        (if x = 0 ∨ w ≤ x + 1 then Int.ofNat (Config.isp 3 x w).toNat else unrounded 3 (l.px c (x - 1) + l.px c (x + 1)) 2)
      else v)
  | 4 =>
    let n := l.chans.length
    l.each (fun c x v => if b.length < 2 * (x * n + c) + 2 then Int.ofNat (Config.isp 4 x c).toNat
      else within16 4 (unrounded 4 (v * leAt b (2 * (x * n + c)) 2) 256))
  | 6 => { l with chans := [0, 1, 2].map (fun i => (List.range l.width).map (fun x =>
      within16 6 (unrounded 6 (s16At b (6 * i) * l.px 0 x + s16At b (6 * i + 2) * l.px 1 x + s16At b (6 * i + 4) * l.px 2 x) 2048
        + s16At b (18 + 2 * i)))) }
  | 7 => l.each (fun c _ v => Int.ofNat (leAt b (8192 * c + 2 * (v.toNat / 16)) 2))
  | 9 => { l with chans := l.chans.map (fun px => (px.drop (leAt b 0 2)).take (leAt b 2 2)) }
  | 12 => { l with stat := l.chans.map (fun px => px.map (fun v => v.toNat / 256 % 256)) }
  | 13 => { l.each (fun c _ v => normPx layout (leAt b (6 * c) 4) (s16At b (6 * c + 4)) v) with norm := true }
  | _ => l

/-! ## Lines through the chain -/

/-- How many lines a stage holds back (R253). -/
def stageDelay (code : Nat) (b : List Byte) : Nat :=
  match code with
  | 5 => 2
  | 8 => max 1 (leAt b 1 1) - 1
  | 10 => 1
  | 11 => leAt b 8 1 + 32
  | _ => 0

/-- PRESENCE of a line: the context after it, and the stamp of a reported part (R256). -/
def presence (x : IspCtx) (b : List Byte) (l : PLine) : IspCtx × Option Nat :=
  let px := ((l.chans.headD []).drop (leAt b 0 2)).take (leAt b 2 2 - leAt b 0 2)
  let n := (px.filter (fun v => decide ((leAt b 4 2 : Int) < v))).length
  let hit := decide (leAt b 6 2 ≤ n)
  let x := if hit then { x with run := x.run + 1, runAt := if x.run = 0 then l.count else x.runAt, gap := 0 }
    else { x with run := 0, gap := x.gap + 1, ready := x.ready || decide (leAt b 9 1 ≤ x.gap + 1) }
  if hit && x.ready && x.run == max 1 (leAt b 8 1) then ({ x with ready := false }, some x.runAt) else (x, none)

/-- Passes on the lines a stage need not hold back any longer: `k` bounds their number, `flush` that the image has ended. -/
def drain (code : Nat) (b : List Byte) (flush : Bool) : Nat → StageBuf → List PLine × StageBuf
  | 0, x => ([], x)
  | k + 1, x =>
    match x.q with
    | [] => ([], if flush then {} else x)
    | l :: rest =>
      if flush || decide (stageDelay code b < x.q.length) then
        let o := match code with
          | 5 => demosaic x.prev l rest.head?
          | 10 => filter3 b x.prev l rest.head?
          | _ => l
        let (os, y) := drain code b flush k { prev := some l, q := rest }
        (o :: os, y)
      else ([], x)

/-- Whether two lines are lines of one image, as the stages behind PRESENCE see it: they lie in a window in common. Ahead of
it all lines of a camera are. [Log 43 DESIGN CHOICE] -/
def PLine.kin (a b : PLine) : Bool := (a.wins == [] && b.wins == []) || a.wins.any (fun w => b.wins.contains w)

/-- What a stage holds back, passed on as at the end of an image: BIN drops it. -/
def StageBuf.passOn (code : Nat) (b : List Byte) (x : StageBuf) : List PLine :=
  if code = 8 then [] else (drain code b true (x.q.length + 1) x).1

/-- One line through one stage: the lines that come out, the context after it, and the stamps of reported parts. -/
def stageLine (i code layout : Nat) (b : List Byte) (x : IspCtx) (l : PLine) : List PLine × IspCtx × List Nat :=
  let buf := Sparse.get x.held i {}
  let put := fun (y : StageBuf) (c : IspCtx) => { c with held := Sparse.put c.held i y {} }
  let same := match buf.q.getLast?, buf.prev with
    | some k, _ => k.kin l
    | none, some k => k.kin l
    | none, none => true
  let (out, buf) : List PLine × StageBuf := if same then ([], buf) else (buf.passOn code b, {})
  match code with
  | 8 =>
    let q := buf.q ++ [l]
    if max 1 (leAt b 1 1) ≤ q.length then ((binLines (max 1 (leAt b 0 1)) q).toList, put {} x, [])
    else ([], put { buf with q := q } x, [])
  | 11 =>
    let (c, part) := presence x b l
    let (os, y) := drain 11 b false (buf.q.length + 1) { buf with q := buf.q ++ [l] }
    (out ++ os, put y c, part.toList)
  | _ =>
    if code = 5 ∨ code = 10 then
      let (os, y) := drain code b false (buf.q.length + 1) { buf with q := buf.q ++ [l] }
      (out ++ os, put y x, [])
    else ([stageOne code layout b l], x, [])

/-- Lines through the rest of a chain: (place, code, block) of each stage. -/
def chainLines (layout : Nat) : List (Nat × Nat × List Byte) → IspCtx → List PLine → List PLine × IspCtx × List Nat
  | [], x, ls => (ls, x, [])
  | (i, code, b) :: rest, x, ls =>
    let r := ls.foldl (fun (acc : List PLine × IspCtx × List Nat) l =>
      let t := stageLine i code layout b acc.2.1 l
      (acc.1 ++ t.1, t.2.1, acc.2.2 ++ t.2.2)) ([], x, [])
    let t := chainLines layout rest r.2.1 r.1
    (t.1, t.2.1, r.2.2 ++ t.2.2)

/-- The stages of a pipeline with their blocks. -/
def IspRec.chain (r : IspRec) : List (Nat × Nat × List Byte) :=
  let bl := paramBlocks r.stages.length r.params
  r.stages.mapIdx (fun i c => (i, c, bl.getD i []))

/-- What a chain still holds back, passed on as at the end of an image: the lines that come out, the context after it, and
the stamps of reported parts. -/
def chainFlush (layout : Nat) : List (Nat × Nat × List Byte) → IspCtx → List PLine → List PLine × IspCtx × List Nat
  | [], x, ls => (ls, x, [])
  | (i, code, b) :: rest, x, ls =>
    let r := chainLines layout [(i, code, b)] x ls
    let o := StageBuf.passOn code b (Sparse.get r.2.1.held i {})
    let t := chainFlush layout rest { r.2.1 with held := Sparse.erase r.2.1.held i } (r.1 ++ o)
    (t.1, t.2.1, r.2.2 ++ t.2.2)

/-- The stages up to and including PRESENCE, which every line passes (R249); UNPACK alone in a chain without it.
[Log 43 DESIGN CHOICE] -/
def IspRec.preLen (r : IspRec) : Nat := if r.stages.contains 11 then r.stages.findIdx (· == 11) + 1 else 1
def IspRec.pre (r : IspRec) : List (Nat × Nat × List Byte) := r.chain.take r.preLen

/-- The stages behind them, which only lines of a window pass. -/
def IspRec.post (r : IspRec) : List (Nat × Nat × List Byte) := r.chain.drop r.preLen

/-- The PACK layout of a pipeline. -/
def IspRec.layout (r : IspRec) : Nat := match (r.chain.find? (fun t => t.2.1 == 14)) with
  | some t => leAt t.2.2 0 1
  | none => 0

/-- UNPACK: pixels of `bits` bits, packed from the least significant bit of each byte on, to left-aligned 16 bits.
[Log 42 PRESUMED] -/
def unpack (chans width bits : Nat) (b : List Byte) : List (List Int) :=
  let n := leAt b 0 b.length
  (List.range chans).map (fun c => (List.range width).map (fun x =>
    Int.ofNat (n / 2 ^ (bits * (x * chans + c)) % 2 ^ bits * 2 ^ (16 - bits))))

/-- A line as it enters the chain. -/
def InLine.enter (x : InLine) : PLine :=
  if x.line.void then x.line else { x.line with chans := unpack (colorChans x.line.color) x.width x.bits x.bytes }

/-! ## PACK -/

/-- One value as the bytes of a layout. A value NORM has not brought into an 8-bit range has no stated result. -/
def packPx (layout : Nat) (norm : Bool) (v : Int) : List Byte :=
  let (lo, hi) := packRange layout
  let v := if norm || layout == 2 || (decide (lo ≤ v) && decide (v ≤ hi)) then v
    else Int.ofNat (Config.isp 14 (unsignedOf 64 v) layout).toNat
  leBytes (if layout = 2 then 2 else 1) (unsignedOf 16 v)

/-- The planes of a line: one for an interleaved layout, one for each channel otherwise. -/
def packLine (layout : Nat) (l : PLine) : List (List Byte) :=
  if layout = 0 then
    [(List.range l.width).flatMap (fun x => (List.range l.chans.length).flatMap (fun c => packPx 0 l.norm (l.px c x)))]
  else l.chans.map (fun px => px.flatMap (packPx layout l.norm))

/-! ## Assembly (R249) -/

/-- Inserts a line into a part by its place, after those of the same place. -/
def outInsert (l : OutLine) : List OutLine → List OutLine
  | [] => [l]
  | x :: r => if l.off < x.off then l :: x :: r else x :: outInsert l r

/-- Whether a line belongs to a part image. -/
def PartImg.takes (q : PartImg) (l : PLine) : Bool :=
  q.port == l.port &&
    (match l.frame with
     | some n => q.trk == 0xFFFF && q.seq == n
     | none => q.trk != 0xFFFF && inWin l.count q.p q.w)

/-- A line at the end of the chain goes to every part it was assigned to. -/
def State.assemble (s : State) (k layout : Nat) (l : PLine) : State :=
  let x := s.pipe k
  let o : PartImg → OutLine := fun q =>
    ⟨if l.frame.isSome then 0 else (d48 l.count q.p).toNat, l.count, l.mono, l.flags, l.void, if l.void then [] else packLine layout l,
     l.width, l.chans.length, l.stat⟩
  s.setPipe k { x with parts := x.parts.map (fun q =>
    if l.wins.contains q.slot then { q with lines := outInsert (o q) q.lines } else q) }

/-- A line behind PRESENCE is assigned to every part it belongs to; one in no window is discarded, and counted as outside
(R249). -/
def State.assign (s : State) (k : Nat) (l : PLine) : Option PLine × State :=
  match ((s.pipe k).parts.filter (·.takes l)).map (·.slot) with
  | [] => (none, if l.frame.isSome then s else s.inc (R.ISP_CNT_OUTSIDE_COUNT k))
  | ws => (some { l with wins := ws }, s)

/-- A context of a pipeline: false in-line, true through memory. -/
def State.ispCtx (s : State) (k : Nat) (tm : Bool) : IspCtx := if tm then (s.pipe k).ctx1 else (s.pipe k).ctx0
def State.setCtx (s : State) (k : Nat) (tm : Bool) (c : IspCtx) : State :=
  s.setPipe k (if tm then { s.pipe k with ctx1 := c } else { s.pipe k with ctx0 := c })

/-- What has passed the stages up to PRESENCE: its reports go out on crossing 6, its lines are assigned. -/
def State.preDone (s : State) (k : Nat) (tm : Bool) (t : List PLine × IspCtx × List Nat) : List PLine × State :=
  let s := t.2.2.foldl (fun (s : State) (c : Nat) => (s.inc (R.ISP_CNT_PRESENCE_COUNT k)).camSend (.presence k c))
    (s.setCtx k tm t.2.1)
  t.1.foldl (fun (acc : List PLine × State) (l : PLine) =>
    let (o, s) := acc.2.assign k l
    (acc.1 ++ o.toList, s)) ([], s)

/-- What has passed the other stages is assembled. -/
def State.postDone (s : State) (k layout : Nat) (tm : Bool) (t : List PLine × IspCtx × List Nat) : State :=
  t.1.foldl (fun (s : State) (l : PLine) => s.assemble k layout l) (s.setCtx k tm t.2.1)

/-- A context passes on what its stages behind PRESENCE hold back. -/
def State.postFlush (s : State) (k : Nat) (tm : Bool) (r : IspRec) : State :=
  s.postDone k r.layout tm (chainFlush r.layout r.post (s.ispCtx k tm) [])

/-- A context passes on all it holds back. -/
def State.ctxFlush (s : State) (k : Nat) (tm : Bool) (r : IspRec) : State :=
  let (ls, s) := s.preDone k tm (chainFlush r.layout r.pre (s.ispCtx k tm) [])
  (s.postDone k r.layout tm (chainLines r.layout r.post (s.ispCtx k tm) ls)).postFlush k tm r

/-- The pixels of a line count in the rate of its context over the last 100 ms (R282). -/
def State.loadAdd (s : State) (k : Nat) (tm : Bool) (px : Nat) : State :=
  let x := s.pipe k
  let add := fun (l : List (Nat × Nat)) => l.filter (fun e => decide (s.now < e.1 + 100000000)) ++ [(s.now, px)]
  s.setPipe k (if tm then { x with load1 := add x.load1 } else { x with load0 := add x.load0 })

/-- The rates of a pipeline over the last 100 ms in Mpx/s, as ISP_LOAD shows them (R282). [Log 15 DESIGN CHOICE] -/
def State.loadOf (s : State) (k : Nat) : Nat :=
  let rate := fun (l : List (Nat × Nat)) =>
    min 65535 (sumOf (l.filter (fun e => decide (s.now < e.1 + 100000000))) (·.2) / 100000)
  rate (s.pipe k).load0 + 65536 * rate (s.pipe k).load1

/-- One line through a pipeline in a context: the stages up to PRESENCE, its assignment, and the other stages. The last line
of an area image passes on all that is held back, and closes its whole-frame part. -/
def State.pipeOne (s : State) (k : Nat) (tm : Bool) (r : IspRec) (l : PLine) : State :=
  let s := s.loadAdd k tm l.width
  let (ls, s) := s.preDone k tm (chainLines r.layout r.pre (s.ispCtx k tm) [l])
  let s := s.postDone k r.layout tm (chainLines r.layout r.post (s.ispCtx k tm) ls)
  if l.last then
    let s := s.ctxFlush k tm r
    let x := s.pipe k
    s.setPipe k { x with parts := x.parts.map (fun q =>
      if q.port == l.port && q.trk == 0xFFFF && l.frame == some q.seq then { q with closed := true } else q) }
  else s

/-- Lines through a pipeline in a context. -/
def State.pipeLines (s : State) (k : Nat) (tm : Bool) (r : IspRec) (ls : List PLine) : State :=
  ls.foldl (fun (s : State) (l : PLine) => s.pipeOne k tm r l) s

/-- The in-line camera of a pipeline leaves it: behind its last line the context passes on what it holds back (R269). -/
def State.pipeLeave (s : State) (k : Nat) : State :=
  let x := s.pipe k
  s.setPipe k { x with inq := x.inq ++ [{ voidLine 15 { count := 0, mono := 0, num := 0 } with leave := true }] }

/-- The ISP record of a pipeline. [Log 43 DESIGN CHOICE] -/
def State.ispRec (s : State) (k : Nat) : Option IspRec := s.img.active.bind (fun im => im.isps.find? (·.pipe == k))

/-- Whether a pipeline can work: its domain is clocked, its chain valid, and crossing 6 not full (R140, R254, R275). -/
def State.pipeFree (s : State) (k : Nat) : Bool :=
  !s.gated 0x30000 && !s.bit (R.ISP_PIPE_STATUS_HELD k) && decide (s.cam.xing6.length < 64)

/-- PIPELINE_LINE: the next line of a pipeline's in-line camera. -/
def State.pipeLine (s : State) (k : Nat) : State :=
  let x := s.pipe k
  match x.inq, s.ispRec k with
  | l :: rest, some r =>
    if s.pipeFree k then
      let s := s.setPipe k { x with inq := rest }
      if l.leave then s.ctxFlush k false r else s.pipeOne k false r l.enter
    else s
  | _, _ => s

/-! ## Completion (R250, R257 to R259, R271) -/

/-- Bytes of an output slot, and its address. -/
def State.outSlot (s : State) (k : Nat) (r : IspRec) (i : Nat) : Nat × Nat :=
  match s.img.active.bind (·.mem? r.outPart) with
  | some m =>
    let n := (m.size - 65536) / max 1 (s.fld (R.ISP_OUT_CFG_SLOTS k)) / 4096 * 4096
    (m.base + 65536 + i * n, n)
  | none => (0, 0)

/-- Whether the stages of a chain, from place `i` up to `j`, hold no line of a kind. -/
def IspCtx.none_ (c : IspCtx) (i j : Nat) (f : PLine → Bool) : Bool :=
  c.held.all (fun b => b.1 < i || j ≤ b.1 || b.2.q.all (fun l => !f l))

/-- Whether nothing more comes to a part from ahead of its assignment: it is closed, no trigger of its window is outstanding
or waits, no frame of it waits in memory, and none of its lines waits for the pipeline or in its stages up to PRESENCE. -/
def State.partReady (s : State) (k : Nat) (r : IspRec) (q : PartImg) : Bool :=
  let x := s.port q.port
  let within := fun (t : Trig) => q.trk != 0xFFFF && inWin t.count q.p q.w
  let pipe := s.pipe k
  q.closed && !x.outst.any within && !x.waits.any within && !x.fbs.any (fun f => f.pipe == k && within f.trig)
    && (x.img.bind (·.trig)).all (fun t => !within t)
    && pipe.inq.all (fun l => !q.takes l.line)
    && pipe.ctx0.none_ 0 r.preLen q.takes && pipe.ctx1.none_ 0 r.preLen q.takes

/-- Whether a part is complete (R250): nothing more comes to it, and what its context's stages behind PRESENCE hold back is
none of it, or only waits for lines that no longer come. [Log 43 DESIGN CHOICE] -/
def State.partDone (s : State) (k : Nat) (q : PartImg) : Bool :=
  match s.ispRec k with
  | none => false
  | some r =>
    let c := s.ispCtx k q.tm
    let n := r.stages.length
    let late := ((s.pipe k).parts.filter (fun p => !s.partReady k r p)).map (·.slot)
    s.partReady k r q && (c.none_ r.preLen n (fun l => l.wins.contains q.slot)
      || c.none_ r.preLen n (fun l => l.wins.any (fun w => late.contains w)))

/-- The bytes of one plane of a part: its lines, a missing one as zeros. -/
def planeBytes (q : PartImg) (c bytes : Nat) : List (List Byte) :=
  q.lines.map (fun l => if l.void then List.replicate bytes 0 else slice (l.planes.getD c []) 0 bytes)

/-- Writes blocks one after another from an address until one fails: the index of the failing one. -/
def State.writeBlocks (src : Nat) : State → Nat → Nat → List (List Byte) → Option Nat × State
  | s, _, _, [] => (none, s)
  | s, i, a, b :: l =>
    match s.vwrite src 3 a b with
    | (some _, s) => (some i, s)
    | (none, s) => State.writeBlocks src s (i + 1) (a + b.length) l

/-- The histogram of a part: 256 bins of 4 bytes for each channel that STATS has seen. -/
def histBytes (q : PartImg) (ch : Nat) : List Byte :=
  (List.range ch).flatMap (fun c => (List.range 256).flatMap (fun v =>
    leBytes 4 (sumOf q.lines (fun l => ((l.stat.getD c []).filter (· == v)).length))))

/-- Rounds up to a multiple of 64. -/
def up64 (n : Nat) : Nat := (n + 63) / 64 * 64

/-- Writes blocks that stand at an offset of a slot, unless they reach past its end. [Log 44 DESIGN CHOICE] -/
def State.slotWrite (s : State) (src a size off : Nat) (b : List Byte) : Option Nat × State :=
  if size < off + b.length then (none, s) else State.writeBlocks src s 0 (a + off) [b]

/-- A complete part image is written, described and told (R257 to R259). A fault ends it: MISSING is set on every line from
the failing write on, and on the image. A descriptor whose own write fails is told as a fault, and its slot is free again
(R271). [Log 44 DESIGN CHOICE] -/
def State.partWrite (s : State) (k : Nat) (r : IspRec) (q : PartImg) : State :=
  let src := 0x3000 + k
  let lay := r.layout
  let real := (q.lines.find? (fun l => !l.void))
  let w := (real.map (·.width)).getD 0
  let ch := (real.map (·.chans)).getD 0
  let per := if lay = 0 then w * ch else if lay = 2 then 2 * w else w
  let planes := if lay = 0 then 1 else ch
  let (a, size) := s.outSlot k r q.slot
  let nl := q.lines.length
  let blocks := ((List.range planes).flatMap (fun c => planeBytes q c per))
  let fit := blocks.take (if per = 0 then 0 else size / per)
  let (bad, s) := State.writeBlocks src s 0 a fit
  let fail := bad.map (fun i => i % max nl 1)
  let flags := q.lines.mapIdx (fun i l => match fail with
    | some j => if j ≤ i then l.flags ||| 2 else l.flags
    | none => l.flags)
  let stats := r.stages.contains 12
  let at1 := up64 (planes * nl * per)
  let at2 := up64 (at1 + nl)
  let sch := q.lines.foldl (fun m l => max m l.stat.length) 0
  let (bad2, s) : Option Nat × State := match bad with
    | some i => (some i, s)
    | none => s.slotWrite src a size at1 (flags.map (BitVec.ofNat 8))
  let (bad3, s) : Option Nat × State := match bad2, stats with
    | none, true => s.slotWrite src a size at2 (histBytes q sch)
    | b, _ => (b, s)
  let s := if bad3.isSome then s.ispReport k 0x3103 q.slot else s
  let first := q.lines.head?
  let (f, s) : List Nat × State := if first.isSome then ([], s) else s.freshList 2
  let start := match first with
    | some l => l.count
    | none => f.getD 0 0
  let ns := match first with
    | some l => l.mono
    | none => f.getD 1 0
  let all := flags.foldl (fun m v => m ||| v) (if q.missing || bad3.isSome then 2 else 0)
  let fl := all % 16 + (if q.split then 16 else 0) + (if q.tm then 32 else 0) + (if stats then 64 else 0) + 128
  let cam := ((s.img.active.map (·.cams)).getD []).findIdx (·.port == q.port)
  let d := leBytes 4 q.seq ++ leBytes 2 q.trk ++ leBytes 1 cam ++ leBytes 1 fl ++ leBytes 6 start ++ leBytes 2 nl ++ leBytes 8 ns
    ++ leBytes 2 q.slot ++ leBytes 2 w ++ leBytes 2 (flags.filter (fun v => v % 16 != 0)).length ++ leBytes 1 lay ++ leBytes 1 ch
  let tail := s.fld (R.ISP_OUT_TAIL_TAIL k)
  let base := ((s.img.active.bind (·.mem? r.outPart)).map (·.base)).getD 0
  let (badD, s) := State.writeBlocks src s 0 (base + 32 * tail) [d]
  let x := s.pipe k
  let parts := x.parts.filter (fun p => p.slot != q.slot)
  if badD.isSome then
    (s.setPipe k { x with parts := parts, uses := x.uses.filter (fun u => u.slot != q.slot) }).ispReport k 0x3103 q.slot
  else
    let s := s.setPipe k { x with
      parts := parts, uses := x.uses.map (fun u => if u.slot == q.slot then { u with desc := some tail } else u) }
    let s := (s.setF (R.ISP_OUT_TAIL_TAIL k) ((tail + 1) % 2048)).inc (R.ISP_CNT_PARTS_COUNT k)
    if s.bit (R.ISP_PIPE_CELL_EN k) then (s.cellAdd (s.fld (R.ISP_PIPE_CELL_CELL k)) 1 src none).2 else s

/-- PART_IMAGE_COMPLETE: the first complete part of a pipeline. What its context's stages behind PRESENCE still hold back of
it is passed on first. -/
def State.partComplete (s : State) (k : Nat) : State :=
  match s.ispRec k, (s.pipe k).parts.find? (s.partDone k) with
  | some r, some q =>
    let s := if (s.ispCtx k q.tm).none_ r.preLen r.stages.length (fun l => l.wins.contains q.slot) then s
      else s.postFlush k q.tm r
    match (s.pipe k).parts.find? (fun p => p.slot == q.slot) with
    | some q => s.partWrite k r q
    | none => s
  | _, _ => s

/-- A write of ISP_OUT_HEAD frees the slots of the descriptors it moves past (R257). -/
def State.writeOutHead (s : State) (k v : Nat) : State :=
  let v := v % 2048
  let old := s.fld (R.ISP_OUT_HEAD_HEAD k)
  let x := s.pipe k
  let passed := fun (d : Nat) => decide ((d + 2048 - old) % 2048 < (v + 2048 - old) % 2048)
  (s.setPipe k { x with uses := x.uses.filter (fun u => !(u.desc.map passed).getD false) }).setF (R.ISP_OUT_HEAD_HEAD k) v

/-- A write of ISP_PIPE_CELL (R259). [Log 16 DESIGN CHOICE] -/
def State.writePipeCell (s : State) (k v : Nat) : State :=
  let cell := (R.ISP_PIPE_CELL_CELL k).of v
  let ok := match s.img.active.bind (·.sync? cell) with
    | some c => c.units.testBit 3
    | none => false
  if ok then s.wr (R.ISP_PIPE_CELL k) (BitVec.ofNat 32 (v &&& (R.ISP_PIPE_CELL k).rw))
  else s.imgReport 0x200D cell

end Sys2Proof.Machine
end

