-- ==== Sys2Proof/Machine/Lane.lean ====
section
/-! DEFINITION. Lane: the directions of a lane, the transmit synthesisers and the held transmit command (R365 to R375). -/

namespace Sys2Proof.Machine

/-- A lane's state beyond its registers. -/
def State.ln (s : State) (l : Nat) : Lane := s.lanes.lane.getD l {}

/-- Puts a lane back. -/
def State.setLn (s : State) (l : Nat) (x : Lane) : State := { s with lanes.lane := setAt s.lanes.lane l x }

/-- A lane's quad, and the lanes of a quad. -/
def quadOf (l : Nat) : Nat := l / 4
def quadLanes (q : Nat) : List Nat := (List.range 4).map (4 * q + ·)

/-- The state of a quad's synthesiser (R366). -/
def State.synth (s : State) (q : Nat) : Nat := s.lanes.synth.getD q 0

/-- Moves a synthesiser; every lane of the quad shows it. -/
def State.setSynth (s : State) (q st : Nat) : State :=
  (quadLanes q).foldl (fun (s : State) (l : Nat) => s.setF (R.LANE_STATUS_SYNTH l) st)
    { s with lanes.synth := setAt s.lanes.synth q st }

/-- A lane status, to its own LAST_STS (R394). -/
def State.laneReport (s : State) (l sts detail : Nat) : State := s.report (R.LANE_STATUS_LAST_STS l) sts detail l

/-- The transmit and the receive state of a lane: 0 L0, 1 L1, 2 L2, 3 OFF. -/
def State.txOf (s : State) (l : Nat) : Nat := s.fld (R.LANE_STATUS_TX_STATE l)
def State.rxOf (s : State) (l : Nat) : Nat := s.fld (R.LANE_STATUS_RX_STATE l)

/-- With every high-speed transmit direction of the quad in L2 or OFF, and no command held, its synthesiser is OFF. -/
def State.synthRest (s : State) (q : Nat) : State :=
  if (quadLanes q).all (fun l => 2 ≤ s.txOf l && (s.ln l).held.isNone) then s.setSynth q 0 else s

/-- Moves a transmit direction; leaving L1 or L2 for L0 completes a wake. -/
def State.txGo (s : State) (l st : Nat) : State :=
  let old := s.txOf l
  let s := s.setF (R.LANE_STATUS_TX_STATE l) st
  let s := if st = 0 ∧ (old = 1 ∨ old = 2) then s.inc (R.LANE_CNT_WAKE_COUNT l) else s
  if 2 ≤ st then { s with lanes.lane := setAt s.lanes.lane l { s.ln l with gen := false } }.synthRest (quadOf l) else s

/-- Takes the held command away. -/
def State.heldClear (s : State) (l : Nat) : State :=
  (s.setLn l { s.ln l with held := none }).setB (R.LANE_STATUS_HELD l) false

/-- The held command has failed (detail 0) or is cancelled by a ceiling or a command to OFF (detail 1) (R372). -/
def State.heldEnd (s : State) (l detail : Nat) : State := ((s.heldClear l).laneReport l 0x7002 detail).synthRest (quadOf l)

/-- The held command is cancelled. -/
def State.heldCancel (s : State) (l : Nat) : State := if (s.ln l).held.isNone then s else s.heldEnd l 1

/-- The held command fails: it has been held for LANE_SYNTH_TMO. -/
def State.heldFail (s : State) (l : Nat) : State := (s.inc (R.LANE_CNT_TXFAIL_COUNT l)).heldEnd l 0

/-- When the held command fails. -/
def State.heldDue (s : State) (l : Nat) (c : Nat × Nat) : Nat := c.2 + 1000 * s.fld (R.LANE_SYNTH_TMO_US l)

/-- Carries out a transmit command: 0 L0, 1 L1, 2 L2, 3 OFF, 4 WAKE, 5 PRBS_ON, 6 PRBS_OFF. -/
def State.txDo (s : State) (l cmd : Nat) : State :=
  match cmd with
  | 4 => s.emit (.lane l 4)
  | 5 => (s.setLn l { s.ln l with gen := true }).emit (.lane l (8 + s.fld (R.LANE_PRBS_GEN_SEL l)))
  | 6 => (s.setLn l { s.ln l with gen := false }).emit (.lane l 6)
  | st => s.txGo l st

/-- Whether a command needs the synthesiser. -/
def needsSynth (cmd : Nat) : Bool := cmd == 0 || cmd == 1 || cmd == 4 || cmd == 5

/-- A transmit command, by the driver or the owner (R372): it is held while it needs a synthesiser that is not LOCKED.
A second command for the holder is refused. -/
def State.txCmd (s : State) (l cmd : Nat) : State :=
  if !needsSynth cmd then
    let s := if cmd = 3 then s.heldCancel l else s
    s.txDo l cmd
  else if (s.ln l).held.isSome then s.laneReport l 0x7003 l
  else if s.synth (quadOf l) = 3 then s.txDo l cmd
  else
    let s := (s.setLn l { s.ln l with held := some (cmd, s.now) }).setB (R.LANE_STATUS_HELD l) true
    if s.synth (quadOf l) = 0 then s.setSynth (quadOf l) 1 else s

/-- Link sleep puts a transmit direction into L1 or L2 (R381). -/
def State.txCmdIdle (s : State) (l st : Nat) : State := s.setF (R.LANE_STATUS_TX_STATE l) st

/-- A receive direction's lock is lost or given up. -/
def State.rxUnlock (s : State) (l : Nat) : State :=
  (s.setB (R.LANE_STATUS_CDR_LOCK l) false).setB (R.LANE_STATUS_ALIGNED l) false

/-- A receive direction locks and aligns. -/
def State.rxLock (s : State) (l : Nat) : State :=
  ((s.setB (R.LANE_STATUS_CDR_LOCK l) true).setB (R.LANE_STATUS_ALIGNED l) true).setB (R.LANE_STATUS_SIG_DET l) true

/-- Moves a receive direction; leaving L1 or L2 for L0 starts a fast relock under its guard (R369). -/
def State.rxGo (s : State) (l st : Nat) : State :=
  let old := s.rxOf l
  let s := s.setF (R.LANE_STATUS_RX_STATE l) st
  let guardNs := if old = 1 then s.fld (R.LANE_TMO_GUARD_L1_NS l) else 1000 * s.fld (R.LANE_TMO_GUARD_L2_US l)
  if st = old then s
  else if st = 0 then
    let s := if old = 1 ∨ old = 2 then s.setLn l { s.ln l with guardAt := some (s.now + guardNs) } else s
    s.rxUnlock l
  else (s.setLn l { s.ln l with guardAt := none, retrain := false }).rxUnlock l

/-- Marks a lane's owner active or not (R367). -/
def State.laneOwn (s : State) (l : Nat) (on : Bool) : State := s.setB (R.LANE_STATUS_OWNED l) on

/-- A lane whose calibration failed stays OFF (R177). -/
def State.laneDown (s : State) (l : Nat) : Bool := s.bit (R.LANE_STATUS_DOWN l)

/-- A CXP port takes its lanes: receive directions and uplinks go to L0, or back to OFF (R367). -/
def State.portOwns (s : State) (lanes : List Nat) (on : Bool) : State :=
  lanes.foldl (fun (s : State) (l : Nat) =>
    let s := s.laneOwn l on
    if s.laneDown l then s
    else if on then (s.setLn l { s.ln l with up := 0 }).rxGo l 0
    else (s.setLn l { s.ln l with up := 3 }).rxGo l 3) s

/-- A port's new rate sends the synthesiser of its quad through CAL (R392). -/
def State.synthRate (s : State) (lanes : List Nat) : State :=
  lanes.foldl (fun (s : State) (l : Nat) =>
    if s.synth (quadOf l) = 0 then s else s.setSynth (quadOf l) 1) s

/-- Whether a direction may be moved to a state in the present mode (R142): STANDBY allows L2 and OFF, HOLDUP OFF. -/
def State.ceiling (s : State) (st : Nat) : Bool :=
  if s.pmode = 3 then decide (2 ≤ st) else if s.pmode = 4 then st == 3 else true

/-- The highest state a direction may keep under a mode's ceiling, and the move of both directions there. A held command is
cancelled (R142, R372). [Log 47 DESIGN CHOICE] -/
def State.laneFloor (s : State) (st l : Nat) : State :=
  if !s.laneHere l then s
  else
    let s := s.heldCancel l
    let s := if s.txOf l < st then s.txGo l st else s
    let s := if (s.ln l).up < st then s.setLn l { s.ln l with up := st } else s
    if s.rxOf l < st then s.rxGo l st else s

/-- Every lane falls to a ceiling. -/
def State.lanesFloor (s : State) (st : Nat) : State := (List.range 24).foldl (State.laneFloor · st) s

/-- The direction states at this moment, by lane: receive, transmit and uplink in one number each (R142). -/
def State.laneStates (s : State) : List (Nat × Nat) :=
  (List.range 24).map (fun l => (s.rxOf l, s.txOf l + 4 * (s.ln l).up))

/-- The exit returns each direction to the state it held (R142). -/
def State.lanesBack (s : State) (old : List (Nat × Nat)) : State :=
  old.zipIdx.foldl (fun (s : State) (p : (Nat × Nat) × Nat) =>
    let l := p.2
    if !s.laneHere l then s
    else
      let s := s.setLn l { s.ln l with up := p.1.2 / 4 }
      let s := if p.1.1 < s.rxOf l then s.rxGo l p.1.1 else s
      if p.1.2 % 4 < s.txOf l then s.txCmd l (p.1.2 % 4) else s) s

/-- The counters of a locked checker have moved on by what the line carried: free numbers, no more errors than bits.
[Log 15 DESIGN CHOICE] -/
def State.prbsSync (s : State) (l : Nat) : State :=
  if s.bit (R.LANE_PRBS_LOCK l) then
    let (b, s) := s.fresh
    let (e, s) := s.fresh
    let n := s.pair (R.LANE_PRBS_BITS_LO_BITS_LO l) (R.LANE_PRBS_BITS_HI_BITS_HI l)
    let s := s.setPair (R.LANE_PRBS_BITS_LO_BITS_LO l) (R.LANE_PRBS_BITS_HI_BITS_HI l) (min (n + b) (2 ^ 64 - 1))
    s.inc (R.LANE_PRBS_ERR_ERR l) (e % (b + 1))
  else s

end Sys2Proof.Machine
end

