-- ==== Sys2Proof/Machine/Module.lean ====
section
/-! DEFINITION. Module: supplies, the hold-up bank's readings, PoCXP, relays, discrete-input configuration,
LINE_STOP's hold and the thermal throttle (chapter 02). -/

namespace Sys2Proof.Machine

/-- Reports an eject-area module status, to both LAST_STS fields (R110). -/
def State.reportEject (s : State) (sts detail : Nat) : State :=
  (s.setF R.PWR_MOD_STATUS_LAST_STS sts).motReport R.EJ_POL_STATUS_LAST_STS sts detail

/-! ## LINE_STOP's hold (R82) -/

/-- Releases LINE_STOP. -/
def State.lineRelease (s : State) : State :=
  { s.setB R.EJ_LSTOP_ASSERTED false with pwr.relPend := false, pwr.holdEnd := none }

/-- The hold of the reset assertion starts when bring-up ends (R82). -/
def State.holdStart (s : State) : State :=
  if s.bit R.EJ_LSTOP_ASSERTED then { s with pwr.holdEnd := some s.holdFrom, pwr.relPend := false } else s

/-- A hold goes on: its end has not come. -/
def State.holding (s : State) : Bool :=
  match s.pwr.holdEnd with
  | some t => decide (s.now < t)
  | none => false

/-- HOLD_MS has passed since the last assertion: a pending release or AUTO_REL releases. -/
def State.holdExpire (s : State) : State :=
  if s.pwr.holdEnd.isNone || s.holding || !s.bit R.EJ_LSTOP_ASSERTED then s
  else if s.pwr.relPend || s.bit R.EJ_LSTOP_AUTO_REL then s.lineRelease
  else { s with pwr.holdEnd := none }

/-- A write of EJ_LSTOP: its RW fields, then RELEASE, at once after the hold and pending during it. AUTO_REL
written after the hold releases. -/
def State.writeLstop (s : State) (v : Nat) : State :=
  let keep := s.fld R.EJ_LSTOP_ASSERTED
  let s := s.wr R.EJ_LSTOP (BitVec.ofNat 32 (v &&& R.EJ_LSTOP.rw))
  let s := s.setF R.EJ_LSTOP_ASSERTED keep
  if keep = 0 then s
  else if R.EJ_LSTOP_RELEASE.of v = 1 then
    if s.holding then { s with pwr.relPend := true } else s.lineRelease
  else if s.bit R.EJ_LSTOP_AUTO_REL && !s.holding then s.lineRelease
  else s

/-! ## Readings and the bank (R78, R111 to R113) -/

/-- The delivered-energy estimate of R78, in mJ, from the capacitance in µF and the bank in mV. -/
def energyMj (cap mv : Nat) : Nat :=
  if mv < 18000 then 0 else 44 * cap * (mv * mv - 324000000) / 100000000000

/-- Carries out the oldest deferred operation once the check passes (R710): a waiting write of the boot
configuration ends here, a page is programmed, and the command that ends another region's write may come. -/
def State.retryDeferred (s : State) (ok : Bool) : State :=
  if !s.jrn.deferring || !s.energyOk 15 then s
  else match s.jrn.reqs with
    | _ :: _ => State.cfgStores s.jrn.reqs.length s.deferEnd
    | [] => if s.jrn.flushWait then s.programNow ok else s.deferEnd

/-- The 1 ms update of the readings (R78, R111 to R113). VIN_LOW, VIN_HIGH and CHARGED follow the readings at this update.
[Log 73 DESIGN CHOICE] -/
def State.readings (s : State) (r : Readings) (ok : Bool) : State :=
  let s := s.setF R.PWR_VIN_VIN_MV (min r.vin 65535)
  let s := s.setF R.PWR_VCAM_VCAM_MV (min r.vcam 65535)
  let s := (s.setF R.PWR_VEJ_VEJ_A_MV (min r.vejA 65535)).setF R.PWR_VEJ_VEJ_B_MV (min r.vejB 65535)
  let s := s.setF R.PWR_POWER_PIN_DW (min r.pin 65535)
  let s := s.setF R.PWR_HOLDUP_VBANK_MV (min r.vbank 65535)
  let s := s.setF R.PWR_HOLDUP_E_MJ
    (min (energyMj (s.fld R.PWR_HOLDUP_CAP_CAP_UF) r.vbank) 65535)
  let s := (s.setF R.PWR_TEMP_TPLATE r.tplate).setF R.PWR_TEMP_TJ r.tj
  let s := s.setB R.PWR_MOD_STATUS_VIN_LOW (decide (r.vin < 19200))
  let s := s.setB R.PWR_MOD_STATUS_VIN_HIGH (decide (30000 < r.vin))
  let s := s.setB R.PWR_MOD_STATUS_CHARGED (decide (41000 ≤ r.vbank))
  s.retryDeferred ok

/-- The measured capacitance of the bank (R78). -/
def State.capMeasured (s : State) (uf : Nat) : State :=
  let s := s.setF R.PWR_HOLDUP_CAP_CAP_UF (min uf 65535)
  if uf < 1700 then s.report R.PWR_MOD_STATUS_LAST_STS 0xE802 0 else s

/-! ## PoCXP and encoder supplies (R90, R91, R110, R115) -/

/-- Starts detection on enabled lanes that a port uses, that are off and carry no fault (R90). -/
def State.pocxpDetect (s : State) (lanes : Nat) : State :=
  let faulted := s.fld R.PWR_POCXP_STS_FAULT
  let on := s.fld R.PWR_POCXP_STS_ON
  let m := (List.range 16).foldl (fun m l =>
    if lanes.testBit l && (s.fld R.PWR_POCXP_EN).testBit l && s.pwr.pocxpUsed.testBit l
        && !faulted.testBit l && !on.testBit l && decide (l < s.cxpLanes) then m ||| 2 ^ l else m) 0
  { s with pwr.pocxpDet := s.pwr.pocxpDet ||| m }

/-- Detection on a lane has ended (R90, R109). -/
def State.pocxpDone (s : State) (lane : Nat) (ok : Bool) : State :=
  if !s.pwr.pocxpDet.testBit lane then s
  else
    let s := { s with pwr.pocxpDet := s.pwr.pocxpDet - 2 ^ lane }
    if ok then s.setF R.PWR_POCXP_STS_ON (s.fld R.PWR_POCXP_STS_ON ||| 2 ^ lane)
    else (s.setF R.PWR_POCXP_STS_FAULT (s.fld R.PWR_POCXP_STS_FAULT ||| 2 ^ lane)).report
      R.PWR_MOD_STATUS_LAST_STS 0x3801 lane

/-- A position in limit for more than 1 ms is latched off (R90). -/
def State.pocxpOver (s : State) (lane : Nat) : State :=
  let on := s.fld R.PWR_POCXP_STS_ON
  if !on.testBit lane then s
  else
    let s := s.setF R.PWR_POCXP_STS_ON (on - 2 ^ lane)
    (s.setF R.PWR_POCXP_STS_FAULT (s.fld R.PWR_POCXP_STS_FAULT ||| 2 ^ lane)).report
      R.PWR_MOD_STATUS_LAST_STS 0x3802 lane

/-- The bits of `m` that are not in `c`. -/
def maskOff (m c : Nat) : Nat := m - (m &&& c)

/-- A write of PWR_POCXP_STS clears FAULT bits, and detection is tried again (R115). -/
def State.pocxpClear (s : State) (v : Nat) : State :=
  let c := R.PWR_POCXP_STS_FAULT.of v
  let was := s.fld R.PWR_POCXP_STS_FAULT
  (s.setF R.PWR_POCXP_STS_FAULT (maskOff was c)).pocxpDetect (was &&& c)

/-- A write of PWR_POCXP: a lane switched off loses power, a lane switched on is detected. -/
def State.pocxpEnable (s : State) (v : Nat) : State :=
  let v := v % 2 ^ s.cxpLanes
  let was := s.fld R.PWR_POCXP_EN
  let s := s.setF R.PWR_POCXP_EN v
  let s := s.setF R.PWR_POCXP_STS_ON (s.fld R.PWR_POCXP_STS_ON &&& v)
  { s with pwr.pocxpDet := s.pwr.pocxpDet &&& v }.pocxpDetect (maskOff v was)

/-- V_CAM below 21.6 V for 1 ms (R91). VCAM_LOW sets at this event, and not at a reading of the 1 ms update.
[Log 73 DESIGN CHOICE] -/
def State.vcamLow (s : State) : State :=
  let s := { (s.setB R.PWR_MOD_STATUS_VCAM_LOW true).setF R.PWR_POCXP_STS_ON 0 with pwr.pocxpDet := 0 }
  s.report R.PWR_MOD_STATUS_LAST_STS 0x3803 0

/-- ENC_5V of a channel in limit for 10 ms (R110). -/
def State.encSupplyFault (s : State) (ch : Nat) : State :=
  let was := s.fld R.PWR_ENC_SUP_FAULT
  if !(s.fld R.PWR_ENC_SUP_EN).testBit ch || was.testBit ch then s
  else (s.setF R.PWR_ENC_SUP_FAULT (was ||| 2 ^ ch)).report R.PWR_MOD_STATUS_LAST_STS 0x4801 ch

/-- The supply-low bit of an output's group: 0 for EJ0 to EJ7, 1 for EJ8 to EJ15 (R107). -/
def vejLowFld (group : Nat) : Fld :=
  if group = 0 then R.PWR_MOD_STATUS_VEJ_A_LOW else R.PWR_MOD_STATUS_VEJ_B_LOW

/-- Sets or clears the supply-low bit of a group. -/
def State.vejLowSet (s : State) (group : Nat) (low : Bool) : State :=
  if group = 0 then s.setB R.PWR_MOD_STATUS_VEJ_A_LOW low else s.setB R.PWR_MOD_STATUS_VEJ_B_LOW low

/-- A V_EJ group falls below 17.5 V: reported once for each fall (R107). -/
def State.vejLow (s : State) (group : Nat) : State :=
  if s.bit (vejLowFld group) then s
  else (s.vejLowSet group true).reportEject 0x5203 group

/-- A supply rises above its threshold again (R107, R112): 0 V_EJ_A, 1 V_EJ_B, 2 V_CAM. With V_CAM back, detection starts by
itself on every enabled lane. [Log 73 DESIGN CHOICE] -/
def State.supplyBack (s : State) (which : Nat) : State :=
  if which < 2 then s.vejLowSet which false
  else (s.setB R.PWR_MOD_STATUS_VCAM_LOW false).pocxpDetect (s.fld R.PWR_POCXP_EN)

/-! ## Relays and bypass switches (R92, R94, R110, R114) -/

/-- With the Ethernet relays back in bypass no port's PTP goes on (R354). -/
def State.ethFell (was : Bool) (s : State) : State :=
  if was && !s.pwr.ethDrive then (s.ptpPortDown 0).ptpPortDown 1 else s

/-- Drives the Ethernet relays and the ring switches while all the conditions of R92 and R94 hold. A relay or switch whose
position fault has been reported stays undriven, in bypass, until the next start (R110).
[Log 20 DESIGN CHOICE, 73 DESIGN CHOICE] -/
def State.relays (s : State) : State :=
  let good := s.pwr.vinGood && !s.pwr.inReset && !s.pwr.lost && (s.bootState == 1 || s.bootState == 2)
  { s with
    pwr.ethDrive := good && !s.pwr.ethFault && s.boot.phyStart == 3 && s.bit R.PWR_RELAY_ETH_INSERT
    pwr.ringDrive := good && !s.pwr.ringFault && s.bit R.RING_STATUS_LOCAL_READY && s.pwr.heartbeat
      && s.bit R.PWR_RELAY_RING_INSERT }.ethFell s.pwr.ethDrive

/-- A drive condition has ended: drives only fall (R94, R103). -/
def State.relaysFall (s : State) : State :=
  let t := s.relays
  { s with
    pwr.ethDrive := s.pwr.ethDrive && t.pwr.ethDrive
    pwr.ringDrive := s.pwr.ringDrive && t.pwr.ringDrive }.ethFell s.pwr.ethDrive

/-- A write of PWR_RELAY (R114). -/
def State.relayRequest (s : State) (v : Nat) : State :=
  let s := s.setF R.PWR_RELAY_ETH_INSERT (R.PWR_RELAY_ETH_INSERT.of v)
  let s := if s.hasRing then s.setF R.PWR_RELAY_RING_INSERT (R.PWR_RELAY_RING_INSERT.of v) else s
  s.relays

/-- The sensed position is compared with the drive 10 ms after a change (R110). -/
def State.positionCheck (s : State) (ring : Bool) : State :=
  if ring then
    if s.bit R.PWR_RELAY_RING_POS == s.pwr.ringDrive then s
    else { s with pwr.ringDrive := false, pwr.ringFault := true }.report R.PWR_MOD_STATUS_LAST_STS 0x7801 0
  else
    if s.bit R.PWR_RELAY_ETH_POS == s.pwr.ethDrive then s
    else ({ s with pwr.ethDrive := false, pwr.ethFault := true }.ethFell s.pwr.ethDrive).report R.PWR_MOD_STATUS_LAST_STS 0x6801 0

/-! ## Discrete inputs and temperature -/

/-- MOT_DI_STS.LEVEL follows the raw qualified levels and POL (R116, R726). -/
def State.diLevels (s : State) : State :=
  s.setF R.MOT_DI_STS_LEVEL (s.pwr.diRaw ^^^ s.fld R.MOT_DI_CFG_POL)

/-- The CORE clock takes its throttled or full frequency when it is clocked (R130, R148). -/
def State.coreClock (s : State) : State :=
  let t := s.bit R.PWR_MOD_STATUS_THROTTLE
  (s.setB R.CLK_CORE_THROTTLED t).setF R.CLK_CORE_CORE_MHZ (if t then 750 else 1000)

/-- TJ reaches THROTTLE (R100). -/
def State.throttleOn (s : State) : State :=
  if s.bit R.PWR_MOD_STATUS_THROTTLE then s
  else
    let s := (s.setB R.PWR_MOD_STATUS_THROTTLE true).setB R.SCHED_STATUS_THROTTLE true
    let s := if s.clocked 8 then s.coreClock else s
    let s := s.timing R.SYS_REPRO_STATUS_T_THROTTLE (some R.MESH_TW_FLAGS_THROTTLE)
    s.report R.PWR_MOD_STATUS_LAST_STS 0x1802 0

/-- TJ falls below THROTTLE − 5 °C. -/
def State.throttleOff (s : State) : State :=
  let s := (s.setB R.PWR_MOD_STATUS_THROTTLE false).setB R.SCHED_STATUS_THROTTLE false
  if s.clocked 8 then s.coreClock else s

/-! ## The commands -/

/-- VIN_SHORT_DIP (R112). -/
def execVinShortDip (s : State) : Res := .next (s.setB R.PWR_MOD_STATUS_LOSS_SEEN true)

/-- THERMAL_THROTTLE_START (R100, R130, R148). -/
def execThermalThrottleStart (s : State) : Res := .next s.throttleOn

/-- THERMAL_THROTTLE_END (R100, R130). -/
def execThermalThrottleEnd (s : State) : Res := .next s.throttleOff

/-- HOLDUP_ESTIMATE_TICK (R78, R111, R710). -/
def execHoldupEstimateTick (r : Readings) (ok : Bool) (s : State) : Res := .next (s.readings r ok)

/-- HOLDUP_CAP_MEASURED (R78). -/
def execHoldupCapMeasured (uf : Nat) (s : State) : Res := .next (s.capMeasured uf)

/-- POCXP_DETECT_DONE (R90, R109). -/
def execPocxpDetectDone (lane : Nat) (found : Bool) (s : State) : Res := .next (s.pocxpDone lane found)

/-- POCXP_OVERCURRENT (R90). -/
def execPocxpOvercurrent (lane : Nat) (s : State) : Res := .next (s.pocxpOver lane)

/-- POCXP_FAULT_CLEAR (R115): a write of PWR_POCXP_STS. -/
def execPocxpFaultClear (value : Nat) (s : State) : Res :=
  .next (s.regWrite R.PWR_POCXP_STS value (·.pocxpClear value))

/-- VCAM_LOW (R91). -/
def execVcamLow (s : State) : Res := .next s.vcamLow

/-- ENC_SUPPLY_FAULT (R110). -/
def execEncSupplyFault (chan : Nat) (s : State) : Res := .next (s.encSupplyFault chan)

/-- VEJ_SUPPLY_LOW (R107). -/
def execVejSupplyLow (group : Nat) (s : State) : Res := .next (s.vejLow group)

/-- SUPPLY_LOW_CLEARED (R107, R112). -/
def execSupplyLowCleared (which : Nat) (s : State) : Res := .next (s.supplyBack which)

/-- HEARTBEAT_LOSS (R94, R103): the ring switches are released. A heartbeat that is lost stays lost until the next cold
start. [Log 73 DESIGN CHOICE] -/
def execHeartbeatLoss (s : State) : Res := .next ({ s with pwr.heartbeat := false }.relaysFall)

/-- RELAY_POSITION_CHECK (R110). -/
def execRelayPositionCheck (ring : Bool) (s : State) : Res := .next (s.positionCheck ring)

/-- RELAY_REQUEST_WRITE (R114): a write of PWR_RELAY. -/
def execRelayRequestWrite (value : Nat) (s : State) : Res :=
  .next (s.regWrite R.PWR_RELAY value (·.relayRequest value))


/-- LSTOP_HOLD_EXPIRY (R82). -/
def execLstopHoldExpiry (s : State) : Res := .next s.holdExpire

/-- LSTOP_RELEASE (R82): a write of EJ_LSTOP. -/
def execLstopRelease (value : Nat) (s : State) : Res :=
  .next (s.regWrite R.EJ_LSTOP value (·.writeLstop value))

end Sys2Proof.Machine
end

