-- ==== Sys2Proof/Machine/Eject.lean ====
section
/-! DEFINITION. Eject: the ejector engine (R304 to R314): arming, the count and time lists, pulses, re-arm, flush,
and the eject log. -/

namespace Sys2Proof.Machine

/-! ## Outputs and their registers -/

/-- Pulse states (R308). -/
def ejIdle : Nat := 0
def ejDelay : Nat := 1
def ejOn : Nat := 2
def ejGap : Nat := 3

/-- An output, and putting it back with its registers refreshed. -/
def State.ej (s : State) (n : Nat) : EjOut := s.mot.outs.getD n {}

/-- The channel an output takes its count keys from (R306). -/
def State.ejChan (s : State) (n : Nat) : Nat := s.fld (R.EJ_OUT_CFG_CHAN n)

/-- The pulse state of an output. -/
def State.ejSt (s : State) (n : Nat) : Nat := s.fld (R.EJ_OUT_STATUS_STATE n)

/-- The entries queued on an output, held ones included (R318). -/
def EjOut.fill (x : EjOut) : Nat := x.counts.length + x.times.length + x.held.length

/-- Puts an output back and refreshes FILL, HELD and the head key (R328). -/
def State.setEj (s : State) (n : Nat) (x : EjOut) : State :=
  let s := { s with mot.outs := setAt s.mot.outs n x }
  let s := (s.setF (R.EJ_OUT_STATUS_FILL n) x.fill).setF (R.EJ_OUT_STATUS_HELD n) x.held.length
  match x.counts with
  | [] => ((s.setF (R.EJ_OUT_HEAD_LO_HEAD_LO n) 0).setF (R.EJ_OUT_HEAD_HI_HEAD_HI n) 0).setB (R.EJ_OUT_HEAD_HI_VALID n) false
  | h :: _ => ((s.setF (R.EJ_OUT_HEAD_LO_HEAD_LO n) h.key).setF (R.EJ_OUT_HEAD_HI_HEAD_HI n) (h.key / 2 ^ 32)).setB
      (R.EJ_OUT_HEAD_HI_VALID n) true

/-- Puts an output into a pulse state. -/
def State.ejGo (s : State) (n st : Nat) : State := s.setF (R.EJ_OUT_STATUS_STATE n) st

/-- The output and the engine are enabled (R311). -/
def State.ejEnabled (s : State) (n : Nat) : Bool := s.bootState != 3 && s.bit R.EJ_CTRL_EN && s.bit (R.EJ_OUT_CFG_EN n)

/-! ## The eject log (R313, R314) -/

/-- The eject-log entry of an arm entry that leaves its queue. -/
def ejEntry (n : Nat) (a : ArmEnt) (outcome e ns : Nat) : List Byte :=
  leBytes 4 a.seq ++ leBytes 1 n ++ leBytes 1 a.gate ++ leBytes 1 outcome ++ leBytes 1 a.flags ++ leBytes 6 a.key
    ++ leBytes 1 a.verdict ++ [0] ++ leBytes 6 e ++ [0, 0] ++ leBytes 8 ns

/-- Writes an eject-log entry; overwriting one not yet journalled is a loss, told at each 1,024. -/
def State.ejLog (s : State) (b : List Byte) : State :=
  let t := s.mot.log.total
  let lost := decide (s.jrn.tailSent + 1024 ≤ t)
  let s := { s with mot.log.ents := Sparse.put s.mot.log.ents (t % 1024) b [], mot.log.total := t + 1 }
  let s := s.setF R.EJ_LOG_TAIL_TAIL (t + 1)
  if lost then
    let s := { s with mot.log.lost := s.mot.log.lost + 1, jrn.tailSent := s.jrn.tailSent + 1 }.inc R.EJ_LOG_LOST_LOST
    if s.mot.log.lost % 1024 = 0 then s.ejReport 0x5006 0 else s
  else s

/-- The counter of an outcome (R328). -/
def State.ejCount (s : State) (n outcome : Nat) : State :=
  match outcome with
  | 1 => s.inc (R.EJ_OUT_CNT_FIRED_COUNT n)
  | 2 => s.inc (R.EJ_OUT_CNT_FIRED_COUNT n)
  | 3 => s.inc (R.EJ_OUT_CNT_COALESCED_COUNT n)
  | 4 => s.inc (R.EJ_OUT_CNT_EXTENDED_COUNT n)
  | 5 => s.inc (R.EJ_OUT_CNT_DEFERRED_COUNT n)
  | 6 => s.inc (R.EJ_OUT_CNT_SKIPPED_COUNT n)
  | _ => s

/-- An entry leaves its queue with an outcome that starts no pulse: logged in this cycle. -/
def State.ejLeave (s : State) (n : Nat) (a : ArmEnt) (outcome : Nat) : State :=
  (s.ejCount n outcome).ejLog (ejEntry n a outcome (s.eOf (s.ejChan n)) s.motNow)

/-! ## Inserting (R305) -/

/-- Inserts into the count list, ordered by key − E, equal keys in the order of insertion. -/
def countInsert (e : Nat) (a : ArmEnt) : List ArmEnt → List ArmEnt
  | [] => [a]
  | x :: l => if d48 a.key e < d48 x.key e then a :: x :: l else x :: countInsert e a l

/-- Inserts into the time list, ordered by key. -/
def timeInsert (a : ArmEnt) : List ArmEnt → List ArmEnt
  | [] => [a]
  | x :: l => if a.key < x.key then a :: x :: l else x :: timeInsert a l

/-- Writes an entry into an output's queue; HELD is set at once on a backward channel (R314). -/
def State.ejInsert (s : State) (n : Nat) (a : ArmEnt) : State :=
  let x := s.ej n
  let c := s.ejChan n
  let a := if s.backward c then { a with flags := a.flags ||| 64 } else a
  if a.time then s.setEj n { x with times := timeInsert a x.times }
  else s.setEj n { x with counts := countInsert (s.eOf c) a x.counts }

/-- Sets flag bits on the entries of an output for which `p` holds. -/
def EjOut.mark (x : EjOut) (p : ArmEnt → Bool) (bits : Nat) : EjOut :=
  let f := fun (a : ArmEnt) => if p a then { a with flags := a.flags ||| bits } else a
  { x with counts := x.counts.map f, times := x.times.map f, held := x.held.map (fun h => { h with ent := f h.ent }) }

/-- A channel becomes backward: the entries armed on it carry HELD. -/
def State.ejBackward (s : State) (c : Nat) : State :=
  { s with mot.outs := s.mot.outs.mapIdx (fun n x => if s.ejChan n = c then x.mark (fun _ => true) 64 else x) }

/-- A track is marked position suspect: its entries that are still in a queue carry the flag (R50, R314).
[Log 37 DESIGN CHOICE] -/
def State.ejSuspect (s : State) (slot seq : Nat) : State :=
  { s with mot.outs := s.mot.outs.map (fun x =>
      x.mark (fun a => a.gate != 0xFF && a.slot == slot && a.seq == seq) 1) }

/-! ## Pulses (R308, R309, R311) -/

/-- The key of an entry as a count: a time-keyed entry uses E when it fell due (R308). -/
def ArmEnt.cnt (a : ArmEnt) (e : Nat) : Nat := if a.time then e else a.key % 2 ^ 48

/-- The width of a microsecond pulse, in ns. -/
def State.ejWidthNs (s : State) (n : Nat) : Nat := 1000 * max 40 (s.fld (R.EJ_OUT_WIDTH_WIDTH n))

/-- Group of an output: EJ0 to EJ7, or EJ8 to EJ15. -/
def ejGroupLow (s : State) (n : Nat) : Bool :=
  if n < 8 then s.bit R.PWR_MOD_STATUS_VEJ_A_LOW else s.bit R.PWR_MOD_STATUS_VEJ_B_LOW

/-- Adds flags to the entry whose pulse runs. -/
def State.ejCurFlags (s : State) (n bits : Nat) : State :=
  let x := s.ej n
  match x.cur with
  | some c => s.setEj n { x with cur := some { c with ent := { c.ent with flags := c.ent.flags ||| bits } } }
  | none => s

/-- Commands an output on: it energises unless it is latched off, its supply is low, or the reset pin is low; a latched
or unsupplied one is logged so and reads back off (R84, R106, R107). -/
def State.ejTurnOn (s : State) (n : Nat) : State :=
  let x := s.ej n
  let latched := (s.fld R.EJ_OUT_STS_OVERCURRENT).testBit n
  let low := ejGroupLow s n
  let x := { x with
    cur := x.cur.map (fun c => { c with ns := s.motNow })
    endAt := max (s.now + s.ejWidthNs n) x.extTo, extTo := 0, onAt := s.now
    on := !latched && !low && !s.pwr.nrstLow, checks := x.checks ++ [{ on := true, due := s.now + 50000 }] }
  let s := (s.setEj n x).ejGo n ejOn
  let s := s.emit (.eject n true)
  s.ejCurFlags n ((if latched then 4 else 0) + (if low then 8 else 0))

/-- The first due entry of an idle output starts a pulse (R308); one armed late counts as a late entry fired (R71). `e` is E
when it fell due. -/
def State.ejStart (s : State) (n : Nat) (a : ArmEnt) (outcome e : Nat) : State :=
  let s := s.total 7
  let s := if a.late then s.inc R.EJ_FIRE_LATE_CNT_FIRE_LATE else s
  let x := s.ej n
  let endc := if s.bit (R.EJ_OUT_CFG_WIDTH_CNT n) then some ((a.cnt e + s.fld (R.EJ_OUT_WIDTH_WIDTH n)) % 2 ^ 48) else none
  let delay := s.fld (R.EJ_OUT_TIMING_ON_DELAY_US n)
  let c : CurEnt := ⟨a, outcome, s.eOf (s.ejChan n), s.motNow⟩
  let s := s.setEj n { x with cur := some c, endCnt := endc, extTo := 0, endAt := s.now + 1000 * delay }
  if delay = 0 then s.ejTurnOn n else s.ejGo n ejDelay

/-- Logs the entry whose pulse has ended (R313); a readback check of its on-edge that is still due keeps its number.
[Log 39 DESIGN CHOICE] -/
def State.ejCurLog (s : State) (n : Nat) (outcome : Option Nat) (bits : Nat) : State :=
  let x := s.ej n
  match x.cur with
  | some c =>
    let o := outcome.getD c.outcome
    let s := s.setEj n { x with
      cur := none, endCnt := none, extTo := 0
      checks := x.checks.map (fun k => if k.on && k.entry.isNone then { k with entry := some s.mot.log.total } else k) }
    (s.ejCount n o).ejLog (ejEntry n { c.ent with flags := c.ent.flags ||| bits } o c.e c.ns)
  | none => s

/-- Commands an output off. -/
def State.ejOff (s : State) (n : Nat) : State :=
  let x := s.ej n
  (s.setEj n { x with on := false, checks := x.checks ++ [{ on := false, due := s.now + 50000 }] }).emit (.eject n false)

/-- A pulse that is ON ends and passes to GAP. -/
def State.ejPulseEnd (s : State) (n : Nat) (maxOn : Bool) : State :=
  let s := (s.ejOff n).ejCurLog n none (if maxOn then 128 else 0)
  let s := s.setEj n { s.ej n with endAt := s.now + 1000 * s.fld (R.EJ_OUT_TIMING_MIN_OFF_US n) }
  let s := s.ejGo n ejGap
  if maxOn then s.ejReport 0x5001 n else s

/-- The pulse of a disabled output ends straight to IDLE: FIRED if it had turned on, SKIPPED from DELAY (R311). -/
def State.ejCut (s : State) (n : Nat) : State :=
  let st := s.ejSt n
  let s := if st = ejOn then (s.ejOff n).ejCurLog n none 0 else if st = ejDelay then s.ejCurLog n (some 6) 0 else s
  s.ejGo n ejIdle

/-! ## Due entries (R308, R310, R311) -/

/-- An entry that falls due. `held` tells a held entry, whose output is idle; `e` is E when it fell due. One armed late is
reported when it falls due, whatever becomes of it (R52). [Log 39 DESIGN CHOICE] -/
def State.ejTake (s : State) (n : Nat) (a : ArmEnt) (held : Bool) (e : Nat) : State :=
  if !s.ejEnabled n then (s.ejLeave n a 6).ejReport 0x5004 n
  else
    let s := if a.late && !held then s.ejReport 0x5103 n else s
    if s.ejSt n = ejIdle then s.ejStart n a (if held then 5 else if a.late then 2 else 1) e
    else
      let rearm := s.fld (R.EJ_OUT_CFG_REARM n)
      let x := s.ej n
      if s.ejSt n = ejGap ∨ rearm = 2 then s.setEj n { x with held := x.held ++ [⟨a, s.now, e⟩] }
      else if rearm = 0 then s.ejLeave n a 3
      else
        let w := s.fld (R.EJ_OUT_WIDTH_WIDTH n)
        let s := match x.endCnt with
          | some c =>
            let k := (a.cnt e + w) % 2 ^ 48
            if 0 < d48 k c then s.setEj n { x with endCnt := some k } else s
          | none =>
            let k := s.now + 1000 * s.fld (R.EJ_OUT_TIMING_ON_DELAY_US n) + s.ejWidthNs n
            if s.ejSt n = ejOn then s.setEj n { x with endAt := max x.endAt k } else s.setEj n { x with extTo := max x.extTo k }
        s.ejLeave n a 4

/-- Takes due count heads; at most `k` of them. Entries written in this cycle are not compared yet (R304). -/
def State.ejCounts (n : Nat) : Nat → State → State
  | 0, s => s
  | k + 1, s =>
    let x := s.ej n
    let e := s.eOf (s.ejChan n)
    match x.counts.find? (fun a => !a.fresh && reached e a.key) with
    | some a => State.ejCounts n k ((s.setEj n { x with counts := x.counts.erase a }).ejTake n a false e)
    | none => s

/-- Takes due time heads. -/
def State.ejTimes (n : Nat) : Nat → State → State
  | 0, s => s
  | k + 1, s =>
    let x := s.ej n
    match x.times.find? (fun a => !a.fresh && decide (a.key ≤ s.motNow)) with
    | some a => State.ejTimes n k ((s.setEj n { x with times := x.times.erase a }).ejTake n a false (s.eOf (s.ejChan n)))
    | none => s

/-- Starts the oldest held entry of an idle output. -/
def State.ejHeld (s : State) (n : Nat) : State :=
  let x := s.ej n
  match x.held with
  | h :: l => if s.ejSt n = ejIdle then (s.setEj n { x with held := l }).ejTake n h.ent true h.e else s
  | [] => s

/-- Starts held entries while the output is idle: each in turn, until one starts a pulse. -/
def State.ejHeldAll (s : State) (n : Nat) : State :=
  (List.range (s.ej n).held.length).foldl (fun (s : State) (_ : Nat) => s.ejHeld n) s

/-- A count pulse whose end count E has reached ends once it has lasted 40 µs (R308). -/
def State.ejEndCount (s : State) (n : Nat) : State :=
  let x := s.ej n
  match x.endCnt with
  | some c =>
    if s.ejSt n = ejOn ∧ reached (s.eOf (s.ejChan n)) c ∧ x.onAt + 40000 ≤ s.now then s.ejPulseEnd n false else s
  | none => s

/-- One MOTION cycle of an output: end conditions, then due heads, counts first. After input loss nothing starts. -/
def State.ejCycle (s : State) (n : Nat) : State :=
  let s := s.ejEndCount n
  if s.pwr.lost then s
  else
    let s := State.ejCounts n (s.ej n).counts.length s
    State.ejTimes n (s.ej n).times.length s

/-- The entries written in the last cycle are compared from now on. -/
def EjOut.age (x : EjOut) : EjOut :=
  { x with counts := x.counts.map (fun a => { a with fresh := false }), times := x.times.map (fun a => { a with fresh := false }) }

/-- The outputs of a MOTION cycle, and of the following one, in which entries written in it are compared. -/
def State.ejAll (s : State) : State :=
  let ns := List.range s.ejOuts
  let s := ns.foldl State.ejCycle s
  let s := { s with mot.outs := s.mot.outs.map EjOut.age }
  ns.foldl State.ejCycle s

/-! ## Arming by command or by a gill (R307) -/

/-- What becomes of an arm: none where it is inserted, or the status that refuses it. -/
def State.armJudge (s : State) (n : Nat) (time : Bool) (key : Nat) : Option Nat :=
  if 256 ≤ (s.ej n).fill then some 0x5102
  else if (if time then decide (key ≤ s.motNow) else reached (s.eOf (s.ejChan n)) key) then some 0x5104
  else none

/-- Arms an entry by EJ_ARM_CMD (`cmd`) or by a gill; an absent output ignores it (R17). A refusal for a full queue is no
overflow of a decision, and EJ_OVF_CNT does not count it. [Log 76 DESIGN CHOICE] -/
def State.armManual (s : State) (n : Nat) (time : Bool) (key seq : Nat) (cmd : Bool) : State :=
  if s.ejOuts ≤ n then s
  else
    let key := if time then key else key % 2 ^ 48
    match s.armJudge n time key with
    | some sts =>
      let s := s.ejReport sts n
      if cmd then (s.setF R.EJ_ARM_STATUS_LAST_STS sts).setB R.EJ_ARM_STATUS_ACCEPTED false else s
    | none =>
      let s := s.ejInsert n { key := key, time := time, seq := seq, flags := 32 + (if time then 16 else 0) }
      let s := if cmd then (s.setF R.EJ_ARM_STATUS_LAST_STS 0).setB R.EJ_ARM_STATUS_ACCEPTED true else s
      s.ejAll

/-! ## The commands of the engine -/

/-- A write of EJ_ARM_CMD. -/
def State.writeArm (s : State) (v : Nat) : State :=
  let s := s.wr R.EJ_ARM_CMD (BitVec.ofNat 32 (v &&& R.EJ_ARM_CMD.rw))
  if R.EJ_ARM_CMD_GO.of v = 0 then s
  else s.armManual (R.EJ_ARM_CMD_OUT.of v) (R.EJ_ARM_CMD_TIME.of v == 1)
    (s.fld R.EJ_ARM_KEY_LO_KEY_LO + 2 ^ 32 * s.fld R.EJ_ARM_KEY_HI_KEY_HI) (s.fld R.EJ_ARM_SEQ_SEQ) true

/-- ON_DELAY_US has passed. After input loss the output does not turn on (R311). -/
def State.delayEnd (s : State) (n : Nat) : State :=
  if s.ejSt n = ejDelay ∧ n < s.ejOuts then
    if s.pwr.lost then s.ejCut n
    else if (s.ej n).endAt ≤ s.now then (s.ejTurnOn n).ejAll else s
  else s

/-- The width has passed. -/
def State.widthEnd (s : State) (n : Nat) : State :=
  if s.ejSt n = ejOn ∧ n < s.ejOuts then
    match (s.ej n).endCnt with
    | some _ => (s.ejEndCount n).ejAll
    | none => if (s.ej n).endAt ≤ s.now then (s.ejPulseEnd n false).ejAll else s
  else s

/-- The GAP is over: a held entry starts, else the output is idle. -/
def State.gapEnd (s : State) (n : Nat) : State :=
  if s.ejSt n = ejGap ∧ n < s.ejOuts ∧ (s.ej n).endAt ≤ s.now then
    let s := s.ejGo n ejIdle
    if s.pwr.lost then s else (s.ejHeldAll n).ejAll
  else s

/-- MAX_ON_MS without a break (R309). -/
def State.maxOn (s : State) (n : Nat) : State :=
  if s.ejSt n = ejOn ∧ n < s.ejOuts ∧ (s.ej n).onAt + 1000000 * s.fld (R.EJ_OUT_LIMIT_MAX_ON_MS n) ≤ s.now then
    (s.ejPulseEnd n true).ejAll
  else s

/-- Held entries that have waited DEFER_MAX_MS are discarded (R310). -/
def State.deferExpired (s : State) (n : Nat) : State :=
  let x := s.ej n
  let lim := 1000000 * s.fld (R.EJ_OUT_LIMIT_DEFER_MAX_MS n)
  let s := s.setEj n { x with held := x.held.filter (fun h => decide (s.now < h.due + lim)) }
  (x.held.filter (fun h => decide (h.due + lim ≤ s.now))).foldl (fun (s : State) (h : HeldEnt) =>
    (s.ejLeave n h.ent 6).ejReport 0x5002 n) s

/-- A write of EJ_CTRL (R311). -/
def State.writeEjCtrl (s : State) (v : Nat) : State :=
  let s := s.wr R.EJ_CTRL (BitVec.ofNat 32 (v &&& R.EJ_CTRL.rw))
  if s.bit R.EJ_CTRL_EN then s.ejAll else (List.range s.ejOuts).foldl (fun (s : State) (n : Nat) => (s.ejCut n).ejHeldAll n) s

/-- A write of EJ_OUT_CFG. -/
def State.writeOutCfg (s : State) (n v : Nat) : State :=
  let r := R.EJ_OUT_CFG n
  let ch := s.ejChan n
  let s := (s.wr r (BitVec.ofNat 32 (v &&& r.rw))).setF (R.EJ_OUT_CFG_CHAN n) ch
  if s.bit (R.EJ_OUT_CFG_EN n) then s else (s.ejCut n).ejHeldAll n

/-- A write of EJ_OUT_CTRL (R312): every entry leaves, logged FLUSHED; one report. -/
def State.writeFlush (s : State) (n v : Nat) : State :=
  if (R.EJ_OUT_CTRL_FLUSH n).of v = 0 then s
  else
    let x := s.ej n
    let l := x.counts ++ x.times ++ x.held.map (·.ent)
    let s := s.setEj n { x with counts := [], times := [], held := [] }
    (l.foldl (fun (s : State) (a : ArmEnt) => s.ejLeave n a 7) s).ejReport 0x5005 (min l.length 65535)

/-- A read of EJ_LOG_DATA0: the selected entry goes to the shadow (R330). -/
def State.ejLogRead (s : State) : State :=
  let b := Sparse.get s.mot.log.ents (s.fld R.EJ_LOG_SEL_INDEX) []
  let s := (List.range 8).foldl (fun (s : State) (k : Nat) => s.setF (R.EJ_LOG_DATA_DATA k) (leAt b (4 * k) 4)) s
  { s with bus.data := leAt b 0 4 }

/-- Sets READBACK in an eject-log entry that has been written, while the log still holds it. [Log 39 DESIGN CHOICE] -/
def State.ejLogFlag (s : State) (k : Nat) : State :=
  let b := Sparse.get s.mot.log.ents (k % 1024) []
  if k + 1024 < s.mot.log.total then s
  else { s with mot.log.ents := Sparse.put s.mot.log.ents (k % 1024) (b.set 7 (b.getD 7 0 ||| 2)) [] }

/-- The output level 50 µs after an edge, compared with the command (R83, R106 to R108): each edge has a check of its own,
in the order of the edges. `level` is what reads back; `open_` says that the current stayed below 5 mA for the whole of the
pulse that has ended. -/
def State.readback (s : State) (n : Nat) (level open_ : Bool) : State :=
  let x := s.ej n
  match x.checks with
  | [] => s
  | k :: l =>
    if s.now < k.due then s
    else
      let s := s.setEj n { x with checks := l }
      let s := if open_ && !k.on then
          (s.setF R.EJ_OUT_STS_OPEN_LOAD (s.fld R.EJ_OUT_STS_OPEN_LOAD ||| 2 ^ n)).reportEject 0x5202 n
        else s
      if level = k.on then s
      else if k.on then
        let s := match k.entry with
          | some i => s.ejLogFlag i
          | none => s.ejCurFlags n 2
        s.reportEject 0x5204 n
      else
        let s := s.reportEject 0x5204 n
        if s.bit R.EJ_LSTOP_MISMATCH_STOP then s.lineStop else s

/-! ## The commands -/

/-- ARM_COMMAND (R307): a write of EJ_ARM_CMD. -/
def execArmCommand (value : Nat) (s : State) : Res := .next (s.regWrite R.EJ_ARM_CMD value (·.writeArm value))

/-- TIME_ENTRY_DUE (R308): the outputs take their due heads. -/
def execTimeEntryDue (s : State) : Res := .next s.ejAll

/-- DELAY_END (R308). -/
def execDelayEnd (out : Nat) (s : State) : Res := .next (s.delayEnd out)

/-- PULSE_END (R308). -/
def execPulseEnd (out : Nat) (s : State) : Res := .next (s.widthEnd out)

/-- GAP_END (R308, R310). -/
def execGapEnd (out : Nat) (s : State) : Res := .next (s.gapEnd out)

/-- MAX_ON (R309). -/
def execMaxOn (out : Nat) (s : State) : Res := .next (s.maxOn out)

/-- DEFER_EXPIRED (R310). -/
def execDeferExpired (out : Nat) (s : State) : Res := .next (if out < s.ejOuts then s.deferExpired out else s)

/-- EJ_CTRL_WRITE (R311): a write of EJ_CTRL. -/
def execEjCtrlWrite (value : Nat) (s : State) : Res := .next (s.regWrite R.EJ_CTRL value (·.writeEjCtrl value))

/-- OUT_CFG_WRITE (R311): a write of EJ_OUT_CFG. -/
def execOutCfgWrite (out value : Nat) (s : State) : Res :=
  .next (if out < 16 then s.regWrite (R.EJ_OUT_CFG out) value (·.writeOutCfg out value) else s)

/-- FLUSH (R312): a write of EJ_OUT_CTRL. -/
def execFlush (out value : Nat) (s : State) : Res :=
  .next (if out < 16 then s.regWrite (R.EJ_OUT_CTRL out) value (·.writeFlush out value) else s)

/-- EJ_LOG_READ (R330). -/
def execEjLogRead (s : State) : Res := .next (s.regRead (R.EJ_LOG_DATA 0) State.ejLogRead)

/-- READBACK_CHECK (R83). [Log 27 DESIGN CHOICE] -/
def execReadbackCheck (out : Nat) (level openLoad : Bool) (s : State) : Res := .next (s.readback out level openLoad)

/-- OUTPUT_OVERCURRENT (R106): latched off, and off for the rest of the pulse. -/
def execOutputOvercurrent (out : Nat) (s : State) : Res :=
  if s.ejOuts ≤ out then .next s
  else
    let s := s.setF R.EJ_OUT_STS_OVERCURRENT (s.fld R.EJ_OUT_STS_OVERCURRENT ||| 2 ^ (out % 16))
    let s := (s.setEj out { s.ej out with on := false }).ejCurFlags out 4
    .next (s.reportEject 0x5201 out)

end Sys2Proof.Machine
end

