-- ==== Sys2Proof/Machine/Tracks.lean ====
section
/-! DEFINITION. Tracks: the track unit (R33 to R60): creation, windows, deadline conversion, commits, verdicts and
their dispositions. -/

namespace Sys2Proof.Machine

/-! ## Reading tracks -/

/-- The track of a slot. -/
def State.trk? (s : State) (slot : Nat) : Option Track := (s.mot.tracks.find? (fun t => t.1 == slot)).map (·.2)

/-- MOT_TRK_ACTIVE follows the table (R66). -/
def State.trkCount (s : State) : State := s.setF R.MOT_TRK_ACTIVE_ACTIVE s.mot.tracks.length

/-- Puts a track into its slot. -/
def State.setTrk (s : State) (slot : Nat) (t : Track) : State :=
  { s with mot.tracks := Sparse.insert s.mot.tracks slot t }.trkCount

/-- The GATES record of a gate. -/
def State.gateOf (s : State) (g : Nat) : Option GateRec := s.img.active.bind (fun im => im.gates.find? (·.gate == g))

/-- A motion-area status of the track unit (R61). -/
def State.trkReport (s : State) (sts detail : Nat) : State := s.motReport R.MOT_TRK_STATUS_LAST_STS sts detail

/-- Slots whose track satisfies a condition, ascending. -/
def State.trkSlots (s : State) (p : Track → Bool) : List Nat := (s.mot.tracks.filter (fun t => p t.2)).map (·.1)

/-! ## Deadline conversion (R42, R43) -/

/-- The v_hi of a channel's conversions; none where the conversion works out none and parks the deadline: backward, or
slower than VMIN. The v_hi of such a last conversion is none too, and no rise of the speed exceeds it (R43).
[Log 75 DESIGN CHOICE] -/
def State.vHi (s : State) (c : Nat) : Option Speed :=
  let valid := s.bit (R.MOT_CH_STATUS_SPEED_VALID c)
  let v := (s.ch c).v
  if s.backward c || (valid && decide (v.num < s.fld R.MOT_TRK_VMIN_VMIN * v.den)) then none
  else some (if valid then ⟨v.num * (64 + s.fld R.MOT_TRK_CFG_GUARD), v.den * 64⟩ else ⟨s.fld R.MOT_TRK_VMAX_VMAX, 1⟩)

/-- The deadline of a track whose D lies at `d`; a v_hi of 0 parks it too. -/
def State.deadlineOf (s : State) (c d : Nat) : Nat :=
  match s.vHi c with
  | none => 2 ^ 64 - 1
  | some h =>
    let n := d48 d (s.eOf c)
    if h.num = 0 then 2 ^ 64 - 1
    else if n ≤ 0 then s.motNow
    else (s.motNow + n.toNat * 1000000000 * h.den / h.num) % 2 ^ 64

/-- FALLBACK of a channel follows its conversions: VMAX in use, or a valid speed again (R61, R65). A conversion that parks
with a valid speed, backward or below VMIN, clears it. [Log 75 DESIGN CHOICE] -/
def State.fallback (s : State) (c : Nat) : State :=
  let f := s.fld R.MOT_TRK_STATUS_FALLBACK
  if s.bit (R.MOT_CH_STATUS_SPEED_VALID c) then s.setF R.MOT_TRK_STATUS_FALLBACK (maskOff f (2 ^ c))
  else if s.backward c || f.testBit c then s
  else (s.setF R.MOT_TRK_STATUS_FALLBACK (f ||| 2 ^ c)).trkReport 0x4105 0

/-- Converts one track: its new deadline goes to the scheduler over crossing 9 (R44, R126). -/
def State.convertTrk (s : State) (slot : Nat) : State :=
  match s.trk? slot with
  | none => s
  | some t =>
    if t.st = .decided then s
    else
      let dl := s.deadlineOf t.chan t.d
      let s := s.setTrk slot { t with dl := dl }
      if 512 ≤ s.mot.xing9.length then s.xingDrop 9
      else
        let s := { s with mot.xing9 := s.mot.xing9 ++ [(⟨slot, t.seq, dl⟩ : DlUpd)] }
        s.xingFill 9 s.mot.xing9.length

/-- Notes a conversion of a channel: what it was made with (R43). -/
def State.noteConv (s : State) (c : Nat) : State :=
  (s.setCh c { s.ch c with vhi := s.vHi c, valid := s.bit (R.MOT_CH_STATUS_SPEED_VALID c) }).fallback c

/-- Converts every undecided track of a channel. -/
def State.convertChan (s : State) (c : Nat) : State :=
  let l := s.trkSlots (fun t => t.chan == c && t.st != .decided)
  if l = [] then s else (l.foldl State.convertTrk s).noteConv c

/-- The converter runs at once when the speed passes the v_hi of the last conversion or its validity changes. -/
def State.convertNow (s : State) (c : Nat) : State :=
  let x := s.ch c
  let valid := s.bit (R.MOT_CH_STATUS_SPEED_VALID c)
  let above := match x.vhi with
    | some h => valid && decide (h.num * x.v.den < x.v.num * h.den)
    | none => false
  if valid != x.valid || above then
    (s.setCh c { s.ch c with valid := valid }).convertChan c
  else s

/-! ## Verdicts (R37, R47, R50 to R52) -/

/-- What arming a decision's entry came to. -/
inductive ArmRes where
  | ok
  | full
  | chan
  | skipped
  deriving DecidableEq, Repr

/-- Arms the entry of a decision on an output: its lateness is judged before everything else (R51, R52), then its channel
and the queue's space. -/
def State.armTrack (s : State) (n slot : Nat) (t : Track) (tol : Nat) : ArmRes × State :=
  let a : ArmEnt := { key := t.f, gate := t.gate, slot := slot, seq := t.seq, verdict := t.verdict }
  let late := d48 (s.eOf t.chan) t.f
  if s.ejOuts ≤ n then (.skipped, s)
  else if (tol : Int) < late then (.skipped, (s.ejLeave n a 6).ejReport 0x5104 n)
  else if s.ejChan n ≠ t.chan then (.chan, s.ejReport 0x5003 (256 * t.gate + n))
  else if 256 ≤ (s.ej n).fill then (.full, s)
  else (.ok, s.ejInsert n { a with late := decide (0 ≤ late) })

/-- The disposition of a decision: the DISP byte of the record and the statuses it raised (R37, R51, R652). -/
def State.dispose (s : State) (slot : Nat) (t : Track) : Nat × List Nat × State :=
  match s.gateOf t.gate with
  | none => (0, [], s)
  | some g =>
    let act := s.fld (R.EJ_DISP_ACT t.gate) / 4 ^ (t.verdict - 1) % 4
    let ovf := s.fld (R.EJ_DISP_OVF t.gate)
    let tol := s.fld (R.EJ_DISP_LATE_TOL t.gate)
    match act with
    | 0 => (0, [], s)
    | 3 => (3 + 16, [], s.lineStop)
    | _ =>
      match s.armTrack (if act = 1 then g.out else g.alt) slot t tol with
      | (.ok, s) => (if act = 2 then act + 8 else act, [], s)
      | (.skipped, s) => (act, [], s)
      | (r, s) =>
        let (st, s) : List Nat × State :=
          if r = .full then ([0x5102], ((s.inc R.EJ_OVF_CNT_OVERFLOW).total 9).ejReport 0x5102 0) else ([0x5003], s)
        match ovf with
        | 0 => (act + 4, st, s)
        | 1 =>
          match s.armTrack g.alt slot t tol with
          | (.ok, s) => (act + 4 + 8, st, s)
          | (.skipped, s) => (act + 4, st, s)
          | (r2, s) => (act + 4 + 16, if r2 = .chan then st ++ [0x5003] else st, s.lineStop)
        | _ => (act + 4 + 16, st, s.lineStop)

/-- The status a record carries: the first in the order of R652 of those raised. -/
def recStatus (l : List Nat) : Nat :=
  ([0x5101, 0x5102, 0x5003, 0x4103].find? (fun x => l.contains x)).getD 0

/-- A verdict record goes to crossing 8; a full crossing drops it (R126). -/
def State.sendRec (s : State) (r : VRec) : State :=
  if 1024 ≤ s.mbx.xing8.length then s.xingDrop 8
  else
    let s := { s with mbx.xing8 := s.mbx.xing8 ++ [r] }
    s.xingFill 8 s.mbx.xing8.length

/-- A track's verdict is decided, by a rule code of R652: disposition, record, and for LATE and the decisions at window
close the cancelled work (R48, R530). -/
def State.giveVerdict (s : State) (slot verdict rule : Nat) : State :=
  match s.trk? slot with
  | none => s
  | some t =>
    let t := { t with st := .decided, verdict := verdict, held := none }
    let s := (s.setTrk slot t).total verdict
    let (st0, s) : List Nat × State :=
      if verdict = 4 then ([0x5101], (s.inc R.EJ_LATE_CNT_LATE).ejReport 0x5101 0)
      else if rule = 7 then ([0x4103], s) else ([], s)
    let (disp, st, s) := s.dispose slot t
    let r := s.fld R.MBX_RSEQ_NEXT_RSEQ_NEXT
    let s := s.setF R.MBX_RSEQ_NEXT_RSEQ_NEXT (r + 1)
    let s := s.sendRec ⟨r, t.seq, s.motNow, signed 48 t.p, t.gate, verdict, rule, recStatus (st0 ++ st), t.flags, disp, slot⟩
    if rule = 3 ∨ rule = 4 ∨ rule = 6 then s.trackCancel slot t.seq else s

/-! ## Count events (R34, R36, R248) -/

/-- E has reached the end of a track's window. -/
def State.winOver (s : State) (t : Track) : Bool :=
  t.st != .pending && reached (s.eOf t.chan) ((t.p + t.w) % 2 ^ 48)

/-- The windows whose end E has reached free their slots (R267). -/
def State.closeWins (s : State) (l : List Nat) : State :=
  l.foldl (fun (s : State) (slot : Nat) =>
    match s.trk? slot with
    | some t => if s.winOver t then s.winFree slot t.seq else s
    | none => s) s

/-- E reaches P of a track: its evidence counts from here on (R41), and a PENDING one enters WINDOW. -/
def State.enterWin (s : State) (slot : Nat) : State :=
  match s.trk? slot with
  | some t =>
    if t.atP || !reached (s.eOf t.chan) t.p then s
    else
      let u := { t with atP := true, glBase := (s.ch t.chan).glitches }
      if t.st = .pending then (s.setTrk slot { u with st := .window }).winOpenAll t.gate slot t.seq t.p t.w
      else s.setTrk slot u
  | none => s

/-- Inserts a slot by the sequence number of its track. -/
def State.seqInsert (s : State) (slot : Nat) : List Nat → List Nat
  | [] => [slot]
  | x :: l =>
    if ((s.trk? slot).map (·.seq)).getD 0 < ((s.trk? x).map (·.seq)).getD 0 then slot :: x :: l else x :: s.seqInsert slot l

/-- Window close of a track by R47 rules 2 to 4, before E has reached D. -/
def State.closeJudge (s : State) (slot : Nat) (t : Track) : State :=
  if t.flags.testBit 3 then s.giveVerdict slot 6 3
  else if (t.flags &&& (s.rd R.MOT_TRK_FORCE).toNat) % 8 ≠ 0 then s.giveVerdict slot 3 4
  else match t.held with
    | some (v, rule) => s.giveVerdict slot v rule
    | none => (s.setTrk slot { t with st := .compute }).trackReady slot t.seq

/-- The events of one track from window close on: close, D, F. -/
def State.advance (s : State) (slot : Nat) : State :=
  match s.trk? slot with
  | none => s
  | some t =>
    let e := s.eOf t.chan
    let late := reached e t.d
    let past := s.winOver t
    let s := if past then s.winCloseAll slot t.seq else s
    let s := if t.st = .window ∧ past then
        if late then s.giveVerdict slot 4 6 else s.closeJudge slot t
      else if (t.st = .window ∨ t.st = .compute) ∧ late then s.giveVerdict slot 4 6
      else s
    match s.trk? slot with
    | some t =>
      if t.st = .decided ∧ reached e t.f then
        { s with mot.tracks := Sparse.erase s.mot.tracks slot }.trkCount.winCloseAll slot t.seq
      else s
    | none => s

/-- The windows of the tracks in a list: slots are freed, then windows open in ascending sequence number (R248, R267). -/
def State.openAll (s : State) (l : List Nat) : State :=
  let s := s.closeWins l
  (l.foldl (fun acc x => s.seqInsert x acc) []).foldl State.enterWin s

/-- Every count event of the tracks in a list: their windows, the line triggers of channel `c` if E has moved, which go
between the open items and the close items (R248), then each track in ascending slot (R50). -/
def State.advanceAll (s : State) (l : List Nat) (c : Option Nat := none) : State :=
  let s := s.openAll l
  let s := match c with
    | some c => s.lineTrigAll c
    | none => s
  l.foldl State.advance s

/-- X beyond REV_LIMIT below E ends the open tracks of the channel (R57). [Log 36 DESIGN CHOICE] -/
def State.revCheck (s : State) (c : Nat) : State :=
  if (s.fld R.MOT_TRK_REV_LIMIT_REV_LIMIT : Int) < d48 (s.eOf c) (s.xOf c) then
    let l := s.trkSlots (fun t => t.chan == c && t.st != .decided)
    if l = [] then s else l.foldl (fun (s : State) (k : Nat) => s.giveVerdict k 3 7) (s.trkReport 0x4103 0)
  else s

/-! ## Creation (R38, R39, R55) -/

/-- A part is presented on a gate with its P: a track is created, PENDING as yet, or the part is dropped.
[Log 38 DESIGN CHOICE] -/
def State.openTrk (s : State) (g p : Nat) : State :=
  match s.gateOf g with
  | none => s
  | some rec =>
    if !s.bit R.MOT_TRK_CFG_EN || !s.bit (R.MOT_GATE_CFG_EN g) then s
    else
      let free := (List.range 512).filter (fun k => s.mot.tracks.all (fun t => t.1 != k))
      match s.pick free with
      | (none, s) =>
        let s := ((s.inc R.MOT_TRK_DROPPED_DROPPED).total 8).trkReport 0x4101 0
        if s.bit R.MOT_TRK_CFG_FULL_POLICY then s.lineStop else s
      | (some slot, s) =>
        let seq := s.fld R.MOT_TRK_NEXT_SEQ_NEXT_SEQ
        let s := s.setF R.MOT_TRK_NEXT_SEQ_NEXT_SEQ (seq + 1)
        let f := (p + s.fld (R.MOT_GATE_FIRE_FIRE_OFFS g)) % 2 ^ 48
        let d := add48 f (-(s.fld (R.MOT_GATE_MARGIN_MARGIN g) : Int))
        let t : Track := { seq := seq, gate := g, chan := rec.chan, p := p, w := s.fld (R.MOT_GATE_WIN_W g), f := f, d := d,
                           dl := s.deadlineOf rec.chan d }
        let s := (((s.setTrk slot t).inc R.MOT_TRK_OPENED_OPENED).total 0).wake 0
        (s.noteConv rec.chan).trackSubmit seq slot g t.dl p

/-- The later events of the tracks created in this cycle (R39), in ascending slot (R50). A track that was PENDING before
has its P ahead of E, and meets none. -/
def State.createEnd (s : State) : State := s.advanceAll (s.trkSlots (fun t => t.st == .pending))

/-- Presence from a source: every gate that takes it, in ascending order (R38, R40). -/
def State.present (s : State) (src pres : Nat) (p : State → GateRec → Nat) : State :=
  let gs := (s.img.active.map (·.gates)).getD []
  ((List.range 16).foldl (fun (s : State) (g : Nat) =>
    match gs.find? (fun r => r.gate == g && r.src == src && r.pres == pres) with
    | some r => s.openTrk g (p s r)
    | none => s) s).createEnd

/-- A declaration: refused where R68 says, else it creates the track. -/
def State.declare (s : State) (g p : Nat) : State :=
  let ok := match s.gateOf g with
    | some r => r.src == 2 && s.bit (R.MOT_GATE_CFG_EN g) && s.bit R.MOT_TRK_CFG_EN
    | none => false
  if ok then ((s.openTrk g p).createEnd).ejAll else s.trkReport 0x4104 0

/-! ## Commits (R45, R46) -/

/-- A commit arrives: slot, sequence number, verdict, and its source as a RULE code. -/
def State.commit (s : State) (slot seq v rule : Nat) : State :=
  if v ≠ 1 ∧ v ≠ 2 ∧ v ≠ 3 ∧ v ≠ 5 then s.trkReport 0x4106 0
  else match s.trk? slot with
    | none => s.trkReport 0x4102 0
    | some t =>
      if t.st = .pending ∨ t.seq ≠ seq then s.trkReport 0x4102 0
      else match t.st with
        | .decided =>
          if t.verdict = 4 then ((s.inc R.EJ_LATE_ARRIVED_LATE_ARRIVED).total 10).ejReport 0x5105 0
          else s.trkReport 0x4102 0
        | .window =>
          match t.held with
          | some _ => s.trkReport 0x4107 0
          | none => s.setTrk slot { t with held := some (v, rule) }
        | _ =>
          if (t.flags &&& (s.rd R.MOT_TRK_FORCE).toNat) % 8 ≠ 0 then (s.giveVerdict slot 3 5).ejAll
          else (s.giveVerdict slot v rule).ejAll

/-- The INCONCLUSIVE commits the scheduler owes (R531). -/
def State.schedCommits (s : State) : State :=
  let l := s.sched.incs
  l.foldl (fun (s : State) p => s.commit p.1 p.2 3 2) { s with sched.incs := [] }

/-! ## Evidence from the channel (R41, R50) -/

/-- Evidence of a channel reaches its tracks for which `p` holds, from P on: an undecided one takes the flag, a decided one
becomes position suspect whatever its flags say (R50). [Log 37 DESIGN CHOICE] -/
def State.evidence (s : State) (c flag : Nat) (p : Track → Bool) : State :=
  (s.trkSlots (fun t => t.chan == c && t.atP && p t)).foldl (fun (s : State) (k : Nat) =>
    match s.trk? k with
    | some t => if t.st = .decided then s.ejSuspect k t.seq else s.setTrk k { t with flags := t.flags ||| flag }
    | none => s) s

/-- A wire-disagree event reaches the tracks of a channel. -/
def State.wireEvent (s : State) (c : Nat) : State := s.evidence c 2 (fun _ => true)

/-- A glitch fault has been counted on a channel: tracks whose threshold it reaches. -/
def State.glitchEvent (s : State) (c : Nat) : State :=
  let thr := s.fld R.MOT_TRK_GLITCH_THR_GLITCH_THR
  let n := (s.ch c).glitches
  if thr = 0 then s else s.evidence c 4 (fun t => decide (t.glBase + thr ≤ n))

/-! ## Register writes of the track unit -/

/-- The offsets of a gate are consistent (R58). -/
def offsOk (fire w margin : Nat) : Bool := decide (w + margin ≤ fire) && decide (1 ≤ margin)

/-- A write of MOT_GATE_CFG (R58, R69). -/
def State.writeGate (s : State) (g v : Nat) : State :=
  let on := (R.MOT_GATE_CFG_EN g).of v == 1
  if (s.gateOf g).isNone then s
  else if on && !s.bit (R.MOT_GATE_CFG_EN g)
      && !offsOk (s.fld (R.MOT_GATE_FIRE_FIRE_OFFS g)) (s.fld (R.MOT_GATE_WIN_W g)) (s.fld (R.MOT_GATE_MARGIN_MARGIN g)) then
    s.trkReport 0x4104 0
  else s.setB (R.MOT_GATE_CFG_EN g) on

/-- A write of an offset of a gate: 0 W, 1 FIRE_OFFS, 2 MARGIN (R58). -/
def State.writeOffs (s : State) (g which v : Nat) : State :=
  let v := v % 2 ^ 24
  let w := if which = 0 then v else s.fld (R.MOT_GATE_WIN_W g)
  let f := if which = 1 then v else s.fld (R.MOT_GATE_FIRE_FIRE_OFFS g)
  let m := if which = 2 then v else s.fld (R.MOT_GATE_MARGIN_MARGIN g)
  if s.bit (R.MOT_GATE_CFG_EN g) && !offsOk f w m then s.trkReport 0x4104 0
  else ((s.setF (R.MOT_GATE_WIN_W g) w).setF (R.MOT_GATE_FIRE_FIRE_OFFS g) f).setF (R.MOT_GATE_MARGIN_MARGIN g) m

/-- The register of a gate's offset. -/
def offsReg (g which : Nat) : Reg :=
  if which = 0 then R.MOT_GATE_WIN g else if which = 1 then R.MOT_GATE_FIRE g else R.MOT_GATE_MARGIN g

/-- A write of MOT_TRK_CFG (R42, R62): the grid starts with EN, and restarts with a new CONV_PERIOD. -/
def State.writeTrkCfg (s : State) (v : Nat) : State :=
  let en := s.bit R.MOT_TRK_CFG_EN
  let per := s.fld R.MOT_TRK_CFG_CONV_PERIOD
  let s := s.wr R.MOT_TRK_CFG (BitVec.ofNat 32 (v &&& R.MOT_TRK_CFG.rw))
  let s := if s.fld R.MOT_TRK_CFG_CONV_PERIOD = 0 then s.setF R.MOT_TRK_CFG_CONV_PERIOD 1 else s
  if (s.bit R.MOT_TRK_CFG_EN && !en) || s.fld R.MOT_TRK_CFG_CONV_PERIOD != per then
    { s with mot.gridAt := some s.motNow }
  else s

/-- CONV_PERIOD_TICK: the next point of the grid, once the MOTION copy has reached it; every eligible track of every channel
is converted. -/
def State.convTick (s : State) : State :=
  match s.mot.gridAt with
  | none => s
  | some g =>
    let due := g + 1000 * s.fld R.MOT_TRK_CFG_CONV_PERIOD
    if due ≤ s.motNow then (List.range 4).foldl State.convertChan { s with mot.gridAt := some due } else s

/-- DEADLINE_UPDATE: the oldest update on crossing 9 reaches the scheduler (R528). -/
def State.deadlineUpdate (s : State) : State :=
  match s.mot.xing9 with
  | [] => s
  | u :: l => { s with mot.xing9 := l }.trackDeadline u.slot u.seq u.dl

/-- The view of the selected slot (R67): V_SEQ, V_STATE and the deadline. -/
def State.trkView (s : State) : Nat × Nat × Nat :=
  match s.trk? (s.fld R.MOT_TRK_SEL_SLOT) with
  | none => (0, 0, 0)
  | some t =>
    let st := match t.st with
      | .pending => 1
      | .window => 2
      | .compute => 3
      | .decided => 4
    (t.seq, 65536 * t.gate + 4096 * t.verdict + 256 * t.flags + 128 * (s.backward t.chan).toNat + st, t.dl)

/-! ## Messages to the track unit (R428) -/

/-- One offset and value pair of a gill's message, on the private copy of the registers it names. `m` holds the pairs
written so far. -/
def State.unitPair (s : State) (m : Sparse Nat) (off v : Nat) : Sparse Nat × State :=
  let m := Sparse.insert m off v
  let g := fun k => Sparse.get m k 0
  if off = 0x10844 then
    if R.MOT_TRK_DECL_HI_GO.of v = 1 then
      (m, s.declare (R.MOT_TRK_DECL_HI_GATE.of v) (g 0x10840 + 2 ^ 32 * R.MOT_TRK_DECL_HI_P_HI.of v))
    else (m, s)
  else if off = 0x1084C then (m, s.commit (R.MOT_TRK_COMMIT_SLOT.of v) (g 0x10848) (R.MOT_TRK_COMMIT_VERDICT.of v) 1)
  else if off = 0x12410 then
    if R.EJ_ARM_CMD_GO.of v = 1 then
      (m, s.armManual (R.EJ_ARM_CMD_OUT.of v) (R.EJ_ARM_CMD_TIME.of v == 1) (g 0x12404 + 2 ^ 32 * g 0x12408) (g 0x1240C) false)
    else (m, s)
  else (m, s)

/-- The pairs of a message, in order. [Log 39 DESIGN CHOICE] -/
def State.unitPairs (s : State) (m : Sparse Nat) : List Nat → State
  | off :: v :: l => let t := s.unitPair m off v; State.unitPairs t.2 t.1 l
  | _ => s

/-- A message of a gill to the track unit: its pairs act on a private copy of the registers, whose values before the
message writes them the spec does not give. [Log 39 DESIGN CHOICE] -/
def State.unitMessage (s : State) (words : List Nat) : State :=
  let (f, s) := s.freshList 5
  let k := fun i => f.getD i 0 % 2 ^ 32
  s.unitPairs [(0x10840, k 0), (0x10848, k 1), (0x12404, k 2), (0x12408, k 3), (0x1240C, k 4)] words

end Sys2Proof.Machine
end

