-- ==== Sys2Proof/Machine/CamLink.lean ====
section
/-! DEFINITION. CamLink: the camera ports (R239 to R274): link bring-up, the mailbox, trigger configuration, stream data and
its pairing with triggers, watchdogs, frames through memory, and rebinding. -/

namespace Sys2Proof.Machine

/-! ## Bring-up (R243) -/

/-- A port whose lanes belong to a four-lane port beside it. -/
def State.portTaken (s : State) (p : Nat) : Bool :=
  p % 2 == 1 && ((s.camRec (p - 1)).map (·.lanes)).getD 1 == 4

/-- Moves a port to a state. -/
def State.portGo (s : State) (p st : Nat) : State :=
  (s.setPort p { s.port p with stAt := s.now }).setF (R.CXP_PORT_STATUS_STATE p) st

/-- Whether a port has been in its state for a time in ns (R243). -/
def State.portFor (s : State) (p ns : Nat) : Bool := decide ((s.port p).stAt + ns ≤ s.now)

/-- Every position the port uses whose enable bit is set is powered. -/
def State.portPowered (s : State) (p : Nat) : Bool :=
  (s.portLanes p).all (fun l => !(s.fld R.PWR_POCXP_EN).testBit l || (s.fld R.PWR_POCXP_STS_ON).testBit l)

/-- A port enters DISCOVER: RATE and UPLINK_HS take effect; a new rate sends the synthesiser through CAL (R392). -/
def State.portDiscover (s : State) (p : Nat) : State :=
  let s := if (s.port p).rate = s.fld (R.CXP_PORT_CFG_RATE p) then s else s.synthRate (s.portLanes p)
  let s := s.setPort p { s.port p with rate := s.fld (R.CXP_PORT_CFG_RATE p) }
  (s.setF (R.CXP_PORT_STATUS_RATE_ACT p) 1).portGo p 2

/-- A whole-frame camera's frame number. -/
def State.frameTag (s : State) (p seq : Nat) : Option Nat := if s.camGates p = 0 then some seq else none

/-- The place of a line of a frame that has not come: zeros, flagged MISSING (R250, R263). -/
def State.missLine (s : State) (p : Nat) (g : RxImg) (t : Trig) (row : Nat) : InLine :=
  { voidLine p t with line := { (voidLine p t).line with
      row := row, frame := s.frameTag p g.seq, last := g.head.area && row + 1 == g.head.height, color := g.head.color } }

/-- The rows that an in-line frame being received has not brought are filled; a frame in memory that is not whole is dropped.
[Log 44 DESIGN CHOICE] -/
def State.imgCut (s : State) (p : Nat) : State :=
  let s := s.setPort p { s.port p with fbs := (s.port p).fbs.filter (·.whole) }
  match (s.port p).img with
  | none => s
  | some g =>
    match g.trig, g.fb with
    | some t, none =>
      if s.bit (R.ISP_PIPE_STATUS_HELD g.pipe) || (s.camRec p).isNone then s
      else
        let x := s.pipe g.pipe
        s.setPipe g.pipe { x with inq := x.inq ++ (List.range (g.head.height - g.lines)).map (fun i =>
          s.missLine p g t (g.lines + i)) }
    | _, _ => s

/-- The image that was being received has ended: its CRC failures and lost lines are told once (R260, R263). -/
def State.imgEnd (s : State) (p : Nat) : State :=
  match (s.port p).img with
  | none => s
  | some g =>
    let s := if 0 < g.fails then s.camReport p 0x3003 (min g.fails 65535) else s
    let s := if 0 < g.lost then s.camReport p 0x3010 (min g.lost 65535) else s
    let s := s.imgCut p
    s.setPort p { s.port p with img := none }

/-- Ends the image being received and retires every trigger, outstanding or waiting. -/
def State.portClear (s : State) (p : Nat) : State := ((s.imgEnd p).retireOut p).retireWaits p

/-- A port goes DOWN. -/
def State.portDown (s : State) (p sts detail : Nat) : State :=
  ((((s.portClear p).portGo p 6).setF (R.CXP_PORT_STATUS_LANES_UP p) 0).setF (R.CXP_PORT_STATUS_RATE_ACT p) 0).camReport p sts
    detail

/-- A port enters RESYNC (R262): its frame is cut, but lines of the image that still come belong to it. -/
def State.portResync (s : State) (p : Nat) : State :=
  let s := s.imgCut p
  let s := s.setPort p { s.port p with img := (s.port p).img.map (fun g => { g with trig := none, fb := none }) }
  ((s.retireOut p).retireWaits p).portGo p 5

/-- A write of CXP_PORT_CFG. [Log 44 DESIGN CHOICE] -/
def State.writePortCfg (s : State) (p v : Nat) : State :=
  let en := s.bit (R.CXP_PORT_CFG_EN p)
  let on := (R.CXP_PORT_CFG_EN p).of v == 1
  let rate := (R.CXP_PORT_CFG_RATE p).of v
  let rate := if [3, 5, 6, 10, 12].contains rate then rate else s.fld (R.CXP_PORT_CFG_RATE p)
  let s := (s.setF (R.CXP_PORT_CFG_RATE p) rate).setF (R.CXP_PORT_CFG_UPLINK_HS p) ((R.CXP_PORT_CFG_UPLINK_HS p).of v)
  if on && s.portTaken p then (s.setB (R.CXP_PORT_CFG_EN p) false).camReport p 0x300D (s.fld (R.CXP_BIND_CURRENT p))
  else
    let s := s.setB (R.CXP_PORT_CFG_EN p) on
    if on && !en then (s.portGo p 1).portOwns (s.portLanes p) true
    else if !on then
      let s := if en then s.portOwns (s.portLanes p) false else s
      (((s.portClear p).portGo p 0).setF (R.CXP_PORT_STATUS_LANES_UP p) 0).setF (R.CXP_PORT_STATUS_RATE_ACT p) 0
    else s

/-- Discovery has succeeded: the camera's connection configuration is written to RATE and LANES, and the port waits for lock
(R243). -/
def State.portConfig (s : State) (p : Nat) : State :=
  (s.portGo p 3).emit (.camConfig p (s.portLane p) (s.port p).rate (s.portLanes p).length)

/-- The lanes of a port lock at its rate: reception starts afresh. [Log 77 PRESUMED] -/
def State.portUp (s : State) (p : Nat) : State :=
  let s := s.setPort p { s.port p with img := none, stray := false, tagNext := 0, arrived := [] }
  ((s.portGo p 4).setF (R.CXP_PORT_STATUS_LANES_UP p) (s.portLanes p).length).setF (R.CXP_PORT_STATUS_RATE_ACT p) (s.port p).rate

/-! ## The mailbox (R244) -/

/-- A write of CXP_CTRL_CMD. -/
def State.ctrlStart (s : State) (p v : Nat) : State :=
  let s := s.wr (R.CXP_CTRL_CMD p) (BitVec.ofNat 32 (v &&& (R.CXP_CTRL_CMD p).rw))
  if (R.CXP_CTRL_CMD_GO p).of v = 0 ∨ s.bit (R.CXP_CTRL_STATUS_BUSY p) then s
  else if s.pst p ≠ 4 ∧ s.pst p ≠ 5 then s.setB (R.CXP_CTRL_STATUS_ERROR p) true
  else
    let x := s.port p
    let s := ((s.setB (R.CXP_CTRL_STATUS_BUSY p) true).setB (R.CXP_CTRL_STATUS_ERROR p) false).setB (R.CXP_CTRL_STATUS_TIMEOUT p) false
    (s.setPort p { x with tag := (x.tag + 1) % 256, ctrlWrite := s.bit (R.CXP_CTRL_CMD_WRITE p), ctrlAt := s.now }).emit
      (.ctrl p (s.portLane p) x.tag (s.bit (R.CXP_CTRL_CMD_WRITE p)) (s.fld (R.CXP_CTRL_ADDR_ADDR p)) (s.fld (R.CXP_CTRL_DATA_DATA p)))

/-- The camera's acknowledgement: its code, whether that is a negative one, the data it carries, and whether the packet
failed its CRC (R244, R260). -/
def State.ctrlAck (s : State) (p code : Nat) (neg : Bool) (data : Nat) (bad : Bool) : State :=
  if !s.bit (R.CXP_CTRL_STATUS_BUSY p) then s
  else
    let s := s.setB (R.CXP_CTRL_STATUS_BUSY p) false
    if bad then s.setB (R.CXP_CTRL_STATUS_ERROR p) true
    else
      let s := s.setF (R.CXP_CTRL_STATUS_ACK p) code
      if neg then (s.setB (R.CXP_CTRL_STATUS_ERROR p) true).camReport p 0x300F code
      else if (s.port p).ctrlWrite then s
      else s.setF (R.CXP_CTRL_DATA_DATA p) data

/-- No acknowledgement within CXP_CTRL_TMO.MS. -/
def State.ctrlLate (s : State) (p : Nat) : State :=
  if s.bit (R.CXP_CTRL_STATUS_BUSY p) ∧ (s.port p).ctrlAt + 1000000 * s.fld (R.CXP_CTRL_TMO_MS p) ≤ s.now then
    ((s.setB (R.CXP_CTRL_STATUS_BUSY p) false).setB (R.CXP_CTRL_STATUS_TIMEOUT p) true).camReport p 0x300E 0
  else s

/-! ## Trigger configuration (R242, R245, R251, R265, R278) -/

/-- A write of CXP_TRIG_CFG. -/
def State.writeTrig (s : State) (p v : Nat) : State :=
  let was := s.fld (R.CXP_TRIG_CFG_SRC p)
  let delay := s.bit (R.CXP_TRIG_CFG_POLICY p)
  let src := (R.CXP_TRIG_CFG_SRC p).of v
  let src := if 4 < src then 0 else src
  let refused := src == 1 && s.bit (R.CXP_BIND_MODE p) && (s.camRec p).isSome
  let src := if refused then was else src
  let mo := (R.CXP_TRIG_CFG_MAX_OUT p).of v
  let mo := if mo = 0 then 1 else min mo 64
  let s := if (src != was) || (delay && (R.CXP_TRIG_CFG_POLICY p).of v == 0) then s.retireWaits p else s
  let s := s.wr (R.CXP_TRIG_CFG p) (BitVec.ofNat 32 (v &&& (R.CXP_TRIG_CFG p).rw))
  let s := ((s.setF (R.CXP_TRIG_CFG_SRC p) src).setF (R.CXP_TRIG_CFG_MAX_OUT p) mo).setF (R.CXP_TRIG_CFG_DIV p)
    (max 1 ((R.CXP_TRIG_CFG_DIV p).of v))
  let s := if src != was then s.setPort p { s.port p with timeAt := none } else s
  let s := if src = 1 then s.setPort p { s.port p with next := some (s.firstCount p) } else s
  if refused then s.camReport p 0x300D (s.fld (R.CXP_BIND_CURRENT p)) else s

/-- A write of PHASE moves the trigger counts at once. [Log 41 DESIGN CHOICE] -/
def State.phaseMoved (s : State) (p : Nat) : State :=
  if s.fld (R.CXP_TRIG_CFG_SRC p) = 1 then s.setPort p { s.port p with next := some (s.firstCount p) } else s

/-- Whether a FRAME_TIME trigger is due: PERIOD_US after the one before. [Log 41 DESIGN CHOICE] -/
def State.timeDue (s : State) (p : Nat) : Bool :=
  match (s.port p).timeAt with
  | some at_ => decide (at_ + 1000 * s.fld (R.CXP_TRIG_PERIOD_PERIOD_US p) ≤ s.now)
  | none => true

/-- A FRAME_TIME trigger. [Log 41 DESIGN CHOICE] -/
def State.frameTime (s : State) (p : Nat) : State :=
  if s.fld (R.CXP_TRIG_CFG_SRC p) = 3 ∧ s.fld (R.CXP_TRIG_PERIOD_PERIOD_US p) ≠ 0 ∧ s.timeDue p then
    (s.setPort p { s.port p with timeAt := some s.now }).trigDue p (s.eOf (s.camChan p))
  else s

/-- A write of CXP_TRIG_SOFT. -/
def State.softTrig (s : State) (p v : Nat) : State :=
  if (R.CXP_TRIG_SOFT_GO p).of v = 1 ∧ s.fld (R.CXP_TRIG_CFG_SRC p) = 4 then s.trigDue p (s.eOf (s.camChan p)) else s

/-! ## Frames in memory (R251, R252, R270) -/

/-- Bytes of a frame slot, and its address. -/
def State.fbSlot (s : State) (p i : Nat) : Nat × Nat :=
  match s.img.active.bind (fun im => (s.camRec p).bind (fun r => im.mem? r.framePart)) with
  | some m =>
    let n := m.size / max 1 (s.fld (R.CXP_FB_CFG_SLOTS p)) / 4096 * 4096
    (m.base + i * n, n)
  | none => (0, 0)

/-- The registers that show frames: FULL of the port and TM_FRAMES of its pipelines. -/
def State.fbRegs (s : State) (p : Nat) : State :=
  let s := s.setF (R.CXP_FB_STATUS_FULL p) ((s.port p).fbs.filter (·.whole)).length
  (List.range 4).foldl (fun (s : State) (k : Nat) =>
    s.setF (R.ISP_PIPE_STATUS_TM_FRAMES k) (min 15 (sumOf s.cam.ports (fun x =>
      (x.fbs.filter (fun f => f.whole && f.pipe == k)).length)))) s

/-- Bytes of a line of an image as received. -/
def headLineBytes (h : ImgHead) : Nat := (h.width * colorChans h.color * h.bits + 7) / 8

/-! ## Image headers (R264, R247, R254, R270) -/

/-- The pixel formats of R239. -/
def fmtOk (h : ImgHead) : Bool :=
  (h.color == 0 && [8, 10, 12, 14, 16].contains h.bits) || (1 ≤ h.color && h.color ≤ 4 && [8, 10, 12].contains h.bits)
    || (h.color == 5 && h.bits == 8)

/-- Why a header is rejected: the detail of STS_CAMERA_FORMAT. -/
def State.headBad (s : State) (p : Nat) (h : ImgHead) : Option Nat :=
  let src := s.fld (R.CXP_TRIG_CFG_SRC p)
  let bayer := 1 ≤ h.color && h.color ≤ 4
  let suits := match s.camRec p, s.ispRec (s.fld (R.CXP_BIND_CURRENT p)) with
    | some _, some r => chainSuits (r.chain.map (·.2)) bayer (colorChans h.color)
    | _, _ => true
  if h.width = 0 ∨ 16384 < h.width ∨ h.height = 0 ∨ 65535 < h.height then some 1
  else if !fmtOk h then some 2
  else if 16384 < h.payload then some 3
  else if (h.area && src == 1) || (!h.area && 2 ≤ src) then some 4
  else if !suits then some 5
  else none

/-- Every window still open on the port is split by a switch away from pipeline `old`: its part there takes no more lines of
the windows that follow, an undelivered-image event is sent, and the split is reported (R269). [Log 44 DESIGN CHOICE] -/
def State.rebindSplit (s : State) (p old : Nat) : State :=
  let x := s.pipe old
  let wins := (s.port p).wins
  let s := s.setPipe old { x with parts := x.parts.map (fun q =>
    if q.port == p && wins.any (fun w => w.trk == q.trk && w.seq == q.seq) then { q with split := true } else q) }
  wins.foldl (fun (s : State) (w : CamWin) => (s.camSend (.track w.trk w.seq)).camReport p 0x300C w.trk) s

/-- A pending rebind takes effect: the camera moves to the new pipeline, and its open windows are split (R268, R269). -/
def State.rebindSwitch (s : State) (p : Nat) : State :=
  match (s.port p).rebind with
  | none => s
  | some k =>
    let old := s.fld (R.CXP_BIND_CURRENT p)
    let x := s.port p
    let s := s.setPort p { x with rebind := none }
    let s := (s.setF (R.CXP_BIND_CURRENT p) k).setB (R.CXP_BIND_PENDING p) false
    let inl := !s.bit (R.CXP_BIND_MODE p)
    let s := if inl then (s.setF (R.ISP_PIPE_STATUS_INLINE_PORT old) 15).setF (R.ISP_PIPE_STATUS_INLINE_PORT k) p else s
    (if inl then s.pipeLeave old else s).rebindSplit p old

/-- Starts a whole-frame part for a camera of no gate. -/
def State.wholeStart (s : State) (p k seq : Nat) (tm : Bool) : State :=
  if s.camGates p = 0 ∧ !s.bit (R.ISP_PIPE_STATUS_HELD k) then
    s.partStart k { port := p, trk := 0xFFFF, seq := seq, p := 0, w := 0, slot := 0, tm := tm }
  else s

/-- The oldest trigger of a frame source with which no image has been paired. -/
def CamPort.oldest (x : CamPort) : Option Trig := x.outst.find? (fun t => !t.taken && !t.void)

/-- The image being received is put. -/
def State.putImg (s : State) (p : Nat) (g : RxImg) : State := s.setPort p { s.port p with img := some g }

/-- A frame source's image is given up at its header: its trigger is retired. -/
def State.dropFrame (s : State) (p : Nat) : State :=
  let x := s.port p
  if s.fld (R.CXP_TRIG_CFG_SRC p) = 1 then s
  else match x.oldest with
    | some t => (s.setPort p { x with outst := x.outst.erase t }).retire p t
    | none => s

/-- A rejected image of width 0 brings no line: under LINE_ENC the triggers of its lines are retired at once (R264).
[Log 44 DESIGN CHOICE] -/
def State.dropEmpty (s : State) (p : Nat) (h : ImgHead) : State :=
  let x := s.port p
  if s.fld (R.CXP_TRIG_CFG_SRC p) = 1 ∧ h.width = 0 then
    (x.outst.take h.height).foldl (fun (s : State) (t : Trig) => if t.void then s.voidIn p t else s.retire p t)
      (s.setPort p { x with outst := x.outst.drop h.height })
  else s

/-- An image is accepted. -/
def State.imgTake (s : State) (p : Nat) (g : RxImg) : State :=
  let s := (s.setF (R.CXP_HDR_SIZE_WIDTH p) g.head.width).setF (R.CXP_HDR_SIZE_HEIGHT p) g.head.height
  ((s.inc (R.CXP_CNT_FRAMES_COUNT p)).setPort p { s.port p with frames := (s.port p).frames + 1 }).putImg p g

/-- A frame source's image is paired with a trigger at its header: it goes to its pipeline, or to a free frame slot. -/
def State.framePair (s : State) (p : Nat) (g : RxImg) (t : Trig) : State :=
  let x := s.port p
  let u := { t with taken := true }
  let g := { g with trig := some u }
  let pair := fun (s : State) => s.setPort p { s.port p with outst := (s.port p).outst.map (fun o => if o == t then u else o) }
  if (s.camRec p).isNone then (pair s).imgTake p g
  else if s.bit (R.ISP_PIPE_STATUS_HELD g.pipe) then (s.dropFrame p).putImg p { g with trig := none, rejected := true }
  else if !s.bit (R.CXP_BIND_MODE p) then ((pair s).wholeStart p g.pipe g.seq false).imgTake p g
  else
    let used := x.fbs.map (·.slot)
    match s.pick ((List.range (s.fld (R.CXP_FB_CFG_SLOTS p))).filter (fun i => !used.contains i)) with
    | (none, s) => ((s.dropFrame p).camReport p 0x300A 0).putImg p { g with trig := none, rejected := true }
    | (some i, s) =>
      let (f, s) := s.freshList 4096
      let (a, _) := s.fbSlot p i
      let (_, s) := s.vwrite (0x4000 + p) 4 a (f.map (BitVec.ofNat 8))
      let x := s.port p
      let fr : FbFrame := { slot := i, head := g.head, trig := u, seq := g.seq, pipe := g.pipe, order := x.fbOrder }
      let s := s.setPort p { x with fbs := x.fbs ++ [fr], fbOrder := x.fbOrder + 1 }
      (pair s).imgTake p { g with fb := some i }

/-- A port's data is discarded for the power mode (R139, R274). -/
def State.camMute (s : State) : Bool := s.pmode == 2 || s.pmode == 3

/-- An image header arrives. `bad` tells a packet that failed its CRC. In RESYNC and in DOZE and STANDBY it only says which
image the lines that follow belong to. [Log 44 DESIGN CHOICE] -/
def State.header (s : State) (p : Nat) (h : ImgHead) (bad : Bool) : State :=
  let s := (s.imgEnd p).rebindSwitch p
  let s := s.setPort p { s.port p with stray := false }
  let s := if bad then s else s.setF (R.CXP_HDR_FMT_PIXEL_FORMAT p) h.code
  let src := s.fld (R.CXP_TRIG_CFG_SRC p)
  let g : RxImg := { head := h, pipe := s.fld (R.CXP_BIND_CURRENT p), seq := (s.port p).frames }
  if s.pst p = 5 ∨ s.camMute then s.putImg p { g with fails := bad.toNat, rejected := bad || (s.headBad p h).isSome }
  else if bad then (s.dropFrame p).putImg p { g with rejected := true, fails := 1 }
  else match s.headBad p h with
    | some d => (((s.dropFrame p).dropEmpty p h).camReport p 0x3009 d).putImg p { g with rejected := true }
    | none =>
      if src = 0 then s.putImg p g
      else if src = 1 then s.imgTake p g
      else match (s.port p).oldest with
        | none => s.putImg p g
        | some t => s.framePair p g t

/-! ## Lines (R247, R260, R263) -/

/-- The line of a received image as the pipeline sees it. -/
def mkLine (p : Nat) (h : ImgHead) (t : Trig) (flags row : Nat) (frame : Option Nat) (tm : Bool) (b : List Byte) : InLine :=
  { line := { port := p, count := t.count, mono := t.mono, flags := flags + (if t.late then 4 else 0), void := false, row := row,
              last := h.area && row + 1 == h.height, frame := frame, tm := tm, color := h.color },
    bytes := b, width := h.width, bits := h.bits }

/-- A line is paired; one with a byte in a failed packet is marked, and told to the tracks in whose windows it lies
(R260). -/
def State.linePaired (s : State) (p : Nat) (t : Trig) (bad : Bool) : State :=
  let s := s.inc (R.CXP_CNT_LINES_COUNT p)
  if bad then (s.inc (R.CXP_CNT_MARKED_COUNT p)).camSend (.line p t.count 0) else s

/-- A frame loses a line at crossing 5: its trigger is retired, once (R263). -/
def State.frameLost (s : State) (p : Nat) (t : Trig) : State :=
  let x := s.port p
  if x.outst.contains t then (s.setPort p { x with outst := x.outst.erase t }).undeliv p t else s

/-- A line goes to the pipeline. -/
def State.pipeIn (s : State) (k : Nat) (l : InLine) : State :=
  s.setPipe k { s.pipe k with inq := (s.pipe k).inq ++ [l] }

/-- A line paired with a line trigger goes to its pipeline. A held pipeline, or a full crossing 5 (`lost`), loses it. -/
def State.lineIn (s : State) (p : Nat) (g : RxImg) (t : Trig) (bad lost : Bool) (b : List Byte) : State :=
  if lost || s.bit (R.ISP_PIPE_STATUS_HELD g.pipe) then s.retire p t
  else ((s.linePaired p t bad).pipeIn g.pipe (mkLine p g.head t bad.toNat g.lines none false b)).voidFlush p

/-- A line of an in-line frame goes to its pipeline. -/
def State.frameIn (s : State) (p : Nat) (g : RxImg) (t : Trig) (bad lost : Bool) (b : List Byte) : State :=
  if lost then (s.frameLost p t).pipeIn g.pipe (s.missLine p g t g.lines)
  else (s.linePaired p t bad).pipeIn g.pipe (mkLine p g.head t bad.toNat g.lines (s.frameTag p g.seq) false b)

/-- A line of a through-memory frame goes to its slot; beyond the slot's end it is cut (R270). -/
def State.lineFb (s : State) (p i : Nat) (g : RxImg) (t : Trig) (bad lost : Bool) (b : List Byte) : State :=
  let s := if lost then s.frameLost p t else s.linePaired p t bad
  let (a, n) := s.fbSlot p i
  let o := 4096 + g.lines * (headLineBytes g.head)
  let past := decide (n < o + b.length)
  let s := if past then (if g.trunc then s else s.camReport p 0x300B i) else s
  let (err, s) := if past || lost then (none, s) else s.vwrite (0x4000 + p) 4 (a + o) b
  let f := if past then 10 + bad.toNat else if lost then 2 else bad.toNat + (if err.isSome then 2 else 0)
  let x := s.port p
  s.setPort p { x with fbs := x.fbs.map (fun r => if r.slot == i then { r with flags := r.flags ++ [f] } else r) }

/-- The last line of a frame has come: its trigger is paired, and a frame in memory is whole. -/
def State.frameEnd (s : State) (p : Nat) (g : RxImg) : State :=
  let x := s.port p
  let s := match g.trig with
    | some t => s.setPort p { x with outst := x.outst.erase t }
    | none => s
  let x := s.port p
  match g.fb with
  | some i => (s.setPort p { x with fbs := x.fbs.map (fun r => if r.slot == i then { r with whole := true } else r) }).fbRegs p
  | none => s

/-- The image being received goes on to its next line; with the last line of its height an accepted image ends. -/
def State.lineNext (s : State) (p : Nat) (g : RxImg) : State :=
  let g := { g with lines := g.lines + 1 }
  let s := s.putImg p g
  if g.head.height ≤ g.lines ∧ !g.rejected then (s.frameEnd p g).imgEnd p else s

/-- A line that no trigger caused: counted, and told once for each image (R247). -/
def State.lineUnsol (s : State) (p : Nat) (g : RxImg) : State :=
  let s := s.inc (R.CXP_CNT_UNSOL_COUNT p)
  (if g.told then s else s.camReport p 0x3008 0).lineNext p { g with told := true }

/-- The oldest outstanding line trigger, taken out. -/
def State.lineTrig (s : State) (p : Nat) : Option Trig × State :=
  let x := s.port p
  if s.fld (R.CXP_TRIG_CFG_SRC p) ≠ 1 then (none, s)
  else match x.outst with
    | t :: l => (some t, s.setPort p { x with outst := l })
    | [] => (none, s)

/-- One whole line of the image being received. -/
def State.rxLine (s : State) (p : Nat) (bad lost : Bool) (b : List Byte) : State :=
  match (s.port p).img with
  | none => s
  | some g =>
    let src := s.fld (R.CXP_TRIG_CFG_SRC p)
    if s.pst p = 5 then (s.inc (R.CXP_CNT_UNSOL_COUNT p)).lineNext p g
    else if s.camMute then (s.inc (R.CXP_CNT_DISCARD_COUNT p)).lineNext p g
    else if (s.camRec p).isNone then
      let s := s.inc (R.CXP_CNT_DISCARD_COUNT p)
      match s.lineTrig p with
      | (some t, s) => (if g.rejected then s.retire p t else (s.linePaired p t bad).voidFlush p).lineNext p g
      | (none, s) => (match g.trig with
          | some t => s.linePaired p t bad
          | none => s).lineNext p g
    else if g.rejected then
      match s.lineTrig p with
      | (some t, s) => (s.retire p t).lineNext p g
      | (none, s) => s.lineNext p g
    else if src = 1 then
      match s.lineTrig p with
      | (some t, s) => (s.lineIn p g t bad lost b).lineNext p { g with lost := g.lost + lost.toNat }
      | (none, s) => s.lineUnsol p g
    else match g.trig, g.fb with
      | none, _ => s.lineUnsol p g
      | some t, some i =>
        let past := decide ((s.fbSlot p i).2 < 4096 + g.lines * (headLineBytes g.head) + b.length)
        (s.lineFb p i g t bad lost b).lineNext p { g with trunc := g.trunc || past, lost := g.lost + lost.toNat }
      | some t, none => (s.frameIn p g t bad lost b).lineNext p { g with lost := g.lost + lost.toNat }

/-- Stream data that comes with no image header before it: how many lines it holds, no rule says; it is told once, until the
next header. [Log 44 DESIGN CHOICE] -/
def State.strayData (s : State) (p n : Nat) : State :=
  let (v, s) := s.fresh
  let lines := v % (n + 1)
  if s.pst p = 5 then s.inc (R.CXP_CNT_UNSOL_COUNT p) lines
  else if s.camMute ∨ (s.camRec p).isNone then s.inc (R.CXP_CNT_DISCARD_COUNT p) lines
  else
    let told := (s.port p).stray
    let s := (s.inc (R.CXP_CNT_UNSOL_COUNT p) lines).setPort p { s.port p with stray := true }
    if told then s else s.camReport p 0x3008 0

/-- Cuts received bytes into lines: `n` bounds their number. -/
def State.rxBytes (p : Nat) (bad lost : Bool) : Nat → State → List Byte → State
  | 0, s, _ => s
  | n + 1, s, b =>
    match (s.port p).img with
    | none => if b == [] then s else s.strayData p b.length
    | some g =>
      let want := (headLineBytes g.head) - g.buf.length
      if b.length < want ∨ want = 0 then
        s.setPort p { s.port p with img := some { g with buf := g.buf ++ b, bad := g.bad || (bad && b != []) } }
      else
        let s := s.setPort p { s.port p with img := some { g with buf := [], bad := false } }
        State.rxBytes p bad lost n (s.rxLine p (g.bad || bad) lost (g.buf ++ b.take want)) (b.drop want)

/-! ## Stream packets (R239, R240, R260) -/

/-- A packet of the stream is taken, in the order of the tags. A failed packet counts for its image. -/
def State.packet (s : State) (p : Nat) (k : CamPkt) : State :=
  match k with
  | .header h bad sym => s.header p h (bad || sym != 0)
  | .data b bad sym lost =>
    let bad := bad || sym != 0
    let x := s.port p
    let s := if bad then s.setPort p { x with img := x.img.map (fun g => { g with fails := g.fails + 1 }) } else s
    State.rxBytes p bad lost (b.length + 1) s b

/-- How far a tag is ahead of the next one. -/
def tagAhead (next tag : Nat) : Nat := (tag + 256 - next) % 256

/-- Takes the packets that have come with the next tag; `n` bounds their number. -/
def State.tagsTake (p : Nat) : Nat → State → State
  | 0, s => s
  | n + 1, s =>
    let x := s.port p
    match x.arrived.find? (fun e => e.1 == x.tagNext) with
    | none => s
    | some e =>
      let s := s.setPort p { x with arrived := x.arrived.erase e, tagNext := (x.tagNext + 1) % 256 }
      State.tagsTake p n (s.packet p e.2.2)

/-- A packet of an aggregated port waits for those of the tags before it. A tag that has not come 1 us after a later one is
given up. [Log 77 PRESUMED] -/
def State.tagsIn (s : State) (p tag : Nat) (k : CamPkt) : State :=
  let x := s.port p
  let late := x.arrived.any (fun e => decide (e.2.1 + 1000 < s.now))
  let next := if late then (x.arrived.foldl (fun m e => min m (tagAhead x.tagNext e.1)) 255 + x.tagNext) % 256 else x.tagNext
  let s := State.tagsTake p (x.arrived.length) (s.setPort p { x with tagNext := next })
  let y := s.port p
  State.tagsTake p (y.arrived.length + 1) (s.setPort p { y with arrived := y.arrived ++ [(tag, s.now, k)] })

/-- Whether a packet lies outside the subset of R239: another stream's, or a payload above 16,384 bytes. -/
def CamPkt.outside (k : CamPkt) (stream : Nat) : Bool :=
  stream != 0 || (match k with
    | .data b _ _ _ => decide (16384 < b.length)
    | .header .. => false)

/-- A stream packet arrives on a lane of a port with its tag. Its failure and its code and disparity errors are counted, as is
one outside the subset, which is discarded (R239, R260). [Log 44 DESIGN CHOICE] -/
def State.packetIn (s : State) (p lane tag stream : Nat) (k : CamPkt) : State :=
  if (s.pst p ≠ 4 ∧ s.pst p ≠ 5) ∨ !(s.portLanes p).contains lane then s
  else
    let (bad, sym) := match k with
      | .data _ bad sym _ => (bad, sym)
      | .header _ bad sym => (bad, sym)
    let s := s.inc (R.CXP_CNT_SYM_COUNT p) sym
    let s := if bad || sym != 0 then (s.inc (R.CXP_CNT_CRC_COUNT p)).total 11 else s
    let s := s.setPort p { s.port p with dataAt := s.now }
    if k.outside stream then s.inc (R.CXP_CNT_UNSOL_COUNT p)
    else if (s.portLanes p).length = 1 then s.packet p k
    else s.tagsIn p (tag % 256) k

/-! ## Watchdogs (R261) -/

/-- A line trigger has waited LINE_US. -/
def State.lineTimeout (s : State) (p : Nat) : State :=
  match (s.port p).outst with
  | t :: l =>
    if s.pst p = 4 ∧ s.fld (R.CXP_TRIG_CFG_SRC p) = 1 ∧ t.at_ + 1000 * s.fld (R.CXP_WDOG_LINE_US p) ≤ s.now then
      (((s.setPort p { s.port p with outst := l }).retire p t).camReport p 0x3004 t.num).portResync p
    else s
  | [] => s

/-- A frame trigger's image is not complete after FRAME_MS. -/
def State.frameTimeout (s : State) (p : Nat) : State :=
  match (s.port p).outst with
  | t :: l =>
    if s.pst p = 4 ∧ s.fld (R.CXP_TRIG_CFG_SRC p) ≠ 1 ∧ t.at_ + 1000000 * s.fld (R.CXP_WDOG_FRAME_MS p) ≤ s.now then
      (((s.setPort p { s.port p with outst := l }).retire p t).camReport p 0x3005 t.num).portResync p
    else s
  | [] => s

/-! ## Frames through memory (R252) -/

/-- Inserts a frame by when it was begun: (order, port, frame). -/
def oldestFrame (l : List (Nat × FbFrame)) : Option (Nat × FbFrame) :=
  l.foldl (fun (a : Option (Nat × FbFrame)) x =>
    match a with
    | none => some x
    | some y => if (x.2.trig.at_ < y.2.trig.at_) then some x else some y) none

/-- The through-memory context of a pipeline takes the oldest whole frame of its cameras and processes it. -/
def State.tmFrame (s : State) (k : Nat) : State :=
  let l := (List.range 8).flatMap (fun p => ((s.port p).fbs.filter (fun f => f.whole && f.pipe == k)).map (fun f => (p, f)))
  match oldestFrame l, s.ispRec k with
  | some (p, f), some r =>
    if !s.pipeFree k then s
    else
      let s := s.wholeStart p k f.seq true
      let (a, _) := s.fbSlot p f.slot
      let n := (headLineBytes f.head)
      let tag := s.frameTag p f.seq
      let (ls, s) := f.flags.zipIdx.foldl (fun (acc : List PLine × State) (e : Nat × Nat) =>
        let (fl, row) := e
        let m := mkLine p f.head f.trig fl row tag true []
        if fl.testBit 1 then (acc.1 ++ [{ m.line with void := true }], acc.2)
        else match acc.2.vread (0x3000 + k) 3 (a + 4096 + row * n) n with
          | (.ok b, s) => (acc.1 ++ [{ m with bytes := b }.enter], s)
          | (.error _, s) => (acc.1 ++ [{ m.line with void := true, flags := fl ||| 2 }], s)) ([], s)
      let s := s.pipeLines k true r ls
      let x := s.port p
      ((s.setPort p { x with fbs := x.fbs.filter (fun g => g.slot != f.slot) }).inc (R.ISP_CNT_TM_FRAMES_COUNT k)).fbRegs p
  | _, _ => s

/-! ## Rebinding (R268) -/

/-- The in-line load a pipeline would have with a port moved to it. -/
def State.pipeLoad (s : State) (k p : Nat) : Nat :=
  let cams := (s.img.active.map (·.cams)).getD []
  sumOf (cams.filter (fun c => c.port == p || (match (s.port c.port).rebind with
    | some j => j == k
    | none => s.fld (R.CXP_BIND_CURRENT c.port) == k))) (·.pxRate)

/-- A write of CXP_BIND. -/
def State.writeBind (s : State) (p v : Nat) : State :=
  let k := (R.CXP_BIND_NEXT p).of v
  let s := s.setF (R.CXP_BIND_NEXT p) k
  if (R.CXP_BIND_GO p).of v = 0 then s
  else match s.camRec p with
    | none => s.imgReport 0x200D k
    | some r =>
      let cams := (s.img.active.map (·.cams)).getD []
      let inl := !s.bit (R.CXP_BIND_MODE p)
      let other := cams.any (fun c => c.port != p && !s.bit (R.CXP_BIND_MODE c.port)
        && (s.fld (R.CXP_BIND_CURRENT c.port) == k || (s.port c.port).rebind == some k))
      if !r.alt.testBit k then s.imgReport 0x200D k
      else if inl && (other || decide (3200 < s.pipeLoad k p)) then s.camReport p 0x300D k
      else (s.setPort p { s.port p with rebind := some k }).setB (R.CXP_BIND_PENDING p) true

/-! ## The commands -/

/-- Runs an operation on a port that the device has. -/
def State.onPort (s : State) (p : Nat) (f : State → State) : Res := .next (if p < s.cxpPorts then f s else s)

/-- PORT_ENABLE (R243): a write of CXP_PORT_CFG. -/
def execPortEnable (port value : Nat) (s : State) : Res :=
  s.onPort port (fun s => s.regWrite (R.CXP_PORT_CFG port) value (·.writePortCfg port value))

/-- POCXP_POWERED (R243). -/
def execPocxpPowered (port : Nat) (s : State) : Res :=
  s.onPort port (fun s => if s.pst port = 1 ∧ s.portPowered port then s.portDiscover port else s)

/-- DISCOVER (R243): the outcome of discovery: success, or none within 500 ms. -/
def execDiscover (port : Nat) (ok : Bool) (s : State) : Res :=
  s.onPort port (fun s => if s.pst port ≠ 2 then s else if ok then s.portConfig port
    else if s.portFor port 500000000 then s.portDown port 0x3002 2 else s)

/-- CONFIG (R243): lock on every lane, or not within 200 ms. -/
def execConfig (port : Nat) (ok : Bool) (s : State) : Res :=
  s.onPort port (fun s => if s.pst port ≠ 3 then s else if ok then s.portUp port
    else if s.portFor port 200000000 then s.portDown port 0x3002 3 else s)

/-- CAMERA_LINK_DOWN (R243). -/
def execCameraLinkDown (port lane : Nat) (s : State) : Res :=
  s.onPort port (fun s => if (s.pst port = 4 ∨ s.pst port = 5) ∧ (s.portLanes port).contains lane
    ∧ !(s.ln lane).retrain then s.portDown port 0x3001 lane else s)

/-- DOWN_RETRY (R243): 100 ms after the port went DOWN. -/
def execDownRetry (port : Nat) (s : State) : Res :=
  s.onPort port (fun s => if s.pst port = 6 ∧ s.portFor port 100000000 then (s.inc (R.CXP_CNT_RETRY_COUNT port)).portDiscover port else s)

/-- Whether no stream data has come for LINE_US under LINE_ENC, and otherwise for 1 ms (R262). -/
def State.portQuiet (s : State) (p : Nat) : Bool :=
  let us := if s.fld (R.CXP_TRIG_CFG_SRC p) = 1 then s.fld (R.CXP_WDOG_LINE_US p) else 1000
  decide ((s.port p).dataAt + 1000 * us ≤ s.now)

/-- RESYNC_END (R262). -/
def execResyncEnd (port : Nat) (s : State) : Res :=
  s.onPort port (fun s => if s.pst port = 5 ∧ s.portQuiet port then s.portGo port 4 else s)

/-- CTRL_TRANSACTION (R244): a write of CXP_CTRL_CMD. -/
def execCtrlTransaction (port value : Nat) (s : State) : Res :=
  s.onPort port (fun s => s.regWrite (R.CXP_CTRL_CMD port) value (·.ctrlStart port value))

/-- CTRL_ACK (R244). -/
def execCtrlAck (port code : Nat) (negative : Bool) (data : Nat) (bad : Bool) (s : State) : Res :=
  s.onPort port (·.ctrlAck port code negative data bad)

/-- CTRL_TIMEOUT (R244). -/
def execCtrlTimeout (port : Nat) (s : State) : Res := s.onPort port (·.ctrlLate port)

/-- FRAME_TIME_TRIGGER (R242). [Log 44 DESIGN CHOICE] -/
def execFrameTimeTrigger (port : Nat) (s : State) : Res := s.onPort port (·.frameTime port)

/-- SOFT_TRIGGER (R242): a write of CXP_TRIG_SOFT. -/
def execSoftTrigger (port value : Nat) (s : State) : Res :=
  s.onPort port (fun s => s.regWrite (R.CXP_TRIG_SOFT port) value (·.softTrig port value))

/-- DELAYED_TRIGGER (R265). -/
def execDelayedTrigger (port : Nat) (s : State) : Res := s.onPort port (·.trigDelayed port)

/-- TRIG_CFG_WRITE (R265): a write of CXP_TRIG_CFG. -/
def execTrigCfgWrite (port value : Nat) (s : State) : Res :=
  s.onPort port (fun s => s.regWrite (R.CXP_TRIG_CFG port) value (·.writeTrig port value))

/-- STREAM_PACKET (R260): a packet of image data on a lane, with its tag and its stream. -/
def execStreamPacket (port lane tag : Nat) (bytes : List Byte) (bad : Bool) (symErrs stream : Nat) (lost : Bool) (s : State) :
    Res :=
  s.onPort port (·.packetIn port lane tag stream (.data bytes bad symErrs lost))

/-- IMAGE_HEADER (R264): a packet that carries an image header. -/
def execImageHeader (port lane tag : Nat) (head : ImgHead) (bad : Bool) (symErrs : Nat) (s : State) : Res :=
  s.onPort port (·.packetIn port lane tag head.stream (.header head bad symErrs))

/-- LINE_TIMEOUT (R261). -/
def execLineTimeout (port : Nat) (s : State) : Res := s.onPort port (·.lineTimeout port)

/-- FRAME_TIMEOUT (R261). -/
def execFrameTimeout (port : Nat) (s : State) : Res := s.onPort port (·.frameTimeout port)

/-- PIPELINE_LINE (R253). -/
def execPipelineLine (pipe : Nat) (s : State) : Res := .next (if pipe < 4 then s.pipeLine pipe else s)

/-- PART_IMAGE_COMPLETE (R250). [Log 44 DESIGN CHOICE] -/
def execPartImageComplete (pipe : Nat) (s : State) : Res := .next (if pipe < 4 then s.partComplete pipe else s)

/-- THROUGH_MEMORY_FRAME (R252). -/
def execThroughMemoryFrame (pipe : Nat) (s : State) : Res := .next (if pipe < 4 then s.tmFrame pipe else s)

/-- REBIND_REQUEST (R268): a write of CXP_BIND. -/
def execRebindRequest (port value : Nat) (s : State) : Res :=
  s.onPort port (fun s => s.regWrite (R.CXP_BIND port) value (·.writeBind port value))

/-- REBIND_SWITCH (R269): the switch at the next image header. -/
def execRebindSwitch (port : Nat) (s : State) : Res := s.onPort port (·.rebindSwitch port)

/-- OUT_HEAD_WRITE (R257): a write of ISP_OUT_HEAD. -/
def execOutHeadWrite (pipe value : Nat) (s : State) : Res :=
  .next (if pipe < 4 then s.regWrite (R.ISP_OUT_HEAD pipe) value (·.writeOutHead pipe value) else s)

/-- PIPE_CELL_WRITE (R259): a write of ISP_PIPE_CELL. -/
def execPipeCellWrite (pipe value : Nat) (s : State) : Res :=
  .next (if pipe < 4 then s.regWrite (R.ISP_PIPE_CELL pipe) value (·.writePipeCell pipe value) else s)

/-- CXP_EVENT_PACKET (R239): an event is counted, a heartbeat ignored. -/
def execCxpEventPacket (port : Nat) (event : Bool) (s : State) : Res :=
  s.onPort port (fun s => if event then s.inc (R.CXP_CNT_EVENT_COUNT port) else s)

end Sys2Proof.Machine
end

