-- ==== Sys2Proof/Machine/Ring.lean ====
section
/-! DEFINITION. Ring: link training, framing and retry, discovery, quiescence, layout changes and re-sharding of the
Tlasa ring (R376 to R392, R548, R549). -/

namespace Sys2Proof.Machine

/-! ## Names of the ring -/

/-- The lanes of a side: 0 west, 1 east. -/
def sideLanes (w : Nat) : List Nat := (List.range 4).map (16 + 4 * w + ·)

/-- A side of the ring unit. -/
def State.side (s : State) (w : Nat) : RSide := s.ring.sides.getD w {}

/-- Puts a side back. -/
def State.setSide (s : State) (w : Nat) (x : RSide) : State := { s with ring.sides := setAt s.ring.sides w x }

/-- A link's state: 0 DOWN, 1 TRAIN, 2 UP, 3 SLEEP, 4 TEST. -/
def State.link (s : State) (w : Nat) : Nat := s.fld (R.RING_SIDE_STATUS_LINK w)

/-- The ring's state (R384). -/
def State.rst (s : State) : Nat := s.fld R.RING_STATUS_STATE

/-- The link carries frames. -/
def State.linkUp (s : State) (w : Nat) : Bool := s.link w == 2 || s.link w == 3

/-- Own position, and the ring's size. -/
def State.rpos (s : State) : Nat := s.fld R.RING_TOPO_POSITION
def State.rsize (s : State) : Nat := s.fld R.RING_TOPO_SIZE

/-- A ring status (R394). -/
def State.ringReport (s : State) (sts detail : Nat) : State := s.report R.RING_STATUS_LAST_STS sts detail

/-- A limited one, by side; `n` events of it. -/
def State.ringLimited (s : State) (sts : Nat) (detail : Nat → Nat) (side : Nat) (n : Nat := 1) : State :=
  s.reportLimited R.RING_STATUS_LAST_STS sts detail side 1 n

/-- The ring role of the active image. -/
def State.ringRec (s : State) : Option RingRec := s.img.active.bind (fun im => im.rings.head?)

/-- LOCAL_READY (R382), and the drive of the bypass switches with it (R94). -/
def State.ringReady (s : State) : State :=
  let ok := s.ringRec.isSome && s.bit R.RING_CTRL_EN && s.hasRing
    && (sideLanes 0 ++ sideLanes 1).all (fun l => !s.laneDown l)
    && s.synth 4 == 3 && s.synth 5 == 3 && s.rst != 7
  let was := s.bit R.RING_STATUS_LOCAL_READY
  let s := s.setB R.RING_STATUS_LOCAL_READY ok
  if ok == was then s else if ok then s.relays else s.relaysFall

/-- Moves the ring unit to a state. -/
def State.ringGo (s : State) (st : Nat) : State := (s.setF R.RING_STATUS_STATE st).ringReady

/-! ## Sending (R377, R378, R381) -/

/-- The words of a frame's header as it leaves: VC, SRC, DST, SEQ, ACK_SEQ, E2E_SEQ, LEN, ENDPOINT, EPOCH, OP, then the
contents of a CTRL frame. -/
def RFrame.head (f : RFrame) (seq ack : Nat) : List Nat :=
  [f.vc, f.src, f.dst, seq, ack, f.e2e, f.payload.length, f.endpoint, f.epoch, f.op] ++ f.info
    ++ f.members.flatMap (fun m => [m.position, m.serial, m.size])

/-- The CRC of a DATA frame's trailer, over its header and payload. The contents of a CTRL frame are not laid out, so it
has none here. -/
def RFrame.crc (f : RFrame) (seq ack : Nat) : List Nat :=
  if f.ty ≠ 0 then []
  else [crc32 (leBytes 1 f.ty ++ leBytes 1 f.vc ++ leBytes 1 f.src ++ leBytes 1 f.dst ++ leBytes 2 seq
    ++ leBytes 2 (ack + 2 ^ 15) ++ leBytes 2 f.e2e ++ leBytes 2 f.payload.length ++ leBytes 2 f.endpoint
    ++ leBytes 1 f.epoch ++ leBytes 1 f.op ++ f.payload)]

/-- Puts a frame on the wire. -/
def State.ringEmit (s : State) (w : Nat) (f : RFrame) (seq : Nat) : State :=
  let ack := (s.side w).expect
  s.emit (.ring w f.ty (f.head seq ack ++ f.crc seq ack)
    (f.payload ++ f.members.flatMap (fun m => leBytes 1 m.position ++ leBytes 8 m.serial ++ leBytes 1 m.size ++ m.digest)))

/-- A frame to send wakes a sleeping direction: L0, the wake pattern (R381). -/
def State.ringWake (s : State) (w : Nat) : State :=
  if !(s.side w).txSleep then s
  else
    let s := s.setSide w { s.side w with txSleep := false }
    let s := (sideLanes w).foldl (fun (s : State) (l : Nat) => (s.txCmd l 0).emit (.lane l 4)) s
    if (s.side w).rxSleep then s else s.setF (R.RING_SIDE_STATUS_LINK w) 2

/-- Sends the frames that wait, while the retry buffer holds fewer than WINDOW. [Log 48 DESIGN CHOICE] -/
def State.ringPush (w : Nat) : Nat → State → State
  | 0, s => s
  | n + 1, s =>
    let x := s.side w
    match x.wait with
    | [] => s
    | f :: rest =>
      if !s.linkUp w || decide (x.window ≤ x.buf.length) then s
      else
        let s := s.ringWake w
        let x := s.side w
        let s := (s.ringEmit w f x.next).inc (R.RING_SIDE_FRAMES_TX_COUNT w)
        State.ringPush w n (s.setSide w { x with
          wait := rest, next := (x.next + 1) % 4096
          buf := x.buf ++ [(⟨x.next, f, 0, s.now, s.now⟩ : RSent)] })

/-- Gives a frame to a side to send. -/
def State.ringSend (s : State) (w : Nat) (f : RFrame) : State :=
  let s := s.setSide w { s.side w with wait := (s.side w).wait ++ [f] }
  State.ringPush w (s.side w).wait.length s

/-- A CTRL frame of this module. -/
def State.ringCtrl (s : State) (dst op : Nat) (info : List Nat := []) (members : List RingMember := []) : RFrame :=
  { ty := 3, src := s.rpos, dst := dst, op := op, epoch := s.fld R.RING_TOPO_EPOCH, info := info, members := members }

/-- Sends a frame on to the other side than it came from; at the end of a line it turns back. -/
def State.ringOn (s : State) (w : Nat) (f : RFrame) : State :=
  if s.linkUp (1 - w) ∨ f.ty = 0 then s.ringSend (1 - w) f else s.ringSend w f

/-- Sends a CTRL frame both ways round. -/
def State.ringBoth (s : State) (f : RFrame) : State :=
  let s := if s.linkUp 0 then s.ringSend 0 f else s
  if s.linkUp 1 then s.ringSend 1 f else s

/-! ## Injection at the source (R380, R384) -/

/-- Present positions met going east from one position to another, the last one included. -/
def hopsEast (present size src dst : Nat) : Nat :=
  ((List.range ((dst + size - src) % max 1 size)).filter (fun k => present.testBit ((src + k + 1) % max 1 size))).length

/-- Whether a destination lies before the broken link of a direction (R384): none is known, or it is no farther than the
module whose LINK_DOWN came in there. -/
def State.ringReach (s : State) (w dst : Nat) : Bool :=
  let n := s.rsize
  let far := fun (p : Nat) => if w = 1 then (p + n - s.rpos) % max 1 n else (s.rpos + n - p) % max 1 n
  s.linkUp w && match (s.side w).cut with
    | some (p, _) => decide (far dst ≤ far p)
    | none => true

/-- The direction to a destination: fewer hops, east on a tie, or the only one that reaches it. -/
def State.ringDir (s : State) (dst : Nat) : Nat :=
  if !s.ringReach 0 dst then 1
  else if !s.ringReach 1 dst then 0
  else
    let p := s.fld R.RING_TOPO_PRESENT
    if hopsEast p s.rsize s.rpos dst ≤ hopsEast p s.rsize dst s.rpos then 1 else 0

/-- Injects a DATA frame: dropped for an absent position, held while the ring carries none. [Log 48 DESIGN CHOICE] -/
def State.ringInject (s : State) (f : RFrame) : State :=
  if !(s.fld R.RING_TOPO_PRESENT).testBit f.dst then
    (s.inc R.RING_CNT_DST_ABSENT_COUNT).ringLimited 0x710A (fun _ => f.dst) (s.ringDir f.dst)
  else if s.ring.stop || !(s.rst == 4 || s.rst == 5) then { s with ring.held := s.ring.held ++ [f] }
  else
    let k := f.dst * 4 + f.vc
    let n := Sparse.get s.ring.e2eTx k 0
    let s := { s with ring.e2eTx := Sparse.put s.ring.e2eTx k ((n + 1) % 65536) 0 }
    s.ringSend (s.ringDir f.dst) { f with e2e := n, epoch := s.fld R.RING_TOPO_EPOCH }

/-- A held frame that already has its E2E_SEQ goes out again, with the new epoch; none for an absent position (R388). -/
def State.ringAgain (s : State) (f : RFrame) : State :=
  if !(s.fld R.RING_TOPO_PRESENT).testBit f.dst then
    (s.inc R.RING_CNT_DST_ABSENT_COUNT).ringLimited 0x710A (fun _ => f.dst) (s.ringDir f.dst)
  else s.ringSend (s.ringDir f.dst) { f with epoch := s.fld R.RING_TOPO_EPOCH }

/-- The frames held go out, those of a lost link first (R388). -/
def State.ringRelease (s : State) : State :=
  let old := s.ring.lostHeld
  let new := s.ring.held
  let s := { s with ring.stop := false, ring.lostHeld := [], ring.held := [], ring.owed := [] }
  new.foldl State.ringInject (old.foldl State.ringAgain s)

/-! ## Re-sharding (R548, R549) -/

/-- The bytes of one shard that another covers: the offset and the length. -/
def shardCut (a b : ShardRec) : Nat × Nat :=
  let lo := max a.srcOff b.srcOff
  let hi := min (a.srcOff + a.len) (b.srcOff + b.len)
  (lo, hi - lo)

/-- What a sender owes for a shard of the new layout, in ascending offset: whence, whereto and the length. -/
def shardPieces (m : LayoutRec) (q : Nat) (s' : ShardRec) : List (Nat × Nat × Nat) :=
  ((m.shards.filter (fun t => t.pos == q && t.model == s'.model && (shardCut t s').2 != 0)).mergeSort
      (fun a b => decide ((shardCut a s').1 ≤ (shardCut b s').1))).map (fun t =>
    let c := shardCut t s'
    (t.dstVa + (c.1 - t.srcOff), s'.dstVa + (c.1 - s'.srcOff), c.2))

/-- What a sender owes, shard by shard in entry order: the owner and the pieces. -/
def shardSends (m n : LayoutRec) (q : Nat) : List (Nat × List (Nat × Nat × Nat)) :=
  (n.shards.map (fun s' => (s'.pos, shardPieces m q s'))).filter (fun x => !x.2.isEmpty)

/-- The pieces a sender owes one receiver, in order. -/
def owedPieces (m n : LayoutRec) (q p : Nat) : List (Nat × Nat × Nat) :=
  ((shardSends m n q).filter (·.1 == p)).flatMap (·.2)

/-- Bytes of a receiver's shards that no shard of the old layout covers. -/
def uncovered (m n : LayoutRec) (p : Nat) : Nat :=
  sumOf (n.shards.filter (·.pos == p)) (fun s' =>
    s'.len - min s'.len (sumOf (m.shards.filter (·.model == s'.model)) (fun t => (shardCut t s').2)))

/-- Cuts a piece into the frames that carry it. -/
def pieceFrames (src va : Nat) : Nat → Nat → List RPiece
  | 0, _ => []
  | k + 1, len => if len ≤ 512 then [⟨src, va, len⟩] else ⟨src, va, 512⟩ :: pieceFrames src (va + 512) k (len - 512)

/-- A status of a re-shard: SCHED_STATUS and SCHED_RS_STATUS show it, and its detail is the layout (R554, R558). -/
def State.reshardReport (s : State) (sts layout : Nat) : State :=
  (s.report R.SCHED_STATUS_LAST_STS sts layout).setF R.SCHED_RS_STATUS_LAST_STS sts

/-- Reads for a re-shard to a layout; a failed read is reported, and gives free bytes no one may rely on.
[Log 50 DESIGN CHOICE] -/
def State.reshardRead (s : State) (layout va n : Nat) : List Byte × State :=
  match s.vread 0xB000 0xB va n with
  | (.ok b, s) => (b, s)
  | (.error _, s) =>
    let (l, s) := (s.reshardReport 0x9103 layout).freshList n
    (l.map (BitVec.ofNat 8 ·), s)

/-- Writes for a re-shard to a layout; a failed write is reported. -/
def State.reshardWrite (s : State) (layout va : Nat) (b : List Byte) : State :=
  match s.vwrite 0xB000 0xB va b with
  | (none, s) => s
  | (some _, s) => s.reshardReport 0x9103 layout

/-- Sends a piece to a receiver in frames of 512 bytes. -/
def State.sendPiece (dst layout : Nat) : Nat → State → Nat → Nat → State
  | 0, s, _, _ => s
  | k + 1, s, va, len =>
    let n := min 512 len
    let (b, s) := s.reshardRead layout va n
    let s := s.ringInject { src := s.rpos, dst := dst, endpoint := 0xB000, payload := b }
    State.sendPiece dst layout k s (va + n) (len - n)

/-- The inbound re-shard ends once every owing position has ended: the record is written and the cell incremented. -/
def State.reshardEnd (s : State) : State :=
  match s.ring.reshard with
  | none => s
  | some r =>
    if r.ends ≠ [] then s
    else
      let s := { s with ring.reshard := none }.setB R.SCHED_RS_STATUS_BUSY false
      let s := if r.missing = 0 ∧ r.lost = 0 then s.setF R.SCHED_RS_STATUS_LAST_STS 0 else s
      let s := if r.missing = 0 then s else s.reshardReport 0x9101 r.layout
      let s := if r.lost = 0 then s else s.reshardReport 0x9102 r.layout
      let sts := if r.missing ≠ 0 then 0x9101 else if r.lost ≠ 0 then 0x9102 else 0
      let rec_ := leBytes 2 sts ++ [0, 0] ++ leBytes 4 r.bytesIn ++ leBytes 4 r.missing ++ leBytes 4 r.lost
      let s := s.reshardWrite r.layout r.statusVa rec_
      let s := (s.cellAdd r.cell 1 0xB000 none).2
      if sts = 0 then s else s.voided R.SYS_REPRO_STATUS_R_RESHARD

/-- What this module owes goes out shard by shard, its own pieces are copied, and each receiver gets its end frame after
its last piece (R548). -/
def State.reshardSend (layout : Nat) : List (Nat × List (Nat × Nat × Nat)) → State → State
  | [], s => s
  | (p, l) :: rest, s =>
    let s :=
      if p = s.rpos then
        l.foldl (fun (s : State) (c : Nat × Nat × Nat) =>
          let (b, s) := s.reshardRead layout c.1 c.2.2
          s.reshardWrite layout c.2.1 b) s
      else
        let s := l.foldl (fun (s : State) (c : Nat × Nat × Nat) =>
          State.sendPiece p layout ((c.2.2 + 511) / 512) s c.1 c.2.2) s
        if rest.any (fun x => x.1 == p) then s else s.ringInject { src := s.rpos, dst := p, endpoint := 0xB000 }
    State.reshardSend layout rest s

/-- The re-shard at a change of layout: what this module owes goes out, what it holds itself is copied, and its inbound
side opens. -/
def State.reshardStart (s : State) (old new : LayoutRec) : State :=
  let me := s.rpos
  let present := s.fld R.RING_TOPO_PRESENT
  let s := State.reshardSend new.layout (shardSends old new me) s
  let from_ := (List.range s.rsize).filter (fun q => q != me && (owedPieces old new q me) != [])
  let here := from_.filter (fun q => present.testBit q)
  let away := from_.filter (fun q => !present.testBit q)
  let pieces := here.flatMap (fun q => (owedPieces old new q me).flatMap (fun c => pieceFrames q c.2.1 (c.2.2 / 512 + 1) c.2.2))
  let missing := uncovered old new me + sumOf away (fun q => sumOf (owedPieces old new q me) (·.2.2))
  let local_ := sumOf (owedPieces old new me me) (·.2.2)
  let s := ((s.setB R.SCHED_RS_STATUS_BUSY true).setF R.SCHED_RS_STATUS_LAYOUT new.layout).inc R.SCHED_RS_BYTES_BYTES local_
  { s with ring.reshard := some ⟨pieces, here, new.cell, new.statusVa, local_, missing, 0, new.layout⟩ }.reshardEnd

/-- Positions absent in a topology that takes effect: what they still owe counts as MISSING (R549). -/
def Reshard.absent (r : Reshard) (present : Nat) : Reshard :=
  { r with
    pieces := r.pieces.filter (fun p => present.testBit p.src)
    ends := r.ends.filter (fun q => present.testBit q)
    missing := r.missing + sumOf (r.pieces.filter (fun p => !present.testBit p.src)) (·.len) }

/-- Frames of a source are lost: the pieces they carried count as LOST. -/
def losePieces (src : Nat) : Nat → List RPiece → List RPiece × Nat
  | 0, l => (l, 0)
  | _, [] => ([], 0)
  | k + 1, p :: l =>
    if p.src = src then let t := losePieces src k l; (t.1, p.len + t.2)
    else let t := losePieces src (k + 1) l; (p :: t.1, t.2)

/-- A frame of a re-shard arrives: bytes go to the next piece of its source; an end frame ends the source, whose pieces
still missing are lost. -/
def State.reshardFrame (s : State) (src lost : Nat) (b : List Byte) : State :=
  match s.ring.reshard with
  | none => s
  | some r =>
    let (l, n) := losePieces src lost r.pieces
    let r := { r with pieces := l, lost := r.lost + n }
    if b = [] then
      let rest := sumOf (r.pieces.filter (·.src == src)) (·.len)
      { s with ring.reshard := some { r with
          pieces := r.pieces.filter (fun p => p.src != src)
          ends := r.ends.filter (· != src)
          lost := r.lost + rest } }
    else match r.pieces.find? (·.src == src) with
      | none => { s with ring.reshard := some r }
      | some p =>
        let s := { s with ring.reshard := some { r with
          pieces := (losePieces src 1 r.pieces).1
          bytesIn := r.bytesIn + p.len } }
        (s.inc R.SCHED_RS_BYTES_BYTES p.len).reshardWrite r.layout p.va (b.take p.len)

/-! ## Quiescence (R385 to R389) -/

/-- No retry buffer and no queue of a side holds a DATA frame. -/
def RSide.empty (x : RSide) : Bool := x.buf.all (·.frame.ty != 0) && x.wait.all (·.ty != 0)

/-- A module forwards the QUIESCED frames that wait once its own buffers are empty. [Log 49 DESIGN CHOICE] -/
def State.quiesceOn (s : State) : State :=
  if s.ring.owed = [] ∨ !(s.side 0).empty ∨ !(s.side 1).empty then s
  else
    let l := s.ring.owed
    let src := s.fld R.RING_TOPO_MASTER_POS
    let s := { s with ring.owed := [] }
    l.foldl (fun (s : State) (w : Nat) => s.ringOn w { s.ringCtrl 0xFF 3 with src := src }) s

/-- The change in progress ends; a layout change is carried into the next quiescence (R389). -/
def Ring.carry (r : Ring) : Ring :=
  { r with cur := none, back := 0, owed := [], queue := (r.cur.filter (·.layout.isSome)).toList ++ r.queue }

/-- Stops the injection of DATA frames. -/
def State.ringStop (s : State) : State :=
  if s.ring.stop then s else { s with ring.stop := true, ring.stopAt := s.now }

/-- The master begins its next change, unless an inbound re-shard is open (R550): QUIESCE goes both ways, and QUIESCED after it
once its own buffers are empty. -/
def State.masterStart (s : State) : State :=
  if !s.bit R.RING_STATUS_MASTER || s.ring.cur.isSome then s
  else
    let begin_ := fun (s : State) (c : RChange) =>
      let s := { s.ringStop with ring.cur := some c, ring.back := 0, ring.stopAt := s.now }
      let s := s.ringBoth (s.ringCtrl 0xFF 2)
      { s with ring.owed := (if s.linkUp 1 then [0] else []) ++ (if s.linkUp 0 then [1] else []) }.quiesceOn
    match s.ring.topo with
    | some t => begin_ { s with ring.topo := none } { topo := some t }
    | none =>
      match s.ring.queue with
      | c :: l => if s.ring.reshard.isSome ∨ !(s.rst = 4 ∨ s.rst = 5) then s
                  else begin_ { s with ring.queue := l } c
      | [] => s

/-- A layout of the ring role. -/
def State.layout (s : State) (n : Nat) : Option LayoutRec := s.ringRec.bind (fun r => r.layouts[n]?)

/-- The master that a requester waits for is not present any more: the change ends (R389). -/
def State.masterGone (s : State) (present : Nat) : State :=
  if s.bit R.RING_LAYOUT_BUSY && !present.testBit (s.fld R.RING_TOPO_MASTER_POS) then
    (s.setB R.RING_LAYOUT_BUSY false).ringReport 0x7108 0
  else s

/-- The lowest position present. -/
def lowPos (present : Nat) : Nat := ((List.range 8).find? (fun p => present.testBit p)).getD 0

/-- A re-shard that runs waits no longer for the modules that are absent. -/
def State.reshardCut (s : State) (present : Nat) : State :=
  { s with ring.reshard := s.ring.reshard.map (Reshard.absent · present) }

/-- SWITCH changes the topology, the epoch, the layout and the ring's state. -/
def State.switchTopo (s : State) (layout present epoch : Nat) : State :=
  let us := (s.now - s.ring.stopAt) / 1000
  let s := if s.ring.stop then (s.inc R.RING_CNT_QUIESCE_COUNT).raise R.RING_QUIESCE_US_COUNT us else s
  let s := (s.setF R.RING_TOPO_EPOCH epoch).setF R.RING_LAYOUT_CURRENT layout
  let s := ((s.setF R.RING_TOPO_PRESENT present).masterGone present).reshardCut present
  let low := lowPos present
  let s := (s.setF R.RING_TOPO_MASTER_POS low).setB R.RING_STATUS_MASTER (low == s.rpos)
  let full := (List.range s.rsize).all (fun p => present.testBit p)
  let whole := [0, 1].all (fun w => s.linkUp w && (s.side w).cut.isNone)
  s.ringGo (if full && whole then 4 else 5)

/-- SWITCH is applied: the topology, the epoch and the layout change, the re-shard starts, and the held frames go out. -/
def State.switchApply (s : State) (layout present epoch : Nat) : State :=
  let was := s.fld R.RING_TOPO_PRESENT
  let old := s.fld R.RING_LAYOUT_CURRENT
  let s := s.switchTopo layout present epoch
  let s := if present = was then s else s.ringReport 0x710C present
  let s := if s.bit R.RING_LAYOUT_BUSY && s.fld R.RING_LAYOUT_NEXT == layout then s.setB R.RING_LAYOUT_BUSY false else s
  let s := s.ringBoth { s.ringCtrl 0xFF 4 [layout, present, epoch] with src := lowPos present }
  let s := s.ringRelease
  if layout = old then s
  else match s.layout old, s.layout layout with
    | some m, some n => s.reshardStart m n
    | _, _ => s

/-- QUIESCED is back from both directions (or the one a line has): the master sends SWITCH. -/
def State.masterSwitch (s : State) : State :=
  match s.ring.cur with
  | none => s
  | some c =>
    let need := (if s.linkUp 0 then 1 else 0) + (if s.linkUp 1 then 2 else 0)
    if s.ring.back &&& need ≠ need then s
    else
      let s := { s with ring.cur := none, ring.back := 0 }
      let layout := match c.layout with | some l => l.1 | none => s.fld R.RING_LAYOUT_CURRENT
      (s.switchApply layout (c.topo.getD (s.fld R.RING_TOPO_PRESENT)) ((s.fld R.RING_TOPO_EPOCH + 1) % 256)).masterStart

/-- The new topology: the lowest present position runs its quiescence. -/
def State.topoNew (s : State) (present : Nat) : State :=
  let low := lowPos present
  if low ≠ s.rpos then s
  else
    let s := s.masterGone present
    let s := (s.setB R.RING_STATUS_MASTER true).setF R.RING_TOPO_MASTER_POS low
    { s with ring := { s.ring.carry with topo := some present } }.masterStart

/-! ## Links (R376, R388, R390) -/

/-- A side carries no frames any more: its DATA frames not acknowledged are held (R388). -/
def State.linkDrop (s : State) (w : Nat) : State :=
  let x := s.side w
  let data := (x.buf.map (·.frame) ++ x.wait).filter (fun f => f.ty == 0)
  let s := { s with ring.lostHeld := s.ring.lostHeld ++ data, ring.asking := false }
  let s := s.setSide w { window := x.window, ackTmo := x.ackTmo, retryMax := x.retryMax, lostAt := x.lostAt }
  let s := (sideLanes w).foldl (fun (s : State) (l : Nat) =>
    (s.setB (R.LANE_STATUS_RX_INV_DET l) false).rxUnlock l) s
  ((s.setF (R.RING_SIDE_STATUS_LANES_UP w) 0).setF (R.RING_SIDE_STATUS_LINK w) 0).quiesceOn

/-- A side trains, and its link takes the written configuration (R376, R392). -/
def State.linkTrain (s : State) (w : Nat) : State :=
  let s := s.linkDrop w
  let s := s.setSide w { s.side w with
    window := s.fld R.RING_LINK_CFG_WINDOW
    ackTmo := s.fld R.RING_RETRY_CFG_ACK_TMO_NS
    retryMax := s.fld R.RING_RETRY_CFG_RETRY_MAX }
  let s := (sideLanes w).foldl (fun (s : State) (l : Nat) =>
    let s := if s.rxOf l = 0 then s else s.rxGo l 0
    let s := s.setLn l { s.ln l with guardAt := none }
    if s.txOf l = 0 ∨ (s.ln l).held.isSome then s else s.txCmd l 0) s
  (s.setF (R.RING_SIDE_STATUS_LINK w) 1).inc (R.RING_SIDE_TRAIN_COUNT w)

/-- The ring recovers (R388): injection stops, and a quiescence in progress starts anew with the topology (R389). -/
def State.ringBreak (s : State) : State :=
  let s := s.ringStop
  { s with ring := s.ring.carry }.ringGo 6

/-- A link is lost, or with `test` taken out of service: in COMPLETE or DEGRADED LINK_DOWN goes the other way and the ring
recovers. -/
def State.linkLost (s : State) (w : Nat) (test : Bool) : State :=
  let live := s.rst = 4 ∨ s.rst = 5
  let s := if s.linkUp w then s.setSide w { s.side w with lostAt := some s.now } else s
  let s := if test then (s.linkDrop w).setF (R.RING_SIDE_STATUS_LINK w) 4 else s.linkTrain w
  if live then
    let s := (s.ringReport 0x7106 w).ringBreak
    if s.linkUp (1 - w) then s.ringSend (1 - w) (s.ringCtrl 0xFF 5) else s
  else s

/-- The switches have reached bypass: the die lanes are disconnected (R93). Both links are down, what this module had under
way on the ring ends, and it is LOCAL until it is inserted again. [Log 49 DESIGN CHOICE] -/
def State.ringLeft (s : State) : State :=
  let live := s.rst = 4 ∨ s.rst = 5
  let s := [0, 1].foldl (fun (s : State) (w : Nat) =>
    let s := if live ∧ s.linkUp w then s.ringReport 0x7106 w else s
    if s.link w = 4 then s
    else
      let s := s.linkDrop w
      s.setSide w { s.side w with lostAt := none }) s
  let s := { s with ring := { s.ring with
    cur := none, back := 0, owed := [], queue := [], topo := none, topoAt := none, stop := false } }
  let s := if s.bit R.RING_LAYOUT_BUSY then (s.setB R.RING_LAYOUT_BUSY false).ringReport 0x7108 0 else s
  let s := s.setB R.RING_STATUS_MASTER false
  if 2 ≤ s.rst ∧ s.rst ≤ 6 then s.ringGo 1 else s

/-- The SHA-256 of the image's ring layouts, its first 8 bytes (R383). -/
def layoutBytes (l : LayoutRec) : List Byte :=
  leBytes 1 l.layout ++ [0] ++ leBytes 2 l.shards.length ++ leBytes 2 l.cell ++ [0, 0] ++ leBytes 8 l.statusVa
    ++ List.replicate 16 0
    ++ l.shards.flatMap (fun h => leBytes 2 h.model ++ leBytes 1 h.pos ++ [0] ++ leBytes 4 h.len ++ leBytes 8 h.srcOff
      ++ leBytes 8 h.dstVa ++ List.replicate 8 0)

/-- What this module puts into a DISCOVER frame. -/
def State.member (s : State) : RingMember :=
  ⟨s.rpos, s.fld R.SYS_SERIAL_LO_SERIAL_LO + 2 ^ 32 * s.fld R.SYS_SERIAL_HI_SERIAL_HI, s.rsize,
   (sha256 (((s.ringRec.map (·.layouts)).getD []).flatMap layoutBytes)).take 8⟩

/-- Once both links are up, DISCOVER goes east, unless the own one is on its way already. A line discovers again too.
[Log 49 DESIGN CHOICE] -/
def State.discoverStart (s : State) : State :=
  if s.linkUp 0 ∧ s.linkUp 1 ∧ !s.ring.asking ∧ (s.rst = 2 ∨ s.rst = 5 ∨ s.rst = 6) then
    let s := if s.rst = 2 then s.ringGo 3 else s
    { s with ring.asking := true }.ringSend 1 (s.ringCtrl 0xFF 1 [] [s.member])
  else s

/-- The longest run of absent positions going round, and where it starts. -/
def absentRun (present size : Nat) : Option Nat :=
  (List.range size).find? (fun p => (List.range 3).all (fun k => !present.testBit ((p + k) % max 1 size))
    && present.testBit ((p + size - 1) % max 1 size))

/-- Judges the ring by its members in east-going order, own first (R383). The frame has gone all the way round, so no
broken link is known any more. -/
def State.ringJudge (s : State) (l : List RingMember) : State :=
  let s := { s with ring.asking := false, ring.sides := s.ring.sides.map (fun x => { x with cut := none }) }
  let me := s.member
  let size := s.rsize
  let fault := fun (s : State) (sts detail : Nat) => (s.ringReport sts detail).ringGo 7
  match l.find? (fun m => m.size != me.size || m.digest != me.digest) with
  | some m => fault s 0x7103 m.position
  | none =>
    let dist := l.map (fun m => (m.position + size - me.position) % max 1 size)
    match (List.range l.length).find? (fun k => k != 0 && decide (dist.getD k 0 ≤ dist.getD (k - 1) 0)) with
    | some k => fault s 0x7104 ((l.map (·.position)).getD k 0)
    | none =>
      let present := l.foldl (fun m x => m ||| 2 ^ x.position) 0
      match absentRun present size with
      | some p => fault s 0x7105 p
      | none =>
        let s := s.ringStop
        let s := if s.rst = 3 then s.ringGo (if l.length = size then 4 else 5) else s
        s.topoNew present

/-! ## Receiving (R378 to R380) -/

/-- The acknowledged frames leave the retry buffer; the delay that replays added is noted (R379). -/
def State.ringAcked (s : State) (w ack : Nat) : State :=
  let x := s.side w
  let open_ := x.buf.length
  let done := (ack + 4096 - (x.next + 4096 - open_) % 4096) % 4096
  if open_ < done then s
  else
    let out := x.buf.take done
    let s := out.foldl (fun (s : State) (e : RSent) =>
      if e.replays = 0 then s else s.raise (R.RING_SIDE_RETRY_HWM_COUNT w) (e.lastAt - e.firstAt)) s
    let s := s.setSide w { x with buf := x.buf.drop done, idleAt := if done = 0 then x.idleAt else s.now }
    (State.ringPush w x.wait.length s).quiesceOn

/-- A NAK naming the expected SEQ, once until it arrives. -/
def State.ringNak (s : State) (w : Nat) : State :=
  let x := s.side w
  if x.naking then s
  else (s.setSide w { x with naking := true }).emit (.ring w 2 [x.expect] [])

/-- A DATA or CTRL frame arrives on a side: with a wrong CRC or an unexpected SEQ it is NAKed and discarded; accepted, it
is acknowledged and `k` goes on with it. -/
def State.ringTake (s : State) (w : Nat) (h : RingHead) (k : State → State) : State :=
  if 2 ≤ w ∨ !s.hasRing ∨ !s.linkUp w ∨ (s.side w).rxSleep then s
  else if !h.crcOk then (s.inc (R.RING_SIDE_CRC_COUNT w)).ringNak w
  else
    let s := match h.ack with | some a => s.ringAcked w a | none => s
    let x := s.side w
    if h.seq ≠ x.expect then s.ringNak w
    else
      let s := s.setSide w { x with expect := (x.expect + 1) % 4096, naking := false }
      let s := s.inc (R.RING_SIDE_FRAMES_RX_COUNT w)
      k (s.emit (.ring w 1 [(x.expect + 1) % 4096] []))

/-- Frames of a source are lost on the ring, seen on a side (R380, R385). The detail word holds the frames lost on that
side since the last report, at most 255. -/
def State.ringLost (s : State) (w src n : Nat) : State :=
  let s := (s.inc R.RING_CNT_LOST_COUNT n).voided R.SYS_REPRO_STATUS_R_RING_LOST
  s.ringLimited 0x7109 (fun k => src % 256 * 256 + min k 255) w n

/-- A DATA frame for this module is delivered to its endpoint, in the order of E2E_SEQ. -/
def State.ringDeliver (s : State) (w : Nat) (h : RingHead) (b : List Byte) : State :=
  let k := h.src * 4 + h.vc
  let want := Sparse.get s.ring.e2eRx k 0
  let d := signed 16 (h.e2e + 65536 - want)
  if d < 0 then s.inc R.RING_CNT_DUP_COUNT
  else
    let s := { s with ring.e2eRx := Sparse.put s.ring.e2eRx k ((h.e2e + 1) % 65536) 0 }
    let s := if d = 0 then s else s.ringLost w h.src d.toNat
    if h.endpoint / 4096 = 0xB then s.reshardFrame h.src d.toNat b
    else s.emit (.mesh h.endpoint h.src h.vc b)

/-- A received DATA frame, past its link checks. -/
def State.ringData (s : State) (w : Nat) (h : RingHead) (b : List Byte) : State :=
  let f : RFrame := { vc := h.vc, src := h.src, dst := h.dst, e2e := h.e2e, endpoint := h.endpoint, epoch := h.epoch, payload := b }
  if h.epoch ≠ s.fld R.RING_TOPO_EPOCH then s.ringLost w h.src 1
  else if h.src = s.rpos then s
  else if h.dst = s.rpos then s.ringDeliver w h b
  else if h.dst = 0xFF then (s.ringDeliver w h b).ringSend (1 - w) f
  else s.ringSend (1 - w) f

/-- Replays from the oldest unacknowledged frame; one replayed RETRY_MAX times fails the link. -/
def State.ringReplay (s : State) (w : Nat) (cnt : Fld) : State :=
  let x := s.side w
  match x.buf with
  | [] => s
  | e :: _ =>
    if x.retryMax ≤ e.replays then (s.ringReport 0x7107 w).linkLost w false
    else
      let s := s.inc cnt
      let s := s.setSide w { x with buf := x.buf.map (fun e => { e with replays := e.replays + 1, lastAt := s.now }) }
      x.buf.foldl (fun (s : State) (e : RSent) => s.ringEmit w e.frame e.seq) s

/-! ## Commands of the lanes -/

/-- A driver's transmit command (R372, R373, R396). -/
def State.driverTx (s : State) (l cmd : Nat) : State :=
  if s.bit (R.LANE_STATUS_OWNED l) || s.laneDown l || (decide (cmd < 4) && !s.ceiling cmd) then s.laneReport l 0x7004 0x008
  else
    let s := if needsSynth cmd && (s.ln l).held.isSome then s else s.setF (R.LANE_TX_CMD_CMD l) cmd
    s.txCmd l cmd

/-- A write of LANE_TX_CMD. [Log 47 DESIGN CHOICE] -/
def State.writeLaneTx (s : State) (l v : Nat) : State :=
  let cmd := if (R.LANE_TX_CMD_CMD l).of v = 7 then 3 else (R.LANE_TX_CMD_CMD l).of v
  if (R.LANE_TX_CMD_GO l).of v = 0 then s.setF (R.LANE_TX_CMD_CMD l) cmd else s.driverTx l cmd

/-- The seven transmit commands: each a write of LANE_TX_CMD with GO. -/
def State.laneCmd (s : State) (lane cmd : Nat) : State :=
  if 24 ≤ lane then s
  else s.regWrite (R.LANE_TX_CMD lane) (2 ^ 31 + cmd) (·.driverTx lane cmd)

/-- TX_L0 (R372). -/
def execTxL0 (lane : Nat) (s : State) : Res := .next (s.laneCmd lane 0)
/-- TX_L1 (R372). -/
def execTxL1 (lane : Nat) (s : State) : Res := .next (s.laneCmd lane 1)
/-- TX_L2 (R372). -/
def execTxL2 (lane : Nat) (s : State) : Res := .next (s.laneCmd lane 2)
/-- TX_OFF (R372). -/
def execTxOff (lane : Nat) (s : State) : Res := .next (s.laneCmd lane 3)
/-- TX_WAKE (R372). -/
def execTxWake (lane : Nat) (s : State) : Res := .next (s.laneCmd lane 4)
/-- PRBS_ON (R375). -/
def execPrbsOn (lane : Nat) (s : State) : Res := .next (s.laneCmd lane 5)
/-- PRBS_OFF (R375). -/
def execPrbsOff (lane : Nat) (s : State) : Res := .next (s.laneCmd lane 6)

/-- A write of LANE_RX_CMD (R369, R373). [Log 47 DESIGN CHOICE] -/
def State.writeLaneRx (s : State) (l v : Nat) : State :=
  let st := (R.LANE_RX_CMD_STATE l).of v
  if (R.LANE_RX_CMD_GO l).of v = 0 then s.setF (R.LANE_RX_CMD_STATE l) st
  else if s.bit (R.LANE_STATUS_OWNED l) || s.laneDown l || !s.ceiling st then s.laneReport l 0x7004 0x00C
  else (s.setF (R.LANE_RX_CMD_STATE l) st).rxGo l st

/-- RX_STATE_COMMAND (R369). -/
def execRxStateCommand (lane value : Nat) (s : State) : Res := .next <|
  if 24 ≤ lane then s else s.regWrite (R.LANE_RX_CMD lane) value (·.writeLaneRx lane value)

/-- A write of LANE_CFG (R374): the receive CDR relocks. [Log 47 DESIGN CHOICE] -/
def State.writeLaneLoop (s : State) (l v : Nat) : State :=
  let n := (R.LANE_CFG_LOOP l).of v
  if s.bit (R.LANE_STATUS_OWNED l) || s.laneDown l then s.laneReport l 0x7004 0x000
  else if n = 3 ∧ l < 16 then (s.setF (R.LANE_CFG_LOOP l) 0).laneReport l 0x7004 0x000
  else (s.setF (R.LANE_CFG_LOOP l) (if 3 < n then 0 else n)).rxUnlock l

/-- LOOP_WRITE (R374). -/
def execLoopWrite (lane value : Nat) (s : State) : Res := .next <|
  if 24 ≤ lane then s else s.regWrite (R.LANE_CFG lane) value (·.writeLaneLoop lane value)

/-- A write of LANE_PRBS (R375, R397): writing CHK_EN to 1 clears both counters and the checker seeds itself. -/
def State.writePrbs (s : State) (l v : Nat) : State :=
  let s := s.prbsSync l
  let s := s.wr (R.LANE_PRBS l) (BitVec.ofNat 32 (v &&& (R.LANE_PRBS l).rw))
  if (R.LANE_PRBS_CHK_EN l).of v = 1 then
    (s.setF (R.LANE_PRBS_ERR_ERR l) 0).setPair (R.LANE_PRBS_BITS_LO_BITS_LO l) (R.LANE_PRBS_BITS_HI_BITS_HI l) 0
  else s

/-- PRBS_CHECKER_ENABLE (R375). -/
def execPrbsCheckerEnable (lane value : Nat) (s : State) : Res := .next <|
  if 24 ≤ lane then s else s.regWrite (R.LANE_PRBS lane) value (·.writePrbs lane value)

/-- PRBS_LOCK_ACQUIRED (R375). -/
def execPrbsLockAcquired (lane : Nat) (s : State) : Res := .next <|
  if lane < 24 ∧ s.laneHere lane ∧ s.bit (R.LANE_PRBS_CHK_EN lane) then s.setB (R.LANE_PRBS_LOCK lane) true else s

/-- PRBS_LOCK_LOST (R375). -/
def execPrbsLockLost (lane : Nat) (s : State) : Res := .next <|
  if lane < 24 ∧ s.laneHere lane then (s.prbsSync lane).setB (R.LANE_PRBS_LOCK lane) false else s

/-- SYNTH_CAL_DONE (R366): calibration done, or failed. -/
def execSynthCalDone (quad : Nat) (ok : Bool) (s : State) : Res := .next <|
  if s.synth quad = 1 ∧ quad < 6 then
    if ok then s.setSynth quad 2 else ((s.setSynth quad 0).laneReport (4 * quad) 0x7006 quad).ringReady
  else s

/-- SYNTH_LOCKED (R366, R372): lock, and the held commands are carried out; or the settling failed. -/
def execSynthLocked (quad : Nat) (ok : Bool) (s : State) : Res := .next <|
  if s.synth quad = 2 ∧ quad < 6 then
    if ok then
      ((quadLanes quad).foldl (fun (s : State) (l : Nat) =>
        match (s.ln l).held with
        | some c => if s.heldDue l c < s.now then s.heldFail l else (s.heldClear l).txDo l c.1
        | none => s) (s.setSynth quad 3)).ringReady
    else ((s.setSynth quad 0).laneReport (4 * quad) 0x7006 quad).ringReady
  else s

/-- HELD_COMMAND_TIMEOUT (R372). -/
def execHeldCommandTimeout (lane : Nat) (s : State) : Res := .next <|
  match (s.ln lane).held with
  | some c => if s.heldDue lane c ≤ s.now then s.heldFail lane else s
  | none => s

/-- The receive directions of a sleeping side have locked again: the direction is awake. -/
def State.sideAwake (s : State) (l : Nat) : State :=
  if l < 16 then s
  else
    let w := (l - 16) / 4
    if (s.side w).rxSleep && (sideLanes w).all (fun l => s.rxOf l == 0 && s.bit (R.LANE_STATUS_ALIGNED l)) then
      let s := s.setSide w { s.side w with rxSleep := false }
      if (s.side w).txSleep then s else s.setF (R.RING_SIDE_STATUS_LINK w) 2
    else s

/-- FAST_RELOCK (R369): a direction locks and aligns within its guard; one that came from OFF, or whose loopback
changed, has none. -/
def execFastRelock (lane : Nat) (s : State) : Res := .next <|
  if 24 ≤ lane ∨ !s.laneHere lane ∨ s.rxOf lane ≠ 0 ∨ (s.ln lane).retrain then s
  else match (s.ln lane).guardAt with
    | some d =>
      if d < s.now then s
      else (((s.setLn lane { s.ln lane with guardAt := none }).rxLock lane).inc (R.LANE_CNT_WAKE_COUNT lane)).sideAwake lane
    | none => s.rxLock lane

/-- WAKE_GUARD_EXPIRY (R370): full retraining, of a CXP lane alone or of the whole ring link. -/
def execWakeGuardExpiry (lane : Nat) (s : State) : Res := .next <|
  match (s.ln lane).guardAt with
  | some d =>
    if s.now < d then s
    else
      let s := (s.inc (R.LANE_CNT_GUARD_COUNT lane)).laneReport lane 0x7001 lane
      let s := s.inc (R.LANE_CNT_RETRAIN_COUNT lane)
      let s := s.setLn lane { s.ln lane with guardAt := none, retrain := decide (lane < 16) }
      if lane < 16 then s
      else if s.bit (R.LANE_STATUS_OWNED lane) then s.linkLost ((lane - 16) / 4) false
      else s
  | none => s

/-- The port that owns a CXP lane. -/
def State.laneOwner (s : State) (lane : Nat) : Option Nat :=
  (List.range 8).find? (fun p => s.pst p != 0 && (s.portLanes p).contains lane)

/-- RETRAIN_COMPLETE (R370): full retraining of a CXP lane ends in lock, or the port goes DOWN. -/
def execRetrainComplete (lane : Nat) (ok : Bool) (s : State) : Res := .next <|
  if !(s.ln lane).retrain then s
  else
    let s := s.setLn lane { s.ln lane with retrain := false }
    if ok then (s.rxLock lane).inc (R.LANE_CNT_WAKE_COUNT lane)
    else match s.laneOwner lane with
      | some p => if s.pst p = 4 ∨ s.pst p = 5 then s.portDown p 0x3001 lane else s
      | none => s

/-- LOSS_OF_SIGNAL (R371): of a direction in L0. -/
def execLossOfSignal (lane : Nat) (s : State) : Res := .next <|
  if 24 ≤ lane ∨ !s.laneHere lane ∨ s.rxOf lane ≠ 0 then s
  else
    let s := s.inc (R.LANE_CNT_LOS_COUNT lane)
    let s := s.reportLimited (R.LANE_STATUS_LAST_STS lane) 0x7005 (fun _ => lane) lane 1
    let s := (s.setB (R.LANE_STATUS_SIG_DET lane) false).rxUnlock lane
    if 16 ≤ lane then
      if s.linkUp ((lane - 16) / 4) then s.linkLost ((lane - 16) / 4) false else s
    else match s.laneOwner lane with
      | some p => if (s.pst p = 4 ∨ s.pst p = 5) ∧ !(s.ln lane).retrain then s.portDown p 0x3001 lane else s
      | none => s

/-- WAKE_PATTERN_COMPLETE (R368, R138): the latch, and the wake of the direction where the ring unit (a link that
sleeps) or the driver has asked for it. [Log 26 DESIGN CHOICE] -/
def execWakePatternComplete (lane : Nat) (asked : Bool) (s : State) : Res := .next <|
  if 24 ≤ lane ∨ !s.laneHere lane ∨ !(s.rxOf lane = 1 ∨ s.rxOf lane = 2) then s
  else
    let s := s.setB (R.LANE_STATUS_SIG_DET lane) true
    let s := if (s.fld R.PWR_WAKE_LANE_RX).testBit lane then s.wake 4 else s
    let ring := decide (16 ≤ lane) && (s.side ((lane - 16) / 4)).rxSleep
    if (ring || asked) && s.ceiling 0 then s.rxGo lane 0 else s

/-! ## Commands of the ring -/

/-- The ring unit takes a side's lanes: both directions to L0 (R367). -/
def State.sideOwn (s : State) (w : Nat) (on : Bool) : State :=
  (sideLanes w).foldl (fun (s : State) (l : Nat) =>
    let s := s.laneOwn l on
    if s.laneDown l then s
    else if on then (s.rxGo l 0).txCmd l 0
    else (s.txCmd l 3).rxGo l 3) s

/-- The ring unit goes OFF (R384, R391): every link down, nothing held. -/
def State.ringOff (s : State) : State :=
  let s := [0, 1].foldl (fun (s : State) (w : Nat) =>
    let s := if s.link w = 4 then s else (s.sideOwn w false).setF (R.RING_SIDE_STATUS_LINK w) 0
    s.setF (R.RING_SIDE_STATUS_LANES_UP w) 0) s
  let s := { s with ring := { sides := [{}, {}] } }
  let s := (s.setB R.RING_STATUS_MASTER false).setB R.RING_LAYOUT_BUSY false
  (s.setF R.RING_TOPO_PRESENT 0).ringGo 0

/-- The ring unit starts: LOCAL with an image's ring role, OFF without. -/
def State.ringOn_ (s : State) : State :=
  if s.ringRec.isNone then s.ringReady
  else
    let s := [0, 1].foldl (fun (s : State) (w : Nat) =>
      if s.bit (if w = 0 then R.RING_CTRL_TEST_W else R.RING_CTRL_TEST_E) then s else s.sideOwn w true) s
    s.ringGo 1

/-- The module has been inserted: the sides that are not in test train (R376, R382, R390), and wait for their links from
now on. -/
def State.ringInserted (s : State) : State :=
  if s.rst = 1 then
    [0, 1].foldl (fun (s : State) (w : Nat) =>
      let s := s.setSide w { s.side w with lostAt := some s.now }
      if s.link w = 4 then s else s.linkTrain w) (s.ringGo 2)
  else s

/-- A write of RING_CTRL: EN, and the sides in test (R390, R391). -/
def State.writeRingCtrl (s : State) (v : Nat) : State :=
  let en := R.RING_CTRL_EN.of v == 1
  let was := s.bit R.RING_CTRL_EN
  let old := (s.rd R.RING_CTRL).toNat
  let s := s.wr R.RING_CTRL (BitVec.ofNat 32 (v &&& R.RING_CTRL.rw))
  let s := if en && !was then s.ringOn_ else if !en && was then s.ringOff else s
  [0, 1].foldl (fun (s : State) (w : Nat) =>
    let on := v.testBit (1 + w)
    let pre := old.testBit (1 + w)
    if on && !pre then
      let s := if s.linkUp w then s.linkLost w true else s.setF (R.RING_SIDE_STATUS_LINK w) 4
      s.sideOwn w false
    else if !on && pre then
      let s := (sideLanes w).foldl (fun (s : State) (l : Nat) => (s.txCmd l 3).rxGo l 3) s
      if en then
        let s := s.sideOwn w true
        if 2 ≤ s.rst ∧ s.rst ≤ 6 then s.linkTrain w else s.setF (R.RING_SIDE_STATUS_LINK w) 0
      else s.setF (R.RING_SIDE_STATUS_LINK w) 0
    else s) s

/-- RING_ENABLE (R382, R391): a write of RING_CTRL. -/
def execRingEnable (value : Nat) (s : State) : Res := .next (s.regWrite R.RING_CTRL value (·.writeRingCtrl value))

/-- RING_TEST (R390): a write of RING_CTRL. -/
def execRingTest (value : Nat) (s : State) : Res := .next (s.regWrite R.RING_CTRL value (·.writeRingCtrl value))

/-- LINK_TRAINING_DONE (R376): the link is up, or failed and trains again 10 ms later. No link comes up in bypass, where
the die lanes are disconnected (R93). -/
def execLinkTrainingDone (side : Nat) (how : TrainEnd) (s : State) : Res := .next <|
  if 2 ≤ side ∨ s.link side ≠ 1 then s
  else match how with
    | .up inv =>
      if !s.bit R.PWR_RELAY_RING_POS then s else
      let s := (sideLanes side).zipIdx.foldl (fun (s : State) (p : Nat × Nat) =>
        (s.rxLock p.1).setB (R.LANE_STATUS_RX_INV_DET p.1) (inv.testBit p.2)) s
      let s := (s.setF (R.RING_SIDE_STATUS_LINK side) 2).setF (R.RING_SIDE_STATUS_LANES_UP side) 15
      let s := s.setSide side { s.side side with lostAt := none, failedAt := none, idleAt := s.now }
      let s := if s.fld R.RING_LINK_CFG_SLEEP_US = 0 then s
        else s.timing R.SYS_REPRO_STATUS_T_LINK_SLEEP none
      s.discoverStart
    | .order e r =>
      let s := (s.setF (R.RING_SIDE_STATUS_LINK side) 0).setSide side { s.side side with failedAt := some s.now }
      s.ringReport 0x7102 (e % 256 * 256 + r % 256)
    | .fail lane =>
      let s := (s.setF (R.RING_SIDE_STATUS_LINK side) 0).setSide side { s.side side with failedAt := some s.now }
      s.ringLimited 0x7101 (fun _ => side * 256 + lane % 256) side

/-- TRAIN_RETRY (R376): 10 ms after a failed training. -/
def execTrainRetry (side : Nat) (s : State) : Res := .next <|
  match (s.side side).failedAt with
  | some t => if t + 10000000 ≤ s.now ∧ s.link side = 0 then s.linkTrain side else s
  | none => s

/-- RING_FRAME (R378, R380): a received DATA frame. [Log 48 DESIGN CHOICE] -/
def execRingFrame (side : Nat) (h : RingHead) (payload : List Byte) (s : State) : Res :=
  .next (s.ringTake side h (·.ringData side h payload))

/-- ACK (R378). -/
def execAck (side ackSeq : Nat) (s : State) : Res := .next (if side < 2 ∧ s.linkUp side then s.ringAcked side ackSeq else s)

/-- NAK (R378): frames before the SEQ it names are acknowledged, and the rest are replayed. -/
def execNak (side seq : Nat) (s : State) : Res := .next <|
  if side < 2 ∧ s.linkUp side then (s.ringAcked side seq).ringReplay side (R.RING_SIDE_NAK_RETRY_COUNT side) else s

/-- ACK_TIMEOUT (R378): the oldest frame has waited ACK_TMO_NS. -/
def execAckTimeout (side : Nat) (s : State) : Res := .next <|
  match (s.side side).buf with
  | e :: _ =>
    if e.lastAt + (s.side side).ackTmo ≤ s.now ∧ s.linkUp side then s.ringReplay side (R.RING_SIDE_TMO_RETRY_COUNT side) else s
  | [] => s

/-- LINK_SLEEP (R381): a direction that has had nothing to send for SLEEP_US sends SLEEP blocks and goes to TX_IDLE. -/
def execLinkSleep (side : Nat) (s : State) : Res := .next <|
  let x := s.side side
  let us := s.fld R.RING_LINK_CFG_SLEEP_US
  if 2 ≤ side ∨ !s.linkUp side ∨ x.txSleep ∨ x.buf ≠ [] ∨ x.wait ≠ [] ∨ us = 0 ∨ s.now < x.idleAt + 1000 * us then s
  else
    let s := s.setSide side { x with txSleep := true }
    let s := (sideLanes side).foldl (fun (s : State) (l : Nat) =>
      (s.emit (.lane l 7)).txCmdIdle l (s.fld R.RING_LINK_CFG_TX_IDLE)) s
    let s := s.setF (R.RING_SIDE_STATUS_LINK side) 3
    s.timing R.SYS_REPRO_STATUS_T_LINK_SLEEP (some R.MESH_TW_FLAGS_LINK_SLEEP)

/-- SLEEP_BLOCKS_RECEIVED (R381): the receive directions follow the partner's into `state`, L1 or L2. -/
def execSleepBlocksReceived (side state : Nat) (s : State) : Res := .next <|
  if 2 ≤ side ∨ !s.linkUp side ∨ !(state = 1 ∨ state = 2) then s
  else
    let s := s.setSide side { s.side side with rxSleep := true }
    let s := (sideLanes side).foldl (fun (s : State) (l : Nat) => s.rxGo l state) s
    s.setF (R.RING_SIDE_STATUS_LINK side) 3

/-- RING_DISCOVER (R383): a DISCOVER frame goes on east with this module's values, or has come back and the ring is
judged. A module of a ring that another discovers again sends its own too. [Log 49 DESIGN CHOICE] -/
def execRingDiscover (side : Nat) (h : RingHead) (members : List RingMember) (s : State) : Res := .next <|
  s.ringTake side h fun s =>
    if h.src = s.rpos ∧ (members.head?.map (·.serial)) = some s.member.serial then
      if s.rst = 3 ∨ s.rst = 5 ∨ s.rst = 6 then s.ringJudge members else s
    else
      (s.ringSend 1 { s.ringCtrl h.dst 1 [] (members ++ [s.member]) with src := h.src, epoch := h.epoch }).discoverStart

/-- QUIESCE (R385): injection stops, and the frame goes on. -/
def execQuiesce (side : Nat) (h : RingHead) (s : State) : Res := .next <|
  s.ringTake side h fun s =>
    if h.src = s.rpos then s
    else s.ringStop.ringOn side { s.ringCtrl 0xFF 2 with src := h.src }

/-- QUIESCED (R385): forwarded once the own buffers are empty; back at the master from both directions it brings SWITCH.
[Log 49 DESIGN CHOICE] -/
def execQuiesced (side : Nat) (h : RingHead) (s : State) : Res := .next <|
  s.ringTake side h fun s =>
    if h.src = s.rpos then { s with ring.back := s.ring.back ||| 2 ^ side }.masterSwitch
    else { (s.setF R.RING_TOPO_MASTER_POS h.src) with ring.owed := s.ring.owed ++ [side] }.quiesceOn

/-- SWITCH (R385): applied once, when its epoch is the next one. [Log 49 DESIGN CHOICE] -/
def execSwitch (side : Nat) (h : RingHead) (layout present epoch : Nat) (s : State) : Res := .next <|
  s.ringTake side h fun s =>
    if epoch % 256 = (s.fld R.RING_TOPO_EPOCH + 1) % 256 ∧ h.src ≠ s.rpos then
      s.switchApply layout present (epoch % 256)
    else s

/-- RING_LINK_DOWN (R388): a LINK_DOWN frame, or with `how` none the link of this side is lost. -/
def execRingLinkDown (side : Nat) (how : Option RingHead) (s : State) : Res := .next <|
  match how with
  | none => if side < 2 ∧ s.hasRing ∧ s.linkUp side then s.linkLost side false else s
  | some h =>
    s.ringTake side h fun s =>
      if h.src = s.rpos then s
      else
        let s := if s.rst = 4 ∨ s.rst = 5 then s.ringBreak else s
        let s := s.setSide side { s.side side with cut := some (h.src, s.now) }
        let s := if s.linkUp (1 - side) then s.ringSend (1 - side) { s.ringCtrl 0xFF 5 with src := h.src } else s
        { s with ring.asking := false }.discoverStart

/-- The master takes a layout request, if it has room: one in progress and one queued. -/
def State.layoutTake (s : State) (pos next : Nat) : Bool × State :=
  if s.ring.cur.isSome ∧ s.ring.queue ≠ [] ∨ 2 ≤ s.ring.queue.length then (false, s)
  else (true, { s with ring.queue := s.ring.queue ++ [({ layout := some (next, pos) } : RChange)] }.masterStart)

/-- The request is answered at the requesting module. -/
def State.layoutAnswer (s : State) (ok : Bool) : State :=
  if ok then s else (s.setB R.RING_LAYOUT_BUSY false).ringReport 0x710B 0

/-- A write of RING_LAYOUT (R387). -/
def State.writeRingLayout (s : State) (v : Nat) : State :=
  let next := R.RING_LAYOUT_NEXT.of v
  if R.RING_LAYOUT_GO.of v = 0 then s.setF R.RING_LAYOUT_NEXT next
  else
    if ((s.ringRec.map (·.nlayout)).getD 0) ≤ next then
      (s.setF R.RING_LAYOUT_NEXT next).imgReport 0x200D next
    else if !(s.rst = 4 ∨ s.rst = 5) ∨ s.bit R.RING_LAYOUT_BUSY then s.ringReport 0x710B 0
    else
      let s := (s.setF R.RING_LAYOUT_NEXT next).setB R.RING_LAYOUT_BUSY true
      if s.bit R.RING_STATUS_MASTER then
        let (ok, s) := s.layoutTake s.rpos next
        s.layoutAnswer ok
      else
        let m := s.fld R.RING_TOPO_MASTER_POS
        s.ringSend (s.ringDir m) (s.ringCtrl m 6 [next])

/-- LAYOUT_REQUEST (R387). -/
def execLayoutRequest (value : Nat) (s : State) : Res := .next (s.regWrite R.RING_LAYOUT value (·.writeRingLayout value))

/-- LAYOUT_REQ (R387): at the master it is queued or refused, and answered. -/
def execLayoutReq (side : Nat) (h : RingHead) (layout : Nat) (s : State) : Res := .next <|
  s.ringTake side h fun s =>
    if h.dst = s.rpos then
      let (ok, s) := if s.bit R.RING_STATUS_MASTER then s.layoutTake h.src layout else (false, s)
      s.ringSend (s.ringDir h.src) (s.ringCtrl h.src 7 [ok.toNat])
    else s.ringOn side { s.ringCtrl h.dst 6 [layout] with src := h.src }

/-- LAYOUT_ANS (R387). -/
def execLayoutAns (side : Nat) (h : RingHead) (accepted : Bool) (s : State) : Res := .next <|
  s.ringTake side h fun s =>
    if h.dst = s.rpos then (if s.bit R.RING_LAYOUT_BUSY then s.layoutAnswer accepted else s)
    else s.ringOn side { s.ringCtrl h.dst 7 [accepted.toNat] with src := h.src }

/-- The quiescence under way is abandoned; a topology change waits to be tried again (R386). -/
def Ring.givenUp (r : Ring) (now : Nat) : Ring :=
  let t := r.cur.bind (·.topo)
  { r with cur := none, back := 0, owed := [], topo := t <|> r.topo, topoAt := if t.isSome then some now else r.topoAt }

/-- Injection goes on after a quiescence that was abandoned. -/
def State.quiesceOver (s : State) : State :=
  if s.rst = 4 ∨ s.rst = 5 then s.ringRelease else { s with ring.stop := false }

/-- QUIESCE_TIMEOUT (R386): the quiescence is abandoned; a topology change is tried again. [Log 49 DESIGN CHOICE] -/
def execQuiesceTimeout (s : State) : Res := .next <|
  if !s.ring.stop ∨ s.rst = 6 ∧ s.ring.cur.isNone ∨ s.now < s.ring.stopAt + 1000 * s.fld R.RING_TMO_QUIESCE_TMO_US then s
  else
    let s := { s with ring := s.ring.givenUp s.now }
    ((s.setB R.RING_LAYOUT_BUSY false).ringReport 0x7108 0).quiesceOver

/-- TOPOLOGY_RETRY (R386): 1 ms after the topology change was abandoned. -/
def execTopologyRetry (s : State) : Res := .next <|
  match s.ring.topoAt with
  | some t => if t + 1000000 ≤ s.now then { s with ring.topoAt := none }.masterStart else s
  | none => s

/-- LINK_TMO_EXPIRY (R388): a link, of this side or the one whose LINK_DOWN came in here, is not up within LINK_TMO_MS: the
positions still reachable make the topology. -/
def execLinkTmoExpiry (side present : Nat) (s : State) : Res := .next <|
  let x := s.side side
  match (if s.linkUp side then x.cut.map (·.2) else x.lostAt) with
  | some t =>
    if t + 1000000 * s.fld R.RING_TMO_LINK_TMO_MS ≤ s.now ∧ (s.rst = 2 ∨ s.rst = 6) then
      (s.setSide side { x with lostAt := none }).topoNew (present % 256 ||| 2 ^ s.rpos)
    else s
  | none => s

/-- RESHARD_END (R549): end frames from every owing position have come. -/
def execReshardEnd (s : State) : Res := .next s.reshardEnd.masterStart

end Sys2Proof.Machine
end

