-- ==== Sys2Proof/Machine/ImageExec.lean ====
section
/-! DEFINITION. ImageExec: loading, committing, storing and unloading images, key records, and route-set changes
(chapter 05, R616). -/

namespace Sys2Proof.Machine

/-! ## Status and registers (R233 to R237) -/

/-- Puts the image state; a change raises its interrupt (R660). -/
def State.imgState (s : State) (st : Nat) : State :=
  let was := s.fld R.BOOT_IMG_STATUS_STATE
  let s := s.setF R.BOOT_IMG_STATUS_STATE st
  if was = st then s else s.pend 5

/-- BUSY: a load, unload, store or key record goes on. -/
def State.imgBusy (s : State) : State :=
  s.setB R.BOOT_IMG_STATUS_BUSY (s.fld R.BOOT_IMG_STATUS_STATE % 2 == 1 || s.img.storing.isSome || s.img.keyNew.isSome)

/-- A stage fails (R214). -/
def State.imgFail (s : State) (f : ImgFail) : State :=
  let s := (s.setF R.BOOT_IMG_STATUS_STAGE f.stage).setF R.BOOT_IMG_STATUS_SECTION f.sect
  (s.setF R.BOOT_IMG_DETAIL_RECORD f.recd).imgReport f.sts f.detail

/-- Refreshes BOOT_IMG_SLOTS: the newest of the valid slots. -/
def State.slotRegs (s : State) : State :=
  let a := s.img.slots.getD 0 {}
  let b := s.img.slots.getD 1 {}
  let new := b.valid && (!a.valid || decide (a.seq < b.seq))
  let s := (s.setB R.BOOT_IMG_SLOTS_NEWEST new).setF R.BOOT_IMG_SLOTS_VALID (a.valid.toNat + 2 * b.valid.toNat)
  (s.setF R.BOOT_IMG_SLOTS_SEQ (if new then b.seq else if a.valid then a.seq else 0)).setB R.BOOT_IMG_SLOTS_STORE_PENDING
    s.img.storing.isSome

/-- Refreshes BOOT_IMG_KEYS. -/
def State.keyRegs (s : State) : State :=
  (s.setF R.BOOT_IMG_KEYS_FILLED (sumOf s.img.keys.zipIdx (fun p => if p.1.isSome then 2 ^ p.2 else 0))).setF
    R.BOOT_IMG_KEYS_MIN_SEC s.img.minSec

/-! ## Loading (R214, R232) -/

/-- The bytes an action reads from device memory at BOOT_IMG_ADDR. -/
def State.imgMem (s : State) : Option (List Byte) :=
  let a := s.pair R.BOOT_IMG_ADDR_LO_ADDR_LO R.BOOT_IMG_ADDR_HI_ADDR_HI
  let n := s.fld R.BOOT_IMG_LEN_LEN
  if n ≤ 2 ^ 26 ∧ a + n ≤ s.memFree then some (s.bytes a n) else none

/-- Stage COPY. -/
def State.imgCopy (s : State) (src : Nat) : Except ImgFail (List Byte) :=
  if src < 2 then
    let k := s.img.slots.getD src {}
    if k.valid then .ok k.bytes else .error ⟨1, 0x2010, src, 0, 0⟩
  else if src = 2 then
    match s.imgMem with
    | some b => .ok b
    | none => .error ⟨1, 0x2008, 0, 0, 0⟩
  else .error ⟨1, 0x2010, src, 0, 0⟩

/-- Stages COPY to DEPEND. -/
def State.imgStages (s : State) (src : Nat) : Except ImgFail Image := do
  let b ← s.imgCopy src
  let im ← s.checkFront b
  s.checkBack im

/-- DATA sections are copied into their partitions. -/
def State.dataCopy (s : State) (im : Image) : State :=
  im.datas.foldl (fun (s : State) (d : DataRec) =>
    match im.mem? d.part with
    | some m => s.physWrite (m.base + d.offset) d.bytes
    | none => s) s

/-- LOAD: the checks are made; an image that passes waits in stage APPLY, its DATA copied, for its commit. [Log 29 DESIGN CHOICE] -/
def State.imgLoad (s : State) (src : Nat) : State :=
  if s.fld R.BOOT_IMG_STATUS_STATE ≠ 0 then s.imgReport 0x200C 0
  else
    let s := { s with img := { s.img with loadAt := s.now } }
    match s.imgStages src with
    | .error f => s.imgFail f
    | .ok im =>
      let s := { s with img := { s.img with shadow := some im } }.dataCopy im
      ((s.setF R.BOOT_IMG_STATUS_STAGE 9).imgState 1).imgBusy

/-! ## What an image gives the units (R204 to R209, R69, R306, R476, R497, R533 to R558) -/

/-- Bytes of the fingerprint's 32-byte words. -/
def State.fingerBytes (s : State) : List Byte :=
  s.words8 R.BOOT_IMG_DIGEST_DIGEST ++ s.words8 R.BOOT_MAP_DIGEST_DIGEST
    ++ leBytes 4 (s.rd R.SYS_SUP_VER).toNat ++ leBytes 4 (s.rd R.SYS_TILE_VER).toNat
    ++ leBytes 4 (s.rd R.SYS_ID).toNat ++ leBytes 4 (s.rd R.SYS_REV).toNat

/-- Writes 32 bytes over a register array of eight words. -/
def State.setWords8 (s : State) (r : Nat → Fld) (b : List Byte) : State :=
  (List.range 8).foldl (fun (s : State) (k : Nat) => s.setF (r k) (leAt b (4 * k) 4)) s

/-- Gate registers and EJ_DISP: RW fields at their reset values, image fields from the records (R69, R70). -/
def State.gatesSet (s : State) (gates : List GateRec) : State :=
  let s := (s.clearRegs 0x10900 0x10B00).clearRegs 0x12800 0x12840
  let s := gates.foldl (fun (s : State) (g : GateRec) =>
    (((s.setF (R.MOT_GATE_CFG_ALT_OUT g.gate) g.alt).setF (R.MOT_GATE_CFG_OUT g.gate) g.out).setF (R.MOT_GATE_CFG_SRC g.gate)
      g.src).setF (R.MOT_GATE_CFG_CHAN g.gate) g.chan) s
  (List.range 16).foldl (fun (s : State) (n : Nat) =>
    let mine := gates.filter (fun g => g.out == n || g.alt == n)
    let low := mine.foldl (fun (a : Option GateRec) g => match a with
      | some b => if g.gate < b.gate then some g else a
      | none => some g) none
    s.setF (R.EJ_OUT_CFG_CHAN n) ((low.map (·.chan)).getD 0)) s

/-- Sync cells: undeclared ones hold 0, declared ones INIT (R497). -/
def State.cellsSet (s : State) (syncs : List SyncRec) : State :=
  let s := s.clearRegs 0x80000 0x90000
  syncs.foldl (fun (s : State) (c : SyncRec) =>
    (s.setF (R.SYNC_COUNT_COUNT c.cell) c.init).setB (R.SYNC_STATE_DECLARED c.cell) true) s

/-- Gills: the partition of each, IDLE in one and OFF in none (R441); the resident models are none (R536).
[Log 71 DEDUCED] -/
def State.gillsSet (s : State) (parts : List PartRec) : State :=
  (List.range s.gills).foldl (fun (s : State) (g : Nat) =>
    let p := parts.find? (fun p => p.mask.testBit g)
    let s := s.setGl g { s.gl g with starts := 0, outcome := none }
    let s := s.setF (R.GILL_STATUS_PART g) ((p.map (·.part)).getD 31)
    let s := s.setF (R.GILL_STATUS_STATE g) (if p.isSome then 0 else 7)
    s.setF (R.SCHED_GILL_RES_MODEL g) 0xFFFF) s

/-- Queues and partitions of the scheduler (R558). -/
def State.queuesSet (s : State) (qs : List QueueRec) (ps : List PartRec) : State :=
  let s := (List.range 256).foldl (fun (s : State) (q : Nat) =>
    let r := qs.find? (·.queue == q)
    (s.setF (R.SCHED_Q_CFG_PLACE q) ((r.map (·.place)).getD 0)).setF (R.SCHED_Q_CFG_CLASS q) ((r.map (·.cls)).getD 0)) s
  let s := (List.range 32).foldl (fun (s : State) (p : Nat) =>
    s.setF (R.SCHED_P_QUANTUM_QUANTUM_US p) (((ps.find? (·.part == p)).map (·.quantum)).getD 0)) s
  { s with sched.tokens := [] }

/-- The binding of every camera port, and the pipelines: a chain that is not valid is held (R254, R277, R282). Frames in memory
and the image being received belong to no camera of the new binding. [Log 30 DESIGN CHOICE] -/
def State.camsSet (s : State) (cams : List CamRec) (isps : List IspRec) : State :=
  let s := (List.range s.cxpPorts).foldl (fun (s : State) (p : Nat) =>
    let r := cams.find? (·.port == p)
    let s := (s.setF (R.CXP_BIND_CURRENT p) ((r.map (·.pipe)).getD 0)).setF (R.CXP_BIND_MODE p) ((r.map (·.mode)).getD 0)
    let x := s.port p
    let s := s.setPort p { x with
      rebind := none, fbs := []
      img := x.img.map (fun g => { g with trig := none, fb := none, pipe := (r.map (·.pipe)).getD 0 }) }
    (s.setF (R.CXP_FB_STATUS_FULL p) 0).setB (R.CXP_BIND_PENDING p) false) s
  (List.range 4).foldl (fun (s : State) (k : Nat) =>
    let s := s.setPipe k {}
    let inl := cams.find? (fun c => c.pipe == k && c.mode == 0)
    let s := s.setF (R.ISP_PIPE_STATUS_INLINE_PORT k) ((inl.map (·.port)).getD 15)
    let s := s.setF (R.ISP_PIPE_STATUS_TM_FRAMES k) 0
    match isps.find? (·.pipe == k) with
    | none => (s.setB (R.ISP_PIPE_STATUS_RUN k) false).setB (R.ISP_PIPE_STATUS_HELD k) false
    | some r =>
      match chainBad r with
      | none => (s.setB (R.ISP_PIPE_STATUS_RUN k) true).setB (R.ISP_PIPE_STATUS_HELD k) false
      | some i => ((s.setB (R.ISP_PIPE_STATUS_RUN k) false).setB (R.ISP_PIPE_STATUS_HELD k) true).ispReport k 0x3101 i) s

/-- The lanes that the ports use, for PoCXP (R90). -/
def State.pocxpLanes (s : State) : Nat :=
  sumOf (List.range s.cxpPorts) (fun p => if s.portTaken p then 0 else sumOf (s.portLanes p) (fun l => 2 ^ l))

/-- Ports and their lanes under another image: an enabled port whose lanes change starts again with its new ones; one that
loses its lanes goes OFF (R109, R243). `old` are the enabled ports with their lanes and CXP_PORT_CFG before the switch.
[Log 30 DESIGN CHOICE] -/
def State.portsSwitch (s : State) (old : List (Nat × List Nat × Nat)) : State :=
  let s := { s with pwr.pocxpUsed := s.pocxpLanes }
  let s := s.pocxpDetect (s.fld R.PWR_POCXP_EN)
  old.foldl (fun (s : State) (p : Nat × List Nat × Nat) =>
    if s.portLanes p.1 = p.2.1 ∧ !s.portTaken p.1 then s
    else
      let s := (s.portOwns p.2.1 false).setB (R.CXP_PORT_CFG_EN p.1) false
      let s := ((s.portClear p.1).portGo p.1 0).setF (R.CXP_PORT_STATUS_LANES_UP p.1) 0
      let s := s.setF (R.CXP_PORT_STATUS_RATE_ACT p.1) 0
      if s.portTaken p.1 then s else s.writePortCfg p.1 p.2.2) s

/-- The enabled ports, with their lanes and CXP_PORT_CFG. -/
def State.portsNow (s : State) : List (Nat × List Nat × Nat) :=
  ((List.range s.cxpPorts).filter (fun p => s.bit (R.CXP_PORT_CFG_EN p))).map (fun p =>
    (p, s.portLanes p, (s.rd (R.CXP_PORT_CFG p)).toNat))

/-- The ring takes its role, or loses it (R382, R384). -/
def State.ringRole (s : State) (r : Option RingRec) : State :=
  let s := if s.rst = 0 then s else s.ringOff
  let s := (s.setF R.RING_TOPO_SIZE ((r.map (·.size)).getD 0)).setF R.RING_TOPO_POSITION ((r.map (·.position)).getD 0)
  let s := s.setF R.RING_LAYOUT_CURRENT 0
  if s.bit R.RING_CTRL_EN && s.hasRing then s.ringOn_ else s.ringReady

/-! ## Commit (R215, R616) -/

/-- Every unit takes what the image gives it. -/
def State.unitsSet (s : State) (im : Image) : State :=
  let s := ((s.gatesSet im.gates).cellsSet im.syncs).gillsSet im.parts
  let s := (s.queuesSet im.queues im.parts).camsSet im.cams im.isps
  s.pfxClear

/-- IMAGE_COMMIT. [Log 30 DESIGN CHOICE] -/
def State.imgCommit (s : State) : State :=
  match s.img.shadow with
  | none => s
  | some im =>
    let old := s.portsNow
    let s := { s with
      img := { s.img with active := some im, shadow := none }
      mmu := { s.mmu with remap := [], op := [] }
      sched.nextId := 1 }
    let s := (s.setF R.BOOT_IMG_ACTIVE_IMAGE_ID im.id).setF R.BOOT_IMG_REV_IMAGE_REV im.rev
    let s := s.setWords8 R.BOOT_IMG_DIGEST_DIGEST im.digest
    let s := s.setWords8 R.SYS_REPRO_DIGEST_DIGEST (sha256 s.fingerBytes)
    let s := (s.wr R.SYS_REPRO_STATUS 0).setF R.SYS_REPRO_STATUS_R_MAP_PENDING (s.fld R.BOOT_FMAP_STATUS_MERGE_PENDING)
    let s := ((s.setF R.MESH_ROUTESET_CURRENT 0).setF R.MBX_RSEQ_NEXT_RSEQ_NEXT 1).unitsSet im
    let s := (s.portsSwitch old).ringRole im.rings.head?
    let s := s.setF R.BOOT_IMG_LOAD_MS_LOAD_MS (min ((s.now - s.img.loadAt) / 1000000) 65535)
    let s := (s.setF R.BOOT_IMG_STATUS_STAGE 10).imgState 2
    s.imgBusy.stageDigests

/-! ## Unload (R228) -/

/-- Whether an unload may go on. -/
def State.unloadOk (s : State) : Bool :=
  s.fld R.BOOT_IMG_STATUS_STATE == 2 && !s.bit R.MESH_ROUTESET_BUSY && s.fld R.MOT_TRK_ACTIVE_ACTIVE == 0
    && s.sched.works.isEmpty && !s.bit R.EJ_LSTOP_RUN

/-- The active image goes, and with it the MMU's tables. -/
def State.imgForget (s : State) : State :=
  { s with img := { s.img with active := none }, mmu := { s.mmu with remap := [], op := [] } }

/-- UNLOAD. -/
def State.imgUnload (s : State) : State :=
  if !s.unloadOk then s.imgReport 0x200C 0
  else
    let old := s.portsNow
    let s := (List.range 16).foldl (fun (s : State) (e : Nat) => s.dmaAbort e []) s
    let s := if s.bit R.MBX_CTRL_EN then s.mbxStop else s
    let s := (s.imgForget.setF R.BOOT_IMG_ACTIVE_IMAGE_ID 0).setF R.BOOT_IMG_REV_IMAGE_REV 0
    let s := (s.setWords8 R.BOOT_IMG_DIGEST_DIGEST []).setWords8 R.SYS_REPRO_DIGEST_DIGEST []
    let s := ((((s.gatesSet []).cellsSet []).gillsSet []).queuesSet [] []).camsSet [] []
    let s := (s.pfxClear.portsSwitch old).ringRole none
    ((s.setF R.MESH_ROUTESET_CURRENT 0).imgState 0).imgBusy

/-! ## Store (R217) and key records (R212, R213) -/

/-- STORE: stages 1 to 4, then the write of the slot that is not the newest valid one. [Log 29 DESIGN CHOICE] -/
def State.imgStore (s : State) : State :=
  if s.img.storing.isSome then s.imgReport 0x200C 0
  else match s.imgCopy 2 with
    | .error f => s.imgFail f
    | .ok b =>
      match s.checkFront b with
      | .error f => s.imgFail f
      | .ok im =>
        let k := if s.fld R.BOOT_IMG_SLOTS_VALID = 0 ∨ s.bit R.BOOT_IMG_SLOTS_NEWEST then 0 else 1
        let seq := (s.img.slots.getD (1 - k) {}).seq + 1
        let slots := s.img.slots.set k { s.img.slots.getD k {} with valid := false }
        let s := { s with img := { s.img with storing := some (k, seq, b.take im.total), slots := slots } }
        (s.flashAsk 6).slotRegs.imgBusy

/-- STORE_COMPLETE: the write of the slot has ended. -/
def State.storeDone (s : State) : State :=
  match s.img.storing with
  | none => s
  | some (k, seq, b) =>
    if s.flashReady 6 then
      let s := { s with img := { s.img with storing := none, slots := s.img.slots.set k ⟨true, seq, b⟩ } }
      (s.flashDone.slotRegs.imgBusy).stageStore 6 k seq (sha256 b)
    else s

/-- The first condition of R213 that a key record fails, 0 for none. -/
def State.keyBad (s : State) (b : List Byte) : Nat :=
  let op := leAt b 4 1
  let slot := leAt b 5 1
  let signer := leAt b 0x30 1
  let key := slice b 0x34 64
  if b.length < 180 ∨ leAt b 0 4 ≠ 0x4B475845 ∨ op = 0 ∨ 3 < op ∨ 3 < slot ∨ 3 < signer ∨ leAt b 6 2 ≠ 0 ∨ leAt b 0x31 3 ≠ 0 then 1
  else if s.img.keys.getD signer none ≠ some (sha256 key) then 1
  else if !ecdsaVerify key (sha256 (b.take 0x34)) (slice b 0x74 64) then 2
  else if leAt b 8 4 ≤ s.img.keySeq then 3
  else if op = 2 ∧ (s.img.keys.set slot none).all (·.isNone) then 4
  else if op = 3 ∧ leAt b 12 4 < s.img.minSec then 5
  else 0

/-- KEYREC: a record that passes is written to both copies. [Log 29 DESIGN CHOICE] -/
def State.keyRecord (s : State) : State :=
  if s.img.keyNew.isSome then s.imgReport 0x200C 0
  else
    let b := s.imgMem.getD []
    let bad := s.keyBad b
    if bad ≠ 0 then s.imgReport 0x200F bad
    else
      let op := leAt b 4 1
      let slot := leAt b 5 1
      let keys := if op = 1 then s.img.keys.set slot (some (slice b 16 32)) else if op = 2 then s.img.keys.set slot none
        else s.img.keys
      let min := if op = 3 then leAt b 12 4 else s.img.minSec
      let s := { s with img := { s.img with keyNew := some (keys, min, leAt b 8 4) } }
      (s.flashAsk 3).imgBusy

/-- KEYREC_APPLIED: the second copy is written. [Log 29 DESIGN CHOICE] -/
def State.keyDone (s : State) : State :=
  match s.img.keyNew with
  | none => s
  | some (keys, min, seq) =>
    if s.flashReady 3 then
      let s := { s with img := { s.img with keyNew := none, keys := keys, minSec := min, keySeq := seq } }
      (s.flashDone.keyRegs.imgBusy).stageStore 3 1 seq (leBytes 4 seq)
    else s

/-- A write of BOOT_IMG_CTRL: SRC, and the lowest-numbered action only (R232, R234). -/
def State.writeImgCtrl (s : State) (v : Nat) : State :=
  let s := s.setF R.BOOT_IMG_CTRL_SRC (R.BOOT_IMG_CTRL_SRC.of v)
  if v.testBit 0 then s.imgLoad (R.BOOT_IMG_CTRL_SRC.of v)
  else if v.testBit 1 then s.imgUnload
  else if v.testBit 2 then s.imgStore
  else if v.testBit 3 then s.keyRecord
  else s

/-! ## Route-set changes (R225 to R227) -/

/-- A route-change status. -/
def State.routeReport (s : State) (sts detail : Nat) : State := s.report R.MESH_EPOCH_STATUS_LAST_STS sts detail

/-- The compiled routes of a set of the active image. -/
def State.setRoutes (s : State) (k : Nat) : Option (List CRoute) :=
  s.img.active.bind (fun im => (im.sets.find? (·.1 == k)).map (·.2))

/-- Whether the active image declares a route set: some SET_MASK names it (R224). -/
def State.setDeclared (s : State) (k : Nat) : Bool :=
  match s.img.active with
  | some im => im.routes.any (·.setMask.testBit k)
  | none => false

/-- A write of MESH_ROUTESET. [Log 31 DESIGN CHOICE] -/
def State.writeRouteset (s : State) (v : Nat) : State :=
  let n := R.MESH_ROUTESET_NEXT.of v
  let s := s.setF R.MESH_ROUTESET_NEXT n
  if R.MESH_ROUTESET_GO.of v = 0 then s
  else if !s.setDeclared n then s.routeReport 0x200D n
  else if s.bit R.MESH_ROUTESET_BUSY || s.bit R.BOOT_IMG_STATUS_BUSY then s.routeReport 0x200C 0
  else
    let s := s.setB R.MESH_ROUTESET_BUSY true
    let s := { s with img.change := some { next := n, startAt := s.now } }
    if s.bit R.MESH_TW_CTRL_OPEN then s.setB R.MESH_TW_FLAGS_MODE true else s

/-- The places in the new set of the routes whose path differs from the set in force. -/
def State.movedRoutes (s : State) (next : Nat) : List Nat :=
  let old := (s.setRoutes (s.fld R.MESH_ROUTESET_CURRENT)).getD []
  let new := (s.setRoutes next).getD []
  (List.range new.length).filter (fun i => match new[i]? with
    | some r => old.any (fun o => o.src == r.src && o.dst == r.dst && o.vc == r.vc && o.paths != r.paths)
    | none => false)

/-- The routes held now. -/
def State.heldRegs (s : State) : State :=
  s.setF R.MESH_EPOCH_STATUS_HELD (min ((s.img.change.map (·.held.length)).getD 0) 65535)

/-- Whether a route of the new set still carries messages of the old tag. -/
def State.oldOn (s : State) (i : Nat) : Bool :=
  match s.curRoutes[i]? with
  | some r => s.flights.any (fun f => f.tag != s.fld R.MESH_ROUTESET_EPOCH && s.onRoute r f)
  | none => false

/-- EPOCH_BOUNDARY: new flits take the new tag and set. `inflight` are the routes, by their place in the new set, on which
traffic other than messages still has old-tag flits.
[Log 31 DESIGN CHOICE] -/
def State.epochFlip (s : State) (inflight : List Nat) : State :=
  match s.img.change with
  | none => s
  | some c =>
    if c.flipped then s
    else
      let new := (s.setRoutes c.next).getD []
      let held := (s.movedRoutes c.next).filter (fun i => inflight.contains i || (match new[i]? with
        | some r => s.flights.any (s.onRoute r)
        | none => false))
      let s := { s with img := { s.img with change := some { c with flipped := true, flipAt := s.now, held := held } } }
      (s.setF R.MESH_ROUTESET_EPOCH (1 - s.fld R.MESH_ROUTESET_EPOCH)).heldRegs

/-- ROUTE_RELEASE: a held route's old-tag flits have all been credited. [Log 31 DESIGN CHOICE] -/
def State.routeFree (s : State) (route : Nat) : State :=
  match s.img.change with
  | none => s
  | some c =>
    if c.held.contains route && !s.oldOn route then
      let s := { s with img := { s.img with change := some { c with held := c.held.filter (· != route) } } }
      (s.raise R.MESH_EPOCH_HOLD_HOLD_NS (s.now - c.flipAt)).heldRegs
    else s

/-- ROUTE_CHANGE_COMPLETE: no old-tag flit remains. -/
def State.routeDone (s : State) : State :=
  match s.img.change with
  | none => s
  | some c =>
    if c.flipped ∧ c.held = [] ∧ s.flights.all (fun f => f.tag == s.fld R.MESH_ROUTESET_EPOCH) then
      let s := { s with img := { s.img with change := none } }
      let s := (s.setF R.MESH_ROUTESET_CURRENT c.next).setB R.MESH_ROUTESET_BUSY false
      (s.inc R.MESH_EPOCH_COUNT_COUNT).heldRegs
    else s

/-- ROUTE_CHANGE_TIMEOUT: reported once, with a held route; the change goes on. [Log 31 DESIGN CHOICE] -/
def State.routeLate (s : State) : State :=
  match s.img.change with
  | none => s
  | some c =>
    if c.late ∨ s.now < c.startAt + s.fld R.MESH_EPOCH_CFG_TIMEOUT_US * 1000 then s
    else
      let s := { s with img := { s.img with change := some { c with late := true } } }
      match (c.held.head?).bind (fun i => ((s.setRoutes c.next).getD [])[i]?) with
      | some r => s.routeReport 0x200E (r.route.getD r.recd)
      | none =>
        let (v, s) := s.fresh
        s.routeReport 0x200E v

/-! ## The commands -/

/-- LOAD (R214): a write of BOOT_IMG_CTRL with LOAD and SRC. -/
def execLoad (src : Nat) (s : State) : Res :=
  .next (s.regWrite R.BOOT_IMG_CTRL (src % 4 * 16 + 1) (·.writeImgCtrl (src % 4 * 16 + 1)))

/-- IMAGE_COMMIT (R215). -/
def execImageCommit (s : State) : Res := .next s.imgCommit

/-- UNLOAD (R228). -/
def execUnload (src : Nat) (s : State) : Res :=
  .next (s.regWrite R.BOOT_IMG_CTRL (src % 4 * 16 + 2) (·.writeImgCtrl (src % 4 * 16 + 2)))

/-- STORE (R217). -/
def execStore (src : Nat) (s : State) : Res :=
  .next (s.regWrite R.BOOT_IMG_CTRL (src % 4 * 16 + 4) (·.writeImgCtrl (src % 4 * 16 + 4)))

/-- STORE_COMPLETE (R217). -/
def execStoreComplete (s : State) : Res := .next s.storeDone

/-- KEYREC (R213). -/
def execKeyrec (src : Nat) (s : State) : Res :=
  .next (s.regWrite R.BOOT_IMG_CTRL (src % 4 * 16 + 8) (·.writeImgCtrl (src % 4 * 16 + 8)))

/-- KEYREC_APPLIED (R213). -/
def execKeyrecApplied (s : State) : Res := .next s.keyDone

/-- ROUTE_SET_CHANGE (R226): a write of MESH_ROUTESET. -/
def execRouteSetChange (value : Nat) (s : State) : Res := .next (s.regWrite R.MESH_ROUTESET value (·.writeRouteset value))

/-- EPOCH_BOUNDARY (R226). -/
def execEpochBoundary (inflight : List Nat) (s : State) : Res := .next (s.epochFlip inflight)

/-- ROUTE_RELEASE (R226). -/
def execRouteRelease (route : Nat) (s : State) : Res := .next (s.routeFree route)

/-- ROUTE_CHANGE_COMPLETE (R226). -/
def execRouteChangeComplete (s : State) : Res := .next s.routeDone

/-- ROUTE_CHANGE_TIMEOUT (R227). -/
def execRouteChangeTimeout (s : State) : Res := .next s.routeLate

end Sys2Proof.Machine
end

