-- ==== Sys2Proof/Machine/JournalExec.lean ====
section
/-! DEFINITION. JournalExec: the commands of the journal engine (chapter 19) and the eject-log entries it journals. -/

namespace Sys2Proof.Machine

/-! ## Eject-log tails (R707, R713, R716) -/

/-- The eject-log entries numbered from `a` to before `b`. -/
def State.logEntries (s : State) (a b : Nat) : List (List Byte) :=
  (List.range (b - a)).map (fun k => Sparse.get s.mot.log.ents ((a + k) % 1024) [])

/-- Stages the waiting eject-log entries in records of up to 7. -/
def State.tailLoop : Nat → State → State
  | 0, s => s
  | n + 1, s =>
    let a := s.jrn.tailSent
    let k := min 7 (s.mot.log.total - a)
    if k = 0 then s
    else
      let b := tailBody a (s.logEntries a (a + k))
      State.tailLoop n ({ s with jrn.tailSent := a + k }.stage 3 (k + 1) b)

/-- EJECT_TAIL_RECORD. [Log 65 DESIGN CHOICE] -/
def State.stageTails (s : State) : State := State.tailLoop 147 s

/-- Makes EJECT_TAIL records for the entries from `a` to before `b`, which go to flash without staging. -/
def State.makeTails : Nat → State → Nat → Nat → List JRec × State
  | 0, s, _, _ => ([], s)
  | n + 1, s, a, b =>
    let k := min 7 (b - a)
    if k = 0 then ([], s)
    else
      let r := s.makeRec 3 (k + 1) (tailBody a (s.logEntries a (a + k)))
      let t := State.makeTails n r.2 (a + k) b
      (r.1 :: t.1, t.2)

/-! ## Hold-up (R716) -/

/-- An END record: KIND, E_MJ and the pages written. -/
def State.endRec (s : State) (kind pages : Nat) : JRec × State :=
  s.makeRec 7 1 ([BitVec.ofNat 8 kind, 0] ++ leBytes 2 (min (s.fld R.PWR_HOLDUP_E_MJ) 65535) ++ leBytes 2 pages)

/-- Whether an output is in DELAY or ON. -/
def State.ejActive (s : State) : Bool :=
  (List.range 16).any (fun n => s.fld (R.EJ_OUT_STATUS_STATE n) == 1 || s.fld (R.EJ_OUT_STATUS_STATE n) == 2)

/-- The guaranteed set: the POWER_LOSS page, the newest 56 eject-log entries not yet journalled, and staging. An
erase under way is abandoned, waiting writes of other regions are dropped. -/
def State.holdupSet (s : State) (cause : Nat) (pages : List PageFact) : State :=
  let n := s.mot.log.total - s.jrn.tailSent
  let s := { s with jrn := { s.jrn with reqs := [], deferring := false, flushWait := false, holdup := true, lossAt := s.now } }
  let s := s.setB R.JRN_STATUS_DEFERRED false
  if !s.bit R.JRN_CTRL_ARMED then { s with jrn := { s.jrn with flashOff := true } }
  else
    let body := [BitVec.ofNat 8 cause, 0] ++ leBytes 2 (s.fld R.PWR_HOLDUP_E_MJ) ++ leBytes 2 (min s.jrn.staging.length 65535)
      ++ leBytes 2 (min n 65535) ++ leBytes 2 (s.fld R.PWR_HOLDUP_CAP_CAP_UF) ++ leBytes 2 (s.fld R.PWR_VIN_VIN_MV)
    let r := s.makeRec 6 2 body
    let c := r.2.makeRec 2 3 r.2.countersBody
    let t := State.makeTails 8 c.2 (s.mot.log.total - min n 56) s.mot.log.total
    let s := { t.2 with jrn := { t.2.jrn with tailSent := s.mot.log.total } }
    let st := pagesOf 56 s.jrn.staging
    let kept := (st.map List.length).foldl (· + ·) 0
    let s := { s with jrn := { s.jrn with staging := s.jrn.staging.drop kept } }
    let w := State.programSeq 15 pages s ([r.1, c.1] :: t.1.map (fun x => [x]) ++ st) 0
    let s := { w.1 with jrn := { w.1.jrn with lossPages := w.2 } }
    s.setF R.JRN_STAGE_BYTES s.staged

/-- HOLDUP_FINAL_PAGE: the last page, with the eject-log entries added since, at most six beside the END record;
then the flash is powered down. -/
def State.holdupFinal (s : State) (f : PageFact) : State :=
  if !s.jrn.holdup ∨ s.jrn.flashOff ∨ (s.ejActive ∧ s.now < s.jrn.lossAt + 100000000) then s
  else
    let s := s.setF R.PWR_HOLDUP_E_MJ f.emj
    let k := min 6 (s.mot.log.total - s.jrn.tailSent)
    let t := if k = 0 then ([], s) else State.makeTails 1 s (s.mot.log.total - k) s.mot.log.total
    let e := t.2.endRec 1 (t.2.jrn.lossPages + 1)
    let s := if 15 ≤ f.emj then e.2.putPage (t.1 ++ [e.1]) f.ok else s
    { s with jrn := { s.jrn with flashOff := true, tailSent := s.mot.log.total } }

/-! ## The read port (R723) -/

/-- JOURNAL_READ: the page in JRN_RD_OFS; an erased page reads 0xFF, one that failed its read-back a free value. -/
def State.jrnRead (s : State) : State :=
  let p := s.fld R.JRN_RD_OFS_PAGE
  let (f, s) := s.freshList 256
  let b := match s.jrn.pages.find? (fun e => e.1 == p) with
    | some e => if e.2 = [] then f.map (BitVec.ofNat 8) else e.2
    | none => List.replicate 256 0xFF
  let s := (List.range 64).foldl (fun (s : State) (k : Nat) => s.setF (R.JRN_RD_DATA_DATA k) (leAt b (4 * k) 4)) s
  s.setB R.JRN_RD_CTRL_DONE true

/-! ## The commands -/

/-- Whether the engine runs: the journal is replayed. -/
def State.jrnRuns (s : State) : Bool := s.bit R.JRN_STATUS_REPLAYED

/-- STAGE_RECORD (R712): a producer stages a record of a type, its body laid out by R707. [Log 66 DESIGN CHOICE] -/
def execStageRecord (ty : Nat) (body : List Byte) (s : State) : Res :=
  .next (if 1 ≤ ty ∧ ty ≤ 9 then
      s.stage ty ([0, 1, 3, 8, 4, 2, 2, 1, 2, 1].getD ty 1) body (if ty = 1 then some (leAt body 0 2) else none)
    else s)

/-- PAGE_PROGRAM (R708): the page buffer is full; `ok` is the result of the read-back. -/
def execPageProgram (ok : Bool) (s : State) : Res :=
  .next (if s.jrnRuns && s.pageReady.2 then s.programNow ok else s)

/-- FLUSH_MS_EXPIRY (R708). -/
def execFlushMsExpiry (ok : Bool) (s : State) : Res := .next <|
  match s.jrn.staging with
  | r :: _ =>
    let waited := r.start != s.jrn.startCnt || decide (r.mono + s.fld R.JRN_CFG_FLUSH_MS * 1000000 ≤ s.time.mono)
    if s.jrnRuns && waited then s.programNow ok else s
  | [] => s

/-- A write of JRN_CTRL (R708): FLUSH programs the page buffer, with the result of its read-back. -/
def State.writeJrnCtrl (s : State) (v : Nat) (ok : Bool) : State :=
  if R.JRN_CTRL_FLUSH.of v = 1 ∧ s.jrnRuns then s.programNow ok else s

/-- A write of JRN_RD_CTRL (R723). -/
def State.writeJrnRd (s : State) (v : Nat) : State :=
  if R.JRN_RD_CTRL_GO.of v = 0 ∨ s.jrn.flashOff then s else s.jrnRead

/-- JOURNAL_FLUSH (R708): a write of JRN_CTRL.FLUSH. -/
def execJournalFlush (ok : Bool) (s : State) : Res := .next (s.regWrite R.JRN_CTRL 2 (·.writeJrnCtrl 2 ok))

/-- DEFER_LONG (R710). [Log 66 DESIGN CHOICE] -/
def execDeferLong (s : State) : Res :=
  .next (if s.jrn.deferring && !s.jrn.deferLong && decide (s.jrn.deferAt + 2000000000 ≤ s.now) then
      { s with jrn := { s.jrn with deferLong := true } }.report R.JRN_STATUS_LAST_STS 0xE002
        (regionOf ((s.jrn.reqs.head?.map FlashReq.object).getD 0))
    else s)

/-- SUBSECTOR_ERASE (R711, R720). -/
def execSubsectorErase (ok : Bool) (s : State) : Res := .next (if s.jrnRuns then s.eraseOldest ok else s)

/-- COUNTERS_RECORD (R713). -/
def execCountersRecord (s : State) : Res :=
  .next (if s.jrnRuns && decide (s.jrn.cntAt + s.fld R.JRN_CFG_CNT_S * 1000000000 ≤ s.now) then
      { s with jrn := { s.jrn with cntAt := s.now } }.stage 2 3 s.countersBody
    else s)

/-- EJECT_TAIL_RECORD (R713). -/
def execEjectTailRecord (s : State) : Res := .next (if s.jrnRuns then s.stageTails else s)

/-- JOURNAL_READ (R723): a write of JRN_RD_CTRL.GO. -/
def execJournalRead (s : State) : Res :=
  .next (s.regWrite R.JRN_RD_CTRL (2 ^ 31) (·.writeJrnRd (2 ^ 31)))

end Sys2Proof.Machine
end

