-- ==== Sys2Proof/Machine/Peripheral.lean ====
section
/-! DEFINITION. Peripheral: the SPI controller and the I2C port (chapter 18). -/

namespace Sys2Proof.Machine

/-! ## SPI (R676 to R689) -/

def SpiEntry.bits (e : SpiEntry) : Nat := R.SPI_ENT0_BITS_M1.of e.ent0 + 1
def SpiEntry.count (e : SpiEntry) : Nat := R.SPI_ENT1_COUNT.of e.ent1
def SpiEntry.cs (e : SpiEntry) : Nat := R.SPI_ENT0_CS.of e.ent0
def SpiEntry.chain (e : SpiEntry) : Bool := R.SPI_ENT0_CHAIN.of e.ent0 != 0
def SpiEntry.cont (e : SpiEntry) : Bool := R.SPI_ENT0_CONT.of e.ent0 != 0
def SpiEntry.rxEn (e : SpiEntry) : Bool := R.SPI_ENT0_RX_EN.of e.ent0 != 0
def SpiEntry.status (e : SpiEntry) : Bool := R.SPI_ENT0_STATUS.of e.ent0 != 0
def SpiEntry.statChk (e : SpiEntry) : Bool := R.SPI_ENT0_STAT_CHK.of e.ent0 != 0
def SpiEntry.partReject (e : SpiEntry) : Bool := R.SPI_ENT0_PART_REJECT.of e.ent0 != 0
def SpiEntry.lsbFirst (e : SpiEntry) : Bool := R.SPI_ENT0_LSB_FIRST.of e.ent0 != 0
def SpiEntry.txOff (e : SpiEntry) : Nat := R.SPI_ENT1_TX_OFF.of e.ent1
def SpiEntry.rxOff (e : SpiEntry) : Nat := R.SPI_ENT1_RX_OFF.of e.ent1
def SpiEntry.tag (e : SpiEntry) : Nat := R.SPI_ENT2_TAG.of e.ent2
def SpiEntry.cmd (e : SpiEntry) : Nat := R.SPI_ENT2_CMD.of e.ent2
/-- The sampling edges of the whole entry, the prefix included. -/
def SpiEntry.edges (e : SpiEntry) : Nat := (if e.status then 8 else 0) + e.count * e.bits
/-- Whether a status byte passes the check of R686. -/
def SpiEntry.passes (e : SpiEntry) (st : Nat) : Bool :=
  !e.statChk || (st &&& R.SPI_ENT0_STAT_MASK.of e.ent0) == R.SPI_ENT0_STAT_VAL.of e.ent0

/-- The `n` low bits of a number in the opposite order. -/
def bitRev : Nat → Nat → Nat
  | 0, _ => 0
  | n + 1, v => v % 2 * 2 ^ n + bitRev n (v / 2)

/-- The word that `n` sampled bits form in the entry's bit order; `v` gives them in the order they arrived,
the first one most significant (R678). -/
def SpiEntry.word (e : SpiEntry) (n v : Nat) : Nat :=
  if e.lsbFirst then bitRev n (v % 2 ^ n) else v % 2 ^ n

/-- Refreshes SPI_STATUS's fill and busy fields. -/
def State.spiRegs (s : State) : State :=
  ((s.setF R.SPI_STATUS_CPL_FILL (min s.spi.cpl.length 32)).setF R.SPI_STATUS_Q_FILL
    s.spi.queue.length).setB R.SPI_STATUS_BUSY s.spi.running.isSome

/-- Writes a completion record (R689) and counts the entry. -/
def State.spiRecord (s : State) (e : SpiEntry) (state sts st words bits : Nat)
    (frameRej partialW : Bool) : State :=
  let r : CplRec := ⟨st % 256 * 2 ^ 24 + state * 2 ^ 16 + e.tag,
    sts * 2 ^ 16 + frameRej.toNat * 2 ^ 13 + partialW.toNat * 2 ^ 12 + words % 512, bits % 2 ^ 14⟩
  let s := { s with spi.cpl := s.spi.cpl ++ [r] }
  let s := s.inc R.SPI_CNT_ENTRIES_COUNT
  (if state = 1 then s else s.inc R.SPI_CNT_FAILED_COUNT).spiRegs

/-- Ends entries as SKIPPED, in order. -/
def State.spiSkip (s : State) : List SpiEntry → State
  | [] => s
  | e :: l => (s.spiRecord e 4 0 0 0 0 false false).spiSkip l

/-- The chained successors of an entry: the entries up to the first one without CHAIN. -/
def chained : List SpiEntry → List SpiEntry
  | [] => []
  | e :: l => if e.chain then e :: chained l else [e]

/-- Stores receive words from an offset on (R684). -/
def State.spiStore (s : State) (off : Nat) : List Nat → State
  | [] => s
  | w :: l => (s.setF (R.SPI_RXBUF_DATA (off % 256)) w).spiStore (off + 1) l

/-- A write of SPI_PUSH (R683): the entry is queued, or refused with the failing word. [Log 67 DESIGN CHOICE] -/
def State.spiPush (s : State) (v : Nat) : State :=
  if R.SPI_PUSH_GO.of v = 0 then s
  else
    let e : SpiEntry := ⟨(s.rd R.SPI_ENT0).toNat, (s.rd R.SPI_ENT1).toNat, (s.rd R.SPI_ENT2).toNat⟩
    let bad := fun w => s.report R.SPI_STATUS_LAST_STS 0xD002 w
    if e.bits < 4 then bad 0
    else if e.count = 0 ∨ 256 < e.count then bad 1
    else if e.statChk && !e.status then bad 0
    else
      let clash := match (s.spi.queue.getLast?.or s.spi.running) with
        | some p => p.chain && (p.cs != e.cs || R.SPI_ENT0_CPOL.of p.ent0 != R.SPI_ENT0_CPOL.of e.ent0)
        | none => false
      if clash then bad 0
      else if 32 ≤ s.spi.queue.length then s.report R.SPI_STATUS_LAST_STS 0xD001 0
      else { s with spi.queue := s.spi.queue ++ [e] }.spiRegs

/-- The transmit words of an entry (R684, R685). -/
def State.spiTx (s : State) (e : SpiEntry) : List Nat :=
  (List.range e.count).map (fun k => s.fld (R.SPI_TXBUF_DATA ((e.txOff + k) % 256)) % 2 ^ e.bits)

/-- An entry whose conditions hold starts (R684). -/
def State.spiStart (s : State) : State :=
  match s.spi.queue with
  | [] => s
  | e :: l =>
    if s.bit R.SPI_CTRL_EN && s.spi.running.isNone && decide (s.spi.cpl.length < 32)
        && (!e.chain || !l.isEmpty) then
      let s := { s with spi.queue := l, spi.running := some e, spi.selected := some e.cs }
      (s.emit (.spi e.cs (if e.status then some e.cmd else none) (s.spiTx e))).spiRegs
    else s

/-- The running entry ends by its own course (R684, R686): `st` is the byte that arrived during the prefix
and `rx` the bits that arrived for each word, the first bit most significant. -/
def State.spiEnd (s : State) (st : Nat) (rx : List Nat) : State :=
  match s.spi.running with
  | none => s
  | some e =>
    let st := if e.status then st % 256 else 0
    if e.status && !e.passes st then
      let skip := if e.chain then chained s.spi.queue else []
      let s := { s with
        spi.running := none, spi.selected := none
        spi.queue := s.spi.queue.drop skip.length }
      let s := s.report R.SPI_STATUS_LAST_STS 0xD003 st
      (s.spiRecord e 2 0xD003 st 0 8 false false).spiSkip skip
    else
      let ws := (List.range e.count).map (fun k => e.word e.bits (rx.getD k 0))
      let s := if e.rxEn then s.spiStore e.rxOff ws else s
      let s := { s with spi.running := none, spi.selected := if e.chain then some e.cs else none }
      s.spiRecord e 1 0 st (if e.rxEn then e.count else 0) e.edges false false

/-- An abort (R687, R688): `edges` sampling edges of the running entry have occurred, the prefix included;
`rx` holds the bits that arrived for each word, a partial word's bits last. -/
def State.spiAbort (s : State) (cause edges st : Nat) (rx : List Nat) : State :=
  match s.spi.running with
  | none =>
    if cause = 2 then s
    else { s with spi.queue := [], spi.selected := none }.spiSkip s.spi.queue |>.spiRegs
  | some e =>
    let q := s.spi.queue
    if e.edges ≤ edges then
      let s := s.spiEnd st rx
      ({ s with spi.queue := [], spi.selected := none }).spiSkip s.spi.queue |>.spiRegs
    else
      let s := { s with spi.queue := [], spi.running := none, spi.selected := none }
      let pre := if e.status then min edges 8 else 0
      let data := edges - pre
      let whole := data / e.bits
      let k := data % e.bits
      let st := if pre = 8 then st % 256 else 0
      let full := (List.range whole).map (fun j => e.word e.bits (rx.getD j 0))
      let s := s.report R.SPI_STATUS_LAST_STS 0xD004 cause
      let s :=
        if k = 0 then
          let s := if e.rxEn then s.spiStore e.rxOff full else s
          s.spiRecord e 3 0xD004 st (if e.rxEn then whole else 0) edges false false
        else if e.partReject then
          let kept := if e.cont then 0 else whole
          let s := if e.rxEn then
              s.spiStore e.rxOff (if e.cont then List.replicate whole 0 else full) else s
          let s := s.report R.SPI_STATUS_LAST_STS 0xD006 (if e.cont then data else k)
          s.spiRecord e 3 0xD004 st (if e.rxEn then kept else 0) edges true false
        else
          let s := if e.rxEn then s.spiStore e.rxOff (full ++ [e.word k (rx.getD whole 0)]) else s
          let s := s.report R.SPI_STATUS_LAST_STS 0xD005 k
          s.spiRecord e 3 0xD004 st (if e.rxEn then whole + 1 else 0) edges false true
      s.spiSkip q |>.spiRegs

/-- An abort of which the sampled edges and bits are not told: they are free values. -/
def State.spiAbortFree (s : State) (cause : Nat) : State :=
  match s.spi.running with
  | none => s.spiAbort cause 0 0 []
  | some e =>
    let (a, s) := s.fresh
    let (b, s) := s.fresh
    let (ws, s) := s.freshList e.count
    s.spiAbort cause (a % (e.edges + 1)) (b % 256) ws

/-- A read of SPI_CPL0 moves the oldest record into the shadow (R689, R725). -/
def State.spiPop (s : State) : State :=
  let r := s.spi.cpl.headD ⟨0, 0, 0⟩
  let s := { s with spi.cpl := s.spi.cpl.tail, bus.data := r.w0 }
  (((s.setF (R.SPI_CPL_RECORD 0) r.w0).setF (R.SPI_CPL_RECORD 1) r.w1).setF
    (R.SPI_CPL_RECORD 2) r.w2).spiRegs

/-! ## I2C controller (R690 to R695) -/

def I2cCmd.addr (c : I2cCmd) : Nat := R.I2C_CMD0_ADDR.of c.cmd0
def I2cCmd.wlen (c : I2cCmd) : Nat := R.I2C_CMD0_WLEN.of c.cmd0
def I2cCmd.rlen (c : I2cCmd) : Nat := R.I2C_CMD0_RLEN.of c.cmd0
def I2cCmd.pec (c : I2cCmd) : Bool := R.I2C_CMD0_PEC.of c.cmd0 != 0
def I2cCmd.block (c : I2cCmd) : Bool := R.I2C_CMD0_BLOCK.of c.cmd0 != 0
def I2cCmd.nostop (c : I2cCmd) : Bool := R.I2C_CMD0_NOSTOP.of c.cmd0 != 0
def I2cCmd.tag (c : I2cCmd) : Nat := R.I2C_CMD1_TAG.of c.cmd1
def I2cCmd.txOff (c : I2cCmd) : Nat := R.I2C_CMD1_TX_OFF.of c.cmd1
def I2cCmd.rxOff (c : I2cCmd) : Nat := R.I2C_CMD1_RX_OFF.of c.cmd1

/-- Refreshes I2C_FILL. -/
def State.i2cRegs (s : State) : State :=
  ((s.setF R.I2C_FILL_Q s.i2c.queue.length).setF R.I2C_FILL_CPL (min s.i2c.cpl.length 16)).setF
    R.I2C_FILL_TLOG s.i2c.tlog.length

/-- Byte `k` of a buffer of 64 words. -/
def State.bufByte (s : State) (r : Nat → Fld) (k : Nat) : Byte :=
  BitVec.ofNat 8 (s.fld (r (k % 256 / 4)) / 2 ^ (8 * (k % 4)))

/-- Writes byte `k` of a buffer of 64 words. -/
def State.setBufByte (s : State) (r : Nat → Fld) (k : Nat) (b : Byte) : State :=
  let f := r (k % 256 / 4)
  let lo := 8 * (k % 4)
  let v := s.fld f
  s.setF f (v - v / 2 ^ lo % 256 * 2 ^ lo + b.toNat * 2 ^ lo)

/-- Writes bytes of a buffer from an offset on. -/
def State.setBuf (s : State) (r : Nat → Fld) (k : Nat) : List Byte → State
  | [] => s
  | b :: l => (s.setBufByte r k b).setBuf r (k + 1) l

/-- The bytes a command writes. -/
def State.i2cTx (s : State) (c : I2cCmd) : List Byte :=
  (List.range c.wlen).map (fun k => s.bufByte R.I2C_TXBUF_DATA (c.txOff + k))

/-- The PEC of a command's write phase, and of the whole command with the bytes read (R692). -/
def I2cCmd.pecOf (c : I2cCmd) (tx : List Byte) (rd : List Byte) : Nat :=
  let w := if c.wlen = 0 then [] else BitVec.ofNat 8 (2 * c.addr) :: tx
  let r := if c.rlen = 0 then [] else BitVec.ofNat 8 (2 * c.addr + 1) :: rd
  crc8 (w ++ r)

/-- Writes a completion record, unless the command's record stands already, and counts the command. -/
def State.i2cRecord (s : State) (c : I2cCmd) (state sts written read : Nat) : State :=
  if c.recorded then s.i2cRegs
  else
    let r : CplRec := ⟨min s.i2c.retries 15 * 2 ^ 20 + state * 2 ^ 16 + c.tag,
      sts * 2 ^ 16 + written % 256 * 256 + read % 256, 0⟩
    (({ s with i2c.cpl := s.i2c.cpl ++ [r] }).inc R.I2C_CNT_CMDS_COUNT).i2cRegs

/-- Ends commands as SKIPPED, in order. -/
def State.i2cSkip (s : State) : List I2cCmd → State
  | [] => s
  | c :: l => ({ s with i2c.retries := 0 }.i2cRecord c 4 0 0 0).i2cSkip l

/-- A write of I2C_PUSH (R690). [Log 67 DESIGN CHOICE] -/
def State.i2cPush (s : State) (v : Nat) : State :=
  if R.I2C_PUSH_GO.of v = 0 then s
  else
    let c : I2cCmd := ⟨(s.rd R.I2C_CMD0).toNat, (s.rd R.I2C_CMD1).toNat, false⟩
    let bad := fun r => s.report R.I2C_STATUS_LAST_STS 0xD102 r
    if c.wlen = 0 ∧ c.rlen = 0 then bad 1
    else if c.block && decide (c.rlen < 2) then bad 2
    else if s.bit R.I2C_CTRL_TEN && c.addr == s.fld R.I2C_TGT_CFG_ADDR then bad 3
    else if 16 ≤ s.i2c.queue.length then s.report R.I2C_STATUS_LAST_STS 0xD101 0
    else { s with i2c.queue := s.i2c.queue ++ [c] }.i2cRegs

/-- The bus is released by the controller: the sequence is over. -/
def State.i2cRelease (s : State) : State :=
  let s := { s with i2c.running := false, i2c.seq := [], i2c.retries := 0 }
  (s.setB R.I2C_STATUS_HOLDING false).setB R.I2C_STATUS_CTL_ACTIVE false

/-- Applies the waiting commit of the driver's window bytes (R699). -/
def State.i2cApply (s : State) : State :=
  match s.i2c.waiting with
  | none => s
  | some ws => { (ws.zipIdx.foldl (fun s p => s.setF (R.I2C_TWIN_LIVE_DATA p.2) p.1) s) with
                 i2c.waiting := none }

/-- A command starts on a free bus, or by a repeated START in a hold sequence (R691). `pulses` is the number
of SCL pulses until SDA is released; above nine it stays low. -/
def State.i2cStart (s : State) (pulses : Nat) : State :=
  match s.i2c.queue with
  | [] => s
  | c :: l =>
    let holding := s.bit R.I2C_STATUS_HOLDING
    if s.bit R.I2C_CTRL_CEN && !s.i2c.running && decide (s.i2c.cpl.length < 16)
        && (holding || s.i2c.busFree) then
      if 9 < pulses ∧ !holding then
        let s := { s with i2c.queue := l }
        let s := s.report R.I2C_STATUS_LAST_STS 0xD108 0
        (s.i2cRecord c 2 0xD108 0 0).i2cRelease
      else
        let tx := s.i2cTx c
        let tx := if c.pec && decide (0 < c.wlen) then tx ++ [BitVec.ofNat 8 (c.pecOf tx [])] else tx
        let s := { s with
        i2c.queue := l, i2c.running := true, i2c.seq := s.i2c.seq ++ [c]
        i2c.busFree := false }
        let s := (s.setB R.I2C_STATUS_CTL_ACTIVE true).setB R.I2C_STATUS_BUS_BUSY true
        (s.i2cApply.emit (.i2c c.addr tx c.rlen)).i2cRegs
    else s

/-- How a command ends, from what the bus did: its status (0 when DONE), the detail word, the data bytes
ACKed, and the bytes it stores (R692). -/
def State.i2cOutcome (s : State) (c : I2cCmd) (r : I2cResult) : Nat × Nat × Nat × List Byte :=
  if !r.addrAck then (0xD103, c.addr, 0, [])
  else match r.nackAt with
  | some k => (0xD104, k, min k c.wlen, [])
  | none =>
    if c.rlen = 0 then (0, 0, c.wlen, [])
    else
      let first := (r.read.getD 0 0xFF).toNat
      let badLen := c.block && (first == 0 || decide (32 < first) || decide (c.rlen - 1 < first))
      if badLen then (0xD10A, first, c.wlen, r.read.take 1)
      else
        let n := if c.block then first + 1 else c.rlen
        let data := (List.range n).map (fun k => r.read.getD k 0xFF)
        if c.pec && c.pecOf (s.i2cTx c) data != (r.read.getD n 0xFF).toNat then (0xD109, 0, c.wlen, data)
        else (0, 0, c.wlen, data)

/-- The command on the bus ends (R692). -/
def State.i2cEnd (s : State) (r : I2cResult) : State :=
  match s.i2c.seq.getLast? with
  | none => s
  | some c =>
    if !s.i2c.running then s
    else
      let (sts, detail, written, data) := s.i2cOutcome c r
      let s := s.setBuf R.I2C_RXBUF_DATA c.rxOff data
      let s := if sts = 0xD103 ∨ sts = 0xD104 then s.inc R.I2C_CNT_NACK_COUNT else s
      let s := if sts = 0 then s else s.report R.I2C_STATUS_LAST_STS sts detail
      let s := s.i2cRecord c (if sts = 0 then 1 else 2) sts written data.length
      if sts = 0 && c.nostop then
        { (s.setB R.I2C_STATUS_HOLDING true) with
          i2c.running := false, i2c.retries := 0
          i2c.seq := s.i2c.seq.dropLast ++ [{ c with recorded := true }] }
      else s.i2cRelease

/-- Arbitration is lost at a bit (R694, R696). `winner` is the address and direction the winner sends, when
the loss lies within the address byte. -/
def State.i2cLost (s : State) (byte bit : Nat) (winner : Option (Nat × Bool)) : State :=
  match s.i2c.seq.getLast? with
  | none => s
  | some c =>
    if !s.i2c.running then s
    else
      let s := s.inc R.I2C_CNT_ARB_LOST_COUNT
      let s := s.report R.I2C_STATUS_LAST_STS 0xD105 (byte % 256 * 256 + bit % 8)
      let n := s.i2c.retries + 1
      let s := { s with i2c.running := false, i2c.busFree := false }
      let s := (s.setB R.I2C_STATUS_CTL_ACTIVE false).setB R.I2C_STATUS_BUS_BUSY true
      let s :=
        if s.fld R.I2C_CFG_RETRY_MAX < n then
          let s := { s with i2c.retries := n }
          let s := s.report R.I2C_STATUS_LAST_STS 0xD106 c.addr
          (s.i2cRecord c 2 0xD106 0 0).i2cRelease
        else
          { (s.setB R.I2C_STATUS_HOLDING false) with
            i2c.queue := s.i2c.seq ++ s.i2c.queue, i2c.seq := [], i2c.retries := n }.i2cRegs
      match winner with
      | some (a, rd) =>
        if byte = 0 && s.bit R.I2C_CTRL_TEN && a == s.fld R.I2C_TGT_CFG_ADDR then
          { (s.setB R.I2C_STATUS_TGT_ACTIVE true) with
            i2c.tgt := some ⟨rd, s.i2c.tptr, 0, false, false, []⟩ }
        else s
      | none => s

/-- The commands of the queue that belong to the same hold sequence as a command before them. -/
def heldOn (nostop : Bool) : List I2cCmd → List I2cCmd
  | [] => []
  | c :: l => if nostop then c :: heldOn c.nostop l else []

/-- SCL is stretched beyond the limit (R693); without a limit that never comes about. -/
def State.i2cSclTimeout (s : State) : State :=
  match s.i2c.seq.getLast? with
  | none => s
  | some c =>
    if !s.i2c.running || (!s.bit R.I2C_CFG_SMBUS && s.fld R.I2C_CFG_STRETCH_MAX_MS == 0) then s
    else
      let skip := heldOn c.nostop s.i2c.queue
      let s := { s with i2c.queue := s.i2c.queue.drop skip.length, i2c.busFree := false }
      let s := s.report R.I2C_STATUS_LAST_STS 0xD107 0
      let s := (s.i2cRecord c 2 0xD107 0 0).i2cRelease
      (s.i2cSkip skip).setB R.I2C_STATUS_BUS_BUSY true

/-- The bus has become free (R691). -/
def State.i2cBusFree (s : State) : State :=
  if s.i2c.running || s.bit R.I2C_STATUS_HOLDING then s
  else { s with i2c.busFree := true }.setB R.I2C_STATUS_BUS_BUSY false

/-! ## I2C target (R696 to R699) -/

/-- TWIN_COMMIT (R699): at once if the bus is free, otherwise at the next START. -/
def State.i2cCommit (s : State) : State :=
  let s := { s with i2c.waiting := some ((List.range 32).map (fun k => s.fld (R.I2C_TWIN_DATA k))) }
  if s.i2c.busFree then s.i2cApply else s

/-- A START or repeated START of any controller is seen (R699). -/
def State.i2cBusStart (s : State) : State :=
  ({ s with i2c.busFree := false }.setB R.I2C_STATUS_BUS_BUSY true).i2cApply

/-- Stores a write's data bytes into the pending copy: those below 0x80 or past 0xFF are NACKed, which ends
the storing (R697). Answers the bytes kept, the pointer, and the pointer of the NACK. -/
def tgtStore : Nat → List Byte → List (Nat × Byte) × Nat × Option Nat
  | p, [] => ([], p, none)
  | p, b :: l =>
    if p < 0x80 ∨ 0xFF < p then ([], p, some p)
    else let t := tgtStore (p + 1) l; ((p, b) :: t.1, t.2.1, t.2.2)

/-- A transaction to the port's own address (R697): `bytes` are the bytes written, the pointer first and a
PEC last where one is checked; `n` the number of bytes read. -/
def State.i2cTarget (s : State) (read : Bool) (bytes : List Byte) (n : Nat) : State :=
  if !s.bit R.I2C_CTRL_TEN then s
  else
    let s := s.setB R.I2C_STATUS_TGT_ACTIVE true
    if read then
      let p := s.i2c.tptr
      let sent := (List.range n).map (fun k =>
        if p + k ≤ 0xFF then s.bufByte R.I2C_TWIN_LIVE_DATA (p + k) else 0xFF)
      { (s.emit (.i2cTarget sent)) with
        i2c.tptr := min (p + n) 0x100, i2c.tgt := some ⟨true, p, n, false, false, []⟩ }
    else match bytes with
    | [] => { s with i2c.tgt := some ⟨false, s.i2c.tptr, 0, false, false, []⟩ }
    | b :: rest =>
      let pec := s.bit R.I2C_TGT_CFG_PEC
      let data := if pec then rest.dropLast else rest
      let all := BitVec.ofNat 8 (2 * s.fld R.I2C_TGT_CFG_ADDR) :: bytes
      let bad := pec && (rest.isEmpty || crc8 all.dropLast != (bytes.getLastD 0).toNat)
      let (kept, p, nack) := tgtStore b.toNat data
      let s := { s with
        i2c.tptr := min p 0x100
        i2c.tgt := some ⟨false, b.toNat, kept.length, nack.isSome, bad, kept⟩ }
      match nack with
      | some p => s.reportLimited R.I2C_STATUS_LAST_STS 0xD10B (fun _ => p) 0
      | none => s

/-- Ends the target's transaction: END code 1 STOP, 2 repeated START, 3 discarded (R698). -/
def State.i2cTargetEnd (s : State) (how : Nat) : State :=
  match s.i2c.tgt with
  | none => s
  | some t =>
    let s := if how ≠ 3 ∧ !t.pecBad then
        t.pend.foldl (fun s p => s.setBufByte R.I2C_TWIN_LIVE_DATA p.1 p.2) s else s
    let s := if how ≠ 3 ∧ t.pecBad then s.report R.I2C_STATUS_LAST_STS 0xD109 1 else s
    let e := t.len % 256 * 2 ^ 16 + t.startPtr % 256 * 256 + t.roNack.toNat * 16 + t.pecBad.toNat * 8
      + how * 2 + t.read.toNat
    let log := s.i2c.tlog ++ [e]
    let s := { s with i2c.tgt := none, i2c.tlog := log.drop (log.length - 16) }
    ((s.inc R.I2C_CNT_TGT_TXN_COUNT).setB R.I2C_STATUS_TGT_ACTIVE false).i2cRegs

/-- SCL low for 35 ms while the target is addressed (R702). -/
def State.i2cTargetTimeout (s : State) : State :=
  if s.i2c.tgt.isNone then s
  else (s.i2cTargetEnd 3).report R.I2C_STATUS_LAST_STS 0xD107 1

/-- An abort of the controller (R700): `written` and `read` are the bytes ACKed and read so far. -/
def State.i2cAbort (s : State) (cause written read : Nat) : State :=
  let s := match s.i2c.running, s.i2c.seq.getLast? with
    | true, some c =>
      let s := s.report R.I2C_STATUS_LAST_STS 0xD10C cause
      s.i2cRecord c 2 0xD10C written read
    | _, _ => s
  let q := s.i2c.queue
  ({ s with i2c.queue := [] }.i2cRelease.i2cSkip q).i2cRegs

/-- Input loss or a thermal trip aborts both ports and the target's transaction (R700). -/
def State.portsLost (s : State) : State :=
  let s := s.spiAbortFree 3
  let (a, s) := if s.i2c.running then s.fresh else (0, s)
  let (b, s) := if s.i2c.running then s.fresh else (0, s)
  (s.i2cAbort 3 (a % 256) (b % 256)).i2cTargetEnd 3

/-- A read of I2C_CPL0 moves the oldest record into the shadow (R704, R725). -/
def State.i2cPop (s : State) : State :=
  let r := s.i2c.cpl.headD ⟨0, 0, 0⟩
  let s := { s with i2c.cpl := s.i2c.cpl.tail, bus.data := r.w0 }
  ((s.wr R.I2C_CPL0 (BitVec.ofNat 32 r.w0)).wr R.I2C_CPL1 (BitVec.ofNat 32 r.w1)).i2cRegs

/-- A read of I2C_TLOG moves the oldest log entry into the shadow (R704, R725). -/
def State.i2cLogPop (s : State) : State :=
  let e := s.i2c.tlog.headD 0
  ({ s with i2c.tlog := s.i2c.tlog.tail, bus.data := e }.wr R.I2C_TLOG (BitVec.ofNat 32 e)).i2cRegs

end Sys2Proof.Machine
end

