-- ==== Sys2Proof/Machine/Time.lean ====
section
/-! DEFINITION. Time: network time (chapter 08): the counters, rate and steps, timestamps, samples and the servo,
event stamps, and the MOTION copy when TIME stops. -/

namespace Sys2Proof.Machine

/-! ## Counters (R331 to R333) -/

/-- A second in nanoseconds. -/
def giga : Nat := 1000000000

/-- PTP time in whole nanoseconds: MONO plus the offset (R333). -/
def State.ptpNs (s : State) : Int := (s.time.mono : Int) + s.time.ofs

/-- One TIME cycle adds I = 8 ns + RATE × 2^-32 ns (R332). [Log 2 DESIGN CHOICE] -/
def State.tick (s : State) : State :=
  let n := (s.time.frac : Int) + 8 * 2 ^ 32 + signed 32 (s.fld R.PTP_RATE_RATE)
  { s with
    time.mono := (s.time.mono + (n / 2 ^ 32).toNat) % 2 ^ 64
    time.frac := (n % 2 ^ 32).toNat }

/-- The MOTION copy takes a received value again once MONO passes the held one (R346).
[Log 2 DESIGN CHOICE, 32 DESIGN CHOICE] -/
def State.copyCheck (s : State) : State :=
  match s.time.copy with
  | some (v, _, true) =>
    if v < s.time.mono then { s with time.copy := none }.setB R.PTP_STATUS_MOT_FREERUN false else s
  | _ => s

/-- PTP_STEP_LOG shows the entry that PTP_STEP_LOG_SEL selects (R364): the newest is 0. -/
def State.stepLogRegs (s : State) : State :=
  let ws := match s.time.steps[s.fld R.PTP_STEP_LOG_SEL_INDEX]? with
    | some e =>
      let d := unsignedOf 64 (max (-(2 ^ 63)) (min (2 ^ 63 - 1) e.delta))
      [e.seq, e.mono % 2 ^ 32, e.mono / 2 ^ 32, d % 2 ^ 32, d / 2 ^ 32]
    | none => [0, 0, 0, 0, 0]
  ws.zipIdx.foldl (fun (s : State) (p : Nat × Nat) => s.setF (R.PTP_STEP_LOG_LOG p.2) p.1) s

/-- A status of this chapter. -/
def State.timeReport (s : State) (sts detail : Nat) (inst : Nat := 0) : State :=
  s.report R.PTP_STATUS_LAST_STS sts detail inst

/-! ## Rate and steps (R336, R337, R342, R350) -/

/-- Puts a rate, saturated to ±1,000 ppm and reported then. -/
def State.rateSet (s : State) (v : Int) : State :=
  let lim : Int := 34359738
  let c := max (-lim) (min lim v)
  let s := s.setF R.PTP_RATE_RATE (unsignedOf 32 c)
  if c = v then s else s.timeReport 0x6004 0

/-- A step asked for, by the driver or the servo: refused while one is pending, or out of range; its whole range is
checked in the TIME cycle that applies it. -/
def State.stepAsk (s : State) (sec : Int) (ns : Nat) : State :=
  if s.time.step.isSome then s.timeReport 0x6003 0
  else if s.time.runs ∧ (giga ≤ ns ∨ s.ptpNs + sec * giga + ns < 0) then s.timeReport 0x6002 0
  else { s with time.step := some (sec, ns) }.setB R.PTP_STEP_CTRL_BUSY true

/-- The TIME cycle that applies a pending step: PTP time and the offset change by Δ, STEP_SEQ increments, the step is
logged and reported. A step out of range is refused. [Log 2 DESIGN CHOICE, 46 DESIGN CHOICE] -/
def State.stepApply (s : State) : State :=
  match s.time.step with
  | none => s
  | some (sec, ns) =>
    if !s.time.runs then s
    else
      let s := { s with time.step := none }.setB R.PTP_STEP_CTRL_BUSY false
      let d := sec * giga + ns
      if giga ≤ ns ∨ s.ptpNs + d < 0 then s.timeReport 0x6002 0
      else
        let q := (s.fld R.PTP_STATUS_STEP_SEQ + 1) % 256
        let s := { s.setF R.PTP_STATUS_STEP_SEQ q with
          time.ofs := s.time.ofs + d
          time.steps := ((⟨q, s.time.mono, d⟩ : StepEnt) :: s.time.steps).take 16 }
        (s.timeReport 0x6001 q).stepLogRegs

/-- A write of PTP_RATE (R336, R342). -/
def State.writeRate (s : State) (v : Nat) : State :=
  if s.fld R.PTP_SERVO_CFG_MODE ≠ 1 then s.timeReport 0x600A 0x030 else s.rateSet (signed 32 v)

/-- A write of PTP_STEP_CTRL (R337, R342). -/
def State.writeStepCtrl (s : State) (v : Nat) : State :=
  if R.PTP_STEP_CTRL_GO.of v = 0 then s
  else if s.fld R.PTP_SERVO_CFG_MODE ≠ 1 then s.timeReport 0x600A 0x040
  else s.stepAsk (signed 64 (s.pair R.PTP_STEP_SEC_LO_STEP_SEC_LO R.PTP_STEP_SEC_HI_STEP_SEC_HI))
    (s.fld R.PTP_STEP_NS_STEP_NS)

/-- RATE_WRITE (R336, R342). -/
def execRateWrite (value : Nat) (s : State) : Res := .next (s.regWrite R.PTP_RATE value (·.writeRate value))

/-- STEP_REQUEST (R337, R342): a write of PTP_STEP_CTRL. -/
def execStepRequest (value : Nat) (s : State) : Res := .next (s.regWrite R.PTP_STEP_CTRL value (·.writeStepCtrl value))

/-- STEP_APPLY (R337): the pending step takes effect. -/
def execStepApply (s : State) : Res := .next s.stepApply

/-! ## Configuration and links (R354, R355) -/

/-- A write of PTP_CFG (R355): with EN 1 only EN is written; ROLE 3 reads back as 0; ROLE 2 needs both PHYs.
[Log 46 DESIGN CHOICE] -/
def State.writePtpCfg (s : State) (value : Nat) : State :=
  let old := (s.rd R.PTP_CFG).toNat
  let v := value &&& R.PTP_CFG.rw
  let v := if R.PTP_CFG_ROLE.of v = 3 then R.PTP_CFG_ROLE.into v 0 else v
  let en := R.PTP_CFG_EN.of v
  let bad := s.bit R.PTP_CFG_EN && decide (R.PTP_CFG_EN.into v 0 ≠ R.PTP_CFG_EN.into old 0)
  let two := !bad && R.PTP_CFG_ROLE.of v == 2 && s.boot.phyStart % 4 != 3
    && R.PTP_CFG_ROLE.of old != 2
  let v := if bad then R.PTP_CFG_EN.into old en
    else if two then R.PTP_CFG_ROLE.into v (R.PTP_CFG_ROLE.of old) else v
  let s := if !s.bit R.PTP_CFG_EN && en == 1 then { s with time.heardAt := s.now } else s
  let s := s.wr R.PTP_CFG (BitVec.ofNat 32 v)
  if bad || two then s.timeReport 0x600A 0x000 else s

/-- PTP_CFG_WRITE (R355). -/
def execPtpCfgWrite (value : Nat) (s : State) : Res := .next (s.regWrite R.PTP_CFG value (·.writePtpCfg value))

/-- ETHERNET_LINK_CHANGE (R354): with its link up a port's PTP state is the protocol's, which the spec does not teach. -/
def execEthernetLinkChange (port : Nat) (up : Bool) (s : State) : Res := .next <|
  if 2 ≤ port ∨ s.pwr.inReset then s
  else
    let s := s.setB (R.PTP_PORT_STATUS_LINK port) up
    if up && s.pwr.ethDrive then
      let (v, s) := s.pick [1, 2, 3, 4, 5, 6, 7, 8, 9]
      s.setF (R.PTP_PORT_STATUS_STATE port) (v.getD 1)
    else s.ptpPortDown port

/-- Whether a port takes part in PTP (R363) and its messages pass: enabled, linked, the relays not in bypass, and MESH
clocked: in STANDBY no message is sent or processed (R150). -/
def State.ptpPort (s : State) (n : Nat) : Bool :=
  s.bit R.PTP_CFG_EN && s.time.runs && s.clocked 7 && s.pwr.ethDrive && decide (n < 2)
    && s.bit (R.PTP_PORT_STATUS_LINK n)
    && (match s.fld R.PTP_CFG_ROLE with
        | 1 => n == 0
        | 2 => s.bit (R.PTP_PORT_CFG_EN n)
        | _ => false)

/-! ## Timestamps (R334, R335, R338, R341, R351, R353) -/

/-- Completes a received 48-bit seconds value nearest to the local one; of two as near, the lower (R334). -/
def placeSec (here sec : Nat) : Nat :=
  let m := 2 ^ 48
  let base := here / m * m + sec % m
  let low := base - m
  let dist := fun (a : Nat) => (max a here) - (min a here)
  let best := if m ≤ base ∧ dist low ≤ dist base then low else base
  if base + m < 2 ^ 64 ∧ dist (base + m) < dist best then base + m else best

/-- A stamp: PTP time of this cycle within its uncertainty of ±2 ns, in whole nanoseconds. -/
def State.ptpStamp (s : State) : Int × State :=
  let (v, s) := s.fresh
  (s.ptpNs + ((v % 5 : Nat) : Int) - 2, s)

/-- A received event message (R338): `inSubset` says that every item but the domain is within R335; `took` messages
have left crossing 21 since the last. [Log 45 DESIGN CHOICE] -/
def execPtpRx (port kind seq sec domain : Nat) (inSubset : Bool) (took : Nat) (s : State) : Res := .next <|
  let s := { s with time.rx := s.time.rx.drop took }
  if !s.ptpPort port then s
  else if !inSubset || domain != s.fld R.PTP_CFG_DOMAIN then s.inc (R.PTP_CNT_OTHER_COUNT port)
  else
    let s := s.inc (R.PTP_CNT_RXEV_COUNT port)
    let (t, s) := s.ptpStamp
    if 32 ≤ s.time.rx.length then
      (s.inc (R.PTP_CNT_RXDROP_COUNT port)).reportLimited R.PTP_STATUS_LAST_STS 0x6007 (fun _ => port) port
    else
      let here := (s.ptpNs / giga).toNat
      { s with time.rx := s.time.rx ++ [(⟨port, kind, seq, t, s.fld R.PTP_STATUS_STEP_SEQ, placeSec here sec⟩ : PtpStamp)] }

/-- A transmitted event message (R341): kind as IEEE 1588 numbers it, 0 Sync, 1 Delay_Req, 2 Pdelay_Req, 3 Pdelay_Resp;
`turn` is the ingress stamp of the request a Pdelay_Resp answers; `took` stamps have left the queue since the last. In
one-step mode a Sync leaves with its compensated egress time, a Pdelay_Resp with the turnaround time added.
[Log 45 DESIGN CHOICE] -/
def execPtpTx (port kind seq : Nat) (turn : Int) (took : Nat) (s : State) : Res := .next <|
  let s := { s with time.tx := setAt s.time.tx port ((s.time.tx.getD port []).drop took) }
  if !s.ptpPort port then s
  else
    let s := s.inc (R.PTP_CNT_TXEV_COUNT port)
    let (t, s) := s.ptpStamp
    let wire := t * 65536 + s.fld (R.PTP_TX_LAT_TX_LAT port)
    if s.bit R.PTP_CFG_ONE_STEP then
      if kind = 0 then
        let sec := wire / 65536 / giga % 2 ^ 48
        s.emit (.ptp port kind seq (sec * giga * 65536 + wire % (giga * 65536)))
      else if kind = 3 then
        s.emit (.ptp port kind seq (wire - (turn * 65536 - s.fld (R.PTP_RX_LAT_RX_LAT port))))
      else s.emit (.ptp port kind seq 0)
    else
      let s := s.emit (.ptp port kind seq 0)
      let q := s.time.tx.getD port []
      if 16 ≤ q.length then
        (s.inc (R.PTP_CNT_TXLOST_COUNT port)).reportLimited R.PTP_STATUS_LAST_STS 0x6006 (fun _ => port) port
      else
        let e : PtpStamp := ⟨port, kind, seq, t, s.fld R.PTP_STATUS_STEP_SEQ, 0⟩
        { s with time.tx := setAt s.time.tx port (q ++ [e]) }

/-! ## Samples and the servo (R339, R342 to R344) -/

/-- A rational number as an integer: one of the two integers around it, by a free value, where it is none itself. -/
def State.roundFree (s : State) (num : Int) (den : Nat) : Int × State :=
  if num % den = 0 then (num / den, s)
  else
    let (v, s) := s.fresh
    (num / den + ((v % 2 : Nat) : Int), s)

/-- The nearest integer to a rational number; a free one of the two where both are as near. -/
def State.roundNear (s : State) (num : Int) (den : Nat) : Int × State :=
  if 2 * (num % den) = den then s.roundFree num den else ((2 * num + den) / (2 * den), s)

/-- The offset and the delay of an exchange, both doubled, in 2^-16 ns (R339). -/
def State.exchange (s : State) (port : Nat) (x : PtpExch) : Int × Int :=
  let tx : Int := s.fld (R.PTP_TX_LAT_TX_LAT port)
  let rx : Int := s.fld (R.PTP_RX_LAT_RX_LAT port)
  let asym := signed 32 (s.fld (R.PTP_ASYM_ASYM port))
  let t21 := x.sync2 - rx - x.sync1
  let mean2 :=
    if s.bit R.PTP_CFG_P2P then (x.d - rx - (x.a + tx)) - (x.c - x.b)
    else t21 + (x.d - (x.a + tx))
  (2 * t21 - mean2 - 2 * asym, mean2)

/-- The internal servo works through a sample (R344). [Log 45 DESIGN CHOICE] -/
def State.servo (s : State) (ofs : Int) : State :=
  let free := s.fld R.PTP_STATUS_SYNC = 0
  let thr : Int := s.fld R.PTP_STEP_THR_STEP_THR
  if free ∨ thr < ofs.natAbs then
    let d := -ofs
    { s.stepAsk (d / giga) (d % giga).toNat with time.acc := 0 }
  else
    let acc := s.time.acc + ofs
    let s := { s with time.acc := acc }
    let n := -((s.fld R.PTP_SERVO_GAIN_KP : Int) * ofs + s.fld R.PTP_SERVO_GAIN_KI * acc)
    let lim : Int := (s.fld R.PTP_SERVO_CFG_MAX_PPB : Int) * 65536
    let n := max (-lim) (min lim n)
    let (r, s) := s.roundNear (n * 34359738) (65536 * 1000000)
    s.rateSet r

/-- The servo's state after a sample (R344): LOCKED after 16 close ones in a row, LOCKING otherwise. -/
def State.servoState (s : State) (ofs : Int) : State :=
  let n := if ofs.natAbs < s.fld R.PTP_HOLD_LOCK_NS then min (s.time.close + 1) 16 else 0
  { s.setF R.PTP_STATUS_SYNC (if 16 ≤ n then 2 else 1) with time.close := n }

/-- Queues a sample; a full queue loses its oldest (R343). -/
def State.samplePush (s : State) (x : Sample) : State :=
  let s := if s.time.samples.length < 16 then s
    else { s with time.samples := s.time.samples.tail }.inc R.PTP_SMP_STATUS_LOST
  let s := { s with time.samples := s.time.samples ++ [x], time.heardAt := s.now }
  s.setF R.PTP_SMP_STATUS_COUNT s.time.samples.length

/-- PTP_SAMPLE (R343): `mono` and `seq` are MONO and STEP_SEQ at t2. A sample of another STEP_SEQ is queued and the
servo discards it. -/
def execPtpSample (port : Nat) (x : PtpExch) (mono seq : Nat) (s : State) : Res := .next <|
  if !s.ptpPort port then s
  else
    let s := s.setF (R.PTP_PORT_STATUS_STATE port) 9
    let (o2, m2) := s.exchange port x
    let (ofs, s) := s.roundFree o2 131072
    let (mean, s) := s.roundFree m2 131072
    let s := s.samplePush ⟨port, ofs, unsignedOf 32 mean, mono, seq⟩
    if seq ≠ s.fld R.PTP_STATUS_STEP_SEQ then s
    else if s.fld R.PTP_SERVO_CFG_MODE = 0 then (s.servo ofs).servoState ofs
    else s.servoState ofs

/-- HOLDOVER (R344, R354): no sample has arrived for HOLD_MS. [Log 46 DESIGN CHOICE] -/
def execHoldover (port : Nat) (s : State) : Res := .next <|
  if s.bit R.PTP_CFG_EN && s.fld R.PTP_STATUS_SYNC != 3 && decide (port < 2)
      && decide (s.time.heardAt + s.fld R.PTP_HOLD_HOLD_MS * 1000000 ≤ s.now) then
    { s.setF R.PTP_STATUS_SYNC 3 with time.close := 0 }.timeReport 0x6005 port
  else s

/-- The shadow of the sample registers (R343, R725). -/
def State.samplePop (s : State) : State :=
  let x : Sample := s.time.samples.headD ⟨0, 0, 0, 0, 0⟩
  let s := { s with time.samples := s.time.samples.tail }
  let s := s.setPair R.PTP_SMP_OFS_LO_OFS_LO R.PTP_SMP_OFS_HI_OFS_HI (unsignedOf 64 x.ofs)
  let s := s.setF R.PTP_SMP_DELAY_DELAY x.delay
  let s := s.setPair R.PTP_SMP_MONO_LO_MONO_LO R.PTP_SMP_MONO_HI_MONO_HI x.mono
  let s := (s.setF R.PTP_SMP_STATUS_SEQ x.seq).setF R.PTP_SMP_STATUS_PORT x.port
  let s := s.setF R.PTP_SMP_STATUS_COUNT s.time.samples.length
  { s with bus.data := (s.rd R.PTP_SMP_OFS_LO).toNat }

/-- SAMPLE_POP (R343): a read of PTP_SMP_OFS_LO. -/
def execSamplePop (s : State) : Res := .next (s.regRead R.PTP_SMP_OFS_LO State.samplePop)

/-! ## Event stamps (R347, R348) -/

/-- The 16 bytes of an event stamp. -/
def EvtStamp.bytes (e : EvtStamp) : List Byte :=
  leBytes 1 e.source ++ leBytes 1 e.index ++ leBytes 6 e.e ++ leBytes 8 e.mono

/-- The shadow of the event stamp registers. -/
def State.evtPop (s : State) : State :=
  let b := (s.time.evts.headD ⟨0, 0, 0, 0⟩).bytes
  let s := { s with time.evts := s.time.evts.tail }
  let s := (List.range 4).foldl (fun (s : State) (k : Nat) => s.setF (R.PTP_EVT_DATA_DATA k) (leAt b (4 * k) 4)) s
  let s := s.setF R.PTP_EVT_STATUS_COUNT s.time.evts.length
  { s with bus.data := leAt b 0 4 }

/-- EVT_POP (R348): a read of PTP_EVT_DATA0. -/
def execEvtPop (s : State) : Res := .next (s.regRead (R.PTP_EVT_DATA 0) State.evtPop)

/-- A write of PTP_EVT_MARK_HI (R348, R364) arms the mark; a key already passed fires at once, marked LATE. -/
def State.writeMarkHi (s : State) (value : Nat) : State :=
  let s := s.wr R.PTP_EVT_MARK_HI (BitVec.ofNat 32 (value &&& R.PTP_EVT_MARK_HI.rw))
  let s := s.setB R.PTP_EVT_CFG_MARK_EN true
  let c := s.fld R.PTP_EVT_MARK_HI_MARK_CHAN
  let key := s.fld R.PTP_EVT_MARK_LO_MARK_LO + 2 ^ 32 * s.fld R.PTP_EVT_MARK_HI_MARK_HI
  if c < s.encChans ∧ reached (s.eOf c) key then
    (s.setB R.PTP_EVT_CFG_MARK_EN false).evtPush 0x83 c (s.eOf c) s.motNow
  else s

/-- MARK_ARM (R348): a write of PTP_EVT_MARK_HI. -/
def execMarkArm (value : Nat) (s : State) : Res := .next (s.regWrite R.PTP_EVT_MARK_HI value (·.writeMarkHi value))

/-! ## Reads that latch (R359, R360) -/

/-- Latches PTP time and MONO of one cycle. -/
def State.snapshot (s : State) : State :=
  let t := s.ptpNs
  let s := s.setF R.PTP_SNAP_FRAC_FRAC (s.time.frac / 65536)
  let s := s.setF R.PTP_SNAP_NS_NS (t % giga).toNat
  let s := s.setPair R.PTP_SNAP_SEC_LO_SEC_LO R.PTP_SNAP_SEC_HI_SEC_HI (unsignedOf 64 (t / giga))
  let s := s.setPair R.PTP_SNAP_MONO_LO_MONO_LO R.PTP_SNAP_MONO_HI_MONO_HI s.time.mono
  { s with bus.data := s.time.frac / 65536 }

/-- PTP_SNAPSHOT_READ (R359): a read of PTP_SNAP_FRAC. -/
def execPtpSnapshotRead (s : State) : Res := .next (s.regRead R.PTP_SNAP_FRAC State.snapshot)

/-- Latches the offset. -/
def State.ofsRead (s : State) : State :=
  let ns := (s.time.ofs % giga).toNat
  let s := s.setF R.PTP_OFS_NS_OFS_NS ns
  let s := s.setPair R.PTP_OFS_SEC_LO_OFS_SEC_LO R.PTP_OFS_SEC_HI_OFS_SEC_HI (unsignedOf 64 (s.time.ofs / giga))
  { s with bus.data := ns }

/-- PTP_OFS_READ (R360): a read of PTP_OFS_NS. -/
def execPtpOfsRead (s : State) : Res := .next (s.regRead R.PTP_OFS_NS State.ofsRead)

/-! ## The MOTION copy (R346) -/

/-- MOTION_FREERUN (R346): no value has arrived for 1 µs. -/
def execMotionFreerun (s : State) : Res := .next <|
  match s.time.copy with
  | some (_, _, false) => s
  | _ =>
    if s.time.runs ∨ s.now < s.time.stopAt + 1000 then s
    else
      let v := s.motNow
      ({ s with time.copy := some (v, s.now, false) }.setB R.PTP_STATUS_MOT_FREERUN true).timeReport 0x6009 0

/-- TIME_VALUES_RESUME (R346): values arrive again; the copy never moves backward. -/
def execTimeValuesResume (s : State) : Res := .next <|
  match s.time.copy with
  | some (_, _, false) =>
    if s.time.runs then
      { s with time.copy := some (s.motNow, s.now, true) }.copyCheck
    else s
  | _ => s

/-- Every start sets both counters, the offset, STEP_SEQ and RATE to 0 and SYNC to FREE_RUN, and empties the queues
(R356); the counters run from here. -/
def State.timeStart (s : State) : State :=
  let s := { s with time := { runs := true } }
  let s := (s.setF R.PTP_STATUS_STEP_SEQ 0).setF R.PTP_STATUS_SYNC 0
  let s := (s.setF R.PTP_RATE_RATE 0).setB R.PTP_STATUS_MOT_FREERUN false
  let s := (s.setB R.PTP_STEP_CTRL_BUSY false).setF R.PTP_SMP_STATUS_COUNT 0
  (s.setF R.PTP_EVT_STATUS_COUNT 0).stepLogRegs

end Sys2Proof.Machine
end

