-- ==== Sys2Proof/Machine/Reset.lean ====
section
/-! DEFINITION. Reset: what a reset, a start, an input loss and an internal reset leave (R79, R84, R105, R159, R189, R190,
R715 to R717). -/

namespace Sys2Proof.Machine

/-! ## Statuses of bring-up (R196) -/

/-- A bring-up status. -/
def State.bootReport (s : State) (sts detail : Nat) : State := s.report R.SYS_BOOT_STATUS_LAST_STS sts detail

/-- A bring-up status of the field map, shown in BOOT_FMAP_STATUS as well (R203). -/
def State.fmapReport (s : State) (sts detail : Nat) : State := (s.setF R.BOOT_FMAP_STATUS_LAST_STS sts).bootReport sts detail

/-- STATE changes, which raises its interrupt (R198, R660). -/
def State.bootGo (s : State) (st : Nat) : State := (s.setF R.SYS_BOOT_STATUS_STATE st).pend 4

/-- A fatal status that has been reported: the first one is kept, bring-up ends in FAILED (R169, R196, R197). Before the
end of MAP of a cold start the identity reads 0 (R171). -/
def State.fatalEnd (s : State) (sts detail : Nat) : State :=
  let s := if s.fld R.SYS_FATAL_FATAL_STS ≠ 0 then s
    else (s.setF R.SYS_FATAL_FATAL_STS sts).setF R.SYS_FATAL_DETAIL (detail % 65536)
  let s := if s.boot.mapped || s.boot.warm then s
    else ((s.setF R.SYS_ID_VARIANT 0).wr R.SYS_REV 0).wr R.SYS_CAP_UNITS 0
  let s := { s with boot.running := false, boot.hostWait := false }
  (s.bootGo 3).holdStart

/-- A fatal status. -/
def State.fatal (s : State) (sts detail : Nat) : State := (s.bootReport sts detail).fatalEnd sts detail

/-! ## Outputs -/

/-- Every output that is on goes off (R84, R129). -/
def State.outputsOff (s : State) : State :=
  (List.range s.ejOuts).foldl (fun (s : State) (n : Nat) => if (s.ej n).on then s.ejOff n else s) s

/-! ## Resets -/

/-- Registers of the AON blocks that a warm start keeps: SYS but for start-up state and the fingerprint, BOOT but for the
image and the start's records, CLK, PWR, JRN, SPI and I2C (R185). [Log 19 DESIGN CHOICE] -/
def warmKeeps (off : Nat) : Bool :=
  decide (off < 0xC) || (decide (0x14 ≤ off) && decide (off < 0x1C)) || (decide (0x1000 ≤ off) && decide (off < 0x1050))
    || (decide (0x1054 ≤ off) && decide (off < 0x105C)) || off == 0x1060 || (decide (0x2000 ≤ off) && decide (off < 0x8000))

/-- The copy of the field map with the higher sequence number. -/
def Boot.newest (b : Boot) : FieldCopy := if b.field0.seq < b.field1.seq then b.field1 else b.field0

/-- What flash holds survives every reset: the images, the keys, the journal ring, the run set, the field map as both
copies hold it, the firmware packages, and the boot configuration block (R705). So do the pins, the host's memory, what has left the device and
the commands that wait. [Log 19 DESIGN CHOICE] -/
def State.afresh (s : State) : State :=
  { now := s.now, free := s.free, out := s.out, pending := s.pending
    jrn := { pages := s.jrn.pages }
    img := { slots := s.img.slots, keys := s.img.keys, minSec := s.img.minSec, keySeq := s.img.keySeq }
    mbx := { hostMem := s.mbx.hostMem, perst := s.mbx.perst, runDigest := s.mbx.runDigest, runAuto := s.mbx.runAuto
             runValid := s.mbx.runValid, runRegs := s.mbx.runRegs }
    boot := { fieldMap := s.boot.newest.map, field0 := s.boot.field0, field1 := s.boot.field1, pkgs := s.boot.pkgs
              cfgBlock := s.boot.cfgBlock } }

/-- The registers that show what flash holds. -/
def State.flashRegs (s : State) : State :=
  let s := (s.slotRegs.keyRegs).setB R.MBX_RUNSET_STATUS_VALID s.mbx.runValid
  s.setF R.BOOT_FMAP_STATUS_FIELD_COUNT s.boot.fieldMap.length

/-- The whole device in reset, or unpowered: outputs off, PWR_OK low, the bypass drive removed, LINE_STOP asserted by its
reset value, the session map cleared (R81, R82, R84, R160). -/
def State.inHold (s : State) : State :=
  let t := s.outputsOff
  { t.afresh with
    pwr := { vinGood := s.pwr.vinGood, nrstLow := s.pwr.nrstLow, dead := s.pwr.dead, tripNext := s.pwr.tripNext
             tripHeld := s.pwr.tripHeld } }

/-- A stage begins (R167). With BOOT_CFG.SRC 1 FWLOAD waits for the host first (R179). -/
def State.stageEnter (s : State) (k : Nat) : State :=
  let s := s.setF R.SYS_BOOT_STATUS_STAGE k
  { s with boot.stageAt := s.now, boot.hostWait := k == 6 && s.bit R.BOOT_CFG_SRC }

/-- A thermal trip is reported again at the next start (R100, R110). [Log 24 DESIGN CHOICE] -/
def State.tripTell (s : State) : State :=
  if s.pwr.tripNext then ({ s with pwr.tripNext := false }.setF R.PWR_MOD_STATUS_LAST_STS 0x1801).bootReport 0x1801 0 else s

/-- A cold start (R159). Power-on and nRST_IN clear the session map and the count of restarts (R160, R189).
[Log 19 DESIGN CHOICE] -/
def State.coldStart (s : State) (fresh : Bool) : State :=
  let restarts := s.fld R.BOOT_RESTARTS_COUNT
  let session := s.boot.sessionMap
  let t := s.outputsOff.afresh
  let t := { t with
    pwr := { vinGood := true, inReset := false, dead := false, tripNext := s.pwr.tripNext }
    boot := { t.boot with running := true, startAt := s.now, sessionMap := if fresh then [] else session } }
  let t := t.flashRegs.setF R.BOOT_RESTARTS_COUNT (if fresh then 0 else restarts)
  (t.stageEnter 1).tripTell

/-- What a warm start keeps and what it takes afresh. [Log 19 DESIGN CHOICE] -/
def State.warmBase (s : State) : State :=
  { s.outputsOff.afresh with
    regs := s.regs.filter (fun p => warmKeeps p.1)
    mem := s.mem, sram := s.sram, mmu := { bad := s.mmu.bad, weak := s.mmu.weak }
    bus := { limited := [] }, spi := s.spi, i2c := s.i2c
    jrn := { s.jrn with tailSent := 0, reqs := s.jrn.reqs.filter (fun r => r.object == 1 || r.object == 2) }
    pwr := { s.pwr with
      pwrOk := false, holdEnd := none, relPend := false, ethDrive := false, ringDrive := false, ethFault := false
      ringFault := false, diRaw := 0, diSince := List.replicate 8 none }
    mode := { armed := s.mode.armed, moveTop := s.mode.moveTop, moveBase := s.mode.moveBase }
    boot := { s.boot with
      running := true, warm := true, startAt := s.now, noLock := 0, mapped := false, early := [], earlyAccess := false
      hostWait := false, phyStart := 0, sporeTries := [], supStarted := false, noImage := false } }

/-- A warm start (R185): every domain but AON restarts. The merged map, the trained values, device memory and the hold-up
bank are kept, staging, the write pointer and JSEQ too (R719), and lanes that failed calibration stay down (R177); the relay
requests are taken back (R184), and writes to flash whose work is lost are given up.
[Log 19 DESIGN CHOICE] -/
def State.warmStart (s : State) : State :=
  let t := s.warmBase
  let t := ((t.setF R.PWR_MODE_STATUS_MODE 0).setB R.PWR_MODE_STATUS_BUSY false).wr R.CLK_STATUS 0x00010001
  let t := (t.setB R.PWR_RELAY_ETH_INSERT false).setB R.PWR_RELAY_RING_INSERT false
  let t := (t.setB R.JRN_STATUS_REPLAYED false).setB R.JRN_CTRL_ARMED false
  let t := (t.setB R.SCHED_STATUS_THROTTLE (s.bit R.PWR_MOD_STATUS_THROTTLE)).setB R.SYS_BOOT_STATUS_WARM true
  let t := if t.jrn.reqs = [] then t.deferEnd else t
  let t := (List.range 24).foldl (fun (t : State) (l : Nat) =>
    if (t.fld R.BOOT_LANE_CAL_DOWN).testBit l then t.setB (R.LANE_STATUS_DOWN l) true else t) t
  let t := { t with pwr.pocxpUsed := t.pocxpLanes }
  t.flashRegs.stageEnter 1

/-! ## Input loss, over-voltage lockout, thermal trip (R79, R100, R105, R146, R715, R716) -/

/-- The outputs in DELAY end at once (R79); a thermal trip ends the pulses that run as well (R84).
[Log 24 DESIGN CHOICE] -/
def State.pulsesCut (s : State) (all : Bool) : State :=
  (List.range s.ejOuts).foldl (fun (s : State) (n : Nat) => if all || s.ejSt n == ejDelay then s.ejCut n else s) s

/-- Device memory and tile SRAM lose what they hold. [Log 5 DESIGN CHOICE] -/
def State.memLost (s : State) : State := { s with mem := [], sram := [] }

/-- Shedding (R715): every domain but AON and MOTION stops, the PoCXP and encoder supplies go off, memory is abandoned, and an
image that is being loaded is not committed (R230). -/
def State.shedAll (s : State) : State :=
  let s := (s.lanesFloor 3).annDrop.portsLost
  let s := (s.setF R.PWR_POCXP_STS_ON 0).wr R.CLK_STATUS 0x00030003
  let s := ((s.setF R.MBX_LINK_UP 0).setF R.MBX_LINK_SPEED 0).setF R.MBX_LINK_WIDTH 0
  let s := (s.setF R.PWR_MODE_STATUS_MODE 4).setB R.PWR_MODE_STATUS_BUSY false
  let s := if s.img.shadow.isNone then s
    else ({ s with img.shadow := none }.imgState 0).imgBusy
  { s with
    pwr.shed := true, pwr.pocxpDet := 0, bus.held := []
    time.runs := false, time.stopAt := if s.time.runs then s.now else s.time.stopAt
    mode.active := false, mode.exiting := false, mode.second := none
    boot.running := false, boot.hostWait := false }.memLost

/-- The AON sequence of R79, its cause 1 input loss, 2 over-voltage lockout, 3 thermal trip. -/
def State.lossActed (s : State) (cause : Nat) (pages : List PageFact) : State :=
  let s := { s with pwr.pwrOk := false, pwr.vinGood := cause == 3, pwr.lost := true }.lineStop.relaysFall
  let s := s.pulsesCut (cause == 3)
  let s := if cause = 3 then s.report R.PWR_MOD_STATUS_LAST_STS 0x1801 0
    else (s.total 15).report R.PWR_MOD_STATUS_LAST_STS 0xE801 0
  s.shedAll.holdupSet cause pages

/-- V_IN is lost. A device in reset, or one that has acted on a loss or a trip, only notes it. -/
def State.vinLost (s : State) (cause : Nat) (pages : List PageFact) : State :=
  if s.pwr.dead ∨ !s.pwr.vinGood then s
  else if s.pwr.inReset then { s with pwr.vinGood := false }
  else if s.pwr.lost then { s with pwr.vinGood := false, pwr.tripHeld := false }
  else s.lossActed cause pages

/-- After a thermal trip, once the flash is powered down, the device holds itself in reset (R100). -/
def State.tripHold (s : State) : State := if s.pwr.tripHeld && s.jrn.flashOff then s.inHold else s

/-- TJ has been at 110 °C for 1 ms: as an input loss; then the device is held in reset (R100). -/
def State.thermalTrip (s : State) (pages : List PageFact) : State :=
  if s.pwr.dead ∨ s.pwr.inReset ∨ s.pwr.lost then s
  else { s.lossActed 3 pages with pwr.tripHeld := true, pwr.tripNext := true }.tripHold

/-- V_IN has been good for 100 ms (R74, R105): a hold-up sequence that runs ends first. -/
def State.powerOn (s : State) : State :=
  if s.pwr.vinGood ∨ (s.jrn.holdup ∧ !s.jrn.flashOff) then s
  else
    let s := { s with pwr.vinGood := true }
    if s.pwr.nrstLow then { s.inHold with pwr.dead := false } else s.coldStart true

/-- The bank has fallen to 18 V (R77): the journal path ends and the module is unpowered. -/
def State.bankEmpty (s : State) : State :=
  if s.pwr.vinGood ∨ s.pwr.dead then s else { s.inHold with pwr.dead := true, pwr.tripHeld := false }

/-- nRST_IN has been low for 10 µs (R81): the whole device is in reset; nothing more is written to flash (R717). -/
def State.nrstAssert (s : State) : State :=
  let s := { s with pwr.nrstLow := true }
  if s.pwr.dead then s else { s.inHold with pwr.tripHeld := false }

/-- nRST_IN is released after a valid low. -/
def State.nrstRelease (s : State) : State :=
  if !s.pwr.nrstLow then s
  else
    let s := { s with pwr.nrstLow := false }
    if s.pwr.vinGood then s.coldStart true else s

/-- An internal reset (R717): staging and an END record of KIND 2 go to flash under R709, then a cold start follows. -/
def State.internalReset (s : State) (pages : List PageFact) : State :=
  let s :=
    if !s.bit R.JRN_CTRL_ARMED || s.jrn.flashOff then s
    else
      let need := 15 + s.reserve
      let st := pagesOf 57 s.jrn.staging
      let w := State.programSeq need pages s st 0
      let e := w.1.endRec 2 (w.2 + 1)
      match pages.drop w.2 with
      | f :: _ => if need ≤ f.emj then (e.2.setF R.PWR_HOLDUP_E_MJ f.emj).putPage [e.1] f.ok else w.1
      | [] => w.1
  s.coldStart false

end Sys2Proof.Machine
end

