-- ==== Sys2Proof/Machine/PowerExec.lean ====
section
/-! DEFINITION. PowerExec: starts, resets, clock failures and power-mode transactions (chapters 02 and 03). -/

namespace Sys2Proof.Machine

/-! ## Clocks (R118, R121, R133, R148, R152) -/

/-- The domains with a locked source, of a mask. -/
def State.locked (s : State) (m : Nat) : Nat := maskOff m s.boot.noLock

/-- Puts CLK_STATUS: the domains clocked and those locked. Once MESH is clocked it takes the status events that have waited
for it on crossing 10. -/
def State.clocksSet (s : State) (run lock : Nat) : State :=
  let s := (s.setF R.CLK_STATUS_RUNNING (s.locked run)).setF R.CLK_STATUS_LOCK (s.locked lock)
  if s.clocked 7 then s.xingDrain else s

/-- Every domain is clocked; CORE takes the throttle's frequency when it is ungated (R148). -/
def State.clocksAll (s : State) : State := (s.clocksSet 0x1FF 0x1FF).coreClock

/-! ## Mode transactions (R131 to R145) -/

/-- A mode status (R151). -/
def State.modeReport (s : State) (sts detail : Nat) : State := s.report R.PWR_MODE_STATUS_LAST_STS sts detail

/-- RESULT is written, which raises its interrupt (R660). -/
def State.modeResult (s : State) (r : Nat) : State := (s.setF R.PWR_MODE_STATUS_RESULT r).pend 6

/-- A request is refused (R131, R132): the detail word is the step or condition number (R151). -/
def State.modeRefuse (s : State) (detail : Nat) : State := (s.modeResult 3).modeReport 0x1903 detail

/-- The first false condition of R132, 0 for none. -/
def State.modeCond (s : State) (target : Nat) : Nat :=
  if s.fld R.MOT_TRK_ACTIVE_ACTIVE ≠ 0 then 1
  else if !s.sched.works.isEmpty || s.dma.any (fun e => !e.queue.isEmpty || e.run.isSome) then 2
  else if s.fld R.ANN_STATUS_STATE ≠ 0 then 3
  else if target = 3 ∧ (s.bit R.PWR_RELAY_RING_INSERT ∨ s.bit R.PWR_RELAY_RING_POS) then 4
  else if s.bit R.BOOT_IMG_STATUS_BUSY || s.bit R.MESH_ROUTESET_BUSY then 5
  else 0

/-- Every wake latch that is clear is armed; MOTION's count begins where its latch is armed (R133, R138). -/
def State.wakeArm (s : State) : State :=
  let new := maskOff 0x3F (s.fld R.PWR_WAKE_LATCH_LATCH)
  let xs := (List.range 4).map (fun c => signed 48 (s.xOf c))
  let s := if new.testBit 2 && !s.mode.armed.testBit 2 then { s with mode.moveTop := xs, mode.moveBase := xs } else s
  { s with mode.armed := s.mode.armed ||| new }

/-- A transaction begins: it voids timing repeatability (R641, R643). -/
def State.modeBegin (s : State) : State :=
  (s.setB R.PWR_MODE_STATUS_BUSY true).timing R.SYS_REPRO_STATUS_T_MODE (some R.MESH_TW_FLAGS_MODE)

/-- Steps 1 to 5 of an entry from RUN (R133), or its refusal (R132). -/
def State.modeEnter (s : State) (target : Nat) : State :=
  let c := s.modeCond target
  if c ≠ 0 then ((s.setB R.PWR_MODE_STATUS_BUSY false).setF R.PWR_MODE_STATUS_STEP c).modeRefuse c
  else
    let s := s.modeBegin.wakeArm
    let s := { s with mode := { s.mode with
      active := true, exiting := false, origin := 1, target := target, second := none, drained := false
      lanes := if target = 3 then s.laneStates else [], startAt := s.now } }
    let s := s.setB R.SCHED_STATUS_ADMIT_OPEN false
    let s := if target = 3 then s.lanesFloor 2 else s
    (s.clocksSet 0xDF 0x1FF).setF R.PWR_MODE_STATUS_STEP (if target = 3 then 6 else 9)

/-- The exit sequence starts (R136): by a wake latch, or by a request, with the target of a second transaction. -/
def State.exitStart (s : State) (driver : Bool) (second : Option Nat) : State :=
  let s := s.modeBegin
  { s with mode := { s.mode with
    active := true, exiting := true, driver := driver, origin := s.pmode, target := 1, second := second, startAt := s.now } }

/-- A write of PWR_MODE_REQ (R131, R137). One while a transaction runs is refused with the step it is in; one in START,
which READY_NO_IMAGE keeps, is refused too. [Log 25 DESIGN CHOICE] -/
def State.writeModeReq (s : State) (v : Nat) : State :=
  let t := R.PWR_MODE_REQ_TARGET.of v
  let s := s.setF R.PWR_MODE_REQ_TARGET t
  if R.PWR_MODE_REQ_GO.of v = 0 then s
  else if s.bit R.PWR_MODE_STATUS_BUSY then s.modeRefuse (s.fld R.PWR_MODE_STATUS_STEP)
  else if !(1 ≤ t ∧ t ≤ 3) ∨ s.pmode = 0 ∨ s.pmode = 4 then s.modeRefuse 0
  else if t = s.pmode then s.modeResult 1
  else if s.pmode = 1 then s.modeEnter t
  else s.exitStart true (if t = 1 then none else some t)

/-- An entry goes on: it is active and does not exit. -/
def State.entering (s : State) : Bool := s.mode.active && !s.mode.exiting

/-- Step 6 is complete when no memory transaction is outstanding; then steps 7 and 8 (R133). -/
def State.meshDrained (s : State) : State :=
  if s.entering && s.mode.target == 3 && !s.mode.drained && s.gill.all (fun g => g.acc.all (fun a => a.st != 0)) then
    { (s.clocksSet 0xF 0xF).setF R.PWR_MODE_STATUS_STEP 9 with mode.drained := true }
  else s

/-- The completed steps of an entry are undone in reverse order and admission reopens (R135). The PLLs that step 8 turned
off are enabled again, and have 200 µs to lock (R128). -/
def State.modeUndo (s : State) : State :=
  let off := s.entering && s.mode.drained
  let s := s.clocksAll
  let s := { s.lanesBack s.mode.lanes with
    mode.active := false, mode.exiting := false, mode.second := none
    mode.relock := if off then 0x1F0 else s.mode.relock, mode.relockAt := if off then s.now else s.mode.relockAt }
  (s.setB R.PWR_MODE_STATUS_BUSY false).admitOpen

/-- A rollback (R135). -/
def State.modeRollback (s : State) (sts detail : Nat) : State :=
  ((s.modeUndo.modeResult 2).inc R.PWR_ROLLBACKS_COUNT).modeReport sts detail

/-- The elapsed time of an entry exceeds PWR_MODE_CFG.TIMEOUT_US (R135). -/
def State.modeLate (s : State) : Bool := decide (s.mode.startAt + s.fld R.PWR_MODE_CFG_TIMEOUT_US * 1000 < s.now)

/-- The commit cycle (R134, R149): an enabled wake latch that is set wins over it, and past TIMEOUT_US there is none. In
STANDBY the servo enters HOLDOVER (R345). [Log 25 DESIGN CHOICE] -/
def State.modeCommit (s : State) : State :=
  if !s.entering ∨ (s.mode.target = 3 ∧ !s.mode.drained) then s
  else if s.wakeSet then s.modeRollback 0x1904 s.wakeBit
  else if s.modeLate ∨ (s.mode.target = 3 ∧ s.fld R.PWR_MODE_CFG_TIMEOUT_US < 150) then s.modeRollback 0x1905 0
  else
    let t := s.mode.target
    let s := s.setF R.PWR_MODE_STATUS_MODE t
    let s := { s with mode.active := false, mode.commitAt := s.now }
    let s := if t = 3 ∧ s.bit R.PTP_CFG_EN then { s.setF R.PTP_STATUS_SYNC 3 with time.close := 0 } else s
    (s.setB R.PWR_MODE_STATUS_BUSY false).modeResult 1

/-- A rollback before the commit: by an enabled wake latch, with its bit, or by a step that fails; its detail is then a
free value. -/
def State.modeBack (s : State) (failedStep : Option Nat) : State :=
  if !s.entering then s
  else if s.wakeSet then s.modeRollback 0x1904 s.wakeBit
  else match failedStep with
    | some k =>
      let (v, s) := s.fresh
      (s.setF R.PWR_MODE_STATUS_STEP k).modeRollback 0x1904 v
    | none => s

/-- A step of the exit fails (R136): reported, journalled, and an internal reset is due. -/
def State.exitFail (s : State) : State :=
  let s := s.modeReport 0x1906 0
  let s := { s with pwr.resetReq := true }
  { s with mode.active := false, mode.exiting := false, mode.second := none }

/-- The exit is complete (R136, R137, R142): PWR_EXIT_US takes the time since it started, saturated. -/
def State.exitDone (s : State) : State :=
  let driver := s.mode.driver
  let second := s.mode.second
  let s := s.setF R.PWR_EXIT_US_EXIT_US (min ((s.now - s.mode.startAt) / 1000) 65535)
  let s := (s.setF R.PWR_MODE_STATUS_MODE 1).modeUndo
  match second with
  | some t => { s with mode.driver := false }.modeEnter t
  | none => if driver then { s with mode.driver := false }.modeResult 1 else s

/-! ## Clock failures (R128, R129, R146, R170) -/

/-- A PLL has not locked: its domain stays unclocked (R128). In stage CLOCKS the failure is fatal but for HOST and LANE; in
an exit it fails the exit; a PLL that a rollback has enabled again leaves its domain unclocked. -/
def State.pllFail (s : State) (d : Nat) : State :=
  if d < 1 ∨ 8 < d then s
  else if s.boot.running ∧ s.fld R.SYS_BOOT_STATUS_STAGE = 1 ∧ !s.boot.noLock.testBit d then
    let s := { s with boot.noLock := s.boot.noLock ||| 2 ^ d }
    let s := (s.setF R.SYS_BOOT_STATUS_LAST_STS 0x1901).report R.CLK_FAIL_LAST_STS 0x1901 d
    if d = 3 ∨ d = 4 then s else s.fatalEnd 0x1901 d
  else if s.mode.active ∧ s.mode.exiting ∧ s.mode.origin = 3 ∧ 4 ≤ d then (s.report R.CLK_FAIL_LAST_STS 0x1901 d).exitFail
  else if s.mode.relock.testBit d ∧ s.mode.relockAt + 200000 ≤ s.now then
    let s := { s with boot.noLock := s.boot.noLock ||| 2 ^ d, mode.relock := maskOff s.mode.relock (2 ^ d) }
    (s.clocksSet (s.fld R.CLK_STATUS_RUNNING) (s.fld R.CLK_STATUS_LOCK)).report R.CLK_FAIL_LAST_STS 0x1901 d
  else s

/-- A transaction in progress is abandoned (R146). Where the device goes on, the steps of an entry are undone, and a device
in an exit stays in the mode it was leaving. [Log 23 DESIGN CHOICE, 25 DESIGN CHOICE] -/
def State.modeAbandon (s : State) : State :=
  if !s.mode.active then s
  else if s.mode.exiting then
    { s with mode.active := false, mode.exiting := false, mode.driver := false, mode.second := none }.setB
      R.PWR_MODE_STATUS_BUSY false
  else s.modeUndo

/-- LINE_STOP is asserted, the outputs are turned off from AON, and an internal reset is due (R129, R512); a bring-up that
runs ends where it stands (R189). [Log 20 DESIGN CHOICE, 23 DESIGN CHOICE] -/
def State.failSafe (s : State) : State :=
  { s.lineStop.outputsOff with pwr.resetReq := true, boot.running := false, boot.hostWait := false }

/-- MONO stops. -/
def State.monoStop (s : State) : State := { s with time.runs := false, time.stopAt := s.now }

/-- A clock failure of a clocked domain. [Log 23 DESIGN CHOICE] -/
def State.clockFail (s : State) (d : Nat) : State :=
  if 8 < d ∨ s.pwr.inReset ∨ !(s.fld R.CLK_STATUS_RUNNING).testBit d then s
  else
    let s := s.setF R.CLK_FAIL_FAIL (s.fld R.CLK_FAIL_FAIL ||| 2 ^ d)
    let s := s.report R.CLK_FAIL_LAST_STS 0x1902 d
    if d = 0 then s.inHold
    else
      let s := s.modeAbandon
      let s := { s with boot.noLock := s.boot.noLock ||| 2 ^ d }
      let s := s.clocksSet (s.fld R.CLK_STATUS_RUNNING) (s.fld R.CLK_STATUS_LOCK)
      if d = 3 then s.hostReset 0xC001 0 true
      else if d = 4 then s.lanesFloor 3
      else (if d = 2 then s.monoStop else s).failSafe

/-! ## Relays and switches (R92, R94) -/

/-- The relays or switches settle in the position they are driven to: links drop, ring training may begin. -/
def State.positionReached (s : State) (ring : Bool) : State :=
  if ring then
    if !s.hasRing then s
    else if s.pwr.ringDrive then (s.setB R.PWR_RELAY_RING_POS true).ringInserted
    else if s.bit R.PWR_RELAY_RING_POS then (s.setB R.PWR_RELAY_RING_POS false).ringLeft
    else s
  else if s.bit R.PWR_RELAY_ETH_POS = s.pwr.ethDrive then s
  else
    let s := s.setB R.PWR_RELAY_ETH_POS s.pwr.ethDrive
    [0, 1].foldl (fun (s : State) (n : Nat) => (s.setB (R.PTP_PORT_STATUS_LINK n) false).ptpPortDown n) s

/-! ## The commands -/

/-- POWER_ON_START (R74, R105, R159). -/
def execPowerOnStart (s : State) : Res := .next s.powerOn

/-- INPUT_LOSS (R79): `pages` tells, page by page, the energy left and whether the page reads back.
[Log 24 DESIGN CHOICE] -/
def execInputLoss (pages : List PageFact) (s : State) : Res := .next (s.vinLost 1 pages)

/-- OVERVOLTAGE_LOCKOUT (R74). -/
def execOvervoltageLockout (pages : List PageFact) (s : State) : Res := .next (s.vinLost 2 pages)

/-- NRST_ASSERT (R81). -/
def execNrstAssert (s : State) : Res := .next s.nrstAssert

/-- NRST_RELEASE (R159). -/
def execNrstRelease (s : State) : Res := .next s.nrstRelease

/-- INTERNAL_RESET (R717): one that is due. [Log 24 DESIGN CHOICE] -/
def execInternalReset (pages : List PageFact) (s : State) : Res :=
  .next (if s.pwr.resetReq ∧ !s.pwr.inReset ∧ !s.pwr.lost then s.internalReset pages else s)

/-- THERMAL_TRIP (R100). [Log 24 DESIGN CHOICE] -/
def execThermalTrip (pages : List PageFact) (s : State) : Res := .next (s.thermalTrip pages)

/-- BANK_DISCHARGE_FLOOR (R77). -/
def execBankDischargeFloor (s : State) : Res := .next s.bankEmpty

/-- PLL_LOCK_TIMEOUT (R128). -/
def execPllLockTimeout (domain : Nat) (s : State) : Res := .next (s.pllFail domain)

/-- CLOCK_FAILURE (R129). -/
def execClockFailure (domain : Nat) (s : State) : Res := .next (s.clockFail domain)

/-- SWITCH_POSITION_REACHED (R92, R94). -/
def execSwitchPositionReached (ring : Bool) (s : State) : Res := .next (s.positionReached ring)

/-- MODE_REQUEST (R131): a write of PWR_MODE_REQ. -/
def execModeRequest (value : Nat) (s : State) : Res := .next (s.regWrite R.PWR_MODE_REQ value (·.writeModeReq value))

/-- MYCELIUM_DRAINED (R133). -/
def execMyceliumDrained (s : State) : Res := .next s.meshDrained

/-- MODE_COMMIT (R134). -/
def execModeCommit (s : State) : Res := .next s.modeCommit

/-- MODE_ENTRY_TIMEOUT (R135). -/
def execModeEntryTimeout (s : State) : Res :=
  .next (if s.entering && s.modeLate then s.modeRollback 0x1905 0 else s)

/-- MODE_ROLLBACK (R135, R144). -/
def execModeRollback (failedStep : Option Nat) (s : State) : Res := .next (s.modeBack failedStep)

/-- MODE_EXIT (R136). -/
def execModeExit (s : State) : Res :=
  .next (if (s.pmode == 2 || s.pmode == 3) && !s.mode.active && s.wakeSet then s.exitStart false none else s)

/-- EXIT_COMPLETE (R136): `failed` says that a step has failed. -/
def execExitComplete (failed : Bool) (s : State) : Res :=
  .next (if s.mode.active && s.mode.exiting then (if failed then s.exitFail else s.exitDone) else s)

/-- HOLDUP_FINAL_PAGE (R716): the flash is powered down; after a thermal trip the device then holds itself in reset. -/
def execHoldupFinalPage (f : PageFact) (s : State) : Res := .next (s.holdupFinal f).tripHold

/-- WAKE_TIMER_EXPIRY (R138). -/
def execWakeTimerExpiry (s : State) : Res :=
  .next (if (s.pmode == 2 || s.pmode == 3) && decide (s.mode.commitAt + s.fld R.PWR_WAKE_TIMER_MS * 1000000 ≤ s.now) then
      s.wake 5
    else s)

/-- CONTROLLER_WATCHDOG (R512): the transactions that the controller of a channel holds fail with TIMEOUT, each by source,
context, address and access; then as for a clock failure. -/
def execControllerWatchdog (chan : Nat) (txs : List (Nat × Nat × Nat × Nat)) (s : State) : Res :=
  .next (if 4 ≤ chan then s else
    let s := txs.foldl (fun (s : State) (x : Nat × Nat × Nat × Nat) => s.txFail 9 x.1 x.2.1 x.2.2.1 x.2.2.1 x.2.2.2 0) s
    (s.report R.MMU_STATUS_LAST_STS 0x8302 chan).failSafe)

end Sys2Proof.Machine
end

