-- ==== Sys2Proof/Machine/BootExec.lean ====
section
/-! DEFINITION. BootExec: the stages of bring-up, the disabled-unit map, firmware packages, replay of the journal and field
additions (chapter 04, R718). -/

namespace Sys2Proof.Machine

/-! ## Stages (R167, R185, R204) -/

/-- Whether a stage runs. -/
def State.inStage (s : State) (k : Nat) : Bool := s.boot.running && s.fld R.SYS_BOOT_STATUS_STAGE == k

/-- A stage ends and the next begins. -/
def State.stageEnd (s : State) (k : Nat) : State :=
  (s.setF (R.BOOT_STAGE_US_TIME (k - 1)) (min ((s.now - s.boot.stageAt) / 1000) (2 ^ 32 - 1))).stageEnter (k + 1)

/-- The limit of a stage in µs; stage IMAGE has none of its own (R182). -/
def State.stageLimit (s : State) (k : Nat) : Option Nat :=
  match k with
  | 1 => some 1000
  | 2 => some 5000
  | 3 => some (if s.boot.warm && !s.bit R.BOOT_CFG_WARM_BIST then 10000 else 60000)
  | 4 => some 20000
  | 5 => some (if s.boot.warm then 40000 else 300000)
  | 6 => some 60000
  | 7 => some 20000
  | 8 => some 450000
  | 10 => some 4000
  | _ => none

/-- The stage has not completed by its limit. -/
def State.stageLate (s : State) : State :=
  let k := s.fld R.SYS_BOOT_STATUS_STAGE
  match s.stageLimit k with
  | some us =>
    if s.boot.running ∧ !s.boot.hostWait ∧ s.boot.stageAt + us * 1000 ≤ s.now then s.fatal 0x1013 k else s
  | none => s

/-! ## CLOCKS (R169, R170) and FUSES (R171) -/

/-- Every PLL that locks clocks its domain; the counters of TIME start (R356); HOST takes REFCLK if it is there. -/
def State.stClocks (s : State) (refclk : Bool) : State :=
  if !s.inStage 1 then s
  else
    let s := s.clocksAll
    let s := if s.boot.noLock.testBit 2 then s else s.timeStart
    { s with mbx.refclk := refclk && !s.boot.noLock.testBit 3 }.stageEnd 1

/-- The fuses as read. A warm start keeps the identity (R185). -/
def State.stFuses (s : State) (f : FuseFacts) : State :=
  if !s.inStage 2 then s
  else
    let s := if f.corrected = 0 then s
      else (s.setF R.BOOT_FUSE_CORR_CORR (min f.corrected 255)).bootReport 0x1002 f.corrected
    match f.badWord with
    | some w => s.fatal 0x1001 w
    | none =>
      let s := if s.boot.warm then s
        else
          let s := (s.setF R.SYS_ID_VARIANT f.variant).setF R.SYS_SERIAL_LO_SERIAL_LO f.serial
          (s.setF R.SYS_SERIAL_HI_SERIAL_HI (f.serial / 2 ^ 32)).clearRegs 4 5
      { s with boot.fuseMap := f.fuseMap, boot.keyDigest := f.keyDigest, boot.minVer := f.minVer }.stageEnd 2

/-! ## SELFTEST (R172, R173, R194) -/

/-- The map a finding is compared with: the merged map that a warm start keeps, else the three sources. -/
def State.knownMap (s : State) : List Nat :=
  if s.boot.warm then mergeMap s.boot.merged [] s.boot.sessionMap
  else mergeMap s.boot.fuseMap s.boot.fieldMap s.boot.sessionMap

/-- Whether a map names the unit of a finding: the tile, or its whole gill. -/
def mapNames (m : List Nat) (e : Nat) : Bool :=
  m.any (fun x => mapGill x == mapGill e
    && ((mapType x == mapType e && mapTile x == mapTile e) || (mapType e == 1 && 2 ≤ mapType x)))

/-- Adds an entry to the session map; none where it is full. -/
def State.sessionAdd (s : State) (e : Nat) : Bool × State :=
  if 16 ≤ s.boot.sessionMap.length then (false, s)
  else (true, { s with boot.sessionMap := s.boot.sessionMap ++ [mapWith e 3] })

/-- A finding of the self-test. Tiles are tested on a warm start only with WARM_BIST (R185). -/
def State.finding (s : State) (e : Nat) : State :=
  if !s.boot.running ∨ (mapType e = 1 ∧ s.boot.warm ∧ !s.bit R.BOOT_CFG_WARM_BIST) ∨ mapNames s.knownMap e then s
  else match s.sessionAdd e with
    | (false, s) => s.fatal 0x1014 0
    | (true, s) => s.bootReport (if mapType e = 1 then 0x1003 else 0x1004) (e % 2 ^ 14)

/-- The routers that can be reached from a set, in one more hop; dead routers forward nothing. -/
def meshGrow (m set : List Nat) : List Nat :=
  (List.range 64).filter (fun r => !routerDead m r && (set.contains r
    || set.any (fun q => (q / 8 == r / 8 && (q + 1 == r || r + 1 == q)) || q + 8 == r || r + 8 == q)))

/-- The routers that can be reached from one, in `n` hops. -/
def meshReach (m : List Nat) : Nat → List Nat → List Nat
  | 0, set => set
  | n + 1, set =>
    let t := meshGrow m set
    if t.length = set.length then t else meshReach m n t

/-- The first router of a required endpoint that reaches no usable gill: memory controllers, host port, pipelines, track unit
(R172, R218). -/
def meshCut (m : List Nat) : Option Nat :=
  [0, 7, 56, 63, 3, 8, 16, 24, 32, 39].find? (fun r =>
    routerDead m r || !(meshReach m 64 [r]).any (fun q => gillUsable m q))

/-- The entry that a finding adds: for a link the router at its higher-numbered end (R172). -/
def entryOf (f : Finding) : Nat :=
  match f with
  | .tile g t => 2 ^ 30 + g * 256 + t
  | .router g => 3 * 2 ^ 30 + g * 256
  | .link a b => 3 * 2 ^ 30 + max a b * 256

/-- SELFTEST's findings, in the order made. -/
def State.stSelftest (s : State) (found : List Finding) : State :=
  if !s.inStage 3 then s
  else
    let s := found.foldl (fun (s : State) (f : Finding) => s.finding (entryOf f)) s
    if !s.boot.running then s
    else match meshCut s.knownMap with
      | some r => s.fatal 0x1005 r
      | none => s.stageEnd 3

/-! ## MAP (R174, R175) -/

/-- The map digest that the newest DIGESTS record of the journal holds. -/
def State.oldDigest (s : State) : Option (List Byte) :=
  let l := (ringRecs s.jrn.pages).filter (fun p => p.2.ty == 4)
  (l.foldl (fun (a : Option JRec) p => match a with
    | some r => if r.jseq ≤ p.2.jseq then some p.2 else a
    | none => some p.2) none).map (fun r => slice r.body 32 32)

/-- SYS_CAP_UNITS from the variant's units and the usable gills (R2, R30, R164). -/
def State.capSet (s : State) (gills : Nat) : State :=
  let u := variantUnits (s.fld R.SYS_ID_VARIANT)
  let s := (s.setF R.SYS_CAP_UNITS_GILLS gills).setF R.SYS_CAP_UNITS_CXP_PORTS (u.getD 1 0)
  let s := (s.setF R.SYS_CAP_UNITS_CXP_LANES (u.getD 2 0)).setF R.SYS_CAP_UNITS_ENC_CH (u.getD 3 0)
  let s := (s.setF R.SYS_CAP_UNITS_EJ_OUT (u.getD 4 0)).setF R.SYS_CAP_UNITS_PUFFBALL (u.getD 5 0)
  (s.setF R.SYS_CAP_UNITS_RING (u.getD 6 0)).setF R.SYS_CAP_UNITS_MEM_LOG2 (u.getD 7 0)

/-- The boot configuration block as read: the reset values where it is invalid (R174, R200). -/
def State.cfgLoad (s : State) (ok : Bool) : State :=
  match s.boot.cfgBlock, ok with
  | some v, true => s.wr R.BOOT_CFG (BitVec.ofNat 32 v)
  | _, _ => s.clearRegs 0x1000 0x1001

/-- The field map as read: of two valid copies the one with the higher sequence number; one bad copy is written again from
the other; with both bad the map is lost (R173, R174). -/
def State.fieldLoad (s : State) (ok0 ok1 : Bool) : State :=
  if ok0 || ok1 then
    let c := if !ok1 then s.boot.field0 else if !ok0 then s.boot.field1 else s.boot.newest
    let s := { s with boot.fieldMap := c.map }.setF R.BOOT_FMAP_STATUS_FIELD_COUNT c.map.length
    if ok0 && ok1 then s
    else
      let s := { s with boot.field0 := c, boot.field1 := c }
      (s.fmapReport 0x1006 (if ok0 then 1 else 0)).flashAsk 2 1
  else
    let s := { s with boot.fieldMap := [] }.setF R.BOOT_FMAP_STATUS_FIELD_COUNT 0
    (s.setB R.SYS_BOOT_STATUS_DEGRADED true).fmapReport 0x1007 0

/-- The map is merged, the units are numbered (R162 to R164). -/
def State.mapMerge (s : State) : State :=
  let m := mergeMap s.boot.fuseMap s.boot.fieldMap s.boot.sessionMap
  let s := { s with boot.merged := m }
  let s := (s.setF R.BOOT_MAP_COUNT_COUNT m.length).setWords8 R.BOOT_MAP_DIGEST_DIGEST (mapDigest m)
  s.capSet (logicalGills m ((variantUnits (s.fld R.SYS_ID_VARIANT)).getD 0 0)).length

/-- MAP: `cfgOk`, `ok0` and `ok1` tell whether the configuration block and the copies of the field map read as valid. -/
def State.stMap (s : State) (cfgOk ok0 ok1 : Bool) : State :=
  if !s.inStage 4 then s
  else
    let s := s.cfgLoad cfgOk
    if s.boot.warm then { s with boot.mapped := true }.stageEnd 4
    else
      let s := (s.fieldLoad ok0 ok1).mapMerge
      if s.gills = 0 then s.fatal 0x1008 0
      else
        let s := match s.oldDigest with
          | some d => if d = mapDigest s.boot.merged then s else s.fmapReport 0x1017 0
          | none => s
        let s := { s with boot.mapped := true, pwr.pocxpUsed := s.pocxpLanes }
        s.stageEnd 4

/-! ## TRAIN (R170, R177) -/

/-- A lane is down until the next cold start. -/
def State.laneFail (s : State) (l : Nat) : State := s.setB (R.LANE_STATUS_DOWN l) true

/-- TRAIN: the channel that failed, the lanes and the PHYs that failed. Without a LANE PLL every lane is down. -/
def State.stTrain (s : State) (ddr : Option Nat) (lanes phys : Nat) : State :=
  if !s.inStage 5 then s
  else
    let here := (List.range 24).filter s.laneHere
    let s := if s.boot.noLock.testBit 4 then here.foldl State.laneFail s else s
    let s := (here.filter (lanes.testBit ·)).foldl (fun (s : State) (l : Nat) =>
      ((s.laneFail l).setF R.BOOT_LANE_CAL_DOWN (s.fld R.BOOT_LANE_CAL_DOWN ||| 2 ^ l)).bootReport 0x100A l) s
    let s := [0, 1].foldl (fun (s : State) (p : Nat) => if phys.testBit p then s.bootReport 0x100B p else s) s
    let s := { s with boot.phyStart := maskOff 3 phys }
    match ddr with
    | some c => s.fatal 0x1009 c
    | none => { s with boot.trained := true }.stageEnd 5

/-! ## FWLOAD (R178, R179) -/

/-- The status with which a package is rejected. -/
def State.pkgBad (s : State) (p : Option Package) : Option Nat :=
  match p with
  | none => some 0x100C
  | some p =>
    if sha256 p.key ≠ s.boot.keyDigest ∨ !ecdsaVerify p.key (sha256 p.signed) p.sig then some 0x100C
    else if p.secVer < s.boot.minVer then some 0x100E
    else none

/-- A package is accepted: from slot A (0), B (1) or the host (2). -/
def State.pkgTake (s : State) (p : Package) (slot : Nat) : State :=
  { s.setF R.BOOT_FW_SLOT_SLOT slot with boot.supVer := p.supVer, boot.tileVer := p.tileVer }.stageEnd 6

/-- A package is copied into the reserved region of LPDDR5 (R178). -/
def State.pkgCopied (s : State) (p : Option Package) : State := { s with boot.pkgCopy := p }

/-- The slots are tried in order; with none accepted the stage fails. -/
def State.pkgTry (s : State) : List (Option Package × Nat) → State
  | [] => (s.setF R.BOOT_FW_SLOT_SLOT 3).fatal 0x100D 0
  | (p, slot) :: l =>
    let s := s.pkgCopied p
    match s.pkgBad p, p with
    | none, some q => s.pkgTake q slot
    | some sts, _ => State.pkgTry (s.bootReport sts slot) l
    | none, none => State.pkgTry s l

/-- FWLOAD from the flash slots, as read. -/
def State.stFwload (s : State) (a b : Option Package) : State :=
  if !s.inStage 6 ∨ s.boot.hostWait then s
  else { s with boot.pkgs := [a, b] }.pkgTry (if s.bit R.BOOT_CFG_SLOT_PREF then [(b, 1), (a, 0)] else [(a, 0), (b, 1)])

/-- The wait for the host ends; it does not count in the stage's limit. -/
def State.waitEnd (s : State) : State := { s with boot.hostWait := false, boot.stageAt := s.now }

/-- The package that the host has written from device address 0 on, BOOT_HOST_PKG bytes (R179). [Log 13 DESIGN CHOICE] -/
def State.pkgHost (s : State) : Option Package :=
  let n := s.fld R.BOOT_HOST_PKG_LENGTH
  if n ≤ s.memFree then Config.package (s.bytes 0 n) else none

/-- The host's package is in place: it is checked, and a rejected one leaves the flash slots. -/
def State.pkgOffer (s : State) : State :=
  if !s.inStage 6 ∨ !s.boot.hostWait then s
  else
    let p := s.pkgHost
    let s := s.waitEnd.pkgCopied p
    match s.pkgBad p, p with
    | none, some q => s.pkgTake q 2
    | some sts, _ => s.bootReport sts 2
    | none, none => s

/-- HOST_WAIT_S has passed. -/
def State.pkgLate (s : State) : State :=
  if s.inStage 6 ∧ s.boot.hostWait ∧ s.boot.stageAt + s.fld R.BOOT_CFG_HOST_WAIT_S * 1000000000 ≤ s.now then
    s.waitEnd.bootReport 0x100F 0
  else s

/-! ## SPORES (R180, R189) -/

/-- Every logical gill has acknowledged every spore. -/
def State.stSpores (s : State) : State :=
  if s.inStage 7 then (s.wr R.SYS_TILE_VER (BitVec.ofNat 32 s.boot.tileVer)).stageEnd 7 else s

/-- Bring-up stops here, and an internal reset is due. -/
def State.restartDue (s : State) : State :=
  let s := { s with pwr.resetReq := true }
  { s with boot.running := false }

/-- A logical gill has not acknowledged a spore within 100 µs: the spore goes out again, up to three times; then the gill
is mapped out and an internal reset is due, but for the third restart. -/
def State.sporeLate (s : State) (g spore : Nat) : State :=
  if !s.inStage 7 ∨ s.gills ≤ g then s
  else
    let i := 65536 * g + spore
    let n := Sparse.get s.boot.sporeTries i 0
    if n < 3 then { s with boot.sporeTries := Sparse.put s.boot.sporeTries i (n + 1) 0 }
    else
      let lg := logicalGills s.boot.merged ((variantUnits (s.fld R.SYS_ID_VARIANT)).getD 0 0)
      let pg := lg.getD g 0
      match s.sessionAdd (2 * 2 ^ 30 + pg * 256) with
      | (false, s) => s.fatal 0x1014 0
      | (true, s) =>
        let s := s.bootReport 0x1010 pg
        if 2 ≤ s.fld R.BOOT_RESTARTS_COUNT then s.fatal 0x1014 0
        else (s.setF R.BOOT_RESTARTS_COUNT (s.fld R.BOOT_RESTARTS_COUNT + 1)).restartDue

/-! ## SUPERVISOR (R181) and the replay of the journal (R718, R719) -/

/-- The first valid record of each subsector that has one, as (subsector, JSEQ). -/
def subFirsts (p : Sparse (List Byte)) : List (Nat × Nat) :=
  (ringRecs p).foldl (fun (a : List (Nat × Nat)) r =>
    if a.any (fun x => x.1 == r.1 / 16) then a else a ++ [(r.1 / 16, r.2.jseq)]) []

/-- The newest subsector: the one whose first record has the highest JSEQ. -/
def newestSub (p : Sparse (List Byte)) : Option Nat :=
  ((subFirsts p).foldl (fun (a : Option (Nat × Nat)) x => match a with
    | some b => if b.2 < x.2 then some x else a
    | none => some x) none).map (·.1)

/-- Reads forward to the first erased page, and counts the records that are wrong. -/
def readForward (p : Sparse (List Byte)) : Nat → Nat → Nat → Nat × Nat
  | 0, i, bad => (i, bad)
  | n + 1, i, bad =>
    match p.find? (fun e => e.1 == i) with
    | some e => readForward p n ((i + 1) % ringPages) (bad + (readPage 8 e.2).2)
    | none => (i, bad)

/-- The records of the ring from the oldest on: those past the write pointer first. -/
def ringOrder (p : Sparse (List Byte)) (wr : Nat) : List (Nat × JRec) :=
  let l := ringRecs p
  l.filter (fun r => wr ≤ r.1) ++ l.filter (fun r => decide (r.1 < wr))

/-- What comes after the last element with a property; the whole list without one. -/
def afterLast {α : Type} (f : α → Bool) (l : List α) : List α := (l.reverse.takeWhile (fun x => !f x)).reverse

/-- What a record stands for in the count of R718: an EJECT_TAIL its entries, another record 1, an END none. -/
def recCount (r : JRec) : Nat := if r.ty = 7 then 0 else if r.ty = 3 then leAt r.body 0 2 else 1

/-- LAST_END, and the records missing, of the records since the newest START. -/
def lastEnd (l : List JRec) : Nat × Nat :=
  match (l.filter (fun r => r.ty == 6 || r.ty == 7)).getLast? with
  | none => (0, 0)
  | some e =>
    if e.ty = 7 then (if leAt e.body 0 1 = 2 then (2, 0) else (1, 0))
    else
      let rest := afterLast (fun r => r.jseq == e.jseq) l
      let rest := match rest with
        | r :: t => if r.ty = 2 then t else rest
        | [] => []
      let need := leAt e.body 4 2 + leAt e.body 6 2
      let got := sumOf rest recCount
      if got < need then (3, need - got) else (4, 0)

/-- JRN_LAST_LOSS from the newest POWER_LOSS record and the END of that hold-up; without an END, the pages since. -/
def State.lossRegs (s : State) (l : List (Nat × JRec)) : State :=
  match (l.filter (fun r => r.2.ty == 6)).getLast? with
  | none => s
  | some p =>
    let ends := (afterLast (fun r => r.2.jseq == p.2.jseq) l).filter (fun r => r.2.ty == 7 && r.2.start == p.2.start)
    let n := match ends with
      | e :: _ => leAt e.2.body 4 2
      | [] => (s.jrn.wr + ringPages - p.1) % ringPages
    (s.setF R.JRN_LAST_LOSS_E_MJ (leAt p.2.body 2 2)).setF R.JRN_LAST_LOSS_PAGES (min n 65535)

/-- The totals of the newest COUNTERS record, and what has been counted since the start. -/
def State.totalsLoad (s : State) (l : List (Nat × JRec)) : State :=
  match (l.filter (fun r => r.2.ty == 2)).getLast? with
  | none => s
  | some r => (List.range 16).foldl (fun (s : State) (k : Nat) => s.inc (R.JRN_TOT_TOTAL k) (leAt r.2.body (4 * k) 4)) s

/-- The runway starts at the write pointer: the eight subsectors that follow are erased where they are not. -/
def State.runwaySet (s : State) (wr : Nat) : State :=
  let o := (wr + 15) / 16 + 8
  let inRun := fun (pg : Nat) => decide ((pg + ringPages - wr) % ringPages < 16 * o - wr)
  { s with jrn := { s.jrn with
    wr := wr, oldest := o % ringSubs, runway := 16 * o - wr, pages := s.jrn.pages.filter (fun e => !inRun e.1) } }

/-- The supervisor replays the journal after a cold start. [Log 65 DESIGN CHOICE] -/
def State.replayCold (s : State) : State :=
  match newestSub s.jrn.pages with
  | none =>
    let s := { s.runwaySet 0 with jrn.jseq := 1, jrn.startCnt := 1 }
    s.report R.JRN_STATUS_LAST_STS 0xE008 0
  | some sub =>
    let f := readForward s.jrn.pages s.jrn.pages.length (16 * sub) 0
    let l := ringOrder s.jrn.pages f.1
    let last := (l.getLast?.map (·.2)).getD ⟨0, 0, 0, 0, 0, []⟩
    let s := { s.runwaySet f.1 with jrn.jseq := last.jseq + 1, jrn.startCnt := last.start + 1 }
    let s := if f.2 = 0 then s
      else (s.inc R.JRN_CNT_CRC_COUNT f.2).report R.JRN_STATUS_LAST_STS 0xE005 (min f.2 65535)
    let s := (s.totalsLoad l).lossRegs l
    let e := lastEnd (afterLast (fun r => r.ty == 5) (l.map (·.2)))
    let s := s.setF R.JRN_STATUS_LAST_END e.1
    if e.1 = 3 then s.report R.JRN_STATUS_LAST_STS 0xE006 (min e.2 65535) else s

/-- After a warm start staging, write pointer and JSEQ stand; since the last START there is no end. -/
def State.replayWarm (s : State) : State :=
  { s.setF R.JRN_STATUS_LAST_END 0 with jrn.startCnt := s.jrn.startCnt + 1 }

/-- The statuses raised before are journalled, in their order. -/
def State.earlyStage (s : State) : State :=
  let l := s.boot.early
  l.foldl (fun (s : State) e => s.stage 1 1 (statusBody e.1 e.2.1 e.2.2) (some e.1)) { s with boot.early := [] }

/-- SUPERVISOR. -/
def State.stSupervisor (s : State) : State :=
  if !s.inStage 8 then s
  else
    let s := { s.wr R.SYS_SUP_VER (BitVec.ofNat 32 s.boot.supVer) with boot.supStarted := true }
    let s := s.setB R.JRN_CTRL_ARMED true
    let s := if s.boot.warm then s.replayWarm else s.replayCold
    let s := { s with jrn := { s.jrn with cntAt := s.now, flashOff := false, holdup := false } }
    let s := s.earlyStage.setB R.JRN_STATUS_REPLAYED true
    s.reqsOpen.jrnRegs.stageEnd 8

/-- The supervisor has been silent for 20 ms. -/
def State.supLate (s : State) : State :=
  if s.inStage 8 ∧ s.boot.stageAt + 20000000 ≤ s.now then s.fatal 0x1011 0 else s

/-! ## IMAGE (R182) and HOLD -/

/-- The stored image has not been loaded. -/
def State.imgMissed (s : State) (code : Nat) : State := { s.bootReport 0x1012 code with boot.noImage := true }

/-- The limit of stage IMAGE in µs: 256 ms and 34 ms for each MiB of the stored image (R182, R216). -/
def State.imageLimit (s : State) : Nat :=
  let n := leAt (s.img.slots.getD (s.fld R.BOOT_IMG_SLOTS_NEWEST) {}).bytes 8 4
  256000 + 34000 * n / 2 ^ 20

/-- IMAGE: the newest stored image is loaded and committed. One that had not committed by the limit has no image status of
its own. -/
def State.stImage (s : State) : State :=
  if !s.inStage 9 then s
  else if !s.bit R.BOOT_CFG_AUTO_IMAGE then s.stageEnter 10
  else if s.boot.stageAt + 1000 * s.imageLimit < s.now then
    let (v, s) := s.fresh
    (s.imgMissed v).stageEnd 9
  else
    let s := s.imgLoad (s.fld R.BOOT_IMG_SLOTS_NEWEST)
    if s.img.shadow.isSome then s.imgCommit.stageEnd 9
    else (s.imgMissed (s.fld R.BOOT_IMG_STATUS_LAST_STS)).stageEnd 9

/-- HOLD: the bank is charged; the PHY starts ended in TRAIN. -/
def State.stHold (s : State) : State :=
  if s.inStage 10 ∧ s.bit R.PWR_MOD_STATUS_CHARGED then s.stageEnd 10 else s

/-! ## The field map (R183, R186, R187, R193) -/

/-- The field map holds the unit of an entry. -/
def State.fieldHas (s : State) (e : Nat) : Bool := s.boot.fieldMap.any (fun x => mapWith x 0 == mapWith e 0)

/-- Appends an entry to the field map; it waits for both copies, and for the next cold start to take effect: an addition by
the driver, or one whose unit the merged map lacks. [Log 21 DESIGN CHOICE] -/
def State.fieldPut (s : State) (e : Nat) (driver : Bool) : State :=
  let s := { s with boot.fieldMap := s.boot.fieldMap ++ [e], boot.fieldQueue := s.boot.fieldQueue ++ [e] }
  let s := (s.setF R.BOOT_FMAP_STATUS_FIELD_COUNT s.boot.fieldMap.length).setB R.BOOT_FMAP_STATUS_WRITE_PENDING true
  let s := if !driver && s.boot.merged.any (fun x => mapWith x 0 == mapWith e 0) then s
    else (s.setB R.BOOT_FMAP_STATUS_MERGE_PENDING true).voided R.SYS_REPRO_STATUS_R_MAP_PENDING
  s.flashAsk 2

/-- Why an addition is refused, 0 for none. -/
def State.fieldBad (s : State) (e : Nat) : Nat :=
  if !s.boot.supStarted then 4
  else if mapType e = 0 then 1
  else if 68 ≤ mapTile e ∨ (mapType e ≠ 1 ∧ mapTile e ≠ 0) then 2
  else if s.fieldHas e then 0
  else if 64 ≤ s.boot.fieldMap.length then 3
  else 0

/-- A write of BOOT_FMAP_ADD. [Log 21 DESIGN CHOICE] -/
def State.fieldAdd (s : State) (e : Nat) : State :=
  let bad := s.fieldBad e
  if bad ≠ 0 then s.fmapReport 0x1016 bad
  else if s.fieldHas e then s
  else s.fieldPut (mapWith e 1) true

/-- Both copies are written for the request at the head of the port: the inactive one first, with the next sequence number, then
the other; a copy that was invalid takes the number of the valid one (R174, R186). [Log 21 DESIGN CHOICE] -/
def State.fieldStored (s : State) : State :=
  if s.flashReady 2 then
    let again := (s.jrn.reqs.head?.map (·.value)).getD 0 == 1
    let left := if again then s.boot.fieldQueue else s.boot.fieldQueue.tail
    let c : FieldCopy := ⟨s.boot.newest.seq + (if again then 0 else 1), s.boot.fieldMap.filter (fun e => !left.contains e)⟩
    let s := { s with boot.field0 := c, boot.field1 := c, boot.fieldQueue := left }
    let s := s.setB R.BOOT_FMAP_STATUS_WRITE_PENDING (left != [])
    let (v, s) := s.fresh
    s.flashDone.stageStore 2 1 c.seq (leBytes 4 v)
  else s

/-- The session entries are queued for the field map, with SOURCE 2 (R183). [Log 21 DESIGN CHOICE] -/
def State.sessionQueue (s : State) : State :=
  if !s.bit R.BOOT_CFG_AUTO_FMAP then s
  else s.boot.sessionMap.foldl (fun (s : State) (e : Nat) =>
    if s.fieldHas e then s
    else if 64 ≤ s.boot.fieldMap.length then s.fmapReport 0x1016 3
    else s.fieldPut (mapWith e 2) false) s

/-! ## Starts by the driver (R185, R197, R201) -/

/-- A write of BOOT_CTRL: the lowest-numbered action only; `pages` are the facts of the pages an internal reset writes. -/
def State.writeBootCtrl (s : State) (v : Nat) (pages : List PageFact) : State :=
  if v.testBit 0 then s.internalReset pages
  else if v.testBit 1 then (if s.bootState = 0 then s else s.warmStart)
  else if v.testBit 2 then s.flashAsk 1 (s.rd R.BOOT_CFG).toNat
  else if v.testBit 3 then s.pkgOffer
  else s

/-! ## The commands -/

/-- CLOCKS (R170): the PLLs that have not timed out are locked; `refclk` tells whether REFCLK is present.
[Log 22 DESIGN CHOICE] -/
def execClocks (refclk : Bool) (s : State) : Res := .next (s.stClocks refclk)

/-- FUSES (R171). -/
def execFuses (facts : FuseFacts) (s : State) : Res := .next (s.stFuses facts)

/-- SELFTEST (R172): the findings, in the order made. -/
def execSelftest (found : List Finding) (s : State) : Res := .next (s.stSelftest found)

/-- MAP (R175). -/
def execMap (cfgOk copy0Ok copy1Ok : Bool) (s : State) : Res := .next (s.stMap cfgOk copy0Ok copy1Ok)

/-- TRAIN (R177): a channel that failed, and masks of the lanes and PHYs that failed. -/
def execTrain (ddr : Option Nat) (lanes phys : Nat) (s : State) : Res := .next (s.stTrain ddr lanes phys)

/-- FWLOAD (R178): the packages in the slots. [Log 22 DESIGN CHOICE] -/
def execFwload (a b : Option Package) (s : State) : Res := .next (s.stFwload a b)

/-- PKG_READY (R179): a write of BOOT_CTRL.PKG_READY. -/
def execPkgReady (s : State) : Res := .next (s.regWrite R.BOOT_CTRL 8 (fun s => s.writeBootCtrl 8 []))

/-- HOST_PKG_TIMEOUT (R179). -/
def execHostPkgTimeout (s : State) : Res := .next s.pkgLate

/-- SPORES (R180). -/
def execSpores (s : State) : Res := .next s.stSpores

/-- SPORE_ACK_TIMEOUT (R180): a gill has not acknowledged a spore. -/
def execSporeAckTimeout (gill spore : Nat) (s : State) : Res := .next (s.sporeLate gill spore)

/-- SUPERVISOR (R181, R718). -/
def execSupervisor (s : State) : Res := .next s.stSupervisor

/-- SUP_START_TIMEOUT (R181). -/
def execSupStartTimeout (s : State) : Res := .next s.supLate

/-- IMAGE (R182). -/
def execImage (s : State) : Res := .next s.stImage

/-- HOLD (R167). -/
def execHold (s : State) : Res := .next s.stHold

/-- STAGE_TIMEOUT (R167). -/
def execStageTimeout (s : State) : Res := .next s.stageLate

/-- COLD_START (R201): a write of BOOT_CTRL.COLD. -/
def execColdStart (pages : List PageFact) (s : State) : Res :=
  .next (s.regWrite R.BOOT_CTRL 1 (fun s => s.writeBootCtrl 1 pages))

/-- WARM_START (R185): a write of BOOT_CTRL.WARM. -/
def execWarmStart (s : State) : Res := .next (s.regWrite R.BOOT_CTRL 2 (fun s => s.writeBootCtrl 2 []))

/-- SAVE_CFG (R201): a write of BOOT_CTRL.SAVE_CFG. -/
def execSaveCfg (s : State) : Res := .next (s.regWrite R.BOOT_CTRL 4 (fun s => s.writeBootCtrl 4 []))

/-- FIELD_ADDITION (R186): a write of BOOT_FMAP_ADD. -/
def execFieldAddition (entry : Nat) (s : State) : Res := .next (s.regWrite R.BOOT_FMAP_ADD entry (·.fieldAdd entry))

/-- FIELD_MAP_COPIES_WRITTEN (R186). [Log 66 DESIGN CHOICE] -/
def execFieldMapCopiesWritten (s : State) : Res := .next s.fieldStored

end Sys2Proof.Machine
end

