-- ==== Sys2Proof/Machine/GillExec.lean ====
section
/-! DEFINITION. GillExec: the commands of chapter 10: bundles, waits, messages, stops and debug. -/

namespace Sys2Proof.Machine

/-- BUNDLE_ISSUE (R407). -/
def execBundleIssue (gill : Nat) (s : State) : Res := .next (s.bundleIssue gill)

/-- GILL_MEM_FAULT_STOP (R436). -/
def execGillMemFaultStop (gill : Nat) (s : State) : Res := .next (s.memFaultStop gill)

/-- TIMED_OP_TIMEOUT (R500). -/
def execTimedOpTimeout (gill : Nat) (s : State) : Res := .next (s.timedOut gill)

/-- QUEUE_MESSAGE_ARRIVAL (R427). -/
def execQueueMessageArrival (gill port src srcPort : Nat) (s : State) : Res := .next (s.arrive gill port src srcPort)

/-- QUEUE_CREDIT_RETURN (R427). -/
def execQueueCreditReturn (gill port : Nat) (s : State) : Res := .next (s.creditBack gill port)

/-- FENCE_COMPLETE (R425). -/
def execFenceComplete (gill : Nat) (s : State) : Res := .next (s.fenceDone gill)

/-- INVOCATION_END (R437). -/
def execInvocationEnd (gill : Nat) (s : State) : Res := .next (s.invocationEnd gill)

/-- DBG_HALT (R440): a write of 1 to GILL_DBG_CTRL.HALT. -/
def execDbgHalt (gill : Nat) (s : State) : Res :=
  .next (if gill < 64 then s.regWrite (R.GILL_DBG_CTRL gill) 1 (fun s => s.dbgHalt gill) else s)

/-- DBG_RESUME (R440). -/
def execDbgResume (gill : Nat) (s : State) : Res :=
  .next (if gill < 64 then s.regWrite (R.GILL_DBG_CTRL gill) 2 (fun s => s.dbgResume gill) else s)

/-- DBG_STEP (R440). -/
def execDbgStep (gill : Nat) (s : State) : Res :=
  .next (if gill < 64 then s.regWrite (R.GILL_DBG_CTRL gill) 4 (fun s => s.dbgStep gill) else s)

end Sys2Proof.Machine
end

