-- ==== Sys2Proof/Machine/Detect.lean ====
section
/-! DEFINITION. Detect: the detection engine (R456 to R472): BOXDEC and NMS items of a chain. -/

namespace Sys2Proof.Machine

/-- One box of a list (R460). -/
structure Box where
  x0 : Int
  y0 : Int
  x1 : Int
  y1 : Int
  score : Nat
  cls : Nat
  clip : Bool
  index : Nat
  deriving DecidableEq, Repr

/-- rnd(v, s) of R458. -/
def rndShift (v : Int) (s : Nat) : Int := (v + (2 ^ (s - 1) : Nat)) / (2 ^ s : Nat)

/-- Limits a coordinate. -/
def clampTo (hi : Nat) (v : Int) : Int := max 0 (min v hi)

/-- The box of an anchor (R458), none where it is empty. -/
def decodeBox (b anchor delta lut : List Byte) (i score cls : Nat) : Option Box :=
  let sx := fun (l : List Byte) (o : Nat) => signed 32 (leAt l o 4)
  let d := fun (k : Nat) => signed 8 (leAt delta (4 * i + k) 1)
  let f := fun (k : Nat) => (leAt lut (2 * (d k + 128).toNat) 2 : Int)
  let sxy : Int := leAt b 0x40 2
  let aw := sx anchor (16 * i + 8)
  let ah := sx anchor (16 * i + 12)
  let cx := sx anchor (16 * i) + rndShift (d 0 * aw * sxy) 15
  let cy := sx anchor (16 * i + 4) + rndShift (d 1 * ah * sxy) 15
  let w := rndShift (aw * f 2) 10
  let h := rndShift (ah * f 3) 10
  let x0 := cx - w / 2
  let y0 := cy - h / 2
  let c := fun v => clampTo (leAt b 0x44 4) v
  let e := fun v => clampTo (leAt b 0x48 4) v
  let r : Box := ⟨c x0, e y0, c (x0 + w), e (y0 + h), score, cls, false, i⟩
  let r := { r with clip := decide (r.x0 ≠ x0 ∨ r.x1 ≠ x0 + w ∨ r.y0 ≠ y0 ∨ r.y1 ≠ y0 + h) }
  if r.x1 ≤ r.x0 ∨ r.y1 ≤ r.y0 then none else some r

/-- Whether a candidate comes before another (R459). -/
def Box.before (a b : Box) : Bool :=
  decide (b.score < a.score) || (a.score == b.score &&
    (decide (a.index < b.index) || (a.index == b.index && decide (a.cls ≤ b.cls))))

/-- The (class, score) pairs that an anchor's scores make candidates (R459). -/
def candidates (mode thresh : Nat) (sc : List Nat) : List (Nat × Nat) :=
  if mode = 0 then
    let m := sc.foldl max 0
    if thresh ≤ m then [(sc.findIdx (· == m), m)] else []
  else (sc.zipIdx.filter (fun p => decide (thresh ≤ p.1))).map (fun p => (p.2, p.1))

/-- The bytes of a record (R460). -/
def Box.bytes (b : Box) : List Byte :=
  leBytes 4 (unsignedOf 32 b.x0) ++ leBytes 4 (unsignedOf 32 b.y0) ++ leBytes 4 (unsignedOf 32 b.x1)
    ++ leBytes 4 (unsignedOf 32 b.y1) ++ leBytes 1 b.score ++ leBytes 1 b.cls ++ leBytes 1 b.clip.toNat ++ [0]
    ++ leBytes 4 b.index ++ List.replicate 8 0

/-- A record read from a list. -/
def readBox (l : List Byte) (k : Nat) : Box :=
  let o := 32 + 32 * k
  let c := fun j => signed 32 (leAt l (o + j) 4)
  ⟨c 0, c 4, c 8, c 12, leAt l (o + 16) 1, leAt l (o + 17) 1, (leAt l (o + 18) 1).testBit 0, leAt l (o + 20) 4⟩

/-- A list's header (R460). -/
def detHead (count dropped removed sts op : Nat) : List Byte :=
  leBytes 4 count ++ leBytes 4 dropped ++ leBytes 4 removed ++ leBytes 2 sts ++ leBytes 1 op ++ List.replicate 17 0

/-- Reports a detection status. -/
def State.detReport (s : State) (sts detail : Nat) : State := s.report R.DET_STATUS_LAST_STS sts detail

/-- A failed item: counted, reported, and its header written with COUNT 0 if it can be. -/
def State.detFail (s : State) (e i : Nat) (r : RunChain) (b : List Byte) (sts detail : Nat) : ItemRes × State :=
  let s := (s.inc R.DET_CNT_FAIL_FAIL).detReport sts detail
  let out := leAt b (if itemOp b = 0x10 then 0x30 else 0x18) 8
  let (_, s) := s.dmaPut e i r.chain.reach out (detHead 0 0 0 sts (itemOp b))
  (⟨sts, 2, 0, detail⟩, s)

/-- Writes the records, then the header (R463); drops are counted and reported (R470). -/
def State.detWrite (s : State) (e i : Nat) (r : RunChain) (b : List Byte) (out dropped removed : Nat) (l : List Box) :
    ItemRes × State :=
  match s.dmaPut e i r.chain.reach (out + 32) (l.flatMap Box.bytes) with
  | (some _, s) => s.detFail e i r b 0x8803 e
  | (none, s) =>
    match s.dmaPut e i r.chain.reach out (detHead l.length dropped removed 0 (itemOp b)) with
    | (some _, s) => s.detFail e i r b 0x8803 e
    | (none, s) =>
      let s := if dropped = 0 then s
        else (s.inc R.DET_CNT_DROPPED_DROPPED dropped).detReport 0x8804 (min dropped 65535)
      (itemDone 0, if itemOp b = 0x10 then s.inc R.DET_CNT_BOXDEC_BOXDEC else s.inc R.DET_CNT_NMS_NMS)

/-- Sorts by an order that tells which of two comes first, keeping equals in place. -/
def insertBox (x : Box) : List Box → List Box
  | [] => [x]
  | y :: l => if x.before y then x :: y :: l else y :: insertBox x l

def sortBoxes (l : List Box) : List Box := l.foldr insertBox []

/-- The first bad field of a BOXDEC body, by its offset (R457, R468). -/
def boxdecBad (b : List Byte) : Option Nat :=
  let chk : List (Nat × Bool) := [
    (0x10, leAt b 0x10 8 % 4 != 0), (0x18, leAt b 0x18 8 % 4 != 0), (0x20, leAt b 0x20 8 % 4 != 0),
    (0x28, leAt b 0x28 8 % 4 != 0), (0x30, leAt b 0x30 8 % 4 != 0),
    (0x38, leAt b 0x38 4 == 0 || decide (1048576 < leAt b 0x38 4)),
    (0x3C, leAt b 0x3C 1 == 0 || decide (64 < leAt b 0x3C 1)),
    (0x3E, decide (1 < leAt b 0x3E 1)), (0x3F, leAt b 0x3F 1 != 0),
    (0x42, leAt b 0x42 2 == 0 || decide (8192 < leAt b 0x42 2)),
    (0x44, decide (2 ^ 20 < leAt b 0x44 4)), (0x48, decide (2 ^ 20 < leAt b 0x48 4)), (0x4C, leAt b 0x4C 4 != 0)]
  (chk.find? (·.2)).map (·.1)

/-- BOXDEC (R457 to R460, R463). -/
def State.boxdecItem (e i : Nat) (s : State) (r : RunChain) (b : List Byte) : ItemRes × State :=
  match boxdecBad b with
  | some o => s.detFail e i r b 0x8801 o
  | none =>
    let n := leAt b 0x38 4
    let c := leAt b 0x3C 1
    let get := fun (s : State) (o k : Nat) => s.dmaGet e i r.chain.reach (leAt b o 8) k
    let fault := fun (s : State) => s.detFail e i r b 0x8803 e
    match get s 0x10 (16 * n) with
    | (.error _, s) => fault s
    | (.ok anchor, s) =>
      match get s 0x18 (4 * n) with
      | (.error _, s) => fault s
      | (.ok delta, s) =>
        match get s 0x20 (n * c) with
        | (.error _, s) => fault s
        | (.ok score, s) =>
          match get s 0x28 512 with
          | (.error _, s) => fault s
          | (.ok lut, s) =>
            let all := (List.range n).flatMap (fun k =>
              (candidates (leAt b 0x3E 1) (leAt b 0x3D 1) ((List.range c).map (fun j => leAt score (k * c + j) 1))).map
                (fun p => decodeBox b anchor delta lut k p.2 p.1))
            let l := sortBoxes (all.filterMap id)
            let mx := leAt b 0x42 2
            s.detWrite e i r b (leAt b 0x30 8) (l.length - mx) (all.length - l.length) (l.take mx)

/-- The first bad field of an NMS body (R461, R468). -/
def nmsBad (b : List Byte) : Option Nat :=
  let chk : List (Nat × Bool) := [
    (0x10, leAt b 0x10 8 % 4 != 0), (0x18, leAt b 0x18 8 % 4 != 0), (0x21, decide (1 < leAt b 0x21 1)),
    (0x22, leAt b 0x22 2 == 0 || decide (1024 < leAt b 0x22 2)), (0x24, (slice b 0x24 12).any (· != 0))]
  (chk.find? (·.2)).map (·.1)

/-- Whether a kept box suppresses another (R462). -/
def suppresses (iou : Nat) (agn : Bool) (a b : Box) : Bool :=
  let area := fun (x : Box) => (x.x1 - x.x0) * (x.y1 - x.y0)
  let inter := max 0 (min a.x1 b.x1 - max a.x0 b.x0) * max 0 (min a.y1 b.y1 - max a.y0 b.y0)
  (agn || a.cls == b.cls) && decide ((iou : Int) * (area a + area b - inter) < inter * 256)

/-- Works through the records: kept ones (newest first), how many are suppressed, how many were not examined. -/
def nmsLoop (iou : Nat) (agn : Bool) (mx : Nat) : List Box → List Box → Nat → List Box × Nat × Nat
  | [], k, r => (k, r, 0)
  | x :: l, k, r =>
    if mx ≤ k.length then (k, r, l.length + 1)
    else if k.any (fun y => suppresses iou agn y x) then nmsLoop iou agn mx l k (r + 1)
    else nmsLoop iou agn mx l (x :: k) r

/-- NMS (R461 to R463). -/
def State.nmsItem (e i : Nat) (s : State) (r : RunChain) (b : List Byte) : ItemRes × State :=
  match nmsBad b with
  | some o => s.detFail e i r b 0x8801 o
  | none =>
    match s.dmaGet e i r.chain.reach (leAt b 0x10 8) 32 with
    | (.error _, s) => s.detFail e i r b 0x8803 e
    | (.ok h, s) =>
      let n := leAt h 0 4
      if 8192 < n then s.detFail e i r b 0x8802 0
      else match s.dmaGet e i r.chain.reach (leAt b 0x10 8) (32 + 32 * n) with
        | (.error _, s) => s.detFail e i r b 0x8803 e
        | (.ok l, s) =>
          let boxes := sortBoxes ((List.range n).map (readBox l))
          match nmsLoop (leAt b 0x20 1) (leAt b 0x21 1 == 1) (leAt b 0x22 2) boxes [] 0 with
          | (k, removed, dropped) => s.detWrite e i r b (leAt b 0x18 8) dropped removed k.reverse

/-- BOXDEC and NMS of item `i` of engine `e`: the engine is busy `us` microseconds with it (R464, R472). -/
def State.detItem (s : State) (e i op us : Nat) (k : State → RunChain → List Byte → ItemRes × State) : State :=
  s.runItem e i op false (fun s r b => k (s.raise R.DET_MAX_US_MAX_US us) r b)

end Sys2Proof.Machine
end

