-- ==== Sys2Proof/Machine/MemExec.lean ====
section
/-! DEFINITION. MemExec: the commands of chapter 12 and of the detection engine: MMU changes, the fault queue,
transactions, refresh, DMA chains and their items, sync cells. -/

namespace Sys2Proof.Machine

/-! ## Transactions (R485, R487, R502) -/

/-- Facts a transaction meets in the memory: a 32-byte block found uncorrectable, one found with a single-bit
error, and the time it spent in its controller. [Log 55 DESIGN CHOICE] -/
def State.memFacts (s : State) (bad weak : Option Nat) (chan ns : Nat) : State :=
  let s := match bad with
    | some k => if s.mmu.bad.contains k then s else { s with mmu.bad := k :: s.mmu.bad }
    | none => s
  let s := match weak with
    | some k => if s.mmu.weak.contains k then s else { s with mmu.weak := k :: s.mmu.weak }
    | none => s
  if chan < 4 then s.raise (R.MEM_CH_LAT_MAX_NS chan) ns else s

/-- A gill's access in a slot fails because its translation walk met an uncorrectable error (R487). -/
def State.walkFail (s : State) (gi slot : Nat) : State :=
  match ((s.gl gi).due slot true).or ((s.gl gi).due slot false) with
  | none => s
  | some a =>
    let s := s.txFail 4 (0x1000 + gi) 1 a.va a.va 2 slot
    let g := s.gl gi
    let g := if a.write then { g with acc := g.acc.filter (fun b => !(b == a)) } else g.setAcc a 2 []
    (s.setGl gi (g.fault a)).settleAll gi

/-- TRANSACTION_RESPONSE (R502): a gill's store in a transaction slot, or its failure in the walk; `ns` is its
latency, `ref` and `retry` what refresh and ring retries added to it. -/
def execTransactionResponse (gill slot : Nat) (walk : Bool) (bad weak : Option Nat) (chan ns ref retry : Nat)
    (s : State) : Res :=
  let s := (s.memFacts bad weak chan ns).twCount gill 0 ref retry
  .next (if walk then s.walkFail gill slot else s.storeResponse gill slot)

/-- GLOBAL_LOAD_RESPONSE (R417). -/
def execGlobalLoadResponse (gill slot ref retry : Nat) (s : State) : Res :=
  .next ((s.twCount gill 0 ref retry).loadResponse gill slot)

/-! ## Translation and the controllers -/

/-- UNMAP (R488): GO of MMU_OP with OP 1. -/
def execUnmap (s : State) : Res :=
  .next (s.regWrite R.MMU_OP (2 ^ 31 + 1) (fun s => s.writeMmuOp (2 ^ 31 + 1)))

/-- MAP_R (R488). -/
def execMapR (s : State) : Res :=
  .next (s.regWrite R.MMU_OP (2 ^ 31 + 2) (fun s => s.writeMmuOp (2 ^ 31 + 2)))

/-- MAP_RW (R488). -/
def execMapRw (s : State) : Res :=
  .next (s.regWrite R.MMU_OP (2 ^ 31 + 3) (fun s => s.writeMmuOp (2 ^ 31 + 3)))

/-- MMU_OP_COMPLETE (R488). -/
def execMmuOpComplete (s : State) : Res := .next s.mmuOpDone

/-- FAULT_RECORD_POP (R515). -/
def execFaultRecordPop (s : State) : Res := .next (s.regRead (R.MMU_FQ_DATA 0) State.fqPop)

/-- REFRESH (R482). -/
def execRefresh (chan ns : Nat) (s : State) : Res := .next (if chan < 4 then s.refresh chan ns else s)

/-- ZQ_CALIBRATION (R482). -/
def execZqCalibration (chan : Nat) (s : State) : Res := .next (if chan < 4 then s.zqCal chan else s)

/-- MR4_READ (R483). -/
def execMr4Read (chan range : Nat) (s : State) : Res :=
  .next (if chan < 4 ∧ range < 4 then s.mr4 chan range else s)

/-! ## DMA -/

/-- DMA_SUBMIT (R489): a write of DMA_SUB_HI with GO. -/
def execDmaSubmit (eng value : Nat) (s : State) : Res :=
  .next (if eng < 16 then s.regWrite (R.DMA_SUB_HI eng) value (fun s => s.writeDmaHi eng value) else s)

/-- CHAIN_START (R493). -/
def execChainStart (eng : Nat) (s : State) : Res := .next (if eng < 16 then s.chainStart eng else s)

/-- COPY (R492). -/
def execCopy (eng item : Nat) (s : State) : Res :=
  .next (s.runItem eng item 1 false (State.copyItem eng item (2 ^ 28)))

/-- FILL (R492). -/
def execFill (eng item : Nat) (s : State) : Res :=
  .next (s.runItem eng item 2 false (State.fillItem eng item (2 ^ 32)))

/-- COPY2D (R492). -/
def execCopy2d (eng item : Nat) (s : State) : Res :=
  .next (s.runItem eng item 3 false (State.copy2dItem eng item))

/-- SIGNAL (R492). -/
def execSignal (eng item : Nat) (s : State) : Res :=
  .next (s.runItem eng item 4 true (State.signalItem eng item))

/-- CHAIN_END (R493). -/
def execChainEnd (eng : Nat) (s : State) : Res := .next (if eng < 16 then s.chainEnd eng else s)

/-- DMA_ABORT (R505): `part` tells how many bytes each item begun had written. [Log 56 DESIGN CHOICE] -/
def execDmaAbort (eng : Nat) (part : List (Nat × Nat)) (s : State) : Res :=
  .next (if eng < 16 then s.regWrite (R.DMA_ENG_CTRL eng) 2 (fun s => s.dmaAbort eng part) else s)

/-- BOXDEC (R458). -/
def execBoxdec (eng item us : Nat) (s : State) : Res :=
  .next (s.detItem eng item 0x10 us (State.boxdecItem eng item))

/-- NMS (R462). -/
def execNms (eng item us : Nat) (s : State) : Res :=
  .next (s.detItem eng item 0x11 us (State.nmsItem eng item))

/-! ## Sync cells -/

/-- SYNC_ADD (R498). -/
def execSyncAdd (cell value : Nat) (s : State) : Res :=
  .next (if cell < 4096 then s.regWrite (R.SYNC_ADD cell) value (fun s => s.hostCellAdd cell (value % 65536)) else s)

/-- SYNC_RESET (R501). -/
def execSyncReset (cell : Nat) (s : State) : Res :=
  .next (if cell < 4096 then s.regWrite (R.SYNC_CTL cell) (2 ^ 31) (fun s => s.cellReset cell) else s)

/-- SYNC_GRANT (R499). -/
def execSyncGrant (cell : Nat) (s : State) : Res := .next (s.syncGrant cell)

end Sys2Proof.Machine
end

