-- ==== Sys2Proof/Machine/Encoder.lean ====
section
/-! DEFINITION. Encoder: the encoder channels (R284 to R303, R315): qualification, decoding, serial sensors, wires, speed,
and what a change of X and E brings about in the same MOTION cycle. -/

namespace Sys2Proof.Machine

/-! ## Speed (R298 to R302) -/

def fMotion : Nat := 200000000

/-- The lower of two speeds. -/
def Speed.min (a b : Speed) : Speed := if a.num * b.den ≤ b.num * a.den then a else b

/-- The mode of a channel (R284). -/
def State.chMode (s : State) (c : Nat) : Nat := s.fld (R.MOT_CH_CFG_MODE c)

/-- Whether a channel exists, is enabled and is not OFF. -/
def State.chOn (s : State) (c : Nat) : Bool := decide (c < s.encChans) && s.bit (R.MOT_CH_CFG_EN c) && s.chMode c != 0

/-- MOTION cycles from one moment to another, each in ns: a cycle starts at every multiple of 5 ns.
[Log 32 DESIGN CHOICE] -/
def cyclesBetween (a b : Nat) : Nat := b / 5 - a / 5

/-- v_p at this moment (R298). [Log 33 DESIGN CHOICE] -/
def State.vPeriod (s : State) (c : Nat) : Speed :=
  let x := s.ch c
  let n := min (2 ^ s.fld (R.MOT_CH_CFG_AVG c)) (x.marks.length - 1)
  let open_ := cyclesBetween x.stepAt s.now
  let d := max 1 (cyclesBetween (x.marks.getD n 0) (x.marks.getD 0 0))
  if n = 0 then (if open_ = 0 then {} else ⟨fMotion, open_⟩)
  else if open_ = 0 then ⟨n * fMotion, d⟩
  else Speed.min ⟨n * fMotion, d⟩ ⟨fMotion, open_⟩

/-- Whether the speed of a channel is valid (R302). -/
def State.speedOk (s : State) (c : Nat) : Bool :=
  let x := s.ch c
  s.chOn c && decide (2 ≤ x.steps) && decide (2 ≤ x.wireSteps) && !s.bit (R.MOT_CH_STATUS_WIRE_FAULT c)
    && !s.bit (R.MOT_CH_STATUS_SENSOR_FAULT c)

/-- The published speed in 1/16 cnt/s, rounded to the nearest unit. -/
def Speed.units (v : Speed) : Nat := (32 * v.num + v.den) / (2 * v.den)

/-- Publishes an estimate and the valid indication; the converter may run at once (R43). [Log 33 DESIGN CHOICE] -/
def State.publish (s : State) (c : Nat) (v : Speed) : State :=
  let s := s.setCh c { s.ch c with v := v }
  let s := s.setF (R.MOT_CH_SPEED_SPEED c) (min v.units (2 ^ 32 - 1))
  (s.setB (R.MOT_CH_STATUS_SPEED_VALID c) (s.speedOk c)).convertNow c

/-- An update of the period estimator: published in the period method, and tested against V_HI (R301). -/
def State.periodUpdate (s : State) (c : Nat) : State :=
  let v := s.vPeriod c
  let s := s.setCh c { s.ch c with vp := v }
  if s.bit (R.MOT_CH_STATUS_METHOD c) then s
  else
    let s := s.publish c v
    if s.fld (R.MOT_CH_VHI_V_HI c) * v.den < v.num then s.setCh c { s.ch c with toCount := true } else s

/-- The running count gate has lasted the GATE_US in force when it began (R299). -/
def State.gateDue (s : State) (c : Nat) : Bool := decide ((s.ch c).gateAt + 1000 * (s.ch c).gateUs ≤ s.now)

/-- The end of a count gate (R299, R301). -/
def State.gateDone (s : State) (c : Nat) : State :=
  let x := s.ch c
  let v : Speed := ⟨x.gateSteps * 1000000, x.gateUs⟩
  let s := s.setCh c { x with vc := v, gateAt := x.gateAt + 1000 * x.gateUs, gateUs := s.fld (R.MOT_CH_GATE_GATE_US c), gateSteps := 0 }
  let s := if x.toCount then
      (s.setB (R.MOT_CH_STATUS_METHOD c) true).setCh c { s.ch c with toCount := false }
    else s
  if s.bit (R.MOT_CH_STATUS_METHOD c) then
    let s := s.publish c v
    if v.num < s.fld (R.MOT_CH_VLO_V_LO c) * v.den then
      (s.setB (R.MOT_CH_STATUS_METHOD c) false).publish c (s.vPeriod c)
    else s
  else s

/-! ## What a change of X and E brings about (R34, R245, R303) -/

/-- Forward counts beyond the highest position since the MOTION wake latch was armed (R138). [Log 26 DESIGN CHOICE] -/
def State.wakeMotion (s : State) (c : Nat) : State :=
  let top := s.mode.moveTop.getD c 0
  let x := signed 48 (s.xOf c)
  if top < x ∧ s.chOn c then
    let far := unsignedOf 48 (x - (s.mode.moveBase.getD c 0))
    let s := { s with mode.moveTop := setAt s.mode.moveTop c x }
    if s.fld R.PWR_MODE_CFG_MOVE_CNT ≤ far then s.wake 2 else s
  else s

/-- BACKWARD follows X and E (R285); becoming backward is one episode of reversal (R303). -/
def State.backJudge (s : State) (c : Nat) : State :=
  let back := decide (d48 (s.xOf c) (s.eOf c) < 0)
  let was := s.backward c
  let s := s.setB (R.MOT_CH_STATUS_BACKWARD c) back
  if back && !was then
    let s := (s.inc (R.MOT_CH_CNT_REV_COUNT c)).chReport c 0x400B 0
    let s := (s.setCh c { s.ch c with idxClean := false }).ejBackward c
    if (s.fld R.PTP_EVT_CFG_REV).testBit c then s.evtPush 4 c (s.eOf c) s.motNow else s
  else s

/-- The rest of the MOTION cycle in which X or E of a channel has changed. [Log 36 DESIGN CHOICE] -/
def State.moved (s : State) (c : Nat) : State :=
  let s := s.backJudge c
  let s := s.wakeMotion c
  let s := s.markCheck c
  let s := s.advanceAll (s.trkSlots (fun t => t.chan == c)) (some c)
  (s.revCheck c).ejAll

/-- X takes a value that is no travel: a first serial reading, or a write. The counts that the MOTION wake latch measures
its travel from move with it (R138). [Log 26 DESIGN CHOICE] -/
def State.jumpX (s : State) (c v : Nat) : State :=
  let by_ := fun (l : List Int) => setAt l c (signed 48 (unsignedOf 48 (l.getD c 0 + d48 v (s.xOf c))))
  { s.setX c v with mode.moveTop := by_ s.mode.moveTop, mode.moveBase := by_ s.mode.moveBase }

/-- Adds to X; E follows X upward (R34). -/
def State.addX (s : State) (c : Nat) (i : Int) : State :=
  let i := if s.bit (R.MOT_CH_CFG_DIR_INV c) then -i else i
  let s := s.setX c (add48 (s.xOf c) i)
  if 0 < d48 (s.xOf c) (s.eOf c) then s.setE c (s.xOf c) else s

/-- A counted step of an incremental channel: X, the moments of the steps in this direction, and the gate.
[Log 34 DESIGN CHOICE] -/
def State.step1 (s : State) (c : Nat) (up : Bool) : State :=
  let x := s.ch c
  let x := { x with
    marks := if x.dir = some up then (s.now :: x.marks).take 9 else [s.now]
    dir := some up, stepAt := s.now, steps := x.steps + 1, wireSteps := min 2 (x.wireSteps + 1), gateSteps := x.gateSteps + 1 }
  (s.setCh c x).addX c (if up then 1 else -1)

/-! ## Glitch faults (R288) -/

/-- Counts a glitch fault, for the channel and for its tracks. -/
def State.glitch (s : State) (c : Nat) : State :=
  let s := s.inc (R.MOT_CH_CNT_GLITCH_COUNT c)
  (s.setCh c { s.ch c with glitches := (s.ch c).glitches + 1 }).glitchEvent c

/-- An illegal quadrature or Hall transition. -/
def State.quadError (s : State) (c was now_ : Nat) : State :=
  ((s.inc (R.MOT_CH_CNT_QUAD_COUNT c)).glitch c).chLimited c 0x4004 (fun _ => 16 * was + now_)

/-! ## Quadrature and Hall (R290 to R292) -/

/-- The place of (A, B) in the order 00, 10, 11, 01; bit 0 is A, bit 1 is B. -/
def quadPos (l : Nat) : Nat := [0, 1, 3, 2].getD (l % 4) 0

/-- The code of (A, B), A first. -/
def quadCode (l : Nat) : Nat := 2 * (l % 2) + l / 2 % 2

/-- The place of a Hall state in R292; bit 0 is U, bit 1 V, bit 2 W; none for 000 and 111. -/
def hallPos (l : Nat) : Option Nat :=
  match l % 8 with
  | 1 => some 0
  | 3 => some 1
  | 2 => some 2
  | 6 => some 3
  | 4 => some 4
  | 5 => some 5
  | _ => none

/-- The code of (U, V, W), U first. -/
def hallCode (l : Nat) : Nat := 4 * (l % 2) + 2 * (l / 2 % 2) + l / 4 % 2

/-- The index is latched (R291). -/
def State.indexLatch (s : State) (c : Nat) : State :=
  let had := s.bit (R.MOT_CH_STATUS_IDX_VALID c)
  let prev := s.fld (R.MOT_CH_IDX_LO_IDX_LO c) + 2 ^ 32 * s.fld (R.MOT_CH_IDX_HI_IDX_HI c)
  let x := s.xOf c
  let s := (s.setPair (R.MOT_CH_IDX_LO_IDX_LO c) (R.MOT_CH_IDX_HI_IDX_HI c) x).setB (R.MOT_CH_STATUS_IDX_VALID c) true
  let diff : Int := (d48 x prev).natAbs - s.fld (R.MOT_CH_CPR_CPR c)
  let s := if had && (s.ch c).idxClean && s.fld (R.MOT_CH_CPR_CPR c) != 0 && diff != 0 then
      (s.inc (R.MOT_CH_CNT_INDEX_COUNT c)).chReport c 0x4005 (unsignedOf 16 (max (-32768) (min 32767 diff)))
    else s
  let s := s.setCh c { s.ch c with idxClean := true }
  let q := (s.fld (R.MOT_CH_QUAL_QUAL_NS c) + 4) / 5 * 5
  if (s.fld R.PTP_EVT_CFG_IDX).testBit c then s.evtPush 2 c (s.eOf c) (s.motNow - max 5 q) else s

/-- Decodes a change of the accepted levels of a channel from `was` to `lv`. -/
def State.decode (s : State) (c was lv : Nat) : State :=
  if !s.chOn c then s
  else if s.chMode c = 1 then
    let d := (quadPos lv + 4 - quadPos was) % 4
    let s := if d = 0 then s
      else if d = 2 then s.quadError c (quadCode was) (quadCode lv)
      else (s.step1 c (d == 1)).periodUpdate c
    let z := s.bit (R.MOT_CH_CFG_Z_EN c) && !was.testBit 2 && lv.testBit 2
    let s := s.moved c
    if z && !s.backward c then s.indexLatch c else s
  else if s.chMode c = 2 then
    if was = lv then s
    else
      let x := s.ch c
      match x.hall, hallPos lv with
      | some a, some b =>
        let d := (b + 6 - a) % 6
        if d = 1 ∨ d = 5 then
          let s := s.setCh c { x with hall := some b }
          ((s.step1 c (d == 1)).periodUpdate c).moved c
        else if d = 0 then s
        else (s.setCh c { x with hall := some b }).quadError c (hallCode was) (hallCode lv)
      | some _, none => (s.setCh c { x with hall := none }).quadError c (hallCode was) (hallCode lv)
      | none, some b => s.setCh c { x with hall := some b }
      | none, none => s.quadError c (hallCode was) (hallCode lv)
  else s

/-- Q of a channel in ns (R287). -/
def State.qualNs (s : State) (c : Nat) : Nat := max 5 ((s.fld (R.MOT_CH_QUAL_QUAL_NS c) + 4) / 5 * 5)

/-- Edges of the pairs in a mask are accepted in one MOTION cycle, each having differed from L for `held` ns: those
that have lasted Q and respect MIN_SPACE_NS (R287). -/
def State.edges (s : State) (c mask held : Nat) : State :=
  if s.encChans ≤ c ∨ held < s.qualNs c then s
  else
    let x := s.ch c
    let gap := s.fld (R.MOT_CH_SPACE_MIN_SPACE_NS c)
    let ok := (List.range 3).filter (fun k => mask.testBit k && (match x.edge.getD k none with
      | some t => decide (t + gap ≤ s.now)
      | none => true))
    if ok = [] then s
    else
      let was := s.fld (R.MOT_CH_STATUS_LEVEL c)
      let lv := ok.foldl (fun l k => l ^^^ 2 ^ k) was
      let s := s.setCh c { x with edge := ok.foldl (fun e k => setAt e k (some s.now)) x.edge }
      let s := (s.setF (R.MOT_CH_STATUS_LEVEL c) lv).setF (R.MOT_CH_STATUS_HALL c) (hallCode lv)
      s.decode c was lv

/-- A glitch fault of R288 on a channel. -/
def State.glitchFault (s : State) (c : Nat) : State :=
  if s.encChans ≤ c then s else (s.glitch c).chLimited c 0x4001 id

/-! ## Serial sensors (R293 to R295) -/

/-- Gray code to binary. -/
def grayToBin (n : Nat) : Nat → Nat
  | 0 => n
  | k + 1 => n ^^^ (grayToBin n k / 2)

/-- The CRC of bits, most significant first, by a polynomial of degree `len` with lower terms `poly`. -/
def crcBits (len poly : Nat) : List Bool → Nat → Nat
  | [], r => r
  | b :: l, r =>
    let top := (r / 2 ^ (len - 1) % 2 == 1) != b
    crcBits len poly l ((2 * r % 2 ^ len) ^^^ (if top then poly % 2 ^ len else 0))

/-- The bits of a number of a width, most significant first. -/
def bitsMsb (w n : Nat) : List Bool := (List.range w).map (fun i => n.testBit (w - 1 - i))

/-- The check of R294 and R295 that a received frame fails first, JUMP_MAX apart. -/
def State.serialStatus (s : State) (c : Nat) (f : SerialFrame) : Option Nat :=
  let bits := s.fld (R.MOT_CH_SER_CFG_BITS c)
  let biss := s.chMode c == 4
  let len := s.fld (R.MOT_CH_SER_CRC_CRC_LEN c)
  let crc := crcBits len (s.fld (R.MOT_CH_SER_CRC_POLY c)) (bitsMsb bits f.data ++ [f.nE, f.nW]) 0
  if biss && !f.started then some 0x4007
  else if biss && len != 0 && (f.crc % 2 ^ len) != 2 ^ len - 1 - crc then some 0x4006
  else if biss && !f.nE then some 0x4008
  else none

/-- The position a frame carries. -/
def State.serialPos (s : State) (c data : Nat) : Nat :=
  let bits := s.fld (R.MOT_CH_SER_CFG_BITS c)
  let d := data % 2 ^ bits
  if s.bit (R.MOT_CH_SER_CFG_GRAY c) then grayToBin d bits % 2 ^ bits else d

/-- A rejected reading (R295): each run of rejections that reaches FAIL_MAX is told once. -/
def State.serialReject (s : State) (c sts detail : Nat) : State :=
  let s := ((s.inc (R.MOT_CH_CNT_SER_COUNT c)).glitch c).chLimited c sts (fun _ => detail)
  let x := s.ch c
  let tell := decide (s.fld (R.MOT_CH_SER_JUMP_FAIL_MAX c) ≤ x.rejects + 1) && !x.lost
  let s := s.setCh c { x with rejects := x.rejects + 1, goods := 0, lost := x.lost || tell }
  if tell then ((s.setB (R.MOT_CH_STATUS_SENSOR_FAULT c) true).chReport c 0x400A 0).publish c x.v else s

/-- v_s of the accepted readings (R300). -/
def State.vSerial (s : State) (c : Nat) : Speed :=
  let x := s.ch c
  let n := min (2 ^ s.fld (R.MOT_CH_CFG_AVG c)) (x.reads.length - 1)
  match x.reads[0]?, x.reads[n]? with
  | some (a, t), some (b, u) => if t ≤ u then {} else ⟨(a - b).natAbs * 1000000000, t - u⟩
  | _, _ => {}

/-- An accepted reading: position, Δ and latch instant. -/
def State.serialAccept (s : State) (c pos : Nat) (first : Bool) (delta : Int) (at_ : Nat) : State :=
  let s := if first then (s.jumpX c pos).setE c pos else s.addX c delta
  let x := s.ch c
  let acc := match x.reads with
    | (p, _) :: _ => p + (if s.bit (R.MOT_CH_CFG_DIR_INV c) then -delta else delta)
    | [] => Int.ofNat pos
  let s := s.setCh c { x with
    raw := some pos, reads := ((acc, at_) :: x.reads).take 9, rejects := 0, lost := false, goods := x.goods + 1
    steps := x.steps + 1
    wireSteps := min 2 (x.wireSteps + 1), stepAt := s.now }
  let s := if 2 ≤ x.goods + 1 then s.setB (R.MOT_CH_STATUS_SENSOR_FAULT c) false else s
  (s.publish c (s.vSerial c)).moved c

/-- A completed frame (R294). -/
def State.serialReading (s : State) (c : Nat) (f : SerialFrame) : State :=
  if !s.chOn c ∨ (s.chMode c ≠ 3 ∧ s.chMode c ≠ 4) then s
  else
    let s := if s.chMode c = 4 ∧ f.started then s.setF (R.MOT_CH_SER_DLY_MEAS_NS c) f.measNs else s
    match s.serialStatus c f with
    | some sts => s.serialReject c sts 0
    | none =>
      let bits := s.fld (R.MOT_CH_SER_CFG_BITS c)
      let pos := s.serialPos c f.data
      let delta : Int := match (s.ch c).raw with
        | some r => signed bits (unsignedOf bits (Int.ofNat pos - Int.ofNat r))
        | none => 0
      if s.fld (R.MOT_CH_SER_JUMP_JUMP_MAX c) < delta.natAbs then
        s.serialReject c 0x4009 (unsignedOf 16 (max (-32768) (min 32767 delta)))
      else
        let s := if s.chMode c = 4 ∧ !f.nW then s.inc (R.MOT_CH_CNT_SER_COUNT c) else s
        s.serialAccept c pos (s.ch c).raw.isNone delta f.at_

/-- A frame starts (R293). -/
def State.serialPoll (s : State) (c : Nat) : State :=
  if s.chOn c ∧ (s.chMode c = 3 ∨ s.chMode c = 4) then s.emit (.poll c) else s

/-! ## Wires (R284, R296, R297) -/

/-- Whether a pair is checked in the channel's mode. -/
def State.pairChecked (s : State) (c k : Nat) : Bool :=
  match s.chMode c with
  | 1 => k < 2 || (k == 2 && s.bit (R.MOT_CH_CFG_Z_EN c))
  | 3 => k == 0
  | 4 => k == 0
  | _ => false

/-- A disagreement is declared, in the cycle that completes WIRE_CYC cycles of one level (R296). -/
def State.disagree (s : State) (c k : Nat) : State :=
  let x := s.ch c
  let cyc := s.fld (R.MOT_CH_WIRE_WIRE_CYC c)
  if !s.chOn c || !s.pairChecked c k || cyc == 0 || x.apart.testBit k then s
  else
    let s := s.setCh c { x with
      apart := x.apart ||| 2 ^ k, apartAt := setAt x.apartAt k (s.now - 5 * (cyc - 1)), agreeAt := setAt x.agreeAt k none }
    let s := (s.setB (R.MOT_CH_STATUS_WIRE_SEEN c) true).inc (R.MOT_CH_CNT_WIRE_COUNT c)
    (s.wireEvent c).chLimited c 0x4002 (fun _ => k)

/-- FAULT_MS in ns. -/
def State.faultNs (s : State) (c : Nat) : Nat := 1000000 * s.fld (R.MOT_CH_WIRE_FAULT_MS c)

/-- The wires of a pair read opposite levels again: the disagreement ends, and agreement is timed from here. -/
def State.agree (s : State) (c k : Nat) : State :=
  let x := s.ch c
  let since := if x.apart.testBit k || (x.agreeAt.getD k none).isNone then some s.now else x.agreeAt.getD k none
  s.setCh c { x with
    apart := maskOff x.apart (2 ^ k), faulted := maskOff x.faulted (2 ^ k), agreeAt := setAt x.agreeAt k since }

/-- A disagreement has lasted FAULT_MS from the first cycle of one level: a wire fault, one for each disagreement. -/
def State.wireFault (s : State) (c k : Nat) : State :=
  let x := s.ch c
  if !s.chOn c || !x.apart.testBit k || s.fld (R.MOT_CH_WIRE_WIRE_CYC c) == 0 || x.faulted.testBit k
      || decide (s.now < x.apartAt.getD k 0 + s.faultNs c) then s
  else
    let s := s.setCh c { x with broken := x.broken ||| 2 ^ k, faulted := x.faulted ||| 2 ^ k }
    let s := (s.setB (R.MOT_CH_STATUS_WIRE_FAULT c) true).chReport c 0x4003 k
    let s := s.publish c x.v
    if s.bit (R.MOT_CH_CFG_WIRE_STOP c) then s.lineStop else s

/-- A pair has agreed for FAULT_MS. -/
def State.wireHeal (s : State) (c k : Nat) : State :=
  let x := s.ch c
  let due := match x.agreeAt.getD k none with
    | some t => decide (t + s.faultNs c ≤ s.now)
    | none => false
  if !x.broken.testBit k || x.apart.testBit k || !due then s
  else
    let m := maskOff x.broken (2 ^ k)
    if m = 0 then
      (s.setCh c { x with broken := 0, wireSteps := 0 }).setB (R.MOT_CH_STATUS_WIRE_FAULT c) false
    else s.setCh c { x with broken := m }

/-! ## Register writes (R301, R315) -/

/-- Refuses a write of a channel's register. -/
def State.chRefuse (s : State) (c off : Nat) : State := s.chReport c 0x400C (off % 4096)

/-- EN is set: E takes X, the speed is invalid, METHOD is period, the first gate starts (R315). -/
def State.chEnable (s : State) (c : Nat) : State :=
  let x := s.ch c
  let s := s.setE c (s.xOf c)
  let s := ((s.setB (R.MOT_CH_STATUS_METHOD c) false).setB (R.MOT_CH_STATUS_SPEED_VALID c) false).setB
    (R.MOT_CH_STATUS_BACKWARD c) false
  let fresh : Chan := {
    edge := x.edge, hall := hallPos (s.fld (R.MOT_CH_STATUS_LEVEL c)), enAt := s.now, stepAt := s.now, gateAt := s.now
    gateUs := s.fld (R.MOT_CH_GATE_GATE_US c), glitches := x.glitches, vhi := x.vhi, valid := x.valid, idxClean := x.idxClean }
  ((s.setCh c fresh).publish c {}).moved c

/-- EN is cleared. -/
def State.chDisable (s : State) (c : Nat) : State :=
  let s := s.setCh c { s.ch c with
    apart := 0, faulted := 0, broken := 0, agreeAt := [none, none, none], wireSteps := 2, rejects := 0, lost := false }
  let s := (s.setB (R.MOT_CH_STATUS_WIRE_FAULT c) false).setB (R.MOT_CH_STATUS_SENSOR_FAULT c) false
  s.publish c (s.ch c).v

/-- A write of MOT_CH_CFG. -/
def State.writeChCfg (s : State) (c v : Nat) : State :=
  let r := R.MOT_CH_CFG c
  let m := (R.MOT_CH_CFG_MODE c).of v
  let m := if 4 < m then 0 else m
  let en := s.bit (R.MOT_CH_CFG_EN c)
  let on := (R.MOT_CH_CFG_EN c).of v == 1
  if (en && m != s.chMode c) || (en && !on && s.mot.tracks.any (fun t => t.2.chan == c)) then s.chRefuse c r.off
  else
    let s := (s.wr r (BitVec.ofNat 32 (v &&& r.rw))).setF (R.MOT_CH_CFG_MODE c) m
    let s := s.setB (R.MOT_CH_STATUS_ACTIVE c) (on && m != 0)
    if on && !en then s.chEnable c else if en && !on then s.chDisable c else s

/-- A write of V_HI or V_LO: one that would make V_LO at least V_HI is refused (R301). -/
def State.writeThreshold (s : State) (c : Nat) (hi : Bool) (v : Nat) : State :=
  let v := v % 2 ^ 24
  let h := if hi then v else s.fld (R.MOT_CH_VHI_V_HI c)
  let l := if hi then s.fld (R.MOT_CH_VLO_V_LO c) else v
  if h ≤ l then s.chRefuse c (if hi then R.MOT_CH_VHI c else R.MOT_CH_VLO c).off
  else (s.setF (R.MOT_CH_VHI_V_HI c) h).setF (R.MOT_CH_VLO_V_LO c) l

/-- A write of MOT_CH_WIRE: WIRE_CYC at 0 ends a disagreement in progress (R296, R322). -/
def State.writeWire (s : State) (c v : Nat) : State :=
  let r := R.MOT_CH_WIRE c
  let s := s.wr r (BitVec.ofNat 32 (v &&& r.rw))
  let s := if s.fld (R.MOT_CH_WIRE_FAULT_MS c) = 0 then s.setF (R.MOT_CH_WIRE_FAULT_MS c) 1 else s
  if s.fld (R.MOT_CH_WIRE_WIRE_CYC c) = 0 then s.setCh c { s.ch c with apart := 0, faulted := 0 } else s

/-- A write of X by half: refused while EN is 1 (R315). -/
def State.writeX (s : State) (c : Nat) (hi : Bool) (v : Nat) : State :=
  let f := if hi then R.MOT_CH_X_HI_X_HI c else R.MOT_CH_X_LO_X_LO c
  let x := s.xOf c
  if s.bit (R.MOT_CH_CFG_EN c) then s.chRefuse c f.reg.off
  else (s.jumpX c (if hi then x % 2 ^ 32 + v % 2 ^ 16 * 2 ^ 32 else x / 2 ^ 32 * 2 ^ 32 + v % 2 ^ 32)).backJudge c

/-- A write of MOT_CH_SER_CFG. -/
def State.writeSerCfg (s : State) (c v : Nat) : State :=
  let r := R.MOT_CH_SER_CFG c
  let bits := (R.MOT_CH_SER_CFG_BITS c).of v
  let khz := (R.MOT_CH_SER_CFG_CLK_KHZ c).of v
  if (s.bit (R.MOT_CH_CFG_EN c) && v &&& r.rw != (s.rd r).toNat) || decide (bits < 8) || decide (48 < bits)
      || decide (khz < 100) || decide (10000 < khz) then s.chRefuse c r.off
  else s.wr r (BitVec.ofNat 32 (v &&& r.rw))

/-- A write of MOT_CH_SER_CRC. [Log 35 PRESUMED] -/
def State.writeSerCrc (s : State) (c v : Nat) : State :=
  let r := R.MOT_CH_SER_CRC c
  if s.bit (R.MOT_CH_CFG_EN c) && v &&& r.rw != (s.rd r).toNat then s.chRefuse c r.off
  else s.wr r (BitVec.ofNat 32 (v &&& r.rw))

/-- A write of MOT_CH_SER_JUMP: FAIL_MAX 0 reads back as 1. -/
def State.writeSerJump (s : State) (c v : Nat) : State :=
  let r := R.MOT_CH_SER_JUMP c
  if 2 ^ (s.fld (R.MOT_CH_SER_CFG_BITS c) - 1) ≤ (R.MOT_CH_SER_JUMP_JUMP_MAX c).of v then s.chRefuse c r.off
  else
    let s := s.wr r (BitVec.ofNat 32 (v &&& r.rw))
    if s.fld (R.MOT_CH_SER_JUMP_FAIL_MAX c) = 0 then s.setF (R.MOT_CH_SER_JUMP_FAIL_MAX c) 1 else s

/-! ## Discrete inputs (R116, R38, R347) -/

/-- The time an input must hold a new level: QUAL_US, and one MOTION cycle where that is 0 (R116). -/
def State.diQual (s : State) : Nat := max 5 (1000 * s.fld R.MOT_DI_CFG_QUAL_US)

/-- A qualified edge of a discrete input: its level changes. -/
def State.diEdge (s : State) (n : Nat) : State :=
  let s := { s with pwr.diRaw := s.pwr.diRaw ^^^ 2 ^ n, pwr.diSince := setAt s.pwr.diSince n none }.diLevels
  let active := (s.fld R.MOT_DI_STS_LEVEL).testBit n
  let s := if (s.fld R.PTP_EVT_CFG_DI).testBit n then
      s.evtPush 1 n (s.eOf (s.fld R.PTP_EVT_CFG_DI_CHAN)) (s.motNow - s.diQual)
    else s
  let s := if (s.fld R.PWR_WAKE_EN_DI).testBit n then s.wake 3 else s
  if active then
    (s.present 0 n (fun s r => (s.xOf r.chan + s.fld (R.MOT_GATE_PRES_OFFS_PRES_OFFS r.gate)) % 2 ^ 48)).ejAll
  else s

/-- An input whose raw level has differed since a moment takes it after the time in force (R116, R726). -/
def State.diHeld (s : State) (n : Nat) (since : Option Nat) : State :=
  match since with
  | some t => if t + s.diQual ≤ s.now then s.diEdge n else s
  | none => s

/-- The hold in progress of an input is judged. -/
def State.diJudge (s : State) (n : Nat) : State := s.diHeld n (s.pwr.diSince.getD n none)

/-- The raw level of an input, which it has held for `held` ns: one that differs from the qualified level is a hold in
progress, the qualified level ends one. -/
def State.diSeen (s : State) (n : Nat) (raw : Bool) (held : Nat) : State :=
  let since := if s.pwr.diRaw.testBit n = raw then none else some (s.now - held)
  { s with pwr.diSince := setAt s.pwr.diSince n since }.diHeld n since

/-- A write of MOT_DI_CFG: LEVEL follows POL with no edge, and the holds in progress are judged against the new QUAL_US
(R726). -/
def State.writeDiCfg (s : State) (v : Nat) : State :=
  (List.range 8).foldl State.diJudge
    (s.wr R.MOT_DI_CFG (BitVec.ofNat 32 (v &&& R.MOT_DI_CFG.rw))).diLevels

end Sys2Proof.Machine
end

