-- ==== Sys2Proof/Machine/MotionExec.lean ====
section
/-! DEFINITION. MotionExec: the commands of the encoder channels, the discrete inputs and the track unit. -/

namespace Sys2Proof.Machine

/-! ## Encoder channels -/

/-- With ENC_5V off after an input loss the encoder inputs are ignored (R715). -/
def State.encIn (s : State) (k : State → State) : State := if s.pwr.lost then s else k s

/-- EDGE_ACCEPTED (R287): the pairs of a mask have differed from their levels for `held` ns. [Log 34 DESIGN CHOICE] -/
def execEdgeAccepted (chan mask held : Nat) (s : State) : Res := .next (s.encIn (·.edges chan mask held))

/-- GLITCH_FAULT (R288). -/
def execGlitchFault (chan : Nat) (s : State) : Res := .next (s.encIn (·.glitchFault chan))

/-- SERIAL_POLL (R293). -/
def execSerialPoll (chan : Nat) (s : State) : Res := .next (s.serialPoll chan)

/-- SERIAL_READING (R294). [Log 35 PRESUMED] -/
def execSerialReading (chan : Nat) (frame : SerialFrame) (s : State) : Res := .next (s.encIn (·.serialReading chan frame))

/-- WIRE_DISAGREE (R296). -/
def execWireDisagree (chan pair : Nat) (s : State) : Res := .next (s.encIn (·.disagree chan pair))

/-- WIRE_DISAGREE_END (R296). -/
def execWireDisagreeEnd (chan pair : Nat) (s : State) : Res := .next (s.encIn (·.agree chan pair))

/-- WIRE_FAULT (R297). -/
def execWireFault (chan pair : Nat) (s : State) : Res := .next (s.encIn (·.wireFault chan pair))

/-- WIRE_FAULT_CLEAR (R297). -/
def execWireFaultClear (chan pair : Nat) (s : State) : Res := .next (s.encIn (·.wireHeal chan pair))

/-- SPEED_PERIOD_TICK (R298). -/
def execSpeedPeriodTick (s : State) : Res :=
  .next ((List.range 4).foldl (fun (s : State) (c : Nat) =>
    if s.chOn c && (s.chMode c == 1 || s.chMode c == 2) then s.periodUpdate c else s) s)

/-- COUNT_GATE_END (R299). [Log 33 DESIGN CHOICE] -/
def execCountGateEnd (chan : Nat) (s : State) : Res :=
  .next (if s.chOn chan && (s.chMode chan == 1 || s.chMode chan == 2) && s.gateDue chan then s.gateDone chan else s)

/-- CH_CFG_WRITE (R315): a write of MOT_CH_CFG. -/
def execChCfgWrite (chan value : Nat) (s : State) : Res :=
  .next (if chan < 4 then s.regWrite (R.MOT_CH_CFG chan) value (·.writeChCfg chan value) else s)

/-- SPEED_THRESHOLD_WRITE (R301): a write of MOT_CH_VHI, or of MOT_CH_VLO. -/
def execSpeedThresholdWrite (chan : Nat) (high : Bool) (value : Nat) (s : State) : Res :=
  .next (if chan < 4 then
      s.regWrite (if high then R.MOT_CH_VHI chan else R.MOT_CH_VLO chan) value (·.writeThreshold chan high value)
    else s)

/-- DI_EDGE_QUALIFIED (R116): an input has held a level, on or off, for `held` ns. [Log 27 DESIGN CHOICE] -/
def execDiEdgeQualified (input : Nat) (raw : Bool) (held : Nat) (s : State) : Res := .next (s.diSeen input raw held)

/-- DI_CFG_WRITE (R116, R726): a write of MOT_DI_CFG. -/
def execDiCfgWrite (value : Nat) (s : State) : Res := .next (s.regWrite R.MOT_DI_CFG value (·.writeDiCfg value))

/-! ## The track unit -/

/-- CONV_PERIOD_TICK (R42). -/
def execConvPeriodTick (s : State) : Res := .next s.convTick

/-- TRK_CFG_WRITE (R62): a write of MOT_TRK_CFG. -/
def execTrkCfgWrite (value : Nat) (s : State) : Res := .next (s.regWrite R.MOT_TRK_CFG value (·.writeTrkCfg value))

/-- IMAGE_PRESENCE_REPORT (R38): the oldest report on crossing 6, and the events behind it up to the next report.
[Log 40 DESIGN CHOICE] -/
def execImagePresenceReport (s : State) : Res :=
  match s.cam.xing6 with
  | .presence k c :: l => .next (State.camDrain l ({ s with cam.xing6 := [] }.present 1 k (fun _ _ => c)).ejAll)
  | l => .next (State.camDrain l s)

/-- A write of MOT_TRK_DECL_HI (R68). -/
def State.writeDecl (s : State) (v : Nat) : State :=
  let s := s.wr R.MOT_TRK_DECL_HI (BitVec.ofNat 32 (v &&& R.MOT_TRK_DECL_HI.rw))
  if R.MOT_TRK_DECL_HI_GO.of v = 1 then
    s.declare (R.MOT_TRK_DECL_HI_GATE.of v) (s.fld R.MOT_TRK_DECL_LO_P_LO + 2 ^ 32 * R.MOT_TRK_DECL_HI_P_HI.of v)
  else s

/-- A write of MOT_TRK_COMMIT (R45, R68). -/
def State.writeCommit (s : State) (v : Nat) : State :=
  s.commit (R.MOT_TRK_COMMIT_SLOT.of v) (s.fld R.MOT_TRK_COMMIT_SEQ_SEQ) (R.MOT_TRK_COMMIT_VERDICT.of v) 0

/-- TRACK_DECLARE (R68): a write of MOT_TRK_DECL_HI. -/
def execTrackDeclare (value : Nat) (s : State) : Res := .next (s.regWrite R.MOT_TRK_DECL_HI value (·.writeDecl value))

/-- TRACK_COMMIT (R45): a write of MOT_TRK_COMMIT. -/
def execTrackCommit (value : Nat) (s : State) : Res := .next (s.regWrite R.MOT_TRK_COMMIT value (·.writeCommit value))

/-- TRACK_UNIT_MESSAGE (R428): the oldest message of a gill to the track unit. -/
def execTrackUnitMessage (gill : Nat) (s : State) : Res :=
  match s.takeFlight (fun f => f.gill == gill && f.dst == 0x6000) with
  | (none, s) => .next s
  | (some f, s) => .next ((s.settleAll gill).unitMessage f.words)

/-- GATE_ENABLE (R58): a write of MOT_GATE_CFG. -/
def execGateEnable (gate value : Nat) (s : State) : Res :=
  .next (if gate < 16 then s.regWrite (R.MOT_GATE_CFG gate) value (·.writeGate gate value) else s)

/-- GATE_OFFSET_WRITE (R58): a write of W (0), FIRE_OFFS (1) or MARGIN (2) of a gate. -/
def execGateOffsetWrite (gate which value : Nat) (s : State) : Res :=
  .next (if gate < 16 ∧ which < 3 then s.regWrite (offsReg gate which) value (·.writeOffs gate which value) else s)

/-- DEADLINE_UPDATE (R528). -/
def execDeadlineUpdate (s : State) : Res := .next s.deadlineUpdate

end Sys2Proof.Machine
end

