-- ==== Sys2Proof/Machine/PortExec.lean ====
section
/-! DEFINITION. PortExec: the commands of the SPI and I2C ports (chapter 18) and the writes of their control
registers. -/

namespace Sys2Proof.Machine

/-- A write of SPI_CTRL (R687, R703): ABORT, or EN cleared while an entry runs, aborts; `edges`, `st` and `rx` tell what
the running entry had sampled. -/
def State.writeSpiCtrl (s : State) (v edges st : Nat) (rx : List Nat) : State :=
  let s := s.setF R.SPI_CTRL_EN (R.SPI_CTRL_EN.of v)
  if R.SPI_CTRL_ABORT.of v = 1 then s.spiAbort 1 edges st rx
  else if R.SPI_CTRL_EN.of v = 0 then s.spiAbort 2 edges st rx else s

/-- The same write where what was sampled is not told: free values. -/
def State.writeSpiCtrlFree (s : State) (v : Nat) : State :=
  let s := s.setF R.SPI_CTRL_EN (R.SPI_CTRL_EN.of v)
  if R.SPI_CTRL_ABORT.of v = 1 then s.spiAbortFree 1
  else if R.SPI_CTRL_EN.of v = 0 then s.spiAbortFree 2 else s

/-- A write of I2C_CTRL (R699, R700, R704): `written` and `read` are the bytes an aborted command had moved. CEN cleared in
a hold sequence aborts; TEN cleared discards the target's transaction (R698). -/
def State.writeI2cCtrl (s : State) (v written read : Nat) : State :=
  let was := s.bit R.I2C_CTRL_CEN
  let s := (s.setF R.I2C_CTRL_CEN (R.I2C_CTRL_CEN.of v)).setF R.I2C_CTRL_TEN (R.I2C_CTRL_TEN.of v)
  let hold := s.bit R.I2C_STATUS_HOLDING || decide (1 < s.i2c.seq.length)
    || (match s.i2c.seq.getLast? with
        | some c => c.nostop
        | none => false)
  let s := if R.I2C_CTRL_TEN.of v = 0 then s.i2cTargetEnd 3 else s
  let s := if R.I2C_CTRL_TWIN_COMMIT.of v = 1 then s.i2cCommit else s
  if R.I2C_CTRL_ABORT.of v = 1 then s.i2cAbort 1 written read
  else if was && R.I2C_CTRL_CEN.of v == 0 && hold then s.i2cAbort 2 written read else s

/-- SPI_PUSH (R683). -/
def execSpiPush (value : Nat) (s : State) : Res := .next (s.regWrite R.SPI_PUSH value (·.spiPush value))

/-- SPI_ENTRY_START (R684). -/
def execSpiEntryStart (s : State) : Res := .next s.spiStart

/-- SPI_ENTRY_END (R684, R686): the status byte and the bits that arrived for each word. -/
def execSpiEntryEnd (status : Nat) (rx : List Nat) (s : State) : Res := .next (s.spiEnd status rx)

/-- SPI_ABORT (R687, R688): a write of SPI_CTRL that aborts, after `edges` sampling edges of the running entry. -/
def execSpiAbort (value edges status : Nat) (rx : List Nat) (s : State) : Res :=
  .next (s.regWrite R.SPI_CTRL value (fun s => s.writeSpiCtrl value edges status rx))

/-- SPI_CPL_POP (R689). -/
def execSpiCplPop (s : State) : Res := .next (s.regRead (R.SPI_CPL 0) State.spiPop)

/-- I2C_PUSH (R690). -/
def execI2cPush (value : Nat) (s : State) : Res := .next (s.regWrite R.I2C_PUSH value (·.i2cPush value))

/-- I2C_COMMAND_START (R691): `pulses` is the number of SCL pulses until SDA is released. -/
def execI2cCommandStart (pulses : Nat) (s : State) : Res := .next (s.i2cStart pulses)

/-- I2C_COMMAND_END (R692). -/
def execI2cCommandEnd (r : I2cResult) (s : State) : Res := .next (s.i2cEnd r)

/-- ARBITRATION_LOST (R694, R696): at a bit; `winner` is what the winner sends where the loss lies in the address. -/
def execArbitrationLost (byte bit : Nat) (winner : Option (Nat × Bool)) (s : State) : Res := .next (s.i2cLost byte bit winner)

/-- SCL_TIMEOUT (R693). -/
def execSclTimeout (s : State) : Res := .next s.i2cSclTimeout

/-- BUS_FREE (R691). -/
def execBusFree (s : State) : Res := .next s.i2cBusFree

/-- I2C_BUS_START (R699). -/
def execI2cBusStart (s : State) : Res := .next s.i2cBusStart

/-- TARGET_TRANSACTION (R697): the bytes written, or the number of bytes read. [Log 67 DESIGN CHOICE] -/
def execTargetTransaction (read : Bool) (bytes : List Byte) (count : Nat) (s : State) : Res :=
  .next (s.i2cTarget read bytes count)

/-- TARGET_TRANSACTION_END (R698): by STOP, or by a repeated START. -/
def execTargetTransactionEnd (repeated : Bool) (s : State) : Res := .next (s.i2cTargetEnd (if repeated then 2 else 1))

/-- TARGET_SCL_TIMEOUT (R702). -/
def execTargetSclTimeout (s : State) : Res := .next s.i2cTargetTimeout

/-- TWIN_COMMIT (R699): a write of I2C_CTRL with TWIN_COMMIT, the enables as they are. -/
def execTwinCommit (s : State) : Res :=
  let v := 8 + 2 * s.fld R.I2C_CTRL_TEN + s.fld R.I2C_CTRL_CEN
  .next (s.regWrite R.I2C_CTRL v (fun s => s.writeI2cCtrl v 0 0))

/-- I2C_ABORT (R700): a write of I2C_CTRL that aborts. -/
def execI2cAbort (value written read : Nat) (s : State) : Res :=
  .next (s.regWrite R.I2C_CTRL value (fun s => s.writeI2cCtrl value written read))

/-- I2C_CPL_POP (R704). -/
def execI2cCplPop (s : State) : Res := .next (s.regRead R.I2C_CPL0 State.i2cPop)

/-- I2C_TLOG_POP (R704). -/
def execI2cTlogPop (s : State) : Res := .next (s.regRead R.I2C_TLOG State.i2cLogPop)

end Sys2Proof.Machine
end

