-- ==== Sys2Proof/Machine/SchedExec.lean ====
section
/-! DEFINITION. SchedExec: the commands of the scheduler (chapter 13). Commits that a failed track-unit work owes are made
at once (R531). -/

namespace Sys2Proof.Machine

/-- SUBMIT (R525): a write of SCHED_SUB_CTRL. -/
def execSubmit (value : Nat) (s : State) : Res := .next ((s.regWrite R.SCHED_SUB_CTRL value (·.writeSub value)).schedCommits)

/-- WORK_MESSAGE (R524): the oldest message of a gill to a dispatcher. -/
def execWorkMessage (gill : Nat) (s : State) : Res := .next ((s.workMessage gill).schedCommits)

/-- DISPATCH (R532): the dispatcher of an executor, a partition's code or a unit's. -/
def execDispatch (executor : Nat) (s : State) : Res := .next ((s.dispatch executor).schedCommits)

/-- STEAL_TOKEN (R534). -/
def execStealToken (part : Nat) (s : State) : Res := .next (s.stealToken part)

/-- QUANTUM_EXPIRY (R538). -/
def execQuantumExpiry (work : Nat) (s : State) : Res := .next ((s.quantumExpiry work).schedCommits)

/-- PREEMPT_DRAIN_DONE (R539). -/
def execPreemptDrainDone (work : Nat) (s : State) : Res := .next (s.drainDone work)

/-- SAVE_COMPLETE (R540): with the member whose walk fails, if one does. [Log 57 DESIGN CHOICE] -/
def execSaveComplete (work : Nat) (bad : Option Nat) (s : State) : Res := .next ((s.saveDone work bad).schedCommits)

/-- RESTORE_COMPLETE (R542). [Log 57 DESIGN CHOICE] -/
def execRestoreComplete (work : Nat) (bad : Option Nat) (s : State) : Res := .next ((s.restoreDone work bad).schedCommits)

/-- STATE_SWAP_COMPLETE (R536). -/
def execStateSwapComplete (gill : Nat) (s : State) : Res := .next ((s.swapDone gill).schedCommits)

/-- GANG_END (R544). -/
def execGangEnd (work : Nat) (s : State) : Res := .next ((s.gangEnd work).schedCommits)

/-- WORK_CANCEL (R545): a write of SCHED_CANCEL. -/
def execWorkCancel (value : Nat) (s : State) : Res :=
  .next (s.regWrite R.SCHED_CANCEL value (·.hostCancel (value % 2 ^ 32)))

/-- CPL_LOG_READ (R556): a read of SCHED_CPL_DATA0. -/
def execCplLogRead (s : State) : Res := .next (s.regRead (R.SCHED_CPL_DATA 0) State.cplRead)

/-- TIMING_WINDOW_ARM (R639, R643): a write of ARM. -/
def execTimingWindowArm (s : State) : Res := .next (s.regWrite R.MESH_TW_CTRL (2 ^ 31) State.twArm)

/-- VC_STALL (R640): channel, physical router, and when the channel last moved. -/
def execVcStall (vc router last : Nat) (s : State) : Res := .next (s.vcStall vc router last)

end Sys2Proof.Machine
end

