-- ==== Sys2Proof/Machine/BusWrite.lean ====
section
/-! DEFINITION. BusWrite: a 32-bit write that has reached its block (R13): every register by its access types, the values
that read back otherwise than written, the writes a rule ignores, and the registers whose writes have rows of their own. -/

namespace Sys2Proof.Machine

/-! ## Access types -/

/-- What a register holds after a write (R13, R14): its RW bits as written, its W1C bits cleared by ones, the rest kept. -/
def Reg.take (r : Reg) (old v : Nat) : Nat := maskOff (maskOff old r.rw) (v &&& r.w1c) ||| (v &&& r.rw)

/-- A write that only sets fields by their access types. -/
def State.plain (s : State) (r : Reg) (v : Nat) : State := s.wr r (BitVec.ofNat 32 (r.take (s.rd r).toNat v))

/-- A field below a limit reads back as the limit. -/
def State.atLeast (s : State) (f : Fld) (n : Nat) : State := if s.fld f < n then s.setF f n else s

/-- A field above a limit reads back as the limit. -/
def State.atMost (s : State) (f : Fld) (n : Nat) : State := if n < s.fld f then s.setF f n else s

/-! ## Blocks of the AON domain -/

/-- BOOT (R200 to R204, R234, R235). COLD makes the internal reset due, which INTERNAL_RESET carries out. -/
def State.writeBoot (s : State) (r : Reg) (v : Nat) : State :=
  match r.off % 4096 with
  | 0x000 => (s.plain r v).atLeast R.BOOT_CFG_HOST_WAIT_S 1
  | 0x004 => if v.testBit 0 then { s with pwr.resetReq := true } else s.writeBootCtrl v []
  | 0x040 => s.fieldAdd v
  | 0x100 => s.writeImgCtrl v
  | _ => s.plain r v

/-- CLK (R153). -/
def State.writeClk (s : State) (r : Reg) (v : Nat) : State :=
  match r.off % 4096 with
  | 0x008 => (s.plain r v).atMost R.CLK_MEAS_SEL_DOMAIN 8
  | _ => s.plain r v

/-- The bits of a lane mask whose lanes this variant has. -/
def State.lanesOf (s : State) (v : Nat) : Nat :=
  (List.range 24).foldl (fun (m l : Nat) => if v.testBit l && s.laneHere l then m + 2 ^ l else m) 0

/-- PWR (R113 to R115, R155 to R158). [Log 16 DESIGN CHOICE] -/
def State.writePwr (s : State) (r : Reg) (v : Nat) : State :=
  match r.off % 4096 with
  | 0x000 => s.writeModeReq v
  | 0x008 => (s.plain r v).atLeast R.PWR_MODE_CFG_MOVE_CNT 1
  | 0x014 => s.plain r (s.lanesOf v)
  | 0x11C => if 70 ≤ v % 256 ∧ v % 256 ≤ 100 then s.plain r v else s
  | 0x120 => s.relayRequest v
  | 0x124 => s.pocxpEnable v
  | 0x128 => s.pocxpClear v
  | 0x12C => s.plain r (v &&& (0xF0 + (2 ^ s.encChans - 1)))
  | _ => s.plain r v

/-- JRN (R722, R723). The result of a page's read-back is a free value here. -/
def State.writeJrn (s : State) (r : Reg) (v : Nat) : State :=
  match r.off % 4096 with
  | 0x000 =>
    let (ok, s) := s.fresh
    s.writeJrnCtrl v (ok % 2 == 1)
  | 0x004 =>
    (((s.plain r v).atLeast R.JRN_CFG_RESERVE_MJ 960).atLeast R.JRN_CFG_FLUSH_MS 1).atLeast R.JRN_CFG_CNT_S 1
  | 0x084 => s.writeJrnRd v
  | _ => s.plain r v

/-- SPI (R703). -/
def State.writeSpi (s : State) (r : Reg) (v : Nat) : State :=
  match r.off % 4096 with
  | 0x000 => s.writeSpiCtrlFree v
  | 0x004 => (((s.plain r v).atLeast R.SPI_CFG_IDLE 1).atLeast R.SPI_CFG_HOLD 1).atLeast R.SPI_CFG_SETUP 1
  | 0x01C => s.spiPush v
  | _ => s.plain r v

/-- I2C (R704). The bytes an aborted command had moved are free values here. -/
def State.writeI2c (s : State) (r : Reg) (v : Nat) : State :=
  match r.off % 8192 with
  | 0x000 =>
    let (w, s) := s.fresh
    let (n, s) := s.fresh
    s.writeI2cCtrl v (w % 256) (n % 256)
  | 0x004 => (s.plain r v).atMost R.I2C_CFG_SPEED 2
  | 0x018 => s.i2cPush v
  | _ => s.plain r v

/-! ## TIME and MOTION -/

/-- PTP (R358 to R364). -/
def State.writePtp (s : State) (r : Reg) (v : Nat) : State :=
  match r.off % 4096 with
  | 0x000 => s.writePtpCfg v
  | 0x030 => s.writeRate v
  | 0x040 => s.writeStepCtrl v
  | 0x050 => ((s.plain r v).atMost R.PTP_SERVO_CFG_MODE 2).atMost R.PTP_SERVO_CFG_MAX_PPB 1000000
  | 0x05C => (s.plain r v).atLeast R.PTP_HOLD_HOLD_MS 1
  | 0x208 => s.writeMarkHi v
  | 0x240 => (s.plain r v).stepLogRegs
  | _ => s.plain r v

/-- A register of an encoder channel (R321 to R326). [Log 16 DESIGN CHOICE] -/
def State.writeChan (s : State) (c : Nat) (r : Reg) (v : Nat) : State :=
  match r.off % 256 with
  | 0x00 => s.writeChCfg c v
  | 0x0C => s.writeWire c v
  | 0x10 => if 100 ≤ v % 65536 ∧ v % 65536 ≤ 10000 then s.plain r v else s
  | 0x14 => s.writeThreshold c true v
  | 0x18 => s.writeThreshold c false v
  | 0x20 => s.writeX c false v
  | 0x24 => s.writeX c true v
  | 0x60 => s.writeSerCfg c v
  | 0x64 => ((s.plain r v).atLeast (R.MOT_CH_SER_TIM_TMO_US c) 1).atLeast (R.MOT_CH_SER_TIM_POLL_US c) 1
  | 0x68 => s.writeSerCrc c v
  | 0x6C => s.writeSerJump c v
  | _ => s.plain r v

/-- A register of a gate (R69). -/
def State.writeGateReg (s : State) (g : Nat) (r : Reg) (v : Nat) : State :=
  match r.off % 32 with
  | 0x00 => s.writeGate g v
  | 0x08 => s.writeOffs g 0 v
  | 0x0C => s.writeOffs g 1 v
  | 0x10 => s.writeOffs g 2 v
  | _ => s.plain r v

/-- MOT (R62 to R69, R116, R321 to R326). -/
def State.writeMot (s : State) (r : Reg) (v : Nat) : State :=
  let o := r.off - 0x10000
  if o < 0x400 then s.writeChan (o / 0x100) r v
  else if 0x900 ≤ o ∧ o < 0xB00 then s.writeGateReg ((o - 0x900) / 0x20) r v
  else match o with
  | 0x800 => s.writeTrkCfg v
  | 0x844 => s.writeDecl v
  | 0x84C => s.writeCommit v
  | 0xB00 => s.writeDiCfg v
  | _ => s.plain r v

/-- EJ (R70, R117, R327 to R329). -/
def State.writeEj (s : State) (r : Reg) (v : Nat) : State :=
  let o := r.off - 0x12000
  if o < 0x400 then
    match o % 0x40 with
    | 0x00 => s.writeOutCfg (o / 0x40) v
    | 0x0C => (s.plain r v).atLeast (R.EJ_OUT_LIMIT_MAX_ON_MS (o / 0x40)) 1
    | 0x14 => s.writeFlush (o / 0x40) v
    | _ => s.plain r v
  else match o with
  | 0x400 => s.writeEjCtrl v
  | 0x410 => s.writeArm v
  | 0x860 => s.writeLstop v
  | _ => s.plain r v

/-! ## Cameras, lanes and the ring -/

/-- A pipeline has part images in assembly or descriptors not consumed (R274). [Log 17 DESIGN CHOICE] -/
def State.pipeBusy (s : State) (k : Nat) : Bool :=
  !(s.pipe k).parts.isEmpty || s.fld (R.ISP_OUT_TAIL_TAIL k) != s.fld (R.ISP_OUT_HEAD_HEAD k)

/-- CXP (R276 to R281). [Log 17 DESIGN CHOICE] -/
def State.writeCxp (s : State) (r : Reg) (v : Nat) : State :=
  let p := (r.off - 0x20000) / 0x1000
  match r.off % 0x1000 with
  | 0x000 => s.writePortCfg p v
  | 0x008 => s.writeBind p v
  | 0x00C => s.writeTrig p v
  | 0x010 => (s.plain r v).phaseMoved p
  | 0x014 => (s.plain r v).phaseMoved p
  | 0x020 => s.softTrig p v
  | 0x024 => ((s.plain r v).atLeast (R.CXP_WDOG_FRAME_MS p) 1).atLeast (R.CXP_WDOG_LINE_US p) 1
  | 0x02C => if s.bit (R.CXP_PORT_CFG_EN p) ∨ s.pipeBusy (s.fld (R.CXP_BIND_CURRENT p)) then s else s.plain r v
  | 0x088 => s.ctrlStart p v
  | 0x090 => (s.plain r v).atLeast (R.CXP_CTRL_TMO_MS p) 1
  | _ => s.plain r v

/-- ISP (R282). [Log 17 DESIGN CHOICE] -/
def State.writeIsp (s : State) (r : Reg) (v : Nat) : State :=
  let k := (r.off - 0x30000) / 0x400
  match r.off % 0x400 with
  | 0x004 => s.writePipeCell k v
  | 0x008 =>
    let on := (List.range s.cxpPorts).any (fun p => s.bit (R.CXP_PORT_CFG_EN p) && s.fld (R.CXP_BIND_CURRENT p) == k)
    if on ∨ s.pipeBusy k then s else s.plain r v
  | 0x010 => s.writeOutHead k v
  | _ => s.plain r v

/-- LANE (R395 to R397). -/
def State.writeLane (s : State) (r : Reg) (v : Nat) : State :=
  let l := (r.off - 0x40000) / 0x400
  match r.off % 0x400 with
  | 0x000 => s.writeLaneLoop l v
  | 0x008 => s.writeLaneTx l v
  | 0x00C => s.writeLaneRx l v
  | 0x010 => ((s.plain r v).atLeast (R.LANE_TMO_GUARD_L2_US l) 12).atLeast (R.LANE_TMO_GUARD_L1_NS l) 600
  | 0x014 => (s.plain r v).atLeast (R.LANE_SYNTH_TMO_US l) 1
  | 0x018 => s.writePrbs l v
  | _ => s.plain r v

/-- RING (R392, R399, R400). -/
def State.writeRing (s : State) (r : Reg) (v : Nat) : State :=
  match r.off - 0x48000 with
  | 0x000 => s.writeRingCtrl v
  | 0x00C => s.writeRingLayout v
  | 0x010 =>
    let s := ((s.plain r v).atLeast R.RING_LINK_CFG_WINDOW 8).atMost R.RING_LINK_CFG_WINDOW 128
    let t := s.fld R.RING_LINK_CFG_TX_IDLE
    if t = 0 ∨ t = 3 then s.setF R.RING_LINK_CFG_TX_IDLE 1 else s
  | 0x014 => (s.plain r v).atLeast R.RING_RETRY_CFG_RETRY_MAX 1
  | 0x018 => (s.plain r v).atLeast R.RING_TMO_QUIESCE_TMO_US 1
  | _ => s.plain r v

/-! ## MESH, memory, DMA, sync and the scheduler -/

/-- MESH (R238, R642, R643). -/
def State.writeMesh (s : State) (r : Reg) (v : Nat) : State :=
  match r.off - 0x50000 with
  | 0x000 => s.writeRouteset v
  | 0x004 => (s.plain r v).atLeast R.MESH_EPOCH_CFG_TIMEOUT_US 1
  | 0x100 => (s.plain r v).atLeast R.MESH_PROG_CFG_STALL_US 100
  | 0x110 => if v.testBit 31 then s.twArm else s
  | 0x118 => (s.plain r v).twRegs
  | _ => s.plain r v

/-- MMU and MEM (R516, R517). -/
def State.writeMem (s : State) (r : Reg) (v : Nat) : State :=
  match r.off - 0x60000 with
  | 0x004 => s.writeMmuOp v
  | 0x800 => (s.plain r v).atLeast R.MEM_CFG_WDOG_US 50
  | _ => s.plain r v

/-- DMA (R518). How far the items of an aborted chain had come is a free value here. -/
def State.writeDma (s : State) (r : Reg) (v : Nat) : State :=
  let e := (r.off - 0x70000) / 0x40
  if e < 16 then
    match r.off % 0x40 with
    | 0x04 =>
      if v.testBit 1 then
        let (l, s) := s.freshList 256
        s.dmaAbort e ((List.range 256).zip l)
      else s
    | 0x0C => s.writeDmaHi e v
    | _ => s.plain r v
  else s.plain r v

/-- SYNC (R519). -/
def State.writeSync (s : State) (r : Reg) (v : Nat) : State :=
  let c := (r.off - 0x80000) / 0x10
  match r.off % 0x10 with
  | 0x4 => s.hostCellAdd c (v % 65536)
  | 0xC => if v.testBit 31 then s.cellReset c else s
  | _ => s.plain r v

/-- SCHED (R555 to R558). The registers of an undeclared queue read 0, whatever is written. [Log 16 DESIGN CHOICE] -/
def State.writeSched (s : State) (r : Reg) (v : Nat) : State :=
  let o := r.off - 0x90000
  if 0x1000 ≤ o ∧ o < 0x3000 then if (s.queueOf ((o - 0x1000) / 0x20)).isSome then s.plain r v else s
  else match o with
  | 0x080 => (s.writeSub v).schedCommits
  | 0x090 => s.hostCancel v
  | _ => s.plain r v

/-! ## The host interface -/

/-- A write of half of MBX_BAR2_VA: one that is not a multiple of the BAR size leaves it unchanged (R647). -/
def State.writeBar2Va (s : State) (r : Reg) (v : Nat) : State :=
  let t := s.plain r v
  if t.pair R.MBX_BAR2_VA_LO_BAR2_VA_LO R.MBX_BAR2_VA_HI_BAR2_VA_HI % 2 ^ s.mbx.barLog2 = 0 then t else s

/-- MBX (R671 to R675), without the run set. -/
def State.writeMbx (s : State) (r : Reg) (v : Nat) : State :=
  let o := r.off - 0xA0000
  if 0x2000 ≤ o then (s.plain r v).msixFlush
  else match o with
  | 0x000 => s.writeMbxCtrl v
  | 0x004 => s.writeMbxCfg v
  | 0x008 => s.writeLocked R.MBX_CTRL_EN r v
  | 0x00C => s.writeLocked R.MBX_CTRL_EN r v
  | 0x010 => s.writeMbxHead v
  | 0x01C => s.writeMbxIrqCfg v
  | 0x408 => (s.plain r v).atLeast R.MBX_HCFG_CPL_TMO_US 100
  | 0x410 => s.writeBar2Va r v
  | 0x414 => s.writeBar2Va r v
  | 0x420 => (s.plain r v).atMost R.MBX_HWIN_SIZE_SIZE 131072
  | 0x604 => s.writeWqCfg v
  | 0x608 => s.writeLocked R.MBX_WQ_CTRL_EN r v
  | 0x60C => s.writeLocked R.MBX_WQ_CTRL_EN r v
  | 0x610 => s.writeWqTail v
  | 0x800 => s.irqClear v
  | _ => s.plain r v

/-! ## Prefix tree, adapters, augmentation, annealer, gills -/

/-- PFX (R589). -/
def State.writePfx (s : State) (r : Reg) (v : Nat) : State :=
  match r.off - 0xB0000 with
  | 0x000 => s.writePfxCtrl v
  | 0x010 =>
    (((s.plain r v).atLeast R.PFX_CFG_NODES_K 1).atMost R.PFX_CFG_NODES_K 64).atLeast R.PFX_CFG_BLK_4K 1
  | _ => s.plain r v

/-- ADP (R590). -/
def State.writeAdp (s : State) (r : Reg) (v : Nat) : State :=
  match r.off - 0xB8000 with
  | 0x000 => (s.plain r v).adpRegs
  | 0x010 => s.writeAdpCmd v
  | _ => s.plain r v

/-- AUG (R585, R591): the pool's place is fixed while the unit is busy or outputs are not consumed. -/
def State.writeAug (s : State) (r : Reg) (v : Nat) : State :=
  let o := r.off - 0xBC000
  if 4 ≤ o ∧ o ≤ 0xC ∧ (s.bit R.AUG_STATUS_BUSY ∨ s.fld R.AUG_POOL_HEAD_HEAD ≠ s.fld R.AUG_POOL_TAIL_TAIL) then s
  else s.plain r v

/-- ANN (R614). -/
def State.writeAnn (s : State) (r : Reg) (v : Nat) : State :=
  match r.off - 0xC0000 with
  | 0x000 => s.writeAnnCtrl v
  | _ => s.plain r v

/-- GILL (R444). [Log 16 DESIGN CHOICE] -/
def State.writeGill (s : State) (r : Reg) (v : Nat) : State :=
  let g := (r.off - 0x100000) / 0x4000
  match r.off % 0x4000 with
  | 0x020 => if v.testBit 0 then s.dbgHalt g else if v.testBit 1 then s.dbgResume g else if v.testBit 2 then s.dbgStep g else s
  | _ => s.plain r v

/-! ## The whole of BAR0 but the run set -/

/-- The write of a register by its block. [Log 13 DESIGN CHOICE] -/
def State.writeReg (s : State) (r : Reg) (v : Nat) : State :=
  let o := r.off
  if o < 0x1000 then s.plain r v
  else if o < 0x2000 then s.writeBoot r v
  else if o < 0x3000 then s.writeClk r v
  else if o < 0x4000 then s.writePwr r v
  else if o < 0x5000 then s.writeJrn r v
  else if o < 0x6000 then s.writeSpi r v
  else if o < 0x8000 then s.writeI2c r v
  else if o < 0x10000 then s.writePtp r v
  else if o < 0x12000 then s.writeMot r v
  else if o < 0x20000 then s.writeEj r v
  else if o < 0x30000 then s.writeCxp r v
  else if o < 0x40000 then s.writeIsp r v
  else if o < 0x48000 then s.writeLane r v
  else if o < 0x50000 then s.writeRing r v
  else if o < 0x60000 then s.writeMesh r v
  else if o < 0x70000 then s.writeMem r v
  else if o < 0x80000 then s.writeDma r v
  else if o < 0x90000 then s.writeSync r v
  else if o < 0xA0000 then s.writeSched r v
  else if o < 0xB0000 then s.writeMbx r v
  else if o < 0xB8000 then s.writePfx r v
  else if o < 0xBC000 then s.writeAdp r v
  else if o < 0xC0000 then s.writeAug r v
  else if o < 0x100000 then s.writeAnn r v
  else s.writeGill r v

end Sys2Proof.Machine
end

