-- ==== Sys2Proof/Machine/BusExec.lean ====
section
/-! DEFINITION. BusExec: BAR0 accesses (R13, R20, R21, R140, R646), the run set (R666, R667) and the end of bring-up
(R183). -/

namespace Sys2Proof.Machine

/-! ## The run set (R666, R667) -/

/-- Offsets `b`, `b + st`, …, `n` of them. -/
def offsets (b st n : Nat) : List Nat := (List.range n).map (fun k => b + st * k)

/-- Registers of one encoder channel, MOT_CH_CFG last. -/
def chanRegs (c : Nat) : List Nat :=
  [0x04, 0x08, 0x0C, 0x10, 0x14, 0x18, 0x1C, 0x20, 0x24, 0x60, 0x64, 0x68, 0x6C, 0x70, 0x00].map (· + (0x10000 + 0x100 * c))

/-- Registers of one gate, MOT_GATE_CFG last. -/
def gateRegs (g : Nat) : List Nat := [0x04, 0x08, 0x0C, 0x10, 0x00].map (· + (0x10900 + 0x20 * g))

/-- Registers of one CXP port, CXP_PORT_CFG last. -/
def portRegs (p : Nat) : List Nat :=
  [0x2C, 0x24, 0x10, 0x14, 0x18, 0x1C, 0x0C, 0x00].map (· + (0x20000 + 0x1000 * p))

/-- Registers of one PTP port. -/
def ptpPortRegs (n : Nat) : List Nat := [0x00, 0x04, 0x08, 0x0C].map (· + (0x8100 + 0x40 * n))

/-- One action of an apply: a write, the write of 0 to a gate's EN, or the FORMAT. -/
inductive RunStep where
  | write (off : Nat)
  | gateOff (off : Nat)
  | format
  deriving DecidableEq, Repr

/-- The actions of R666 in order, for the units of this device and the queues the image declares.
[Log 18 DESIGN CHOICE] -/
def State.runSteps (s : State) : List RunStep :=
  let w := List.map RunStep.write
  w [0x3124, 0x312C, 0x311C, 0x300C, 0x3008]
    ++ w ([0x8000] ++ (List.range 2).flatMap ptpPortRegs ++ [0x8050, 0x8054, 0x8058, 0x805C, 0x8204, 0x8208, 0x8200])
    ++ w ((List.range s.encChans).flatMap chanRegs ++ [0x10B00] ++ offsets 0x10800 4 6)
    ++ (List.range 16).flatMap (fun g => .gateOff (0x10900 + 0x20 * g) :: w (gateRegs g))
    ++ w (offsets 0x12800 4 16
        ++ (List.range s.ejOuts).flatMap (fun n => [0x04, 0x08, 0x0C, 0x00].map (· + (0x12000 + 0x40 * n))) ++ [0x12400])
    ++ w ((List.range s.cxpPorts).flatMap portRegs
        ++ (List.range 4).flatMap (fun k => [0x30004 + 0x400 * k, 0x30008 + 0x400 * k]))
    ++ w [0xB0008, 0xB000C, 0xB0010, 0xB0014] ++ [.format] ++ w [0xB0000]
    ++ w ((offsets 0x91000 0x20 256).filter (fun o => (s.queueOf ((o - 0x91000) / 0x20)).isSome))
    ++ w [0xA0004, 0xA0008, 0xA000C, 0xA001C, 0xA0000]
    ++ w ((if s.hasRing then [0x48000] else []) ++ [0x3120, 0x12860])

/-- The RW fields of a register, as the run set saves them: EJ_LSTOP without RUN unless RUN_AUTO asks for it. -/
def State.runValue (s : State) (off : Nat) : Nat :=
  match regAt off with
  | none => 0
  | some r =>
    let v := (s.rd r).toNat &&& r.rw
    if off = R.EJ_LSTOP.off ∧ !s.bit R.MBX_RUNSET_CTRL_RUN_AUTO then v - v % 2 else v

/-- The registers of the run set with their values. -/
def State.runCapture (s : State) : List (Nat × Nat) :=
  s.runSteps.filterMap (fun a => match a with
    | .write o => some (o, s.runValue o)
    | _ => none)

/-- Writes one register; whether the write was refused: an RW field does not read back as written.
[Log 18 DESIGN CHOICE] -/
def State.runWrite (s : State) (off v : Nat) : Bool × State :=
  match regAt off with
  | none => (false, s)
  | some r =>
    let s := s.writeReg r v
    ((s.rd r).toNat &&& r.rw != v, s)

/-- One action of an apply: the offset whose write was refused, if it was. -/
def State.runStep (s : State) (l : List (Nat × Nat)) (a : RunStep) : Option Nat × State :=
  match a with
  | .gateOff o =>
    let (bad, s) := s.runWrite o 0
    (if bad then some o else none, s)
  | .format =>
    let s := s.writePfxCtrl (2 + s.fld R.PFX_CTRL_EN)
    (if s.bit R.PFX_STATUS_FORMATTED then none else some R.PFX_CTRL.off, s)
  | .write o =>
    match l.find? (·.1 == o) with
    | none => (none, s)
    | some e =>
      let (bad, s) := s.runWrite o e.2
      (if bad then some o else none, s)

/-- The actions of an apply up to the first write that is refused. -/
def runAll (l : List (Nat × Nat)) : List RunStep → State → Option Nat × State
  | [], s => (none, s)
  | a :: t, s =>
    match s.runStep l a with
    | (some o, s) => (some o, s)
    | (none, s) => runAll l t s

/-- STS_HOST_RUNSET with a BAR0 offset. [Log 11 DEDUCED, 18 DESIGN CHOICE] -/
def State.runReport (s : State) (off : Nat) : State :=
  (s.setF R.MBX_RUNSET_STATUS_LAST_STS 0xC00B).report R.MBX_HSTATUS_LAST_STS 0xC00B (off % 65536)

/-- Applies the stored run set. [Log 18 DESIGN CHOICE] -/
def State.runApply (s : State) : State :=
  if !s.mbx.runValid then s
  else
    let s := s.setB R.MBX_RUNSET_STATUS_APPLIED false
    if s.img.active.isNone ∨ s.words8 R.BOOT_IMG_DIGEST_DIGEST ≠ s.mbx.runDigest then s.runReport 0
    else
      match runAll s.mbx.runRegs s.runSteps s with
      | (some o, s) => s.runReport o
      | (none, s) => s.setB R.MBX_RUNSET_STATUS_APPLIED true

/-- A write of MBX_RUNSET_CTRL (R674). [Log 18 DESIGN CHOICE] -/
def State.writeRunset (s : State) (v : Nat) : State :=
  let s := s.plain R.MBX_RUNSET_CTRL v
  let s := if R.MBX_RUNSET_CTRL_SAVE.of v = 1 then s.runsetAsk s.runCapture else s
  if R.MBX_RUNSET_CTRL_APPLY.of v = 1 then s.runApply else s

/-! ## Writes (R13, R17, R20, R646) -/

/-- A 32-bit write that has reached its block; where no register stands it is ignored (R646). [Log 13 DESIGN CHOICE] -/
def State.putReg (s : State) (off v : Nat) : State :=
  match regAt off with
  | none => s
  | some r =>
    let v := v % 2 ^ 32
    if off = R.MBX_RUNSET_CTRL.off then s.writeRunset v else s.writeReg r v

/-- A 32-bit write by the host. -/
def State.put32 (s : State) (off v : Nat) : State := s.access off (v % 2 ^ 32) true (·.putReg off v)

/-- STS_HOST_MISALIGNED and STS_HOST_NARROW_WRITE, with the offset. [Log 11 DEDUCED] -/
def State.hostSts (s : State) (sts off : Nat) : State := s.report R.MBX_HSTATUS_LAST_STS sts (off % 65536)

/-- A write of 1, 2, 4 or 8 bytes (R20). [Log 12 DESIGN CHOICE] -/
def State.hostWrite (s : State) (off size v : Nat) : State :=
  if off % size ≠ 0 then s.hostSts 0xC00E off
  else if size < 4 then s.hostSts 0xC003 off
  else if size = 8 then (s.put32 off v).put32 (off + 4) (v / 2 ^ 32)
  else s.put32 off v

/-! ## Reads (R13, R20, R21, R725) -/

/-- Low words of values that span two registers: the first of a row of them, their distance and their number. -/
def lowRows : List (Nat × Nat × Nat) := [
  (0x14, 4, 1), (0x1104, 4, 1), (0x8018, 8, 2), (0x8034, 4, 1), (0x8048, 4, 1), (0x8064, 4, 1), (0x8070, 4, 1),
  (0x8204, 4, 1), (0x8248, 8, 2), (0x10020, 0x100, 4), (0x10028, 0x100, 4), (0x10038, 0x100, 4), (0x10838, 4, 1),
  (0x10840, 4, 1), (0x12018, 0x40, 16), (0x12404, 4, 1), (0x20010, 0x1000, 8), (0x40020, 0x400, 24), (0x60008, 8, 2),
  (0x6084C, 0x20, 4), (0x70008, 0x40, 16), (0xA0008, 4, 1), (0xA0410, 8, 2), (0xA0608, 4, 1), (0xA2000, 0x10, 64),
  (0xB0008, 4, 1), (0xBC004, 4, 1)]

/-- Whether a register is the low word of a two-register value (R21). -/
def isLow (off : Nat) : Bool :=
  lowRows.any (fun r => r.1 ≤ off && (off - r.1) % r.2.1 == 0 && decide ((off - r.1) / r.2.1 < r.2.2))

/-- BOOT_L2P (R203): the physical place of the selected logical tile. -/
def State.l2p (s : State) : Nat :=
  let lg := logicalGills s.boot.merged ((variantUnits (s.fld R.SYS_ID_VARIANT)).getD 0 0)
  let g := s.fld R.BOOT_L2P_SEL_LGILL
  if s.gills ≤ g then 0
  else
    let p := lg.getD g 0
    2 ^ 31 + 256 * p + (goodTiles s.boot.merged p).getD (s.fld R.BOOT_L2P_SEL_LTILE) 0

/-- What a register reads as, where it shows something else than what it holds: the merged map and the translation, the
selected crossing, the selected track, a gill's debug word, an undeclared queue. [Log 16 DESIGN CHOICE] -/
def State.shown (s : State) (off : Nat) : Nat :=
  if off = R.BOOT_MAP_ENTRY.off then s.boot.merged.getD (s.fld R.BOOT_MAP_SEL_INDEX) 0
  else if off = R.BOOT_L2P.off then s.l2p
  else if off = R.CLK_XING_HWM.off then min (Sparse.get s.mot.hwms (s.fld R.CLK_XING_SEL_XING) 0) 0xFFFF
  else if off = R.CLK_XING_DROP.off then Sparse.get s.mot.drops (s.fld R.CLK_XING_SEL_XING) 0
  else if off = R.MOT_TRK_V_SEQ.off then s.trkView.1
  else if off = R.MOT_TRK_V_STATE.off then s.trkView.2.1
  else if off = R.MOT_TRK_V_DL_LO.off then s.trkView.2.2 % 2 ^ 32
  else if off = R.MOT_TRK_V_DL_HI.off then s.trkView.2.2 / 2 ^ 32
  else if 0x100000 ≤ off ∧ off % 0x4000 = 0x28 then s.dbgData ((off - 0x100000) / 0x4000)
  else if 0x91000 ≤ off ∧ off < 0x93000 ∧ (s.queueOf ((off - 0x91000) / 0x20)).isNone then 0
  else match regAt off with
    | none => 0
    | some r => (s.rd r).toNat

/-- The frequency of a domain in kHz, and by how many kHz it may be off: 20 ppm and the counter's last place; for HOST on
REFCLK, whose accuracy the spec does not give, the 1 % of the clock monitor (R118, R129). [Log 15 DESIGN CHOICE] -/
def State.domainKhz (s : State) (d : Nat) : Nat × Nat :=
  let f := if d = 8 then 1000 * s.fld R.CLK_CORE_CORE_MHZ
    else [25000, 200000, 125000, 250000, 312500, 800000, 800000, 1200000].getD d 0
  (f, if d = 3 && s.mbx.refclk then f / 100 else f * 20 / 1000000 + 1)

/-- The depth of a crossing whose queue the model does not hold (R123): its fill is any number up to that. Crossings 6, 8,
9, 10 and 21 are held. [Log 40 DESIGN CHOICE] -/
def xingDepth (n : Nat) : Option Nat :=
  if n = 6 ∨ n = 8 ∨ n = 9 ∨ n = 10 ∨ n = 21 then none
  else some ([0, 0, 0, 4, 16, 64, 0, 128, 0, 0, 0, 32, 16, 16, 64, 64, 128, 128, 64, 64, 16, 0, 32, 1].getD n 0)

/-- Measurements that go on by themselves are brought up to date with free values within what the spec gives them: the
frequency counter (R153), the fill of a crossing (R154), a locked PRBS checker (R375). [Log 15 DESIGN CHOICE] -/
def State.measured (s : State) (off : Nat) : State :=
  if off = R.CLK_MEAS.off then
    let d := s.fld R.CLK_MEAS_SEL_DOMAIN
    if s.clocked d then
      let k := s.domainKhz d
      let (v, s) := s.fresh
      s.setF R.CLK_MEAS_KHZ (k.1 - k.2 + v % (2 * k.2 + 1))
    else s.setF R.CLK_MEAS_KHZ 0
  else if off = R.CLK_XING_HWM.off then
    match xingDepth (s.fld R.CLK_XING_SEL_XING) with
    | none => s
    | some n =>
      let (v, s) := s.fresh
      { s with mot.hwms := Sparse.put s.mot.hwms (s.fld R.CLK_XING_SEL_XING) (v % (n + 1)) 0 }
  else if 0x30000 ≤ off ∧ off < 0x31000 ∧ off % 0x400 = 0x14 then
    s.wr (R.ISP_LOAD ((off - 0x30000) / 0x400)) (BitVec.ofNat 32 (s.loadOf ((off - 0x30000) / 0x400)))
  else if 0x40000 ≤ off ∧ off < 0x46000 ∧ 0x18 ≤ off % 0x400 ∧ off % 0x400 < 0x28 then s.prbsSync ((off - 0x40000) / 0x400)
  else s

/-- Clears what a read clears (R13). -/
def State.readClears (s : State) (off : Nat) : State :=
  if off = R.CLK_XING_HWM.off then { s with mot.hwms := Sparse.put s.mot.hwms (s.fld R.CLK_XING_SEL_XING) 0 0 }
  else if off = R.CLK_XING_DROP.off then { s with mot.drops := Sparse.put s.mot.drops (s.fld R.CLK_XING_SEL_XING) 0 0 }
  else match regAt off with
    | none => s
    | some r => if r.rc = 0 then s else s.wr r (BitVec.ofNat 32 (maskOff (s.rd r).toNat r.rc))

/-- A register with a read of its own: it pops a queue, or copies or latches a value (R343, R348, R359, R360, R515, R556,
R590, R330, R689, R704). -/
def State.ownRead (s : State) (off : Nat) : Bool × State :=
  if off = (R.MMU_FQ_DATA 0).off then (true, s.fqPop)
  else if off = (R.PTP_EVT_DATA 0).off then (true, s.evtPop)
  else if off = R.PTP_SMP_OFS_LO.off then (true, s.samplePop)
  else if off = (R.SPI_CPL 0).off then (true, s.spiPop)
  else if off = R.I2C_CPL0.off then (true, s.i2cPop)
  else if off = R.I2C_TLOG.off then (true, s.i2cLogPop)
  else if off = (R.EJ_LOG_DATA 0).off then (true, s.ejLogRead)
  else if off = (R.SCHED_CPL_DATA 0).off then (true, s.cplRead)
  else if off = (R.ADP_DESC 0).off then (true, s.adpRead)
  else if off = R.PTP_SNAP_FRAC.off then (true, s.snapshot)
  else if off = R.PTP_OFS_NS.off then (true, s.ofsRead)
  else (false, s)

/-- Latches the high word of a two-register value whose low word is read (R21). [Log 14 DEDUCED] -/
def State.latchHigh (s : State) (off : Nat) : State :=
  if isLow off then { s with bus.shadows := Sparse.put s.bus.shadows (off + 4) (some (s.shown (off + 4))) none } else s

/-- A 32-bit read that has reached its block: the value is left in the bus's data. [Log 14 DEDUCED] -/
def State.getReg (s : State) (off : Nat) : State :=
  match Sparse.get s.bus.shadows off none with
  | some v => { s with bus.shadows := Sparse.put s.bus.shadows off none none, bus.data := v }
  | none =>
    match s.ownRead off with
    | (true, s) => s.latchHigh off
    | (false, s) =>
      let s := s.measured off
      { s with bus.data := s.shown off }.readClears off |>.latchHigh off

/-- A read of `len` bytes from byte `lane` of a register on, which has reached its block (R20): a read of 8 bytes is two of
32 bits, the lower first; a narrow one returns bytes of the whole read. -/
def State.getBytes (s : State) (off lane len : Nat) : State :=
  let s := s.getReg off
  if len = 8 then
    let t := s.getReg (off + 4)
    { t with bus.data := s.bus.data % 2 ^ 32 + 2 ^ 32 * (t.bus.data % 2 ^ 32) }
  else { s with bus.data := s.bus.data / 2 ^ (8 * lane) % 2 ^ (8 * len) }

/-- A read of 1, 2, 4 or 8 bytes (R20). [Log 12 DESIGN CHOICE] -/
def State.hostRead (s : State) (off size : Nat) : State :=
  if off % size ≠ 0 then { s with bus.data := 0 }.hostSts 0xC00E off
  else
    let lane := off % 4
    s.access (off - lane) 0 false (·.getBytes (off - lane) lane size) lane size

/-! ## Held accesses (R140) -/

/-- The oldest access held for a gated domain is performed once the exit completes, in the width it had.
[Log 68 DESIGN CHOICE] -/
def State.heldPerform (s : State) : State :=
  match s.bus.held with
  | [] => s
  | h :: l =>
    if s.gated h.off ∨ s.mode.active ∨ s.pwr.inReset then s
    else
      let s := { s with bus.held := l }
      if h.write then s.putReg h.off h.value else s.getBytes h.off h.lane h.len

/-! ## READY (R183) -/

/-- Bring-up completes, in READY or, without the stored image, in READY_NO_IMAGE. [Log 20 DESIGN CHOICE] -/
def State.stReady (s : State) : State :=
  if !s.inStage 11 then s
  else
    let ok := !s.boot.noImage
    let s := { s.setF R.SYS_START_MS_START_MS (min ((s.now - s.boot.startAt) / 1000000) 65535) with
      boot.running := false, pwr.pwrOk := ok }
    let s := if ok then s.setF R.PWR_MODE_STATUS_MODE 1 else s
    let s := (s.bootGo (if ok then 1 else 2)).stageStart.stageDigests.holdStart.relays
    let s := s.sessionQueue.admitOpen.schedCommits
    if ok && s.mbx.runAuto then s.runApply else s

/-! ## The commands -/

/-- REGISTER_WRITE (R13, R20): an access of 1, 2, 4 or 8 bytes; any other size is no access. [Log 13 DESIGN CHOICE] -/
def execRegisterWrite (off size value : Nat) (s : State) : Res :=
  .next (if [1, 2, 4, 8].contains size then s.hostWrite off size value else s)

/-- RC_READ (R13, R20, R23): a read of 1, 2, 4 or 8 bytes. [Log 13 DESIGN CHOICE] -/
def execRcRead (off size : Nat) (s : State) : Res :=
  .next (if [1, 2, 4, 8].contains size then s.hostRead off size else s)

/-- LOW_WORD_READ (R21). [Log 13 DESIGN CHOICE] -/
def execLowWordRead (off : Nat) (s : State) : Res := .next (s.hostRead off 4)

/-- HELD_ACCESS_PERFORM (R140). -/
def execHeldAccessPerform (s : State) : Res := .next s.heldPerform

/-- RUNSET_SAVE (R667): a write of MBX_RUNSET_CTRL with SAVE, AUTO_APPLY and RUN_AUTO as given. -/
def execRunsetSave (autoApply runAuto : Bool) (s : State) : Res :=
  .next (s.put32 R.MBX_RUNSET_CTRL.off (1 + 8 * autoApply.toNat + 16 * runAuto.toNat))

/-- RUNSET_APPLY (R667): a write of MBX_RUNSET_CTRL with APPLY, its RW fields as they are. -/
def execRunsetApply (s : State) : Res :=
  .next (s.regWrite R.MBX_RUNSET_CTRL 2 State.runApply)

/-- RUN_SET_STORED (R667). -/
def execRunSetStored (s : State) : Res := .next s.runsetStored

/-- READY (R183). -/
def execReady (s : State) : Res := .next s.stReady

end Sys2Proof.Machine
end

