-- ==== Sys2Proof/Machine/HostExec.lean ====
section
/-! DEFINITION. HostExec: the commands of the mailbox, the work ring, BAR2, the host window and the host link
(chapter 17). -/

namespace Sys2Proof.Machine

/-- VERDICT_RECORD_WRITE (R655): the mailbox writer takes the oldest record of crossing 8. [Log 62 DESIGN CHOICE] -/
def execVerdictRecordWrite (s : State) : Res := .next s.verdictWrite

/-- MBX_ENABLE (R654): a write of MBX_CTRL. -/
def execMbxEnable (value : Nat) (s : State) : Res := .next (s.regWrite R.MBX_CTRL value (·.writeMbxCtrl value))

/-- MBX_HEAD_WRITE (R657). -/
def execMbxHeadWrite (value : Nat) (s : State) : Res := .next (s.regWrite R.MBX_HEAD value (·.writeMbxHead value))

/-- MBX_READY_AGE (R660): the oldest unread record has waited AGE_US. -/
def execMbxReadyAge (s : State) : Res := .next s.mbxCheck

/-- IRQ_PEND_CLEAR (R661): a write of MBX_IRQ_PEND. -/
def execIrqPendClear (value : Nat) (s : State) : Res := .next (s.regWrite R.MBX_IRQ_PEND value (·.irqClear value))

/-- WQ_DOORBELL (R662): a write of MBX_WQ_TAIL. -/
def execWqDoorbell (value : Nat) (s : State) : Res := .next (s.regWrite R.MBX_WQ_TAIL value (·.writeWqTail value))

/-- WQ_ENTRY_SUBMIT (R662, R663). -/
def execWqEntrySubmit (s : State) : Res := .next s.wqSubmit.schedCommits

/-- BAR2_ACCESS (R648): a write of bytes at an offset, or a read of `len` bytes. [Log 63 DESIGN CHOICE] -/
def execBar2Access (off len : Nat) (data : Option (List Byte)) (s : State) : Res := .next (s.bar2 off len data)

/-- HOST_WINDOW_ACCESS (R650): the oldest posted write leaves on the link; or the host's completions show the bytes at
a bus address, which reads of the window then return. [Log 63 DESIGN CHOICE] -/
def execHostWindowAccess (answer : Option (Nat × List Byte)) (s : State) : Res :=
  .next (match answer with
    | none => s.hwLeave
    | some (a, b) => s.hwAnswer a b)

/-- HOST_WINDOW_TIMEOUT (R651): the oldest posted write, or the next read, fails: cause 1 no completion in time, for a write
once CPL_TMO_US has passed since it was accepted, 2 Unsupported Request, 3 Completer Abort. -/
def execHostWindowTimeout (write : Bool) (cause : Nat) (s : State) : Res :=
  .next (if cause < 1 ∨ 3 < cause then s
    else if write then (if cause = 1 ∧ !s.hwOverdue then s else s.hwDiscard cause)
    else { s with mbx.hwFail := some cause })

/-- PERST_ASSERT (R664). -/
def execPerstAssert (s : State) : Res :=
  .next (if s.mbx.perst then s else { s with mbx.perst := true }.hostReset 0xC002 0 true)

/-- PERST_RELEASE (R664): with REFCLK present, HOST moves onto it. -/
def execPerstRelease (refclk : Bool) (s : State) : Res :=
  .next { s with mbx.perst := false, mbx.refclk := s.mbx.refclk || (refclk && s.mbx.perst) }

/-- FUNCTION_LEVEL_RESET (R664). -/
def execFunctionLevelReset (s : State) : Res := .next (if s.cfgOpen then s.hostReset 0xC002 1 false else s)

/-- LINK_DOWN (R664). -/
def execLinkDown (s : State) : Res := .next (if s.bit R.MBX_LINK_UP then s.hostReset 0xC001 0 true else s)

/-- PCIE_LINK_UP (R668). -/
def execPcieLinkUp (speed width : Nat) (s : State) : Res := .next (s.linkTrained speed width)

/-- CONFIG_SPACE_WRITE (R668). -/
def execConfigSpaceWrite (w : ConfigWrite) (s : State) : Res := .next (s.cfgWrite w)

/-- AER_ERROR (R668): an uncorrectable error with its AER bit. -/
def execAerError (bit : Nat) (s : State) : Res :=
  .next ((s.inc R.MBX_CNT_PCIE_ERR_COUNT).reportLimited R.MBX_HSTATUS_LAST_STS 0xC00D (fun _ => bit) 0)

end Sys2Proof.Machine
end

