-- ==== Sys2Proof/Machine/Dispatch.lean ====
section
/-! DEFINITION. Dispatch: one arm per command, a direct call of its meaning. -/

namespace Sys2Proof.Machine

def exec (i : Instr) (s : State) : Host.Outcome State Fault Refusal :=
  match i with
  | .registerWrite off size value => Sys2Proof.Machine.execRegisterWrite off size value s
  | .rcRead off size => Sys2Proof.Machine.execRcRead off size s
  | .lowWordRead off => Sys2Proof.Machine.execLowWordRead off s
  | .inputLoss pages => Sys2Proof.Machine.execInputLoss pages s
  | .overvoltageLockout pages => Sys2Proof.Machine.execOvervoltageLockout pages s
  | .internalReset pages => Sys2Proof.Machine.execInternalReset pages s
  | .thermalTrip pages => Sys2Proof.Machine.execThermalTrip pages s
  | .holdupEstimateTick r ok => Sys2Proof.Machine.execHoldupEstimateTick r ok s
  | .holdupCapMeasured uf => Sys2Proof.Machine.execHoldupCapMeasured uf s
  | .pocxpDetectDone lane found => Sys2Proof.Machine.execPocxpDetectDone lane found s
  | .pocxpOvercurrent lane => Sys2Proof.Machine.execPocxpOvercurrent lane s
  | .pocxpFaultClear value => Sys2Proof.Machine.execPocxpFaultClear value s
  | .encSupplyFault chan => Sys2Proof.Machine.execEncSupplyFault chan s
  | .vejSupplyLow group => Sys2Proof.Machine.execVejSupplyLow group s
  | .readbackCheck out level openLoad => Sys2Proof.Machine.execReadbackCheck out level openLoad s
  | .outputOvercurrent out => Sys2Proof.Machine.execOutputOvercurrent out s
  | .relayPositionCheck ring => Sys2Proof.Machine.execRelayPositionCheck ring s
  | .relayRequestWrite value => Sys2Proof.Machine.execRelayRequestWrite value s
  | .diEdgeQualified input raw held => Sys2Proof.Machine.execDiEdgeQualified input raw held s
  | .diCfgWrite value => Sys2Proof.Machine.execDiCfgWrite value s
  | .lstopRelease value => Sys2Proof.Machine.execLstopRelease value s
  | .pllLockTimeout domain => Sys2Proof.Machine.execPllLockTimeout domain s
  | .clockFailure domain => Sys2Proof.Machine.execClockFailure domain s
  | .modeRequest value => Sys2Proof.Machine.execModeRequest value s
  | .modeRollback failedStep => Sys2Proof.Machine.execModeRollback failedStep s
  | .exitComplete failed => Sys2Proof.Machine.execExitComplete failed s
  | .wakePatternComplete lane asked => Sys2Proof.Machine.execWakePatternComplete lane asked s
  | .clocks refclk => Sys2Proof.Machine.execClocks refclk s
  | .fuses facts => Sys2Proof.Machine.execFuses facts s
  | .selftest found => Sys2Proof.Machine.execSelftest found s
  | .map cfgOk copy0Ok copy1Ok => Sys2Proof.Machine.execMap cfgOk copy0Ok copy1Ok s
  | .train ddr lanes phys => Sys2Proof.Machine.execTrain ddr lanes phys s
  | .fwload a b => Sys2Proof.Machine.execFwload a b s
  | .pkgReady => Sys2Proof.Machine.execPkgReady s
  | .sporeAckTimeout gill spore => Sys2Proof.Machine.execSporeAckTimeout gill spore s
  | .image => Sys2Proof.Machine.execImage s
  | .coldStart pages => Sys2Proof.Machine.execColdStart pages s
  | .fieldAddition entry => Sys2Proof.Machine.execFieldAddition entry s
  | .load src => Sys2Proof.Machine.execLoad src s
  | .unload src => Sys2Proof.Machine.execUnload src s
  | .store src => Sys2Proof.Machine.execStore src s
  | .keyrec src => Sys2Proof.Machine.execKeyrec src s
  | .routeSetChange value => Sys2Proof.Machine.execRouteSetChange value s
  | .epochBoundary inflight => Sys2Proof.Machine.execEpochBoundary inflight s
  | .routeRelease route => Sys2Proof.Machine.execRouteRelease route s
  | .edgeAccepted chan mask held => Sys2Proof.Machine.execEdgeAccepted chan mask held s
  | .glitchFault chan => Sys2Proof.Machine.execGlitchFault chan s
  | .serialPoll chan => Sys2Proof.Machine.execSerialPoll chan s
  | .serialReading chan frame => Sys2Proof.Machine.execSerialReading chan frame s
  | .wireDisagree chan pair => Sys2Proof.Machine.execWireDisagree chan pair s
  | .wireFault chan pair => Sys2Proof.Machine.execWireFault chan pair s
  | .wireFaultClear chan pair => Sys2Proof.Machine.execWireFaultClear chan pair s
  | .countGateEnd chan => Sys2Proof.Machine.execCountGateEnd chan s
  | .chCfgWrite chan value => Sys2Proof.Machine.execChCfgWrite chan value s
  | .speedThresholdWrite chan high value => Sys2Proof.Machine.execSpeedThresholdWrite chan high value s
  | .trkCfgWrite value => Sys2Proof.Machine.execTrkCfgWrite value s
  | .trackDeclare value => Sys2Proof.Machine.execTrackDeclare value s
  | .trackCommit value => Sys2Proof.Machine.execTrackCommit value s
  | .trackUnitMessage gill => Sys2Proof.Machine.execTrackUnitMessage gill s
  | .gateEnable gate value => Sys2Proof.Machine.execGateEnable gate value s
  | .gateOffsetWrite gate which value => Sys2Proof.Machine.execGateOffsetWrite gate which value s
  | .armCommand value => Sys2Proof.Machine.execArmCommand value s
  | .delayEnd out => Sys2Proof.Machine.execDelayEnd out s
  | .pulseEnd out => Sys2Proof.Machine.execPulseEnd out s
  | .gapEnd out => Sys2Proof.Machine.execGapEnd out s
  | .maxOn out => Sys2Proof.Machine.execMaxOn out s
  | .deferExpired out => Sys2Proof.Machine.execDeferExpired out s
  | .ejCtrlWrite value => Sys2Proof.Machine.execEjCtrlWrite value s
  | .outCfgWrite out value => Sys2Proof.Machine.execOutCfgWrite out value s
  | .flush out value => Sys2Proof.Machine.execFlush out value s
  | .rateWrite value => Sys2Proof.Machine.execRateWrite value s
  | .stepRequest value => Sys2Proof.Machine.execStepRequest value s
  | .ptpCfgWrite value => Sys2Proof.Machine.execPtpCfgWrite value s
  | .ptpRx port kind seq sec domain inSubset took => Sys2Proof.Machine.execPtpRx port kind seq sec domain inSubset took s
  | .ptpTx port kind seq turn took => Sys2Proof.Machine.execPtpTx port kind seq turn took s
  | .ptpSample port x mono seq => Sys2Proof.Machine.execPtpSample port x mono seq s
  | .holdover port => Sys2Proof.Machine.execHoldover port s
  | .markArm value => Sys2Proof.Machine.execMarkArm value s
  | .portEnable port value => Sys2Proof.Machine.execPortEnable port value s
  | .pocxpPowered port => Sys2Proof.Machine.execPocxpPowered port s
  | .discover port ok => Sys2Proof.Machine.execDiscover port ok s
  | .config port ok => Sys2Proof.Machine.execConfig port ok s
  | .cameraLinkDown port lane => Sys2Proof.Machine.execCameraLinkDown port lane s
  | .downRetry port => Sys2Proof.Machine.execDownRetry port s
  | .resyncEnd port => Sys2Proof.Machine.execResyncEnd port s
  | .ctrlTransaction port value => Sys2Proof.Machine.execCtrlTransaction port value s
  | .ctrlAck port code negative data bad => Sys2Proof.Machine.execCtrlAck port code negative data bad s
  | .ctrlTimeout port => Sys2Proof.Machine.execCtrlTimeout port s
  | .frameTimeTrigger port => Sys2Proof.Machine.execFrameTimeTrigger port s
  | .softTrigger port value => Sys2Proof.Machine.execSoftTrigger port value s
  | .delayedTrigger port => Sys2Proof.Machine.execDelayedTrigger port s
  | .trigCfgWrite port value => Sys2Proof.Machine.execTrigCfgWrite port value s
  | .streamPacket port lane tag bytes bad symErrs stream lost => Sys2Proof.Machine.execStreamPacket port lane tag bytes bad symErrs stream lost s
  | .imageHeader port lane tag head bad symErrs => Sys2Proof.Machine.execImageHeader port lane tag head bad symErrs s
  | .lineTimeout port => Sys2Proof.Machine.execLineTimeout port s
  | .frameTimeout port => Sys2Proof.Machine.execFrameTimeout port s
  | .pipelineLine pipe => Sys2Proof.Machine.execPipelineLine pipe s
  | .partImageComplete pipe => Sys2Proof.Machine.execPartImageComplete pipe s
  | .throughMemoryFrame pipe => Sys2Proof.Machine.execThroughMemoryFrame pipe s
  | .rebindRequest port value => Sys2Proof.Machine.execRebindRequest port value s
  | .rebindSwitch port => Sys2Proof.Machine.execRebindSwitch port s
  | .outHeadWrite pipe value => Sys2Proof.Machine.execOutHeadWrite pipe value s
  | .pipeCellWrite pipe value => Sys2Proof.Machine.execPipeCellWrite pipe value s
  | .txL0 lane => Sys2Proof.Machine.execTxL0 lane s
  | .txL1 lane => Sys2Proof.Machine.execTxL1 lane s
  | .txL2 lane => Sys2Proof.Machine.execTxL2 lane s
  | .txOff lane => Sys2Proof.Machine.execTxOff lane s
  | .txWake lane => Sys2Proof.Machine.execTxWake lane s
  | .prbsOn lane => Sys2Proof.Machine.execPrbsOn lane s
  | .prbsOff lane => Sys2Proof.Machine.execPrbsOff lane s
  | .rxStateCommand lane value => Sys2Proof.Machine.execRxStateCommand lane value s
  | .synthCalDone quad ok => Sys2Proof.Machine.execSynthCalDone quad ok s
  | .synthLocked quad ok => Sys2Proof.Machine.execSynthLocked quad ok s
  | .heldCommandTimeout lane => Sys2Proof.Machine.execHeldCommandTimeout lane s
  | .fastRelock lane => Sys2Proof.Machine.execFastRelock lane s
  | .wakeGuardExpiry lane => Sys2Proof.Machine.execWakeGuardExpiry lane s
  | .retrainComplete lane ok => Sys2Proof.Machine.execRetrainComplete lane ok s
  | .lossOfSignal lane => Sys2Proof.Machine.execLossOfSignal lane s
  | .loopWrite lane value => Sys2Proof.Machine.execLoopWrite lane value s
  | .prbsCheckerEnable lane value => Sys2Proof.Machine.execPrbsCheckerEnable lane value s
  | .ringEnable value => Sys2Proof.Machine.execRingEnable value s
  | .ringTest value => Sys2Proof.Machine.execRingTest value s
  | .linkTrainingDone side how => Sys2Proof.Machine.execLinkTrainingDone side how s
  | .trainRetry side => Sys2Proof.Machine.execTrainRetry side s
  | .ringFrame side h payload => Sys2Proof.Machine.execRingFrame side h payload s
  | .ack side ackSeq => Sys2Proof.Machine.execAck side ackSeq s
  | .nak side seq => Sys2Proof.Machine.execNak side seq s
  | .ackTimeout side => Sys2Proof.Machine.execAckTimeout side s
  | .linkSleep side => Sys2Proof.Machine.execLinkSleep side s
  | .ringDiscover side h members => Sys2Proof.Machine.execRingDiscover side h members s
  | .quiesce side h => Sys2Proof.Machine.execQuiesce side h s
  | .quiesced side h => Sys2Proof.Machine.execQuiesced side h s
  | .switch side h layout present epoch => Sys2Proof.Machine.execSwitch side h layout present epoch s
  | .ringLinkDown side how => Sys2Proof.Machine.execRingLinkDown side how s
  | .layoutReq side h layout => Sys2Proof.Machine.execLayoutReq side h layout s
  | .layoutAns side h accepted => Sys2Proof.Machine.execLayoutAns side h accepted s
  | .layoutRequest value => Sys2Proof.Machine.execLayoutRequest value s
  | .linkTmoExpiry side present => Sys2Proof.Machine.execLinkTmoExpiry side present s
  | .bundleIssue gill => Sys2Proof.Machine.execBundleIssue gill s
  | .globalLoadResponse gill slot ref retry => Sys2Proof.Machine.execGlobalLoadResponse gill slot ref retry s
  | .gillMemFaultStop gill => Sys2Proof.Machine.execGillMemFaultStop gill s
  | .syncGrant cell => Sys2Proof.Machine.execSyncGrant cell s
  | .timedOpTimeout gill => Sys2Proof.Machine.execTimedOpTimeout gill s
  | .queueMessageArrival gill port src srcPort => Sys2Proof.Machine.execQueueMessageArrival gill port src srcPort s
  | .queueCreditReturn gill port => Sys2Proof.Machine.execQueueCreditReturn gill port s
  | .fenceComplete gill => Sys2Proof.Machine.execFenceComplete gill s
  | .invocationEnd gill => Sys2Proof.Machine.execInvocationEnd gill s
  | .dbgHalt gill => Sys2Proof.Machine.execDbgHalt gill s
  | .dbgResume gill => Sys2Proof.Machine.execDbgResume gill s
  | .dbgStep gill => Sys2Proof.Machine.execDbgStep gill s
  | .boxdec eng item us => Sys2Proof.Machine.execBoxdec eng item us s
  | .nms eng item us => Sys2Proof.Machine.execNms eng item us s
  | .transactionResponse gill slot walk bad weak chan ns ref retry => Sys2Proof.Machine.execTransactionResponse gill slot walk bad weak chan ns ref retry s
  | .refresh chan ns => Sys2Proof.Machine.execRefresh chan ns s
  | .zqCalibration chan => Sys2Proof.Machine.execZqCalibration chan s
  | .mr4Read chan range => Sys2Proof.Machine.execMr4Read chan range s
  | .controllerWatchdog chan txs => Sys2Proof.Machine.execControllerWatchdog chan txs s
  | .dmaSubmit eng value => Sys2Proof.Machine.execDmaSubmit eng value s
  | .chainStart eng => Sys2Proof.Machine.execChainStart eng s
  | .copy eng item => Sys2Proof.Machine.execCopy eng item s
  | .fill eng item => Sys2Proof.Machine.execFill eng item s
  | .copy2d eng item => Sys2Proof.Machine.execCopy2d eng item s
  | .signal eng item => Sys2Proof.Machine.execSignal eng item s
  | .chainEnd eng => Sys2Proof.Machine.execChainEnd eng s
  | .dmaAbort eng part => Sys2Proof.Machine.execDmaAbort eng part s
  | .syncAdd cell value => Sys2Proof.Machine.execSyncAdd cell value s
  | .syncReset cell => Sys2Proof.Machine.execSyncReset cell s
  | .submit value => Sys2Proof.Machine.execSubmit value s
  | .workMessage gill => Sys2Proof.Machine.execWorkMessage gill s
  | .dispatch executor => Sys2Proof.Machine.execDispatch executor s
  | .stealToken part => Sys2Proof.Machine.execStealToken part s
  | .quantumExpiry work => Sys2Proof.Machine.execQuantumExpiry work s
  | .preemptDrainDone work => Sys2Proof.Machine.execPreemptDrainDone work s
  | .saveComplete work bad => Sys2Proof.Machine.execSaveComplete work bad s
  | .restoreComplete work bad => Sys2Proof.Machine.execRestoreComplete work bad s
  | .stateSwapComplete gill => Sys2Proof.Machine.execStateSwapComplete gill s
  | .gangEnd work => Sys2Proof.Machine.execGangEnd work s
  | .workCancel value => Sys2Proof.Machine.execWorkCancel value s
  | .walk gill => Sys2Proof.Machine.execWalk gill s
  | .insert gill => Sys2Proof.Machine.execInsert gill s
  | .release gill => Sys2Proof.Machine.execRelease gill s
  | .pin gill => Sys2Proof.Machine.execPin gill s
  | .unpin gill => Sys2Proof.Machine.execUnpin gill s
  | .evict gill => Sys2Proof.Machine.execEvict gill s
  | .gather gill done => Sys2Proof.Machine.execGather gill done s
  | .publish gill => Sys2Proof.Machine.execPublish gill s
  | .pfxFormat value => Sys2Proof.Machine.execPfxFormat value s
  | .annAbort value => Sys2Proof.Machine.execAnnAbort value s
  | .vcStall vc router last => Sys2Proof.Machine.execVcStall vc router last s
  | .mbxEnable value => Sys2Proof.Machine.execMbxEnable value s
  | .mbxHeadWrite value => Sys2Proof.Machine.execMbxHeadWrite value s
  | .irqPendClear value => Sys2Proof.Machine.execIrqPendClear value s
  | .wqDoorbell value => Sys2Proof.Machine.execWqDoorbell value s
  | .bar2Access off len data => Sys2Proof.Machine.execBar2Access off len data s
  | .hostWindowAccess answer => Sys2Proof.Machine.execHostWindowAccess answer s
  | .hostWindowTimeout write cause => Sys2Proof.Machine.execHostWindowTimeout write cause s
  | .runsetSave autoApply runAuto => Sys2Proof.Machine.execRunsetSave autoApply runAuto s
  | .spiPush value => Sys2Proof.Machine.execSpiPush value s
  | .spiEntryEnd status rx => Sys2Proof.Machine.execSpiEntryEnd status rx s
  | .spiAbort value edges status rx => Sys2Proof.Machine.execSpiAbort value edges status rx s
  | .i2cPush value => Sys2Proof.Machine.execI2cPush value s
  | .i2cCommandStart pulses => Sys2Proof.Machine.execI2cCommandStart pulses s
  | .i2cCommandEnd r => Sys2Proof.Machine.execI2cCommandEnd r s
  | .arbitrationLost byte bit winner => Sys2Proof.Machine.execArbitrationLost byte bit winner s
  | .targetTransaction read bytes count => Sys2Proof.Machine.execTargetTransaction read bytes count s
  | .targetTransactionEnd repeated => Sys2Proof.Machine.execTargetTransactionEnd repeated s
  | .i2cAbort value written read => Sys2Proof.Machine.execI2cAbort value written read s
  | .stageRecord ty body => Sys2Proof.Machine.execStageRecord ty body s
  | .pageProgram ok => Sys2Proof.Machine.execPageProgram ok s
  | .flushMsExpiry ok => Sys2Proof.Machine.execFlushMsExpiry ok s
  | .journalFlush ok => Sys2Proof.Machine.execJournalFlush ok s
  | .subsectorErase ok => Sys2Proof.Machine.execSubsectorErase ok s
  | .holdupFinalPage f => Sys2Proof.Machine.execHoldupFinalPage f s
  | .ethernetLinkChange port up => Sys2Proof.Machine.execEthernetLinkChange port up s
  | .perstRelease refclk => Sys2Proof.Machine.execPerstRelease refclk s
  | .pcieLinkUp speed width => Sys2Proof.Machine.execPcieLinkUp speed width s
  | .configSpaceWrite w => Sys2Proof.Machine.execConfigSpaceWrite w s
  | .aerError bit => Sys2Proof.Machine.execAerError bit s
  | .supplyLowCleared which => Sys2Proof.Machine.execSupplyLowCleared which s
  | .wireDisagreeEnd chan pair => Sys2Proof.Machine.execWireDisagreeEnd chan pair s
  | .sleepBlocksReceived side state => Sys2Proof.Machine.execSleepBlocksReceived side state s
  | .switchPositionReached ring => Sys2Proof.Machine.execSwitchPositionReached ring s
  | .prbsLockAcquired lane => Sys2Proof.Machine.execPrbsLockAcquired lane s
  | .prbsLockLost lane => Sys2Proof.Machine.execPrbsLockLost lane s
  | .cxpEventPacket port event => Sys2Proof.Machine.execCxpEventPacket port event s
  | .heldAccessPerform => Sys2Proof.Machine.execHeldAccessPerform s
  | .powerOnStart => Sys2Proof.Machine.execPowerOnStart s
  | .vinShortDip => Sys2Proof.Machine.execVinShortDip s
  | .nrstAssert => Sys2Proof.Machine.execNrstAssert s
  | .nrstRelease => Sys2Proof.Machine.execNrstRelease s
  | .thermalThrottleStart => Sys2Proof.Machine.execThermalThrottleStart s
  | .thermalThrottleEnd => Sys2Proof.Machine.execThermalThrottleEnd s
  | .vcamLow => Sys2Proof.Machine.execVcamLow s
  | .heartbeatLoss => Sys2Proof.Machine.execHeartbeatLoss s
  | .lstopHoldExpiry => Sys2Proof.Machine.execLstopHoldExpiry s
  | .myceliumDrained => Sys2Proof.Machine.execMyceliumDrained s
  | .modeCommit => Sys2Proof.Machine.execModeCommit s
  | .modeEntryTimeout => Sys2Proof.Machine.execModeEntryTimeout s
  | .modeExit => Sys2Proof.Machine.execModeExit s
  | .wakeTimerExpiry => Sys2Proof.Machine.execWakeTimerExpiry s
  | .hostPkgTimeout => Sys2Proof.Machine.execHostPkgTimeout s
  | .spores => Sys2Proof.Machine.execSpores s
  | .supervisor => Sys2Proof.Machine.execSupervisor s
  | .supStartTimeout => Sys2Proof.Machine.execSupStartTimeout s
  | .hold => Sys2Proof.Machine.execHold s
  | .ready => Sys2Proof.Machine.execReady s
  | .stageTimeout => Sys2Proof.Machine.execStageTimeout s
  | .warmStart => Sys2Proof.Machine.execWarmStart s
  | .saveCfg => Sys2Proof.Machine.execSaveCfg s
  | .perstAssert => Sys2Proof.Machine.execPerstAssert s
  | .functionLevelReset => Sys2Proof.Machine.execFunctionLevelReset s
  | .linkDown => Sys2Proof.Machine.execLinkDown s
  | .imageCommit => Sys2Proof.Machine.execImageCommit s
  | .storeComplete => Sys2Proof.Machine.execStoreComplete s
  | .keyrecApplied => Sys2Proof.Machine.execKeyrecApplied s
  | .routeChangeComplete => Sys2Proof.Machine.execRouteChangeComplete s
  | .routeChangeTimeout => Sys2Proof.Machine.execRouteChangeTimeout s
  | .speedPeriodTick => Sys2Proof.Machine.execSpeedPeriodTick s
  | .convPeriodTick => Sys2Proof.Machine.execConvPeriodTick s
  | .imagePresenceReport => Sys2Proof.Machine.execImagePresenceReport s
  | .timeEntryDue => Sys2Proof.Machine.execTimeEntryDue s
  | .ejLogRead => Sys2Proof.Machine.execEjLogRead s
  | .motionFreerun => Sys2Proof.Machine.execMotionFreerun s
  | .stepApply => Sys2Proof.Machine.execStepApply s
  | .samplePop => Sys2Proof.Machine.execSamplePop s
  | .evtPop => Sys2Proof.Machine.execEvtPop s
  | .ptpSnapshotRead => Sys2Proof.Machine.execPtpSnapshotRead s
  | .ptpOfsRead => Sys2Proof.Machine.execPtpOfsRead s
  | .quiesceTimeout => Sys2Proof.Machine.execQuiesceTimeout s
  | .topologyRetry => Sys2Proof.Machine.execTopologyRetry s
  | .unmap => Sys2Proof.Machine.execUnmap s
  | .mapR => Sys2Proof.Machine.execMapR s
  | .mapRw => Sys2Proof.Machine.execMapRw s
  | .mmuOpComplete => Sys2Proof.Machine.execMmuOpComplete s
  | .faultRecordPop => Sys2Proof.Machine.execFaultRecordPop s
  | .deadlineUpdate => Sys2Proof.Machine.execDeadlineUpdate s
  | .cplLogRead => Sys2Proof.Machine.execCplLogRead s
  | .reshardEnd => Sys2Proof.Machine.execReshardEnd s
  | .adpWrite => Sys2Proof.Machine.execAdpWrite s
  | .adpStage => Sys2Proof.Machine.execAdpStage s
  | .adpPublish => Sys2Proof.Machine.execAdpPublish s
  | .adpClear => Sys2Proof.Machine.execAdpClear s
  | .adpDescRead => Sys2Proof.Machine.execAdpDescRead s
  | .augJob => Sys2Proof.Machine.execAugJob s
  | .annealProblem => Sys2Proof.Machine.execAnnealProblem s
  | .sweepEnd => Sys2Proof.Machine.execSweepEnd s
  | .annResultWrite => Sys2Proof.Machine.execAnnResultWrite s
  | .timingWindowArm => Sys2Proof.Machine.execTimingWindowArm s
  | .verdictRecordWrite => Sys2Proof.Machine.execVerdictRecordWrite s
  | .mbxReadyAge => Sys2Proof.Machine.execMbxReadyAge s
  | .wqEntrySubmit => Sys2Proof.Machine.execWqEntrySubmit s
  | .runsetApply => Sys2Proof.Machine.execRunsetApply s
  | .spiEntryStart => Sys2Proof.Machine.execSpiEntryStart s
  | .spiCplPop => Sys2Proof.Machine.execSpiCplPop s
  | .sclTimeout => Sys2Proof.Machine.execSclTimeout s
  | .busFree => Sys2Proof.Machine.execBusFree s
  | .twinCommit => Sys2Proof.Machine.execTwinCommit s
  | .i2cCplPop => Sys2Proof.Machine.execI2cCplPop s
  | .i2cTlogPop => Sys2Proof.Machine.execI2cTlogPop s
  | .deferLong => Sys2Proof.Machine.execDeferLong s
  | .countersRecord => Sys2Proof.Machine.execCountersRecord s
  | .ejectTailRecord => Sys2Proof.Machine.execEjectTailRecord s
  | .journalRead => Sys2Proof.Machine.execJournalRead s
  | .timeValuesResume => Sys2Proof.Machine.execTimeValuesResume s
  | .i2cBusStart => Sys2Proof.Machine.execI2cBusStart s
  | .targetSclTimeout => Sys2Proof.Machine.execTargetSclTimeout s
  | .fieldMapCopiesWritten => Sys2Proof.Machine.execFieldMapCopiesWritten s
  | .runSetStored => Sys2Proof.Machine.execRunSetStored s
  | .bankDischargeFloor => Sys2Proof.Machine.execBankDischargeFloor s

end Sys2Proof.Machine
end

