-- ==== Sys2Proof/Machine/Idle.lean ====
section
/-! DEFINITION. Idle: what happens at a TIME cycle with no command waiting. -/

namespace Sys2Proof.Machine

/-- One TIME cycle of 8 ns: where TIME is clocked, a pending step takes effect, both counts advance, and the MOTION
copy takes MONO again once MONO has passed it (R332, R337, R346). [Log 2 DESIGN CHOICE] -/
def State.idle (s : State) : State :=
  let s := { s with now := s.now + 8 }
  if s.time.runs then s.stepApply.tick.copyCheck else s

end Sys2Proof.Machine
end

