-- ==== Sys2Proof/WellFormed.lean ====
section
/-! DEFINITION. WellFormed: the operands of a command name something the device can have: a lane of 24, a port of 8, a
gill of 64, a value of 32 bits (R3, R11, R12, R218). -/

namespace Sys2Proof

/-- A value of a 32-bit register. -/
def w32 (v : Nat) : Bool := decide (v < 2 ^ 32)

/-- A finding of the self-test names tiles and routers of the die; a link joins two neighbours of the 8 by 8 mesh (R172). -/
def Finding.wf (f : Finding) : Bool :=
  match f with
  | .tile g t => decide (g < 64) && decide (t < 68)
  | .router g => decide (g < 64)
  | .link a b => decide (a < 64) && decide (b < 64) && (a + 8 == b || b + 8 == a
      || (a / 8 == b / 8 && (a + 1 == b || b + 1 == a)))

/-- The operands of a command are in range. -/
def Instr.wf (i : Instr) : Bool :=
  match i with
  | .registerWrite off size value => decide (off < 2 ^ 21) && [1, 2, 4, 8].contains size && w32 value
  | .rcRead off size => decide (off < 2 ^ 21) && [1, 2, 4, 8].contains size
  | .lowWordRead off => decide (off < 2 ^ 21)
  | .heldAccessPerform => true
  | .powerOnStart => true
  | .inputLoss _ => true
  | .overvoltageLockout _ => true
  | .vinShortDip => true
  | .nrstAssert => true
  | .nrstRelease => true
  | .internalReset _ => true
  | .thermalThrottleStart => true
  | .thermalThrottleEnd => true
  | .thermalTrip _ => true
  | .holdupEstimateTick _ _ => true
  | .holdupCapMeasured uf => decide (uf < 65536)
  | .pocxpDetectDone lane _ => decide (lane < 24)
  | .pocxpOvercurrent lane => decide (lane < 24)
  | .pocxpFaultClear value => w32 value
  | .vcamLow => true
  | .encSupplyFault chan => decide (chan < 4)
  | .vejSupplyLow group => decide (group < 2)
  | .readbackCheck out _ _ => decide (out < 16)
  | .outputOvercurrent out => decide (out < 16)
  | .heartbeatLoss => true
  | .relayPositionCheck _ => true
  | .relayRequestWrite value => w32 value
  | .diEdgeQualified input _ _ => decide (input < 8)
  | .diCfgWrite value => w32 value
  | .lstopHoldExpiry => true
  | .lstopRelease value => w32 value
  | .pllLockTimeout domain => decide (domain < 9)
  | .clockFailure domain => decide (domain < 9)
  | .modeRequest value => w32 value
  | .myceliumDrained => true
  | .modeCommit => true
  | .modeEntryTimeout => true
  | .modeRollback _ => true
  | .modeExit => true
  | .exitComplete _ => true
  | .wakeTimerExpiry => true
  | .wakePatternComplete lane _ => decide (lane < 24)
  | .clocks _ => true
  | .fuses _ => true
  | .selftest found => found.all Finding.wf
  | .map _ _ _ => true
  | .train _ _ _ => true
  | .fwload _ _ => true
  | .pkgReady => true
  | .hostPkgTimeout => true
  | .spores => true
  | .sporeAckTimeout gill spore => decide (gill < 64) && decide (spore < 65536)
  | .supervisor => true
  | .supStartTimeout => true
  | .image => true
  | .hold => true
  | .ready => true
  | .stageTimeout => true
  | .coldStart _ => true
  | .warmStart => true
  | .saveCfg => true
  | .fieldAddition entry => w32 entry
  | .perstAssert => true
  | .functionLevelReset => true
  | .linkDown => true
  | .load src => decide (src < 4)
  | .imageCommit => true
  | .unload src => decide (src < 4)
  | .store src => decide (src < 4)
  | .storeComplete => true
  | .keyrec src => decide (src < 4)
  | .keyrecApplied => true
  | .routeSetChange value => w32 value
  | .epochBoundary _ => true
  | .routeRelease _ => true
  | .routeChangeComplete => true
  | .routeChangeTimeout => true
  | .edgeAccepted chan mask _ => decide (chan < 4) && decide (mask < 8)
  | .glitchFault chan => decide (chan < 4)
  | .serialPoll chan => decide (chan < 4)
  | .serialReading chan _ => decide (chan < 4)
  | .wireDisagree chan pair => decide (chan < 4) && decide (pair < 3)
  | .wireFault chan pair => decide (chan < 4) && decide (pair < 3)
  | .wireFaultClear chan pair => decide (chan < 4) && decide (pair < 3)
  | .speedPeriodTick => true
  | .countGateEnd chan => decide (chan < 4)
  | .chCfgWrite chan value => decide (chan < 4) && w32 value
  | .speedThresholdWrite chan _ value => decide (chan < 4) && w32 value
  | .convPeriodTick => true
  | .trkCfgWrite value => w32 value
  | .imagePresenceReport => true
  | .trackDeclare value => w32 value
  | .trackCommit value => w32 value
  | .trackUnitMessage gill => decide (gill < 64)
  | .gateEnable gate value => decide (gate < 16) && w32 value
  | .gateOffsetWrite gate which value => decide (gate < 16) && decide (which < 3) && w32 value
  | .armCommand value => w32 value
  | .timeEntryDue => true
  | .delayEnd out => decide (out < 16)
  | .pulseEnd out => decide (out < 16)
  | .gapEnd out => decide (out < 16)
  | .maxOn out => decide (out < 16)
  | .deferExpired out => decide (out < 16)
  | .ejCtrlWrite value => w32 value
  | .outCfgWrite out value => decide (out < 16) && w32 value
  | .flush out value => decide (out < 16) && w32 value
  | .ejLogRead => true
  | .motionFreerun => true
  | .rateWrite value => w32 value
  | .stepRequest value => w32 value
  | .stepApply => true
  | .ptpCfgWrite value => w32 value
  | .ptpRx port _ _ _ domain _ _ => decide (port < 2) && decide (domain < 256)
  | .ptpTx port _ _ _ _ => decide (port < 2)
  | .ptpSample port _ _ _ => decide (port < 2)
  | .holdover port => decide (port < 2)
  | .samplePop => true
  | .evtPop => true
  | .ptpSnapshotRead => true
  | .ptpOfsRead => true
  | .markArm value => w32 value
  | .portEnable port value => decide (port < 8) && w32 value
  | .pocxpPowered port => decide (port < 8)
  | .discover port _ => decide (port < 8)
  | .config port _ => decide (port < 8)
  | .cameraLinkDown port lane => decide (port < 8) && decide (lane < 24)
  | .downRetry port => decide (port < 8)
  | .resyncEnd port => decide (port < 8)
  | .ctrlTransaction port value => decide (port < 8) && w32 value
  | .ctrlAck port _ _ _ _ => decide (port < 8)
  | .ctrlTimeout port => decide (port < 8)
  | .frameTimeTrigger port => decide (port < 8)
  | .softTrigger port value => decide (port < 8) && w32 value
  | .delayedTrigger port => decide (port < 8)
  | .trigCfgWrite port value => decide (port < 8) && w32 value
  | .streamPacket port lane tag _ _ _ _ _ => decide (port < 8) && decide (lane < 16) && decide (tag < 256)
  | .imageHeader port lane tag _ _ _ => decide (port < 8) && decide (lane < 16) && decide (tag < 256)
  | .lineTimeout port => decide (port < 8)
  | .frameTimeout port => decide (port < 8)
  | .pipelineLine pipe => decide (pipe < 4)
  | .partImageComplete pipe => decide (pipe < 4)
  | .throughMemoryFrame pipe => decide (pipe < 4)
  | .rebindRequest port value => decide (port < 8) && w32 value
  | .rebindSwitch port => decide (port < 8)
  | .outHeadWrite pipe value => decide (pipe < 4) && w32 value
  | .pipeCellWrite pipe value => decide (pipe < 4) && w32 value
  | .txL0 lane => decide (lane < 24)
  | .txL1 lane => decide (lane < 24)
  | .txL2 lane => decide (lane < 24)
  | .txOff lane => decide (lane < 24)
  | .txWake lane => decide (lane < 24)
  | .prbsOn lane => decide (lane < 24)
  | .prbsOff lane => decide (lane < 24)
  | .rxStateCommand lane value => decide (lane < 24) && w32 value
  | .synthCalDone quad _ => decide (quad < 6)
  | .synthLocked quad _ => decide (quad < 6)
  | .heldCommandTimeout lane => decide (lane < 24)
  | .fastRelock lane => decide (lane < 24)
  | .wakeGuardExpiry lane => decide (lane < 24)
  | .retrainComplete lane _ => decide (lane < 24)
  | .lossOfSignal lane => decide (lane < 24)
  | .loopWrite lane value => decide (lane < 24) && w32 value
  | .prbsCheckerEnable lane value => decide (lane < 24) && w32 value
  | .ringEnable value => w32 value
  | .ringTest value => w32 value
  | .linkTrainingDone side _ => decide (side < 2)
  | .trainRetry side => decide (side < 2)
  | .ringFrame side _ _ => decide (side < 2)
  | .ack side _ => decide (side < 2)
  | .nak side _ => decide (side < 2)
  | .ackTimeout side => decide (side < 2)
  | .linkSleep side => decide (side < 2)
  | .ringDiscover side _ _ => decide (side < 2)
  | .quiesce side _ => decide (side < 2)
  | .quiesced side _ => decide (side < 2)
  | .switch side _ _ _ epoch => decide (side < 2) && decide (epoch < 65536)
  | .ringLinkDown side _ => decide (side < 2)
  | .layoutReq side _ _ => decide (side < 2)
  | .layoutAns side _ _ => decide (side < 2)
  | .layoutRequest value => w32 value
  | .quiesceTimeout => true
  | .topologyRetry => true
  | .linkTmoExpiry side _ => decide (side < 2)
  | .bundleIssue gill => decide (gill < 64)
  | .globalLoadResponse gill slot _ _ => decide (gill < 64) && decide (slot < 16)
  | .gillMemFaultStop gill => decide (gill < 64)
  | .syncGrant cell => decide (cell < 4096)
  | .timedOpTimeout gill => decide (gill < 64)
  | .queueMessageArrival gill port src _ => decide (gill < 64) && decide (port < 16) && decide (src < 65536)
  | .queueCreditReturn gill port => decide (gill < 64) && decide (port < 16)
  | .fenceComplete gill => decide (gill < 64)
  | .invocationEnd gill => decide (gill < 64)
  | .dbgHalt gill => decide (gill < 64)
  | .dbgResume gill => decide (gill < 64)
  | .dbgStep gill => decide (gill < 64)
  | .boxdec eng item _ => decide (eng < 16) && decide (item < 256)
  | .nms eng item _ => decide (eng < 16) && decide (item < 256)
  | .unmap => true
  | .mapR => true
  | .mapRw => true
  | .mmuOpComplete => true
  | .faultRecordPop => true
  | .transactionResponse gill slot _ _ _ chan _ _ _ => decide (gill < 64) && decide (slot < 16) && decide (chan < 4)
  | .refresh chan _ => decide (chan < 4)
  | .zqCalibration chan => decide (chan < 4)
  | .mr4Read chan range => decide (chan < 4) && decide (range < 4)
  | .controllerWatchdog chan _ => decide (chan < 4)
  | .dmaSubmit eng value => decide (eng < 16) && w32 value
  | .chainStart eng => decide (eng < 16)
  | .copy eng item => decide (eng < 16) && decide (item < 256)
  | .fill eng item => decide (eng < 16) && decide (item < 256)
  | .copy2d eng item => decide (eng < 16) && decide (item < 256)
  | .signal eng item => decide (eng < 16) && decide (item < 256)
  | .chainEnd eng => decide (eng < 16)
  | .dmaAbort eng _ => decide (eng < 16)
  | .syncAdd cell value => decide (cell < 4096) && w32 value
  | .syncReset cell => decide (cell < 4096)
  | .submit value => w32 value
  | .workMessage gill => decide (gill < 64)
  | .deadlineUpdate => true
  | .dispatch executor => decide (executor < 65536)
  | .stealToken _ => true
  | .quantumExpiry work => w32 work
  | .preemptDrainDone work => w32 work
  | .saveComplete work _ => w32 work
  | .restoreComplete work _ => w32 work
  | .stateSwapComplete gill => decide (gill < 64)
  | .gangEnd work => w32 work
  | .workCancel value => w32 value
  | .cplLogRead => true
  | .reshardEnd => true
  | .walk _ => true
  | .insert _ => true
  | .release _ => true
  | .pin _ => true
  | .unpin _ => true
  | .evict _ => true
  | .gather _ _ => true
  | .publish _ => true
  | .pfxFormat value => w32 value
  | .adpWrite => true
  | .adpStage => true
  | .adpPublish => true
  | .adpClear => true
  | .adpDescRead => true
  | .augJob => true
  | .annealProblem => true
  | .sweepEnd => true
  | .annResultWrite => true
  | .annAbort value => w32 value
  | .timingWindowArm => true
  | .vcStall _ _ _ => true
  | .mbxEnable value => w32 value
  | .verdictRecordWrite => true
  | .mbxHeadWrite value => w32 value
  | .mbxReadyAge => true
  | .irqPendClear value => w32 value
  | .wqDoorbell value => w32 value
  | .wqEntrySubmit => true
  | .bar2Access off _ _ => decide (off < 2 ^ 35)
  | .hostWindowAccess _ => true
  | .hostWindowTimeout _ cause => decide (1 ≤ cause) && decide (cause ≤ 3)
  | .runsetSave _ _ => true
  | .runsetApply => true
  | .spiPush value => w32 value
  | .spiEntryStart => true
  | .spiEntryEnd _ _ => true
  | .spiAbort value _ _ _ => w32 value
  | .spiCplPop => true
  | .i2cPush value => w32 value
  | .i2cCommandStart _ => true
  | .i2cCommandEnd _ => true
  | .arbitrationLost _ _ _ => true
  | .sclTimeout => true
  | .busFree => true
  | .targetTransaction _ _ _ => true
  | .targetTransactionEnd _ => true
  | .twinCommit => true
  | .i2cAbort value _ _ => w32 value
  | .i2cCplPop => true
  | .i2cTlogPop => true
  | .stageRecord ty _ => decide (1 ≤ ty) && decide (ty ≤ 9)
  | .pageProgram _ => true
  | .flushMsExpiry _ => true
  | .journalFlush _ => true
  | .deferLong => true
  | .subsectorErase _ => true
  | .countersRecord => true
  | .ejectTailRecord => true
  | .holdupFinalPage _ => true
  | .journalRead => true
  | .ethernetLinkChange port _ => decide (port < 2)
  | .perstRelease _ => true
  | .pcieLinkUp speed width => decide (1 ≤ speed) && decide (speed ≤ 4) && [1, 2, 4, 8].contains width
  | .configSpaceWrite _ => true
  | .aerError _ => true
  | .supplyLowCleared which => decide (which < 3)
  | .wireDisagreeEnd chan pair => decide (chan < 4) && decide (pair < 3)
  | .sleepBlocksReceived side _ => decide (side < 2)
  | .timeValuesResume => true
  | .i2cBusStart => true
  | .targetSclTimeout => true
  | .fieldMapCopiesWritten => true
  | .runSetStored => true
  | .switchPositionReached _ => true
  | .bankDischargeFloor => true
  | .prbsLockAcquired lane => decide (lane < 24)
  | .prbsLockLost lane => decide (lane < 24)
  | .cxpEventPacket port _ => decide (port < 8)

end Sys2Proof
end

