-- ==== Sys2Proof/Safety.lean ====
section
/-! DEFINITION. Safety: what counts as a safe step, in the terms the statements use: a command that completes, the parts of
the state a command may change, memory in its canonical form, and a history that is never taken back. -/

namespace Sys2Proof.Machine

/-- A command completes in a state with a next state of which `p` holds. -/
def Completes (c : Instr) (s : State) (p : State → Prop) : Prop := ∃ t, exec c s = .next t ∧ p t

/-- A property that every step keeps. -/
def Kept (p : State → Prop) : Prop := ∀ s t, p s → step s = .next t → p t

/-- The parts of the state. -/
inductive Part where
  | regs | mem | bus | now | free | time | pwr | mode | img | boot | mmu | sram | dma | chainsDone | waits | gill
  | flights | sched | tw | mot | cam | lanes | ring | pfx | ann | jrn | mbx | spi | i2c | out | pending
  deriving DecidableEq, Repr

/-- A part is the same in two states. -/
def Part.same (p : Part) (s t : State) : Prop :=
  match p with
  | .regs => t.regs = s.regs
  | .mem => t.mem = s.mem
  | .bus => t.bus = s.bus
  | .now => t.now = s.now
  | .free => t.free = s.free
  | .time => t.time = s.time
  | .pwr => t.pwr = s.pwr
  | .mode => t.mode = s.mode
  | .img => t.img = s.img
  | .boot => t.boot = s.boot
  | .mmu => t.mmu = s.mmu
  | .sram => t.sram = s.sram
  | .dma => t.dma = s.dma
  | .chainsDone => t.chainsDone = s.chainsDone
  | .waits => t.waits = s.waits
  | .gill => t.gill = s.gill
  | .flights => t.flights = s.flights
  | .sched => t.sched = s.sched
  | .tw => t.tw = s.tw
  | .mot => t.mot = s.mot
  | .cam => t.cam = s.cam
  | .lanes => t.lanes = s.lanes
  | .ring => t.ring = s.ring
  | .pfx => t.pfx = s.pfx
  | .ann => t.ann = s.ann
  | .jrn => t.jrn = s.jrn
  | .mbx => t.mbx = s.mbx
  | .spi => t.spi = s.spi
  | .i2c => t.i2c = s.i2c
  | .out => t.out = s.out
  | .pending => t.pending = s.pending

/-- Every part but the ones listed is unchanged. -/
def OnlyParts (l : List Part) (s t : State) : Prop := ∀ p, p ∉ l → p.same s t

/-- Every register but those at the offsets listed reads as before. -/
def OnlyRegs (l : List Nat) (s t : State) : Prop := ∀ r : Reg, r.off ∉ l → t.rd r = s.rd r

/-- The registers a status report may change beside the LAST_STS it goes to: the pending interrupts and the PBA, and the
journal's counters (R660, R661, R712). -/
def reportRegs : List Nat := [0xA0800, 0xA3000, 0xA3004, 0x4008, 0x400C, 0x4010, 0x403C]

/-- The parts a status report may change (R25, R661, R712): registers, the journal's staging, the statuses kept before the
journal is there, the messages sent, the free values taken. -/
def reportParts : List Part := [.regs, .jrn, .boot, .out, .free]

/-- Device memory, tile SRAM and the register file are in the canonical form of Sparse. -/
abbrev MemCanon (s : State) : Prop :=
  Sparse.wf (fun _ => (0 : Byte)) s.mem = true ∧ Sparse.wf (fun _ => (0 : Byte)) s.sram = true ∧
    Sparse.sorted s.regs = true

/-! ## The shape of the tables: each holds as many entries as the device has units of its kind -/

def NetTime.shaped (x : NetTime) : Bool := x.tx.length == 2
def Motion.shaped (x : Motion) : Bool := x.chans.length == 4 && x.outs.length == 16 && Sparse.sorted x.tracks
def Cams.shaped (x : Cams) : Bool := x.ports.length == 8 && x.pipes.length == 4
def Lanes.shaped (x : Lanes) : Bool := x.lane.length == 24 && x.synth.length == 6
def Ring.shaped (x : Ring) : Bool := x.sides.length == 2
def Mmu.shaped (x : Mmu) : Bool := x.lastZq.length == 4 && x.lastRef.length == 4 && x.lastMr4.length == 4
def Loader.shaped (x : Loader) : Bool := x.slots.length == 2

/-- The fixed tables have the lengths of the device: two ring sides and two PTP ports, four channels, sixteen outputs, eight
camera ports, four pipelines, twenty-four lanes in six quads, sixty-four gills, sixteen DMA engines, four memory channels,
two image slots; the track table's numbers rise. -/
def State.shaped (s : State) : Bool :=
  s.time.shaped && s.mot.shaped && s.cam.shaped && s.lanes.shaped && s.ring.shaped && s.mmu.shaped && s.img.shaped
    && s.gill.length == 64 && s.dma.length == 16

/-- Nothing is taken back: what has been sent stays sent, time does not run backward, no free value is taken twice, and the
commands that wait are the same. -/
structure History (s t : State) : Prop where
  out : s.out <:+ t.out
  now : s.now ≤ t.now
  free : s.free ≤ t.free
  pending : t.pending = s.pending

/-- Whether a BAR0 access reaches its block: bring-up is past it, its unit is present, its domain clocked (R17, R140,
R192). -/
def State.served (s : State) (off : Nat) : Bool :=
  !s.pwr.inReset && s.pmode != 4
    && (if s.bootState = 0 ∨ !s.boot.mapped then decide (off < 0x4000) && s.earlyServed
        else !s.absent off && !s.gated off)

/-- Registers, one or more of each block and the last of its instances, whose write does what their access types say and no
more (R13). -/
def plainOffs : List Nat :=
  [0x60, 0x100C, 0x1048, 0x1108, 0x2004, 0x300C, 0x3010, 0x4080, 0x5010, 0x57FC, 0x6010, 0x64FC, 0x8034, 0x8144, 0x10804,
    0x10AE4, 0x10304, 0x123C4, 0x12404, 0x27010, 0x2701C, 0x50114, 0x60008, 0x60804, 0x703C8, 0x8FFF8,
    0x9007C, 0x900A4, 0xA0600, 0xA081C, 0xB0008, 0xB803C, 0xBC014, 0x1FC024]

/-- Counters of every block, the last of their instances, that a read clears (R13). -/
def rcOffs : List Nat :=
  [0x301C, 0x4030, 0x5040, 0x6040, 0x8160, 0x8220, 0x10820, 0x10340, 0x12840, 0x123E0, 0x27040, 0x30C20, 0x45C40, 0x48020,
    0x48084, 0x5000C, 0x60020, 0x608A4, 0x70E04, 0x703D8, 0x900A8, 0x933F4, 0xA0040, 0xB0020, 0xB8040, 0xBC020, 0xC0020,
    0x1FC010]

/-- Whether a context may read and write `n` bytes at a VA that is its own physical address: no translation changes or has
been changed, no block holds a memory error, and every MEMORY record of the image lets the context write. -/
def State.dataRange (s : State) (ctx va n : Nat) : Bool :=
  s.mmu.op.isEmpty && s.mmu.remap.isEmpty && s.mmu.bad.isEmpty && s.mmu.weak.isEmpty && decide (va + n ≤ s.memBytes)
    && decide (va + n ≤ 2 ^ 38) && ctx != 7 && ctx != 13
    && (match s.img.active with
        | some im => im.mems.all (fun m => m.writers.testBit ctx) && im.mems.any (fun m => decide (m.base ≤ va ∧ va + n ≤ m.base + m.size))
        | none => false)

/-- The annealing problem at a VA that the annealer may read whole and that passes its checks. -/
def State.goodProblem (s : State) (va : Nat) : Option AnnProb :=
  let hb := s.bytes va 64
  let p := readProb hb
  let sb := s.bytes p.spinVa (4 * p.n)
  let total := spinTotal (cutSpins p.n sb)
  let q := p.fill (s.bytes (va + 64) (4 * p.replicas)) sb (s.bytes p.coupVa (4 * total))
  if s.dataRange 8 va 64 && (p.headBad hb).isNone && s.dataRange 8 (va + 64) (4 * p.replicas) && s.dataRange 8 p.spinVa (4 * p.n)
      && s.dataRange 8 p.coupVa (4 * total) && q.2.isNone then some q.1 else none

/-- The request that the prefix unit takes next from a source, the list of its work or a gill, when no gather runs and no new
list waits to be read. -/
def State.pfxAsk (s : State) (gill : Option Nat) : Option PReq :=
  if s.pfx.gather.isNone && (s.pfx.list.isSome || s.sched.works.all (fun w => !w.handed)) then
    match s.pfxNext gill with
    | some (q, _, true) => some q
    | _ => none
  else none

/-- A request of a source has been answered with status 0: the last of a list has ended the work, another has left the list,
and a gill's answer is on its way to it. -/
def State.pfxAnswered (s t : State) (gill : Option Nat) : Bool :=
  match gill with
  | none =>
    match s.pfx.list with
    | some (id, [_]) => t.pfx.list.isNone && t.chainsDone.getLast? == some ⟨id, 0⟩
    | l => t.pfx.list == l.map (fun e => (e.1, e.2.tail))
  | some g => t.flights.getLast?.any (fun f => f.dst == 0x1000 + g && f.words.length == 4 && f.words.headD 0 % 65536 == 0)

/-- Whether `n` bytes at a VA lie in the tile window, in the local memory of gills that are present. -/
def State.tileRange (s : State) (va n : Nat) : Bool := decide (2 ^ 39 ≤ va) && decide (va + n ≤ 2 ^ 39 + 2 ^ 22 * s.gills)

end Sys2Proof.Machine
end

