-- ==== Sys2Proof/Frame.lean ====
section
/-! DEFINITION. Frame: for every command, the parts of the state and the registers it may change, over all its paths: what
stands in neither list is unchanged. `none` for the registers says that the command may change any of them (starts, resets,
and the general accesses of the bus). -/

namespace Sys2Proof.Frame

open Sys2Proof.Machine

/-- The offset of one register. -/
def one (r : Reg) (_ : Nat) : Nat := r.off
/-- The offsets of an array of registers. -/
def all (r : Nat → Reg) (k : Nat) : Nat := (r k).off
/-- A span of `n` offsets. -/
def span (lo n k : Nat) : Nat := lo + k % n

/-- Every register outside the rows listed reads as before. -/
def OnlyRows (l : List (Nat → Nat)) (s t : State) : Prop := ∀ r : Reg, (∀ f ∈ l, ∀ k, r.off ≠ f k) → t.rd r = s.rd r

/-- Registers of a status report (R25, R661, R712). -/
def reportRows : List (Nat → Nat) :=
  [one R.JRN_CNT_DROP, one R.JRN_SEQ, one R.JRN_STAGE, one R.JRN_STATUS, one R.MBX_IRQ_PEND, all R.MBX_MSIX_PBA]

/-- Registers of the end of a track and what its verdict starts. -/
def trackRows : List (Nat → Nat) :=
  [one R.CLK_FAIL, one R.EJ_LATE_CNT, one R.EJ_LOG_LOST, one R.EJ_LOG_TAIL, one R.EJ_LSTOP,
    all R.EJ_OUT_CNT_COALESCED, all R.EJ_OUT_CNT_DEFERRED, all R.EJ_OUT_CNT_EXTENDED, all R.EJ_OUT_CNT_FIRED,
    all R.EJ_OUT_CNT_SKIPPED, all R.EJ_OUT_HEAD_HI, all R.EJ_OUT_HEAD_LO, all R.EJ_OUT_STATUS, one R.EJ_OVF_CNT,
    one R.EJ_POL_STATUS, all R.GILL_LOOP, all R.GILL_STATUS, all R.JRN_TOT, one R.MBX_RSEQ_NEXT, one R.MESH_TW_CTRL,
    one R.MESH_TW_RUN_NS, one R.MOT_TRK_ACTIVE, one R.MOT_TRK_STATUS, one R.SCHED_CPL_LOST, one R.SCHED_CPL_TAIL,
    all R.SCHED_GILL_RES, all R.SCHED_P_STATUS, all R.SCHED_Q_DONE, all R.SCHED_Q_FAILED, all R.SCHED_Q_STATUS,
    one R.SCHED_STATUS, all R.SYNC_COUNT, all R.SYNC_STATE]

/-- Registers of a read of memory that may fail. -/
def readRows : List (Nat → Nat) :=
  [all R.JRN_TOT, one R.MBX_CNT_HWIN_FAULT, one R.MBX_HSTATUS, all R.MEM_CH_CNT_CORR, all R.MEM_CH_CNT_UNCORR,
    all R.MEM_CH_UNCORR_HI, all R.MEM_CH_UNCORR_LO, one R.MEM_ECC_STATUS, one R.MESH_PROG_STATUS,
    one R.MMU_CNT_FAULTS, one R.MMU_CNT_WALKS, one R.MMU_FQ_LOST, one R.MMU_STATUS]

/-- Registers of an ejector output and its log. -/
def ejectorRows : List (Nat → Nat) :=
  [one R.CLK_FAIL, one R.EJ_LOG_LOST, one R.EJ_LOG_TAIL, all R.EJ_OUT_CNT_COALESCED, all R.EJ_OUT_CNT_DEFERRED,
    all R.EJ_OUT_CNT_EXTENDED, all R.EJ_OUT_CNT_FIRED, all R.EJ_OUT_CNT_SKIPPED, all R.EJ_OUT_HEAD_HI,
    all R.EJ_OUT_HEAD_LO, all R.EJ_OUT_STATUS, one R.EJ_POL_STATUS]

/-- Registers of the end of an image. -/
def imageRows : List (Nat → Nat) :=
  [span 0x10900 512, span 0x12800 64, span 0x80000 65536, one R.ADP_INFLIGHT, one R.BOOT_IMG_ACTIVE,
    one R.BOOT_IMG_DETAIL, all R.BOOT_IMG_DIGEST, one R.BOOT_IMG_REV, one R.BOOT_IMG_STATUS, all R.CXP_BIND,
    all R.CXP_CNT_UNDELIV, all R.CXP_FB_STATUS, all R.CXP_PORT_CFG, all R.CXP_PORT_STATUS, all R.DMA_CNT_CHAINS,
    all R.DMA_CNT_FAILED, all R.DMA_CNT_ITEMS, all R.DMA_ENG_STATUS, all R.DMA_SUB_STATUS, all R.EJ_OUT_CFG,
    all R.GILL_LOOP, all R.GILL_STATUS, all R.ISP_PIPE_STATUS, all R.JRN_TOT, all R.LANE_CNT_WAKE, all R.LANE_STATUS,
    one R.MBX_CNT_HWIN_FAULT, one R.MBX_CTRL, one R.MBX_HSTATUS, all R.MEM_CH_CNT_CORR, all R.MEM_CH_CNT_UNCORR,
    all R.MEM_CH_UNCORR_HI, all R.MEM_CH_UNCORR_LO, one R.MEM_ECC_STATUS, one R.MESH_PROG_STATUS, one R.MESH_ROUTESET,
    one R.MMU_CNT_FAULTS, one R.MMU_CNT_WALKS, one R.MMU_FQ_LOST, one R.MMU_STATUS, all R.MOT_GATE_CFG,
    one R.PFX_STATUS, one R.PFX_USED, all R.PTP_PORT_STATUS, one R.RING_LAYOUT, all R.RING_SIDE_STATUS,
    one R.RING_STATUS, one R.RING_TOPO, all R.SCHED_GILL_RES, all R.SCHED_P_QUANTUM, all R.SCHED_Q_CFG,
    all R.SYNC_COUNT, all R.SYNC_STATE, all R.SYS_REPRO_DIGEST]

/-- Registers of a submission to the scheduler. -/
def submissionRows : List (Nat → Nat) :=
  [one R.MESH_TW_CTRL, one R.MESH_TW_RUN_NS, one R.SCHED_CPL_LOST, one R.SCHED_CPL_TAIL, all R.SCHED_P_STATUS,
    all R.SCHED_Q_ADMITTED, all R.SCHED_Q_DONE, all R.SCHED_Q_DOOMED, all R.SCHED_Q_FAILED, all R.SCHED_Q_REFUSED,
    all R.SCHED_Q_STATUS, one R.SCHED_STATUS, one R.SCHED_SUB_ID, one R.SCHED_SUB_STATUS, all R.SYNC_COUNT,
    all R.SYNC_STATE]

/-- Registers of a frame sent on the ring. -/
def ringRows : List (Nat → Nat) :=
  [all R.LANE_CNT_WAKE, all R.LANE_STATUS, all R.RING_SIDE_FRAMES_TX, all R.RING_SIDE_STATUS]

/-- Registers of a write of memory that may fail. -/
def writeRows : List (Nat → Nat) :=
  [one R.MBX_CNT_HWIN_FAULT, one R.MBX_HSTATUS, one R.MMU_CNT_FAULTS, one R.MMU_FQ_LOST, one R.MMU_STATUS]

/-- Registers of a loss of the input. -/
def lossRows : List (Nat → Nat) :=
  [one R.ANN_STATUS, one R.BOOT_IMG_STATUS, one R.CLK_FAIL, one R.CLK_STATUS, one R.EJ_LOG_LOST, one R.EJ_LOG_TAIL,
    one R.EJ_LSTOP, all R.EJ_OUT_CNT_COALESCED, all R.EJ_OUT_CNT_DEFERRED, all R.EJ_OUT_CNT_EXTENDED,
    all R.EJ_OUT_CNT_FIRED, all R.EJ_OUT_CNT_SKIPPED, all R.EJ_OUT_HEAD_HI, all R.EJ_OUT_HEAD_LO, all R.EJ_OUT_STATUS,
    one R.EJ_POL_STATUS, one R.I2C_CNT_CMDS, one R.I2C_CNT_TGT_TXN, one R.I2C_FILL, one R.I2C_STATUS,
    all R.I2C_TWIN_LIVE, one R.JRN_CNT_FLASH_FAIL, one R.JRN_CNT_PAGES, one R.JRN_OLDEST, one R.JRN_RUNWAY,
    one R.JRN_START_CNT, all R.JRN_TOT, one R.JRN_WRPTR, all R.LANE_CNT_WAKE, all R.LANE_STATUS, one R.MBX_LINK,
    all R.PTP_PORT_STATUS, one R.PWR_HOLDUP, one R.PWR_MODE_STATUS, one R.PWR_MOD_STATUS, one R.PWR_POCXP_STS,
    one R.SPI_CNT_ENTRIES, one R.SPI_CNT_FAILED, all R.SPI_RXBUF, one R.SPI_STATUS]

/-- Registers of a window and its triggers. -/
def windowRows : List (Nat → Nat) :=
  [all R.CXP_CNT_OVERRUN, all R.CXP_CNT_OVERTRIG, all R.CXP_CNT_UNDELIV, all R.CXP_PORT_STATUS, all R.CXP_WIN,
    all R.ISP_CNT_OUT_FULL, all R.ISP_PIPE_STATUS]

/-- Registers of the commit of an image. -/
def commitRows : List (Nat → Nat) :=
  [span 0x10900 512, span 0x12800 64, span 0x80000 65536, one R.ADP_INFLIGHT, one R.BOOT_IMG_ACTIVE,
    all R.BOOT_IMG_DIGEST, one R.BOOT_IMG_LOAD_MS, one R.BOOT_IMG_REV, one R.BOOT_IMG_STATUS, all R.CXP_BIND,
    all R.CXP_CNT_UNDELIV, all R.CXP_FB_STATUS, all R.CXP_PORT_CFG, all R.CXP_PORT_STATUS, all R.EJ_OUT_CFG,
    all R.GILL_LOOP, all R.GILL_STATUS, all R.ISP_PIPE_STATUS, all R.LANE_CNT_WAKE, all R.LANE_STATUS,
    one R.MBX_RSEQ_NEXT, one R.MESH_ROUTESET, all R.MOT_GATE_CFG, one R.PFX_STATUS, one R.PFX_USED,
    all R.PTP_PORT_STATUS, one R.RING_LAYOUT, all R.RING_SIDE_STATUS, one R.RING_STATUS, one R.RING_TOPO,
    all R.SCHED_GILL_RES, all R.SCHED_P_QUANTUM, all R.SCHED_Q_CFG, all R.SYNC_COUNT, all R.SYNC_STATE,
    all R.SYS_REPRO_DIGEST, one R.SYS_REPRO_STATUS]

/-- Registers of a bundle of a gill. -/
def bundleRows : List (Nat → Nat) :=
  [all R.DMA_ENG_STATUS, all R.GILL_CNT_BUNDLES, all R.GILL_CNT_GLOBAL, all R.GILL_CNT_STALL, all R.GILL_CNT_WAIT,
    all R.GILL_FAULT, all R.GILL_FAULT_INFO, all R.GILL_LOOP, all R.GILL_PC, all R.GILL_STATUS,
    one R.MESH_PROG_STATUS, one R.MESH_TW_G, one R.MESH_TW_REF_NS, one R.MESH_TW_RETRY_NS, all R.SYNC_COUNT,
    all R.SYNC_STATE]

/-- Registers of a fatal end of bring-up. -/
def fatalRows : List (Nat → Nat) :=
  [one R.SYS_BOOT_STATUS, one R.SYS_CAP_UNITS, one R.SYS_FATAL, one R.SYS_ID, one R.SYS_REV]

/-- The parts of the state a command may change. -/
def parts (c : Instr) : List Part :=
  match c with
  | .registerWrite _ _ _ => [.regs, .mem, .bus, .free, .time, .pwr, .mode, .img, .boot, .mmu, .sram, .dma,
    .chainsDone, .waits, .gill, .flights, .sched, .tw, .mot, .cam, .lanes, .ring, .pfx, .ann, .jrn, .mbx, .spi, .i2c,
    .out]
  | .rcRead _ _ => [.regs, .bus, .free, .time, .mode, .boot, .mmu, .mot, .jrn, .spi, .i2c, .out]
  | .lowWordRead _ => [.regs, .bus, .free, .time, .mode, .boot, .mmu, .mot, .jrn, .spi, .i2c, .out]
  | .inputLoss _ => [.regs, .mem, .bus, .free, .time, .pwr, .mode, .img, .boot, .sram, .mot, .lanes, .ann, .jrn, .spi,
    .i2c, .out]
  | .overvoltageLockout _ => [.regs, .mem, .bus, .free, .time, .pwr, .mode, .img, .boot, .sram, .mot, .lanes, .ann,
    .jrn, .spi, .i2c, .out]
  | .internalReset _ => [.regs, .mem, .bus, .free, .time, .pwr, .mode, .img, .boot, .mmu, .sram, .dma, .chainsDone,
    .waits, .gill, .flights, .sched, .tw, .mot, .cam, .lanes, .ring, .pfx, .ann, .jrn, .mbx, .spi, .i2c, .out]
  | .thermalTrip _ => [.regs, .mem, .bus, .free, .time, .pwr, .mode, .img, .boot, .mmu, .sram, .dma, .chainsDone,
    .waits, .gill, .flights, .sched, .tw, .mot, .cam, .lanes, .ring, .pfx, .ann, .jrn, .mbx, .spi, .i2c, .out]
  | .holdupEstimateTick _ _ => [.regs, .free, .boot, .jrn, .out]
  | .holdupCapMeasured _ => [.regs, .free, .boot, .jrn, .out]
  | .pocxpDetectDone _ _ => [.regs, .free, .pwr, .boot, .jrn, .out]
  | .pocxpOvercurrent _ => [.regs, .free, .boot, .jrn, .out]
  | .pocxpFaultClear _ => [.regs, .bus, .free, .pwr, .mode, .boot, .jrn, .out]
  | .encSupplyFault _ => [.regs, .free, .boot, .jrn, .out]
  | .vejSupplyLow _ => [.regs, .free, .boot, .mot, .jrn, .out]
  | .readbackCheck _ _ _ => [.regs, .free, .pwr, .boot, .mot, .jrn, .out]
  | .outputOvercurrent _ => [.regs, .free, .boot, .mot, .jrn, .out]
  | .relayPositionCheck _ => [.regs, .free, .pwr, .boot, .jrn, .out]
  | .relayRequestWrite _ => [.regs, .bus, .free, .pwr, .mode, .boot, .jrn, .out]
  | .diEdgeQualified _ _ _ => [.regs, .bus, .free, .time, .pwr, .mode, .boot, .waits, .gill, .sched, .tw, .mot, .cam,
    .jrn, .mbx, .out]
  | .diCfgWrite _ => [.regs, .bus, .free, .time, .pwr, .mode, .boot, .waits, .gill, .sched, .tw, .mot, .cam, .jrn,
    .mbx, .out]
  | .lstopRelease _ => [.regs, .bus, .free, .pwr, .mode, .boot, .jrn, .out]
  | .pllLockTimeout _ => [.regs, .free, .pwr, .mode, .boot, .mot, .jrn, .out]
  | .clockFailure _ => [.regs, .mem, .bus, .free, .time, .pwr, .mode, .img, .boot, .mmu, .sram, .dma, .chainsDone,
    .waits, .gill, .flights, .sched, .tw, .mot, .cam, .lanes, .ring, .pfx, .ann, .jrn, .mbx, .spi, .i2c, .out]
  | .modeRequest _ => [.regs, .bus, .free, .mode, .boot, .mot, .lanes, .jrn, .out]
  | .modeRollback _ => [.regs, .bus, .free, .mode, .boot, .sched, .tw, .mot, .lanes, .jrn, .out]
  | .exitComplete _ => [.regs, .bus, .free, .pwr, .mode, .boot, .sched, .tw, .mot, .lanes, .jrn, .out]
  | .wakePatternComplete _ _ => [.regs, .mode, .lanes]
  | .clocks _ => [.regs, .free, .time, .boot, .mot, .jrn, .mbx, .out]
  | .fuses _ => [.regs, .free, .pwr, .boot, .jrn, .out]
  | .selftest _ => [.regs, .free, .pwr, .boot, .jrn, .out]
  | .map _ _ _ => [.regs, .free, .pwr, .boot, .jrn, .out]
  | .train _ _ _ => [.regs, .free, .pwr, .boot, .jrn, .out]
  | .fwload _ _ => [.regs, .free, .pwr, .boot, .jrn, .out]
  | .pkgReady => [.regs, .mem, .bus, .free, .time, .pwr, .mode, .img, .boot, .mmu, .sram, .dma, .chainsDone, .waits,
    .gill, .flights, .sched, .tw, .mot, .cam, .lanes, .ring, .pfx, .ann, .jrn, .mbx, .spi, .i2c, .out]
  | .sporeAckTimeout _ _ => [.regs, .free, .pwr, .boot, .jrn, .out]
  | .image => [.regs, .mem, .free, .pwr, .img, .boot, .mmu, .gill, .sched, .mot, .cam, .lanes, .ring, .pfx, .jrn,
    .out]
  | .coldStart _ => [.regs, .mem, .bus, .free, .time, .pwr, .mode, .img, .boot, .mmu, .sram, .dma, .chainsDone,
    .waits, .gill, .flights, .sched, .tw, .mot, .cam, .lanes, .ring, .pfx, .ann, .jrn, .mbx, .spi, .i2c, .out]
  | .fieldAddition _ => [.regs, .bus, .free, .mode, .boot, .jrn, .out]
  | .load _ => [.regs, .mem, .bus, .free, .pwr, .mode, .img, .boot, .mmu, .sram, .dma, .chainsDone, .gill, .sched,
    .mot, .cam, .lanes, .ring, .pfx, .jrn, .mbx, .out]
  | .unload _ => [.regs, .mem, .bus, .free, .pwr, .mode, .img, .boot, .mmu, .sram, .dma, .chainsDone, .gill, .sched,
    .mot, .cam, .lanes, .ring, .pfx, .jrn, .mbx, .out]
  | .store _ => [.regs, .mem, .bus, .free, .pwr, .mode, .img, .boot, .mmu, .sram, .dma, .chainsDone, .gill, .sched,
    .mot, .cam, .lanes, .ring, .pfx, .jrn, .mbx, .out]
  | .keyrec _ => [.regs, .mem, .bus, .free, .pwr, .mode, .img, .boot, .mmu, .sram, .dma, .chainsDone, .gill, .sched,
    .mot, .cam, .lanes, .ring, .pfx, .jrn, .mbx, .out]
  | .routeSetChange _ => [.regs, .bus, .free, .mode, .img, .boot, .jrn, .out]
  | .epochBoundary _ => [.regs, .img]
  | .routeRelease _ => [.regs, .img]
  | .edgeAccepted _ _ _ => [.regs, .bus, .free, .time, .pwr, .mode, .boot, .waits, .gill, .sched, .tw, .mot, .cam,
    .jrn, .mbx, .out]
  | .glitchFault _ => [.regs, .bus, .free, .boot, .mot, .jrn, .out]
  | .serialPoll _ => [.out]
  | .serialReading _ _ => [.regs, .bus, .free, .time, .pwr, .mode, .boot, .waits, .gill, .sched, .tw, .mot, .cam,
    .jrn, .mbx, .out]
  | .wireDisagree _ _ => [.regs, .bus, .free, .boot, .mot, .jrn, .out]
  | .wireFault _ _ => [.regs, .free, .pwr, .boot, .mot, .jrn, .out]
  | .wireFaultClear _ _ => [.regs, .mot]
  | .countGateEnd _ => [.regs, .free, .boot, .mot, .jrn, .out]
  | .chCfgWrite _ _ => [.regs, .bus, .free, .time, .pwr, .mode, .boot, .waits, .gill, .sched, .tw, .mot, .cam, .jrn,
    .mbx, .out]
  | .speedThresholdWrite _ _ _ => [.regs, .bus, .free, .mode, .boot, .mot, .jrn, .out]
  | .trkCfgWrite _ => [.regs, .bus, .free, .mode, .boot, .mot, .jrn, .out]
  | .trackDeclare _ => [.regs, .bus, .free, .pwr, .mode, .boot, .waits, .gill, .sched, .tw, .mot, .cam, .jrn, .mbx,
    .out]
  | .trackCommit _ => [.regs, .bus, .free, .pwr, .mode, .boot, .waits, .gill, .sched, .tw, .mot, .jrn, .mbx, .out]
  | .trackUnitMessage _ => [.regs, .bus, .free, .pwr, .mode, .boot, .waits, .gill, .flights, .sched, .tw, .mot, .cam,
    .jrn, .mbx, .out]
  | .gateEnable _ _ => [.regs, .bus, .free, .mode, .boot, .mot, .jrn, .out]
  | .gateOffsetWrite _ _ _ => [.regs, .bus, .free, .mode, .boot, .mot, .jrn, .out]
  | .armCommand _ => [.regs, .bus, .free, .mode, .boot, .mot, .jrn, .out]
  | .delayEnd _ => [.regs, .free, .boot, .mot, .jrn, .out]
  | .pulseEnd _ => [.regs, .free, .boot, .mot, .jrn, .out]
  | .gapEnd _ => [.regs, .free, .boot, .mot, .jrn, .out]
  | .maxOn _ => [.regs, .free, .boot, .mot, .jrn, .out]
  | .deferExpired _ => [.regs, .free, .boot, .mot, .jrn, .out]
  | .ejCtrlWrite _ => [.regs, .bus, .free, .mode, .boot, .mot, .jrn, .out]
  | .outCfgWrite _ _ => [.regs, .bus, .free, .mode, .boot, .mot, .jrn, .out]
  | .flush _ _ => [.regs, .bus, .free, .mode, .boot, .mot, .jrn, .out]
  | .rateWrite _ => [.regs, .bus, .free, .mode, .boot, .jrn, .out]
  | .stepRequest _ => [.regs, .bus, .free, .time, .mode, .boot, .jrn, .out]
  | .ptpCfgWrite _ => [.regs, .bus, .free, .time, .mode, .boot, .jrn, .out]
  | .ptpRx _ _ _ _ _ _ _ => [.regs, .bus, .free, .time, .boot, .jrn, .out]
  | .ptpTx _ _ _ _ _ => [.regs, .bus, .free, .time, .boot, .jrn, .out]
  | .ptpSample _ _ _ _ => [.regs, .free, .time, .boot, .jrn, .out]
  | .holdover _ => [.regs, .free, .time, .boot, .jrn, .out]
  | .markArm _ => [.regs, .bus, .free, .time, .mode, .boot, .jrn, .out]
  | .portEnable _ _ => [.regs, .bus, .free, .mode, .boot, .mot, .cam, .lanes, .jrn, .out]
  | .pocxpPowered _ => [.regs, .cam, .lanes]
  | .discover _ _ => [.regs, .free, .boot, .mot, .cam, .jrn, .out]
  | .config _ _ => [.regs, .free, .boot, .mot, .cam, .jrn, .out]
  | .cameraLinkDown _ _ => [.regs, .free, .boot, .mot, .cam, .jrn, .out]
  | .downRetry _ => [.regs, .cam, .lanes]
  | .resyncEnd _ => [.regs, .cam]
  | .ctrlTransaction _ _ => [.regs, .bus, .free, .mode, .boot, .cam, .jrn, .out]
  | .ctrlAck _ _ _ _ _ => [.regs, .free, .boot, .jrn, .out]
  | .ctrlTimeout _ => [.regs, .free, .boot, .jrn, .out]
  | .frameTimeTrigger _ => [.regs, .free, .boot, .mot, .cam, .jrn, .out]
  | .softTrigger _ _ => [.regs, .bus, .free, .mode, .boot, .mot, .cam, .jrn, .out]
  | .delayedTrigger _ => [.regs, .free, .boot, .mot, .cam, .jrn, .out]
  | .trigCfgWrite _ _ => [.regs, .bus, .free, .mode, .boot, .mot, .cam, .jrn, .out]
  | .streamPacket _ _ _ _ _ _ _ _ => [.regs, .mem, .bus, .free, .boot, .mmu, .mot, .cam, .jrn, .mbx, .out]
  | .imageHeader _ _ _ _ _ _ => [.regs, .mem, .bus, .free, .boot, .mmu, .mot, .cam, .jrn, .mbx, .out]
  | .lineTimeout _ => [.regs, .free, .boot, .mot, .cam, .jrn, .out]
  | .frameTimeout _ => [.regs, .free, .boot, .mot, .cam, .jrn, .out]
  | .pipelineLine _ => [.regs, .mot, .cam]
  | .partImageComplete _ => [.regs, .mem, .bus, .free, .boot, .mmu, .cam, .jrn, .mbx, .out]
  | .throughMemoryFrame _ => [.regs, .bus, .free, .boot, .mmu, .mot, .cam, .jrn, .mbx, .out]
  | .rebindRequest _ _ => [.regs, .bus, .free, .mode, .boot, .cam, .jrn, .out]
  | .rebindSwitch _ => [.regs, .free, .boot, .mot, .cam, .jrn, .out]
  | .outHeadWrite _ _ => [.regs, .bus, .free, .mode, .boot, .cam, .jrn, .out]
  | .pipeCellWrite _ _ => [.regs, .bus, .free, .mode, .boot, .jrn, .out]
  | .txL0 _ => [.regs, .bus, .free, .mode, .boot, .lanes, .jrn, .out]
  | .txL1 _ => [.regs, .bus, .free, .mode, .boot, .lanes, .jrn, .out]
  | .txL2 _ => [.regs, .bus, .free, .mode, .boot, .lanes, .jrn, .out]
  | .txOff _ => [.regs, .bus, .free, .mode, .boot, .lanes, .jrn, .out]
  | .txWake _ => [.regs, .bus, .free, .mode, .boot, .lanes, .jrn, .out]
  | .prbsOn _ => [.regs, .bus, .free, .mode, .boot, .lanes, .jrn, .out]
  | .prbsOff _ => [.regs, .bus, .free, .mode, .boot, .lanes, .jrn, .out]
  | .rxStateCommand _ _ => [.regs, .bus, .free, .mode, .boot, .lanes, .jrn, .out]
  | .synthCalDone _ _ => [.regs, .free, .pwr, .boot, .lanes, .jrn, .out]
  | .synthLocked _ _ => [.regs, .free, .pwr, .boot, .lanes, .jrn, .out]
  | .heldCommandTimeout _ => [.regs, .free, .boot, .lanes, .jrn, .out]
  | .fastRelock _ => [.regs, .lanes, .ring]
  | .wakeGuardExpiry _ => [.regs, .free, .pwr, .boot, .lanes, .ring, .jrn, .out]
  | .retrainComplete _ _ => [.regs, .free, .boot, .mot, .cam, .lanes, .jrn, .out]
  | .lossOfSignal _ => [.regs, .bus, .free, .pwr, .boot, .mot, .cam, .lanes, .ring, .jrn, .out]
  | .loopWrite _ _ => [.regs, .bus, .free, .mode, .boot, .jrn, .out]
  | .prbsCheckerEnable _ _ => [.regs, .bus, .free, .mode, .boot, .jrn, .out]
  | .ringEnable _ => [.regs, .bus, .free, .pwr, .mode, .boot, .lanes, .ring, .jrn, .out]
  | .ringTest _ => [.regs, .bus, .free, .pwr, .mode, .boot, .lanes, .ring, .jrn, .out]
  | .linkTrainingDone _ _ => [.regs, .bus, .free, .pwr, .boot, .lanes, .ring, .jrn, .out]
  | .trainRetry _ => [.regs, .free, .boot, .lanes, .ring, .jrn, .out]
  | .ringFrame _ _ _ => [.regs, .mem, .bus, .free, .boot, .mmu, .lanes, .ring, .jrn, .mbx, .out]
  | .ack _ _ => [.regs, .free, .boot, .lanes, .ring, .jrn, .out]
  | .nak _ _ => [.regs, .free, .pwr, .boot, .lanes, .ring, .jrn, .out]
  | .ackTimeout _ => [.regs, .free, .pwr, .boot, .lanes, .ring, .jrn, .out]
  | .linkSleep _ => [.regs, .ring, .out]
  | .ringDiscover _ _ _ => [.regs, .free, .pwr, .boot, .lanes, .ring, .jrn, .out]
  | .quiesce _ _ => [.regs, .free, .boot, .lanes, .ring, .jrn, .out]
  | .quiesced _ _ => [.regs, .mem, .bus, .free, .pwr, .boot, .mmu, .lanes, .ring, .jrn, .mbx, .out]
  | .switch _ _ _ _ _ => [.regs, .mem, .bus, .free, .pwr, .boot, .mmu, .lanes, .ring, .jrn, .mbx, .out]
  | .ringLinkDown _ _ => [.regs, .free, .pwr, .boot, .lanes, .ring, .jrn, .out]
  | .layoutReq _ _ _ => [.regs, .free, .boot, .lanes, .ring, .jrn, .out]
  | .layoutAns _ _ _ => [.regs, .free, .boot, .lanes, .ring, .jrn, .out]
  | .layoutRequest _ => [.regs, .bus, .free, .mode, .boot, .lanes, .ring, .jrn, .out]
  | .linkTmoExpiry _ _ => [.regs, .free, .boot, .lanes, .ring, .jrn, .out]
  | .bundleIssue _ => [.regs, .bus, .free, .boot, .sram, .dma, .waits, .gill, .flights, .tw, .jrn, .out]
  | .globalLoadResponse _ _ _ _ => [.regs, .bus, .free, .boot, .mmu, .gill, .tw, .jrn, .mbx, .out]
  | .gillMemFaultStop _ => [.regs, .free, .boot, .waits, .gill, .jrn, .out]
  | .syncGrant _ => [.regs, .waits, .gill]
  | .timedOpTimeout _ => [.regs, .free, .boot, .waits, .gill, .jrn, .out]
  | .queueMessageArrival _ _ _ _ => [.regs, .bus, .free, .boot, .gill, .flights, .jrn, .out]
  | .queueCreditReturn _ _ => [.regs, .gill]
  | .fenceComplete _ => [.regs, .gill]
  | .invocationEnd _ => [.regs, .free, .boot, .gill, .jrn, .out]
  | .dbgHalt _ => [.regs, .bus, .free, .mode, .boot, .jrn, .out]
  | .dbgResume _ => [.regs, .bus, .free, .mode, .boot, .jrn, .out]
  | .dbgStep _ => [.regs, .bus, .free, .mode, .boot, .sram, .dma, .waits, .gill, .flights, .tw, .jrn, .out]
  | .boxdec _ _ _ => [.regs, .mem, .bus, .free, .boot, .mmu, .sram, .dma, .jrn, .mbx, .out]
  | .nms _ _ _ => [.regs, .mem, .bus, .free, .boot, .mmu, .sram, .dma, .jrn, .mbx, .out]
  | .transactionResponse _ _ _ _ _ _ _ _ _ => [.regs, .mem, .bus, .free, .boot, .mmu, .gill, .tw, .jrn, .mbx, .out]
  | .refresh _ _ => [.regs, .mmu]
  | .zqCalibration _ => [.mmu]
  | .mr4Read _ _ => [.regs, .free, .boot, .mmu, .jrn, .out]
  | .controllerWatchdog _ _ => [.regs, .bus, .free, .pwr, .boot, .mmu, .mot, .jrn, .out]
  | .dmaSubmit _ _ => [.regs, .bus, .free, .mode, .boot, .dma, .jrn, .out]
  | .chainStart _ => [.regs, .mem, .bus, .free, .boot, .mmu, .sram, .dma, .chainsDone, .jrn, .mbx, .out]
  | .copy _ _ => [.regs, .mem, .bus, .free, .boot, .mmu, .sram, .dma, .jrn, .mbx, .out]
  | .fill _ _ => [.regs, .mem, .bus, .free, .boot, .mmu, .sram, .dma, .jrn, .mbx, .out]
  | .copy2d _ _ => [.regs, .mem, .bus, .free, .boot, .mmu, .sram, .dma, .jrn, .mbx, .out]
  | .signal _ _ => [.regs, .mem, .bus, .free, .boot, .mmu, .sram, .dma, .jrn, .mbx, .out]
  | .chainEnd _ => [.regs, .bus, .free, .boot, .dma, .chainsDone, .jrn, .out]
  | .dmaAbort _ _ => [.regs, .mem, .bus, .free, .mode, .boot, .mmu, .sram, .dma, .chainsDone, .jrn, .mbx, .out]
  | .syncAdd _ _ => [.regs, .bus, .free, .mode, .boot, .jrn, .out]
  | .syncReset _ => [.regs, .bus, .free, .mode, .boot, .jrn, .out]
  | .submit _ => [.regs, .bus, .free, .pwr, .mode, .boot, .waits, .gill, .sched, .tw, .mot, .jrn, .mbx, .out]
  | .workMessage _ => [.regs, .bus, .free, .pwr, .boot, .waits, .gill, .flights, .sched, .tw, .mot, .jrn, .mbx, .out]
  | .dispatch _ => [.regs, .bus, .free, .pwr, .boot, .sram, .dma, .waits, .gill, .flights, .sched, .tw, .mot, .jrn,
    .mbx, .out]
  | .stealToken _ => [.regs, .sched]
  | .quantumExpiry _ => [.regs, .bus, .free, .pwr, .boot, .sram, .dma, .waits, .gill, .flights, .sched, .tw, .mot,
    .jrn, .mbx, .out]
  | .preemptDrainDone _ => [.sched]
  | .saveComplete _ _ => [.regs, .mem, .bus, .free, .pwr, .boot, .mmu, .waits, .gill, .sched, .tw, .mot, .jrn, .mbx,
    .out]
  | .restoreComplete _ _ => [.regs, .bus, .free, .pwr, .boot, .mmu, .sram, .waits, .gill, .sched, .tw, .mot, .jrn,
    .mbx, .out]
  | .stateSwapComplete _ => [.regs, .bus, .free, .pwr, .boot, .mmu, .sram, .waits, .gill, .sched, .tw, .mot, .jrn,
    .mbx, .out]
  | .gangEnd _ => [.regs, .bus, .free, .pwr, .boot, .chainsDone, .waits, .gill, .sched, .tw, .mot, .jrn, .mbx, .out]
  | .workCancel _ => [.regs, .bus, .free, .mode, .boot, .waits, .gill, .sched, .tw, .jrn, .out]
  | .walk _ => [.regs, .mem, .bus, .free, .boot, .mmu, .chainsDone, .gill, .flights, .pfx, .jrn, .mbx, .out]
  | .insert _ => [.regs, .mem, .bus, .free, .boot, .mmu, .chainsDone, .gill, .flights, .pfx, .jrn, .mbx, .out]
  | .release _ => [.regs, .mem, .bus, .free, .boot, .mmu, .chainsDone, .gill, .flights, .pfx, .jrn, .mbx, .out]
  | .pin _ => [.regs, .mem, .bus, .free, .boot, .mmu, .chainsDone, .gill, .flights, .pfx, .jrn, .mbx, .out]
  | .unpin _ => [.regs, .mem, .bus, .free, .boot, .mmu, .chainsDone, .gill, .flights, .pfx, .jrn, .mbx, .out]
  | .evict _ => [.regs, .mem, .bus, .free, .boot, .mmu, .chainsDone, .gill, .flights, .pfx, .jrn, .mbx, .out]
  | .gather _ _ => [.regs, .mem, .bus, .free, .boot, .mmu, .sram, .chainsDone, .gill, .flights, .pfx, .jrn, .mbx,
    .out]
  | .publish _ => [.regs, .mem, .bus, .free, .boot, .mmu, .chainsDone, .gill, .flights, .pfx, .jrn, .mbx, .out]
  | .pfxFormat _ => [.regs, .mem, .bus, .free, .mode, .boot, .mmu, .pfx, .jrn, .mbx, .out]
  | .annAbort _ => [.regs, .mem, .bus, .free, .mode, .boot, .mmu, .chainsDone, .ann, .jrn, .mbx, .out]
  | .vcStall _ _ _ => [.regs, .free, .boot, .tw, .jrn, .out]
  | .mbxEnable _ => [.regs, .mem, .bus, .free, .mode, .boot, .mmu, .jrn, .mbx, .out]
  | .mbxHeadWrite _ => [.regs, .bus, .free, .mode, .boot, .jrn, .mbx, .out]
  | .irqPendClear _ => [.regs, .bus, .free, .mode, .boot, .jrn, .out]
  | .wqDoorbell _ => [.regs, .bus, .free, .mode, .boot, .jrn, .out]
  | .bar2Access _ _ _ => [.regs, .mem, .bus, .free, .boot, .mmu, .jrn, .mbx, .out]
  | .hostWindowAccess _ => [.mbx, .out]
  | .hostWindowTimeout _ _ => [.regs, .bus, .free, .boot, .mmu, .jrn, .mbx, .out]
  | .runsetSave _ _ => [.regs, .mem, .bus, .free, .time, .pwr, .mode, .img, .boot, .mmu, .sram, .dma, .chainsDone,
    .waits, .gill, .flights, .sched, .tw, .mot, .cam, .lanes, .ring, .pfx, .ann, .jrn, .mbx, .spi, .i2c, .out]
  | .spiPush _ => [.regs, .bus, .free, .mode, .boot, .jrn, .spi, .out]
  | .spiEntryEnd _ _ => [.regs, .free, .boot, .jrn, .spi, .out]
  | .spiAbort _ _ _ _ => [.regs, .bus, .free, .mode, .boot, .jrn, .spi, .out]
  | .i2cPush _ => [.regs, .bus, .free, .mode, .boot, .jrn, .i2c, .out]
  | .i2cCommandStart _ => [.regs, .free, .boot, .jrn, .i2c, .out]
  | .i2cCommandEnd _ => [.regs, .free, .boot, .jrn, .i2c, .out]
  | .arbitrationLost _ _ _ => [.regs, .free, .boot, .jrn, .i2c, .out]
  | .targetTransaction _ _ _ => [.regs, .bus, .free, .boot, .jrn, .i2c, .out]
  | .targetTransactionEnd _ => [.regs, .free, .boot, .jrn, .i2c, .out]
  | .i2cAbort _ _ _ => [.regs, .bus, .free, .mode, .boot, .jrn, .i2c, .out]
  | .stageRecord _ _ => [.regs, .free, .jrn, .out]
  | .pageProgram _ => [.regs, .free, .boot, .jrn, .out]
  | .flushMsExpiry _ => [.regs, .free, .boot, .jrn, .out]
  | .journalFlush _ => [.regs, .bus, .free, .mode, .boot, .jrn, .out]
  | .subsectorErase _ => [.regs, .free, .boot, .jrn, .out]
  | .holdupFinalPage _ => [.regs, .mem, .bus, .free, .time, .pwr, .mode, .img, .boot, .mmu, .sram, .dma, .chainsDone,
    .waits, .gill, .flights, .sched, .tw, .mot, .cam, .lanes, .ring, .pfx, .ann, .jrn, .mbx, .spi, .i2c, .out]
  | .ethernetLinkChange _ _ => [.regs, .free]
  | .perstRelease _ => [.mbx]
  | .pcieLinkUp _ _ => [.regs, .free, .boot, .jrn, .out]
  | .configSpaceWrite _ => [.regs, .mbx, .out]
  | .aerError _ => [.regs, .bus, .free, .boot, .jrn, .out]
  | .supplyLowCleared _ => [.regs, .pwr]
  | .wireDisagreeEnd _ _ => [.mot]
  | .sleepBlocksReceived _ _ => [.regs, .lanes, .ring]
  | .switchPositionReached _ => [.regs, .free, .pwr, .boot, .lanes, .ring, .jrn, .out]
  | .prbsLockAcquired _ => [.regs]
  | .prbsLockLost _ => [.regs, .free]
  | .cxpEventPacket _ _ => [.regs]
  | .heldAccessPerform => [.regs, .mem, .bus, .free, .time, .pwr, .mode, .img, .boot, .mmu, .sram, .dma, .chainsDone,
    .waits, .gill, .flights, .sched, .tw, .mot, .cam, .lanes, .ring, .pfx, .ann, .jrn, .mbx, .spi, .i2c, .out]
  | .powerOnStart => [.regs, .mem, .bus, .free, .time, .pwr, .mode, .img, .boot, .mmu, .sram, .dma, .chainsDone,
    .waits, .gill, .flights, .sched, .tw, .mot, .cam, .lanes, .ring, .pfx, .ann, .jrn, .mbx, .spi, .i2c, .out]
  | .vinShortDip => [.regs]
  | .nrstAssert => [.regs, .mem, .bus, .time, .pwr, .mode, .img, .boot, .mmu, .sram, .dma, .chainsDone, .waits, .gill,
    .flights, .sched, .tw, .mot, .cam, .lanes, .ring, .pfx, .ann, .jrn, .mbx, .spi, .i2c, .out]
  | .nrstRelease => [.regs, .mem, .bus, .free, .time, .pwr, .mode, .img, .boot, .mmu, .sram, .dma, .chainsDone,
    .waits, .gill, .flights, .sched, .tw, .mot, .cam, .lanes, .ring, .pfx, .ann, .jrn, .mbx, .spi, .i2c, .out]
  | .thermalThrottleStart => [.regs, .free, .boot, .jrn, .out]
  | .thermalThrottleEnd => [.regs]
  | .vcamLow => [.regs, .free, .pwr, .boot, .jrn, .out]
  | .heartbeatLoss => [.regs, .free, .pwr]
  | .lstopHoldExpiry => [.regs, .pwr]
  | .myceliumDrained => [.regs, .free, .mode, .boot, .mot, .jrn, .out]
  | .modeCommit => [.regs, .bus, .free, .time, .mode, .boot, .sched, .tw, .mot, .lanes, .jrn, .out]
  | .modeEntryTimeout => [.regs, .bus, .free, .mode, .boot, .sched, .tw, .mot, .lanes, .jrn, .out]
  | .modeExit => [.regs, .mode]
  | .wakeTimerExpiry => [.regs, .mode]
  | .hostPkgTimeout => [.regs, .free, .boot, .jrn, .out]
  | .spores => [.regs, .boot]
  | .supervisor => [.regs, .free, .boot, .jrn, .out]
  | .supStartTimeout => [.regs, .free, .pwr, .boot, .jrn, .out]
  | .hold => [.regs, .boot]
  | .ready => [.regs, .mem, .bus, .free, .time, .pwr, .mode, .img, .boot, .mmu, .sram, .dma, .chainsDone, .waits,
    .gill, .flights, .sched, .tw, .mot, .cam, .lanes, .ring, .pfx, .ann, .jrn, .mbx, .spi, .i2c, .out]
  | .stageTimeout => [.regs, .free, .pwr, .boot, .jrn, .out]
  | .warmStart => [.regs, .mem, .bus, .free, .time, .pwr, .mode, .img, .boot, .mmu, .sram, .dma, .chainsDone, .waits,
    .gill, .flights, .sched, .tw, .mot, .cam, .lanes, .ring, .pfx, .ann, .jrn, .mbx, .spi, .i2c, .out]
  | .saveCfg => [.regs, .mem, .bus, .free, .time, .pwr, .mode, .img, .boot, .mmu, .sram, .dma, .chainsDone, .waits,
    .gill, .flights, .sched, .tw, .mot, .cam, .lanes, .ring, .pfx, .ann, .jrn, .mbx, .spi, .i2c, .out]
  | .perstAssert => [.regs, .bus, .free, .boot, .mmu, .jrn, .mbx, .out]
  | .functionLevelReset => [.regs, .bus, .free, .boot, .mmu, .jrn, .mbx, .out]
  | .linkDown => [.regs, .bus, .free, .boot, .mmu, .jrn, .mbx, .out]
  | .imageCommit => [.regs, .free, .pwr, .img, .boot, .mmu, .gill, .sched, .mot, .cam, .lanes, .ring, .pfx, .jrn,
    .out]
  | .storeComplete => [.regs, .free, .img, .boot, .jrn, .out]
  | .keyrecApplied => [.regs, .free, .img, .boot, .jrn, .out]
  | .routeChangeComplete => [.regs, .img]
  | .routeChangeTimeout => [.regs, .free, .img, .boot, .jrn, .out]
  | .speedPeriodTick => [.regs, .free, .boot, .mot, .jrn, .out]
  | .convPeriodTick => [.regs, .free, .boot, .mot, .jrn, .out]
  | .imagePresenceReport => [.regs, .bus, .free, .pwr, .mode, .boot, .waits, .gill, .sched, .tw, .mot, .cam, .jrn,
    .mbx, .out]
  | .timeEntryDue => [.regs, .free, .boot, .mot, .jrn, .out]
  | .ejLogRead => [.regs, .bus, .free, .mode, .boot, .jrn, .out]
  | .motionFreerun => [.regs, .free, .time, .boot, .jrn, .out]
  | .stepApply => [.regs, .free, .time, .boot, .jrn, .out]
  | .samplePop => [.regs, .bus, .free, .time, .mode, .boot, .jrn, .out]
  | .evtPop => [.regs, .bus, .free, .time, .mode, .boot, .jrn, .out]
  | .ptpSnapshotRead => [.regs, .bus, .free, .mode, .boot, .jrn, .out]
  | .ptpOfsRead => [.regs, .bus, .free, .mode, .boot, .jrn, .out]
  | .quiesceTimeout => [.regs, .bus, .free, .boot, .lanes, .ring, .jrn, .out]
  | .topologyRetry => [.regs, .free, .boot, .lanes, .ring, .jrn, .out]
  | .unmap => [.regs, .bus, .free, .mode, .boot, .mmu, .jrn, .out]
  | .mapR => [.regs, .bus, .free, .mode, .boot, .mmu, .jrn, .out]
  | .mapRw => [.regs, .bus, .free, .mode, .boot, .mmu, .jrn, .out]
  | .mmuOpComplete => [.regs, .mmu]
  | .faultRecordPop => [.regs, .bus, .free, .mode, .boot, .mmu, .jrn, .out]
  | .deadlineUpdate => [.sched, .mot]
  | .cplLogRead => [.regs, .bus, .free, .mode, .boot, .jrn, .out]
  | .reshardEnd => [.regs, .mem, .bus, .free, .boot, .mmu, .lanes, .ring, .jrn, .mbx, .out]
  | .adpWrite => [.regs, .bus, .free, .mode, .boot, .mmu, .pfx, .jrn, .mbx, .out]
  | .adpStage => [.regs, .bus, .free, .mode, .boot, .mmu, .pfx, .jrn, .mbx, .out]
  | .adpPublish => [.regs, .bus, .free, .mode, .boot, .mmu, .pfx, .jrn, .mbx, .out]
  | .adpClear => [.regs, .bus, .free, .mode, .boot, .mmu, .pfx, .jrn, .mbx, .out]
  | .adpDescRead => [.regs, .bus, .free, .mode, .boot, .jrn, .out]
  | .augJob => [.regs, .mem, .bus, .free, .boot, .mmu, .chainsDone, .jrn, .mbx, .out]
  | .annealProblem => [.regs, .mem, .bus, .free, .boot, .mmu, .chainsDone, .ann, .jrn, .mbx, .out]
  | .sweepEnd => [.regs, .free, .boot, .ann, .jrn, .out]
  | .annResultWrite => [.regs, .mem, .bus, .free, .boot, .mmu, .chainsDone, .ann, .jrn, .mbx, .out]
  | .timingWindowArm => [.regs, .bus, .free, .mode, .boot, .tw, .jrn, .out]
  | .verdictRecordWrite => [.regs, .mem, .free, .boot, .mmu, .jrn, .mbx, .out]
  | .mbxReadyAge => [.regs, .out]
  | .wqEntrySubmit => [.regs, .bus, .free, .pwr, .boot, .mmu, .waits, .gill, .sched, .tw, .mot, .jrn, .mbx, .out]
  | .runsetApply => [.regs, .mem, .bus, .free, .time, .pwr, .mode, .img, .boot, .mmu, .sram, .dma, .chainsDone,
    .waits, .gill, .flights, .sched, .tw, .mot, .cam, .lanes, .ring, .pfx, .ann, .jrn, .mbx, .spi, .i2c, .out]
  | .spiEntryStart => [.regs, .spi, .out]
  | .spiCplPop => [.regs, .bus, .free, .mode, .boot, .jrn, .spi, .out]
  | .sclTimeout => [.regs, .free, .boot, .jrn, .i2c, .out]
  | .busFree => [.regs, .i2c]
  | .twinCommit => [.regs, .bus, .free, .mode, .boot, .jrn, .i2c, .out]
  | .i2cCplPop => [.regs, .bus, .free, .mode, .boot, .jrn, .i2c, .out]
  | .i2cTlogPop => [.regs, .bus, .free, .mode, .boot, .jrn, .i2c, .out]
  | .deferLong => [.regs, .free, .boot, .jrn, .out]
  | .countersRecord => [.regs, .free, .jrn, .out]
  | .ejectTailRecord => [.regs, .free, .jrn, .out]
  | .journalRead => [.regs, .bus, .free, .mode, .boot, .jrn, .out]
  | .timeValuesResume => [.regs, .time]
  | .i2cBusStart => [.regs, .i2c]
  | .targetSclTimeout => [.regs, .free, .boot, .jrn, .i2c, .out]
  | .fieldMapCopiesWritten => [.regs, .free, .boot, .jrn, .out]
  | .runSetStored => [.regs, .free, .boot, .jrn, .mbx, .out]
  | .bankDischargeFloor => [.regs, .mem, .bus, .time, .pwr, .mode, .img, .boot, .mmu, .sram, .dma, .chainsDone,
    .waits, .gill, .flights, .sched, .tw, .mot, .cam, .lanes, .ring, .pfx, .ann, .jrn, .mbx, .spi, .i2c, .out]

/-- The registers a command may change. -/
def regs (c : Instr) : Option (List (Nat → Nat)) :=
  match c with
  | .registerWrite _ _ _ => none
  | .rcRead _ _ => none
  | .lowWordRead _ => none
  | .inputLoss _ => some (reportRows ++ lossRows)
  | .overvoltageLockout _ => some (reportRows ++ lossRows)
  | .internalReset _ => none
  | .thermalTrip _ => none
  | .holdupEstimateTick _ _ => some (reportRows ++ [one R.PWR_VIN, one R.PWR_VCAM, one R.PWR_VEJ,
    one R.PWR_MOD_STATUS, one R.PWR_HOLDUP, one R.PWR_TEMP, one R.PWR_POWER, one R.JRN_RUNWAY, one R.JRN_WRPTR,
    one R.JRN_OLDEST, one R.JRN_START_CNT, one R.JRN_CNT_PAGES, one R.JRN_CNT_DEFER, one R.JRN_CNT_FLASH_FAIL])
  | .holdupCapMeasured _ => some (reportRows ++ [one R.PWR_MOD_STATUS, one R.PWR_HOLDUP_CAP])
  | .pocxpDetectDone _ _ => some (reportRows ++ [one R.PWR_MOD_STATUS, one R.PWR_POCXP_STS])
  | .pocxpOvercurrent _ => some (reportRows ++ [one R.PWR_MOD_STATUS, one R.PWR_POCXP_STS])
  | .pocxpFaultClear _ => some (reportRows ++ [one R.PWR_POCXP_STS, one R.PWR_WAKE_LATCH, one R.SYS_BOOT_STATUS])
  | .encSupplyFault _ => some (reportRows ++ [one R.PWR_MOD_STATUS, one R.PWR_ENC_SUP])
  | .vejSupplyLow _ => some (reportRows ++ [one R.EJ_POL_STATUS, one R.PWR_MOD_STATUS, one R.CLK_FAIL])
  | .readbackCheck _ _ _ => some (reportRows ++ [one R.EJ_POL_STATUS, one R.PWR_MOD_STATUS, one R.EJ_LSTOP,
    one R.EJ_OUT_STS, one R.CLK_FAIL, all R.EJ_OUT_STATUS, all R.EJ_OUT_HEAD_LO, all R.EJ_OUT_HEAD_HI])
  | .outputOvercurrent _ => some (reportRows ++ [one R.EJ_POL_STATUS, one R.PWR_MOD_STATUS, one R.EJ_OUT_STS,
    one R.CLK_FAIL, all R.EJ_OUT_STATUS, all R.EJ_OUT_HEAD_LO, all R.EJ_OUT_HEAD_HI])
  | .relayPositionCheck _ => some (reportRows ++ [one R.PWR_MOD_STATUS, all R.PTP_PORT_STATUS])
  | .relayRequestWrite _ => some (reportRows ++ [one R.PWR_RELAY, one R.PWR_WAKE_LATCH, one R.SYS_BOOT_STATUS,
    all R.PTP_PORT_STATUS])
  | .diEdgeQualified _ _ _ => some (reportRows ++ trackRows ++ submissionRows ++ windowRows ++ [one R.MOT_TRK_OPENED,
    one R.MOT_TRK_DROPPED, one R.MOT_TRK_NEXT_SEQ, one R.EJ_FIRE_LATE_CNT, one R.MOT_DI_STS, one R.PWR_WAKE_LATCH,
    one R.PTP_STATUS, one R.PTP_EVT_STATUS, one R.PTP_EVT_LOST])
  | .diCfgWrite _ => some (reportRows ++ trackRows ++ submissionRows ++ windowRows ++ [one R.MOT_TRK_OPENED,
    one R.MOT_TRK_DROPPED, one R.MOT_TRK_NEXT_SEQ, one R.EJ_FIRE_LATE_CNT, one R.MOT_DI_CFG, one R.MOT_DI_STS,
    one R.PWR_WAKE_LATCH, one R.SYS_BOOT_STATUS, one R.PTP_STATUS, one R.PTP_EVT_STATUS, one R.PTP_EVT_LOST])
  | .lstopRelease _ => some (reportRows ++ [one R.EJ_LSTOP, one R.PWR_WAKE_LATCH, one R.SYS_BOOT_STATUS])
  | .pllLockTimeout _ => some (reportRows ++ fatalRows ++ [one R.CLK_STATUS, one R.CLK_FAIL, one R.PWR_MODE_STATUS])
  | .clockFailure _ => none
  | .modeRequest _ => some (reportRows ++ [one R.CLK_STATUS, one R.PWR_MODE_REQ, one R.PWR_MODE_STATUS,
    one R.PWR_WAKE_LATCH, one R.SYS_BOOT_STATUS, all R.LANE_STATUS, all R.LANE_CNT_WAKE, one R.SCHED_STATUS,
    one R.SYS_REPRO_STATUS, one R.MESH_TW_FLAGS])
  | .modeRollback _ => some (reportRows ++ submissionRows ++ [one R.CLK_STATUS, one R.CLK_CORE, one R.PWR_MODE_STATUS,
    one R.PWR_ROLLBACKS, all R.LANE_STATUS, all R.LANE_CNT_WAKE])
  | .exitComplete _ => some (reportRows ++ submissionRows ++ [one R.CLK_STATUS, one R.CLK_CORE, one R.PWR_MODE_STATUS,
    one R.PWR_EXIT_US, all R.LANE_STATUS, all R.LANE_CNT_WAKE, one R.SYS_REPRO_STATUS, one R.MESH_TW_FLAGS])
  | .wakePatternComplete _ _ => some ([one R.PWR_WAKE_LATCH, all R.LANE_STATUS])
  | .clocks _ => some (reportRows ++ [one R.CLK_STATUS, one R.CLK_CORE, one R.SYS_BOOT_STATUS, all R.BOOT_STAGE_US,
    one R.PTP_STATUS, one R.PTP_RATE, one R.PTP_STEP_CTRL, one R.PTP_SMP_STATUS, one R.PTP_EVT_STATUS,
    all R.PTP_STEP_LOG])
  | .fuses _ => some (reportRows ++ fatalRows ++ [one R.SYS_SERIAL_LO, one R.SYS_SERIAL_HI, one R.BOOT_FUSE_CORR,
    all R.BOOT_STAGE_US, span 0x4 1])
  | .selftest _ => some (reportRows ++ fatalRows ++ [all R.BOOT_STAGE_US])
  | .map _ _ _ => some (reportRows ++ fatalRows ++ [one R.BOOT_CFG, one R.BOOT_MAP_COUNT, all R.BOOT_MAP_DIGEST,
    one R.BOOT_FMAP_STATUS, all R.BOOT_STAGE_US, one R.JRN_CNT_DEFER, span 0x1000 1])
  | .train _ _ _ => some (reportRows ++ fatalRows ++ [one R.BOOT_LANE_CAL, all R.BOOT_STAGE_US, all R.LANE_STATUS])
  | .fwload _ _ => some (reportRows ++ fatalRows ++ [one R.BOOT_FW_SLOT, all R.BOOT_STAGE_US])
  | .pkgReady => none
  | .sporeAckTimeout _ _ => some (reportRows ++ fatalRows ++ [one R.BOOT_RESTARTS])
  | .image => some (reportRows ++ commitRows ++ [one R.SYS_BOOT_STATUS, all R.BOOT_STAGE_US, one R.BOOT_IMG_DETAIL])
  | .coldStart _ => none
  | .fieldAddition _ => some (reportRows ++ [one R.PWR_WAKE_LATCH, one R.SYS_BOOT_STATUS, one R.BOOT_FMAP_STATUS,
    one R.SYS_REPRO_STATUS, one R.MESH_PROG_STATUS, one R.JRN_CNT_DEFER])
  | .load _ => some (reportRows ++ imageRows ++ [one R.PWR_WAKE_LATCH, one R.SYS_BOOT_STATUS, one R.BOOT_IMG_CTRL,
    one R.BOOT_IMG_SLOTS, one R.JRN_CNT_DEFER])
  | .unload _ => some (reportRows ++ imageRows ++ [one R.PWR_WAKE_LATCH, one R.SYS_BOOT_STATUS, one R.BOOT_IMG_CTRL,
    one R.BOOT_IMG_SLOTS, one R.JRN_CNT_DEFER])
  | .store _ => some (reportRows ++ imageRows ++ [one R.PWR_WAKE_LATCH, one R.SYS_BOOT_STATUS, one R.BOOT_IMG_CTRL,
    one R.BOOT_IMG_SLOTS, one R.JRN_CNT_DEFER])
  | .keyrec _ => some (reportRows ++ imageRows ++ [one R.PWR_WAKE_LATCH, one R.SYS_BOOT_STATUS, one R.BOOT_IMG_CTRL,
    one R.BOOT_IMG_SLOTS, one R.JRN_CNT_DEFER])
  | .routeSetChange _ => some (reportRows ++ [one R.PWR_WAKE_LATCH, one R.SYS_BOOT_STATUS, one R.MESH_ROUTESET,
    one R.MESH_EPOCH_STATUS, one R.MESH_TW_FLAGS])
  | .epochBoundary _ => some ([one R.MESH_ROUTESET, one R.MESH_EPOCH_STATUS])
  | .routeRelease _ => some ([one R.MESH_EPOCH_STATUS, one R.MESH_EPOCH_HOLD])
  | .edgeAccepted _ _ _ => some (reportRows ++ trackRows ++ windowRows ++ [one R.EJ_FIRE_LATE_CNT,
    one R.PWR_WAKE_LATCH, all R.MOT_CH_X_LO, all R.MOT_CH_X_HI, all R.MOT_CH_E_LO, all R.MOT_CH_E_HI,
    all R.MOT_CH_SPEED, all R.MOT_CH_STATUS, all R.MOT_CH_IDX_LO, all R.MOT_CH_IDX_HI, all R.MOT_CH_CNT_GLITCH,
    all R.MOT_CH_CNT_QUAD, all R.MOT_CH_CNT_INDEX, all R.MOT_CH_CNT_REV, one R.PTP_STATUS, one R.PTP_EVT_CFG,
    one R.PTP_EVT_STATUS, one R.PTP_EVT_LOST, all R.SCHED_Q_DOOMED])
  | .glitchFault _ => some (reportRows ++ [one R.MOT_TRK_ACTIVE, one R.CLK_FAIL, all R.MOT_CH_STATUS,
    all R.MOT_CH_CNT_GLITCH])
  | .serialPoll _ => some []
  | .serialReading _ _ => some (reportRows ++ trackRows ++ windowRows ++ [one R.EJ_FIRE_LATE_CNT,
    one R.PWR_WAKE_LATCH, all R.MOT_CH_X_LO, all R.MOT_CH_X_HI, all R.MOT_CH_E_LO, all R.MOT_CH_E_HI,
    all R.MOT_CH_SPEED, all R.MOT_CH_STATUS, all R.MOT_CH_CNT_GLITCH, all R.MOT_CH_CNT_SER, all R.MOT_CH_CNT_REV,
    all R.MOT_CH_SER_DLY, one R.PTP_STATUS, one R.PTP_EVT_CFG, one R.PTP_EVT_STATUS, one R.PTP_EVT_LOST,
    all R.SCHED_Q_DOOMED])
  | .wireDisagree _ _ => some (reportRows ++ [one R.MOT_TRK_ACTIVE, one R.CLK_FAIL, all R.MOT_CH_STATUS,
    all R.MOT_CH_CNT_WIRE])
  | .wireFault _ _ => some (reportRows ++ [one R.MOT_TRK_STATUS, one R.MOT_TRK_ACTIVE, one R.EJ_LSTOP, one R.CLK_FAIL,
    all R.MOT_CH_SPEED, all R.MOT_CH_STATUS])
  | .wireFaultClear _ _ => some ([all R.MOT_CH_STATUS])
  | .countGateEnd _ => some (reportRows ++ [one R.MOT_TRK_STATUS, one R.MOT_TRK_ACTIVE, one R.CLK_FAIL,
    all R.MOT_CH_SPEED, all R.MOT_CH_STATUS])
  | .chCfgWrite _ _ => some (reportRows ++ trackRows ++ windowRows ++ [one R.EJ_FIRE_LATE_CNT, one R.PWR_WAKE_LATCH,
    one R.SYS_BOOT_STATUS, all R.MOT_CH_CFG, all R.MOT_CH_E_LO, all R.MOT_CH_E_HI, all R.MOT_CH_SPEED,
    all R.MOT_CH_STATUS, all R.MOT_CH_CNT_REV, one R.PTP_STATUS, one R.PTP_EVT_CFG, one R.PTP_EVT_STATUS,
    one R.PTP_EVT_LOST, all R.SCHED_Q_DOOMED])
  | .speedThresholdWrite _ _ _ => some (reportRows ++ [one R.CLK_FAIL, one R.PWR_WAKE_LATCH, one R.SYS_BOOT_STATUS,
    all R.MOT_CH_VHI, all R.MOT_CH_VLO, all R.MOT_CH_STATUS])
  | .trkCfgWrite _ => some (reportRows ++ [one R.MOT_TRK_CFG, one R.PWR_WAKE_LATCH, one R.SYS_BOOT_STATUS])
  | .trackDeclare _ => some (reportRows ++ trackRows ++ submissionRows ++ windowRows ++ [one R.MOT_TRK_OPENED,
    one R.MOT_TRK_DROPPED, one R.MOT_TRK_NEXT_SEQ, one R.MOT_TRK_DECL_HI, one R.EJ_FIRE_LATE_CNT,
    one R.PWR_WAKE_LATCH, one R.SYS_BOOT_STATUS])
  | .trackCommit _ => some (reportRows ++ trackRows ++ [one R.EJ_LATE_ARRIVED, one R.EJ_FIRE_LATE_CNT,
    one R.PWR_WAKE_LATCH, one R.SYS_BOOT_STATUS])
  | .trackUnitMessage _ => some (reportRows ++ trackRows ++ submissionRows ++ windowRows ++ [one R.MOT_TRK_OPENED,
    one R.MOT_TRK_DROPPED, one R.MOT_TRK_NEXT_SEQ, one R.EJ_LATE_ARRIVED, one R.EJ_FIRE_LATE_CNT,
    one R.PWR_WAKE_LATCH, one R.EJ_ARM_STATUS])
  | .gateEnable _ _ => some (reportRows ++ [one R.MOT_TRK_STATUS, all R.MOT_GATE_CFG, one R.CLK_FAIL,
    one R.PWR_WAKE_LATCH, one R.SYS_BOOT_STATUS])
  | .gateOffsetWrite _ _ _ => some (reportRows ++ [one R.MOT_TRK_STATUS, all R.MOT_GATE_WIN, all R.MOT_GATE_FIRE,
    all R.MOT_GATE_MARGIN, one R.CLK_FAIL, one R.PWR_WAKE_LATCH, one R.SYS_BOOT_STATUS])
  | .armCommand _ => some (reportRows ++ ejectorRows ++ [one R.EJ_FIRE_LATE_CNT, one R.PWR_WAKE_LATCH,
    one R.SYS_BOOT_STATUS, one R.EJ_ARM_CMD, one R.EJ_ARM_STATUS, all R.JRN_TOT])
  | .delayEnd _ => some (reportRows ++ ejectorRows ++ [one R.EJ_FIRE_LATE_CNT, all R.JRN_TOT])
  | .pulseEnd _ => some (reportRows ++ ejectorRows ++ [one R.EJ_FIRE_LATE_CNT, all R.JRN_TOT])
  | .gapEnd _ => some (reportRows ++ ejectorRows ++ [one R.EJ_FIRE_LATE_CNT, all R.JRN_TOT])
  | .maxOn _ => some (reportRows ++ ejectorRows ++ [one R.EJ_FIRE_LATE_CNT, all R.JRN_TOT])
  | .deferExpired _ => some (reportRows ++ ejectorRows)
  | .ejCtrlWrite _ => some (reportRows ++ ejectorRows ++ [one R.EJ_FIRE_LATE_CNT, one R.PWR_WAKE_LATCH,
    one R.SYS_BOOT_STATUS, one R.EJ_CTRL, all R.JRN_TOT])
  | .outCfgWrite _ _ => some (reportRows ++ ejectorRows ++ [one R.EJ_FIRE_LATE_CNT, one R.PWR_WAKE_LATCH,
    one R.SYS_BOOT_STATUS, all R.EJ_OUT_CFG, all R.JRN_TOT])
  | .flush _ _ => some (reportRows ++ ejectorRows ++ [one R.PWR_WAKE_LATCH, one R.SYS_BOOT_STATUS])
  | .rateWrite _ => some (reportRows ++ [one R.PWR_WAKE_LATCH, one R.SYS_BOOT_STATUS, one R.PTP_STATUS,
    one R.PTP_RATE])
  | .stepRequest _ => some (reportRows ++ [one R.PWR_WAKE_LATCH, one R.SYS_BOOT_STATUS, one R.PTP_STATUS,
    one R.PTP_STEP_CTRL])
  | .ptpCfgWrite _ => some (reportRows ++ [one R.PWR_WAKE_LATCH, one R.SYS_BOOT_STATUS, one R.PTP_CFG,
    one R.PTP_STATUS])
  | .ptpRx _ _ _ _ _ _ _ => some (reportRows ++ [one R.PTP_STATUS, all R.PTP_CNT_RXEV, all R.PTP_CNT_RXDROP,
    all R.PTP_CNT_OTHER])
  | .ptpTx _ _ _ _ _ => some (reportRows ++ [one R.PTP_STATUS, all R.PTP_CNT_TXEV, all R.PTP_CNT_TXLOST])
  | .ptpSample _ _ _ _ => some (reportRows ++ [one R.PTP_STATUS, one R.PTP_RATE, one R.PTP_STEP_CTRL,
    one R.PTP_SMP_STATUS, all R.PTP_PORT_STATUS])
  | .holdover _ => some (reportRows ++ [one R.PTP_STATUS])
  | .markArm _ => some (reportRows ++ [one R.PWR_WAKE_LATCH, one R.SYS_BOOT_STATUS, one R.PTP_STATUS,
    one R.PTP_EVT_CFG, one R.PTP_EVT_MARK_HI, one R.PTP_EVT_STATUS, one R.PTP_EVT_LOST])
  | .portEnable _ _ => some (reportRows ++ [one R.PWR_WAKE_LATCH, one R.SYS_BOOT_STATUS, all R.CXP_PORT_CFG,
    all R.CXP_PORT_STATUS, all R.CXP_CNT_UNDELIV, all R.LANE_STATUS])
  | .pocxpPowered _ => some ([all R.CXP_PORT_STATUS, all R.LANE_STATUS])
  | .discover _ _ => some (reportRows ++ [all R.CXP_PORT_STATUS, all R.CXP_CNT_UNDELIV])
  | .config _ _ => some (reportRows ++ [all R.CXP_PORT_STATUS, all R.CXP_CNT_UNDELIV])
  | .cameraLinkDown _ _ => some (reportRows ++ [all R.CXP_PORT_STATUS, all R.CXP_CNT_UNDELIV])
  | .downRetry _ => some ([all R.CXP_PORT_STATUS, all R.CXP_CNT_RETRY, all R.LANE_STATUS])
  | .resyncEnd _ => some ([all R.CXP_PORT_STATUS])
  | .ctrlTransaction _ _ => some (reportRows ++ [one R.PWR_WAKE_LATCH, one R.SYS_BOOT_STATUS, all R.CXP_CTRL_CMD,
    all R.CXP_CTRL_STATUS])
  | .ctrlAck _ _ _ _ _ => some (reportRows ++ [all R.CXP_PORT_STATUS, all R.CXP_CTRL_DATA, all R.CXP_CTRL_STATUS])
  | .ctrlTimeout _ => some (reportRows ++ [all R.CXP_PORT_STATUS, all R.CXP_CTRL_STATUS])
  | .frameTimeTrigger _ => some (reportRows ++ [all R.CXP_PORT_STATUS, all R.CXP_CNT_UNDELIV, all R.CXP_CNT_OVERRUN])
  | .softTrigger _ _ => some (reportRows ++ [one R.PWR_WAKE_LATCH, one R.SYS_BOOT_STATUS, all R.CXP_PORT_STATUS,
    all R.CXP_CNT_UNDELIV, all R.CXP_CNT_OVERRUN])
  | .delayedTrigger _ => some (reportRows ++ [all R.CXP_PORT_STATUS, all R.CXP_CNT_UNDELIV, all R.CXP_CNT_OVERRUN])
  | .trigCfgWrite _ _ => some (reportRows ++ [one R.PWR_WAKE_LATCH, one R.SYS_BOOT_STATUS, all R.CXP_PORT_STATUS,
    all R.CXP_TRIG_CFG, all R.CXP_CNT_UNDELIV])
  | .streamPacket _ _ _ _ _ _ _ _ => some (reportRows ++ writeRows ++ [all R.CXP_PORT_STATUS, all R.CXP_BIND,
    all R.CXP_FB_STATUS, all R.CXP_HDR_SIZE, all R.CXP_HDR_FMT, all R.CXP_CNT_LINES, all R.CXP_CNT_FRAMES,
    all R.CXP_CNT_CRC, all R.CXP_CNT_SYM, all R.CXP_CNT_MARKED, all R.CXP_CNT_UNDELIV, all R.CXP_CNT_UNSOL,
    all R.CXP_CNT_DISCARD, all R.ISP_PIPE_STATUS, all R.ISP_CNT_OUT_FULL, one R.MMU_CNT_WALKS, all R.JRN_TOT])
  | .imageHeader _ _ _ _ _ _ => some (reportRows ++ writeRows ++ [all R.CXP_PORT_STATUS, all R.CXP_BIND,
    all R.CXP_FB_STATUS, all R.CXP_HDR_SIZE, all R.CXP_HDR_FMT, all R.CXP_CNT_LINES, all R.CXP_CNT_FRAMES,
    all R.CXP_CNT_CRC, all R.CXP_CNT_SYM, all R.CXP_CNT_MARKED, all R.CXP_CNT_UNDELIV, all R.CXP_CNT_UNSOL,
    all R.CXP_CNT_DISCARD, all R.ISP_PIPE_STATUS, all R.ISP_CNT_OUT_FULL, one R.MMU_CNT_WALKS, all R.JRN_TOT])
  | .lineTimeout _ => some (reportRows ++ [all R.CXP_PORT_STATUS, all R.CXP_CNT_UNDELIV])
  | .frameTimeout _ => some (reportRows ++ [all R.CXP_PORT_STATUS, all R.CXP_CNT_UNDELIV])
  | .pipelineLine _ => some ([all R.ISP_CNT_PRESENCE, all R.ISP_CNT_OUTSIDE])
  | .partImageComplete _ => some (reportRows ++ writeRows ++ [all R.ISP_PIPE_STATUS, all R.ISP_OUT_TAIL,
    all R.ISP_CNT_PARTS, one R.MMU_CNT_WALKS, all R.SYNC_COUNT, all R.SYNC_STATE])
  | .throughMemoryFrame _ => some (reportRows ++ readRows ++ [all R.CXP_FB_STATUS, all R.ISP_PIPE_STATUS,
    all R.ISP_CNT_TM_FRAMES, all R.ISP_CNT_OUT_FULL, all R.ISP_CNT_PRESENCE, all R.ISP_CNT_OUTSIDE])
  | .rebindRequest _ _ => some (reportRows ++ [one R.PWR_WAKE_LATCH, one R.SYS_BOOT_STATUS, one R.BOOT_IMG_STATUS,
    one R.BOOT_IMG_DETAIL, all R.CXP_PORT_STATUS, all R.CXP_BIND])
  | .rebindSwitch _ => some (reportRows ++ [all R.CXP_PORT_STATUS, all R.CXP_BIND, all R.ISP_PIPE_STATUS])
  | .outHeadWrite _ _ => some (reportRows ++ [one R.PWR_WAKE_LATCH, one R.SYS_BOOT_STATUS, all R.ISP_OUT_HEAD])
  | .pipeCellWrite _ _ => some (reportRows ++ [one R.PWR_WAKE_LATCH, one R.SYS_BOOT_STATUS, one R.BOOT_IMG_STATUS,
    one R.BOOT_IMG_DETAIL, all R.ISP_PIPE_CELL])
  | .txL0 _ => some (reportRows ++ [one R.PWR_WAKE_LATCH, one R.SYS_BOOT_STATUS, all R.LANE_STATUS, all R.LANE_TX_CMD,
    all R.LANE_CNT_WAKE])
  | .txL1 _ => some (reportRows ++ [one R.PWR_WAKE_LATCH, one R.SYS_BOOT_STATUS, all R.LANE_STATUS, all R.LANE_TX_CMD,
    all R.LANE_CNT_WAKE])
  | .txL2 _ => some (reportRows ++ [one R.PWR_WAKE_LATCH, one R.SYS_BOOT_STATUS, all R.LANE_STATUS, all R.LANE_TX_CMD,
    all R.LANE_CNT_WAKE])
  | .txOff _ => some (reportRows ++ [one R.PWR_WAKE_LATCH, one R.SYS_BOOT_STATUS, all R.LANE_STATUS,
    all R.LANE_TX_CMD, all R.LANE_CNT_WAKE])
  | .txWake _ => some (reportRows ++ [one R.PWR_WAKE_LATCH, one R.SYS_BOOT_STATUS, all R.LANE_STATUS,
    all R.LANE_TX_CMD, all R.LANE_CNT_WAKE])
  | .prbsOn _ => some (reportRows ++ [one R.PWR_WAKE_LATCH, one R.SYS_BOOT_STATUS, all R.LANE_STATUS,
    all R.LANE_TX_CMD, all R.LANE_CNT_WAKE])
  | .prbsOff _ => some (reportRows ++ [one R.PWR_WAKE_LATCH, one R.SYS_BOOT_STATUS, all R.LANE_STATUS,
    all R.LANE_TX_CMD, all R.LANE_CNT_WAKE])
  | .rxStateCommand _ _ => some (reportRows ++ [one R.PWR_WAKE_LATCH, one R.SYS_BOOT_STATUS, all R.LANE_STATUS,
    all R.LANE_RX_CMD])
  | .synthCalDone _ _ => some (reportRows ++ [all R.PTP_PORT_STATUS, all R.LANE_STATUS, one R.RING_STATUS])
  | .synthLocked _ _ => some (reportRows ++ [all R.PTP_PORT_STATUS, all R.LANE_STATUS, all R.LANE_CNT_WAKE,
    all R.LANE_CNT_TXFAIL, one R.RING_STATUS])
  | .heldCommandTimeout _ => some (reportRows ++ [all R.LANE_STATUS, all R.LANE_CNT_TXFAIL])
  | .fastRelock _ => some ([all R.LANE_STATUS, all R.LANE_CNT_WAKE, all R.RING_SIDE_STATUS])
  | .wakeGuardExpiry _ => some (reportRows ++ ringRows ++ [all R.PTP_PORT_STATUS, all R.LANE_CNT_GUARD,
    all R.LANE_CNT_RETRAIN, one R.RING_STATUS, all R.RING_SIDE_TRAIN])
  | .retrainComplete _ _ => some (reportRows ++ [all R.CXP_PORT_STATUS, all R.CXP_CNT_UNDELIV, all R.LANE_STATUS,
    all R.LANE_CNT_WAKE])
  | .lossOfSignal _ => some (reportRows ++ ringRows ++ [all R.CXP_PORT_STATUS, all R.CXP_CNT_UNDELIV,
    all R.PTP_PORT_STATUS, all R.LANE_CNT_LOS, one R.RING_STATUS, all R.RING_SIDE_TRAIN])
  | .loopWrite _ _ => some (reportRows ++ [one R.PWR_WAKE_LATCH, one R.SYS_BOOT_STATUS, all R.LANE_CFG,
    all R.LANE_STATUS])
  | .prbsCheckerEnable _ _ => some (reportRows ++ [one R.PWR_WAKE_LATCH, one R.SYS_BOOT_STATUS, all R.LANE_PRBS,
    all R.LANE_PRBS_ERR, all R.LANE_PRBS_BITS_LO, all R.LANE_PRBS_BITS_HI])
  | .ringEnable _ => some (reportRows ++ ringRows ++ [one R.PWR_WAKE_LATCH, one R.SYS_BOOT_STATUS,
    all R.PTP_PORT_STATUS, one R.RING_CTRL, one R.RING_STATUS, one R.RING_TOPO, one R.RING_LAYOUT,
    all R.RING_SIDE_TRAIN])
  | .ringTest _ => some (reportRows ++ ringRows ++ [one R.PWR_WAKE_LATCH, one R.SYS_BOOT_STATUS,
    all R.PTP_PORT_STATUS, one R.RING_CTRL, one R.RING_STATUS, one R.RING_TOPO, one R.RING_LAYOUT,
    all R.RING_SIDE_TRAIN])
  | .linkTrainingDone _ _ => some (reportRows ++ ringRows ++ [one R.SYS_ID, all R.PTP_PORT_STATUS, one R.RING_STATUS,
    one R.SYS_REPRO_STATUS])
  | .trainRetry _ => some (reportRows ++ ringRows ++ [all R.RING_SIDE_TRAIN])
  | .ringFrame _ _ _ => some (reportRows ++ ringRows ++ writeRows ++ [one R.RING_STATUS, one R.RING_CNT_DUP,
    one R.RING_CNT_LOST, all R.RING_SIDE_FRAMES_RX, all R.RING_SIDE_CRC, all R.RING_SIDE_RETRY_HWM,
    one R.MMU_CNT_WALKS, one R.SCHED_STATUS, one R.SCHED_RS_STATUS, one R.SCHED_RS_BYTES, one R.SYS_REPRO_STATUS,
    one R.MESH_PROG_STATUS])
  | .ack _ _ => some (reportRows ++ ringRows ++ [all R.RING_SIDE_RETRY_HWM])
  | .nak _ _ => some (reportRows ++ ringRows ++ [all R.PTP_PORT_STATUS, one R.RING_STATUS, all R.RING_SIDE_NAK_RETRY,
    all R.RING_SIDE_RETRY_HWM, all R.RING_SIDE_TRAIN])
  | .ackTimeout _ => some (reportRows ++ ringRows ++ [all R.PTP_PORT_STATUS, one R.RING_STATUS,
    all R.RING_SIDE_TMO_RETRY, all R.RING_SIDE_TRAIN])
  | .linkSleep _ => some ([all R.LANE_STATUS, all R.RING_SIDE_STATUS, one R.SYS_REPRO_STATUS, one R.MESH_TW_FLAGS])
  | .ringDiscover _ _ _ => some (reportRows ++ ringRows ++ [all R.PTP_PORT_STATUS, one R.RING_STATUS, one R.RING_TOPO,
    one R.RING_LAYOUT, all R.RING_SIDE_FRAMES_RX, all R.RING_SIDE_CRC, all R.RING_SIDE_RETRY_HWM])
  | .quiesce _ _ => some (reportRows ++ ringRows ++ [all R.RING_SIDE_FRAMES_RX, all R.RING_SIDE_CRC,
    all R.RING_SIDE_RETRY_HWM])
  | .quiesced _ _ => some (reportRows ++ readRows ++ ringRows ++ [all R.PTP_PORT_STATUS, one R.RING_STATUS,
    one R.RING_TOPO, one R.RING_LAYOUT, one R.RING_CNT_DST_ABSENT, one R.RING_CNT_QUIESCE, one R.RING_QUIESCE_US,
    all R.RING_SIDE_FRAMES_RX, all R.RING_SIDE_CRC, all R.RING_SIDE_RETRY_HWM, all R.SYNC_COUNT, all R.SYNC_STATE,
    one R.SCHED_STATUS, one R.SCHED_RS_STATUS, one R.SCHED_RS_BYTES, one R.SYS_REPRO_STATUS])
  | .switch _ _ _ _ _ => some (reportRows ++ readRows ++ ringRows ++ [all R.PTP_PORT_STATUS, one R.RING_STATUS,
    one R.RING_TOPO, one R.RING_LAYOUT, one R.RING_CNT_DST_ABSENT, one R.RING_CNT_QUIESCE, one R.RING_QUIESCE_US,
    all R.RING_SIDE_FRAMES_RX, all R.RING_SIDE_CRC, all R.RING_SIDE_RETRY_HWM, all R.SYNC_COUNT, all R.SYNC_STATE,
    one R.SCHED_STATUS, one R.SCHED_RS_STATUS, one R.SCHED_RS_BYTES, one R.SYS_REPRO_STATUS])
  | .ringLinkDown _ _ => some (reportRows ++ ringRows ++ [all R.PTP_PORT_STATUS, one R.RING_STATUS,
    all R.RING_SIDE_FRAMES_RX, all R.RING_SIDE_CRC, all R.RING_SIDE_RETRY_HWM, all R.RING_SIDE_TRAIN])
  | .layoutReq _ _ _ => some (reportRows ++ ringRows ++ [all R.RING_SIDE_FRAMES_RX, all R.RING_SIDE_CRC,
    all R.RING_SIDE_RETRY_HWM])
  | .layoutAns _ _ _ => some (reportRows ++ ringRows ++ [one R.RING_STATUS, one R.RING_LAYOUT,
    all R.RING_SIDE_FRAMES_RX, all R.RING_SIDE_CRC, all R.RING_SIDE_RETRY_HWM])
  | .layoutRequest _ => some (reportRows ++ ringRows ++ [one R.PWR_WAKE_LATCH, one R.SYS_BOOT_STATUS,
    one R.BOOT_IMG_STATUS, one R.BOOT_IMG_DETAIL, one R.RING_STATUS, one R.RING_LAYOUT])
  | .linkTmoExpiry _ _ => some (reportRows ++ ringRows ++ [one R.RING_STATUS, one R.RING_TOPO, one R.RING_LAYOUT])
  | .bundleIssue _ => some (reportRows ++ bundleRows ++ [one R.SYS_REPRO_STATUS])
  | .globalLoadResponse _ _ _ _ => some (reportRows ++ readRows ++ [all R.GILL_LOOP, one R.MESH_TW_G,
    one R.MESH_TW_REF_NS, one R.MESH_TW_RETRY_NS])
  | .gillMemFaultStop _ => some (reportRows ++ [all R.GILL_STATUS, all R.GILL_FAULT, all R.GILL_FAULT_INFO,
    all R.GILL_LOOP, all R.SYNC_STATE])
  | .syncGrant _ => some ([all R.GILL_LOOP, all R.SYNC_COUNT, all R.SYNC_STATE])
  | .timedOpTimeout _ => some (reportRows ++ [all R.GILL_STATUS, all R.GILL_FAULT, all R.GILL_FAULT_INFO,
    all R.GILL_LOOP, all R.SYNC_STATE, one R.SYS_REPRO_STATUS, one R.MESH_PROG_STATUS])
  | .queueMessageArrival _ _ _ _ => some (reportRows ++ [all R.GILL_LOOP, all R.SYNC_COUNT, all R.SYNC_STATE])
  | .queueCreditReturn _ _ => some ([all R.GILL_LOOP])
  | .fenceComplete _ => some ([all R.GILL_LOOP])
  | .invocationEnd _ => some (reportRows ++ [all R.GILL_STATUS, all R.GILL_LOOP])
  | .dbgHalt _ => some (reportRows ++ [one R.PWR_WAKE_LATCH, one R.SYS_BOOT_STATUS, all R.GILL_STATUS])
  | .dbgResume _ => some (reportRows ++ [one R.PWR_WAKE_LATCH, one R.SYS_BOOT_STATUS, all R.GILL_STATUS])
  | .dbgStep _ => some (reportRows ++ bundleRows ++ [one R.PWR_WAKE_LATCH, one R.SYS_BOOT_STATUS,
    one R.SYS_REPRO_STATUS])
  | .boxdec _ _ _ => some (reportRows ++ readRows ++ [one R.DET_STATUS, one R.DET_CNT_BOXDEC, one R.DET_CNT_NMS,
    one R.DET_CNT_FAIL, one R.DET_CNT_DROPPED, one R.DET_MAX_US, all R.DMA_ENG_STATUS, all R.DMA_SUB_STATUS,
    all R.DMA_CNT_ITEMS, all R.DMA_CNT_FAILED])
  | .nms _ _ _ => some (reportRows ++ readRows ++ [one R.DET_STATUS, one R.DET_CNT_BOXDEC, one R.DET_CNT_NMS,
    one R.DET_CNT_FAIL, one R.DET_CNT_DROPPED, one R.DET_MAX_US, all R.DMA_ENG_STATUS, all R.DMA_SUB_STATUS,
    all R.DMA_CNT_ITEMS, all R.DMA_CNT_FAILED])
  | .transactionResponse _ _ _ _ _ _ _ _ _ => some (reportRows ++ writeRows ++ [all R.GILL_LOOP, one R.MMU_CNT_WALKS,
    all R.MEM_CH_LAT_MAX, all R.SYNC_COUNT, all R.SYNC_STATE, one R.MESH_TW_G, one R.MESH_TW_REF_NS,
    one R.MESH_TW_RETRY_NS])
  | .refresh _ _ => some ([all R.MEM_CH_REF_MAX])
  | .zqCalibration _ => some []
  | .mr4Read _ _ => some (reportRows ++ [one R.MMU_STATUS, all R.MEM_CH_STATUS])
  | .controllerWatchdog _ _ => some (reportRows ++ [one R.EJ_LSTOP, all R.EJ_OUT_STATUS, all R.EJ_OUT_HEAD_LO,
    all R.EJ_OUT_HEAD_HI, one R.MMU_STATUS, one R.MMU_FQ_LOST, one R.MMU_CNT_FAULTS])
  | .dmaSubmit _ _ => some (reportRows ++ [one R.PWR_WAKE_LATCH, one R.SYS_BOOT_STATUS, all R.DMA_ENG_STATUS,
    all R.DMA_SUB_HI, all R.DMA_SUB_STATUS])
  | .chainStart _ => some (reportRows ++ readRows ++ [all R.DMA_ENG_STATUS, all R.DMA_SUB_STATUS,
    all R.DMA_CNT_CHAINS, all R.DMA_CNT_ITEMS, all R.DMA_CNT_FAILED, all R.SYNC_COUNT, all R.SYNC_STATE])
  | .copy _ _ => some (reportRows ++ readRows ++ [all R.DMA_ENG_STATUS, all R.DMA_SUB_STATUS, all R.DMA_CNT_ITEMS,
    all R.DMA_CNT_FAILED])
  | .fill _ _ => some (reportRows ++ writeRows ++ [one R.MMU_CNT_WALKS, all R.DMA_ENG_STATUS, all R.DMA_SUB_STATUS,
    all R.DMA_CNT_ITEMS, all R.DMA_CNT_FAILED])
  | .copy2d _ _ => some (reportRows ++ readRows ++ [all R.DMA_ENG_STATUS, all R.DMA_SUB_STATUS, all R.DMA_CNT_ITEMS,
    all R.DMA_CNT_FAILED])
  | .signal _ _ => some (reportRows ++ writeRows ++ [one R.MMU_CNT_WALKS, all R.DMA_ENG_STATUS, all R.DMA_SUB_STATUS,
    all R.DMA_CNT_ITEMS, all R.DMA_CNT_FAILED, all R.SYNC_COUNT, all R.SYNC_STATE])
  | .chainEnd _ => some (reportRows ++ [all R.DMA_ENG_STATUS, all R.DMA_CNT_CHAINS, all R.SYNC_COUNT,
    all R.SYNC_STATE])
  | .dmaAbort _ _ => some (reportRows ++ readRows ++ [one R.PWR_WAKE_LATCH, one R.SYS_BOOT_STATUS,
    all R.DMA_ENG_STATUS, all R.DMA_SUB_STATUS, all R.DMA_CNT_CHAINS, all R.DMA_CNT_ITEMS, all R.DMA_CNT_FAILED,
    all R.SYNC_COUNT, all R.SYNC_STATE])
  | .syncAdd _ _ => some (reportRows ++ [one R.PWR_WAKE_LATCH, one R.SYS_BOOT_STATUS, all R.SYNC_COUNT,
    all R.SYNC_STATE])
  | .syncReset _ => some (reportRows ++ [one R.PWR_WAKE_LATCH, one R.SYS_BOOT_STATUS, all R.SYNC_COUNT,
    all R.SYNC_STATE])
  | .submit _ => some (reportRows ++ trackRows ++ submissionRows ++ [one R.EJ_LATE_ARRIVED, one R.EJ_FIRE_LATE_CNT,
    one R.PWR_WAKE_LATCH, one R.SYS_BOOT_STATUS])
  | .workMessage _ => some (reportRows ++ trackRows ++ submissionRows ++ [one R.EJ_LATE_ARRIVED,
    one R.EJ_FIRE_LATE_CNT])
  | .dispatch _ => some (reportRows ++ trackRows ++ bundleRows ++ [one R.SYS_ID, one R.EJ_LATE_ARRIVED,
    one R.EJ_FIRE_LATE_CNT, all R.SCHED_Q_PREEMPTED, all R.SCHED_Q_DOOMED, all R.SCHED_P_PREEMPTS,
    all R.SCHED_P_START_MAX_US, one R.SYS_REPRO_STATUS, one R.MESH_TW_FLAGS])
  | .stealToken _ => some ([one R.SYS_ID, all R.SCHED_P_STEALS, one R.SYS_REPRO_STATUS])
  | .quantumExpiry _ => some (reportRows ++ trackRows ++ bundleRows ++ [one R.SYS_ID, one R.EJ_LATE_ARRIVED,
    one R.EJ_FIRE_LATE_CNT, all R.SCHED_Q_PREEMPTED, all R.SCHED_Q_DOOMED, all R.SCHED_P_PREEMPTS,
    all R.SCHED_P_START_MAX_US, one R.SYS_REPRO_STATUS, one R.MESH_TW_FLAGS])
  | .preemptDrainDone _ => some []
  | .saveComplete _ _ => some (reportRows ++ trackRows ++ [one R.EJ_LATE_ARRIVED, one R.EJ_FIRE_LATE_CNT,
    one R.MMU_STATUS, one R.MMU_FQ_LOST, one R.MMU_CNT_FAULTS, all R.SCHED_P_SAVE_MAX_US])
  | .restoreComplete _ _ => some (reportRows ++ trackRows ++ [one R.EJ_LATE_ARRIVED, one R.EJ_FIRE_LATE_CNT,
    all R.GILL_PC, one R.MMU_STATUS, one R.MMU_FQ_LOST, one R.MMU_CNT_FAULTS, one R.MEM_ECC_STATUS,
    all R.MEM_CH_CNT_CORR, all R.MEM_CH_CNT_UNCORR, all R.MEM_CH_UNCORR_LO, all R.MEM_CH_UNCORR_HI,
    all R.SCHED_P_RESTORE_MAX_US, one R.MESH_PROG_STATUS])
  | .stateSwapComplete _ => some (reportRows ++ trackRows ++ readRows ++ [one R.EJ_LATE_ARRIVED,
    one R.EJ_FIRE_LATE_CNT, all R.GILL_PC, all R.SCHED_P_SWAP_MAX_US, all R.SCHED_P_START_MAX_US,
    one R.MESH_TW_FLAGS])
  | .gangEnd _ => some (reportRows ++ trackRows ++ [one R.EJ_LATE_ARRIVED, one R.EJ_FIRE_LATE_CNT])
  | .workCancel _ => some (reportRows ++ [one R.PWR_WAKE_LATCH, one R.SYS_BOOT_STATUS, all R.GILL_STATUS,
    all R.GILL_LOOP, all R.SYNC_COUNT, all R.SYNC_STATE, one R.SCHED_STATUS, one R.SCHED_CPL_TAIL,
    one R.SCHED_CPL_LOST, all R.SCHED_Q_STATUS, all R.SCHED_Q_DONE, all R.SCHED_Q_FAILED, all R.SCHED_P_STATUS,
    all R.SCHED_GILL_RES, one R.MESH_TW_CTRL, one R.MESH_TW_RUN_NS])
  | .walk _ => some (reportRows ++ readRows ++ [all R.GILL_LOOP, all R.SYNC_COUNT, all R.SYNC_STATE, one R.PFX_STATUS,
    one R.PFX_USED, one R.PFX_CNT_WALK, one R.PFX_CNT_HIT, one R.PFX_CNT_FAIL, one R.ADP_STATUS])
  | .insert _ => some (reportRows ++ readRows ++ [one R.SYS_ID, all R.GILL_LOOP, all R.SYNC_COUNT, all R.SYNC_STATE,
    one R.PFX_STATUS, one R.PFX_USED, one R.PFX_CNT_INSERT, one R.PFX_CNT_EVICT, one R.PFX_CNT_FAIL, one R.ADP_STATUS,
    one R.SYS_REPRO_STATUS])
  | .release _ => some (reportRows ++ readRows ++ [all R.GILL_LOOP, all R.SYNC_COUNT, all R.SYNC_STATE,
    one R.PFX_STATUS, one R.PFX_USED, one R.PFX_CNT_FAIL, one R.ADP_STATUS])
  | .pin _ => some (reportRows ++ readRows ++ [all R.GILL_LOOP, all R.SYNC_COUNT, all R.SYNC_STATE, one R.PFX_STATUS,
    one R.PFX_USED, one R.PFX_CNT_FAIL, one R.ADP_STATUS])
  | .unpin _ => some (reportRows ++ readRows ++ [all R.GILL_LOOP, all R.SYNC_COUNT, all R.SYNC_STATE,
    one R.PFX_STATUS, one R.PFX_USED, one R.PFX_CNT_FAIL, one R.ADP_STATUS])
  | .evict _ => some (reportRows ++ readRows ++ [one R.SYS_ID, all R.GILL_LOOP, all R.SYNC_COUNT, all R.SYNC_STATE,
    one R.PFX_STATUS, one R.PFX_USED, one R.PFX_CNT_EVICT, one R.PFX_CNT_FAIL, one R.ADP_STATUS,
    one R.SYS_REPRO_STATUS])
  | .gather _ _ => some (reportRows ++ readRows ++ [all R.GILL_LOOP, all R.SYNC_COUNT, all R.SYNC_STATE,
    one R.PFX_STATUS, one R.PFX_CNT_FAIL, one R.ADP_STATUS, one R.ADP_INFLIGHT, one R.ADP_CNT_GATHERS])
  | .publish _ => some (reportRows ++ readRows ++ [all R.GILL_LOOP, all R.SYNC_COUNT, all R.SYNC_STATE,
    one R.PFX_STATUS, one R.PFX_CNT_FAIL, one R.ADP_STATUS, one R.ADP_INFLIGHT, one R.ADP_CNT_PUBLISHES])
  | .pfxFormat _ => some (reportRows ++ writeRows ++ [one R.PWR_WAKE_LATCH, one R.SYS_BOOT_STATUS,
    one R.MMU_CNT_WALKS, one R.PFX_CTRL, one R.PFX_STATUS, one R.PFX_USED])
  | .annAbort _ => some (reportRows ++ writeRows ++ [one R.PWR_WAKE_LATCH, one R.SYS_BOOT_STATUS, one R.MMU_CNT_WALKS,
    one R.ANN_STATUS, one R.ANN_CNT_PROBLEMS, one R.ANN_CNT_FAILED, one R.ANN_MAX_US, one R.SYS_REPRO_STATUS,
    one R.MESH_PROG_STATUS])
  | .vcStall _ _ _ => some (reportRows ++ [one R.MESH_PROG_STATUS, one R.MESH_PROG_CNT])
  | .mbxEnable _ => some (reportRows ++ [one R.PWR_WAKE_LATCH, one R.SYS_BOOT_STATUS, one R.MBX_CTRL, one R.MBX_HEAD,
    one R.MBX_DONE, one R.MBX_HSTATUS])
  | .mbxHeadWrite _ => some (reportRows ++ [one R.PWR_WAKE_LATCH, one R.SYS_BOOT_STATUS, one R.MBX_HEAD,
    one R.MBX_CNT_HEAD_BAD])
  | .irqPendClear _ => some (reportRows ++ [one R.PWR_WAKE_LATCH, one R.SYS_BOOT_STATUS])
  | .wqDoorbell _ => some (reportRows ++ [one R.PWR_WAKE_LATCH, one R.SYS_BOOT_STATUS, one R.MBX_HSTATUS,
    one R.MBX_WQ_TAIL])
  | .bar2Access _ _ _ => some (reportRows ++ writeRows ++ [one R.MEM_ECC_STATUS, all R.MEM_CH_CNT_CORR,
    all R.MEM_CH_CNT_UNCORR, all R.MEM_CH_UNCORR_LO, all R.MEM_CH_UNCORR_HI, one R.MESH_PROG_STATUS,
    one R.MBX_CNT_BAR2_FAULT, all R.JRN_TOT])
  | .hostWindowAccess _ => some []
  | .hostWindowTimeout _ _ => some (reportRows ++ writeRows)
  | .runsetSave _ _ => none
  | .spiPush _ => some (reportRows ++ [one R.PWR_WAKE_LATCH, one R.SYS_BOOT_STATUS, one R.SPI_STATUS])
  | .spiEntryEnd _ _ => some (reportRows ++ [one R.SPI_STATUS, one R.SPI_CNT_ENTRIES, one R.SPI_CNT_FAILED,
    all R.SPI_RXBUF])
  | .spiAbort _ _ _ _ => some (reportRows ++ [one R.PWR_WAKE_LATCH, one R.SYS_BOOT_STATUS, one R.SPI_CTRL,
    one R.SPI_STATUS, one R.SPI_CNT_ENTRIES, one R.SPI_CNT_FAILED, all R.SPI_RXBUF])
  | .i2cPush _ => some (reportRows ++ [one R.PWR_WAKE_LATCH, one R.SYS_BOOT_STATUS, one R.I2C_STATUS, one R.I2C_FILL])
  | .i2cCommandStart _ => some (reportRows ++ [one R.I2C_STATUS, one R.I2C_FILL, one R.I2C_CNT_CMDS,
    all R.I2C_TWIN_LIVE])
  | .i2cCommandEnd _ => some (reportRows ++ [one R.I2C_STATUS, one R.I2C_FILL, one R.I2C_CNT_CMDS, one R.I2C_CNT_NACK,
    all R.I2C_RXBUF])
  | .arbitrationLost _ _ _ => some (reportRows ++ [one R.I2C_STATUS, one R.I2C_FILL, one R.I2C_CNT_CMDS,
    one R.I2C_CNT_ARB_LOST])
  | .targetTransaction _ _ _ => some (reportRows ++ [one R.I2C_STATUS])
  | .targetTransactionEnd _ => some (reportRows ++ [one R.I2C_STATUS, one R.I2C_FILL, one R.I2C_CNT_TGT_TXN,
    all R.I2C_TWIN_LIVE])
  | .i2cAbort _ _ _ => some (reportRows ++ [one R.PWR_WAKE_LATCH, one R.SYS_BOOT_STATUS, one R.I2C_CTRL,
    one R.I2C_STATUS, one R.I2C_FILL, one R.I2C_CNT_CMDS, one R.I2C_CNT_TGT_TXN, all R.I2C_TWIN_LIVE])
  | .stageRecord _ _ => some (reportRows)
  | .pageProgram _ => some (reportRows ++ [one R.JRN_RUNWAY, one R.JRN_WRPTR, one R.JRN_OLDEST, one R.JRN_START_CNT,
    one R.JRN_CNT_PAGES, one R.JRN_CNT_DEFER, one R.JRN_CNT_FLASH_FAIL])
  | .flushMsExpiry _ => some (reportRows ++ [one R.JRN_RUNWAY, one R.JRN_WRPTR, one R.JRN_OLDEST, one R.JRN_START_CNT,
    one R.JRN_CNT_PAGES, one R.JRN_CNT_DEFER, one R.JRN_CNT_FLASH_FAIL])
  | .journalFlush _ => some (reportRows ++ [one R.PWR_WAKE_LATCH, one R.SYS_BOOT_STATUS, one R.JRN_RUNWAY,
    one R.JRN_WRPTR, one R.JRN_OLDEST, one R.JRN_START_CNT, one R.JRN_CNT_PAGES, one R.JRN_CNT_DEFER,
    one R.JRN_CNT_FLASH_FAIL])
  | .subsectorErase _ => some (reportRows ++ [one R.JRN_RUNWAY, one R.JRN_WRPTR, one R.JRN_OLDEST,
    one R.JRN_START_CNT, one R.JRN_CNT_ERASES, one R.JRN_CNT_DEFER, one R.JRN_CNT_FLASH_FAIL])
  | .holdupFinalPage _ => none
  | .ethernetLinkChange _ _ => some ([all R.PTP_PORT_STATUS])
  | .perstRelease _ => some []
  | .pcieLinkUp _ _ => some (reportRows ++ [one R.MBX_LINK, one R.MBX_HSTATUS])
  | .configSpaceWrite _ => some ([one R.MBX_HSTATUS, all R.MBX_MSIX_PBA])
  | .aerError _ => some (reportRows ++ [one R.MBX_HSTATUS, one R.MBX_CNT_PCIE_ERR])
  | .supplyLowCleared _ => some ([one R.PWR_MOD_STATUS])
  | .wireDisagreeEnd _ _ => some []
  | .sleepBlocksReceived _ _ => some ([all R.LANE_STATUS, all R.RING_SIDE_STATUS])
  | .switchPositionReached _ => some (reportRows ++ ringRows ++ [one R.PWR_RELAY, all R.PTP_PORT_STATUS,
    one R.RING_STATUS, one R.RING_LAYOUT, all R.RING_SIDE_TRAIN])
  | .prbsLockAcquired _ => some ([all R.LANE_PRBS])
  | .prbsLockLost _ => some ([all R.LANE_PRBS, all R.LANE_PRBS_ERR, all R.LANE_PRBS_BITS_LO, all R.LANE_PRBS_BITS_HI])
  | .cxpEventPacket _ _ => some ([all R.CXP_CNT_EVENT])
  | .heldAccessPerform => none
  | .powerOnStart => none
  | .vinShortDip => some ([one R.PWR_MOD_STATUS])
  | .nrstAssert => none
  | .nrstRelease => none
  | .thermalThrottleStart => some (reportRows ++ [one R.PWR_MOD_STATUS, one R.CLK_CORE, one R.SCHED_STATUS,
    one R.SYS_REPRO_STATUS, one R.MESH_TW_FLAGS])
  | .thermalThrottleEnd => some ([one R.PWR_MOD_STATUS, one R.CLK_CORE, one R.SCHED_STATUS])
  | .vcamLow => some (reportRows ++ [one R.PWR_MOD_STATUS, one R.PWR_POCXP_STS])
  | .heartbeatLoss => some ([all R.PTP_PORT_STATUS])
  | .lstopHoldExpiry => some ([one R.EJ_LSTOP])
  | .myceliumDrained => some (reportRows ++ [one R.CLK_STATUS, one R.PWR_MODE_STATUS])
  | .modeCommit => some (reportRows ++ submissionRows ++ [one R.CLK_STATUS, one R.CLK_CORE, one R.PWR_MODE_STATUS,
    one R.PWR_ROLLBACKS, one R.PTP_STATUS, all R.LANE_STATUS, all R.LANE_CNT_WAKE])
  | .modeEntryTimeout => some (reportRows ++ submissionRows ++ [one R.CLK_STATUS, one R.CLK_CORE,
    one R.PWR_MODE_STATUS, one R.PWR_ROLLBACKS, all R.LANE_STATUS, all R.LANE_CNT_WAKE])
  | .modeExit => some ([one R.PWR_MODE_STATUS, one R.SYS_REPRO_STATUS, one R.MESH_TW_FLAGS])
  | .wakeTimerExpiry => some ([one R.PWR_WAKE_LATCH])
  | .hostPkgTimeout => some (reportRows ++ [one R.SYS_BOOT_STATUS])
  | .spores => some ([one R.SYS_TILE_VER, one R.SYS_BOOT_STATUS, all R.BOOT_STAGE_US])
  | .supervisor => some (reportRows ++ [one R.SYS_SUP_VER, one R.SYS_BOOT_STATUS, all R.BOOT_STAGE_US, one R.JRN_CTRL,
    one R.JRN_RUNWAY, one R.JRN_WRPTR, one R.JRN_OLDEST, one R.JRN_START_CNT, one R.JRN_LAST_LOSS,
    one R.JRN_CNT_DEFER, one R.JRN_CNT_CRC, all R.JRN_TOT])
  | .supStartTimeout => some (reportRows ++ fatalRows)
  | .hold => some ([one R.SYS_BOOT_STATUS, all R.BOOT_STAGE_US])
  | .ready => none
  | .stageTimeout => some (reportRows ++ fatalRows)
  | .warmStart => none
  | .saveCfg => none
  | .perstAssert => some (reportRows ++ writeRows ++ [one R.MBX_LINK, one R.MBX_HWIN_CTRL, one R.MBX_CNT_RESETS,
    one R.MBX_WQ_CTRL, span 0xA2000 1024, span 0xA3000 8, span 0xA0410 8])
  | .functionLevelReset => some (reportRows ++ writeRows ++ [one R.MBX_LINK, one R.MBX_HWIN_CTRL,
    one R.MBX_CNT_RESETS, one R.MBX_WQ_CTRL, span 0xA2000 1024, span 0xA3000 8, span 0xA0410 8])
  | .linkDown => some (reportRows ++ writeRows ++ [one R.MBX_LINK, one R.MBX_HWIN_CTRL, one R.MBX_CNT_RESETS,
    one R.MBX_WQ_CTRL, span 0xA2000 1024, span 0xA3000 8, span 0xA0410 8])
  | .imageCommit => some (reportRows ++ commitRows)
  | .storeComplete => some (reportRows ++ [one R.BOOT_IMG_STATUS, one R.BOOT_IMG_SLOTS])
  | .keyrecApplied => some (reportRows ++ [one R.BOOT_IMG_STATUS, one R.BOOT_IMG_KEYS])
  | .routeChangeComplete => some ([one R.MESH_ROUTESET, one R.MESH_EPOCH_STATUS, one R.MESH_EPOCH_COUNT])
  | .routeChangeTimeout => some (reportRows ++ [one R.MESH_EPOCH_STATUS])
  | .speedPeriodTick => some (reportRows ++ [one R.MOT_TRK_STATUS, one R.MOT_TRK_ACTIVE, one R.CLK_FAIL,
    all R.MOT_CH_SPEED, all R.MOT_CH_STATUS])
  | .convPeriodTick => some (reportRows ++ [one R.MOT_TRK_STATUS, one R.MOT_TRK_ACTIVE, one R.CLK_FAIL])
  | .imagePresenceReport => some (reportRows ++ trackRows ++ submissionRows ++ windowRows ++ [one R.MOT_TRK_OPENED,
    one R.MOT_TRK_DROPPED, one R.MOT_TRK_NEXT_SEQ, one R.EJ_FIRE_LATE_CNT, one R.PWR_WAKE_LATCH])
  | .timeEntryDue => some (reportRows ++ ejectorRows ++ [one R.EJ_FIRE_LATE_CNT, all R.JRN_TOT])
  | .ejLogRead => some (reportRows ++ [one R.PWR_WAKE_LATCH, one R.SYS_BOOT_STATUS, all R.EJ_LOG_DATA])
  | .motionFreerun => some (reportRows ++ [one R.PTP_STATUS])
  | .stepApply => some (reportRows ++ [one R.PTP_STATUS, one R.PTP_STEP_CTRL, all R.PTP_STEP_LOG])
  | .samplePop => some (reportRows ++ [one R.PWR_WAKE_LATCH, one R.SYS_BOOT_STATUS, one R.PTP_SMP_STATUS,
    one R.PTP_SMP_OFS_LO, one R.PTP_SMP_OFS_HI, one R.PTP_SMP_DELAY, one R.PTP_SMP_MONO_LO, one R.PTP_SMP_MONO_HI])
  | .evtPop => some (reportRows ++ [one R.PWR_WAKE_LATCH, one R.SYS_BOOT_STATUS, one R.PTP_EVT_STATUS,
    all R.PTP_EVT_DATA])
  | .ptpSnapshotRead => some (reportRows ++ [one R.PWR_WAKE_LATCH, one R.SYS_BOOT_STATUS, one R.PTP_SNAP_FRAC,
    one R.PTP_SNAP_NS, one R.PTP_SNAP_SEC_LO, one R.PTP_SNAP_SEC_HI, one R.PTP_SNAP_MONO_LO, one R.PTP_SNAP_MONO_HI])
  | .ptpOfsRead => some (reportRows ++ [one R.PWR_WAKE_LATCH, one R.SYS_BOOT_STATUS, one R.PTP_OFS_NS,
    one R.PTP_OFS_SEC_LO, one R.PTP_OFS_SEC_HI])
  | .quiesceTimeout => some (reportRows ++ ringRows ++ [one R.RING_STATUS, one R.RING_LAYOUT,
    one R.RING_CNT_DST_ABSENT])
  | .topologyRetry => some (reportRows ++ ringRows)
  | .unmap => some (reportRows ++ [one R.PWR_WAKE_LATCH, one R.SYS_BOOT_STATUS, one R.MMU_STATUS, one R.MMU_OP])
  | .mapR => some (reportRows ++ [one R.PWR_WAKE_LATCH, one R.SYS_BOOT_STATUS, one R.MMU_STATUS, one R.MMU_OP])
  | .mapRw => some (reportRows ++ [one R.PWR_WAKE_LATCH, one R.SYS_BOOT_STATUS, one R.MMU_STATUS, one R.MMU_OP])
  | .mmuOpComplete => some ([one R.MMU_STATUS])
  | .faultRecordPop => some (reportRows ++ [one R.PWR_WAKE_LATCH, one R.SYS_BOOT_STATUS, one R.MMU_STATUS,
    all R.MMU_FQ_DATA])
  | .deadlineUpdate => some []
  | .cplLogRead => some (reportRows ++ [one R.PWR_WAKE_LATCH, one R.SYS_BOOT_STATUS, all R.SCHED_CPL_DATA])
  | .reshardEnd => some (reportRows ++ ringRows ++ writeRows ++ [one R.MMU_CNT_WALKS, all R.SYNC_COUNT,
    all R.SYNC_STATE, one R.SCHED_STATUS, one R.SCHED_RS_STATUS, one R.SYS_REPRO_STATUS, one R.MESH_PROG_STATUS])
  | .adpWrite => some (reportRows ++ readRows ++ [one R.PWR_WAKE_LATCH, one R.SYS_BOOT_STATUS, one R.ADP_CMD,
    one R.ADP_STATUS, one R.ADP_INFLIGHT, one R.ADP_CNT_PUBLISHES])
  | .adpStage => some (reportRows ++ readRows ++ [one R.PWR_WAKE_LATCH, one R.SYS_BOOT_STATUS, one R.ADP_CMD,
    one R.ADP_STATUS, one R.ADP_INFLIGHT, one R.ADP_CNT_PUBLISHES])
  | .adpPublish => some (reportRows ++ readRows ++ [one R.PWR_WAKE_LATCH, one R.SYS_BOOT_STATUS, one R.ADP_CMD,
    one R.ADP_STATUS, one R.ADP_INFLIGHT, one R.ADP_CNT_PUBLISHES])
  | .adpClear => some (reportRows ++ readRows ++ [one R.PWR_WAKE_LATCH, one R.SYS_BOOT_STATUS, one R.ADP_CMD,
    one R.ADP_STATUS, one R.ADP_INFLIGHT, one R.ADP_CNT_PUBLISHES])
  | .adpDescRead => some (reportRows ++ [one R.PWR_WAKE_LATCH, one R.SYS_BOOT_STATUS, all R.ADP_DESC])
  | .augJob => some (reportRows ++ readRows ++ [one R.AUG_STATUS, one R.AUG_POOL_TAIL, one R.AUG_CNT_SAMPLES,
    one R.AUG_CNT_DIM_REFUSED, one R.AUG_CNT_FAILED])
  | .annealProblem => some (reportRows ++ readRows ++ [one R.ANN_STATUS, one R.ANN_WORK, one R.ANN_SWEEP,
    one R.ANN_BEST, one R.ANN_CNT_PROBLEMS, one R.ANN_CNT_FAILED, one R.ANN_MAX_US])
  | .sweepEnd => some (reportRows ++ [one R.ANN_STATUS, one R.ANN_SWEEP, one R.ANN_BEST, one R.ANN_CNT_SWEEPS,
    one R.SYS_REPRO_STATUS, one R.MESH_PROG_STATUS])
  | .annResultWrite => some (reportRows ++ writeRows ++ [one R.MMU_CNT_WALKS, one R.ANN_STATUS,
    one R.ANN_CNT_PROBLEMS, one R.ANN_CNT_FAILED, one R.ANN_MAX_US])
  | .timingWindowArm => some (reportRows ++ [one R.PWR_WAKE_LATCH, one R.SYS_BOOT_STATUS, one R.MESH_TW_CTRL,
    one R.MESH_TW_G, one R.MESH_TW_REF_NS, one R.MESH_TW_RETRY_NS, one R.MESH_TW_RUN_NS, one R.MESH_TW_FLAGS])
  | .verdictRecordWrite => some (reportRows ++ [one R.MBX_HEAD, one R.MBX_DONE, one R.MBX_CNT_WRITTEN,
    one R.MBX_CNT_OVF, one R.MBX_CNT_GAP, one R.MBX_CNT_OFF, one R.MBX_CNT_HWM, one R.MBX_HSTATUS, all R.JRN_TOT])
  | .mbxReadyAge => some ([one R.MBX_IRQ_PEND, all R.MBX_MSIX_PBA])
  | .wqEntrySubmit => some (reportRows ++ trackRows ++ readRows ++ submissionRows ++ [one R.EJ_LATE_ARRIVED,
    one R.EJ_FIRE_LATE_CNT, one R.MBX_WQ_CTRL, one R.MBX_WQ_HEAD])
  | .runsetApply => none
  | .spiEntryStart => some ([one R.SPI_STATUS])
  | .spiCplPop => some (reportRows ++ [one R.PWR_WAKE_LATCH, one R.SYS_BOOT_STATUS, one R.SPI_STATUS, all R.SPI_CPL])
  | .sclTimeout => some (reportRows ++ [one R.I2C_STATUS, one R.I2C_FILL, one R.I2C_CNT_CMDS])
  | .busFree => some ([one R.I2C_STATUS])
  | .twinCommit => some (reportRows ++ [one R.PWR_WAKE_LATCH, one R.SYS_BOOT_STATUS, one R.I2C_CTRL, one R.I2C_STATUS,
    one R.I2C_FILL, one R.I2C_CNT_CMDS, one R.I2C_CNT_TGT_TXN, all R.I2C_TWIN_LIVE])
  | .i2cCplPop => some (reportRows ++ [one R.PWR_WAKE_LATCH, one R.SYS_BOOT_STATUS, one R.I2C_FILL, one R.I2C_CPL0,
    one R.I2C_CPL1])
  | .i2cTlogPop => some (reportRows ++ [one R.PWR_WAKE_LATCH, one R.SYS_BOOT_STATUS, one R.I2C_FILL, one R.I2C_TLOG])
  | .deferLong => some (reportRows)
  | .countersRecord => some (reportRows)
  | .ejectTailRecord => some (reportRows)
  | .journalRead => some (reportRows ++ [one R.PWR_WAKE_LATCH, one R.SYS_BOOT_STATUS, one R.JRN_RD_CTRL,
    all R.JRN_RD_DATA])
  | .timeValuesResume => some ([one R.PTP_STATUS])
  | .i2cBusStart => some ([one R.I2C_STATUS, all R.I2C_TWIN_LIVE])
  | .targetSclTimeout => some (reportRows ++ [one R.I2C_STATUS, one R.I2C_FILL, one R.I2C_CNT_TGT_TXN,
    all R.I2C_TWIN_LIVE])
  | .fieldMapCopiesWritten => some (reportRows ++ [one R.BOOT_FMAP_STATUS])
  | .runSetStored => some (reportRows ++ [one R.MBX_RUNSET_STATUS])
  | .bankDischargeFloor => none

end Sys2Proof.Frame
end

