-- ==== Sys2Proof/Certificates/Slice0/Obligations.lean ====
section
/-! DEFINITION. Obligations: the statements for the provers. Each clause names a command, the conditions on the state and the
operands under which it completes, and the next state. MemCanon and State.shaped are invariants of the model, stated by
themselves below. -/

open Sys2Proof Sys2Proof.Machine

/-- The result of a scalar operation (R412), on words of 32 bits; shifts are by y mod 32. -/
def scalarResult (op : Nat) (x y : BitVec 32) : BitVec 32 :=
  match op with
  | 0x01 => x + y
  | 0x02 => x - y
  | 0x03 => x * y
  | 0x04 => ((x.signExtend 64 * y.signExtend 64) >>> 32).setWidth 32
  | 0x05 => ((x.setWidth 64 * y.setWidth 64) >>> 32).setWidth 32
  | 0x06 => x &&& y
  | 0x07 => x ||| y
  | 0x08 => x ^^^ y
  | 0x09 => x <<< (y.toNat % 32)
  | 0x0A => x >>> (y.toNat % 32)
  | 0x0B => x.sshiftRight (y.toNat % 32)
  | 0x0C => if x.slt y then x else y
  | 0x0D => if x.slt y then y else x
  | 0x0E => if x.ult y then x else y
  | 0x0F => if x.ult y then y else x
  | _ => y

/-- A scalar slot under p0 (R410, R411): OP [63:56], D [51:46], A [45:40], B [39:34], SB [32], IMM [31:0]. -/
def scalarWord (op d a b sb imm : Nat) : Nat :=
  op * 2 ^ 56 + d * 2 ^ 46 + a * 2 ^ 40 + b * 2 ^ 34 + sb * 2 ^ 32 + imm

/-- What the supply and reset events do. A start with input power begins a cold start in stage 1; an input loss or an
overvoltage lockout drops PWR_OK and asserts LINE_STOP; a short dip sets LOSS_SEEN; nRST holds the module in reset
and its release starts it; an internal reset that is due restarts it; a thermal trip reports 0x1801 and holds. Every
clause is about every state whose memory and register file are canonical and whose tables have the device's lengths,
under the conditions the Lean names, and its conclusion is that the command answers a next state of that kind.
Behind it stand the model's own choices of log entries 1, 19, 24. (R74, R79, R81, R159, R717, R100, R112) -/
def Obligations.SupplyEvents : Prop :=
  -- POWER_ON_START
  (∀ (s : State), MemCanon s → s.shaped = true → (s.pwr.vinGood = false ∧ s.jrn.holdup = false ∧ s.pwr.nrstLow =
    false) → Completes .powerOnStart s (fun t => t.pwr.vinGood = true ∧ t.pwr.inReset = false ∧ t.boot.running = true
    ∧ t.bootState = 0)) ∧
  -- INPUT_LOSS
  (∀ (pages : List PageFact) (s : State), MemCanon s → s.shaped = true → (s.pwr.dead = false ∧ s.pwr.vinGood = true ∧
    s.pwr.inReset = false ∧ s.pwr.lost = false) → Completes (.inputLoss pages) s (fun t => t.pwr.lost = true ∧
    t.pwr.pwrOk = false ∧ t.pwr.vinGood = false ∧ t.fld R.EJ_LSTOP_ASSERTED = 1)) ∧
  -- OVERVOLTAGE_LOCKOUT
  (∀ (pages : List PageFact) (s : State), MemCanon s → s.shaped = true → (s.pwr.dead = false ∧ s.pwr.vinGood = true ∧
    s.pwr.inReset = false ∧ s.pwr.lost = false) → Completes (.overvoltageLockout pages) s (fun t => t.pwr.lost = true
    ∧ t.pwr.pwrOk = false ∧ t.pwr.vinGood = false ∧ t.fld R.EJ_LSTOP_ASSERTED = 1)) ∧
  -- VIN_SHORT_DIP
  (∀ (s : State), MemCanon s → s.shaped = true → Completes .vinShortDip s (fun t => t.fld R.PWR_MOD_STATUS_LOSS_SEEN =
    1)) ∧
  -- NRST_ASSERT
  (∀ (s : State), MemCanon s → s.shaped = true → (s.pwr.dead = false) → Completes .nrstAssert s (fun t =>
    t.pwr.nrstLow = true ∧ t.pwr.inReset = true ∧ t.pwr.tripHeld = false)) ∧
  -- NRST_RELEASE
  (∀ (s : State), MemCanon s → s.shaped = true → (s.pwr.nrstLow = true ∧ s.pwr.vinGood = true) → Completes
    .nrstRelease s (fun t => t.pwr.nrstLow = false ∧ t.pwr.inReset = false ∧ t.boot.running = true)) ∧
  -- INTERNAL_RESET
  (∀ (pages : List PageFact) (s : State), MemCanon s → s.shaped = true → (s.pwr.resetReq = true ∧ s.pwr.inReset =
    false ∧ s.pwr.lost = false) → Completes (.internalReset pages) s (fun t => t.pwr.resetReq = false ∧ t.pwr.inReset
    = false ∧ t.boot.running = true)) ∧
  -- THERMAL_TRIP
  (∀ (pages : List PageFact) (s : State), MemCanon s → s.shaped = true → (s.pwr.dead = false ∧ s.pwr.inReset = false ∧
    s.pwr.lost = false) → Completes (.thermalTrip pages) s (fun t => t.pwr.tripHeld = true ∧ (t.pwr.lost = true ∨
    t.pwr.inReset = true) ∧ t.pwr.vinGood = true ∧ t.pwr.pwrOk = false ∧ t.fld R.EJ_LSTOP_ASSERTED = 1))

/-- Throttling, the 1 ms readings, PoCXP and the supply monitors. The throttle and its end set and clear THROTTLE and
the core clock; the readings are stored in millivolts with the energy of the bank; a measured capacitance is stored
and reported when too small; a PoCXP lane is powered or faulted by its detection and by overcurrent; the low
supplies are flagged and reported. Every clause is about every state whose memory and register file are canonical
and whose tables have the device's lengths, under the conditions the Lean names, and its conclusion is that the
command answers a next state of that kind. Behind it stand the model's own choices of log entries 1, 27, 73. (R100,
R130, R148, R78, R90, R109, R115, R91, R110, R107) -/
def Obligations.SupplyMonitors : Prop :=
  -- THERMAL_THROTTLE_START
  (∀ (s : State), MemCanon s → s.shaped = true → (s.bit R.PWR_MOD_STATUS_THROTTLE = false) → Completes
    .thermalThrottleStart s (fun t => t.fld R.PWR_MOD_STATUS_THROTTLE = 1 ∧ t.fld R.SCHED_STATUS_THROTTLE = 1 ∧ t.fld
    R.SYS_REPRO_STATUS_T_THROTTLE = 1 ∧ t.fld R.PWR_MOD_STATUS_LAST_STS = 0x1802 ∧ t.fld R.CLK_CORE_CORE_MHZ = (if
    s.clocked 8 then 750 else s.fld R.CLK_CORE_CORE_MHZ))) ∧
  -- THERMAL_THROTTLE_END
  (∀ (s : State), MemCanon s → s.shaped = true → Completes .thermalThrottleEnd s (fun t => t.fld
    R.PWR_MOD_STATUS_THROTTLE = 0 ∧ t.fld R.SCHED_STATUS_THROTTLE = 0 ∧ t.fld R.CLK_CORE_CORE_MHZ = (if s.clocked 8
    then 1000 else s.fld R.CLK_CORE_CORE_MHZ))) ∧
  -- HOLDUP_ESTIMATE_TICK
  (∀ (r : Readings) (ok : Bool) (s : State), MemCanon s → s.shaped = true → (s.jrn.deferring = false) → Completes
    (.holdupEstimateTick r ok) s (fun t => t.fld R.PWR_VIN_VIN_MV = min r.vin 65535 ∧ t.fld R.PWR_VCAM_VCAM_MV = min
    r.vcam 65535 ∧ t.fld R.PWR_VEJ_VEJ_A_MV = min r.vejA 65535 ∧ t.fld R.PWR_VEJ_VEJ_B_MV = min r.vejB 65535 ∧ t.fld
    R.PWR_POWER_PIN_DW = min r.pin 65535 ∧ t.fld R.PWR_HOLDUP_VBANK_MV = min r.vbank 65535 ∧ t.bit
    R.PWR_MOD_STATUS_VIN_LOW = decide (r.vin < 19200) ∧ t.bit R.PWR_MOD_STATUS_VIN_HIGH = decide (30000 < r.vin) ∧
    t.bit R.PWR_MOD_STATUS_CHARGED = decide (41000 ≤ r.vbank) ∧ t.fld R.PWR_HOLDUP_E_MJ = min (energyMj (s.fld
    R.PWR_HOLDUP_CAP_CAP_UF) r.vbank) 65535)) ∧
  -- HOLDUP_ESTIMATE_TICK
  (∀ (r : Readings) (ok : Bool) (s : State), MemCanon s → s.shaped = true → Completes (.holdupEstimateTick r ok) s
    (fun t => t.fld R.PWR_VIN_VIN_MV = min r.vin 65535 ∧ t.fld R.PWR_VCAM_VCAM_MV = min r.vcam 65535 ∧ t.fld
    R.PWR_HOLDUP_VBANK_MV = min r.vbank 65535 ∧ t.bit R.PWR_MOD_STATUS_CHARGED = decide (41000 ≤ r.vbank))) ∧
  -- HOLDUP_CAP_MEASURED
  (∀ (uf : Nat) (s : State), MemCanon s → s.shaped = true → Completes (.holdupCapMeasured uf) s (fun t => t.fld
    R.PWR_HOLDUP_CAP_CAP_UF = min uf 65535 ∧ t.fld R.PWR_MOD_STATUS_LAST_STS = (if uf < 1700 then 0xE802 else s.fld
    R.PWR_MOD_STATUS_LAST_STS))) ∧
  -- POCXP_DETECT_DONE
  (∀ (lane : Nat) (s : State), MemCanon s → s.shaped = true → (s.pwr.pocxpDet.testBit lane = true ∧ lane < 16) →
    Completes (.pocxpDetectDone lane true) s (fun t => t.pwr.pocxpDet.testBit lane = false ∧ (t.fld
    R.PWR_POCXP_STS_ON).testBit lane = true)) ∧
  -- POCXP_DETECT_DONE
  (∀ (lane : Nat) (s : State), MemCanon s → s.shaped = true → (s.pwr.pocxpDet.testBit lane = true ∧ lane < 16) →
    Completes (.pocxpDetectDone lane false) s (fun t => t.pwr.pocxpDet.testBit lane = false ∧ (t.fld
    R.PWR_POCXP_STS_FAULT).testBit lane = true ∧ t.fld R.PWR_POCXP_STS_ON = s.fld R.PWR_POCXP_STS_ON ∧ t.fld
    R.PWR_MOD_STATUS_LAST_STS = 0x3801)) ∧
  -- POCXP_OVERCURRENT
  (∀ (lane : Nat) (s : State), MemCanon s → s.shaped = true → ((s.fld R.PWR_POCXP_STS_ON).testBit lane = true) →
    Completes (.pocxpOvercurrent lane) s (fun t => (t.fld R.PWR_POCXP_STS_ON).testBit lane = false ∧ (t.fld
    R.PWR_POCXP_STS_FAULT).testBit lane = true ∧ t.fld R.PWR_MOD_STATUS_LAST_STS = 0x3802)) ∧
  -- POCXP_FAULT_CLEAR
  (∀ (value : Nat) (s : State), MemCanon s → s.shaped = true → (s.served R.PWR_POCXP_STS.off = true) → Completes
    (.pocxpFaultClear value) s (fun t => t.fld R.PWR_POCXP_STS_FAULT = maskOff (s.fld R.PWR_POCXP_STS_FAULT)
    (R.PWR_POCXP_STS_FAULT.of value))) ∧
  -- VCAM_LOW
  (∀ (s : State), MemCanon s → s.shaped = true → Completes .vcamLow s (fun t => t.fld R.PWR_MOD_STATUS_VCAM_LOW = 1 ∧
    t.fld R.PWR_POCXP_STS_ON = 0 ∧ t.pwr.pocxpDet = 0 ∧ t.fld R.PWR_MOD_STATUS_LAST_STS = 0x3803)) ∧
  -- ENC_SUPPLY_FAULT
  (∀ (chan : Nat) (s : State), MemCanon s → s.shaped = true → ((s.fld R.PWR_ENC_SUP_EN).testBit chan = true ∧ (s.fld
    R.PWR_ENC_SUP_FAULT).testBit chan = false) → Completes (.encSupplyFault chan) s (fun t => (t.fld
    R.PWR_ENC_SUP_FAULT).testBit chan = true ∧ t.fld R.PWR_MOD_STATUS_LAST_STS = 0x4801)) ∧
  -- VEJ_SUPPLY_LOW
  (∀ (group : Nat) (s : State), MemCanon s → s.shaped = true → (s.bit (vejLowFld group) = false) → Completes
    (.vejSupplyLow group) s (fun t => t.bit (vejLowFld group) = true ∧ t.fld R.PWR_MOD_STATUS_LAST_STS = 0x5203 ∧
    t.fld R.EJ_POL_STATUS_LAST_STS = 0x5203))

/-- Read-back, relays, digital inputs and LINE_STOP. A read-back at the command's level ends its check; an overcurrent
latches the output off; a lost heartbeat releases the ring switches; a relay found in the other position is released
and reported; a relay request follows the register write; an input's level is recorded; LINE_STOP is released by the
end of its hold when a release waits, or by a release write after the hold. Every clause is about every state whose
memory and register file are canonical and whose tables have the device's lengths, under the conditions the Lean
names, and its conclusion is that the command answers a next state of that kind. Behind it stand the model's own
choices of log entries 1, 20, 27, 73. (R83, R106, R94, R103, R110, R114, R116, R726, R82) -/
def Obligations.RelaysAndInputs : Prop :=
  -- READBACK_CHECK
  (∀ (out : Nat) (level openLoad : Bool) (k : EjCheck) (l : List EjCheck) (s : State), MemCanon s → s.shaped = true →
    ((s.ej out).checks = k :: l ∧ k.due ≤ s.now ∧ out < 16 ∧ level = k.on) → Completes (.readbackCheck out level
    openLoad) s (fun t => (t.ej out).checks = l ∧ t.fld R.EJ_LSTOP_ASSERTED = s.fld R.EJ_LSTOP_ASSERTED ∧ t.fld
    R.EJ_POL_STATUS_LAST_STS = (if openLoad ∧ k.on = false then 0x5202 else s.fld R.EJ_POL_STATUS_LAST_STS))) ∧
  -- READBACK_CHECK
  (∀ (out : Nat) (level openLoad : Bool) (k : EjCheck) (l : List EjCheck) (s : State), MemCanon s → s.shaped = true →
    ((s.ej out).checks = k :: l ∧ k.due ≤ s.now ∧ out < 16 ∧ level ≠ k.on) → Completes (.readbackCheck out level
    openLoad) s (fun t => (t.ej out).checks = l ∧ t.fld R.EJ_POL_STATUS_LAST_STS = 0x5204 ∧ t.fld
    R.PWR_MOD_STATUS_LAST_STS = 0x5204)) ∧
  -- OUTPUT_OVERCURRENT
  (∀ (out : Nat) (s : State), MemCanon s → s.shaped = true → (out < s.ejOuts ∧ out < 16) → Completes
    (.outputOvercurrent out) s (fun t => (t.fld R.EJ_OUT_STS_OVERCURRENT).testBit out = true ∧ (t.ej out).on = false ∧
    t.fld R.EJ_POL_STATUS_LAST_STS = 0x5201)) ∧
  -- HEARTBEAT_LOSS
  (∀ (s : State), MemCanon s → s.shaped = true → Completes .heartbeatLoss s (fun t => t.pwr.heartbeat = false ∧
    t.pwr.ringDrive = false)) ∧
  -- RELAY_POSITION_CHECK
  (∀ (s : State), MemCanon s → s.shaped = true → (s.bit R.PWR_RELAY_RING_POS ≠ s.pwr.ringDrive) → Completes
    (.relayPositionCheck true) s (fun t => t.pwr.ringDrive = false ∧ t.pwr.ringFault = true ∧ t.fld
    R.PWR_MOD_STATUS_LAST_STS = 0x7801)) ∧
  -- RELAY_POSITION_CHECK
  (∀ (s : State), MemCanon s → s.shaped = true → (s.bit R.PWR_RELAY_ETH_POS ≠ s.pwr.ethDrive) → Completes
    (.relayPositionCheck false) s (fun t => t.pwr.ethDrive = false ∧ t.pwr.ethFault = true ∧ t.fld
    R.PWR_MOD_STATUS_LAST_STS = 0x6801)) ∧
  -- RELAY_POSITION_CHECK
  (∀ (ring : Bool) (s : State), MemCanon s → s.shaped = true → (s.bit R.PWR_RELAY_RING_POS = s.pwr.ringDrive ∧ s.bit
    R.PWR_RELAY_ETH_POS = s.pwr.ethDrive) → Completes (.relayPositionCheck ring) s (fun t => t = s)) ∧
  -- RELAY_REQUEST_WRITE
  (∀ (value : Nat) (s : State), MemCanon s → s.shaped = true → (s.served R.PWR_RELAY.off = true) → Completes
    (.relayRequestWrite value) s (fun t => t.fld R.PWR_RELAY_ETH_INSERT = R.PWR_RELAY_ETH_INSERT.of value ∧ t.fld
    R.PWR_RELAY_RING_INSERT = (if s.hasRing then R.PWR_RELAY_RING_INSERT.of value else s.fld
    R.PWR_RELAY_RING_INSERT))) ∧
  -- DI_EDGE_QUALIFIED
  (∀ (input : Nat) (raw : Bool) (held : Nat) (s : State), MemCanon s → s.shaped = true → (input < 8 ∧
    s.pwr.diRaw.testBit input ≠ raw ∧ s.diQual ≤ held ∧ held ≤ s.now) → Completes (.diEdgeQualified input raw held) s
    (fun t => t.pwr.diRaw.testBit input = raw ∧ (t.fld R.MOT_DI_STS_LEVEL).testBit input = (raw != (s.fld
    R.MOT_DI_CFG_POL).testBit input))) ∧
  -- DI_EDGE_QUALIFIED
  (∀ (input : Nat) (raw : Bool) (held : Nat) (s : State), MemCanon s → s.shaped = true → (held < s.diQual ∧ held ≤
    s.now) → Completes (.diEdgeQualified input raw held) s (fun t => t.pwr.diRaw = s.pwr.diRaw ∧ t.fld
    R.MOT_DI_STS_LEVEL = s.fld R.MOT_DI_STS_LEVEL ∧ t.pwr.diSince = s.pwr.diSince.set input (if s.pwr.diRaw.testBit
    input = raw then none else some (s.now - held)))) ∧
  -- DI_CFG_WRITE
  (∀ (value : Nat) (s : State), MemCanon s → s.shaped = true → (s.served R.MOT_DI_CFG.off = true) → Completes
    (.diCfgWrite value) s (fun t => t.rd R.MOT_DI_CFG = BitVec.ofNat 32 (value &&& R.MOT_DI_CFG.rw))) ∧
  -- LSTOP_HOLD_EXPIRY
  (∀ (s : State), MemCanon s → s.shaped = true → (s.pwr.holdEnd.any (fun e => decide (e ≤ s.now)) = true ∧ s.bit
    R.EJ_LSTOP_ASSERTED = true ∧ (s.pwr.relPend = true ∨ s.bit R.EJ_LSTOP_AUTO_REL = true)) → Completes
    .lstopHoldExpiry s (fun t => t.fld R.EJ_LSTOP_ASSERTED = 0 ∧ t.pwr.relPend = false ∧ t.pwr.holdEnd = none)) ∧
  -- LSTOP_RELEASE
  (∀ (value : Nat) (s : State), MemCanon s → s.shaped = true → (s.served R.EJ_LSTOP.off = true ∧ s.bit
    R.EJ_LSTOP_ASSERTED = true ∧ R.EJ_LSTOP_RELEASE.of value = 1 ∧ s.holding = false) → Completes (.lstopRelease
    value) s (fun t => t.fld R.EJ_LSTOP_ASSERTED = 0 ∧ t.pwr.relPend = false ∧ t.pwr.holdEnd = none)) ∧
  -- LSTOP_RELEASE
  (∀ (value : Nat) (s : State), MemCanon s → s.shaped = true → (s.served R.EJ_LSTOP.off = true ∧ s.bit
    R.EJ_LSTOP_ASSERTED = true ∧ R.EJ_LSTOP_RELEASE.of value = 1 ∧ s.holding = true) → Completes (.lstopRelease value)
    s (fun t => t.fld R.EJ_LSTOP_ASSERTED = 1 ∧ t.pwr.relPend = true ∧ t.pwr.holdEnd = s.pwr.holdEnd))

/-- Clock failures and the entry of a power mode. A PLL that does not lock at the start is noted and reported 0x1901;
a clock failure in operation sets its bit of CLK_FAIL and makes an internal reset due, or reports the host or the
lanes; a drained mycelium ends step 8; the commit changes the mode; a timeout or a failed step rolls back. Every
clause is about every state whose memory and register file are canonical and whose tables have the device's lengths,
under the conditions the Lean names, and its conclusion is that the command answers a next state of that kind.
Behind it stand the model's own choices of log entries 1, 23, 25. (R128, R129, R133, R134, R135) -/
def Obligations.ClockEvents : Prop :=
  -- PLL_LOCK_TIMEOUT
  (∀ (domain : Nat) (s : State), MemCanon s → s.shaped = true → (1 ≤ domain ∧ domain ≤ 8 ∧ domain ≠ 3 ∧ domain ≠ 4 ∧
    s.boot.running = true ∧ s.fld R.SYS_BOOT_STATUS_STAGE = 1 ∧ s.boot.noLock.testBit domain = false) → Completes
    (.pllLockTimeout domain) s (fun t => t.boot.noLock.testBit domain = true ∧ t.fld R.CLK_FAIL_LAST_STS = 0x1901 ∧
    t.bootState = 3 ∧ t.boot.running = false)) ∧
  -- PLL_LOCK_TIMEOUT
  (∀ (domain : Nat) (s : State), MemCanon s → s.shaped = true → ((domain = 3 ∨ domain = 4) ∧ s.boot.running = true ∧
    s.fld R.SYS_BOOT_STATUS_STAGE = 1 ∧ s.boot.noLock.testBit domain = false) → Completes (.pllLockTimeout domain) s
    (fun t => t.boot.noLock.testBit domain = true ∧ t.fld R.CLK_FAIL_LAST_STS = 0x1901 ∧ t.boot.running = true)) ∧
  -- PLL_LOCK_TIMEOUT
  (∀ (domain : Nat) (s : State), MemCanon s → s.shaped = true → (4 ≤ domain ∧ domain ≤ 8 ∧ s.boot.running = false ∧
    s.mode.active = true ∧ s.mode.exiting = true ∧ s.mode.origin = 3) → Completes (.pllLockTimeout domain) s (fun t =>
    t.fld R.CLK_FAIL_LAST_STS = 0x1901 ∧ t.fld R.PWR_MODE_STATUS_LAST_STS = 0x1906 ∧ t.pwr.resetReq = true ∧
    t.mode.active = false)) ∧
  -- CLOCK_FAILURE
  (∀ (domain : Nat) (s : State), MemCanon s → s.shaped = true → (domain ∈ [1, 2, 5, 6, 7, 8] ∧ s.pwr.inReset = false ∧
    (s.fld R.CLK_STATUS_RUNNING).testBit domain = true) → Completes (.clockFailure domain) s (fun t => (t.fld
    R.CLK_FAIL_FAIL).testBit domain = true ∧ t.boot.noLock.testBit domain = true ∧ t.pwr.resetReq = true ∧ t.fld
    R.EJ_LSTOP_ASSERTED = 1)) ∧
  -- CLOCK_FAILURE
  (∀ (s : State), MemCanon s → s.shaped = true → (s.pwr.inReset = false ∧ (s.fld R.CLK_STATUS_RUNNING).testBit 3 =
    true) → Completes (.clockFailure 3) s (fun t => (t.fld R.CLK_FAIL_FAIL).testBit 3 = true ∧ t.boot.noLock.testBit 3
    = true ∧ t.fld R.MBX_LINK_UP = 0 ∧ t.fld R.MBX_HSTATUS_LAST_STS = 0xC001 ∧ t.pwr.resetReq = s.pwr.resetReq)) ∧
  -- CLOCK_FAILURE
  (∀ (s : State), MemCanon s → s.shaped = true → (s.pwr.inReset = false ∧ (s.fld R.CLK_STATUS_RUNNING).testBit 4 =
    true) → Completes (.clockFailure 4) s (fun t => (t.fld R.CLK_FAIL_FAIL).testBit 4 = true ∧ t.boot.noLock.testBit 4
    = true ∧ t.pwr.resetReq = s.pwr.resetReq)) ∧
  -- CLOCK_FAILURE
  (∀ (s : State), MemCanon s → s.shaped = true → (s.pwr.inReset = false ∧ (s.fld R.CLK_STATUS_RUNNING).testBit 0 =
    true) → Completes (.clockFailure 0) s (fun t => t.pwr.inReset = true ∧ t.pwr.pwrOk = false ∧ t.fld
    R.EJ_LSTOP_ASSERTED = 1)) ∧
  -- MODE_REQUEST
  (∀ (value : Nat) (s : State), MemCanon s → s.shaped = true → (s.served R.PWR_MODE_REQ.off = true ∧ s.pmode = 1 ∧
    s.bit R.PWR_MODE_STATUS_BUSY = false ∧ R.PWR_MODE_REQ_GO.of value = 1 ∧ (R.PWR_MODE_REQ_TARGET.of value = 2 ∨
    R.PWR_MODE_REQ_TARGET.of value = 3) ∧ s.modeCond (R.PWR_MODE_REQ_TARGET.of value) = 0) → Completes (.modeRequest
    value) s (fun t => t.mode.active = true ∧ t.mode.exiting = false ∧ t.mode.target = R.PWR_MODE_REQ_TARGET.of value
    ∧ t.fld R.PWR_MODE_STATUS_BUSY = 1 ∧ t.fld R.PWR_MODE_STATUS_STEP = (if R.PWR_MODE_REQ_TARGET.of value = 3 then 6
    else 9) ∧ t.fld R.SCHED_STATUS_ADMIT_OPEN = 0)) ∧
  -- MODE_REQUEST
  (∀ (value : Nat) (s : State), MemCanon s → s.shaped = true → (s.served R.PWR_MODE_REQ.off = true ∧ (s.pmode = 2 ∨
    s.pmode = 3) ∧ s.bit R.PWR_MODE_STATUS_BUSY = false ∧ R.PWR_MODE_REQ_GO.of value = 1 ∧ R.PWR_MODE_REQ_TARGET.of
    value = 1) → Completes (.modeRequest value) s (fun t => t.mode.active = true ∧ t.mode.exiting = true ∧
    t.mode.driver = true ∧ t.mode.second = none ∧ t.fld R.PWR_MODE_STATUS_BUSY = 1)) ∧
  -- MODE_REQUEST
  (∀ (value : Nat) (s : State), MemCanon s → s.shaped = true → (s.served R.PWR_MODE_REQ.off = true ∧ s.bit
    R.PWR_MODE_STATUS_BUSY = true ∧ R.PWR_MODE_REQ_GO.of value = 1) → Completes (.modeRequest value) s (fun t => t.fld
    R.PWR_MODE_STATUS_RESULT = 3 ∧ t.fld R.PWR_MODE_STATUS_LAST_STS = 0x1903 ∧ t.mode = s.mode)) ∧
  -- MYCELIUM_DRAINED
  (∀ (s : State), MemCanon s → s.shaped = true → (s.mode.active = true ∧ s.mode.exiting = false ∧ s.mode.target = 3 ∧
    s.mode.drained = false ∧ s.gill.all (fun g => g.acc.all (fun a => a.st != 0)) = true) → Completes .myceliumDrained
    s (fun t => t.mode.drained = true ∧ t.fld R.PWR_MODE_STATUS_STEP = 9)) ∧
  -- MODE_COMMIT
  (∀ (s : State), MemCanon s → s.shaped = true → (s.mode.active = true ∧ s.mode.exiting = false ∧ (s.mode.target = 2 ∨
    (s.mode.target = 3 ∧ s.mode.drained = true ∧ 150 ≤ s.fld R.PWR_MODE_CFG_TIMEOUT_US)) ∧ s.wakeSet = false ∧
    s.modeLate = false) → Completes .modeCommit s (fun t => t.fld R.PWR_MODE_STATUS_MODE = s.mode.target ∧
    t.mode.active = false ∧ t.mode.commitAt = s.now ∧ t.fld R.PWR_MODE_STATUS_BUSY = 0 ∧ t.fld
    R.PWR_MODE_STATUS_RESULT = 1)) ∧
  -- MODE_COMMIT
  (∀ (s : State), MemCanon s → s.shaped = true → (s.mode.active = true ∧ s.mode.exiting = false ∧ (s.mode.target = 3 →
    s.mode.drained = true) ∧ s.wakeSet = true) → Completes .modeCommit s (fun t => t.fld R.PWR_MODE_STATUS_MODE =
    s.fld R.PWR_MODE_STATUS_MODE ∧ t.mode.active = false ∧ t.fld R.PWR_MODE_STATUS_RESULT = 2 ∧ t.fld
    R.PWR_MODE_STATUS_LAST_STS = 0x1904)) ∧
  -- MODE_COMMIT
  (∀ (s : State), MemCanon s → s.shaped = true → (s.mode.active = true ∧ s.mode.exiting = false ∧ (s.mode.target = 3 →
    s.mode.drained = true) ∧ s.wakeSet = false ∧ s.modeLate = true) → Completes .modeCommit s (fun t => t.fld
    R.PWR_MODE_STATUS_MODE = s.fld R.PWR_MODE_STATUS_MODE ∧ t.mode.active = false ∧ t.fld R.PWR_MODE_STATUS_RESULT = 2
    ∧ t.fld R.PWR_MODE_STATUS_LAST_STS = 0x1905)) ∧
  -- MODE_ENTRY_TIMEOUT
  (∀ (s : State), MemCanon s → s.shaped = true → (s.mode.active = true ∧ s.mode.exiting = false ∧ s.mode.startAt +
    s.fld R.PWR_MODE_CFG_TIMEOUT_US * 1000 < s.now) → Completes .modeEntryTimeout s (fun t => t.mode.active = false ∧
    t.fld R.PWR_MODE_STATUS_BUSY = 0 ∧ t.fld R.PWR_MODE_STATUS_RESULT = 2 ∧ t.fld R.PWR_MODE_STATUS_LAST_STS =
    0x1905)) ∧
  -- MODE_ROLLBACK
  (∀ (failedStep : Option Nat) (s : State), MemCanon s → s.shaped = true → (s.mode.active = true ∧ s.mode.exiting =
    false ∧ (s.wakeSet = true ∨ failedStep.isSome = true)) → Completes (.modeRollback failedStep) s (fun t =>
    t.mode.active = false ∧ t.fld R.PWR_MODE_STATUS_BUSY = 0 ∧ t.fld R.PWR_MODE_STATUS_RESULT = 2 ∧ t.fld
    R.PWR_MODE_STATUS_LAST_STS = 0x1904))

/-- Leaving a power mode, and the first stages of bring-up. A set wake starts the exit and its end returns the module
to RUN; the wake timer and a wake pattern set their latches; the stages CLOCKS, FUSES, SELFTEST and MAP pass to the
next stage. Every clause is about every state whose memory and register file are canonical and whose tables have the
device's lengths, under the conditions the Lean names, and its conclusion is that the command answers a next state
of that kind. Behind it stand the model's own choices of log entries 1, 25, 26. (R136, R138, R368, R170, R171, R172,
R175) -/
def Obligations.ModeExitEvents : Prop :=
  -- MODE_EXIT
  (∀ (s : State), MemCanon s → s.shaped = true → ((s.pmode = 2 ∨ s.pmode = 3) ∧ s.mode.active = false ∧ s.wakeSet =
    true) → Completes .modeExit s (fun t => t.mode.active = true ∧ t.mode.exiting = true ∧ t.mode.target = 1 ∧ t.fld
    R.PWR_MODE_STATUS_BUSY = 1)) ∧
  -- EXIT_COMPLETE
  (∀ (s : State), MemCanon s → s.shaped = true → (s.mode.active = true ∧ s.mode.exiting = true ∧ s.mode.second = none)
    → Completes (.exitComplete false) s (fun t => t.mode.active = false ∧ t.mode.exiting = false ∧ t.fld
    R.PWR_MODE_STATUS_MODE = 1 ∧ t.fld R.PWR_MODE_STATUS_BUSY = 0 ∧ t.fld R.SCHED_STATUS_ADMIT_OPEN = 1 ∧ t.fld
    R.PWR_EXIT_US_EXIT_US = min ((s.now - s.mode.startAt) / 1000) 65535)) ∧
  -- EXIT_COMPLETE
  (∀ (s : State), MemCanon s → s.shaped = true → (s.mode.active = true ∧ s.mode.exiting = true) → Completes
    (.exitComplete true) s (fun t => t.mode.active = false ∧ t.mode.exiting = false ∧ t.pwr.resetReq = true ∧ t.fld
    R.PWR_MODE_STATUS_LAST_STS = 0x1906)) ∧
  -- WAKE_TIMER_EXPIRY
  (∀ (s : State), MemCanon s → s.shaped = true → ((s.pmode = 2 ∨ s.pmode = 3) ∧ s.mode.commitAt + s.fld
    R.PWR_WAKE_TIMER_MS * 1000000 ≤ s.now ∧ s.mode.armed.testBit 5 = true ∧ (s.rd R.PWR_WAKE_EN).toNat.testBit 5 =
    true) → Completes .wakeTimerExpiry s (fun t => (t.fld R.PWR_WAKE_LATCH_LATCH).testBit 5 = true ∧
    t.mode.armed.testBit 5 = false)) ∧
  -- WAKE_PATTERN_COMPLETE
  (∀ (lane : Nat) (asked : Bool) (s : State), MemCanon s → s.shaped = true → (lane < 24 ∧ s.laneHere lane = true ∧
    (s.rxOf lane = 1 ∨ s.rxOf lane = 2)) → Completes (.wakePatternComplete lane asked) s (fun t => t.fld
    (R.LANE_STATUS_SIG_DET lane) = 1)) ∧
  -- WAKE_PATTERN_COMPLETE
  (∀ (lane : Nat) (s : State), MemCanon s → s.shaped = true → (lane < 24 ∧ s.laneHere lane = true ∧ (s.rxOf lane = 1 ∨
    s.rxOf lane = 2) ∧ s.ceiling 0 = true) → Completes (.wakePatternComplete lane true) s (fun t => t.fld
    (R.LANE_STATUS_SIG_DET lane) = 1 ∧ t.fld (R.LANE_STATUS_RX_STATE lane) = 0)) ∧
  -- WAKE_PATTERN_COMPLETE
  (∀ (lane : Nat) (asked : Bool) (s : State), MemCanon s → s.shaped = true → (lane < 24 ∧ s.laneHere lane = true ∧
    (s.rxOf lane = 1 ∨ s.rxOf lane = 2) ∧ (s.fld R.PWR_WAKE_LANE_RX).testBit lane = true ∧ s.mode.armed.testBit 4 =
    true ∧ (s.rd R.PWR_WAKE_EN).toNat.testBit 4 = true) → Completes (.wakePatternComplete lane asked) s (fun t =>
    t.fld (R.LANE_STATUS_SIG_DET lane) = 1 ∧ (t.fld R.PWR_WAKE_LATCH_LATCH).testBit 4 = true)) ∧
  -- CLOCKS
  (∀ (refclk : Bool) (s : State), MemCanon s → s.shaped = true → (s.boot.running = true ∧ s.fld
    R.SYS_BOOT_STATUS_STAGE = 1 ∧ s.boot.noLock.testBit 2 = false) → Completes (.clocks refclk) s (fun t => t.fld
    R.SYS_BOOT_STATUS_STAGE = 2 ∧ t.fld R.CLK_STATUS_RUNNING = maskOff 0x1FF s.boot.noLock ∧ t.fld R.CLK_STATUS_LOCK =
    maskOff 0x1FF s.boot.noLock ∧ t.mbx.refclk = (refclk && !s.boot.noLock.testBit 3) ∧ t.time.runs = true ∧
    t.time.mono = 0)) ∧
  -- FUSES
  (∀ (facts : FuseFacts) (s : State), MemCanon s → s.shaped = true → (s.boot.running = true ∧ s.fld
    R.SYS_BOOT_STATUS_STAGE = 2 ∧ facts.badWord = none ∧ s.boot.warm = false) → Completes (.fuses facts) s (fun t =>
    t.fld R.SYS_BOOT_STATUS_STAGE = 3 ∧ t.boot.fuseMap = facts.fuseMap ∧ t.boot.keyDigest = facts.keyDigest ∧
    t.boot.minVer = facts.minVer ∧ t.fld R.SYS_ID_VARIANT = facts.variant % 65536 ∧ t.fld R.SYS_SERIAL_LO_SERIAL_LO =
    facts.serial % 2 ^ 32 ∧ t.fld R.SYS_SERIAL_HI_SERIAL_HI = facts.serial / 2 ^ 32 % 2 ^ 32)) ∧
  -- FUSES
  (∀ (facts : FuseFacts) (s : State), MemCanon s → s.shaped = true → (s.boot.running = true ∧ s.fld
    R.SYS_BOOT_STATUS_STAGE = 2 ∧ facts.badWord = none ∧ s.boot.warm = true) → Completes (.fuses facts) s (fun t =>
    t.fld R.SYS_BOOT_STATUS_STAGE = 3 ∧ t.boot.fuseMap = facts.fuseMap ∧ t.boot.keyDigest = facts.keyDigest ∧
    t.boot.minVer = facts.minVer ∧ t.rd R.SYS_ID = s.rd R.SYS_ID)) ∧
  -- FUSES
  (∀ (facts : FuseFacts) (word : Nat) (s : State), MemCanon s → s.shaped = true → (s.boot.running = true ∧ s.fld
    R.SYS_BOOT_STATUS_STAGE = 2 ∧ facts.badWord = some word) → Completes (.fuses facts) s (fun t => t.bootState = 3 ∧
    t.boot.running = false ∧ t.fld R.SYS_BOOT_STATUS_LAST_STS = 0x1001)) ∧
  -- SELFTEST
  (∀ (found : List Finding) (s : State), MemCanon s → s.shaped = true → (s.boot.running = true ∧ s.fld
    R.SYS_BOOT_STATUS_STAGE = 3 ∧ found.all (fun f => mapNames s.knownMap (entryOf f)) = true ∧ meshCut s.knownMap =
    none) → Completes (.selftest found) s (fun t => t.fld R.SYS_BOOT_STATUS_STAGE = 4 ∧ t.boot.sessionMap =
    s.boot.sessionMap)) ∧
  -- SELFTEST
  (∀ (f : Finding) (s : State), MemCanon s → s.shaped = true → (s.boot.running = true ∧ s.fld R.SYS_BOOT_STATUS_STAGE
    = 3 ∧ s.boot.warm = false ∧ mapNames s.knownMap (entryOf f) = false ∧ s.boot.sessionMap.length < 16) → Completes
    (.selftest [f]) s (fun t => t.boot.sessionMap = s.boot.sessionMap ++ [mapWith (entryOf f) 3])) ∧
  -- SELFTEST
  (∀ (r : Nat) (s : State), MemCanon s → s.shaped = true → (s.boot.running = true ∧ s.fld R.SYS_BOOT_STATUS_STAGE = 3
    ∧ meshCut s.knownMap = some r) → Completes (.selftest []) s (fun t => t.bootState = 3 ∧ t.boot.running = false ∧
    t.fld R.SYS_BOOT_STATUS_LAST_STS = 0x1005)) ∧
  -- MAP
  (∀ (cfgOk copy0Ok copy1Ok : Bool) (s : State), MemCanon s → s.shaped = true → (s.boot.running = true ∧ s.fld
    R.SYS_BOOT_STATUS_STAGE = 4 ∧ s.boot.warm = true) → Completes (.map cfgOk copy0Ok copy1Ok) s (fun t =>
    t.boot.mapped = true ∧ t.fld R.SYS_BOOT_STATUS_STAGE = 5)) ∧
  -- MAP
  (∀ (cfgOk : Bool) (s : State), MemCanon s → s.shaped = true → (s.boot.running = true ∧ s.fld R.SYS_BOOT_STATUS_STAGE
    = 4 ∧ s.boot.warm = false ∧ (logicalGills (mergeMap s.boot.fuseMap s.boot.newest.map s.boot.sessionMap)
    ((variantUnits (s.fld R.SYS_ID_VARIANT)).getD 0 0)).length ∈ List.range' 1 64) → Completes (.map cfgOk true true)
    s (fun t => t.boot.mapped = true ∧ t.fld R.SYS_BOOT_STATUS_STAGE = 5 ∧ t.boot.fieldMap = s.boot.newest.map ∧
    t.boot.merged = mergeMap s.boot.fuseMap s.boot.newest.map s.boot.sessionMap ∧ t.fld R.SYS_CAP_UNITS_GILLS =
    (logicalGills t.boot.merged ((variantUnits (s.fld R.SYS_ID_VARIANT)).getD 0 0)).length)) ∧
  -- MAP
  (∀ (cfgOk : Bool) (s : State), MemCanon s → s.shaped = true → (s.boot.running = true ∧ s.fld R.SYS_BOOT_STATUS_STAGE
    = 4 ∧ s.boot.warm = false ∧ (logicalGills (mergeMap s.boot.fuseMap [] s.boot.sessionMap) ((variantUnits (s.fld
    R.SYS_ID_VARIANT)).getD 0 0)).length ∈ List.range' 1 64) → Completes (.map cfgOk false false) s (fun t =>
    t.boot.mapped = true ∧ t.fld R.SYS_BOOT_STATUS_STAGE = 5 ∧ t.boot.fieldMap = [] ∧ t.fld R.SYS_BOOT_STATUS_DEGRADED
    = 1 ∧ t.boot.merged = mergeMap s.boot.fuseMap [] s.boot.sessionMap))

/-- The later stages of bring-up. TRAIN, SPORES, SUPERVISOR, IMAGE without an image to load, and HOLD pass to the next
stage; a firmware package that is accepted ends FWLOAD; a stage past its limit fails the start with 0x1013; READY
ends bring-up in RUN. Every clause is about every state whose memory and register file are canonical and whose
tables have the device's lengths, under the conditions the Lean names, and its conclusion is that the command
answers a next state of that kind. Behind it stand the model's own choices of log entries 1, 21, 22. (R177, R178,
R179, R180, R181, R182, R167, R183) -/
def Obligations.BringUpEvents : Prop :=
  -- TRAIN
  (∀ (ddr : Option Nat) (lanes phys : Nat) (s : State), MemCanon s → s.shaped = true → (s.boot.running = true ∧ s.fld
    R.SYS_BOOT_STATUS_STAGE = 5 ∧ ddr = none) → Completes (.train ddr lanes phys) s (fun t => t.fld
    R.SYS_BOOT_STATUS_STAGE = 6 ∧ t.boot.phyStart = maskOff 3 phys ∧ t.boot.trained = true)) ∧
  -- TRAIN
  (∀ (c : Nat) (lanes phys : Nat) (s : State), MemCanon s → s.shaped = true → (s.boot.running = true ∧ s.fld
    R.SYS_BOOT_STATUS_STAGE = 5) → Completes (.train (some c) lanes phys) s (fun t => t.bootState = 3 ∧ t.boot.running
    = false ∧ t.fld R.SYS_BOOT_STATUS_LAST_STS = 0x1009 ∧ t.boot.phyStart = maskOff 3 phys)) ∧
  -- FWLOAD
  (∀ (p : Package) (b : Option Package) (s : State), MemCanon s → s.shaped = true → (s.boot.running = true ∧ s.fld
    R.SYS_BOOT_STATUS_STAGE = 6 ∧ s.boot.hostWait = false ∧ s.bit R.BOOT_CFG_SLOT_PREF = false ∧ s.pkgBad (some p) =
    none) → Completes (.fwload (some p) b) s (fun t => t.fld R.SYS_BOOT_STATUS_STAGE = 7 ∧ t.fld R.BOOT_FW_SLOT_SLOT =
    0 ∧ t.boot.supVer = p.supVer ∧ t.boot.tileVer = p.tileVer ∧ t.boot.pkgCopy = some p)) ∧
  -- FWLOAD
  (∀ (a b : Option Package) (stsA stsB : Nat) (s : State), MemCanon s → s.shaped = true → (s.boot.running = true ∧
    s.fld R.SYS_BOOT_STATUS_STAGE = 6 ∧ s.boot.hostWait = false ∧ s.pkgBad a = some stsA ∧ s.pkgBad b = some stsB) →
    Completes (.fwload a b) s (fun t => t.bootState = 3 ∧ t.boot.running = false ∧ t.fld R.SYS_BOOT_STATUS_LAST_STS =
    0x100D ∧ t.fld R.BOOT_FW_SLOT_SLOT = 3)) ∧
  -- PKG_READY
  (∀ (s : State), MemCanon s → s.shaped = true → (s.served R.BOOT_CTRL.off = true ∧ s.boot.running = true ∧ s.fld
    R.SYS_BOOT_STATUS_STAGE = 6 ∧ s.boot.hostWait = true) → Completes .pkgReady s (fun t => t.boot.hostWait = false ∧
    t.boot.pkgCopy = s.pkgHost ∧ (match s.pkgBad s.pkgHost with
    | none => t.fld R.SYS_BOOT_STATUS_STAGE = 7 ∧ t.fld R.BOOT_FW_SLOT_SLOT = 2
    | some sts => t.fld R.SYS_BOOT_STATUS_STAGE = 6 ∧ t.fld R.SYS_BOOT_STATUS_LAST_STS = sts))) ∧
  -- HOST_PKG_TIMEOUT
  (∀ (s : State), MemCanon s → s.shaped = true → (s.boot.running = true ∧ s.fld R.SYS_BOOT_STATUS_STAGE = 6 ∧
    s.boot.hostWait = true ∧ s.boot.stageAt + s.fld R.BOOT_CFG_HOST_WAIT_S * 1000000000 ≤ s.now) → Completes
    .hostPkgTimeout s (fun t => t.boot.hostWait = false ∧ t.boot.stageAt = s.now ∧ t.fld R.SYS_BOOT_STATUS_LAST_STS =
    0x100F)) ∧
  -- SPORES
  (∀ (s : State), MemCanon s → s.shaped = true → (s.boot.running = true ∧ s.fld R.SYS_BOOT_STATUS_STAGE = 7) →
    Completes .spores s (fun t => t.fld R.SYS_BOOT_STATUS_STAGE = 8 ∧ t.rd R.SYS_TILE_VER = BitVec.ofNat 32
    s.boot.tileVer)) ∧
  -- SPORE_ACK_TIMEOUT
  (∀ (gill spore : Nat) (s : State), MemCanon s → s.shaped = true → (s.boot.running = true ∧ s.fld
    R.SYS_BOOT_STATUS_STAGE = 7 ∧ gill < s.gills ∧ Sparse.sorted s.boot.sporeTries = true ∧ Sparse.get
    s.boot.sporeTries (65536 * gill + spore) 0 < 3) → Completes (.sporeAckTimeout gill spore) s (fun t =>
    t.boot.running = true ∧ Sparse.get t.boot.sporeTries (65536 * gill + spore) 0 = Sparse.get s.boot.sporeTries
    (65536 * gill + spore) 0 + 1)) ∧
  -- SPORE_ACK_TIMEOUT
  (∀ (gill spore : Nat) (s : State), MemCanon s → s.shaped = true → (s.boot.running = true ∧ s.fld
    R.SYS_BOOT_STATUS_STAGE = 7 ∧ gill < s.gills ∧ Sparse.get s.boot.sporeTries (65536 * gill + spore) 0 = 3 ∧
    s.boot.sessionMap.length < 16 ∧ s.fld R.BOOT_RESTARTS_COUNT < 2) → Completes (.sporeAckTimeout gill spore) s (fun
    t => t.boot.running = false ∧ t.pwr.resetReq = true ∧ t.boot.sessionMap.length = s.boot.sessionMap.length + 1 ∧
    t.fld R.BOOT_RESTARTS_COUNT = s.fld R.BOOT_RESTARTS_COUNT + 1 ∧ t.fld R.SYS_BOOT_STATUS_LAST_STS = 0x1010)) ∧
  -- SUPERVISOR
  (∀ (s : State), MemCanon s → s.shaped = true → (s.boot.running = true ∧ s.fld R.SYS_BOOT_STATUS_STAGE = 8) →
    Completes .supervisor s (fun t => t.fld R.SYS_BOOT_STATUS_STAGE = 9 ∧ t.boot.supStarted = true ∧ t.fld
    R.JRN_STATUS_REPLAYED = 1 ∧ t.fld R.JRN_CTRL_ARMED = 1 ∧ t.boot.early = [])) ∧
  -- SUP_START_TIMEOUT
  (∀ (s : State), MemCanon s → s.shaped = true → (s.boot.running = true ∧ s.fld R.SYS_BOOT_STATUS_STAGE = 8 ∧
    s.boot.stageAt + 20000000 ≤ s.now) → Completes .supStartTimeout s (fun t => t.bootState = 3 ∧ t.boot.running =
    false ∧ t.fld R.SYS_BOOT_STATUS_LAST_STS = 0x1011)) ∧
  -- IMAGE
  (∀ (s : State), MemCanon s → s.shaped = true → (s.boot.running = true ∧ s.fld R.SYS_BOOT_STATUS_STAGE = 9 ∧ s.bit
    R.BOOT_CFG_AUTO_IMAGE = true ∧ s.now ≤ s.boot.stageAt + 1000 * s.imageLimit ∧ (s.imgLoad (s.fld
    R.BOOT_IMG_SLOTS_NEWEST)).img.shadow.isSome = true) → Completes .image s (fun t => t.fld R.SYS_BOOT_STATUS_STAGE =
    10 ∧ t.img.active = (s.imgLoad (s.fld R.BOOT_IMG_SLOTS_NEWEST)).img.shadow ∧ t.fld R.BOOT_IMG_STATUS_STATE = 2 ∧
    t.boot.noImage = s.boot.noImage)) ∧
  -- IMAGE
  (∀ (s : State), MemCanon s → s.shaped = true → (s.boot.running = true ∧ s.fld R.SYS_BOOT_STATUS_STAGE = 9 ∧ s.bit
    R.BOOT_CFG_AUTO_IMAGE = true ∧ s.now ≤ s.boot.stageAt + 1000 * s.imageLimit ∧ (s.imgLoad (s.fld
    R.BOOT_IMG_SLOTS_NEWEST)).img.shadow = none) → Completes .image s (fun t => t.fld R.SYS_BOOT_STATUS_STAGE = 10 ∧
    t.boot.noImage = true ∧ t.fld R.SYS_BOOT_STATUS_LAST_STS = 0x1012)) ∧
  -- IMAGE
  (∀ (s : State), MemCanon s → s.shaped = true → (s.boot.running = true ∧ s.fld R.SYS_BOOT_STATUS_STAGE = 9 ∧ s.bit
    R.BOOT_CFG_AUTO_IMAGE = false) → Completes .image s (fun t => t.fld R.SYS_BOOT_STATUS_STAGE = 10 ∧ t.img = s.img ∧
    t.boot.noImage = s.boot.noImage)) ∧
  -- HOLD
  (∀ (s : State), MemCanon s → s.shaped = true → (s.boot.running = true ∧ s.fld R.SYS_BOOT_STATUS_STAGE = 10 ∧ s.bit
    R.PWR_MOD_STATUS_CHARGED = true) → Completes .hold s (fun t => t.fld R.SYS_BOOT_STATUS_STAGE = 11)) ∧
  -- READY
  (∀ (s : State), MemCanon s → s.shaped = true → (s.boot.running = true ∧ s.fld R.SYS_BOOT_STATUS_STAGE = 11 ∧
    s.boot.noImage = false ∧ s.mbx.runAuto = false) → Completes .ready s (fun t => t.boot.running = false ∧
    t.pwr.pwrOk = true ∧ t.fld R.PWR_MODE_STATUS_MODE = 1 ∧ t.bootState = 1)) ∧
  -- READY
  (∀ (s : State), MemCanon s → s.shaped = true → (s.boot.running = true ∧ s.fld R.SYS_BOOT_STATUS_STAGE = 11 ∧
    s.boot.noImage = true) → Completes .ready s (fun t => t.boot.running = false ∧ t.pwr.pwrOk = false ∧ t.bootState =
    2)) ∧
  -- STAGE_TIMEOUT
  (∀ (s : State), MemCanon s → s.shaped = true → (s.boot.running = true ∧ s.boot.hostWait = false ∧ (∃ us,
    s.stageLimit (s.fld R.SYS_BOOT_STATUS_STAGE) = some us ∧ s.boot.stageAt + us * 1000 ≤ s.now)) → Completes
    .stageTimeout s (fun t => t.bootState = 3 ∧ t.boot.running = false ∧ t.fld R.SYS_BOOT_STATUS_LAST_STS = 0x1013))

/-- The start commands, the field map, and the resets of the host interface. A cold start begins stage 1 anew; a warm
start begins stage 1 and keeps device memory; SAVE_CFG asks the flash for the boot configuration; an accepted field
addition joins the field map; PERST# and a function level reset clear the host interface and report 0xC002; a link
that goes down clears LINK.UP. Every clause is about every state whose memory and register file are canonical and
whose tables have the device's lengths, under the conditions the Lean names, and its conclusion is that the command
answers a next state of that kind. Behind it stand the model's own choices of log entries 13, 19, 21. (R201, R185,
R186, R664, R189, R705, R668, R202) -/
def Obligations.StartCommands : Prop :=
  -- COLD_START
  (∀ (pages : List PageFact) (s : State), MemCanon s → s.shaped = true → (s.served R.BOOT_CTRL.off = true) → Completes
    (.coldStart pages) s (fun t => t.boot.running = true ∧ t.boot.warm = false ∧ t.fld R.SYS_BOOT_STATUS_STAGE = 1 ∧
    t.bootState = 0 ∧ t.pwr.inReset = false)) ∧
  -- WARM_START
  (∀ (s : State), MemCanon s → s.shaped = true → (s.served R.BOOT_CTRL.off = true ∧ s.bootState ≠ 0) → Completes
    .warmStart s (fun t => t.boot.running = true ∧ t.boot.warm = true ∧ t.fld R.SYS_BOOT_STATUS_STAGE = 1 ∧ t.fld
    R.SYS_BOOT_STATUS_WARM = 1 ∧ t.mem = s.mem ∧ t.sram = s.sram)) ∧
  -- SAVE_CFG
  (∀ (s : State), MemCanon s → s.shaped = true → (s.served R.BOOT_CTRL.off = true ∧ s.jrn.reqs = [] ∧ s.jrn.deferring
    = false ∧ s.boot.supStarted = true ∧ s.energyOk 15 = true) → Completes .saveCfg s (fun t => t.boot.cfgBlock = some
    (s.rd R.BOOT_CFG).toNat ∧ t.jrn.reqs = [])) ∧
  -- SAVE_CFG
  (∀ (s : State), MemCanon s → s.shaped = true → (s.served R.BOOT_CTRL.off = true ∧ s.jrn.reqs = [] ∧ s.jrn.deferring
    = false ∧ s.boot.supStarted = true ∧ s.energyOk 15 = false) → Completes .saveCfg s (fun t => t.boot.cfgBlock =
    s.boot.cfgBlock ∧ t.jrn.reqs = [⟨1, (s.rd R.BOOT_CFG).toNat⟩] ∧ t.jrn.deferring = true)) ∧
  -- SAVE_CFG
  (∀ (s : State), MemCanon s → s.shaped = true → (s.served R.BOOT_CTRL.off = true ∧ s.boot.supStarted = false) →
    Completes .saveCfg s (fun t => t.boot.cfgBlock = s.boot.cfgBlock ∧ t.jrn.reqs = s.jrn.reqs ++ [⟨1, (s.rd
    R.BOOT_CFG).toNat⟩] ∧ t.jrn.deferring = s.jrn.deferring)) ∧
  -- FIELD_ADDITION
  (∀ (entry : Nat) (s : State), MemCanon s → s.shaped = true → (s.served R.BOOT_FMAP_ADD.off = true ∧ s.fieldBad entry
    = 0 ∧ s.fieldHas entry = false) → Completes (.fieldAddition entry) s (fun t => t.boot.fieldMap = s.boot.fieldMap
    ++ [mapWith entry 1] ∧ t.fld R.BOOT_FMAP_STATUS_FIELD_COUNT = s.boot.fieldMap.length + 1)) ∧
  -- PERST_ASSERT
  (∀ (s : State), MemCanon s → s.shaped = true → (s.mbx.perst = false) → Completes .perstAssert s (fun t =>
    t.mbx.perst = true ∧ t.fld R.MBX_LINK_UP = 0 ∧ t.fld R.MBX_HSTATUS_BME = 0 ∧ t.mbx.msixEn = false ∧ t.mbx.barLog2
    = 32 ∧ t.fld R.MBX_HSTATUS_LAST_STS = 0xC002)) ∧
  -- FUNCTION_LEVEL_RESET
  (∀ (s : State), MemCanon s → s.shaped = true → (s.cfgOpen = true) → Completes .functionLevelReset s (fun t => t.fld
    R.MBX_HSTATUS_BME = 0 ∧ t.mbx.msixEn = false ∧ t.mbx.barLog2 = 32 ∧ t.fld R.MBX_HSTATUS_LAST_STS = 0xC002))

/-- Loading, committing, unloading and storing an image. LOAD of an empty loader leaves the image that passes every
stage in the shadow, and reports the first failure where it does not; the commit makes it active and unloads nothing
else; UNLOAD takes the image away; STORE of an image that passes the first stages and KEYREC of a good record start
a write of the flash, others are reported, and the ends of the writes make them current; a link that goes down
resets the host interface. Every clause is about every state whose memory and register file are canonical and whose
tables have the device's lengths, under the conditions the Lean names, and its conclusion is that the command
answers a next state of that kind. Behind it stand the model's own choices of log entries 28, 29, 30. (R214, R215,
R228, R217, R213, R664) -/
def Obligations.ImageCommands : Prop :=
  -- LINK_DOWN
  (∀ (s : State), MemCanon s → s.shaped = true → (s.bit R.MBX_LINK_UP = true) → Completes .linkDown s (fun t => t.fld
    R.MBX_LINK_UP = 0 ∧ t.fld R.MBX_HSTATUS_BME = 0 ∧ t.mbx.barLog2 = 32 ∧ t.fld R.MBX_HSTATUS_LAST_STS = 0xC001)) ∧
  -- LOAD
  (∀ (src : Nat) (im : Image) (s : State), MemCanon s → s.shaped = true → (s.served R.BOOT_IMG_CTRL.off = true ∧ s.fld
    R.BOOT_IMG_STATUS_STATE = 0 ∧
    (({ s.setF R.BOOT_IMG_CTRL_SRC (src % 4) with img := { s.img with loadAt := s.now } } : State).imgStages (src %
    4)).toOption = some im) → Completes (.load src) s (fun t => t.img.shadow = some im ∧ t.fld R.BOOT_IMG_STATUS_STAGE
    = 9 ∧ t.fld R.BOOT_IMG_STATUS_STATE = 1 ∧ t.img.active = s.img.active)) ∧
  -- LOAD
  (∀ (src : Nat) (f : ImgFail) (s : State), MemCanon s → s.shaped = true → (s.served R.BOOT_IMG_CTRL.off = true ∧
    s.fld R.BOOT_IMG_STATUS_STATE = 0 ∧ failOf
    (({ s.setF R.BOOT_IMG_CTRL_SRC (src % 4) with img := { s.img with loadAt := s.now } } : State).imgStages (src %
    4)) = some f) → Completes (.load src) s (fun t => t.img.shadow = s.img.shadow ∧ t.fld R.BOOT_IMG_STATUS_STATE = 0
    ∧ t.fld R.BOOT_IMG_STATUS_LAST_STS = f.sts % 65536)) ∧
  -- IMAGE_COMMIT
  (∀ (s : State), MemCanon s → s.shaped = true → (s.img.shadow.isSome = true) → Completes .imageCommit s (fun t =>
    t.img.active = s.img.shadow ∧ t.img.shadow = none ∧ t.fld R.BOOT_IMG_STATUS_STATE = 2 ∧ t.fld
    R.BOOT_IMG_STATUS_STAGE = 10 ∧ t.fld R.MESH_ROUTESET_CURRENT = 0)) ∧
  -- UNLOAD
  (∀ (src : Nat) (s : State), MemCanon s → s.shaped = true → (s.served R.BOOT_IMG_CTRL.off = true ∧ s.unloadOk = true)
    → Completes (.unload src) s (fun t => t.img.active = none ∧ t.fld R.BOOT_IMG_STATUS_STATE = 0 ∧ t.fld
    R.BOOT_IMG_ACTIVE_IMAGE_ID = 0)) ∧
  -- STORE_COMPLETE
  (∀ (s : State), MemCanon s → s.shaped = true → (s.img.storing.isSome = true ∧ s.flashReady 6 = true ∧
    s.jrn.reqs.length = 1) → Completes .storeComplete s (fun t => t.img.storing = none ∧ t.jrn.reqs = [] ∧ (∀ x ∈
    s.img.storing, x.1 < s.img.slots.length → t.img.slots.getD x.1 {} = ⟨true, x.2.1, x.2.2⟩))) ∧
  -- KEYREC_APPLIED
  (∀ (s : State), MemCanon s → s.shaped = true → (s.img.keyNew.isSome = true ∧ s.flashReady 3 = true ∧
    s.jrn.reqs.length = 1) → Completes .keyrecApplied s (fun t => t.img.keyNew = none ∧ t.jrn.reqs = [] ∧ (∀ x ∈
    s.img.keyNew, t.img.keys = x.1 ∧ t.img.minSec = x.2.1 ∧ t.img.keySeq = x.2.2))) ∧
  -- STORE
  (∀ (src : Nat) (b : List Byte) (im : Image) (s : State), MemCanon s → s.shaped = true → (s.served
    R.BOOT_IMG_CTRL.off = true ∧ s.img.storing = none ∧ ((s.setF R.BOOT_IMG_CTRL_SRC (src % 4)).imgCopy 2).toOption =
    some b ∧ ((s.setF R.BOOT_IMG_CTRL_SRC (src % 4)).checkFront b).toOption = some im) → Completes (.store src) s (fun
    t => t.img.storing.map (·.2.2) = some (b.take im.total) ∧ t.fld R.BOOT_IMG_STATUS_BUSY = 1 ∧ t.img.active =
    s.img.active)) ∧
  -- STORE
  (∀ (src : Nat) (b : List Byte) (f : ImgFail) (s : State), MemCanon s → s.shaped = true → (s.served
    R.BOOT_IMG_CTRL.off = true ∧ s.img.storing = none ∧ ((s.setF R.BOOT_IMG_CTRL_SRC (src % 4)).imgCopy 2).toOption =
    some b ∧ failOf ((s.setF R.BOOT_IMG_CTRL_SRC (src % 4)).checkFront b) = some f) → Completes (.store src) s (fun t
    => t.fld R.BOOT_IMG_STATUS_LAST_STS = f.sts % 65536 ∧ t.img.storing = none)) ∧
  -- STORE
  (∀ (src : Nat) (f : ImgFail) (s : State), MemCanon s → s.shaped = true → (s.served R.BOOT_IMG_CTRL.off = true ∧
    s.img.storing = none ∧ failOf ((s.setF R.BOOT_IMG_CTRL_SRC (src % 4)).imgCopy 2) = some f) → Completes (.store
    src) s (fun t => t.fld R.BOOT_IMG_STATUS_LAST_STS = f.sts % 65536 ∧ t.img.storing = none)) ∧
  -- KEYREC
  (∀ (src : Nat) (s : State), MemCanon s → s.shaped = true → (s.served R.BOOT_IMG_CTRL.off = true ∧ s.img.keyNew =
    none ∧ (s.setF R.BOOT_IMG_CTRL_SRC (src % 4)).keyBad ((s.setF R.BOOT_IMG_CTRL_SRC (src % 4)).imgMem.getD []) ≠ 0)
    → Completes (.keyrec src) s (fun t => t.fld R.BOOT_IMG_STATUS_LAST_STS = 0x200F ∧ t.img.keyNew = none ∧ t.img.keys
    = s.img.keys)) ∧
  -- KEYREC
  (∀ (src : Nat) (b : List Byte) (s : State), MemCanon s → s.shaped = true → (s.served R.BOOT_IMG_CTRL.off = true ∧
    s.img.keyNew = none ∧ (s.setF R.BOOT_IMG_CTRL_SRC (src % 4)).imgMem = some b ∧ (s.setF R.BOOT_IMG_CTRL_SRC (src %
    4)).keyBad b = 0) → Completes (.keyrec src) s (fun t => (t.img.keyNew.map (fun x => x.2.2)) = some (leAt b 8 4) ∧
    t.img.keys = s.img.keys ∧ t.fld R.BOOT_IMG_STATUS_BUSY = 1))

/-- A route-set change. A change to a route set the image has is begun; the epoch boundary flips the epoch and holds
the moved routes in flight; a released route leaves the hold; with nothing held the change completes and its set
becomes current; a change past its limit is reported 0x200E once. Every clause is about every state whose memory and
register file are canonical and whose tables have the device's lengths, under the conditions the Lean names, and its
conclusion is that the command answers a next state of that kind. Behind it stand the model's own choices of log
entry 31. (R226, R227) -/
def Obligations.RouteSetCommands : Prop :=
  -- ROUTE_SET_CHANGE
  (∀ (value : Nat) (s : State), MemCanon s → s.shaped = true → (s.served R.MESH_ROUTESET.off = true ∧
    R.MESH_ROUTESET_GO.of value = 1 ∧ s.setDeclared (R.MESH_ROUTESET_NEXT.of value) = true ∧ s.bit
    R.MESH_ROUTESET_BUSY = false ∧ s.bit R.BOOT_IMG_STATUS_BUSY = false) → Completes (.routeSetChange value) s (fun t
    => t.fld R.MESH_ROUTESET_BUSY = 1 ∧ t.fld R.MESH_ROUTESET_NEXT = R.MESH_ROUTESET_NEXT.of value ∧ t.img.change =
    some { next := R.MESH_ROUTESET_NEXT.of value, startAt := s.now })) ∧
  -- EPOCH_BOUNDARY
  (∀ (inflight : List Nat) (s : State), MemCanon s → s.shaped = true → (s.img.change.any (fun c => !c.flipped) = true)
    → Completes (.epochBoundary inflight) s (fun t => t.img.change.any (fun c => c.flipped && c.flipAt == s.now) =
    true ∧ t.fld R.MESH_ROUTESET_EPOCH = 1 - s.fld R.MESH_ROUTESET_EPOCH)) ∧
  -- ROUTE_RELEASE
  (∀ (route : Nat) (s : State), MemCanon s → s.shaped = true → (s.img.change.any (fun c => c.held.contains route) =
    true ∧ s.oldOn route = false) → Completes (.routeRelease route) s (fun t => t.img.change.any (fun c =>
    !c.held.contains route) = true)) ∧
  -- ROUTE_CHANGE_COMPLETE
  (∀ (s : State), MemCanon s → s.shaped = true → (s.img.change.any (fun c => c.flipped && c.held.isEmpty) = true ∧
    s.flights.all (fun f => f.tag == s.fld R.MESH_ROUTESET_EPOCH) = true) → Completes .routeChangeComplete s (fun t =>
    t.img.change = none ∧ t.fld R.MESH_ROUTESET_BUSY = 0 ∧ t.fld R.MESH_ROUTESET_CURRENT = (s.img.change.map
    (·.next)).getD 0 % 2 ^ R.MESH_ROUTESET_CURRENT.width ∧ t.fld R.MESH_EPOCH_STATUS_HELD = 0)) ∧
  -- ROUTE_CHANGE_TIMEOUT
  (∀ (s : State), MemCanon s → s.shaped = true → (s.img.change.any (fun c => !c.late && decide (c.startAt + s.fld
    R.MESH_EPOCH_CFG_TIMEOUT_US * 1000 ≤ s.now)) = true) → Completes .routeChangeTimeout s (fun t => t.img.change.any
    (·.late) = true ∧ t.fld R.MESH_EPOCH_STATUS_LAST_STS = 0x200E))

/-- Encoder inputs, serial readings, wire faults and speed. An accepted edge changes its pair's level; a glitch fault
counts; a poll of a serial sensor is sent out; the first reading of an SSI sensor is its raw position; a wire
disagreement counts, a wire fault is flagged and reported 0x4003, and heals; the gate of a channel restarts. Every
clause is about every state whose memory and register file are canonical and whose tables have the device's lengths,
under the conditions the Lean names, and its conclusion is that the command answers a next state of that kind.
Behind it stand the model's own choices of log entries 33, 34, 36. (R287, R288, R293, R294, R296, R297, R298, R299,
R110) -/
def Obligations.EncoderEvents : Prop :=
  -- EDGE_ACCEPTED
  (∀ (chan mask held : Nat) (s : State), MemCanon s → s.shaped = true → (s.pwr.lost = false ∧ chan < s.encChans ∧
    s.qualNs chan ≤ held ∧ mask ∈ [1, 2, 3, 4, 5, 6, 7] ∧ (s.ch chan).edge = [none, none, none] ∧ chan < 4) →
    Completes (.edgeAccepted chan mask held) s (fun t => t.fld (R.MOT_CH_STATUS_LEVEL chan) = s.fld
    (R.MOT_CH_STATUS_LEVEL chan) ^^^ mask)) ∧
  -- EDGE_ACCEPTED
  (∀ (chan mask held : Nat) (s : State), MemCanon s → s.shaped = true → (s.pwr.lost = false ∧ chan < s.encChans ∧
    s.qualNs chan ≤ held ∧ mask ∈ [1, 2] ∧ (s.ch chan).edge = [none, none, none] ∧ chan < 4 ∧ s.chOn chan = true ∧
    s.chMode chan = 1 ∧ (quadPos (s.fld (R.MOT_CH_STATUS_LEVEL chan) ^^^ mask) + 4 - quadPos (s.fld
    (R.MOT_CH_STATUS_LEVEL chan))) % 4 = 1) → Completes (.edgeAccepted chan mask held) s (fun t => t.xOf chan = add48
    (s.xOf chan) (if s.bit (R.MOT_CH_CFG_DIR_INV chan) then -1 else 1))) ∧
  -- GLITCH_FAULT
  (∀ (chan : Nat) (s : State), MemCanon s → s.shaped = true → (s.pwr.lost = false ∧ chan < s.encChans ∧ chan < 4) →
    Completes (.glitchFault chan) s (fun t => (t.ch chan).glitches = (s.ch chan).glitches + 1 ∧ t.fld
    (R.MOT_CH_CNT_GLITCH_COUNT chan) = min (s.fld (R.MOT_CH_CNT_GLITCH_COUNT chan) + 1) (2 ^ 32 - 1))) ∧
  -- SERIAL_POLL
  (∀ (chan : Nat) (s : State), MemCanon s → s.shaped = true → (s.chOn chan = true ∧ (s.chMode chan = 3 ∨ s.chMode chan
    = 4)) → Completes (.serialPoll chan) s (fun t => t.out = .poll chan :: s.out)) ∧
  -- SERIAL_READING
  (∀ (chan : Nat) (frame : SerialFrame) (s : State), MemCanon s → s.shaped = true → (s.pwr.lost = false ∧ s.chOn chan
    = true ∧ (s.chMode chan = 3 ∨ s.chMode chan = 4) ∧ s.serialStatus chan frame = none ∧ (s.ch chan).raw = none ∧
    chan < 4) → Completes (.serialReading chan frame) s (fun t => (t.ch chan).raw = some (s.serialPos chan frame.data)
    ∧ (t.ch chan).rejects = 0 ∧ t.xOf chan = s.serialPos chan frame.data % 2 ^ 48)) ∧
  -- SERIAL_READING
  (∀ (chan : Nat) (frame : SerialFrame) (sts : Nat) (s : State), MemCanon s → s.shaped = true → (s.pwr.lost = false ∧
    s.chOn chan = true ∧ s.chMode chan = 4 ∧ s.serialStatus chan frame = some sts ∧ chan < 4) → Completes
    (.serialReading chan frame) s (fun t => (t.ch chan).rejects = (s.ch chan).rejects + 1 ∧ (t.ch chan).raw = (s.ch
    chan).raw ∧ t.xOf chan = s.xOf chan ∧ t.fld (R.MOT_CH_CNT_SER_COUNT chan) = min (s.fld (R.MOT_CH_CNT_SER_COUNT
    chan) + 1) (2 ^ 32 - 1))) ∧
  -- WIRE_DISAGREE
  (∀ (chan pair : Nat) (s : State), MemCanon s → s.shaped = true → (s.pwr.lost = false ∧ s.chOn chan = true ∧
    s.pairChecked chan pair = true ∧ s.fld (R.MOT_CH_WIRE_WIRE_CYC chan) ≠ 0 ∧ (s.ch chan).apart.testBit pair = false
    ∧ chan < 4) → Completes (.wireDisagree chan pair) s (fun t => (t.ch chan).apart.testBit pair = true ∧ t.fld
    (R.MOT_CH_STATUS_WIRE_SEEN chan) = 1 ∧ t.fld (R.MOT_CH_CNT_WIRE_COUNT chan) = min (s.fld (R.MOT_CH_CNT_WIRE_COUNT
    chan) + 1) (2 ^ 32 - 1))) ∧
  -- WIRE_FAULT
  (∀ (chan pair : Nat) (s : State), MemCanon s → s.shaped = true → (s.pwr.lost = false ∧ s.chOn chan = true ∧ (s.ch
    chan).apart.testBit pair = true ∧ s.fld (R.MOT_CH_WIRE_WIRE_CYC chan) ≠ 0 ∧ (s.ch chan).faulted.testBit pair =
    false ∧ (s.ch chan).apartAt.getD pair 0 + s.faultNs chan ≤ s.now ∧ chan < 4) → Completes (.wireFault chan pair) s
    (fun t => (t.ch chan).broken.testBit pair = true ∧ t.fld (R.MOT_CH_STATUS_WIRE_FAULT chan) = 1 ∧ t.fld
    (R.MOT_CH_STATUS_LAST_STS chan) = 0x4003)) ∧
  -- WIRE_FAULT_CLEAR
  (∀ (chan pair : Nat) (s : State), MemCanon s → s.shaped = true → (s.pwr.lost = false ∧ (s.ch chan).broken = 2 ^ pair
    ∧ (s.ch chan).apart.testBit pair = false ∧ ((s.ch chan).agreeAt.getD pair none).any (fun a => decide (a +
    s.faultNs chan ≤ s.now)) = true ∧ chan < 4) → Completes (.wireFaultClear chan pair) s (fun t => (t.ch chan).broken
    = 0 ∧ t.fld (R.MOT_CH_STATUS_WIRE_FAULT chan) = 0)) ∧
  -- WIRE_FAULT_CLEAR
  (∀ (chan pair : Nat) (s : State), MemCanon s → s.shaped = true → (s.pwr.lost = false ∧ (s.ch chan).broken.testBit
    pair = true ∧ (s.ch chan).broken ≠ 2 ^ pair ∧ (s.ch chan).apart.testBit pair = false ∧ ((s.ch chan).agreeAt.getD
    pair none).any (fun a => decide (a + s.faultNs chan ≤ s.now)) = true ∧ chan < 4) → Completes (.wireFaultClear chan
    pair) s (fun t => (t.ch chan).broken = maskOff (s.ch chan).broken (2 ^ pair) ∧ t.fld (R.MOT_CH_STATUS_WIRE_FAULT
    chan) = s.fld (R.MOT_CH_STATUS_WIRE_FAULT chan))) ∧
  -- SPEED_PERIOD_TICK
  (∀ (c : Nat) (s : State), MemCanon s → s.shaped = true → (s.mot.tracks = [] ∧ c < 4 ∧ s.chOn c = true ∧ (s.chMode c
    = 1 ∨ s.chMode c = 2)) → Completes .speedPeriodTick s (fun t => (t.ch c).vp = s.vPeriod c ∧ (s.bit
    (R.MOT_CH_STATUS_METHOD c) = false → (t.ch c).v = s.vPeriod c))) ∧
  -- COUNT_GATE_END
  (∀ (chan : Nat) (s : State), MemCanon s → s.shaped = true → (s.chOn chan = true ∧ (s.chMode chan = 1 ∨ s.chMode chan
    = 2) ∧ s.gateDue chan = true ∧ chan < 4) → Completes (.countGateEnd chan) s (fun t => (t.ch chan).vc = ⟨(s.ch
    chan).gateSteps * 1000000, (s.ch chan).gateUs⟩ ∧ (t.ch chan).gateSteps = 0 ∧ (t.ch chan).gateAt = (s.ch
    chan).gateAt + 1000 * (s.ch chan).gateUs ∧ (t.ch chan).gateUs = s.fld (R.MOT_CH_GATE_GATE_US chan)))

/-- Channel configuration, conversions and the track unit's registers. A write of MOT_CH_CFG that may take effect sets
the channel's mode and ACTIVE; speed thresholds in order are stored; a conversion tick gives every undecided track
the deadline of its channel; MOT_TRK_CFG is stored with a period of at least 1; a presence report is taken from
crossing 6; a gate and its offsets are set where the constraints hold. Every clause is about every state whose
memory and register file are canonical and whose tables have the device's lengths, under the conditions the Lean
names, and its conclusion is that the command answers a next state of that kind. Behind it stand the model's own
choices of log entries 16, 33, 75. (R315, R301, R42, R62, R38, R58) -/
def Obligations.ChannelCommands : Prop :=
  -- CH_CFG_WRITE
  (∀ (chan value : Nat) (s : State), MemCanon s → s.shaped = true → (chan < 4 ∧ s.served (R.MOT_CH_CFG chan).off =
    true ∧ s.bit (R.MOT_CH_CFG_EN chan) = false ∧ (R.MOT_CH_CFG_MODE chan).of value ≤ 4) → Completes (.chCfgWrite chan
    value) s (fun t => t.fld (R.MOT_CH_CFG_MODE chan) = (R.MOT_CH_CFG_MODE chan).of value ∧ t.fld (R.MOT_CH_CFG_EN
    chan) = (R.MOT_CH_CFG_EN chan).of value ∧ t.fld (R.MOT_CH_STATUS_ACTIVE chan) = (if (R.MOT_CH_CFG_EN chan).of
    value = 1 ∧ (R.MOT_CH_CFG_MODE chan).of value ≠ 0 then 1 else 0))) ∧
  -- SPEED_THRESHOLD_WRITE
  (∀ (chan value : Nat) (s : State), MemCanon s → s.shaped = true → (chan < 4 ∧ s.served (R.MOT_CH_VHI chan).off =
    true ∧ s.fld (R.MOT_CH_VLO_V_LO chan) < value % 2 ^ 24) → Completes (.speedThresholdWrite chan true value) s (fun
    t => t.fld (R.MOT_CH_VHI_V_HI chan) = value % 2 ^ 24 ∧ t.fld (R.MOT_CH_VLO_V_LO chan) = s.fld (R.MOT_CH_VLO_V_LO
    chan))) ∧
  -- SPEED_THRESHOLD_WRITE
  (∀ (chan value : Nat) (s : State), MemCanon s → s.shaped = true → (chan < 4 ∧ s.served (R.MOT_CH_VLO chan).off =
    true ∧ value % 2 ^ 24 < s.fld (R.MOT_CH_VHI_V_HI chan)) → Completes (.speedThresholdWrite chan false value) s (fun
    t => t.fld (R.MOT_CH_VLO_V_LO chan) = value % 2 ^ 24 ∧ t.fld (R.MOT_CH_VHI_V_HI chan) = s.fld (R.MOT_CH_VHI_V_HI
    chan))) ∧
  -- CONV_PERIOD_TICK
  (∀ (g : Nat) (s : State), MemCanon s → s.shaped = true → (s.mot.gridAt = some g ∧ g + 1000 * s.fld
    R.MOT_TRK_CFG_CONV_PERIOD ≤ s.motNow) → Completes .convPeriodTick s (fun t => t.mot.gridAt = some (g + 1000 *
    s.fld R.MOT_TRK_CFG_CONV_PERIOD) ∧ t.mot.tracks = s.mot.tracks.map (fun p => if p.2.st = .decided ∨ 4 ≤ p.2.chan
    then p else (p.1, { p.2 with dl := s.deadlineOf p.2.chan p.2.d })))) ∧
  -- TRK_CFG_WRITE
  (∀ (value : Nat) (s : State), MemCanon s → s.shaped = true → (s.served R.MOT_TRK_CFG.off = true) → Completes
    (.trkCfgWrite value) s (fun t => t.fld R.MOT_TRK_CFG_EN = R.MOT_TRK_CFG_EN.of value ∧ t.fld
    R.MOT_TRK_CFG_CONV_PERIOD = max 1 (R.MOT_TRK_CFG_CONV_PERIOD.of value))) ∧
  -- IMAGE_PRESENCE_REPORT
  (∀ (pipe count : Nat) (l : List CamEvt) (s : State), MemCanon s → s.shaped = true → (s.cam.xing6 = .presence pipe
    count :: l) → Completes .imagePresenceReport s (fun t => t.cam.xing6 = l.dropWhile (fun e => match e with
    | .presence _ _ => false
    | _ => true))) ∧
  -- IMAGE_PRESENCE_REPORT
  (∀ (pipe count : Nat) (l : List CamEvt) (r : GateRec) (s : State), MemCanon s → s.shaped = true → (s.cam.xing6 =
    .presence pipe count :: l ∧ s.img.active.map (·.gates) = some [r] ∧ r.gate < 16 ∧ r.src = 1 ∧ r.pres = pipe ∧
    s.bit R.MOT_TRK_CFG_EN = true ∧ s.bit (R.MOT_GATE_CFG_EN r.gate) = true ∧ (List.range 512).any (fun k =>
    s.mot.tracks.all (fun p => p.1 != k)) = true) → Completes .imagePresenceReport s (fun t => t.fld
    R.MOT_TRK_OPENED_OPENED = min (s.fld R.MOT_TRK_OPENED_OPENED + 1) (2 ^ 32 - 1) ∧ t.fld R.MOT_TRK_NEXT_SEQ_NEXT_SEQ
    = (s.fld R.MOT_TRK_NEXT_SEQ_NEXT_SEQ + 1) % 2 ^ 32)) ∧
  -- GATE_ENABLE
  (∀ (gate value : Nat) (s : State), MemCanon s → s.shaped = true → (gate < 16 ∧ s.served (R.MOT_GATE_CFG gate).off =
    true ∧ (s.gateOf gate).isSome = true ∧ offsOk (s.fld (R.MOT_GATE_FIRE_FIRE_OFFS gate)) (s.fld (R.MOT_GATE_WIN_W
    gate)) (s.fld (R.MOT_GATE_MARGIN_MARGIN gate)) = true) → Completes (.gateEnable gate value) s (fun t => t.fld
    (R.MOT_GATE_CFG_EN gate) = (R.MOT_GATE_CFG_EN gate).of value)) ∧
  -- GATE_OFFSET_WRITE
  (∀ (gate value : Nat) (s : State), MemCanon s → s.shaped = true → (gate < 16 ∧ s.served (R.MOT_GATE_WIN gate).off =
    true ∧ s.bit (R.MOT_GATE_CFG_EN gate) = false) → Completes (.gateOffsetWrite gate 0 value) s (fun t => t.fld
    (R.MOT_GATE_WIN_W gate) = value % 2 ^ 24)) ∧
  -- GATE_OFFSET_WRITE
  (∀ (gate value : Nat) (s : State), MemCanon s → s.shaped = true → (gate < 16 ∧ s.served (R.MOT_GATE_FIRE gate).off =
    true ∧ s.bit (R.MOT_GATE_CFG_EN gate) = false) → Completes (.gateOffsetWrite gate 1 value) s (fun t => t.fld
    (R.MOT_GATE_FIRE_FIRE_OFFS gate) = value % 2 ^ 24)) ∧
  -- GATE_OFFSET_WRITE
  (∀ (gate value : Nat) (s : State), MemCanon s → s.shaped = true → (gate < 16 ∧ s.served (R.MOT_GATE_MARGIN gate).off
    = true ∧ s.bit (R.MOT_GATE_CFG_EN gate) = false) → Completes (.gateOffsetWrite gate 2 value) s (fun t => t.fld
    (R.MOT_GATE_MARGIN_MARGIN gate) = value % 2 ^ 24))

/-- Declaring and committing tracks. A declaration for an enabled gate with a free slot opens a track with the next
sequence number; a commit is held in WINDOW and decides in COMPUTE; the oldest message of a gill to the track unit
is taken. Every clause is about every state whose memory and register file are canonical and whose tables have the
device's lengths, under the conditions the Lean names, and its conclusion is that the command answers a next state
of that kind. Behind it stand the model's own choices of log entries 37, 38, 74. (R68, R45, R428, R40, R60) -/
def Obligations.TrackCommands : Prop :=
  -- TRACK_DECLARE
  (∀ (value : Nat) (s : State), MemCanon s → s.shaped = true → (s.served R.MOT_TRK_DECL_HI.off = true ∧
    R.MOT_TRK_DECL_HI_GO.of value = 1 ∧ (s.gateOf (R.MOT_TRK_DECL_HI_GATE.of value)).any (fun r => r.src == 2) = true
    ∧ s.bit (R.MOT_GATE_CFG_EN (R.MOT_TRK_DECL_HI_GATE.of value)) = true ∧ s.bit R.MOT_TRK_CFG_EN = true ∧ (List.range
    512).any (fun k => s.mot.tracks.all (fun p => p.1 != k)) = true) → Completes (.trackDeclare value) s (fun t =>
    t.fld R.MOT_TRK_OPENED_OPENED = min (s.fld R.MOT_TRK_OPENED_OPENED + 1) (2 ^ 32 - 1) ∧ t.fld
    R.MOT_TRK_NEXT_SEQ_NEXT_SEQ = (s.fld R.MOT_TRK_NEXT_SEQ_NEXT_SEQ + 1) % 2 ^ 32)) ∧
  -- TRACK_COMMIT
  (∀ (value : Nat) (s : State), MemCanon s → s.shaped = true → (s.served R.MOT_TRK_COMMIT.off = true ∧
    R.MOT_TRK_COMMIT_VERDICT.of value ∈ [1, 2, 3, 5] ∧ (s.trk? (R.MOT_TRK_COMMIT_SLOT.of value)).any (fun x => x.seq
    == s.fld R.MOT_TRK_COMMIT_SEQ_SEQ && x.st == .window && x.held.isNone) = true) → Completes (.trackCommit value) s
    (fun t => (t.trk? (R.MOT_TRK_COMMIT_SLOT.of value)).any (fun x => x.held == some (R.MOT_TRK_COMMIT_VERDICT.of
    value, 0)) = true)) ∧
  -- TRACK_COMMIT
  (∀ (value : Nat) (s : State), MemCanon s → s.shaped = true → (s.served R.MOT_TRK_COMMIT.off = true ∧
    R.MOT_TRK_COMMIT_VERDICT.of value ∈ [1, 2, 3, 5] ∧ (s.trk? (R.MOT_TRK_COMMIT_SLOT.of value)).any (fun x => x.seq
    == s.fld R.MOT_TRK_COMMIT_SEQ_SEQ && x.st == .compute && (x.flags &&& (s.rd R.MOT_TRK_FORCE).toNat) % 8 == 0) =
    true) → Completes (.trackCommit value) s (fun t => (t.trk? (R.MOT_TRK_COMMIT_SLOT.of value)).any (fun x => x.st ==
    .decided && x.verdict == R.MOT_TRK_COMMIT_VERDICT.of value) = true)) ∧
  -- TRACK_UNIT_MESSAGE
  (∀ (gill : Nat) (s : State), MemCanon s → s.shaped = true → (s.flights.any (fun f => f.gill == gill && f.dst ==
    0x6000) = true) → Completes (.trackUnitMessage gill) s (fun t => (t.flights.filter (fun f => f.gill == gill &&
    f.dst == 0x6000)).length + 1 = (s.flights.filter (fun f => f.gill == gill && f.dst == 0x6000)).length)) ∧
  -- ARM_COMMAND
  (∀ (value : Nat) (s : State), MemCanon s → s.shaped = true → (s.served R.EJ_ARM_CMD.off = true ∧ R.EJ_ARM_CMD_GO.of
    value = 1 ∧ R.EJ_ARM_CMD_OUT.of value < s.ejOuts ∧ s.armJudge (R.EJ_ARM_CMD_OUT.of value) (R.EJ_ARM_CMD_TIME.of
    value == 1) (if R.EJ_ARM_CMD_TIME.of value = 1 then s.pair R.EJ_ARM_KEY_LO_KEY_LO R.EJ_ARM_KEY_HI_KEY_HI else
    s.pair R.EJ_ARM_KEY_LO_KEY_LO R.EJ_ARM_KEY_HI_KEY_HI % 2 ^ 48) = none) → Completes (.armCommand value) s (fun t =>
    t.fld R.EJ_ARM_STATUS_ACCEPTED = 1 ∧ t.fld R.EJ_ARM_STATUS_LAST_STS = 0))

/-- Ejector outputs. A due time entry of an idle, enabled output turns it on; the end of a delay turns it on, the end
of a pulse or MAX_ON turns it off into GAP, and the end of GAP leaves it IDLE; an expired deferred entry is dropped;
EJ_CTRL and EJ_OUT_CFG are stored; FLUSH empties the queues; reading the eject log returns an entry. Every clause is
about every state whose memory and register file are canonical and whose tables have the device's lengths, under the
conditions the Lean names, and its conclusion is that the command answers a next state of that kind. Behind it stand
the model's own choices of log entries 37, 39, 76. (R308, R309, R310, R311, R312, R330) -/
def Obligations.EjectorEvents : Prop :=
  -- TIME_ENTRY_DUE
  (∀ (n : Nat) (s : State), MemCanon s → s.shaped = true → (s.pwr.lost = false ∧ n < 16 ∧ n < s.ejOuts ∧ s.ejEnabled n
    = true ∧ s.ejSt n = 0 ∧ (s.ej n).counts = [] ∧ (s.ej n).times.any (fun a => !a.fresh && decide (a.key ≤ s.motNow))
    = true ∧ s.fld (R.EJ_OUT_TIMING_ON_DELAY_US n) = 0) → Completes .timeEntryDue s (fun t => Out.eject n true ∈
    t.out.take (t.out.length - s.out.length))) ∧
  -- DELAY_END
  (∀ (out : Nat) (s : State), MemCanon s → s.shaped = true → (s.ejSt out = 1 ∧ out < s.ejOuts ∧ s.pwr.lost = false ∧
    (s.ej out).endAt ≤ s.now) → Completes (.delayEnd out) s (fun t => (Out.eject out true :: s.out) <:+ t.out ∧
    (s.mot.outs.all (fun x => x.counts.isEmpty && x.times.isEmpty && x.endCnt.isNone) = true → t.ejSt out = 2))) ∧
  -- PULSE_END
  (∀ (out : Nat) (s : State), MemCanon s → s.shaped = true → (s.ejSt out = 2 ∧ out < s.ejOuts ∧ (s.ej out).endCnt =
    none ∧ (s.ej out).endAt ≤ s.now) → Completes (.pulseEnd out) s (fun t => (Out.eject out false :: s.out) <:+ t.out
    ∧ (s.mot.outs.all (fun x => x.counts.isEmpty && x.times.isEmpty && x.endCnt.isNone) = true → t.ejSt out = 3))) ∧
  -- GAP_END
  (∀ (out : Nat) (s : State), MemCanon s → s.shaped = true → (s.ejSt out = 3 ∧ out < s.ejOuts ∧ (s.ej out).endAt ≤
    s.now ∧ (s.ej out).held = [] ∧ s.mot.outs.all (fun x => x.counts.isEmpty && x.times.isEmpty && x.endCnt.isNone) =
    true) → Completes (.gapEnd out) s (fun t => t.ejSt out = 0)) ∧
  -- MAX_ON
  (∀ (out : Nat) (s : State), MemCanon s → s.shaped = true → (s.ejSt out = 2 ∧ out < s.ejOuts ∧ (s.ej out).onAt +
    1000000 * s.fld (R.EJ_OUT_LIMIT_MAX_ON_MS out) ≤ s.now) → Completes (.maxOn out) s (fun t => (Out.eject out false
    :: s.out) <:+ t.out ∧ (s.mot.outs.all (fun x => x.counts.isEmpty && x.times.isEmpty && x.endCnt.isNone) = true →
    t.ejSt out = 3 ∧ t.fld R.EJ_POL_STATUS_LAST_STS = 0x5001))) ∧
  -- DEFER_EXPIRED
  (∀ (out : Nat) (s : State), MemCanon s → s.shaped = true → (out < s.ejOuts ∧ out < 16) → Completes (.deferExpired
    out) s (fun t => (t.ej out).held = (s.ej out).held.filter (fun h => decide (s.now < h.due + 1000000 * s.fld
    (R.EJ_OUT_LIMIT_DEFER_MAX_MS out))))) ∧
  -- EJ_CTRL_WRITE
  (∀ (value : Nat) (s : State), MemCanon s → s.shaped = true → (s.served R.EJ_CTRL.off = true) → Completes
    (.ejCtrlWrite value) s (fun t => t.rd R.EJ_CTRL = BitVec.ofNat 32 (value &&& R.EJ_CTRL.rw))) ∧
  -- OUT_CFG_WRITE
  (∀ (out value : Nat) (s : State), MemCanon s → s.shaped = true → (out < 16 ∧ s.served (R.EJ_OUT_CFG out).off = true)
    → Completes (.outCfgWrite out value) s (fun t => t.fld (R.EJ_OUT_CFG_EN out) = (R.EJ_OUT_CFG_EN out).of value ∧
    t.fld (R.EJ_OUT_CFG_CHAN out) = s.ejChan out)) ∧
  -- FLUSH
  (∀ (out value : Nat) (s : State), MemCanon s → s.shaped = true → (out < 16 ∧ s.served (R.EJ_OUT_CTRL out).off = true
    ∧ (R.EJ_OUT_CTRL_FLUSH out).of value = 1) → Completes (.flush out value) s (fun t => (t.ej out).counts = [] ∧
    (t.ej out).times = [] ∧ (t.ej out).held = [] ∧ t.fld R.EJ_POL_STATUS_LAST_STS = 0x5005)) ∧
  -- EJ_LOG_READ
  (∀ (s : State), MemCanon s → s.shaped = true → (s.served (R.EJ_LOG_DATA 0).off = true) → Completes .ejLogRead s (fun
    t => t.bus.data = leAt (Sparse.get s.mot.log.ents (s.fld R.EJ_LOG_SEL_INDEX) []) 0 4 ∧ t.fld (R.EJ_LOG_DATA_DATA
    7) = leAt (Sparse.get s.mot.log.ents (s.fld R.EJ_LOG_SEL_INDEX) []) 28 4 % 2 ^ 32))

/-- The MOTION copy and the servo's controls. The MOTION copy runs on by itself and says so; RATE takes the value
within its bound, STEP waits and is applied to OFS, PTP_CFG is stored while EN is 0, and HOLDOVER begins after
HOLD_MS without a sample. Every clause is about every state whose memory and register file are canonical and whose
tables have the device's lengths, under the conditions the Lean names, and its conclusion is that the command
answers a next state of that kind. Behind it stand the model's own choices of log entries 32, 46. (R346, R336, R337,
R355, R342, R344) -/
def Obligations.ClockCommands : Prop :=
  -- MOTION_FREERUN
  (∀ (s : State), MemCanon s → s.shaped = true → (s.time.copy = none ∧ s.time.runs = false ∧ s.time.stopAt + 1000 ≤
    s.now) → Completes .motionFreerun s (fun t => t.time.copy = some (s.motNow, s.now, false) ∧ t.fld
    R.PTP_STATUS_MOT_FREERUN = 1 ∧ t.fld R.PTP_STATUS_LAST_STS = 0x6009)) ∧
  -- RATE_WRITE
  (∀ (value : Nat) (s : State), MemCanon s → s.shaped = true → (s.served R.PTP_RATE.off = true ∧ s.fld
    R.PTP_SERVO_CFG_MODE = 1) → Completes (.rateWrite value) s (fun t => t.fld R.PTP_RATE_RATE = unsignedOf 32 (max
    (-34359738) (min 34359738 (signed 32 value))))) ∧
  -- STEP_REQUEST
  (∀ (value : Nat) (s : State), MemCanon s → s.shaped = true → (s.served R.PTP_STEP_CTRL.off = true ∧
    R.PTP_STEP_CTRL_GO.of value = 1 ∧ s.fld R.PTP_SERVO_CFG_MODE = 1 ∧ s.time.step = none ∧ s.fld
    R.PTP_STEP_NS_STEP_NS < giga ∧ 0 ≤ s.ptpNs + signed 64 (s.pair R.PTP_STEP_SEC_LO_STEP_SEC_LO
    R.PTP_STEP_SEC_HI_STEP_SEC_HI) * giga) → Completes (.stepRequest value) s (fun t => t.time.step = some (signed 64
    (s.pair R.PTP_STEP_SEC_LO_STEP_SEC_LO R.PTP_STEP_SEC_HI_STEP_SEC_HI), s.fld R.PTP_STEP_NS_STEP_NS) ∧ t.fld
    R.PTP_STEP_CTRL_BUSY = 1)) ∧
  -- STEP_APPLY
  (∀ (s : State), MemCanon s → s.shaped = true → (s.time.runs = true ∧ s.time.step.any (fun d => decide (d.2 < giga ∧
    0 ≤ s.ptpNs + (d.1 * giga + d.2))) = true) → Completes .stepApply s (fun t => t.ptpNs = s.ptpNs +
    (s.time.step.elim 0 (fun d => d.1 * giga + d.2)) ∧ t.time.step = none ∧ t.fld R.PTP_STEP_CTRL_BUSY = 0 ∧ t.fld
    R.PTP_STATUS_STEP_SEQ = (s.fld R.PTP_STATUS_STEP_SEQ + 1) % 256 ∧ t.fld R.PTP_STATUS_LAST_STS = 0x6001)) ∧
  -- PTP_CFG_WRITE
  (∀ (value : Nat) (s : State), MemCanon s → s.shaped = true → (s.served R.PTP_CFG.off = true ∧ s.bit R.PTP_CFG_EN =
    false ∧ R.PTP_CFG_ROLE.of value ≤ 1) → Completes (.ptpCfgWrite value) s (fun t => t.rd R.PTP_CFG = BitVec.ofNat 32
    (value &&& R.PTP_CFG.rw))) ∧
  -- HOLDOVER
  (∀ (port : Nat) (s : State), MemCanon s → s.shaped = true → (s.bit R.PTP_CFG_EN = true ∧ s.fld R.PTP_STATUS_SYNC ≠ 3
    ∧ port < 2 ∧ s.time.heardAt + s.fld R.PTP_HOLD_HOLD_MS * 1000000 ≤ s.now) → Completes (.holdover port) s (fun t =>
    t.fld R.PTP_STATUS_SYNC = 3 ∧ t.fld R.PTP_STATUS_LAST_STS = 0x6005))

/-- PTP messages, samples, snapshots and marks. A received event message is counted and stamped, a transmitted one
leaves and is stamped; a sample is queued; a snapshot shows the clock's value; a position mark is armed. Every
clause is about every state whose memory and register file are canonical and whose tables have the device's lengths,
under the conditions the Lean names, and its conclusion is that the command answers a next state of that kind.
Behind it stand the model's own choices of log entry 45. (R338, R341, R343, R348, R359, R360) -/
def Obligations.ClockMessagesAndQueues : Prop :=
  -- PTP_RX
  (∀ (port kind seq sec domain : Nat) (inSubset : Bool) (took : Nat) (s : State), MemCanon s → s.shaped = true → (port
    < 2 ∧ s.ptpPort port = true ∧ inSubset = true ∧ domain = s.fld R.PTP_CFG_DOMAIN ∧ took = 0 ∧ s.time.rx.length <
    32) → Completes (.ptpRx port kind seq sec domain inSubset took) s (fun t => t.time.rx.length = s.time.rx.length +
    1 ∧ t.time.rx.take s.time.rx.length = s.time.rx ∧ t.time.rx.getLast?.any (fun e => e.port == port && e.kind ==
    kind && e.seq == seq) = true ∧ t.fld (R.PTP_CNT_RXEV_COUNT port) = min (s.fld (R.PTP_CNT_RXEV_COUNT port) + 1) (2
    ^ 32 - 1))) ∧
  -- PTP_TX
  (∀ (port kind seq : Nat) (turn : Int) (took : Nat) (s : State), MemCanon s → s.shaped = true → (port < 2 ∧ s.ptpPort
    port = true ∧ took = 0 ∧ s.bit R.PTP_CFG_ONE_STEP = false ∧ (s.time.tx.getD port []).length < 16) → Completes
    (.ptpTx port kind seq turn took) s (fun t => Out.ptp port kind seq 0 ∈ t.out ∧ (t.time.tx.getD port []).length =
    (s.time.tx.getD port []).length + 1 ∧ t.fld (R.PTP_CNT_TXEV_COUNT port) = min (s.fld (R.PTP_CNT_TXEV_COUNT port) +
    1) (2 ^ 32 - 1))) ∧
  -- PTP_SAMPLE
  (∀ (port : Nat) (x : PtpExch) (mono seq : Nat) (s : State), MemCanon s → s.shaped = true → (s.ptpPort port = true ∧
    s.time.samples.length < 16 ∧ port < 2) → Completes (.ptpSample port x mono seq) s (fun t => t.time.samples.length
    = s.time.samples.length + 1 ∧ t.time.samples.take s.time.samples.length = s.time.samples ∧
    t.time.samples.getLast?.any (fun e => e.port == port && e.mono == mono && e.seq == seq) = true ∧ t.fld
    (R.PTP_PORT_STATUS_STATE port) = 9)) ∧
  -- PTP_SNAPSHOT_READ
  (∀ (s : State), MemCanon s → s.shaped = true → (s.served R.PTP_SNAP_FRAC.off = true) → Completes .ptpSnapshotRead s
    (fun t => t.bus.data = s.time.frac / 65536 ∧ t.fld R.PTP_SNAP_NS_NS = (s.ptpNs % giga).toNat ∧ t.fld
    R.PTP_SNAP_MONO_LO_MONO_LO = s.time.mono % 2 ^ 32)) ∧
  -- PTP_OFS_READ
  (∀ (s : State), MemCanon s → s.shaped = true → (s.served R.PTP_OFS_NS.off = true) → Completes .ptpOfsRead s (fun t
    => t.bus.data = (s.time.ofs % giga).toNat)) ∧
  -- MARK_ARM
  (∀ (value : Nat) (s : State), MemCanon s → s.shaped = true → (s.served R.PTP_EVT_MARK_HI.off = true ∧ s.encChans ≤
    R.PTP_EVT_MARK_HI_MARK_CHAN.of value) → Completes (.markArm value) s (fun t => t.rd R.PTP_EVT_MARK_HI =
    BitVec.ofNat 32 (value &&& R.PTP_EVT_MARK_HI.rw) ∧ t.fld R.PTP_EVT_CFG_MARK_EN = 1))

/-- A camera port's states. Enabling a port takes it to POWER and disabling it to OFF; powered, it goes to DISCOVER,
then CONFIG, then UP; a loss of lock or a failed discovery takes it DOWN, from where it tries again; the end of a
resynchronisation takes it back to UP. Every clause is about every state whose memory and register file are
canonical and whose tables have the device's lengths, under the conditions the Lean names, and its conclusion is
that the command answers a next state of that kind. Behind it stand the model's own choices of log entries 44, 77.
(R243, R262, R392) -/
def Obligations.CameraPortStates : Prop :=
  -- PORT_ENABLE
  (∀ (port value : Nat) (s : State), MemCanon s → s.shaped = true → (port < 8 ∧ port < s.cxpPorts ∧ s.served
    (R.CXP_PORT_CFG port).off = true ∧ s.portTaken port = false ∧ ((R.CXP_PORT_CFG_EN port).of value = 0 ∨ s.bit
    (R.CXP_PORT_CFG_EN port) = false)) → Completes (.portEnable port value) s (fun t => t.pst port =
    (R.CXP_PORT_CFG_EN port).of value ∧ t.fld (R.CXP_PORT_CFG_EN port) = (R.CXP_PORT_CFG_EN port).of value ∧
    ((R.CXP_PORT_CFG_EN port).of value = 0 → t.fld (R.CXP_PORT_STATUS_LANES_UP port) = 0 ∧ t.fld
    (R.CXP_PORT_STATUS_RATE_ACT port) = 0))) ∧
  -- POCXP_POWERED
  (∀ (port : Nat) (s : State), MemCanon s → s.shaped = true → (port < 8 ∧ port < s.cxpPorts ∧ s.pst port = 1 ∧
    s.portPowered port = true) → Completes (.pocxpPowered port) s (fun t => t.pst port = 2 ∧ t.fld
    (R.CXP_PORT_STATUS_RATE_ACT port) = 1)) ∧
  -- DISCOVER
  (∀ (port : Nat) (s : State), MemCanon s → s.shaped = true → (port < 8 ∧ port < s.cxpPorts ∧ s.pst port = 2) →
    Completes (.discover port true) s (fun t => t.pst port = 3 ∧ t.out = Out.camConfig port (s.portLane port) (s.port
    port).rate (s.portLanes port).length :: s.out)) ∧
  -- DISCOVER
  (∀ (port : Nat) (s : State), MemCanon s → s.shaped = true → (port < 8 ∧ port < s.cxpPorts ∧ s.pst port = 2 ∧
    s.portFor port 500000000 = true) → Completes (.discover port false) s (fun t => t.pst port = 6 ∧ t.fld
    (R.CXP_PORT_STATUS_LAST_STS port) = 0x3002)) ∧
  -- CONFIG
  (∀ (port : Nat) (s : State), MemCanon s → s.shaped = true → (port < 8 ∧ port < s.cxpPorts ∧ s.pst port = 3) →
    Completes (.config port true) s (fun t => t.pst port = 4 ∧ t.fld (R.CXP_PORT_STATUS_LANES_UP port) = (s.portLanes
    port).length % 8 ∧ (t.port port).img = none)) ∧
  -- CONFIG
  (∀ (port : Nat) (s : State), MemCanon s → s.shaped = true → (port < 8 ∧ port < s.cxpPorts ∧ s.pst port = 3 ∧
    s.portFor port 200000000 = true) → Completes (.config port false) s (fun t => t.pst port = 6 ∧ t.fld
    (R.CXP_PORT_STATUS_LAST_STS port) = 0x3002)) ∧
  -- CAMERA_LINK_DOWN
  (∀ (port lane : Nat) (s : State), MemCanon s → s.shaped = true → (port < 8 ∧ port < s.cxpPorts ∧ (s.pst port = 4 ∨
    s.pst port = 5) ∧ (s.portLanes port).contains lane = true ∧ (s.ln lane).retrain = false) → Completes
    (.cameraLinkDown port lane) s (fun t => t.pst port = 6 ∧ t.fld (R.CXP_PORT_STATUS_LANES_UP port) = 0 ∧ t.fld
    (R.CXP_PORT_STATUS_RATE_ACT port) = 0 ∧ t.fld (R.CXP_PORT_STATUS_LAST_STS port) = 0x3001 ∧ (t.port port).outst =
    [] ∧ (t.port port).waits = [])) ∧
  -- DOWN_RETRY
  (∀ (port : Nat) (s : State), MemCanon s → s.shaped = true → (port < 8 ∧ port < s.cxpPorts ∧ s.pst port = 6 ∧
    s.portFor port 100000000 = true) → Completes (.downRetry port) s (fun t => t.pst port = 2 ∧ t.fld
    (R.CXP_CNT_RETRY_COUNT port) = min (s.fld (R.CXP_CNT_RETRY_COUNT port) + 1) (2 ^ 32 - 1))) ∧
  -- RESYNC_END
  (∀ (port : Nat) (s : State), MemCanon s → s.shaped = true → (port < 8 ∧ port < s.cxpPorts ∧ s.pst port = 5 ∧
    s.portQuiet port = true) → Completes (.resyncEnd port) s (fun t => t.pst port = 4))

/-- Control transactions of a camera port. A transaction takes the next tag, sets BUSY and leaves; a good
acknowledgement of a read gives the data and ends BUSY; a late one sets TIMEOUT. Every clause is about every state
whose memory and register file are canonical and whose tables have the device's lengths, under the conditions the
Lean names, and its conclusion is that the command answers a next state of that kind. Behind it stand the model's
own choices of log entry 1. (R244) -/
def Obligations.CameraControl : Prop :=
  -- CTRL_TRANSACTION
  (∀ (port value : Nat) (s : State), MemCanon s → s.shaped = true → (port < 8 ∧ port < s.cxpPorts ∧ s.served
    (R.CXP_CTRL_CMD port).off = true ∧ (R.CXP_CTRL_CMD_GO port).of value = 1 ∧ s.bit (R.CXP_CTRL_STATUS_BUSY port) =
    false ∧ (s.pst port = 4 ∨ s.pst port = 5)) → Completes (.ctrlTransaction port value) s (fun t => t.bit
    (R.CXP_CTRL_STATUS_BUSY port) = true ∧ (t.port port).tag = ((s.port port).tag + 1) % 256 ∧ (t.port port).ctrlWrite
    = ((R.CXP_CTRL_CMD_WRITE port).of value == 1) ∧ t.out = Out.ctrl port (s.portLane port) (s.port port).tag
    ((R.CXP_CTRL_CMD_WRITE port).of value == 1) (s.fld (R.CXP_CTRL_ADDR_ADDR port)) (s.fld (R.CXP_CTRL_DATA_DATA
    port)) :: s.out)) ∧
  -- CTRL_ACK
  (∀ (port code data : Nat) (s : State), MemCanon s → s.shaped = true → (port < 8 ∧ port < s.cxpPorts ∧ s.bit
    (R.CXP_CTRL_STATUS_BUSY port) = true) → Completes (.ctrlAck port code false data false) s (fun t => t.bit
    (R.CXP_CTRL_STATUS_BUSY port) = false ∧ t.fld (R.CXP_CTRL_STATUS_ACK port) = code % 2 ^ 16 ∧ t.fld
    (R.CXP_CTRL_DATA_DATA port) = (if (s.port port).ctrlWrite then s.fld (R.CXP_CTRL_DATA_DATA port) else data % 2 ^
    32))) ∧
  -- CTRL_ACK
  (∀ (port code : Nat) (negative bad : Bool) (data : Nat) (s : State), MemCanon s → s.shaped = true → (port < 8 ∧ port
    < s.cxpPorts ∧ s.bit (R.CXP_CTRL_STATUS_BUSY port) = true ∧ (negative = true ∨ bad = true)) → Completes (.ctrlAck
    port code negative data bad) s (fun t => t.bit (R.CXP_CTRL_STATUS_BUSY port) = false ∧ t.bit
    (R.CXP_CTRL_STATUS_ERROR port) = true ∧ t.fld (R.CXP_CTRL_DATA_DATA port) = s.fld (R.CXP_CTRL_DATA_DATA port))) ∧
  -- CTRL_TIMEOUT
  (∀ (port : Nat) (s : State), MemCanon s → s.shaped = true → (port < 8 ∧ port < s.cxpPorts ∧ s.bit
    (R.CXP_CTRL_STATUS_BUSY port) = true ∧ (s.port port).ctrlAt + 1000000 * s.fld (R.CXP_CTRL_TMO_MS port) ≤ s.now) →
    Completes (.ctrlTimeout port) s (fun t => t.bit (R.CXP_CTRL_STATUS_BUSY port) = false ∧ t.bit
    (R.CXP_CTRL_STATUS_TIMEOUT port) = true ∧ t.fld (R.CXP_PORT_STATUS_LAST_STS port) = 0x300E))

/-- Triggers of a camera port. A frame-time or soft trigger of an idle port leaves at once with the next number and is
outstanding; a delayed one leaves once MIN_PERIOD has passed; TRIG_CFG is stored; a trigger with no image in time is
retired. Every clause is about every state whose memory and register file are canonical and whose tables have the
device's lengths, under the conditions the Lean names, and its conclusion is that the command answers a next state
of that kind. Behind it stand the model's own choices of log entries 38, 41. (R242, R245, R247, R265, R261) -/
def Obligations.CameraTriggers : Prop :=
  -- FRAME_TIME_TRIGGER
  (∀ (port : Nat) (s : State), MemCanon s → s.shaped = true → (port < 8 ∧ port < s.cxpPorts ∧ s.fld
    (R.CXP_TRIG_CFG_SRC port) = 3 ∧ s.fld (R.CXP_TRIG_PERIOD_PERIOD_US port) ≠ 0 ∧ s.timeDue port = true ∧ s.pst port
    = 4 ∧ s.trigOff = false ∧ (s.port port).open_ < s.fld (R.CXP_TRIG_CFG_MAX_OUT port) ∧ (s.port port).waits = [] ∧
    (s.port port).lastAt.all (fun a => decide (a + s.fld (R.CXP_TRIG_MINP_MIN_PERIOD_NS port) ≤ s.now)) = true) →
    Completes (.frameTimeTrigger port) s (fun t => (t.port port).num = ((s.port port).num + 1) % 65536 ∧ (t.port
    port).outst.length = (s.port port).outst.length + 1 ∧ (t.port port).lastAt = some s.now ∧ t.out = Out.trigger port
    (s.portLane port) (s.port port).num s.motNow (signed 48 (s.eOf (s.camChan port))) :: s.out)) ∧
  -- SOFT_TRIGGER
  (∀ (port value : Nat) (s : State), MemCanon s → s.shaped = true → (port < 8 ∧ port < s.cxpPorts ∧ s.served
    (R.CXP_TRIG_SOFT port).off = true ∧ (R.CXP_TRIG_SOFT_GO port).of value = 1 ∧ s.fld (R.CXP_TRIG_CFG_SRC port) = 4 ∧
    s.pst port = 4 ∧ s.trigOff = false ∧ (s.port port).open_ < s.fld (R.CXP_TRIG_CFG_MAX_OUT port) ∧ (s.port
    port).waits = [] ∧ (s.port port).lastAt.all (fun a => decide (a + s.fld (R.CXP_TRIG_MINP_MIN_PERIOD_NS port) ≤
    s.now)) = true) → Completes (.softTrigger port value) s (fun t => (t.port port).num = ((s.port port).num + 1) %
    65536 ∧ (t.port port).outst.length = (s.port port).outst.length + 1 ∧ (t.port port).lastAt = some s.now ∧ t.out =
    Out.trigger port (s.portLane port) (s.port port).num s.motNow (signed 48 (s.eOf (s.camChan port))) :: s.out)) ∧
  -- DELAYED_TRIGGER
  (∀ (port : Nat) (x : Trig) (l : List Trig) (s : State), MemCanon s → s.shaped = true → (port < 8 ∧ port < s.cxpPorts
    ∧ (s.port port).waits = x :: l ∧ x.void = false ∧ s.pst port = 4 ∧ s.trigOff = false ∧ (s.port port).open_ < s.fld
    (R.CXP_TRIG_CFG_MAX_OUT port) ∧ (s.port port).lastAt.all (fun a => decide (a + s.fld
    (R.CXP_TRIG_MINP_MIN_PERIOD_NS port) ≤ s.now)) = true) → Completes (.delayedTrigger port) s (fun t => (t.port
    port).waits = l.dropWhile (·.void) ∧ (t.port port).open_ = (s.port port).open_ + 1 ∧ (t.port port).num = ((s.port
    port).num + 1) % 65536 ∧ t.out = Out.trigger port (s.portLane port) (s.port port).num s.motNow (signed 48 x.count)
    :: s.out)) ∧
  -- TRIG_CFG_WRITE
  (∀ (port value : Nat) (s : State), MemCanon s → s.shaped = true → (port < 8 ∧ port < s.cxpPorts ∧ s.served
    (R.CXP_TRIG_CFG port).off = true ∧ (R.CXP_TRIG_CFG_SRC port).of value ≤ 4 ∧ (R.CXP_TRIG_CFG_SRC port).of value ≠ 1
    ∧ (s.port port).waits = []) → Completes (.trigCfgWrite port value) s (fun t => t.fld (R.CXP_TRIG_CFG_SRC port) =
    (R.CXP_TRIG_CFG_SRC port).of value ∧ t.fld (R.CXP_TRIG_CFG_MAX_OUT port) = max 1 (min 64 ((R.CXP_TRIG_CFG_MAX_OUT
    port).of value)) ∧ t.fld (R.CXP_TRIG_CFG_DIV port) = max 1 ((R.CXP_TRIG_CFG_DIV port).of value))) ∧
  -- LINE_TIMEOUT
  (∀ (port : Nat) (s : State), MemCanon s → s.shaped = true → (port < 8 ∧ port < s.cxpPorts ∧ s.pst port = 4 ∧ s.fld
    (R.CXP_TRIG_CFG_SRC port) = 1 ∧ (s.port port).outst.head?.any (fun x => decide (x.at_ + 1000 * s.fld
    (R.CXP_WDOG_LINE_US port) ≤ s.now)) = true) → Completes (.lineTimeout port) s (fun t => (t.port port).outst = [] ∧
    t.pst port = 5 ∧ t.fld (R.CXP_PORT_STATUS_LAST_STS port) = 0x3004 ∧ s.fld (R.CXP_CNT_UNDELIV_COUNT port) ≤ t.fld
    (R.CXP_CNT_UNDELIV_COUNT port))) ∧
  -- FRAME_TIMEOUT
  (∀ (port : Nat) (s : State), MemCanon s → s.shaped = true → (port < 8 ∧ port < s.cxpPorts ∧ s.pst port = 4 ∧ s.fld
    (R.CXP_TRIG_CFG_SRC port) ≠ 1 ∧ (s.port port).outst.head?.any (fun x => decide (x.at_ + 1000000 * s.fld
    (R.CXP_WDOG_FRAME_MS port) ≤ s.now)) = true) → Completes (.frameTimeout port) s (fun t => (t.port port).outst = []
    ∧ t.pst port = 5 ∧ t.fld (R.CXP_PORT_STATUS_LAST_STS port) = 0x3005 ∧ s.fld (R.CXP_CNT_UNDELIV_COUNT port) ≤ t.fld
    (R.CXP_CNT_UNDELIV_COUNT port)))

/-- Images, pipelines and bindings. A packet outside the subset is counted as unsolicited, its symbol errors too; one
that completes a line of a line camera pairs it with the oldest trigger and sends it to the pipeline; an image
header in its subset is counted and shown; a pipeline takes its oldest waiting line, writes a complete part and its
descriptor, and takes a frame from memory; a rebind waits for the next header and is switched there; the driver's
head frees the slots it passes; a pipeline's cell is set. Every clause is about every state whose memory and
register file are canonical and whose tables have the device's lengths, under the conditions the Lean names, and its
conclusion is that the command answers a next state of that kind. Behind it stand the model's own choices of log
entries 42, 43, 44, 77. (R239, R247, R260, R264, R253, R250, R252, R268, R269, R257, R259) -/
def Obligations.CameraData : Prop :=
  -- STREAM_PACKET
  (∀ (port lane tag : Nat) (bytes : List Byte) (bad : Bool) (symErrs stream : Nat) (lost : Bool) (s : State), MemCanon
    s → s.shaped = true → (port < 8 ∧ port < s.cxpPorts ∧ (s.pst port = 4 ∨ s.pst port = 5) ∧ (s.portLanes
    port).contains lane = true ∧ stream ≠ 0) → Completes (.streamPacket port lane tag bytes bad symErrs stream lost) s
    (fun t => t.fld (R.CXP_CNT_SYM_COUNT port) = min (s.fld (R.CXP_CNT_SYM_COUNT port) + symErrs) (2 ^ 32 - 1) ∧ t.fld
    (R.CXP_CNT_UNSOL_COUNT port) = min (s.fld (R.CXP_CNT_UNSOL_COUNT port) + 1) (2 ^ 32 - 1))) ∧
  -- STREAM_PACKET
  (∀ (port lane tag : Nat) (bytes : List Byte) (g : RxImg) (x : Trig) (s : State), MemCanon s → s.shaped = true →
    (port < 8 ∧ port < s.cxpPorts ∧ s.pst port = 4 ∧ (s.portLanes port).contains lane = true ∧ (s.portLanes
    port).length = 1 ∧ s.camMute = false ∧ (s.camRec port).isSome = true ∧ s.fld (R.CXP_TRIG_CFG_SRC port) = 1 ∧
    (s.port port).img = some g ∧ g.rejected = false ∧ g.bad = false ∧ g.pipe < 4 ∧ s.bit (R.ISP_PIPE_STATUS_HELD
    g.pipe) = false ∧ (s.port port).outst.head? = some x ∧ bytes ≠ [] ∧ bytes.length ≤ 16384 ∧ g.buf.length +
    bytes.length = headLineBytes g.head) → Completes (.streamPacket port lane tag bytes false 0 0 false) s (fun t =>
    t.fld (R.CXP_CNT_LINES_COUNT port) = min (s.fld (R.CXP_CNT_LINES_COUNT port) + 1) (2 ^ 32 - 1) ∧ (t.pipe
    g.pipe).inq[(s.pipe g.pipe).inq.length]? = some (mkLine port g.head x 0 g.lines none false (g.buf ++ bytes)))) ∧
  -- IMAGE_HEADER
  (∀ (port lane tag : Nat) (head : ImgHead) (s : State), MemCanon s → s.shaped = true → (port < 8 ∧ port < s.cxpPorts
    ∧ s.pst port = 4 ∧ (s.portLanes port).contains lane = true ∧ (s.portLanes port).length = 1 ∧ head.stream = 0 ∧
    s.camMute = false ∧ s.headBad port head = none ∧ s.fld (R.CXP_TRIG_CFG_SRC port) = 1 ∧ (s.port port).img = none ∧
    (s.port port).rebind = none) → Completes (.imageHeader port lane tag head false 0) s (fun t => t.fld
    (R.CXP_HDR_SIZE_WIDTH port) = head.width % 2 ^ 16 ∧ t.fld (R.CXP_HDR_SIZE_HEIGHT port) = head.height % 2 ^ 16 ∧
    (t.port port).frames = (s.port port).frames + 1 ∧ (t.port port).img.any (fun g => g.head == head) = true)) ∧
  -- IMAGE_HEADER
  (∀ (port lane tag : Nat) (head : ImgHead) (x : Trig) (s : State), MemCanon s → s.shaped = true → (port < 8 ∧ port <
    s.cxpPorts ∧ s.pst port = 4 ∧ (s.portLanes port).contains lane = true ∧ (s.portLanes port).length = 1 ∧
    head.stream = 0 ∧ s.camMute = false ∧ s.headBad port head = none ∧ 2 ≤ s.fld (R.CXP_TRIG_CFG_SRC port) ∧ s.bit
    (R.CXP_BIND_MODE port) = false ∧ s.bit (R.ISP_PIPE_STATUS_HELD (s.fld (R.CXP_BIND_CURRENT port))) = false ∧
    (s.port port).oldest = some x ∧ (s.port port).img = none ∧ (s.port port).rebind = none) → Completes (.imageHeader
    port lane tag head false 0) s (fun t => t.fld (R.CXP_HDR_SIZE_WIDTH port) = head.width % 2 ^ 16 ∧ t.fld
    (R.CXP_HDR_SIZE_HEIGHT port) = head.height % 2 ^ 16 ∧ (t.port port).frames = (s.port port).frames + 1 ∧ (t.port
    port).img.any (fun g => g.head == head && g.trig == some { x with taken := true }) = true)) ∧
  -- PIPELINE_LINE
  (∀ (pipe : Nat) (s : State), MemCanon s → s.shaped = true → (pipe < 4 ∧ (s.ispRec pipe).isSome = true ∧ (s.pipe
    pipe).inq ≠ [] ∧ s.pipeFree pipe = true) → Completes (.pipelineLine pipe) s (fun t => (t.pipe pipe).inq = (s.pipe
    pipe).inq.tail)) ∧
  -- PART_IMAGE_COMPLETE
  (∀ (pipe : Nat) (q : PartImg) (s : State), MemCanon s → s.shaped = true → (pipe < 4 ∧ (s.ispRec pipe).isSome = true
    ∧ (s.pipe pipe).parts.find? (s.partDone pipe) = some q) → Completes (.partImageComplete pipe) s (fun t => (t.pipe
    pipe).parts.map (·.slot) = ((s.pipe pipe).parts.map (·.slot)).filter (fun i => i != q.slot) ∧ ((t.fld
    (R.ISP_OUT_TAIL_TAIL pipe) = (s.fld (R.ISP_OUT_TAIL_TAIL pipe) + 1) % 2048 ∧ t.fld (R.ISP_CNT_PARTS_COUNT pipe) =
    min (s.fld (R.ISP_CNT_PARTS_COUNT pipe) + 1) (2 ^ 32 - 1)) ∨ (t.fld (R.ISP_PIPE_STATUS_LAST_STS pipe) = 0x3103 ∧
    (t.pipe pipe).uses.all (fun u => u.slot != q.slot) = true)))) ∧
  -- THROUGH_MEMORY_FRAME
  (∀ (pipe : Nat) (s : State), MemCanon s → s.shaped = true → (pipe < 4 ∧ (s.ispRec pipe).isSome = true ∧ (List.range
    8).any (fun p => (s.port p).fbs.any (fun f => f.whole && f.pipe == pipe)) = true ∧ s.pipeFree pipe = true) →
    Completes (.throughMemoryFrame pipe) s (fun t => t.fld (R.ISP_CNT_TM_FRAMES_COUNT pipe) = min (s.fld
    (R.ISP_CNT_TM_FRAMES_COUNT pipe) + 1) (2 ^ 32 - 1) ∧ (∃ p ∈ List.range 8, ∃ f ∈ (s.port p).fbs, f.whole = true ∧
    f.pipe = pipe ∧ (t.port p).fbs = (s.port p).fbs.filter (fun g => g.slot != f.slot)))) ∧
  -- REBIND_REQUEST
  (∀ (port value : Nat) (s : State), MemCanon s → s.shaped = true → (port < 8 ∧ port < s.cxpPorts ∧ s.served
    (R.CXP_BIND port).off = true ∧ (R.CXP_BIND_GO port).of value = 1 ∧ s.bit (R.CXP_BIND_MODE port) = true ∧ (s.camRec
    port).any (fun r => r.alt.testBit ((R.CXP_BIND_NEXT port).of value)) = true) → Completes (.rebindRequest port
    value) s (fun t => (t.port port).rebind = some ((R.CXP_BIND_NEXT port).of value) ∧ t.bit (R.CXP_BIND_PENDING port)
    = true)) ∧
  -- REBIND_SWITCH
  (∀ (port : Nat) (s : State), MemCanon s → s.shaped = true → (port < 8 ∧ port < s.cxpPorts ∧ (s.port
    port).rebind.isSome = true ∧ s.bit (R.CXP_BIND_MODE port) = true) → Completes (.rebindSwitch port) s (fun t =>
    (t.port port).rebind = none ∧ t.bit (R.CXP_BIND_PENDING port) = false ∧ t.fld (R.CXP_BIND_CURRENT port) = ((s.port
    port).rebind.getD 0) % 4)) ∧
  -- OUT_HEAD_WRITE
  (∀ (pipe value : Nat) (s : State), MemCanon s → s.shaped = true → (pipe < 4 ∧ s.served (R.ISP_OUT_HEAD pipe).off =
    true) → Completes (.outHeadWrite pipe value) s (fun t => t.fld (R.ISP_OUT_HEAD_HEAD pipe) = value % 2048 ∧ (t.pipe
    pipe).parts = (s.pipe pipe).parts)) ∧
  -- PIPE_CELL_WRITE
  (∀ (pipe value : Nat) (s : State), MemCanon s → s.shaped = true → (pipe < 4 ∧ s.served (R.ISP_PIPE_CELL pipe).off =
    true ∧ (s.img.active.bind (·.sync? ((R.ISP_PIPE_CELL_CELL pipe).of value))).any (fun c => c.units.testBit 3) =
    true) → Completes (.pipeCellWrite pipe value) s (fun t => t.rd (R.ISP_PIPE_CELL pipe) = BitVec.ofNat 32 (value &&&
    (R.ISP_PIPE_CELL pipe).rw)))

/-- Lane commands of the driver. For a lane the driver owns, in a mode whose ceiling allows it and with the
synthesiser it needs locked: L0, L1, L2 and OFF move the transmit state, WAKE leaves as a wake, PRBS_ON and PRBS_OFF
turn the generator on and off; LANE_RX_CMD moves the receive state; LOOP and PRBS are stored, and enabling the
checker clears its counters. Every clause is about every state whose memory and register file are canonical and
whose tables have the device's lengths, under the conditions the Lean names, and its conclusion is that the command
answers a next state of that kind. Behind it stand the model's own choices of log entry 47. (R369, R372, R374, R375)
-/
def Obligations.LaneCommands : Prop :=
  -- TX_L0
  (∀ (lane : Nat) (s : State), MemCanon s → s.shaped = true → (lane < 24 ∧ s.served (R.LANE_TX_CMD lane).off = true ∧
    s.bit (R.LANE_STATUS_OWNED lane) = false ∧ s.laneDown lane = false ∧ s.synth (quadOf lane) = 3 ∧ (s.ln lane).held
    = none ∧ s.ceiling 0 = true) → Completes (.txL0 lane) s (fun t => t.fld (R.LANE_STATUS_TX_STATE lane) = 0 ∧ t.fld
    (R.LANE_CNT_WAKE_COUNT lane) = (if s.txOf lane = 1 ∨ s.txOf lane = 2 then min (s.fld (R.LANE_CNT_WAKE_COUNT lane)
    + 1) (2 ^ 32 - 1) else s.fld (R.LANE_CNT_WAKE_COUNT lane)))) ∧
  -- TX_L0
  (∀ (lane : Nat) (s : State), MemCanon s → s.shaped = true → (lane < 24 ∧ s.served (R.LANE_TX_CMD lane).off = true ∧
    s.bit (R.LANE_STATUS_OWNED lane) = false ∧ s.laneDown lane = false ∧ s.synth (quadOf lane) ≠ 3 ∧ (s.ln lane).held
    = none ∧ s.ceiling 0 = true) → Completes (.txL0 lane) s (fun t => (t.ln lane).held = some (0, s.now) ∧ t.bit
    (R.LANE_STATUS_HELD lane) = true ∧ t.fld (R.LANE_STATUS_TX_STATE lane) = s.fld (R.LANE_STATUS_TX_STATE lane) ∧
    t.synth (quadOf lane) = (if s.synth (quadOf lane) = 0 then 1 else s.synth (quadOf lane)))) ∧
  -- TX_L1
  (∀ (lane : Nat) (s : State), MemCanon s → s.shaped = true → (lane < 24 ∧ s.served (R.LANE_TX_CMD lane).off = true ∧
    s.bit (R.LANE_STATUS_OWNED lane) = false ∧ s.laneDown lane = false ∧ s.synth (quadOf lane) = 3 ∧ (s.ln lane).held
    = none ∧ s.ceiling 1 = true) → Completes (.txL1 lane) s (fun t => t.fld (R.LANE_STATUS_TX_STATE lane) = 1)) ∧
  -- TX_L2
  (∀ (lane : Nat) (s : State), MemCanon s → s.shaped = true → (lane < 24 ∧ s.served (R.LANE_TX_CMD lane).off = true ∧
    s.bit (R.LANE_STATUS_OWNED lane) = false ∧ s.laneDown lane = false ∧ s.ceiling 2 = true) → Completes (.txL2 lane)
    s (fun t => t.fld (R.LANE_STATUS_TX_STATE lane) = 2 ∧ (t.ln lane).gen = false)) ∧
  -- TX_OFF
  (∀ (lane : Nat) (s : State), MemCanon s → s.shaped = true → (lane < 24 ∧ s.served (R.LANE_TX_CMD lane).off = true ∧
    s.bit (R.LANE_STATUS_OWNED lane) = false ∧ s.laneDown lane = false ∧ s.ceiling 3 = true) → Completes (.txOff lane)
    s (fun t => t.fld (R.LANE_STATUS_TX_STATE lane) = 3 ∧ (t.ln lane).gen = false ∧ (t.ln lane).held = none)) ∧
  -- TX_WAKE
  (∀ (lane : Nat) (s : State), MemCanon s → s.shaped = true → (lane < 24 ∧ s.served (R.LANE_TX_CMD lane).off = true ∧
    s.bit (R.LANE_STATUS_OWNED lane) = false ∧ s.laneDown lane = false ∧ s.synth (quadOf lane) = 3 ∧ (s.ln lane).held
    = none) → Completes (.txWake lane) s (fun t => t.out = Out.lane lane 4 :: s.out)) ∧
  -- PRBS_ON
  (∀ (lane : Nat) (s : State), MemCanon s → s.shaped = true → (lane < 24 ∧ s.served (R.LANE_TX_CMD lane).off = true ∧
    s.bit (R.LANE_STATUS_OWNED lane) = false ∧ s.laneDown lane = false ∧ s.synth (quadOf lane) = 3 ∧ (s.ln lane).held
    = none) → Completes (.prbsOn lane) s (fun t => (t.ln lane).gen = true ∧ t.out = Out.lane lane (8 + s.fld
    (R.LANE_PRBS_GEN_SEL lane)) :: s.out)) ∧
  -- PRBS_OFF
  (∀ (lane : Nat) (s : State), MemCanon s → s.shaped = true → (lane < 24 ∧ s.served (R.LANE_TX_CMD lane).off = true ∧
    s.bit (R.LANE_STATUS_OWNED lane) = false ∧ s.laneDown lane = false) → Completes (.prbsOff lane) s (fun t => (t.ln
    lane).gen = false ∧ t.out = Out.lane lane 6 :: s.out)) ∧
  -- RX_STATE_COMMAND
  (∀ (lane value : Nat) (s : State), MemCanon s → s.shaped = true → (lane < 24 ∧ s.served (R.LANE_RX_CMD lane).off =
    true ∧ s.bit (R.LANE_STATUS_OWNED lane) = false ∧ s.laneDown lane = false ∧ (R.LANE_RX_CMD_GO lane).of value = 1 ∧
    s.ceiling ((R.LANE_RX_CMD_STATE lane).of value) = true) → Completes (.rxStateCommand lane value) s (fun t =>
    t.rxOf lane = (R.LANE_RX_CMD_STATE lane).of value ∧ (t.rxOf lane ≠ s.rxOf lane → t.bit (R.LANE_STATUS_ALIGNED
    lane) = false))) ∧
  -- LOOP_WRITE
  (∀ (lane value : Nat) (s : State), MemCanon s → s.shaped = true → (lane < 24 ∧ s.served (R.LANE_CFG lane).off = true
    ∧ s.bit (R.LANE_STATUS_OWNED lane) = false ∧ s.laneDown lane = false ∧ (R.LANE_CFG_LOOP lane).of value ≤ 2) →
    Completes (.loopWrite lane value) s (fun t => t.fld (R.LANE_CFG_LOOP lane) = (R.LANE_CFG_LOOP lane).of value ∧
    t.bit (R.LANE_STATUS_CDR_LOCK lane) = false)) ∧
  -- PRBS_CHECKER_ENABLE
  (∀ (lane value : Nat) (s : State), MemCanon s → s.shaped = true → (lane < 24 ∧ s.served (R.LANE_PRBS lane).off =
    true ∧ (R.LANE_PRBS_CHK_EN lane).of value = 1) → Completes (.prbsCheckerEnable lane value) s (fun t => t.rd
    (R.LANE_PRBS lane) = BitVec.ofNat 32 (value &&& (R.LANE_PRBS lane).rw) ∧ t.fld (R.LANE_PRBS_ERR_ERR lane) = 0 ∧
    t.fld (R.LANE_PRBS_BITS_LO_BITS_LO lane) = 0 ∧ t.fld (R.LANE_PRBS_BITS_HI_BITS_HI lane) = 0))

/-- Lane and synthesiser events. Calibration and lock move a synthesiser on, and a lock carries out the commands held
for it; a held command that waits too long is dropped and counted; a direction that relocks within its guard is
aligned and counts a wake; past the guard the lane trains again, and at the end of that it is aligned, or its port
goes DOWN; a loss of signal is counted and unlocks the lane. Every clause is about every state whose memory and
register file are canonical and whose tables have the device's lengths, under the conditions the Lean names, and its
conclusion is that the command answers a next state of that kind. Behind it stand the model's own choices of log
entry 47. (R366, R369, R370, R371, R372) -/
def Obligations.LaneEvents : Prop :=
  -- SYNTH_CAL_DONE
  (∀ (quad : Nat) (s : State), MemCanon s → s.shaped = true → (s.synth quad = 1 ∧ quad < 6) → Completes (.synthCalDone
    quad true) s (fun t => t.synth quad = 2)) ∧
  -- SYNTH_CAL_DONE
  (∀ (quad : Nat) (s : State), MemCanon s → s.shaped = true → (s.synth quad = 1 ∧ quad < 6) → Completes (.synthCalDone
    quad false) s (fun t => t.synth quad = 0 ∧ t.fld (R.LANE_STATUS_LAST_STS (4 * quad)) = 0x7006)) ∧
  -- SYNTH_LOCKED
  (∀ (quad : Nat) (s : State), MemCanon s → s.shaped = true → (s.synth quad = 2 ∧ quad < 6 ∧ (quadLanes quad).all (fun
    l => (s.ln l).held.all (fun c => needsSynth c.1 && decide (s.now ≤ s.heldDue l c))) = true) → Completes
    (.synthLocked quad true) s (fun t => t.synth quad = 3 ∧ (quadLanes quad).all (fun l => (t.ln l).held.isNone) =
    true)) ∧
  -- SYNTH_LOCKED
  (∀ (quad : Nat) (s : State), MemCanon s → s.shaped = true → (s.synth quad = 2 ∧ quad < 6) → Completes (.synthLocked
    quad false) s (fun t => t.synth quad = 0 ∧ t.fld (R.LANE_STATUS_LAST_STS (4 * quad)) = 0x7006)) ∧
  -- HELD_COMMAND_TIMEOUT
  (∀ (lane : Nat) (s : State), MemCanon s → s.shaped = true → (lane < 24 ∧ (s.ln lane).held.any (fun c => decide
    (s.heldDue lane c ≤ s.now)) = true) → Completes (.heldCommandTimeout lane) s (fun t => (t.ln lane).held = none ∧
    t.bit (R.LANE_STATUS_HELD lane) = false ∧ t.fld (R.LANE_CNT_TXFAIL_COUNT lane) = min (s.fld
    (R.LANE_CNT_TXFAIL_COUNT lane) + 1) (2 ^ 32 - 1) ∧ t.fld (R.LANE_STATUS_LAST_STS lane) = 0x7002)) ∧
  -- FAST_RELOCK
  (∀ (lane : Nat) (s : State), MemCanon s → s.shaped = true → (lane < 24 ∧ s.laneHere lane = true ∧ s.rxOf lane = 0 ∧
    (s.ln lane).retrain = false ∧ (s.ln lane).guardAt.any (fun d => decide (s.now ≤ d)) = true) → Completes
    (.fastRelock lane) s (fun t => t.bit (R.LANE_STATUS_ALIGNED lane) = true ∧ t.bit (R.LANE_STATUS_CDR_LOCK lane) =
    true ∧ (t.ln lane).guardAt = none ∧ t.fld (R.LANE_CNT_WAKE_COUNT lane) = min (s.fld (R.LANE_CNT_WAKE_COUNT lane) +
    1) (2 ^ 32 - 1))) ∧
  -- FAST_RELOCK
  (∀ (lane : Nat) (s : State), MemCanon s → s.shaped = true → (lane < 24 ∧ s.laneHere lane = true ∧ s.rxOf lane = 0 ∧
    (s.ln lane).retrain = false ∧ (s.ln lane).guardAt = none) → Completes (.fastRelock lane) s (fun t => t.bit
    (R.LANE_STATUS_ALIGNED lane) = true ∧ t.bit (R.LANE_STATUS_CDR_LOCK lane) = true ∧ t.fld (R.LANE_CNT_WAKE_COUNT
    lane) = s.fld (R.LANE_CNT_WAKE_COUNT lane))) ∧
  -- WAKE_GUARD_EXPIRY
  (∀ (lane : Nat) (s : State), MemCanon s → s.shaped = true → (lane < 24 ∧ (s.ln lane).guardAt.any (fun d => decide (d
    ≤ s.now)) = true) → Completes (.wakeGuardExpiry lane) s (fun t => t.fld (R.LANE_CNT_GUARD_COUNT lane) = min (s.fld
    (R.LANE_CNT_GUARD_COUNT lane) + 1) (2 ^ 32 - 1) ∧ t.fld (R.LANE_CNT_RETRAIN_COUNT lane) = min (s.fld
    (R.LANE_CNT_RETRAIN_COUNT lane) + 1) (2 ^ 32 - 1) ∧ (t.ln lane).retrain = decide (lane < 16) ∧ (t.ln lane).guardAt
    = none ∧ t.fld (R.LANE_STATUS_LAST_STS lane) = 0x7001)) ∧
  -- RETRAIN_COMPLETE
  (∀ (lane : Nat) (s : State), MemCanon s → s.shaped = true → (lane < 24 ∧ (s.ln lane).retrain = true) → Completes
    (.retrainComplete lane true) s (fun t => (t.ln lane).retrain = false ∧ t.bit (R.LANE_STATUS_ALIGNED lane) = true ∧
    t.fld (R.LANE_CNT_WAKE_COUNT lane) = min (s.fld (R.LANE_CNT_WAKE_COUNT lane) + 1) (2 ^ 32 - 1))) ∧
  -- RETRAIN_COMPLETE
  (∀ (lane port : Nat) (s : State), MemCanon s → s.shaped = true → (lane < 24 ∧ (s.ln lane).retrain = true ∧
    s.laneOwner lane = some port ∧ (s.pst port = 4 ∨ s.pst port = 5)) → Completes (.retrainComplete lane false) s (fun
    t => (t.ln lane).retrain = false ∧ t.pst port = 6 ∧ t.fld (R.CXP_PORT_STATUS_LAST_STS port) = 0x3001)) ∧
  -- LOSS_OF_SIGNAL
  (∀ (lane : Nat) (s : State), MemCanon s → s.shaped = true → (lane < 24 ∧ s.laneHere lane = true ∧ s.rxOf lane = 0) →
    Completes (.lossOfSignal lane) s (fun t => t.fld (R.LANE_CNT_LOS_COUNT lane) = min (s.fld (R.LANE_CNT_LOS_COUNT
    lane) + 1) (2 ^ 32 - 1) ∧ t.bit (R.LANE_STATUS_SIG_DET lane) = false ∧ t.bit (R.LANE_STATUS_CDR_LOCK lane) =
    false))

/-- Ring enable, links and the retry buffer. Enabling the ring takes it to state 1 with its lanes owned, and disabling
it to 0; a trained link is up with four lanes, a failed one waits and trains again; an acknowledgement takes frames
from the retry buffer, a NAK or a late acknowledgement replays them; an idle direction sleeps; a lost link trains
again, and in a complete or degraded ring the ring recovers; a link that does not come back makes the topology of
the positions that remain. Every clause is about every state whose memory and register file are canonical and whose
tables have the device's lengths, under the conditions the Lean names, and its conclusion is that the command
answers a next state of that kind. Behind it stand the model's own choices of log entries 48, 49. (R376, R378, R381,
R382, R388, R390) -/
def Obligations.RingLinks : Prop :=
  -- RING_ENABLE
  (∀ (value : Nat) (s : State), MemCanon s → s.shaped = true → (s.served R.RING_CTRL.off = true ∧ value % 8 = 0 ∧
    s.fld R.RING_CTRL_EN = 1 ∧ (s.rd R.RING_CTRL).toNat < 2 ∧ s.link 0 ≠ 4 ∧ s.link 1 ≠ 4) → Completes (.ringEnable
    value) s (fun t => t.rst = 0 ∧ t.link 0 = 0 ∧ t.link 1 = 0 ∧ t.bit R.RING_STATUS_MASTER = false)) ∧
  -- RING_ENABLE
  (∀ (value : Nat) (s : State), MemCanon s → s.shaped = true → (s.served R.RING_CTRL.off = true ∧ value &&&
    R.RING_CTRL.rw = 1 ∧ (s.rd R.RING_CTRL).toNat = 0 ∧ s.ringRec.isSome = true) → Completes (.ringEnable value) s
    (fun t => t.rst = 1 ∧ t.rd R.RING_CTRL = 1)) ∧
  -- RING_TEST
  (∀ (value : Nat) (s : State), MemCanon s → s.shaped = true → (s.served R.RING_CTRL.off = true ∧ value &&&
    R.RING_CTRL.rw = 3 ∧ s.fld R.RING_CTRL_EN = 1 ∧ (s.rd R.RING_CTRL).toNat < 2 ∧ s.linkUp 0 = false) → Completes
    (.ringTest value) s (fun t => t.link 0 = 4 ∧ t.rd R.RING_CTRL = 3)) ∧
  -- LINK_TRAINING_DONE
  (∀ (side : Nat) (how : TrainEnd) (s : State), MemCanon s → s.shaped = true → (side < 2 ∧ s.link side = 1 ∧ (how
    matches .up _) = false) → Completes (.linkTrainingDone side how) s (fun t => t.link side = 0 ∧ (t.side
    side).failedAt = some s.now)) ∧
  -- LINK_TRAINING_DONE
  (∀ (side inv : Nat) (s : State), MemCanon s → s.shaped = true → (side < 2 ∧ s.link side = 1 ∧ s.bit
    R.PWR_RELAY_RING_POS = true) → Completes (.linkTrainingDone side (.up inv)) s (fun t => t.link side = 2 ∧ t.fld
    (R.RING_SIDE_STATUS_LANES_UP side) = 15 ∧ (sideLanes side).all (fun l => t.bit (R.LANE_STATUS_ALIGNED l)) = true))
    ∧
  -- TRAIN_RETRY
  (∀ (side : Nat) (s : State), MemCanon s → s.shaped = true → (side < 2 ∧ (s.side side).failedAt.any (fun t => decide
    (t + 10000000 ≤ s.now)) = true ∧ s.link side = 0) → Completes (.trainRetry side) s (fun t => t.link side = 1 ∧
    t.fld (R.RING_SIDE_TRAIN_COUNT side) = min (s.fld (R.RING_SIDE_TRAIN_COUNT side) + 1) (2 ^ 32 - 1))) ∧
  -- ACK
  (∀ (side ackSeq n : Nat) (s : State), MemCanon s → s.shaped = true → (side < 2 ∧ s.linkUp side = true ∧ (s.side
    side).wait = [] ∧ (ackSeq + 4096 - ((s.side side).next + 4096 - (s.side side).buf.length) % 4096) % 4096 = n ∧ n ≤
    (s.side side).buf.length ∧ s.ring.owed = []) → Completes (.ack side ackSeq) s (fun t => (t.side side).buf =
    (s.side side).buf.drop n)) ∧
  -- NAK
  (∀ (side seq n : Nat) (s : State), MemCanon s → s.shaped = true → (side < 2 ∧ s.linkUp side = true ∧ (s.side
    side).wait = [] ∧ (seq + 4096 - ((s.side side).next + 4096 - (s.side side).buf.length) % 4096) % 4096 = n ∧ n <
    (s.side side).buf.length ∧ s.ring.owed = [] ∧ ((s.side side).buf.drop n).head?.any (fun e => decide (e.replays <
    (s.side side).retryMax)) = true) → Completes (.nak side seq) s (fun t => (t.side side).buf.map (·.seq) = ((s.side
    side).buf.drop n).map (·.seq) ∧ (t.side side).buf.all (fun e => e.lastAt == s.now) = true ∧ t.fld
    (R.RING_SIDE_NAK_RETRY_COUNT side) = min (s.fld (R.RING_SIDE_NAK_RETRY_COUNT side) + 1) (2 ^ 32 - 1) ∧
    t.out.length = s.out.length + ((s.side side).buf.length - n))) ∧
  -- ACK_TIMEOUT
  (∀ (side : Nat) (s : State), MemCanon s → s.shaped = true → (side < 2 ∧ s.linkUp side = true ∧ (s.side
    side).buf.head?.any (fun e => decide (e.lastAt + (s.side side).ackTmo ≤ s.now ∧ e.replays < (s.side
    side).retryMax)) = true) → Completes (.ackTimeout side) s (fun t => t.fld (R.RING_SIDE_TMO_RETRY_COUNT side) = min
    (s.fld (R.RING_SIDE_TMO_RETRY_COUNT side) + 1) (2 ^ 32 - 1) ∧ t.out.length = s.out.length + (s.side
    side).buf.length ∧ (t.side side).buf.all (fun e => e.lastAt == s.now) = true)) ∧
  -- LINK_SLEEP
  (∀ (side : Nat) (s : State), MemCanon s → s.shaped = true → (side < 2 ∧ s.linkUp side = true ∧ (s.side side).txSleep
    = false ∧ (s.side side).buf = [] ∧ (s.side side).wait = [] ∧ s.fld R.RING_LINK_CFG_SLEEP_US ≠ 0 ∧ (s.side
    side).idleAt + 1000 * s.fld R.RING_LINK_CFG_SLEEP_US ≤ s.now) → Completes (.linkSleep side) s (fun t => t.link
    side = 3 ∧ (t.side side).txSleep = true ∧ t.fld R.SYS_REPRO_STATUS_T_LINK_SLEEP = 1)) ∧
  -- RING_LINK_DOWN
  (∀ (side : Nat) (s : State), MemCanon s → s.shaped = true → (side < 2 ∧ s.hasRing = true ∧ s.linkUp side = true ∧
    s.rst ≠ 4 ∧ s.rst ≠ 5) → Completes (.ringLinkDown side none) s (fun t => t.link side = 1 ∧ (t.side side).lostAt =
    some s.now ∧ t.rst = s.rst)) ∧
  -- RING_LINK_DOWN
  (∀ (side : Nat) (s : State), MemCanon s → s.shaped = true → (side < 2 ∧ s.hasRing = true ∧ s.linkUp side = true ∧
    (s.rst = 4 ∨ s.rst = 5)) → Completes (.ringLinkDown side none) s (fun t => t.link side = 1 ∧ (t.side side).lostAt
    = some s.now ∧ t.rst = 6 ∧ t.ring.stop = true)) ∧
  -- RING_LINK_DOWN
  (∀ (side : Nat) (h : RingHead) (s : State), MemCanon s → s.shaped = true → (side < 2 ∧ s.hasRing = true ∧ s.linkUp
    side = true ∧ (s.side side).rxSleep = false ∧ h.crcOk = true ∧ h.ack = none ∧ h.seq = (s.side side).expect ∧ h.src
    ≠ s.rpos ∧ (s.rst = 4 ∨ s.rst = 5)) → Completes (.ringLinkDown side (some h)) s (fun t => t.rst = 6 ∧ t.ring.stop
    = true ∧ (t.side side).cut = some (h.src, s.now))) ∧
  -- LINK_TMO_EXPIRY
  (∀ (side present : Nat) (s : State), MemCanon s → s.shaped = true → (side < 2 ∧ (if s.linkUp side then (s.side
    side).cut.map (·.2) else (s.side side).lostAt).any (fun t => decide (t + 1000000 * s.fld R.RING_TMO_LINK_TMO_MS ≤
    s.now)) = true ∧ (s.rst = 2 ∨ s.rst = 6) ∧ lowPos (present % 256 ||| 2 ^ s.rpos) = s.rpos) → Completes
    (.linkTmoExpiry side present) s (fun t => (t.side side).lostAt = none ∧ t.bit R.RING_STATUS_MASTER = true ∧ t.fld
    R.RING_TOPO_MASTER_POS = s.rpos % 8 ∧ t.ring.cur = some { topo := some (present % 256 ||| 2 ^ s.rpos) })) ∧
  -- LINK_TMO_EXPIRY
  (∀ (side present : Nat) (s : State), MemCanon s → s.shaped = true → (side < 2 ∧ (if s.linkUp side then (s.side
    side).cut.map (·.2) else (s.side side).lostAt).any (fun t => decide (t + 1000000 * s.fld R.RING_TMO_LINK_TMO_MS ≤
    s.now)) = true ∧ (s.rst = 2 ∨ s.rst = 6) ∧ lowPos (present % 256 ||| 2 ^ s.rpos) ≠ s.rpos) → Completes
    (.linkTmoExpiry side present) s (fun t => (t.side side).lostAt = none ∧ t.ring.cur = s.ring.cur))

/-- Ring frames and changes. A good frame in sequence is acknowledged and counted; then DATA for this module is
delivered, DISCOVER goes on with this module's values, QUIESCE stops injection and goes on, QUIESCED waits for the
buffers, SWITCH applies the next epoch's layout and topology, a layout request is answered by the master and its
refusal ends the change; a request for a layout is sent to the master, or taken by it; an abandoned quiescence is
reported and a topology change is tried again. Every clause is about every state whose memory and register file are
canonical and whose tables have the device's lengths, under the conditions the Lean names, and its conclusion is
that the command answers a next state of that kind. Behind it stand the model's own choices of log entries 48, 49.
(R378, R380, R383, R385, R386, R387) -/
def Obligations.RingFrames : Prop :=
  -- RING_FRAME
  (∀ (side : Nat) (h : RingHead) (payload : List Byte) (s : State), MemCanon s → s.shaped = true → (side < 2 ∧
    s.hasRing = true ∧ s.linkUp side = true ∧ (s.side side).rxSleep = false ∧ h.crcOk = true ∧ h.ack = none ∧ h.seq =
    (s.side side).expect ∧ h.epoch = s.fld R.RING_TOPO_EPOCH ∧ h.dst = s.rpos ∧ h.src ≠ s.rpos ∧ h.endpoint / 4096 ≠
    0xB ∧ h.e2e = Sparse.get s.ring.e2eRx (h.src * 4 + h.vc) 0 ∧ h.e2e < 65536) → Completes (.ringFrame side h
    payload) s (fun t => (t.side side).expect = ((s.side side).expect + 1) % 4096 ∧ t.fld (R.RING_SIDE_FRAMES_RX_COUNT
    side) = min (s.fld (R.RING_SIDE_FRAMES_RX_COUNT side) + 1) (2 ^ 32 - 1) ∧ Out.mesh h.endpoint h.src h.vc payload ∈
    t.out)) ∧
  -- RING_DISCOVER
  (∀ (side : Nat) (h : RingHead) (members : List RingMember) (s : State), MemCanon s → s.shaped = true → (side < 2 ∧
    s.hasRing = true ∧ s.linkUp side = true ∧ (s.side side).rxSleep = false ∧ h.crcOk = true ∧ h.ack = none ∧ h.seq =
    (s.side side).expect ∧ h.src ≠ s.rpos) → Completes (.ringDiscover side h members) s (fun t => (t.side side).expect
    = ((s.side side).expect + 1) % 4096 ∧ t.fld (R.RING_SIDE_FRAMES_RX_COUNT side) = min (s.fld
    (R.RING_SIDE_FRAMES_RX_COUNT side) + 1) (2 ^ 32 - 1) ∧ ((t.side 1).wait ++ (t.side 1).buf.map (·.frame)).any (fun
    f => f.op == 1 && f.src == h.src && f.members.length == members.length + 1 && f.members.take members.length ==
    members) = true)) ∧
  -- QUIESCE
  (∀ (side : Nat) (h : RingHead) (s : State), MemCanon s → s.shaped = true → (side < 2 ∧ s.hasRing = true ∧ s.linkUp
    side = true ∧ (s.side side).rxSleep = false ∧ h.crcOk = true ∧ h.ack = none ∧ h.seq = (s.side side).expect ∧ h.src
    ≠ s.rpos) → Completes (.quiesce side h) s (fun t => (t.side side).expect = ((s.side side).expect + 1) % 4096 ∧
    t.fld (R.RING_SIDE_FRAMES_RX_COUNT side) = min (s.fld (R.RING_SIDE_FRAMES_RX_COUNT side) + 1) (2 ^ 32 - 1) ∧
    t.ring.stop = true ∧ [0, 1].any (fun w => ((t.side w).wait ++ (t.side w).buf.map (·.frame)).any (fun f => f.op ==
    2 && f.src == h.src)) = true)) ∧
  -- QUIESCED
  (∀ (side : Nat) (h : RingHead) (s : State), MemCanon s → s.shaped = true → (side < 2 ∧ s.hasRing = true ∧ s.linkUp
    side = true ∧ (s.side side).rxSleep = false ∧ h.crcOk = true ∧ h.ack = none ∧ h.seq = (s.side side).expect ∧ h.src
    ≠ s.rpos) → Completes (.quiesced side h) s (fun t => (t.side side).expect = ((s.side side).expect + 1) % 4096 ∧
    t.fld (R.RING_SIDE_FRAMES_RX_COUNT side) = min (s.fld (R.RING_SIDE_FRAMES_RX_COUNT side) + 1) (2 ^ 32 - 1) ∧ t.fld
    R.RING_TOPO_MASTER_POS = h.src % 8)) ∧
  -- SWITCH
  (∀ (side : Nat) (h : RingHead) (layout present epoch : Nat) (s : State), MemCanon s → s.shaped = true → (side < 2 ∧
    s.hasRing = true ∧ s.linkUp side = true ∧ (s.side side).rxSleep = false ∧ h.crcOk = true ∧ h.ack = none ∧ h.seq =
    (s.side side).expect ∧ h.src ≠ s.rpos ∧ epoch % 256 = (s.fld R.RING_TOPO_EPOCH + 1) % 256) → Completes (.switch
    side h layout present epoch) s (fun t => (t.side side).expect = ((s.side side).expect + 1) % 4096 ∧ t.fld
    (R.RING_SIDE_FRAMES_RX_COUNT side) = min (s.fld (R.RING_SIDE_FRAMES_RX_COUNT side) + 1) (2 ^ 32 - 1) ∧ t.fld
    R.RING_TOPO_EPOCH = epoch % 256 ∧ t.fld R.RING_TOPO_PRESENT = present % 256 ∧ t.fld R.RING_LAYOUT_CURRENT = layout
    % 8 ∧ t.fld R.RING_TOPO_MASTER_POS = lowPos present % 8)) ∧
  -- LAYOUT_REQ
  (∀ (side : Nat) (h : RingHead) (layout : Nat) (s : State), MemCanon s → s.shaped = true → (side < 2 ∧ s.hasRing =
    true ∧ s.linkUp side = true ∧ (s.side side).rxSleep = false ∧ h.crcOk = true ∧ h.ack = none ∧ h.seq = (s.side
    side).expect ∧ h.dst = s.rpos ∧ s.bit R.RING_STATUS_MASTER = false) → Completes (.layoutReq side h layout) s (fun
    t => (t.side side).expect = ((s.side side).expect + 1) % 4096 ∧ t.fld (R.RING_SIDE_FRAMES_RX_COUNT side) = min
    (s.fld (R.RING_SIDE_FRAMES_RX_COUNT side) + 1) (2 ^ 32 - 1) ∧ [0, 1].any (fun w => ((t.side w).wait ++ (t.side
    w).buf.map (·.frame)).any (fun f => f.op == 7 && f.dst == h.src && f.info == [0])) = true)) ∧
  -- LAYOUT_REQ
  (∀ (side : Nat) (h : RingHead) (layout : Nat) (s : State), MemCanon s → s.shaped = true → (side < 2 ∧ s.hasRing =
    true ∧ s.linkUp side = true ∧ (s.side side).rxSleep = false ∧ h.crcOk = true ∧ h.ack = none ∧ h.seq = (s.side
    side).expect ∧ h.dst = s.rpos ∧ s.bit R.RING_STATUS_MASTER = true ∧ s.ring.queue = []) → Completes (.layoutReq
    side h layout) s (fun t => (t.side side).expect = ((s.side side).expect + 1) % 4096 ∧ (t.ring.cur = some
    { layout := some (layout, h.src) } ∨ t.ring.queue = [{ layout := some (layout, h.src) }]) ∧ [0, 1].any (fun w =>
    ((t.side w).wait ++ (t.side w).buf.map (·.frame)).any (fun f => f.op == 7 && f.dst == h.src && f.info == [1])) =
    true)) ∧
  -- LAYOUT_ANS
  (∀ (side : Nat) (h : RingHead) (s : State), MemCanon s → s.shaped = true → (side < 2 ∧ s.hasRing = true ∧ s.linkUp
    side = true ∧ (s.side side).rxSleep = false ∧ h.crcOk = true ∧ h.ack = none ∧ h.seq = (s.side side).expect ∧ h.dst
    = s.rpos ∧ s.bit R.RING_LAYOUT_BUSY = true) → Completes (.layoutAns side h false) s (fun t => (t.side side).expect
    = ((s.side side).expect + 1) % 4096 ∧ t.fld (R.RING_SIDE_FRAMES_RX_COUNT side) = min (s.fld
    (R.RING_SIDE_FRAMES_RX_COUNT side) + 1) (2 ^ 32 - 1) ∧ t.bit R.RING_LAYOUT_BUSY = false ∧ t.fld
    R.RING_STATUS_LAST_STS = 0x710B)) ∧
  -- LAYOUT_ANS
  (∀ (side : Nat) (h : RingHead) (s : State), MemCanon s → s.shaped = true → (side < 2 ∧ s.hasRing = true ∧ s.linkUp
    side = true ∧ (s.side side).rxSleep = false ∧ h.crcOk = true ∧ h.ack = none ∧ h.seq = (s.side side).expect ∧ h.dst
    = s.rpos) → Completes (.layoutAns side h true) s (fun t => (t.side side).expect = ((s.side side).expect + 1) %
    4096 ∧ t.fld (R.RING_SIDE_FRAMES_RX_COUNT side) = min (s.fld (R.RING_SIDE_FRAMES_RX_COUNT side) + 1) (2 ^ 32 - 1)
    ∧ t.bit R.RING_LAYOUT_BUSY = s.bit R.RING_LAYOUT_BUSY)) ∧
  -- LAYOUT_REQUEST
  (∀ (value : Nat) (s : State), MemCanon s → s.shaped = true → (s.served R.RING_LAYOUT.off = true ∧
    R.RING_LAYOUT_GO.of value = 1 ∧ R.RING_LAYOUT_NEXT.of value < (s.ringRec.map (·.nlayout)).getD 0 ∧ (s.rst = 4 ∨
    s.rst = 5) ∧ s.bit R.RING_LAYOUT_BUSY = false ∧ s.bit R.RING_STATUS_MASTER = false) → Completes (.layoutRequest
    value) s (fun t => t.bit R.RING_LAYOUT_BUSY = true ∧ t.fld R.RING_LAYOUT_NEXT = R.RING_LAYOUT_NEXT.of value ∧ [0,
    1].any (fun w => ((t.side w).wait ++ (t.side w).buf.map (·.frame)).any (fun f => f.op == 6 && f.dst == s.fld
    R.RING_TOPO_MASTER_POS && f.info == [R.RING_LAYOUT_NEXT.of value])) = true)) ∧
  -- LAYOUT_REQUEST
  (∀ (value : Nat) (s : State), MemCanon s → s.shaped = true → (s.served R.RING_LAYOUT.off = true ∧
    R.RING_LAYOUT_GO.of value = 1 ∧ R.RING_LAYOUT_NEXT.of value < (s.ringRec.map (·.nlayout)).getD 0 ∧ (s.rst = 4 ∨
    s.rst = 5) ∧ s.bit R.RING_LAYOUT_BUSY = false ∧ s.bit R.RING_STATUS_MASTER = true ∧ s.ring.queue = []) → Completes
    (.layoutRequest value) s (fun t => t.bit R.RING_LAYOUT_BUSY = true ∧ t.fld R.RING_LAYOUT_NEXT =
    R.RING_LAYOUT_NEXT.of value)) ∧
  -- QUIESCE_TIMEOUT
  (∀ (s : State), MemCanon s → s.shaped = true → (s.ring.stop = true ∧ (s.rst = 6 → s.ring.cur.isSome = true) ∧
    s.ring.stopAt + 1000 * s.fld R.RING_TMO_QUIESCE_TMO_US ≤ s.now) → Completes .quiesceTimeout s (fun t => t.bit
    R.RING_LAYOUT_BUSY = false ∧ t.ring.cur = none ∧ t.ring.stop = false ∧ (s.ring.held = [] → s.ring.lostHeld = [] →
    t.fld R.RING_STATUS_LAST_STS = 0x7108))) ∧
  -- TOPOLOGY_RETRY
  (∀ (s : State), MemCanon s → s.shaped = true → (s.ring.topoAt.any (fun t => decide (t + 1000000 ≤ s.now)) = true) →
    Completes .topologyRetry s (fun t => t.ring.topoAt = none)) ∧
  -- TOPOLOGY_RETRY
  (∀ (present : Nat) (s : State), MemCanon s → s.shaped = true → (s.ring.topoAt.any (fun t => decide (t + 1000000 ≤
    s.now)) = true ∧ s.bit R.RING_STATUS_MASTER = true ∧ s.ring.cur = none ∧ s.ring.topo = some present) → Completes
    .topologyRetry s (fun t => t.ring.topoAt = none ∧ t.ring.cur = some { topo := some present } ∧ t.ring.stop =
    true))

/-- Responses, messages and the debug controls of a gill. A bundle of NOPs changes no register and goes on; a load
writes the four bytes at its address to its register, and its access is gone; a reported memory fault stops the
gill; a covered wait is granted and the count taken; a message is received; a returned credit is free; a fence, an
ended invocation and HALT, RESUME and STEP move the gill as the rules say. Every clause is about every state whose
memory and register file are canonical and whose tables have the device's lengths, under the conditions the Lean
names, and its conclusion is that the command answers a next state of that kind. Behind it stand the model's own
choices of log entries 52, 53, 55. (R417, R427, R425, R436, R437, R440, R499, R500) -/
def Obligations.GillEvents : Prop :=
  -- BUNDLE_ISSUE
  (∀ (gill : Nat) (s : State), MemCanon s → s.shaped = true → (gill < 64 ∧ gill < s.gills ∧ s.gst gill = 1 ∧ (s.gl
    gill).halt = none ∧ s.runs = true ∧ (s.gl gill).acc = [] ∧ (s.gl gill).sincs = [] ∧ (s.gl gill).loops = [] ∧
    (s.gprog gill).any (fun pr => bundleSlots pr.code (s.gpc gill) == List.replicate 16 0 && decide (s.gpc gill + 1 <
    pr.bundles) && decide (pr.bundles ≤ 4096)) = true) → Completes (.bundleIssue gill) s (fun t => t.gpc gill = s.gpc
    gill + 1 ∧ t.gst gill = 1 ∧ (t.gl gill).s = (s.gl gill).s ∧ (t.gl gill).v = (s.gl gill).v ∧ (t.gl gill).a = (s.gl
    gill).a ∧ (t.gl gill).p = (s.gl gill).p ∧ t.mem = s.mem ∧ t.sram = s.sram)) ∧
  -- GLOBAL_LOAD_RESPONSE
  (∀ (gill slot ref retry : Nat) (a : GAcc) (s : State), MemCanon s → s.shaped = true → (gill < 64 ∧ gill < s.gills ∧
    (s.gl gill).due slot false = some a ∧ (s.gl gill).acc.filter (fun b => b.seq == a.seq && b.ls == a.ls && !b.write)
    = [a] ∧ a.len = 4 ∧ a.mask ≠ 0 ∧ a.reg < 64 ∧ s.dataRange 1 a.va 4 = true) → Completes (.globalLoadResponse gill
    slot ref retry) s (fun t => (t.gl gill).acc = (s.gl gill).acc.filter (fun b => !(b.seq == a.seq && b.ls == a.ls &&
    !b.write)) ∧ (t.gl gill).s = (if a.lapsed.testBit 0 then (s.gl gill).s else (s.gl gill).s.set a.reg (leAt (s.bytes
    a.va 4) 0 4)) ∧ t.mem = s.mem ∧ t.sram = s.sram)) ∧
  -- GILL_MEM_FAULT_STOP
  (∀ (gill : Nat) (s : State), MemCanon s → s.shaped = true → (gill < 64 ∧ gill < s.gills ∧ (s.gl
    gill).memFault.isSome = true ∧ 1 ≤ s.gst gill ∧ s.gst gill ≤ 4) → Completes (.gillMemFaultStop gill) s (fun t =>
    t.gst gill = 5 ∧ t.fld (R.GILL_FAULT_STS gill) = 0x9806 ∧ (t.gl gill).outcome = some 0x9806 ∧ t.fld
    (R.GILL_STATUS_LAST_STS gill) = 0x9806)) ∧
  -- SYNC_GRANT
  (∀ (cell : Nat) (s : State), MemCanon s → s.shaped = true → (cell < 4096 ∧ (s.cellWaiters cell).head?.any (fun w =>
    decide (w.n ≤ s.fld (R.SYNC_COUNT_COUNT cell) ∧ w.gill < 64)) = true) → Completes (.syncGrant cell) s (fun t =>
    (s.cellWaiters cell).head?.all (fun w => (t.gl w.gill).granted == some true && t.fld (R.SYNC_COUNT_COUNT cell) ==
    s.fld (R.SYNC_COUNT_COUNT cell) - w.n) = true)) ∧
  -- TIMED_OP_TIMEOUT
  (∀ (gill : Nat) (s : State), MemCanon s → s.shaped = true → (gill < 64 ∧ gill < s.gills ∧ (s.gst gill = 3 ∨ s.gst
    gill = 4) ∧ (s.gl gill).blocked.isSome = true ∧ (s.gl gill).granted = none ∧ (opOf (s.sySlot gill) = 3 ∨ opOf
    (s.sySlot gill) = 8 ∨ opOf (s.sySlot gill) = 9) ∧ (s.gl gill).sreg (bf (s.sySlot gill) 45 40) ≤ s.waitedCycles
    (s.gl gill) ∧ bf (s.sySlot gill) 36 34 ≠ 0) → Completes (.timedOpTimeout gill) s (fun t => (t.gl gill).granted =
    some false ∧ t.gst gill = s.gst gill)) ∧
  -- TIMED_OP_TIMEOUT
  (∀ (gill : Nat) (s : State), MemCanon s → s.shaped = true → (gill < 64 ∧ gill < s.gills ∧ (s.gst gill = 3 ∨ s.gst
    gill = 4) ∧ (s.gl gill).blocked.isSome = true ∧ (s.gl gill).granted = none ∧ (opOf (s.sySlot gill) = 3 ∨ opOf
    (s.sySlot gill) = 8 ∨ opOf (s.sySlot gill) = 9) ∧ (s.gl gill).sreg (bf (s.sySlot gill) 45 40) ≤ s.waitedCycles
    (s.gl gill) ∧ bf (s.sySlot gill) 36 34 = 0) → Completes (.timedOpTimeout gill) s (fun t => t.gst gill = 5 ∧ (t.gl
    gill).outcome = some (if opOf (s.sySlot gill) = 3 then 0x9808 else 0x9807) ∧ t.fld (R.GILL_FAULT_STS gill) = (if
    opOf (s.sySlot gill) = 3 then 0x9808 else 0x9807))) ∧
  -- QUEUE_MESSAGE_ARRIVAL
  (∀ (gill port src srcPort : Nat) (f : Flight) (l : List Flight) (s : State), MemCanon s → s.shaped = true → (gill <
    64 ∧ port < 8 ∧ s.flights = f :: l ∧ f.gill = src ∧ f.port = srcPort ∧ f.dst = 0x1000 + gill ∧ f.dport = port ∧
    s.flightHeld f = false) → Completes (.queueMessageArrival gill port src srcPort) s (fun t => (t.gl gill).ports =
    (s.gl gill).ports.set port
    { (s.gl gill).ports.getD port {} with recv := ((s.gl gill).ports.getD port {}).recv ++ [⟨src, srcPort, f.words⟩] }
    ∧ t.flights = l)) ∧
  -- QUEUE_CREDIT_RETURN
  (∀ (gill port : Nat) (s : State), MemCanon s → s.shaped = true → (gill < 64 ∧ port < 8 ∧ 0 < ((s.gl gill).ports.getD
    port {}).back) → Completes (.queueCreditReturn gill port) s (fun t => (t.gl gill).ports = (s.gl gill).ports.set
    port
    { (s.gl gill).ports.getD port {} with used := ((s.gl gill).ports.getD port {}).used - 1, back := ((s.gl gill).ports.getD port {}).back - 1 }))
    ∧
  -- FENCE_COMPLETE
  (∀ (gill : Nat) (s : State), MemCanon s → s.shaped = true → (gill < 64 ∧ s.gst gill = 3 ∧ opOf (s.sySlot gill) = 6 ∧
    s.drained gill = true) → Completes (.fenceComplete gill) s (fun t => (t.gl gill).granted = some true)) ∧
  -- INVOCATION_END
  (∀ (gill n : Nat) (s : State), MemCanon s → s.shaped = true → (gill < 64 ∧ (s.gl gill).halt = some n ∧ s.drained
    gill = true) → Completes (.invocationEnd gill) s (fun t => (t.gl gill).outcome = some (if n = 0 then 0 else
    0x980C) ∧ (t.gl gill).halt = none ∧ t.gst gill = 0)) ∧
  -- DBG_HALT
  (∀ (gill : Nat) (s : State), MemCanon s → s.shaped = true → (gill < 64 ∧ s.served (R.GILL_DBG_CTRL gill).off = true
    ∧ s.dbgRefused gill = false ∧ 1 ≤ s.gst gill ∧ s.gst gill ≤ 3) → Completes (.dbgHalt gill) s (fun t => t.gst gill
    = 4)) ∧
  -- DBG_RESUME
  (∀ (gill : Nat) (s : State), MemCanon s → s.shaped = true → (gill < 64 ∧ s.served (R.GILL_DBG_CTRL gill).off = true
    ∧ s.dbgRefused gill = false ∧ s.gst gill = 4) → Completes (.dbgResume gill) s (fun t => t.gst gill = 1)) ∧
  -- DBG_STEP
  (∀ (gill : Nat) (s : State), MemCanon s → s.shaped = true → (gill < 64 ∧ s.served (R.GILL_DBG_CTRL gill).off = true
    ∧ s.dbgRefused gill = false ∧ s.gst gill = 4 ∧ s.gprog gill = none ∧ (s.gl gill).halt = none) → Completes
    (.dbgStep gill) s (fun t => t.gst gill = 4)) ∧
  -- DBG_STEP
  (∀ (gill : Nat) (s : State), MemCanon s → s.shaped = true → (gill < 64 ∧ s.served (R.GILL_DBG_CTRL gill).off = true
    ∧ s.dbgRefused gill = false ∧ s.gst gill = 4 ∧ (s.gl gill).halt = none ∧ (s.gl gill).acc = [] ∧ (s.gl gill).sincs
    = [] ∧ (s.gl gill).loops = [] ∧ (s.gprog gill).any (fun pr => bundleSlots pr.code (s.gpc gill) == List.replicate
    16 0 && decide (s.gpc gill + 1 < pr.bundles) && decide (pr.bundles ≤ 4096)) = true) → Completes (.dbgStep gill) s
    (fun t => t.gpc gill = s.gpc gill + 1 ∧ t.gst gill = 4 ∧ (t.gl gill).s = (s.gl gill).s ∧ t.mem = s.mem ∧ t.sram =
    s.sram))

/-- Translation and the controllers. UNMAP, MAP_R and MAP_RW keep their operation and, accepted, are busy until every
source has acknowledged; a store's response writes its bytes at its address and no other byte of memory, and ends
its access; a failed walk is counted as a fault; refresh, calibration and the temperature range are kept when they
are due; a controller's watchdog asks for a reset. Every clause is about every state whose memory and register file
are canonical and whose tables have the device's lengths, under the conditions the Lean names, and its conclusion is
that the command answers a next state of that kind. Behind it stand the model's own choices of log entry 55. (R488,
R515, R502, R482, R483, R512, R485) -/
def Obligations.MemoryCommands : Prop :=
  -- UNMAP
  (∀ (s : State), MemCanon s → s.shaped = true → (s.served R.MMU_OP.off = true ∧ s.mmuRefusal 1 (s.fld
    R.MMU_OP_VA_LO_VA_LO + 2 ^ 32 * s.fld R.MMU_OP_VA_HI_VA_HI) (s.fld R.MMU_OP_PA_LO_PA_LO + 2 ^ 32 * s.fld
    R.MMU_OP_PA_HI_PA_HI) (s.fld R.MMU_OP_CTX_CTX) = 0 ∧ (s.img.active.bind (fun im => im.memAt (s.fld
    R.MMU_OP_VA_LO_VA_LO + 2 ^ 32 * s.fld R.MMU_OP_VA_HI_VA_HI) 1)).isSome = true) → Completes .unmap s (fun t =>
    t.bit R.MMU_STATUS_OP_BUSY = true ∧ t.fld R.MMU_OP_OP = 1 ∧ t.mmu.op.length = (bitsOf 16 (s.fld
    R.MMU_OP_CTX_CTX)).length ∧ t.mmu.op.all (fun o => o.valid == false) = true)) ∧
  -- MAP_R
  (∀ (s : State), MemCanon s → s.shaped = true → (s.served R.MMU_OP.off = true ∧ s.mmuRefusal 2 (s.fld
    R.MMU_OP_VA_LO_VA_LO + 2 ^ 32 * s.fld R.MMU_OP_VA_HI_VA_HI) (s.fld R.MMU_OP_PA_LO_PA_LO + 2 ^ 32 * s.fld
    R.MMU_OP_PA_HI_PA_HI) (s.fld R.MMU_OP_CTX_CTX) = 0 ∧ (s.img.active.bind (fun im => im.memAt (s.fld
    R.MMU_OP_VA_LO_VA_LO + 2 ^ 32 * s.fld R.MMU_OP_VA_HI_VA_HI) 1)).isSome = true) → Completes .mapR s (fun t => t.bit
    R.MMU_STATUS_OP_BUSY = true ∧ t.fld R.MMU_OP_OP = 2 ∧ t.mmu.op.length = (bitsOf 16 (s.fld
    R.MMU_OP_CTX_CTX)).length ∧ t.mmu.op.all (fun o => o.valid == true) = true)) ∧
  -- MAP_RW
  (∀ (s : State), MemCanon s → s.shaped = true → (s.served R.MMU_OP.off = true ∧ s.mmuRefusal 3 (s.fld
    R.MMU_OP_VA_LO_VA_LO + 2 ^ 32 * s.fld R.MMU_OP_VA_HI_VA_HI) (s.fld R.MMU_OP_PA_LO_PA_LO + 2 ^ 32 * s.fld
    R.MMU_OP_PA_HI_PA_HI) (s.fld R.MMU_OP_CTX_CTX) = 0 ∧ (s.img.active.bind (fun im => im.memAt (s.fld
    R.MMU_OP_VA_LO_VA_LO + 2 ^ 32 * s.fld R.MMU_OP_VA_HI_VA_HI) 1)).isSome = true) → Completes .mapRw s (fun t =>
    t.bit R.MMU_STATUS_OP_BUSY = true ∧ t.fld R.MMU_OP_OP = 3 ∧ t.mmu.op.length = (bitsOf 16 (s.fld
    R.MMU_OP_CTX_CTX)).length ∧ t.mmu.op.all (fun o => o.valid == true) = true)) ∧
  -- MMU_OP_COMPLETE
  (∀ (s : State), MemCanon s → s.shaped = true → (s.bit R.MMU_STATUS_OP_BUSY = true) → Completes .mmuOpComplete s (fun
    t => t.bit R.MMU_STATUS_OP_BUSY = false ∧ t.mmu.op = [] ∧ t.mmu.remap = s.mmu.op ++ s.mmu.remap)) ∧
  -- TRANSACTION_RESPONSE
  (∀ (gill slot : Nat) (bad weak : Option Nat) (chan ns ref retry : Nat) (a : GAcc) (s : State), MemCanon s → s.shaped
    = true → (gill < 64 ∧ (s.gl gill).due slot true = some a) → Completes (.transactionResponse gill slot true bad
    weak chan ns ref retry) s (fun t => (t.gl gill).acc = (s.gl gill).acc.filter (fun b => !(b == a)) ∧ (t.gl
    gill).memFault.isSome = true ∧ t.fld R.MMU_CNT_FAULTS_COUNT = min (s.fld R.MMU_CNT_FAULTS_COUNT + 1) (2 ^ 32 - 1)
    ∧ t.mem = s.mem)) ∧
  -- TRANSACTION_RESPONSE
  (∀ (gill slot chan ns ref retry : Nat) (a : GAcc) (s : State), MemCanon s → s.shaped = true → (gill < 64 ∧ (s.gl
    gill).due slot true = some a ∧ (a.len = 4 ∨ a.mask = 65535) ∧ a.data.length = a.len ∧ s.dataRange 1 a.va a.len =
    true) → Completes (.transactionResponse gill slot false none none chan ns ref retry) s (fun t => (t.gl gill).acc =
    (s.gl gill).acc.filter (fun b => !(b == a)) ∧ t.bytes a.va a.len = a.data ∧ t.sram = s.sram ∧ ∀ x, x < a.va ∨ a.va
    + a.len ≤ x → t.byte x = s.byte x)) ∧
  -- REFRESH
  (∀ (chan ns : Nat) (s : State), MemCanon s → s.shaped = true → (chan < 4 ∧ s.memDue chan s.mmu.lastRef (s.refreshNs
    chan).1 = true) → Completes (.refresh chan ns) s (fun t => t.mmu.lastRef.getD chan 0 = s.now ∧ t.fld
    (R.MEM_CH_REF_MAX_NS chan) = max (s.fld (R.MEM_CH_REF_MAX_NS chan)) (min ns (s.refreshNs chan).2))) ∧
  -- ZQ_CALIBRATION
  (∀ (chan : Nat) (s : State), MemCanon s → s.shaped = true → (chan < 4 ∧ s.memDue chan s.mmu.lastZq 128000000 = true)
    → Completes (.zqCalibration chan) s (fun t => t.mmu.lastZq.getD chan 0 = s.now)) ∧
  -- MR4_READ
  (∀ (chan range : Nat) (s : State), MemCanon s → s.shaped = true → (chan < 4 ∧ range < 4 ∧ s.memDue chan
    s.mmu.lastMr4 16000000 = true ∧ s.fld (R.MEM_CH_STATUS_TEMP chan) ≠ range) → Completes (.mr4Read chan range) s
    (fun t => t.fld (R.MEM_CH_STATUS_TEMP chan) = range ∧ t.mmu.lastMr4.getD chan 0 = s.now ∧ t.fld
    R.MMU_STATUS_LAST_STS = 0x8301)) ∧
  -- CONTROLLER_WATCHDOG
  (∀ (chan : Nat) (txs : List (Nat × Nat × Nat × Nat)) (s : State), MemCanon s → s.shaped = true → (chan < 4) →
    Completes (.controllerWatchdog chan txs) s (fun t => t.pwr.resetReq = true ∧ t.fld R.MMU_STATUS_LAST_STS =
    0x8302))

/-- The items of a chain. In a chain without completion records whose addresses lie in the tile window: COPY leaves
the source's bytes at the destination, FILL its pattern, and neither changes another byte of tile SRAM or device
memory; COPY2D leaves each source row at its destination row; SIGNAL increments its cell; BOXDEC and NMS are
counted. Each item is DONE with its byte count. Every clause is about every state whose memory and register file are
canonical and whose tables have the device's lengths, under the conditions the Lean names, and its conclusion is
that the command answers a next state of that kind. Behind it stand the model's own choices of log entry 56. (R492,
R494, R456, R462, R463) -/
def Obligations.DmaItems : Prop :=
  -- COPY
  (∀ (eng item : Nat) (s : State), MemCanon s → s.shaped = true → ((s.eng eng).run.any (fun r => itemOp (r.items.getD
    item []) == 1 && r.canStart item false && r.cpl == 0 && r.chain.reach.isNone && decide (item < r.res.length) &&
    s.tileRange (leAt (r.items.getD item []) 16 8) (leAt (r.items.getD item []) 32 4) && s.tileRange (leAt
    (r.items.getD item []) 24 8) (leAt (r.items.getD item []) 32 4) && decide (leAt (r.items.getD item []) 16 8 % 4 =
    0 ∧ leAt (r.items.getD item []) 24 8 % 4 = 0 ∧ leAt (r.items.getD item []) 32 4 % 4 = 0 ∧ 4 ≤ leAt (r.items.getD
    item []) 32 4 ∧ leAt (r.items.getD item []) 32 4 ≤ 2 ^ 28) && !rangesMeet (leAt (r.items.getD item []) 16 8) (leAt
    (r.items.getD item []) 32 4) (leAt (r.items.getD item []) 24 8) (leAt (r.items.getD item []) 32 4)) = true ∧ eng <
    16) → Completes (.copy eng item) s (fun t => (s.eng eng).run.all (fun r => t.sramBytes (leAt (r.items.getD item
    []) 24 8 % 2 ^ 39) (leAt (r.items.getD item []) 32 4) == s.sramBytes (leAt (r.items.getD item []) 16 8 % 2 ^ 39)
    (leAt (r.items.getD item []) 32 4)) = true ∧ (s.eng eng).run.all (fun q => (t.eng eng).run.any (fun r =>
    r.res.getD item none == some ⟨0, 1, leAt (q.items.getD item []) 32 4, 0⟩)) = true ∧ t.mem = s.mem ∧ ∀ a, (s.eng
    eng).run.all (fun r => decide (a < leAt (r.items.getD item []) 24 8 % 2 ^ 39 ∨ leAt (r.items.getD item []) 24 8 %
    2 ^ 39 + leAt (r.items.getD item []) 32 4 ≤ a)) = true → t.sramByte a = s.sramByte a)) ∧
  -- FILL
  (∀ (eng item : Nat) (s : State), MemCanon s → s.shaped = true → ((s.eng eng).run.any (fun r => itemOp (r.items.getD
    item []) == 2 && r.canStart item false && r.cpl == 0 && r.chain.reach.isNone && decide (item < r.res.length) &&
    s.tileRange (leAt (r.items.getD item []) 16 8) (leAt (r.items.getD item []) 24 4) && decide (leAt (r.items.getD
    item []) 16 8 % 4 = 0 ∧ leAt (r.items.getD item []) 24 4 % 4 = 0)) = true ∧ eng < 16) → Completes (.fill eng item)
    s (fun t => (s.eng eng).run.all (fun q => (t.eng eng).run.any (fun r => r.res.getD item none == some ⟨0, 1, leAt
    (q.items.getD item []) 24 4, 0⟩) && (List.range (leAt (q.items.getD item []) 24 4)).all (fun k => t.sramByte (leAt
    (q.items.getD item []) 16 8 % 2 ^ 39 + k) == (slice (q.items.getD item []) 28 4).getD (k % 4) 0)) = true ∧ t.mem =
    s.mem ∧ ∀ a, (s.eng eng).run.all (fun r => decide (a < leAt (r.items.getD item []) 16 8 % 2 ^ 39 ∨ leAt
    (r.items.getD item []) 16 8 % 2 ^ 39 + leAt (r.items.getD item []) 24 4 ≤ a)) = true → t.sramByte a = s.sramByte
    a)) ∧
  -- COPY2D
  (∀ (eng item : Nat) (s : State), MemCanon s → s.shaped = true → ((s.eng eng).run.any (fun r => itemOp (r.items.getD
    item []) == 3 && r.canStart item false && r.cpl == 0 && r.chain.reach.isNone && decide (item < r.res.length) &&
    decide (1 ≤ leAt (r.items.getD item []) 36 4 ∧ leAt (r.items.getD item []) 36 4 ≤ 65535 ∧ leAt (r.items.getD item
    []) 32 4 ≤ leAt (r.items.getD item []) 44 4 ∧ leAt (r.items.getD item []) 32 4 ≤ 2 ^ 20) && s.tileRange (leAt
    (r.items.getD item []) 16 8) ((leAt (r.items.getD item []) 36 4 - 1) * leAt (r.items.getD item []) 40 4 + leAt
    (r.items.getD item []) 32 4) && s.tileRange (leAt (r.items.getD item []) 24 8) ((leAt (r.items.getD item []) 36 4
    - 1) * leAt (r.items.getD item []) 44 4 + leAt (r.items.getD item []) 32 4) && decide (leAt (r.items.getD item [])
    16 8 % 4 = 0 ∧ leAt (r.items.getD item []) 24 8 % 4 = 0 ∧ leAt (r.items.getD item []) 32 4 % 4 = 0 ∧ leAt
    (r.items.getD item []) 40 4 % 4 = 0 ∧ leAt (r.items.getD item []) 44 4 % 4 = 0 ∧ leAt (r.items.getD item []) 16 8
    + ((leAt (r.items.getD item []) 36 4 - 1) * leAt (r.items.getD item []) 40 4 + leAt (r.items.getD item []) 32 4) ≤
    leAt (r.items.getD item []) 24 8)) = true ∧ eng < 16) → Completes (.copy2d eng item) s (fun t => (s.eng
    eng).run.all (fun q => (t.eng eng).run.any (fun r => r.res.getD item none == some ⟨0, 1, leAt (q.items.getD item
    []) 36 4 * leAt (q.items.getD item []) 32 4, 0⟩)) = true ∧ (s.eng eng).run.all (fun r => (List.range (leAt
    (r.items.getD item []) 36 4)).all (fun k => t.sramBytes (leAt (r.items.getD item []) 24 8 % 2 ^ 39 + k * leAt
    (r.items.getD item []) 44 4) (leAt (r.items.getD item []) 32 4) == s.sramBytes (leAt (r.items.getD item []) 16 8 %
    2 ^ 39 + k * leAt (r.items.getD item []) 40 4) (leAt (r.items.getD item []) 32 4))) = true)) ∧
  -- SIGNAL
  (∀ (eng item : Nat) (s : State), MemCanon s → s.shaped = true → ((s.eng eng).run.any (fun r => itemOp (r.items.getD
    item []) == 4 && r.canStart item true && r.cpl == 0 && r.chain.reach.isNone && decide (item < r.res.length) &&
    decide (leAt (r.items.getD item []) 16 2 < 4096) && s.cellProducer (leAt (r.items.getD item []) 16 2) (0x7000 +
    eng) none) = true ∧ eng < 16) → Completes (.signal eng item) s (fun t => (t.eng eng).run.any (fun r => r.res.getD
    item none == some ⟨0, 1, 0, 0⟩) = true ∧ (s.eng eng).run.all (fun r => t.fld (R.SYNC_COUNT_COUNT (leAt
    (r.items.getD item []) 16 2)) == min (s.fld (R.SYNC_COUNT_COUNT (leAt (r.items.getD item []) 16 2)) + leAt
    (r.items.getD item []) 18 2) (2 ^ 24 - 1)) = true)) ∧
  -- BOXDEC
  (∀ (eng item us : Nat) (s : State), MemCanon s → s.shaped = true → ((s.eng eng).run.any (fun r => itemOp
    (r.items.getD item []) == 16 && r.canStart item false && r.cpl == 0 && r.chain.reach.isNone && decide (item <
    r.res.length) && (boxdecBad (r.items.getD item [])).isNone && s.tileRange (leAt (r.items.getD item []) 0x10 8) (16
    * leAt (r.items.getD item []) 0x38 4) && s.tileRange (leAt (r.items.getD item []) 0x18 8) (4 * leAt (r.items.getD
    item []) 0x38 4) && s.tileRange (leAt (r.items.getD item []) 0x20 8) (leAt (r.items.getD item []) 0x38 4 * leAt
    (r.items.getD item []) 0x3C 1) && s.tileRange (leAt (r.items.getD item []) 0x28 8) 512 && s.tileRange (leAt
    (r.items.getD item []) 0x30 8) (32 + 32 * leAt (r.items.getD item []) 0x42 2)) = true ∧ eng < 16) → Completes
    (.boxdec eng item us) s (fun t => (t.eng eng).run.any (fun r => r.res.getD item none == some ⟨0, 1, 0, 0⟩) = true
    ∧ t.fld R.DET_CNT_BOXDEC_BOXDEC = min (s.fld R.DET_CNT_BOXDEC_BOXDEC + 1) (2 ^ 32 - 1) ∧ t.fld R.DET_MAX_US_MAX_US
    = max (s.fld R.DET_MAX_US_MAX_US) (min us (2 ^ 32 - 1)))) ∧
  -- NMS
  (∀ (eng item us : Nat) (s : State), MemCanon s → s.shaped = true → ((s.eng eng).run.any (fun r => itemOp
    (r.items.getD item []) == 17 && r.canStart item false && r.cpl == 0 && r.chain.reach.isNone && decide (item <
    r.res.length) && (nmsBad (r.items.getD item [])).isNone && decide (leAt (s.sramBytes (leAt (r.items.getD item [])
    0x10 8 % 2 ^ 39) 4) 0 4 ≤ 8192) && s.tileRange (leAt (r.items.getD item []) 0x10 8) (32 + 32 * 8192) &&
    s.tileRange (leAt (r.items.getD item []) 0x18 8) (32 + 32 * 8192)) = true ∧ eng < 16) → Completes (.nms eng item
    us) s (fun t => (t.eng eng).run.any (fun r => r.res.getD item none == some ⟨0, 1, 0, 0⟩) = true ∧ t.fld
    R.DET_CNT_NMS_NMS = min (s.fld R.DET_CNT_NMS_NMS + 1) (2 ^ 32 - 1)))

/-- Chains of an engine, and the cells. A submission with GO queues a chain; an idle engine takes its next chain and
reads its header; an ended chain is counted and frees the engine; an abort empties the queue; a host's increment
adds to a cell it may add to, and a cell without waiters is reset to its initial count. Every clause is about every
state whose memory and register file are canonical and whose tables have the device's lengths, under the conditions
the Lean names, and its conclusion is that the command answers a next state of that kind. Behind it stand the
model's own choices of log entry 56. (R489, R493, R505, R498, R501) -/
def Obligations.DmaChains : Prop :=
  -- DMA_SUBMIT
  (∀ (eng value : Nat) (s : State), MemCanon s → s.shaped = true → (eng < 16 ∧ s.served (R.DMA_SUB_HI eng).off = true
    ∧ (R.DMA_SUB_HI_GO eng).of value = 1 ∧ s.chainFull eng = false) → Completes (.dmaSubmit eng value) s (fun t =>
    (t.eng eng).queue.length = (s.eng eng).queue.length + 1 ∧ t.bit (R.DMA_SUB_STATUS_ACCEPTED eng) = true ∧ (t.eng
    eng).queue.getLast?.any (fun c => c.va == s.fld (R.DMA_SUB_LO_VA_LO eng) + 2 ^ 32 * (R.DMA_SUB_HI_VA_HI eng).of
    value) = true)) ∧
  -- CHAIN_START
  (∀ (eng : Nat) (s : State), MemCanon s → s.shaped = true → (eng < 16 ∧ (s.eng eng).run = none ∧ (s.eng
    eng).queue.head?.any (fun c => c.gill.any (fun g => decide (g < 64 ∧ c.va % 65536 + 64 ≤ 65536) && chainHeadOk
    (s.sramBytes (g * 2 ^ 22 + c.va) 32) && leAt (s.sramBytes (g * 2 ^ 22 + c.va) 32) 0 2 == 1 && leAt (s.sramBytes (g
    * 2 ^ 22 + c.va + 32) 16) 0 4 == 0x200002 && leAt (s.sramBytes (g * 2 ^ 22 + c.va + 32) 16) 8 8 == 0)) = true) →
    Completes (.chainStart eng) s (fun t => (t.eng eng).queue = (s.eng eng).queue.tail ∧ (t.eng eng).run.any (fun r =>
    r.items.length == 1 && r.res == [none]) = true)) ∧
  -- CHAIN_END
  (∀ (eng : Nat) (s : State), MemCanon s → s.shaped = true → (eng < 16 ∧ (s.eng eng).run.any (fun r => decide
    (r.items.length ≤ r.recs)) = true) → Completes (.chainEnd eng) s (fun t => (t.eng eng).run = none ∧ (t.eng
    eng).queue = (s.eng eng).queue ∧ t.fld (R.DMA_CNT_CHAINS_COUNT eng) = min (s.fld (R.DMA_CNT_CHAINS_COUNT eng) + 1)
    (2 ^ 32 - 1))) ∧
  -- DMA_ABORT
  (∀ (eng : Nat) (part : List (Nat × Nat)) (s : State), MemCanon s → s.shaped = true → (eng < 16 ∧ s.served
    (R.DMA_ENG_CTRL eng).off = true ∧ (s.eng eng).run = none) → Completes (.dmaAbort eng part) s (fun t => (t.eng
    eng).queue = [] ∧ (t.eng eng).run = none ∧ t.fld (R.DMA_SUB_STATUS_LAST_STS eng) = 0x8106)) ∧
  -- SYNC_ADD
  (∀ (cell value : Nat) (s : State), MemCanon s → s.shaped = true → (cell < 4096 ∧ s.served (R.SYNC_ADD cell).off =
    true ∧ s.cellProducer cell 0x5000 none = true) → Completes (.syncAdd cell value) s (fun t => t.fld
    (R.SYNC_COUNT_COUNT cell) = min (s.fld (R.SYNC_COUNT_COUNT cell) + value % 65536) (2 ^ 24 - 1))) ∧
  -- SYNC_RESET
  (∀ (cell : Nat) (s : State), MemCanon s → s.shaped = true → (cell < 4096 ∧ s.served (R.SYNC_CTL cell).off = true ∧
    (s.img.active.bind (·.sync? cell)).isSome = true ∧ s.cellWaiters cell = []) → Completes (.syncReset cell) s (fun t
    => t.fld (R.SYNC_COUNT_COUNT cell) = ((s.img.active.bind (·.sync? cell)).map (·.init)).getD 0 % 2 ^ 24 ∧ t.bit
    (R.SYNC_STATE_OVERFLOW cell) = false))

/-- Submissions. While admission is open, a submission of the host that passes every check is accepted with the next
admission number; while it is closed, it is held; a message of 16 words to a dispatcher is a submission; a converted
deadline leaves its crossing. Every clause is about every state whose memory and register file are canonical and
whose tables have the device's lengths, under the conditions the Lean names, and its conclusion is that the command
answers a next state of that kind. Behind it stand the model's own choices of log entry 57. (R523, R525, R527, R524,
R528, R531) -/
def Obligations.WorkAdmission : Prop :=
  -- SUBMIT
  (∀ (value : Nat) (s : State), MemCanon s → s.shaped = true → (s.served R.SCHED_SUB_CTRL.off = true ∧
    R.SCHED_SUB_CTRL_GO.of value = 1 ∧ s.sched.incs = [] ∧ s.admitShut = false ∧ s.judge 0 s.subWords = none ∧ s.pmode
    = 1) → Completes (.submit value) s (fun t => t.bit R.SCHED_SUB_STATUS_ACCEPTED = true ∧ t.fld
    R.SCHED_SUB_STATUS_LAST_STS = 0 ∧ t.fld R.SCHED_SUB_ID_WORK_ID = s.sched.nextId % 2 ^ 32 ∧ t.sched.nextId =
    s.sched.nextId + 1)) ∧
  -- SUBMIT
  (∀ (value : Nat) (s : State), MemCanon s → s.shaped = true → (s.served R.SCHED_SUB_CTRL.off = true ∧
    R.SCHED_SUB_CTRL_GO.of value = 1 ∧ s.sched.incs = [] ∧ s.bit R.SCHED_STATUS_ADMIT_OPEN = false ∧ s.pmode = 1) →
    Completes (.submit value) s (fun t => t.sched.held = s.sched.held ++ [⟨0, s.subWords, false⟩] ∧ t.sched.works =
    s.sched.works ∧ t.sched.nextId = s.sched.nextId)) ∧
  -- WORK_MESSAGE
  (∀ (gill : Nat) (f : Flight) (l : List Flight) (s : State), MemCanon s → s.shaped = true → (s.sched.incs = [] ∧
    s.flights = f :: l ∧ f.gill = gill ∧ (f.dst / 4096 = 12 ∨ f.dst / 4096 = 7 ∨ f.dst / 4096 = 8 ∨ f.dst / 4096 = 10)
    ∧ f.words.length = 16 ∧ s.flightHeld f = false ∧ s.judge 1 f.words = none) → Completes (.workMessage gill) s (fun
    t => t.flights = l ∧ t.sched.nextId = s.sched.nextId + 1)) ∧
  -- DEADLINE_UPDATE
  (∀ (s : State), MemCanon s → s.shaped = true → (s.mot.xing9 ≠ []) → Completes .deadlineUpdate s (fun t =>
    t.mot.xing9 = s.mot.xing9.tail))

/-- Dispatch, pre-emption and the end of works. A READY work whose gills are free and whose queue runs starts, and a
unit takes a READY work that it accepts; the steal token passes on, and an idle gill that holds it takes a READY
work; a gang's quantum expires; a stopped gang is drained, saved, restored, or ended by a fault of its save path; a
gang whose members have ended or failed, and a cancelled work, are DONE, FAILED or cancelled in the completion log
and leave the list; an inbound re-shard from which nothing is to come any more ends. Every clause is about every
state whose memory and register file are canonical and whose tables have the device's lengths, under the conditions
the Lean names, and its conclusion is that the command answers a next state of that kind. Behind it stand the
model's own choices of log entry 57. (R532, R534, R536, R538, R539, R540, R542, R544, R545, R556) -/
def Obligations.WorkProgress : Prop :=
  -- DISPATCH
  (∀ (executor : Nat) (s : State), MemCanon s → s.shaped = true → (s.runs = true ∧ s.sched.incs = [] ∧ executor / 4096
    = 12 ∧ s.sched.works.length = 1 ∧ s.sched.works.all (fun w => w.st == .ready && w.src == 0 && w.gset.length == 1
    && w.gset.all (fun g => decide (g < 64) && !s.gillBusy g) && w.swaps == [] && !s.doomed w && s.bit
    (R.SCHED_Q_CFG_RUN w.queue) && (s.queueOf w.queue).any (fun r => r.executor == executor && r.model == 0xFFFF &&
    (s.queueProg r).isSome)) = true) → Completes (.dispatch executor) s (fun t => s.sched.works.all (fun w => (t.work?
    w.id).any (fun x => x.st == .running && x.since == some s.now) && (s.queueOf w.queue).all (fun r => (s.queueProg
    r).all (fun pr => w.gset.all (fun g => t.gpc g == pr.entry % 4096 && t.gst g == 1)))) = true)) ∧
  -- DISPATCH
  (∀ (executor : Nat) (w : Work) (s : State), MemCanon s → s.shaped = true → (s.runs = true ∧ s.sched.incs = [] ∧
    executor / 4096 ≠ 12 ∧ s.sched.works = [w] ∧ w.st = .ready ∧ s.doomed w = false ∧ s.bit (R.SCHED_Q_CFG_RUN
    w.queue) = true ∧ (s.queueOf w.queue).map QueueRec.executor = some executor ∧ s.unitAccepts executor = true) →
    Completes (.dispatch executor) s (fun t => (t.work? w.id).any (fun x => x.st == .running && x.handed && x.since ==
    some s.now) = true)) ∧
  -- STEAL_TOKEN
  (∀ (part : Nat) (s : State), MemCanon s → s.shaped = true → (Sparse.sorted s.sched.tokens = true ∧ s.partGills part
    ≠ []) → Completes (.stealToken part) s (fun t => Sparse.get t.sched.tokens part 0 = (Sparse.get s.sched.tokens
    part 0 % (s.partGills part).length + 1) % (s.partGills part).length)) ∧
  -- STEAL_TOKEN
  (∀ (part : Nat) (s : State), MemCanon s → s.shaped = true → (s.sched.works.length = 1 ∧ s.sched.works.all (fun w =>
    w.st == .ready && (s.queueOf w.queue).any (fun r => r.place == 1 && r.part == part) && w.gset != [(s.partGills
    part).getD (Sparse.get s.sched.tokens part 0 % (s.partGills part).length) 0]) = true ∧ s.partGills part ≠ [] ∧
    s.gillBusy ((s.partGills part).getD (Sparse.get s.sched.tokens part 0 % (s.partGills part).length) 0) = false) →
    Completes (.stealToken part) s (fun t => s.sched.works.all (fun w => (t.work? w.id).any (fun x => x.gset ==
    [(s.partGills part).getD (Sparse.get s.sched.tokens part 0 % (s.partGills part).length) 0] && x.st == .ready)) =
    true)) ∧
  -- QUANTUM_EXPIRY
  (∀ (work : Nat) (s : State), MemCanon s → s.shaped = true → (s.sched.incs = [] ∧ (s.runs = false ∨
    s.sched.works.length = 1) ∧ (s.work? work).any (fun w => s.quantumDone w) = true) → Completes (.quantumExpiry
    work) s (fun t => (t.work? work).any (fun w => w.quantumOver) = true)) ∧
  -- PREEMPT_DRAIN_DONE
  (∀ (work : Nat) (s : State), MemCanon s → s.shaped = true → ((s.work? work).any (fun w => w.st == .saving &&
    !w.drained && s.gangDrained w) = true) → Completes (.preemptDrainDone work) s (fun t => (s.work? work).all (fun w
    => (t.work? work).any (fun x => x.drained && x.level == s.freeLevel w.gset && x.phaseAt == s.now)) = true)) ∧
  -- SAVE_COMPLETE
  (∀ (work : Nat) (s : State), MemCanon s → s.shaped = true → (s.sched.incs = [] ∧ (s.work? work).any (fun w => w.st
    == .saving && w.drained && w.gset.length == 1 && w.gset.all (· < 64)) = true) → Completes (.saveComplete work
    none) s (fun t => (s.work? work).all (fun w => w.gset.all (fun g => t.gst g == 0 && t.fld (R.SCHED_GILL_RES_LEVEL
    g) == (s.fld (R.SCHED_GILL_RES_LEVEL g) + 1) % 2 ^ (R.SCHED_GILL_RES_LEVEL g).width && (t.work? work).any (fun x
    => x.st == .saved && x.saved.length == 1 && x.saved.all (fun m => m.gill == g && m.ctx == s.gl g && m.pc == s.gpc
    g)))) = true)) ∧
  -- SAVE_COMPLETE
  (∀ (work : Nat) (s : State), MemCanon s → s.shaped = true → (s.sched.incs = [] ∧ (s.work? work).any (fun w => w.st
    == .saving && w.drained && w.gset.length == 1 && w.gset.all (fun g => decide (g < 64) && (s.queueOf w.queue).any
    (fun r => (s.saveVa r.part g w.level).any (fun va => (s.gprog g).any (fun pr => s.dataRange 1 va pr.saveBytes &&
    va % 64 == 0))))) = true) → Completes (.saveComplete work none) s (fun t => (s.work? work).all (fun w =>
    w.gset.all (fun g => (s.queueOf w.queue).all (fun r => (s.saveVa r.part g w.level).all (fun va => (s.gprog g).all
    (fun pr => pr.live.head?.all (fun l => [0, 63].all (fun k => t.bytes (va + 40960 + k * (11264 + pr.liveBytes) +
    11264) (64 * l.2) == s.sramBytes (sramAddr g k (64 * l.1)) (64 * l.2)))))))) = true)) ∧
  -- SAVE_COMPLETE
  (∀ (work g : Nat) (s : State), MemCanon s → s.shaped = true → (s.sched.incs = [] ∧ (s.work? work).any (fun w => w.st
    == .saving && w.drained && w.src == 0 && decide (w.queue < 256) && w.gset.contains g) = true) → Completes
    (.saveComplete work (some g)) s (fun t => t.work? work = none ∧ (s.work? work).all (fun w => t.fld
    (R.SCHED_Q_FAILED_COUNT w.queue) == min (s.fld (R.SCHED_Q_FAILED_COUNT w.queue) + 1) (2 ^ 32 - 1)) = true)) ∧
  -- RESTORE_COMPLETE
  (∀ (work : Nat) (s : State), MemCanon s → s.shaped = true → (s.sched.incs = [] ∧ s.mmu.bad = [] ∧ (s.work? work).any
    (fun w => w.st == .restoring && w.swaps == [] && w.saved.length == 1 && w.saved.all (fun m => decide (m.gill < 64)
    && w.gset == [m.gill] && !m.ended)) = true) → Completes (.restoreComplete work none) s (fun t => (t.work?
    work).any (fun w => w.st == .running && w.since == some s.now && w.saved == []) = true ∧ (s.work? work).all (fun w
    => w.saved.all (fun m => t.gpc m.gill == m.pc % 4096 && t.gst m.gill == 1 && t.gl m.gill == m.ctx)) = true)) ∧
  -- RESTORE_COMPLETE
  (∀ (work : Nat) (s : State), MemCanon s → s.shaped = true → (s.sched.incs = [] ∧ s.mmu.bad = [] ∧ (s.work? work).any
    (fun w => w.st == .restoring && w.swaps == [] && w.saved.length == 1 && w.saved.all (fun m => decide (m.gill < 64
    ∧ m.prog < 4096) && w.gset == [m.gill] && !m.ended && (s.img.active.bind (·.prog? m.prog)).any (fun pr =>
    pr.live.length == 1 && pr.live.all (fun l => decide (l.1 + l.2 ≤ 1024))))) = true) → Completes (.restoreComplete
    work none) s (fun t => (s.work? work).all (fun w => w.saved.all (fun m => (s.queueOf w.queue).all (fun r =>
    (s.saveVa r.part m.gill w.level).all (fun va => (s.img.active.bind (·.prog? m.prog)).all (fun pr => pr.live.all
    (fun l => [0, 63].all (fun k => t.sramBytes (sramAddr m.gill k (64 * l.1)) (64 * l.2) == s.bytes (va + 40960 + k *
    (11264 + pr.liveBytes) + 11264) (64 * l.2)))))))) = true)) ∧
  -- RESTORE_COMPLETE
  (∀ (work g : Nat) (s : State), MemCanon s → s.shaped = true → (s.sched.incs = [] ∧ (s.work? work).any (fun w => w.st
    == .restoring && w.swaps == [] && w.src == 0 && decide (w.queue < 256) && w.gset.contains g) = true) → Completes
    (.restoreComplete work (some g)) s (fun t => t.work? work = none ∧ (s.work? work).all (fun w => t.fld
    (R.SCHED_Q_FAILED_COUNT w.queue) == min (s.fld (R.SCHED_Q_FAILED_COUNT w.queue) + 1) (2 ^ 32 - 1)) = true)) ∧
  -- STATE_SWAP_COMPLETE
  (∀ (gill : Nat) (s : State), MemCanon s → s.shaped = true → (gill < 64 ∧ s.sched.incs = [] ∧ s.sched.works.length =
    1 ∧ s.sched.works.all (fun w => w.st == .running && w.swaps.contains gill && w.swaps.any (· != gill) && (s.queueOf
    w.queue).any (fun r => (s.img.active.bind (·.model? r.model)).any (fun m => m.stateKib == 0 && (s.img.active.bind
    (·.mem? m.weightPart)).isSome))) = true) → Completes (.stateSwapComplete gill) s (fun t => s.sched.works.all (fun
    w => (t.work? w.id).any (fun x => x.swaps == w.swaps.filter (· != gill)) && (s.queueOf w.queue).all (fun r =>
    t.fld (R.SCHED_GILL_RES_MODEL gill) == r.model % 65536)) = true)) ∧
  -- STATE_SWAP_COMPLETE
  (∀ (gill : Nat) (s : State), MemCanon s → s.shaped = true → (gill < 64 ∧ s.sched.incs = [] ∧ s.sched.works.length =
    1 ∧ s.sched.works.all (fun w => w.st == .running && w.swaps == [gill] && (s.queueOf w.queue).any (fun r =>
    (s.img.active.bind (·.model? r.model)).any (fun m => m.stateKib == 0 && (s.img.active.bind (·.mem?
    m.weightPart)).isSome))) = true) → Completes (.stateSwapComplete gill) s (fun t => s.sched.works.all (fun w =>
    (t.work? w.id).any (fun x => x.swaps == [] && x.since == some s.now) && (s.queueOf w.queue).all (fun r => t.fld
    (R.SCHED_GILL_RES_MODEL gill) == r.model % 65536)) = true)) ∧
  -- GANG_END
  (∀ (work : Nat) (s : State), MemCanon s → s.shaped = true → (s.sched.incs = [] ∧ s.sched.works.length = 1 ∧
    s.sched.works.all (fun w => w.id == work && !w.handed && w.since.isSome && w.src == 0 && decide (w.queue < 256) &&
    w.desc.all (· == 0) && w.gset.all (fun g => (s.gl g).outcome == some 0)) = true) → Completes (.gangEnd work) s
    (fun t => t.sched.works = [] ∧ s.sched.works.all (fun w => t.fld (R.SCHED_Q_DONE_COUNT w.queue) == min (s.fld
    (R.SCHED_Q_DONE_COUNT w.queue) + 1) (2 ^ 32 - 1)) = true ∧ t.fld R.SCHED_CPL_TAIL_TAIL = (s.fld
    R.SCHED_CPL_TAIL_TAIL + 1) % 2 ^ 32)) ∧
  -- GANG_END
  (∀ (work : Nat) (s : State), MemCanon s → s.shaped = true → (s.sched.incs = [] ∧ s.sched.works.length = 1 ∧
    s.sched.works.all (fun w => w.id == work && !w.handed && w.since.isSome && w.src == 0 && decide (w.queue < 256) &&
    w.desc.all (· == 0) && w.gset.any (fun g => (s.gl g).outcome.any (· != 0))) = true) → Completes (.gangEnd work) s
    (fun t => t.sched.works = [] ∧ s.sched.works.all (fun w => t.fld (R.SCHED_Q_FAILED_COUNT w.queue) == min (s.fld
    (R.SCHED_Q_FAILED_COUNT w.queue) + 1) (2 ^ 32 - 1)) = true)) ∧
  -- WORK_CANCEL
  (∀ (value : Nat) (s : State), MemCanon s → s.shaped = true → (s.served R.SCHED_CANCEL.off = true ∧
    s.sched.works.length = 1 ∧ s.sched.works.all (fun w => w.id % 2 ^ 32 == value % 2 ^ 32 && !w.handed) = true) →
    Completes (.workCancel value) s (fun t => t.sched.works = [] ∧ t.fld R.SCHED_CPL_TAIL_TAIL = (s.fld
    R.SCHED_CPL_TAIL_TAIL + 1) % 2 ^ 32 ∧ leAt (Sparse.get t.sched.log (s.fld R.SCHED_CPL_TAIL_TAIL % 1024) []) 6 1 =
    3)) ∧
  -- CPL_LOG_READ
  (∀ (s : State), MemCanon s → s.shaped = true → (s.served (R.SCHED_CPL_DATA 0).off = true) → Completes .cplLogRead s
    (fun t => t.bus.data = leAt (Sparse.get s.sched.log (s.fld R.SCHED_CPL_SEL_INDEX) []) 0 4 ∧ t.fld
    (R.SCHED_CPL_DATA_DATA 7) = leAt (Sparse.get s.sched.log (s.fld R.SCHED_CPL_SEL_INDEX) []) 28 4 % 2 ^ 32)) ∧
  -- RESHARD_END
  (∀ (r : Reshard) (s : State), MemCanon s → s.shaped = true → (s.ring.reshard = some r ∧ r.ends = []) → Completes
    .reshardEnd s (fun t => t.ring.reshard = none ∧ t.bit R.SCHED_RS_STATUS_BUSY = false))

/-- Requests of the prefix unit, from the list of its work or from a gill. On nodes the unit may read and write: PIN
sets PIN and UNPIN clears it, RELEASE gives back a hold, EVICT frees the node's block and counts it, INSERT takes a
block, WALK is counted and takes the next request number; each is answered with status 0, and the last of a list
ends the work. FORMAT leaves an empty tree. Every clause is about every state whose memory and register file are
canonical and whose tables have the device's lengths, under the conditions the Lean names, and its conclusion is
that the command answers a next state of that kind. Behind it stand the model's own choices of log entry 58. (R571,
R572, R573, R574, R567, R586, R587) -/
def Obligations.PrefixRequests : Prop :=
  -- PIN
  (∀ (gill : Option Nat) (s : State), MemCanon s → s.shaped = true → (s.bit R.PFX_STATUS_FORMATTED = true ∧ s.bit
    R.PFX_CTRL_EN = true ∧ s.bit R.PFX_STATUS_CORRUPT = false ∧ (s.pfxAsk gill).any (fun q => q.op == 4 && q.resultVa
    == 0 && decide (q.arg < s.nodeTop) && s.dataRange 9 (s.pfxBase + 64 * q.arg) 64 && decide (s.pfxBase % 64 = 0) &&
    (readNode (s.bytes (s.pfxBase + 64 * q.arg) 64)).used && (readNode (s.bytes (s.pfxBase + 64 * q.arg) 64)).refs !=
    0xFFFF) = true) → Completes (.pin gill) s (fun t => s.pfxAnswered t gill = true ∧ (s.pfxAsk gill).all (fun q =>
    (leAt (t.bytes (s.pfxBase + 64 * q.arg) 64) 0 2).testBit 2) = true)) ∧
  -- UNPIN
  (∀ (gill : Option Nat) (s : State), MemCanon s → s.shaped = true → (s.bit R.PFX_STATUS_FORMATTED = true ∧ s.bit
    R.PFX_CTRL_EN = true ∧ s.bit R.PFX_STATUS_CORRUPT = false ∧ (s.pfxAsk gill).any (fun q => q.op == 5 && q.resultVa
    == 0 && decide (q.arg < s.nodeTop) && s.dataRange 9 (s.pfxBase + 64 * q.arg) 64 && decide (s.pfxBase % 64 = 0) &&
    (readNode (s.bytes (s.pfxBase + 64 * q.arg) 64)).used) = true) → Completes (.unpin gill) s (fun t => s.pfxAnswered
    t gill = true ∧ (s.pfxAsk gill).all (fun q => !(leAt (t.bytes (s.pfxBase + 64 * q.arg) 64) 0 2).testBit 2) =
    true)) ∧
  -- RELEASE
  (∀ (gill : Option Nat) (s : State), MemCanon s → s.shaped = true → (s.bit R.PFX_STATUS_FORMATTED = true ∧ s.bit
    R.PFX_CTRL_EN = true ∧ s.bit R.PFX_STATUS_CORRUPT = false ∧ (s.pfxAsk gill).any (fun q => q.op == 3 && q.resultVa
    == 0 && decide (q.arg < s.nodeTop) && s.dataRange 9 (s.pfxBase + 64 * q.arg) 64 && decide (s.pfxBase % 64 = 0) &&
    (readNode (s.bytes (s.pfxBase + 64 * q.arg) 64)).used && (readNode (s.bytes (s.pfxBase + 64 * q.arg) 64)).refs !=
    0) = true) → Completes (.release gill) s (fun t => s.pfxAnswered t gill = true ∧ (s.pfxAsk gill).all (fun q =>
    leAt (t.bytes (s.pfxBase + 64 * q.arg) 64) 10 2 + 1 == leAt (s.bytes (s.pfxBase + 64 * q.arg) 64) 10 2) = true)) ∧
  -- EVICT
  (∀ (gill : Option Nat) (s : State), MemCanon s → s.shaped = true → (s.bit R.PFX_STATUS_FORMATTED = true ∧ s.bit
    R.PFX_CTRL_EN = true ∧ s.bit R.PFX_STATUS_CORRUPT = false ∧ (s.pfxAsk gill).any (fun q => q.op == 6 && q.resultVa
    == 0 && decide (q.arg < s.nodeTop) && s.dataRange 9 (s.pfxBase + 64 * q.arg) 64 && decide (s.pfxBase % 64 = 0) &&
    (readNode (s.bytes (s.pfxBase + 64 * q.arg) 64)).state && !(readNode (s.bytes (s.pfxBase + 64 * q.arg) 64)).pin &&
    (readNode (s.bytes (s.pfxBase + 64 * q.arg) 64)).refs == 0 && (readNode (s.bytes (s.pfxBase + 64 * q.arg)
    64)).first != 0xFFFF) = true) → Completes (.evict gill) s (fun t => s.pfxAnswered t gill = true ∧ (s.pfxAsk
    gill).all (fun q => t.pfx.blocks == s.pfx.blocks.filter (· != (readNode (s.bytes (s.pfxBase + 64 * q.arg)
    64)).block)) = true ∧ t.fld R.PFX_CNT_EVICT_COUNT = min (s.fld R.PFX_CNT_EVICT_COUNT + 1) (2 ^ 32 - 1))) ∧
  -- WALK
  (∀ (gill : Option Nat) (s : State), MemCanon s → s.shaped = true → (s.bit R.PFX_STATUS_FORMATTED = true ∧ s.bit
    R.PFX_CTRL_EN = true ∧ s.bit R.PFX_STATUS_CORRUPT = false ∧ (s.pfxAsk gill).any (fun q => q.op == 1 && q.resultVa
    == 0 && q.arg == 1 && decide (q.flags < 16) && decide (s.pfxBase % 64 = 0) && s.dataRange 9 (s.pfxBase + 64 *
    (q.flags % 16)) 64 && decide (q.va1 % 2 = 0) && s.dataRange 9 q.va1 2 && decide (0 < leAt (s.bytes q.va1 2) 0 2 ∧
    leAt (s.bytes q.va1 2) 0 2 < 0xFFF0) && (readNode (s.bytes (s.pfxBase + 64 * (q.flags % 16)) 64)).first == 0xFFFF
    && (readNode (s.bytes (s.pfxBase + 64 * (q.flags % 16)) 64)).state) = true) → Completes (.walk gill) s (fun t =>
    s.pfxAnswered t gill = true ∧ t.pfx.reqNo = (s.pfx.reqNo + 1) % 2 ^ 64 ∧ t.fld R.PFX_CNT_WALK_COUNT = min (s.fld
    R.PFX_CNT_WALK_COUNT + 1) (2 ^ 32 - 1) ∧ t.fld R.PFX_CNT_HIT_COUNT = min (s.fld R.PFX_CNT_HIT_COUNT + 1) (2 ^ 32 -
    1))) ∧
  -- INSERT
  (∀ (gill : Option Nat) (s : State), MemCanon s → s.shaped = true → (s.bit R.PFX_STATUS_FORMATTED = true ∧ s.bit
    R.PFX_CTRL_EN = true ∧ s.bit R.PFX_STATUS_CORRUPT = false ∧ (s.pfxAsk gill).any (fun q => q.op == 2 && q.resultVa
    == 0 && q.arg == 1 && decide (q.flags < 16) && decide (s.pfxBase % 64 = 0) && s.dataRange 9 (s.pfxBase + 64 *
    (q.flags % 16)) 64 && decide (q.va1 % 2 = 0) && s.dataRange 9 q.va1 2 && decide (0 < leAt (s.bytes q.va1 2) 0 2 ∧
    leAt (s.bytes q.va1 2) 0 2 < 0xFFF0) && (readNode (s.bytes (s.pfxBase + 64 * (q.flags % 16)) 64)).first == 0xFFFF
    && s.roomFor 1 && decide (s.fld R.PFX_CFG_BLK_4K = 1) && s.dataRange 9 q.va2 4096 && s.dataRange 9 s.pfxBase (2 ^
    22 + 4096 * s.fld R.PFX_NBLK_NBLK) && decide (s.pfxBase % 4096 = 0 ∧ q.va2 % 64 = 0)) = true) → Completes (.insert
    gill) s (fun t => s.pfxAnswered t gill = true ∧ t.pfx.blocks.length = s.pfx.blocks.length + 1 ∧ t.pfx.nodes.length
    = s.pfx.nodes.length + 1 ∧ t.fld R.PFX_CNT_INSERT_COUNT = min (s.fld R.PFX_CNT_INSERT_COUNT + 1) (2 ^ 32 - 1))) ∧
  -- PFX_FORMAT
  (∀ (value : Nat) (s : State), MemCanon s → s.shaped = true → (s.served R.PFX_CTRL.off = true ∧ R.PFX_CTRL_FORMAT.of
    value = 1 ∧ s.bit R.PFX_STATUS_BUSY = false ∧ (s.img.active.bind (fun im => im.mems.find? (·.kind == 3))).any (fun
    m => m.base == s.pfxBase && decide (2 ^ 22 + s.fld R.PFX_NBLK_NBLK * s.blkBytes ≤ m.size)) = true) → Completes
    (.pfxFormat value) s (fun t => t.fld R.PFX_STATUS_FORMATTED = 1 ∧ t.fld R.PFX_CTRL_EN = R.PFX_CTRL_EN.of value ∧
    t.pfx.nodes = [] ∧ t.pfx.blocks = [] ∧ t.pfx.reqNo = 1))

/-- The adapter table. WRITE makes the selected descriptor live with the window's values and the next generation,
STAGE stages it, PUBLISH makes the staged version live, CLEAR empties it; a read shows it; a GATHER of a live
descriptor begins, and ends; PUBLISH by a request publishes. Every clause is about every state whose memory and
register file are canonical and whose tables have the device's lengths, under the conditions the Lean names, and its
conclusion is that the command answers a next state of that kind. Behind it stand the model's own choices of log
entry 59. (R575, R576, R577, R590) -/
def Obligations.AdapterCommands : Prop :=
  -- ADP_WRITE
  (∀ (s : State), MemCanon s → s.shaped = true → (s.served R.ADP_CMD.off = true ∧ (s.adapter (s.fld
    R.ADP_SEL_INDEX)).inPrev = 0 ∧ (4 ≤ s.adpWindow.rank ∧ s.adpWindow.rank ≤ 64 ∧ s.adpWindow.rank % 4 = 0 ∧
    s.adpWindow.ty ≤ 2 ∧ 1 ≤ s.adpWindow.nlayer) ∧ s.dataRange 9 s.adpWindow.liveVa (32 * s.adpWindow.nlayer) = true ∧
    (List.range s.adpWindow.nlayer).all (fun k => layerOk (slice (s.bytes s.adpWindow.liveVa (32 *
    s.adpWindow.nlayer)) (32 * k) 32)) = true) → Completes .adpWrite s (fun t => (t.adapter (s.fld
    R.ADP_SEL_INDEX)).live = true ∧ (t.adapter (s.fld R.ADP_SEL_INDEX)).liveVa = s.adpWindow.liveVa ∧ (t.adapter
    (s.fld R.ADP_SEL_INDEX)).rank = s.adpWindow.rank ∧ (t.adapter (s.fld R.ADP_SEL_INDEX)).gen = ((s.adapter (s.fld
    R.ADP_SEL_INDEX)).gen + 1) % 2 ^ 32)) ∧
  -- ADP_STAGE
  (∀ (s : State), MemCanon s → s.shaped = true → (s.served R.ADP_CMD.off = true ∧ (4 ≤ s.adpWindow.rank ∧
    s.adpWindow.rank ≤ 64 ∧ s.adpWindow.rank % 4 = 0 ∧ s.adpWindow.ty ≤ 2 ∧ 1 ≤ s.adpWindow.nlayer) ∧ s.dataRange 9
    s.adpWindow.stageVa (32 * s.adpWindow.nlayer) = true ∧ (List.range s.adpWindow.nlayer).all (fun k => layerOk
    (slice (s.bytes s.adpWindow.stageVa (32 * s.adpWindow.nlayer)) (32 * k) 32)) = true) → Completes .adpStage s (fun
    t => (t.adapter (s.fld R.ADP_SEL_INDEX)).stage = true ∧ (t.adapter (s.fld R.ADP_SEL_INDEX)).stageVa =
    s.adpWindow.stageVa ∧ (t.adapter (s.fld R.ADP_SEL_INDEX)).live = (s.adapter (s.fld R.ADP_SEL_INDEX)).live)) ∧
  -- ADP_PUBLISH
  (∀ (s : State), MemCanon s → s.shaped = true → (s.served R.ADP_CMD.off = true ∧ (s.adapter (s.fld
    R.ADP_SEL_INDEX)).stage = true ∧ (s.adapter (s.fld R.ADP_SEL_INDEX)).inPrev = 0 ∧ s.fld R.ADP_SEL_INDEX < 1024) →
    Completes .adpPublish s (fun t => (t.adapter (s.fld R.ADP_SEL_INDEX)).live = true ∧ (t.adapter (s.fld
    R.ADP_SEL_INDEX)).stage = false ∧ (t.adapter (s.fld R.ADP_SEL_INDEX)).liveVa = (s.adapter (s.fld
    R.ADP_SEL_INDEX)).stageVa ∧ t.fld R.ADP_CNT_PUBLISHES_COUNT = min (s.fld R.ADP_CNT_PUBLISHES_COUNT + 1) (2 ^ 32 -
    1))) ∧
  -- ADP_CLEAR
  (∀ (s : State), MemCanon s → s.shaped = true → (s.served R.ADP_CMD.off = true ∧ Sparse.sorted s.pfx.adapters = true
    ∧ (s.adapter (s.fld R.ADP_SEL_INDEX)).inPrev = 0 ∧ (s.adapter (s.fld R.ADP_SEL_INDEX)).inLive = 0) → Completes
    .adpClear s (fun t => (t.adapter (s.fld R.ADP_SEL_INDEX)) = {})) ∧
  -- ADP_DESC_READ
  (∀ (s : State), MemCanon s → s.shaped = true → (s.served (R.ADP_DESC 0).off = true) → Completes .adpDescRead s (fun
    t => t.bus.data = leAt (s.adapter (s.fld R.ADP_SEL_INDEX)).bytes 0 4 ∧ t.fld (R.ADP_DESC_DESC 7) = leAt (s.adapter
    (s.fld R.ADP_SEL_INDEX)).bytes 28 4 % 2 ^ 32)) ∧
  -- GATHER
  (∀ (gill : Option Nat) (s : State), MemCanon s → s.shaped = true → ((s.pfxAsk gill).any (fun q => q.op == 8 &&
    decide (q.arg < 1024) && !q.flags.testBit 5 && (s.adapter q.arg).live && decide (0 < q.va2 / 65536 % 65536) &&
    decide (q.va2 % 65536 + q.va2 / 65536 % 65536 ≤ (s.adapter q.arg).nlayer)) = true) → Completes (.gather gill
    false) s (fun t => t.pfx.gather.isSome = true ∧ t.bit R.PFX_STATUS_BUSY = true ∧ (s.pfxAsk gill).all (fun q =>
    (t.adapter q.arg).inLive == (s.adapter q.arg).inLive + 1) = true ∧ t.fld R.ADP_CNT_GATHERS_COUNT = min (s.fld
    R.ADP_CNT_GATHERS_COUNT + 1) (2 ^ 32 - 1))) ∧
  -- GATHER
  (∀ (gill : Option Nat) (s : State), MemCanon s → s.shaped = true → (s.pfx.gather.isSome = true) → Completes (.gather
    gill true) s (fun t => t.pfx.gather = none ∧ t.bit R.PFX_STATUS_BUSY = false)) ∧
  -- PUBLISH
  (∀ (gill : Option Nat) (s : State), MemCanon s → s.shaped = true → ((s.pfxAsk gill).any (fun q => q.op == 9 &&
    q.resultVa == 0 && decide (q.arg < 1024) && (s.adapter q.arg).stage && (s.adapter q.arg).inPrev == 0) = true) →
    Completes (.publish gill) s (fun t => s.pfxAnswered t gill = true ∧ (s.pfxAsk gill).all (fun q => (t.adapter
    q.arg).live && (t.adapter q.arg).liveVa == (s.adapter q.arg).stageVa) = true))

/-- The augmentation unit and the annealer. A job that reads whole and keeps its ranges ends its work with status 0; a
problem that reads whole and passes its checks starts the annealer; a sweep is counted and, after the last, the run
is over; the result is written and ends the work; an abort of a run is kept. Every clause is about every state whose
memory and register file are canonical and whose tables have the device's lengths, under the conditions the Lean
names, and its conclusion is that the command answers a next state of that kind. Behind it stand the model's own
choices of log entries 60, 61. (R579, R597, R605, R607, R610) -/
def Obligations.AugmentAndAnneal : Prop :=
  -- AUG_JOB
  (∀ (w : Work) (va ns : Nat) (s : State), MemCanon s → s.shaped = true → (s.sched.works.find? (fun w => w.handed &&
    ((s.queueOf w.queue).map QueueRec.executor) == some 0xA000 && s.chainsDone.all (fun d => d.work != w.id)) = some w
    ∧ va = w.desc.getD 10 0 + 2 ^ 32 * w.desc.getD 11 0 ∧ va % 64 = 0 ∧ ns = leAt (s.bytes va 64) 0x12 2 ∧ s.dataRange
    10 va (64 + 32 * ns) = true ∧ leAt (s.bytes va 64) 0x10 1 = 0 ∧ jobBad (s.bytes va 64) [] ((List.range ns).map
    (fun k => s.bytes (va + 64 + 32 * k) 32)) = none) → Completes .augJob s (fun t => t.chainsDone.getLast? = some
    ⟨w.id, 0⟩)) ∧
  -- ANNEAL_PROBLEM
  (∀ (s : State), MemCanon s → s.shaped = true → (s.fld R.ANN_STATUS_STATE = 0 ∧ s.hasAnnealer = true ∧
    (s.sched.works.find? (fun w => w.handed && ((s.queueOf w.queue).map QueueRec.executor) == some 0x8000 &&
    s.chainsDone.all (fun d => d.work != w.id))).any (fun w => (s.goodProblem (w.desc.getD 10 0 + 2 ^ 32 *
    (w.desc.getD 11 0 % 256))).isSome) = true) → Completes .annealProblem s (fun t => t.fld R.ANN_STATUS_STATE = 3 ∧
    (s.sched.works.find? (fun w => w.handed && ((s.queueOf w.queue).map QueueRec.executor) == some 0x8000 &&
    s.chainsDone.all (fun d => d.work != w.id))).all (fun w => t.ann.work == some w.id && t.fld R.ANN_WORK_WORK_ID ==
    w.id % 2 ^ 32 && s.goodProblem (w.desc.getD 10 0 + 2 ^ 32 * (w.desc.getD 11 0 % 256)) == some t.ann.prob) = true ∧
    t.ann.sweep = 0 ∧ t.fld R.ANN_SWEEP_SWEEP = 0 ∧ t.ann.reps = (List.range t.ann.prob.replicas).map
    t.ann.prob.init)) ∧
  -- SWEEP_END
  (∀ (s : State), MemCanon s → s.shaped = true → (s.fld R.ANN_STATUS_STATE = 3) → Completes .sweepEnd s (fun t =>
    t.ann.sweep = s.ann.sweep + 1 ∧ t.fld R.ANN_SWEEP_SWEEP = (s.ann.sweep + 1) % 2 ^ 32 ∧ t.fld
    R.ANN_CNT_SWEEPS_COUNT = min (s.fld R.ANN_CNT_SWEEPS_COUNT + 1) (2 ^ 32 - 1) ∧ t.fld R.ANN_STATUS_STATE = (if
    s.ann.prob.sweeps ≤ s.ann.sweep + 1 ∨ s.ann.abort = true then 4 else 3))) ∧
  -- ANN_RESULT_WRITE
  (∀ (s : State), MemCanon s → s.shaped = true → (s.fld R.ANN_STATUS_STATE = 4 ∧ s.ann.work.isSome = true) → Completes
    .annResultWrite s (fun t => t.fld R.ANN_STATUS_STATE = 0 ∧ t.ann.work = none ∧ (t.chainsDone.getLast?.map
    (·.work)) = s.ann.work ∧ t.fld R.ANN_CNT_PROBLEMS_COUNT = min (s.fld R.ANN_CNT_PROBLEMS_COUNT + 1) (2 ^ 32 - 1)))
    ∧
  -- ANN_ABORT
  (∀ (value : Nat) (s : State), MemCanon s → s.shaped = true → (s.served R.ANN_CTRL.off = true ∧ R.ANN_CTRL_ABORT.of
    value = 1 ∧ s.fld R.ANN_STATUS_STATE = 3) → Completes (.annAbort value) s (fun t => t.ann.abort = true))

/-- The timing window and the progress monitor. Arming the window clears its counts and flags, and waits for its work,
or is done at once with MISSED when the work has already begun or is unknown; a stalled channel is shown, counted
and reported once. Every clause is about every state whose memory and register file are canonical and whose tables
have the device's lengths, under the conditions the Lean names, and its conclusion is that the command answers a
next state of that kind. Behind it stand the model's own choices of log entry 53. (R639, R640, R643) -/
def Obligations.TimingEvents : Prop :=
  -- TIMING_WINDOW_ARM
  (∀ (s : State), MemCanon s → s.shaped = true → (s.served R.MESH_TW_CTRL.off = true ∧ (s.sched.works.find? (fun w =>
    w.id % 2 ^ 32 == s.fld R.MESH_TW_WORK_WORK_ID)).any (fun w => !w.handed && w.since.isNone && (w.st == .ready ||
    w.st == .held)) = true) → Completes .timingWindowArm s (fun t => t.rd R.MESH_TW_FLAGS = 0 ∧ t.tw.counts = [] ∧
    t.fld R.MESH_TW_CTRL_OPEN = 0 ∧ t.fld R.MESH_TW_CTRL_DONE = 0 ∧ t.tw.armed = true)) ∧
  -- TIMING_WINDOW_ARM
  (∀ (s : State), MemCanon s → s.shaped = true → (s.served R.MESH_TW_CTRL.off = true ∧ (s.sched.works.find? (fun w =>
    w.id % 2 ^ 32 == s.fld R.MESH_TW_WORK_WORK_ID)).all (fun w => w.handed || w.since.isSome) = true) → Completes
    .timingWindowArm s (fun t => t.tw.counts = [] ∧ t.fld R.MESH_TW_CTRL_OPEN = 0 ∧ t.fld R.MESH_TW_CTRL_DONE = 1 ∧
    t.fld R.MESH_TW_FLAGS_MISSED = 1 ∧ t.tw.armed = false)) ∧
  -- VC_STALL
  (∀ (vc router last : Nat) (s : State), MemCanon s → s.shaped = true → (s.bit R.MESH_PROG_CFG_EN = true ∧ vc < 4 ∧
    router < 64 ∧ last + s.fld R.MESH_PROG_CFG_STALL_US * 1000 ≤ s.now ∧ s.tw.stalls.contains (vc, router, last) =
    false) → Completes (.vcStall vc router last) s (fun t => t.fld R.MESH_PROG_STATUS_VC = vc ∧ t.fld
    R.MESH_PROG_STATUS_ROUTER = router ∧ t.fld R.MESH_PROG_STATUS_LAST_STS = 0x9201 ∧ t.fld R.MESH_PROG_CNT_COUNT =
    min (s.fld R.MESH_PROG_CNT_COUNT + 1) (2 ^ 32 - 1)))

/-- The verdict mailbox. Enabling the ring sets HEAD and DONE and puts a blank into every slot; the writer puts the
next record of crossing 8, in sequence and with room, into slot RSEQ mod N of the ring and into no other byte of
memory, and DONE follows; a good HEAD is taken and makes its records read, a bad one is counted and changes HEAD not
at all; a ring that is ready by level or age makes MBX_READY pending; a cleared interrupt whose condition does not
hold stays clear. Every clause is about every state whose memory and register file are canonical and whose tables
have the device's lengths, under the conditions the Lean names, and its conclusion is that the command answers a
next state of that kind. Behind it stand the model's own choices of log entry 62. (R652, R654, R655, R656, R657,
R660, R661) -/
def Obligations.MailboxRing : Prop :=
  -- MBX_ENABLE
  (∀ (value : Nat) (s : State), MemCanon s → s.shaped = true → (s.served R.MBX_CTRL.off = true ∧ value % 2 = 1 ∧ s.bit
    R.MBX_CTRL_EN = false ∧ s.mbxRefusal = none) → Completes (.mbxEnable value) s (fun t => t.bit R.MBX_CTRL_EN = true
    ∧ t.fld R.MBX_HEAD_HEAD = s.fld R.MBX_RSEQ_NEXT_RSEQ_NEXT ∧ t.fld R.MBX_DONE_DONE = (s.fld
    R.MBX_RSEQ_NEXT_RSEQ_NEXT + 2 ^ 32 - 1) % 2 ^ 32 ∧ (∀ k, k < s.ringN → t.bytes (s.ringVa + 32 * k) 32 = blankRec
    (s.fld R.MBX_RSEQ_NEXT_RSEQ_NEXT) s.ringN k) ∧ ∀ a, a < s.ringVa ∨ s.ringVa + 32 * s.ringN ≤ a → t.byte a = s.byte
    a)) ∧
  -- VERDICT_RECORD_WRITE
  (∀ (s : State), MemCanon s → s.shaped = true → (s.bit R.MBX_CTRL_EN = true ∧ s.pmode = 1 ∧ s.mbxAuto = false ∧
    s.mbx.xing8.head?.any (fun r => decide (seqDist (s.fld R.MBX_DONE_DONE + 1) r.rseq < 0x80000000 ∧ r.rseq < 2 ^ 32
    ∧ seqDist (s.fld R.MBX_HEAD_HEAD) r.rseq < s.ringN)) = true) → Completes .verdictRecordWrite s (fun t =>
    t.mbx.xing8 = s.mbx.xing8.tail ∧ s.mbx.xing8.head?.all (fun r => t.fld R.MBX_DONE_DONE == r.rseq % 2 ^ 32 &&
    t.bytes (s.ringVa + 32 * (r.rseq % s.ringN)) 32 == r.layout) = true ∧ t.fld R.MBX_CNT_WRITTEN_COUNT = min (s.fld
    R.MBX_CNT_WRITTEN_COUNT + 1) (2 ^ 32 - 1) ∧ ∀ a, s.mbx.xing8.head?.all (fun r => decide (a < s.ringVa + 32 *
    (r.rseq % s.ringN) ∨ s.ringVa + 32 * (r.rseq % s.ringN) + 32 ≤ a)) = true → t.byte a = s.byte a)) ∧
  -- MBX_HEAD_WRITE
  (∀ (value : Nat) (s : State), MemCanon s → s.shaped = true → (s.served R.MBX_HEAD.off = true ∧ seqDist (s.fld
    R.MBX_HEAD_HEAD) value ≤ s.mbxLevel) → Completes (.mbxHeadWrite value) s (fun t => t.fld R.MBX_HEAD_HEAD = value %
    2 ^ 32 ∧ t.mbx.unread = s.mbx.unread.filter (fun u => decide (seqDist value u.1 < 2 ^ 31)) ∧ t.fld
    R.MBX_CNT_HEAD_BAD_COUNT = s.fld R.MBX_CNT_HEAD_BAD_COUNT)) ∧
  -- MBX_HEAD_WRITE
  (∀ (value : Nat) (s : State), MemCanon s → s.shaped = true → (s.served R.MBX_HEAD.off = true ∧ s.mbxLevel < seqDist
    (s.fld R.MBX_HEAD_HEAD) value) → Completes (.mbxHeadWrite value) s (fun t => t.fld R.MBX_HEAD_HEAD = s.fld
    R.MBX_HEAD_HEAD ∧ t.mbx = s.mbx ∧ t.fld R.MBX_CNT_HEAD_BAD_COUNT = min (s.fld R.MBX_CNT_HEAD_BAD_COUNT + 1) (2 ^
    32 - 1))) ∧
  -- MBX_READY_AGE
  (∀ (s : State), MemCanon s → s.shaped = true → (s.mbxReady = true) → Completes .mbxReadyAge s (fun t => (t.fld
    R.MBX_IRQ_PEND_PEND).testBit 0 = true)) ∧
  -- IRQ_PEND_CLEAR
  (∀ (value : Nat) (s : State), MemCanon s → s.shaped = true → (s.served R.MBX_IRQ_PEND.off = true ∧ s.mbxReady =
    false) → Completes (.irqPendClear value) s (fun t => t.fld R.MBX_IRQ_PEND_PEND = s.fld R.MBX_IRQ_PEND_PEND -
    (s.fld R.MBX_IRQ_PEND_PEND &&& value)))

/-- The work ring, BAR2, the host window and the run set. A good doorbell moves TAIL and an entry at HEAD is read and
submitted; a write through BAR2 changes the bytes it covers and no others and a read answers them; the oldest posted
write of the host window leaves or fails, and what the host's completions show stands in its memory; SAVE waits for
the flash port, a run set of another image is refused and an empty run set is applied. Every clause is about every
state whose memory and register file are canonical and whose tables have the device's lengths, under the conditions
the Lean names, and its conclusion is that the command answers a next state of that kind. Behind it stand the
model's own choices of log entries 63, 64. (R647, R648, R650, R651, R662, R663, R666, R667) -/
def Obligations.HostAccess : Prop :=
  -- WQ_DOORBELL
  (∀ (value : Nat) (s : State), MemCanon s → s.shaped = true → (s.served R.MBX_WQ_TAIL.off = true ∧ value < 2 ^ 32 ∧
    seqDist (s.fld R.MBX_WQ_HEAD_HEAD) value ≤ s.wqN ∧ seqDist (s.fld R.MBX_WQ_HEAD_HEAD) (s.fld R.MBX_WQ_TAIL_TAIL) ≤
    seqDist (s.fld R.MBX_WQ_HEAD_HEAD) value) → Completes (.wqDoorbell value) s (fun t => t.fld R.MBX_WQ_TAIL_TAIL =
    value)) ∧
  -- WQ_ENTRY_SUBMIT
  (∀ (s : State), MemCanon s → s.shaped = true → (s.bit R.MBX_WQ_CTRL_EN = true ∧ s.fld R.MBX_WQ_HEAD_HEAD ≠ s.fld
    R.MBX_WQ_TAIL_TAIL ∧ s.pmode = 1 ∧ s.bit R.SCHED_STATUS_ADMIT_OPEN = false ∧ s.sched.incs = [] ∧ s.dataRange 5
    (s.pair R.MBX_WQ_BASE_LO_BASE_LO R.MBX_WQ_BASE_HI_BASE_HI + 64 * (s.fld R.MBX_WQ_HEAD_HEAD % s.wqN)) 64 = true ∧
    (s.pair R.MBX_WQ_BASE_LO_BASE_LO R.MBX_WQ_BASE_HI_BASE_HI + 64 * (s.fld R.MBX_WQ_HEAD_HEAD % s.wqN)) % 64 = 0) →
    Completes .wqEntrySubmit s (fun t => t.fld R.MBX_WQ_HEAD_HEAD = (s.fld R.MBX_WQ_HEAD_HEAD + 1) % 2 ^ 32 ∧
    t.sched.held = s.sched.held ++ [⟨0, (List.range 16).map (fun j => leAt (s.bytes (s.pair R.MBX_WQ_BASE_LO_BASE_LO
    R.MBX_WQ_BASE_HI_BASE_HI + 64 * (s.fld R.MBX_WQ_HEAD_HEAD % s.wqN)) 64) (4 * j) 4), true⟩])) ∧
  -- BAR2_ACCESS
  (∀ (off len : Nat) (data : Option (List Byte)) (s : State), MemCanon s → s.shaped = true → (data.isSome = true ∧
    s.barOpen = true ∧ off + (data.getD []).length ≤ 2 ^ s.mbx.barLog2 ∧ s.img.active.isSome = true ∧ s.dataRange 5
    (s.bar2Va off) (data.getD []).length = true) → Completes (.bar2Access off len data) s (fun t => t.bytes (s.bar2Va
    off) (data.getD []).length = data.getD [] ∧ ∀ a, a < s.bar2Va off ∨ s.bar2Va off + (data.getD []).length ≤ a →
    t.byte a = s.byte a)) ∧
  -- BAR2_ACCESS
  (∀ (off len : Nat) (data : Option (List Byte)) (s : State), MemCanon s → s.shaped = true → (data = none ∧ s.barOpen
    = true ∧ off + len ≤ 2 ^ s.mbx.barLog2 ∧ s.img.active.isSome = true ∧ s.dataRange 5 (s.bar2Va off) len = true) →
    Completes (.bar2Access off len data) s (fun t => t.mbx.bar2Data = s.bytes (s.bar2Va off) len ∧ t.mem = s.mem)) ∧
  -- HOST_WINDOW_ACCESS
  (∀ (answer : Option (Nat × List Byte)) (s : State), MemCanon s → s.shaped = true → (answer = none ∧ s.mbx.hwPosted ≠
    [] ∧ s.bit R.MBX_LINK_UP = true) → Completes (.hostWindowAccess answer) s (fun t => t.mbx.hwPosted =
    s.mbx.hwPosted.tail ∧ s.mbx.hwPosted.head?.all (fun w => t.out == Out.hostWrite w.bus w.data :: s.out) = true)) ∧
  -- HOST_WINDOW_ACCESS
  (∀ (answer : Option (Nat × List Byte)) (a : Nat) (v : Byte) (s : State), MemCanon s → s.shaped = true → (answer =
    some (a, [v])) → Completes (.hostWindowAccess answer) s (fun t => t.mbx.hostMem.find? (fun e => e.1 == a) = some
    (a, v) ∧ t.mbx.hwPosted = s.mbx.hwPosted ∧ t.mem = s.mem)) ∧
  -- HOST_WINDOW_TIMEOUT
  (∀ (write : Bool) (cause : Nat) (s : State), MemCanon s → s.shaped = true → (write = true ∧ 1 ≤ cause ∧ cause ≤ 3 ∧
    s.mbx.hwPosted ≠ [] ∧ (cause = 1 → s.hwOverdue = true)) → Completes (.hostWindowTimeout write cause) s (fun t =>
    t.mbx.hwPosted = s.mbx.hwPosted.tail ∧ t.mbx.hostMem = s.mbx.hostMem ∧ t.fld R.MBX_CNT_HWIN_FAULT_COUNT = min
    (s.fld R.MBX_CNT_HWIN_FAULT_COUNT + 1) (2 ^ 32 - 1))) ∧
  -- HOST_WINDOW_TIMEOUT
  (∀ (write : Bool) (cause : Nat) (s : State), MemCanon s → s.shaped = true → (write = false ∧ 1 ≤ cause ∧ cause ≤ 3)
    → Completes (.hostWindowTimeout write cause) s (fun t => t.mbx.hwFail = some cause ∧ t.mbx.hwPosted =
    s.mbx.hwPosted)) ∧
  -- RUNSET_SAVE
  (∀ (autoApply runAuto : Bool) (s : State), MemCanon s → s.shaped = true → (s.served R.MBX_RUNSET_CTRL.off = true ∧
    s.img.active.isSome = true) → Completes (.runsetSave autoApply runAuto) s (fun t => t.bit
    R.MBX_RUNSET_STATUS_SAVE_PENDING = true ∧ t.mbx.runNew.any (fun r => r.2.1 == autoApply) = true)) ∧
  -- RUNSET_APPLY
  (∀ (s : State), MemCanon s → s.shaped = true → (s.served R.MBX_RUNSET_CTRL.off = true ∧ s.mbx.runValid = true ∧
    s.img.active.isSome = true ∧ s.words8 R.BOOT_IMG_DIGEST_DIGEST ≠ s.mbx.runDigest) → Completes .runsetApply s (fun
    t => t.bit R.MBX_RUNSET_STATUS_APPLIED = false ∧ t.fld R.MBX_RUNSET_STATUS_LAST_STS = 0xC00B)) ∧
  -- RUNSET_APPLY
  (∀ (s : State), MemCanon s → s.shaped = true → (s.served R.MBX_RUNSET_CTRL.off = true ∧ s.mbx.runValid = true ∧
    s.img.active.isSome = true ∧ s.words8 R.BOOT_IMG_DIGEST_DIGEST = s.mbx.runDigest ∧ (runAll s.mbx.runRegs
    s.runSteps (s.setB R.MBX_RUNSET_STATUS_APPLIED false)).1 = none) → Completes .runsetApply s (fun t => t = (runAll
    s.mbx.runRegs s.runSteps (s.setB R.MBX_RUNSET_STATUS_APPLIED false)).2.setB R.MBX_RUNSET_STATUS_APPLIED true))

/-- The link, configuration space and errors of the host interface. PERST# is released; a trained link shows its speed
and width; a configuration write sets bus mastering, D3 and Memory Space Enable; an uncorrectable error is counted.
Every clause is about every state whose memory and register file are canonical and whose tables have the device's
lengths, under the conditions the Lean names, and its conclusion is that the command answers a next state of that
kind. Behind it stand the model's own choices of log entry 63. (R644, R664, R668) -/
def Obligations.HostLink : Prop :=
  -- PERST_RELEASE
  (∀ (refclk : Bool) (s : State), MemCanon s → s.shaped = true → (s.mbx.perst = true) → Completes (.perstRelease
    refclk) s (fun t => t.mbx.perst = false ∧ t.mbx.refclk = (s.mbx.refclk || refclk))) ∧
  -- PCIE_LINK_UP
  (∀ (speed width : Nat) (s : State), MemCanon s → s.shaped = true → (s.mbx.perst = false ∧ s.pwr.inReset = false ∧ 1
    ≤ speed ∧ speed ≤ 4 ∧ width ∈ [1, 2, 4, 8] ∧ (s.fld R.CLK_STATUS_RUNNING).testBit 3 = true) → Completes
    (.pcieLinkUp speed width) s (fun t => t.fld R.MBX_LINK_UP = 1 ∧ t.fld R.MBX_LINK_SPEED = speed ∧ t.fld
    R.MBX_LINK_WIDTH = width)) ∧
  -- CONFIG_SPACE_WRITE
  (∀ (w : ConfigWrite) (s : State), MemCanon s → s.shaped = true → (s.cfgOpen = true) → Completes (.configSpaceWrite
    w) s (fun t => t.fld R.MBX_HSTATUS_D3 = w.d3.toNat ∧ t.fld R.MBX_HSTATUS_BME = w.bme.toNat ∧ t.mbx.mse = w.mse ∧
    t.mbx.msixEn = w.msixEn ∧ t.mbx.msixMask = w.msixMask)) ∧
  -- AER_ERROR
  (∀ (bit : Nat) (s : State), MemCanon s → s.shaped = true → Completes (.aerError bit) s (fun t => t.fld
    R.MBX_CNT_PCIE_ERR_COUNT = min (s.fld R.MBX_CNT_PCIE_ERR_COUNT + 1) (2 ^ 32 - 1)))

/-- The SPI controller. A good entry is queued; an entry starts when the controller is enabled, idle and has room for
its completion, leaves on the bus, and ends with a completion record; an abort stops what runs and skips what waits.
Every clause is about every state whose memory and register file are canonical and whose tables have the device's
lengths, under the conditions the Lean names, and its conclusion is that the command answers a next state of that
kind. Behind it stand the model's own choices of log entry 67. (R683, R684, R686, R687, R689) -/
def Obligations.SpiCommands : Prop :=
  -- SPI_PUSH
  (∀ (value : Nat) (s : State), MemCanon s → s.shaped = true → (s.served R.SPI_PUSH.off = true ∧ R.SPI_PUSH_GO.of
    value = 1 ∧ 4 ≤ (⟨(s.rd R.SPI_ENT0).toNat, (s.rd R.SPI_ENT1).toNat, (s.rd R.SPI_ENT2).toNat⟩ : SpiEntry).bits ∧ 0
    < (⟨(s.rd R.SPI_ENT0).toNat, (s.rd R.SPI_ENT1).toNat, (s.rd R.SPI_ENT2).toNat⟩ : SpiEntry).count ∧ (⟨(s.rd
    R.SPI_ENT0).toNat, (s.rd R.SPI_ENT1).toNat, (s.rd R.SPI_ENT2).toNat⟩ : SpiEntry).count ≤ 256 ∧ ((⟨(s.rd
    R.SPI_ENT0).toNat, (s.rd R.SPI_ENT1).toNat, (s.rd R.SPI_ENT2).toNat⟩ : SpiEntry).statChk = true → (⟨(s.rd
    R.SPI_ENT0).toNat, (s.rd R.SPI_ENT1).toNat, (s.rd R.SPI_ENT2).toNat⟩ : SpiEntry).status = true) ∧
    (s.spi.queue.getLast?.or s.spi.running).all (fun p => !p.chain) = true ∧ s.spi.queue.length < 32) → Completes
    (.spiPush value) s (fun t => t.spi.queue = s.spi.queue ++ [(⟨(s.rd R.SPI_ENT0).toNat, (s.rd R.SPI_ENT1).toNat,
    (s.rd R.SPI_ENT2).toNat⟩ : SpiEntry)])) ∧
  -- SPI_ENTRY_START
  (∀ (s : State), MemCanon s → s.shaped = true → (s.spi.queue.head?.any (fun e => !e.chain) = true ∧ s.bit
    R.SPI_CTRL_EN = true ∧ s.spi.running = none ∧ s.spi.cpl.length < 32) → Completes .spiEntryStart s (fun t =>
    t.spi.running = s.spi.queue.head? ∧ t.spi.queue = s.spi.queue.tail ∧ t.out.length = s.out.length + 1)) ∧
  -- SPI_ENTRY_END
  (∀ (status : Nat) (rx : List Nat) (s : State), MemCanon s → s.shaped = true → (s.spi.running.any (fun e =>
    !e.status) = true) → Completes (.spiEntryEnd status rx) s (fun t => t.spi.running = none ∧ t.spi.cpl.length =
    s.spi.cpl.length + 1 ∧ t.spi.queue = s.spi.queue ∧ t.fld R.SPI_CNT_ENTRIES_COUNT = min (s.fld
    R.SPI_CNT_ENTRIES_COUNT + 1) (2 ^ 32 - 1))) ∧
  -- SPI_ABORT
  (∀ (value edges status : Nat) (rx : List Nat) (s : State), MemCanon s → s.shaped = true → (s.served R.SPI_CTRL.off =
    true ∧ R.SPI_CTRL_ABORT.of value = 1) → Completes (.spiAbort value edges status rx) s (fun t => t.spi.running =
    none ∧ t.spi.queue = [] ∧ t.fld R.SPI_CTRL_EN = R.SPI_CTRL_EN.of value))

/-- The I2C port. A good command is queued; it starts on a free bus, leaves on the bus, and ends; a lost arbitration
is counted and the command waits again; a stretched clock ends it; the target stores and answers transactions and
logs them; a committed window appears at once on a free bus, else at the next START; an abort stops the controller.
Every clause is about every state whose memory and register file are canonical and whose tables have the device's
lengths, under the conditions the Lean names, and its conclusion is that the command answers a next state of that
kind. Behind it stand the model's own choices of log entry 67. (R690, R691, R692, R693, R694, R697, R698, R699,
R700, R702, R704) -/
def Obligations.I2cCommands : Prop :=
  -- I2C_PUSH
  (∀ (value : Nat) (s : State), MemCanon s → s.shaped = true → (s.served R.I2C_PUSH.off = true ∧ R.I2C_PUSH_GO.of
    value = 1 ∧ (0 < (⟨(s.rd R.I2C_CMD0).toNat, (s.rd R.I2C_CMD1).toNat, false⟩ : I2cCmd).wlen ∨ 0 < (⟨(s.rd
    R.I2C_CMD0).toNat, (s.rd R.I2C_CMD1).toNat, false⟩ : I2cCmd).rlen) ∧ (⟨(s.rd R.I2C_CMD0).toNat, (s.rd
    R.I2C_CMD1).toNat, false⟩ : I2cCmd).block = false ∧ s.bit R.I2C_CTRL_TEN = false ∧ s.i2c.queue.length < 16) →
    Completes (.i2cPush value) s (fun t => t.i2c.queue = s.i2c.queue ++ [(⟨(s.rd R.I2C_CMD0).toNat, (s.rd
    R.I2C_CMD1).toNat, false⟩ : I2cCmd)])) ∧
  -- I2C_COMMAND_START
  (∀ (pulses : Nat) (s : State), MemCanon s → s.shaped = true → (s.i2c.queue ≠ [] ∧ s.bit R.I2C_CTRL_CEN = true ∧
    s.i2c.running = false ∧ s.i2c.cpl.length < 16 ∧ s.i2c.busFree = true ∧ pulses ≤ 9) → Completes (.i2cCommandStart
    pulses) s (fun t => t.i2c.running = true ∧ t.i2c.queue = s.i2c.queue.tail ∧ t.i2c.seq.length = s.i2c.seq.length +
    1 ∧ t.bit R.I2C_STATUS_BUS_BUSY = true ∧ t.out.length = s.out.length + 1)) ∧
  -- I2C_COMMAND_END
  (∀ (r : I2cResult) (s : State), MemCanon s → s.shaped = true → (s.i2c.running = true ∧ s.i2c.seq.getLast?.any (fun c
    => !c.nostop && !c.recorded) = true) → Completes (.i2cCommandEnd r) s (fun t => t.i2c.running = false ∧ t.i2c.seq
    = [] ∧ t.i2c.cpl.length = s.i2c.cpl.length + 1 ∧ t.bit R.I2C_STATUS_CTL_ACTIVE = false)) ∧
  -- ARBITRATION_LOST
  (∀ (byte bit : Nat) (winner : Option (Nat × Bool)) (s : State), MemCanon s → s.shaped = true → (s.i2c.running = true
    ∧ s.i2c.seq ≠ [] ∧ s.i2c.retries + 1 ≤ s.fld R.I2C_CFG_RETRY_MAX) → Completes (.arbitrationLost byte bit winner) s
    (fun t => t.i2c.running = false ∧ t.i2c.queue = s.i2c.seq ++ s.i2c.queue ∧ t.i2c.retries = s.i2c.retries + 1 ∧
    t.fld R.I2C_CNT_ARB_LOST_COUNT = min (s.fld R.I2C_CNT_ARB_LOST_COUNT + 1) (2 ^ 32 - 1))) ∧
  -- SCL_TIMEOUT
  (∀ (s : State), MemCanon s → s.shaped = true → (s.i2c.running = true ∧ s.i2c.seq ≠ [] ∧ s.bit R.I2C_CFG_SMBUS =
    true) → Completes .sclTimeout s (fun t => t.i2c.running = false ∧ t.i2c.seq = [] ∧ t.fld R.I2C_STATUS_LAST_STS =
    0xD107 ∧ t.bit R.I2C_STATUS_BUS_BUSY = true)) ∧
  -- BUS_FREE
  (∀ (s : State), MemCanon s → s.shaped = true → (s.i2c.running = false ∧ s.bit R.I2C_STATUS_HOLDING = false) →
    Completes .busFree s (fun t => t.i2c.busFree = true ∧ t.bit R.I2C_STATUS_BUS_BUSY = false)) ∧
  -- TARGET_TRANSACTION
  (∀ (read : Bool) (bytes : List Byte) (count : Nat) (s : State), MemCanon s → s.shaped = true → (s.bit R.I2C_CTRL_TEN
    = true ∧ read = true) → Completes (.targetTransaction read bytes count) s (fun t => t.i2c.tptr = min (s.i2c.tptr +
    count) 0x100 ∧ t.bit R.I2C_STATUS_TGT_ACTIVE = true ∧ t.i2c.tgt = some ⟨true, s.i2c.tptr, count, false, false, []⟩
    ∧ t.out.length = s.out.length + 1)) ∧
  -- TARGET_TRANSACTION_END
  (∀ (repeated : Bool) (s : State), MemCanon s → s.shaped = true → (s.i2c.tgt.isSome = true) → Completes
    (.targetTransactionEnd repeated) s (fun t => t.i2c.tgt = none ∧ t.bit R.I2C_STATUS_TGT_ACTIVE = false ∧ t.fld
    R.I2C_CNT_TGT_TXN_COUNT = min (s.fld R.I2C_CNT_TGT_TXN_COUNT + 1) (2 ^ 32 - 1))) ∧
  -- TWIN_COMMIT
  (∀ (s : State), MemCanon s → s.shaped = true → (s.served R.I2C_CTRL.off = true ∧ s.i2c.busFree = true) → Completes
    .twinCommit s (fun t => t.i2c.waiting = none ∧ (∀ k ∈ List.range 32, t.fld (R.I2C_TWIN_LIVE_DATA k) = s.fld
    (R.I2C_TWIN_DATA k)))) ∧
  -- I2C_ABORT
  (∀ (value written read : Nat) (s : State), MemCanon s → s.shaped = true → (s.served R.I2C_CTRL.off = true ∧
    R.I2C_CTRL_ABORT.of value = 1) → Completes (.i2cAbort value written read) s (fun t => t.i2c.running = false ∧
    t.i2c.queue = [] ∧ t.i2c.seq = [])) ∧
  -- I2C_BUS_START
  (∀ (s : State), MemCanon s → s.shaped = true → Completes .i2cBusStart s (fun t => t.i2c.busFree = false ∧ t.bit
    R.I2C_STATUS_BUS_BUSY = true ∧ t.i2c.waiting = none)) ∧
  -- TARGET_SCL_TIMEOUT
  (∀ (s : State), MemCanon s → s.shaped = true → (s.i2c.tgt.isSome = true) → Completes .targetSclTimeout s (fun t =>
    t.i2c.tgt = none ∧ t.fld R.I2C_STATUS_LAST_STS = 0xD107))

/-- The journal. A record that fits is staged with the next number; a full page, an aged record or FLUSH programs the
staged records into the page at the write pointer and moves it on; the oldest subsector is erased; counters are
staged in time; the final page ends the flash; a page is read back; a long deferral is told once. Every clause is
about every state whose memory and register file are canonical and whose tables have the device's lengths, under the
conditions the Lean names, and its conclusion is that the command answers a next state of that kind. Behind it stand
the model's own choices of log entries 65, 66. (R708, R710, R711, R712, R713, R716, R723) -/
def Obligations.JournalCommands : Prop :=
  -- STAGE_RECORD
  (∀ (ty : Nat) (body : List Byte) (s : State), MemCanon s → s.shaped = true → (2 ≤ ty ∧ ty ≤ 9 ∧ s.stageFits ty ([0,
    1, 3, 8, 4, 2, 2, 1, 2, 1].getD ty 1) = true) → Completes (.stageRecord ty body) s (fun t => t.jrn.staging.length
    = s.jrn.staging.length + 1 ∧ t.jrn.jseq = s.jrn.jseq + 1 ∧ t.jrn.staging.getLast?.any (fun r => r.ty == ty &&
    r.body == body && r.jseq == s.jrn.jseq) = true)) ∧
  -- PAGE_PROGRAM
  (∀ (ok : Bool) (s : State), MemCanon s → s.shaped = true → (s.jrnRuns = true ∧ s.jrn.flashOff = false ∧
    s.jrn.deferring = false ∧ 65 < s.jrn.runway ∧ s.energyOk 15 = true ∧ s.jrn.stageDrop = 0 ∧ s.pageReady.1 ≠ [] ∧
    s.pageReady.2 = true) → Completes (.pageProgram ok) s (fun t => t.jrn.wr = skipSpoiled s.jrn.spoiled
    s.jrn.spoiled.length ((s.jrn.wr + 1) % ringPages) ∧ t.jrn.runway = s.jrn.runway - 1 ∧ t.fld R.JRN_CNT_PAGES_COUNT
    = min (s.fld R.JRN_CNT_PAGES_COUNT + 1) (2 ^ 32 - 1) ∧ (ok = true → t.jrn.staging = s.jrn.staging.drop
    s.pageReady.1.length ∧ t.jrn.pages.any (fun p => p.1 == s.jrn.wr && p.2 == pageBytes s.pageReady.1) = true))) ∧
  -- FLUSH_MS_EXPIRY
  (∀ (ok : Bool) (s : State), MemCanon s → s.shaped = true → (s.jrnRuns = true ∧ s.jrn.flashOff = false ∧
    s.jrn.deferring = false ∧ 65 < s.jrn.runway ∧ s.energyOk 15 = true ∧ s.jrn.stageDrop = 0 ∧ s.pageReady.1 ≠ [] ∧
    s.jrn.staging.head?.any (fun r => r.start != s.jrn.startCnt || decide (r.mono + s.fld R.JRN_CFG_FLUSH_MS * 1000000
    ≤ s.time.mono)) = true) → Completes (.flushMsExpiry ok) s (fun t => t.jrn.wr = skipSpoiled s.jrn.spoiled
    s.jrn.spoiled.length ((s.jrn.wr + 1) % ringPages) ∧ t.jrn.runway = s.jrn.runway - 1 ∧ t.fld R.JRN_CNT_PAGES_COUNT
    = min (s.fld R.JRN_CNT_PAGES_COUNT + 1) (2 ^ 32 - 1) ∧ (ok = true → t.jrn.staging = s.jrn.staging.drop
    s.pageReady.1.length ∧ t.jrn.pages.any (fun p => p.1 == s.jrn.wr && p.2 == pageBytes s.pageReady.1) = true))) ∧
  -- JOURNAL_FLUSH
  (∀ (ok : Bool) (s : State), MemCanon s → s.shaped = true → (s.served R.JRN_CTRL.off = true ∧ s.jrnRuns = true ∧
    s.jrn.flashOff = false ∧ s.jrn.deferring = false ∧ 65 < s.jrn.runway ∧ s.energyOk 15 = true ∧ s.jrn.stageDrop = 0
    ∧ s.pageReady.1 ≠ []) → Completes (.journalFlush ok) s (fun t => t.jrn.wr = skipSpoiled s.jrn.spoiled
    s.jrn.spoiled.length ((s.jrn.wr + 1) % ringPages) ∧ t.jrn.runway = s.jrn.runway - 1 ∧ t.fld R.JRN_CNT_PAGES_COUNT
    = min (s.fld R.JRN_CNT_PAGES_COUNT + 1) (2 ^ 32 - 1) ∧ (ok = true → t.jrn.staging = s.jrn.staging.drop
    s.pageReady.1.length ∧ t.jrn.pages.any (fun p => p.1 == s.jrn.wr && p.2 == pageBytes s.pageReady.1) = true))) ∧
  -- DEFER_LONG
  (∀ (s : State), MemCanon s → s.shaped = true → (s.jrn.deferring = true ∧ s.jrn.deferLong = false ∧ s.jrn.deferAt +
    2000000000 ≤ s.now) → Completes .deferLong s (fun t => t.jrn.deferLong = true ∧ t.fld R.JRN_STATUS_LAST_STS =
    0xE002)) ∧
  -- SUBSECTOR_ERASE
  (∀ (ok : Bool) (s : State), MemCanon s → s.shaped = true → (s.jrnRuns = true ∧ s.jrn.runway < 128 ∧ s.jrn.flashOff =
    false ∧ s.energyOk 1 = true) → Completes (.subsectorErase ok) s (fun t => t.jrn.oldest = (s.jrn.oldest + 1) %
    ringSubs ∧ t.fld R.JRN_CNT_ERASES_COUNT = min (s.fld R.JRN_CNT_ERASES_COUNT + 1) (2 ^ 32 - 1) ∧ (ok = true →
    t.jrn.runway = s.jrn.runway + 16) ∧ (ok = false → t.fld R.JRN_STATUS_LAST_STS = 0xE007))) ∧
  -- COUNTERS_RECORD
  (∀ (s : State), MemCanon s → s.shaped = true → (s.jrnRuns = true ∧ s.jrn.cntAt + s.fld R.JRN_CFG_CNT_S * 1000000000
    ≤ s.now ∧ s.stageFits 2 3 = true) → Completes .countersRecord s (fun t => t.jrn.staging.length =
    s.jrn.staging.length + 1 ∧ t.jrn.cntAt = s.now ∧ t.jrn.staging.getLast?.any (fun r => r.ty == 2 && r.body ==
    s.countersBody) = true)) ∧
  -- EJECT_TAIL_RECORD
  (∀ (s : State), MemCanon s → s.shaped = true → (s.jrnRuns = true ∧ s.jrn.tailSent ≤ s.mot.log.total ∧
    s.mot.log.total ≤ s.jrn.tailSent + 1024) → Completes .ejectTailRecord s (fun t => t.jrn.tailSent =
    s.mot.log.total)) ∧
  -- HOLDUP_FINAL_PAGE
  (∀ (f : PageFact) (s : State), MemCanon s → s.shaped = true → (s.jrn.holdup = true ∧ s.jrn.flashOff = false ∧
    s.ejActive = false) → Completes (.holdupFinalPage f) s (fun t => t.jrn.flashOff = true ∧ t.fld R.PWR_HOLDUP_E_MJ =
    f.emj % 2 ^ 16)) ∧
  -- JOURNAL_READ
  (∀ (s : State), MemCanon s → s.shaped = true → (s.served R.JRN_RD_CTRL.off = true ∧ s.jrn.flashOff = false ∧
    (s.jrn.pages.find? (fun e => e.1 == s.fld R.JRN_RD_OFS_PAGE)).any (fun e => e.2 != []) = true) → Completes
    .journalRead s (fun t => t.fld R.JRN_RD_CTRL_DONE = 1 ∧ (s.jrn.pages.find? (fun e => e.1 == s.fld
    R.JRN_RD_OFS_PAGE)).all (fun e => (List.range 64).all (fun k => t.fld (R.JRN_RD_DATA_DATA k) == leAt e.2 (4 * k)
    4)) = true)) ∧
  -- FIELD_MAP_COPIES_WRITTEN
  (∀ (s : State), MemCanon s → s.shaped = true → (s.flashReady 2 = true ∧ s.jrn.reqs.length = 1) → Completes
    .fieldMapCopiesWritten s (fun t => t.bit R.BOOT_FMAP_STATUS_WRITE_PENDING = false ∧ t.jrn.reqs = [])) ∧
  -- RUN_SET_STORED
  (∀ (s : State), MemCanon s → s.shaped = true → (s.flashReady 4 = true ∧ s.jrn.reqs.length = 1 ∧ s.mbx.runNew.isSome
    = true) → Completes .runSetStored s (fun t => t.bit R.MBX_RUNSET_STATUS_SAVE_PENDING = false ∧ t.bit
    R.MBX_RUNSET_STATUS_VALID = true ∧ t.mbx.runValid = true ∧ t.mbx.runNew = none ∧ s.mbx.runNew.all (fun r =>
    t.mbx.runRegs == r.2.2) = true))

/-- Events of the supplies, the wires, the switches and the lanes. A PTP port shows its link; a supply's LOW flag goes
when it has risen; wires that agree again are no longer apart; sleep blocks take the receive directions down; the
MOTION copy follows again; a switch's position is sensed; PRBS lock comes and goes; a camera event is counted. Every
clause is about every state whose memory and register file are canonical and whose tables have the device's lengths,
under the conditions the Lean names, and its conclusion is that the command answers a next state of that kind.
Behind it stand the model's own choices of log entries 1, 73. (R354, R107, R296, R381, R346, R92, R94, R375, R239) -/
def Obligations.RemainingEvents : Prop :=
  -- ETHERNET_LINK_CHANGE
  (∀ (port : Nat) (link : Bool) (s : State), MemCanon s → s.shaped = true → (port < 2 ∧ s.pwr.inReset = false) →
    Completes (.ethernetLinkChange port link) s (fun t => t.bit (R.PTP_PORT_STATUS_LINK port) = link)) ∧
  -- SUPPLY_LOW_CLEARED
  (∀ (which : Nat) (s : State), MemCanon s → s.shaped = true → (which = 0) → Completes (.supplyLowCleared which) s
    (fun t => t.bit R.PWR_MOD_STATUS_VEJ_A_LOW = false ∧ t.bit R.PWR_MOD_STATUS_VEJ_B_LOW = s.bit
    R.PWR_MOD_STATUS_VEJ_B_LOW)) ∧
  -- SUPPLY_LOW_CLEARED
  (∀ (which : Nat) (s : State), MemCanon s → s.shaped = true → (which = 1) → Completes (.supplyLowCleared which) s
    (fun t => t.bit R.PWR_MOD_STATUS_VEJ_B_LOW = false ∧ t.bit R.PWR_MOD_STATUS_VEJ_A_LOW = s.bit
    R.PWR_MOD_STATUS_VEJ_A_LOW)) ∧
  -- SUPPLY_LOW_CLEARED
  (∀ (which : Nat) (s : State), MemCanon s → s.shaped = true → (which = 2) → Completes (.supplyLowCleared which) s
    (fun t => t.bit R.PWR_MOD_STATUS_VCAM_LOW = false)) ∧
  -- WIRE_DISAGREE_END
  (∀ (chan pair : Nat) (s : State), MemCanon s → s.shaped = true → (chan < 4 ∧ s.pwr.lost = false) → Completes
    (.wireDisagreeEnd chan pair) s (fun t => (t.ch chan).apart = maskOff (s.ch chan).apart (2 ^ pair))) ∧
  -- SLEEP_BLOCKS_RECEIVED
  (∀ (side state : Nat) (s : State), MemCanon s → s.shaped = true → (side < 2 ∧ s.linkUp side = true ∧ (state = 1 ∨
    state = 2)) → Completes (.sleepBlocksReceived side state) s (fun t => t.link side = 3 ∧ (t.side side).rxSleep =
    true ∧ (sideLanes side).all (fun l => t.rxOf l == state) = true)) ∧
  -- TIME_VALUES_RESUME
  (∀ (s : State), MemCanon s → s.shaped = true → (s.time.copy.any (fun c => !c.2.2) = true ∧ s.time.runs = true) →
    Completes .timeValuesResume s (fun t => s.motNow ≤ t.motNow ∧ t.time.copy.all (fun c => c.2.2) = true)) ∧
  -- SWITCH_POSITION_REACHED
  (∀ (ring : Bool) (s : State), MemCanon s → s.shaped = true → (ring = false) → Completes (.switchPositionReached
    ring) s (fun t => t.bit R.PWR_RELAY_ETH_POS = s.pwr.ethDrive ∧ t.bit R.PWR_RELAY_RING_POS = s.bit
    R.PWR_RELAY_RING_POS)) ∧
  -- SWITCH_POSITION_REACHED
  (∀ (ring : Bool) (s : State), MemCanon s → s.shaped = true → (ring = true ∧ s.hasRing = true ∧ s.linkUp 0 = false ∧
    s.linkUp 1 = false) → Completes (.switchPositionReached ring) s (fun t => t.bit R.PWR_RELAY_RING_POS =
    s.pwr.ringDrive ∧ t.bit R.PWR_RELAY_ETH_POS = s.bit R.PWR_RELAY_ETH_POS)) ∧
  -- BANK_DISCHARGE_FLOOR
  (∀ (s : State), MemCanon s → s.shaped = true → (s.pwr.lost = true ∧ s.pwr.vinGood = false) → Completes
    .bankDischargeFloor s (fun t => t.pwr.dead = true ∧ t.pwr.tripHeld = false ∧ t.pwr.inReset = true)) ∧
  -- PRBS_LOCK_ACQUIRED
  (∀ (lane : Nat) (s : State), MemCanon s → s.shaped = true → (lane < 24 ∧ s.laneHere lane = true ∧ s.bit
    (R.LANE_PRBS_CHK_EN lane) = true) → Completes (.prbsLockAcquired lane) s (fun t => t.bit (R.LANE_PRBS_LOCK lane) =
    true)) ∧
  -- PRBS_LOCK_LOST
  (∀ (lane : Nat) (s : State), MemCanon s → s.shaped = true → (lane < 24 ∧ s.laneHere lane = true) → Completes
    (.prbsLockLost lane) s (fun t => t.bit (R.LANE_PRBS_LOCK lane) = false)) ∧
  -- CXP_EVENT_PACKET
  (∀ (port : Nat) (event : Bool) (s : State), MemCanon s → s.shaped = true → (port < 8 ∧ port < s.cxpPorts) →
    Completes (.cxpEventPacket port event) s (fun t => t.fld (R.CXP_CNT_EVENT_COUNT port) = min (s.fld
    (R.CXP_CNT_EVENT_COUNT port) + event.toNat) (2 ^ 32 - 1)))

/-- A write by the host. A 32-bit write that reaches its block sets the RW bits as written and clears the W1C bits
written 1, in that register alone; a 64-bit write is two writes, the lower address first; a narrow write and a
misaligned one are discarded and reported; a write to a gated domain is held and wakes it; before READY the first
write beyond the early blocks is reported, and a later one changes nothing. Every clause is about every state whose
memory and register file are canonical and whose tables have the device's lengths, under the conditions the Lean
names, and its conclusion is that the command answers a next state of that kind. Behind it stand the model's own
choices of log entries 11, 12, 13, 16, 72. (R13, R17, R20, R140, R192) -/
def Obligations.RegisterWrites : Prop :=
  -- REGISTER_WRITE
  (∀ (off size value : Nat) (s : State), MemCanon s → s.shaped = true → (off ∈ plainOffs ∧ size = 4 ∧ s.served off =
    true) → Completes (.registerWrite off size value) s (fun t => (regAt off).all (fun r => (List.range 32).all (fun b
    => (t.rd r).toNat.testBit b == (if r.rw.testBit b then value.testBit b else (s.rd r).toNat.testBit b &&
    !(r.w1c.testBit b && value.testBit b)))) = true ∧ OnlyRegs [off] s t ∧ OnlyParts [.regs] s t)) ∧
  -- REGISTER_WRITE
  (∀ (off size value : Nat) (s : State), MemCanon s → s.shaped = true → (off % 8 = 0 ∧ size = 8) → Completes
    (.registerWrite off size value) s (fun t => ∃ u, exec (.registerWrite off 4 value) s = .next u ∧ exec
    (.registerWrite (off + 4) 4 (value / 2 ^ 32)) u = .next t)) ∧
  -- REGISTER_WRITE
  (∀ (off size value : Nat) (s : State), MemCanon s → s.shaped = true → (off % size ≠ 0 ∧ size ∈ [1, 2, 4, 8]) →
    Completes (.registerWrite off size value) s (fun t => t.fld R.MBX_HSTATUS_LAST_STS = 0xC00E ∧ OnlyRegs
    (R.MBX_HSTATUS_LAST_STS.reg.off :: reportRegs) s t ∧ OnlyParts reportParts s t)) ∧
  -- REGISTER_WRITE
  (∀ (off size value : Nat) (s : State), MemCanon s → s.shaped = true → (off % size = 0 ∧ size ∈ [1, 2]) → Completes
    (.registerWrite off size value) s (fun t => t.fld R.MBX_HSTATUS_LAST_STS = 0xC003 ∧ OnlyRegs
    (R.MBX_HSTATUS_LAST_STS.reg.off :: reportRegs) s t ∧ OnlyParts reportParts s t)) ∧
  -- REGISTER_WRITE
  (∀ (off size value : Nat) (s : State), MemCanon s → s.shaped = true → (off % 4 = 0 ∧ size = 4 ∧ value < 2 ^ 32 ∧
    s.pwr.inReset = false ∧ s.pmode ≠ 4 ∧ s.bootState ≠ 0 ∧ s.boot.mapped = true ∧ s.absent off = false ∧ s.gated off
    = true) → Completes (.registerWrite off size value) s (fun t => t.bus =
    { s.bus with held := s.bus.held ++ [⟨off, true, value, 0, 4⟩] } ∧ OnlyRegs [R.PWR_WAKE_LATCH_LATCH.reg.off] s t ∧
    OnlyParts [.bus, .regs, .mode] s t)) ∧
  -- REGISTER_WRITE
  (∀ (off size value : Nat) (s : State), MemCanon s → s.shaped = true → (off % 4 = 0 ∧ size = 4 ∧ s.pwr.inReset =
    false ∧ s.pmode ≠ 4 ∧ s.bootState = 0 ∧ 0x4000 ≤ off ∧ s.boot.earlyAccess = false) → Completes (.registerWrite off
    size value) s (fun t => t.boot.earlyAccess = true ∧ t.fld R.SYS_BOOT_STATUS_LAST_STS = 0x1015)) ∧
  -- REGISTER_WRITE
  (∀ (off size value : Nat) (s : State), MemCanon s → s.shaped = true → (off % 4 = 0 ∧ size = 4 ∧ s.pwr.inReset =
    false ∧ s.pmode ≠ 4 ∧ s.bootState = 0 ∧ 0x4000 ≤ off ∧ s.boot.earlyAccess = true) → Completes (.registerWrite off
    size value) s (fun t => t = s))

/-- Registers of an absent unit. A write to a register of an absent unit changes nothing and reports nothing; a read
of any width returns zero and changes nothing else. The conclusion names the whole next state. Every clause is about
every state whose memory and register file are canonical and whose tables have the device's lengths, under the
conditions the Lean names, and its conclusion is that the command answers a next state of that kind. (R17) -/
def Obligations.AbsentUnits : Prop :=
  -- REGISTER_WRITE
  (∀ (off size value : Nat) (s : State), MemCanon s → s.shaped = true → (size ∈ [4, 8] ∧ off % size = 0 ∧
    s.pwr.inReset = false ∧ s.pmode ≠ 4 ∧ s.bootState ≠ 0 ∧ s.boot.mapped = true ∧ s.absent off = true) → Completes
    (.registerWrite off size value) s (fun t => t = { s with bus.data := 0 })) ∧
  -- RC_READ
  (∀ (off size : Nat) (s : State), MemCanon s → s.shaped = true → (size ∈ [1, 2, 4, 8] ∧ off % size = 0 ∧
    s.pwr.inReset = false ∧ s.pmode ≠ 4 ∧ s.bootState ≠ 0 ∧ s.boot.mapped = true ∧ s.absent (off - off % 4) = true) →
    Completes (.rcRead off size) s (fun t => t = { s with bus.data := 0 })) ∧
  -- LOW_WORD_READ
  (∀ (off : Nat) (s : State), MemCanon s → s.shaped = true → (off % 4 = 0 ∧ s.pwr.inReset = false ∧ s.pmode ≠ 4 ∧
    s.bootState ≠ 0 ∧ s.boot.mapped = true ∧ s.absent off = true) → Completes (.lowWordRead off) s (fun t => t =
    { s with bus.data := 0 }))

/-- A read by the host. A 32-bit read of a counter returns it and clears its RC bits in the same read; a narrow read
returns the selected bytes of the whole read, with all its effects; a 64-bit read is two reads, the lower address
first; a misaligned read returns 0, has no effect on the register and is reported; a read of a gated domain is held
with its width. Every clause is about every state whose memory and register file are canonical and whose tables have
the device's lengths, under the conditions the Lean names, and its conclusion is that the command answers a next
state of that kind. Behind it stand the model's own choices of log entries 12, 14. (R13, R20, R21, R140) -/
def Obligations.RegisterReads : Prop :=
  -- RC_READ
  (∀ (off size : Nat) (s : State), MemCanon s → s.shaped = true → (off ∈ rcOffs ∧ size = 4 ∧ s.served off = true ∧
    Sparse.get s.bus.shadows off none = none) → Completes (.rcRead off size) s (fun t => (regAt off).all (fun r =>
    t.bus.data == (s.rd r).toNat && (List.range 32).all (fun b => (t.rd r).toNat.testBit b == ((s.rd r).toNat.testBit
    b && !r.rc.testBit b))) = true ∧ OnlyRegs [off] s t ∧ OnlyParts [.regs, .bus] s t)) ∧
  -- RC_READ
  (∀ (off size : Nat) (s : State), MemCanon s → s.shaped = true → (off % size = 0 ∧ size ∈ [1, 2] ∧ s.gated (off - off
    % 4) = false) → Completes (.rcRead off size) s (fun t => ∃ u, exec (.rcRead (off - off % 4) 4) s = .next u ∧ t =
    { u with bus.data := u.bus.data / 2 ^ (8 * (off % 4)) % 2 ^ (8 * size) })) ∧
  -- RC_READ
  (∀ (off size : Nat) (s : State), MemCanon s → s.shaped = true → (off % 8 = 0 ∧ size = 8 ∧ s.served off = true) →
    Completes (.rcRead off size) s (fun t => ∃ u w, exec (.rcRead off 4) s = .next u ∧ exec (.rcRead (off + 4) 4) u =
    .next w ∧ t = { w with bus.data := u.bus.data + 2 ^ 32 * w.bus.data })) ∧
  -- RC_READ
  (∀ (off size : Nat) (s : State), MemCanon s → s.shaped = true → (off % size ≠ 0 ∧ size ∈ [1, 2, 4, 8]) → Completes
    (.rcRead off size) s (fun t => t.bus = { s.bus with data := 0 } ∧ t.fld R.MBX_HSTATUS_LAST_STS = 0xC00E ∧ OnlyRegs
    (R.MBX_HSTATUS_LAST_STS.reg.off :: reportRegs) s t ∧ OnlyParts (.bus :: reportParts) s t)) ∧
  -- RC_READ
  (∀ (off size : Nat) (s : State), MemCanon s → s.shaped = true → (size ∈ [1, 2, 4, 8] ∧ off % size = 0 ∧
    s.pwr.inReset = false ∧ s.pmode ≠ 4 ∧ s.bootState ≠ 0 ∧ s.boot.mapped = true ∧ s.absent (off - off % 4) = false ∧
    s.gated (off - off % 4) = true) → Completes (.rcRead off size) s (fun t => t.bus.held = s.bus.held ++ [⟨off - off
    % 4, false, 0, off % 4, size⟩] ∧ OnlyRegs [R.PWR_WAKE_LATCH_LATCH.reg.off] s t ∧ OnlyParts [.bus, .regs, .mode] s
    t))

/-- A value that spans two registers. A read of a low word latches the high word; the next read of the high word,
whatever has happened between, returns what was latched; a read of a high word for which nothing is latched returns
the live high word. Every clause is about every state whose memory and register file are canonical and whose tables
have the device's lengths, under the conditions the Lean names, and its conclusion is that the command answers a
next state of that kind. (R21) -/
def Obligations.ConsistentReads : Prop :=
  -- LOW_WORD_READ
  (∀ (off : Nat) (s : State), MemCanon s → s.shaped = true → (off % 4 = 0 ∧ isLow off = true ∧ s.served off = true ∧
    Sparse.get s.bus.shadows off none = none) → Completes (.lowWordRead off) s (fun t => Sparse.get t.bus.shadows (off
    + 4) none = some (t.shown (off + 4)) ∧ (∀ u : State, u.bus.shadows = t.bus.shadows → u.served (off + 4) = true →
    Sparse.sorted u.bus.shadows = true → Completes (.rcRead (off + 4) 4) u (fun w => w.bus.data = t.shown (off + 4) %
    2 ^ 32 ∧ Sparse.get w.bus.shadows (off + 4) none = none)) ∧ (∀ u : State, Sparse.get u.bus.shadows (off + 4) none
    = none → u.served (off + 4) = true → Completes (.rcRead (off + 4) 4) u (fun w => w.bus.data = (u.measured (off +
    4)).shown (off + 4) % 2 ^ 32))))

/-- Accesses held for a gated domain. Once the exit completes, the oldest held access is performed as it would have
been then, in the width it had: a held write as a write, a held read as a read. The model performs them by a command
of its own, one at a time, first in first out. Every clause is about every state whose memory and register file are
canonical and whose tables have the device's lengths, under the conditions the Lean names, and its conclusion is
that the command answers a next state of that kind. Behind it stand the model's own choices of log entry 68. (R140)
-/
def Obligations.HeldAccesses : Prop :=
  -- HELD_ACCESS_PERFORM
  (∀ (a : HeldAccess) (l : List HeldAccess) (s : State), MemCanon s → s.shaped = true → (s.bus.held = a :: l ∧ a.write
    = true ∧ a.off % 4 = 0 ∧ s.mode.active = false ∧ s.gated a.off = false ∧ s.served a.off = true) → Completes
    .heldAccessPerform s (fun t => exec (.registerWrite a.off 4 a.value) { s with bus.held := l } = .next t)) ∧
  -- HELD_ACCESS_PERFORM
  (∀ (a : HeldAccess) (l : List HeldAccess) (s : State), MemCanon s → s.shaped = true → (s.bus.held = a :: l ∧ a.write
    = false ∧ a.off % 4 = 0 ∧ a.len ∈ [1, 2, 4, 8] ∧ (a.off + a.lane) % a.len = 0 ∧ a.lane < 4 ∧ s.mode.active = false
    ∧ s.gated a.off = false ∧ s.served a.off = true) → Completes .heldAccessPerform s (fun t => exec (.rcRead (a.off +
    a.lane) a.len) { s with bus.held := l } = .next t))

/-- Queues that a read of one register pops. A read of the popping register moves the oldest entry into the shadow
registers, from which it and the other words are read, and removes it; on an empty queue the shadow becomes all
zeros and the queue stays empty; the registers that change are the shadow and the one that holds the queue's fill,
whose other fields stay: no counter and no status records an empty pop. Every clause is about every state whose
memory and register file are canonical and whose tables have the device's lengths, under the conditions the Lean
names, and its conclusion is that the command answers a next state of that kind. (R725) -/
def Obligations.PoppedQueues : Prop :=
  -- FAULT_RECORD_POP
  (∀ (s : State), MemCanon s → s.shaped = true → (s.served (R.MMU_FQ_DATA 0).off = true) → Completes .faultRecordPop s
    (fun t => t.mmu.fq = s.mmu.fq.tail ∧ t.bus.data = (t.rd (R.MMU_FQ_DATA 0)).toNat ∧ (t.rd (R.MMU_FQ_DATA 0)).toNat
    = leAt (s.mmu.fq.headD (List.replicate 32 0)) 0 4 % 2 ^ 32 ∧ (t.rd (R.MMU_FQ_DATA 1)).toNat = leAt (s.mmu.fq.headD
    (List.replicate 32 0)) 4 4 % 2 ^ 32 ∧ (t.rd (R.MMU_FQ_DATA 2)).toNat = leAt (s.mmu.fq.headD (List.replicate 32 0))
    8 4 % 2 ^ 32 ∧ (t.rd (R.MMU_FQ_DATA 3)).toNat = leAt (s.mmu.fq.headD (List.replicate 32 0)) 12 4 % 2 ^ 32 ∧ (t.rd
    (R.MMU_FQ_DATA 4)).toNat = leAt (s.mmu.fq.headD (List.replicate 32 0)) 16 4 % 2 ^ 32 ∧ (t.rd (R.MMU_FQ_DATA
    5)).toNat = leAt (s.mmu.fq.headD (List.replicate 32 0)) 20 4 % 2 ^ 32 ∧ (t.rd (R.MMU_FQ_DATA 6)).toNat = leAt
    (s.mmu.fq.headD (List.replicate 32 0)) 24 4 % 2 ^ 32 ∧ (t.rd (R.MMU_FQ_DATA 7)).toNat = leAt (s.mmu.fq.headD
    (List.replicate 32 0)) 28 4 % 2 ^ 32 ∧ (s.mmu.fq = [] → t.mmu.fq = [] ∧ (t.rd (R.MMU_FQ_DATA 0)).toNat = 0 ∧ (t.rd
    (R.MMU_FQ_DATA 1)).toNat = 0 ∧ (t.rd (R.MMU_FQ_DATA 2)).toNat = 0 ∧ (t.rd (R.MMU_FQ_DATA 3)).toNat = 0 ∧ (t.rd
    (R.MMU_FQ_DATA 4)).toNat = 0 ∧ (t.rd (R.MMU_FQ_DATA 5)).toNat = 0 ∧ (t.rd (R.MMU_FQ_DATA 6)).toNat = 0 ∧ (t.rd
    (R.MMU_FQ_DATA 7)).toNat = 0) ∧ t.fld R.MMU_STATUS_LAST_STS = s.fld R.MMU_STATUS_LAST_STS ∧ OnlyRegs
    [((R.MMU_FQ_DATA 0)).off, ((R.MMU_FQ_DATA 1)).off, ((R.MMU_FQ_DATA 2)).off, ((R.MMU_FQ_DATA 3)).off,
    ((R.MMU_FQ_DATA 4)).off, ((R.MMU_FQ_DATA 5)).off, ((R.MMU_FQ_DATA 6)).off, ((R.MMU_FQ_DATA 7)).off,
    R.MMU_STATUS.off] s t ∧ OnlyParts [.regs, .mmu, .bus] s t)) ∧
  -- EVT_POP
  (∀ (s : State), MemCanon s → s.shaped = true → (s.served (R.PTP_EVT_DATA 0).off = true) → Completes .evtPop s (fun t
    => t.time.evts = s.time.evts.tail ∧ t.bus.data = (t.rd (R.PTP_EVT_DATA 0)).toNat ∧ (t.rd (R.PTP_EVT_DATA 0)).toNat
    = leAt (s.time.evts.headD ⟨0, 0, 0, 0⟩).bytes 0 4 % 2 ^ 32 ∧ (t.rd (R.PTP_EVT_DATA 1)).toNat = leAt
    (s.time.evts.headD ⟨0, 0, 0, 0⟩).bytes 4 4 % 2 ^ 32 ∧ (t.rd (R.PTP_EVT_DATA 2)).toNat = leAt (s.time.evts.headD
    ⟨0, 0, 0, 0⟩).bytes 8 4 % 2 ^ 32 ∧ (t.rd (R.PTP_EVT_DATA 3)).toNat = leAt (s.time.evts.headD ⟨0, 0, 0, 0⟩).bytes
    12 4 % 2 ^ 32 ∧ (s.time.evts = [] → t.time.evts = [] ∧ (t.rd (R.PTP_EVT_DATA 0)).toNat = 0 ∧ (t.rd (R.PTP_EVT_DATA
    1)).toNat = 0 ∧ (t.rd (R.PTP_EVT_DATA 2)).toNat = 0 ∧ (t.rd (R.PTP_EVT_DATA 3)).toNat = 0) ∧ t.fld
    R.PTP_STATUS_LAST_STS = s.fld R.PTP_STATUS_LAST_STS ∧ OnlyRegs [((R.PTP_EVT_DATA 0)).off, ((R.PTP_EVT_DATA
    1)).off, ((R.PTP_EVT_DATA 2)).off, ((R.PTP_EVT_DATA 3)).off, R.PTP_EVT_STATUS.off] s t ∧ OnlyParts [.regs, .time,
    .bus] s t)) ∧
  -- SAMPLE_POP
  (∀ (s : State), MemCanon s → s.shaped = true → (s.served R.PTP_SMP_OFS_LO.off = true) → Completes .samplePop s (fun
    t => t.time.samples = s.time.samples.tail ∧ t.bus.data = (t.rd R.PTP_SMP_OFS_LO).toNat ∧ (t.rd
    R.PTP_SMP_OFS_LO).toNat = unsignedOf 64 (s.time.samples.headD ⟨0, 0, 0, 0, 0⟩).ofs % 2 ^ 32 ∧ (t.rd
    R.PTP_SMP_OFS_HI).toNat = unsignedOf 64 (s.time.samples.headD ⟨0, 0, 0, 0, 0⟩).ofs / 2 ^ 32 % 2 ^ 32 ∧ (t.rd
    R.PTP_SMP_DELAY).toNat = (s.time.samples.headD ⟨0, 0, 0, 0, 0⟩).delay % 2 ^ 32 ∧ (t.rd R.PTP_SMP_MONO_LO).toNat =
    (s.time.samples.headD ⟨0, 0, 0, 0, 0⟩).mono % 2 ^ 32 ∧ (t.rd R.PTP_SMP_MONO_HI).toNat = (s.time.samples.headD ⟨0,
    0, 0, 0, 0⟩).mono / 2 ^ 32 % 2 ^ 32 ∧ (s.time.samples = [] → t.time.samples = [] ∧ (t.rd R.PTP_SMP_OFS_LO).toNat =
    0 ∧ (t.rd R.PTP_SMP_OFS_HI).toNat = 0 ∧ (t.rd R.PTP_SMP_DELAY).toNat = 0 ∧ (t.rd R.PTP_SMP_MONO_LO).toNat = 0 ∧
    (t.rd R.PTP_SMP_MONO_HI).toNat = 0) ∧ t.fld R.PTP_SMP_STATUS_SEQ = (s.time.samples.headD ⟨0, 0, 0, 0, 0⟩).seq % 2
    ^ 8 ∧ t.fld R.PTP_SMP_STATUS_PORT = (s.time.samples.headD ⟨0, 0, 0, 0, 0⟩).port % 2 ∧ t.fld R.PTP_SMP_STATUS_LOST
    = s.fld R.PTP_SMP_STATUS_LOST ∧ OnlyRegs [R.PTP_SMP_OFS_LO.off, R.PTP_SMP_OFS_HI.off, R.PTP_SMP_DELAY.off,
    R.PTP_SMP_MONO_LO.off, R.PTP_SMP_MONO_HI.off, R.PTP_SMP_STATUS.off, R.PTP_SMP_OFS_HI.off] s t ∧ OnlyParts [.regs,
    .time, .bus] s t)) ∧
  -- SPI_CPL_POP
  (∀ (s : State), MemCanon s → s.shaped = true → (s.served (R.SPI_CPL 0).off = true) → Completes .spiCplPop s (fun t
    => t.spi.cpl = s.spi.cpl.tail ∧ t.bus.data = (t.rd (R.SPI_CPL 0)).toNat ∧ (t.rd (R.SPI_CPL 0)).toNat =
    (s.spi.cpl.headD ⟨0, 0, 0⟩).w0 % 2 ^ 32 ∧ (t.rd (R.SPI_CPL 1)).toNat = (s.spi.cpl.headD ⟨0, 0, 0⟩).w1 % 2 ^ 32 ∧
    (t.rd (R.SPI_CPL 2)).toNat = (s.spi.cpl.headD ⟨0, 0, 0⟩).w2 % 2 ^ 32 ∧ (s.spi.cpl = [] → t.spi.cpl = [] ∧ (t.rd
    (R.SPI_CPL 0)).toNat = 0 ∧ (t.rd (R.SPI_CPL 1)).toNat = 0 ∧ (t.rd (R.SPI_CPL 2)).toNat = 0) ∧ t.fld
    R.SPI_STATUS_LAST_STS = s.fld R.SPI_STATUS_LAST_STS ∧ OnlyRegs [((R.SPI_CPL 0)).off, ((R.SPI_CPL 1)).off,
    ((R.SPI_CPL 2)).off, R.SPI_STATUS.off] s t ∧ OnlyParts [.regs, .spi, .bus] s t)) ∧
  -- I2C_CPL_POP
  (∀ (s : State), MemCanon s → s.shaped = true → (s.served R.I2C_CPL0.off = true) → Completes .i2cCplPop s (fun t =>
    t.i2c.cpl = s.i2c.cpl.tail ∧ t.bus.data = (t.rd R.I2C_CPL0).toNat ∧ (t.rd R.I2C_CPL0).toNat = (s.i2c.cpl.headD ⟨0,
    0, 0⟩).w0 % 2 ^ 32 ∧ (t.rd R.I2C_CPL1).toNat = (s.i2c.cpl.headD ⟨0, 0, 0⟩).w1 % 2 ^ 32 ∧ (s.i2c.cpl = [] →
    t.i2c.cpl = [] ∧ (t.rd R.I2C_CPL0).toNat = 0 ∧ (t.rd R.I2C_CPL1).toNat = 0) ∧ t.fld R.I2C_STATUS_LAST_STS = s.fld
    R.I2C_STATUS_LAST_STS ∧ OnlyRegs [R.I2C_CPL0.off, R.I2C_CPL1.off, R.I2C_FILL.off] s t ∧ OnlyParts [.regs, .i2c,
    .bus] s t)) ∧
  -- I2C_TLOG_POP
  (∀ (s : State), MemCanon s → s.shaped = true → (s.served R.I2C_TLOG.off = true) → Completes .i2cTlogPop s (fun t =>
    t.i2c.tlog = s.i2c.tlog.tail ∧ t.bus.data = (t.rd R.I2C_TLOG).toNat ∧ (t.rd R.I2C_TLOG).toNat = s.i2c.tlog.headD 0
    % 2 ^ 32 ∧ (s.i2c.tlog = [] → t.i2c.tlog = [] ∧ (t.rd R.I2C_TLOG).toNat = 0) ∧ t.fld R.I2C_STATUS_LAST_STS = s.fld
    R.I2C_STATUS_LAST_STS ∧ OnlyRegs [R.I2C_TLOG.off, R.I2C_FILL.off] s t ∧ OnlyParts [.regs, .i2c, .bus] s t))

/-- The results of the gill's scalar arithmetic. For a running gill whose next bundle holds one scalar slot with an
operation from ADD 0x01 to MOV 0x10, its second operand a register or the immediate, and NOPs, a bundle issue writes
the operation's result on the two operands to s[D], leaves every other scalar, vector, accumulator and predicate
register and all memory, and goes on to the next bundle. The result is stated on 32-bit words, for every operation and
all operands. (The rest of R412, from PEQ on, is not stated here.) Behind it stand the model's own choices of log
entry 53. (R412) -/
def Obligations.GillScalarResults : Prop :=
  ∀ (gill op d a b sb imm : Nat) (x y : BitVec 32) (pr : ProgRec) (s : State), MemCanon s → s.shaped = true →
    (gill < 64 ∧ gill < s.gills ∧ s.gst gill = 1 ∧ (s.gl gill).halt = none ∧ s.runs = true ∧ (s.gl gill).acc = []
      ∧ (s.gl gill).sincs = [] ∧ (s.gl gill).loops = []) →
    (1 ≤ op ∧ op ≤ 0x10 ∧ d < 64 ∧ a < 64 ∧ b < 64 ∧ sb < 2 ∧ imm < 2 ^ 32 ∧ (sb = 1 → b = 0) ∧ (sb = 0 → imm = 0)
      ∧ (op = 0x10 → a = 0)) →
    (s.gprog gill = some pr ∧ s.gpc gill + 1 < pr.bundles ∧ pr.bundles ≤ 4096
      ∧ bundleSlots pr.code (s.gpc gill) = scalarWord op d a b sb imm :: List.replicate 15 0) →
    ((s.gl gill).s.getD a 0 = x.toNat ∧ (if sb = 1 then imm else (s.gl gill).s.getD b 0) = y.toNat) →
    Completes (.bundleIssue gill) s (fun t =>
      (t.gl gill).s = (s.gl gill).s.set d (scalarResult op x y).toNat ∧ (t.gl gill).v = (s.gl gill).v
        ∧ (t.gl gill).a = (s.gl gill).a ∧ (t.gl gill).p = (s.gl gill).p ∧ t.gpc gill = s.gpc gill + 1 ∧ t.gst gill = 1
        ∧ t.mem = s.mem ∧ t.sram = s.sram)

/-- A step runs the command at the front of the queue. When a command waits, a step is exec of the oldest one on the state
with the queue's rest. The queue is the model's own form (log entry 1). Behind it stand the model's own choices of log
entry 1. (00_scope.md) -/
def Obligations.StepRunsTheFrontCommand : Prop :=
  ∀ (c : Instr) (rest : List Instr) (s : State), s.pending = c :: rest → step s = exec c { s with pending := rest }

/-- A step on an empty queue. On an empty queue a step answers a next state with the queue still empty, 8 ns later; before
the TIME domain runs nothing else changes. That idling is one TIME cycle is the model's choice (log entry 2). Behind
it stand the model's own choices of log entry 2. (R335) -/
def Obligations.StepOnAnEmptyQueue : Prop :=
  ∀ s : State, s.pending = [] → ∃ t, step s = .next t ∧ t.pending = [] ∧ t.now = s.now + 8
    ∧ (s.time.runs = false → t = { s with now := s.now + 8 })

/-- Every command answers a next state. In every state every command of the table answers a next state: no command is
refused and none faults. (That a command whose condition does not hold changes nothing is the model's choice, log
entry 1.) Behind it stand the model's own choices of log entry 1. (01_part_journey.md, 02_module.md) -/
def Obligations.EveryCommandAnswers : Prop :=
  ∀ (c : Instr) (s : State), ∃ t, exec c s = .next t

/-- Nothing is taken back. A command leaves in place all that has been sent, does not turn the moment back, takes no free
value twice, and leaves the commands that wait as they are. Behind it stand the model's own choices of log entries 3,
4. (R25) -/
def Obligations.HistoryIsKept : Prop :=
  ∀ (c : Instr) (s t : State), exec c s = .next t → History s t

/-- A step takes one command from the queue. From every state a step leaves the queue without its first command, and takes
back nothing that has been sent, no moment and no free value. Behind it stand the model's own choices of log entry 1.
(00_scope.md) -/
def Obligations.StepTakesOneCommand : Prop :=
  ∀ s t : State, step s = .next t → t.pending = s.pending.tail ∧ s.out <:+ t.out ∧ s.now ≤ t.now ∧ s.free ≤ t.free

/-- Every step keeps memory and the register file canonical. From every state whose device memory, tile SRAM and register
file are lists with rising keys, and whose memories list no byte equal to what an unlisted one reads as, a step gives
a state of which the same holds: equal memories are equal data. That an unlisted byte reads 0 is the model's choice
(log entry 5). Behind it stand the model's own choices of log entry 5. (R473, R402) -/
def Obligations.MemoryStaysCanonical : Prop :=
  Kept MemCanon

/-- Memory is canonical after reset. The state after reset has device memory, tile SRAM and a register file in the
canonical form. Behind it stand the model's own choices of log entry 5. (R473) -/
def Obligations.MemoryIsCanonicalAtReset : Prop :=
  MemCanon State.reset

/-- Every step keeps the tables of the device in shape. From every state whose tables hold as many entries as the device
has units of their kind (two PTP ports and ring sides, four channels, sixteen outputs, eight camera ports, four
pipelines, twenty-four lanes in six quads, sixty-four gills, sixteen DMA engines, four memory channels, two image
slots) and whose track table has rising numbers, a step gives such a state. (R3, R12, R33) -/
def Obligations.TheTablesKeepTheirShape : Prop :=
  Kept (fun s => s.shaped = true)

/-- The tables are in shape after reset. The state after reset has tables with as many entries as the device has units of
their kind. (R3, R12) -/
def Obligations.TheTablesHaveTheirShapeAtReset : Prop :=
  State.reset.shaped = true

/-- What each command leaves unchanged. For every command and every state with a sorted register file: when the command
answers a next state, every part of the state outside the list Frame.parts gives for it is unchanged, and, for all
commands but the starts, the resets and the general accesses of the bus, every register outside the rows Frame.regs
lists reads as before. A command whose parts do not hold device memory or tile SRAM leaves every byte of it as it was.
(R13, R25, R661, R712) -/
def Obligations.FrameOfEveryCommand : Prop :=
  ∀ (c : Instr) (s t : State), MemCanon s → exec c s = .next t →
    OnlyParts (Frame.parts c) s t ∧ ∀ l, Frame.regs c = some l → Frame.OnlyRows l s t

/-- What reset leaves. After reset the identity names an SX-40, the registers named read the reset values of their tables,
every gill is IDLE, and no command waits. (R28, R62, R157, R238, R322, R327, R361, R400, R441, R589, R673, R704) -/
def Obligations.ResetValues : Prop :=
  State.reset.fld R.SYS_ID_FAMILY = 0x05C4 ∧ State.reset.fld R.SYS_ID_VARIANT = 0x0040 ∧ State.reset.fld R.MOT_TRK_CFG_CONV_PERIOD = 10
    ∧ State.reset.fld R.MOT_TRK_CFG_GUARD = 4 ∧ State.reset.fld R.MOT_TRK_CFG_FULL_POLICY = 1 ∧ State.reset.fld R.MOT_TRK_CFG_EN = 0
    ∧ State.reset.fld R.PWR_MODE_CFG_TIMEOUT_US = 1000 ∧ State.reset.fld R.MESH_EPOCH_CFG_TIMEOUT_US = 1000
    ∧ (∀ k, k < 4 → State.reset.fld (R.MOT_CH_GATE_GATE_US k) = 1000 ∧ State.reset.fld (R.MOT_CH_VHI_V_HI k) = 1000000
      ∧ State.reset.fld (R.MOT_CH_VLO_V_LO k) = 800000)
    ∧ (∀ n, n < 16 → State.reset.fld (R.EJ_OUT_WIDTH_WIDTH n) = 20000 ∧ State.reset.fld (R.EJ_OUT_LIMIT_MAX_ON_MS n) = 1000)
    ∧ State.reset.fld R.PTP_SERVO_CFG_MAX_PPB = 500000 ∧ State.reset.fld R.PTP_SERVO_GAIN_KP = 45875
    ∧ State.reset.fld R.PTP_HOLD_HOLD_MS = 3000 ∧ State.reset.fld R.RING_RETRY_CFG_ACK_TMO_NS = 2000
    ∧ (∀ g, g < 64 → State.reset.fld (R.GILL_STATUS_STATE g) = 0) ∧ State.reset.fld R.PFX_NBLK_NBLK = 1024
    ∧ State.reset.fld R.MBX_HCFG_CPL_TMO_US = 10000 ∧ State.reset.fld R.I2C_TGT_CFG_ADDR = 0x4C ∧ State.reset.pending = []
end

