-- ==== Sys2Proof/Laws/Groups.lean ====
section
/-! SUPPORT. Groups: a number for every register of the map and for every array of registers, for the frames (Touches). -/

-- One declaration at a time: many proofs at once would each hold a thread with a large stack.
set_option Elab.async false

namespace Sys2Proof.Machine

/-- The offsets of the groups from 0 on. -/
def grpRow0 : List (Nat → Nat) := [
  fun k => k,
  fun _ => R.SYS_ID.off,
  fun _ => R.SYS_REV.off,
  fun _ => R.SYS_CAP_UNITS.off,
  fun _ => R.SYS_SUP_VER.off,
  fun _ => R.SYS_TILE_VER.off,
  fun _ => R.MOT_TRK_CFG.off,
  fun _ => R.MOT_TRK_VMIN.off,
  fun _ => R.MOT_TRK_VMAX.off,
  fun _ => R.MOT_TRK_REV_LIMIT.off,
  fun _ => R.MOT_TRK_GLITCH_THR.off,
  fun _ => R.MOT_TRK_FORCE.off,
  fun _ => R.MOT_TRK_STATUS.off,
  fun _ => R.MOT_TRK_ACTIVE.off,
  fun _ => R.MOT_TRK_OPENED.off,
  fun _ => R.MOT_TRK_DROPPED.off,
  fun _ => R.MOT_TRK_NEXT_SEQ.off,
  fun _ => R.MOT_TRK_SEL.off,
  fun _ => R.MOT_TRK_V_SEQ.off,
  fun _ => R.MOT_TRK_V_STATE.off,
  fun _ => R.MOT_TRK_V_DL_LO.off,
  fun _ => R.MOT_TRK_V_DL_HI.off,
  fun _ => R.MOT_TRK_DECL_LO.off,
  fun _ => R.MOT_TRK_DECL_HI.off,
  fun _ => R.MOT_TRK_COMMIT_SEQ.off,
  fun _ => R.MOT_TRK_COMMIT.off,
  fun k => (R.MOT_GATE_CFG k).off,
  fun k => (R.MOT_GATE_PRES_OFFS k).off,
  fun k => (R.MOT_GATE_WIN k).off,
  fun k => (R.MOT_GATE_FIRE k).off,
  fun k => (R.MOT_GATE_MARGIN k).off,
  fun k => (R.EJ_DISP k).off,
  fun _ => R.EJ_LATE_CNT.off,
  fun _ => R.EJ_LATE_ARRIVED.off,
  fun _ => R.EJ_OVF_CNT.off,
  fun _ => R.EJ_FIRE_LATE_CNT.off,
  fun _ => R.EJ_POL_STATUS.off,
  fun _ => R.PWR_VIN.off,
  fun _ => R.PWR_VCAM.off,
  fun _ => R.PWR_VEJ.off,
  fun _ => R.PWR_MOD_STATUS.off,
  fun _ => R.PWR_HOLDUP.off,
  fun _ => R.PWR_HOLDUP_CAP.off,
  fun _ => R.PWR_TEMP.off,
  fun _ => R.PWR_THERM_CFG.off,
  fun _ => R.PWR_RELAY.off,
  fun _ => R.PWR_POCXP.off,
  fun _ => R.PWR_POCXP_STS.off,
  fun _ => R.PWR_ENC_SUP.off,
  fun _ => R.PWR_POWER.off,
  fun _ => R.MOT_DI_CFG.off,
  fun _ => R.MOT_DI_STS.off,
  fun _ => R.EJ_LSTOP.off,
  fun _ => R.EJ_OUT_STS.off,
  fun _ => R.CLK_STATUS.off,
  fun _ => R.CLK_FAIL.off,
  fun _ => R.CLK_MEAS_SEL.off,
  fun _ => R.CLK_MEAS.off,
  fun _ => R.CLK_CORE.off,
  fun _ => R.CLK_XING_SEL.off,
  fun _ => R.CLK_XING_HWM.off,
  fun _ => R.CLK_XING_DROP.off,
  fun _ => R.PWR_MODE_REQ.off,
  fun _ => R.PWR_MODE_STATUS.off]

/-- The offsets of the groups from 64 on. -/
def grpRow1 : List (Nat → Nat) := [
  fun _ => R.PWR_MODE_CFG.off,
  fun _ => R.PWR_WAKE_EN.off,
  fun _ => R.PWR_WAKE_LATCH.off,
  fun _ => R.PWR_WAKE_LANE.off,
  fun _ => R.PWR_WAKE_TIMER.off,
  fun _ => R.PWR_ROLLBACKS.off,
  fun _ => R.PWR_EXIT_US.off,
  fun _ => R.SYS_SERIAL_LO.off,
  fun _ => R.SYS_SERIAL_HI.off,
  fun _ => R.SYS_BOOT_STATUS.off,
  fun _ => R.SYS_START_MS.off,
  fun _ => R.SYS_FATAL.off,
  fun _ => R.BOOT_CFG.off,
  fun _ => R.BOOT_CTRL.off,
  fun _ => R.BOOT_MAP_COUNT.off,
  fun _ => R.BOOT_MAP_SEL.off,
  fun _ => R.BOOT_MAP_ENTRY.off,
  fun k => (R.BOOT_MAP_DIGEST k).off,
  fun _ => R.BOOT_FMAP_ADD.off,
  fun _ => R.BOOT_FMAP_STATUS.off,
  fun _ => R.BOOT_L2P_SEL.off,
  fun _ => R.BOOT_L2P.off,
  fun _ => R.BOOT_FW_SLOT.off,
  fun _ => R.BOOT_HOST_PKG.off,
  fun _ => R.BOOT_RESTARTS.off,
  fun _ => R.BOOT_FUSE_CORR.off,
  fun _ => R.BOOT_LANE_CAL.off,
  fun k => (R.BOOT_STAGE_US k).off,
  fun _ => R.BOOT_IMG_CTRL.off,
  fun _ => R.BOOT_IMG_ADDR_LO.off,
  fun _ => R.BOOT_IMG_ADDR_HI.off,
  fun _ => R.BOOT_IMG_LEN.off,
  fun _ => R.BOOT_IMG_STATUS.off,
  fun _ => R.BOOT_IMG_DETAIL.off,
  fun _ => R.BOOT_IMG_ACTIVE.off,
  fun _ => R.BOOT_IMG_REV.off,
  fun _ => R.BOOT_IMG_SLOTS.off,
  fun _ => R.BOOT_IMG_KEYS.off,
  fun _ => R.BOOT_IMG_LOAD_MS.off,
  fun k => (R.BOOT_IMG_DIGEST k).off,
  fun _ => R.MESH_ROUTESET.off,
  fun _ => R.MESH_EPOCH_CFG.off,
  fun _ => R.MESH_EPOCH_STATUS.off,
  fun _ => R.MESH_EPOCH_HOLD.off,
  fun _ => R.MESH_EPOCH_COUNT.off,
  fun k => (R.CXP_PORT_CFG k).off,
  fun k => (R.CXP_PORT_STATUS k).off,
  fun k => (R.CXP_BIND k).off,
  fun k => (R.CXP_TRIG_CFG k).off,
  fun k => (R.CXP_TRIG_PHASE_LO k).off,
  fun k => (R.CXP_TRIG_PHASE_HI k).off,
  fun k => (R.CXP_TRIG_MINP k).off,
  fun k => (R.CXP_TRIG_PERIOD k).off,
  fun k => (R.CXP_TRIG_SOFT k).off,
  fun k => (R.CXP_WDOG k).off,
  fun k => (R.CXP_WIN k).off,
  fun k => (R.CXP_FB_CFG k).off,
  fun k => (R.CXP_FB_STATUS k).off,
  fun k => (R.CXP_HDR_SIZE k).off,
  fun k => (R.CXP_HDR_FMT k).off,
  fun k => (R.CXP_CNT_LINES k).off,
  fun k => (R.CXP_CNT_FRAMES k).off,
  fun k => (R.CXP_CNT_CRC k).off,
  fun k => (R.CXP_CNT_SYM k).off]

/-- The offsets of the groups from 128 on. -/
def grpRow2 : List (Nat → Nat) := [
  fun k => (R.CXP_CNT_MARKED k).off,
  fun k => (R.CXP_CNT_UNDELIV k).off,
  fun k => (R.CXP_CNT_OVERTRIG k).off,
  fun k => (R.CXP_CNT_OVERRUN k).off,
  fun k => (R.CXP_CNT_UNSOL k).off,
  fun k => (R.CXP_CNT_DISCARD k).off,
  fun k => (R.CXP_CNT_EVENT k).off,
  fun k => (R.CXP_CNT_RETRY k).off,
  fun k => (R.CXP_CTRL_ADDR k).off,
  fun k => (R.CXP_CTRL_DATA k).off,
  fun k => (R.CXP_CTRL_CMD k).off,
  fun k => (R.CXP_CTRL_STATUS k).off,
  fun k => (R.CXP_CTRL_TMO k).off,
  fun k => (R.ISP_PIPE_STATUS k).off,
  fun k => (R.ISP_PIPE_CELL k).off,
  fun k => (R.ISP_OUT_CFG k).off,
  fun k => (R.ISP_OUT_TAIL k).off,
  fun k => (R.ISP_OUT_HEAD k).off,
  fun k => (R.ISP_LOAD k).off,
  fun k => (R.ISP_CNT_PARTS k).off,
  fun k => (R.ISP_CNT_TM_FRAMES k).off,
  fun k => (R.ISP_CNT_OUT_FULL k).off,
  fun k => (R.ISP_CNT_PRESENCE k).off,
  fun k => (R.ISP_CNT_OUTSIDE k).off,
  fun k => (R.MOT_CH_CFG k).off,
  fun k => (R.MOT_CH_QUAL k).off,
  fun k => (R.MOT_CH_SPACE k).off,
  fun k => (R.MOT_CH_WIRE k).off,
  fun k => (R.MOT_CH_GATE k).off,
  fun k => (R.MOT_CH_VHI k).off,
  fun k => (R.MOT_CH_VLO k).off,
  fun k => (R.MOT_CH_CPR k).off,
  fun k => (R.MOT_CH_X_LO k).off,
  fun k => (R.MOT_CH_X_HI k).off,
  fun k => (R.MOT_CH_E_LO k).off,
  fun k => (R.MOT_CH_E_HI k).off,
  fun k => (R.MOT_CH_SPEED k).off,
  fun k => (R.MOT_CH_STATUS k).off,
  fun k => (R.MOT_CH_IDX_LO k).off,
  fun k => (R.MOT_CH_IDX_HI k).off,
  fun k => (R.MOT_CH_CNT_GLITCH k).off,
  fun k => (R.MOT_CH_CNT_WIRE k).off,
  fun k => (R.MOT_CH_CNT_QUAD k).off,
  fun k => (R.MOT_CH_CNT_INDEX k).off,
  fun k => (R.MOT_CH_CNT_SER k).off,
  fun k => (R.MOT_CH_CNT_REV k).off,
  fun k => (R.MOT_CH_SER_CFG k).off,
  fun k => (R.MOT_CH_SER_TIM k).off,
  fun k => (R.MOT_CH_SER_CRC k).off,
  fun k => (R.MOT_CH_SER_JUMP k).off,
  fun k => (R.MOT_CH_SER_DLY k).off,
  fun k => (R.EJ_OUT_CFG k).off,
  fun k => (R.EJ_OUT_WIDTH k).off,
  fun k => (R.EJ_OUT_TIMING k).off,
  fun k => (R.EJ_OUT_LIMIT k).off,
  fun k => (R.EJ_OUT_STATUS k).off,
  fun k => (R.EJ_OUT_CTRL k).off,
  fun k => (R.EJ_OUT_HEAD_LO k).off,
  fun k => (R.EJ_OUT_HEAD_HI k).off,
  fun k => (R.EJ_OUT_CNT_FIRED k).off,
  fun k => (R.EJ_OUT_CNT_COALESCED k).off,
  fun k => (R.EJ_OUT_CNT_EXTENDED k).off,
  fun k => (R.EJ_OUT_CNT_DEFERRED k).off,
  fun k => (R.EJ_OUT_CNT_SKIPPED k).off]

/-- The offsets of the groups from 192 on. -/
def grpRow3 : List (Nat → Nat) := [
  fun _ => R.EJ_CTRL.off,
  fun _ => R.EJ_ARM_KEY_LO.off,
  fun _ => R.EJ_ARM_KEY_HI.off,
  fun _ => R.EJ_ARM_SEQ.off,
  fun _ => R.EJ_ARM_CMD.off,
  fun _ => R.EJ_ARM_STATUS.off,
  fun _ => R.EJ_LOG_TAIL.off,
  fun _ => R.EJ_LOG_SEL.off,
  fun _ => R.EJ_LOG_LOST.off,
  fun k => (R.EJ_LOG_DATA k).off,
  fun _ => R.PTP_CFG.off,
  fun _ => R.PTP_STATUS.off,
  fun _ => R.PTP_SNAP_FRAC.off,
  fun _ => R.PTP_SNAP_NS.off,
  fun _ => R.PTP_SNAP_SEC_LO.off,
  fun _ => R.PTP_SNAP_SEC_HI.off,
  fun _ => R.PTP_SNAP_MONO_LO.off,
  fun _ => R.PTP_SNAP_MONO_HI.off,
  fun _ => R.PTP_RATE.off,
  fun _ => R.PTP_STEP_SEC_LO.off,
  fun _ => R.PTP_STEP_SEC_HI.off,
  fun _ => R.PTP_STEP_NS.off,
  fun _ => R.PTP_STEP_CTRL.off,
  fun _ => R.PTP_OFS_NS.off,
  fun _ => R.PTP_OFS_SEC_LO.off,
  fun _ => R.PTP_OFS_SEC_HI.off,
  fun _ => R.PTP_SERVO_CFG.off,
  fun _ => R.PTP_STEP_THR.off,
  fun _ => R.PTP_SERVO_GAIN.off,
  fun _ => R.PTP_HOLD.off,
  fun _ => R.PTP_SMP_STATUS.off,
  fun _ => R.PTP_SMP_OFS_LO.off,
  fun _ => R.PTP_SMP_OFS_HI.off,
  fun _ => R.PTP_SMP_DELAY.off,
  fun _ => R.PTP_SMP_MONO_LO.off,
  fun _ => R.PTP_SMP_MONO_HI.off,
  fun k => (R.PTP_PORT_CFG k).off,
  fun k => (R.PTP_TX_LAT k).off,
  fun k => (R.PTP_RX_LAT k).off,
  fun k => (R.PTP_ASYM k).off,
  fun k => (R.PTP_PORT_STATUS k).off,
  fun k => (R.PTP_CNT_RXEV k).off,
  fun k => (R.PTP_CNT_TXEV k).off,
  fun k => (R.PTP_CNT_RXDROP k).off,
  fun k => (R.PTP_CNT_TXLOST k).off,
  fun k => (R.PTP_CNT_OTHER k).off,
  fun _ => R.PTP_EVT_CFG.off,
  fun _ => R.PTP_EVT_MARK_LO.off,
  fun _ => R.PTP_EVT_MARK_HI.off,
  fun _ => R.PTP_EVT_STATUS.off,
  fun k => (R.PTP_EVT_DATA k).off,
  fun _ => R.PTP_EVT_LOST.off,
  fun _ => R.PTP_STEP_LOG_SEL.off,
  fun k => (R.PTP_STEP_LOG k).off,
  fun k => (R.LANE_CFG k).off,
  fun k => (R.LANE_STATUS k).off,
  fun k => (R.LANE_TX_CMD k).off,
  fun k => (R.LANE_RX_CMD k).off,
  fun k => (R.LANE_TMO k).off,
  fun k => (R.LANE_SYNTH_TMO k).off,
  fun k => (R.LANE_PRBS k).off,
  fun k => (R.LANE_PRBS_ERR k).off,
  fun k => (R.LANE_PRBS_BITS_LO k).off,
  fun k => (R.LANE_PRBS_BITS_HI k).off]

/-- The offsets of the groups from 256 on. -/
def grpRow4 : List (Nat → Nat) := [
  fun k => (R.LANE_CNT_WAKE k).off,
  fun k => (R.LANE_CNT_GUARD k).off,
  fun k => (R.LANE_CNT_RETRAIN k).off,
  fun k => (R.LANE_CNT_LOS k).off,
  fun k => (R.LANE_CNT_TXFAIL k).off,
  fun k => (R.LANE_CNT_ALIGN k).off,
  fun _ => R.RING_CTRL.off,
  fun _ => R.RING_STATUS.off,
  fun _ => R.RING_TOPO.off,
  fun _ => R.RING_LAYOUT.off,
  fun _ => R.RING_LINK_CFG.off,
  fun _ => R.RING_RETRY_CFG.off,
  fun _ => R.RING_TMO.off,
  fun _ => R.RING_CNT_DUP.off,
  fun _ => R.RING_CNT_LOST.off,
  fun _ => R.RING_CNT_DST_ABSENT.off,
  fun _ => R.RING_CNT_QUIESCE.off,
  fun _ => R.RING_QUIESCE_US.off,
  fun k => (R.RING_SIDE_STATUS k).off,
  fun k => (R.RING_SIDE_FRAMES_TX k).off,
  fun k => (R.RING_SIDE_FRAMES_RX k).off,
  fun k => (R.RING_SIDE_CRC k).off,
  fun k => (R.RING_SIDE_NAK_RETRY k).off,
  fun k => (R.RING_SIDE_TMO_RETRY k).off,
  fun k => (R.RING_SIDE_RETRY_HWM k).off,
  fun k => (R.RING_SIDE_TRAIN k).off,
  fun k => (R.GILL_STATUS k).off,
  fun k => (R.GILL_PC k).off,
  fun k => (R.GILL_FAULT k).off,
  fun k => (R.GILL_FAULT_INFO k).off,
  fun k => (R.GILL_CNT_BUNDLES k).off,
  fun k => (R.GILL_CNT_STALL k).off,
  fun k => (R.GILL_CNT_WAIT k).off,
  fun k => (R.GILL_CNT_GLOBAL k).off,
  fun k => (R.GILL_DBG_CTRL k).off,
  fun k => (R.GILL_DBG_SEL k).off,
  fun k => (R.GILL_DBG_DATA k).off,
  fun k => (R.GILL_LOOP k).off,
  fun _ => R.DET_STATUS.off,
  fun _ => R.DET_CNT_BOXDEC.off,
  fun _ => R.DET_CNT_NMS.off,
  fun _ => R.DET_CNT_FAIL.off,
  fun _ => R.DET_CNT_DROPPED.off,
  fun _ => R.DET_MAX_US.off,
  fun _ => R.MMU_STATUS.off,
  fun _ => R.MMU_OP.off,
  fun _ => R.MMU_OP_VA_LO.off,
  fun _ => R.MMU_OP_VA_HI.off,
  fun _ => R.MMU_OP_PA_LO.off,
  fun _ => R.MMU_OP_PA_HI.off,
  fun _ => R.MMU_OP_CTX.off,
  fun _ => R.MMU_FQ_LOST.off,
  fun _ => R.MMU_CNT_FAULTS.off,
  fun _ => R.MMU_CNT_WALKS.off,
  fun k => (R.MMU_FQ_DATA k).off,
  fun _ => R.MEM_CFG.off,
  fun _ => R.MEM_ECC_STATUS.off,
  fun k => (R.MEM_CH_STATUS k).off,
  fun k => (R.MEM_CH_CNT_CORR k).off,
  fun k => (R.MEM_CH_CNT_UNCORR k).off,
  fun k => (R.MEM_CH_UNCORR_LO k).off,
  fun k => (R.MEM_CH_UNCORR_HI k).off,
  fun k => (R.MEM_CH_REF_MAX k).off,
  fun k => (R.MEM_CH_LAT_MAX k).off]

/-- The offsets of the groups from 320 on. -/
def grpRow5 : List (Nat → Nat) := [
  fun k => (R.DMA_ENG_STATUS k).off,
  fun k => (R.DMA_ENG_CTRL k).off,
  fun k => (R.DMA_SUB_LO k).off,
  fun k => (R.DMA_SUB_HI k).off,
  fun k => (R.DMA_SUB_CELL k).off,
  fun k => (R.DMA_SUB_STATUS k).off,
  fun k => (R.DMA_CNT_CHAINS k).off,
  fun k => (R.DMA_CNT_ITEMS k).off,
  fun k => (R.DMA_CNT_FAILED k).off,
  fun k => (R.SYNC_COUNT k).off,
  fun k => (R.SYNC_ADD k).off,
  fun k => (R.SYNC_STATE k).off,
  fun k => (R.SYNC_CTL k).off,
  fun _ => R.SCHED_STATUS.off,
  fun k => (R.SCHED_SUB_W k).off,
  fun _ => R.SCHED_SUB_CTRL.off,
  fun _ => R.SCHED_SUB_STATUS.off,
  fun _ => R.SCHED_SUB_ID.off,
  fun _ => R.SCHED_CANCEL.off,
  fun _ => R.SCHED_CPL_TAIL.off,
  fun _ => R.SCHED_CPL_SEL.off,
  fun _ => R.SCHED_CPL_LOST.off,
  fun k => (R.SCHED_CPL_DATA k).off,
  fun k => (R.SCHED_Q_CFG k).off,
  fun k => (R.SCHED_Q_STATUS k).off,
  fun k => (R.SCHED_Q_ADMITTED k).off,
  fun k => (R.SCHED_Q_REFUSED k).off,
  fun k => (R.SCHED_Q_DONE k).off,
  fun k => (R.SCHED_Q_FAILED k).off,
  fun k => (R.SCHED_Q_PREEMPTED k).off,
  fun k => (R.SCHED_Q_DOOMED k).off,
  fun k => (R.SCHED_P_STATUS k).off,
  fun k => (R.SCHED_P_QUANTUM k).off,
  fun k => (R.SCHED_P_SAVE_MAX_US k).off,
  fun k => (R.SCHED_P_RESTORE_MAX_US k).off,
  fun k => (R.SCHED_P_SWAP_MAX_US k).off,
  fun k => (R.SCHED_P_PREEMPTS k).off,
  fun k => (R.SCHED_P_START_MAX_US k).off,
  fun k => (R.SCHED_P_STEALS k).off,
  fun k => (R.SCHED_GILL_RES k).off,
  fun _ => R.SCHED_RS_STATUS.off,
  fun _ => R.SCHED_RS_BYTES.off,
  fun _ => R.PFX_CTRL.off,
  fun _ => R.PFX_STATUS.off,
  fun _ => R.PFX_BASE_LO.off,
  fun _ => R.PFX_BASE_HI.off,
  fun _ => R.PFX_CFG.off,
  fun _ => R.PFX_NBLK.off,
  fun _ => R.PFX_USED.off,
  fun _ => R.PFX_CNT_WALK.off,
  fun _ => R.PFX_CNT_HIT.off,
  fun _ => R.PFX_CNT_INSERT.off,
  fun _ => R.PFX_CNT_EVICT.off,
  fun _ => R.PFX_CNT_FAIL.off,
  fun _ => R.ADP_SEL.off,
  fun _ => R.ADP_CMD.off,
  fun _ => R.ADP_STATUS.off,
  fun _ => R.ADP_INFLIGHT.off,
  fun k => (R.ADP_DESC k).off,
  fun _ => R.ADP_CNT_GATHERS.off,
  fun _ => R.ADP_CNT_PUBLISHES.off,
  fun _ => R.AUG_STATUS.off,
  fun _ => R.AUG_POOL_LO.off,
  fun _ => R.AUG_POOL_HI.off]

/-- The offsets of the groups from 384 on. -/
def grpRow6 : List (Nat → Nat) := [
  fun _ => R.AUG_POOL_SIZE.off,
  fun _ => R.AUG_POOL_TAIL.off,
  fun _ => R.AUG_POOL_HEAD.off,
  fun _ => R.AUG_CNT_SAMPLES.off,
  fun _ => R.AUG_CNT_DIM_REFUSED.off,
  fun _ => R.AUG_CNT_FAILED.off,
  fun _ => R.ANN_CTRL.off,
  fun _ => R.ANN_STATUS.off,
  fun _ => R.ANN_WORK.off,
  fun _ => R.ANN_SWEEP.off,
  fun _ => R.ANN_BEST.off,
  fun _ => R.ANN_CNT_PROBLEMS.off,
  fun _ => R.ANN_CNT_FAILED.off,
  fun _ => R.ANN_CNT_SWEEPS.off,
  fun _ => R.ANN_MAX_US.off,
  fun k => (R.SYS_REPRO_DIGEST k).off,
  fun _ => R.SYS_REPRO_STATUS.off,
  fun _ => R.MESH_PROG_CFG.off,
  fun _ => R.MESH_PROG_STATUS.off,
  fun _ => R.MESH_PROG_CNT.off,
  fun _ => R.MESH_TW_CTRL.off,
  fun _ => R.MESH_TW_WORK.off,
  fun _ => R.MESH_TW_SRC.off,
  fun _ => R.MESH_TW_G.off,
  fun _ => R.MESH_TW_REF_NS.off,
  fun _ => R.MESH_TW_RETRY_NS.off,
  fun _ => R.MESH_TW_RUN_NS.off,
  fun _ => R.MESH_TW_FLAGS.off,
  fun _ => R.MBX_CTRL.off,
  fun _ => R.MBX_CFG.off,
  fun _ => R.MBX_RING_LO.off,
  fun _ => R.MBX_RING_HI.off,
  fun _ => R.MBX_HEAD.off,
  fun _ => R.MBX_DONE.off,
  fun _ => R.MBX_RSEQ_NEXT.off,
  fun _ => R.MBX_IRQ_CFG.off,
  fun _ => R.MBX_CNT_WRITTEN.off,
  fun _ => R.MBX_CNT_OVF.off,
  fun _ => R.MBX_CNT_GAP.off,
  fun _ => R.MBX_CNT_OFF.off,
  fun _ => R.MBX_CNT_HEAD_BAD.off,
  fun _ => R.MBX_CNT_HWM.off,
  fun _ => R.MBX_PCI_ID.off,
  fun _ => R.MBX_LINK.off,
  fun _ => R.MBX_HCFG.off,
  fun _ => R.MBX_HSTATUS.off,
  fun _ => R.MBX_BAR2_VA_LO.off,
  fun _ => R.MBX_BAR2_VA_HI.off,
  fun _ => R.MBX_HWIN_BASE_LO.off,
  fun _ => R.MBX_HWIN_BASE_HI.off,
  fun _ => R.MBX_HWIN_SIZE.off,
  fun _ => R.MBX_HWIN_CTRL.off,
  fun _ => R.MBX_CNT_BAR2_FAULT.off,
  fun _ => R.MBX_CNT_HWIN_FAULT.off,
  fun _ => R.MBX_CNT_PCIE_ERR.off,
  fun _ => R.MBX_CNT_RESETS.off,
  fun _ => R.MBX_WQ_CTRL.off,
  fun _ => R.MBX_WQ_CFG.off,
  fun _ => R.MBX_WQ_BASE_LO.off,
  fun _ => R.MBX_WQ_BASE_HI.off,
  fun _ => R.MBX_WQ_TAIL.off,
  fun _ => R.MBX_WQ_HEAD.off,
  fun _ => R.MBX_RUNSET_CTRL.off,
  fun _ => R.MBX_RUNSET_STATUS.off]

/-- The offsets of the groups from 448 on. -/
def grpRow7 : List (Nat → Nat) := [
  fun _ => R.MBX_IRQ_PEND.off,
  fun k => (R.MBX_CELL_WATCH k).off,
  fun k => (R.MBX_IRQ_VEC k).off,
  fun k => (R.MBX_MSIX_ADDR_LO k).off,
  fun k => (R.MBX_MSIX_ADDR_HI k).off,
  fun k => (R.MBX_MSIX_DATA k).off,
  fun k => (R.MBX_MSIX_CTRL k).off,
  fun k => (R.MBX_MSIX_PBA k).off,
  fun _ => R.SPI_CTRL.off,
  fun _ => R.SPI_CFG.off,
  fun _ => R.SPI_STATUS.off,
  fun _ => R.SPI_ENT0.off,
  fun _ => R.SPI_ENT1.off,
  fun _ => R.SPI_ENT2.off,
  fun _ => R.SPI_PUSH.off,
  fun k => (R.SPI_CPL k).off,
  fun _ => R.SPI_CNT_ENTRIES.off,
  fun _ => R.SPI_CNT_FAILED.off,
  fun k => (R.SPI_TXBUF k).off,
  fun k => (R.SPI_RXBUF k).off,
  fun _ => R.I2C_CTRL.off,
  fun _ => R.I2C_CFG.off,
  fun _ => R.I2C_STATUS.off,
  fun _ => R.I2C_FILL.off,
  fun _ => R.I2C_CMD0.off,
  fun _ => R.I2C_CMD1.off,
  fun _ => R.I2C_PUSH.off,
  fun _ => R.I2C_CPL0.off,
  fun _ => R.I2C_CPL1.off,
  fun _ => R.I2C_TGT_CFG.off,
  fun _ => R.I2C_TLOG.off,
  fun _ => R.I2C_CNT_CMDS.off,
  fun _ => R.I2C_CNT_ARB_LOST.off,
  fun _ => R.I2C_CNT_NACK.off,
  fun _ => R.I2C_CNT_TGT_TXN.off,
  fun k => (R.I2C_TXBUF k).off,
  fun k => (R.I2C_RXBUF k).off,
  fun k => (R.I2C_TWIN k).off,
  fun k => (R.I2C_TWIN_LIVE k).off,
  fun _ => R.JRN_CTRL.off,
  fun _ => R.JRN_CFG.off,
  fun _ => R.JRN_STATUS.off,
  fun _ => R.JRN_SEQ.off,
  fun _ => R.JRN_STAGE.off,
  fun _ => R.JRN_RUNWAY.off,
  fun _ => R.JRN_WRPTR.off,
  fun _ => R.JRN_OLDEST.off,
  fun _ => R.JRN_START_CNT.off,
  fun _ => R.JRN_LAST_LOSS.off,
  fun _ => R.JRN_CNT_PAGES.off,
  fun _ => R.JRN_CNT_ERASES.off,
  fun _ => R.JRN_CNT_DEFER.off,
  fun _ => R.JRN_CNT_DROP.off,
  fun _ => R.JRN_CNT_CRC.off,
  fun _ => R.JRN_CNT_FLASH_FAIL.off,
  fun _ => R.JRN_RD_OFS.off,
  fun _ => R.JRN_RD_CTRL.off,
  fun k => (R.JRN_RD_DATA k).off,
  fun k => (R.JRN_TOT k).off,
  fun k => 0x4 + k % 1,
  fun k => 0x1000 + k % 1,
  fun k => 0x10900 + k % 512,
  fun k => 0x12800 + k % 64,
  fun k => 0x80000 + k % 65536]

/-- The offsets of the groups from 512 on. -/
def grpRow8 : List (Nat → Nat) := [
  fun k => 0xA2000 + k % 1024,
  fun k => 0xA3000 + k % 8,
  fun k => 0xA0410 + k % 8]

/-- The groups; group 0 is every offset, the last ones are ranges of offsets. -/
def grpRows : List (List (Nat → Nat)) := [grpRow0, grpRow1, grpRow2, grpRow3, grpRow4, grpRow5, grpRow6, grpRow7, grpRow8]

/-- The offset of register `k` of a group. -/
def grpOff (b k : Nat) : Nat := ((grpRows.getD (b / 64) []).getD (b % 64) (fun k => k)) k

/-- The offset of a register of a group. -/
def Grp (b off : Nat) : Prop := ∃ k, off = grpOff b k

theorem Grp.any {off : Nat} : Grp 0 off := ⟨off, rfl⟩

theorem Grp.range {b lo n : Nat} (e : ∀ k, grpOff b k = lo + k % n) (off : Nat) (h : lo ≤ off) (k : off < lo + n) :
    Grp b off := ⟨off - lo, by rw [e, Nat.mod_eq_of_lt (by omega)]; omega⟩

theorem Grp.some {b : Nat} {f : Fld} (g : Grp b f.reg.off) (x : Fld) (e : Option.some f = Option.some x) : Grp b x.reg.off := by
  cases e; exact g

theorem Grp.none {b : Nat} (x : Fld) (e : Option.none = Option.some x) : Grp b x.reg.off := by cases e

theorem grp_SYS_ID : Grp 1 R.SYS_ID.off := ⟨0, rfl⟩
theorem grp_SYS_REV : Grp 2 R.SYS_REV.off := ⟨0, rfl⟩
theorem grp_SYS_CAP_UNITS : Grp 3 R.SYS_CAP_UNITS.off := ⟨0, rfl⟩
theorem grp_SYS_SUP_VER : Grp 4 R.SYS_SUP_VER.off := ⟨0, rfl⟩
theorem grp_SYS_TILE_VER : Grp 5 R.SYS_TILE_VER.off := ⟨0, rfl⟩
theorem grp_MOT_TRK_CFG : Grp 6 R.MOT_TRK_CFG.off := ⟨0, rfl⟩
theorem grp_MOT_TRK_VMIN : Grp 7 R.MOT_TRK_VMIN.off := ⟨0, rfl⟩
theorem grp_MOT_TRK_VMAX : Grp 8 R.MOT_TRK_VMAX.off := ⟨0, rfl⟩
theorem grp_MOT_TRK_REV_LIMIT : Grp 9 R.MOT_TRK_REV_LIMIT.off := ⟨0, rfl⟩
theorem grp_MOT_TRK_GLITCH_THR : Grp 10 R.MOT_TRK_GLITCH_THR.off := ⟨0, rfl⟩
theorem grp_MOT_TRK_FORCE : Grp 11 R.MOT_TRK_FORCE.off := ⟨0, rfl⟩
theorem grp_MOT_TRK_STATUS : Grp 12 R.MOT_TRK_STATUS.off := ⟨0, rfl⟩
theorem grp_MOT_TRK_ACTIVE : Grp 13 R.MOT_TRK_ACTIVE.off := ⟨0, rfl⟩
theorem grp_MOT_TRK_OPENED : Grp 14 R.MOT_TRK_OPENED.off := ⟨0, rfl⟩
theorem grp_MOT_TRK_DROPPED : Grp 15 R.MOT_TRK_DROPPED.off := ⟨0, rfl⟩
theorem grp_MOT_TRK_NEXT_SEQ : Grp 16 R.MOT_TRK_NEXT_SEQ.off := ⟨0, rfl⟩
theorem grp_MOT_TRK_SEL : Grp 17 R.MOT_TRK_SEL.off := ⟨0, rfl⟩
theorem grp_MOT_TRK_V_SEQ : Grp 18 R.MOT_TRK_V_SEQ.off := ⟨0, rfl⟩
theorem grp_MOT_TRK_V_STATE : Grp 19 R.MOT_TRK_V_STATE.off := ⟨0, rfl⟩
theorem grp_MOT_TRK_V_DL_LO : Grp 20 R.MOT_TRK_V_DL_LO.off := ⟨0, rfl⟩
theorem grp_MOT_TRK_V_DL_HI : Grp 21 R.MOT_TRK_V_DL_HI.off := ⟨0, rfl⟩
theorem grp_MOT_TRK_DECL_LO : Grp 22 R.MOT_TRK_DECL_LO.off := ⟨0, rfl⟩
theorem grp_MOT_TRK_DECL_HI : Grp 23 R.MOT_TRK_DECL_HI.off := ⟨0, rfl⟩
theorem grp_MOT_TRK_COMMIT_SEQ : Grp 24 R.MOT_TRK_COMMIT_SEQ.off := ⟨0, rfl⟩
theorem grp_MOT_TRK_COMMIT : Grp 25 R.MOT_TRK_COMMIT.off := ⟨0, rfl⟩
theorem grp_MOT_GATE_CFG (k : Nat) : Grp 26 (R.MOT_GATE_CFG k).off := ⟨k, rfl⟩
theorem grp_MOT_GATE_PRES_OFFS (k : Nat) : Grp 27 (R.MOT_GATE_PRES_OFFS k).off := ⟨k, rfl⟩
theorem grp_MOT_GATE_WIN (k : Nat) : Grp 28 (R.MOT_GATE_WIN k).off := ⟨k, rfl⟩
theorem grp_MOT_GATE_FIRE (k : Nat) : Grp 29 (R.MOT_GATE_FIRE k).off := ⟨k, rfl⟩
theorem grp_MOT_GATE_MARGIN (k : Nat) : Grp 30 (R.MOT_GATE_MARGIN k).off := ⟨k, rfl⟩
theorem grp_EJ_DISP (k : Nat) : Grp 31 (R.EJ_DISP k).off := ⟨k, rfl⟩
theorem grp_EJ_LATE_CNT : Grp 32 R.EJ_LATE_CNT.off := ⟨0, rfl⟩
theorem grp_EJ_LATE_ARRIVED : Grp 33 R.EJ_LATE_ARRIVED.off := ⟨0, rfl⟩
theorem grp_EJ_OVF_CNT : Grp 34 R.EJ_OVF_CNT.off := ⟨0, rfl⟩
theorem grp_EJ_FIRE_LATE_CNT : Grp 35 R.EJ_FIRE_LATE_CNT.off := ⟨0, rfl⟩
theorem grp_EJ_POL_STATUS : Grp 36 R.EJ_POL_STATUS.off := ⟨0, rfl⟩
theorem grp_PWR_VIN : Grp 37 R.PWR_VIN.off := ⟨0, rfl⟩
theorem grp_PWR_VCAM : Grp 38 R.PWR_VCAM.off := ⟨0, rfl⟩
theorem grp_PWR_VEJ : Grp 39 R.PWR_VEJ.off := ⟨0, rfl⟩
theorem grp_PWR_MOD_STATUS : Grp 40 R.PWR_MOD_STATUS.off := ⟨0, rfl⟩
theorem grp_PWR_HOLDUP : Grp 41 R.PWR_HOLDUP.off := ⟨0, rfl⟩
theorem grp_PWR_HOLDUP_CAP : Grp 42 R.PWR_HOLDUP_CAP.off := ⟨0, rfl⟩
theorem grp_PWR_TEMP : Grp 43 R.PWR_TEMP.off := ⟨0, rfl⟩
theorem grp_PWR_THERM_CFG : Grp 44 R.PWR_THERM_CFG.off := ⟨0, rfl⟩
theorem grp_PWR_RELAY : Grp 45 R.PWR_RELAY.off := ⟨0, rfl⟩
theorem grp_PWR_POCXP : Grp 46 R.PWR_POCXP.off := ⟨0, rfl⟩
theorem grp_PWR_POCXP_STS : Grp 47 R.PWR_POCXP_STS.off := ⟨0, rfl⟩
theorem grp_PWR_ENC_SUP : Grp 48 R.PWR_ENC_SUP.off := ⟨0, rfl⟩
theorem grp_PWR_POWER : Grp 49 R.PWR_POWER.off := ⟨0, rfl⟩
theorem grp_MOT_DI_CFG : Grp 50 R.MOT_DI_CFG.off := ⟨0, rfl⟩
theorem grp_MOT_DI_STS : Grp 51 R.MOT_DI_STS.off := ⟨0, rfl⟩
theorem grp_EJ_LSTOP : Grp 52 R.EJ_LSTOP.off := ⟨0, rfl⟩
theorem grp_EJ_OUT_STS : Grp 53 R.EJ_OUT_STS.off := ⟨0, rfl⟩
theorem grp_CLK_STATUS : Grp 54 R.CLK_STATUS.off := ⟨0, rfl⟩
theorem grp_CLK_FAIL : Grp 55 R.CLK_FAIL.off := ⟨0, rfl⟩
theorem grp_CLK_MEAS_SEL : Grp 56 R.CLK_MEAS_SEL.off := ⟨0, rfl⟩
theorem grp_CLK_MEAS : Grp 57 R.CLK_MEAS.off := ⟨0, rfl⟩
theorem grp_CLK_CORE : Grp 58 R.CLK_CORE.off := ⟨0, rfl⟩
theorem grp_CLK_XING_SEL : Grp 59 R.CLK_XING_SEL.off := ⟨0, rfl⟩
theorem grp_CLK_XING_HWM : Grp 60 R.CLK_XING_HWM.off := ⟨0, rfl⟩
theorem grp_CLK_XING_DROP : Grp 61 R.CLK_XING_DROP.off := ⟨0, rfl⟩
theorem grp_PWR_MODE_REQ : Grp 62 R.PWR_MODE_REQ.off := ⟨0, rfl⟩
theorem grp_PWR_MODE_STATUS : Grp 63 R.PWR_MODE_STATUS.off := ⟨0, rfl⟩
theorem grp_PWR_MODE_CFG : Grp 64 R.PWR_MODE_CFG.off := ⟨0, rfl⟩
theorem grp_PWR_WAKE_EN : Grp 65 R.PWR_WAKE_EN.off := ⟨0, rfl⟩
theorem grp_PWR_WAKE_LATCH : Grp 66 R.PWR_WAKE_LATCH.off := ⟨0, rfl⟩
theorem grp_PWR_WAKE_LANE : Grp 67 R.PWR_WAKE_LANE.off := ⟨0, rfl⟩
theorem grp_PWR_WAKE_TIMER : Grp 68 R.PWR_WAKE_TIMER.off := ⟨0, rfl⟩
theorem grp_PWR_ROLLBACKS : Grp 69 R.PWR_ROLLBACKS.off := ⟨0, rfl⟩
theorem grp_PWR_EXIT_US : Grp 70 R.PWR_EXIT_US.off := ⟨0, rfl⟩
theorem grp_SYS_SERIAL_LO : Grp 71 R.SYS_SERIAL_LO.off := ⟨0, rfl⟩
theorem grp_SYS_SERIAL_HI : Grp 72 R.SYS_SERIAL_HI.off := ⟨0, rfl⟩
theorem grp_SYS_BOOT_STATUS : Grp 73 R.SYS_BOOT_STATUS.off := ⟨0, rfl⟩
theorem grp_SYS_START_MS : Grp 74 R.SYS_START_MS.off := ⟨0, rfl⟩
theorem grp_SYS_FATAL : Grp 75 R.SYS_FATAL.off := ⟨0, rfl⟩
theorem grp_BOOT_CFG : Grp 76 R.BOOT_CFG.off := ⟨0, rfl⟩
theorem grp_BOOT_CTRL : Grp 77 R.BOOT_CTRL.off := ⟨0, rfl⟩
theorem grp_BOOT_MAP_COUNT : Grp 78 R.BOOT_MAP_COUNT.off := ⟨0, rfl⟩
theorem grp_BOOT_MAP_SEL : Grp 79 R.BOOT_MAP_SEL.off := ⟨0, rfl⟩
theorem grp_BOOT_MAP_ENTRY : Grp 80 R.BOOT_MAP_ENTRY.off := ⟨0, rfl⟩
theorem grp_BOOT_MAP_DIGEST (k : Nat) : Grp 81 (R.BOOT_MAP_DIGEST k).off := ⟨k, rfl⟩
theorem grp_BOOT_FMAP_ADD : Grp 82 R.BOOT_FMAP_ADD.off := ⟨0, rfl⟩
theorem grp_BOOT_FMAP_STATUS : Grp 83 R.BOOT_FMAP_STATUS.off := ⟨0, rfl⟩
theorem grp_BOOT_L2P_SEL : Grp 84 R.BOOT_L2P_SEL.off := ⟨0, rfl⟩
theorem grp_BOOT_L2P : Grp 85 R.BOOT_L2P.off := ⟨0, rfl⟩
theorem grp_BOOT_FW_SLOT : Grp 86 R.BOOT_FW_SLOT.off := ⟨0, rfl⟩
theorem grp_BOOT_HOST_PKG : Grp 87 R.BOOT_HOST_PKG.off := ⟨0, rfl⟩
theorem grp_BOOT_RESTARTS : Grp 88 R.BOOT_RESTARTS.off := ⟨0, rfl⟩
theorem grp_BOOT_FUSE_CORR : Grp 89 R.BOOT_FUSE_CORR.off := ⟨0, rfl⟩
theorem grp_BOOT_LANE_CAL : Grp 90 R.BOOT_LANE_CAL.off := ⟨0, rfl⟩
theorem grp_BOOT_STAGE_US (k : Nat) : Grp 91 (R.BOOT_STAGE_US k).off := ⟨k, rfl⟩
theorem grp_BOOT_IMG_CTRL : Grp 92 R.BOOT_IMG_CTRL.off := ⟨0, rfl⟩
theorem grp_BOOT_IMG_ADDR_LO : Grp 93 R.BOOT_IMG_ADDR_LO.off := ⟨0, rfl⟩
theorem grp_BOOT_IMG_ADDR_HI : Grp 94 R.BOOT_IMG_ADDR_HI.off := ⟨0, rfl⟩
theorem grp_BOOT_IMG_LEN : Grp 95 R.BOOT_IMG_LEN.off := ⟨0, rfl⟩
theorem grp_BOOT_IMG_STATUS : Grp 96 R.BOOT_IMG_STATUS.off := ⟨0, rfl⟩
theorem grp_BOOT_IMG_DETAIL : Grp 97 R.BOOT_IMG_DETAIL.off := ⟨0, rfl⟩
theorem grp_BOOT_IMG_ACTIVE : Grp 98 R.BOOT_IMG_ACTIVE.off := ⟨0, rfl⟩
theorem grp_BOOT_IMG_REV : Grp 99 R.BOOT_IMG_REV.off := ⟨0, rfl⟩
theorem grp_BOOT_IMG_SLOTS : Grp 100 R.BOOT_IMG_SLOTS.off := ⟨0, rfl⟩
theorem grp_BOOT_IMG_KEYS : Grp 101 R.BOOT_IMG_KEYS.off := ⟨0, rfl⟩
theorem grp_BOOT_IMG_LOAD_MS : Grp 102 R.BOOT_IMG_LOAD_MS.off := ⟨0, rfl⟩
theorem grp_BOOT_IMG_DIGEST (k : Nat) : Grp 103 (R.BOOT_IMG_DIGEST k).off := ⟨k, rfl⟩
theorem grp_MESH_ROUTESET : Grp 104 R.MESH_ROUTESET.off := ⟨0, rfl⟩
theorem grp_MESH_EPOCH_CFG : Grp 105 R.MESH_EPOCH_CFG.off := ⟨0, rfl⟩
theorem grp_MESH_EPOCH_STATUS : Grp 106 R.MESH_EPOCH_STATUS.off := ⟨0, rfl⟩
theorem grp_MESH_EPOCH_HOLD : Grp 107 R.MESH_EPOCH_HOLD.off := ⟨0, rfl⟩
theorem grp_MESH_EPOCH_COUNT : Grp 108 R.MESH_EPOCH_COUNT.off := ⟨0, rfl⟩
theorem grp_CXP_PORT_CFG (k : Nat) : Grp 109 (R.CXP_PORT_CFG k).off := ⟨k, rfl⟩
theorem grp_CXP_PORT_STATUS (k : Nat) : Grp 110 (R.CXP_PORT_STATUS k).off := ⟨k, rfl⟩
theorem grp_CXP_BIND (k : Nat) : Grp 111 (R.CXP_BIND k).off := ⟨k, rfl⟩
theorem grp_CXP_TRIG_CFG (k : Nat) : Grp 112 (R.CXP_TRIG_CFG k).off := ⟨k, rfl⟩
theorem grp_CXP_TRIG_PHASE_LO (k : Nat) : Grp 113 (R.CXP_TRIG_PHASE_LO k).off := ⟨k, rfl⟩
theorem grp_CXP_TRIG_PHASE_HI (k : Nat) : Grp 114 (R.CXP_TRIG_PHASE_HI k).off := ⟨k, rfl⟩
theorem grp_CXP_TRIG_MINP (k : Nat) : Grp 115 (R.CXP_TRIG_MINP k).off := ⟨k, rfl⟩
theorem grp_CXP_TRIG_PERIOD (k : Nat) : Grp 116 (R.CXP_TRIG_PERIOD k).off := ⟨k, rfl⟩
theorem grp_CXP_TRIG_SOFT (k : Nat) : Grp 117 (R.CXP_TRIG_SOFT k).off := ⟨k, rfl⟩
theorem grp_CXP_WDOG (k : Nat) : Grp 118 (R.CXP_WDOG k).off := ⟨k, rfl⟩
theorem grp_CXP_WIN (k : Nat) : Grp 119 (R.CXP_WIN k).off := ⟨k, rfl⟩
theorem grp_CXP_FB_CFG (k : Nat) : Grp 120 (R.CXP_FB_CFG k).off := ⟨k, rfl⟩
theorem grp_CXP_FB_STATUS (k : Nat) : Grp 121 (R.CXP_FB_STATUS k).off := ⟨k, rfl⟩
theorem grp_CXP_HDR_SIZE (k : Nat) : Grp 122 (R.CXP_HDR_SIZE k).off := ⟨k, rfl⟩
theorem grp_CXP_HDR_FMT (k : Nat) : Grp 123 (R.CXP_HDR_FMT k).off := ⟨k, rfl⟩
theorem grp_CXP_CNT_LINES (k : Nat) : Grp 124 (R.CXP_CNT_LINES k).off := ⟨k, rfl⟩
theorem grp_CXP_CNT_FRAMES (k : Nat) : Grp 125 (R.CXP_CNT_FRAMES k).off := ⟨k, rfl⟩
theorem grp_CXP_CNT_CRC (k : Nat) : Grp 126 (R.CXP_CNT_CRC k).off := ⟨k, rfl⟩
theorem grp_CXP_CNT_SYM (k : Nat) : Grp 127 (R.CXP_CNT_SYM k).off := ⟨k, rfl⟩
theorem grp_CXP_CNT_MARKED (k : Nat) : Grp 128 (R.CXP_CNT_MARKED k).off := ⟨k, rfl⟩
theorem grp_CXP_CNT_UNDELIV (k : Nat) : Grp 129 (R.CXP_CNT_UNDELIV k).off := ⟨k, rfl⟩
theorem grp_CXP_CNT_OVERTRIG (k : Nat) : Grp 130 (R.CXP_CNT_OVERTRIG k).off := ⟨k, rfl⟩
theorem grp_CXP_CNT_OVERRUN (k : Nat) : Grp 131 (R.CXP_CNT_OVERRUN k).off := ⟨k, rfl⟩
theorem grp_CXP_CNT_UNSOL (k : Nat) : Grp 132 (R.CXP_CNT_UNSOL k).off := ⟨k, rfl⟩
theorem grp_CXP_CNT_DISCARD (k : Nat) : Grp 133 (R.CXP_CNT_DISCARD k).off := ⟨k, rfl⟩
theorem grp_CXP_CNT_EVENT (k : Nat) : Grp 134 (R.CXP_CNT_EVENT k).off := ⟨k, rfl⟩
theorem grp_CXP_CNT_RETRY (k : Nat) : Grp 135 (R.CXP_CNT_RETRY k).off := ⟨k, rfl⟩
theorem grp_CXP_CTRL_ADDR (k : Nat) : Grp 136 (R.CXP_CTRL_ADDR k).off := ⟨k, rfl⟩
theorem grp_CXP_CTRL_DATA (k : Nat) : Grp 137 (R.CXP_CTRL_DATA k).off := ⟨k, rfl⟩
theorem grp_CXP_CTRL_CMD (k : Nat) : Grp 138 (R.CXP_CTRL_CMD k).off := ⟨k, rfl⟩
theorem grp_CXP_CTRL_STATUS (k : Nat) : Grp 139 (R.CXP_CTRL_STATUS k).off := ⟨k, rfl⟩
theorem grp_CXP_CTRL_TMO (k : Nat) : Grp 140 (R.CXP_CTRL_TMO k).off := ⟨k, rfl⟩
theorem grp_ISP_PIPE_STATUS (k : Nat) : Grp 141 (R.ISP_PIPE_STATUS k).off := ⟨k, rfl⟩
theorem grp_ISP_PIPE_CELL (k : Nat) : Grp 142 (R.ISP_PIPE_CELL k).off := ⟨k, rfl⟩
theorem grp_ISP_OUT_CFG (k : Nat) : Grp 143 (R.ISP_OUT_CFG k).off := ⟨k, rfl⟩
theorem grp_ISP_OUT_TAIL (k : Nat) : Grp 144 (R.ISP_OUT_TAIL k).off := ⟨k, rfl⟩
theorem grp_ISP_OUT_HEAD (k : Nat) : Grp 145 (R.ISP_OUT_HEAD k).off := ⟨k, rfl⟩
theorem grp_ISP_LOAD (k : Nat) : Grp 146 (R.ISP_LOAD k).off := ⟨k, rfl⟩
theorem grp_ISP_CNT_PARTS (k : Nat) : Grp 147 (R.ISP_CNT_PARTS k).off := ⟨k, rfl⟩
theorem grp_ISP_CNT_TM_FRAMES (k : Nat) : Grp 148 (R.ISP_CNT_TM_FRAMES k).off := ⟨k, rfl⟩
theorem grp_ISP_CNT_OUT_FULL (k : Nat) : Grp 149 (R.ISP_CNT_OUT_FULL k).off := ⟨k, rfl⟩
theorem grp_ISP_CNT_PRESENCE (k : Nat) : Grp 150 (R.ISP_CNT_PRESENCE k).off := ⟨k, rfl⟩
theorem grp_ISP_CNT_OUTSIDE (k : Nat) : Grp 151 (R.ISP_CNT_OUTSIDE k).off := ⟨k, rfl⟩
theorem grp_MOT_CH_CFG (k : Nat) : Grp 152 (R.MOT_CH_CFG k).off := ⟨k, rfl⟩
theorem grp_MOT_CH_QUAL (k : Nat) : Grp 153 (R.MOT_CH_QUAL k).off := ⟨k, rfl⟩
theorem grp_MOT_CH_SPACE (k : Nat) : Grp 154 (R.MOT_CH_SPACE k).off := ⟨k, rfl⟩
theorem grp_MOT_CH_WIRE (k : Nat) : Grp 155 (R.MOT_CH_WIRE k).off := ⟨k, rfl⟩
theorem grp_MOT_CH_GATE (k : Nat) : Grp 156 (R.MOT_CH_GATE k).off := ⟨k, rfl⟩
theorem grp_MOT_CH_VHI (k : Nat) : Grp 157 (R.MOT_CH_VHI k).off := ⟨k, rfl⟩
theorem grp_MOT_CH_VLO (k : Nat) : Grp 158 (R.MOT_CH_VLO k).off := ⟨k, rfl⟩
theorem grp_MOT_CH_CPR (k : Nat) : Grp 159 (R.MOT_CH_CPR k).off := ⟨k, rfl⟩
theorem grp_MOT_CH_X_LO (k : Nat) : Grp 160 (R.MOT_CH_X_LO k).off := ⟨k, rfl⟩
theorem grp_MOT_CH_X_HI (k : Nat) : Grp 161 (R.MOT_CH_X_HI k).off := ⟨k, rfl⟩
theorem grp_MOT_CH_E_LO (k : Nat) : Grp 162 (R.MOT_CH_E_LO k).off := ⟨k, rfl⟩
theorem grp_MOT_CH_E_HI (k : Nat) : Grp 163 (R.MOT_CH_E_HI k).off := ⟨k, rfl⟩
theorem grp_MOT_CH_SPEED (k : Nat) : Grp 164 (R.MOT_CH_SPEED k).off := ⟨k, rfl⟩
theorem grp_MOT_CH_STATUS (k : Nat) : Grp 165 (R.MOT_CH_STATUS k).off := ⟨k, rfl⟩
theorem grp_MOT_CH_IDX_LO (k : Nat) : Grp 166 (R.MOT_CH_IDX_LO k).off := ⟨k, rfl⟩
theorem grp_MOT_CH_IDX_HI (k : Nat) : Grp 167 (R.MOT_CH_IDX_HI k).off := ⟨k, rfl⟩
theorem grp_MOT_CH_CNT_GLITCH (k : Nat) : Grp 168 (R.MOT_CH_CNT_GLITCH k).off := ⟨k, rfl⟩
theorem grp_MOT_CH_CNT_WIRE (k : Nat) : Grp 169 (R.MOT_CH_CNT_WIRE k).off := ⟨k, rfl⟩
theorem grp_MOT_CH_CNT_QUAD (k : Nat) : Grp 170 (R.MOT_CH_CNT_QUAD k).off := ⟨k, rfl⟩
theorem grp_MOT_CH_CNT_INDEX (k : Nat) : Grp 171 (R.MOT_CH_CNT_INDEX k).off := ⟨k, rfl⟩
theorem grp_MOT_CH_CNT_SER (k : Nat) : Grp 172 (R.MOT_CH_CNT_SER k).off := ⟨k, rfl⟩
theorem grp_MOT_CH_CNT_REV (k : Nat) : Grp 173 (R.MOT_CH_CNT_REV k).off := ⟨k, rfl⟩
theorem grp_MOT_CH_SER_CFG (k : Nat) : Grp 174 (R.MOT_CH_SER_CFG k).off := ⟨k, rfl⟩
theorem grp_MOT_CH_SER_TIM (k : Nat) : Grp 175 (R.MOT_CH_SER_TIM k).off := ⟨k, rfl⟩
theorem grp_MOT_CH_SER_CRC (k : Nat) : Grp 176 (R.MOT_CH_SER_CRC k).off := ⟨k, rfl⟩
theorem grp_MOT_CH_SER_JUMP (k : Nat) : Grp 177 (R.MOT_CH_SER_JUMP k).off := ⟨k, rfl⟩
theorem grp_MOT_CH_SER_DLY (k : Nat) : Grp 178 (R.MOT_CH_SER_DLY k).off := ⟨k, rfl⟩
theorem grp_EJ_OUT_CFG (k : Nat) : Grp 179 (R.EJ_OUT_CFG k).off := ⟨k, rfl⟩
theorem grp_EJ_OUT_WIDTH (k : Nat) : Grp 180 (R.EJ_OUT_WIDTH k).off := ⟨k, rfl⟩
theorem grp_EJ_OUT_TIMING (k : Nat) : Grp 181 (R.EJ_OUT_TIMING k).off := ⟨k, rfl⟩
theorem grp_EJ_OUT_LIMIT (k : Nat) : Grp 182 (R.EJ_OUT_LIMIT k).off := ⟨k, rfl⟩
theorem grp_EJ_OUT_STATUS (k : Nat) : Grp 183 (R.EJ_OUT_STATUS k).off := ⟨k, rfl⟩
theorem grp_EJ_OUT_CTRL (k : Nat) : Grp 184 (R.EJ_OUT_CTRL k).off := ⟨k, rfl⟩
theorem grp_EJ_OUT_HEAD_LO (k : Nat) : Grp 185 (R.EJ_OUT_HEAD_LO k).off := ⟨k, rfl⟩
theorem grp_EJ_OUT_HEAD_HI (k : Nat) : Grp 186 (R.EJ_OUT_HEAD_HI k).off := ⟨k, rfl⟩
theorem grp_EJ_OUT_CNT_FIRED (k : Nat) : Grp 187 (R.EJ_OUT_CNT_FIRED k).off := ⟨k, rfl⟩
theorem grp_EJ_OUT_CNT_COALESCED (k : Nat) : Grp 188 (R.EJ_OUT_CNT_COALESCED k).off := ⟨k, rfl⟩
theorem grp_EJ_OUT_CNT_EXTENDED (k : Nat) : Grp 189 (R.EJ_OUT_CNT_EXTENDED k).off := ⟨k, rfl⟩
theorem grp_EJ_OUT_CNT_DEFERRED (k : Nat) : Grp 190 (R.EJ_OUT_CNT_DEFERRED k).off := ⟨k, rfl⟩
theorem grp_EJ_OUT_CNT_SKIPPED (k : Nat) : Grp 191 (R.EJ_OUT_CNT_SKIPPED k).off := ⟨k, rfl⟩
theorem grp_EJ_CTRL : Grp 192 R.EJ_CTRL.off := ⟨0, rfl⟩
theorem grp_EJ_ARM_KEY_LO : Grp 193 R.EJ_ARM_KEY_LO.off := ⟨0, rfl⟩
theorem grp_EJ_ARM_KEY_HI : Grp 194 R.EJ_ARM_KEY_HI.off := ⟨0, rfl⟩
theorem grp_EJ_ARM_SEQ : Grp 195 R.EJ_ARM_SEQ.off := ⟨0, rfl⟩
theorem grp_EJ_ARM_CMD : Grp 196 R.EJ_ARM_CMD.off := ⟨0, rfl⟩
theorem grp_EJ_ARM_STATUS : Grp 197 R.EJ_ARM_STATUS.off := ⟨0, rfl⟩
theorem grp_EJ_LOG_TAIL : Grp 198 R.EJ_LOG_TAIL.off := ⟨0, rfl⟩
theorem grp_EJ_LOG_SEL : Grp 199 R.EJ_LOG_SEL.off := ⟨0, rfl⟩
theorem grp_EJ_LOG_LOST : Grp 200 R.EJ_LOG_LOST.off := ⟨0, rfl⟩
theorem grp_EJ_LOG_DATA (k : Nat) : Grp 201 (R.EJ_LOG_DATA k).off := ⟨k, rfl⟩
theorem grp_PTP_CFG : Grp 202 R.PTP_CFG.off := ⟨0, rfl⟩
theorem grp_PTP_STATUS : Grp 203 R.PTP_STATUS.off := ⟨0, rfl⟩
theorem grp_PTP_SNAP_FRAC : Grp 204 R.PTP_SNAP_FRAC.off := ⟨0, rfl⟩
theorem grp_PTP_SNAP_NS : Grp 205 R.PTP_SNAP_NS.off := ⟨0, rfl⟩
theorem grp_PTP_SNAP_SEC_LO : Grp 206 R.PTP_SNAP_SEC_LO.off := ⟨0, rfl⟩
theorem grp_PTP_SNAP_SEC_HI : Grp 207 R.PTP_SNAP_SEC_HI.off := ⟨0, rfl⟩
theorem grp_PTP_SNAP_MONO_LO : Grp 208 R.PTP_SNAP_MONO_LO.off := ⟨0, rfl⟩
theorem grp_PTP_SNAP_MONO_HI : Grp 209 R.PTP_SNAP_MONO_HI.off := ⟨0, rfl⟩
theorem grp_PTP_RATE : Grp 210 R.PTP_RATE.off := ⟨0, rfl⟩
theorem grp_PTP_STEP_SEC_LO : Grp 211 R.PTP_STEP_SEC_LO.off := ⟨0, rfl⟩
theorem grp_PTP_STEP_SEC_HI : Grp 212 R.PTP_STEP_SEC_HI.off := ⟨0, rfl⟩
theorem grp_PTP_STEP_NS : Grp 213 R.PTP_STEP_NS.off := ⟨0, rfl⟩
theorem grp_PTP_STEP_CTRL : Grp 214 R.PTP_STEP_CTRL.off := ⟨0, rfl⟩
theorem grp_PTP_OFS_NS : Grp 215 R.PTP_OFS_NS.off := ⟨0, rfl⟩
theorem grp_PTP_OFS_SEC_LO : Grp 216 R.PTP_OFS_SEC_LO.off := ⟨0, rfl⟩
theorem grp_PTP_OFS_SEC_HI : Grp 217 R.PTP_OFS_SEC_HI.off := ⟨0, rfl⟩
theorem grp_PTP_SERVO_CFG : Grp 218 R.PTP_SERVO_CFG.off := ⟨0, rfl⟩
theorem grp_PTP_STEP_THR : Grp 219 R.PTP_STEP_THR.off := ⟨0, rfl⟩
theorem grp_PTP_SERVO_GAIN : Grp 220 R.PTP_SERVO_GAIN.off := ⟨0, rfl⟩
theorem grp_PTP_HOLD : Grp 221 R.PTP_HOLD.off := ⟨0, rfl⟩
theorem grp_PTP_SMP_STATUS : Grp 222 R.PTP_SMP_STATUS.off := ⟨0, rfl⟩
theorem grp_PTP_SMP_OFS_LO : Grp 223 R.PTP_SMP_OFS_LO.off := ⟨0, rfl⟩
theorem grp_PTP_SMP_OFS_HI : Grp 224 R.PTP_SMP_OFS_HI.off := ⟨0, rfl⟩
theorem grp_PTP_SMP_DELAY : Grp 225 R.PTP_SMP_DELAY.off := ⟨0, rfl⟩
theorem grp_PTP_SMP_MONO_LO : Grp 226 R.PTP_SMP_MONO_LO.off := ⟨0, rfl⟩
theorem grp_PTP_SMP_MONO_HI : Grp 227 R.PTP_SMP_MONO_HI.off := ⟨0, rfl⟩
theorem grp_PTP_PORT_CFG (k : Nat) : Grp 228 (R.PTP_PORT_CFG k).off := ⟨k, rfl⟩
theorem grp_PTP_TX_LAT (k : Nat) : Grp 229 (R.PTP_TX_LAT k).off := ⟨k, rfl⟩
theorem grp_PTP_RX_LAT (k : Nat) : Grp 230 (R.PTP_RX_LAT k).off := ⟨k, rfl⟩
theorem grp_PTP_ASYM (k : Nat) : Grp 231 (R.PTP_ASYM k).off := ⟨k, rfl⟩
theorem grp_PTP_PORT_STATUS (k : Nat) : Grp 232 (R.PTP_PORT_STATUS k).off := ⟨k, rfl⟩
theorem grp_PTP_CNT_RXEV (k : Nat) : Grp 233 (R.PTP_CNT_RXEV k).off := ⟨k, rfl⟩
theorem grp_PTP_CNT_TXEV (k : Nat) : Grp 234 (R.PTP_CNT_TXEV k).off := ⟨k, rfl⟩
theorem grp_PTP_CNT_RXDROP (k : Nat) : Grp 235 (R.PTP_CNT_RXDROP k).off := ⟨k, rfl⟩
theorem grp_PTP_CNT_TXLOST (k : Nat) : Grp 236 (R.PTP_CNT_TXLOST k).off := ⟨k, rfl⟩
theorem grp_PTP_CNT_OTHER (k : Nat) : Grp 237 (R.PTP_CNT_OTHER k).off := ⟨k, rfl⟩
theorem grp_PTP_EVT_CFG : Grp 238 R.PTP_EVT_CFG.off := ⟨0, rfl⟩
theorem grp_PTP_EVT_MARK_LO : Grp 239 R.PTP_EVT_MARK_LO.off := ⟨0, rfl⟩
theorem grp_PTP_EVT_MARK_HI : Grp 240 R.PTP_EVT_MARK_HI.off := ⟨0, rfl⟩
theorem grp_PTP_EVT_STATUS : Grp 241 R.PTP_EVT_STATUS.off := ⟨0, rfl⟩
theorem grp_PTP_EVT_DATA (k : Nat) : Grp 242 (R.PTP_EVT_DATA k).off := ⟨k, rfl⟩
theorem grp_PTP_EVT_LOST : Grp 243 R.PTP_EVT_LOST.off := ⟨0, rfl⟩
theorem grp_PTP_STEP_LOG_SEL : Grp 244 R.PTP_STEP_LOG_SEL.off := ⟨0, rfl⟩
theorem grp_PTP_STEP_LOG (k : Nat) : Grp 245 (R.PTP_STEP_LOG k).off := ⟨k, rfl⟩
theorem grp_LANE_CFG (k : Nat) : Grp 246 (R.LANE_CFG k).off := ⟨k, rfl⟩
theorem grp_LANE_STATUS (k : Nat) : Grp 247 (R.LANE_STATUS k).off := ⟨k, rfl⟩
theorem grp_LANE_TX_CMD (k : Nat) : Grp 248 (R.LANE_TX_CMD k).off := ⟨k, rfl⟩
theorem grp_LANE_RX_CMD (k : Nat) : Grp 249 (R.LANE_RX_CMD k).off := ⟨k, rfl⟩
theorem grp_LANE_TMO (k : Nat) : Grp 250 (R.LANE_TMO k).off := ⟨k, rfl⟩
theorem grp_LANE_SYNTH_TMO (k : Nat) : Grp 251 (R.LANE_SYNTH_TMO k).off := ⟨k, rfl⟩
theorem grp_LANE_PRBS (k : Nat) : Grp 252 (R.LANE_PRBS k).off := ⟨k, rfl⟩
theorem grp_LANE_PRBS_ERR (k : Nat) : Grp 253 (R.LANE_PRBS_ERR k).off := ⟨k, rfl⟩
theorem grp_LANE_PRBS_BITS_LO (k : Nat) : Grp 254 (R.LANE_PRBS_BITS_LO k).off := ⟨k, rfl⟩
theorem grp_LANE_PRBS_BITS_HI (k : Nat) : Grp 255 (R.LANE_PRBS_BITS_HI k).off := ⟨k, rfl⟩
theorem grp_LANE_CNT_WAKE (k : Nat) : Grp 256 (R.LANE_CNT_WAKE k).off := ⟨k, rfl⟩
theorem grp_LANE_CNT_GUARD (k : Nat) : Grp 257 (R.LANE_CNT_GUARD k).off := ⟨k, rfl⟩
theorem grp_LANE_CNT_RETRAIN (k : Nat) : Grp 258 (R.LANE_CNT_RETRAIN k).off := ⟨k, rfl⟩
theorem grp_LANE_CNT_LOS (k : Nat) : Grp 259 (R.LANE_CNT_LOS k).off := ⟨k, rfl⟩
theorem grp_LANE_CNT_TXFAIL (k : Nat) : Grp 260 (R.LANE_CNT_TXFAIL k).off := ⟨k, rfl⟩
theorem grp_LANE_CNT_ALIGN (k : Nat) : Grp 261 (R.LANE_CNT_ALIGN k).off := ⟨k, rfl⟩
theorem grp_RING_CTRL : Grp 262 R.RING_CTRL.off := ⟨0, rfl⟩
theorem grp_RING_STATUS : Grp 263 R.RING_STATUS.off := ⟨0, rfl⟩
theorem grp_RING_TOPO : Grp 264 R.RING_TOPO.off := ⟨0, rfl⟩
theorem grp_RING_LAYOUT : Grp 265 R.RING_LAYOUT.off := ⟨0, rfl⟩
theorem grp_RING_LINK_CFG : Grp 266 R.RING_LINK_CFG.off := ⟨0, rfl⟩
theorem grp_RING_RETRY_CFG : Grp 267 R.RING_RETRY_CFG.off := ⟨0, rfl⟩
theorem grp_RING_TMO : Grp 268 R.RING_TMO.off := ⟨0, rfl⟩
theorem grp_RING_CNT_DUP : Grp 269 R.RING_CNT_DUP.off := ⟨0, rfl⟩
theorem grp_RING_CNT_LOST : Grp 270 R.RING_CNT_LOST.off := ⟨0, rfl⟩
theorem grp_RING_CNT_DST_ABSENT : Grp 271 R.RING_CNT_DST_ABSENT.off := ⟨0, rfl⟩
theorem grp_RING_CNT_QUIESCE : Grp 272 R.RING_CNT_QUIESCE.off := ⟨0, rfl⟩
theorem grp_RING_QUIESCE_US : Grp 273 R.RING_QUIESCE_US.off := ⟨0, rfl⟩
theorem grp_RING_SIDE_STATUS (k : Nat) : Grp 274 (R.RING_SIDE_STATUS k).off := ⟨k, rfl⟩
theorem grp_RING_SIDE_FRAMES_TX (k : Nat) : Grp 275 (R.RING_SIDE_FRAMES_TX k).off := ⟨k, rfl⟩
theorem grp_RING_SIDE_FRAMES_RX (k : Nat) : Grp 276 (R.RING_SIDE_FRAMES_RX k).off := ⟨k, rfl⟩
theorem grp_RING_SIDE_CRC (k : Nat) : Grp 277 (R.RING_SIDE_CRC k).off := ⟨k, rfl⟩
theorem grp_RING_SIDE_NAK_RETRY (k : Nat) : Grp 278 (R.RING_SIDE_NAK_RETRY k).off := ⟨k, rfl⟩
theorem grp_RING_SIDE_TMO_RETRY (k : Nat) : Grp 279 (R.RING_SIDE_TMO_RETRY k).off := ⟨k, rfl⟩
theorem grp_RING_SIDE_RETRY_HWM (k : Nat) : Grp 280 (R.RING_SIDE_RETRY_HWM k).off := ⟨k, rfl⟩
theorem grp_RING_SIDE_TRAIN (k : Nat) : Grp 281 (R.RING_SIDE_TRAIN k).off := ⟨k, rfl⟩
theorem grp_GILL_STATUS (k : Nat) : Grp 282 (R.GILL_STATUS k).off := ⟨k, rfl⟩
theorem grp_GILL_PC (k : Nat) : Grp 283 (R.GILL_PC k).off := ⟨k, rfl⟩
theorem grp_GILL_FAULT (k : Nat) : Grp 284 (R.GILL_FAULT k).off := ⟨k, rfl⟩
theorem grp_GILL_FAULT_INFO (k : Nat) : Grp 285 (R.GILL_FAULT_INFO k).off := ⟨k, rfl⟩
theorem grp_GILL_CNT_BUNDLES (k : Nat) : Grp 286 (R.GILL_CNT_BUNDLES k).off := ⟨k, rfl⟩
theorem grp_GILL_CNT_STALL (k : Nat) : Grp 287 (R.GILL_CNT_STALL k).off := ⟨k, rfl⟩
theorem grp_GILL_CNT_WAIT (k : Nat) : Grp 288 (R.GILL_CNT_WAIT k).off := ⟨k, rfl⟩
theorem grp_GILL_CNT_GLOBAL (k : Nat) : Grp 289 (R.GILL_CNT_GLOBAL k).off := ⟨k, rfl⟩
theorem grp_GILL_DBG_CTRL (k : Nat) : Grp 290 (R.GILL_DBG_CTRL k).off := ⟨k, rfl⟩
theorem grp_GILL_DBG_SEL (k : Nat) : Grp 291 (R.GILL_DBG_SEL k).off := ⟨k, rfl⟩
theorem grp_GILL_DBG_DATA (k : Nat) : Grp 292 (R.GILL_DBG_DATA k).off := ⟨k, rfl⟩
theorem grp_GILL_LOOP (k : Nat) : Grp 293 (R.GILL_LOOP k).off := ⟨k, rfl⟩
theorem grp_DET_STATUS : Grp 294 R.DET_STATUS.off := ⟨0, rfl⟩
theorem grp_DET_CNT_BOXDEC : Grp 295 R.DET_CNT_BOXDEC.off := ⟨0, rfl⟩
theorem grp_DET_CNT_NMS : Grp 296 R.DET_CNT_NMS.off := ⟨0, rfl⟩
theorem grp_DET_CNT_FAIL : Grp 297 R.DET_CNT_FAIL.off := ⟨0, rfl⟩
theorem grp_DET_CNT_DROPPED : Grp 298 R.DET_CNT_DROPPED.off := ⟨0, rfl⟩
theorem grp_DET_MAX_US : Grp 299 R.DET_MAX_US.off := ⟨0, rfl⟩
theorem grp_MMU_STATUS : Grp 300 R.MMU_STATUS.off := ⟨0, rfl⟩
theorem grp_MMU_OP : Grp 301 R.MMU_OP.off := ⟨0, rfl⟩
theorem grp_MMU_OP_VA_LO : Grp 302 R.MMU_OP_VA_LO.off := ⟨0, rfl⟩
theorem grp_MMU_OP_VA_HI : Grp 303 R.MMU_OP_VA_HI.off := ⟨0, rfl⟩
theorem grp_MMU_OP_PA_LO : Grp 304 R.MMU_OP_PA_LO.off := ⟨0, rfl⟩
theorem grp_MMU_OP_PA_HI : Grp 305 R.MMU_OP_PA_HI.off := ⟨0, rfl⟩
theorem grp_MMU_OP_CTX : Grp 306 R.MMU_OP_CTX.off := ⟨0, rfl⟩
theorem grp_MMU_FQ_LOST : Grp 307 R.MMU_FQ_LOST.off := ⟨0, rfl⟩
theorem grp_MMU_CNT_FAULTS : Grp 308 R.MMU_CNT_FAULTS.off := ⟨0, rfl⟩
theorem grp_MMU_CNT_WALKS : Grp 309 R.MMU_CNT_WALKS.off := ⟨0, rfl⟩
theorem grp_MMU_FQ_DATA (k : Nat) : Grp 310 (R.MMU_FQ_DATA k).off := ⟨k, rfl⟩
theorem grp_MEM_CFG : Grp 311 R.MEM_CFG.off := ⟨0, rfl⟩
theorem grp_MEM_ECC_STATUS : Grp 312 R.MEM_ECC_STATUS.off := ⟨0, rfl⟩
theorem grp_MEM_CH_STATUS (k : Nat) : Grp 313 (R.MEM_CH_STATUS k).off := ⟨k, rfl⟩
theorem grp_MEM_CH_CNT_CORR (k : Nat) : Grp 314 (R.MEM_CH_CNT_CORR k).off := ⟨k, rfl⟩
theorem grp_MEM_CH_CNT_UNCORR (k : Nat) : Grp 315 (R.MEM_CH_CNT_UNCORR k).off := ⟨k, rfl⟩
theorem grp_MEM_CH_UNCORR_LO (k : Nat) : Grp 316 (R.MEM_CH_UNCORR_LO k).off := ⟨k, rfl⟩
theorem grp_MEM_CH_UNCORR_HI (k : Nat) : Grp 317 (R.MEM_CH_UNCORR_HI k).off := ⟨k, rfl⟩
theorem grp_MEM_CH_REF_MAX (k : Nat) : Grp 318 (R.MEM_CH_REF_MAX k).off := ⟨k, rfl⟩
theorem grp_MEM_CH_LAT_MAX (k : Nat) : Grp 319 (R.MEM_CH_LAT_MAX k).off := ⟨k, rfl⟩
theorem grp_DMA_ENG_STATUS (k : Nat) : Grp 320 (R.DMA_ENG_STATUS k).off := ⟨k, rfl⟩
theorem grp_DMA_ENG_CTRL (k : Nat) : Grp 321 (R.DMA_ENG_CTRL k).off := ⟨k, rfl⟩
theorem grp_DMA_SUB_LO (k : Nat) : Grp 322 (R.DMA_SUB_LO k).off := ⟨k, rfl⟩
theorem grp_DMA_SUB_HI (k : Nat) : Grp 323 (R.DMA_SUB_HI k).off := ⟨k, rfl⟩
theorem grp_DMA_SUB_CELL (k : Nat) : Grp 324 (R.DMA_SUB_CELL k).off := ⟨k, rfl⟩
theorem grp_DMA_SUB_STATUS (k : Nat) : Grp 325 (R.DMA_SUB_STATUS k).off := ⟨k, rfl⟩
theorem grp_DMA_CNT_CHAINS (k : Nat) : Grp 326 (R.DMA_CNT_CHAINS k).off := ⟨k, rfl⟩
theorem grp_DMA_CNT_ITEMS (k : Nat) : Grp 327 (R.DMA_CNT_ITEMS k).off := ⟨k, rfl⟩
theorem grp_DMA_CNT_FAILED (k : Nat) : Grp 328 (R.DMA_CNT_FAILED k).off := ⟨k, rfl⟩
theorem grp_SYNC_COUNT (k : Nat) : Grp 329 (R.SYNC_COUNT k).off := ⟨k, rfl⟩
theorem grp_SYNC_ADD (k : Nat) : Grp 330 (R.SYNC_ADD k).off := ⟨k, rfl⟩
theorem grp_SYNC_STATE (k : Nat) : Grp 331 (R.SYNC_STATE k).off := ⟨k, rfl⟩
theorem grp_SYNC_CTL (k : Nat) : Grp 332 (R.SYNC_CTL k).off := ⟨k, rfl⟩
theorem grp_SCHED_STATUS : Grp 333 R.SCHED_STATUS.off := ⟨0, rfl⟩
theorem grp_SCHED_SUB_W (k : Nat) : Grp 334 (R.SCHED_SUB_W k).off := ⟨k, rfl⟩
theorem grp_SCHED_SUB_CTRL : Grp 335 R.SCHED_SUB_CTRL.off := ⟨0, rfl⟩
theorem grp_SCHED_SUB_STATUS : Grp 336 R.SCHED_SUB_STATUS.off := ⟨0, rfl⟩
theorem grp_SCHED_SUB_ID : Grp 337 R.SCHED_SUB_ID.off := ⟨0, rfl⟩
theorem grp_SCHED_CANCEL : Grp 338 R.SCHED_CANCEL.off := ⟨0, rfl⟩
theorem grp_SCHED_CPL_TAIL : Grp 339 R.SCHED_CPL_TAIL.off := ⟨0, rfl⟩
theorem grp_SCHED_CPL_SEL : Grp 340 R.SCHED_CPL_SEL.off := ⟨0, rfl⟩
theorem grp_SCHED_CPL_LOST : Grp 341 R.SCHED_CPL_LOST.off := ⟨0, rfl⟩
theorem grp_SCHED_CPL_DATA (k : Nat) : Grp 342 (R.SCHED_CPL_DATA k).off := ⟨k, rfl⟩
theorem grp_SCHED_Q_CFG (k : Nat) : Grp 343 (R.SCHED_Q_CFG k).off := ⟨k, rfl⟩
theorem grp_SCHED_Q_STATUS (k : Nat) : Grp 344 (R.SCHED_Q_STATUS k).off := ⟨k, rfl⟩
theorem grp_SCHED_Q_ADMITTED (k : Nat) : Grp 345 (R.SCHED_Q_ADMITTED k).off := ⟨k, rfl⟩
theorem grp_SCHED_Q_REFUSED (k : Nat) : Grp 346 (R.SCHED_Q_REFUSED k).off := ⟨k, rfl⟩
theorem grp_SCHED_Q_DONE (k : Nat) : Grp 347 (R.SCHED_Q_DONE k).off := ⟨k, rfl⟩
theorem grp_SCHED_Q_FAILED (k : Nat) : Grp 348 (R.SCHED_Q_FAILED k).off := ⟨k, rfl⟩
theorem grp_SCHED_Q_PREEMPTED (k : Nat) : Grp 349 (R.SCHED_Q_PREEMPTED k).off := ⟨k, rfl⟩
theorem grp_SCHED_Q_DOOMED (k : Nat) : Grp 350 (R.SCHED_Q_DOOMED k).off := ⟨k, rfl⟩
theorem grp_SCHED_P_STATUS (k : Nat) : Grp 351 (R.SCHED_P_STATUS k).off := ⟨k, rfl⟩
theorem grp_SCHED_P_QUANTUM (k : Nat) : Grp 352 (R.SCHED_P_QUANTUM k).off := ⟨k, rfl⟩
theorem grp_SCHED_P_SAVE_MAX_US (k : Nat) : Grp 353 (R.SCHED_P_SAVE_MAX_US k).off := ⟨k, rfl⟩
theorem grp_SCHED_P_RESTORE_MAX_US (k : Nat) : Grp 354 (R.SCHED_P_RESTORE_MAX_US k).off := ⟨k, rfl⟩
theorem grp_SCHED_P_SWAP_MAX_US (k : Nat) : Grp 355 (R.SCHED_P_SWAP_MAX_US k).off := ⟨k, rfl⟩
theorem grp_SCHED_P_PREEMPTS (k : Nat) : Grp 356 (R.SCHED_P_PREEMPTS k).off := ⟨k, rfl⟩
theorem grp_SCHED_P_START_MAX_US (k : Nat) : Grp 357 (R.SCHED_P_START_MAX_US k).off := ⟨k, rfl⟩
theorem grp_SCHED_P_STEALS (k : Nat) : Grp 358 (R.SCHED_P_STEALS k).off := ⟨k, rfl⟩
theorem grp_SCHED_GILL_RES (k : Nat) : Grp 359 (R.SCHED_GILL_RES k).off := ⟨k, rfl⟩
theorem grp_SCHED_RS_STATUS : Grp 360 R.SCHED_RS_STATUS.off := ⟨0, rfl⟩
theorem grp_SCHED_RS_BYTES : Grp 361 R.SCHED_RS_BYTES.off := ⟨0, rfl⟩
theorem grp_PFX_CTRL : Grp 362 R.PFX_CTRL.off := ⟨0, rfl⟩
theorem grp_PFX_STATUS : Grp 363 R.PFX_STATUS.off := ⟨0, rfl⟩
theorem grp_PFX_BASE_LO : Grp 364 R.PFX_BASE_LO.off := ⟨0, rfl⟩
theorem grp_PFX_BASE_HI : Grp 365 R.PFX_BASE_HI.off := ⟨0, rfl⟩
theorem grp_PFX_CFG : Grp 366 R.PFX_CFG.off := ⟨0, rfl⟩
theorem grp_PFX_NBLK : Grp 367 R.PFX_NBLK.off := ⟨0, rfl⟩
theorem grp_PFX_USED : Grp 368 R.PFX_USED.off := ⟨0, rfl⟩
theorem grp_PFX_CNT_WALK : Grp 369 R.PFX_CNT_WALK.off := ⟨0, rfl⟩
theorem grp_PFX_CNT_HIT : Grp 370 R.PFX_CNT_HIT.off := ⟨0, rfl⟩
theorem grp_PFX_CNT_INSERT : Grp 371 R.PFX_CNT_INSERT.off := ⟨0, rfl⟩
theorem grp_PFX_CNT_EVICT : Grp 372 R.PFX_CNT_EVICT.off := ⟨0, rfl⟩
theorem grp_PFX_CNT_FAIL : Grp 373 R.PFX_CNT_FAIL.off := ⟨0, rfl⟩
theorem grp_ADP_SEL : Grp 374 R.ADP_SEL.off := ⟨0, rfl⟩
theorem grp_ADP_CMD : Grp 375 R.ADP_CMD.off := ⟨0, rfl⟩
theorem grp_ADP_STATUS : Grp 376 R.ADP_STATUS.off := ⟨0, rfl⟩
theorem grp_ADP_INFLIGHT : Grp 377 R.ADP_INFLIGHT.off := ⟨0, rfl⟩
theorem grp_ADP_DESC (k : Nat) : Grp 378 (R.ADP_DESC k).off := ⟨k, rfl⟩
theorem grp_ADP_CNT_GATHERS : Grp 379 R.ADP_CNT_GATHERS.off := ⟨0, rfl⟩
theorem grp_ADP_CNT_PUBLISHES : Grp 380 R.ADP_CNT_PUBLISHES.off := ⟨0, rfl⟩
theorem grp_AUG_STATUS : Grp 381 R.AUG_STATUS.off := ⟨0, rfl⟩
theorem grp_AUG_POOL_LO : Grp 382 R.AUG_POOL_LO.off := ⟨0, rfl⟩
theorem grp_AUG_POOL_HI : Grp 383 R.AUG_POOL_HI.off := ⟨0, rfl⟩
theorem grp_AUG_POOL_SIZE : Grp 384 R.AUG_POOL_SIZE.off := ⟨0, rfl⟩
theorem grp_AUG_POOL_TAIL : Grp 385 R.AUG_POOL_TAIL.off := ⟨0, rfl⟩
theorem grp_AUG_POOL_HEAD : Grp 386 R.AUG_POOL_HEAD.off := ⟨0, rfl⟩
theorem grp_AUG_CNT_SAMPLES : Grp 387 R.AUG_CNT_SAMPLES.off := ⟨0, rfl⟩
theorem grp_AUG_CNT_DIM_REFUSED : Grp 388 R.AUG_CNT_DIM_REFUSED.off := ⟨0, rfl⟩
theorem grp_AUG_CNT_FAILED : Grp 389 R.AUG_CNT_FAILED.off := ⟨0, rfl⟩
theorem grp_ANN_CTRL : Grp 390 R.ANN_CTRL.off := ⟨0, rfl⟩
theorem grp_ANN_STATUS : Grp 391 R.ANN_STATUS.off := ⟨0, rfl⟩
theorem grp_ANN_WORK : Grp 392 R.ANN_WORK.off := ⟨0, rfl⟩
theorem grp_ANN_SWEEP : Grp 393 R.ANN_SWEEP.off := ⟨0, rfl⟩
theorem grp_ANN_BEST : Grp 394 R.ANN_BEST.off := ⟨0, rfl⟩
theorem grp_ANN_CNT_PROBLEMS : Grp 395 R.ANN_CNT_PROBLEMS.off := ⟨0, rfl⟩
theorem grp_ANN_CNT_FAILED : Grp 396 R.ANN_CNT_FAILED.off := ⟨0, rfl⟩
theorem grp_ANN_CNT_SWEEPS : Grp 397 R.ANN_CNT_SWEEPS.off := ⟨0, rfl⟩
theorem grp_ANN_MAX_US : Grp 398 R.ANN_MAX_US.off := ⟨0, rfl⟩
theorem grp_SYS_REPRO_DIGEST (k : Nat) : Grp 399 (R.SYS_REPRO_DIGEST k).off := ⟨k, rfl⟩
theorem grp_SYS_REPRO_STATUS : Grp 400 R.SYS_REPRO_STATUS.off := ⟨0, rfl⟩
theorem grp_MESH_PROG_CFG : Grp 401 R.MESH_PROG_CFG.off := ⟨0, rfl⟩
theorem grp_MESH_PROG_STATUS : Grp 402 R.MESH_PROG_STATUS.off := ⟨0, rfl⟩
theorem grp_MESH_PROG_CNT : Grp 403 R.MESH_PROG_CNT.off := ⟨0, rfl⟩
theorem grp_MESH_TW_CTRL : Grp 404 R.MESH_TW_CTRL.off := ⟨0, rfl⟩
theorem grp_MESH_TW_WORK : Grp 405 R.MESH_TW_WORK.off := ⟨0, rfl⟩
theorem grp_MESH_TW_SRC : Grp 406 R.MESH_TW_SRC.off := ⟨0, rfl⟩
theorem grp_MESH_TW_G : Grp 407 R.MESH_TW_G.off := ⟨0, rfl⟩
theorem grp_MESH_TW_REF_NS : Grp 408 R.MESH_TW_REF_NS.off := ⟨0, rfl⟩
theorem grp_MESH_TW_RETRY_NS : Grp 409 R.MESH_TW_RETRY_NS.off := ⟨0, rfl⟩
theorem grp_MESH_TW_RUN_NS : Grp 410 R.MESH_TW_RUN_NS.off := ⟨0, rfl⟩
theorem grp_MESH_TW_FLAGS : Grp 411 R.MESH_TW_FLAGS.off := ⟨0, rfl⟩
theorem grp_MBX_CTRL : Grp 412 R.MBX_CTRL.off := ⟨0, rfl⟩
theorem grp_MBX_CFG : Grp 413 R.MBX_CFG.off := ⟨0, rfl⟩
theorem grp_MBX_RING_LO : Grp 414 R.MBX_RING_LO.off := ⟨0, rfl⟩
theorem grp_MBX_RING_HI : Grp 415 R.MBX_RING_HI.off := ⟨0, rfl⟩
theorem grp_MBX_HEAD : Grp 416 R.MBX_HEAD.off := ⟨0, rfl⟩
theorem grp_MBX_DONE : Grp 417 R.MBX_DONE.off := ⟨0, rfl⟩
theorem grp_MBX_RSEQ_NEXT : Grp 418 R.MBX_RSEQ_NEXT.off := ⟨0, rfl⟩
theorem grp_MBX_IRQ_CFG : Grp 419 R.MBX_IRQ_CFG.off := ⟨0, rfl⟩
theorem grp_MBX_CNT_WRITTEN : Grp 420 R.MBX_CNT_WRITTEN.off := ⟨0, rfl⟩
theorem grp_MBX_CNT_OVF : Grp 421 R.MBX_CNT_OVF.off := ⟨0, rfl⟩
theorem grp_MBX_CNT_GAP : Grp 422 R.MBX_CNT_GAP.off := ⟨0, rfl⟩
theorem grp_MBX_CNT_OFF : Grp 423 R.MBX_CNT_OFF.off := ⟨0, rfl⟩
theorem grp_MBX_CNT_HEAD_BAD : Grp 424 R.MBX_CNT_HEAD_BAD.off := ⟨0, rfl⟩
theorem grp_MBX_CNT_HWM : Grp 425 R.MBX_CNT_HWM.off := ⟨0, rfl⟩
theorem grp_MBX_PCI_ID : Grp 426 R.MBX_PCI_ID.off := ⟨0, rfl⟩
theorem grp_MBX_LINK : Grp 427 R.MBX_LINK.off := ⟨0, rfl⟩
theorem grp_MBX_HCFG : Grp 428 R.MBX_HCFG.off := ⟨0, rfl⟩
theorem grp_MBX_HSTATUS : Grp 429 R.MBX_HSTATUS.off := ⟨0, rfl⟩
theorem grp_MBX_BAR2_VA_LO : Grp 430 R.MBX_BAR2_VA_LO.off := ⟨0, rfl⟩
theorem grp_MBX_BAR2_VA_HI : Grp 431 R.MBX_BAR2_VA_HI.off := ⟨0, rfl⟩
theorem grp_MBX_HWIN_BASE_LO : Grp 432 R.MBX_HWIN_BASE_LO.off := ⟨0, rfl⟩
theorem grp_MBX_HWIN_BASE_HI : Grp 433 R.MBX_HWIN_BASE_HI.off := ⟨0, rfl⟩
theorem grp_MBX_HWIN_SIZE : Grp 434 R.MBX_HWIN_SIZE.off := ⟨0, rfl⟩
theorem grp_MBX_HWIN_CTRL : Grp 435 R.MBX_HWIN_CTRL.off := ⟨0, rfl⟩
theorem grp_MBX_CNT_BAR2_FAULT : Grp 436 R.MBX_CNT_BAR2_FAULT.off := ⟨0, rfl⟩
theorem grp_MBX_CNT_HWIN_FAULT : Grp 437 R.MBX_CNT_HWIN_FAULT.off := ⟨0, rfl⟩
theorem grp_MBX_CNT_PCIE_ERR : Grp 438 R.MBX_CNT_PCIE_ERR.off := ⟨0, rfl⟩
theorem grp_MBX_CNT_RESETS : Grp 439 R.MBX_CNT_RESETS.off := ⟨0, rfl⟩
theorem grp_MBX_WQ_CTRL : Grp 440 R.MBX_WQ_CTRL.off := ⟨0, rfl⟩
theorem grp_MBX_WQ_CFG : Grp 441 R.MBX_WQ_CFG.off := ⟨0, rfl⟩
theorem grp_MBX_WQ_BASE_LO : Grp 442 R.MBX_WQ_BASE_LO.off := ⟨0, rfl⟩
theorem grp_MBX_WQ_BASE_HI : Grp 443 R.MBX_WQ_BASE_HI.off := ⟨0, rfl⟩
theorem grp_MBX_WQ_TAIL : Grp 444 R.MBX_WQ_TAIL.off := ⟨0, rfl⟩
theorem grp_MBX_WQ_HEAD : Grp 445 R.MBX_WQ_HEAD.off := ⟨0, rfl⟩
theorem grp_MBX_RUNSET_CTRL : Grp 446 R.MBX_RUNSET_CTRL.off := ⟨0, rfl⟩
theorem grp_MBX_RUNSET_STATUS : Grp 447 R.MBX_RUNSET_STATUS.off := ⟨0, rfl⟩
theorem grp_MBX_IRQ_PEND : Grp 448 R.MBX_IRQ_PEND.off := ⟨0, rfl⟩
theorem grp_MBX_CELL_WATCH (k : Nat) : Grp 449 (R.MBX_CELL_WATCH k).off := ⟨k, rfl⟩
theorem grp_MBX_IRQ_VEC (k : Nat) : Grp 450 (R.MBX_IRQ_VEC k).off := ⟨k, rfl⟩
theorem grp_MBX_MSIX_ADDR_LO (k : Nat) : Grp 451 (R.MBX_MSIX_ADDR_LO k).off := ⟨k, rfl⟩
theorem grp_MBX_MSIX_ADDR_HI (k : Nat) : Grp 452 (R.MBX_MSIX_ADDR_HI k).off := ⟨k, rfl⟩
theorem grp_MBX_MSIX_DATA (k : Nat) : Grp 453 (R.MBX_MSIX_DATA k).off := ⟨k, rfl⟩
theorem grp_MBX_MSIX_CTRL (k : Nat) : Grp 454 (R.MBX_MSIX_CTRL k).off := ⟨k, rfl⟩
theorem grp_MBX_MSIX_PBA (k : Nat) : Grp 455 (R.MBX_MSIX_PBA k).off := ⟨k, rfl⟩
theorem grp_SPI_CTRL : Grp 456 R.SPI_CTRL.off := ⟨0, rfl⟩
theorem grp_SPI_CFG : Grp 457 R.SPI_CFG.off := ⟨0, rfl⟩
theorem grp_SPI_STATUS : Grp 458 R.SPI_STATUS.off := ⟨0, rfl⟩
theorem grp_SPI_ENT0 : Grp 459 R.SPI_ENT0.off := ⟨0, rfl⟩
theorem grp_SPI_ENT1 : Grp 460 R.SPI_ENT1.off := ⟨0, rfl⟩
theorem grp_SPI_ENT2 : Grp 461 R.SPI_ENT2.off := ⟨0, rfl⟩
theorem grp_SPI_PUSH : Grp 462 R.SPI_PUSH.off := ⟨0, rfl⟩
theorem grp_SPI_CPL (k : Nat) : Grp 463 (R.SPI_CPL k).off := ⟨k, rfl⟩
theorem grp_SPI_CNT_ENTRIES : Grp 464 R.SPI_CNT_ENTRIES.off := ⟨0, rfl⟩
theorem grp_SPI_CNT_FAILED : Grp 465 R.SPI_CNT_FAILED.off := ⟨0, rfl⟩
theorem grp_SPI_TXBUF (k : Nat) : Grp 466 (R.SPI_TXBUF k).off := ⟨k, rfl⟩
theorem grp_SPI_RXBUF (k : Nat) : Grp 467 (R.SPI_RXBUF k).off := ⟨k, rfl⟩
theorem grp_I2C_CTRL : Grp 468 R.I2C_CTRL.off := ⟨0, rfl⟩
theorem grp_I2C_CFG : Grp 469 R.I2C_CFG.off := ⟨0, rfl⟩
theorem grp_I2C_STATUS : Grp 470 R.I2C_STATUS.off := ⟨0, rfl⟩
theorem grp_I2C_FILL : Grp 471 R.I2C_FILL.off := ⟨0, rfl⟩
theorem grp_I2C_CMD0 : Grp 472 R.I2C_CMD0.off := ⟨0, rfl⟩
theorem grp_I2C_CMD1 : Grp 473 R.I2C_CMD1.off := ⟨0, rfl⟩
theorem grp_I2C_PUSH : Grp 474 R.I2C_PUSH.off := ⟨0, rfl⟩
theorem grp_I2C_CPL0 : Grp 475 R.I2C_CPL0.off := ⟨0, rfl⟩
theorem grp_I2C_CPL1 : Grp 476 R.I2C_CPL1.off := ⟨0, rfl⟩
theorem grp_I2C_TGT_CFG : Grp 477 R.I2C_TGT_CFG.off := ⟨0, rfl⟩
theorem grp_I2C_TLOG : Grp 478 R.I2C_TLOG.off := ⟨0, rfl⟩
theorem grp_I2C_CNT_CMDS : Grp 479 R.I2C_CNT_CMDS.off := ⟨0, rfl⟩
theorem grp_I2C_CNT_ARB_LOST : Grp 480 R.I2C_CNT_ARB_LOST.off := ⟨0, rfl⟩
theorem grp_I2C_CNT_NACK : Grp 481 R.I2C_CNT_NACK.off := ⟨0, rfl⟩
theorem grp_I2C_CNT_TGT_TXN : Grp 482 R.I2C_CNT_TGT_TXN.off := ⟨0, rfl⟩
theorem grp_I2C_TXBUF (k : Nat) : Grp 483 (R.I2C_TXBUF k).off := ⟨k, rfl⟩
theorem grp_I2C_RXBUF (k : Nat) : Grp 484 (R.I2C_RXBUF k).off := ⟨k, rfl⟩
theorem grp_I2C_TWIN (k : Nat) : Grp 485 (R.I2C_TWIN k).off := ⟨k, rfl⟩
theorem grp_I2C_TWIN_LIVE (k : Nat) : Grp 486 (R.I2C_TWIN_LIVE k).off := ⟨k, rfl⟩
theorem grp_JRN_CTRL : Grp 487 R.JRN_CTRL.off := ⟨0, rfl⟩
theorem grp_JRN_CFG : Grp 488 R.JRN_CFG.off := ⟨0, rfl⟩
theorem grp_JRN_STATUS : Grp 489 R.JRN_STATUS.off := ⟨0, rfl⟩
theorem grp_JRN_SEQ : Grp 490 R.JRN_SEQ.off := ⟨0, rfl⟩
theorem grp_JRN_STAGE : Grp 491 R.JRN_STAGE.off := ⟨0, rfl⟩
theorem grp_JRN_RUNWAY : Grp 492 R.JRN_RUNWAY.off := ⟨0, rfl⟩
theorem grp_JRN_WRPTR : Grp 493 R.JRN_WRPTR.off := ⟨0, rfl⟩
theorem grp_JRN_OLDEST : Grp 494 R.JRN_OLDEST.off := ⟨0, rfl⟩
theorem grp_JRN_START_CNT : Grp 495 R.JRN_START_CNT.off := ⟨0, rfl⟩
theorem grp_JRN_LAST_LOSS : Grp 496 R.JRN_LAST_LOSS.off := ⟨0, rfl⟩
theorem grp_JRN_CNT_PAGES : Grp 497 R.JRN_CNT_PAGES.off := ⟨0, rfl⟩
theorem grp_JRN_CNT_ERASES : Grp 498 R.JRN_CNT_ERASES.off := ⟨0, rfl⟩
theorem grp_JRN_CNT_DEFER : Grp 499 R.JRN_CNT_DEFER.off := ⟨0, rfl⟩
theorem grp_JRN_CNT_DROP : Grp 500 R.JRN_CNT_DROP.off := ⟨0, rfl⟩
theorem grp_JRN_CNT_CRC : Grp 501 R.JRN_CNT_CRC.off := ⟨0, rfl⟩
theorem grp_JRN_CNT_FLASH_FAIL : Grp 502 R.JRN_CNT_FLASH_FAIL.off := ⟨0, rfl⟩
theorem grp_JRN_RD_OFS : Grp 503 R.JRN_RD_OFS.off := ⟨0, rfl⟩
theorem grp_JRN_RD_CTRL : Grp 504 R.JRN_RD_CTRL.off := ⟨0, rfl⟩
theorem grp_JRN_RD_DATA (k : Nat) : Grp 505 (R.JRN_RD_DATA k).off := ⟨k, rfl⟩
theorem grp_JRN_TOT (k : Nat) : Grp 506 (R.JRN_TOT k).off := ⟨k, rfl⟩
theorem grp_range4 : ∀ off, 0x4 ≤ off → off < 0x5 → Grp 507 off := fun _ h k => Grp.range (n := 1) (fun _ => rfl) _ h k
theorem grp_range1000 : ∀ off, 0x1000 ≤ off → off < 0x1001 → Grp 508 off := fun _ h k => Grp.range (n := 1) (fun _ => rfl) _ h k
theorem grp_range10900 : ∀ off, 0x10900 ≤ off → off < 0x10B00 → Grp 509 off := fun _ h k => Grp.range (n := 512) (fun _ => rfl) _ h k
theorem grp_range12800 : ∀ off, 0x12800 ≤ off → off < 0x12840 → Grp 510 off := fun _ h k => Grp.range (n := 64) (fun _ => rfl) _ h k
theorem grp_range80000 : ∀ off, 0x80000 ≤ off → off < 0x90000 → Grp 511 off := fun _ h k => Grp.range (n := 65536) (fun _ => rfl) _ h k
theorem grp_rangeA2000 : ∀ off, 0xA2000 ≤ off → off < 0xA2400 → Grp 512 off := fun _ h k => Grp.range (n := 1024) (fun _ => rfl) _ h k
theorem grp_rangeA3000 : ∀ off, 0xA3000 ≤ off → off < 0xA3008 → Grp 513 off := fun _ h k => Grp.range (n := 8) (fun _ => rfl) _ h k
theorem grp_rangeA0410 : ∀ off, 0xA0410 ≤ off → off < 0xA0418 → Grp 514 off := fun _ h k => Grp.range (n := 8) (fun _ => rfl) _ h k

end Sys2Proof.Machine
end

