-- ==== Sys2Proof/Laws/Sparse.lean ====
section
/-! SUPPORT. Sparse: reading after writing, and the canonical form, which every operation keeps. -/

-- One declaration at a time: many proofs at once would each hold a thread with a large stack.
set_option Elab.async false

namespace Sys2Proof.Machine

variable {α : Type}

/-- A list whose keys are all above `n` reads as unlisted at `n` and below. -/
theorem Sparse.get_of_above (d : α) : ∀ (l : Sparse α) (n k : Nat), Sparse.above n l = true → k ≤ n → Sparse.get l k d = d
  | [], _, _, _, _ => rfl
  | (k', v) :: l, n, k, h, hk => by
    simp only [Sparse.above, Bool.and_eq_true, decide_eq_true_eq] at h
    have h1 : k ≠ k' := by omega
    have h2 : k < k' := by omega
    simp [Sparse.get, h1, h2]

/-- A bound on the keys may be lowered. -/
theorem Sparse.above_mono : ∀ (l : Sparse α) (m n : Nat), m ≤ n → Sparse.above n l = true → Sparse.above m l = true
  | [], _, _, _, _ => rfl
  | (k, v) :: l, m, n, hmn, h => by
    simp only [Sparse.above, Bool.and_eq_true, decide_eq_true_eq] at h ⊢
    exact ⟨by omega, Sparse.above_mono l m n hmn h.2⟩

/-- Erasing keeps a bound on the keys. -/
theorem Sparse.above_erase : ∀ (l : Sparse α) (n k : Nat), Sparse.above n l = true → Sparse.above n (Sparse.erase l k) = true
  | [], _, _, _ => rfl
  | (k', v) :: l, n, k, h => by
    have h' := h
    simp only [Sparse.above, Bool.and_eq_true, decide_eq_true_eq] at h
    unfold Sparse.erase
    split
    · exact h.2
    · split
      · exact h'
      · simp only [Sparse.above, Bool.and_eq_true, decide_eq_true_eq]
        exact ⟨h.1, Sparse.above_erase l n k h.2⟩

/-- Listing a key above the bound keeps the bound. -/
theorem Sparse.above_insert : ∀ (l : Sparse α) (n k : Nat) (v : α), n < k → Sparse.above n l = true →
    Sparse.above n (Sparse.insert l k v) = true
  | [], n, k, v, hk, _ => by simp [Sparse.insert, Sparse.above, hk]
  | (k', v') :: l, n, k, v, hk, h => by
    have h' := h
    simp only [Sparse.above, Bool.and_eq_true, decide_eq_true_eq] at h
    unfold Sparse.insert
    split
    · simp [Sparse.above, hk, h.2]
    · split
      · simp [Sparse.above, hk, h.1, h.2]
      · simp [Sparse.above, h.1, Sparse.above_insert l n k v hk h.2]

/-- Erasing keeps the keys rising. -/
theorem Sparse.sorted_erase : ∀ (l : Sparse α) (k : Nat), Sparse.sorted l = true → Sparse.sorted (Sparse.erase l k) = true
  | [], _, _ => rfl
  | (k', v) :: l, k, h => by
    have h' := h
    simp only [Sparse.sorted, Bool.and_eq_true] at h
    unfold Sparse.erase
    split
    · exact h.2
    · split
      · exact h'
      · simp [Sparse.sorted, Sparse.above_erase l k' k h.1, Sparse.sorted_erase l k h.2]

/-- Listing a key keeps the keys rising. -/
theorem Sparse.sorted_insert : ∀ (l : Sparse α) (k : Nat) (v : α), Sparse.sorted l = true →
    Sparse.sorted (Sparse.insert l k v) = true
  | [], _, _, _ => rfl
  | (k', v') :: l, k, v, h => by
    have h' := h
    simp only [Sparse.sorted, Bool.and_eq_true] at h
    unfold Sparse.insert
    split
    · rename_i e
      simp [Sparse.sorted, e ▸ h.1, h.2]
    · split
      · rename_i _ lt
        simp [Sparse.sorted, Sparse.above, lt, Sparse.above_mono l k k' (by omega) h.1, h.1, h.2]
      · rename_i ne nlt
        simp [Sparse.sorted, Sparse.above_insert l k' k v (by omega) h.1, Sparse.sorted_insert l k v h.2]

/-- Writing keeps the keys rising. -/
theorem Sparse.sorted_put [DecidableEq α] (l : Sparse α) (k : Nat) (v d : α) (h : Sparse.sorted l = true) :
    Sparse.sorted (Sparse.put l k v d) = true := by
  unfold Sparse.put
  split
  · exact Sparse.sorted_erase l k h
  · exact Sparse.sorted_insert l k v h

/-- Keeping some entries keeps a bound on the keys. -/
theorem Sparse.above_filter (f : Nat × α → Bool) : ∀ (l : Sparse α) (n : Nat), Sparse.above n l = true →
    Sparse.above n (l.filter f) = true
  | [], _, _ => rfl
  | (k, v) :: l, n, h => by
    simp only [Sparse.above, Bool.and_eq_true, decide_eq_true_eq] at h
    rw [List.filter_cons]
    split
    · simp [Sparse.above, h.1, Sparse.above_filter f l n h.2]
    · exact Sparse.above_filter f l n h.2

/-- Keeping some entries keeps the keys rising. -/
theorem Sparse.sorted_filter (f : Nat × α → Bool) : ∀ (l : Sparse α), Sparse.sorted l = true →
    Sparse.sorted (l.filter f) = true
  | [], _ => rfl
  | (k, v) :: l, h => by
    simp only [Sparse.sorted, Bool.and_eq_true] at h
    rw [List.filter_cons]
    split
    · simp [Sparse.sorted, Sparse.above_filter f l k h.1, Sparse.sorted_filter f l h.2]
    · exact Sparse.sorted_filter f l h.2

/-- Reading a kept key. -/
theorem Sparse.get_filter (f : Nat × α → Bool) (k : Nat) (d : α) : ∀ (l : Sparse α), Sparse.sorted l = true →
    (∀ v, f (k, v) = true) → Sparse.get (l.filter f) k d = Sparse.get l k d
  | [], _, _ => rfl
  | (a, v) :: l, h, e => by
    simp only [Sparse.sorted, Bool.and_eq_true] at h
    have ih := Sparse.get_filter f k d l h.2 e
    rw [List.filter_cons]
    by_cases hk : k = a
    · subst hk
      rw [if_pos (e v)]
      simp [Sparse.get]
    · have hr : Sparse.get ((a, v) :: l) k d = Sparse.get l k d := by
        by_cases hl : k < a
        · rw [Sparse.get, if_neg hk, if_pos hl, Sparse.get_of_above d l a k h.1 (Nat.le_of_lt hl)]
        · rw [Sparse.get, if_neg hk, if_neg hl]
      rw [hr]
      split
      · by_cases hl : k < a
        · rw [Sparse.get, if_neg hk, if_pos hl, Sparse.get_of_above d l a k h.1 (Nat.le_of_lt hl)]
        · rw [Sparse.get, if_neg hk, if_neg hl, ih]
      · exact ih

/-- Reading what erasing left. -/
theorem Sparse.get_erase (d : α) : ∀ (l : Sparse α) (k j : Nat), Sparse.sorted l = true →
    Sparse.get (Sparse.erase l k) j d = if j = k then d else Sparse.get l j d
  | [], k, j, _ => by simp [Sparse.erase, Sparse.get]
  | (k', v) :: l, k, j, h => by
    simp only [Sparse.sorted, Bool.and_eq_true] at h
    unfold Sparse.erase
    split
    · rename_i e
      subst e
      split
      · rename_i e2
        exact Sparse.get_of_above d l k j h.1 (by omega)
      · rename_i ne
        simp only [Sparse.get, ne, if_false]
        split
        · rename_i lt
          exact Sparse.get_of_above d l k j h.1 (by omega)
        · rfl
    · split
      · rename_i ne lt
        split
        · rename_i e2
          subst e2
          simp [Sparse.get, ne, lt]
        · rfl
      · rename_i ne nlt
        simp only [Sparse.get]
        rw [Sparse.get_erase d l k j h.2]
        split
        · rename_i e
          rw [if_neg (by omega)]
        · split
          · split <;> rfl
          · rfl

/-- Reading what listing left; the keys need not rise. -/
theorem Sparse.get_insert (d : α) : ∀ (l : Sparse α) (k j : Nat) (v : α),
    Sparse.get (Sparse.insert l k v) j d = if j = k then v else Sparse.get l j d
  | [], k, j, v => by
    simp only [Sparse.insert, Sparse.get]
    split
    · rfl
    · split <;> rfl
  | (k', v') :: l, k, j, v => by
    unfold Sparse.insert
    split
    · rename_i e
      subst e
      simp only [Sparse.get]
      split <;> rfl
    · split
      · rename_i ne lt
        simp only [Sparse.get]
        split
        · rfl
        · split
          · rw [if_neg (by omega), if_pos (by omega)]
          · rfl
      · rename_i ne nlt
        simp only [Sparse.get]
        rw [Sparse.get_insert d l k j v]
        split
        · rename_i e
          rw [if_neg (by omega)]
        · split
          · rw [if_neg (by omega)]
          · rfl

/-- READING AFTER WRITING: the key written reads as written, every other key as before. -/
theorem Sparse.get_put [DecidableEq α] (l : Sparse α) (k j : Nat) (v d : α) (h : Sparse.sorted l = true) :
    Sparse.get (Sparse.put l k v d) j d = if j = k then v else Sparse.get l j d := by
  unfold Sparse.put
  split
  · rename_i e
    subst e
    exact Sparse.get_erase v l k j h
  · exact Sparse.get_insert d l k j v

/-- A write leaves every other key, whatever the unlisted reading there. -/
theorem Sparse.get_put_other [DecidableEq α] (l : Sparse α) (k j : Nat) (v d e : α) (h : Sparse.sorted l = true)
    (ne : j ≠ k) : Sparse.get (Sparse.put l k v d) j e = Sparse.get l j e := by
  unfold Sparse.put
  split
  · rw [Sparse.get_erase e l k j h, if_neg ne]
  · rw [Sparse.get_insert, if_neg ne]

/-- Erasing and listing keep every entry other than the unlisted reading. -/
theorem Sparse.all_erase (p : Nat × α → Bool) : ∀ (l : Sparse α) (k : Nat), l.all p = true →
    List.all (Sparse.erase l k) p = true
  | [], _, _ => rfl
  | (k', v) :: l, k, h => by
    have h' := h
    simp only [List.all_cons, Bool.and_eq_true] at h
    unfold Sparse.erase
    split
    · exact h.2
    · split
      · exact h'
      · simp only [List.all_cons, Bool.and_eq_true]
        exact ⟨h.1, Sparse.all_erase p l k h.2⟩

theorem Sparse.all_insert (p : Nat × α → Bool) : ∀ (l : Sparse α) (k : Nat) (v : α), p (k, v) = true → l.all p = true →
    List.all (Sparse.insert l k v) p = true
  | [], _, _, hp, _ => by simp [Sparse.insert, hp]
  | (k', v') :: l, k, v, hp, h => by
    have h' := h
    simp only [List.all_cons, Bool.and_eq_true] at h
    unfold Sparse.insert
    split
    · simp only [List.all_cons, Bool.and_eq_true]
      exact ⟨hp, h.2⟩
    · split
      · simp only [List.all_cons, Bool.and_eq_true]
        exact ⟨hp, h.1, h.2⟩
      · simp only [List.all_cons, Bool.and_eq_true]
        exact ⟨h.1, Sparse.all_insert p l k v hp h.2⟩

/-- THE CANONICAL FORM IS KEPT by every write. -/
theorem Sparse.wf_put [DecidableEq α] (l : Sparse α) (k : Nat) (v d : α) (h : Sparse.wf (fun _ => d) l = true) :
    Sparse.wf (fun _ => d) (Sparse.put l k v d) = true := by
  simp only [Sparse.wf, Bool.and_eq_true] at h ⊢
  refine ⟨Sparse.sorted_put l k v d h.1, ?_⟩
  unfold Sparse.put
  split
  · exact Sparse.all_erase _ l k h.2
  · rename_i ne
    exact Sparse.all_insert _ l k v (by simp [ne]) h.2

end Sys2Proof.Machine
end

