-- ==== Sys2Proof/Laws/Touches.lean ====
section
/-! SUPPORT. Touches: what an operation can do, said once for each operation: it changes no part outside a set (a bit mask
over Part) and no register outside a set of groups (the bits above), it keeps the canonical forms, and it takes nothing back. The lemmas for the operations themselves stand in the
Frame files. -/

-- One declaration at a time: many proofs at once would each hold a thread with a large stack.
set_option Elab.async false

namespace Sys2Proof.Machine

/-- The number of a part in a mask. -/
def Part.bit : Part → Nat
  | .regs => 0 | .mem => 1 | .bus => 2 | .now => 3 | .free => 4 | .time => 5 | .pwr => 6 | .mode => 7 | .img => 8
  | .boot => 9 | .mmu => 10 | .sram => 11 | .dma => 12 | .chainsDone => 13 | .waits => 14 | .gill => 15 | .flights => 16
  | .sched => 17 | .tw => 18 | .mot => 19 | .cam => 20 | .lanes => 21 | .ring => 22 | .pfx => 23 | .ann => 24 | .jrn => 25
  | .mbx => 26 | .spi => 27 | .i2c => 28 | .out => 29 | .pending => 30

/-- The mask of a list of parts. -/
def maskOf (l : List Part) : Nat := l.foldl (fun m p => m ||| 2 ^ p.bit) 0

/-- From `s` to `t` only the parts of the mask `m` change (bits 0 to 30), and only the registers of its groups (group `b` is
bit 31 + `b`); canonical forms stay, and nothing is taken back. -/
structure Touches (m : Nat) (s t : State) : Prop where
  regs : Sparse.sorted s.regs = true → Sparse.sorted t.regs = true
  mem : Sparse.wf (fun _ => (0 : Byte)) s.mem = true → Sparse.wf (fun _ => (0 : Byte)) t.mem = true
  sram : Sparse.wf (fun _ => (0 : Byte)) s.sram = true → Sparse.wf (fun _ => (0 : Byte)) t.sram = true
  shape : s.shaped = true → t.shaped = true
  hist : History s t
  same : ∀ p : Part, m.testBit p.bit = false → p.same s t
  grps : Sparse.sorted s.regs = true → ∀ r : Reg, (∀ b, m.testBit (31 + b) = true → ¬ Grp b r.off) → t.rd r = s.rd r

theorem History.refl (s : State) : History s s := ⟨List.suffix_refl _, Nat.le_refl _, Nat.le_refl _, rfl⟩

theorem History.trans {a b c : State} (h : History a b) (k : History b c) : History a c :=
  ⟨h.out.trans k.out, Nat.le_trans h.now k.now, Nat.le_trans h.free k.free, k.pending.trans h.pending⟩

theorem Part.same_refl (p : Part) (s : State) : p.same s s := by cases p <;> rfl

theorem Part.same_trans {p : Part} {a b c : State} (h : p.same a b) (k : p.same b c) : p.same a c := by
  cases p <;> exact Eq.trans k h

theorem Touches.refl (m : Nat) (s : State) : Touches m s s :=
  ⟨id, id, id, id, History.refl s, fun p _ => p.same_refl s, fun _ _ _ => rfl⟩

theorem Touches.trans {m : Nat} {a b c : State} (h : Touches m a b) (k : Touches m b c) : Touches m a c :=
  ⟨k.regs ∘ h.regs, k.mem ∘ h.mem, k.sram ∘ h.sram, k.shape ∘ h.shape, h.hist.trans k.hist,
    fun p e => Part.same_trans (h.same p e) (k.same p e),
    fun c r e => (k.grps (h.regs c) r e).trans (h.grps c r e)⟩

/-- A larger mask promises less. -/
theorem Touches.mono {m n : Nat} {a b : State} (h : Touches m a b) (e : m ||| n = n) : Touches n a b :=
  ⟨h.regs, h.mem, h.sram, h.shape, h.hist, fun p hp => h.same p (by
    have := congrArg (Nat.testBit · p.bit) e
    simp only [Nat.testBit_or] at this
    cases hm : m.testBit p.bit
    · rfl
    · rw [hm, hp] at this; cases this),
    fun c r g => h.grps c r (fun b hb => g b (by rw [← e, Nat.testBit_or, hb, Bool.true_or]))⟩

/-- One operation after what has been done so far. -/
theorem Touches.step {m n : Nat} {a b c : State} (k : Touches n b c) (e : n ||| m = m) (h : Touches m a b) :
    Touches m a c := h.trans (k.mono e)

theorem Touches.ite {m : Nat} {s a b : State} {c : Prop} [Decidable c] (h : Touches m s a) (k : Touches m s b) :
    Touches m s (if c then a else b) := by split <;> assumption

theorem Touches.ite2 {α : Type} {m : Nat} {s : State} {a b : α × State} {c : Prop} [Decidable c] (h : Touches m s a.2)
    (k : Touches m s b.2) : Touches m s (if c then a else b).2 := by split <;> assumption

/-- The same for a value that holds a state. -/
theorem Touches.iteOf {γ : Type} (g : γ → State) {m : Nat} {s : State} {a b : γ} {c : Prop} [Decidable c]
    (h : Touches m s (g a)) (k : Touches m s (g b)) : Touches m s (g (if c then a else b)) := by split <;> assumption

theorem Touches.dite {m : Nat} {s : State} {c : Prop} [Decidable c] {a : c → State} {b : ¬c → State}
    (h : ∀ x, Touches m s (a x)) (k : ∀ x, Touches m s (b x)) : Touches m s (if x : c then a x else b x) := by
  split
  · exact h _
  · exact k _

theorem Touches.foldl {β : Type} {m : Nat} {s b : State} {f : State → β → State} {l : List β}
    (hf : ∀ t x, Touches m s t → Touches m s (f t x)) (hb : Touches m s b) : Touches m s (l.foldl f b) := by
  induction l generalizing b with
  | nil => exact hb
  | cons x l ih => exact ih (hf b x hb)

/-- A fold whose accumulator holds a state. -/
theorem Touches.foldlOf {β γ : Type} (g : γ → State) {m : Nat} {s : State} {b : γ} {f : γ → β → γ} {l : List β}
    (hf : ∀ t x, Touches m s (g t) → Touches m s (g (f t x))) (hb : Touches m s (g b)) :
    Touches m s (g (l.foldl f b)) := by
  induction l generalizing b with
  | nil => exact hb
  | cons x l ih => exact ih (hf b x hb)

theorem Touches.snd_eq {α : Type} {m : Nat} {s t : State} {d : α × State} {v : α} (e : d = (v, t))
    (h : Touches m s d.2) : Touches m s t := by subst e; exact h

theorem Touches.fst_eq {α : Type} {m : Nat} {s t : State} {d : State × α} {v : α} (e : d = (t, v))
    (h : Touches m s d.1) : Touches m s t := by subst e; exact h

/-- A mask within a mask that is within a third. -/
theorem Touches.sub {n b m : Nat} (h : b ||| m = m) (k : n ||| b = b) : n ||| m = m := by rw [← h, ← Nat.or_assoc, k]

theorem Touches.pair2 {α : Type} {m : Nat} {s t : State} {v : α} (h : Touches m s t) : Touches m s (v, t).2 := h

theorem Touches.pair1 {α : Type} {m : Nat} {s t : State} {v : α} (h : Touches m s t) : Touches m s (t, v).1 := h

/-- The same through an equation, for a value taken apart. -/
theorem Touches.of_eq {γ : Type} (g : γ → State) {m : Nat} {s : State} {d p : γ} (e : d = p) (h : Touches m s (g d)) :
    Touches m s (g p) := e ▸ h

/-- An update of fields: every field is in the mask or stays; memory, the history and the register file stay. -/
theorem Touches.upd {m : Nat} {a b c : State} (h : Touches m a b)
    (e0 : c.regs = b.regs) (e1 : c.mem = b.mem) (e11 : c.sram = b.sram) (e3 : c.now = b.now) (e4 : c.free = b.free)
    (e29 : c.out = b.out) (e30 : c.pending = b.pending)
    (e : ∀ p : Part, m.testBit p.bit = false → p.same b c)
    (k : b.shaped = true → c.shaped = true := by
      first | (unfold State.shaped; exact id) | simp +contextual +zetaDelta [State.shaped, NetTime.shaped, Motion.shaped, Cams.shaped, Lanes.shaped, Ring.shaped,
        Mmu.shaped, Loader.shaped, setAt, Sparse.sorted_insert, Sparse.sorted_erase]) : Touches m a c :=
  ⟨fun x => e0 ▸ h.regs x, fun x => e1 ▸ h.mem x, fun x => e11 ▸ h.sram x, k ∘ h.shape,
    ⟨e29 ▸ h.hist.out, e3 ▸ h.hist.now, e4 ▸ h.hist.free, e30.trans h.hist.pending⟩,
    fun p hp => Part.same_trans (h.same p hp) (e p hp),
    fun q r g => (show c.rd r = b.rd r by unfold State.rd; rw [e0]).trans (h.grps q r g)⟩

/-! ## One part at a time -/

/-- A mask that holds a bit promises nothing about that part. -/
theorem mask_bit {k m n : Nat} (e : n ||| m = m) (h : n.testBit k = true) : m.testBit k = true := by
  rw [← e, Nat.testBit_or, h, Bool.true_or]

theorem Touches.setBus {m : Nat} {a b : State} {x : Bus} (h : Touches m a b) (e : 0x4 ||| m = m) :
    Touches m a { b with bus := x } :=
  h.upd rfl rfl rfl rfl rfl rfl rfl (fun p hp => by
    cases p <;> first | rfl | exact Bool.noConfusion ((mask_bit e (k := 2) (by decide)).symm.trans hp))

theorem Touches.setTime {m : Nat} {a b : State} {x : NetTime} (h : Touches m a b) (e : 0x20 ||| m = m)
    (k : b.time.shaped = true → x.shaped = true := by first | (unfold NetTime.shaped; exact id) | simp +contextual +zetaDelta [NetTime.shaped, setAt]) :
    Touches m a { b with time := x } :=
  h.upd rfl rfl rfl rfl rfl rfl rfl (fun p hp => by
    cases p <;> first | rfl | exact Bool.noConfusion ((mask_bit e (k := 5) (by decide)).symm.trans hp)) (by
    unfold State.shaped; simp only [Bool.and_eq_true]; exact fun z => by simp only [z, k, and_self])

theorem Touches.setPwr {m : Nat} {a b : State} {x : Power} (h : Touches m a b) (e : 0x40 ||| m = m) :
    Touches m a { b with pwr := x } :=
  h.upd rfl rfl rfl rfl rfl rfl rfl (fun p hp => by
    cases p <;> first | rfl | exact Bool.noConfusion ((mask_bit e (k := 6) (by decide)).symm.trans hp))

theorem Touches.setMode {m : Nat} {a b : State} {x : ModeTx} (h : Touches m a b) (e : 0x80 ||| m = m) :
    Touches m a { b with mode := x } :=
  h.upd rfl rfl rfl rfl rfl rfl rfl (fun p hp => by
    cases p <;> first | rfl | exact Bool.noConfusion ((mask_bit e (k := 7) (by decide)).symm.trans hp))

theorem Touches.setImg {m : Nat} {a b : State} {x : Loader} (h : Touches m a b) (e : 0x100 ||| m = m)
    (k : b.img.shaped = true → x.shaped = true := by first | (unfold Loader.shaped; exact id) | simp +contextual +zetaDelta [Loader.shaped, setAt]) :
    Touches m a { b with img := x } :=
  h.upd rfl rfl rfl rfl rfl rfl rfl (fun p hp => by
    cases p <;> first | rfl | exact Bool.noConfusion ((mask_bit e (k := 8) (by decide)).symm.trans hp)) (by
    unfold State.shaped; simp only [Bool.and_eq_true]; exact fun z => by simp only [z, k, and_self])

theorem Touches.setBoot {m : Nat} {a b : State} {x : Boot} (h : Touches m a b) (e : 0x200 ||| m = m) :
    Touches m a { b with boot := x } :=
  h.upd rfl rfl rfl rfl rfl rfl rfl (fun p hp => by
    cases p <;> first | rfl | exact Bool.noConfusion ((mask_bit e (k := 9) (by decide)).symm.trans hp))

theorem Touches.setMmu {m : Nat} {a b : State} {x : Mmu} (h : Touches m a b) (e : 0x400 ||| m = m)
    (k : b.mmu.shaped = true → x.shaped = true := by first | (unfold Mmu.shaped; exact id) | simp +contextual +zetaDelta [Mmu.shaped, setAt]) :
    Touches m a { b with mmu := x } :=
  h.upd rfl rfl rfl rfl rfl rfl rfl (fun p hp => by
    cases p <;> first | rfl | exact Bool.noConfusion ((mask_bit e (k := 10) (by decide)).symm.trans hp)) (by
    unfold State.shaped; simp only [Bool.and_eq_true]; exact fun z => by simp only [z, k, and_self])

theorem Touches.setDma {m : Nat} {a b : State} {x : List DmaEng} (h : Touches m a b) (e : 0x1000 ||| m = m)
    (k : x.length = b.dma.length := by simp +zetaDelta [setAt]) :
    Touches m a { b with dma := x } :=
  h.upd rfl rfl rfl rfl rfl rfl rfl (fun p hp => by
    cases p <;> first | rfl | exact Bool.noConfusion ((mask_bit e (k := 12) (by decide)).symm.trans hp)) (by
    unfold State.shaped; simp only [k, imp_self])

theorem Touches.setChainsDone {m : Nat} {a b : State} {x : List ChainDone} (h : Touches m a b) (e : 0x2000 ||| m = m) :
    Touches m a { b with chainsDone := x } :=
  h.upd rfl rfl rfl rfl rfl rfl rfl (fun p hp => by
    cases p <;> first | rfl | exact Bool.noConfusion ((mask_bit e (k := 13) (by decide)).symm.trans hp))

theorem Touches.setWaits {m : Nat} {a b : State} {x : List Waiter} (h : Touches m a b) (e : 0x4000 ||| m = m) :
    Touches m a { b with waits := x } :=
  h.upd rfl rfl rfl rfl rfl rfl rfl (fun p hp => by
    cases p <;> first | rfl | exact Bool.noConfusion ((mask_bit e (k := 14) (by decide)).symm.trans hp))

theorem Touches.setGill {m : Nat} {a b : State} {x : List Gill} (h : Touches m a b) (e : 0x8000 ||| m = m)
    (k : x.length = b.gill.length := by simp +zetaDelta [setAt]) :
    Touches m a { b with gill := x } :=
  h.upd rfl rfl rfl rfl rfl rfl rfl (fun p hp => by
    cases p <;> first | rfl | exact Bool.noConfusion ((mask_bit e (k := 15) (by decide)).symm.trans hp)) (by
    unfold State.shaped; simp only [k, imp_self])

theorem Touches.setFlights {m : Nat} {a b : State} {x : List Flight} (h : Touches m a b) (e : 0x10000 ||| m = m) :
    Touches m a { b with flights := x } :=
  h.upd rfl rfl rfl rfl rfl rfl rfl (fun p hp => by
    cases p <;> first | rfl | exact Bool.noConfusion ((mask_bit e (k := 16) (by decide)).symm.trans hp))

theorem Touches.setSched {m : Nat} {a b : State} {x : Sched} (h : Touches m a b) (e : 0x20000 ||| m = m) :
    Touches m a { b with sched := x } :=
  h.upd rfl rfl rfl rfl rfl rfl rfl (fun p hp => by
    cases p <;> first | rfl | exact Bool.noConfusion ((mask_bit e (k := 17) (by decide)).symm.trans hp))

theorem Touches.setTw {m : Nat} {a b : State} {x : TimeWin} (h : Touches m a b) (e : 0x40000 ||| m = m) :
    Touches m a { b with tw := x } :=
  h.upd rfl rfl rfl rfl rfl rfl rfl (fun p hp => by
    cases p <;> first | rfl | exact Bool.noConfusion ((mask_bit e (k := 18) (by decide)).symm.trans hp))

theorem Touches.setMot {m : Nat} {a b : State} {x : Motion} (h : Touches m a b) (e : 0x80000 ||| m = m)
    (k : b.mot.shaped = true → x.shaped = true := by first | (unfold Motion.shaped; exact id) | simp +contextual +zetaDelta [Motion.shaped, Sparse.sorted_insert, Sparse.sorted_erase, setAt]) :
    Touches m a { b with mot := x } :=
  h.upd rfl rfl rfl rfl rfl rfl rfl (fun p hp => by
    cases p <;> first | rfl | exact Bool.noConfusion ((mask_bit e (k := 19) (by decide)).symm.trans hp)) (by
    unfold State.shaped; simp only [Bool.and_eq_true]; exact fun z => by simp only [z, k, and_self])

theorem Touches.setCam {m : Nat} {a b : State} {x : Cams} (h : Touches m a b) (e : 0x100000 ||| m = m)
    (k : b.cam.shaped = true → x.shaped = true := by first | (unfold Cams.shaped; exact id) | simp +contextual +zetaDelta [Cams.shaped, setAt]) :
    Touches m a { b with cam := x } :=
  h.upd rfl rfl rfl rfl rfl rfl rfl (fun p hp => by
    cases p <;> first | rfl | exact Bool.noConfusion ((mask_bit e (k := 20) (by decide)).symm.trans hp)) (by
    unfold State.shaped; simp only [Bool.and_eq_true]; exact fun z => by simp only [z, k, and_self])

theorem Touches.setLanes {m : Nat} {a b : State} {x : Lanes} (h : Touches m a b) (e : 0x200000 ||| m = m)
    (k : b.lanes.shaped = true → x.shaped = true := by first | (unfold Lanes.shaped; exact id) | simp +contextual +zetaDelta [Lanes.shaped, setAt]) :
    Touches m a { b with lanes := x } :=
  h.upd rfl rfl rfl rfl rfl rfl rfl (fun p hp => by
    cases p <;> first | rfl | exact Bool.noConfusion ((mask_bit e (k := 21) (by decide)).symm.trans hp)) (by
    unfold State.shaped; simp only [Bool.and_eq_true]; exact fun z => by simp only [z, k, and_self])

theorem Touches.setRing {m : Nat} {a b : State} {x : Ring} (h : Touches m a b) (e : 0x400000 ||| m = m)
    (k : b.ring.shaped = true → x.shaped = true := by first | (unfold Ring.shaped; exact id) | simp +contextual +zetaDelta [Ring.shaped, setAt, Ring.givenUp]) :
    Touches m a { b with ring := x } :=
  h.upd rfl rfl rfl rfl rfl rfl rfl (fun p hp => by
    cases p <;> first | rfl | exact Bool.noConfusion ((mask_bit e (k := 22) (by decide)).symm.trans hp)) (by
    unfold State.shaped; simp only [Bool.and_eq_true]; exact fun z => by simp only [z, k, and_self])

theorem Touches.setPfx {m : Nat} {a b : State} {x : Prefix} (h : Touches m a b) (e : 0x800000 ||| m = m) :
    Touches m a { b with pfx := x } :=
  h.upd rfl rfl rfl rfl rfl rfl rfl (fun p hp => by
    cases p <;> first | rfl | exact Bool.noConfusion ((mask_bit e (k := 23) (by decide)).symm.trans hp))

theorem Touches.setAnn {m : Nat} {a b : State} {x : Annealer} (h : Touches m a b) (e : 0x1000000 ||| m = m) :
    Touches m a { b with ann := x } :=
  h.upd rfl rfl rfl rfl rfl rfl rfl (fun p hp => by
    cases p <;> first | rfl | exact Bool.noConfusion ((mask_bit e (k := 24) (by decide)).symm.trans hp))

theorem Touches.setJrn {m : Nat} {a b : State} {x : Journal} (h : Touches m a b) (e : 0x2000000 ||| m = m) :
    Touches m a { b with jrn := x } :=
  h.upd rfl rfl rfl rfl rfl rfl rfl (fun p hp => by
    cases p <;> first | rfl | exact Bool.noConfusion ((mask_bit e (k := 25) (by decide)).symm.trans hp))

theorem Touches.setMbx {m : Nat} {a b : State} {x : Mailbox} (h : Touches m a b) (e : 0x4000000 ||| m = m) :
    Touches m a { b with mbx := x } :=
  h.upd rfl rfl rfl rfl rfl rfl rfl (fun p hp => by
    cases p <;> first | rfl | exact Bool.noConfusion ((mask_bit e (k := 26) (by decide)).symm.trans hp))

theorem Touches.setSpi {m : Nat} {a b : State} {x : Spi} (h : Touches m a b) (e : 0x8000000 ||| m = m) :
    Touches m a { b with spi := x } :=
  h.upd rfl rfl rfl rfl rfl rfl rfl (fun p hp => by
    cases p <;> first | rfl | exact Bool.noConfusion ((mask_bit e (k := 27) (by decide)).symm.trans hp))

theorem Touches.setI2c {m : Nat} {a b : State} {x : I2c} (h : Touches m a b) (e : 0x10000000 ||| m = m) :
    Touches m a { b with i2c := x } :=
  h.upd rfl rfl rfl rfl rfl rfl rfl (fun p hp => by
    cases p <;> first | rfl | exact Bool.noConfusion ((mask_bit e (k := 28) (by decide)).symm.trans hp))

/-- Memory changes only by lists kept canonical. -/
theorem Touches.updMem {m : Nat} {a b : State} (h : Touches m a b) (hm : m.testBit 1 = true) (l : List Host.Cell)
    (hl : Sparse.wf (fun _ => (0 : Byte)) b.mem = true → Sparse.wf (fun _ => (0 : Byte)) l = true) :
    Touches m a { b with mem := l } :=
  ⟨h.regs, hl ∘ h.mem, h.sram, h.shape, ⟨h.hist.out, h.hist.now, h.hist.free, h.hist.pending⟩, fun p hp => by
    cases p <;> first | exact h.same _ hp | (rw [show Part.bit .mem = 1 from rfl, hm] at hp; cases hp), h.grps⟩

theorem Touches.updSram {m : Nat} {a b : State} (h : Touches m a b) (hm : m.testBit 11 = true) (l : List Host.Cell)
    (hl : Sparse.wf (fun _ => (0 : Byte)) b.sram = true → Sparse.wf (fun _ => (0 : Byte)) l = true) :
    Touches m a { b with sram := l } :=
  ⟨h.regs, h.mem, hl ∘ h.sram, h.shape, ⟨h.hist.out, h.hist.now, h.hist.free, h.hist.pending⟩, fun p hp => by
    cases p <;> first | exact h.same _ hp | (rw [show Part.bit .sram = 11 from rfl, hm] at hp; cases hp), h.grps⟩

/-- The register file changes only by lists whose keys rise, and only at the offsets of a group. -/
theorem Touches.updRegs {m : Nat} {a b : State} (h : Touches m a b) (hm : m.testBit 0 = true) (l : Sparse Word) (g : Nat)
    (hg : m.testBit (31 + g) = true) (hl : Sparse.sorted b.regs = true → Sparse.sorted l = true)
    (hr : Sparse.sorted b.regs = true → ∀ k d, ¬ Grp g k → Sparse.get l k d = Sparse.get b.regs k d) :
    Touches m a { b with regs := l } :=
  ⟨hl ∘ h.regs, h.mem, h.sram, h.shape, ⟨h.hist.out, h.hist.now, h.hist.free, h.hist.pending⟩, fun p hp => (by
    cases p <;> first | exact h.same _ hp | (rw [show Part.bit .regs = 0 from rfl, hm] at hp; cases hp)),
    fun c r e => (hr (h.regs c) r.off _ (e g hg)).trans (h.grps c r e)⟩

theorem Touches.updOut {m : Nat} {a b : State} (h : Touches m a b) (hm : m.testBit 29 = true) (l : List Out)
    (hl : b.out <:+ l) : Touches m a { b with out := l } :=
  ⟨h.regs, h.mem, h.sram, h.shape, ⟨h.hist.out.trans hl, h.hist.now, h.hist.free, h.hist.pending⟩, fun p hp => by
    cases p <;> first | exact h.same _ hp | (rw [show Part.bit .out = 29 from rfl, hm] at hp; cases hp), h.grps⟩

theorem Touches.updFree {m : Nat} {a b : State} (h : Touches m a b) (hm : m.testBit 4 = true) (n : Nat)
    (hn : b.free ≤ n) : Touches m a { b with free := n } :=
  ⟨h.regs, h.mem, h.sram, h.shape, ⟨h.hist.out, h.hist.now, Nat.le_trans h.hist.free hn, h.hist.pending⟩, fun p hp => by
    cases p <;> first | exact h.same _ hp | (rw [show Part.bit .free = 4 from rfl, hm] at hp; cases hp), h.grps⟩

/-- What the mask promises of the parts not listed. -/
theorem Touches.onlyParts {m : Nat} {s t : State} (h : Touches m s t) (l : List Part)
    (e : ∀ p, p ∉ l → m.testBit p.bit = false) : OnlyParts l s t := fun p hp => h.same p (e p hp)

/-- The canonical forms are kept. -/
theorem Touches.canon {m : Nat} {s t : State} (h : Touches m s t) (c : MemCanon s) : MemCanon t :=
  ⟨h.mem c.1, h.sram c.2.1, h.regs c.2.2⟩

/-- A command answers a next state, and touches only the parts of the mask. -/
def Ends (m : Nat) (s : State) (o : Res) : Prop := ∃ t, o = .next t ∧ Touches m s t

theorem Ends.next {m : Nat} {s t : State} (h : Touches m s t) : Ends m s (.next t) := ⟨t, rfl, h⟩

theorem Ends.ite {m : Nat} {s : State} {a b : Res} {c : Prop} [Decidable c] (h : Ends m s a) (k : Ends m s b) :
    Ends m s (if c then a else b) := by split <;> assumption

theorem Ends.step {m n : Nat} {a b : State} {o : Res} (k : Ends n b o) (e : n ||| m = m) (h : Touches m a b) : Ends m a o :=
  let ⟨t, ht, hk⟩ := k
  ⟨t, ht, Touches.step hk e h⟩

/-! ## The operations of Ops -/

theorem State.wr_touches (s : State) (r : Reg) (v : Word) {m : Nat} (h : 0x1 ||| m = m) (b : Nat)
    (hb : m.testBit (31 + b) = true) (g : Grp b r.off) : Touches m s (s.wr r v) :=
  Touches.updRegs (Touches.refl _ s) (mask_bit (k := 0) h rfl) _ b hb (Sparse.sorted_put _ _ _ _)
    (fun h _ _ e => Sparse.get_put_other _ _ _ _ _ _ h (fun k => e (k ▸ g)))

theorem State.clearRegs_touches (s : State) (lo hi : Nat) {m : Nat} (h : 0x1 ||| m = m) (b : Nat)
    (hb : m.testBit (31 + b) = true) (g : ∀ off, lo ≤ off → off < hi → Grp b off) : Touches m s (s.clearRegs lo hi) :=
  Touches.updRegs (Touches.refl _ s) (mask_bit (k := 0) h rfl) _ b hb (Sparse.sorted_filter _ _)
    (fun h k d e => Sparse.get_filter _ _ _ _ h (fun _ => by
      rw [Bool.not_eq_true', Bool.and_eq_false_iff, decide_eq_false_iff_not, decide_eq_false_iff_not]
      refine Classical.byContradiction fun c => e (g k ?_ ?_) <;> omega))

theorem State.setByte_touches (s : State) (a : Nat) (b : Byte) : Touches 0x2 s (s.setByte a b) :=
  Touches.updMem (Touches.refl _ s) (by decide) _ (Sparse.wf_put _ _ _ _)

theorem State.emit_touches (s : State) (o : Out) : Touches 0x20000000 s (s.emit o) :=
  Touches.updOut (Touches.refl _ s) (by decide) _ (List.suffix_cons _ _)

theorem State.fresh_touches (s : State) : Touches 0x10 s s.fresh.2 :=
  Touches.updFree (Touches.refl _ s) (by decide) _ (Nat.le_succ _)

theorem State.freshList_touches (s : State) (n : Nat) : Touches 0x10 s (s.freshList n).2 :=
  Touches.updFree (Touches.refl _ s) (by decide) _ (Nat.le_succ _)

end Sys2Proof.Machine
end

