-- ==== Sys2Proof/Laws/FrameOps.lean ====
section
/-! SUPPORT. What each operation of Machine/Ops.lean can do: the parts of the state it touches (Touches). -/

-- One declaration at a time: many proofs at once would each hold a thread with a large stack.
set_option Elab.async false

namespace Sys2Proof.Machine

theorem State.setF_touches (s : State) (f : Fld) (n : Nat) {m : Nat} (hm : 0x1 ||| m = m) (b : Nat)
    (hb : m.testBit (31 + b) = true) (g : Grp b f.reg.off) : Touches m s (s.setF f n) :=
  State.wr_touches _ _ _ hm b hb g

theorem State.setB_touches (s : State) (f : Fld) (n : Bool) {m : Nat} (hm : 0x1 ||| m = m) (b : Nat)
    (hb : m.testBit (31 + b) = true) (g : Grp b f.reg.off) : Touches m s (s.setB f n) :=
  State.setF_touches _ _ _ hm b hb g

theorem State.inc_touches (s : State) (f : Fld) (n : Nat) {m : Nat} (hm : 0x1 ||| m = m) (b : Nat)
    (hb : m.testBit (31 + b) = true) (g : Grp b f.reg.off) : Touches m s (s.inc f n) :=
  State.setF_touches _ _ _ hm b hb g

theorem State.raise_touches (s : State) (f : Fld) (n : Nat) {m : Nat} (hm : 0x1 ||| m = m) (b : Nat)
    (hb : m.testBit (31 + b) = true) (g : Grp b f.reg.off) : Touches m s (s.raise f n) :=
  State.setF_touches _ _ _ hm b hb g

theorem State.setPair_touches (s : State) (lo hi : Fld) (v : Nat) {m : Nat} (hm : 0x1 ||| m = m) (b : Nat)
    (hb : m.testBit (31 + b) = true) (g : Grp b lo.reg.off) (c : Nat) (hc : m.testBit (31 + c) = true) (k : Grp c hi.reg.off) :
    Touches m s (s.setPair lo hi v) := (State.setF_touches _ _ _ hm b hb g).trans (State.setF_touches _ _ _ hm c hc k)

theorem State.pick_touches (s : State) (l : List Nat) : Touches 0x10 s (State.pick s l).2 := by
  unfold State.pick
  split
  · exact Touches.pair2 (Touches.refl _ _)
  · exact Touches.pair2 (Touches.refl _ _)
  · rename_i x1 e2 e3
    split
    rename_i x4 x5 x6 e7
    have h8 : Touches 0x10 s x6 := Touches.of_eq (fun d => d.2) e7 (Touches.step (State.fresh_touches ..) rfl (Touches.refl _ _))
    exact h8

theorem State.msix_touches (s : State) (v : Nat) : Touches 0x40000000000000000000000000000000000000000000000000000000000000000000000000000000000000000000000000000000000000000020000001 s (State.msix s v) := by
  unfold State.msix
  refine Touches.ite ?_ ?_
  · exact Touches.refl _ _
  · refine Touches.ite ?_ ?_
    · extract_lets -merge +onlyGivenNames x1
      exact State.setF_touches _ _ _ rfl 455 rfl (grp_MBX_MSIX_PBA _)
    · exact Touches.step (State.emit_touches ..) rfl (Touches.refl _ _)

theorem State.pend_touches (s : State) (src : Nat) : Touches 0x40800000000000000000000000000000000000000000000000000000000000000000000000000000000000000000000000000000000000000020000001 s (State.pend s src) := by
  unfold State.pend
  extract_lets -merge +onlyGivenNames x1
  clear_value x1
  refine Touches.ite ?_ ?_
  · exact Touches.refl _ _
  · extract_lets -merge +onlyGivenNames x2
    have h3 : Touches 0x40800000000000000000000000000000000000000000000000000000000000000000000000000000000000000000000000000000000000000020000001 s x2 := by unfold x2; exact State.setF_touches _ _ _ rfl 448 rfl grp_MBX_IRQ_PEND
    clear_value x2
    extract_lets -merge +onlyGivenNames x4
    clear_value x4
    refine Touches.ite ?_ ?_
    · exact Touches.step (State.msix_touches ..) rfl h3
    · exact h3

theorem State.stagePut_touches (s : State) (ty : Nat) (len : Nat) (body : List Byte) : Touches 0x60000000000000000000000000000000000000000000000000000000000000000000000000000000000000000000000000000000000000000000000000002000001 s (State.stagePut s ty len body) := by
  unfold State.stagePut
  extract_lets -merge +onlyGivenNames x1
  clear_value x1
  extract_lets -merge +onlyGivenNames x2
  clear_value x2
  extract_lets -merge +onlyGivenNames x3
  have h4 : Touches 0x60000000000000000000000000000000000000000000000000000000000000000000000000000000000000000000000000000000000000000000000000002000001 s x3 := by unfold x3; exact Touches.setJrn (Touches.refl _ _) rfl
  clear_value x3
  refine Touches.trans ?_ (State.raise_touches _ _ _ rfl 491 rfl grp_JRN_STAGE)
  refine Touches.trans ?_ (State.setF_touches _ _ _ rfl 491 rfl grp_JRN_STAGE)
  exact Touches.trans h4 (State.setF_touches _ _ _ rfl 490 rfl grp_JRN_SEQ)

theorem State.stageDropped_touches (s : State) (first : Option Nat) : Touches 0x8070000000040800000000000000000000000000000000000000000000000000000000000000000000000000000000000000000000000000000000000000022000011 s (State.stageDropped s first) := by
  unfold State.stageDropped
  extract_lets -merge +onlyGivenNames x1
  have h2 : Touches 0x8070000000040800000000000000000000000000000000000000000000000000000000000000000000000000000000000000000000000000000000000000022000011 s x1 := by unfold x1; exact State.inc_touches _ _ _ rfl 500 rfl grp_JRN_CNT_DROP
  clear_value x1
  refine Touches.ite ?_ ?_
  · exact Touches.setJrn h2 rfl
  · split
    rename_i x3 x4 x5 e6
    have h7 : Touches 0x8070000000040800000000000000000000000000000000000000000000000000000000000000000000000000000000000000000000000000000000000000022000011 s x5 := by
      refine Touches.of_eq (fun d => d.2) e6 ?_
      split
      · exact h2
      · exact Touches.step (State.fresh_touches ..) rfl h2
    extract_lets -merge +onlyGivenNames x8
    clear_value x8
    extract_lets -merge +onlyGivenNames x9
    have h10 : Touches 0x8070000000040800000000000000000000000000000000000000000000000000000000000000000000000000000000000000000000000000000000000000022000011 s x9 := by unfold x9; exact Touches.setJrn h7 rfl
    clear_value x9
    extract_lets -merge +onlyGivenNames x11
    have h12 : Touches 0x8070000000040800000000000000000000000000000000000000000000000000000000000000000000000000000000000000000000000000000000000000022000011 s x11 := by
      unfold x11
      refine Touches.step (State.pend_touches ..) rfl ?_
      exact Touches.trans h10 (State.setF_touches _ _ _ rfl 489 rfl grp_JRN_STATUS)
    clear_value x11
    refine Touches.ite ?_ ?_
    · exact Touches.step (State.stagePut_touches ..) rfl h12
    · extract_lets -merge +onlyGivenNames x13
      have h14 : Touches 0x8070000000040800000000000000000000000000000000000000000000000000000000000000000000000000000000000000000000000000000000000000022000011 s x13 := by unfold x13; exact Touches.trans h12 (State.inc_touches _ _ _ rfl 500 rfl grp_JRN_CNT_DROP)
      clear_value x13
      exact Touches.setJrn h14 rfl

theorem State.stage_touches (s : State) (ty : Nat) (len : Nat) (body : List Byte) (first : Option Nat) : Touches 0x8070000000040800000000000000000000000000000000000000000000000000000000000000000000000000000000000000000000000000000000000000022000011 s (State.stage s ty len body first) := by
  unfold State.stage
  refine Touches.ite ?_ ?_
  · exact Touches.step (State.stagePut_touches ..) rfl (Touches.refl _ _)
  · exact Touches.step (State.stageDropped_touches ..) rfl (Touches.refl _ _)

theorem State.journal_touches (s : State) (sts : Nat) (detail : Nat) (inst : Nat) : Touches 0x8070000000040800000000000000000000000000000000000000000000000000000000000000000000000000000000000000000000000000000000000000022000211 s (State.journal s sts detail inst) := by
  unfold State.journal
  refine Touches.ite ?_ ?_
  · exact Touches.step (State.stage_touches ..) rfl (Touches.refl _ _)
  · exact Touches.setBoot (Touches.refl _ _) rfl

theorem State.post_touches (s : State) (sts : Nat) (detail : Nat) (inst : Nat) : Touches 0x8070000000040800000000000000000000000000000000000000000000000000000000000000000000000000000000000000000000000000000000000000022000211 s (State.post s sts detail inst) := by
  unfold State.post
  exact Touches.step (State.pend_touches ..) rfl (Touches.step (State.journal_touches ..) rfl (Touches.refl _ _))

theorem State.xingFill_touches (s : State) (n : Nat) (fill : Nat) : Touches 0x80000 s (State.xingFill s n fill) := by
  unfold State.xingFill
  exact Touches.setMot (Touches.refl _ _) rfl

theorem State.xingDrop_touches (s : State) (n : Nat) : Touches 0x8070000000040800000000000000000000000000000000000000000000000000000000000000000000000000000000000000000000000004000000000000022080211 s (State.xingDrop s n) := by
  unfold State.xingDrop
  refine Touches.step (State.post_touches ..) rfl ?_
  exact Touches.trans (Touches.setMot (Touches.refl _ _) rfl) (State.setF_touches _ _ _ rfl 55 rfl grp_CLK_FAIL)

theorem State.report_touches (s : State) (last : Fld) (sts detail inst : Nat) {m : Nat} (hm : 0x8070000000040800000000000000000000000000000000000000000000000000000000000000000000000000000000000000000000000000000000000000022000211 ||| m = m) (b : Nat)
    (hb : m.testBit (31 + b) = true) (g : Grp b last.reg.off) : Touches m s (s.report last sts detail inst) :=
  Touches.step (State.post_touches ..) (Touches.sub hm rfl) (State.setF_touches _ _ _ (Touches.sub hm rfl) b hb g)

theorem State.motReport_touches (s : State) (last : Fld) (sts detail inst : Nat) {m : Nat} (hm : 0x8070000000040800000000000000000000000000000000000000000000000000000000000000000000000000000000000000000000000004000000000000022080211 ||| m = m)
    (b : Nat) (hb : m.testBit (31 + b) = true) (g : Grp b last.reg.off) : Touches m s (s.motReport last sts detail inst) := by
  have h : Touches m s (s.setF last sts) := State.setF_touches _ _ _ (Touches.sub hm rfl) b hb g
  unfold State.motReport
  refine Touches.ite ?_ (Touches.ite ?_ ?_)
  · exact Touches.step (State.post_touches ..) (Touches.sub hm rfl) (Touches.step (State.xingFill_touches ..)
      (Touches.sub hm rfl) h)
  · exact Touches.step (State.xingDrop_touches ..) (Touches.sub hm rfl) h
  · exact Touches.step (State.xingFill_touches ..) (Touches.sub hm rfl) (Touches.setMot h (Touches.sub hm rfl))

theorem State.xingDrain_touches (s : State) : Touches 0x8070000000040800000000000000000000000000000000000000000000000000000000000000000000000000000000000000000000000000000000000000022080211 s (State.xingDrain s) := by
  unfold State.xingDrain
  refine Touches.foldl (fun t1 y2 h3 => ?_) ?_
  · exact Touches.step (State.post_touches ..) rfl h3
  · exact Touches.setMot (Touches.refl _ _) rfl

theorem State.limit_touches (s : State) (sts : Nat) (inst : Nat) (ms : Nat) (n : Nat) : Touches 0x4 s (State.limit s sts inst ms n).2 := by
  unfold State.limit
  extract_lets -merge +onlyGivenNames x1
  split
  · refine Touches.ite2 ?_ ?_
    · exact Touches.pair2 (Touches.setBus (Touches.refl _ _) rfl)
    · exact Touches.pair2 (Touches.setBus (Touches.refl _ _) rfl)
  · exact Touches.pair2 (Touches.setBus (Touches.refl _ _) rfl)

theorem State.reportLimited_touches (s : State) (last : Fld) (sts : Nat) (detail : Nat → Nat) (inst ms n : Nat) {m : Nat}
    (hm : 0x8070000000040800000000000000000000000000000000000000000000000000000000000000000000000000000000000000000000000000000000000000022000215 ||| m = m) (b : Nat) (hb : m.testBit (31 + b) = true) (g : Grp b last.reg.off) :
    Touches m s (s.reportLimited last sts detail inst ms n) := by
  have h : Touches m s (s.limit sts inst ms n).2 := Touches.step (State.limit_touches ..) (Touches.sub hm rfl) (Touches.refl _ _)
  unfold State.reportLimited
  split
  · rename_i e
    exact (Touches.snd_eq e h).trans (State.report_touches _ _ _ _ _ (Touches.sub hm rfl) b hb g)
  · rename_i e
    exact Touches.snd_eq e h

theorem State.imgReport_touches (s : State) (sts : Nat) (detail : Nat) : Touches 0x8070000000040800000000000000000000000000000000000000000000000000000000000000000000000000000000000000180000000000000000000000022000211 s (State.imgReport s sts detail) := by
  unfold State.imgReport
  refine Touches.trans ?_ (State.report_touches _ _ _ _ _ rfl 96 rfl grp_BOOT_IMG_STATUS)
  exact State.setF_touches _ _ _ rfl 97 rfl grp_BOOT_IMG_DETAIL

theorem State.lineStop_touches (s : State) : Touches 0x40800000000000000000000000000000000000000000000000000000000000000000000000000000000000000000000000000800000000000020000041 s (State.lineStop s) := by
  unfold State.lineStop
  extract_lets -merge +onlyGivenNames x1
  clear_value x1
  extract_lets -merge +onlyGivenNames x2
  have h3 : Touches 0x40800000000000000000000000000000000000000000000000000000000000000000000000000000000000000000000000000800000000000020000041 s x2 := by unfold x2; exact State.setB_touches _ _ _ rfl 52 rfl grp_EJ_LSTOP
  clear_value x2
  extract_lets -merge +onlyGivenNames x4
  clear_value x4
  extract_lets -merge +onlyGivenNames x5
  have h6 : Touches 0x40800000000000000000000000000000000000000000000000000000000000000000000000000000000000000000000000000800000000000020000041 s x5 := by unfold x5; exact Touches.setPwr h3 rfl
  clear_value x5
  refine Touches.ite ?_ ?_
  · exact h6
  · exact Touches.step (State.pend_touches ..) rfl h6

theorem State.timing_touches (s : State) (flag : Fld) (tw : Option Fld) {m : Nat} (hm : 0x1 ||| m = m) (b : Nat)
    (hb : m.testBit (31 + b) = true) (g : Grp b flag.reg.off) (c : Nat)
    (hc : m.testBit (31 + c) = true) (k : ∀ f, tw = some f → Grp c f.reg.off) : Touches m s (s.timing flag tw) := by
  unfold State.timing
  have h := State.setB_touches s flag true hm b hb g
  split
  · exact Touches.ite (h.trans (State.setB_touches _ _ _ hm c hc (k _ rfl))) h
  · exact h

theorem State.voided_touches (s : State) (flag : Fld) {m : Nat} (hm : 0x8070000000040800000000002000000000000000000000000000000000000000000000000000000000000000000000000000000000000000000000000000022000211 ||| m = m) (b : Nat)
    (hb : m.testBit (31 + b) = true) (g : Grp b flag.reg.off) : Touches m s (s.voided flag) :=
  Touches.ite (Touches.refl _ _) ((State.setB_touches _ _ _ (Touches.sub hm rfl) b hb g).trans
    (State.report_touches _ _ _ _ _ (Touches.sub hm rfl) 402 (mask_bit hm rfl) grp_MESH_PROG_STATUS))

theorem State.setBytes_touches (s : State) (a : Nat) (a2 : List Byte) : Touches 0x2 s (State.setBytes s a a2) := by
  fun_induction State.setBytes s a a2
  · rename_i x1 x2
    exact Touches.refl _ _
  · rename_i x3 x4 x5 x6 e7
    exact Touches.trans (Touches.step (State.setByte_touches ..) rfl (Touches.refl _ _)) e7

end Sys2Proof.Machine
end

