-- ==== Sys2Proof/Laws/FrameAccess.lean ====
section
/-! SUPPORT. What each operation of Machine/Access.lean can do: the parts of the state it touches (Touches). -/

-- One declaration at a time: many proofs at once would each hold a thread with a large stack.
set_option Elab.async false

namespace Sys2Proof.Machine

theorem State.wake_touches (s : State) (bit : Nat) : Touches 0x2000000000000000000000081 s (State.wake s bit) := by
  unfold State.wake
  refine Touches.ite ?_ ?_
  · extract_lets -merge +onlyGivenNames x1
    have h2 : Touches 0x2000000000000000000000081 s x1 := by unfold x1; exact State.setF_touches _ _ _ rfl 66 rfl grp_PWR_WAKE_LATCH
    clear_value x1
    exact Touches.setMode h2 rfl
  · exact Touches.refl _ _

theorem State.ptpPortDown_touches (s : State) (n : Nat) : Touches 0x800000000000000000000000000000000000000000000000000000000000000011 s (State.ptpPortDown s n) := by
  unfold State.ptpPortDown
  split
  rename_i x1 x2 x3 e4
  have h5 : Touches 0x800000000000000000000000000000000000000000000000000000000000000011 s x3 := Touches.of_eq (fun d => d.2) e4 (Touches.step (State.pick_touches ..) rfl (Touches.refl _ _))
  exact Touches.trans h5 (State.setF_touches _ _ _ rfl 232 rfl (grp_PTP_PORT_STATUS _))

theorem State.access_touches (s : State) (off value : Nat) (write : Bool) (k : State → State) (lane len : Nat) {m : Nat} (hm : 0x8070000000040800000000000000000000000000000000000000000000000000000000000000000000000000000000000000000000102000000000000000022000295 ||| m = m)
    (hk : ∀ t, Touches m t (k t)) : Touches m s (s.access off value write k lane len) := by
  have hb : Touches m s { s with bus.data := 0 } :=
    Touches.mono (m := 0x4) (Touches.upd (b := s) (Touches.refl _ _) rfl rfl rfl rfl rfl rfl rfl
      (by intro p hp; cases p <;> first | rfl | exact absurd hp (by decide))) (Touches.sub hm rfl)
  have he : Touches m s { s with boot.earlyAccess := true } :=
    Touches.mono (m := 0x200) (Touches.upd (b := s) (Touches.refl _ _) rfl rfl rfl rfl rfl rfl rfl
      (by intro p hp; cases p <;> first | rfl | exact absurd hp (by decide))) (Touches.sub hm rfl)
  have hh : Touches m s { s with bus.held := s.bus.held ++ [(⟨off, write, value, lane, len⟩ : HeldAccess)] } :=
    Touches.mono (m := 0x4) (Touches.upd (b := s) (Touches.refl _ _) rfl rfl rfl rfl rfl rfl rfl
      (by intro p hp; cases p <;> first | rfl | exact absurd hp (by decide))) (Touches.sub hm rfl)
  unfold State.access
  refine Touches.ite hb (Touches.ite (Touches.ite (Touches.ite (hk s) hb) (Touches.ite hb (Touches.ite (Touches.refl _ _) ?_)))
    (Touches.ite hb (Touches.ite ?_ (hk s))))
  · exact he.trans (State.report_touches _ _ _ _ _ (Touches.sub hm rfl) 73 (mask_bit hm rfl) grp_SYS_BOOT_STATUS)
  · exact Touches.step (State.wake_touches _ _) (Touches.sub hm rfl) hh

theorem State.regWrite_touches (s : State) (r : Reg) (value : Nat) (k : State → State) {m : Nat} (hm : 0x8070000000040800000000000000000000000000000000000000000000000000000000000000000000000000000000000000000000102000000000000000022000295 ||| m = m)
    (hk : ∀ t, Touches m t (k t)) : Touches m s (s.regWrite r value k) := State.access_touches _ _ _ _ _ _ _ hm hk

theorem State.regRead_touches (s : State) (r : Reg) (k : State → State) {m : Nat} (hm : 0x8070000000040800000000000000000000000000000000000000000000000000000000000000000000000000000000000000000000102000000000000000022000295 ||| m = m)
    (hk : ∀ t, Touches m t (k t)) : Touches m s (s.regRead r k) := State.access_touches _ _ _ _ _ _ _ hm hk

end Sys2Proof.Machine
end

