-- ==== Sys2Proof/Laws/FrameJournal.lean ====
section
/-! SUPPORT. What each operation of Machine/Journal.lean can do: the parts of the state it touches (Touches). -/

-- One declaration at a time: many proofs at once would each hold a thread with a large stack.
set_option Elab.async false

namespace Sys2Proof.Machine

theorem State.deferOp_touches (s : State) (region : Nat) : Touches 0xc070000000040800000000000000000000000000000000000000000000000000000000000000000000000000000000000000000000000000000000000000022000211 s (State.deferOp s region) := by
  unfold State.deferOp
  extract_lets -merge +onlyGivenNames x1
  have h2 : Touches 0xc070000000040800000000000000000000000000000000000000000000000000000000000000000000000000000000000000000000000000000000000000022000211 s x1 := by
    unfold x1
    refine Touches.trans ?_ (State.inc_touches _ _ _ rfl 499 rfl grp_JRN_CNT_DEFER)
    exact State.setB_touches _ _ _ rfl 489 rfl grp_JRN_STATUS
  clear_value x1
  refine Touches.ite ?_ ?_
  · exact h2
  · extract_lets -merge +onlyGivenNames x3
    clear_value x3
    extract_lets -merge +onlyGivenNames x4
    have h5 : Touches 0xc070000000040800000000000000000000000000000000000000000000000000000000000000000000000000000000000000000000000000000000000000022000211 s x4 := by unfold x4; exact Touches.setJrn h2 rfl
    clear_value x4
    exact Touches.trans h5 (State.report_touches _ _ _ _ _ rfl 489 rfl grp_JRN_STATUS)

theorem State.deferEnd_touches (s : State) : Touches 0x10000000000000000000000000000000000000000000000000000000000000000000000000000000000000000000000000000000000000000000000000002000001 s (State.deferEnd s) := by
  unfold State.deferEnd
  extract_lets -merge +onlyGivenNames x1
  have h2 : Touches 0x10000000000000000000000000000000000000000000000000000000000000000000000000000000000000000000000000000000000000000000000000002000001 s x1 := by unfold x1; exact State.setB_touches _ _ _ rfl 489 rfl grp_JRN_STATUS
  clear_value x1
  exact Touches.setJrn h2 rfl

theorem State.stageStore_touches (s : State) (object : Nat) (copy : Nat) (seq : Nat) (mark : List Byte) : Touches 0x8070000000040800000000000000000000000000000000000000000000000000000000000000000000000000000000000000000000000000000000000000022000011 s (State.stageStore s object copy seq mark) := by
  unfold State.stageStore
  exact Touches.step (State.stage_touches ..) rfl (Touches.refl _ _)

theorem State.cfgStores_touches (a0 : Nat) (a1 : State) : Touches 0x8070000000040800000000000000000000000000000000000000000000000000000000000000000000000000000000000000000000000000000000000000022000211 a1 (State.cfgStores a0 a1) := by
  fun_induction State.cfgStores a0 a1
  · rename_i x1
    exact Touches.refl _ _
  · rename_i x2 x3 x4 x5 e6 e7 x8 x9 e10 e11
    have h12 : Touches 0x8070000000040800000000000000000000000000000000000000000000000000000000000000000000000000000000000000000000000000000000000000022000211 x3 x9 := Touches.of_eq (fun d => d.2) e10 (Touches.step (State.fresh_touches ..) rfl (Touches.refl _ _))
    refine Touches.trans ?_ e11
    refine Touches.step (State.stageStore_touches ..) rfl ?_
    exact Touches.upd h12 rfl rfl rfl rfl rfl rfl rfl
      (by intro p hp; cases p <;> first | rfl | exact absurd hp (by decide))
  · rename_i x13 x14 x15 x16 e17 e18
    exact Touches.refl _ _
  · rename_i x19 x20 e21
    exact Touches.refl _ _

theorem State.flashAsk_touches (s : State) (object : Nat) (value : Nat) : Touches 0xc070000000040800000000000000000000000000000000000000000000000000000000000000000000000000000000000000000000000000000000000000022000211 s (State.flashAsk s object value) := by
  unfold State.flashAsk
  extract_lets -merge +onlyGivenNames x1
  clear_value x1
  extract_lets -merge +onlyGivenNames x2
  have h3 : Touches 0xc070000000040800000000000000000000000000000000000000000000000000000000000000000000000000000000000000000000000000000000000000022000211 s x2 := by unfold x2; exact Touches.setJrn (Touches.refl _ _) rfl
  clear_value x2
  refine Touches.ite ?_ ?_
  · exact h3
  · refine Touches.ite ?_ ?_
    · exact Touches.step (State.cfgStores_touches ..) rfl h3
    · exact Touches.step (State.deferOp_touches ..) rfl h3

theorem State.reqsOpen_touches (s : State) : Touches 0xc070000000040800000000000000000000000000000000000000000000000000000000000000000000000000000000000000000000000000000000000000022000211 s (State.reqsOpen s) := by
  unfold State.reqsOpen
  split
  · exact Touches.refl _ _
  · refine Touches.ite ?_ ?_
    · exact Touches.step (State.cfgStores_touches ..) rfl (Touches.refl _ _)
    · exact Touches.step (State.deferOp_touches ..) rfl (Touches.refl _ _)

theorem State.flashDone_touches (s : State) : Touches 0x8070000000040800000000000000000000000000000000000000000000000000000000000000000000000000000000000000000000000000000000000000022000211 s (State.flashDone s) := by
  unfold State.flashDone
  extract_lets -merge +onlyGivenNames x1
  have h2 : Touches 0x8070000000040800000000000000000000000000000000000000000000000000000000000000000000000000000000000000000000000000000000000000022000211 s x1 := by
    unfold x1
    refine Touches.ite ?_ ?_
    · exact Touches.step (State.deferEnd_touches ..) rfl (Touches.refl _ _)
    · exact Touches.refl _ _
  clear_value x1
  extract_lets -merge +onlyGivenNames x3
  clear_value x3
  extract_lets -merge +onlyGivenNames x4
  have h5 : Touches 0x8070000000040800000000000000000000000000000000000000000000000000000000000000000000000000000000000000000000000000000000000000022000211 s x4 := by unfold x4; exact Touches.setJrn h2 rfl
  clear_value x4
  exact Touches.step (State.cfgStores_touches ..) rfl h5

theorem State.jrnRegs_touches (s : State) : Touches 0x7a0000000000000000000000000000000000000000000000000000000000000000000000000000000000000000000000000000000000000000000000000000000001 s (State.jrnRegs s) := by
  unfold State.jrnRegs
  extract_lets -merge +onlyGivenNames x1
  have h2 : Touches 0x7a0000000000000000000000000000000000000000000000000000000000000000000000000000000000000000000000000000000000000000000000000000000001 s x1 := by unfold x1; exact State.setF_touches _ _ _ rfl 493 rfl grp_JRN_WRPTR
  clear_value x1
  extract_lets -merge +onlyGivenNames x3
  have h4 : Touches 0x7a0000000000000000000000000000000000000000000000000000000000000000000000000000000000000000000000000000000000000000000000000000000001 s x3 := by unfold x3; exact Touches.trans h2 (State.setF_touches _ _ _ rfl 494 rfl grp_JRN_OLDEST)
  clear_value x3
  extract_lets -merge +onlyGivenNames x5
  have h6 : Touches 0x7a0000000000000000000000000000000000000000000000000000000000000000000000000000000000000000000000000000000000000000000000000000000001 s x5 := by unfold x5; exact Touches.trans h4 (State.setF_touches _ _ _ rfl 492 rfl grp_JRN_RUNWAY)
  clear_value x5
  extract_lets -merge +onlyGivenNames x7
  have h8 : Touches 0x7a0000000000000000000000000000000000000000000000000000000000000000000000000000000000000000000000000000000000000000000000000000000001 s x7 := by unfold x7; exact Touches.trans h6 (State.setF_touches _ _ _ rfl 490 rfl grp_JRN_SEQ)
  clear_value x7
  exact Touches.trans h8 (State.setF_touches _ _ _ rfl 495 rfl grp_JRN_START_CNT)

theorem State.putPage_touches (s : State) (recs : List JRec) (ok : Bool) : Touches 0x297f0000000040800000000000000000000000000000000000000000000000000000000000000000000000000000000000000000000000000000000000000022000211 s (State.putPage s recs ok) := by
  unfold State.putPage
  extract_lets -merge +onlyGivenNames x1
  clear_value x1
  extract_lets -merge +onlyGivenNames x2
  clear_value x2
  extract_lets -merge +onlyGivenNames x3
  have h4 : Touches 0x297f0000000040800000000000000000000000000000000000000000000000000000000000000000000000000000000000000000000000000000000000000022000211 s x3 := by unfold x3; exact Touches.setJrn (Touches.refl _ _) rfl
  clear_value x3
  extract_lets -merge +onlyGivenNames x5
  have h6 : Touches 0x297f0000000040800000000000000000000000000000000000000000000000000000000000000000000000000000000000000000000000000000000000000022000211 s x5 := by
    unfold x5
    refine Touches.step (State.jrnRegs_touches ..) rfl ?_
    exact Touches.trans h4 (State.inc_touches _ _ _ rfl 497 rfl grp_JRN_CNT_PAGES)
  clear_value x5
  refine Touches.ite ?_ ?_
  · exact h6
  · refine Touches.trans ?_ (State.report_touches _ _ _ _ _ rfl 489 rfl grp_JRN_STATUS)
    exact Touches.trans h6 (State.inc_touches _ _ _ rfl 502 rfl grp_JRN_CNT_FLASH_FAIL)

theorem State.dropRecord_touches (s : State) : Touches 0x8070000000040800000000000000000000000000000000000000000000000000000000000000000000000000000000000000000000000000000000000000022000011 s (State.dropRecord s) := by
  unfold State.dropRecord
  refine Touches.ite ?_ ?_
  · extract_lets -merge +onlyGivenNames x1
    extract_lets -merge +onlyGivenNames x2
    clear_value x2
    extract_lets -merge +onlyGivenNames x3
    have h4 : Touches 0x8070000000040800000000000000000000000000000000000000000000000000000000000000000000000000000000000000000000000000000000000000022000011 s x3 := by unfold x3; exact Touches.setJrn (Touches.refl _ _) rfl
    clear_value x3
    clear_value x1
    exact Touches.step (State.stage_touches ..) rfl h4
  · exact Touches.refl _ _

theorem State.programNow_touches (s : State) (ok : Bool) : Touches 0x2d7f0000000040800000000000000000000000000000000000000000000000000000000000000000000000000000000000000000000000000000000000000022000211 s (State.programNow s ok) := by
  unfold State.programNow
  extract_lets -merge +onlyGivenNames x1
  refine Touches.ite ?_ ?_
  · exact Touches.refl _ _
  · refine Touches.ite ?_ ?_
    · exact Touches.setJrn (Touches.refl _ _) rfl
    · refine Touches.ite ?_ ?_
      · refine Touches.ite ?_ ?_
        · exact Touches.refl _ _
        · extract_lets -merge +onlyGivenNames x2
          clear_value x2
          extract_lets -merge +onlyGivenNames x3
          have h4 : Touches 0x2d7f0000000040800000000000000000000000000000000000000000000000000000000000000000000000000000000000000000000000000000000000000022000211 s x3 := by unfold x3; exact Touches.setJrn (Touches.refl _ _) rfl
          clear_value x3
          clear_value x1
          exact Touches.trans h4 (State.report_touches _ _ _ _ _ rfl 489 rfl grp_JRN_STATUS)
      · refine Touches.ite ?_ ?_
        · extract_lets -merge +onlyGivenNames x5
          have h6 : Touches 0x2d7f0000000040800000000000000000000000000000000000000000000000000000000000000000000000000000000000000000000000000000000000000022000211 s x5 := by unfold x5; exact Touches.step (State.deferOp_touches ..) rfl (Touches.refl _ _)
          clear_value x5
          exact Touches.setJrn h6 rfl
        · extract_lets -merge +onlyGivenNames x7
          clear_value x7
          extract_lets -merge +onlyGivenNames x8
          have h9 : Touches 0x2d7f0000000040800000000000000000000000000000000000000000000000000000000000000000000000000000000000000000000000000000000000000022000211 s x8 := by unfold x8; exact Touches.setJrn (Touches.refl _ _) rfl
          clear_value x8
          extract_lets -merge +onlyGivenNames x10
          have h11 : Touches 0x2d7f0000000040800000000000000000000000000000000000000000000000000000000000000000000000000000000000000000000000000000000000000022000211 s x10 := by
            unfold x10
            refine Touches.ite ?_ ?_
            · exact Touches.step (State.deferEnd_touches ..) rfl h9
            · exact h9
          clear_value x10
          extract_lets -merge +onlyGivenNames x12
          clear_value x12
          extract_lets -merge +onlyGivenNames x13
          have h14 : Touches 0x2d7f0000000040800000000000000000000000000000000000000000000000000000000000000000000000000000000000000000000000000000000000000022000211 s x13 := by
            unfold x13
            refine Touches.ite ?_ ?_
            · exact Touches.setJrn h11 rfl
            · exact h11
          clear_value x13
          extract_lets -merge +onlyGivenNames x15
          have h16 : Touches 0x2d7f0000000040800000000000000000000000000000000000000000000000000000000000000000000000000000000000000000000000000000000000000022000211 s x15 := by unfold x15; exact Touches.step (State.dropRecord_touches ..) rfl (Touches.step (State.putPage_touches ..) rfl h14)
          clear_value x15
          exact Touches.trans h16 (State.setF_touches _ _ _ rfl 491 rfl grp_JRN_STAGE)

theorem State.eraseOldest_touches (s : State) (ok : Bool) : Touches 0x2e7f0000000040800000000000000000000000000000000000000000000000000000000000000000000000000000000000000000000000000000000000000022000211 s (State.eraseOldest s ok) := by
  unfold State.eraseOldest
  refine Touches.ite ?_ ?_
  · exact Touches.refl _ _
  · refine Touches.ite ?_ ?_
    · exact Touches.step (State.deferOp_touches ..) rfl (Touches.refl _ _)
    · extract_lets -merge +onlyGivenNames x1
      have h2 : Touches 0x2e7f0000000040800000000000000000000000000000000000000000000000000000000000000000000000000000000000000000000000000000000000000022000211 s x1 := by
        unfold x1
        refine Touches.ite ?_ ?_
        · exact Touches.step (State.deferEnd_touches ..) rfl (Touches.refl _ _)
        · exact Touches.refl _ _
      extract_lets -merge +onlyGivenNames x3
      clear_value x3
      extract_lets -merge +onlyGivenNames x4
      extract_lets -merge +onlyGivenNames x5
      have h6 : Touches 0x2e7f0000000040800000000000000000000000000000000000000000000000000000000000000000000000000000000000000000000000000000000000000022000211 s x5 := by unfold x5; exact Touches.setJrn h2 rfl
      extract_lets -merge +onlyGivenNames x7
      have h8 : Touches 0x2e7f0000000040800000000000000000000000000000000000000000000000000000000000000000000000000000000000000000000000000000000000000022000211 s x7 := by unfold x7; exact Touches.trans h6 (State.inc_touches _ _ _ rfl 498 rfl grp_JRN_CNT_ERASES)
      refine Touches.ite ?_ ?_
      · extract_lets -merge +onlyGivenNames x9
        clear_value x9
        extract_lets -merge +onlyGivenNames x10
        have h11 : Touches 0x2e7f0000000040800000000000000000000000000000000000000000000000000000000000000000000000000000000000000000000000000000000000000022000211 s x10 := by unfold x10; exact Touches.setJrn h8 rfl
        extract_lets -merge +onlyGivenNames x12
        clear_value x12
        extract_lets -merge +onlyGivenNames x13
        have h14 : Touches 0x2e7f0000000040800000000000000000000000000000000000000000000000000000000000000000000000000000000000000000000000000000000000000022000211 s x13 := by
          unfold x13
          refine Touches.ite ?_ ?_
          · exact Touches.setJrn h11 rfl
          · exact h11
        clear_value x13
        exact Touches.step (State.jrnRegs_touches ..) rfl h14
      · extract_lets -merge +onlyGivenNames x15
        clear_value x15
        extract_lets -merge +onlyGivenNames x16
        have h17 : Touches 0x2e7f0000000040800000000000000000000000000000000000000000000000000000000000000000000000000000000000000000000000000000000000000022000211 s x16 := by unfold x16; exact Touches.setJrn h8 rfl
        clear_value x16
        refine Touches.step (State.jrnRegs_touches ..) rfl ?_
        refine Touches.trans ?_ (State.report_touches _ _ _ _ _ rfl 489 rfl grp_JRN_STATUS)
        exact Touches.trans h17 (State.inc_touches _ _ _ rfl 502 rfl grp_JRN_CNT_FLASH_FAIL)

theorem State.total_touches (s : State) (k : Nat) (n : Nat) : Touches 0x200000000000000000000000000000000000000000000000000000000000000000000000000000000000000000000000000000000000000000000000000000000000001 s (State.total s k n) := by
  unfold State.total
  exact State.inc_touches _ _ _ rfl 506 rfl (grp_JRN_TOT _)

theorem State.stageDigests_touches (s : State) : Touches 0x8070000000040800000000000000000000000000000000000000000000000000000000000000000000000000000000000000000000000000000000000000022000011 s (State.stageDigests s) := by
  unfold State.stageDigests
  exact Touches.step (State.stage_touches ..) rfl (Touches.refl _ _)

theorem State.stageStart_touches (s : State) : Touches 0x8070000000040800000000000000000000000000000000000000000000000000000000000000000000000000000000000000000000000000000000000000022000011 s (State.stageStart s) := by
  unfold State.stageStart
  exact Touches.step (State.stage_touches ..) rfl (Touches.refl _ _)

theorem State.makeRec_touches (s : State) (ty : Nat) (len : Nat) (body : List Byte) : Touches 0x2000000 s (State.makeRec s ty len body).2 := by
  unfold State.makeRec
  exact Touches.pair2 (Touches.setJrn (Touches.refl _ _) rfl)

theorem State.programSeq_touches (need : Nat) (a1 : List PageFact) (a2 : State) (a3 : List (List JRec)) (a4 : Nat) : Touches 0x297f0000000040800000000000000000000000000000000000000000000000000000000000000000000000000000000000000000000000000001000000000022000211 a2 (State.programSeq need a1 a2 a3 a4).1 := by
  fun_induction State.programSeq need a1 a2 a3 a4
  · rename_i x1 x2 x3
    exact Touches.pair1 (Touches.refl _ _)
  · rename_i x4 x5 x6 x7
    exact Touches.pair1 (Touches.refl _ _)
  · rename_i x8 x9 x10 x11 x12 x13 e14
    exact Touches.pair1 (Touches.refl _ _)
  · rename_i x15 x16 x17 x18 x19 x20 e21 x22 e23
    have h24 : Touches 0x297f0000000040800000000000000000000000000000000000000000000000000000000000000000000000000000000000000000000000000001000000000022000211 x17 x22 := by unfold x22; exact Touches.step (State.putPage_touches ..) rfl (State.setF_touches _ _ _ rfl 41 rfl grp_PWR_HOLDUP)
    exact Touches.trans h24 e23

end Sys2Proof.Machine
end

