-- ==== Sys2Proof/Laws/FrameMotTime.lean ====
section
/-! SUPPORT. What each operation of Machine/MotTime.lean can do: the parts of the state it touches (Touches). -/

-- One declaration at a time: many proofs at once would each hold a thread with a large stack.
set_option Elab.async false

namespace Sys2Proof.Machine

theorem State.setX_touches (s : State) (c : Nat) (v : Nat) : Touches 0x1800000000000000000000000000000000000000000000001 s (State.setX s c v) := by
  unfold State.setX
  exact State.setPair_touches _ _ _ _ rfl 160 rfl (grp_MOT_CH_X_LO _) 161 rfl (grp_MOT_CH_X_HI _)

theorem State.setE_touches (s : State) (c : Nat) (v : Nat) : Touches 0x6000000000000000000000000000000000000000000000001 s (State.setE s c v) := by
  unfold State.setE
  exact State.setPair_touches _ _ _ _ rfl 162 rfl (grp_MOT_CH_E_LO _) 163 rfl (grp_MOT_CH_E_HI _)

theorem State.setCh_touches (s : State) (c : Nat) (x : Chan) : Touches 0x80000 s (State.setCh s c x) := by
  unfold State.setCh
  exact Touches.setMot (Touches.refl _ _) rfl

theorem State.chReport_touches (s : State) (c : Nat) (sts : Nat) (detail : Nat) : Touches 0x8070000000040800000000000000000000000000000000000000000000000000000000000000000000010000000000000000000000000004000000000000022080211 s (State.chReport s c sts detail) := by
  unfold State.chReport
  exact State.motReport_touches _ _ _ _ _ rfl 165 rfl (grp_MOT_CH_STATUS _)

theorem State.chLimited_touches (s : State) (c : Nat) (sts : Nat) (detail : Nat → Nat) : Touches 0x8070000000040800000000000000000000000000000000000000000000000000000000000000000000010000000000000000000000000004000000000000022080215 s (State.chLimited s c sts detail) := by
  unfold State.chLimited
  split
  · rename_i x1 x2 x3 e4
    have h5 : Touches 0x8070000000040800000000000000000000000000000000000000000000000000000000000000000000010000000000000000000000000004000000000000022080215 s x3 := Touches.of_eq (fun d => d.2) e4 (Touches.step (State.limit_touches ..) rfl (Touches.refl _ _))
    exact Touches.step (State.chReport_touches ..) rfl h5
  · rename_i x6 x7 e8
    have h9 : Touches 0x8070000000040800000000000000000000000000000000000000000000000000000000000000000000010000000000000000000000000004000000000000022080215 s x7 := Touches.of_eq (fun d => d.2) e8 (Touches.step (State.limit_touches ..) rfl (Touches.refl _ _))
    exact h9

theorem State.evtPush_touches (s : State) (source : Nat) (index : Nat) (e : Nat) (mono : Nat) : Touches 0x8070000000040800000000000000000000000000000000000000000000000000500000000040000000000000000000000000000000000000000000000000022000231 s (State.evtPush s source index e mono) := by
  unfold State.evtPush
  refine Touches.ite ?_ ?_
  · extract_lets -merge +onlyGivenNames x1
    extract_lets -merge +onlyGivenNames x2
    have h3 : Touches 0x8070000000040800000000000000000000000000000000000000000000000000500000000040000000000000000000000000000000000000000000000000022000231 s x2 := by unfold x2; exact Touches.setTime (Touches.refl _ _) rfl
    clear_value x2
    clear_value x1
    exact Touches.trans h3 (State.setF_touches _ _ _ rfl 241 rfl grp_PTP_EVT_STATUS)
  · extract_lets -merge +onlyGivenNames x4
    have h5 : Touches 0x8070000000040800000000000000000000000000000000000000000000000000500000000040000000000000000000000000000000000000000000000000022000231 s x4 := by unfold x4; exact State.inc_touches _ _ _ rfl 243 rfl grp_PTP_EVT_LOST
    clear_value x4
    refine Touches.ite ?_ ?_
    · exact h5
    · exact Touches.trans (Touches.setTime h5 rfl) (State.report_touches _ _ _ _ _ rfl 203 rfl grp_PTP_STATUS)

theorem State.markCheck_touches (s : State) (c : Nat) : Touches 0x8070000000040800000000000000000000000000000000000000000000000000520000000040000000000000000000000000000000000000000000000000022000231 s (State.markCheck s c) := by
  unfold State.markCheck
  extract_lets -merge +onlyGivenNames x1
  clear_value x1
  refine Touches.ite ?_ ?_
  · exact Touches.step (State.evtPush_touches ..) rfl (State.setB_touches _ _ _ rfl 238 rfl grp_PTP_EVT_CFG)
  · exact Touches.refl _ _

theorem State.ejReport_touches (s : State) (sts : Nat) (detail : Nat) : Touches 0x8070000000040800000000000000000000000000000000000000000000000000000000000000000000000000000000000000000000000004000080000000022080211 s (State.ejReport s sts detail) := by
  unfold State.ejReport
  exact State.motReport_touches _ _ _ _ _ rfl 36 rfl grp_EJ_POL_STATUS

end Sys2Proof.Machine
end

