-- ==== Sys2Proof/Laws/FrameTime.lean ====
section
/-! SUPPORT. What each operation of Machine/Time.lean can do: the parts of the state it touches (Touches). -/

-- One declaration at a time: many proofs at once would each hold a thread with a large stack.
set_option Elab.async false

namespace Sys2Proof.Machine

theorem State.tick_touches (s : State) : Touches 0x20 s (State.tick s) := by
  unfold State.tick
  extract_lets -merge +onlyGivenNames x1
  clear_value x1
  exact Touches.setTime (Touches.refl _ _) rfl

theorem State.copyCheck_touches (s : State) : Touches 0x40000000000000000000000000000000000000000000000000000000021 s (State.copyCheck s) := by
  unfold State.copyCheck
  split
  · refine Touches.ite ?_ ?_
    · exact Touches.trans (Touches.setTime (Touches.refl _ _) rfl) (State.setB_touches _ _ _ rfl 203 rfl grp_PTP_STATUS)
    · exact Touches.refl _ _
  · rename_i x1 e2
    exact Touches.refl _ _

theorem State.stepLogRegs_touches (s : State) : Touches 0x1000000000000000000000000000000000000000000000000000000000000000000001 s (State.stepLogRegs s) := by
  unfold State.stepLogRegs
  extract_lets -merge +onlyGivenNames x1
  refine Touches.foldl (fun t2 y3 h4 => ?_) ?_
  · exact Touches.trans h4 (State.setF_touches _ _ _ rfl 245 rfl (grp_PTP_STEP_LOG _))
  · exact Touches.refl _ _

theorem State.timeReport_touches (s : State) (sts : Nat) (detail : Nat) (inst : Nat) : Touches 0x8070000000040800000000000000000000000000000000000000000000000000000000000040000000000000000000000000000000000000000000000000022000211 s (State.timeReport s sts detail inst) := by
  unfold State.timeReport
  exact State.report_touches _ _ _ _ _ rfl 203 rfl grp_PTP_STATUS

theorem State.rateSet_touches (s : State) (v : Int) : Touches 0x8070000000040800000000000000000000000000000000000000000000000000000000002040000000000000000000000000000000000000000000000000022000211 s (State.rateSet s v) := by
  unfold State.rateSet
  extract_lets -merge +onlyGivenNames x1
  clear_value x1
  extract_lets -merge +onlyGivenNames x2
  clear_value x2
  extract_lets -merge +onlyGivenNames x3
  have h4 : Touches 0x8070000000040800000000000000000000000000000000000000000000000000000000002040000000000000000000000000000000000000000000000000022000211 s x3 := by unfold x3; exact State.setF_touches _ _ _ rfl 210 rfl grp_PTP_RATE
  clear_value x3
  refine Touches.ite ?_ ?_
  · exact h4
  · exact Touches.step (State.timeReport_touches ..) rfl h4

theorem State.stepAsk_touches (s : State) (sec : Int) (ns : Nat) : Touches 0x8070000000040800000000000000000000000000000000000000000000000000000000020040000000000000000000000000000000000000000000000000022000231 s (State.stepAsk s sec ns) := by
  unfold State.stepAsk
  refine Touches.ite ?_ ?_
  · exact Touches.step (State.timeReport_touches ..) rfl (Touches.refl _ _)
  · refine Touches.ite ?_ ?_
    · exact Touches.step (State.timeReport_touches ..) rfl (Touches.refl _ _)
    · exact Touches.trans (Touches.setTime (Touches.refl _ _) rfl) (State.setB_touches _ _ _ rfl 214 rfl grp_PTP_STEP_CTRL)

theorem State.stepApply_touches (s : State) : Touches 0x8070000000040800000000000000000000000000000000000000000000000001000000020040000000000000000000000000000000000000000000000000022000231 s (State.stepApply s) := by
  unfold State.stepApply
  split
  · exact Touches.refl _ _
  · refine Touches.ite ?_ ?_
    · exact Touches.refl _ _
    · extract_lets -merge +onlyGivenNames x1
      extract_lets -merge +onlyGivenNames x2
      have h3 : Touches 0x8070000000040800000000000000000000000000000000000000000000000001000000020040000000000000000000000000000000000000000000000000022000231 s x2 := by unfold x2; exact Touches.trans (Touches.setTime (Touches.refl _ _) rfl) (State.setB_touches _ _ _ rfl 214 rfl grp_PTP_STEP_CTRL)
      clear_value x2
      clear_value x1
      extract_lets -merge +onlyGivenNames x4
      clear_value x4
      refine Touches.ite ?_ ?_
      · exact Touches.step (State.timeReport_touches ..) rfl h3
      · extract_lets -merge +onlyGivenNames x5
        clear_value x5
        extract_lets -merge +onlyGivenNames x6
        have h7 : Touches 0x8070000000040800000000000000000000000000000000000000000000000001000000020040000000000000000000000000000000000000000000000000022000231 s x6 := by unfold x6; exact Touches.trans h3 (State.setF_touches _ _ _ rfl 203 rfl grp_PTP_STATUS)
        clear_value x6
        extract_lets -merge +onlyGivenNames x8
        extract_lets -merge +onlyGivenNames x9
        have h10 : Touches 0x8070000000040800000000000000000000000000000000000000000000000001000000020040000000000000000000000000000000000000000000000000022000231 s x9 := by unfold x9; exact Touches.setTime h7 rfl
        clear_value x9
        clear_value x8
        exact Touches.step (State.stepLogRegs_touches ..) rfl (Touches.step (State.timeReport_touches ..) rfl h10)

theorem State.writeRate_touches (s : State) (v : Nat) : Touches 0x8070000000040800000000000000000000000000000000000000000000000000000000002040000000000000000000000000000000000000000000000000022000211 s (State.writeRate s v) := by
  unfold State.writeRate
  refine Touches.ite ?_ ?_
  · exact Touches.step (State.timeReport_touches ..) rfl (Touches.refl _ _)
  · exact Touches.step (State.rateSet_touches ..) rfl (Touches.refl _ _)

theorem State.writeStepCtrl_touches (s : State) (v : Nat) : Touches 0x8070000000040800000000000000000000000000000000000000000000000000000000020040000000000000000000000000000000000000000000000000022000231 s (State.writeStepCtrl s v) := by
  unfold State.writeStepCtrl
  refine Touches.ite ?_ ?_
  · exact Touches.refl _ _
  · refine Touches.ite ?_ ?_
    · exact Touches.step (State.timeReport_touches ..) rfl (Touches.refl _ _)
    · exact Touches.step (State.stepAsk_touches ..) rfl (Touches.refl _ _)

theorem execRateWrite_ends (value : Nat) (s : State) : Ends 0x8070000000040800000000000000000000000000000000000000000000000000000000002040000000000000000000000000000000102000000000000000022000295 s (execRateWrite value s) := by
  unfold execRateWrite
  refine Ends.next ?_
  refine Touches.trans ?_ (State.regWrite_touches _ _ _ _ rfl ?_)
  · exact Touches.refl _ _
  · intro y1
    exact Touches.step (State.writeRate_touches ..) rfl (Touches.refl _ _)

theorem execStepRequest_ends (value : Nat) (s : State) : Ends 0x80700000000408000000000000000000000000000000000000000000000000000000000200400000000000000000000000000000001020000000000000000220002b5 s (execStepRequest value s) := by
  unfold execStepRequest
  refine Ends.next ?_
  refine Touches.trans ?_ (State.regWrite_touches _ _ _ _ rfl ?_)
  · exact Touches.refl _ _
  · intro y1
    exact Touches.step (State.writeStepCtrl_touches ..) rfl (Touches.refl _ _)

theorem execStepApply_ends (s : State) : Ends 0x8070000000040800000000000000000000000000000000000000000000000001000000020040000000000000000000000000000000000000000000000000022000231 s (execStepApply s) := by
  unfold execStepApply
  exact Ends.next (Touches.step (State.stepApply_touches ..) rfl (Touches.refl _ _))

theorem State.writePtpCfg_touches (s : State) (value : Nat) : Touches 0x8070000000040800000000000000000000000000000000000000000000000000000000000060000000000000000000000000000000000000000000000000022000231 s (State.writePtpCfg s value) := by
  unfold State.writePtpCfg
  extract_lets -merge +onlyGivenNames x1
  clear_value x1
  extract_lets -merge +onlyGivenNames x2
  clear_value x2
  extract_lets -merge +onlyGivenNames x3
  clear_value x3
  extract_lets -merge +onlyGivenNames x4
  clear_value x4
  extract_lets -merge +onlyGivenNames x5
  clear_value x5
  extract_lets -merge +onlyGivenNames x6
  clear_value x6
  extract_lets -merge +onlyGivenNames x7
  clear_value x7
  extract_lets -merge +onlyGivenNames x8
  extract_lets -merge +onlyGivenNames x9
  have h10 : Touches 0x8070000000040800000000000000000000000000000000000000000000000000000000000060000000000000000000000000000000000000000000000000022000231 s x9 := by
    unfold x9
    refine Touches.ite ?_ ?_
    · exact Touches.setTime (Touches.refl _ _) rfl
    · exact Touches.refl _ _
  clear_value x9
  clear_value x8
  extract_lets -merge +onlyGivenNames x11
  have h12 : Touches 0x8070000000040800000000000000000000000000000000000000000000000000000000000060000000000000000000000000000000000000000000000000022000231 s x11 := by unfold x11; exact Touches.trans h10 (State.wr_touches _ _ _ rfl 202 rfl grp_PTP_CFG)
  clear_value x11
  refine Touches.ite ?_ ?_
  · exact Touches.step (State.timeReport_touches ..) rfl h12
  · exact h12

theorem execPtpCfgWrite_ends (value : Nat) (s : State) : Ends 0x80700000000408000000000000000000000000000000000000000000000000000000000000600000000000000000000000000000001020000000000000000220002b5 s (execPtpCfgWrite value s) := by
  unfold execPtpCfgWrite
  refine Ends.next ?_
  refine Touches.trans ?_ (State.regWrite_touches _ _ _ _ rfl ?_)
  · exact Touches.refl _ _
  · intro y1
    exact Touches.step (State.writePtpCfg_touches ..) rfl (Touches.refl _ _)

theorem execEthernetLinkChange_ends (port : Nat) (up : Bool) (s : State) : Ends 0x800000000000000000000000000000000000000000000000000000000000000011 s (execEthernetLinkChange port up s) := by
  unfold execEthernetLinkChange
  refine Ends.next ?_
  refine Touches.ite ?_ ?_
  · exact Touches.refl _ _
  · extract_lets -merge +onlyGivenNames x1
    have h2 : Touches 0x800000000000000000000000000000000000000000000000000000000000000011 s x1 := by unfold x1; exact State.setB_touches _ _ _ rfl 232 rfl (grp_PTP_PORT_STATUS _)
    clear_value x1
    refine Touches.ite ?_ ?_
    · split
      rename_i x3 x4 x5 e6
      have h7 : Touches 0x800000000000000000000000000000000000000000000000000000000000000011 s x5 := Touches.of_eq (fun d => d.2) e6 (Touches.step (State.pick_touches ..) rfl h2)
      exact Touches.trans h7 (State.setF_touches _ _ _ rfl 232 rfl (grp_PTP_PORT_STATUS _))
    · exact Touches.step (State.ptpPortDown_touches ..) rfl h2

theorem State.ptpStamp_touches (s : State) : Touches 0x10 s (State.ptpStamp s).2 := by
  unfold State.ptpStamp
  split
  rename_i x1 x2 x3 e4
  have h5 : Touches 0x10 s x3 := Touches.of_eq (fun d => d.2) e4 (Touches.step (State.fresh_touches ..) rfl (Touches.refl _ _))
  exact h5

theorem execPtpRx_ends (port : Nat) (kind : Nat) (seq : Nat) (sec : Nat) (domain : Nat) (inSubset : Bool) (took : Nat) (s : State) : Ends 0x8070000000040800000000000000000000000000000000000000000000000000015000000040000000000000000000000000000000000000000000000000022000235 s (execPtpRx port kind seq sec domain inSubset took s) := by
  unfold execPtpRx
  refine Ends.next ?_
  extract_lets -merge +onlyGivenNames x1
  extract_lets -merge +onlyGivenNames x2
  have h3 : Touches 0x8070000000040800000000000000000000000000000000000000000000000000015000000040000000000000000000000000000000000000000000000000022000235 s x2 := by unfold x2; exact Touches.setTime (Touches.refl _ _) rfl
  clear_value x2
  clear_value x1
  refine Touches.ite ?_ ?_
  · exact h3
  · refine Touches.ite ?_ ?_
    · exact Touches.trans h3 (State.inc_touches _ _ _ rfl 237 rfl (grp_PTP_CNT_OTHER _))
    · extract_lets -merge +onlyGivenNames x4
      have h5 : Touches 0x8070000000040800000000000000000000000000000000000000000000000000015000000040000000000000000000000000000000000000000000000000022000235 s x4 := by unfold x4; exact Touches.trans h3 (State.inc_touches _ _ _ rfl 233 rfl (grp_PTP_CNT_RXEV _))
      clear_value x4
      split
      rename_i x6 x7 x8 e9
      have h10 : Touches 0x8070000000040800000000000000000000000000000000000000000000000000015000000040000000000000000000000000000000000000000000000000022000235 s x8 := Touches.of_eq (fun d => d.2) e9 (Touches.step (State.ptpStamp_touches ..) rfl h5)
      refine Touches.ite ?_ ?_
      · refine Touches.trans ?_ (State.reportLimited_touches _ _ _ _ _ _ _ rfl 203 rfl grp_PTP_STATUS)
        exact Touches.trans h10 (State.inc_touches _ _ _ rfl 235 rfl (grp_PTP_CNT_RXDROP _))
      · extract_lets -merge +onlyGivenNames x11
        clear_value x11
        exact Touches.setTime h10 rfl

theorem execPtpTx_ends (port : Nat) (kind : Nat) (seq : Nat) (turn : Int) (took : Nat) (s : State) : Ends 0x807000000004080000000000000000000000000000000000000000000000000000a000000040000000000000000000000000000000000000000000000000022000235 s (execPtpTx port kind seq turn took s) := by
  unfold execPtpTx
  refine Ends.next ?_
  extract_lets -merge +onlyGivenNames x1
  extract_lets -merge +onlyGivenNames x2
  have h3 : Touches 0x807000000004080000000000000000000000000000000000000000000000000000a000000040000000000000000000000000000000000000000000000000022000235 s x2 := by unfold x2; exact Touches.setTime (Touches.refl _ _) rfl
  clear_value x2
  clear_value x1
  refine Touches.ite ?_ ?_
  · exact h3
  · extract_lets -merge +onlyGivenNames x4
    have h5 : Touches 0x807000000004080000000000000000000000000000000000000000000000000000a000000040000000000000000000000000000000000000000000000000022000235 s x4 := by unfold x4; exact Touches.trans h3 (State.inc_touches _ _ _ rfl 234 rfl (grp_PTP_CNT_TXEV _))
    clear_value x4
    split
    rename_i x6 x7 x8 e9
    have h10 : Touches 0x807000000004080000000000000000000000000000000000000000000000000000a000000040000000000000000000000000000000000000000000000000022000235 s x8 := Touches.of_eq (fun d => d.2) e9 (Touches.step (State.ptpStamp_touches ..) rfl h5)
    extract_lets -merge +onlyGivenNames x11
    clear_value x11
    refine Touches.ite ?_ ?_
    · refine Touches.ite ?_ ?_
      · extract_lets -merge +onlyGivenNames x12
        clear_value x12
        exact Touches.step (State.emit_touches ..) rfl h10
      · refine Touches.ite ?_ ?_
        · exact Touches.step (State.emit_touches ..) rfl h10
        · exact Touches.step (State.emit_touches ..) rfl h10
    · extract_lets -merge +onlyGivenNames x13
      have h14 : Touches 0x807000000004080000000000000000000000000000000000000000000000000000a000000040000000000000000000000000000000000000000000000000022000235 s x13 := by unfold x13; exact Touches.step (State.emit_touches ..) rfl h10
      clear_value x13
      extract_lets -merge +onlyGivenNames x15
      refine Touches.ite ?_ ?_
      · refine Touches.trans ?_ (State.reportLimited_touches _ _ _ _ _ _ _ rfl 203 rfl grp_PTP_STATUS)
        exact Touches.trans h14 (State.inc_touches _ _ _ rfl 236 rfl (grp_PTP_CNT_TXLOST _))
      · extract_lets -merge +onlyGivenNames x16
        clear_value x16
        exact Touches.setTime h14 rfl

theorem State.roundFree_touches (s : State) (num : Int) (den : Nat) : Touches 0x10 s (State.roundFree s num den).2 := by
  unfold State.roundFree
  refine Touches.ite2 ?_ ?_
  · exact Touches.pair2 (Touches.refl _ _)
  · split
    rename_i x1 x2 x3 e4
    have h5 : Touches 0x10 s x3 := Touches.of_eq (fun d => d.2) e4 (Touches.step (State.fresh_touches ..) rfl (Touches.refl _ _))
    exact h5

theorem State.roundNear_touches (s : State) (num : Int) (den : Nat) : Touches 0x10 s (State.roundNear s num den).2 := by
  unfold State.roundNear
  refine Touches.ite2 ?_ ?_
  · exact Touches.step (State.roundFree_touches ..) rfl (Touches.refl _ _)
  · exact Touches.pair2 (Touches.refl _ _)

theorem State.servo_touches (s : State) (ofs : Int) : Touches 0x8070000000040800000000000000000000000000000000000000000000000000000000022040000000000000000000000000000000000000000000000000022000231 s (State.servo s ofs) := by
  unfold State.servo
  extract_lets -merge +onlyGivenNames x1
  extract_lets -merge +onlyGivenNames x2
  clear_value x2
  refine Touches.ite ?_ ?_
  · extract_lets -merge +onlyGivenNames x3
    clear_value x3
    extract_lets -merge +onlyGivenNames x4
    have h5 : Touches 0x8070000000040800000000000000000000000000000000000000000000000000000000022040000000000000000000000000000000000000000000000000022000231 s x4 := by unfold x4; exact Touches.step (State.stepAsk_touches ..) rfl (Touches.refl _ _)
    clear_value x4
    exact Touches.setTime h5 rfl
  · extract_lets -merge +onlyGivenNames x6
    clear_value x6
    extract_lets -merge +onlyGivenNames x7
    extract_lets -merge +onlyGivenNames x8
    have h9 : Touches 0x8070000000040800000000000000000000000000000000000000000000000000000000022040000000000000000000000000000000000000000000000000022000231 s x8 := by unfold x8; exact Touches.setTime (Touches.refl _ _) rfl
    clear_value x8
    clear_value x7
    extract_lets -merge +onlyGivenNames x10
    clear_value x10
    extract_lets -merge +onlyGivenNames x11
    clear_value x11
    extract_lets -merge +onlyGivenNames x12
    clear_value x12
    split
    rename_i x13 x14 x15 e16
    have h17 : Touches 0x8070000000040800000000000000000000000000000000000000000000000000000000022040000000000000000000000000000000000000000000000000022000231 s x15 := Touches.of_eq (fun d => d.2) e16 (Touches.step (State.roundNear_touches ..) rfl h9)
    exact Touches.step (State.rateSet_touches ..) rfl h17

theorem State.servoState_touches (s : State) (ofs : Int) : Touches 0x40000000000000000000000000000000000000000000000000000000021 s (State.servoState s ofs) := by
  unfold State.servoState
  extract_lets -merge +onlyGivenNames x1
  clear_value x1
  extract_lets -merge +onlyGivenNames x2
  have h3 : Touches 0x40000000000000000000000000000000000000000000000000000000021 s x2 := by unfold x2; exact State.setF_touches _ _ _ rfl 203 rfl grp_PTP_STATUS
  clear_value x2
  exact Touches.setTime h3 rfl

theorem State.samplePush_touches (s : State) (x : Sample) : Touches 0x2000000000000000000000000000000000000000000000000000000000000021 s (State.samplePush s x) := by
  unfold State.samplePush
  extract_lets -merge +onlyGivenNames x1
  extract_lets -merge +onlyGivenNames x2
  have h3 : Touches 0x2000000000000000000000000000000000000000000000000000000000000021 s x2 := by
    unfold x2
    refine Touches.ite ?_ ?_
    · exact Touches.refl _ _
    · exact Touches.trans (Touches.setTime (Touches.refl _ _) rfl) (State.inc_touches _ _ _ rfl 222 rfl grp_PTP_SMP_STATUS)
  clear_value x2
  clear_value x1
  extract_lets -merge +onlyGivenNames x4
  extract_lets -merge +onlyGivenNames x5
  have h6 : Touches 0x2000000000000000000000000000000000000000000000000000000000000021 s x5 := by unfold x5; exact Touches.setTime h3 rfl
  clear_value x5
  clear_value x4
  exact Touches.trans h6 (State.setF_touches _ _ _ rfl 222 rfl grp_PTP_SMP_STATUS)

theorem execPtpSample_ends (port : Nat) (x : PtpExch) (mono : Nat) (seq : Nat) (s : State) : Ends 0x8070000000040800000000000000000000000000000000000000000000000000000802022040000000000000000000000000000000000000000000000000022000231 s (execPtpSample port x mono seq s) := by
  unfold execPtpSample
  refine Ends.next ?_
  refine Touches.ite ?_ ?_
  · exact Touches.refl _ _
  · extract_lets -merge +onlyGivenNames x1
    have h2 : Touches 0x8070000000040800000000000000000000000000000000000000000000000000000802022040000000000000000000000000000000000000000000000000022000231 s x1 := by unfold x1; exact State.setF_touches _ _ _ rfl 232 rfl (grp_PTP_PORT_STATUS _)
    clear_value x1
    split
    split
    rename_i x3 x4 x5 e6
    have h7 : Touches 0x8070000000040800000000000000000000000000000000000000000000000000000802022040000000000000000000000000000000000000000000000000022000231 s x5 := Touches.of_eq (fun d => d.2) e6 (Touches.step (State.roundFree_touches ..) rfl h2)
    split
    rename_i x8 x9 x10 e11
    have h12 : Touches 0x8070000000040800000000000000000000000000000000000000000000000000000802022040000000000000000000000000000000000000000000000000022000231 s x10 := Touches.of_eq (fun d => d.2) e11 (Touches.step (State.roundFree_touches ..) rfl h7)
    extract_lets -merge +onlyGivenNames x13
    have h14 : Touches 0x8070000000040800000000000000000000000000000000000000000000000000000802022040000000000000000000000000000000000000000000000000022000231 s x13 := by unfold x13; exact Touches.step (State.samplePush_touches ..) rfl h12
    clear_value x13
    refine Touches.ite ?_ ?_
    · exact h14
    · refine Touches.ite ?_ ?_
      · exact Touches.step (State.servoState_touches ..) rfl (Touches.step (State.servo_touches ..) rfl h14)
      · exact Touches.step (State.servoState_touches ..) rfl h14

theorem execHoldover_ends (port : Nat) (s : State) : Ends 0x8070000000040800000000000000000000000000000000000000000000000000000000000040000000000000000000000000000000000000000000000000022000231 s (execHoldover port s) := by
  unfold execHoldover
  refine Ends.next ?_
  refine Touches.ite ?_ ?_
  · refine Touches.step (State.timeReport_touches ..) rfl ?_
    extract_lets -merge +onlyGivenNames x1
    have h2 : Touches 0x8070000000040800000000000000000000000000000000000000000000000000000000000040000000000000000000000000000000000000000000000000022000231 s x1 := by unfold x1; exact State.setF_touches _ _ _ rfl 203 rfl grp_PTP_STATUS
    clear_value x1
    exact Touches.setTime h2 rfl
  · exact Touches.refl _ _

theorem State.samplePop_touches (s : State) : Touches 0x7e000000000000000000000000000000000000000000000000000000000000025 s (State.samplePop s) := by
  unfold State.samplePop
  extract_lets -merge +onlyGivenNames x1
  clear_value x1
  extract_lets -merge +onlyGivenNames x2
  extract_lets -merge +onlyGivenNames x3
  have h4 : Touches 0x7e000000000000000000000000000000000000000000000000000000000000025 s x3 := by unfold x3; exact Touches.setTime (Touches.refl _ _) rfl
  clear_value x3
  clear_value x2
  extract_lets -merge +onlyGivenNames x5
  have h6 : Touches 0x7e000000000000000000000000000000000000000000000000000000000000025 s x5 := by unfold x5; exact Touches.trans h4 (State.setPair_touches _ _ _ _ rfl 223 rfl grp_PTP_SMP_OFS_LO 224 rfl grp_PTP_SMP_OFS_HI)
  clear_value x5
  extract_lets -merge +onlyGivenNames x7
  have h8 : Touches 0x7e000000000000000000000000000000000000000000000000000000000000025 s x7 := by unfold x7; exact Touches.trans h6 (State.setF_touches _ _ _ rfl 225 rfl grp_PTP_SMP_DELAY)
  clear_value x7
  extract_lets -merge +onlyGivenNames x9
  have h10 : Touches 0x7e000000000000000000000000000000000000000000000000000000000000025 s x9 := by unfold x9; exact Touches.trans h8 (State.setPair_touches _ _ _ _ rfl 226 rfl grp_PTP_SMP_MONO_LO 227 rfl grp_PTP_SMP_MONO_HI)
  clear_value x9
  extract_lets -merge +onlyGivenNames x11
  have h12 : Touches 0x7e000000000000000000000000000000000000000000000000000000000000025 s x11 := by
    unfold x11
    refine Touches.trans ?_ (State.setF_touches _ _ _ rfl 222 rfl grp_PTP_SMP_STATUS)
    exact Touches.trans h10 (State.setF_touches _ _ _ rfl 222 rfl grp_PTP_SMP_STATUS)
  clear_value x11
  extract_lets -merge +onlyGivenNames x13
  have h14 : Touches 0x7e000000000000000000000000000000000000000000000000000000000000025 s x13 := by unfold x13; exact Touches.trans h12 (State.setF_touches _ _ _ rfl 222 rfl grp_PTP_SMP_STATUS)
  clear_value x13
  exact Touches.setBus h14 rfl

theorem execSamplePop_ends (s : State) : Ends 0x807000000004080000000000000000000000000000000000000000000000000000007e0000000000000000000000000000000000001020000000000000000220002b5 s (execSamplePop s) := by
  unfold execSamplePop
  refine Ends.next ?_
  refine Touches.trans ?_ (State.regRead_touches _ _ _ rfl ?_)
  · exact Touches.refl _ _
  · intro y1
    exact Touches.step (State.samplePop_touches ..) rfl (Touches.refl _ _)

theorem State.evtPop_touches (s : State) : Touches 0x300000000000000000000000000000000000000000000000000000000000000000025 s (State.evtPop s) := by
  unfold State.evtPop
  extract_lets -merge +onlyGivenNames x1
  extract_lets -merge +onlyGivenNames x2
  extract_lets -merge +onlyGivenNames x3
  have h4 : Touches 0x300000000000000000000000000000000000000000000000000000000000000000025 s x3 := by unfold x3; exact Touches.setTime (Touches.refl _ _) rfl
  clear_value x3
  clear_value x1
  clear_value x2
  extract_lets -merge +onlyGivenNames x5
  have h9 : Touches 0x300000000000000000000000000000000000000000000000000000000000000000025 s x5 := by
    unfold x5
    refine Touches.foldl (fun t6 y7 h8 => ?_) ?_
    · exact Touches.trans h8 (State.setF_touches _ _ _ rfl 242 rfl (grp_PTP_EVT_DATA _))
    · exact h4
  clear_value x5
  extract_lets -merge +onlyGivenNames x10
  have h11 : Touches 0x300000000000000000000000000000000000000000000000000000000000000000025 s x10 := by unfold x10; exact Touches.trans h9 (State.setF_touches _ _ _ rfl 241 rfl grp_PTP_EVT_STATUS)
  clear_value x10
  exact Touches.setBus h11 rfl

theorem execEvtPop_ends (s : State) : Ends 0x80700000000408000000000000000000000000000000000000000000000000003000000000000000000000000000000000000000001020000000000000000220002b5 s (execEvtPop s) := by
  unfold execEvtPop
  refine Ends.next ?_
  refine Touches.trans ?_ (State.regRead_touches _ _ _ rfl ?_)
  · exact Touches.refl _ _
  · intro y1
    exact Touches.step (State.evtPop_touches ..) rfl (Touches.refl _ _)

theorem State.writeMarkHi_touches (s : State) (value : Nat) : Touches 0x80700000000408000000000000000000000000000000000000000000000000005a0000000040000000000000000000000000000000000000000000000000022000231 s (State.writeMarkHi s value) := by
  unfold State.writeMarkHi
  extract_lets -merge +onlyGivenNames x1
  have h2 : Touches 0x80700000000408000000000000000000000000000000000000000000000000005a0000000040000000000000000000000000000000000000000000000000022000231 s x1 := by unfold x1; exact State.wr_touches _ _ _ rfl 240 rfl grp_PTP_EVT_MARK_HI
  clear_value x1
  extract_lets -merge +onlyGivenNames x3
  have h4 : Touches 0x80700000000408000000000000000000000000000000000000000000000000005a0000000040000000000000000000000000000000000000000000000000022000231 s x3 := by unfold x3; exact Touches.trans h2 (State.setB_touches _ _ _ rfl 238 rfl grp_PTP_EVT_CFG)
  clear_value x3
  extract_lets -merge +onlyGivenNames x5
  clear_value x5
  extract_lets -merge +onlyGivenNames x6
  clear_value x6
  refine Touches.ite ?_ ?_
  · refine Touches.step (State.evtPush_touches ..) rfl ?_
    exact Touches.trans h4 (State.setB_touches _ _ _ rfl 238 rfl grp_PTP_EVT_CFG)
  · exact h4

theorem execMarkArm_ends (value : Nat) (s : State) : Ends 0x80700000000408000000000000000000000000000000000000000000000000005a00000000400000000000000000000000000000001020000000000000000220002b5 s (execMarkArm value s) := by
  unfold execMarkArm
  refine Ends.next ?_
  refine Touches.trans ?_ (State.regWrite_touches _ _ _ _ rfl ?_)
  · exact Touches.refl _ _
  · intro y1
    exact Touches.step (State.writeMarkHi_touches ..) rfl (Touches.refl _ _)

theorem State.snapshot_touches (s : State) : Touches 0x1f80000000000000000000000000000000000000000000000000000000005 s (State.snapshot s) := by
  unfold State.snapshot
  extract_lets -merge +onlyGivenNames x1
  clear_value x1
  extract_lets -merge +onlyGivenNames x2
  have h3 : Touches 0x1f80000000000000000000000000000000000000000000000000000000005 s x2 := by unfold x2; exact State.setF_touches _ _ _ rfl 204 rfl grp_PTP_SNAP_FRAC
  clear_value x2
  extract_lets -merge +onlyGivenNames x4
  have h5 : Touches 0x1f80000000000000000000000000000000000000000000000000000000005 s x4 := by unfold x4; exact Touches.trans h3 (State.setF_touches _ _ _ rfl 205 rfl grp_PTP_SNAP_NS)
  clear_value x4
  extract_lets -merge +onlyGivenNames x6
  have h7 : Touches 0x1f80000000000000000000000000000000000000000000000000000000005 s x6 := by unfold x6; exact Touches.trans h5 (State.setPair_touches _ _ _ _ rfl 206 rfl grp_PTP_SNAP_SEC_LO 207 rfl grp_PTP_SNAP_SEC_HI)
  clear_value x6
  extract_lets -merge +onlyGivenNames x8
  have h9 : Touches 0x1f80000000000000000000000000000000000000000000000000000000005 s x8 := by unfold x8; exact Touches.trans h7 (State.setPair_touches _ _ _ _ rfl 208 rfl grp_PTP_SNAP_MONO_LO 209 rfl grp_PTP_SNAP_MONO_HI)
  clear_value x8
  exact Touches.setBus h9 rfl

theorem execPtpSnapshotRead_ends (s : State) : Ends 0x8070000000040800000000000000000000000000000000000000000000000000000000001f80000000000000000000000000000000102000000000000000022000295 s (execPtpSnapshotRead s) := by
  unfold execPtpSnapshotRead
  refine Ends.next ?_
  refine Touches.trans ?_ (State.regRead_touches _ _ _ rfl ?_)
  · exact Touches.refl _ _
  · intro y1
    exact Touches.step (State.snapshot_touches ..) rfl (Touches.refl _ _)

theorem State.ofsRead_touches (s : State) : Touches 0x1c0000000000000000000000000000000000000000000000000000000000005 s (State.ofsRead s) := by
  unfold State.ofsRead
  extract_lets -merge +onlyGivenNames x1
  clear_value x1
  extract_lets -merge +onlyGivenNames x2
  have h3 : Touches 0x1c0000000000000000000000000000000000000000000000000000000000005 s x2 := by unfold x2; exact State.setF_touches _ _ _ rfl 215 rfl grp_PTP_OFS_NS
  clear_value x2
  extract_lets -merge +onlyGivenNames x4
  have h5 : Touches 0x1c0000000000000000000000000000000000000000000000000000000000005 s x4 := by unfold x4; exact Touches.trans h3 (State.setPair_touches _ _ _ _ rfl 216 rfl grp_PTP_OFS_SEC_LO 217 rfl grp_PTP_OFS_SEC_HI)
  clear_value x4
  exact Touches.setBus h5 rfl

theorem execPtpOfsRead_ends (s : State) : Ends 0x80700000000408000000000000000000000000000000000000000000000000000000001c0000000000000000000000000000000000102000000000000000022000295 s (execPtpOfsRead s) := by
  unfold execPtpOfsRead
  refine Ends.next ?_
  refine Touches.trans ?_ (State.regRead_touches _ _ _ rfl ?_)
  · exact Touches.refl _ _
  · intro y1
    exact Touches.step (State.ofsRead_touches ..) rfl (Touches.refl _ _)

theorem execMotionFreerun_ends (s : State) : Ends 0x8070000000040800000000000000000000000000000000000000000000000000000000000040000000000000000000000000000000000000000000000000022000231 s (execMotionFreerun s) := by
  unfold execMotionFreerun
  refine Ends.next ?_
  split
  · exact Touches.refl _ _
  · rename_i x1 e2
    refine Touches.ite ?_ ?_
    · exact Touches.refl _ _
    · extract_lets -merge +onlyGivenNames x3
      clear_value x3
      refine Touches.step (State.timeReport_touches ..) rfl ?_
      exact Touches.trans (Touches.setTime (Touches.refl _ _) rfl) (State.setB_touches _ _ _ rfl 203 rfl grp_PTP_STATUS)

theorem execTimeValuesResume_ends (s : State) : Ends 0x40000000000000000000000000000000000000000000000000000000021 s (execTimeValuesResume s) := by
  unfold execTimeValuesResume
  refine Ends.next ?_
  split
  · refine Touches.ite ?_ ?_
    · exact Touches.step (State.copyCheck_touches ..) rfl (Touches.setTime (Touches.refl _ _) rfl)
    · exact Touches.refl _ _
  · rename_i x1 e2
    exact Touches.refl _ _

theorem State.timeStart_touches (s : State) : Touches 0x1100002022040000000000000000000000000000000000000000000000000000000021 s (State.timeStart s) := by
  unfold State.timeStart
  extract_lets -merge +onlyGivenNames x1
  have h2 : Touches 0x1100002022040000000000000000000000000000000000000000000000000000000021 s x1 := by unfold x1; exact Touches.setTime (Touches.refl _ _) rfl
  clear_value x1
  extract_lets -merge +onlyGivenNames x3
  have h4 : Touches 0x1100002022040000000000000000000000000000000000000000000000000000000021 s x3 := by
    unfold x3
    refine Touches.trans ?_ (State.setF_touches _ _ _ rfl 203 rfl grp_PTP_STATUS)
    exact Touches.trans h2 (State.setF_touches _ _ _ rfl 203 rfl grp_PTP_STATUS)
  clear_value x3
  extract_lets -merge +onlyGivenNames x5
  have h6 : Touches 0x1100002022040000000000000000000000000000000000000000000000000000000021 s x5 := by
    unfold x5
    refine Touches.trans ?_ (State.setB_touches _ _ _ rfl 203 rfl grp_PTP_STATUS)
    exact Touches.trans h4 (State.setF_touches _ _ _ rfl 210 rfl grp_PTP_RATE)
  clear_value x5
  extract_lets -merge +onlyGivenNames x7
  have h8 : Touches 0x1100002022040000000000000000000000000000000000000000000000000000000021 s x7 := by
    unfold x7
    refine Touches.trans ?_ (State.setF_touches _ _ _ rfl 222 rfl grp_PTP_SMP_STATUS)
    exact Touches.trans h6 (State.setB_touches _ _ _ rfl 214 rfl grp_PTP_STEP_CTRL)
  clear_value x7
  refine Touches.step (State.stepLogRegs_touches ..) rfl ?_
  exact Touches.trans h8 (State.setF_touches _ _ _ rfl 241 rfl grp_PTP_EVT_STATUS)

end Sys2Proof.Machine
end

