-- ==== Sys2Proof/Laws/FrameIdle.lean ====
section
/-! SUPPORT. What each operation of Machine/Idle.lean can do: the parts of the state it touches (Touches). -/

-- One declaration at a time: many proofs at once would each hold a thread with a large stack.
set_option Elab.async false

namespace Sys2Proof.Machine

theorem State.idle_touches (s : State) : Touches 0x8070000000040800000000000000000000000000000000000000000000000001000000020040000000000000000000000000000000000000000000000000022000239 s s.idle := by
  have h : Touches 0x8070000000040800000000000000000000000000000000000000000000000001000000020040000000000000000000000000000000000000000000000000022000239 s { s with now := s.now + 8 } :=
    ⟨id, id, id, id, ⟨List.suffix_refl _, Nat.le_add_right _ _, Nat.le_refl _, rfl⟩,
      fun p hp => (by cases p <;> first | rfl | exact absurd hp (by decide)), fun _ _ _ => rfl⟩
  exact Touches.ite (Touches.step (State.copyCheck_touches _) rfl (Touches.step (State.tick_touches _) rfl
    (Touches.step (State.stepApply_touches _) rfl h))) h

end Sys2Proof.Machine
end

