-- ==== Sys2Proof/Laws/FrameMemory.lean ====
section
/-! SUPPORT. What each operation of Machine/Memory.lean can do: the parts of the state it touches (Touches). -/

-- One declaration at a time: many proofs at once would each hold a thread with a large stack.
set_option Elab.async false

namespace Sys2Proof.Machine

theorem State.faultRecord_touches (s : State) (va : Nat) (src : Nat) (reason : Nat) (acc : Nat) (tag : Nat) (ctx : Nat) : Touches 0x8070000000040800000000000000000000000000000000004080000000000000000000000000000000000000000000000000000000000000000000000000022000611 s (State.faultRecord s va src reason acc tag ctx) := by
  unfold State.faultRecord
  extract_lets -merge +onlyGivenNames x1
  extract_lets -merge +onlyGivenNames x2
  extract_lets -merge +onlyGivenNames x3
  have h4 : Touches 0x8070000000040800000000000000000000000000000000004080000000000000000000000000000000000000000000000000000000000000000000000000022000611 s x3 := by unfold x3; exact Touches.setMmu (Touches.refl _ _) rfl
  refine Touches.ite ?_ ?_
  · extract_lets -merge +onlyGivenNames x5
    have h6 : Touches 0x8070000000040800000000000000000000000000000000004080000000000000000000000000000000000000000000000000000000000000000000000000022000611 s x5 := by unfold x5; exact Touches.trans h4 (State.inc_touches _ _ _ rfl 307 rfl grp_MMU_FQ_LOST)
    clear_value x5
    clear_value x1
    clear_value x2
    refine Touches.ite ?_ ?_
    · exact h6
    · exact Touches.trans (Touches.setMmu h6 rfl) (State.report_touches _ _ _ _ _ rfl 300 rfl grp_MMU_STATUS)
  · extract_lets -merge +onlyGivenNames x7
    extract_lets -merge +onlyGivenNames x8
    have h9 : Touches 0x8070000000040800000000000000000000000000000000004080000000000000000000000000000000000000000000000000000000000000000000000000022000611 s x8 := by unfold x8; exact Touches.setMmu h4 rfl
    clear_value x8
    clear_value x7
    exact Touches.trans h9 (State.setF_touches _ _ _ rfl 300 rfl grp_MMU_STATUS)

theorem State.txFail_touches (s : State) (reason : Nat) (src : Nat) (ctx : Nat) (va : Nat) (pa : Nat) (acc : Nat) (tag : Nat) : Touches 0x807000000004080000000000000000000000000000000000c080000000000000000000000000000000000000000000000000000000000000000000000000022000615 s (State.txFail s reason src ctx va pa acc tag) := by
  unfold State.txFail
  extract_lets -merge +onlyGivenNames x1
  have h2 : Touches 0x807000000004080000000000000000000000000000000000c080000000000000000000000000000000000000000000000000000000000000000000000000022000615 s x1 := by unfold x1; exact State.inc_touches _ _ _ rfl 308 rfl grp_MMU_CNT_FAULTS
  clear_value x1
  extract_lets -merge +onlyGivenNames x3
  have h10 : Touches 0x807000000004080000000000000000000000000000000000c080000000000000000000000000000000000000000000000000000000000000000000000000022000615 s x3 := by
    unfold x3
    split
    · exact Touches.trans h2 (State.reportLimited_touches _ _ _ _ _ _ _ rfl 300 rfl grp_MMU_STATUS)
    · exact Touches.trans h2 (State.reportLimited_touches _ _ _ _ _ _ _ rfl 300 rfl grp_MMU_STATUS)
    · exact Touches.trans h2 (State.reportLimited_touches _ _ _ _ _ _ _ rfl 300 rfl grp_MMU_STATUS)
    · exact Touches.trans h2 (State.report_touches _ _ _ _ _ rfl 300 rfl grp_MMU_STATUS)
    · exact Touches.trans h2 (State.report_touches _ _ _ _ _ rfl 300 rfl grp_MMU_STATUS)
    · rename_i x4 e5 e6 e7 e8 e9
      exact h2
  clear_value x3
  refine Touches.ite ?_ ?_
  · exact Touches.step (State.faultRecord_touches ..) rfl h10
  · exact h10

theorem State.xlate_touches (s : State) (ctx : Nat) (va : Nat) (write : Bool) : Touches 0x10 s (State.xlate s ctx va write).2 := by
  unfold State.xlate
  extract_lets -merge +onlyGivenNames x1
  clear_value x1
  split
  rename_i x2 x3 x4 e5
  have h6 : Touches 0x10 s x4 := by
    refine Touches.of_eq (fun d => d.2) e5 ?_
    refine Touches.ite2 ?_ ?_
    · exact Touches.step (State.fresh_touches ..) rfl (Touches.refl _ _)
    · exact Touches.pair2 (Touches.refl _ _)
  extract_lets -merge +onlyGivenNames x7
  extract_lets -merge +onlyGivenNames x8
  clear_value x8
  exact h6

theorem State.walks_touches (s : State) (n : Nat) : Touches 0x10000000000000000000000000000000000000000000000000000000000000000000000000000000000011 s (State.walks s n) := by
  unfold State.walks
  split
  rename_i x1 x2 x3 e4
  have h5 : Touches 0x10000000000000000000000000000000000000000000000000000000000000000000000000000000000011 s x3 := Touches.of_eq (fun d => d.2) e4 (Touches.step (State.fresh_touches ..) rfl (Touches.refl _ _))
  exact Touches.trans h5 (State.inc_touches _ _ _ rfl 309 rfl grp_MMU_CNT_WALKS)

theorem State.hwinFault_touches (s : State) (cause : Nat) : Touches 0x8070000000040801010000000000000000000000000000000000000000000000000000000000000000000000000000000000000000000000000000000000022000215 s (State.hwinFault s cause) := by
  unfold State.hwinFault
  refine Touches.trans ?_ (State.reportLimited_touches _ _ _ _ _ _ _ rfl 429 rfl grp_MBX_HSTATUS)
  exact State.inc_touches _ _ _ rfl 437 rfl grp_MBX_CNT_HWIN_FAULT

theorem State.physWrite_touches (s : State) (pa : Nat) (b : List Byte) : Touches 0x402 s (State.physWrite s pa b) := by
  unfold State.physWrite
  extract_lets -merge +onlyGivenNames x1
  have h2 : Touches 0x402 s x1 := by unfold x1; exact Touches.step (State.setBytes_touches ..) rfl (Touches.refl _ _)
  clear_value x1
  refine Touches.ite ?_ ?_
  · exact Touches.setMmu h2 rfl
  · exact h2

theorem State.eccRead_touches (s : State) (pa : Nat) (n : Nat) : Touches 0x208070000000040800000000002000000000000000000001e80080000000000000000000000000000000000000000000000000000000000000000000000000022000215 s (State.eccRead s pa n).2 := by
  unfold State.eccRead
  refine Touches.ite2 ?_ ?_
  · exact Touches.pair2 (Touches.refl _ _)
  · extract_lets -merge +onlyGivenNames x1
    clear_value x1
    extract_lets -merge +onlyGivenNames x2
    clear_value x2
    extract_lets -merge +onlyGivenNames x3
    have h4 : Touches 0x208070000000040800000000002000000000000000000001e80080000000000000000000000000000000000000000000000000000000000000000000000000022000215 s x3 := by
      unfold x3
      refine Touches.ite ?_ ?_
      · refine Touches.trans ?_ (State.reportLimited_touches _ _ _ _ _ _ _ rfl 300 rfl grp_MMU_STATUS)
        exact Touches.step (State.total_touches ..) rfl (State.inc_touches _ _ _ rfl 314 rfl (grp_MEM_CH_CNT_CORR _))
      · exact Touches.refl _ _
    clear_value x3
    refine Touches.ite2 ?_ ?_
    · extract_lets -merge +onlyGivenNames x5
      have h6 : Touches 0x208070000000040800000000002000000000000000000001e80080000000000000000000000000000000000000000000000000000000000000000000000000022000215 s x5 := by
        unfold x5
        refine Touches.step (State.total_touches ..) rfl ?_
        exact Touches.trans h4 (State.inc_touches _ _ _ rfl 315 rfl (grp_MEM_CH_CNT_UNCORR _))
      clear_value x5
      extract_lets -merge +onlyGivenNames x7
      clear_value x7
      extract_lets -merge +onlyGivenNames x8
      have h9 : Touches 0x208070000000040800000000002000000000000000000001e80080000000000000000000000000000000000000000000000000000000000000000000000000022000215 s x8 := by unfold x8; exact Touches.trans h6 (State.setF_touches _ _ _ rfl 312 rfl grp_MEM_ECC_STATUS)
      clear_value x8
      extract_lets -merge +onlyGivenNames x10
      have h11 : Touches 0x208070000000040800000000002000000000000000000001e80080000000000000000000000000000000000000000000000000000000000000000000000000022000215 s x10 := by
        unfold x10
        refine Touches.trans ?_ (State.setPair_touches _ _ _ _ rfl 316 rfl (grp_MEM_CH_UNCORR_LO _) 317 rfl (grp_MEM_CH_UNCORR_HI _))
        exact h9
      clear_value x10
      extract_lets -merge +onlyGivenNames x12
      have h13 : Touches 0x208070000000040800000000002000000000000000000001e80080000000000000000000000000000000000000000000000000000000000000000000000000022000215 s x12 := by
        unfold x12
        refine Touches.ite ?_ ?_
        · exact h6
        · refine Touches.ite ?_ ?_
          · exact Touches.trans h11 (State.report_touches _ _ _ _ _ rfl 402 rfl grp_MESH_PROG_STATUS)
          · exact h11
      clear_value x12
      exact h13
    · exact h4

theorem State.readPiece_touches (s : State) (src : Nat) (ctx : Nat) (va : Nat) (n : Nat) (tag : Nat) : Touches 0x208070000000040801010000002000000000000000000001e8c080000000000000000000000000000000000000000000000000000000000000000000000000026000615 s (State.readPiece s src ctx va n tag).2 := by
  unfold State.readPiece
  split
  · rename_i x1 x2 x3 e4
    have h5 : Touches 0x208070000000040801010000002000000000000000000001e8c080000000000000000000000000000000000000000000000000000000000000000000000000026000615 s x3 := Touches.of_eq (fun d => d.2) e4 (Touches.step (State.xlate_touches ..) rfl (Touches.refl _ _))
    extract_lets -merge +onlyGivenNames x6
    have h7 : Touches 0x208070000000040801010000002000000000000000000001e8c080000000000000000000000000000000000000000000000000000000000000000000000000026000615 s x6 := by
      unfold x6
      refine Touches.ite ?_ ?_
      · exact Touches.step (State.hwinFault_touches ..) rfl h5
      · exact h5
    clear_value x6
    exact Touches.pair2 (Touches.step (State.txFail_touches ..) rfl h7)
  · rename_i x8 x9 x10 e11
    have h12 : Touches 0x208070000000040801010000002000000000000000000001e8c080000000000000000000000000000000000000000000000000000000000000000000000000026000615 s x10 := Touches.of_eq (fun d => d.2) e11 (Touches.step (State.xlate_touches ..) rfl (Touches.refl _ _))
    refine Touches.ite2 ?_ ?_
    · extract_lets -merge +onlyGivenNames x13
      clear_value x13
      extract_lets -merge +onlyGivenNames x14
      have h15 : Touches 0x208070000000040801010000002000000000000000000001e8c080000000000000000000000000000000000000000000000000000000000000000000000000026000615 s x14 := by unfold x14; exact Touches.step (State.hwinFault_touches ..) rfl (Touches.setMbx h12 rfl)
      clear_value x14
      exact Touches.pair2 (Touches.step (State.txFail_touches ..) rfl h15)
    · split
      · rename_i x16 x17 e18
        have h19 : Touches 0x208070000000040801010000002000000000000000000001e8c080000000000000000000000000000000000000000000000000000000000000000000000000026000615 s x17 := Touches.of_eq (fun d => d.2) e18 (Touches.step (State.eccRead_touches ..) rfl h12)
        exact h19
      · rename_i x20 x21 e22
        have h23 : Touches 0x208070000000040801010000002000000000000000000001e8c080000000000000000000000000000000000000000000000000000000000000000000000000026000615 s x21 := Touches.of_eq (fun d => d.2) e22 (Touches.step (State.eccRead_touches ..) rfl h12)
        exact Touches.pair2 (Touches.step (State.txFail_touches ..) rfl h23)

theorem State.writePiece_touches (s : State) (src : Nat) (ctx : Nat) (va : Nat) (tag : Nat) (b : List Byte) : Touches 0x807000000004080101000000000000000000000000000000c080000000000000000000000000000000000000000000000000000000000000000000000000026000617 s (State.writePiece s src ctx va tag b).2 := by
  unfold State.writePiece
  split
  · rename_i x1 x2 x3 e4
    have h5 : Touches 0x807000000004080101000000000000000000000000000000c080000000000000000000000000000000000000000000000000000000000000000000000000026000617 s x3 := Touches.of_eq (fun d => d.2) e4 (Touches.step (State.xlate_touches ..) rfl (Touches.refl _ _))
    extract_lets -merge +onlyGivenNames x6
    have h7 : Touches 0x807000000004080101000000000000000000000000000000c080000000000000000000000000000000000000000000000000000000000000000000000000026000617 s x6 := by
      unfold x6
      refine Touches.ite ?_ ?_
      · exact Touches.step (State.hwinFault_touches ..) rfl h5
      · exact h5
    clear_value x6
    exact Touches.pair2 (Touches.step (State.txFail_touches ..) rfl h7)
  · rename_i x8 x9 x10 e11
    have h12 : Touches 0x807000000004080101000000000000000000000000000000c080000000000000000000000000000000000000000000000000000000000000000000000000026000617 s x10 := Touches.of_eq (fun d => d.2) e11 (Touches.step (State.xlate_touches ..) rfl (Touches.refl _ _))
    refine Touches.pair2 ?_
    refine Touches.ite ?_ ?_
    · exact Touches.setMbx h12 rfl
    · exact Touches.step (State.physWrite_touches ..) rfl h12

theorem State.readLoop_touches (src : Nat) (ctx : Nat) (tag : Nat) (a3 : Nat) (a4 : State) (a5 : Nat) (a6 : Nat) (a7 : List Byte) : Touches 0x208070000000040801010000002000000000000000000001e8c080000000000000000000000000000000000000000000000000000000000000000000000000026000615 a4 (State.readLoop src ctx tag a3 a4 a5 a6 a7).2 := by
  fun_induction State.readLoop src ctx tag a3 a4 a5 a6 a7
  · rename_i x1 x2 x3 x4
    exact Touches.pair2 (Touches.refl _ _)
  · rename_i x5 x6 x7 x8
    exact Touches.pair2 (Touches.refl _ _)
  · rename_i x9 x10 x11 x12 x13 e14 x15 x16 x17 e18
    have h19 : Touches 0x208070000000040801010000002000000000000000000001e8c080000000000000000000000000000000000000000000000000000000000000000000000000026000615 x10 x17 := Touches.of_eq (fun d => d.2) e18 (Touches.step (State.readPiece_touches ..) rfl (Touches.refl _ _))
    exact h19
  · rename_i x20 x21 x22 x23 x24 e25 x26 x27 x28 e29 e30
    have h31 : Touches 0x208070000000040801010000002000000000000000000001e8c080000000000000000000000000000000000000000000000000000000000000000000000000026000615 x21 x28 := Touches.of_eq (fun d => d.2) e29 (Touches.step (State.readPiece_touches ..) rfl (Touches.refl _ _))
    exact Touches.trans h31 e30

theorem State.vread_touches (s : State) (src : Nat) (ctx : Nat) (va : Nat) (n : Nat) (tag : Nat) : Touches 0x208070000000040801010000002000000000000000000001e9c080000000000000000000000000000000000000000000000000000000000000000000000000026000615 s (State.vread s src ctx va n tag).2 := by
  unfold State.vread
  extract_lets -merge +onlyGivenNames x1
  clear_value x1
  exact Touches.step (State.readLoop_touches ..) rfl (Touches.step (State.walks_touches ..) rfl (Touches.refl _ _))

theorem State.writeLoop_touches (src : Nat) (ctx : Nat) (tag : Nat) (a3 : Nat) (a4 : State) (a5 : Nat) (a6 : List Byte) : Touches 0x807000000004080101000000000000000000000000000000c080000000000000000000000000000000000000000000000000000000000000000000000000026000617 a4 (State.writeLoop src ctx tag a3 a4 a5 a6).2 := by
  fun_induction State.writeLoop src ctx tag a3 a4 a5 a6
  · rename_i x1 x2 x3
    exact Touches.pair2 (Touches.refl _ _)
  · rename_i x4 x5 x6
    exact Touches.pair2 (Touches.refl _ _)
  · rename_i x7 x8 x9 x10 e11 x12 x13 x14 e15
    have h16 : Touches 0x807000000004080101000000000000000000000000000000c080000000000000000000000000000000000000000000000000000000000000000000000000026000617 x8 x14 := Touches.of_eq (fun d => d.2) e15 (Touches.step (State.writePiece_touches ..) rfl (Touches.refl _ _))
    exact h16
  · rename_i x17 x18 x19 x20 e21 x22 x23 e24 e25
    have h26 : Touches 0x807000000004080101000000000000000000000000000000c080000000000000000000000000000000000000000000000000000000000000000000000000026000617 x18 x23 := Touches.of_eq (fun d => d.2) e24 (Touches.step (State.writePiece_touches ..) rfl (Touches.refl _ _))
    exact Touches.trans h26 e25

theorem State.vwrite_touches (s : State) (src : Nat) (ctx : Nat) (va : Nat) (b : List Byte) (tag : Nat) : Touches 0x807000000004080101000000000000000000000000000001c080000000000000000000000000000000000000000000000000000000000000000000000000026000617 s (State.vwrite s src ctx va b tag).2 := by
  unfold State.vwrite
  extract_lets -merge +onlyGivenNames x1
  clear_value x1
  exact Touches.step (State.writeLoop_touches ..) rfl (Touches.step (State.walks_touches ..) rfl (Touches.refl _ _))

theorem State.refresh_touches (s : State) (chan : Nat) (ns : Nat) : Touches 0x2000000000000000000000000000000000000000000000000000000000000000000000000000000000000401 s (State.refresh s chan ns) := by
  unfold State.refresh
  refine Touches.ite ?_ ?_
  · exact Touches.refl _ _
  · extract_lets -merge +onlyGivenNames x1
    have h2 : Touches 0x2000000000000000000000000000000000000000000000000000000000000000000000000000000000000401 s x1 := by unfold x1; exact State.raise_touches _ _ _ rfl 318 rfl (grp_MEM_CH_REF_MAX _)
    clear_value x1
    exact Touches.setMmu h2 rfl

theorem State.zqCal_touches (s : State) (chan : Nat) : Touches 0x400 s (State.zqCal s chan) := by
  unfold State.zqCal
  refine Touches.ite ?_ ?_
  · exact Touches.refl _ _
  · exact Touches.setMmu (Touches.refl _ _) rfl

theorem State.mr4_touches (s : State) (chan : Nat) (range : Nat) : Touches 0x8070000000040800000000000000000000000000000000100080000000000000000000000000000000000000000000000000000000000000000000000000022000611 s (State.mr4 s chan range) := by
  unfold State.mr4
  refine Touches.ite ?_ ?_
  · exact Touches.refl _ _
  · extract_lets -merge +onlyGivenNames x1
    extract_lets -merge +onlyGivenNames x2
    have h3 : Touches 0x8070000000040800000000000000000000000000000000100080000000000000000000000000000000000000000000000000000000000000000000000000022000611 s x2 := by unfold x2; exact Touches.setMmu (Touches.refl _ _) rfl
    clear_value x2
    clear_value x1
    refine Touches.ite ?_ ?_
    · exact h3
    · refine Touches.trans ?_ (State.report_touches _ _ _ _ _ rfl 300 rfl grp_MMU_STATUS)
      exact Touches.trans h3 (State.setF_touches _ _ _ rfl 313 rfl (grp_MEM_CH_STATUS _))

theorem State.mmuGo_touches (s : State) (op : Nat) : Touches 0x8070000000040800000000000000000000000000000000000080000000000000000000000000000000000000000000000000000000000000000000000000022000611 s (State.mmuGo s op) := by
  unfold State.mmuGo
  extract_lets -merge +onlyGivenNames x1
  clear_value x1
  extract_lets -merge +onlyGivenNames x2
  clear_value x2
  extract_lets -merge +onlyGivenNames x3
  clear_value x3
  extract_lets -merge +onlyGivenNames x4
  clear_value x4
  refine Touches.ite ?_ ?_
  · exact State.report_touches _ _ _ _ _ rfl 300 rfl grp_MMU_STATUS
  · split
    · exact Touches.refl _ _
    · extract_lets -merge +onlyGivenNames x5
      clear_value x5
      extract_lets -merge +onlyGivenNames x6
      have h7 : Touches 0x8070000000040800000000000000000000000000000000000080000000000000000000000000000000000000000000000000000000000000000000000000022000611 s x6 := by unfold x6; exact State.setB_touches _ _ _ rfl 300 rfl grp_MMU_STATUS
      clear_value x6
      exact Touches.setMmu h7 rfl

theorem State.writeMmuOp_touches (s : State) (v : Nat) : Touches 0x8070000000040800000000000000000000000000000000000180000000000000000000000000000000000000000000000000000000000000000000000000022000611 s (State.writeMmuOp s v) := by
  unfold State.writeMmuOp
  extract_lets -merge +onlyGivenNames x1
  clear_value x1
  extract_lets -merge +onlyGivenNames x2
  have h3 : Touches 0x8070000000040800000000000000000000000000000000000180000000000000000000000000000000000000000000000000000000000000000000000000022000611 s x2 := by unfold x2; exact State.setF_touches _ _ _ rfl 301 rfl grp_MMU_OP
  clear_value x2
  refine Touches.ite ?_ ?_
  · exact Touches.step (State.mmuGo_touches ..) rfl h3
  · exact h3

theorem State.mmuOpDone_touches (s : State) : Touches 0x80000000000000000000000000000000000000000000000000000000000000000000000000000000401 s (State.mmuOpDone s) := by
  unfold State.mmuOpDone
  refine Touches.ite ?_ ?_
  · exact Touches.refl _ _
  · extract_lets -merge +onlyGivenNames x1
    have h2 : Touches 0x80000000000000000000000000000000000000000000000000000000000000000000000000000000401 s x1 := by unfold x1; exact State.setB_touches _ _ _ rfl 300 rfl grp_MMU_STATUS
    clear_value x1
    exact Touches.setMmu h2 rfl

theorem State.fqPop_touches (s : State) : Touches 0x20080000000000000000000000000000000000000000000000000000000000000000000000000000000405 s (State.fqPop s) := by
  unfold State.fqPop
  extract_lets -merge +onlyGivenNames x1
  extract_lets -merge +onlyGivenNames x2
  clear_value x2
  extract_lets -merge +onlyGivenNames x3
  extract_lets -merge +onlyGivenNames x4
  have h5 : Touches 0x20080000000000000000000000000000000000000000000000000000000000000000000000000000000405 s x4 := by
    unfold x4
    exact Touches.upd (Touches.refl _ _) rfl rfl rfl rfl rfl rfl rfl
      (by intro p hp; cases p <;> first | rfl | exact absurd hp (by decide))
  clear_value x4
  clear_value x1
  clear_value x3
  extract_lets -merge +onlyGivenNames x6
  have h10 : Touches 0x20080000000000000000000000000000000000000000000000000000000000000000000000000000000405 s x6 := by
    unfold x6
    refine Touches.foldl (fun t7 y8 h9 => ?_) ?_
    · exact Touches.trans h9 (State.setF_touches _ _ _ rfl 310 rfl (grp_MMU_FQ_DATA _))
    · exact h5
  clear_value x6
  exact Touches.trans h10 (State.setF_touches _ _ _ rfl 300 rfl grp_MMU_STATUS)

theorem State.cellWatch_touches (s : State) (cell : Nat) : Touches 0x40800000000000000000000000000000000000000000000000000000000000000000000000000000000000000000000000000000000000000020000001 s (State.cellWatch s cell) := by
  unfold State.cellWatch
  refine Touches.foldl (fun t1 y2 h3 => ?_) ?_
  · refine Touches.ite ?_ ?_
    · exact Touches.step (State.pend_touches ..) rfl h3
    · exact h3
  · exact Touches.refl _ _

theorem State.cellAdd_touches (s : State) (cell : Nat) (n : Nat) (src : Nat) (part : Option Nat) : Touches 0x8070000000040800000000000000000000000000005000000000000000000000000000000000000000000000000000000000000000000000000000000000022000215 s (State.cellAdd s cell n src part).2 := by
  unfold State.cellAdd
  refine Touches.ite2 ?_ ?_
  · extract_lets -merge +onlyGivenNames x1
    clear_value x1
    extract_lets -merge +onlyGivenNames x2
    have h3 : Touches 0x8070000000040800000000000000000000000000005000000000000000000000000000000000000000000000000000000000000000000000000000000000022000215 s x2 := by
      unfold x2
      refine Touches.ite ?_ ?_
      · exact State.setF_touches _ _ _ rfl 329 rfl (grp_SYNC_COUNT _)
      · refine Touches.trans ?_ (State.report_touches _ _ _ _ _ rfl 331 rfl (grp_SYNC_STATE _))
        refine Touches.trans ?_ (State.setB_touches _ _ _ rfl 331 rfl (grp_SYNC_STATE _))
        exact State.setF_touches _ _ _ rfl 329 rfl (grp_SYNC_COUNT _)
    clear_value x2
    exact Touches.pair2 (Touches.step (State.cellWatch_touches ..) rfl h3)
  · refine Touches.pair2 ?_
    refine Touches.trans ?_ (State.reportLimited_touches _ _ _ _ _ _ _ rfl 331 rfl (grp_SYNC_STATE _))
    exact State.setB_touches _ _ _ rfl 331 rfl (grp_SYNC_STATE _)

theorem State.cellRegs_touches (s : State) (cell : Nat) : Touches 0x4000000000000000000000000000000000000000000000000000000000000000000000000000000000000000001 s (State.cellRegs s cell) := by
  unfold State.cellRegs
  exact State.setF_touches _ _ _ rfl 331 rfl (grp_SYNC_STATE _)

theorem State.cellWait_touches (s : State) (cell : Nat) (gill : Nat) (n : Nat) : Touches 0x4000000000000000000000000000000000000000000000000000000000000000000000000000000000000004001 s (State.cellWait s cell gill n) := by
  unfold State.cellWait
  exact Touches.step (State.cellRegs_touches ..) rfl (Touches.setWaits (Touches.refl _ _) rfl)

theorem State.cellCancel_touches (s : State) (gill : Nat) : Touches 0x4000000000000000000000000000000000000000000000000000000000000000000000000000000000000004001 s (State.cellCancel s gill) := by
  unfold State.cellCancel
  split
  · exact Touches.refl _ _
  · exact Touches.step (State.cellRegs_touches ..) rfl (Touches.setWaits (Touches.refl _ _) rfl)

theorem State.cellReset_touches (s : State) (cell : Nat) : Touches 0x8070000000040800000000000000000000000000005000000000000000000000000000000000000000000000000000000000000000000000000000000000022000211 s (State.cellReset s cell) := by
  unfold State.cellReset
  split
  · exact Touches.refl _ _
  · refine Touches.ite ?_ ?_
    · refine Touches.trans ?_ (State.setB_touches _ _ _ rfl 331 rfl (grp_SYNC_STATE _))
      refine Touches.trans ?_ (State.setB_touches _ _ _ rfl 331 rfl (grp_SYNC_STATE _))
      exact State.setF_touches _ _ _ rfl 329 rfl (grp_SYNC_COUNT _)
    · exact State.report_touches _ _ _ _ _ rfl 331 rfl (grp_SYNC_STATE _)

theorem State.hostCellAdd_touches (s : State) (cell : Nat) (n : Nat) : Touches 0x8070000000040800000000000000000000000000005000000000000000000000000000000000000000000000000000000000000000000000000000000000022000215 s (State.hostCellAdd s cell n) := by
  unfold State.hostCellAdd
  exact Touches.step (State.cellAdd_touches ..) rfl (Touches.refl _ _)

end Sys2Proof.Machine
end

