-- ==== Sys2Proof/Laws/FrameDma.lean ====
section
/-! SUPPORT. What each operation of Machine/Dma.lean can do: the parts of the state it touches (Touches). -/

-- One declaration at a time: many proofs at once would each hold a thread with a large stack.
set_option Elab.async false

namespace Sys2Proof.Machine

theorem State.setEng_touches (s : State) (e : Nat) (d : DmaEng) : Touches 0x8000000000000000000000000000000000000000000000000000000000000000000000000000000000001001 s (State.setEng s e d) := by
  unfold State.setEng
  refine Touches.trans ?_ (State.setF_touches _ _ _ rfl 320 rfl (grp_DMA_ENG_STATUS _))
  exact Touches.setDma (Touches.refl _ _) rfl

theorem State.dmaReport_touches (s : State) (e : Nat) (sts : Nat) (detail : Nat) : Touches 0x8070000000040800000000000000000000000000000100000000000000000000000000000000000000000000000000000000000000000000000000000000022000211 s (State.dmaReport s e sts detail) := by
  unfold State.dmaReport
  exact State.report_touches _ _ _ _ _ rfl 325 rfl (grp_DMA_SUB_STATUS _)

theorem State.chainPush_touches (s : State) (e : Nat) (c : Chain) : Touches 0x8000000000000000000000000000000000000000000000000000000000000000000000000000000000001001 s (State.chainPush s e c) := by
  unfold State.chainPush
  extract_lets -merge +onlyGivenNames x1
  exact Touches.step (State.setEng_touches ..) rfl (Touches.refl _ _)

theorem State.driverSubmit_touches (s : State) (e : Nat) : Touches 0x8070000000040800000000000000000000000000000108000000000000000000000000000000000000000000000000000000000000000000000000000000022001211 s (State.driverSubmit s e) := by
  unfold State.driverSubmit
  refine Touches.ite ?_ ?_
  · refine Touches.trans ?_ (State.setB_touches _ _ _ rfl 325 rfl (grp_DMA_SUB_STATUS _))
    exact Touches.step (State.dmaReport_touches ..) rfl (Touches.refl _ _)
  · extract_lets -merge +onlyGivenNames x1
    clear_value x1
    extract_lets -merge +onlyGivenNames x2
    clear_value x2
    refine Touches.trans ?_ (State.setB_touches _ _ _ rfl 325 rfl (grp_DMA_SUB_STATUS _))
    exact Touches.step (State.chainPush_touches ..) rfl (Touches.refl _ _)

theorem State.writeDmaHi_touches (s : State) (e : Nat) (v : Nat) : Touches 0x8070000000040800000000000000000000000000000148000000000000000000000000000000000000000000000000000000000000000000000000000000022001211 s (State.writeDmaHi s e v) := by
  unfold State.writeDmaHi
  extract_lets -merge +onlyGivenNames x1
  have h2 : Touches 0x8070000000040800000000000000000000000000000148000000000000000000000000000000000000000000000000000000000000000000000000000000022001211 s x1 := by unfold x1; exact State.setF_touches _ _ _ rfl 323 rfl (grp_DMA_SUB_HI _)
  clear_value x1
  refine Touches.ite ?_ ?_
  · exact Touches.step (State.driverSubmit_touches ..) rfl h2
  · exact h2

theorem State.setSram_touches (s : State) (a : Nat) (l : List Byte) : Touches 0x800 s (s.setSram a l) := by
  induction l generalizing s a with
  | nil => exact Touches.refl _ _
  | cons b l ih => exact (Touches.updSram (Touches.refl _ s) (by decide) _ (Sparse.wf_put _ _ _ _)).trans (ih _ _)

theorem State.localFail_touches (s : State) (e : Nat) (va : Nat) : Touches 0x8070000000040800000000000000000000000000000100000000000000000000000000000000000000000000000000000000000000000000000000000000022000211 s (State.localFail s e va).2 := by
  unfold State.localFail
  exact Touches.pair2 (Touches.step (State.dmaReport_touches ..) rfl (Touches.refl _ _))

theorem State.dmaReadPiece_touches (s : State) (e : Nat) (item : Nat) (reach : Option Nat) (va : Nat) (n : Nat) : Touches 0x208070000000040801010000002000000000000000000101e8c080000000000000000000000000000000000000000000000000000000000000000000000000026000615 s (State.dmaReadPiece s e item reach va n).2 := by
  unfold State.dmaReadPiece
  refine Touches.ite2 ?_ ?_
  · refine Touches.ite2 ?_ ?_
    · exact Touches.pair2 (Touches.refl _ _)
    · split
      rename_i x1 x2 x3 e4
      have h5 : Touches 0x208070000000040801010000002000000000000000000101e8c080000000000000000000000000000000000000000000000000000000000000000000000000026000615 s x3 := Touches.of_eq (fun d => d.2) e4 (Touches.step (State.localFail_touches ..) rfl (Touches.refl _ _))
      exact h5
  · exact Touches.step (State.readPiece_touches ..) rfl (Touches.refl _ _)

theorem State.dmaWritePiece_touches (s : State) (e : Nat) (item : Nat) (reach : Option Nat) (va : Nat) (b : List Byte) : Touches 0x807000000004080101000000000000000000000000010000c080000000000000000000000000000000000000000000000000000000000000000000000000026000e17 s (State.dmaWritePiece s e item reach va b).2 := by
  unfold State.dmaWritePiece
  refine Touches.ite2 ?_ ?_
  · refine Touches.ite2 ?_ ?_
    · exact Touches.pair2 (Touches.step (State.setSram_touches ..) rfl (Touches.refl _ _))
    · split
      rename_i x1 x2 x3 e4
      have h5 : Touches 0x807000000004080101000000000000000000000000010000c080000000000000000000000000000000000000000000000000000000000000000000000000026000e17 s x3 := Touches.of_eq (fun d => d.2) e4 (Touches.step (State.localFail_touches ..) rfl (Touches.refl _ _))
      exact h5
  · exact Touches.step (State.writePiece_touches ..) rfl (Touches.refl _ _)

theorem State.dmaRead_touches (e : Nat) (item : Nat) (reach : Option Nat) (a3 : Nat) (a4 : State) (a5 : Nat) (a6 : Nat) (a7 : List Byte) : Touches 0x208070000000040801010000002000000000000000000101e8c080000000000000000000000000000000000000000000000000000000000000000000000000026000615 a4 (State.dmaRead e item reach a3 a4 a5 a6 a7).2 := by
  fun_induction State.dmaRead e item reach a3 a4 a5 a6 a7
  · rename_i x1 x2 x3 x4
    exact Touches.pair2 (Touches.refl _ _)
  · rename_i x5 x6 x7 x8
    exact Touches.pair2 (Touches.refl _ _)
  · rename_i x9 x10 x11 x12 x13 e14 x15 x16 x17 e18
    have h19 : Touches 0x208070000000040801010000002000000000000000000101e8c080000000000000000000000000000000000000000000000000000000000000000000000000026000615 x10 x17 := Touches.of_eq (fun d => d.2) e18 (Touches.step (State.dmaReadPiece_touches ..) rfl (Touches.refl _ _))
    exact h19
  · rename_i x20 x21 x22 x23 x24 e25 x26 x27 x28 e29 e30
    have h31 : Touches 0x208070000000040801010000002000000000000000000101e8c080000000000000000000000000000000000000000000000000000000000000000000000000026000615 x21 x28 := Touches.of_eq (fun d => d.2) e29 (Touches.step (State.dmaReadPiece_touches ..) rfl (Touches.refl _ _))
    exact Touches.trans h31 e30

theorem State.dmaGet_touches (s : State) (e : Nat) (item : Nat) (reach : Option Nat) (va : Nat) (n : Nat) : Touches 0x208070000000040801010000002000000000000000000101e9c080000000000000000000000000000000000000000000000000000000000000000000000000026000615 s (State.dmaGet s e item reach va n).2 := by
  unfold State.dmaGet
  exact Touches.step (State.dmaRead_touches ..) rfl (Touches.step (State.walks_touches ..) rfl (Touches.refl _ _))

theorem State.dmaWrite_touches (e : Nat) (item : Nat) (reach : Option Nat) (a3 : Nat) (a4 : State) (a5 : Nat) (a6 : List Byte) : Touches 0x807000000004080101000000000000000000000000010000c080000000000000000000000000000000000000000000000000000000000000000000000000026000e17 a4 (State.dmaWrite e item reach a3 a4 a5 a6).2 := by
  fun_induction State.dmaWrite e item reach a3 a4 a5 a6
  · rename_i x1 x2 x3
    exact Touches.pair2 (Touches.refl _ _)
  · rename_i x4 x5 x6
    exact Touches.pair2 (Touches.refl _ _)
  · rename_i x7 x8 x9 x10 e11 x12 x13 x14 e15
    have h16 : Touches 0x807000000004080101000000000000000000000000010000c080000000000000000000000000000000000000000000000000000000000000000000000000026000e17 x8 x14 := Touches.of_eq (fun d => d.2) e15 (Touches.step (State.dmaWritePiece_touches ..) rfl (Touches.refl _ _))
    exact h16
  · rename_i x17 x18 x19 x20 e21 x22 x23 e24 e25
    have h26 : Touches 0x807000000004080101000000000000000000000000010000c080000000000000000000000000000000000000000000000000000000000000000000000000026000e17 x18 x23 := Touches.of_eq (fun d => d.2) e24 (Touches.step (State.dmaWritePiece_touches ..) rfl (Touches.refl _ _))
    exact Touches.trans h26 e25

theorem State.dmaPut_touches (s : State) (e : Nat) (item : Nat) (reach : Option Nat) (va : Nat) (b : List Byte) : Touches 0x807000000004080101000000000000000000000000010001c080000000000000000000000000000000000000000000000000000000000000000000000000026000e17 s (State.dmaPut s e item reach va b).2 := by
  unfold State.dmaPut
  exact Touches.step (State.dmaWrite_touches ..) rfl (Touches.step (State.walks_touches ..) rfl (Touches.refl _ _))

theorem State.writeRecs_touches (e : Nat) (a1 : Nat) (a2 : State) (a3 : RunChain) : Touches 0x8070000000040801010000000000000000000000000d0001c080000000000000000000000000000000000000000000000000000000000000000000000000026000e17 a2 (State.writeRecs e a1 a2 a3).1 := by
  fun_induction State.writeRecs e a1 a2 a3
  · rename_i x1 x2
    exact Touches.pair1 (Touches.refl _ _)
  · rename_i x3 x4 x5 x6 e7 x8 x9 x10 e11 x12 x13 x14 x15 x16 x17 x18 e19
    have h20 : Touches 0x8070000000040801010000000000000000000000000d0001c080000000000000000000000000000000000000000000000000000000000000000000000000026000e17 x4 x10 := by
      refine Touches.of_eq (fun d => d.2) e11 ?_
      refine Touches.ite2 ?_ ?_
      · exact Touches.step (State.fresh_touches ..) rfl (Touches.refl _ _)
      · exact Touches.pair2 (Touches.refl _ _)
    have h21 : Touches 0x8070000000040801010000000000000000000000000d0001c080000000000000000000000000000000000000000000000000000000000000000000000000026000e17 x4 x16 := by unfold x16; exact Touches.trans h20 (State.inc_touches _ _ _ rfl 327 rfl (grp_DMA_CNT_ITEMS _))
    have h22 : Touches 0x8070000000040801010000000000000000000000000d0001c080000000000000000000000000000000000000000000000000000000000000000000000000026000e17 x4 x17 := by
      unfold x17
      refine Touches.ite ?_ ?_
      · exact h21
      · exact Touches.trans h21 (State.inc_touches _ _ _ rfl 328 rfl (grp_DMA_CNT_FAILED _))
    have h32 : Touches 0x8070000000040801010000000000000000000000000d0001c080000000000000000000000000000000000000000000000000000000000000000000000000026000e17 x4 x18 := by
      unfold x18
      refine Touches.ite ?_ ?_
      · exact h22
      · split
        · rename_i x23 x24 x25 e26
          have h27 : Touches 0x8070000000040801010000000000000000000000000d0001c080000000000000000000000000000000000000000000000000000000000000000000000000026000e17 x4 x25 := Touches.of_eq (fun d => d.2) e26 (Touches.step (State.dmaPut_touches ..) rfl h22)
          exact Touches.step (State.dmaReport_touches ..) rfl h27
        · rename_i x28 x29 e30
          have h31 : Touches 0x8070000000040801010000000000000000000000000d0001c080000000000000000000000000000000000000000000000000000000000000000000000000026000e17 x4 x29 := Touches.of_eq (fun d => d.2) e30 (Touches.step (State.dmaPut_touches ..) rfl h22)
          exact h31
    exact Touches.trans h32 e19
  · rename_i x33 x34 x35 e36
    exact Touches.pair1 (Touches.refl _ _)

theorem State.setRun_touches (s : State) (e : Nat) (r : RunChain) : Touches 0x8070000000040801010000000000000000000000000d0801c080000000000000000000000000000000000000000000000000000000000000000000000000026001e17 s (State.setRun s e r) := by
  unfold State.setRun
  split
  rename_i x1 x2 x3 e4
  have h5 : Touches 0x8070000000040801010000000000000000000000000d0801c080000000000000000000000000000000000000000000000000000000000000000000000000026001e17 s x2 := Touches.of_eq (fun d => d.1) e4 (Touches.step (State.writeRecs_touches ..) rfl (Touches.refl _ _))
  exact Touches.step (State.setEng_touches ..) rfl h5

theorem State.runItem_touches (s : State) (e i op : Nat) (ordered : Bool) (k : State → RunChain → List Byte → ItemRes × State)
    {m : Nat} (hm : 0x8070000000040801010000000000000000000000000d0801c080000000000000000000000000000000000000000000000000000000000000000000000000026001e17 ||| m = m) (hk : ∀ t r b, Touches m t (k t r b).2) : Touches m s (s.runItem e i op ordered k) := by
  unfold State.runItem
  split
  · exact Touches.refl _ _
  · rename_i _
    extract_lets b
    refine Touches.ite ?_ (Touches.refl _ _)
    split
    rename_i t ht
    have h : Touches m s t := Touches.of_eq (fun d => d.2) ht (hk _ _ _)
    exact Touches.step (State.setRun_touches ..) (Touches.sub hm rfl)
      (Touches.ite (Touches.step (State.dmaReport_touches ..) (Touches.sub hm rfl) h) h)

theorem State.straggle_touches (e item : Nat) (reach : Option Nat) (get : State → Nat → Nat → Except TxErr (List Byte) × State)
    (fuel : Nat) (s : State) (dst n mask : Nat) {m : Nat} (hm : 0x807000000004080101000000000000000000000000010000c080000000000000000000000000000000000000000000000000000000000000000000000000026000e17 ||| m = m) (hk : ∀ t a n, Touches m t (get t a n).2) :
    Touches m s (State.straggle e item reach get fuel s dst n mask) := by
  induction fuel generalizing s dst n mask with
  | zero => exact Touches.refl _ _
  | succ f ih =>
    unfold State.straggle
    refine Touches.ite (Touches.refl _ _) ?_
    refine Touches.trans ?_ (ih _ _ _ _)
    refine Touches.ite (Touches.refl _ _) ?_
    split
    · rename_i ht
      exact Touches.step (State.dmaWritePiece_touches ..) (Touches.sub hm rfl)
        (Touches.of_eq (fun d => d.2) ht (hk _ _ _))
    · rename_i ht
      exact Touches.of_eq (fun d => d.2) ht (hk _ _ _)

theorem State.moveLoop_touches (e item : Nat) (reach : Option Nat) (get : State → Nat → Nat → Except TxErr (List Byte) × State)
    (fuel : Nat) (s : State) (dst n d : Nat) {m : Nat} (hm : 0x807000000004080101000000000000000000000000010000c080000000000000000000000000000000000000000000000000000000000000000000000000026000e17 ||| m = m) (hk : ∀ t a n, Touches m t (get t a n).2) :
    Touches m s (State.moveLoop e item reach get fuel s dst n d).2.2 := by
  induction fuel generalizing s dst n d with
  | zero => exact Touches.refl _ _
  | succ f ih =>
    unfold State.moveLoop
    split
    · exact Touches.refl _ _
    · have hs : ∀ t : State, Touches m s t → ∀ a b c, Touches m s (State.straggle e item reach get 64 t.fresh.2 a b c) :=
        fun t ht a b c => (Touches.step (State.fresh_touches _) (Touches.sub hm rfl) ht).trans
          (State.straggle_touches _ _ _ _ _ _ _ _ _ (Touches.sub hm rfl) hk)
      extract_lets k fail
      split
      · rename_i x t ht
        exact hs t (Touches.of_eq (fun d => d.2) ht (hk _ _ _)) _ _ _
      · rename_i t ht
        have h : Touches m s t := Touches.of_eq (fun d => d.2) ht (hk _ _ _)
        split
        · rename_i u hu
          exact hs u (Touches.of_eq (fun d => d.2) hu
            (Touches.step (State.dmaWritePiece_touches ..) (Touches.sub hm rfl) h)) _ _ _
        · rename_i hu
          exact (Touches.of_eq (fun d => d.2) hu
            (Touches.step (State.dmaWritePiece_touches ..) (Touches.sub hm rfl) h)).trans (ih _ _ _ _)

theorem State.copyItem_touches (e : Nat) (i : Nat) (limit : Nat) (s : State) (r : RunChain) (b : List Byte) : Touches 0x208070000000040801010000002000000000000000000101e9c080000000000000000000000000000000000000000000000000000000000000000000000000026000e17 s (State.copyItem e i limit s r b).2 := by
  unfold State.copyItem
  extract_lets -merge +onlyGivenNames x1
  clear_value x1
  extract_lets -merge +onlyGivenNames x2
  clear_value x2
  extract_lets -merge +onlyGivenNames x3
  clear_value x3
  refine Touches.ite2 ?_ ?_
  · exact Touches.pair2 (Touches.refl _ _)
  · extract_lets -merge +onlyGivenNames x4
    extract_lets -merge +onlyGivenNames x5
    clear_value x5
    split
    rename_i x6 x7 x8 x9 e10
    have h11 : Touches 0x208070000000040801010000002000000000000000000101e9c080000000000000000000000000000000000000000000000000000000000000000000000000026000e17 s x9 := by
      refine Touches.of_eq (fun d => d.2.2) e10 ?_
      refine Touches.trans ?_ (State.moveLoop_touches _ _ _ _ _ _ _ _ _ rfl ?_)
      · exact Touches.refl _ _
      · intro y12
        intro y13
        intro y14
        unfold x4
        exact Touches.step (State.dmaGet_touches ..) rfl (Touches.refl _ _)
    exact h11

theorem State.fillItem_touches (e : Nat) (i : Nat) (limit : Nat) (s : State) (r : RunChain) (b : List Byte) : Touches 0x807000000004080101000000000000000000000000010001c080000000000000000000000000000000000000000000000000000000000000000000000000026000e17 s (State.fillItem e i limit s r b).2 := by
  unfold State.fillItem
  extract_lets -merge +onlyGivenNames x1
  clear_value x1
  extract_lets -merge +onlyGivenNames x2
  clear_value x2
  extract_lets -merge +onlyGivenNames x3
  refine Touches.ite2 ?_ ?_
  · exact Touches.pair2 (Touches.refl _ _)
  · extract_lets -merge +onlyGivenNames x4
    extract_lets -merge +onlyGivenNames x5
    clear_value x5
    split
    rename_i x6 x7 x8 x9 e10
    have h11 : Touches 0x807000000004080101000000000000000000000000010001c080000000000000000000000000000000000000000000000000000000000000000000000000026000e17 s x9 := by
      refine Touches.of_eq (fun d => d.2.2) e10 ?_
      refine Touches.trans ?_ (State.moveLoop_touches _ _ _ _ _ _ _ _ _ rfl ?_)
      · exact Touches.step (State.walks_touches ..) rfl (Touches.refl _ _)
      · intro y12
        intro y13
        intro y14
        unfold x4
        exact Touches.pair2 (Touches.refl _ _)
    exact h11

theorem State.rowsLoop_touches (e : Nat) (i : Nat) (r : RunChain) (src : Nat) (dst : Nat) (row : Nat) (sp : Nat) (dp : Nat) (a8 : Nat) (a9 : Nat) (a10 : State) (a11 : Nat) : Touches 0x208070000000040801010000002000000000000000000101e9c080000000000000000000000000000000000000000000000000000000000000000000000000026000e17 a10 (State.rowsLoop e i r src dst row sp dp a8 a9 a10 a11).2.2 := by
  fun_induction State.rowsLoop e i r src dst row sp dp a8 a9 a10 a11
  · rename_i x1 x2 x3
    exact Touches.pair2 (Touches.refl _ _)
  · rename_i x4 x5 x6 x7 x8 x9 x10 x11 x12 x13 e14
    have h15 : Touches 0x208070000000040801010000002000000000000000000101e9c080000000000000000000000000000000000000000000000000000000000000000000000000026000e17 x6 x13 := by
      refine Touches.of_eq (fun d => d.2.2) e14 ?_
      refine Touches.trans ?_ (State.moveLoop_touches _ _ _ _ _ _ _ _ _ rfl ?_)
      · exact Touches.refl _ _
      · intro y16
        intro y17
        intro y18
        unfold x10
        exact Touches.step (State.dmaGet_touches ..) rfl (Touches.refl _ _)
    exact h15
  · rename_i x19 x20 x21 x22 x23 x24 x25 x26 x27 e28 e29
    have h30 : Touches 0x208070000000040801010000002000000000000000000101e9c080000000000000000000000000000000000000000000000000000000000000000000000000026000e17 x21 x27 := by
      refine Touches.of_eq (fun d => d.2.2) e28 ?_
      refine Touches.trans ?_ (State.moveLoop_touches _ _ _ _ _ _ _ _ _ rfl ?_)
      · exact Touches.refl _ _
      · intro y31
        intro y32
        intro y33
        unfold x25
        exact Touches.step (State.dmaGet_touches ..) rfl (Touches.refl _ _)
    exact Touches.trans h30 e29

theorem State.copy2dItem_touches (e : Nat) (i : Nat) (s : State) (r : RunChain) (b : List Byte) : Touches 0x208070000000040801010000002000000000000000000101e9c080000000000000000000000000000000000000000000000000000000000000000000000000026000e17 s (State.copy2dItem e i s r b).2 := by
  unfold State.copy2dItem
  extract_lets -merge +onlyGivenNames x1
  clear_value x1
  extract_lets -merge +onlyGivenNames x2
  clear_value x2
  extract_lets -merge +onlyGivenNames x3
  clear_value x3
  extract_lets -merge +onlyGivenNames x4
  clear_value x4
  extract_lets -merge +onlyGivenNames x5
  clear_value x5
  extract_lets -merge +onlyGivenNames x6
  clear_value x6
  extract_lets -merge +onlyGivenNames x7
  clear_value x7
  refine Touches.ite2 ?_ ?_
  · exact Touches.pair2 (Touches.refl _ _)
  · split
    rename_i x8 x9 x10 x11 e12
    have h13 : Touches 0x208070000000040801010000002000000000000000000101e9c080000000000000000000000000000000000000000000000000000000000000000000000000026000e17 s x11 := Touches.of_eq (fun d => d.2.2) e12 (Touches.step (State.rowsLoop_touches ..) rfl (Touches.refl _ _))
    exact h13

theorem State.signalItem_touches (e : Nat) (i : Nat) (s : State) (a3 : RunChain) (b : List Byte) : Touches 0x8070000000040800000000000000000000000000005000000000000000000000000000000000000000000000000000000000000000000000000000000000022000215 s (State.signalItem e i s a3 b).2 := by
  unfold State.signalItem
  extract_lets -merge +onlyGivenNames x1
  clear_value x1
  refine Touches.ite2 ?_ ?_
  · exact Touches.pair2 (Touches.refl _ _)
  · split
    · rename_i x2 x3 e4
      have h5 : Touches 0x8070000000040800000000000000000000000000005000000000000000000000000000000000000000000000000000000000000000000000000000000000022000215 s x3 := Touches.of_eq (fun d => d.2) e4 (Touches.step (State.cellAdd_touches ..) rfl (Touches.refl _ _))
      exact h5
    · rename_i x6 x7 e8
      have h9 : Touches 0x8070000000040800000000000000000000000000005000000000000000000000000000000000000000000000000000000000000000000000000000000000022000215 s x7 := Touches.of_eq (fun d => d.2) e8 (Touches.step (State.cellAdd_touches ..) rfl (Touches.refl _ _))
      exact h9

theorem State.chainOver_touches (s : State) (e : Nat) (c : Chain) (last : Nat) (failed : Nat) : Touches 0x8070000000040800000000000000000000000000005208000000000000000000000000000000000000000000000000000000000000000000000000000000022003215 s (State.chainOver s e c last failed) := by
  unfold State.chainOver
  extract_lets -merge +onlyGivenNames x1
  extract_lets -merge +onlyGivenNames x2
  have h3 : Touches 0x8070000000040800000000000000000000000000005208000000000000000000000000000000000000000000000000000000000000000000000000000000022003215 s x2 := by unfold x2; exact Touches.step (State.setEng_touches ..) rfl (Touches.refl _ _)
  clear_value x2
  clear_value x1
  extract_lets -merge +onlyGivenNames x4
  have h5 : Touches 0x8070000000040800000000000000000000000000005208000000000000000000000000000000000000000000000000000000000000000000000000000000022003215 s x4 := by unfold x4; exact Touches.trans h3 (State.inc_touches _ _ _ rfl 326 rfl (grp_DMA_CNT_CHAINS _))
  clear_value x4
  extract_lets -merge +onlyGivenNames x6
  have h7 : Touches 0x8070000000040800000000000000000000000000005208000000000000000000000000000000000000000000000000000000000000000000000000000000022003215 s x6 := by
    unfold x6
    split
    · exact Touches.step (State.cellAdd_touches ..) rfl h5
    · exact h5
  clear_value x6
  split
  · exact Touches.setChainsDone h7 rfl
  · exact h7

theorem State.chainBytes_touches (s : State) (e : Nat) (c : Chain) (off : Nat) (n : Nat) : Touches 0x208070000000040801010000002000000000000000000001e9c080000000000000000000000000000000000000000000000000000000000000000000000000026000615 s (State.chainBytes s e c off n).2 := by
  unfold State.chainBytes
  split
  · refine Touches.ite2 ?_ ?_
    · exact Touches.pair2 (Touches.refl _ _)
    · exact Touches.pair2 (Touches.refl _ _)
  · split
    · rename_i x1 x2 x3 e4
      have h5 : Touches 0x208070000000040801010000002000000000000000000001e9c080000000000000000000000000000000000000000000000000000000000000000000000000026000615 s x3 := Touches.of_eq (fun d => d.2) e4 (Touches.step (State.vread_touches ..) rfl (Touches.refl _ _))
      exact h5
    · rename_i x6 x7 x8 e9
      have h10 : Touches 0x208070000000040801010000002000000000000000000001e9c080000000000000000000000000000000000000000000000000000000000000000000000000026000615 s x8 := Touches.of_eq (fun d => d.2) e9 (Touches.step (State.vread_touches ..) rfl (Touches.refl _ _))
      exact h10

theorem State.readItems_touches (e : Nat) (c : Chain) (a2 : Nat) (a3 : State) (a4 : Nat) (a5 : List Byte) : Touches 0x208070000000040801010000002000000000000000000001e9c080000000000000000000000000000000000000000000000000000000000000000000000000026000615 a3 (State.readItems e c a2 a3 a4 a5).2 := by
  fun_induction State.readItems e c a2 a3 a4 a5
  · rename_i x1 x2 x3
    exact Touches.pair2 (Touches.refl _ _)
  · rename_i x4 x5 x6 x7 x8 e9
    have h10 : Touches 0x208070000000040801010000002000000000000000000001e9c080000000000000000000000000000000000000000000000000000000000000000000000000026000615 x5 x8 := Touches.of_eq (fun d => d.2) e9 (Touches.step (State.chainBytes_touches ..) rfl (Touches.refl _ _))
    exact h10
  · rename_i x11 x12 x13 x14 x15 x16 e17 x18 e19
    have h20 : Touches 0x208070000000040801010000002000000000000000000001e9c080000000000000000000000000000000000000000000000000000000000000000000000000026000615 x12 x16 := Touches.of_eq (fun d => d.2) e17 (Touches.step (State.chainBytes_touches ..) rfl (Touches.refl _ _))
    exact h20
  · rename_i x21 x22 x23 x24 x25 x26 e27 x28 e29 e30
    have h31 : Touches 0x208070000000040801010000002000000000000000000001e9c080000000000000000000000000000000000000000000000000000000000000000000000000026000615 x22 x26 := Touches.of_eq (fun d => d.2) e27 (Touches.step (State.chainBytes_touches ..) rfl (Touches.refl _ _))
    exact h31
  · rename_i x32 x33 x34 x35 x36 x37 e38 x39 e40 e41 x42 e43
    have h44 : Touches 0x208070000000040801010000002000000000000000000001e9c080000000000000000000000000000000000000000000000000000000000000000000000000026000615 x33 x37 := Touches.of_eq (fun d => d.2) e38 (Touches.step (State.chainBytes_touches ..) rfl (Touches.refl _ _))
    have h45 : Touches 0x208070000000040801010000002000000000000000000001e9c080000000000000000000000000000000000000000000000000000000000000000000000000026000615 x33 x42 := Touches.of_eq (fun d => d.2) e43 (Touches.step (State.chainBytes_touches ..) rfl h44)
    exact h45
  · rename_i x46 x47 x48 x49 x50 x51 e52 x53 e54 e55 x56 x57 e58 e59
    have h60 : Touches 0x208070000000040801010000002000000000000000000001e9c080000000000000000000000000000000000000000000000000000000000000000000000000026000615 x47 x51 := Touches.of_eq (fun d => d.2) e52 (Touches.step (State.chainBytes_touches ..) rfl (Touches.refl _ _))
    have h61 : Touches 0x208070000000040801010000002000000000000000000001e9c080000000000000000000000000000000000000000000000000000000000000000000000000026000615 x47 x57 := Touches.of_eq (fun d => d.2) e58 (Touches.step (State.chainBytes_touches ..) rfl h60)
    exact Touches.trans h61 e59

theorem State.readChain_touches (s : State) (e : Nat) (c : Chain) : Touches 0x208070000000040801010000002000000000000000000001e9c080000000000000000000000000000000000000000000000000000000000000000000000000026000615 s (State.readChain s e c).2 := by
  unfold State.readChain
  split
  · rename_i x1 x2 e3
    have h4 : Touches 0x208070000000040801010000002000000000000000000001e9c080000000000000000000000000000000000000000000000000000000000000000000000000026000615 s x2 := Touches.of_eq (fun d => d.2) e3 (Touches.step (State.chainBytes_touches ..) rfl (Touches.refl _ _))
    exact h4
  · rename_i x5 x6 x7 e8
    have h9 : Touches 0x208070000000040801010000002000000000000000000001e9c080000000000000000000000000000000000000000000000000000000000000000000000000026000615 s x7 := Touches.of_eq (fun d => d.2) e8 (Touches.step (State.chainBytes_touches ..) rfl (Touches.refl _ _))
    refine Touches.ite2 ?_ ?_
    · exact h9
    · split
      · rename_i x10 x11 e12
        have h13 : Touches 0x208070000000040801010000002000000000000000000001e9c080000000000000000000000000000000000000000000000000000000000000000000000000026000615 s x11 := Touches.of_eq (fun d => d.2) e12 (Touches.step (State.readItems_touches ..) rfl h9)
        exact h13
      · rename_i x14 x15 x16 e17
        have h18 : Touches 0x208070000000040801010000002000000000000000000001e9c080000000000000000000000000000000000000000000000000000000000000000000000000026000615 s x16 := Touches.of_eq (fun d => d.2) e17 (Touches.step (State.readItems_touches ..) rfl h9)
        exact h18

theorem State.reportBad_touches (e : Nat) (s : State) (r : RunChain) : Touches 0x8070000000040800000000000000000000000000000100000000000000000000000000000000000000000000000000000000000000000000000000000000022000211 s (State.reportBad e s r) := by
  unfold State.reportBad
  refine Touches.foldl (fun t1 y2 h3 => ?_) ?_
  · split
    · refine Touches.ite ?_ ?_
      · exact Touches.step (State.dmaReport_touches ..) rfl h3
      · exact h3
    · exact h3
  · exact Touches.refl _ _

theorem State.chainStart_touches (s : State) (e : Nat) : Touches 0x208070000000040801010000002000000000000000005f09e9c080000000000000000000000000000000000000000000000000000000000000000000000000026003e17 s (State.chainStart s e) := by
  unfold State.chainStart
  extract_lets -merge +onlyGivenNames x1
  split
  · extract_lets -merge +onlyGivenNames x2
    have h3 : Touches 0x208070000000040801010000002000000000000000005f09e9c080000000000000000000000000000000000000000000000000000000000000000000000000026003e17 s x2 := by unfold x2; exact Touches.step (State.setEng_touches ..) rfl (Touches.refl _ _)
    clear_value x2
    clear_value x1
    split
    · rename_i x4 x5 e6
      have h7 : Touches 0x208070000000040801010000002000000000000000005f09e9c080000000000000000000000000000000000000000000000000000000000000000000000000026003e17 s x5 := Touches.of_eq (fun d => d.2) e6 (Touches.step (State.readChain_touches ..) rfl h3)
      exact Touches.step (State.chainOver_touches ..) rfl (Touches.step (State.dmaReport_touches ..) rfl h7)
    · rename_i x8 x9 x10 e11
      have h12 : Touches 0x208070000000040801010000002000000000000000005f09e9c080000000000000000000000000000000000000000000000000000000000000000000000000026003e17 s x10 := Touches.of_eq (fun d => d.2) e11 (Touches.step (State.readChain_touches ..) rfl h3)
      exact Touches.step (State.setRun_touches ..) rfl (Touches.step (State.reportBad_touches ..) rfl h12)
  · rename_i x13 x14 e15
    exact Touches.refl _ _

theorem State.chainEnd_touches (s : State) (e : Nat) : Touches 0x8070000000040800000000000000000000000000005208000000000000000000000000000000000000000000000000000000000000000000000000000000022003215 s (State.chainEnd s e) := by
  unfold State.chainEnd
  split
  · exact Touches.refl _ _
  · refine Touches.ite ?_ ?_
    · exact Touches.refl _ _
    · exact Touches.step (State.chainOver_touches ..) rfl (Touches.refl _ _)

theorem State.cutItem_touches (e : Nat) (s : State) (r : RunChain) (i : Nat) (done : Nat) : Touches 0x208070000000040801010000002000000000000000000101e9c080000000000000000000000000000000000000000000000000000000000000000000000000026000e17 s (State.cutItem e s r i done).2 := by
  unfold State.cutItem
  extract_lets -merge +onlyGivenNames x1
  refine Touches.ite2 ?_ ?_
  · exact Touches.pair2 (Touches.refl _ _)
  · refine Touches.ite2 ?_ ?_
    · split
      rename_i x2 x3 x4 e5
      have h6 : Touches 0x208070000000040801010000002000000000000000000101e9c080000000000000000000000000000000000000000000000000000000000000000000000000026000e17 s x4 := Touches.of_eq (fun d => d.2) e5 (Touches.step (State.copyItem_touches ..) rfl (Touches.refl _ _))
      exact h6
    · refine Touches.ite2 ?_ ?_
      · split
        rename_i x7 x8 x9 e10
        have h11 : Touches 0x208070000000040801010000002000000000000000000101e9c080000000000000000000000000000000000000000000000000000000000000000000000000026000e17 s x9 := Touches.of_eq (fun d => d.2) e10 (Touches.step (State.fillItem_touches ..) rfl (Touches.refl _ _))
        exact h11
      · exact Touches.pair2 (Touches.refl _ _)

theorem State.cancelItems_touches (e : Nat) (s : State) (r : RunChain) (part : List (Nat × Nat)) : Touches 0x208070000000040801010000002000000000000000000d01e9c080000000000000000000000000000000000000000000000000000000000000000000000000026000e17 s (State.cancelItems e s r part).1 := by
  unfold State.cancelItems
  split
  rename_i x1 x2 x3 e4
  have h5 : Touches 0x208070000000040801010000002000000000000000000d01e9c080000000000000000000000000000000000000000000000000000000000000000000000000026000e17 s x2 := by
    refine Touches.of_eq (fun d => d.1) e4 ?_
    refine Touches.foldlOf (fun d : _ × _ => d.1) (fun t6 y7 h8 => ?_) ?_
    · split
      rename_i x9 x10 x11
      refine Touches.iteOf (fun d : _ × _ => d.1) ?_ ?_
      · split
        rename_i x12 x13 x14 e15
        have h16 : Touches 0x208070000000040801010000002000000000000000000d01e9c080000000000000000000000000000000000000000000000000000000000000000000000000026000e17 s x14 := Touches.of_eq (fun d => d.2) e15 (Touches.step (State.cutItem_touches ..) rfl h8)
        exact h16
      · exact h8
    · exact Touches.pair1 (Touches.refl _ _)
  exact Touches.step (State.writeRecs_touches ..) rfl h5

theorem State.cancelQueue_touches (e : Nat) (s : State) (a2 : List Chain) : Touches 0x208070000000040801010000002000000000000000005f09e9c080000000000000000000000000000000000000000000000000000000000000000000000000026003e17 s (State.cancelQueue e s a2) := by
  fun_induction State.cancelQueue e s a2
  · rename_i x1
    exact Touches.refl _ _
  · rename_i x2 x3 x4 x5 e6
    have h21 : Touches 0x208070000000040801010000002000000000000000005f09e9c080000000000000000000000000000000000000000000000000000000000000000000000000026003e17 x2 x5 := by
      unfold x5
      split
      · rename_i x7 x8 e9
        have h10 : Touches 0x208070000000040801010000002000000000000000005f09e9c080000000000000000000000000000000000000000000000000000000000000000000000000026003e17 x2 x8 := Touches.of_eq (fun d => d.2) e9 (Touches.step (State.readChain_touches ..) rfl (Touches.refl _ _))
        exact Touches.step (State.chainOver_touches ..) rfl (Touches.step (State.dmaReport_touches ..) rfl h10)
      · rename_i x11 x12 x13 e14
        have h15 : Touches 0x208070000000040801010000002000000000000000005f09e9c080000000000000000000000000000000000000000000000000000000000000000000000000026003e17 x2 x13 := Touches.of_eq (fun d => d.2) e14 (Touches.step (State.readChain_touches ..) rfl (Touches.refl _ _))
        split
        rename_i x16 x17 x18 e19
        have h20 : Touches 0x208070000000040801010000002000000000000000005f09e9c080000000000000000000000000000000000000000000000000000000000000000000000000026003e17 x2 x17 := Touches.of_eq (fun d => d.1) e19 (Touches.step (State.cancelItems_touches ..) rfl h15)
        exact Touches.step (State.chainOver_touches ..) rfl h20
    exact Touches.trans h21 e6

theorem State.dmaAbort_touches (s : State) (e : Nat) (part : List (Nat × Nat)) : Touches 0x208070000000040801010000002000000000000000005f09e9c080000000000000000000000000000000000000000000000000000000000000000000000000026003e17 s (State.dmaAbort s e part) := by
  unfold State.dmaAbort
  extract_lets -merge +onlyGivenNames x1
  extract_lets -merge +onlyGivenNames x2
  have h3 : Touches 0x208070000000040801010000002000000000000000005f09e9c080000000000000000000000000000000000000000000000000000000000000000000000000026003e17 s x2 := by unfold x2; exact Touches.step (State.setEng_touches ..) rfl (Touches.refl _ _)
  clear_value x2
  clear_value x1
  extract_lets -merge +onlyGivenNames x4
  have h10 : Touches 0x208070000000040801010000002000000000000000005f09e9c080000000000000000000000000000000000000000000000000000000000000000000000000026003e17 s x4 := by
    unfold x4
    split
    · exact h3
    · split
      rename_i x5 x6 x7 e8
      have h9 : Touches 0x208070000000040801010000002000000000000000005f09e9c080000000000000000000000000000000000000000000000000000000000000000000000000026003e17 s x6 := Touches.of_eq (fun d => d.1) e8 (Touches.step (State.cancelItems_touches ..) rfl h3)
      exact Touches.step (State.chainOver_touches ..) rfl h9
  clear_value x4
  exact Touches.step (State.dmaReport_touches ..) rfl (Touches.step (State.cancelQueue_touches ..) rfl h10)

theorem State.hostReadFail_touches (s : State) (e : Nat) (i : Nat) (cause : Nat) (done : Nat) : Touches 0x208070000000040801010000002000000000000000000d09e9c080000000000000000000000000000000000000000000000000000000000000000000000000026001e17 s (State.hostReadFail s e i cause done) := by
  unfold State.hostReadFail
  split
  · exact Touches.refl _ _
  · extract_lets -merge +onlyGivenNames x1
    refine Touches.ite ?_ ?_
    · extract_lets -merge +onlyGivenNames x2
      have h3 : Touches 0x208070000000040801010000002000000000000000000d09e9c080000000000000000000000000000000000000000000000000000000000000000000000000026001e17 s x2 := by unfold x2; exact Touches.step (State.hwinFault_touches ..) rfl (Touches.refl _ _)
      clear_value x2
      clear_value x1
      extract_lets -merge +onlyGivenNames x4
      have h5 : Touches 0x208070000000040801010000002000000000000000000d09e9c080000000000000000000000000000000000000000000000000000000000000000000000000026001e17 s x4 := by unfold x4; exact Touches.step (State.txFail_touches ..) rfl h3
      clear_value x4
      split
      rename_i x6 x7 x8 e9
      have h10 : Touches 0x208070000000040801010000002000000000000000000d09e9c080000000000000000000000000000000000000000000000000000000000000000000000000026001e17 s x8 := Touches.of_eq (fun d => d.2) e9 (Touches.step (State.cutItem_touches ..) rfl h5)
      exact Touches.step (State.setRun_touches ..) rfl h10
    · exact Touches.refl _ _

end Sys2Proof.Machine
end

