-- ==== Sys2Proof/Laws/FrameGill.lean ====
section
/-! SUPPORT. What each operation of Machine/Gill.lean can do: the parts of the state it touches (Touches). -/

-- One declaration at a time: many proofs at once would each hold a thread with a large stack.
set_option Elab.async false

namespace Sys2Proof.Machine

theorem State.setGl_touches (s : State) (g : Nat) (x : Gill) : Touches 0x1000000000000000000000000000000000000000000000000000000000000000000000000000008001 s (State.setGl s g x) := by
  unfold State.setGl
  exact Touches.trans (Touches.setGill (Touches.refl _ _) rfl) (State.setF_touches _ _ _ rfl 293 rfl (grp_GILL_LOOP _))

theorem State.gillStop_touches (s : State) (g : Nat) (slot : Nat) (sts : Nat) (val : Nat) (info : Nat) : Touches 0x807000000004080000000000000000000000000000400000000101a00000000000000000000000000000000000000000000000000000000000000000000002200c211 s (State.gillStop s g slot sts val info) := by
  unfold State.gillStop
  extract_lets -merge +onlyGivenNames x1
  have h2 : Touches 0x807000000004080000000000000000000000000000400000000101a00000000000000000000000000000000000000000000000000000000000000000000002200c211 s x1 := by unfold x1; exact State.setF_touches _ _ _ rfl 282 rfl (grp_GILL_STATUS _)
  clear_value x1
  extract_lets -merge +onlyGivenNames x3
  have h4 : Touches 0x807000000004080000000000000000000000000000400000000101a00000000000000000000000000000000000000000000000000000000000000000000002200c211 s x3 := by
    unfold x3
    refine Touches.trans ?_ (State.setF_touches _ _ _ rfl 284 rfl (grp_GILL_FAULT _))
    refine Touches.trans ?_ (State.setF_touches _ _ _ rfl 284 rfl (grp_GILL_FAULT _))
    exact Touches.trans h2 (State.setF_touches _ _ _ rfl 284 rfl (grp_GILL_FAULT _))
  clear_value x3
  extract_lets -merge +onlyGivenNames x5
  have h6 : Touches 0x807000000004080000000000000000000000000000400000000101a00000000000000000000000000000000000000000000000000000000000000000000002200c211 s x5 := by unfold x5; exact Touches.trans h4 (State.setF_touches _ _ _ rfl 285 rfl (grp_GILL_FAULT_INFO _))
  clear_value x5
  extract_lets -merge +onlyGivenNames x7
  extract_lets -merge +onlyGivenNames x8
  have h9 : Touches 0x807000000004080000000000000000000000000000400000000101a00000000000000000000000000000000000000000000000000000000000000000000002200c211 s x8 := by unfold x8; exact Touches.step (State.cellCancel_touches ..) rfl (Touches.step (State.setGl_touches ..) rfl h6)
  clear_value x8
  clear_value x7
  exact Touches.trans h9 (State.report_touches _ _ _ _ _ rfl 282 rfl (grp_GILL_STATUS _))

theorem State.startWait_touches (s : State) (gi : Nat) (x : Nat) (onCell : Bool) : Touches 0x400000000100200000000000000000000000000000000000000000000000000000000000000000000000000c001 s (State.startWait s gi x onCell) := by
  unfold State.startWait
  extract_lets -merge +onlyGivenNames x1
  extract_lets -merge +onlyGivenNames x2
  have h3 : Touches 0x400000000100200000000000000000000000000000000000000000000000000000000000000000000000000c001 s x2 := by unfold x2; exact State.setF_touches _ _ _ rfl 282 rfl (grp_GILL_STATUS _)
  clear_value x2
  clear_value x1
  extract_lets -merge +onlyGivenNames x4
  have h5 : Touches 0x400000000100200000000000000000000000000000000000000000000000000000000000000000000000000c001 s x4 := by
    unfold x4
    refine Touches.ite ?_ ?_
    · exact Touches.step (State.cellWait_touches ..) rfl h3
    · exact h3
  clear_value x4
  exact Touches.step (State.setGl_touches ..) rfl h5

theorem State.storeLanes_touches (s : State) (gi : Nat) (base : Nat) (t : Nat) (m : Nat) (n : Nat) (v : Nat → Nat) : Touches 0x800 s (State.storeLanes s gi base t m n v) := by
  unfold State.storeLanes
  refine Touches.foldl (fun t1 y2 h3 => ?_) ?_
  · refine Touches.ite ?_ ?_
    · exact Touches.step (State.setSram_touches ..) rfl h3
    · exact h3
  · exact Touches.refl _ _

theorem State.doStore_touches (s : State) (gi : Nat) (g : Gill) (x : Nat) : Touches 0x800 s (State.doStore s gi g x) := by
  unfold State.doStore
  extract_lets -merge +onlyGivenNames x1
  clear_value x1
  extract_lets -merge +onlyGivenNames x2
  clear_value x2
  extract_lets -merge +onlyGivenNames x3
  clear_value x3
  extract_lets -merge +onlyGivenNames x4
  clear_value x4
  split
  · exact Touches.step (State.setSram_touches ..) rfl (Touches.refl _ _)
  · exact Touches.step (State.setSram_touches ..) rfl (Touches.refl _ _)
  · exact Touches.step (State.setSram_touches ..) rfl (Touches.refl _ _)
  · refine Touches.foldl (fun t5 y6 h7 => ?_) ?_
    · exact Touches.step (State.storeLanes_touches ..) rfl h7
    · exact Touches.refl _ _
  · extract_lets -merge +onlyGivenNames x8
    refine Touches.foldl (fun t9 y10 h11 => ?_) ?_
    · split
      refine Touches.ite ?_ ?_
      · exact Touches.step (State.storeLanes_touches ..) rfl h11
      · exact h11
    · exact Touches.refl _ _
  · rename_i x12 e13 e14 e15 e16 e17
    exact Touches.refl _ _

theorem State.doGlobal_touches (s : State) (gi : Nat) (old : Gill) (live : List (Nat × Nat)) : Touches 0x1100000000000000000000000000000000000000000000000000000000000000000000000000008011 s (State.doGlobal s gi old live) := by
  unfold State.doGlobal
  extract_lets -merge +onlyGivenNames x1
  refine Touches.ite ?_ ?_
  · exact Touches.refl _ _
  · extract_lets -merge +onlyGivenNames x2
    extract_lets -merge +onlyGivenNames x3
    extract_lets -merge +onlyGivenNames x4
    split
    rename_i x5 x6 x7 e8
    have h9 : Touches 0x1100000000000000000000000000000000000000000000000000000000000000000000000000008011 s x7 := Touches.of_eq (fun d => d.2) e8 (Touches.step (State.fresh_touches ..) rfl (Touches.refl _ _))
    extract_lets -merge +onlyGivenNames x10
    refine Touches.trans ?_ (State.inc_touches _ _ _ rfl 289 rfl (grp_GILL_CNT_GLOBAL _))
    exact Touches.step (State.setGl_touches ..) rfl h9

theorem State.settle_touches (gi : Nat) (a1 : Nat) (a2 : State) : Touches 0x8070000000040800000000000000000000000000005000000001000000000000000000000000000000000000000000000000000000000000000000000000022008215 a2 (State.settle gi a1 a2) := by
  fun_induction State.settle gi a1 a2
  · rename_i x1
    exact Touches.refl _ _
  · rename_i x2 x3 x4 e5
    exact Touches.refl _ _
  · rename_i x6 x7 x8 x9 x10 x11 x12 e13 e14 e15
    refine Touches.trans ?_ e15
    exact Touches.step (State.cellAdd_touches ..) rfl (Touches.step (State.setGl_touches ..) rfl (Touches.refl _ _))
  · rename_i x16 x17 x18 x19 x20 x21 x22 e23 e24
    exact Touches.refl _ _

theorem State.settleAll_touches (s : State) (gi : Nat) : Touches 0x8070000000040800000000000000000000000000005000000001000000000000000000000000000000000000000000000000000000000000000000000000022008215 s (State.settleAll s gi) := by
  unfold State.settleAll
  exact Touches.step (State.settle_touches ..) rfl (Touches.refl _ _)

theorem State.doSend_touches (s : State) (gi : Nat) (q : Nat) (e : Nat) (dport : Nat) (w : List Nat) : Touches 0x1000000000000000000000000000000000000000000000000000000000000000000000000000018001 s (State.doSend s gi q e dport w) := by
  unfold State.doSend
  extract_lets -merge +onlyGivenNames x1
  extract_lets -merge +onlyGivenNames x2
  clear_value x2
  extract_lets -merge +onlyGivenNames x3
  clear_value x3
  refine Touches.ite ?_ ?_
  · exact Touches.setFlights (Touches.refl _ _) rfl
  · refine Touches.foldl (fun t4 y5 h6 => ?_) ?_
    · extract_lets -merge +onlyGivenNames x7
      extract_lets -merge +onlyGivenNames x8
      clear_value x8
      extract_lets -merge +onlyGivenNames x9
      have h10 : Touches 0x1000000000000000000000000000000000000000000000000000000000000000000000000000018001 s x9 := by unfold x9; exact Touches.step (State.setGl_touches ..) rfl h6
      clear_value x9
      clear_value x1
      clear_value x7
      exact Touches.setFlights h10 rfl
    · exact Touches.refl _ _

theorem State.doSy_touches (s : State) (gi : Nat) (old : Gill) (x : Nat) (ok : Bool) : Touches 0x1000000001000000000000000000000000000000000000000000000000000000000000000000000000000018001 s (State.doSy s gi old x ok) := by
  unfold State.doSy
  extract_lets -merge +onlyGivenNames x1
  clear_value x1
  extract_lets -merge +onlyGivenNames x2
  clear_value x2
  extract_lets -merge +onlyGivenNames x3
  extract_lets -merge +onlyGivenNames x4
  extract_lets -merge +onlyGivenNames x5
  clear_value x5
  split
  · exact Touches.step (State.setGl_touches ..) rfl (Touches.refl _ _)
  · exact Touches.step (State.setGl_touches ..) rfl (Touches.refl _ _)
  · extract_lets -merge +onlyGivenNames x6
    have h7 : Touches 0x1000000001000000000000000000000000000000000000000000000000000000000000000000000000000018001 s x6 := by unfold x6; exact Touches.step (State.setGl_touches ..) rfl (Touches.refl _ _)
    clear_value x6
    clear_value x3
    refine Touches.ite ?_ ?_
    · exact Touches.trans h7 (State.setF_touches _ _ _ rfl 329 rfl (grp_SYNC_COUNT _))
    · exact h7
  · exact Touches.step (State.setGl_touches ..) rfl (Touches.refl _ _)
  · extract_lets -merge +onlyGivenNames x8
    have h9 : Touches 0x1000000001000000000000000000000000000000000000000000000000000000000000000000000000000018001 s x8 := by unfold x8; exact Touches.step (State.setGl_touches ..) rfl (Touches.refl _ _)
    clear_value x8
    split
    · exact Touches.step (State.doSend_touches ..) rfl h9
    · rename_i x10 x11 x12 e13
      exact h9
  · extract_lets -merge +onlyGivenNames x14
    clear_value x14
    split
    · extract_lets -merge +onlyGivenNames x15
      exact Touches.step (State.setGl_touches ..) rfl (Touches.refl _ _)
    · rename_i x16 x17 x18 e19
      exact Touches.step (State.setGl_touches ..) rfl (Touches.refl _ _)
  · extract_lets -merge +onlyGivenNames x20
    clear_value x20
    exact Touches.step (State.setGl_touches ..) rfl (Touches.refl _ _)
  · rename_i x21 e22 e23 e24 e25 e26 e27 e28
    exact Touches.refl _ _

theorem State.doDma_touches (s : State) (gi : Nat) (old : Gill) (x : Nat) : Touches 0x8000001000000000000000000000000000000000000000000000000000000000000000000000000000009001 s (State.doDma s gi old x) := by
  unfold State.doDma
  extract_lets -merge +onlyGivenNames x1
  clear_value x1
  refine Touches.ite ?_ ?_
  · extract_lets -merge +onlyGivenNames x2
    clear_value x2
    exact Touches.step (State.chainPush_touches ..) rfl (Touches.refl _ _)
  · exact Touches.step (State.setGl_touches ..) rfl (Touches.refl _ _)

theorem State.twRegs_touches (s : State) : Touches 0x1c0000000000000000000000000000000000000000000000000000000000000000000000000000000000000000000000000000000000001 s (State.twRegs s) := by
  unfold State.twRegs
  extract_lets -merge +onlyGivenNames x1
  clear_value x1
  extract_lets -merge +onlyGivenNames x2
  extract_lets -merge +onlyGivenNames x3
  clear_value x3
  refine Touches.trans ?_ (State.setF_touches _ _ _ rfl 409 rfl grp_MESH_TW_RETRY_NS)
  refine Touches.trans ?_ (State.setF_touches _ _ _ rfl 408 rfl grp_MESH_TW_REF_NS)
  exact State.setF_touches _ _ _ rfl 407 rfl grp_MESH_TW_G

theorem State.twCount_touches (s : State) (gi : Nat) (n : Nat) (ref : Nat) (retry : Nat) : Touches 0x1c0000000000000000000000000000000000000000000000000000000000000000000000000000000000000000000000000000000040001 s (State.twCount s gi n ref retry) := by
  unfold State.twCount
  refine Touches.ite ?_ ?_
  · extract_lets -merge +onlyGivenNames x1
    clear_value x1
    exact Touches.step (State.twRegs_touches ..) rfl (Touches.setTw (Touches.refl _ _) rfl)
  · exact Touches.refl _ _

theorem State.performBundle_touches (s : State) (gi : Nat) (pc : Nat) (sl : List Nat) (live : List (Nat × Nat)) (ok : Bool) : Touches 0x80700000000408000000001c00000000000000000050080000011e6000000000000000000000000000000000000000000000000000000000000000000000022059a15 s (State.performBundle s gi pc sl live ok) := by
  unfold State.performBundle
  extract_lets -merge +onlyGivenNames x1
  extract_lets -merge +onlyGivenNames x2
  clear_value x2
  extract_lets -merge +onlyGivenNames x3
  clear_value x3
  extract_lets -merge +onlyGivenNames x4
  clear_value x4
  extract_lets -merge +onlyGivenNames x5
  clear_value x5
  extract_lets -merge +onlyGivenNames x6
  clear_value x6
  extract_lets -merge +onlyGivenNames x7
  extract_lets -merge +onlyGivenNames x8
  clear_value x8
  extract_lets -merge +onlyGivenNames x9
  clear_value x9
  extract_lets -merge +onlyGivenNames x10
  extract_lets -merge +onlyGivenNames x11
  have h12 : Touches 0x80700000000408000000001c00000000000000000050080000011e6000000000000000000000000000000000000000000000000000000000000000000000022059a15 s x11 := by unfold x11; exact Touches.step (State.setGl_touches ..) rfl (Touches.refl _ _)
  clear_value x11
  clear_value x1
  clear_value x7
  clear_value x10
  extract_lets -merge +onlyGivenNames x13
  have h14 : Touches 0x80700000000408000000001c00000000000000000050080000011e6000000000000000000000000000000000000000000000000000000000000000000000022059a15 s x13 := by
    unfold x13
    refine Touches.trans ?_ (State.inc_touches _ _ _ rfl 287 rfl (grp_GILL_CNT_STALL _))
    exact Touches.trans h12 (State.inc_touches _ _ _ rfl 286 rfl (grp_GILL_CNT_BUNDLES _))
  clear_value x13
  extract_lets -merge +onlyGivenNames x15
  have h16 : Touches 0x80700000000408000000001c00000000000000000050080000011e6000000000000000000000000000000000000000000000000000000000000000000000022059a15 s x15 := by
    unfold x15
    refine Touches.ite ?_ ?_
    · exact h14
    · exact Touches.trans h14 (State.inc_touches _ _ _ rfl 288 rfl (grp_GILL_CNT_WAIT _))
  clear_value x15
  extract_lets -merge +onlyGivenNames x17
  have h21 : Touches 0x80700000000408000000001c00000000000000000050080000011e6000000000000000000000000000000000000000000000000000000000000000000000022059a15 s x17 := by
    unfold x17
    refine Touches.foldl (fun t18 y19 h20 => ?_) ?_
    · refine Touches.ite ?_ ?_
      · exact Touches.step (State.doStore_touches ..) rfl h20
      · exact h20
    · exact h16
  clear_value x17
  extract_lets -merge +onlyGivenNames x22
  have h23 : Touches 0x80700000000408000000001c00000000000000000050080000011e6000000000000000000000000000000000000000000000000000000000000000000000022059a15 s x22 := by unfold x22; exact Touches.step (State.twCount_touches ..) rfl (Touches.step (State.doGlobal_touches ..) rfl h21)
  clear_value x22
  extract_lets -merge +onlyGivenNames x24
  have h28 : Touches 0x80700000000408000000001c00000000000000000050080000011e6000000000000000000000000000000000000000000000000000000000000000000000022059a15 s x24 := by
    unfold x24
    refine Touches.foldl (fun t25 y26 h27 => ?_) ?_
    · refine Touches.ite ?_ ?_
      · exact Touches.step (State.doSy_touches ..) rfl h27
      · refine Touches.ite ?_ ?_
        · exact Touches.step (State.doDma_touches ..) rfl h27
        · exact h27
    · exact h23
  clear_value x24
  refine Touches.step (State.settleAll_touches ..) rfl ?_
  refine Touches.trans ?_ (State.setF_touches _ _ _ rfl 282 rfl (grp_GILL_STATUS _))
  exact Touches.trans h28 (State.setF_touches _ _ _ rfl 283 rfl (grp_GILL_PC _))

theorem State.issueCore_touches (s : State) (gi : Nat) : Touches 0x80700000000408000000001c28000000000000000050080000011fe00000000000000000000000000000000000000000000000000000000000000000000002205da15 s (State.issueCore s gi) := by
  unfold State.issueCore
  split
  · exact Touches.refl _ _
  · extract_lets -merge +onlyGivenNames x1
    extract_lets -merge +onlyGivenNames x2
    clear_value x2
    extract_lets -merge +onlyGivenNames x3
    extract_lets -merge +onlyGivenNames x4
    extract_lets -merge +onlyGivenNames x5
    extract_lets -merge +onlyGivenNames x6
    extract_lets -merge +onlyGivenNames x7
    clear_value x7
    extract_lets -merge +onlyGivenNames x8
    clear_value x8
    refine Touches.ite ?_ ?_
    · exact Touches.step (State.setGl_touches ..) rfl (State.setF_touches _ _ _ rfl 282 rfl (grp_GILL_STATUS _))
    · extract_lets -merge +onlyGivenNames x9
      clear_value x9
      extract_lets -merge +onlyGivenNames x10
      split
      · unfold x4
        exact Touches.step (State.gillStop_touches ..) rfl (Touches.refl _ _)
      · extract_lets -merge +onlyGivenNames x11
        clear_value x11
        extract_lets -merge +onlyGivenNames x12
        clear_value x12
        extract_lets -merge +onlyGivenNames x13
        clear_value x13
        extract_lets -merge +onlyGivenNames x14
        clear_value x14
        refine Touches.ite ?_ ?_
        · exact Touches.step (State.startWait_touches ..) rfl (Touches.refl _ _)
        · refine Touches.ite ?_ ?_
          · exact Touches.step (State.setGl_touches ..) rfl (State.setF_touches _ _ _ rfl 282 rfl (grp_GILL_STATUS _))
          · refine Touches.ite ?_ ?_
            · extract_lets -merge +onlyGivenNames x15
              have h16 : Touches 0x80700000000408000000001c28000000000000000050080000011fe00000000000000000000000000000000000000000000000000000000000000000000002205da15 s x15 := by unfold x15; exact State.voided_touches _ _ rfl 400 rfl grp_SYS_REPRO_STATUS
              clear_value x15
              clear_value x1
              clear_value x3
              clear_value x5
              clear_value x6
              clear_value x10
              refine Touches.ite ?_ ?_
              · exact Touches.step (State.gillStop_touches ..) rfl h16
              · exact Touches.step (State.gillStop_touches ..) rfl h16
            · extract_lets -merge +onlyGivenNames x17
              have h18 : Touches 0x80700000000408000000001c28000000000000000050080000011fe00000000000000000000000000000000000000000000000000000000000000000000002205da15 s x17 := by
                unfold x17
                refine Touches.ite ?_ ?_
                · exact State.voided_touches _ _ rfl 400 rfl grp_SYS_REPRO_STATUS
                · exact Touches.refl _ _
              clear_value x17
              extract_lets -merge +onlyGivenNames x19
              clear_value x19
              split
              · refine Touches.ite ?_ ?_
                · exact Touches.step (State.performBundle_touches ..) rfl h18
                · extract_lets -merge +onlyGivenNames x20
                  clear_value x20
                  extract_lets -merge +onlyGivenNames x21
                  clear_value x21
                  extract_lets -merge +onlyGivenNames x22
                  have h23 : Touches 0x80700000000408000000001c28000000000000000050080000011fe00000000000000000000000000000000000000000000000000000000000000000000002205da15 s x22 := by unfold x22; exact Touches.step (State.setGl_touches ..) rfl h18
                  clear_value x22
                  exact Touches.step (State.gillStop_touches ..) rfl h23
              · rename_i x24 x25 x26 e27
                exact Touches.step (State.performBundle_touches ..) rfl h18

theorem State.bundleIssue_touches (s : State) (gi : Nat) : Touches 0x80700000000408000000001c28000000000000000050080000011fe00000000000000000000000000000000000000000000000000000000000000000000002205da15 s (State.bundleIssue s gi) := by
  unfold State.bundleIssue
  refine Touches.ite ?_ ?_
  · exact Touches.step (State.issueCore_touches ..) rfl (Touches.refl _ _)
  · exact Touches.refl _ _

theorem State.loadResponse_touches (s : State) (gi : Nat) (slot : Nat) : Touches 0x208070000000040801010000002000000000000000000001e9c081000000000000000000000000000000000000000000000000000000000000000000000000026008615 s (State.loadResponse s gi slot) := by
  unfold State.loadResponse
  split
  · exact Touches.refl _ _
  · refine Touches.ite ?_ ?_
    · exact Touches.step (State.setGl_touches ..) rfl (Touches.refl _ _)
    · split
      · rename_i x1 x2 x3 e4
        have h5 : Touches 0x208070000000040801010000002000000000000000000001e9c081000000000000000000000000000000000000000000000000000000000000000000000000026008615 s x3 := Touches.of_eq (fun d => d.2) e4 (Touches.step (State.vread_touches ..) rfl (Touches.refl _ _))
        exact Touches.step (State.setGl_touches ..) rfl h5
      · rename_i x6 x7 x8 e9
        have h10 : Touches 0x208070000000040801010000002000000000000000000001e9c081000000000000000000000000000000000000000000000000000000000000000000000000026008615 s x8 := Touches.of_eq (fun d => d.2) e9 (Touches.step (State.vread_touches ..) rfl (Touches.refl _ _))
        exact Touches.step (State.setGl_touches ..) rfl h10

theorem State.writeMasked_touches (s : State) (gi : Nat) (slot : Nat) (a : GAcc) : Touches 0x807000000004080101000000000000000000000000000001c080000000000000000000000000000000000000000000000000000000000000000000000000026000617 s (State.writeMasked s gi slot a).2 := by
  unfold State.writeMasked
  refine Touches.ite2 ?_ ?_
  · exact Touches.step (State.vwrite_touches ..) rfl (Touches.refl _ _)
  · refine Touches.foldlOf (fun d : _ × _ => d.2) (fun t1 y2 h3 => ?_) ?_
    · refine Touches.ite2 ?_ ?_
      · exact Touches.step (State.vwrite_touches ..) rfl h3
      · exact h3
    · exact Touches.pair2 (Touches.refl _ _)

theorem State.storeResponse_touches (s : State) (gi : Nat) (slot : Nat) : Touches 0x807000000004080101000000000000000000000000500001c081000000000000000000000000000000000000000000000000000000000000000000000000026008617 s (State.storeResponse s gi slot) := by
  unfold State.storeResponse
  split
  · exact Touches.refl _ _
  · split
    rename_i x1 x2 x3 e4
    have h5 : Touches 0x807000000004080101000000000000000000000000500001c081000000000000000000000000000000000000000000000000000000000000000000000000026008617 s x3 := Touches.of_eq (fun d => d.2) e4 (Touches.step (State.writeMasked_touches ..) rfl (Touches.refl _ _))
    extract_lets -merge +onlyGivenNames x6
    extract_lets -merge +onlyGivenNames x7
    exact Touches.step (State.settleAll_touches ..) rfl (Touches.step (State.setGl_touches ..) rfl h5)

theorem State.memFaultStop_touches (s : State) (gi : Nat) : Touches 0x807000000004080000000000000000000000000000400000000101a00000000000000000000000000000000000000000000000000000000000000000000002200c211 s (State.memFaultStop s gi) := by
  unfold State.memFaultStop
  split
  · exact Touches.refl _ _
  · refine Touches.ite ?_ ?_
    · exact Touches.step (State.gillStop_touches ..) rfl (Touches.step (State.setGl_touches ..) rfl (Touches.refl _ _))
    · exact Touches.refl _ _

theorem State.syncGrant_touches (s : State) (cell : Nat) : Touches 0x500000000100000000000000000000000000000000000000000000000000000000000000000000000000000c001 s (State.syncGrant s cell) := by
  unfold State.syncGrant
  split
  · exact Touches.refl _ _
  · extract_lets -merge +onlyGivenNames x1
    have h2 : Touches 0x500000000100000000000000000000000000000000000000000000000000000000000000000000000000000c001 s x1 := by unfold x1; exact Touches.step (State.cellRegs_touches ..) rfl (Touches.setWaits (Touches.refl _ _) rfl)
    clear_value x1
    extract_lets -merge +onlyGivenNames x3
    have h4 : Touches 0x500000000100000000000000000000000000000000000000000000000000000000000000000000000000000c001 s x3 := by unfold x3; exact Touches.trans h2 (State.setF_touches _ _ _ rfl 329 rfl (grp_SYNC_COUNT _))
    clear_value x3
    exact Touches.step (State.setGl_touches ..) rfl h4

theorem State.timedOut_touches (s : State) (gi : Nat) : Touches 0x807000000004080000000000280000000000000000400000000101a00000000000000000000000000000000000000000000000000000000000000000000002200c211 s (State.timedOut s gi) := by
  unfold State.timedOut
  extract_lets -merge +onlyGivenNames x1
  extract_lets -merge +onlyGivenNames x2
  clear_value x2
  refine Touches.ite ?_ ?_
  · extract_lets -merge +onlyGivenNames x3
    have h4 : Touches 0x807000000004080000000000280000000000000000400000000101a00000000000000000000000000000000000000000000000000000000000000000000002200c211 s x3 := by unfold x3; exact Touches.step (State.cellCancel_touches ..) rfl (Touches.refl _ _)
    clear_value x3
    clear_value x1
    refine Touches.ite ?_ ?_
    · extract_lets -merge +onlyGivenNames x5
      have h6 : Touches 0x807000000004080000000000280000000000000000400000000101a00000000000000000000000000000000000000000000000000000000000000000000002200c211 s x5 := by unfold x5; exact Touches.trans h4 (State.voided_touches _ _ rfl 400 rfl grp_SYS_REPRO_STATUS)
      clear_value x5
      refine Touches.ite ?_ ?_
      · exact Touches.step (State.gillStop_touches ..) rfl h6
      · exact Touches.step (State.gillStop_touches ..) rfl h6
    · exact Touches.step (State.setGl_touches ..) rfl h4
  · exact Touches.refl _ _

theorem State.takeFlight_touches (s : State) (p : Flight → Bool) : Touches 0x10000 s (State.takeFlight s p).2 := by
  unfold State.takeFlight
  split
  · exact Touches.pair2 (Touches.refl _ _)
  · exact Touches.pair2 (Touches.setFlights (Touches.refl _ _) rfl)

theorem State.arrive_touches (s : State) (gi : Nat) (port : Nat) (src : Nat) (sport : Nat) : Touches 0x8070000000040800000000000000000000000000005000000001000000000000000000000000000000000000000000000000000000000000000000000000022018215 s (State.arrive s gi port src sport) := by
  unfold State.arrive
  split
  · rename_i x1 x2 e3
    have h4 : Touches 0x8070000000040800000000000000000000000000005000000001000000000000000000000000000000000000000000000000000000000000000000000000022018215 s x2 := Touches.of_eq (fun d => d.2) e3 (Touches.step (State.takeFlight_touches ..) rfl (Touches.refl _ _))
    exact h4
  · rename_i x5 x6 x7 e8
    have h9 : Touches 0x8070000000040800000000000000000000000000005000000001000000000000000000000000000000000000000000000000000000000000000000000000022018215 s x7 := Touches.of_eq (fun d => d.2) e8 (Touches.step (State.takeFlight_touches ..) rfl (Touches.refl _ _))
    extract_lets -merge +onlyGivenNames x10
    extract_lets -merge +onlyGivenNames x11
    clear_value x11
    exact Touches.step (State.settleAll_touches ..) rfl (Touches.step (State.setGl_touches ..) rfl h9)

theorem State.creditBack_touches (s : State) (gi : Nat) (port : Nat) : Touches 0x1000000000000000000000000000000000000000000000000000000000000000000000000000008001 s (State.creditBack s gi port) := by
  unfold State.creditBack
  extract_lets -merge +onlyGivenNames x1
  extract_lets -merge +onlyGivenNames x2
  clear_value x2
  refine Touches.ite ?_ ?_
  · exact Touches.refl _ _
  · exact Touches.step (State.setGl_touches ..) rfl (Touches.refl _ _)

theorem State.fenceDone_touches (s : State) (gi : Nat) : Touches 0x1000000000000000000000000000000000000000000000000000000000000000000000000000008001 s (State.fenceDone s gi) := by
  unfold State.fenceDone
  refine Touches.ite ?_ ?_
  · exact Touches.step (State.setGl_touches ..) rfl (Touches.refl _ _)
  · exact Touches.refl _ _

theorem State.invocationEnd_touches (s : State) (gi : Nat) : Touches 0x8070000000040800000000000000000000000000000000000001002000000000000000000000000000000000000000000000000000000000000000000000022008211 s (State.invocationEnd s gi) := by
  unfold State.invocationEnd
  split
  · exact Touches.refl _ _
  · refine Touches.ite ?_ ?_
    · extract_lets -merge +onlyGivenNames x1
      extract_lets -merge +onlyGivenNames x2
      have h3 : Touches 0x8070000000040800000000000000000000000000000000000001002000000000000000000000000000000000000000000000000000000000000000000000022008211 s x2 := by
        unfold x2
        refine Touches.trans ?_ (State.setF_touches _ _ _ rfl 282 rfl (grp_GILL_STATUS _))
        exact Touches.step (State.setGl_touches ..) rfl (Touches.refl _ _)
      clear_value x2
      clear_value x1
      refine Touches.ite ?_ ?_
      · exact h3
      · exact Touches.trans h3 (State.report_touches _ _ _ _ _ rfl 282 rfl (grp_GILL_STATUS _))
    · exact Touches.refl _ _

theorem State.gillStart_touches (s : State) (gi : Nat) (prog : Nat) (entry : Nat) (desc : List Nat) (gang : List Nat) : Touches 0x1006000000000000000000000000000000000000000000000000000000000000000000000000008001 s (State.gillStart s gi prog entry desc gang) := by
  unfold State.gillStart
  extract_lets -merge +onlyGivenNames x1
  extract_lets -merge +onlyGivenNames x2
  extract_lets -merge +onlyGivenNames x3
  have h4 : Touches 0x1006000000000000000000000000000000000000000000000000000000000000000000000000008001 s x3 := by unfold x3; exact Touches.step (State.setGl_touches ..) rfl (Touches.refl _ _)
  clear_value x3
  clear_value x1
  clear_value x2
  refine Touches.trans ?_ (State.setF_touches _ _ _ rfl 282 rfl (grp_GILL_STATUS _))
  refine Touches.trans ?_ (State.setF_touches _ _ _ rfl 283 rfl (grp_GILL_PC _))
  exact Touches.trans h4 (State.setF_touches _ _ _ rfl 283 rfl (grp_GILL_PC _))

theorem State.dbgNo_touches (s : State) (gi : Nat) (bit : Nat) : Touches 0x8070000000040800000000000000000000000000000000000000002000000000000000000000000000000000000000000000000000000000000000000000022000211 s (State.dbgNo s gi bit) := by
  unfold State.dbgNo
  exact State.report_touches _ _ _ _ _ rfl 282 rfl (grp_GILL_STATUS _)

theorem State.dbgHalt_touches (s : State) (gi : Nat) : Touches 0x8070000000040800000000000000000000000000000000000000002000000000000000000000000000000000000000000000000000000000000000000000022000211 s (State.dbgHalt s gi) := by
  unfold State.dbgHalt
  refine Touches.ite ?_ ?_
  · exact Touches.step (State.dbgNo_touches ..) rfl (Touches.refl _ _)
  · refine Touches.ite ?_ ?_
    · exact State.setF_touches _ _ _ rfl 282 rfl (grp_GILL_STATUS _)
    · exact Touches.refl _ _

theorem State.dbgResume_touches (s : State) (gi : Nat) : Touches 0x8070000000040800000000000000000000000000000000000000002000000000000000000000000000000000000000000000000000000000000000000000022000211 s (State.dbgResume s gi) := by
  unfold State.dbgResume
  refine Touches.ite ?_ ?_
  · exact Touches.step (State.dbgNo_touches ..) rfl (Touches.refl _ _)
  · refine Touches.ite ?_ ?_
    · exact State.setF_touches _ _ _ rfl 282 rfl (grp_GILL_STATUS _)
    · exact Touches.refl _ _

theorem State.dbgStep_touches (s : State) (gi : Nat) : Touches 0x80700000000408000000001c28000000000000000050080000011fe00000000000000000000000000000000000000000000000000000000000000000000002205da15 s (State.dbgStep s gi) := by
  unfold State.dbgStep
  refine Touches.ite ?_ ?_
  · exact Touches.step (State.dbgNo_touches ..) rfl (Touches.refl _ _)
  · refine Touches.ite ?_ ?_
    · extract_lets -merge +onlyGivenNames x1
      have h2 : Touches 0x80700000000408000000001c28000000000000000050080000011fe00000000000000000000000000000000000000000000000000000000000000000000002205da15 s x1 := by unfold x1; exact Touches.step (State.issueCore_touches ..) rfl (State.setF_touches _ _ _ rfl 282 rfl (grp_GILL_STATUS _))
      clear_value x1
      refine Touches.ite ?_ ?_
      · exact Touches.trans h2 (State.setF_touches _ _ _ rfl 282 rfl (grp_GILL_STATUS _))
      · exact h2
    · exact Touches.refl _ _

end Sys2Proof.Machine
end

