-- ==== Sys2Proof/Laws/FrameSched.lean ====
section
/-! SUPPORT. What each operation of Machine/Sched.lean can do: the parts of the state it touches (Touches). -/

-- One declaration at a time: many proofs at once would each hold a thread with a large stack.
set_option Elab.async false

namespace Sys2Proof.Machine

theorem State.setWork_touches (s : State) (w : Work) : Touches 0x20000 s (State.setWork s w) := by
  unfold State.setWork
  exact Touches.setSched (Touches.refl _ _) rfl

theorem State.schedReport_touches (s : State) (sts : Nat) (detail : Nat) (q : Option Nat) : Touches 0x8070000000040800000000000000000000000008010000000000000000000000000000000000000000000000000000000000000000000000000000000000022000211 s (State.schedReport s sts detail q) := by
  unfold State.schedReport
  extract_lets -merge +onlyGivenNames x1
  have h2 : Touches 0x8070000000040800000000000000000000000008010000000000000000000000000000000000000000000000000000000000000000000000000000000000022000211 s x1 := by unfold x1; exact State.report_touches _ _ _ _ _ rfl 333 rfl grp_SCHED_STATUS
  clear_value x1
  split
  · refine Touches.ite ?_ ?_
    · exact Touches.trans h2 (State.setF_touches _ _ _ rfl 344 rfl (grp_SCHED_Q_STATUS _))
    · exact h2
  · exact h2

theorem State.partRegs_touches (s : State) (p : Nat) : Touches 0x400000000000000000000000000000000000000000000000000000000000000000000000000000000000000000000001 s (State.partRegs s p) := by
  unfold State.partRegs
  extract_lets -merge +onlyGivenNames x1
  refine Touches.trans ?_ (State.setF_touches _ _ _ rfl 351 rfl (grp_SCHED_P_STATUS _))
  exact State.setF_touches _ _ _ rfl 351 rfl (grp_SCHED_P_STATUS _)

theorem State.queueRegs_touches (s : State) (q : Nat) : Touches 0x408000000000000000000000000000000000000000000000000000000000000000000000000000000000000000000001 s (State.queueRegs s q) := by
  unfold State.queueRegs
  extract_lets -merge +onlyGivenNames x1
  have h2 : Touches 0x408000000000000000000000000000000000000000000000000000000000000000000000000000000000000000000001 s x1 := by unfold x1; exact State.setF_touches _ _ _ rfl 344 rfl (grp_SCHED_Q_STATUS _)
  clear_value x1
  split
  · refine Touches.ite ?_ ?_
    · exact Touches.step (State.partRegs_touches ..) rfl h2
    · exact h2
  · exact h2

theorem State.cplLog_touches (s : State) (id : Nat) (q : Nat) (state : Nat) (src : Nat) (sts : Nat) (preempts : Nat) (seq : Nat) (runUs : Nat) : Touches 0x8070000000040800000000000000000000000009410000000000000000000000000000000000000000000000000000000000000000000000000000000000022020211 s (State.cplLog s id q state src sts preempts seq runUs) := by
  unfold State.cplLog
  extract_lets -merge +onlyGivenNames x1
  extract_lets -merge +onlyGivenNames x2
  clear_value x2
  extract_lets -merge +onlyGivenNames x3
  clear_value x3
  extract_lets -merge +onlyGivenNames x4
  clear_value x4
  extract_lets -merge +onlyGivenNames x5
  extract_lets -merge +onlyGivenNames x6
  have h7 : Touches 0x8070000000040800000000000000000000000009410000000000000000000000000000000000000000000000000000000000000000000000000000000000022020211 s x6 := by unfold x6; exact Touches.setSched (Touches.refl _ _) rfl
  extract_lets -merge +onlyGivenNames x8
  have h9 : Touches 0x8070000000040800000000000000000000000009410000000000000000000000000000000000000000000000000000000000000000000000000000000000022020211 s x8 := by unfold x8; exact Touches.trans h7 (State.setF_touches _ _ _ rfl 339 rfl grp_SCHED_CPL_TAIL)
  refine Touches.ite ?_ ?_
  · extract_lets -merge +onlyGivenNames x10
    extract_lets -merge +onlyGivenNames x11
    clear_value x11
    extract_lets -merge +onlyGivenNames x12
    have h13 : Touches 0x8070000000040800000000000000000000000009410000000000000000000000000000000000000000000000000000000000000000000000000000000000022020211 s x12 := by unfold x12; exact Touches.trans (Touches.setSched h9 rfl) (State.inc_touches _ _ _ rfl 341 rfl grp_SCHED_CPL_LOST)
    clear_value x12
    clear_value x1
    refine Touches.ite ?_ ?_
    · exact Touches.step (State.pend_touches ..) rfl (Touches.step (State.schedReport_touches ..) rfl h13)
    · exact Touches.step (State.pend_touches ..) rfl h13
  · exact Touches.step (State.pend_touches ..) rfl h9

theorem State.cplRead_touches (s : State) : Touches 0x2000000000000000000000000000000000000000000000000000000000000000000000000000000000000000000005 s (State.cplRead s) := by
  unfold State.cplRead
  extract_lets -merge +onlyGivenNames x1
  extract_lets -merge +onlyGivenNames x2
  have h6 : Touches 0x2000000000000000000000000000000000000000000000000000000000000000000000000000000000000000000005 s x2 := by
    unfold x2
    refine Touches.foldl (fun t3 y4 h5 => ?_) ?_
    · exact Touches.trans h5 (State.setF_touches _ _ _ rfl 342 rfl (grp_SCHED_CPL_DATA _))
    · exact Touches.refl _ _
  clear_value x2
  clear_value x1
  exact Touches.setBus h6 rfl

theorem State.cplCell_touches (s : State) (q : Option QueueRec) (desc : List Nat) : Touches 0x8070000000040800000000000000000000000000005000000000000000000000000000000000000000000000000000000000000000000000000000000000022000215 s (State.cplCell s q desc) := by
  unfold State.cplCell
  refine Touches.ite ?_ ?_
  · exact Touches.refl _ _
  · extract_lets -merge +onlyGivenNames x1
    clear_value x1
    split
    · exact Touches.refl _ _
    · refine Touches.ite ?_ ?_
      · exact Touches.step (State.cellAdd_touches ..) rfl (Touches.refl _ _)
      · exact Touches.step (State.cellAdd_touches ..) rfl (Touches.refl _ _)

theorem State.twClose_touches (s : State) (id : Nat) : Touches 0x208000000000000000000000000000000000000000000000000000000000000000000000000000000000000000000000000000000040001 s (State.twClose s id) := by
  unfold State.twClose
  refine Touches.ite ?_ ?_
  · extract_lets -merge +onlyGivenNames x1
    clear_value x1
    extract_lets -merge +onlyGivenNames x2
    have h3 : Touches 0x208000000000000000000000000000000000000000000000000000000000000000000000000000000000000000000000000000000040001 s x2 := by
      unfold x2
      refine Touches.trans ?_ (State.setF_touches _ _ _ rfl 410 rfl grp_MESH_TW_RUN_NS)
      refine Touches.trans ?_ (State.setB_touches _ _ _ rfl 404 rfl grp_MESH_TW_CTRL)
      exact State.setB_touches _ _ _ rfl 404 rfl grp_MESH_TW_CTRL
    clear_value x2
    exact Touches.setTw h3 rfl
  · exact Touches.refl _ _

theorem State.twOpen_touches (s : State) (id : Nat) : Touches 0x408000000000000000000000000000000000000000000000000000000000000000000000000000000000000000000000000000000040001 s (State.twOpen s id) := by
  unfold State.twOpen
  refine Touches.ite ?_ ?_
  · extract_lets -merge +onlyGivenNames x1
    have h2 : Touches 0x408000000000000000000000000000000000000000000000000000000000000000000000000000000000000000000000000000000040001 s x1 := by unfold x1; exact State.setB_touches _ _ _ rfl 404 rfl grp_MESH_TW_CTRL
    extract_lets -merge +onlyGivenNames x3
    extract_lets -merge +onlyGivenNames x4
    have h5 : Touches 0x408000000000000000000000000000000000000000000000000000000000000000000000000000000000000000000000000000000040001 s x4 := by unfold x4; exact Touches.setTw h2 rfl
    extract_lets -merge +onlyGivenNames x6
    have h7 : Touches 0x408000000000000000000000000000000000000000000000000000000000000000000000000000000000000000000000000000000040001 s x6 := by
      unfold x6
      refine Touches.ite ?_ ?_
      · exact Touches.trans h5 (State.setB_touches _ _ _ rfl 411 rfl grp_MESH_TW_FLAGS)
      · exact h5
    extract_lets -merge +onlyGivenNames x8
    have h9 : Touches 0x408000000000000000000000000000000000000000000000000000000000000000000000000000000000000000000000000000000040001 s x8 := by
      unfold x8
      refine Touches.ite ?_ ?_
      · exact Touches.trans h7 (State.setB_touches _ _ _ rfl 411 rfl grp_MESH_TW_FLAGS)
      · exact h7
    clear_value x8
    refine Touches.ite ?_ ?_
    · exact Touches.trans h9 (State.setB_touches _ _ _ rfl 411 rfl grp_MESH_TW_FLAGS)
    · exact h9
  · exact Touches.refl _ _

theorem State.twArm_touches (s : State) : Touches 0x7c8000000000000000000000000000000000000000000000000000000000000000000000000000000000000000000000000000000040001 s (State.twArm s) := by
  unfold State.twArm
  extract_lets -merge +onlyGivenNames x1
  clear_value x1
  extract_lets -merge +onlyGivenNames x2
  have h3 : Touches 0x7c8000000000000000000000000000000000000000000000000000000000000000000000000000000000000000000000000000000040001 s x2 := by unfold x2; exact Touches.setTw (Touches.refl _ _) rfl
  clear_value x2
  extract_lets -merge +onlyGivenNames x4
  have h5 : Touches 0x7c8000000000000000000000000000000000000000000000000000000000000000000000000000000000000000000000000000000040001 s x4 := by
    unfold x4
    refine Touches.step (State.twRegs_touches ..) rfl ?_
    refine Touches.trans ?_ (State.setF_touches _ _ _ rfl 410 rfl grp_MESH_TW_RUN_NS)
    refine Touches.trans ?_ (State.wr_touches _ _ _ rfl 411 rfl grp_MESH_TW_FLAGS)
    refine Touches.trans ?_ (State.setF_touches _ _ _ rfl 404 rfl grp_MESH_TW_CTRL)
    exact Touches.trans h3 (State.setF_touches _ _ _ rfl 404 rfl grp_MESH_TW_CTRL)
  clear_value x4
  extract_lets -merge +onlyGivenNames x6
  clear_value x6
  split
  · refine Touches.ite ?_ ?_
    · extract_lets -merge +onlyGivenNames x7
      have h8 : Touches 0x7c8000000000000000000000000000000000000000000000000000000000000000000000000000000000000000000000000000000040001 s x7 := by
        unfold x7
        refine Touches.trans ?_ (State.setB_touches _ _ _ rfl 411 rfl grp_MESH_TW_FLAGS)
        exact Touches.trans h5 (State.setB_touches _ _ _ rfl 404 rfl grp_MESH_TW_CTRL)
      clear_value x7
      exact Touches.setTw h8 rfl
    · exact h5
  · extract_lets -merge +onlyGivenNames x9
    have h10 : Touches 0x7c8000000000000000000000000000000000000000000000000000000000000000000000000000000000000000000000000000000040001 s x9 := by
      unfold x9
      refine Touches.trans ?_ (State.setB_touches _ _ _ rfl 411 rfl grp_MESH_TW_FLAGS)
      exact Touches.trans h5 (State.setB_touches _ _ _ rfl 404 rfl grp_MESH_TW_CTRL)
    clear_value x9
    exact Touches.setTw h10 rfl

theorem State.vcStall_touches (s : State) (vc : Nat) (router : Nat) (last : Nat) : Touches 0x8070000000040800000000006000000000000000000000000000000000000000000000000000000000000000000000000000000000000000000000000000022040211 s (State.vcStall s vc router last) := by
  unfold State.vcStall
  refine Touches.ite ?_ ?_
  · extract_lets -merge +onlyGivenNames x1
    extract_lets -merge +onlyGivenNames x2
    clear_value x2
    extract_lets -merge +onlyGivenNames x3
    have h4 : Touches 0x8070000000040800000000006000000000000000000000000000000000000000000000000000000000000000000000000000000000000000000000000000022040211 s x3 := by unfold x3; exact Touches.setTw (Touches.refl _ _) rfl
    clear_value x3
    clear_value x1
    extract_lets -merge +onlyGivenNames x5
    have h6 : Touches 0x8070000000040800000000006000000000000000000000000000000000000000000000000000000000000000000000000000000000000000000000000000022040211 s x5 := by
      unfold x5
      refine Touches.trans ?_ (State.setF_touches _ _ _ rfl 402 rfl grp_MESH_PROG_STATUS)
      exact Touches.trans h4 (State.setF_touches _ _ _ rfl 402 rfl grp_MESH_PROG_STATUS)
    clear_value x5
    refine Touches.trans ?_ (State.report_touches _ _ _ _ _ rfl 402 rfl grp_MESH_PROG_STATUS)
    exact Touches.trans h6 (State.inc_touches _ _ _ rfl 403 rfl grp_MESH_PROG_CNT)
  · exact Touches.refl _ _

theorem State.workGone_touches (s : State) (id : Nat) : Touches 0x20000 s (State.workGone s id) := by
  unfold State.workGone
  exact Touches.setSched (Touches.refl _ _) rfl

theorem State.endWork_touches (s : State) (w : Work) (state : Nat) (sts : Nat) : Touches 0x80700000000408000000002080000000000004c9415000000000000000000000000000000000000000000000000000000000000000000000000000000000022060215 s (State.endWork s w state sts) := by
  unfold State.endWork
  extract_lets -merge +onlyGivenNames x1
  have h2 : Touches 0x80700000000408000000002080000000000004c9415000000000000000000000000000000000000000000000000000000000000000000000000000000000022060215 s x1 := by unfold x1; exact Touches.step (State.cplLog_touches ..) rfl (Touches.refl _ _)
  clear_value x1
  extract_lets -merge +onlyGivenNames x3
  have h4 : Touches 0x80700000000408000000002080000000000004c9415000000000000000000000000000000000000000000000000000000000000000000000000000000000022060215 s x3 := by unfold x3; exact Touches.step (State.cplCell_touches ..) rfl h2
  clear_value x3
  extract_lets -merge +onlyGivenNames x5
  have h6 : Touches 0x80700000000408000000002080000000000004c9415000000000000000000000000000000000000000000000000000000000000000000000000000000000022060215 s x5 := by unfold x5; exact Touches.step (State.twClose_touches ..) rfl (Touches.step (State.workGone_touches ..) rfl h4)
  clear_value x5
  extract_lets -merge +onlyGivenNames x7
  have h8 : Touches 0x80700000000408000000002080000000000004c9415000000000000000000000000000000000000000000000000000000000000000000000000000000000022060215 s x7 := by
    unfold x7
    refine Touches.ite ?_ ?_
    · exact Touches.trans h6 (State.inc_touches _ _ _ rfl 347 rfl (grp_SCHED_Q_DONE _))
    · exact Touches.trans h6 (State.inc_touches _ _ _ rfl 348 rfl (grp_SCHED_Q_FAILED _))
  clear_value x7
  extract_lets -merge +onlyGivenNames x9
  clear_value x9
  extract_lets -merge +onlyGivenNames x10
  have h11 : Touches 0x80700000000408000000002080000000000004c9415000000000000000000000000000000000000000000000000000000000000000000000000000000000022060215 s x10 := by
    unfold x10
    refine Touches.ite ?_ ?_
    · exact Touches.setSched h8 rfl
    · exact h8
  clear_value x10
  exact Touches.step (State.queueRegs_touches ..) rfl h11

theorem State.doomCheck_touches (s : State) (w : Work) : Touches 0x80700000000408000000002080000000000006c9415000000000000000000000000000000000000000000000000000000000000000000000000000000000022060215 s (State.doomCheck s w).2 := by
  unfold State.doomCheck
  refine Touches.ite2 ?_ ?_
  · refine Touches.ite2 ?_ ?_
    · refine Touches.pair2 ?_
      exact Touches.step (State.endWork_touches ..) rfl (Touches.step (State.schedReport_touches ..) rfl (Touches.refl _ _))
    · exact Touches.pair2 (State.inc_touches _ _ _ rfl 350 rfl (grp_SCHED_Q_DOOMED _))
  · exact Touches.pair2 (Touches.refl _ _)

theorem State.makeReady_touches (s : State) (w : Work) : Touches 0x80700000000408000000002080000000000006c9415000000000000000000000000000000000000000000000000000000000000000000000000000000000022060215 s (State.makeReady s w) := by
  unfold State.makeReady
  split
  · exact Touches.refl _ _
  · extract_lets -merge +onlyGivenNames x1
    clear_value x1
    extract_lets -merge +onlyGivenNames x2
    extract_lets -merge +onlyGivenNames x3
    clear_value x3
    exact Touches.step (State.doomCheck_touches ..) rfl (Touches.step (State.setWork_touches ..) rfl (Touches.refl _ _))

theorem State.takeWork_touches (s : State) (src : Nat) (d : List Nat) : Touches 0x80700000000408000000002080000000000006d9415000000000000000000000000000000000000000000000000000000000000000000000000000000000022060215 s (State.takeWork s src d) := by
  unfold State.takeWork
  extract_lets -merge +onlyGivenNames x1
  clear_value x1
  extract_lets -merge +onlyGivenNames x2
  clear_value x2
  extract_lets -merge +onlyGivenNames x3
  extract_lets -merge +onlyGivenNames x4
  clear_value x4
  extract_lets -merge +onlyGivenNames x5
  clear_value x5
  extract_lets -merge +onlyGivenNames x6
  have h7 : Touches 0x80700000000408000000002080000000000006d9415000000000000000000000000000000000000000000000000000000000000000000000000000000000022060215 s x6 := by unfold x6; exact Touches.setSched (Touches.refl _ _) rfl
  clear_value x6
  clear_value x3
  extract_lets -merge +onlyGivenNames x8
  have h9 : Touches 0x80700000000408000000002080000000000006d9415000000000000000000000000000000000000000000000000000000000000000000000000000000000022060215 s x8 := by
    unfold x8
    refine Touches.step (State.queueRegs_touches ..) rfl ?_
    exact Touches.trans h7 (State.inc_touches _ _ _ rfl 345 rfl (grp_SCHED_Q_ADMITTED _))
  clear_value x8
  refine Touches.ite ?_ ?_
  · exact h9
  · exact Touches.step (State.makeReady_touches ..) rfl h9

theorem State.refuse_touches (s : State) (src : Nat) (ring : Bool) (d : List Nat) (sts : Nat) (detail : Nat) : Touches 0x8070000000040800000000000000000000000029495000000000000000000000000000000000000000000000000000000000000000000000000000000000022020215 s (State.refuse s src ring d sts detail) := by
  unfold State.refuse
  extract_lets -merge +onlyGivenNames x1
  clear_value x1
  extract_lets -merge +onlyGivenNames x2
  clear_value x2
  extract_lets -merge +onlyGivenNames x3
  have h4 : Touches 0x8070000000040800000000000000000000000029495000000000000000000000000000000000000000000000000000000000000000000000000000000000022020215 s x3 := by unfold x3; exact Touches.step (State.schedReport_touches ..) rfl (Touches.refl _ _)
  clear_value x3
  extract_lets -merge +onlyGivenNames x5
  have h6 : Touches 0x8070000000040800000000000000000000000029495000000000000000000000000000000000000000000000000000000000000000000000000000000000022020215 s x5 := by
    unfold x5
    refine Touches.ite ?_ ?_
    · exact Touches.trans h4 (State.inc_touches _ _ _ rfl 346 rfl (grp_SCHED_Q_REFUSED _))
    · exact h4
  clear_value x5
  extract_lets -merge +onlyGivenNames x7
  have h8 : Touches 0x8070000000040800000000000000000000000029495000000000000000000000000000000000000000000000000000000000000000000000000000000000022020215 s x7 := by
    unfold x7
    refine Touches.ite ?_ ?_
    · exact Touches.step (State.pend_touches ..) rfl h6
    · exact h6
  clear_value x7
  refine Touches.ite ?_ ?_
  · refine Touches.trans ?_ (State.setF_touches _ _ _ rfl 336 rfl grp_SCHED_SUB_STATUS)
    exact Touches.trans h8 (State.setB_touches _ _ _ rfl 336 rfl grp_SCHED_SUB_STATUS)
  · exact Touches.step (State.cplCell_touches ..) rfl (Touches.step (State.cplLog_touches ..) rfl h8)

theorem State.judgeSub_touches (s : State) (src : Nat) (d : List Nat) (ring : Bool) : Touches 0x80700000000408000000002080000000000006f9595000000000000000000000000000000000000000000000000000000000000000000000000000000000022060215 s (State.judgeSub s src d ring) := by
  unfold State.judgeSub
  split
  · exact Touches.step (State.refuse_touches ..) rfl (Touches.refl _ _)
  · extract_lets -merge +onlyGivenNames x1
    clear_value x1
    extract_lets -merge +onlyGivenNames x2
    have h3 : Touches 0x80700000000408000000002080000000000006f9595000000000000000000000000000000000000000000000000000000000000000000000000000000000022060215 s x2 := by unfold x2; exact Touches.step (State.takeWork_touches ..) rfl (Touches.refl _ _)
    clear_value x2
    refine Touches.ite ?_ ?_
    · refine Touches.trans ?_ (State.setF_touches _ _ _ rfl 337 rfl grp_SCHED_SUB_ID)
      refine Touches.trans ?_ (State.setF_touches _ _ _ rfl 336 rfl grp_SCHED_SUB_STATUS)
      exact Touches.trans h3 (State.setB_touches _ _ _ rfl 336 rfl grp_SCHED_SUB_STATUS)
    · exact h3

theorem State.submit_touches (s : State) (src : Nat) (d : List Nat) (ring : Bool) : Touches 0x80700000000408000000002080000000000006f9595000000000000000000000000000000000000000000000000000000000000000000000000000000000022060215 s (State.submit s src d ring) := by
  unfold State.submit
  refine Touches.ite ?_ ?_
  · exact Touches.setSched (Touches.refl _ _) rfl
  · exact Touches.step (State.judgeSub_touches ..) rfl (Touches.refl _ _)

theorem State.admitOpen_touches (s : State) : Touches 0x80700000000408000000002080000000000006f9595000000000000000000000000000000000000000000000000000000000000000000000000000000000022060215 s (State.admitOpen s) := by
  unfold State.admitOpen
  extract_lets -merge +onlyGivenNames x1
  refine Touches.foldl (fun t2 y3 h4 => ?_) ?_
  · exact Touches.step (State.judgeSub_touches ..) rfl h4
  · exact Touches.trans (Touches.setSched (Touches.refl _ _) rfl) (State.setB_touches _ _ _ rfl 333 rfl grp_SCHED_STATUS)

theorem State.writeSub_touches (s : State) (v : Nat) : Touches 0x80700000000408000000002080000000000006f9595000000000000000000000000000000000000000000000000000000000000000002000000000000000022060295 s (State.writeSub s v) := by
  unfold State.writeSub
  refine Touches.ite ?_ ?_
  · exact Touches.step (State.submit_touches ..) rfl (Touches.step (State.wake_touches ..) rfl (Touches.refl _ _))
  · exact Touches.refl _ _

theorem State.trackSubmit_touches (s : State) (seq : Nat) (slot : Nat) (gate : Nat) (deadline : Nat) (p : Nat) : Touches 0x80700000000408000000002080000000000006f9595000000000000000000000000000000000000000000000000000000000000000000000000000000000022060215 s (State.trackSubmit s seq slot gate deadline p) := by
  unfold State.trackSubmit
  split
  · exact Touches.refl _ _
  · exact Touches.step (State.submit_touches ..) rfl (Touches.refl _ _)

theorem State.trackReady_touches (s : State) (slot : Nat) (seq : Nat) : Touches 0x80700000000408000000002080000000000006c9415000000000000000000000000000000000000000000000000000000000000000000000000000000000022060215 s (State.trackReady s slot seq) := by
  unfold State.trackReady
  split
  · refine Touches.ite ?_ ?_
    · exact Touches.step (State.makeReady_touches ..) rfl (Touches.refl _ _)
    · exact Touches.refl _ _
  · exact Touches.refl _ _

theorem State.trackDeadline_touches (s : State) (slot : Nat) (seq : Nat) (d : Nat) : Touches 0x20000 s (State.trackDeadline s slot seq d) := by
  unfold State.trackDeadline
  split
  · exact Touches.step (State.setWork_touches ..) rfl (Touches.refl _ _)
  · exact Touches.refl _ _

theorem State.memberStop_touches (s : State) (g : Nat) : Touches 0x400000000100200000000000000000000000000000000000000000000000000000000000000000000000000c001 s (State.memberStop s g) := by
  unfold State.memberStop
  extract_lets -merge +onlyGivenNames x1
  have h2 : Touches 0x400000000100200000000000000000000000000000000000000000000000000000000000000000000000000c001 s x1 := by unfold x1; exact Touches.step (State.cellCancel_touches ..) rfl (Touches.refl _ _)
  clear_value x1
  refine Touches.trans ?_ (State.setF_touches _ _ _ rfl 282 rfl (grp_GILL_STATUS _))
  exact Touches.step (State.setGl_touches ..) rfl h2

theorem State.freeGills_touches (s : State) (w : Work) : Touches 0x4000000400000000100200000000000000000000000000000000000000000000000000000000000000000000000000c001 s (State.freeGills s w) := by
  unfold State.freeGills
  extract_lets -merge +onlyGivenNames x1
  have h5 : Touches 0x4000000400000000100200000000000000000000000000000000000000000000000000000000000000000000000000c001 s x1 := by
    unfold x1
    refine Touches.ite ?_ ?_
    · exact Touches.refl _ _
    · refine Touches.foldl (fun t2 y3 h4 => ?_) ?_
      · exact Touches.step (State.memberStop_touches ..) rfl h4
      · exact Touches.refl _ _
  clear_value x1
  refine Touches.ite ?_ ?_
  · refine Touches.foldl (fun t6 y7 h8 => ?_) ?_
    · exact Touches.trans h8 (State.setF_touches _ _ _ rfl 359 rfl (grp_SCHED_GILL_RES _))
    · exact h5
  · exact h5

theorem State.finishWork_touches (s : State) (w : Work) (state : Nat) (sts : Nat) : Touches 0x80700000000408000000002080000000000404c941500000000100200000000000000000000000000000000000000000000000000000000000000000000002206c215 s (State.finishWork s w state sts) := by
  unfold State.finishWork
  exact Touches.step (State.endWork_touches ..) rfl (Touches.step (State.freeGills_touches ..) rfl (Touches.refl _ _))

theorem State.release_touches (s : State) (w : Work) (r : QueueRec) : Touches 0x408000000000050408000000000001006000000000000000000000000000000000000000000000000000000000000000000000000068001 s (State.release s w r) := by
  unfold State.release
  extract_lets -merge +onlyGivenNames x1
  clear_value x1
  extract_lets -merge +onlyGivenNames x2
  have h3 : Touches 0x408000000000050408000000000001006000000000000000000000000000000000000000000000000000000000000000000000000068001 s x2 := by unfold x2; exact Touches.step (State.setWork_touches ..) rfl (Touches.refl _ _)
  clear_value x2
  extract_lets -merge +onlyGivenNames x4
  have h8 : Touches 0x408000000000050408000000000001006000000000000000000000000000000000000000000000000000000000000000000000000068001 s x4 := by
    unfold x4
    split
    · exact h3
    · refine Touches.foldl (fun t5 y6 h7 => ?_) ?_
      · refine Touches.trans ?_ (State.setF_touches _ _ _ rfl 359 rfl (grp_SCHED_GILL_RES _))
        exact Touches.step (State.gillStart_touches ..) rfl h7
      · exact h3
  clear_value x4
  extract_lets -merge +onlyGivenNames x9
  have h10 : Touches 0x408000000000050408000000000001006000000000000000000000000000000000000000000000000000000000000000000000000068001 s x9 := by unfold x9; exact Touches.step (State.twOpen_touches ..) rfl h8
  clear_value x9
  extract_lets -merge +onlyGivenNames x11
  clear_value x11
  extract_lets -merge +onlyGivenNames x12
  have h13 : Touches 0x408000000000050408000000000001006000000000000000000000000000000000000000000000000000000000000000000000000068001 s x12 := by
    unfold x12
    refine Touches.ite ?_ ?_
    · exact Touches.trans h10 (State.raise_touches _ _ _ rfl 357 rfl (grp_SCHED_P_START_MAX_US _))
    · exact h10
  clear_value x12
  exact Touches.step (State.queueRegs_touches ..) rfl h13

theorem State.startGang_touches (s : State) (w : Work) (r : QueueRec) : Touches 0x408000000000050408000000000001006000000000000000000000000000000000000000000000000000000000000000000000000068001 s (State.startGang s w r) := by
  unfold State.startGang
  extract_lets -merge +onlyGivenNames x1
  refine Touches.ite ?_ ?_
  · exact Touches.step (State.queueRegs_touches ..) rfl (Touches.step (State.setWork_touches ..) rfl (Touches.refl _ _))
  · refine Touches.ite ?_ ?_
    · exact Touches.step (State.release_touches ..) rfl (Touches.refl _ _)
    · exact Touches.step (State.queueRegs_touches ..) rfl (Touches.step (State.setWork_touches ..) rfl (Touches.refl _ _))

theorem State.preemptStop_touches (s : State) (w : Work) : Touches 0x80700000000408000000005c28000000000085080050080000011fe00000000000000000000000000000000000000000000000000000000000000000000012207da15 s (State.preemptStop s w) := by
  unfold State.preemptStop
  extract_lets -merge +onlyGivenNames x1
  have h9 : Touches 0x80700000000408000000005c28000000000085080050080000011fe00000000000000000000000000000000000000000000000000000000000000000000012207da15 s x1 := by
    unfold x1
    refine Touches.foldl (fun t2 y3 h4 => ?_) ?_
    · extract_lets -merge +onlyGivenNames x5
      have h6 : Touches 0x80700000000408000000005c28000000000085080050080000011fe00000000000000000000000000000000000000000000000000000000000000000000012207da15 s x5 := by
        unfold x5
        refine Touches.ite ?_ ?_
        · exact Touches.step (State.issueCore_touches ..) rfl h4
        · exact h4
      clear_value x5
      refine Touches.ite ?_ ?_
      · extract_lets -merge +onlyGivenNames x7
        have h8 : Touches 0x80700000000408000000005c28000000000085080050080000011fe00000000000000000000000000000000000000000000000000000000000000000000012207da15 s x7 := by unfold x7; exact Touches.step (State.cellCancel_touches ..) rfl h6
        clear_value x7
        refine Touches.trans ?_ (State.setF_touches _ _ _ rfl 282 rfl (grp_GILL_STATUS _))
        exact Touches.step (State.setGl_touches ..) rfl h8
      · exact h6
    · exact Touches.refl _ _
  clear_value x1
  extract_lets -merge +onlyGivenNames x10
  clear_value x10
  extract_lets -merge +onlyGivenNames x11
  have h12 : Touches 0x80700000000408000000005c28000000000085080050080000011fe00000000000000000000000000000000000000000000000000000000000000000000012207da15 s x11 := by unfold x11; exact Touches.step (State.setWork_touches ..) rfl h9
  clear_value x11
  extract_lets -merge +onlyGivenNames x13
  have h14 : Touches 0x80700000000408000000005c28000000000085080050080000011fe00000000000000000000000000000000000000000000000000000000000000000000012207da15 s x13 := by unfold x13; exact Touches.trans h12 (State.inc_touches _ _ _ rfl 349 rfl (grp_SCHED_Q_PREEMPTED _))
  clear_value x13
  extract_lets -merge +onlyGivenNames x15
  have h16 : Touches 0x80700000000408000000005c28000000000085080050080000011fe00000000000000000000000000000000000000000000000000000000000000000000012207da15 s x15 := by
    unfold x15
    split
    · exact Touches.trans h14 (State.inc_touches _ _ _ rfl 356 rfl (grp_SCHED_P_PREEMPTS _))
    · exact h14
  clear_value x15
  extract_lets -merge +onlyGivenNames x17
  have h18 : Touches 0x80700000000408000000005c28000000000085080050080000011fe00000000000000000000000000000000000000000000000000000000000000000000012207da15 s x17 := by
    unfold x17
    refine Touches.ite ?_ ?_
    · refine Touches.trans ?_ (State.timing_touches _ _ _ rfl 400 rfl grp_SYS_REPRO_STATUS 411 rfl (Grp.some grp_MESH_TW_FLAGS))
      exact h16
    · exact Touches.trans h16 (State.timing_touches _ _ _ rfl 400 rfl grp_SYS_REPRO_STATUS 1 rfl Grp.none)
  clear_value x17
  exact Touches.step (State.queueRegs_touches ..) rfl h18

theorem State.tryPreempt_touches (s : State) (w : Work) : Touches 0x80700000000408000000005c28000000000085080050080000011fe00000000000000000000000000000000000000000000000000000000000000000000012207da15 s (State.tryPreempt s w) := by
  unfold State.tryPreempt
  extract_lets -merge +onlyGivenNames x1
  clear_value x1
  extract_lets -merge +onlyGivenNames x2
  refine Touches.ite ?_ ?_
  · refine Touches.foldl (fun t3 y4 h5 => ?_) ?_
    · exact Touches.step (State.preemptStop_touches ..) rfl h5
    · exact Touches.refl _ _
  · exact Touches.refl _ _

theorem State.dispatchLoop_touches (s : State) (taken : List Nat) (a2 : List Work) : Touches 0x80700000000408000000007ca8000000000587c94150080000011fe00000000000000000000000000000000000000000000000000000000000000000000012207da15 s (State.dispatchLoop s taken a2) := by
  fun_induction State.dispatchLoop s taken a2
  · rename_i x1 x2
    exact Touches.refl _ _
  · rename_i x3 x4 x5 x6 e7 e8
    exact e8
  · rename_i x9 x10 x11 x12 x13 e14 x15 x16 e17 e18 e19
    have h20 : Touches 0x80700000000408000000007ca8000000000587c94150080000011fe00000000000000000000000000000000000000000000000000000000000000000000012207da15 x9 x16 := by
      refine Touches.of_eq (fun d => d.2) e17 ?_
      refine Touches.ite2 ?_ ?_
      · exact Touches.step (State.doomCheck_touches ..) rfl (Touches.refl _ _)
      · exact Touches.pair2 (Touches.refl _ _)
    exact Touches.trans h20 e19
  · rename_i x21 x22 x23 x24 x25 e26 x27 x28 e29 e30 x31 e32
    have h33 : Touches 0x80700000000408000000007ca8000000000587c94150080000011fe00000000000000000000000000000000000000000000000000000000000000000000012207da15 x21 x28 := by
      refine Touches.of_eq (fun d => d.2) e29 ?_
      refine Touches.ite2 ?_ ?_
      · exact Touches.step (State.doomCheck_touches ..) rfl (Touches.refl _ _)
      · exact Touches.pair2 (Touches.refl _ _)
    have h34 : Touches 0x80700000000408000000007ca8000000000587c94150080000011fe00000000000000000000000000000000000000000000000000000000000000000000012207da15 x21 x31 := by
      unfold x31
      refine Touches.ite ?_ ?_
      · exact h33
      · refine Touches.ite ?_ ?_
        · exact Touches.step (State.startGang_touches ..) rfl h33
        · refine Touches.ite ?_ ?_
          · exact Touches.step (State.tryPreempt_touches ..) rfl h33
          · exact h33
    exact Touches.trans h34 e32

theorem State.handLoop_touches (s : State) (ex : Nat) (a2 : List Work) : Touches 0x80700000000408000000006080000000000006c9415008000000000000000000000000000000000000000000000000000000000000000000000000000000022061215 s (State.handLoop s ex a2) := by
  fun_induction State.handLoop s ex a2
  · rename_i x1
    exact Touches.refl _ _
  · rename_i x2 x3 x4 e5 x6 x7 e8 e9 e10
    have h11 : Touches 0x80700000000408000000006080000000000006c9415008000000000000000000000000000000000000000000000000000000000000000000000000000000022061215 x2 x7 := Touches.of_eq (fun d => d.2) e8 (Touches.step (State.doomCheck_touches ..) rfl (Touches.refl _ _))
    exact Touches.trans h11 e10
  · rename_i x12 x13 x14 e15 x16 x17 e18 e19 x20 x21 x22 e23
    have h24 : Touches 0x80700000000408000000006080000000000006c9415008000000000000000000000000000000000000000000000000000000000000000000000000000000022061215 x12 x17 := Touches.of_eq (fun d => d.2) e18 (Touches.step (State.doomCheck_touches ..) rfl (Touches.refl _ _))
    have h25 : Touches 0x80700000000408000000006080000000000006c9415008000000000000000000000000000000000000000000000000000000000000000000000000000000022061215 x12 x20 := by unfold x20; exact Touches.step (State.queueRegs_touches ..) rfl (Touches.step (State.setWork_touches ..) rfl h24)
    have h26 : Touches 0x80700000000408000000006080000000000006c9415008000000000000000000000000000000000000000000000000000000000000000000000000000000022061215 x12 x21 := by unfold x21; exact Touches.step (State.twOpen_touches ..) rfl h25
    have h27 : Touches 0x80700000000408000000006080000000000006c9415008000000000000000000000000000000000000000000000000000000000000000000000000000000022061215 x12 x22 := by
      unfold x22
      refine Touches.ite ?_ ?_
      · exact Touches.step (State.chainPush_touches ..) rfl h26
      · exact h26
    exact Touches.trans h27 e23
  · rename_i x28 x29 x30 e31
    exact Touches.refl _ _

theorem State.dispatch_touches (s : State) (ex : Nat) : Touches 0x80700000000408000000007ca8000000000587c94150080000011fe00000000000000000000000000000000000000000000000000000000000000000000012207da15 s (State.dispatch s ex) := by
  unfold State.dispatch
  refine Touches.ite ?_ ?_
  · exact Touches.refl _ _
  · refine Touches.ite ?_ ?_
    · exact Touches.step (State.dispatchLoop_touches ..) rfl (Touches.refl _ _)
    · exact Touches.step (State.handLoop_touches ..) rfl (Touches.refl _ _)

theorem State.stealToken_touches (s : State) (p : Nat) : Touches 0x800000000020000000000000000000000000000000000000000000000000000000000000000000000000000000000000000100020001 s (State.stealToken s p) := by
  unfold State.stealToken
  extract_lets -merge +onlyGivenNames x1
  extract_lets -merge +onlyGivenNames x2
  clear_value x2
  extract_lets -merge +onlyGivenNames x3
  clear_value x3
  extract_lets -merge +onlyGivenNames x4
  clear_value x4
  extract_lets -merge +onlyGivenNames x5
  clear_value x5
  extract_lets -merge +onlyGivenNames x6
  have h11 : Touches 0x800000000020000000000000000000000000000000000000000000000000000000000000000000000000000000000000000100020001 s x6 := by
    unfold x6
    split
    · refine Touches.trans ?_ (State.timing_touches _ _ _ rfl 400 rfl grp_SYS_REPRO_STATUS 1 rfl Grp.none)
      refine Touches.trans ?_ (State.inc_touches _ _ _ rfl 358 rfl (grp_SCHED_P_STEALS _))
      exact Touches.step (State.setWork_touches ..) rfl (Touches.refl _ _)
    · rename_i x7 x8 x9 e10
      exact Touches.refl _ _
  clear_value x6
  clear_value x1
  exact Touches.setSched h11 rfl

theorem State.quantumExpiry_touches (s : State) (id : Nat) : Touches 0x80700000000408000000007ca8000000000587c94150080000011fe00000000000000000000000000000000000000000000000000000000000000000000012207da15 s (State.quantumExpiry s id) := by
  unfold State.quantumExpiry
  split
  · refine Touches.ite ?_ ?_
    · extract_lets -merge +onlyGivenNames x1
      have h2 : Touches 0x80700000000408000000007ca8000000000587c94150080000011fe00000000000000000000000000000000000000000000000000000000000000000000012207da15 s x1 := by unfold x1; exact Touches.step (State.setWork_touches ..) rfl (Touches.refl _ _)
      clear_value x1
      split
      · exact Touches.step (State.dispatch_touches ..) rfl h2
      · exact h2
    · exact Touches.refl _ _
  · exact Touches.refl _ _

theorem State.swapDone_touches (s : State) (g : Nat) : Touches 0x20807000000004080101000060a0000000000544c9415001e9c08100600000000000000000000000000000000000000000000000000000000000000000000002606ce15 s (State.swapDone s g) := by
  unfold State.swapDone
  split
  · exact Touches.refl _ _
  · split
    · exact Touches.refl _ _
    · split
      · exact Touches.refl _ _
      · extract_lets -merge +onlyGivenNames x1
        clear_value x1
        extract_lets -merge +onlyGivenNames x2
        have h16 : Touches 0x20807000000004080101000060a0000000000544c9415001e9c08100600000000000000000000000000000000000000000000000000000000000000000000002606ce15 s x2.2 := by
          unfold x2
          refine Touches.foldlOf (fun d : _ × _ => d.2) (fun t3 y4 h5 => ?_) ?_
          · refine Touches.ite2 ?_ ?_
            · split
              · rename_i x6 x7 x8 e9
                have h10 : Touches 0x20807000000004080101000060a0000000000544c9415001e9c08100600000000000000000000000000000000000000000000000000000000000000000000002606ce15 s x8 := Touches.of_eq (fun d => d.2) e9 (Touches.step (State.vread_touches ..) rfl h5)
                exact Touches.pair2 (Touches.step (State.setSram_touches ..) rfl h10)
              · rename_i x11 x12 x13 e14
                have h15 : Touches 0x20807000000004080101000060a0000000000544c9415001e9c08100600000000000000000000000000000000000000000000000000000000000000000000002606ce15 s x13 := Touches.of_eq (fun d => d.2) e14 (Touches.step (State.vread_touches ..) rfl h5)
                exact h15
            · exact h5
          · exact Touches.pair2 (Touches.refl _ _)
        clear_value x2
        refine Touches.ite ?_ ?_
        · extract_lets -merge +onlyGivenNames x17
          have h18 : Touches 0x20807000000004080101000060a0000000000544c9415001e9c08100600000000000000000000000000000000000000000000000000000000000000000000002606ce15 s x17 := by
            unfold x17
            refine Touches.trans ?_ (State.raise_touches _ _ _ rfl 355 rfl (grp_SCHED_P_SWAP_MAX_US _))
            exact Touches.trans h16 (State.setF_touches _ _ _ rfl 359 rfl (grp_SCHED_GILL_RES _))
          clear_value x17
          extract_lets -merge +onlyGivenNames x19
          extract_lets -merge +onlyGivenNames x20
          clear_value x20
          extract_lets -merge +onlyGivenNames x21
          have h22 : Touches 0x20807000000004080101000060a0000000000544c9415001e9c08100600000000000000000000000000000000000000000000000000000000000000000000002606ce15 s x21 := by unfold x21; exact Touches.step (State.setWork_touches ..) rfl h18
          clear_value x21
          refine Touches.ite ?_ ?_
          · exact Touches.step (State.release_touches ..) rfl h22
          · exact h22
        · extract_lets -merge +onlyGivenNames x23
          have h24 : Touches 0x20807000000004080101000060a0000000000544c9415001e9c08100600000000000000000000000000000000000000000000000000000000000000000000002606ce15 s x23 := by unfold x23; exact Touches.trans h16 (State.setF_touches _ _ _ rfl 359 rfl (grp_SCHED_GILL_RES _))
          clear_value x23
          exact Touches.step (State.finishWork_touches ..) rfl (Touches.step (State.schedReport_touches ..) rfl h24)

theorem State.drainDone_touches (s : State) (id : Nat) : Touches 0x20000 s (State.drainDone s id) := by
  unfold State.drainDone
  split
  · exact Touches.refl _ _
  · refine Touches.ite ?_ ?_
    · exact Touches.step (State.setWork_touches ..) rfl (Touches.refl _ _)
    · exact Touches.refl _ _

theorem State.storeImage_touches (s : State) (part : Nat) (level : Nat) (g : Nat) : Touches 0x412 s (State.storeImage s part level g) := by
  unfold State.storeImage
  split
  · exact Touches.refl _ _
  · refine Touches.foldl (fun t1 y2 h3 => ?_) ?_
    · exact Touches.step (State.physWrite_touches ..) rfl h3
    · exact Touches.step (State.fresh_touches ..) rfl (Touches.refl _ _)

theorem State.saveWalkFail_touches (s : State) (part : Nat) (level : Nat) (g : Nat) : Touches 0x807000000004080000000000000000000000000000000000c080000000000000000000000000000000000000000000000000000000000000000000000000022000615 s (State.saveWalkFail s part level g) := by
  unfold State.saveWalkFail
  extract_lets -merge +onlyGivenNames x1
  clear_value x1
  exact Touches.step (State.txFail_touches ..) rfl (Touches.refl _ _)

theorem State.saveDone_touches (s : State) (id : Nat) (bad : Option Nat) : Touches 0x80700000000408000000002080000000000414c941500000c08100200000000000000000000000000000000000000000000000000000000000000000000002206c617 s (State.saveDone s id bad) := by
  unfold State.saveDone
  split
  · exact Touches.refl _ _
  · refine Touches.ite ?_ ?_
    · extract_lets -merge +onlyGivenNames x1
      clear_value x1
      split
      · refine Touches.step (State.finishWork_touches ..) rfl ?_
        refine Touches.step (State.schedReport_touches ..) rfl ?_
        exact Touches.step (State.saveWalkFail_touches ..) rfl (Touches.refl _ _)
      · extract_lets -merge +onlyGivenNames x2
        extract_lets -merge +onlyGivenNames x3
        have h7 : Touches 0x80700000000408000000002080000000000414c941500000c08100200000000000000000000000000000000000000000000000000000000000000000000002206c617 s x3 := by
          unfold x3
          refine Touches.foldl (fun t4 y5 h6 => ?_) ?_
          · refine Touches.trans ?_ (State.setF_touches _ _ _ rfl 359 rfl (grp_SCHED_GILL_RES _))
            exact Touches.trans h6 (State.setF_touches _ _ _ rfl 282 rfl (grp_GILL_STATUS _))
          · exact Touches.refl _ _
        clear_value x3
        clear_value x2
        extract_lets -merge +onlyGivenNames x8
        have h12 : Touches 0x80700000000408000000002080000000000414c941500000c08100200000000000000000000000000000000000000000000000000000000000000000000002206c617 s x8 := by
          unfold x8
          refine Touches.foldl (fun t9 y10 h11 => ?_) ?_
          · exact Touches.step (State.storeImage_touches ..) rfl h11
          · exact h7
        clear_value x8
        extract_lets -merge +onlyGivenNames x13
        have h14 : Touches 0x80700000000408000000002080000000000414c941500000c08100200000000000000000000000000000000000000000000000000000000000000000000002206c617 s x13 := by unfold x13; exact Touches.trans h12 (State.raise_touches _ _ _ rfl 353 rfl (grp_SCHED_P_SAVE_MAX_US _))
        clear_value x13
        exact Touches.step (State.queueRegs_touches ..) rfl (Touches.step (State.setWork_touches ..) rfl h14)
    · exact Touches.refl _ _

theorem State.imageRead_touches (g : Nat) (a1 : Nat) (a2 : State) (a3 : Nat) : Touches 0x208070000000040800000000002000000000000000000001e8c080000000000000000000000000000000000000000000000000000000000000000000000000022000615 a2 (State.imageRead g a1 a2 a3).2 := by
  fun_induction State.imageRead g a1 a2 a3
  · rename_i x1 x2
    exact Touches.pair2 (Touches.refl _ _)
  · rename_i x3 x4 x5 x6 e7 x8 x9 e10 e11
    have h12 : Touches 0x208070000000040800000000002000000000000000000001e8c080000000000000000000000000000000000000000000000000000000000000000000000000022000615 x4 x6 := Touches.of_eq (fun d => d.2) e7 (Touches.step (State.eccRead_touches ..) rfl (Touches.refl _ _))
    have h13 : Touches 0x208070000000040800000000002000000000000000000001e8c080000000000000000000000000000000000000000000000000000000000000000000000000022000615 x4 x9 := Touches.of_eq (fun d => d.2) e10 (Touches.trans h12 e11)
    exact h13
  · rename_i x14 x15 x16 x17 e18
    have h19 : Touches 0x208070000000040800000000002000000000000000000001e8c080000000000000000000000000000000000000000000000000000000000000000000000000022000615 x15 x17 := Touches.of_eq (fun d => d.2) e18 (Touches.step (State.eccRead_touches ..) rfl (Touches.refl _ _))
    exact Touches.pair2 (Touches.step (State.txFail_touches ..) rfl h19)

theorem State.restoreLive_touches (s : State) (g : Nat) (pr : ProgRec) (b : List Byte) : Touches 0x800 s (State.restoreLive s g pr b) := by
  unfold State.restoreLive
  refine Touches.foldl (fun t1 y2 h3 => ?_) ?_
  · refine Touches.foldlOf (fun d : _ × _ => d.2) (fun t4 y5 h6 => ?_) ?_
    · exact Touches.pair2 (Touches.step (State.setSram_touches ..) rfl h6)
    · exact h3
  · exact Touches.refl _ _

theorem State.restoreMember_touches (s : State) (part : Nat) (level : Nat) (m : Saved) : Touches 0x208070000000040800000000002000000000000000000001e8c081006000000000000000000000000000000000000000000000000000000000000000000000022008e15 s (State.restoreMember s part level m).2 := by
  unfold State.restoreMember
  extract_lets -merge +onlyGivenNames x1
  have h2 : Touches 0x208070000000040800000000002000000000000000000001e8c081006000000000000000000000000000000000000000000000000000000000000000000000022008e15 s x1 := by unfold x1; exact Touches.step (State.setGl_touches ..) rfl (Touches.refl _ _)
  clear_value x1
  extract_lets -merge +onlyGivenNames x3
  have h4 : Touches 0x208070000000040800000000002000000000000000000001e8c081006000000000000000000000000000000000000000000000000000000000000000000000022008e15 s x3 := by
    unfold x3
    refine Touches.trans ?_ (State.setF_touches _ _ _ rfl 282 rfl (grp_GILL_STATUS _))
    refine Touches.trans ?_ (State.setF_touches _ _ _ rfl 283 rfl (grp_GILL_PC _))
    exact Touches.trans h2 (State.setF_touches _ _ _ rfl 283 rfl (grp_GILL_PC _))
  clear_value x3
  split
  · split
    · rename_i x5 x6 x7 e8
      have h9 : Touches 0x208070000000040800000000002000000000000000000001e8c081006000000000000000000000000000000000000000000000000000000000000000000000022008e15 s x7 := Touches.of_eq (fun d => d.2) e8 (Touches.step (State.imageRead_touches ..) rfl h4)
      exact Touches.pair2 (Touches.step (State.restoreLive_touches ..) rfl h9)
    · rename_i x10 x11 e12
      have h13 : Touches 0x208070000000040800000000002000000000000000000001e8c081006000000000000000000000000000000000000000000000000000000000000000000000022008e15 s x11 := Touches.of_eq (fun d => d.2) e12 (Touches.step (State.imageRead_touches ..) rfl h4)
      exact h13
  · rename_i x14 x15 e16
    exact h4

theorem State.restoreAll_touches (part : Nat) (level : Nat) (a2 : List Saved) (a3 : State) : Touches 0x208070000000040800000000002000000000000000000001e8c081006000000000000000000000000000000000000000000000000000000000000000000000022008e15 a3 (State.restoreAll part level a2 a3).2 := by
  fun_induction State.restoreAll part level a2 a3
  · rename_i x1
    exact Touches.pair2 (Touches.refl _ _)
  · rename_i x2 x3 x4 x5 e6 e7
    have h8 : Touches 0x208070000000040800000000002000000000000000000001e8c081006000000000000000000000000000000000000000000000000000000000000000000000022008e15 x4 x5 := Touches.of_eq (fun d => d.2) e6 (Touches.step (State.restoreMember_touches ..) rfl (Touches.refl _ _))
    exact Touches.trans h8 e7
  · rename_i x9 x10 x11 x12 e13
    have h14 : Touches 0x208070000000040800000000002000000000000000000001e8c081006000000000000000000000000000000000000000000000000000000000000000000000022008e15 x11 x12 := Touches.of_eq (fun d => d.2) e13 (Touches.step (State.restoreMember_touches ..) rfl (Touches.refl _ _))
    exact h14

theorem State.restoreDone_touches (s : State) (id : Nat) (bad : Option Nat) : Touches 0x20807000000004080000000020a0000000000424c9415001e8c08100600000000000000000000000000000000000000000000000000000000000000000000002206ce15 s (State.restoreDone s id bad) := by
  unfold State.restoreDone
  split
  · exact Touches.refl _ _
  · refine Touches.ite ?_ ?_
    · extract_lets -merge +onlyGivenNames x1
      clear_value x1
      extract_lets -merge +onlyGivenNames x2
      clear_value x2
      extract_lets -merge +onlyGivenNames x3
      have h4 : Touches 0x20807000000004080000000020a0000000000424c9415001e8c08100600000000000000000000000000000000000000000000000000000000000000000000002206ce15 s x3.2 := by
        unfold x3
        split
        · exact Touches.pair2 (Touches.step (State.saveWalkFail_touches ..) rfl (Touches.refl _ _))
        · exact Touches.step (State.restoreAll_touches ..) rfl (Touches.refl _ _)
      clear_value x3
      split
      · rename_i x5 x6 x7
        exact Touches.step (State.finishWork_touches ..) rfl (Touches.step (State.schedReport_touches ..) rfl h4)
      · rename_i x8 x9
        extract_lets -merge +onlyGivenNames x10
        have h14 : Touches 0x20807000000004080000000020a0000000000424c9415001e8c08100600000000000000000000000000000000000000000000000000000000000000000000002206ce15 s x10 := by
          unfold x10
          refine Touches.foldl (fun t11 y12 h13 => ?_) ?_
          · refine Touches.trans ?_ (State.setF_touches _ _ _ rfl 359 rfl (grp_SCHED_GILL_RES _))
            exact Touches.trans h13 (State.setF_touches _ _ _ rfl 359 rfl (grp_SCHED_GILL_RES _))
          · exact h4
        clear_value x10
        extract_lets -merge +onlyGivenNames x15
        have h16 : Touches 0x20807000000004080000000020a0000000000424c9415001e8c08100600000000000000000000000000000000000000000000000000000000000000000000002206ce15 s x15 := by unfold x15; exact Touches.trans h14 (State.raise_touches _ _ _ rfl 354 rfl (grp_SCHED_P_RESTORE_MAX_US _))
        clear_value x15
        exact Touches.step (State.queueRegs_touches ..) rfl (Touches.step (State.setWork_touches ..) rfl h16)
    · exact Touches.refl _ _

theorem State.gangEnd_touches (s : State) (id : Nat) : Touches 0x80700000000408000000002080000000000404c941500000000100200000000000000000000000000000000000000000000000000000000000000000000002206e215 s (State.gangEnd s id) := by
  unfold State.gangEnd
  split
  · exact Touches.refl _ _
  · refine Touches.ite ?_ ?_
    · split
      · exact Touches.refl _ _
      · extract_lets -merge +onlyGivenNames x1
        have h2 : Touches 0x80700000000408000000002080000000000404c941500000000100200000000000000000000000000000000000000000000000000000000000000000000002206e215 s x1 := by unfold x1; exact Touches.setChainsDone (Touches.refl _ _) rfl
        clear_value x1
        exact Touches.step (State.endWork_touches ..) rfl h2
    · refine Touches.ite ?_ ?_
      · split
        · exact Touches.step (State.finishWork_touches ..) rfl (Touches.refl _ _)
        · refine Touches.ite ?_ ?_
          · exact Touches.step (State.finishWork_touches ..) rfl (Touches.refl _ _)
          · exact Touches.refl _ _
      · exact Touches.refl _ _

theorem State.cancelWork_touches (s : State) (w : Work) : Touches 0x80700000000408000000002080000000000404c941500000000100200000000000000000000000000000000000000000000000000000000000000000000002206c215 s (State.cancelWork s w) := by
  unfold State.cancelWork
  exact Touches.step (State.finishWork_touches ..) rfl (Touches.refl _ _)

theorem State.hostCancel_touches (s : State) (id : Nat) : Touches 0x80700000000408000000002080000000000404c941500000000100200000000000000000000000000000000000000000000000000000000000000000000002206c215 s (State.hostCancel s id) := by
  unfold State.hostCancel
  split
  · refine Touches.ite ?_ ?_
    · exact Touches.step (State.schedReport_touches ..) rfl (Touches.refl _ _)
    · exact Touches.step (State.cancelWork_touches ..) rfl (Touches.refl _ _)
  · exact Touches.step (State.schedReport_touches ..) rfl (Touches.refl _ _)

theorem State.trackCancel_touches (s : State) (slot : Nat) (seq : Nat) : Touches 0x80700000000408000000002080000000000404c941500000000100200000000000000000000000000000000000000000000000000000000000000000000002206c215 s (State.trackCancel s slot seq) := by
  unfold State.trackCancel
  split
  · exact Touches.step (State.cancelWork_touches ..) rfl (Touches.refl _ _)
  · exact Touches.setSched (Touches.refl _ _) rfl

theorem State.workMessage_touches (s : State) (src : Nat) : Touches 0x80700000000408000000002080000000000006f9595000000001000000000000000000000000000000000000000000000000000000000000000000000000022078215 s (State.workMessage s src) := by
  unfold State.workMessage
  split
  · rename_i x1 x2 e3
    have h4 : Touches 0x80700000000408000000002080000000000006f9595000000001000000000000000000000000000000000000000000000000000000000000000000000000022078215 s x2 := Touches.of_eq (fun d => d.2) e3 (Touches.step (State.takeFlight_touches ..) rfl (Touches.refl _ _))
    exact h4
  · rename_i x5 x6 x7 e8
    have h9 : Touches 0x80700000000408000000002080000000000006f9595000000001000000000000000000000000000000000000000000000000000000000000000000000000022078215 s x7 := Touches.of_eq (fun d => d.2) e8 (Touches.step (State.takeFlight_touches ..) rfl (Touches.refl _ _))
    extract_lets -merge +onlyGivenNames x10
    have h11 : Touches 0x80700000000408000000002080000000000006f9595000000001000000000000000000000000000000000000000000000000000000000000000000000000022078215 s x10 := by unfold x10; exact Touches.step (State.settleAll_touches ..) rfl h9
    clear_value x10
    refine Touches.ite ?_ ?_
    · exact Touches.step (State.submit_touches ..) rfl h11
    · exact h11

end Sys2Proof.Machine
end

