-- ==== Sys2Proof/Laws/FramePrefix.lean ====
section
/-! SUPPORT. What each operation of Machine/Prefix.lean can do: the parts of the state it touches (Touches). -/

-- One declaration at a time: many proofs at once would each hold a thread with a large stack.
set_option Elab.async false

namespace Sys2Proof.Machine

theorem State.nodeGet_touches (s : State) (n : Nat) : Touches 0x208070000000040801010000002000000000000000000001e9c080000000000000000000000000000000000000000000000000000000000000000000000000026000615 s (State.nodeGet s n).2 := by
  unfold State.nodeGet
  split
  · rename_i x1 x2 x3 e4
    have h5 : Touches 0x208070000000040801010000002000000000000000000001e9c080000000000000000000000000000000000000000000000000000000000000000000000000026000615 s x3 := Touches.of_eq (fun d => d.2) e4 (Touches.step (State.vread_touches ..) rfl (Touches.refl _ _))
    exact h5
  · rename_i x6 x7 x8 e9
    have h10 : Touches 0x208070000000040801010000002000000000000000000001e9c080000000000000000000000000000000000000000000000000000000000000000000000000026000615 s x8 := Touches.of_eq (fun d => d.2) e9 (Touches.step (State.vread_touches ..) rfl (Touches.refl _ _))
    exact h10

theorem State.nodePut_touches (s : State) (n : Nat) (x : PNode) : Touches 0x807000000004080101000000000000000040000000000001c080000000000000000000000000000000000000000000000000000000000000000000000000026000617 s (State.nodePut s n x).2 := by
  unfold State.nodePut
  split
  · rename_i x1 x2 e3
    have h4 : Touches 0x807000000004080101000000000000000040000000000001c080000000000000000000000000000000000000000000000000000000000000000000000000026000617 s x2 := Touches.of_eq (fun d => d.2) e3 (Touches.step (State.vwrite_touches ..) rfl (Touches.refl _ _))
    exact h4
  · rename_i x5 x6 x7 e8
    have h9 : Touches 0x807000000004080101000000000000000040000000000001c080000000000000000000000000000000000000000000000000000000000000000000000000026000617 s x7 := Touches.of_eq (fun d => d.2) e8 (Touches.step (State.vwrite_touches ..) rfl (Touches.refl _ _))
    exact Touches.pair2 (Touches.trans h9 (State.setB_touches _ _ _ rfl 363 rfl grp_PFX_STATUS))

theorem State.nodePuts_touches (s : State) (a1 : List (Nat × PNode)) : Touches 0x807000000004080101000000000000000040000000000001c080000000000000000000000000000000000000000000000000000000000000000000000000026000617 s (State.nodePuts s a1).2 := by
  fun_induction State.nodePuts s a1
  · rename_i x1
    exact Touches.pair2 (Touches.refl _ _)
  · rename_i x2 x3 x4 x5 x6 e7 e8
    have h9 : Touches 0x807000000004080101000000000000000040000000000001c080000000000000000000000000000000000000000000000000000000000000000000000000026000617 x2 x6 := Touches.of_eq (fun d => d.2) e7 (Touches.step (State.nodePut_touches ..) rfl (Touches.refl _ _))
    exact Touches.trans h9 e8
  · rename_i x10 x11 x12 x13 x14 x15 e16
    have h17 : Touches 0x807000000004080101000000000000000040000000000001c080000000000000000000000000000000000000000000000000000000000000000000000000026000617 x10 x15 := Touches.of_eq (fun d => d.2) e16 (Touches.step (State.nodePut_touches ..) rfl (Touches.refl _ _))
    exact h17

theorem State.pfxRegs_touches (s : State) : Touches 0x8000000000000000000000000000000000000000000000000000000000000000000000000000000000000000000000000001 s (State.pfxRegs s) := by
  unfold State.pfxRegs
  refine Touches.trans ?_ (State.setF_touches _ _ _ rfl 368 rfl grp_PFX_USED)
  exact State.setF_touches _ _ _ rfl 368 rfl grp_PFX_USED

theorem State.candPut_touches (s : State) (n : Nat) (x : PNode) : Touches 0x800000 s (State.candPut s n x) := by
  unfold State.candPut
  extract_lets -merge +onlyGivenNames x1
  clear_value x1
  exact Touches.setPfx (Touches.refl _ _) rfl

theorem State.recipe_touches (s : State) (va : Nat) (len : Nat) : Touches 0x208070000000040801010000002000000000000000000001e9c080000000000000000000000000000000000000000000000000000000000000000000000000026000615 s (State.recipe s va len).2 := by
  unfold State.recipe
  refine Touches.ite2 ?_ ?_
  · exact Touches.pair2 (Touches.refl _ _)
  · split
    · rename_i x1 x2 x3 e4
      have h5 : Touches 0x208070000000040801010000002000000000000000000001e9c080000000000000000000000000000000000000000000000000000000000000000000000000026000615 s x3 := Touches.of_eq (fun d => d.2) e4 (Touches.step (State.vread_touches ..) rfl (Touches.refl _ _))
      exact h5
    · rename_i x6 x7 x8 e9
      have h10 : Touches 0x208070000000040801010000002000000000000000000001e9c080000000000000000000000000000000000000000000000000000000000000000000000000026000615 s x8 := Touches.of_eq (fun d => d.2) e9 (Touches.step (State.vread_touches ..) rfl (Touches.refl _ _))
      extract_lets -merge +onlyGivenNames x11
      split
      · exact h10
      · exact h10

theorem State.childOf_touches (tok : Nat) (a1 : Nat) (a2 : State) (a3 : Nat) (a4 : Option Nat) : Touches 0x208070000000040801010000002000000000000000000001e9c080000000000000000000000000000000000000000000000000000000000000000000000000026000615 a2 (State.childOf tok a1 a2 a3 a4).2 := by
  fun_induction State.childOf tok a1 a2 a3 a4
  · rename_i x1 x2 x3
    exact Touches.pair2 (Touches.refl _ _)
  · rename_i x4 x5 x6
    exact Touches.pair2 (Touches.refl _ _)
  · rename_i x7 x8 x9 x10 e11 x12 x13 e14
    have h15 : Touches 0x208070000000040801010000002000000000000000000001e9c080000000000000000000000000000000000000000000000000000000000000000000000000026000615 x8 x13 := Touches.of_eq (fun d => d.2) e14 (Touches.step (State.nodeGet_touches ..) rfl (Touches.refl _ _))
    exact h15
  · rename_i x16 x17 x18 x19 e20 x21 x22 e23 x24 e25
    have h26 : Touches 0x208070000000040801010000002000000000000000000001e9c080000000000000000000000000000000000000000000000000000000000000000000000000026000615 x17 x22 := Touches.of_eq (fun d => d.2) e23 (Touches.step (State.nodeGet_touches ..) rfl (Touches.refl _ _))
    exact h26
  · rename_i x27 x28 x29 x30 e31 x32 x33 e34 x35 e36 e37
    have h38 : Touches 0x208070000000040801010000002000000000000000000001e9c080000000000000000000000000000000000000000000000000000000000000000000000000026000615 x28 x33 := Touches.of_eq (fun d => d.2) e34 (Touches.step (State.nodeGet_touches ..) rfl (Touches.refl _ _))
    exact h38
  · rename_i x39 x40 x41 x42 e43 x44 x45 e46 x47 e48 e49 e50
    have h51 : Touches 0x208070000000040801010000002000000000000000000001e9c080000000000000000000000000000000000000000000000000000000000000000000000000026000615 x40 x45 := Touches.of_eq (fun d => d.2) e46 (Touches.step (State.nodeGet_touches ..) rfl (Touches.refl _ _))
    exact Touches.trans h51 e50

theorem State.follow_touches (a0 : Nat) (a1 : State) (a2 : List Nat) (a3 : PPath) : Touches 0x208070000000040801010000002000000000000000000001e9c080000000000000000000000000000000000000000000000000000000000000000000000000026000615 a1 (State.follow a0 a1 a2 a3).2 := by
  fun_induction State.follow a0 a1 a2 a3
  · exact Touches.pair2 (Touches.refl _ _)
  · rename_i x5 _ _ _ _ _ _ _ x13 e14
    have h15 : Touches 0x208070000000040801010000002000000000000000000001e9c080000000000000000000000000000000000000000000000000000000000000000000000000026000615 x5 x13 := by
      refine Touches.of_eq (fun d => d.2) e14 ?_
      exact Touches.step (State.childOf_touches ..) rfl (Touches.refl _ _)
    exact Touches.pair2 h15
  · rename_i x17 _ _ _ _ _ _ _ x25 e26
    have h27 : Touches 0x208070000000040801010000002000000000000000000001e9c080000000000000000000000000000000000000000000000000000000000000000000000000026000615 x17 x25 := by
      refine Touches.of_eq (fun d => d.2) e26 ?_
      exact Touches.step (State.childOf_touches ..) rfl (Touches.refl _ _)
    exact Touches.pair2 h27
  · rename_i x29 _ _ _ _ _ _ _ _ _ x39 e40 _ _
    have h43 : Touches 0x208070000000040801010000002000000000000000000001e9c080000000000000000000000000000000000000000000000000000000000000000000000000026000615 x29 x39 := by
      refine Touches.of_eq (fun d => d.2) e40 ?_
      exact Touches.step (State.childOf_touches ..) rfl (Touches.refl _ _)
    extract_lets +onlyGivenNames x44
    split
    · exact Touches.pair2 h43
    · exact Touches.pair2 h43
  · rename_i x48 _ _ _ _ _ _ _ _ _ x58 e59 _ _ e62
    have h63 : Touches 0x208070000000040801010000002000000000000000000001e9c080000000000000000000000000000000000000000000000000000000000000000000000000026000615 x48 x58 := by
      refine Touches.of_eq (fun d => d.2) e59 ?_
      exact Touches.step (State.childOf_touches ..) rfl (Touches.refl _ _)
    extract_lets +onlyGivenNames x64
    split
    · exact Touches.pair2 h63
    · refine Touches.trans ?_ (e62)
      exact h63
  · exact Touches.pair2 (Touches.refl _ _)

theorem State.pathOf_touches (s : State) (tree : Nat) (r : List Nat) : Touches 0x208070000000040801010000002000000000000000000001e9c080000000000000000000000000000000000000000000000000000000000000000000000000026000615 s (State.pathOf s tree r).2 := by
  unfold State.pathOf
  split
  · rename_i x1 x2 x3 e4
    have h5 : Touches 0x208070000000040801010000002000000000000000000001e9c080000000000000000000000000000000000000000000000000000000000000000000000000026000615 s x3 := Touches.of_eq (fun d => d.2) e4 (Touches.step (State.nodeGet_touches ..) rfl (Touches.refl _ _))
    exact h5
  · rename_i x6 x7 x8 e9
    have h10 : Touches 0x208070000000040801010000002000000000000000000001e9c080000000000000000000000000000000000000000000000000000000000000000000000000026000615 s x8 := Touches.of_eq (fun d => d.2) e9 (Touches.step (State.nodeGet_touches ..) rfl (Touches.refl _ _))
    exact Touches.step (State.follow_touches ..) rfl h10

theorem State.nodeSet_touches (s : State) (n : Nat) (x : PNode) : Touches 0x807000000004080101000000000000000040000000000001c080000000000000000000000000000000000000000000000000000000000000000000000000026800617 s (State.nodeSet s n x).2 := by
  unfold State.nodeSet
  split
  · rename_i x1 x2 e3
    have h4 : Touches 0x807000000004080101000000000000000040000000000001c080000000000000000000000000000000000000000000000000000000000000000000000000026800617 s x2 := Touches.of_eq (fun d => d.2) e3 (Touches.step (State.nodePut_touches ..) rfl (Touches.refl _ _))
    exact Touches.pair2 (Touches.step (State.candPut_touches ..) rfl h4)
  · rename_i x5 x6 x7 e8
    have h9 : Touches 0x807000000004080101000000000000000040000000000001c080000000000000000000000000000000000000000000000000000000000000000000000000026800617 s x7 := Touches.of_eq (fun d => d.2) e8 (Touches.step (State.nodePut_touches ..) rfl (Touches.refl _ _))
    exact h9

theorem State.nodeSets_touches (s : State) (a1 : List (Nat × PNode)) : Touches 0x807000000004080101000000000000000040000000000001c080000000000000000000000000000000000000000000000000000000000000000000000000026800617 s (State.nodeSets s a1).2 := by
  fun_induction State.nodeSets s a1
  · rename_i x1
    exact Touches.pair2 (Touches.refl _ _)
  · rename_i x2 x3 x4 x5 x6 e7 e8
    have h9 : Touches 0x807000000004080101000000000000000040000000000001c080000000000000000000000000000000000000000000000000000000000000000000000000026800617 x2 x6 := Touches.of_eq (fun d => d.2) e7 (Touches.step (State.nodeSet_touches ..) rfl (Touches.refl _ _))
    exact Touches.trans h9 e8
  · rename_i x10 x11 x12 x13 x14 x15 e16
    have h17 : Touches 0x807000000004080101000000000000000040000000000001c080000000000000000000000000000000000000000000000000000000000000000000000000026800617 x10 x15 := Touches.of_eq (fun d => d.2) e16 (Touches.step (State.nodeSet_touches ..) rfl (Touches.refl _ _))
    exact h17

theorem State.nextReq_touches (s : State) : Touches 0x800000 s (State.nextReq s).2 := by
  unfold State.nextReq
  exact Touches.pair2 (Touches.setPfx (Touches.refl _ _) rfl)

theorem State.pfxWalk_touches (s : State) (q : PReq) : Touches 0x208070000000040801010000002000000030400000000001e9c080000000000000000000000000000000000000000000000000000000000000000000000000026800617 s (State.pfxWalk s q).2 := by
  unfold State.pfxWalk
  extract_lets -merge +onlyGivenNames x1
  have h2 : Touches 0x208070000000040801010000002000000030400000000001e9c080000000000000000000000000000000000000000000000000000000000000000000000000026800617 s x1 := by unfold x1; exact State.inc_touches _ _ _ rfl 369 rfl grp_PFX_CNT_WALK
  clear_value x1
  split
  rename_i x3 x4 x5 e6
  have h7 : Touches 0x208070000000040801010000002000000030400000000001e9c080000000000000000000000000000000000000000000000000000000000000000000000000026800617 s x5 := Touches.of_eq (fun d => d.2) e6 (Touches.step (State.nextReq_touches ..) rfl h2)
  split
  · rename_i x8 x9 x10 e11
    have h12 : Touches 0x208070000000040801010000002000000030400000000001e9c080000000000000000000000000000000000000000000000000000000000000000000000000026800617 s x10 := Touches.of_eq (fun d => d.2) e11 (Touches.step (State.recipe_touches ..) rfl h7)
    exact h12
  · rename_i x13 x14 x15 e16
    have h17 : Touches 0x208070000000040801010000002000000030400000000001e9c080000000000000000000000000000000000000000000000000000000000000000000000000026800617 s x15 := Touches.of_eq (fun d => d.2) e16 (Touches.step (State.recipe_touches ..) rfl h7)
    split
    · rename_i x18 x19 x20 e21
      have h22 : Touches 0x208070000000040801010000002000000030400000000001e9c080000000000000000000000000000000000000000000000000000000000000000000000000026800617 s x20 := Touches.of_eq (fun d => d.2) e21 (Touches.step (State.pathOf_touches ..) rfl h17)
      exact h22
    · rename_i x23 x24 x25 e26
      have h27 : Touches 0x208070000000040801010000002000000030400000000001e9c080000000000000000000000000000000000000000000000000000000000000000000000000026800617 s x25 := Touches.of_eq (fun d => d.2) e26 (Touches.step (State.pathOf_touches ..) rfl h17)
      extract_lets -merge +onlyGivenNames x28
      split
      · exact h27
      · extract_lets -merge +onlyGivenNames x29
        clear_value x29
        refine Touches.ite2 ?_ ?_
        · exact h27
        · extract_lets -merge +onlyGivenNames x30
          have h31 : Touches 0x208070000000040801010000002000000030400000000001e9c080000000000000000000000000000000000000000000000000000000000000000000000000026800617 s x30 := by unfold x30; exact Touches.trans h27 (State.inc_touches _ _ _ rfl 370 rfl grp_PFX_CNT_HIT)
          clear_value x30
          clear_value x28
          extract_lets -merge +onlyGivenNames x32
          split
          · rename_i x33 x34 x35 e36
            have h37 : Touches 0x208070000000040801010000002000000030400000000001e9c080000000000000000000000000000000000000000000000000000000000000000000000000026800617 s x35 := Touches.of_eq (fun d => d.2) e36 (Touches.step (State.nodeSets_touches ..) rfl h31)
            exact h37
          · rename_i x38 x39 e40
            have h41 : Touches 0x208070000000040801010000002000000030400000000001e9c080000000000000000000000000000000000000000000000000000000000000000000000000026800617 s x39 := Touches.of_eq (fun d => d.2) e40 (Touches.step (State.nodeSets_touches ..) rfl h31)
            exact h41

theorem State.unlink_touches (child : Nat) (next : Nat) (a2 : Nat) (a3 : State) (a4 : Nat) : Touches 0x208070000000040801010000002000000000400000000001e9c080000000000000000000000000000000000000000000000000000000000000000000000000026000617 a3 (State.unlink child next a2 a3 a4).2 := by
  fun_induction State.unlink child next a2 a3 a4
  · rename_i x1 x2
    exact Touches.pair2 (Touches.refl _ _)
  · rename_i x3 x4 x5 x6 x7 e8
    have h9 : Touches 0x208070000000040801010000002000000000400000000001e9c080000000000000000000000000000000000000000000000000000000000000000000000000026000617 x4 x7 := Touches.of_eq (fun d => d.2) e8 (Touches.step (State.nodeGet_touches ..) rfl (Touches.refl _ _))
    exact h9
  · rename_i x10 x11 x12 x13 x14 e15 e16
    have h17 : Touches 0x208070000000040801010000002000000000400000000001e9c080000000000000000000000000000000000000000000000000000000000000000000000000026000617 x11 x14 := Touches.of_eq (fun d => d.2) e15 (Touches.step (State.nodeGet_touches ..) rfl (Touches.refl _ _))
    exact Touches.step (State.nodePut_touches ..) rfl h17
  · rename_i x18 x19 x20 x21 x22 e23 e24 e25
    have h26 : Touches 0x208070000000040801010000002000000000400000000001e9c080000000000000000000000000000000000000000000000000000000000000000000000000026000617 x19 x22 := Touches.of_eq (fun d => d.2) e23 (Touches.step (State.nodeGet_touches ..) rfl (Touches.refl _ _))
    exact h26
  · rename_i x27 x28 x29 x30 x31 e32 e33 e34 e35
    have h36 : Touches 0x208070000000040801010000002000000000400000000001e9c080000000000000000000000000000000000000000000000000000000000000000000000000026000617 x28 x31 := Touches.of_eq (fun d => d.2) e32 (Touches.step (State.nodeGet_touches ..) rfl (Touches.refl _ _))
    exact Touches.trans h36 e35

theorem State.prune_touches (keep : List Nat) (a1 : Nat) (a2 : State) (a3 : Nat) : Touches 0x208070000000040801010000002000000000400000000001e9c080000000000000000000000000000000000000000000000000000000000000000000000000026800617 a2 (State.prune keep a1 a2 a3).2 := by
  fun_induction State.prune keep a1 a2 a3
  · rename_i x1 x2
    exact Touches.pair2 (Touches.refl _ _)
  · rename_i x3 x4 x5 e6
    exact Touches.pair2 (Touches.refl _ _)
  · rename_i x7 x8 x9 e10 x11 x12 e13
    have h14 : Touches 0x208070000000040801010000002000000000400000000001e9c080000000000000000000000000000000000000000000000000000000000000000000000000026800617 x8 x12 := Touches.of_eq (fun d => d.2) e13 (Touches.step (State.nodeGet_touches ..) rfl (Touches.refl _ _))
    exact h14
  · rename_i x15 x16 x17 e18 x19 x20 e21 e22
    have h23 : Touches 0x208070000000040801010000002000000000400000000001e9c080000000000000000000000000000000000000000000000000000000000000000000000000026800617 x16 x20 := Touches.of_eq (fun d => d.2) e21 (Touches.step (State.nodeGet_touches ..) rfl (Touches.refl _ _))
    exact h23
  · rename_i x24 x25 x26 e27 x28 x29 e30 e31 x32 x33 e34
    have h35 : Touches 0x208070000000040801010000002000000000400000000001e9c080000000000000000000000000000000000000000000000000000000000000000000000000026800617 x25 x29 := Touches.of_eq (fun d => d.2) e30 (Touches.step (State.nodeGet_touches ..) rfl (Touches.refl _ _))
    have h36 : Touches 0x208070000000040801010000002000000000400000000001e9c080000000000000000000000000000000000000000000000000000000000000000000000000026800617 x25 x33 := Touches.of_eq (fun d => d.2) e34 (Touches.step (State.nodeGet_touches ..) rfl h35)
    exact h36
  · rename_i x37 x38 x39 e40 x41 x42 e43 e44 x45 x46 e47 x48 x49 e50
    have h51 : Touches 0x208070000000040801010000002000000000400000000001e9c080000000000000000000000000000000000000000000000000000000000000000000000000026800617 x38 x42 := Touches.of_eq (fun d => d.2) e43 (Touches.step (State.nodeGet_touches ..) rfl (Touches.refl _ _))
    have h52 : Touches 0x208070000000040801010000002000000000400000000001e9c080000000000000000000000000000000000000000000000000000000000000000000000000026800617 x38 x46 := Touches.of_eq (fun d => d.2) e47 (Touches.step (State.nodeGet_touches ..) rfl h51)
    have h53 : Touches 0x208070000000040801010000002000000000400000000001e9c080000000000000000000000000000000000000000000000000000000000000000000000000026800617 x38 x48 := by
      refine Touches.of_eq (fun d => d.2) e50 ?_
      refine Touches.ite2 ?_ ?_
      · exact Touches.step (State.nodePut_touches ..) rfl h52
      · exact Touches.step (State.unlink_touches ..) rfl h52
    exact h53
  · rename_i x54 x55 x56 e57 x58 x59 e60 e61 x62 x63 e64 x65 x66 x67 e68 e69
    have h70 : Touches 0x208070000000040801010000002000000000400000000001e9c080000000000000000000000000000000000000000000000000000000000000000000000000026800617 x55 x59 := Touches.of_eq (fun d => d.2) e60 (Touches.step (State.nodeGet_touches ..) rfl (Touches.refl _ _))
    have h71 : Touches 0x208070000000040801010000002000000000400000000001e9c080000000000000000000000000000000000000000000000000000000000000000000000000026800617 x55 x63 := Touches.of_eq (fun d => d.2) e64 (Touches.step (State.nodeGet_touches ..) rfl h70)
    have h72 : Touches 0x208070000000040801010000002000000000400000000001e9c080000000000000000000000000000000000000000000000000000000000000000000000000026800617 x55 x65 := by
      refine Touches.of_eq (fun d => d.2) e69 ?_
      refine Touches.ite2 ?_ ?_
      · exact Touches.step (State.nodePut_touches ..) rfl h71
      · exact Touches.step (State.unlink_touches ..) rfl h71
    have h73 : Touches 0x208070000000040801010000002000000000400000000001e9c080000000000000000000000000000000000000000000000000000000000000000000000000026800617 x55 x67 := Touches.of_eq (fun d => d.2) e68 (Touches.step (State.nodePut_touches ..) rfl h72)
    exact h73
  · rename_i x74 x75 x76 e77 x78 x79 e80 e81 x82 x83 e84 x85 x86 e87 x88 e89 e90
    have h91 : Touches 0x208070000000040801010000002000000000400000000001e9c080000000000000000000000000000000000000000000000000000000000000000000000000026800617 x75 x79 := Touches.of_eq (fun d => d.2) e80 (Touches.step (State.nodeGet_touches ..) rfl (Touches.refl _ _))
    have h92 : Touches 0x208070000000040801010000002000000000400000000001e9c080000000000000000000000000000000000000000000000000000000000000000000000000026800617 x75 x83 := Touches.of_eq (fun d => d.2) e84 (Touches.step (State.nodeGet_touches ..) rfl h91)
    have h93 : Touches 0x208070000000040801010000002000000000400000000001e9c080000000000000000000000000000000000000000000000000000000000000000000000000026800617 x75 x85 := by
      refine Touches.of_eq (fun d => d.2) e89 ?_
      refine Touches.ite2 ?_ ?_
      · exact Touches.step (State.nodePut_touches ..) rfl h92
      · exact Touches.step (State.unlink_touches ..) rfl h92
    have h94 : Touches 0x208070000000040801010000002000000000400000000001e9c080000000000000000000000000000000000000000000000000000000000000000000000000026800617 x75 x86 := Touches.of_eq (fun d => d.2) e87 (Touches.step (State.nodePut_touches ..) rfl h93)
    have h95 : Touches 0x208070000000040801010000002000000000400000000001e9c080000000000000000000000000000000000000000000000000000000000000000000000000026800617 x75 x88 := by unfold x88; exact Touches.setPfx h94 rfl
    exact Touches.trans h95 e90

theorem State.evictNode_touches (s : State) (keep : List Nat) (n : Nat) : Touches 0x208070000000040801010000002800000080400000000001e9c080000000000000000000000000000000000000000000000000000000000000000000000000126800617 s (State.evictNode s keep n).2 := by
  unfold State.evictNode
  split
  · rename_i x1 x2 x3 e4
    have h5 : Touches 0x208070000000040801010000002800000080400000000001e9c080000000000000000000000000000000000000000000000000000000000000000000000000126800617 s x3 := Touches.of_eq (fun d => d.2) e4 (Touches.step (State.nodeGet_touches ..) rfl (Touches.refl _ _))
    exact h5
  · rename_i x6 x7 x8 e9
    have h10 : Touches 0x208070000000040801010000002800000080400000000001e9c080000000000000000000000000000000000000000000000000000000000000000000000000126800617 s x8 := Touches.of_eq (fun d => d.2) e9 (Touches.step (State.nodeGet_touches ..) rfl (Touches.refl _ _))
    split
    · rename_i x11 x12 x13 e14
      have h15 : Touches 0x208070000000040801010000002800000080400000000001e9c080000000000000000000000000000000000000000000000000000000000000000000000000126800617 s x13 := Touches.of_eq (fun d => d.2) e14 (Touches.step (State.nodeSet_touches ..) rfl h10)
      exact h15
    · rename_i x16 x17 e18
      have h19 : Touches 0x208070000000040801010000002800000080400000000001e9c080000000000000000000000000000000000000000000000000000000000000000000000000126800617 s x17 := Touches.of_eq (fun d => d.2) e18 (Touches.step (State.nodeSet_touches ..) rfl h10)
      extract_lets -merge +onlyGivenNames x20
      clear_value x20
      extract_lets -merge +onlyGivenNames x21
      have h22 : Touches 0x208070000000040801010000002800000080400000000001e9c080000000000000000000000000000000000000000000000000000000000000000000000000126800617 s x21 := by unfold x21; exact Touches.trans (Touches.setPfx h19 rfl) (State.inc_touches _ _ _ rfl 372 rfl grp_PFX_CNT_EVICT)
      clear_value x21
      extract_lets -merge +onlyGivenNames x23
      have h24 : Touches 0x208070000000040801010000002800000080400000000001e9c080000000000000000000000000000000000000000000000000000000000000000000000000126800617 s x23 := by unfold x23; exact Touches.trans h22 (State.timing_touches _ _ _ rfl 400 rfl grp_SYS_REPRO_STATUS 1 rfl Grp.none)
      clear_value x23
      exact Touches.step (State.prune_touches ..) rfl h24

theorem State.evictFor_touches (keep : List Nat) (nodes : Nat) (a2 : Nat) (a3 : State) (a4 : Nat) : Touches 0x208070000000040801010000002800000080400000000001e9c080000000000000000000000000000000000000000000000000000000000000000000000000126800617 a3 (State.evictFor keep nodes a2 a3 a4).2 := by
  fun_induction State.evictFor keep nodes a2 a3 a4
  · rename_i x1 x2
    exact Touches.pair2 (Touches.refl _ _)
  · rename_i x3 x4 x5 e6
    exact Touches.pair2 (Touches.refl _ _)
  · rename_i x7 x8 x9 e10 e11
    exact Touches.pair2 (Touches.refl _ _)
  · rename_i x12 x13 x14 e15 x16 e17 x18 x19 e20
    have h21 : Touches 0x208070000000040801010000002800000080400000000001e9c080000000000000000000000000000000000000000000000000000000000000000000000000126800617 x13 x19 := Touches.of_eq (fun d => d.2) e20 (Touches.step (State.evictNode_touches ..) rfl (Touches.refl _ _))
    exact h21
  · rename_i x22 x23 x24 e25 x26 e27 x28 e29 e30
    have h31 : Touches 0x208070000000040801010000002800000080400000000001e9c080000000000000000000000000000000000000000000000000000000000000000000000000126800617 x23 x28 := Touches.of_eq (fun d => d.2) e29 (Touches.step (State.evictNode_touches ..) rfl (Touches.refl _ _))
    exact Touches.trans h31 e30

theorem State.takeNode_touches (s : State) : Touches 0x800000 s (State.takeNode s).2 := by
  unfold State.takeNode
  extract_lets -merge +onlyGivenNames x1
  clear_value x1
  exact Touches.pair2 (Touches.setPfx (Touches.refl _ _) rfl)

theorem State.chainNodes_touches (tree : Nat) (a1 : Nat) (a2 : State) (a3 : Nat) (a4 : Nat) (a5 : List Nat) : Touches 0x800000 a2 (State.chainNodes tree a1 a2 a3 a4 a5).2 := by
  fun_induction State.chainNodes tree a1 a2 a3 a4 a5
  · rename_i x1 x2 x3 x4
    exact Touches.pair2 (Touches.refl _ _)
  · rename_i x5 x6 x7 x8
    exact Touches.pair2 (Touches.refl _ _)
  · rename_i x9 x10 x11 x12 x13 e14 x15 x16 e17 x18 x19 x20 e21 x22 e23
    have h24 : Touches 0x800000 x10 x16 := Touches.of_eq (fun d => d.2) e17 (Touches.step (State.takeNode_touches ..) rfl (Touches.refl _ _))
    have h25 : Touches 0x800000 x10 x20 := Touches.of_eq (fun d => d.2) e21 (Touches.trans h24 e23)
    exact h25

theorem State.childList_touches (a0 : Nat) (a1 : State) (a2 : Nat) : Touches 0x208070000000040801010000002000000000000000000001e9c080000000000000000000000000000000000000000000000000000000000000000000000000026000615 a1 (State.childList a0 a1 a2).2 := by
  fun_induction State.childList a0 a1 a2
  · rename_i x1 x2
    exact Touches.pair2 (Touches.refl _ _)
  · rename_i x3 x4
    exact Touches.pair2 (Touches.refl _ _)
  · rename_i x5 x6 x7 e8 x9 x10 e11
    have h12 : Touches 0x208070000000040801010000002000000000000000000001e9c080000000000000000000000000000000000000000000000000000000000000000000000000026000615 x6 x10 := Touches.of_eq (fun d => d.2) e11 (Touches.step (State.nodeGet_touches ..) rfl (Touches.refl _ _))
    exact h12
  · rename_i x13 x14 x15 e16 x17 x18 e19 x20 x21 e22 e23
    have h24 : Touches 0x208070000000040801010000002000000000000000000001e9c080000000000000000000000000000000000000000000000000000000000000000000000000026000615 x14 x18 := Touches.of_eq (fun d => d.2) e19 (Touches.step (State.nodeGet_touches ..) rfl (Touches.refl _ _))
    have h25 : Touches 0x208070000000040801010000002000000000000000000001e9c080000000000000000000000000000000000000000000000000000000000000000000000000026000615 x14 x21 := Touches.of_eq (fun d => d.2) e22 (Touches.trans h24 e23)
    exact h25
  · rename_i x26 x27 x28 e29 x30 x31 e32 x33 x34 e35 e36
    have h37 : Touches 0x208070000000040801010000002000000000000000000001e9c080000000000000000000000000000000000000000000000000000000000000000000000000026000615 x27 x31 := Touches.of_eq (fun d => d.2) e32 (Touches.step (State.nodeGet_touches ..) rfl (Touches.refl _ _))
    have h38 : Touches 0x208070000000040801010000002000000000000000000001e9c080000000000000000000000000000000000000000000000000000000000000000000000000026000615 x27 x34 := Touches.of_eq (fun d => d.2) e35 (Touches.trans h37 e36)
    exact h38

theorem State.linkChild_touches (s : State) (parent : Nat × PNode) (prev : Option Nat) (child : Nat) : Touches 0x208070000000040801010000002000000000000000000001e9c080000000000000000000000000000000000000000000000000000000000000000000000000026000615 s (State.linkChild s parent prev child).2 := by
  unfold State.linkChild
  split
  · exact Touches.pair2 (Touches.refl _ _)
  · split
    · rename_i x1 x2 x3 e4
      have h5 : Touches 0x208070000000040801010000002000000000000000000001e9c080000000000000000000000000000000000000000000000000000000000000000000000000026000615 s x3 := Touches.of_eq (fun d => d.2) e4 (Touches.step (State.nodeGet_touches ..) rfl (Touches.refl _ _))
      exact h5
    · rename_i x6 x7 x8 e9
      have h10 : Touches 0x208070000000040801010000002000000000000000000001e9c080000000000000000000000000000000000000000000000000000000000000000000000000026000615 s x8 := Touches.of_eq (fun d => d.2) e9 (Touches.step (State.nodeGet_touches ..) rfl (Touches.refl _ _))
      exact h10

theorem State.linkTree_touches (s : State) (tree : Nat) (block : Nat) (no : Nat) (r : List Nat) (p : PPath) : Touches 0x208070000000040801010000002000000000000000000001e9c080000000000000000000000000000000000000000000000000000000000000000000000000026800615 s (State.linkTree s tree block no r p).2 := by
  unfold State.linkTree
  split
  · exact Touches.pair2 (Touches.refl _ _)
  · split
    · refine Touches.ite2 ?_ ?_
      · extract_lets -merge +onlyGivenNames x1
        exact Touches.pair2 (Touches.refl _ _)
      · split
        rename_i x2 x3 x4 e5
        have h6 : Touches 0x208070000000040801010000002000000000000000000001e9c080000000000000000000000000000000000000000000000000000000000000000000000000026800615 s x4 := Touches.of_eq (fun d => d.2) e5 (Touches.step (State.chainNodes_touches ..) rfl (Touches.refl _ _))
        extract_lets -merge +onlyGivenNames x7
        extract_lets -merge +onlyGivenNames x8
        clear_value x8
        split
        · rename_i x9 x10 x11 e12
          have h13 : Touches 0x208070000000040801010000002000000000000000000001e9c080000000000000000000000000000000000000000000000000000000000000000000000000026800615 s x11 := Touches.of_eq (fun d => d.2) e12 (Touches.step (State.linkChild_touches ..) rfl h6)
          exact h13
        · rename_i x14 x15 x16 x17 e18
          have h19 : Touches 0x208070000000040801010000002000000000000000000001e9c080000000000000000000000000000000000000000000000000000000000000000000000000026800615 s x17 := Touches.of_eq (fun d => d.2) e18 (Touches.step (State.linkChild_touches ..) rfl h6)
          extract_lets -merge +onlyGivenNames x20
          exact h19
    · split
      rename_i x21 x22 x23 e24
      have h25 : Touches 0x208070000000040801010000002000000000000000000001e9c080000000000000000000000000000000000000000000000000000000000000000000000000026800615 s x23 := Touches.of_eq (fun d => d.2) e24 (Touches.step (State.takeNode_touches ..) rfl (Touches.refl _ _))
      split
      rename_i x26 x27 x28 e29
      have h30 : Touches 0x208070000000040801010000002000000000000000000001e9c080000000000000000000000000000000000000000000000000000000000000000000000000026800615 s x28 := Touches.of_eq (fun d => d.2) e29 (Touches.step (State.chainNodes_touches ..) rfl h25)
      extract_lets -merge +onlyGivenNames x31
      extract_lets -merge +onlyGivenNames x32
      clear_value x32
      extract_lets -merge +onlyGivenNames x33
      clear_value x33
      split
      extract_lets -merge +onlyGivenNames x34
      clear_value x34
      extract_lets -merge +onlyGivenNames x35
      clear_value x35
      split
      rename_i x36 x37 x38 e39
      have h40 : Touches 0x208070000000040801010000002000000000000000000001e9c080000000000000000000000000000000000000000000000000000000000000000000000000026800615 s x38 := by
        refine Touches.of_eq (fun d => d.2) e39 ?_
        split
        · exact h30
        · split
          · rename_i x41 x42 x43 e44
            have h45 : Touches 0x208070000000040801010000002000000000000000000001e9c080000000000000000000000000000000000000000000000000000000000000000000000000026800615 s x43 := Touches.of_eq (fun d => d.2) e44 (Touches.step (State.nodeGet_touches ..) rfl h30)
            exact h45
          · rename_i x46 x47 x48 e49
            have h50 : Touches 0x208070000000040801010000002000000000000000000001e9c080000000000000000000000000000000000000000000000000000000000000000000000000026800615 s x48 := Touches.of_eq (fun d => d.2) e49 (Touches.step (State.nodeGet_touches ..) rfl h30)
            exact h50
      split
      · exact h40
      · exact h40

theorem State.holdNode_touches (s : State) (n : Nat) : Touches 0x208070000000040801010000002000000000400000000001e9c080000000000000000000000000000000000000000000000000000000000000000000000000026800617 s (State.holdNode s n).2 := by
  unfold State.holdNode
  split
  · rename_i x1 x2 x3 e4
    have h5 : Touches 0x208070000000040801010000002000000000400000000001e9c080000000000000000000000000000000000000000000000000000000000000000000000000026800617 s x3 := Touches.of_eq (fun d => d.2) e4 (Touches.step (State.nodeGet_touches ..) rfl (Touches.refl _ _))
    exact h5
  · rename_i x6 x7 x8 e9
    have h10 : Touches 0x208070000000040801010000002000000000400000000001e9c080000000000000000000000000000000000000000000000000000000000000000000000000026800617 s x8 := Touches.of_eq (fun d => d.2) e9 (Touches.step (State.nodeGet_touches ..) rfl (Touches.refl _ _))
    refine Touches.ite2 ?_ ?_
    · exact h10
    · exact Touches.step (State.nodeSet_touches ..) rfl h10

theorem State.pfxInsert_touches (s : State) (q : PReq) : Touches 0x2080700000000408010100000028000000c0400000000001e9c080000000000000000000000000000000000000000000000000000000000000000000000000126800617 s (State.pfxInsert s q).2 := by
  unfold State.pfxInsert
  extract_lets -merge +onlyGivenNames x1
  have h2 : Touches 0x2080700000000408010100000028000000c0400000000001e9c080000000000000000000000000000000000000000000000000000000000000000000000000126800617 s x1 := by unfold x1; exact State.inc_touches _ _ _ rfl 371 rfl grp_PFX_CNT_INSERT
  clear_value x1
  split
  rename_i x3 x4 x5 e6
  have h7 : Touches 0x2080700000000408010100000028000000c0400000000001e9c080000000000000000000000000000000000000000000000000000000000000000000000000126800617 s x5 := Touches.of_eq (fun d => d.2) e6 (Touches.step (State.nextReq_touches ..) rfl h2)
  extract_lets -merge +onlyGivenNames x8
  clear_value x8
  extract_lets -merge +onlyGivenNames x9
  clear_value x9
  split
  · rename_i x10 x11 x12 e13
    have h14 : Touches 0x2080700000000408010100000028000000c0400000000001e9c080000000000000000000000000000000000000000000000000000000000000000000000000126800617 s x12 := Touches.of_eq (fun d => d.2) e13 (Touches.step (State.recipe_touches ..) rfl h7)
    exact h14
  · rename_i x15 x16 x17 e18
    have h19 : Touches 0x2080700000000408010100000028000000c0400000000001e9c080000000000000000000000000000000000000000000000000000000000000000000000000126800617 s x17 := Touches.of_eq (fun d => d.2) e18 (Touches.step (State.recipe_touches ..) rfl h7)
    split
    · rename_i x20 x21 x22 e23
      have h24 : Touches 0x2080700000000408010100000028000000c0400000000001e9c080000000000000000000000000000000000000000000000000000000000000000000000000126800617 s x22 := Touches.of_eq (fun d => d.2) e23 (Touches.step (State.pathOf_touches ..) rfl h19)
      exact h24
    · rename_i x25 x26 x27 e28
      have h29 : Touches 0x2080700000000408010100000028000000c0400000000001e9c080000000000000000000000000000000000000000000000000000000000000000000000000126800617 s x27 := Touches.of_eq (fun d => d.2) e28 (Touches.step (State.pathOf_touches ..) rfl h19)
      extract_lets -merge +onlyGivenNames x30
      clear_value x30
      split
      · refine Touches.ite2 ?_ ?_
        · exact h29
        · split
          · rename_i x31 x32 x33 e34
            have h35 : Touches 0x2080700000000408010100000028000000c0400000000001e9c080000000000000000000000000000000000000000000000000000000000000000000000000126800617 s x33 := Touches.of_eq (fun d => d.2) e34 (Touches.step (State.nodeSet_touches ..) rfl h29)
            exact h35
          · rename_i x36 x37 e38
            have h39 : Touches 0x2080700000000408010100000028000000c0400000000001e9c080000000000000000000000000000000000000000000000000000000000000000000000000126800617 s x37 := Touches.of_eq (fun d => d.2) e38 (Touches.step (State.nodeSet_touches ..) rfl h29)
            exact h39
      · extract_lets -merge +onlyGivenNames x40
        clear_value x40
        extract_lets -merge +onlyGivenNames x41
        split
        · rename_i x42 x43 e44
          have h45 : Touches 0x2080700000000408010100000028000000c0400000000001e9c080000000000000000000000000000000000000000000000000000000000000000000000000126800617 s x43 := Touches.of_eq (fun d => d.2) e44 (Touches.step (State.evictFor_touches ..) rfl h29)
          exact h29
        · rename_i x46 x47 x48 e49
          have h50 : Touches 0x2080700000000408010100000028000000c0400000000001e9c080000000000000000000000000000000000000000000000000000000000000000000000000126800617 s x48 := Touches.of_eq (fun d => d.2) e49 (Touches.step (State.evictFor_touches ..) rfl h29)
          exact h50
        · rename_i x51 x52 x53 e54
          have h55 : Touches 0x2080700000000408010100000028000000c0400000000001e9c080000000000000000000000000000000000000000000000000000000000000000000000000126800617 s x53 := Touches.of_eq (fun d => d.2) e54 (Touches.step (State.evictFor_touches ..) rfl h29)
          extract_lets -merge +onlyGivenNames x56
          clear_value x56
          extract_lets -merge +onlyGivenNames x57
          clear_value x57
          split
          · rename_i x58 x59 x60 e61
            have h62 : Touches 0x2080700000000408010100000028000000c0400000000001e9c080000000000000000000000000000000000000000000000000000000000000000000000000126800617 s x60 := Touches.of_eq (fun d => d.2) e61 (Touches.step (State.vread_touches ..) rfl h55)
            exact h62
          · rename_i x63 x64 x65 e66
            have h67 : Touches 0x2080700000000408010100000028000000c0400000000001e9c080000000000000000000000000000000000000000000000000000000000000000000000000126800617 s x65 := Touches.of_eq (fun d => d.2) e66 (Touches.step (State.vread_touches ..) rfl h55)
            split
            · rename_i x68 x69 x70 e71
              have h72 : Touches 0x2080700000000408010100000028000000c0400000000001e9c080000000000000000000000000000000000000000000000000000000000000000000000000126800617 s x70 := Touches.of_eq (fun d => d.2) e71 (Touches.step (State.vwrite_touches ..) rfl h67)
              exact h72
            · rename_i x73 x74 e75
              have h76 : Touches 0x2080700000000408010100000028000000c0400000000001e9c080000000000000000000000000000000000000000000000000000000000000000000000000126800617 s x74 := Touches.of_eq (fun d => d.2) e75 (Touches.step (State.vwrite_touches ..) rfl h67)
              extract_lets -merge +onlyGivenNames x77
              clear_value x77
              extract_lets -merge +onlyGivenNames x78
              have h79 : Touches 0x2080700000000408010100000028000000c0400000000001e9c080000000000000000000000000000000000000000000000000000000000000000000000000126800617 s x78 := by unfold x78; exact Touches.setPfx h76 rfl
              clear_value x78
              clear_value x41
              split
              · rename_i x80 x81 x82 e83
                have h84 : Touches 0x2080700000000408010100000028000000c0400000000001e9c080000000000000000000000000000000000000000000000000000000000000000000000000126800617 s x82 := Touches.of_eq (fun d => d.2) e83 (Touches.step (State.pathOf_touches ..) rfl h79)
                exact h84
              · rename_i x85 x86 x87 e88
                have h89 : Touches 0x2080700000000408010100000028000000c0400000000001e9c080000000000000000000000000000000000000000000000000000000000000000000000000126800617 s x87 := Touches.of_eq (fun d => d.2) e88 (Touches.step (State.pathOf_touches ..) rfl h79)
                split
                · rename_i x90 x91 x92 e93
                  have h94 : Touches 0x2080700000000408010100000028000000c0400000000001e9c080000000000000000000000000000000000000000000000000000000000000000000000000126800617 s x92 := Touches.of_eq (fun d => d.2) e93 (Touches.step (State.linkTree_touches ..) rfl h89)
                  exact h94
                · rename_i x95 x96 x97 x98 e99
                  have h100 : Touches 0x2080700000000408010100000028000000c0400000000001e9c080000000000000000000000000000000000000000000000000000000000000000000000000126800617 s x98 := Touches.of_eq (fun d => d.2) e99 (Touches.step (State.linkTree_touches ..) rfl h89)
                  split
                  · rename_i x101 x102 x103 e104
                    have h105 : Touches 0x2080700000000408010100000028000000c0400000000001e9c080000000000000000000000000000000000000000000000000000000000000000000000000126800617 s x103 := Touches.of_eq (fun d => d.2) e104 (Touches.step (State.nodeSets_touches ..) rfl h100)
                    exact h105
                  · rename_i x106 x107 e108
                    have h109 : Touches 0x2080700000000408010100000028000000c0400000000001e9c080000000000000000000000000000000000000000000000000000000000000000000000000126800617 s x107 := Touches.of_eq (fun d => d.2) e108 (Touches.step (State.nodeSets_touches ..) rfl h100)
                    extract_lets -merge +onlyGivenNames x110
                    have h111 : Touches 0x2080700000000408010100000028000000c0400000000001e9c080000000000000000000000000000000000000000000000000000000000000000000000000126800617 s x110 := by unfold x110; exact Touches.trans h109 (State.timing_touches _ _ _ rfl 400 rfl grp_SYS_REPRO_STATUS 1 rfl Grp.none)
                    clear_value x110
                    split
                    · rename_i x112 x113 x114 e115
                      have h116 : Touches 0x2080700000000408010100000028000000c0400000000001e9c080000000000000000000000000000000000000000000000000000000000000000000000000126800617 s x114 := by
                        refine Touches.of_eq (fun d => d.2) e115 ?_
                        refine Touches.ite2 ?_ ?_
                        · exact Touches.step (State.holdNode_touches ..) rfl h111
                        · exact h111
                      exact h116
                    · rename_i x117 x118 e119
                      have h120 : Touches 0x2080700000000408010100000028000000c0400000000001e9c080000000000000000000000000000000000000000000000000000000000000000000000000126800617 s x118 := by
                        refine Touches.of_eq (fun d => d.2) e119 ?_
                        refine Touches.ite2 ?_ ?_
                        · exact Touches.step (State.holdNode_touches ..) rfl h111
                        · exact h111
                      exact h120

theorem State.pfxNode_touches (s : State) (q : PReq) (k : PNode → Except PErr (Option PNode)) : Touches 0x208070000000040801010000002000000000400000000001e9c080000000000000000000000000000000000000000000000000000000000000000000000000026800617 s (State.pfxNode s q k).2 := by
  unfold State.pfxNode
  refine Touches.ite2 ?_ ?_
  · exact Touches.pair2 (Touches.refl _ _)
  · refine Touches.ite2 ?_ ?_
    · exact Touches.pair2 (Touches.refl _ _)
    · split
      · rename_i x1 x2 x3 e4
        have h5 : Touches 0x208070000000040801010000002000000000400000000001e9c080000000000000000000000000000000000000000000000000000000000000000000000000026800617 s x3 := Touches.of_eq (fun d => d.2) e4 (Touches.step (State.nodeGet_touches ..) rfl (Touches.refl _ _))
        exact h5
      · rename_i x6 x7 x8 e9
        have h10 : Touches 0x208070000000040801010000002000000000400000000001e9c080000000000000000000000000000000000000000000000000000000000000000000000000026800617 s x8 := Touches.of_eq (fun d => d.2) e9 (Touches.step (State.nodeGet_touches ..) rfl (Touches.refl _ _))
        split
        · exact h10
        · exact h10
        · split
          · rename_i x11 x12 x13 e14
            have h15 : Touches 0x208070000000040801010000002000000000400000000001e9c080000000000000000000000000000000000000000000000000000000000000000000000000026800617 s x13 := Touches.of_eq (fun d => d.2) e14 (Touches.step (State.nodeSet_touches ..) rfl h10)
            exact h15
          · rename_i x16 x17 e18
            have h19 : Touches 0x208070000000040801010000002000000000400000000001e9c080000000000000000000000000000000000000000000000000000000000000000000000000026800617 s x17 := Touches.of_eq (fun d => d.2) e18 (Touches.step (State.nodeSet_touches ..) rfl h10)
            exact h19

theorem State.pfxRelease_touches (s : State) (q : PReq) : Touches 0x208070000000040801010000002000000000400000000001e9c080000000000000000000000000000000000000000000000000000000000000000000000000026800617 s (State.pfxRelease s q).2 := by
  unfold State.pfxRelease
  exact Touches.step (State.pfxNode_touches ..) rfl (Touches.refl _ _)

theorem State.pfxPin_touches (s : State) (q : PReq) : Touches 0x208070000000040801010000002000000000400000000001e9c080000000000000000000000000000000000000000000000000000000000000000000000000026800617 s (State.pfxPin s q).2 := by
  unfold State.pfxPin
  exact Touches.step (State.pfxNode_touches ..) rfl (Touches.refl _ _)

theorem State.pfxUnpin_touches (s : State) (q : PReq) : Touches 0x208070000000040801010000002000000000400000000001e9c080000000000000000000000000000000000000000000000000000000000000000000000000026800617 s (State.pfxUnpin s q).2 := by
  unfold State.pfxUnpin
  exact Touches.step (State.pfxNode_touches ..) rfl (Touches.refl _ _)

theorem State.pfxEvict_touches (s : State) (q : PReq) : Touches 0x208070000000040801010000002800000080400000000001e9c080000000000000000000000000000000000000000000000000000000000000000000000000126800617 s (State.pfxEvict s q).2 := by
  unfold State.pfxEvict
  refine Touches.ite2 ?_ ?_
  · exact Touches.pair2 (Touches.refl _ _)
  · refine Touches.ite2 ?_ ?_
    · exact Touches.pair2 (Touches.refl _ _)
    · split
      · rename_i x1 x2 x3 e4
        have h5 : Touches 0x208070000000040801010000002800000080400000000001e9c080000000000000000000000000000000000000000000000000000000000000000000000000126800617 s x3 := Touches.of_eq (fun d => d.2) e4 (Touches.step (State.nodeGet_touches ..) rfl (Touches.refl _ _))
        exact h5
      · rename_i x6 x7 x8 e9
        have h10 : Touches 0x208070000000040801010000002800000080400000000001e9c080000000000000000000000000000000000000000000000000000000000000000000000000126800617 s x8 := Touches.of_eq (fun d => d.2) e9 (Touches.step (State.nodeGet_touches ..) rfl (Touches.refl _ _))
        refine Touches.ite2 ?_ ?_
        · exact h10
        · split
          · rename_i x11 x12 x13 e14
            have h15 : Touches 0x208070000000040801010000002800000080400000000001e9c080000000000000000000000000000000000000000000000000000000000000000000000000126800617 s x13 := Touches.of_eq (fun d => d.2) e14 (Touches.step (State.evictNode_touches ..) rfl h10)
            exact h15
          · rename_i x16 x17 e18
            have h19 : Touches 0x208070000000040801010000002800000080400000000001e9c080000000000000000000000000000000000000000000000000000000000000000000000000126800617 s x17 := Touches.of_eq (fun d => d.2) e18 (Touches.step (State.evictNode_touches ..) rfl h10)
            exact h19

theorem State.setAdapter_touches (s : State) (i : Nat) (a : Adapter) : Touches 0x800000 s (State.setAdapter s i a) := by
  unfold State.setAdapter
  exact Touches.setPfx (Touches.refl _ _) rfl

theorem State.adpRegs_touches (s : State) : Touches 0x1000000000000000000000000000000000000000000000000000000000000000000000000000000000000000000000000000001 s (State.adpRegs s) := by
  unfold State.adpRegs
  extract_lets -merge +onlyGivenNames x1
  clear_value x1
  refine Touches.trans ?_ (State.setF_touches _ _ _ rfl 377 rfl grp_ADP_INFLIGHT)
  exact State.setF_touches _ _ _ rfl 377 rfl grp_ADP_INFLIGHT

theorem State.adpReport_touches (s : State) (sts : Nat) (i : Nat) : Touches 0x8070000000040800000000000000000800000000000000000000000000000000000000000000000000000000000000000000000000000000000000000000022000211 s (State.adpReport s sts i) := by
  unfold State.adpReport
  exact State.report_touches _ _ _ _ _ rfl 376 rfl grp_ADP_STATUS

theorem State.adpCheck_touches (s : State) (a : Adapter) (va : Nat) : Touches 0x208070000000040801010000002000000000000000000001e9c080000000000000000000000000000000000000000000000000000000000000000000000000026000615 s (State.adpCheck s a va).2 := by
  unfold State.adpCheck
  refine Touches.ite2 ?_ ?_
  · split
    · rename_i x1 x2 x3 e4
      have h5 : Touches 0x208070000000040801010000002000000000000000000001e9c080000000000000000000000000000000000000000000000000000000000000000000000000026000615 s x3 := Touches.of_eq (fun d => d.2) e4 (Touches.step (State.vread_touches ..) rfl (Touches.refl _ _))
      exact h5
    · rename_i x6 x7 x8 e9
      have h10 : Touches 0x208070000000040801010000002000000000000000000001e9c080000000000000000000000000000000000000000000000000000000000000000000000000026000615 s x8 := Touches.of_eq (fun d => d.2) e9 (Touches.step (State.vread_touches ..) rfl (Touches.refl _ _))
      exact h10
  · exact Touches.pair2 (Touches.refl _ _)

theorem State.adpPublish_touches (s : State) (i : Nat) : Touches 0x9000000000000000000000000000000000000000000000000000000000000000000000000000000000000000000000000800001 s (State.adpPublish s i).2 := by
  unfold State.adpPublish
  extract_lets -merge +onlyGivenNames x1
  clear_value x1
  refine Touches.ite2 ?_ ?_
  · exact Touches.pair2 (Touches.refl _ _)
  · refine Touches.ite2 ?_ ?_
    · exact Touches.pair2 (Touches.refl _ _)
    · extract_lets -merge +onlyGivenNames x2
      clear_value x2
      extract_lets -merge +onlyGivenNames x3
      clear_value x3
      extract_lets -merge +onlyGivenNames x4
      have h5 : Touches 0x9000000000000000000000000000000000000000000000000000000000000000000000000000000000000000000000000800001 s x4 := by unfold x4; exact Touches.step (State.setAdapter_touches ..) rfl (Touches.refl _ _)
      clear_value x4
      extract_lets -merge +onlyGivenNames x6
      clear_value x6
      extract_lets -merge +onlyGivenNames x7
      have h8 : Touches 0x9000000000000000000000000000000000000000000000000000000000000000000000000000000000000000000000000800001 s x7 := by unfold x7; exact Touches.setPfx h5 rfl
      clear_value x7
      refine Touches.pair2 ?_
      refine Touches.step (State.adpRegs_touches ..) rfl ?_
      exact Touches.trans h8 (State.inc_touches _ _ _ rfl 380 rfl grp_ADP_CNT_PUBLISHES)

theorem State.adpCmd_touches (s : State) (op : Nat) : Touches 0x208070000000040801010000002000009c00000000000001e9c080000000000000000000000000000000000000000000000000000000000000000000000000026800615 s (State.adpCmd s op) := by
  unfold State.adpCmd
  extract_lets -merge +onlyGivenNames x1
  clear_value x1
  extract_lets -merge +onlyGivenNames x2
  clear_value x2
  extract_lets -merge +onlyGivenNames x3
  clear_value x3
  extract_lets -merge +onlyGivenNames x4
  have h5 : Touches 0x208070000000040801010000002000009c00000000000001e9c080000000000000000000000000000000000000000000000000000000000000000000000000026800615 s x4 := by unfold x4; exact State.setF_touches _ _ _ rfl 375 rfl grp_ADP_CMD
  clear_value x4
  split
  · refine Touches.ite ?_ ?_
    · exact Touches.step (State.adpReport_touches ..) rfl h5
    · split
      · rename_i x6 x7 e8
        have h9 : Touches 0x208070000000040801010000002000009c00000000000001e9c080000000000000000000000000000000000000000000000000000000000000000000000000026800615 s x7 := Touches.of_eq (fun d => d.2) e8 (Touches.step (State.adpCheck_touches ..) rfl h5)
        exact Touches.step (State.adpReport_touches ..) rfl h9
      · rename_i x10 x11 e12
        have h13 : Touches 0x208070000000040801010000002000009c00000000000001e9c080000000000000000000000000000000000000000000000000000000000000000000000000026800615 s x11 := Touches.of_eq (fun d => d.2) e12 (Touches.step (State.adpCheck_touches ..) rfl h5)
        exact Touches.step (State.adpRegs_touches ..) rfl (Touches.step (State.setAdapter_touches ..) rfl h13)
  · split
    · rename_i x14 x15 e16
      have h17 : Touches 0x208070000000040801010000002000009c00000000000001e9c080000000000000000000000000000000000000000000000000000000000000000000000000026800615 s x15 := Touches.of_eq (fun d => d.2) e16 (Touches.step (State.adpCheck_touches ..) rfl h5)
      exact Touches.step (State.adpReport_touches ..) rfl h17
    · rename_i x18 x19 e20
      have h21 : Touches 0x208070000000040801010000002000009c00000000000001e9c080000000000000000000000000000000000000000000000000000000000000000000000000026800615 s x19 := Touches.of_eq (fun d => d.2) e20 (Touches.step (State.adpCheck_touches ..) rfl h5)
      exact Touches.step (State.setAdapter_touches ..) rfl h21
  · split
    · rename_i x22 x23 x24 e25
      have h26 : Touches 0x208070000000040801010000002000009c00000000000001e9c080000000000000000000000000000000000000000000000000000000000000000000000000026800615 s x24 := Touches.of_eq (fun d => d.2) e25 (Touches.step (State.adpPublish_touches ..) rfl h5)
      exact Touches.step (State.adpReport_touches ..) rfl h26
    · rename_i x27 x28 e29
      have h30 : Touches 0x208070000000040801010000002000009c00000000000001e9c080000000000000000000000000000000000000000000000000000000000000000000000000026800615 s x28 := Touches.of_eq (fun d => d.2) e29 (Touches.step (State.adpPublish_touches ..) rfl h5)
      exact h30
  · refine Touches.ite ?_ ?_
    · exact Touches.step (State.adpReport_touches ..) rfl h5
    · exact Touches.step (State.adpRegs_touches ..) rfl (Touches.step (State.setAdapter_touches ..) rfl h5)
  · rename_i x31 e32 e33 e34 e35
    exact h5

theorem State.writeAdpCmd_touches (s : State) (v : Nat) : Touches 0x208070000000040801010000002000009c00000000000001e9c080000000000000000000000000000000000000000000000000000000000000000000000000026800615 s (State.writeAdpCmd s v) := by
  unfold State.writeAdpCmd
  refine Touches.ite ?_ ?_
  · exact Touches.step (State.adpCmd_touches ..) rfl (Touches.refl _ _)
  · exact State.setF_touches _ _ _ rfl 375 rfl grp_ADP_CMD

theorem State.adpRead_touches (s : State) : Touches 0x2000000000000000000000000000000000000000000000000000000000000000000000000000000000000000000000000000005 s (State.adpRead s) := by
  unfold State.adpRead
  extract_lets -merge +onlyGivenNames x1
  extract_lets -merge +onlyGivenNames x2
  have h6 : Touches 0x2000000000000000000000000000000000000000000000000000000000000000000000000000000000000000000000000000005 s x2 := by
    unfold x2
    refine Touches.foldl (fun t3 y4 h5 => ?_) ?_
    · exact Touches.trans h5 (State.setF_touches _ _ _ rfl 378 rfl (grp_ADP_DESC _))
    · exact Touches.refl _ _
  clear_value x2
  clear_value x1
  exact Touches.setBus h6 rfl

theorem State.pfxList_touches (s : State) : Touches 0x208070000000040801010000002000000000400000000001e9c080000000000000000000000000000000000000000000000000000000000000000000000000026802615 s (State.pfxList s) := by
  unfold State.pfxList
  refine Touches.ite ?_ ?_
  · exact Touches.refl _ _
  · split
    · exact Touches.refl _ _
    · extract_lets -merge +onlyGivenNames x1
      clear_value x1
      extract_lets -merge +onlyGivenNames x2
      clear_value x2
      refine Touches.ite ?_ ?_
      · refine Touches.trans ?_ (State.report_touches _ _ _ _ _ rfl 363 rfl grp_PFX_STATUS)
        exact Touches.setChainsDone (Touches.refl _ _) rfl
      · split
        · rename_i x3 x4 x5 e6
          have h7 : Touches 0x208070000000040801010000002000000000400000000001e9c080000000000000000000000000000000000000000000000000000000000000000000000000026802615 s x5 := Touches.of_eq (fun d => d.2) e6 (Touches.step (State.vread_touches ..) rfl (Touches.refl _ _))
          exact Touches.setChainsDone h7 rfl
        · rename_i x8 x9 x10 e11
          have h12 : Touches 0x208070000000040801010000002000000000400000000001e9c080000000000000000000000000000000000000000000000000000000000000000000000000026802615 s x10 := Touches.of_eq (fun d => d.2) e11 (Touches.step (State.vread_touches ..) rfl (Touches.refl _ _))
          exact Touches.setPfx h12 rfl

theorem State.pfxTake_touches (s : State) (src : PSrc) : Touches 0x8070000000040800000000000000000000000000005000000001000000000000000000000000000000000000000000000000000000000000000000000000022818215 s (State.pfxTake s src) := by
  unfold State.pfxTake
  split
  · split
    rename_i x1 x2 x3 e4
    have h5 : Touches 0x8070000000040800000000000000000000000000005000000001000000000000000000000000000000000000000000000000000000000000000000000000022818215 s x3 := Touches.of_eq (fun d => d.2) e4 (Touches.step (State.takeFlight_touches ..) rfl (Touches.refl _ _))
    exact Touches.step (State.settleAll_touches ..) rfl h5
  · exact Touches.setPfx (Touches.refl _ _) rfl

theorem State.pfxResult_touches (s : State) (q : PReq) (src : PSrc) (sts : Nat) (r : PRes) : Touches 0x807000000004080101000000000000000000000000000001c08100000000000000000000000000000000000000000000000000000000000000000000000002681a617 s (State.pfxResult s q src sts r) := by
  unfold State.pfxResult
  extract_lets -merge +onlyGivenNames x1
  extract_lets -merge +onlyGivenNames x2
  have h3 : Touches 0x807000000004080101000000000000000000000000000001c08100000000000000000000000000000000000000000000000000000000000000000000000002681a617 s x2 := by
    unfold x2
    refine Touches.ite ?_ ?_
    · exact Touches.refl _ _
    · exact Touches.step (State.vwrite_touches ..) rfl (Touches.refl _ _)
  clear_value x2
  clear_value x1
  split
  · extract_lets -merge +onlyGivenNames x4
    extract_lets -merge +onlyGivenNames x5
    clear_value x5
    extract_lets -merge +onlyGivenNames x6
    have h7 : Touches 0x807000000004080101000000000000000000000000000001c08100000000000000000000000000000000000000000000000000000000000000000000000002681a617 s x6 := by unfold x6; exact Touches.step (State.setGl_touches ..) rfl h3
    clear_value x6
    clear_value x4
    exact Touches.setFlights h7 rfl
  · refine Touches.ite ?_ ?_
    · exact Touches.upd h3 rfl rfl rfl rfl rfl rfl rfl
        (by intro p hp; cases p <;> first | rfl | exact absurd hp (by decide))
    · exact h3

theorem State.pfxFail_touches (s : State) (q : PReq) (src : PSrc) (e : PErr) : Touches 0x807000000004080101000000000000090040000000000001c08100000000000000000000000000000000000000000000000000000000000000000000000002681a617 s (State.pfxFail s q src e) := by
  unfold State.pfxFail
  extract_lets -merge +onlyGivenNames x1
  have h2 : Touches 0x807000000004080101000000000000090040000000000001c08100000000000000000000000000000000000000000000000000000000000000000000000002681a617 s x1 := by
    unfold x1
    refine Touches.ite ?_ ?_
    · exact Touches.step (State.adpReport_touches ..) rfl (Touches.refl _ _)
    · refine Touches.trans ?_ (State.inc_touches _ _ _ rfl 373 rfl grp_PFX_CNT_FAIL)
      exact State.report_touches _ _ _ _ _ rfl 363 rfl grp_PFX_STATUS
  clear_value x1
  exact Touches.step (State.pfxResult_touches ..) rfl h2

theorem State.pfxDo_touches (s : State) (op : Nat) (gill : Option Nat) (k : State → PReq → PSrc → State) {m : Nat}
    (hm : 0x208070000000040801010000002000000900400000005001e9c08100000000000000000000000000000000000000000000000000000000000000000000000002681a617 ||| m = m) (hk : ∀ t q x, Touches m t (k t q x)) : Touches m s (s.pfxDo op gill k) := by
  have h : Touches m s s.pfxList := (State.pfxList_touches s).mono (Touches.sub hm rfl)
  unfold State.pfxDo
  refine Touches.ite (Touches.refl _ _) ?_
  extract_lets x
  split
  · exact h
  · have ht := fun y => Touches.step (State.pfxTake_touches x y) (Touches.sub hm rfl) h
    exact Touches.ite (Touches.step (State.pfxFail_touches ..) (Touches.sub hm rfl) (ht _))
      (Touches.ite h ((ht _).trans (hk _ _ _)))

theorem State.pfxRun_touches (s : State) (op : Nat) (gill : Option Nat) (f : State → PReq → Except PErr PRes × State) {m : Nat}
    (hm : 0x208070000000040801010000002000000908400000005001e9c08100000000000000000000000000000000000000000000000000000000000000000000000002681a617 ||| m = m) (hf : ∀ t q, Touches m t (f t q).2) : Touches m s (s.pfxRun op gill f) := by
  refine State.pfxDo_touches _ _ _ _ (Touches.sub hm rfl) (fun t q x => ?_)
  refine Touches.ite (Touches.step (State.pfxFail_touches ..) (Touches.sub hm rfl) (Touches.refl _ _))
    (Touches.ite (Touches.step (State.pfxFail_touches ..) (Touches.sub hm rfl) (Touches.refl _ _)) ?_)
  split
  · rename_i hu
    exact Touches.step (State.pfxRegs_touches _) (Touches.sub hm rfl) (Touches.step (State.pfxResult_touches ..)
      (Touches.sub hm rfl) (Touches.of_eq (fun d => d.2) hu (hf _ _)))
  · rename_i hu
    exact Touches.step (State.pfxRegs_touches _) (Touches.sub hm rfl) (Touches.step (State.pfxFail_touches ..)
      (Touches.sub hm rfl) (Touches.of_eq (fun d => d.2) hu (hf _ _)))

theorem State.gatherPut_touches (s : State) (reach : Option Nat) (va : Nat) (b : List Byte) : Touches 0x807000000004080101000000000000000000000000000001c080000000000000000000000000000000000000000000000000000000000000000000000000026000e17 s (State.gatherPut s reach va b).2 := by
  unfold State.gatherPut
  refine Touches.ite2 ?_ ?_
  · extract_lets -merge +onlyGivenNames x1
    clear_value x1
    extract_lets -merge +onlyGivenNames x2
    clear_value x2
    refine Touches.ite2 ?_ ?_
    · exact Touches.pair2 (Touches.step (State.setSram_touches ..) rfl (Touches.refl _ _))
    · exact Touches.pair2 (Touches.refl _ _)
  · split
    · rename_i x3 x4 e5
      have h6 : Touches 0x807000000004080101000000000000000000000000000001c080000000000000000000000000000000000000000000000000000000000000000000000000026000e17 s x4 := Touches.of_eq (fun d => d.2) e5 (Touches.step (State.vwrite_touches ..) rfl (Touches.refl _ _))
      exact h6
    · rename_i x7 x8 x9 e10
      have h11 : Touches 0x807000000004080101000000000000000000000000000001c080000000000000000000000000000000000000000000000000000000000000000000000000026000e17 s x9 := Touches.of_eq (fun d => d.2) e10 (Touches.step (State.vwrite_touches ..) rfl (Touches.refl _ _))
      exact h11

theorem State.gatherLoop_touches (a : Adapter) (va : Nat) (reach : Option Nat) (a3 : Nat) (a4 : State) (a5 : Nat) (a6 : Nat) (a7 : Nat) : Touches 0x208070000000040801010000002000000000000000000001e9c080000000000000000000000000000000000000000000000000000000000000000000000000026000e17 a4 (State.gatherLoop a va reach a3 a4 a5 a6 a7).2 := by
  fun_induction State.gatherLoop a va reach a3 a4 a5 a6 a7
  · rename_i x1 x2 x3 x4
    exact Touches.pair2 (Touches.refl _ _)
  · rename_i x5 x6 x7 x8 x9 x10 x11 e12
    have h13 : Touches 0x208070000000040801010000002000000000000000000001e9c080000000000000000000000000000000000000000000000000000000000000000000000000026000e17 x6 x11 := Touches.of_eq (fun d => d.2) e12 (Touches.step (State.vread_touches ..) rfl (Touches.refl _ _))
    exact h13
  · rename_i x14 x15 x16 x17 x18 x19 x20 e21 x22 x23 x24 x25 e26
    have h27 : Touches 0x208070000000040801010000002000000000000000000001e9c080000000000000000000000000000000000000000000000000000000000000000000000000026000e17 x15 x20 := Touches.of_eq (fun d => d.2) e21 (Touches.step (State.vread_touches ..) rfl (Touches.refl _ _))
    have h28 : Touches 0x208070000000040801010000002000000000000000000001e9c080000000000000000000000000000000000000000000000000000000000000000000000000026000e17 x15 x25 := Touches.of_eq (fun d => d.2) e26 (Touches.step (State.vread_touches ..) rfl h27)
    exact h28
  · rename_i x29 x30 x31 x32 x33 x34 x35 e36 x37 x38 x39 x40 x41 e42 x43 x44 e45
    have h46 : Touches 0x208070000000040801010000002000000000000000000001e9c080000000000000000000000000000000000000000000000000000000000000000000000000026000e17 x30 x35 := Touches.of_eq (fun d => d.2) e36 (Touches.step (State.vread_touches ..) rfl (Touches.refl _ _))
    have h47 : Touches 0x208070000000040801010000002000000000000000000001e9c080000000000000000000000000000000000000000000000000000000000000000000000000026000e17 x30 x41 := Touches.of_eq (fun d => d.2) e42 (Touches.step (State.vread_touches ..) rfl h46)
    have h48 : Touches 0x208070000000040801010000002000000000000000000001e9c080000000000000000000000000000000000000000000000000000000000000000000000000026000e17 x30 x44 := Touches.of_eq (fun d => d.2) e45 (Touches.step (State.vread_touches ..) rfl h47)
    exact h48
  · rename_i x49 x50 x51 x52 x53 x54 x55 e56 x57 x58 x59 x60 x61 e62 x63 x64 e65 x66 x67 x68 x69 e70
    have h71 : Touches 0x208070000000040801010000002000000000000000000001e9c080000000000000000000000000000000000000000000000000000000000000000000000000026000e17 x50 x55 := Touches.of_eq (fun d => d.2) e56 (Touches.step (State.vread_touches ..) rfl (Touches.refl _ _))
    have h72 : Touches 0x208070000000040801010000002000000000000000000001e9c080000000000000000000000000000000000000000000000000000000000000000000000000026000e17 x50 x61 := Touches.of_eq (fun d => d.2) e62 (Touches.step (State.vread_touches ..) rfl h71)
    have h73 : Touches 0x208070000000040801010000002000000000000000000001e9c080000000000000000000000000000000000000000000000000000000000000000000000000026000e17 x50 x64 := Touches.of_eq (fun d => d.2) e65 (Touches.step (State.vread_touches ..) rfl h72)
    have h74 : Touches 0x208070000000040801010000002000000000000000000001e9c080000000000000000000000000000000000000000000000000000000000000000000000000026000e17 x50 x69 := Touches.of_eq (fun d => d.2) e70 (Touches.step (State.gatherPut_touches ..) rfl h73)
    exact h74
  · rename_i x75 x76 x77 x78 x79 x80 x81 e82 x83 x84 x85 x86 x87 e88 x89 x90 e91 x92 x93 x94 e95 e96
    have h97 : Touches 0x208070000000040801010000002000000000000000000001e9c080000000000000000000000000000000000000000000000000000000000000000000000000026000e17 x76 x81 := Touches.of_eq (fun d => d.2) e82 (Touches.step (State.vread_touches ..) rfl (Touches.refl _ _))
    have h98 : Touches 0x208070000000040801010000002000000000000000000001e9c080000000000000000000000000000000000000000000000000000000000000000000000000026000e17 x76 x87 := Touches.of_eq (fun d => d.2) e88 (Touches.step (State.vread_touches ..) rfl h97)
    have h99 : Touches 0x208070000000040801010000002000000000000000000001e9c080000000000000000000000000000000000000000000000000000000000000000000000000026000e17 x76 x90 := Touches.of_eq (fun d => d.2) e91 (Touches.step (State.vread_touches ..) rfl h98)
    have h100 : Touches 0x208070000000040801010000002000000000000000000001e9c080000000000000000000000000000000000000000000000000000000000000000000000000026000e17 x76 x94 := Touches.of_eq (fun d => d.2) e95 (Touches.step (State.gatherPut_touches ..) rfl h99)
    exact Touches.trans h100 e96

theorem State.gatherStart_touches (s : State) (q : PReq) (src : PSrc) : Touches 0x807000000004080101000000000000590040000000000001c08100000000000000000000000000000000000000000000000000000000000000000000000002681a617 s (State.gatherStart s q src) := by
  unfold State.gatherStart
  extract_lets -merge +onlyGivenNames x1
  clear_value x1
  extract_lets -merge +onlyGivenNames x2
  clear_value x2
  extract_lets -merge +onlyGivenNames x3
  clear_value x3
  refine Touches.ite ?_ ?_
  · exact Touches.step (State.pfxFail_touches ..) rfl (Touches.refl _ _)
  · refine Touches.ite ?_ ?_
    · exact Touches.step (State.pfxFail_touches ..) rfl (Touches.refl _ _)
    · extract_lets -merge +onlyGivenNames x4
      have h5 : Touches 0x807000000004080101000000000000590040000000000001c08100000000000000000000000000000000000000000000000000000000000000000000000002681a617 s x4 := by
        unfold x4
        refine Touches.trans ?_ (State.setB_touches _ _ _ rfl 363 rfl grp_PFX_STATUS)
        exact State.inc_touches _ _ _ rfl 379 rfl grp_ADP_CNT_GATHERS
      clear_value x4
      extract_lets -merge +onlyGivenNames x6
      have h7 : Touches 0x807000000004080101000000000000590040000000000001c08100000000000000000000000000000000000000000000000000000000000000000000000002681a617 s x6 := by
        unfold x6
        refine Touches.ite ?_ ?_
        · exact h5
        · exact Touches.step (State.setAdapter_touches ..) rfl h5
      clear_value x6
      exact Touches.step (State.adpRegs_touches ..) rfl (Touches.setPfx h7 rfl)

theorem State.gatherEnd_touches (s : State) : Touches 0x208070000000040801010000002000001900400000000001e9c08100000000000000000000000000000000000000000000000000000000000000000000000002681ae17 s (State.gatherEnd s) := by
  unfold State.gatherEnd
  split
  · exact Touches.refl _ _
  · extract_lets -merge +onlyGivenNames x1
    clear_value x1
    extract_lets -merge +onlyGivenNames x2
    have h3 : Touches 0x208070000000040801010000002000001900400000000001e9c08100000000000000000000000000000000000000000000000000000000000000000000000002681ae17 s x2 := by unfold x2; exact Touches.trans (Touches.setPfx (Touches.refl _ _) rfl) (State.setB_touches _ _ _ rfl 363 rfl grp_PFX_STATUS)
    clear_value x2
    extract_lets -merge +onlyGivenNames x4
    clear_value x4
    split
    rename_i x5 x6 x7 e8
    have h9 : Touches 0x208070000000040801010000002000001900400000000001e9c08100000000000000000000000000000000000000000000000000000000000000000000000002681ae17 s x7 := Touches.of_eq (fun d => d.2) e8 (Touches.step (State.gatherLoop_touches ..) rfl h3)
    extract_lets -merge +onlyGivenNames x10
    clear_value x10
    extract_lets -merge +onlyGivenNames x11
    have h12 : Touches 0x208070000000040801010000002000001900400000000001e9c08100000000000000000000000000000000000000000000000000000000000000000000000002681ae17 s x11 := by
      unfold x11
      split
      · exact h9
      · exact Touches.step (State.setAdapter_touches ..) rfl h9
    clear_value x11
    extract_lets -merge +onlyGivenNames x13
    have h14 : Touches 0x208070000000040801010000002000001900400000000001e9c08100000000000000000000000000000000000000000000000000000000000000000000000002681ae17 s x13 := by unfold x13; exact Touches.step (State.adpRegs_touches ..) rfl h12
    clear_value x13
    split
    · exact Touches.step (State.pfxResult_touches ..) rfl h14
    · exact Touches.step (State.pfxFail_touches ..) rfl h14

theorem State.pfxFormat_touches (s : State) : Touches 0x807000000004080101000000000000000840000000000001c080000000000000000000000000000000000000000000000000000000000000000000000000026800617 s (State.pfxFormat s) := by
  unfold State.pfxFormat
  extract_lets -merge +onlyGivenNames x1
  clear_value x1
  extract_lets -merge +onlyGivenNames x2
  clear_value x2
  refine Touches.ite ?_ ?_
  · exact State.report_touches _ _ _ _ _ rfl 363 rfl grp_PFX_STATUS
  · extract_lets -merge +onlyGivenNames x3
    have h4 : Touches 0x807000000004080101000000000000000840000000000001c080000000000000000000000000000000000000000000000000000000000000000000000000026800617 s x3 := by unfold x3; exact State.setB_touches _ _ _ rfl 363 rfl grp_PFX_STATUS
    clear_value x3
    extract_lets -merge +onlyGivenNames x5
    clear_value x5
    extract_lets -merge +onlyGivenNames x6
    have h7 : Touches 0x807000000004080101000000000000000840000000000001c080000000000000000000000000000000000000000000000000000000000000000000000000026800617 s x6 := by unfold x6; exact Touches.setPfx h4 rfl
    clear_value x6
    split
    rename_i x8 x9 x10 e11
    have h12 : Touches 0x807000000004080101000000000000000840000000000001c080000000000000000000000000000000000000000000000000000000000000000000000000026800617 s x10 := Touches.of_eq (fun d => d.2) e11 (Touches.step (State.nodePuts_touches ..) rfl h7)
    extract_lets -merge +onlyGivenNames x13
    have h14 : Touches 0x807000000004080101000000000000000840000000000001c080000000000000000000000000000000000000000000000000000000000000000000000000026800617 s x13 := by
      unfold x13
      refine Touches.step (State.pfxRegs_touches ..) rfl ?_
      exact Touches.trans h12 (State.setB_touches _ _ _ rfl 363 rfl grp_PFX_STATUS)
    clear_value x13
    split
    · exact Touches.trans h14 (State.report_touches _ _ _ _ _ rfl 363 rfl grp_PFX_STATUS)
    · exact h14

theorem State.writePfxCtrl_touches (s : State) (v : Nat) : Touches 0x807000000004080101000000000000000860000000000001c080000000000000000000000000000000000000000000000000000000000000000000000000026800617 s (State.writePfxCtrl s v) := by
  unfold State.writePfxCtrl
  extract_lets -merge +onlyGivenNames x1
  have h2 : Touches 0x807000000004080101000000000000000860000000000001c080000000000000000000000000000000000000000000000000000000000000000000000000026800617 s x1 := by unfold x1; exact State.setF_touches _ _ _ rfl 362 rfl grp_PFX_CTRL
  clear_value x1
  refine Touches.ite ?_ ?_
  · exact Touches.step (State.pfxFormat_touches ..) rfl h2
  · exact h2

theorem State.pfxClear_touches (s : State) : Touches 0x1008400000000000000000000000000000000000000000000000000000000000000000000000000000000000000000000800001 s (State.pfxClear s) := by
  unfold State.pfxClear
  extract_lets -merge +onlyGivenNames x1
  have h2 : Touches 0x1008400000000000000000000000000000000000000000000000000000000000000000000000000000000000000000000800001 s x1 := by
    unfold x1
    refine Touches.trans ?_ (State.setB_touches _ _ _ rfl 363 rfl grp_PFX_STATUS)
    exact State.setB_touches _ _ _ rfl 363 rfl grp_PFX_STATUS
  clear_value x1
  refine Touches.step (State.adpRegs_touches ..) rfl ?_
  refine Touches.step (State.pfxRegs_touches ..) rfl ?_
  exact Touches.trans (Touches.setPfx h2 rfl) (State.setB_touches _ _ _ rfl 363 rfl grp_PFX_STATUS)

theorem execWalk_ends (gill : Option Nat) (s : State) : Ends 0x208070000000040801010000002000000938400000005001e9c08100000000000000000000000000000000000000000000000000000000000000000000000002681a617 s (execWalk gill s) := by
  unfold execWalk
  refine Ends.next ?_
  refine Touches.trans ?_ (State.pfxRun_touches _ _ _ _ rfl ?_)
  · exact Touches.refl _ _
  · intro y1
    intro y2
    exact Touches.step (State.pfxWalk_touches ..) rfl (Touches.refl _ _)

theorem execInsert_ends (gill : Option Nat) (s : State) : Ends 0x2080700000000408010100000028000009c8400000005001e9c08100000000000000000000000000000000000000000000000000000000000000000000000012681a617 s (execInsert gill s) := by
  unfold execInsert
  refine Ends.next ?_
  refine Touches.trans ?_ (State.pfxRun_touches _ _ _ _ rfl ?_)
  · exact Touches.refl _ _
  · intro y1
    intro y2
    exact Touches.step (State.pfxInsert_touches ..) rfl (Touches.refl _ _)

theorem execRelease_ends (gill : Option Nat) (s : State) : Ends 0x208070000000040801010000002000000908400000005001e9c08100000000000000000000000000000000000000000000000000000000000000000000000002681a617 s (execRelease gill s) := by
  unfold execRelease
  refine Ends.next ?_
  refine Touches.trans ?_ (State.pfxRun_touches _ _ _ _ rfl ?_)
  · exact Touches.refl _ _
  · intro y1
    intro y2
    exact Touches.step (State.pfxRelease_touches ..) rfl (Touches.refl _ _)

theorem execPin_ends (gill : Option Nat) (s : State) : Ends 0x208070000000040801010000002000000908400000005001e9c08100000000000000000000000000000000000000000000000000000000000000000000000002681a617 s (execPin gill s) := by
  unfold execPin
  refine Ends.next ?_
  refine Touches.trans ?_ (State.pfxRun_touches _ _ _ _ rfl ?_)
  · exact Touches.refl _ _
  · intro y1
    intro y2
    exact Touches.step (State.pfxPin_touches ..) rfl (Touches.refl _ _)

theorem execUnpin_ends (gill : Option Nat) (s : State) : Ends 0x208070000000040801010000002000000908400000005001e9c08100000000000000000000000000000000000000000000000000000000000000000000000002681a617 s (execUnpin gill s) := by
  unfold execUnpin
  refine Ends.next ?_
  refine Touches.trans ?_ (State.pfxRun_touches _ _ _ _ rfl ?_)
  · exact Touches.refl _ _
  · intro y1
    intro y2
    exact Touches.step (State.pfxUnpin_touches ..) rfl (Touches.refl _ _)

theorem execEvict_ends (gill : Option Nat) (s : State) : Ends 0x208070000000040801010000002800000988400000005001e9c08100000000000000000000000000000000000000000000000000000000000000000000000012681a617 s (execEvict gill s) := by
  unfold execEvict
  refine Ends.next ?_
  refine Touches.trans ?_ (State.pfxRun_touches _ _ _ _ rfl ?_)
  · exact Touches.refl _ _
  · intro y1
    intro y2
    exact Touches.step (State.pfxEvict_touches ..) rfl (Touches.refl _ _)

theorem execGather_ends (gill : Option Nat) (done : Bool) (s : State) : Ends 0x208070000000040801010000002000005900400000005001e9c08100000000000000000000000000000000000000000000000000000000000000000000000002681ae17 s (execGather gill done s) := by
  unfold execGather
  refine Ends.next ?_
  refine Touches.ite ?_ ?_
  · exact Touches.step (State.gatherEnd_touches ..) rfl (Touches.refl _ _)
  · refine Touches.trans ?_ (State.pfxDo_touches _ _ _ _ rfl ?_)
    · exact Touches.refl _ _
    · intro y1
      intro y2
      intro y3
      exact Touches.step (State.gatherStart_touches ..) rfl (Touches.refl _ _)

theorem execPublish_ends (gill : Option Nat) (s : State) : Ends 0x208070000000040801010000002000009900400000005001e9c08100000000000000000000000000000000000000000000000000000000000000000000000002681a617 s (execPublish gill s) := by
  unfold execPublish
  refine Ends.next ?_
  refine Touches.trans ?_ (State.pfxDo_touches _ _ _ _ rfl ?_)
  · exact Touches.refl _ _
  · intro y1
    intro y2
    intro y3
    split
    · rename_i x4 x5 x6 e7
      have h8 : Touches 0x208070000000040801010000002000009900400000005001e9c08100000000000000000000000000000000000000000000000000000000000000000000000002681a617 y1 x6 := Touches.of_eq (fun d => d.2) e7 (Touches.step (State.adpPublish_touches ..) rfl (Touches.refl _ _))
      exact Touches.step (State.pfxFail_touches ..) rfl h8
    · rename_i x9 x10 e11
      have h12 : Touches 0x208070000000040801010000002000009900400000005001e9c08100000000000000000000000000000000000000000000000000000000000000000000000002681a617 y1 x10 := Touches.of_eq (fun d => d.2) e11 (Touches.step (State.adpPublish_touches ..) rfl (Touches.refl _ _))
      exact Touches.step (State.pfxResult_touches ..) rfl h12

theorem execPfxFormat_ends (value : Nat) (s : State) : Ends 0x807000000004080101000000000000000860000000000001c080000000000000000000000000000000000000000000000000000000102000000000000000026800697 s (execPfxFormat value s) := by
  unfold execPfxFormat
  refine Ends.next ?_
  refine Touches.trans ?_ (State.regWrite_touches _ _ _ _ rfl ?_)
  · exact Touches.refl _ _
  · intro y1
    exact Touches.step (State.writePfxCtrl_touches ..) rfl (Touches.refl _ _)

theorem execAdpWrite_ends (s : State) : Ends 0x208070000000040801010000002000009c00000000000001e9c080000000000000000000000000000000000000000000000000000000102000000000000000026800695 s (execAdpWrite s) := by
  unfold execAdpWrite
  refine Ends.next ?_
  refine Touches.trans ?_ (State.regWrite_touches _ _ _ _ rfl ?_)
  · exact Touches.refl _ _
  · intro y1
    exact Touches.step (State.adpCmd_touches ..) rfl (Touches.refl _ _)

theorem execAdpStage_ends (s : State) : Ends 0x208070000000040801010000002000009c00000000000001e9c080000000000000000000000000000000000000000000000000000000102000000000000000026800695 s (execAdpStage s) := by
  unfold execAdpStage
  refine Ends.next ?_
  refine Touches.trans ?_ (State.regWrite_touches _ _ _ _ rfl ?_)
  · exact Touches.refl _ _
  · intro y1
    exact Touches.step (State.adpCmd_touches ..) rfl (Touches.refl _ _)

theorem execAdpPublish_ends (s : State) : Ends 0x208070000000040801010000002000009c00000000000001e9c080000000000000000000000000000000000000000000000000000000102000000000000000026800695 s (execAdpPublish s) := by
  unfold execAdpPublish
  refine Ends.next ?_
  refine Touches.trans ?_ (State.regWrite_touches _ _ _ _ rfl ?_)
  · exact Touches.refl _ _
  · intro y1
    exact Touches.step (State.adpCmd_touches ..) rfl (Touches.refl _ _)

theorem execAdpClear_ends (s : State) : Ends 0x208070000000040801010000002000009c00000000000001e9c080000000000000000000000000000000000000000000000000000000102000000000000000026800695 s (execAdpClear s) := by
  unfold execAdpClear
  refine Ends.next ?_
  refine Touches.trans ?_ (State.regWrite_touches _ _ _ _ rfl ?_)
  · exact Touches.refl _ _
  · intro y1
    exact Touches.step (State.adpCmd_touches ..) rfl (Touches.refl _ _)

theorem execAdpDescRead_ends (s : State) : Ends 0x8070000000040800000000000000002000000000000000000000000000000000000000000000000000000000000000000000000000102000000000000000022000295 s (execAdpDescRead s) := by
  unfold execAdpDescRead
  refine Ends.next ?_
  refine Touches.trans ?_ (State.regRead_touches _ _ _ rfl ?_)
  · exact Touches.refl _ _
  · intro y1
    exact Touches.step (State.adpRead_touches ..) rfl (Touches.refl _ _)

end Sys2Proof.Machine
end

