-- ==== Sys2Proof/Laws/FrameAugment.lean ====
section
/-! SUPPORT. What each operation of Machine/Augment.lean can do: the parts of the state it touches (Touches). -/

-- One declaration at a time: many proofs at once would each hold a thread with a large stack.
set_option Elab.async false

namespace Sys2Proof.Machine

theorem State.augReport_touches (s : State) (sts : Nat) (detail : Nat) : Touches 0x8070000000040800000000000000010000000000000000000000000000000000000000000000000000000000000000000000000000000000000000000000022000211 s (State.augReport s sts detail) := by
  unfold State.augReport
  exact State.report_touches _ _ _ _ _ rfl 381 rfl grp_AUG_STATUS

theorem State.augRead_touches (elem : Nat) (x : AugSample) (a2 : Nat) (a3 : State) (a4 : Nat) : Touches 0x208070000000040801010000002000000000000000000001e9c080000000000000000000000000000000000000000000000000000000000000000000000000026000615 a3 (State.augRead elem x a2 a3 a4).2 := by
  fun_induction State.augRead elem x a2 a3 a4
  · rename_i x1 x2
    exact Touches.pair2 (Touches.refl _ _)
  · rename_i x3 x4 x5 x6 x7 e8
    have h9 : Touches 0x208070000000040801010000002000000000000000000001e9c080000000000000000000000000000000000000000000000000000000000000000000000000026000615 x4 x7 := Touches.of_eq (fun d => d.2) e8 (Touches.step (State.vread_touches ..) rfl (Touches.refl _ _))
    exact h9
  · rename_i x10 x11 x12 x13 x14 e15 x16 x17 e18 e19
    have h20 : Touches 0x208070000000040801010000002000000000000000000001e9c080000000000000000000000000000000000000000000000000000000000000000000000000026000615 x11 x14 := Touches.of_eq (fun d => d.2) e15 (Touches.step (State.vread_touches ..) rfl (Touches.refl _ _))
    have h21 : Touches 0x208070000000040801010000002000000000000000000001e9c080000000000000000000000000000000000000000000000000000000000000000000000000026000615 x11 x17 := Touches.of_eq (fun d => d.2) e18 (Touches.trans h20 e19)
    exact h21
  · rename_i x22 x23 x24 x25 x26 e27 x28 x29 e30 e31
    have h32 : Touches 0x208070000000040801010000002000000000000000000001e9c080000000000000000000000000000000000000000000000000000000000000000000000000026000615 x23 x26 := Touches.of_eq (fun d => d.2) e27 (Touches.step (State.vread_touches ..) rfl (Touches.refl _ _))
    have h33 : Touches 0x208070000000040801010000002000000000000000000001e9c080000000000000000000000000000000000000000000000000000000000000000000000000026000615 x23 x29 := Touches.of_eq (fun d => d.2) e30 (Touches.trans h32 e31)
    exact h33

theorem State.augSample_touches (s : State) (seed : Nat) (elem : Nat) (ops : List AugOp) (k : Nat) (x : AugSample) : Touches 0x208070000000040801010000002001d10000000000000001e9c080000000000000000000000000000000000000000000000000000000000000000000000000026000617 s (State.augSample s seed elem ops k x).2 := by
  unfold State.augSample
  split
  · refine Touches.pair2 ?_
    exact Touches.step (State.augReport_touches ..) rfl (State.inc_touches _ _ _ rfl 388 rfl grp_AUG_CNT_DIM_REFUSED)
  · extract_lets -merge +onlyGivenNames x1
    clear_value x1
    split
    · refine Touches.pair2 ?_
      exact Touches.step (State.augReport_touches ..) rfl (State.inc_touches _ _ _ rfl 389 rfl grp_AUG_CNT_FAILED)
    · extract_lets -merge +onlyGivenNames x2
      have h3 : Touches 0x208070000000040801010000002001d10000000000000001e9c080000000000000000000000000000000000000000000000000000000000000000000000000026000617 s x2 := by unfold x2; exact State.setF_touches _ _ _ rfl 385 rfl grp_AUG_POOL_TAIL
      clear_value x2
      extract_lets -merge +onlyGivenNames x4
      clear_value x4
      split
      · rename_i x5 x6 x7 e8
        have h9 : Touches 0x208070000000040801010000002001d10000000000000001e9c080000000000000000000000000000000000000000000000000000000000000000000000000026000617 s x7 := Touches.of_eq (fun d => d.2) e8 (Touches.step (State.augRead_touches ..) rfl h3)
        refine Touches.pair2 ?_
        refine Touches.step (State.augReport_touches ..) rfl ?_
        exact Touches.trans h9 (State.inc_touches _ _ _ rfl 389 rfl grp_AUG_CNT_FAILED)
      · rename_i x10 x11 x12 e13
        have h14 : Touches 0x208070000000040801010000002001d10000000000000001e9c080000000000000000000000000000000000000000000000000000000000000000000000000026000617 s x12 := Touches.of_eq (fun d => d.2) e13 (Touches.step (State.augRead_touches ..) rfl h3)
        split
        · rename_i x15 x16 x17 e18
          have h19 : Touches 0x208070000000040801010000002001d10000000000000001e9c080000000000000000000000000000000000000000000000000000000000000000000000000026000617 s x17 := Touches.of_eq (fun d => d.2) e18 (Touches.step (State.vwrite_touches ..) rfl h14)
          refine Touches.pair2 ?_
          refine Touches.step (State.augReport_touches ..) rfl ?_
          exact Touches.trans h19 (State.inc_touches _ _ _ rfl 389 rfl grp_AUG_CNT_FAILED)
        · rename_i x20 x21 e22
          have h23 : Touches 0x208070000000040801010000002001d10000000000000001e9c080000000000000000000000000000000000000000000000000000000000000000000000000026000617 s x21 := Touches.of_eq (fun d => d.2) e22 (Touches.step (State.vwrite_touches ..) rfl h14)
          exact Touches.pair2 (Touches.trans h23 (State.inc_touches _ _ _ rfl 387 rfl grp_AUG_CNT_SAMPLES))

theorem State.augSamples_touches (seed : Nat) (elem : Nat) (ops : List AugOp) (resVa : Nat) (a4 : List AugSample) (a5 : State) (a6 : Nat) : Touches 0x208070000000040801010000002001d10000000000000001e9c080000000000000000000000000000000000000000000000000000000000000000000000000026000617 a5 (State.augSamples seed elem ops resVa a4 a5 a6) := by
  fun_induction State.augSamples seed elem ops resVa a4 a5 a6
  · rename_i x1 x2
    exact Touches.refl _ _
  · rename_i x3 x4 x5 x6 x7 x8 x9 x10 e11 x12 e13
    have h14 : Touches 0x208070000000040801010000002001d10000000000000001e9c080000000000000000000000000000000000000000000000000000000000000000000000000026000617 x5 x10 := Touches.of_eq (fun d => d.2) e11 (Touches.step (State.augSample_touches ..) rfl (Touches.refl _ _))
    have h15 : Touches 0x208070000000040801010000002001d10000000000000001e9c080000000000000000000000000000000000000000000000000000000000000000000000000026000617 x5 x12 := by unfold x12; exact Touches.step (State.vwrite_touches ..) rfl h14
    exact Touches.trans h15 e13

theorem State.augJob_touches (s : State) : Touches 0x208070000000040801010000002001d10000000000000001e9c080000000000000000000000000000000000000000000000000000000000000000000000000026002617 s (State.augJob s) := by
  unfold State.augJob
  split
  · exact Touches.refl _ _
  · extract_lets -merge +onlyGivenNames x1
    clear_value x1
    extract_lets -merge +onlyGivenNames x2
    split
    · rename_i x3 x4 x5 e6
      have h7 : Touches 0x208070000000040801010000002001d10000000000000001e9c080000000000000000000000000000000000000000000000000000000000000000000000000026002617 s x5 := Touches.of_eq (fun d => d.2) e6 (Touches.step (State.vread_touches ..) rfl (Touches.refl _ _))
      unfold x2
      exact Touches.setChainsDone h7 rfl
    · rename_i x8 x9 x10 e11
      have h12 : Touches 0x208070000000040801010000002001d10000000000000001e9c080000000000000000000000000000000000000000000000000000000000000000000000000026002617 s x10 := Touches.of_eq (fun d => d.2) e11 (Touches.step (State.vread_touches ..) rfl (Touches.refl _ _))
      extract_lets -merge +onlyGivenNames x13
      clear_value x13
      extract_lets -merge +onlyGivenNames x14
      clear_value x14
      refine Touches.ite ?_ ?_
      · unfold x2
        exact Touches.setChainsDone (Touches.step (State.augReport_touches ..) rfl h12) rfl
      · split
        · rename_i x15 x16 x17 e18
          have h19 : Touches 0x208070000000040801010000002001d10000000000000001e9c080000000000000000000000000000000000000000000000000000000000000000000000000026002617 s x17 := Touches.of_eq (fun d => d.2) e18 (Touches.step (State.vread_touches ..) rfl h12)
          unfold x2
          exact Touches.setChainsDone h19 rfl
        · rename_i x20 x21 x22 e23
          have h24 : Touches 0x208070000000040801010000002001d10000000000000001e9c080000000000000000000000000000000000000000000000000000000000000000000000000026002617 s x22 := Touches.of_eq (fun d => d.2) e23 (Touches.step (State.vread_touches ..) rfl h12)
          split
          · rename_i x25 x26 x27 e28
            have h29 : Touches 0x208070000000040801010000002001d10000000000000001e9c080000000000000000000000000000000000000000000000000000000000000000000000000026002617 s x27 := Touches.of_eq (fun d => d.2) e28 (Touches.step (State.vread_touches ..) rfl h24)
            unfold x2
            exact Touches.setChainsDone h29 rfl
          · rename_i x30 x31 x32 e33
            have h34 : Touches 0x208070000000040801010000002001d10000000000000001e9c080000000000000000000000000000000000000000000000000000000000000000000000000026002617 s x32 := Touches.of_eq (fun d => d.2) e33 (Touches.step (State.vread_touches ..) rfl h24)
            extract_lets -merge +onlyGivenNames x35
            extract_lets -merge +onlyGivenNames x36
            split
            · unfold x2
              exact Touches.setChainsDone (Touches.step (State.augReport_touches ..) rfl h34) rfl
            · unfold x2
              exact Touches.setChainsDone (Touches.step (State.augSamples_touches ..) rfl h34) rfl

theorem execAugJob_ends (s : State) : Ends 0x208070000000040801010000002001d10000000000000001e9c080000000000000000000000000000000000000000000000000000000000000000000000000026002617 s (execAugJob s) := by
  unfold execAugJob
  exact Ends.next (Touches.step (State.augJob_touches ..) rfl (Touches.refl _ _))

end Sys2Proof.Machine
end

