-- ==== Sys2Proof/Laws/FrameAnneal.lean ====
section
/-! SUPPORT. What each operation of Machine/Anneal.lean can do: the parts of the state it touches (Touches). -/

-- One declaration at a time: many proofs at once would each hold a thread with a large stack.
set_option Elab.async false

namespace Sys2Proof.Machine

theorem State.annRead_touches (s : State) (va : Nat) (n : Nat) : Touches 0x208070000000040801010000002000000000000000000001e9c080000000000000000000000000000000000000000000000000000000000000000000000000026000615 s (State.annRead s va n).2 := by
  unfold State.annRead
  split
  · rename_i x1 x2 x3 e4
    have h5 : Touches 0x208070000000040801010000002000000000000000000001e9c080000000000000000000000000000000000000000000000000000000000000000000000000026000615 s x3 := Touches.of_eq (fun d => d.2) e4 (Touches.step (State.vread_touches ..) rfl (Touches.refl _ _))
    exact h5
  · rename_i x6 x7 x8 e9
    have h10 : Touches 0x208070000000040801010000002000000000000000000001e9c080000000000000000000000000000000000000000000000000000000000000000000000000026000615 s x8 := Touches.of_eq (fun d => d.2) e9 (Touches.step (State.vread_touches ..) rfl (Touches.refl _ _))
    exact h10

theorem State.annLoad_touches (s : State) (va : Nat) : Touches 0x208070000000040801010000002000000000000000000001e9c080000000000000000000000000000000000000000000000000000000000000000000000000026000615 s (State.annLoad s va).2 := by
  unfold State.annLoad
  split
  · rename_i x1 x2 x3 e4
    have h5 : Touches 0x208070000000040801010000002000000000000000000001e9c080000000000000000000000000000000000000000000000000000000000000000000000000026000615 s x3 := Touches.of_eq (fun d => d.2) e4 (Touches.step (State.annRead_touches ..) rfl (Touches.refl _ _))
    exact h5
  · rename_i x6 x7 x8 e9
    have h10 : Touches 0x208070000000040801010000002000000000000000000001e9c080000000000000000000000000000000000000000000000000000000000000000000000000026000615 s x8 := Touches.of_eq (fun d => d.2) e9 (Touches.step (State.annRead_touches ..) rfl (Touches.refl _ _))
    extract_lets -merge +onlyGivenNames x11
    clear_value x11
    split
    · exact h10
    · split
      · rename_i x12 x13 x14 e15
        have h16 : Touches 0x208070000000040801010000002000000000000000000001e9c080000000000000000000000000000000000000000000000000000000000000000000000000026000615 s x14 := Touches.of_eq (fun d => d.2) e15 (Touches.step (State.annRead_touches ..) rfl h10)
        exact h16
      · rename_i x17 x18 x19 e20
        have h21 : Touches 0x208070000000040801010000002000000000000000000001e9c080000000000000000000000000000000000000000000000000000000000000000000000000026000615 s x19 := Touches.of_eq (fun d => d.2) e20 (Touches.step (State.annRead_touches ..) rfl h10)
        split
        · rename_i x22 x23 x24 e25
          have h26 : Touches 0x208070000000040801010000002000000000000000000001e9c080000000000000000000000000000000000000000000000000000000000000000000000000026000615 s x24 := Touches.of_eq (fun d => d.2) e25 (Touches.step (State.annRead_touches ..) rfl h21)
          exact h26
        · rename_i x27 x28 x29 e30
          have h31 : Touches 0x208070000000040801010000002000000000000000000001e9c080000000000000000000000000000000000000000000000000000000000000000000000000026000615 s x29 := Touches.of_eq (fun d => d.2) e30 (Touches.step (State.annRead_touches ..) rfl h21)
          split
          · rename_i x32 x33 x34 e35
            have h36 : Touches 0x208070000000040801010000002000000000000000000001e9c080000000000000000000000000000000000000000000000000000000000000000000000000026000615 s x34 := Touches.of_eq (fun d => d.2) e35 (Touches.step (State.annRead_touches ..) rfl h31)
            exact h36
          · rename_i x37 x38 x39 e40
            have h41 : Touches 0x208070000000040801010000002000000000000000000001e9c080000000000000000000000000000000000000000000000000000000000000000000000000026000615 s x39 := Touches.of_eq (fun d => d.2) e40 (Touches.step (State.annRead_touches ..) rfl h31)
            exact h41

theorem State.annReport_touches (s : State) (sts : Nat) (detail : Nat) : Touches 0x8070000000040800000000000004000000000000000000000000000000000000000000000000000000000000000000000000000000000000000000000000022000211 s (State.annReport s sts detail) := by
  unfold State.annReport
  exact State.report_touches _ _ _ _ _ rfl 391 rfl grp_ANN_STATUS

theorem State.annEnd_touches (s : State) (sts : Nat) : Touches 0x2c4000000000000000000000000000000000000000000000000000000000000000000000000000000000000000000000000001002001 s (State.annEnd s sts) := by
  unfold State.annEnd
  split
  · exact Touches.refl _ _
  · extract_lets -merge +onlyGivenNames x1
    clear_value x1
    extract_lets -merge +onlyGivenNames x2
    have h3 : Touches 0x2c4000000000000000000000000000000000000000000000000000000000000000000000000000000000000000000000000001002001 s x2 := by
      unfold x2
      refine Touches.trans ?_ (State.raise_touches _ _ _ rfl 398 rfl grp_ANN_MAX_US)
      exact State.inc_touches _ _ _ rfl 395 rfl grp_ANN_CNT_PROBLEMS
    clear_value x2
    extract_lets -merge +onlyGivenNames x4
    have h5 : Touches 0x2c4000000000000000000000000000000000000000000000000000000000000000000000000000000000000000000000000001002001 s x4 := by
      unfold x4
      refine Touches.ite ?_ ?_
      · exact h3
      · exact Touches.trans h3 (State.inc_touches _ _ _ rfl 396 rfl grp_ANN_CNT_FAILED)
    clear_value x4
    refine Touches.trans ?_ (State.setF_touches _ _ _ rfl 391 rfl grp_ANN_STATUS)
    exact Touches.upd h5 rfl rfl rfl rfl rfl rfl rfl
      (by intro p hp; cases p <;> first | rfl | exact absurd hp (by decide))

theorem State.annFail_touches (s : State) (e : AnnErr) (place : Bool) : Touches 0x80700000000408010100000002c400000000000000000001c080000000000000000000000000000000000000000000000000000000000000000000000000027002617 s (State.annFail s e place) := by
  unfold State.annFail
  extract_lets -merge +onlyGivenNames x1
  clear_value x1
  extract_lets -merge +onlyGivenNames x2
  have h3 : Touches 0x80700000000408010100000002c400000000000000000001c080000000000000000000000000000000000000000000000000000000000000000000000000027002617 s x2 := by unfold x2; exact Touches.step (State.annReport_touches ..) rfl (Touches.setAnn (Touches.refl _ _) rfl)
  clear_value x2
  extract_lets -merge +onlyGivenNames x4
  have h5 : Touches 0x80700000000408010100000002c400000000000000000001c080000000000000000000000000000000000000000000000000000000000000000000000000027002617 s x4 := by
    unfold x4
    refine Touches.ite ?_ ?_
    · exact Touches.step (State.vwrite_touches ..) rfl h3
    · exact h3
  clear_value x4
  exact Touches.step (State.annEnd_touches ..) rfl h5

theorem State.annStart_touches (s : State) : Touches 0x2080700000000408010100000022fc000000000000000001e9c080000000000000000000000000000000000000000000000000000000000000000000000000027002617 s (State.annStart s) := by
  unfold State.annStart
  refine Touches.ite ?_ ?_
  · exact Touches.refl _ _
  · split
    · exact Touches.refl _ _
    · extract_lets -merge +onlyGivenNames x1
      have h2 : Touches 0x2080700000000408010100000022fc000000000000000001e9c080000000000000000000000000000000000000000000000000000000000000000000000000027002617 s x1 := by unfold x1; exact Touches.trans (Touches.setAnn (Touches.refl _ _) rfl) (State.setF_touches _ _ _ rfl 392 rfl grp_ANN_WORK)
      clear_value x1
      extract_lets -merge +onlyGivenNames x3
      have h4 : Touches 0x2080700000000408010100000022fc000000000000000001e9c080000000000000000000000000000000000000000000000000000000000000000000000000027002617 s x3 := by
        unfold x3
        refine Touches.trans ?_ (State.setF_touches _ _ _ rfl 394 rfl grp_ANN_BEST)
        exact Touches.trans h2 (State.setF_touches _ _ _ rfl 393 rfl grp_ANN_SWEEP)
      clear_value x3
      split
      rename_i x5 x6 x7 x8 e9
      have h10 : Touches 0x2080700000000408010100000022fc000000000000000001e9c080000000000000000000000000000000000000000000000000000000000000000000000000027002617 s x8 := Touches.of_eq (fun d => d.2) e9 (Touches.step (State.annLoad_touches ..) rfl h4)
      extract_lets -merge +onlyGivenNames x11
      clear_value x11
      extract_lets -merge +onlyGivenNames x12
      have h13 : Touches 0x2080700000000408010100000022fc000000000000000001e9c080000000000000000000000000000000000000000000000000000000000000000000000000027002617 s x12 := by unfold x12; exact Touches.setAnn h10 rfl
      clear_value x12
      split
      · exact Touches.step (State.annFail_touches ..) rfl h13
      · extract_lets -merge +onlyGivenNames x14
        clear_value x14
        extract_lets -merge +onlyGivenNames x15
        extract_lets -merge +onlyGivenNames x16
        clear_value x16
        extract_lets -merge +onlyGivenNames x17
        clear_value x17
        extract_lets -merge +onlyGivenNames x18
        have h19 : Touches 0x2080700000000408010100000022fc000000000000000001e9c080000000000000000000000000000000000000000000000000000000000000000000000000027002617 s x18 := by unfold x18; exact Touches.trans (Touches.setAnn h13 rfl) (State.setF_touches _ _ _ rfl 391 rfl grp_ANN_STATUS)
        clear_value x18
        clear_value x15
        exact Touches.trans h19 (State.setF_touches _ _ _ rfl 394 rfl grp_ANN_BEST)

theorem State.annSweep_touches (s : State) : Touches 0x8070000000040800000000002934000000000000000000000000000000000000000000000000000000000000000000000000000000000000000000000000023000211 s (State.annSweep s) := by
  unfold State.annSweep
  refine Touches.ite ?_ ?_
  · exact Touches.refl _ _
  · extract_lets -merge +onlyGivenNames x1
    clear_value x1
    extract_lets -merge +onlyGivenNames x2
    clear_value x2
    extract_lets -merge +onlyGivenNames x3
    clear_value x3
    extract_lets -merge +onlyGivenNames x4
    clear_value x4
    extract_lets -merge +onlyGivenNames x5
    clear_value x5
    extract_lets -merge +onlyGivenNames x6
    clear_value x6
    extract_lets -merge +onlyGivenNames x7
    have h8 : Touches 0x8070000000040800000000002934000000000000000000000000000000000000000000000000000000000000000000000000000000000000000000000000023000211 s x7 := by
      unfold x7
      refine Touches.trans ?_ (State.setF_touches _ _ _ rfl 393 rfl grp_ANN_SWEEP)
      exact Touches.trans (Touches.setAnn (Touches.refl _ _) rfl) (State.inc_touches _ _ _ rfl 397 rfl grp_ANN_CNT_SWEEPS)
    clear_value x7
    extract_lets -merge +onlyGivenNames x9
    have h10 : Touches 0x8070000000040800000000002934000000000000000000000000000000000000000000000000000000000000000000000000000000000000000000000000023000211 s x9 := by unfold x9; exact Touches.trans h8 (State.setF_touches _ _ _ rfl 394 rfl grp_ANN_BEST)
    clear_value x9
    refine Touches.ite ?_ ?_
    · exact h10
    · extract_lets -merge +onlyGivenNames x11
      have h12 : Touches 0x8070000000040800000000002934000000000000000000000000000000000000000000000000000000000000000000000000000000000000000000000000023000211 s x11 := by
        unfold x11
        refine Touches.ite ?_ ?_
        · exact Touches.step (State.annReport_touches ..) rfl h10
        · exact h10
      clear_value x11
      extract_lets -merge +onlyGivenNames x13
      have h14 : Touches 0x8070000000040800000000002934000000000000000000000000000000000000000000000000000000000000000000000000000000000000000000000000023000211 s x13 := by
        unfold x13
        refine Touches.ite ?_ ?_
        · exact Touches.step (State.annReport_touches ..) rfl h12
        · exact h12
      clear_value x13
      extract_lets -merge +onlyGivenNames x15
      have h16 : Touches 0x8070000000040800000000002934000000000000000000000000000000000000000000000000000000000000000000000000000000000000000000000000023000211 s x15 := by
        unfold x15
        refine Touches.ite ?_ ?_
        · exact Touches.trans h14 (State.voided_touches _ _ rfl 400 rfl grp_SYS_REPRO_STATUS)
        · exact h14
      clear_value x15
      exact Touches.trans h16 (State.setF_touches _ _ _ rfl 391 rfl grp_ANN_STATUS)

theorem State.annRecords_touches (a : Annealer) (a1 : List KeptState) (a2 : State) (a3 : Nat) : Touches 0x807000000004080101000000000000000000000000000001c080000000000000000000000000000000000000000000000000000000000000000000000000026000617 a2 (State.annRecords a a1 a2 a3).2 := by
  fun_induction State.annRecords a a1 a2 a3
  · rename_i x1 x2
    exact Touches.pair2 (Touches.refl _ _)
  · rename_i x3 x4 x5 x6 x7 x8 x9 e10
    have h11 : Touches 0x807000000004080101000000000000000000000000000001c080000000000000000000000000000000000000000000000000000000000000000000000000026000617 x5 x9 := Touches.of_eq (fun d => d.2) e10 (Touches.step (State.vwrite_touches ..) rfl (Touches.refl _ _))
    exact h11
  · rename_i x12 x13 x14 x15 x16 x17 e18 e19
    have h20 : Touches 0x807000000004080101000000000000000000000000000001c080000000000000000000000000000000000000000000000000000000000000000000000000026000617 x14 x17 := Touches.of_eq (fun d => d.2) e18 (Touches.step (State.vwrite_touches ..) rfl (Touches.refl _ _))
    exact Touches.trans h20 e19

theorem State.annWrite_touches (s : State) : Touches 0x80700000000408010100000002c400000000000000000001c080000000000000000000000000000000000000000000000000000000000000000000000000027002617 s (State.annWrite s) := by
  unfold State.annWrite
  refine Touches.ite ?_ ?_
  · exact Touches.refl _ _
  · extract_lets -merge +onlyGivenNames x1
    clear_value x1
    extract_lets -merge +onlyGivenNames x2
    clear_value x2
    split
    · rename_i x3 x4 e5
      have h6 : Touches 0x80700000000408010100000002c400000000000000000001c080000000000000000000000000000000000000000000000000000000000000000000000000027002617 s x4 := Touches.of_eq (fun d => d.2) e5 (Touches.step (State.annRecords_touches ..) rfl (Touches.refl _ _))
      extract_lets -merge +onlyGivenNames x7
      have h8 : Touches 0x80700000000408010100000002c400000000000000000001c080000000000000000000000000000000000000000000000000000000000000000000000000027002617 s x7 := by unfold x7; exact Touches.step (State.annReport_touches ..) rfl h6
      clear_value x7
      exact Touches.step (State.annEnd_touches ..) rfl (Touches.step (State.vwrite_touches ..) rfl h8)
    · rename_i x9 x10 e11
      have h12 : Touches 0x80700000000408010100000002c400000000000000000001c080000000000000000000000000000000000000000000000000000000000000000000000000027002617 s x10 := Touches.of_eq (fun d => d.2) e11 (Touches.step (State.annRecords_touches ..) rfl (Touches.refl _ _))
      split
      · rename_i x13 x14 e15
        have h16 : Touches 0x80700000000408010100000002c400000000000000000001c080000000000000000000000000000000000000000000000000000000000000000000000000027002617 s x14 := Touches.of_eq (fun d => d.2) e15 (Touches.step (State.vwrite_touches ..) rfl h12)
        exact Touches.step (State.annEnd_touches ..) rfl h16
      · rename_i x17 x18 x19 e20
        have h21 : Touches 0x80700000000408010100000002c400000000000000000001c080000000000000000000000000000000000000000000000000000000000000000000000000027002617 s x19 := Touches.of_eq (fun d => d.2) e20 (Touches.step (State.vwrite_touches ..) rfl h12)
        exact Touches.step (State.annEnd_touches ..) rfl (Touches.step (State.annReport_touches ..) rfl h21)

theorem State.writeAnnCtrl_touches (s : State) (v : Nat) : Touches 0x8070000000040801010000002ac400000000000000000001c080000000000000000000000000000000000000000000000000000000000000000000000000027002617 s (State.writeAnnCtrl s v) := by
  unfold State.writeAnnCtrl
  refine Touches.ite ?_ ?_
  · exact Touches.refl _ _
  · split
    · exact Touches.setAnn (Touches.refl _ _) rfl
    · refine Touches.step (State.annFail_touches ..) rfl ?_
      refine Touches.trans ?_ (State.voided_touches _ _ rfl 400 rfl grp_SYS_REPRO_STATUS)
      exact Touches.setAnn (Touches.refl _ _) rfl
    · refine Touches.step (State.annFail_touches ..) rfl ?_
      refine Touches.trans ?_ (State.voided_touches _ _ rfl 400 rfl grp_SYS_REPRO_STATUS)
      exact Touches.setAnn (Touches.refl _ _) rfl
    · rename_i x1 e2 e3 e4
      exact Touches.refl _ _

theorem State.annDrop_touches (s : State) : Touches 0x4000000000000000000000000000000000000000000000000000000000000000000000000000000000000000000000000001000001 s (State.annDrop s) := by
  unfold State.annDrop
  exact Touches.trans (Touches.setAnn (Touches.refl _ _) rfl) (State.setF_touches _ _ _ rfl 391 rfl grp_ANN_STATUS)

theorem execAnnealProblem_ends (s : State) : Ends 0x2080700000000408010100000022fc000000000000000001e9c080000000000000000000000000000000000000000000000000000000000000000000000000027002617 s (execAnnealProblem s) := by
  unfold execAnnealProblem
  exact Ends.next (Touches.step (State.annStart_touches ..) rfl (Touches.refl _ _))

theorem execSweepEnd_ends (s : State) : Ends 0x8070000000040800000000002934000000000000000000000000000000000000000000000000000000000000000000000000000000000000000000000000023000211 s (execSweepEnd s) := by
  unfold execSweepEnd
  exact Ends.next (Touches.step (State.annSweep_touches ..) rfl (Touches.refl _ _))

theorem execAnnResultWrite_ends (s : State) : Ends 0x80700000000408010100000002c400000000000000000001c080000000000000000000000000000000000000000000000000000000000000000000000000027002617 s (execAnnResultWrite s) := by
  unfold execAnnResultWrite
  exact Ends.next (Touches.step (State.annWrite_touches ..) rfl (Touches.refl _ _))

theorem execAnnAbort_ends (value : Nat) (s : State) : Ends 0x8070000000040801010000002ac400000000000000000001c080000000000000000000000000000000000000000000000000000000102000000000000000027002697 s (execAnnAbort value s) := by
  unfold execAnnAbort
  refine Ends.next ?_
  refine Touches.trans ?_ (State.regWrite_touches _ _ _ _ rfl ?_)
  · exact Touches.refl _ _
  · intro y1
    exact Touches.step (State.writeAnnCtrl_touches ..) rfl (Touches.refl _ _)

end Sys2Proof.Machine
end

