-- ==== Sys2Proof/Laws/FrameCam.lean ====
section
/-! SUPPORT. What each operation of Machine/Cam.lean can do: the parts of the state it touches (Touches). -/

-- One declaration at a time: many proofs at once would each hold a thread with a large stack.
set_option Elab.async false

namespace Sys2Proof.Machine

theorem State.setPort_touches (s : State) (p : Nat) (x : CamPort) : Touches 0x100000 s (State.setPort s p x) := by
  unfold State.setPort
  exact Touches.setCam (Touches.refl _ _) rfl

theorem State.setPipe_touches (s : State) (k : Nat) (x : Pipe) : Touches 0x100000 s (State.setPipe s k x) := by
  unfold State.setPipe
  exact Touches.setCam (Touches.refl _ _) rfl

theorem State.camReport_touches (s : State) (p : Nat) (sts : Nat) (detail : Nat) : Touches 0x8070000000040800000000000000000000000000000000000000000000000000000000000000000000000000000000000200000000000000000000000000022000211 s (State.camReport s p sts detail) := by
  unfold State.camReport
  exact State.report_touches _ _ _ _ _ rfl 110 rfl (grp_CXP_PORT_STATUS _)

theorem State.ispReport_touches (s : State) (k : Nat) (sts : Nat) (detail : Nat) : Touches 0x8070000000040800000000000000000000000000000000000000000000000000000000000000000000000000010000000000000000000000000000000000022000211 s (State.ispReport s k sts detail) := by
  unfold State.ispReport
  exact State.report_touches _ _ _ _ _ rfl 141 rfl (grp_ISP_PIPE_STATUS _)

theorem State.trackFlag_touches (s : State) (slot : Nat) (seq : Nat) (flag : Nat) : Touches 0x80000 s (State.trackFlag s slot seq flag) := by
  unfold State.trackFlag
  split
  · refine Touches.ite ?_ ?_
    · exact Touches.setMot (Touches.refl _ _) rfl
    · exact Touches.refl _ _
  · exact Touches.refl _ _

theorem State.winEvent_touches (s : State) (p : Nat) (count : Nat) (flag : Nat) : Touches 0x80000 s (State.winEvent s p count flag) := by
  unfold State.winEvent
  refine Touches.foldl (fun t1 y2 h3 => ?_) ?_
  · refine Touches.ite ?_ ?_
    · exact Touches.step (State.trackFlag_touches ..) rfl h3
    · exact h3
  · exact Touches.refl _ _

theorem State.camEvent_touches (s : State) (e : CamEvt) : Touches 0x80000 s (State.camEvent s e) := by
  unfold State.camEvent
  split
  · exact Touches.refl _ _
  · exact Touches.step (State.winEvent_touches ..) rfl (Touches.refl _ _)
  · exact Touches.step (State.trackFlag_touches ..) rfl (Touches.refl _ _)

theorem State.camSend_touches (s : State) (e : CamEvt) : Touches 0x180000 s (State.camSend s e) := by
  unfold State.camSend
  extract_lets -merge +onlyGivenNames x1
  have h2 : Touches 0x180000 s x1 := by unfold x1; exact Touches.step (State.xingFill_touches ..) rfl (Touches.refl _ _)
  clear_value x1
  split
  · exact Touches.setCam h2 rfl
  · rename_i x3 x4 x5 e6 e7
    exact Touches.step (State.camEvent_touches ..) rfl h2
  · rename_i x8 x9 x10 e11 e12
    exact Touches.setCam h2 rfl

theorem State.camDrain_touches (a0 : List CamEvt) (a1 : State) : Touches 0x180000 a1 (State.camDrain a0 a1) := by
  fun_induction State.camDrain a0 a1
  · rename_i x1
    exact Touches.setCam (Touches.refl _ _) rfl
  · rename_i x2 x3 x4 x5
    exact Touches.setCam (Touches.refl _ _) rfl
  · rename_i x6 x7 x8 e9 e10
    exact Touches.trans (Touches.step (State.camEvent_touches ..) rfl (Touches.refl _ _)) e10

theorem State.undeliv_touches (s : State) (p : Nat) (t : Trig) : Touches 0x10000000000000000000000000000000000180001 s (State.undeliv s p t) := by
  unfold State.undeliv
  exact Touches.step (State.camSend_touches ..) rfl (State.inc_touches _ _ _ rfl 129 rfl (grp_CXP_CNT_UNDELIV _))

theorem State.voidIn_touches (s : State) (p : Nat) (t : Trig) : Touches 0x100000 s (State.voidIn s p t) := by
  unfold State.voidIn
  extract_lets -merge +onlyGivenNames x1
  clear_value x1
  extract_lets -merge +onlyGivenNames x2
  clear_value x2
  refine Touches.ite ?_ ?_
  · exact Touches.refl _ _
  · refine Touches.ite ?_ ?_
    · refine Touches.ite ?_ ?_
      · exact Touches.refl _ _
      · exact Touches.step (State.setPipe_touches ..) rfl (Touches.refl _ _)
    · exact Touches.setCam (Touches.refl _ _) rfl

theorem State.voidFlush_touches (s : State) (p : Nat) : Touches 0x100000 s (State.voidFlush s p) := by
  unfold State.voidFlush
  extract_lets -merge +onlyGivenNames x1
  clear_value x1
  refine Touches.foldl (fun t2 y3 h4 => ?_) ?_
  · exact Touches.step (State.voidIn_touches ..) rfl h4
  · exact Touches.step (State.setPort_touches ..) rfl (Touches.refl _ _)

theorem State.retire_touches (s : State) (p : Nat) (t : Trig) : Touches 0x10000000000000000000000000000000000180001 s (State.retire s p t) := by
  unfold State.retire
  refine Touches.step (State.voidFlush_touches ..) rfl ?_
  exact Touches.step (State.voidIn_touches ..) rfl (Touches.step (State.undeliv_touches ..) rfl (Touches.refl _ _))

theorem State.retireDue_touches (s : State) (p : Nat) (t : Trig) : Touches 0x10000000000000000000000000000000000180001 s (State.retireDue s p t) := by
  unfold State.retireDue
  extract_lets -merge +onlyGivenNames x1
  have h2 : Touches 0x10000000000000000000000000000000000180001 s x1 := by unfold x1; exact Touches.step (State.undeliv_touches ..) rfl (Touches.refl _ _)
  clear_value x1
  extract_lets -merge +onlyGivenNames x3
  clear_value x3
  extract_lets -merge +onlyGivenNames x4
  clear_value x4
  refine Touches.ite ?_ ?_
  · exact Touches.step (State.voidIn_touches ..) rfl h2
  · refine Touches.ite ?_ ?_
    · exact Touches.step (State.setPort_touches ..) rfl h2
    · refine Touches.ite ?_ ?_
      · exact Touches.step (State.setPort_touches ..) rfl h2
      · exact Touches.step (State.voidIn_touches ..) rfl h2

theorem State.retireOut_touches (s : State) (p : Nat) : Touches 0x10000000000000000000000000000000000180001 s (State.retireOut s p) := by
  unfold State.retireOut
  extract_lets -merge +onlyGivenNames x1
  refine Touches.foldl (fun t2 y3 h4 => ?_) ?_
  · refine Touches.ite ?_ ?_
    · exact Touches.step (State.voidIn_touches ..) rfl h4
    · exact Touches.step (State.retire_touches ..) rfl h4
  · exact Touches.step (State.setPort_touches ..) rfl (Touches.refl _ _)

theorem State.retireWaits_touches (s : State) (p : Nat) : Touches 0x10000000000000000000000000000000000180001 s (State.retireWaits s p) := by
  unfold State.retireWaits
  extract_lets -merge +onlyGivenNames x1
  refine Touches.step (State.voidFlush_touches ..) rfl ?_
  refine Touches.foldl (fun t2 y3 h4 => ?_) ?_
  · extract_lets -merge +onlyGivenNames x5
    have h6 : Touches 0x10000000000000000000000000000000000180001 s x5 := by
      unfold x5
      refine Touches.ite ?_ ?_
      · exact h4
      · exact Touches.step (State.undeliv_touches ..) rfl h4
    clear_value x5
    clear_value x1
    exact Touches.step (State.setPort_touches ..) rfl h6
  · exact Touches.step (State.setPort_touches ..) rfl (Touches.refl _ _)

theorem State.trigIssue_touches (s : State) (p : Nat) (t : Trig) : Touches 0x20100000 s (State.trigIssue s p t) := by
  unfold State.trigIssue
  extract_lets -merge +onlyGivenNames x1
  clear_value x1
  extract_lets -merge +onlyGivenNames x2
  clear_value x2
  exact Touches.step (State.emit_touches ..) rfl (Touches.step (State.setPort_touches ..) rfl (Touches.refl _ _))

theorem State.trigDrop_touches (s : State) (p : Nat) (t : Trig) : Touches 0x8070000000040800000000000000000000000000000000000000000000000000000000000000000000000000000050000200000000000000000000000000022180211 s (State.trigDrop s p t) := by
  unfold State.trigDrop
  refine Touches.step (State.camReport_touches ..) rfl ?_
  refine Touches.trans ?_ (State.inc_touches _ _ _ rfl 131 rfl (grp_CXP_CNT_OVERRUN _))
  exact Touches.step (State.retireDue_touches ..) rfl (Touches.refl _ _)

theorem State.trigDue_touches (s : State) (p : Nat) (count : Nat) : Touches 0x8070000000040800000000000000000000000000000000000000000000000000000000000000000000000000000050000200000000000000000000000000022180211 s (State.trigDue s p count) := by
  unfold State.trigDue
  extract_lets -merge +onlyGivenNames x1
  clear_value x1
  extract_lets -merge +onlyGivenNames x2
  clear_value x2
  refine Touches.ite ?_ ?_
  · exact Touches.refl _ _
  · refine Touches.ite ?_ ?_
    · exact Touches.step (State.retireDue_touches ..) rfl (Touches.refl _ _)
    · refine Touches.ite ?_ ?_
      · exact Touches.step (State.trigDrop_touches ..) rfl (Touches.refl _ _)
      · extract_lets -merge +onlyGivenNames x3
        clear_value x3
        refine Touches.ite ?_ ?_
        · refine Touches.ite ?_ ?_
          · exact Touches.step (State.setPort_touches ..) rfl (Touches.refl _ _)
          · exact Touches.step (State.trigDrop_touches ..) rfl (Touches.refl _ _)
        · exact Touches.step (State.trigIssue_touches ..) rfl (Touches.refl _ _)

theorem State.trigDelayed_touches (s : State) (p : Nat) : Touches 0x8070000000040800000000000000000000000000000000000000000000000000000000000000000000000000000050000200000000000000000000000000022180211 s (State.trigDelayed s p) := by
  unfold State.trigDelayed
  extract_lets -merge +onlyGivenNames x1
  clear_value x1
  extract_lets -merge +onlyGivenNames x2
  clear_value x2
  split
  · exact Touches.refl _ _
  · refine Touches.ite ?_ ?_
    · exact Touches.refl _ _
    · extract_lets -merge +onlyGivenNames x3
      have h4 : Touches 0x8070000000040800000000000000000000000000000000000000000000000000000000000000000000000000000050000200000000000000000000000000022180211 s x3 := by unfold x3; exact Touches.step (State.setPort_touches ..) rfl (Touches.refl _ _)
      clear_value x3
      extract_lets -merge +onlyGivenNames x5
      have h6 : Touches 0x8070000000040800000000000000000000000000000000000000000000000000000000000000000000000000000050000200000000000000000000000000022180211 s x5 := by
        unfold x5
        refine Touches.ite ?_ ?_
        · exact Touches.step (State.trigDrop_touches ..) rfl h4
        · exact Touches.step (State.trigIssue_touches ..) rfl h4
      clear_value x5
      extract_lets -merge +onlyGivenNames x7
      clear_value x7
      exact Touches.step (State.voidFlush_touches ..) rfl (Touches.step (State.setPort_touches ..) rfl h6)

theorem State.lineTrigs_touches (p : Nat) (a1 : Nat) (a2 : State) : Touches 0x8070000000040800000000000000000000000000000000000000000000000000000000000000000000000000000050000200000000000000000000000000022180211 a2 (State.lineTrigs p a1 a2) := by
  fun_induction State.lineTrigs p a1 a2
  · rename_i x1
    exact Touches.refl _ _
  · rename_i x2 x3 e4
    exact Touches.refl _ _
  · rename_i x5 x6 x7 e8 e9 x10 e11
    have h12 : Touches 0x8070000000040800000000000000000000000000000000000000000000000000000000000000000000000000000050000200000000000000000000000000022180211 x6 x10 := by unfold x10; exact Touches.step (State.setPort_touches ..) rfl (Touches.refl _ _)
    exact Touches.trans (Touches.step (State.trigDue_touches ..) rfl h12) e11
  · rename_i x13 x14 x15 e16 e17
    exact Touches.refl _ _

theorem State.lineTrigAll_touches (s : State) (c : Nat) : Touches 0x8070000000040800000000000000000000000000000000000000000000000000000000000000000000000000000050000200000000000000000000000000022180211 s (State.lineTrigAll s c) := by
  unfold State.lineTrigAll
  refine Touches.foldl (fun t1 y2 h3 => ?_) ?_
  · refine Touches.ite ?_ ?_
    · split
      · exact Touches.step (State.lineTrigs_touches ..) rfl h3
      · exact h3
    · exact h3
  · exact Touches.refl _ _

theorem State.winRegs_touches (s : State) (p : Nat) : Touches 0x40000000000000000000000000000000000001 s (State.winRegs s p) := by
  unfold State.winRegs
  extract_lets -merge +onlyGivenNames x1
  refine Touches.trans ?_ (State.setF_touches _ _ _ rfl 119 rfl (grp_CXP_WIN _))
  exact State.setF_touches _ _ _ rfl 119 rfl (grp_CXP_WIN _)

theorem State.partStart_touches (s : State) (k : Nat) (q : PartImg) : Touches 0x8070000000040800000000000000000000000000000000000000000000000000000000000000000000000001010000000000000000000000000000000000022180211 s (State.partStart s k q) := by
  unfold State.partStart
  extract_lets -merge +onlyGivenNames x1
  clear_value x1
  extract_lets -merge +onlyGivenNames x2
  extract_lets -merge +onlyGivenNames x3
  clear_value x3
  extract_lets -merge +onlyGivenNames x4
  refine Touches.ite ?_ ?_
  · unfold x4
    extract_lets -merge +onlyGivenNames x5
    have h6 : Touches 0x8070000000040800000000000000000000000000000000000000000000000000000000000000000000000001010000000000000000000000000000000000022180211 s x5 := by unfold x5; exact Touches.step (State.ispReport_touches ..) rfl (State.inc_touches _ _ _ rfl 149 rfl (grp_ISP_CNT_OUT_FULL _))
    clear_value x5
    clear_value x2
    refine Touches.ite ?_ ?_
    · exact h6
    · exact Touches.step (State.camSend_touches ..) rfl h6
  · split
    · rename_i x7 x8 e9
      have h10 : Touches 0x8070000000040800000000000000000000000000000000000000000000000000000000000000000000000001010000000000000000000000000000000000022180211 s x8 := Touches.of_eq (fun d => d.2) e9 (Touches.step (State.pick_touches ..) rfl (Touches.refl _ _))
      unfold x4
      extract_lets -merge +onlyGivenNames x11
      have h12 : Touches 0x8070000000040800000000000000000000000000000000000000000000000000000000000000000000000001010000000000000000000000000000000000022180211 s x11 := by
        unfold x11
        refine Touches.step (State.ispReport_touches ..) rfl ?_
        exact Touches.trans h10 (State.inc_touches _ _ _ rfl 149 rfl (grp_ISP_CNT_OUT_FULL _))
      clear_value x11
      refine Touches.ite ?_ ?_
      · exact h12
      · exact Touches.step (State.camSend_touches ..) rfl h12
    · rename_i x13 x14 x15 e16
      have h17 : Touches 0x8070000000040800000000000000000000000000000000000000000000000000000000000000000000000001010000000000000000000000000000000000022180211 s x15 := Touches.of_eq (fun d => d.2) e16 (Touches.step (State.pick_touches ..) rfl (Touches.refl _ _))
      extract_lets -merge +onlyGivenNames x18
      clear_value x18
      exact Touches.step (State.setPipe_touches ..) rfl h17

theorem State.winOpen_touches (s : State) (p : Nat) (slot : Nat) (seq : Nat) (pc : Nat) (w : Nat) : Touches 0x8070000000040800000000000000000000000000000000000000000000000000000000000000000000000001010020040200000000000000000000000000022180211 s (State.winOpen s p slot seq pc w) := by
  unfold State.winOpen
  extract_lets -merge +onlyGivenNames x1
  clear_value x1
  extract_lets -merge +onlyGivenNames x2
  split
  · rename_i x3 x4 e5
    have h6 : Touches 0x8070000000040800000000000000000000000000000000000000000000000000000000000000000000000001010020040200000000000000000000000000022180211 s x4 := Touches.of_eq (fun d => d.2) e5 (Touches.step (State.pick_touches ..) rfl (Touches.refl _ _))
    refine Touches.step (State.camSend_touches ..) rfl ?_
    refine Touches.step (State.camReport_touches ..) rfl ?_
    exact Touches.trans h6 (State.inc_touches _ _ _ rfl 130 rfl (grp_CXP_CNT_OVERTRIG _))
  · rename_i x7 x8 x9 e10
    have h11 : Touches 0x8070000000040800000000000000000000000000000000000000000000000000000000000000000000000001010020040200000000000000000000000000022180211 s x9 := Touches.of_eq (fun d => d.2) e10 (Touches.step (State.pick_touches ..) rfl (Touches.refl _ _))
    extract_lets -merge +onlyGivenNames x12
    clear_value x12
    extract_lets -merge +onlyGivenNames x13
    have h14 : Touches 0x8070000000040800000000000000000000000000000000000000000000000000000000000000000000000001010020040200000000000000000000000000022180211 s x13 := by unfold x13; exact Touches.step (State.winRegs_touches ..) rfl (Touches.step (State.setPort_touches ..) rfl h11)
    clear_value x13
    clear_value x2
    extract_lets -merge +onlyGivenNames x15
    clear_value x15
    refine Touches.ite ?_ ?_
    · exact h14
    · extract_lets -merge +onlyGivenNames x16
      have h17 : Touches 0x8070000000040800000000000000000000000000000000000000000000000000000000000000000000000001010020040200000000000000000000000000022180211 s x16 := by unfold x16; exact Touches.step (State.partStart_touches ..) rfl h14
      clear_value x16
      exact h17

theorem State.winOpenAll_touches (s : State) (gate : Nat) (slot : Nat) (seq : Nat) (pc : Nat) (w : Nat) : Touches 0x8070000000040800000000000000000000000000000000000000000000000000000000000000000000000001010070040200000000000000000000000000022180211 s (State.winOpenAll s gate slot seq pc w) := by
  unfold State.winOpenAll
  extract_lets -merge +onlyGivenNames x1
  extract_lets -merge +onlyGivenNames x2
  have h6 : Touches 0x8070000000040800000000000000000000000000000000000000000000000000000000000000000000000001010070040200000000000000000000000000022180211 s x2 := by
    unfold x2
    refine Touches.foldl (fun t3 y4 h5 => ?_) ?_
    · exact Touches.step (State.winOpen_touches ..) rfl h5
    · exact Touches.refl _ _
  clear_value x2
  clear_value x1
  refine Touches.foldl (fun t7 y8 h9 => ?_) ?_
  · refine Touches.ite ?_ ?_
    · exact Touches.step (State.trigDue_touches ..) rfl h9
    · exact h9
  · exact h6

theorem State.winFree_touches (s : State) (slot : Nat) (seq : Nat) : Touches 0x40000000000000000000000000000000100001 s (State.winFree s slot seq) := by
  unfold State.winFree
  refine Touches.foldl (fun t1 y2 h3 => ?_) ?_
  · extract_lets -merge +onlyGivenNames x4
    clear_value x4
    extract_lets -merge +onlyGivenNames x5
    clear_value x5
    refine Touches.ite ?_ ?_
    · exact Touches.step (State.winRegs_touches ..) rfl (Touches.step (State.setPort_touches ..) rfl h3)
    · exact h3
  · exact Touches.refl _ _

theorem State.winCloseAll_touches (s : State) (slot : Nat) (seq : Nat) : Touches 0x40000000000000000000000000000000100001 s (State.winCloseAll s slot seq) := by
  unfold State.winCloseAll
  refine Touches.foldl (fun t1 y2 h3 => ?_) ?_
  · extract_lets -merge +onlyGivenNames x4
    clear_value x4
    extract_lets -merge +onlyGivenNames x5
    clear_value x5
    refine Touches.ite ?_ ?_
    · extract_lets -merge +onlyGivenNames x6
      have h7 : Touches 0x40000000000000000000000000000000100001 s x6 := by unfold x6; exact Touches.step (State.winRegs_touches ..) rfl (Touches.step (State.setPort_touches ..) rfl h3)
      clear_value x6
      exact Touches.setCam h7 rfl
    · exact h3
  · exact Touches.refl _ _

end Sys2Proof.Machine
end

