-- ==== Sys2Proof/Laws/FrameIsp.lean ====
section
/-! SUPPORT. What each operation of Machine/Isp.lean can do: the parts of the state it touches (Touches). -/

-- One declaration at a time: many proofs at once would each hold a thread with a large stack.
set_option Elab.async false

namespace Sys2Proof.Machine

theorem State.assemble_touches (s : State) (k : Nat) (layout : Nat) (l : PLine) : Touches 0x100000 s (State.assemble s k layout l) := by
  unfold State.assemble
  extract_lets -merge +onlyGivenNames x1
  clear_value x1
  extract_lets -merge +onlyGivenNames x2
  clear_value x2
  exact Touches.step (State.setPipe_touches ..) rfl (Touches.refl _ _)

theorem State.assign_touches (s : State) (k : Nat) (l : PLine) : Touches 0x4000000000000000000000000000000000000000000001 s (State.assign s k l).2 := by
  unfold State.assign
  split
  · refine Touches.pair2 ?_
    refine Touches.ite ?_ ?_
    · exact Touches.refl _ _
    · exact State.inc_touches _ _ _ rfl 151 rfl (grp_ISP_CNT_OUTSIDE _)
  · rename_i x1 e2
    exact Touches.pair2 (Touches.refl _ _)

theorem State.setCtx_touches (s : State) (k : Nat) (tm : Bool) (c : IspCtx) : Touches 0x100000 s (State.setCtx s k tm c) := by
  unfold State.setCtx
  exact Touches.step (State.setPipe_touches ..) rfl (Touches.refl _ _)

theorem State.preDone_touches (s : State) (k : Nat) (tm : Bool) (t : List PLine × IspCtx × List Nat) : Touches 0x6000000000000000000000000000000000000000180001 s (State.preDone s k tm t).2 := by
  unfold State.preDone
  extract_lets -merge +onlyGivenNames x1
  have h5 : Touches 0x6000000000000000000000000000000000000000180001 s x1 := by
    unfold x1
    refine Touches.foldl (fun t2 y3 h4 => ?_) ?_
    · refine Touches.step (State.camSend_touches ..) rfl ?_
      exact Touches.trans h4 (State.inc_touches _ _ _ rfl 150 rfl (grp_ISP_CNT_PRESENCE _))
    · exact Touches.step (State.setCtx_touches ..) rfl (Touches.refl _ _)
  clear_value x1
  refine Touches.foldlOf (fun d : _ × _ => d.2) (fun t6 y7 h8 => ?_) ?_
  · split
    rename_i x9 x10 x11 e12
    have h13 : Touches 0x6000000000000000000000000000000000000000180001 s x11 := Touches.of_eq (fun d => d.2) e12 (Touches.step (State.assign_touches ..) rfl h8)
    exact h13
  · exact h5

theorem State.postDone_touches (s : State) (k : Nat) (layout : Nat) (tm : Bool) (t : List PLine × IspCtx × List Nat) : Touches 0x100000 s (State.postDone s k layout tm t) := by
  unfold State.postDone
  refine Touches.foldl (fun t1 y2 h3 => ?_) ?_
  · exact Touches.step (State.assemble_touches ..) rfl h3
  · exact Touches.step (State.setCtx_touches ..) rfl (Touches.refl _ _)

theorem State.postFlush_touches (s : State) (k : Nat) (tm : Bool) (r : IspRec) : Touches 0x100000 s (State.postFlush s k tm r) := by
  unfold State.postFlush
  exact Touches.step (State.postDone_touches ..) rfl (Touches.refl _ _)

theorem State.ctxFlush_touches (s : State) (k : Nat) (tm : Bool) (r : IspRec) : Touches 0x6000000000000000000000000000000000000000180001 s (State.ctxFlush s k tm r) := by
  unfold State.ctxFlush
  split
  rename_i x1 x2 x3 e4
  have h5 : Touches 0x6000000000000000000000000000000000000000180001 s x3 := Touches.of_eq (fun d => d.2) e4 (Touches.step (State.preDone_touches ..) rfl (Touches.refl _ _))
  exact Touches.step (State.postFlush_touches ..) rfl (Touches.step (State.postDone_touches ..) rfl h5)

theorem State.loadAdd_touches (s : State) (k : Nat) (tm : Bool) (px : Nat) : Touches 0x100000 s (State.loadAdd s k tm px) := by
  unfold State.loadAdd
  extract_lets -merge +onlyGivenNames x1
  clear_value x1
  extract_lets -merge +onlyGivenNames x2
  clear_value x2
  exact Touches.step (State.setPipe_touches ..) rfl (Touches.refl _ _)

theorem State.pipeOne_touches (s : State) (k : Nat) (tm : Bool) (r : IspRec) (l : PLine) : Touches 0x6000000000000000000000000000000000000000180001 s (State.pipeOne s k tm r l) := by
  unfold State.pipeOne
  extract_lets -merge +onlyGivenNames x1
  have h2 : Touches 0x6000000000000000000000000000000000000000180001 s x1 := by unfold x1; exact Touches.step (State.loadAdd_touches ..) rfl (Touches.refl _ _)
  clear_value x1
  split
  rename_i x3 x4 x5 e6
  have h7 : Touches 0x6000000000000000000000000000000000000000180001 s x5 := Touches.of_eq (fun d => d.2) e6 (Touches.step (State.preDone_touches ..) rfl h2)
  extract_lets -merge +onlyGivenNames x8
  have h9 : Touches 0x6000000000000000000000000000000000000000180001 s x8 := by unfold x8; exact Touches.step (State.postDone_touches ..) rfl h7
  clear_value x8
  refine Touches.ite ?_ ?_
  · extract_lets -merge +onlyGivenNames x10
    have h11 : Touches 0x6000000000000000000000000000000000000000180001 s x10 := by unfold x10; exact Touches.step (State.ctxFlush_touches ..) rfl h9
    clear_value x10
    extract_lets -merge +onlyGivenNames x12
    clear_value x12
    exact Touches.step (State.setPipe_touches ..) rfl h11
  · exact h9

theorem State.pipeLines_touches (s : State) (k : Nat) (tm : Bool) (r : IspRec) (ls : List PLine) : Touches 0x6000000000000000000000000000000000000000180001 s (State.pipeLines s k tm r ls) := by
  unfold State.pipeLines
  refine Touches.foldl (fun t1 y2 h3 => ?_) ?_
  · exact Touches.step (State.pipeOne_touches ..) rfl h3
  · exact Touches.refl _ _

theorem State.pipeLeave_touches (s : State) (k : Nat) : Touches 0x100000 s (State.pipeLeave s k) := by
  unfold State.pipeLeave
  extract_lets -merge +onlyGivenNames x1
  clear_value x1
  exact Touches.step (State.setPipe_touches ..) rfl (Touches.refl _ _)

theorem State.pipeLine_touches (s : State) (k : Nat) : Touches 0x6000000000000000000000000000000000000000180001 s (State.pipeLine s k) := by
  unfold State.pipeLine
  extract_lets -merge +onlyGivenNames x1
  clear_value x1
  split
  · refine Touches.ite ?_ ?_
    · extract_lets -merge +onlyGivenNames x2
      have h3 : Touches 0x6000000000000000000000000000000000000000180001 s x2 := by unfold x2; exact Touches.step (State.setPipe_touches ..) rfl (Touches.refl _ _)
      clear_value x2
      refine Touches.ite ?_ ?_
      · exact Touches.step (State.ctxFlush_touches ..) rfl h3
      · exact Touches.step (State.pipeOne_touches ..) rfl h3
    · exact Touches.refl _ _
  · rename_i x4 x5 e6
    exact Touches.refl _ _

theorem State.writeBlocks_touches (src : Nat) (a1 : State) (a2 : Nat) (a3 : Nat) (a4 : List (List Byte)) : Touches 0x807000000004080101000000000000000000000000000001c080000000000000000000000000000000000000000000000000000000000000000000000000026000617 a1 (State.writeBlocks src a1 a2 a3 a4).2 := by
  fun_induction State.writeBlocks src a1 a2 a3 a4
  · rename_i x1 x2 x3
    exact Touches.pair2 (Touches.refl _ _)
  · rename_i x4 x5 x6 x7 x8 x9 x10 e11
    have h12 : Touches 0x807000000004080101000000000000000000000000000001c080000000000000000000000000000000000000000000000000000000000000000000000000026000617 x4 x10 := Touches.of_eq (fun d => d.2) e11 (Touches.step (State.vwrite_touches ..) rfl (Touches.refl _ _))
    exact h12
  · rename_i x13 x14 x15 x16 x17 x18 e19 e20
    have h21 : Touches 0x807000000004080101000000000000000000000000000001c080000000000000000000000000000000000000000000000000000000000000000000000000026000617 x13 x18 := Touches.of_eq (fun d => d.2) e19 (Touches.step (State.vwrite_touches ..) rfl (Touches.refl _ _))
    exact Touches.trans h21 e20

theorem State.slotWrite_touches (s : State) (src : Nat) (a : Nat) (size : Nat) (off : Nat) (b : List Byte) : Touches 0x807000000004080101000000000000000000000000000001c080000000000000000000000000000000000000000000000000000000000000000000000000026000617 s (State.slotWrite s src a size off b).2 := by
  unfold State.slotWrite
  refine Touches.ite2 ?_ ?_
  · exact Touches.pair2 (Touches.refl _ _)
  · exact Touches.step (State.writeBlocks_touches ..) rfl (Touches.refl _ _)

theorem State.partWrite_touches (s : State) (k : Nat) (r : IspRec) (q : PartImg) : Touches 0x807000000004080101000000000000000000000000500001c080000000000000000000000000000000000000490000000000000000000000000000000000026100617 s (State.partWrite s k r q) := by
  unfold State.partWrite
  extract_lets -merge +onlyGivenNames x1
  clear_value x1
  extract_lets -merge +onlyGivenNames x2
  clear_value x2
  extract_lets -merge +onlyGivenNames x3
  clear_value x3
  extract_lets -merge +onlyGivenNames x4
  clear_value x4
  extract_lets -merge +onlyGivenNames x5
  clear_value x5
  extract_lets -merge +onlyGivenNames x6
  clear_value x6
  extract_lets -merge +onlyGivenNames x7
  clear_value x7
  split
  extract_lets -merge +onlyGivenNames x8
  clear_value x8
  extract_lets -merge +onlyGivenNames x9
  extract_lets -merge +onlyGivenNames x10
  split
  rename_i x11 x12 x13 e14
  have h15 : Touches 0x807000000004080101000000000000000000000000500001c080000000000000000000000000000000000000490000000000000000000000000000000000026100617 s x13 := Touches.of_eq (fun d => d.2) e14 (Touches.step (State.writeBlocks_touches ..) rfl (Touches.refl _ _))
  extract_lets -merge +onlyGivenNames x16
  clear_value x16
  extract_lets -merge +onlyGivenNames x17
  extract_lets -merge +onlyGivenNames x18
  clear_value x18
  extract_lets -merge +onlyGivenNames x19
  clear_value x19
  extract_lets -merge +onlyGivenNames x20
  clear_value x20
  extract_lets -merge +onlyGivenNames x21
  clear_value x21
  split
  rename_i x22 x23 x24 e25
  have h26 : Touches 0x807000000004080101000000000000000000000000500001c080000000000000000000000000000000000000490000000000000000000000000000000000026100617 s x24 := by
    refine Touches.of_eq (fun d => d.2) e25 ?_
    split
    · exact h15
    · exact Touches.step (State.slotWrite_touches ..) rfl h15
  split
  rename_i x27 x28 x29 e30
  have h31 : Touches 0x807000000004080101000000000000000000000000500001c080000000000000000000000000000000000000490000000000000000000000000000000000026100617 s x29 := by
    refine Touches.of_eq (fun d => d.2) e30 ?_
    split
    · exact Touches.step (State.slotWrite_touches ..) rfl h26
    · rename_i x32 x33 e34
      exact h26
  extract_lets -merge +onlyGivenNames x35
  have h36 : Touches 0x807000000004080101000000000000000000000000500001c080000000000000000000000000000000000000490000000000000000000000000000000000026100617 s x35 := by
    unfold x35
    refine Touches.ite ?_ ?_
    · exact Touches.step (State.ispReport_touches ..) rfl h31
    · exact h31
  clear_value x35
  clear_value x9
  clear_value x10
  clear_value x17
  extract_lets -merge +onlyGivenNames x37
  clear_value x37
  split
  rename_i x38 x39 x40 e41
  have h42 : Touches 0x807000000004080101000000000000000000000000500001c080000000000000000000000000000000000000490000000000000000000000000000000000026100617 s x40 := by
    refine Touches.of_eq (fun d => d.2) e41 ?_
    refine Touches.ite2 ?_ ?_
    · exact h36
    · exact Touches.step (State.freshList_touches ..) rfl h36
  extract_lets -merge +onlyGivenNames x43
  clear_value x43
  extract_lets -merge +onlyGivenNames x44
  clear_value x44
  extract_lets -merge +onlyGivenNames x45
  clear_value x45
  extract_lets -merge +onlyGivenNames x46
  clear_value x46
  extract_lets -merge +onlyGivenNames x47
  clear_value x47
  extract_lets -merge +onlyGivenNames x48
  extract_lets -merge +onlyGivenNames x49
  clear_value x49
  extract_lets -merge +onlyGivenNames x50
  clear_value x50
  split
  rename_i x51 x52 x53 e54
  have h55 : Touches 0x807000000004080101000000000000000000000000500001c080000000000000000000000000000000000000490000000000000000000000000000000000026100617 s x53 := Touches.of_eq (fun d => d.2) e54 (Touches.step (State.writeBlocks_touches ..) rfl h42)
  extract_lets -merge +onlyGivenNames x56
  clear_value x56
  extract_lets -merge +onlyGivenNames x57
  refine Touches.ite ?_ ?_
  · exact Touches.step (State.ispReport_touches ..) rfl (Touches.step (State.setPipe_touches ..) rfl h55)
  · extract_lets -merge +onlyGivenNames x58
    have h59 : Touches 0x807000000004080101000000000000000000000000500001c080000000000000000000000000000000000000490000000000000000000000000000000000026100617 s x58 := by unfold x58; exact Touches.step (State.setPipe_touches ..) rfl h55
    clear_value x58
    clear_value x48
    clear_value x57
    extract_lets -merge +onlyGivenNames x60
    have h61 : Touches 0x807000000004080101000000000000000000000000500001c080000000000000000000000000000000000000490000000000000000000000000000000000026100617 s x60 := by
      unfold x60
      refine Touches.trans ?_ (State.inc_touches _ _ _ rfl 147 rfl (grp_ISP_CNT_PARTS _))
      exact Touches.trans h59 (State.setF_touches _ _ _ rfl 144 rfl (grp_ISP_OUT_TAIL _))
    clear_value x60
    refine Touches.ite ?_ ?_
    · exact Touches.step (State.cellAdd_touches ..) rfl h61
    · exact h61

theorem State.partComplete_touches (s : State) (k : Nat) : Touches 0x807000000004080101000000000000000000000000500001c080000000000000000000000000000000000000490000000000000000000000000000000000026100617 s (State.partComplete s k) := by
  unfold State.partComplete
  split
  · extract_lets -merge +onlyGivenNames x1
    have h2 : Touches 0x807000000004080101000000000000000000000000500001c080000000000000000000000000000000000000490000000000000000000000000000000000026100617 s x1 := by
      unfold x1
      refine Touches.ite ?_ ?_
      · exact Touches.refl _ _
      · exact Touches.step (State.postFlush_touches ..) rfl (Touches.refl _ _)
    clear_value x1
    split
    · exact Touches.step (State.partWrite_touches ..) rfl h2
    · exact h2
  · rename_i x3 x4 e5
    exact Touches.refl _ _

theorem State.writeOutHead_touches (s : State) (k : Nat) (v : Nat) : Touches 0x100000000000000000000000000000000000000100001 s (State.writeOutHead s k v) := by
  unfold State.writeOutHead
  extract_lets -merge +onlyGivenNames x1
  clear_value x1
  extract_lets -merge +onlyGivenNames x2
  clear_value x2
  extract_lets -merge +onlyGivenNames x3
  clear_value x3
  extract_lets -merge +onlyGivenNames x4
  clear_value x4
  refine Touches.trans ?_ (State.setF_touches _ _ _ rfl 145 rfl (grp_ISP_OUT_HEAD _))
  exact Touches.step (State.setPipe_touches ..) rfl (Touches.refl _ _)

theorem State.writePipeCell_touches (s : State) (k : Nat) (v : Nat) : Touches 0x8070000000040800000000000000000000000000000000000000000000000000000000000000000000000000020000000000180000000000000000000000022000211 s (State.writePipeCell s k v) := by
  unfold State.writePipeCell
  extract_lets -merge +onlyGivenNames x1
  clear_value x1
  extract_lets -merge +onlyGivenNames x2
  clear_value x2
  refine Touches.ite ?_ ?_
  · exact State.wr_touches _ _ _ rfl 142 rfl (grp_ISP_PIPE_CELL _)
  · exact Touches.step (State.imgReport_touches ..) rfl (Touches.refl _ _)

end Sys2Proof.Machine
end

