-- ==== Sys2Proof/Laws/FrameLane.lean ====
section
/-! SUPPORT. What each operation of Machine/Lane.lean can do: the parts of the state it touches (Touches). -/

-- One declaration at a time: many proofs at once would each hold a thread with a large stack.
set_option Elab.async false

namespace Sys2Proof.Machine

theorem State.setLn_touches (s : State) (l : Nat) (x : Lane) : Touches 0x200000 s (State.setLn s l x) := by
  unfold State.setLn
  exact Touches.setLanes (Touches.refl _ _) rfl

theorem State.setSynth_touches (s : State) (q : Nat) (st : Nat) : Touches 0x4000000000000000000000000000000000000000000000000000000000000000200001 s (State.setSynth s q st) := by
  unfold State.setSynth
  refine Touches.foldl (fun t1 y2 h3 => ?_) ?_
  · exact Touches.trans h3 (State.setF_touches _ _ _ rfl 247 rfl (grp_LANE_STATUS _))
  · exact Touches.setLanes (Touches.refl _ _) rfl

theorem State.laneReport_touches (s : State) (l : Nat) (sts : Nat) (detail : Nat) : Touches 0x8070000000040800000000000000000000000000000000000000000000000004000000000000000000000000000000000000000000000000000000000000022000211 s (State.laneReport s l sts detail) := by
  unfold State.laneReport
  exact State.report_touches _ _ _ _ _ rfl 247 rfl (grp_LANE_STATUS _)

theorem State.synthRest_touches (s : State) (q : Nat) : Touches 0x4000000000000000000000000000000000000000000000000000000000000000200001 s (State.synthRest s q) := by
  unfold State.synthRest
  refine Touches.ite ?_ ?_
  · exact Touches.step (State.setSynth_touches ..) rfl (Touches.refl _ _)
  · exact Touches.refl _ _

theorem State.txGo_touches (s : State) (l : Nat) (st : Nat) : Touches 0x804000000000000000000000000000000000000000000000000000000000000000200001 s (State.txGo s l st) := by
  unfold State.txGo
  extract_lets -merge +onlyGivenNames x1
  clear_value x1
  extract_lets -merge +onlyGivenNames x2
  have h3 : Touches 0x804000000000000000000000000000000000000000000000000000000000000000200001 s x2 := by unfold x2; exact State.setF_touches _ _ _ rfl 247 rfl (grp_LANE_STATUS _)
  clear_value x2
  extract_lets -merge +onlyGivenNames x4
  have h5 : Touches 0x804000000000000000000000000000000000000000000000000000000000000000200001 s x4 := by
    unfold x4
    refine Touches.ite ?_ ?_
    · exact Touches.trans h3 (State.inc_touches _ _ _ rfl 256 rfl (grp_LANE_CNT_WAKE _))
    · exact h3
  clear_value x4
  refine Touches.ite ?_ ?_
  · exact Touches.step (State.synthRest_touches ..) rfl (Touches.setLanes h5 rfl)
  · exact h5

theorem State.heldClear_touches (s : State) (l : Nat) : Touches 0x4000000000000000000000000000000000000000000000000000000000000000200001 s (State.heldClear s l) := by
  unfold State.heldClear
  refine Touches.trans ?_ (State.setB_touches _ _ _ rfl 247 rfl (grp_LANE_STATUS _))
  exact Touches.step (State.setLn_touches ..) rfl (Touches.refl _ _)

theorem State.heldEnd_touches (s : State) (l : Nat) (detail : Nat) : Touches 0x8070000000040800000000000000000000000000000000000000000000000004000000000000000000000000000000000000000000000000000000000000022200211 s (State.heldEnd s l detail) := by
  unfold State.heldEnd
  refine Touches.step (State.synthRest_touches ..) rfl ?_
  refine Touches.step (State.laneReport_touches ..) rfl ?_
  exact Touches.step (State.heldClear_touches ..) rfl (Touches.refl _ _)

theorem State.heldCancel_touches (s : State) (l : Nat) : Touches 0x8070000000040800000000000000000000000000000000000000000000000004000000000000000000000000000000000000000000000000000000000000022200211 s (State.heldCancel s l) := by
  unfold State.heldCancel
  refine Touches.ite ?_ ?_
  · exact Touches.refl _ _
  · exact Touches.step (State.heldEnd_touches ..) rfl (Touches.refl _ _)

theorem State.heldFail_touches (s : State) (l : Nat) : Touches 0x8070000000040800000000000000000000000000000000000000000000008004000000000000000000000000000000000000000000000000000000000000022200211 s (State.heldFail s l) := by
  unfold State.heldFail
  exact Touches.step (State.heldEnd_touches ..) rfl (State.inc_touches _ _ _ rfl 260 rfl (grp_LANE_CNT_TXFAIL _))

theorem State.txDo_touches (s : State) (l : Nat) (cmd : Nat) : Touches 0x804000000000000000000000000000000000000000000000000000000000000020200001 s (State.txDo s l cmd) := by
  unfold State.txDo
  split
  · exact Touches.step (State.emit_touches ..) rfl (Touches.refl _ _)
  · exact Touches.step (State.emit_touches ..) rfl (Touches.step (State.setLn_touches ..) rfl (Touches.refl _ _))
  · exact Touches.step (State.emit_touches ..) rfl (Touches.step (State.setLn_touches ..) rfl (Touches.refl _ _))
  · rename_i x1 e2 e3 e4
    exact Touches.step (State.txGo_touches ..) rfl (Touches.refl _ _)

theorem State.txCmd_touches (s : State) (l : Nat) (cmd : Nat) : Touches 0x8070000000040800000000000000000000000000000000000000000000000804000000000000000000000000000000000000000000000000000000000000022200211 s (State.txCmd s l cmd) := by
  unfold State.txCmd
  refine Touches.ite ?_ ?_
  · extract_lets -merge +onlyGivenNames x1
    have h2 : Touches 0x8070000000040800000000000000000000000000000000000000000000000804000000000000000000000000000000000000000000000000000000000000022200211 s x1 := by
      unfold x1
      refine Touches.ite ?_ ?_
      · exact Touches.step (State.heldCancel_touches ..) rfl (Touches.refl _ _)
      · exact Touches.refl _ _
    clear_value x1
    exact Touches.step (State.txDo_touches ..) rfl h2
  · refine Touches.ite ?_ ?_
    · exact Touches.step (State.laneReport_touches ..) rfl (Touches.refl _ _)
    · refine Touches.ite ?_ ?_
      · exact Touches.step (State.txDo_touches ..) rfl (Touches.refl _ _)
      · extract_lets -merge +onlyGivenNames x3
        clear_value x3
        extract_lets -merge +onlyGivenNames x4
        have h5 : Touches 0x8070000000040800000000000000000000000000000000000000000000000804000000000000000000000000000000000000000000000000000000000000022200211 s x4 := by
          unfold x4
          refine Touches.trans ?_ (State.setB_touches _ _ _ rfl 247 rfl (grp_LANE_STATUS _))
          exact Touches.step (State.setLn_touches ..) rfl (Touches.refl _ _)
        clear_value x4
        refine Touches.ite ?_ ?_
        · exact Touches.step (State.setSynth_touches ..) rfl h5
        · exact h5

theorem State.txCmdIdle_touches (s : State) (l : Nat) (st : Nat) : Touches 0x4000000000000000000000000000000000000000000000000000000000000000000001 s (State.txCmdIdle s l st) := by
  unfold State.txCmdIdle
  exact State.setF_touches _ _ _ rfl 247 rfl (grp_LANE_STATUS _)

theorem State.rxUnlock_touches (s : State) (l : Nat) : Touches 0x4000000000000000000000000000000000000000000000000000000000000000000001 s (State.rxUnlock s l) := by
  unfold State.rxUnlock
  refine Touches.trans ?_ (State.setB_touches _ _ _ rfl 247 rfl (grp_LANE_STATUS _))
  exact State.setB_touches _ _ _ rfl 247 rfl (grp_LANE_STATUS _)

theorem State.rxLock_touches (s : State) (l : Nat) : Touches 0x4000000000000000000000000000000000000000000000000000000000000000000001 s (State.rxLock s l) := by
  unfold State.rxLock
  refine Touches.trans ?_ (State.setB_touches _ _ _ rfl 247 rfl (grp_LANE_STATUS _))
  refine Touches.trans ?_ (State.setB_touches _ _ _ rfl 247 rfl (grp_LANE_STATUS _))
  exact State.setB_touches _ _ _ rfl 247 rfl (grp_LANE_STATUS _)

theorem State.rxGo_touches (s : State) (l : Nat) (st : Nat) : Touches 0x4000000000000000000000000000000000000000000000000000000000000000200001 s (State.rxGo s l st) := by
  unfold State.rxGo
  extract_lets -merge +onlyGivenNames x1
  clear_value x1
  extract_lets -merge +onlyGivenNames x2
  have h3 : Touches 0x4000000000000000000000000000000000000000000000000000000000000000200001 s x2 := by unfold x2; exact State.setF_touches _ _ _ rfl 247 rfl (grp_LANE_STATUS _)
  clear_value x2
  extract_lets -merge +onlyGivenNames x4
  clear_value x4
  refine Touches.ite ?_ ?_
  · exact h3
  · refine Touches.ite ?_ ?_
    · extract_lets -merge +onlyGivenNames x5
      clear_value x5
      extract_lets -merge +onlyGivenNames x6
      have h7 : Touches 0x4000000000000000000000000000000000000000000000000000000000000000200001 s x6 := by
        unfold x6
        refine Touches.ite ?_ ?_
        · exact Touches.step (State.setLn_touches ..) rfl h3
        · exact h3
      clear_value x6
      exact Touches.step (State.rxUnlock_touches ..) rfl h7
    · exact Touches.step (State.rxUnlock_touches ..) rfl (Touches.step (State.setLn_touches ..) rfl h3)

theorem State.laneOwn_touches (s : State) (l : Nat) (on : Bool) : Touches 0x4000000000000000000000000000000000000000000000000000000000000000000001 s (State.laneOwn s l on) := by
  unfold State.laneOwn
  exact State.setB_touches _ _ _ rfl 247 rfl (grp_LANE_STATUS _)

theorem State.portOwns_touches (s : State) (lanes : List Nat) (on : Bool) : Touches 0x4000000000000000000000000000000000000000000000000000000000000000200001 s (State.portOwns s lanes on) := by
  unfold State.portOwns
  refine Touches.foldl (fun t1 y2 h3 => ?_) ?_
  · extract_lets -merge +onlyGivenNames x4
    have h5 : Touches 0x4000000000000000000000000000000000000000000000000000000000000000200001 s x4 := by unfold x4; exact Touches.step (State.laneOwn_touches ..) rfl h3
    clear_value x4
    refine Touches.ite ?_ ?_
    · exact h5
    · refine Touches.ite ?_ ?_
      · exact Touches.step (State.rxGo_touches ..) rfl (Touches.step (State.setLn_touches ..) rfl h5)
      · exact Touches.step (State.rxGo_touches ..) rfl (Touches.step (State.setLn_touches ..) rfl h5)
  · exact Touches.refl _ _

theorem State.synthRate_touches (s : State) (lanes : List Nat) : Touches 0x4000000000000000000000000000000000000000000000000000000000000000200001 s (State.synthRate s lanes) := by
  unfold State.synthRate
  refine Touches.foldl (fun t1 y2 h3 => ?_) ?_
  · refine Touches.ite ?_ ?_
    · exact h3
    · exact Touches.step (State.setSynth_touches ..) rfl h3
  · exact Touches.refl _ _

theorem State.laneFloor_touches (s : State) (st : Nat) (l : Nat) : Touches 0x8070000000040800000000000000000000000000000000000000000000000804000000000000000000000000000000000000000000000000000000000000022200211 s (State.laneFloor s st l) := by
  unfold State.laneFloor
  refine Touches.ite ?_ ?_
  · exact Touches.refl _ _
  · extract_lets -merge +onlyGivenNames x1
    have h2 : Touches 0x8070000000040800000000000000000000000000000000000000000000000804000000000000000000000000000000000000000000000000000000000000022200211 s x1 := by unfold x1; exact Touches.step (State.heldCancel_touches ..) rfl (Touches.refl _ _)
    clear_value x1
    extract_lets -merge +onlyGivenNames x3
    have h4 : Touches 0x8070000000040800000000000000000000000000000000000000000000000804000000000000000000000000000000000000000000000000000000000000022200211 s x3 := by
      unfold x3
      refine Touches.ite ?_ ?_
      · exact Touches.step (State.txGo_touches ..) rfl h2
      · exact h2
    clear_value x3
    extract_lets -merge +onlyGivenNames x5
    clear_value x5
    extract_lets -merge +onlyGivenNames x6
    have h7 : Touches 0x8070000000040800000000000000000000000000000000000000000000000804000000000000000000000000000000000000000000000000000000000000022200211 s x6 := by
      unfold x6
      refine Touches.ite ?_ ?_
      · exact Touches.step (State.setLn_touches ..) rfl h4
      · exact h4
    clear_value x6
    refine Touches.ite ?_ ?_
    · exact Touches.step (State.rxGo_touches ..) rfl h7
    · exact h7

theorem State.lanesFloor_touches (s : State) (st : Nat) : Touches 0x8070000000040800000000000000000000000000000000000000000000000804000000000000000000000000000000000000000000000000000000000000022200211 s (State.lanesFloor s st) := by
  unfold State.lanesFloor
  refine Touches.foldl (fun t1 y2 h3 => ?_) ?_
  · exact Touches.step (State.laneFloor_touches ..) rfl h3
  · exact Touches.refl _ _

theorem State.lanesBack_touches (s : State) (old : List (Nat × Nat)) : Touches 0x8070000000040800000000000000000000000000000000000000000000000804000000000000000000000000000000000000000000000000000000000000022200211 s (State.lanesBack s old) := by
  unfold State.lanesBack
  refine Touches.foldl (fun t1 y2 h3 => ?_) ?_
  · extract_lets -merge +onlyGivenNames x4
    clear_value x4
    refine Touches.ite ?_ ?_
    · exact h3
    · extract_lets -merge +onlyGivenNames x5
      clear_value x5
      extract_lets -merge +onlyGivenNames x6
      have h7 : Touches 0x8070000000040800000000000000000000000000000000000000000000000804000000000000000000000000000000000000000000000000000000000000022200211 s x6 := by unfold x6; exact Touches.step (State.setLn_touches ..) rfl h3
      clear_value x6
      extract_lets -merge +onlyGivenNames x8
      have h9 : Touches 0x8070000000040800000000000000000000000000000000000000000000000804000000000000000000000000000000000000000000000000000000000000022200211 s x8 := by
        unfold x8
        refine Touches.ite ?_ ?_
        · exact Touches.step (State.rxGo_touches ..) rfl h7
        · exact h7
      clear_value x8
      refine Touches.ite ?_ ?_
      · exact Touches.step (State.txCmd_touches ..) rfl h9
      · exact h9
  · exact Touches.refl _ _

theorem State.prbsSync_touches (s : State) (l : Nat) : Touches 0x700000000000000000000000000000000000000000000000000000000000000000000011 s (State.prbsSync s l) := by
  unfold State.prbsSync
  refine Touches.ite ?_ ?_
  · split
    rename_i x1 x2 x3 e4
    have h5 : Touches 0x700000000000000000000000000000000000000000000000000000000000000000000011 s x3 := Touches.of_eq (fun d => d.2) e4 (Touches.step (State.fresh_touches ..) rfl (Touches.refl _ _))
    split
    rename_i x6 x7 x8 e9
    have h10 : Touches 0x700000000000000000000000000000000000000000000000000000000000000000000011 s x8 := Touches.of_eq (fun d => d.2) e9 (Touches.step (State.fresh_touches ..) rfl h5)
    extract_lets -merge +onlyGivenNames x11
    clear_value x11
    extract_lets -merge +onlyGivenNames x12
    have h13 : Touches 0x700000000000000000000000000000000000000000000000000000000000000000000011 s x12 := by
      unfold x12
      refine Touches.trans ?_ (State.setPair_touches _ _ _ _ rfl 254 rfl (grp_LANE_PRBS_BITS_LO _) 255 rfl (grp_LANE_PRBS_BITS_HI _))
      exact h10
    clear_value x12
    exact Touches.trans h13 (State.inc_touches _ _ _ rfl 253 rfl (grp_LANE_PRBS_ERR _))
  · exact Touches.refl _ _

end Sys2Proof.Machine
end

