-- ==== Sys2Proof/Laws/FrameModule.lean ====
section
/-! SUPPORT. What each operation of Machine/Module.lean can do: the parts of the state it touches (Touches). -/

-- One declaration at a time: many proofs at once would each hold a thread with a large stack.
set_option Elab.async false

namespace Sys2Proof.Machine

theorem State.reportEject_touches (s : State) (sts : Nat) (detail : Nat) : Touches 0x8070000000040800000000000000000000000000000000000000000000000000000000000000000000000000000000000000000000000004000880000000022080211 s (State.reportEject s sts detail) := by
  unfold State.reportEject
  refine Touches.trans ?_ (State.motReport_touches _ _ _ _ _ rfl 36 rfl grp_EJ_POL_STATUS)
  exact State.setF_touches _ _ _ rfl 40 rfl grp_PWR_MOD_STATUS

theorem State.lineRelease_touches (s : State) : Touches 0x800000000000000000041 s (State.lineRelease s) := by
  unfold State.lineRelease
  extract_lets -merge +onlyGivenNames x1
  have h2 : Touches 0x800000000000000000041 s x1 := by unfold x1; exact State.setB_touches _ _ _ rfl 52 rfl grp_EJ_LSTOP
  clear_value x1
  exact Touches.setPwr h2 rfl

theorem State.holdStart_touches (s : State) : Touches 0x40 s (State.holdStart s) := by
  unfold State.holdStart
  refine Touches.ite ?_ ?_
  · exact Touches.setPwr (Touches.refl _ _) rfl
  · exact Touches.refl _ _

theorem State.holdExpire_touches (s : State) : Touches 0x800000000000000000041 s (State.holdExpire s) := by
  unfold State.holdExpire
  refine Touches.ite ?_ ?_
  · exact Touches.refl _ _
  · refine Touches.ite ?_ ?_
    · exact Touches.step (State.lineRelease_touches ..) rfl (Touches.refl _ _)
    · exact Touches.setPwr (Touches.refl _ _) rfl

theorem State.writeLstop_touches (s : State) (v : Nat) : Touches 0x800000000000000000041 s (State.writeLstop s v) := by
  unfold State.writeLstop
  extract_lets -merge +onlyGivenNames x1
  clear_value x1
  extract_lets -merge +onlyGivenNames x2
  have h3 : Touches 0x800000000000000000041 s x2 := by unfold x2; exact State.wr_touches _ _ _ rfl 52 rfl grp_EJ_LSTOP
  clear_value x2
  extract_lets -merge +onlyGivenNames x4
  have h5 : Touches 0x800000000000000000041 s x4 := by unfold x4; exact Touches.trans h3 (State.setF_touches _ _ _ rfl 52 rfl grp_EJ_LSTOP)
  clear_value x4
  refine Touches.ite ?_ ?_
  · exact h5
  · refine Touches.ite ?_ ?_
    · refine Touches.ite ?_ ?_
      · exact Touches.setPwr h5 rfl
      · exact Touches.step (State.lineRelease_touches ..) rfl h5
    · refine Touches.ite ?_ ?_
      · exact Touches.step (State.lineRelease_touches ..) rfl h5
      · exact h5

theorem State.retryDeferred_touches (s : State) (ok : Bool) : Touches 0x2d7f0000000040800000000000000000000000000000000000000000000000000000000000000000000000000000000000000000000000000000000000000022000211 s (State.retryDeferred s ok) := by
  unfold State.retryDeferred
  refine Touches.ite ?_ ?_
  · exact Touches.refl _ _
  · split
    · exact Touches.step (State.cfgStores_touches ..) rfl (Touches.step (State.deferEnd_touches ..) rfl (Touches.refl _ _))
    · refine Touches.ite ?_ ?_
      · exact Touches.step (State.programNow_touches ..) rfl (Touches.refl _ _)
      · exact Touches.step (State.deferEnd_touches ..) rfl (Touches.refl _ _)

theorem State.readings_touches (s : State) (r : Readings) (ok : Bool) : Touches 0x2d7f0000000040800000000000000000000000000000000000000000000000000000000000000000000000000000000000000000000000000105f00000000022000211 s (State.readings s r ok) := by
  unfold State.readings
  extract_lets -merge +onlyGivenNames x1
  have h2 : Touches 0x2d7f0000000040800000000000000000000000000000000000000000000000000000000000000000000000000000000000000000000000000105f00000000022000211 s x1 := by unfold x1; exact State.setF_touches _ _ _ rfl 37 rfl grp_PWR_VIN
  clear_value x1
  extract_lets -merge +onlyGivenNames x3
  have h4 : Touches 0x2d7f0000000040800000000000000000000000000000000000000000000000000000000000000000000000000000000000000000000000000105f00000000022000211 s x3 := by unfold x3; exact Touches.trans h2 (State.setF_touches _ _ _ rfl 38 rfl grp_PWR_VCAM)
  clear_value x3
  extract_lets -merge +onlyGivenNames x5
  have h6 : Touches 0x2d7f0000000040800000000000000000000000000000000000000000000000000000000000000000000000000000000000000000000000000105f00000000022000211 s x5 := by
    unfold x5
    refine Touches.trans ?_ (State.setF_touches _ _ _ rfl 39 rfl grp_PWR_VEJ)
    exact Touches.trans h4 (State.setF_touches _ _ _ rfl 39 rfl grp_PWR_VEJ)
  clear_value x5
  extract_lets -merge +onlyGivenNames x7
  have h8 : Touches 0x2d7f0000000040800000000000000000000000000000000000000000000000000000000000000000000000000000000000000000000000000105f00000000022000211 s x7 := by unfold x7; exact Touches.trans h6 (State.setF_touches _ _ _ rfl 49 rfl grp_PWR_POWER)
  clear_value x7
  extract_lets -merge +onlyGivenNames x9
  have h10 : Touches 0x2d7f0000000040800000000000000000000000000000000000000000000000000000000000000000000000000000000000000000000000000105f00000000022000211 s x9 := by unfold x9; exact Touches.trans h8 (State.setF_touches _ _ _ rfl 41 rfl grp_PWR_HOLDUP)
  clear_value x9
  extract_lets -merge +onlyGivenNames x11
  have h12 : Touches 0x2d7f0000000040800000000000000000000000000000000000000000000000000000000000000000000000000000000000000000000000000105f00000000022000211 s x11 := by unfold x11; exact Touches.trans h10 (State.setF_touches _ _ _ rfl 41 rfl grp_PWR_HOLDUP)
  clear_value x11
  extract_lets -merge +onlyGivenNames x13
  have h14 : Touches 0x2d7f0000000040800000000000000000000000000000000000000000000000000000000000000000000000000000000000000000000000000105f00000000022000211 s x13 := by
    unfold x13
    refine Touches.trans ?_ (State.setF_touches _ _ _ rfl 43 rfl grp_PWR_TEMP)
    exact Touches.trans h12 (State.setF_touches _ _ _ rfl 43 rfl grp_PWR_TEMP)
  clear_value x13
  extract_lets -merge +onlyGivenNames x15
  have h16 : Touches 0x2d7f0000000040800000000000000000000000000000000000000000000000000000000000000000000000000000000000000000000000000105f00000000022000211 s x15 := by unfold x15; exact Touches.trans h14 (State.setB_touches _ _ _ rfl 40 rfl grp_PWR_MOD_STATUS)
  clear_value x15
  extract_lets -merge +onlyGivenNames x17
  have h18 : Touches 0x2d7f0000000040800000000000000000000000000000000000000000000000000000000000000000000000000000000000000000000000000105f00000000022000211 s x17 := by unfold x17; exact Touches.trans h16 (State.setB_touches _ _ _ rfl 40 rfl grp_PWR_MOD_STATUS)
  clear_value x17
  extract_lets -merge +onlyGivenNames x19
  have h20 : Touches 0x2d7f0000000040800000000000000000000000000000000000000000000000000000000000000000000000000000000000000000000000000105f00000000022000211 s x19 := by unfold x19; exact Touches.trans h18 (State.setB_touches _ _ _ rfl 40 rfl grp_PWR_MOD_STATUS)
  clear_value x19
  exact Touches.step (State.retryDeferred_touches ..) rfl h20

theorem State.capMeasured_touches (s : State) (uf : Nat) : Touches 0x8070000000040800000000000000000000000000000000000000000000000000000000000000000000000000000000000000000000000000002800000000022000211 s (State.capMeasured s uf) := by
  unfold State.capMeasured
  extract_lets -merge +onlyGivenNames x1
  have h2 : Touches 0x8070000000040800000000000000000000000000000000000000000000000000000000000000000000000000000000000000000000000000002800000000022000211 s x1 := by unfold x1; exact State.setF_touches _ _ _ rfl 42 rfl grp_PWR_HOLDUP_CAP
  clear_value x1
  refine Touches.ite ?_ ?_
  · exact Touches.trans h2 (State.report_touches _ _ _ _ _ rfl 40 rfl grp_PWR_MOD_STATUS)
  · exact h2

theorem State.pocxpDetect_touches (s : State) (lanes : Nat) : Touches 0x40 s (State.pocxpDetect s lanes) := by
  unfold State.pocxpDetect
  extract_lets -merge +onlyGivenNames x1
  clear_value x1
  extract_lets -merge +onlyGivenNames x2
  clear_value x2
  extract_lets -merge +onlyGivenNames x3
  clear_value x3
  exact Touches.setPwr (Touches.refl _ _) rfl

theorem State.pocxpDone_touches (s : State) (lane : Nat) (ok : Bool) : Touches 0x8070000000040800000000000000000000000000000000000000000000000000000000000000000000000000000000000000000000000000040800000000022000251 s (State.pocxpDone s lane ok) := by
  unfold State.pocxpDone
  refine Touches.ite ?_ ?_
  · exact Touches.refl _ _
  · extract_lets -merge +onlyGivenNames x1
    clear_value x1
    extract_lets -merge +onlyGivenNames x2
    have h3 : Touches 0x8070000000040800000000000000000000000000000000000000000000000000000000000000000000000000000000000000000000000000040800000000022000251 s x2 := by unfold x2; exact Touches.setPwr (Touches.refl _ _) rfl
    clear_value x2
    refine Touches.ite ?_ ?_
    · exact Touches.trans h3 (State.setF_touches _ _ _ rfl 47 rfl grp_PWR_POCXP_STS)
    · refine Touches.trans ?_ (State.report_touches _ _ _ _ _ rfl 40 rfl grp_PWR_MOD_STATUS)
      exact Touches.trans h3 (State.setF_touches _ _ _ rfl 47 rfl grp_PWR_POCXP_STS)

theorem State.pocxpOver_touches (s : State) (lane : Nat) : Touches 0x8070000000040800000000000000000000000000000000000000000000000000000000000000000000000000000000000000000000000000040800000000022000211 s (State.pocxpOver s lane) := by
  unfold State.pocxpOver
  extract_lets -merge +onlyGivenNames x1
  clear_value x1
  refine Touches.ite ?_ ?_
  · exact Touches.refl _ _
  · extract_lets -merge +onlyGivenNames x2
    have h3 : Touches 0x8070000000040800000000000000000000000000000000000000000000000000000000000000000000000000000000000000000000000000040800000000022000211 s x2 := by unfold x2; exact State.setF_touches _ _ _ rfl 47 rfl grp_PWR_POCXP_STS
    clear_value x2
    refine Touches.trans ?_ (State.report_touches _ _ _ _ _ rfl 40 rfl grp_PWR_MOD_STATUS)
    exact Touches.trans h3 (State.setF_touches _ _ _ rfl 47 rfl grp_PWR_POCXP_STS)

theorem State.pocxpClear_touches (s : State) (v : Nat) : Touches 0x40000000000000000041 s (State.pocxpClear s v) := by
  unfold State.pocxpClear
  extract_lets -merge +onlyGivenNames x1
  clear_value x1
  extract_lets -merge +onlyGivenNames x2
  clear_value x2
  exact Touches.step (State.pocxpDetect_touches ..) rfl (State.setF_touches _ _ _ rfl 47 rfl grp_PWR_POCXP_STS)

theorem State.pocxpEnable_touches (s : State) (v : Nat) : Touches 0x60000000000000000041 s (State.pocxpEnable s v) := by
  unfold State.pocxpEnable
  extract_lets -merge +onlyGivenNames x1
  clear_value x1
  extract_lets -merge +onlyGivenNames x2
  clear_value x2
  extract_lets -merge +onlyGivenNames x3
  have h4 : Touches 0x60000000000000000041 s x3 := by unfold x3; exact State.setF_touches _ _ _ rfl 46 rfl grp_PWR_POCXP
  clear_value x3
  extract_lets -merge +onlyGivenNames x5
  have h6 : Touches 0x60000000000000000041 s x5 := by unfold x5; exact Touches.trans h4 (State.setF_touches _ _ _ rfl 47 rfl grp_PWR_POCXP_STS)
  clear_value x5
  exact Touches.step (State.pocxpDetect_touches ..) rfl (Touches.setPwr h6 rfl)

theorem State.vcamLow_touches (s : State) : Touches 0x8070000000040800000000000000000000000000000000000000000000000000000000000000000000000000000000000000000000000000040800000000022000251 s (State.vcamLow s) := by
  unfold State.vcamLow
  extract_lets -merge +onlyGivenNames x1
  have h2 : Touches 0x8070000000040800000000000000000000000000000000000000000000000000000000000000000000000000000000000000000000000000040800000000022000251 s x1 := by
    unfold x1
    refine Touches.trans ?_ (State.setF_touches _ _ _ rfl 47 rfl grp_PWR_POCXP_STS)
    exact State.setB_touches _ _ _ rfl 40 rfl grp_PWR_MOD_STATUS
  clear_value x1
  extract_lets -merge +onlyGivenNames x3
  clear_value x3
  extract_lets -merge +onlyGivenNames x4
  have h5 : Touches 0x8070000000040800000000000000000000000000000000000000000000000000000000000000000000000000000000000000000000000000040800000000022000251 s x4 := by unfold x4; exact Touches.setPwr h2 rfl
  clear_value x4
  exact Touches.trans h5 (State.report_touches _ _ _ _ _ rfl 40 rfl grp_PWR_MOD_STATUS)

theorem State.encSupplyFault_touches (s : State) (ch : Nat) : Touches 0x8070000000040800000000000000000000000000000000000000000000000000000000000000000000000000000000000000000000000000080800000000022000211 s (State.encSupplyFault s ch) := by
  unfold State.encSupplyFault
  extract_lets -merge +onlyGivenNames x1
  clear_value x1
  refine Touches.ite ?_ ?_
  · exact Touches.refl _ _
  · refine Touches.trans ?_ (State.report_touches _ _ _ _ _ rfl 40 rfl grp_PWR_MOD_STATUS)
    exact State.setF_touches _ _ _ rfl 48 rfl grp_PWR_ENC_SUP

theorem State.vejLowSet_touches (s : State) (group : Nat) (low : Bool) : Touches 0x800000000000000001 s (State.vejLowSet s group low) := by
  unfold State.vejLowSet
  refine Touches.ite ?_ ?_
  · exact State.setB_touches _ _ _ rfl 40 rfl grp_PWR_MOD_STATUS
  · exact State.setB_touches _ _ _ rfl 40 rfl grp_PWR_MOD_STATUS

theorem State.vejLow_touches (s : State) (group : Nat) : Touches 0x8070000000040800000000000000000000000000000000000000000000000000000000000000000000000000000000000000000000000004000880000000022080211 s (State.vejLow s group) := by
  unfold State.vejLow
  refine Touches.ite ?_ ?_
  · exact Touches.refl _ _
  · refine Touches.step (State.reportEject_touches ..) rfl ?_
    exact Touches.step (State.vejLowSet_touches ..) rfl (Touches.refl _ _)

theorem State.supplyBack_touches (s : State) (which : Nat) : Touches 0x800000000000000041 s (State.supplyBack s which) := by
  unfold State.supplyBack
  refine Touches.ite ?_ ?_
  · exact Touches.step (State.vejLowSet_touches ..) rfl (Touches.refl _ _)
  · exact Touches.step (State.pocxpDetect_touches ..) rfl (State.setB_touches _ _ _ rfl 40 rfl grp_PWR_MOD_STATUS)

theorem State.ethFell_touches (was : Bool) (s : State) : Touches 0x800000000000000000000000000000000000000000000000000000000000000011 s (State.ethFell was s) := by
  unfold State.ethFell
  refine Touches.ite ?_ ?_
  · refine Touches.step (State.ptpPortDown_touches ..) rfl ?_
    exact Touches.step (State.ptpPortDown_touches ..) rfl (Touches.refl _ _)
  · exact Touches.refl _ _

theorem State.relays_touches (s : State) : Touches 0x800000000000000000000000000000000000000000000000000000000000000051 s (State.relays s) := by
  unfold State.relays
  extract_lets -merge +onlyGivenNames x1
  clear_value x1
  exact Touches.step (State.ethFell_touches ..) rfl (Touches.setPwr (Touches.refl _ _) rfl)

theorem State.relaysFall_touches (s : State) : Touches 0x800000000000000000000000000000000000000000000000000000000000000051 s (State.relaysFall s) := by
  unfold State.relaysFall
  extract_lets -merge +onlyGivenNames x1
  have h2 : Touches 0x800000000000000000000000000000000000000000000000000000000000000051 s x1 := by unfold x1; exact Touches.step (State.relays_touches ..) rfl (Touches.refl _ _)
  clear_value x1
  exact Touches.step (State.ethFell_touches ..) rfl (Touches.setPwr (Touches.refl _ _) rfl)

theorem State.relayRequest_touches (s : State) (v : Nat) : Touches 0x800000000000000000000000000000000000000000000010000000000000000051 s (State.relayRequest s v) := by
  unfold State.relayRequest
  extract_lets -merge +onlyGivenNames x1
  have h2 : Touches 0x800000000000000000000000000000000000000000000010000000000000000051 s x1 := by unfold x1; exact State.setF_touches _ _ _ rfl 45 rfl grp_PWR_RELAY
  clear_value x1
  extract_lets -merge +onlyGivenNames x3
  have h4 : Touches 0x800000000000000000000000000000000000000000000010000000000000000051 s x3 := by
    unfold x3
    refine Touches.ite ?_ ?_
    · exact Touches.trans h2 (State.setF_touches _ _ _ rfl 45 rfl grp_PWR_RELAY)
    · exact h2
  clear_value x3
  exact Touches.step (State.relays_touches ..) rfl h4

theorem State.positionCheck_touches (s : State) (ring : Bool) : Touches 0x8070000000040800000000000000000000000000000000000000000000000000000800000000000000000000000000000000000000000000000800000000022000251 s (State.positionCheck s ring) := by
  unfold State.positionCheck
  refine Touches.ite ?_ ?_
  · refine Touches.ite ?_ ?_
    · exact Touches.refl _ _
    · refine Touches.trans ?_ (State.report_touches _ _ _ _ _ rfl 40 rfl grp_PWR_MOD_STATUS)
      exact Touches.setPwr (Touches.refl _ _) rfl
  · refine Touches.ite ?_ ?_
    · exact Touches.refl _ _
    · refine Touches.trans ?_ (State.report_touches _ _ _ _ _ rfl 40 rfl grp_PWR_MOD_STATUS)
      exact Touches.step (State.ethFell_touches ..) rfl (Touches.setPwr (Touches.refl _ _) rfl)

theorem State.diLevels_touches (s : State) : Touches 0x400000000000000000001 s (State.diLevels s) := by
  unfold State.diLevels
  exact State.setF_touches _ _ _ rfl 51 rfl grp_MOT_DI_STS

theorem State.coreClock_touches (s : State) : Touches 0x20000000000000000000001 s (State.coreClock s) := by
  unfold State.coreClock
  extract_lets -merge +onlyGivenNames x1
  clear_value x1
  refine Touches.trans ?_ (State.setF_touches _ _ _ rfl 58 rfl grp_CLK_CORE)
  exact State.setB_touches _ _ _ rfl 58 rfl grp_CLK_CORE

theorem State.throttleOn_touches (s : State) : Touches 0x8070000000040800000000400800000000000000010000000000000000000000000000000000000000000000000000000000000000000020000800000000022000211 s (State.throttleOn s) := by
  unfold State.throttleOn
  refine Touches.ite ?_ ?_
  · exact Touches.refl _ _
  · extract_lets -merge +onlyGivenNames x1
    have h2 : Touches 0x8070000000040800000000400800000000000000010000000000000000000000000000000000000000000000000000000000000000000020000800000000022000211 s x1 := by
      unfold x1
      refine Touches.trans ?_ (State.setB_touches _ _ _ rfl 333 rfl grp_SCHED_STATUS)
      exact State.setB_touches _ _ _ rfl 40 rfl grp_PWR_MOD_STATUS
    clear_value x1
    extract_lets -merge +onlyGivenNames x3
    have h4 : Touches 0x8070000000040800000000400800000000000000010000000000000000000000000000000000000000000000000000000000000000000020000800000000022000211 s x3 := by
      unfold x3
      refine Touches.ite ?_ ?_
      · exact Touches.step (State.coreClock_touches ..) rfl h2
      · exact h2
    clear_value x3
    extract_lets -merge +onlyGivenNames x5
    have h6 : Touches 0x8070000000040800000000400800000000000000010000000000000000000000000000000000000000000000000000000000000000000020000800000000022000211 s x5 := by
      unfold x5
      refine Touches.trans ?_ (State.timing_touches _ _ _ rfl 400 rfl grp_SYS_REPRO_STATUS 411 rfl (Grp.some grp_MESH_TW_FLAGS))
      exact h4
    clear_value x5
    exact Touches.trans h6 (State.report_touches _ _ _ _ _ rfl 40 rfl grp_PWR_MOD_STATUS)

theorem State.throttleOff_touches (s : State) : Touches 0x10000000000000000000000000000000000000000000000000000000000000000000020000800000000000000001 s (State.throttleOff s) := by
  unfold State.throttleOff
  extract_lets -merge +onlyGivenNames x1
  have h2 : Touches 0x10000000000000000000000000000000000000000000000000000000000000000000020000800000000000000001 s x1 := by
    unfold x1
    refine Touches.trans ?_ (State.setB_touches _ _ _ rfl 333 rfl grp_SCHED_STATUS)
    exact State.setB_touches _ _ _ rfl 40 rfl grp_PWR_MOD_STATUS
  clear_value x1
  refine Touches.ite ?_ ?_
  · exact Touches.step (State.coreClock_touches ..) rfl h2
  · exact h2

theorem execVinShortDip_ends (s : State) : Ends 0x800000000000000001 s (execVinShortDip s) := by
  unfold execVinShortDip
  exact Ends.next (State.setB_touches _ _ _ rfl 40 rfl grp_PWR_MOD_STATUS)

theorem execThermalThrottleStart_ends (s : State) : Ends 0x8070000000040800000000400800000000000000010000000000000000000000000000000000000000000000000000000000000000000020000800000000022000211 s (execThermalThrottleStart s) := by
  unfold execThermalThrottleStart
  exact Ends.next (Touches.step (State.throttleOn_touches ..) rfl (Touches.refl _ _))

theorem execThermalThrottleEnd_ends (s : State) : Ends 0x10000000000000000000000000000000000000000000000000000000000000000000020000800000000000000001 s (execThermalThrottleEnd s) := by
  unfold execThermalThrottleEnd
  exact Ends.next (Touches.step (State.throttleOff_touches ..) rfl (Touches.refl _ _))

theorem execHoldupEstimateTick_ends (r : Readings) (ok : Bool) (s : State) : Ends 0x2d7f0000000040800000000000000000000000000000000000000000000000000000000000000000000000000000000000000000000000000105f00000000022000211 s (execHoldupEstimateTick r ok s) := by
  unfold execHoldupEstimateTick
  exact Ends.next (Touches.step (State.readings_touches ..) rfl (Touches.refl _ _))

theorem execHoldupCapMeasured_ends (uf : Nat) (s : State) : Ends 0x8070000000040800000000000000000000000000000000000000000000000000000000000000000000000000000000000000000000000000002800000000022000211 s (execHoldupCapMeasured uf s) := by
  unfold execHoldupCapMeasured
  exact Ends.next (Touches.step (State.capMeasured_touches ..) rfl (Touches.refl _ _))

theorem execPocxpDetectDone_ends (lane : Nat) (found : Bool) (s : State) : Ends 0x8070000000040800000000000000000000000000000000000000000000000000000000000000000000000000000000000000000000000000040800000000022000251 s (execPocxpDetectDone lane found s) := by
  unfold execPocxpDetectDone
  exact Ends.next (Touches.step (State.pocxpDone_touches ..) rfl (Touches.refl _ _))

theorem execPocxpOvercurrent_ends (lane : Nat) (s : State) : Ends 0x8070000000040800000000000000000000000000000000000000000000000000000000000000000000000000000000000000000000000000040800000000022000211 s (execPocxpOvercurrent lane s) := by
  unfold execPocxpOvercurrent
  exact Ends.next (Touches.step (State.pocxpOver_touches ..) rfl (Touches.refl _ _))

theorem execPocxpFaultClear_ends (value : Nat) (s : State) : Ends 0x80700000000408000000000000000000000000000000000000000000000000000000000000000000000000000000000000000000001020000400000000000220002d5 s (execPocxpFaultClear value s) := by
  unfold execPocxpFaultClear
  refine Ends.next ?_
  refine Touches.trans ?_ (State.regWrite_touches _ _ _ _ rfl ?_)
  · exact Touches.refl _ _
  · intro y1
    exact Touches.step (State.pocxpClear_touches ..) rfl (Touches.refl _ _)

theorem execVcamLow_ends (s : State) : Ends 0x8070000000040800000000000000000000000000000000000000000000000000000000000000000000000000000000000000000000000000040800000000022000251 s (execVcamLow s) := by
  unfold execVcamLow
  exact Ends.next (Touches.step (State.vcamLow_touches ..) rfl (Touches.refl _ _))

theorem execEncSupplyFault_ends (chan : Nat) (s : State) : Ends 0x8070000000040800000000000000000000000000000000000000000000000000000000000000000000000000000000000000000000000000080800000000022000211 s (execEncSupplyFault chan s) := by
  unfold execEncSupplyFault
  exact Ends.next (Touches.step (State.encSupplyFault_touches ..) rfl (Touches.refl _ _))

theorem execVejSupplyLow_ends (group : Nat) (s : State) : Ends 0x8070000000040800000000000000000000000000000000000000000000000000000000000000000000000000000000000000000000000004000880000000022080211 s (execVejSupplyLow group s) := by
  unfold execVejSupplyLow
  exact Ends.next (Touches.step (State.vejLow_touches ..) rfl (Touches.refl _ _))

theorem execSupplyLowCleared_ends (which : Nat) (s : State) : Ends 0x800000000000000041 s (execSupplyLowCleared which s) := by
  unfold execSupplyLowCleared
  exact Ends.next (Touches.step (State.supplyBack_touches ..) rfl (Touches.refl _ _))

theorem execHeartbeatLoss_ends (s : State) : Ends 0x800000000000000000000000000000000000000000000000000000000000000051 s (execHeartbeatLoss s) := by
  unfold execHeartbeatLoss
  exact Ends.next (Touches.step (State.relaysFall_touches ..) rfl (Touches.setPwr (Touches.refl _ _) rfl))

theorem execRelayPositionCheck_ends (ring : Bool) (s : State) : Ends 0x8070000000040800000000000000000000000000000000000000000000000000000800000000000000000000000000000000000000000000000800000000022000251 s (execRelayPositionCheck ring s) := by
  unfold execRelayPositionCheck
  exact Ends.next (Touches.step (State.positionCheck_touches ..) rfl (Touches.refl _ _))

theorem execRelayRequestWrite_ends (value : Nat) (s : State) : Ends 0x80700000000408000000000000000000000000000000000000000000000000000008000000000000000000000000000000000000001020000100000000000220002d5 s (execRelayRequestWrite value s) := by
  unfold execRelayRequestWrite
  refine Ends.next ?_
  refine Touches.trans ?_ (State.regWrite_touches _ _ _ _ rfl ?_)
  · exact Touches.refl _ _
  · intro y1
    exact Touches.step (State.relayRequest_touches ..) rfl (Touches.refl _ _)

theorem execLstopHoldExpiry_ends (s : State) : Ends 0x800000000000000000041 s (execLstopHoldExpiry s) := by
  unfold execLstopHoldExpiry
  exact Ends.next (Touches.step (State.holdExpire_touches ..) rfl (Touches.refl _ _))

theorem execLstopRelease_ends (value : Nat) (s : State) : Ends 0x80700000000408000000000000000000000000000000000000000000000000000000000000000000000000000000000000000000001020008000000000000220002d5 s (execLstopRelease value s) := by
  unfold execLstopRelease
  refine Ends.next ?_
  refine Touches.trans ?_ (State.regWrite_touches _ _ _ _ rfl ?_)
  · exact Touches.refl _ _
  · intro y1
    exact Touches.step (State.writeLstop_touches ..) rfl (Touches.refl _ _)

end Sys2Proof.Machine
end

