-- ==== Sys2Proof/Laws/FrameEject.lean ====
section
/-! SUPPORT. What each operation of Machine/Eject.lean can do: the parts of the state it touches (Touches). -/

-- One declaration at a time: many proofs at once would each hold a thread with a large stack.
set_option Elab.async false

namespace Sys2Proof.Machine

theorem State.setEj_touches (s : State) (n : Nat) (x : EjOut) : Touches 0x3400000000000000000000000000000000000000000000000080001 s (State.setEj s n x) := by
  unfold State.setEj
  extract_lets -merge +onlyGivenNames x1
  extract_lets -merge +onlyGivenNames x2
  have h3 : Touches 0x3400000000000000000000000000000000000000000000000080001 s x2 := by unfold x2; exact Touches.setMot (Touches.refl _ _) rfl
  clear_value x2
  clear_value x1
  extract_lets -merge +onlyGivenNames x4
  have h5 : Touches 0x3400000000000000000000000000000000000000000000000080001 s x4 := by
    unfold x4
    refine Touches.trans ?_ (State.setF_touches _ _ _ rfl 183 rfl (grp_EJ_OUT_STATUS _))
    exact Touches.trans h3 (State.setF_touches _ _ _ rfl 183 rfl (grp_EJ_OUT_STATUS _))
  clear_value x4
  split
  · refine Touches.trans ?_ (State.setB_touches _ _ _ rfl 186 rfl (grp_EJ_OUT_HEAD_HI _))
    refine Touches.trans ?_ (State.setF_touches _ _ _ rfl 186 rfl (grp_EJ_OUT_HEAD_HI _))
    exact Touches.trans h5 (State.setF_touches _ _ _ rfl 185 rfl (grp_EJ_OUT_HEAD_LO _))
  · refine Touches.trans ?_ (State.setB_touches _ _ _ rfl 186 rfl (grp_EJ_OUT_HEAD_HI _))
    refine Touches.trans ?_ (State.setF_touches _ _ _ rfl 186 rfl (grp_EJ_OUT_HEAD_HI _))
    exact Touches.trans h5 (State.setF_touches _ _ _ rfl 185 rfl (grp_EJ_OUT_HEAD_LO _))

theorem State.ejGo_touches (s : State) (n : Nat) (st : Nat) : Touches 0x400000000000000000000000000000000000000000000000000001 s (State.ejGo s n st) := by
  unfold State.ejGo
  exact State.setF_touches _ _ _ rfl 183 rfl (grp_EJ_OUT_STATUS _)

theorem State.ejLog_touches (s : State) (b : List Byte) : Touches 0x807000000004080000000000000000000000000000000000000000000000000000000000000a000000000000000000000000000000000004000080000000022080211 s (State.ejLog s b) := by
  unfold State.ejLog
  extract_lets -merge +onlyGivenNames x1
  clear_value x1
  extract_lets -merge +onlyGivenNames x2
  clear_value x2
  extract_lets -merge +onlyGivenNames x3
  extract_lets -merge +onlyGivenNames x4
  extract_lets -merge +onlyGivenNames x5
  have h6 : Touches 0x807000000004080000000000000000000000000000000000000000000000000000000000000a000000000000000000000000000000000004000080000000022080211 s x5 := by unfold x5; exact Touches.setMot (Touches.refl _ _) rfl
  extract_lets -merge +onlyGivenNames x7
  have h8 : Touches 0x807000000004080000000000000000000000000000000000000000000000000000000000000a000000000000000000000000000000000004000080000000022080211 s x7 := by unfold x7; exact Touches.trans h6 (State.setF_touches _ _ _ rfl 198 rfl grp_EJ_LOG_TAIL)
  refine Touches.ite ?_ ?_
  · extract_lets -merge +onlyGivenNames x9
    extract_lets -merge +onlyGivenNames x10
    clear_value x10
    extract_lets -merge +onlyGivenNames x11
    clear_value x11
    extract_lets -merge +onlyGivenNames x12
    have h13 : Touches 0x807000000004080000000000000000000000000000000000000000000000000000000000000a000000000000000000000000000000000004000080000000022080211 s x12 := by
      unfold x12
      refine Touches.trans ?_ (State.inc_touches _ _ _ rfl 200 rfl grp_EJ_LOG_LOST)
      exact Touches.upd h8 rfl rfl rfl rfl rfl rfl rfl
        (by intro p hp; cases p <;> first | rfl | exact absurd hp (by decide))
    refine Touches.ite ?_ ?_
    · exact Touches.step (State.ejReport_touches ..) rfl h13
    · exact h13
  · exact h8

theorem State.ejCount_touches (s : State) (n : Nat) (outcome : Nat) : Touches 0x7c000000000000000000000000000000000000000000000000000001 s (State.ejCount s n outcome) := by
  unfold State.ejCount
  split
  · exact State.inc_touches _ _ _ rfl 187 rfl (grp_EJ_OUT_CNT_FIRED _)
  · exact State.inc_touches _ _ _ rfl 187 rfl (grp_EJ_OUT_CNT_FIRED _)
  · exact State.inc_touches _ _ _ rfl 188 rfl (grp_EJ_OUT_CNT_COALESCED _)
  · exact State.inc_touches _ _ _ rfl 189 rfl (grp_EJ_OUT_CNT_EXTENDED _)
  · exact State.inc_touches _ _ _ rfl 190 rfl (grp_EJ_OUT_CNT_DEFERRED _)
  · exact State.inc_touches _ _ _ rfl 191 rfl (grp_EJ_OUT_CNT_SKIPPED _)
  · rename_i x1 e2 e3 e4 e5 e6 e7
    exact Touches.refl _ _

theorem State.ejLeave_touches (s : State) (n : Nat) (a : ArmEnt) (outcome : Nat) : Touches 0x807000000004080000000000000000000000000000000000000000000000000000000000000a07c000000000000000000000000000000004000080000000022080211 s (State.ejLeave s n a outcome) := by
  unfold State.ejLeave
  exact Touches.step (State.ejLog_touches ..) rfl (Touches.step (State.ejCount_touches ..) rfl (Touches.refl _ _))

theorem State.ejInsert_touches (s : State) (n : Nat) (a : ArmEnt) : Touches 0x3400000000000000000000000000000000000000000000000080001 s (State.ejInsert s n a) := by
  unfold State.ejInsert
  extract_lets -merge +onlyGivenNames x1
  clear_value x1
  extract_lets -merge +onlyGivenNames x2
  clear_value x2
  extract_lets -merge +onlyGivenNames x3
  clear_value x3
  refine Touches.ite ?_ ?_
  · exact Touches.step (State.setEj_touches ..) rfl (Touches.refl _ _)
  · exact Touches.step (State.setEj_touches ..) rfl (Touches.refl _ _)

theorem State.ejBackward_touches (s : State) (c : Nat) : Touches 0x80000 s (State.ejBackward s c) := by
  unfold State.ejBackward
  exact Touches.setMot (Touches.refl _ _) rfl

theorem State.ejSuspect_touches (s : State) (slot : Nat) (seq : Nat) : Touches 0x80000 s (State.ejSuspect s slot seq) := by
  unfold State.ejSuspect
  exact Touches.setMot (Touches.refl _ _) rfl

theorem State.ejCurFlags_touches (s : State) (n : Nat) (bits : Nat) : Touches 0x3400000000000000000000000000000000000000000000000080001 s (State.ejCurFlags s n bits) := by
  unfold State.ejCurFlags
  extract_lets -merge +onlyGivenNames x1
  clear_value x1
  split
  · exact Touches.step (State.setEj_touches ..) rfl (Touches.refl _ _)
  · exact Touches.refl _ _

theorem State.ejTurnOn_touches (s : State) (n : Nat) : Touches 0x3400000000000000000000000000000000000000000000020080001 s (State.ejTurnOn s n) := by
  unfold State.ejTurnOn
  extract_lets -merge +onlyGivenNames x1
  clear_value x1
  extract_lets -merge +onlyGivenNames x2
  clear_value x2
  extract_lets -merge +onlyGivenNames x3
  clear_value x3
  extract_lets -merge +onlyGivenNames x4
  clear_value x4
  extract_lets -merge +onlyGivenNames x5
  have h6 : Touches 0x3400000000000000000000000000000000000000000000020080001 s x5 := by unfold x5; exact Touches.step (State.ejGo_touches ..) rfl (Touches.step (State.setEj_touches ..) rfl (Touches.refl _ _))
  clear_value x5
  extract_lets -merge +onlyGivenNames x7
  have h8 : Touches 0x3400000000000000000000000000000000000000000000020080001 s x7 := by unfold x7; exact Touches.step (State.emit_touches ..) rfl h6
  clear_value x7
  exact Touches.step (State.ejCurFlags_touches ..) rfl h8

theorem State.ejStart_touches (s : State) (n : Nat) (a : ArmEnt) (outcome : Nat) (e : Nat) : Touches 0x200000000000000000000000000000000000000000000000000000000000000000000000000000003400000000000000000000000000000000000040000000020080001 s (State.ejStart s n a outcome e) := by
  unfold State.ejStart
  extract_lets -merge +onlyGivenNames x1
  have h2 : Touches 0x200000000000000000000000000000000000000000000000000000000000000000000000000000003400000000000000000000000000000000000040000000020080001 s x1 := by unfold x1; exact Touches.step (State.total_touches ..) rfl (Touches.refl _ _)
  clear_value x1
  extract_lets -merge +onlyGivenNames x3
  have h4 : Touches 0x200000000000000000000000000000000000000000000000000000000000000000000000000000003400000000000000000000000000000000000040000000020080001 s x3 := by
    unfold x3
    refine Touches.ite ?_ ?_
    · exact Touches.trans h2 (State.inc_touches _ _ _ rfl 35 rfl grp_EJ_FIRE_LATE_CNT)
    · exact h2
  clear_value x3
  extract_lets -merge +onlyGivenNames x5
  clear_value x5
  extract_lets -merge +onlyGivenNames x6
  clear_value x6
  extract_lets -merge +onlyGivenNames x7
  clear_value x7
  extract_lets -merge +onlyGivenNames x8
  clear_value x8
  extract_lets -merge +onlyGivenNames x9
  have h10 : Touches 0x200000000000000000000000000000000000000000000000000000000000000000000000000000003400000000000000000000000000000000000040000000020080001 s x9 := by unfold x9; exact Touches.step (State.setEj_touches ..) rfl h4
  clear_value x9
  refine Touches.ite ?_ ?_
  · exact Touches.step (State.ejTurnOn_touches ..) rfl h10
  · exact Touches.step (State.ejGo_touches ..) rfl h10

theorem State.ejCurLog_touches (s : State) (n : Nat) (outcome : Option Nat) (bits : Nat) : Touches 0x807000000004080000000000000000000000000000000000000000000000000000000000000a07f400000000000000000000000000000004000080000000022080211 s (State.ejCurLog s n outcome bits) := by
  unfold State.ejCurLog
  extract_lets -merge +onlyGivenNames x1
  clear_value x1
  split
  · extract_lets -merge +onlyGivenNames x2
    clear_value x2
    extract_lets -merge +onlyGivenNames x3
    have h4 : Touches 0x807000000004080000000000000000000000000000000000000000000000000000000000000a07f400000000000000000000000000000004000080000000022080211 s x3 := by unfold x3; exact Touches.step (State.setEj_touches ..) rfl (Touches.refl _ _)
    clear_value x3
    exact Touches.step (State.ejLog_touches ..) rfl (Touches.step (State.ejCount_touches ..) rfl h4)
  · exact Touches.refl _ _

theorem State.ejOff_touches (s : State) (n : Nat) : Touches 0x3400000000000000000000000000000000000000000000020080001 s (State.ejOff s n) := by
  unfold State.ejOff
  extract_lets -merge +onlyGivenNames x1
  clear_value x1
  exact Touches.step (State.emit_touches ..) rfl (Touches.step (State.setEj_touches ..) rfl (Touches.refl _ _))

theorem State.ejPulseEnd_touches (s : State) (n : Nat) (maxOn : Bool) : Touches 0x807000000004080000000000000000000000000000000000000000000000000000000000000a07f400000000000000000000000000000004000080000000022080211 s (State.ejPulseEnd s n maxOn) := by
  unfold State.ejPulseEnd
  extract_lets -merge +onlyGivenNames x1
  have h2 : Touches 0x807000000004080000000000000000000000000000000000000000000000000000000000000a07f400000000000000000000000000000004000080000000022080211 s x1 := by unfold x1; exact Touches.step (State.ejCurLog_touches ..) rfl (Touches.step (State.ejOff_touches ..) rfl (Touches.refl _ _))
  clear_value x1
  extract_lets -merge +onlyGivenNames x3
  clear_value x3
  extract_lets -merge +onlyGivenNames x4
  have h5 : Touches 0x807000000004080000000000000000000000000000000000000000000000000000000000000a07f400000000000000000000000000000004000080000000022080211 s x4 := by unfold x4; exact Touches.step (State.setEj_touches ..) rfl h2
  clear_value x4
  extract_lets -merge +onlyGivenNames x6
  have h7 : Touches 0x807000000004080000000000000000000000000000000000000000000000000000000000000a07f400000000000000000000000000000004000080000000022080211 s x6 := by unfold x6; exact Touches.step (State.ejGo_touches ..) rfl h5
  clear_value x6
  refine Touches.ite ?_ ?_
  · exact Touches.step (State.ejReport_touches ..) rfl h7
  · exact h7

theorem State.ejCut_touches (s : State) (n : Nat) : Touches 0x807000000004080000000000000000000000000000000000000000000000000000000000000a07f400000000000000000000000000000004000080000000022080211 s (State.ejCut s n) := by
  unfold State.ejCut
  extract_lets -merge +onlyGivenNames x1
  clear_value x1
  extract_lets -merge +onlyGivenNames x2
  have h3 : Touches 0x807000000004080000000000000000000000000000000000000000000000000000000000000a07f400000000000000000000000000000004000080000000022080211 s x2 := by
    unfold x2
    refine Touches.ite ?_ ?_
    · exact Touches.step (State.ejCurLog_touches ..) rfl (Touches.step (State.ejOff_touches ..) rfl (Touches.refl _ _))
    · refine Touches.ite ?_ ?_
      · exact Touches.step (State.ejCurLog_touches ..) rfl (Touches.refl _ _)
      · exact Touches.refl _ _
  clear_value x2
  exact Touches.step (State.ejGo_touches ..) rfl h3

theorem State.ejTake_touches (s : State) (n : Nat) (a : ArmEnt) (held : Bool) (e : Nat) : Touches 0x20807000000004080000000000000000000000000000000000000000000000000000000000000a07f4000000000000000000000000000000040000c0000000022080211 s (State.ejTake s n a held e) := by
  unfold State.ejTake
  refine Touches.ite ?_ ?_
  · exact Touches.step (State.ejReport_touches ..) rfl (Touches.step (State.ejLeave_touches ..) rfl (Touches.refl _ _))
  · extract_lets -merge +onlyGivenNames x1
    have h2 : Touches 0x20807000000004080000000000000000000000000000000000000000000000000000000000000a07f4000000000000000000000000000000040000c0000000022080211 s x1 := by
      unfold x1
      refine Touches.ite ?_ ?_
      · exact Touches.step (State.ejReport_touches ..) rfl (Touches.refl _ _)
      · exact Touches.refl _ _
    clear_value x1
    refine Touches.ite ?_ ?_
    · exact Touches.step (State.ejStart_touches ..) rfl h2
    · extract_lets -merge +onlyGivenNames x3
      clear_value x3
      extract_lets -merge +onlyGivenNames x4
      clear_value x4
      refine Touches.ite ?_ ?_
      · exact Touches.step (State.setEj_touches ..) rfl h2
      · refine Touches.ite ?_ ?_
        · exact Touches.step (State.ejLeave_touches ..) rfl h2
        · extract_lets -merge +onlyGivenNames x5
          clear_value x5
          extract_lets -merge +onlyGivenNames x6
          clear_value x6
          extract_lets -merge +onlyGivenNames x7
          clear_value x7
          extract_lets -merge +onlyGivenNames x8
          have h9 : Touches 0x20807000000004080000000000000000000000000000000000000000000000000000000000000a07f4000000000000000000000000000000040000c0000000022080211 s x8 := by
            unfold x8
            split
            · refine Touches.ite ?_ ?_
              · exact Touches.step (State.setEj_touches ..) rfl h2
              · exact h2
            · refine Touches.ite ?_ ?_
              · exact Touches.step (State.setEj_touches ..) rfl h2
              · exact Touches.step (State.setEj_touches ..) rfl h2
          clear_value x8
          exact Touches.step (State.ejLeave_touches ..) rfl h9

theorem State.ejCounts_touches (n : Nat) (a1 : Nat) (a2 : State) : Touches 0x20807000000004080000000000000000000000000000000000000000000000000000000000000a07f4000000000000000000000000000000040000c0000000022080211 a2 (State.ejCounts n a1 a2) := by
  fun_induction State.ejCounts n a1 a2
  · rename_i x1
    exact Touches.refl _ _
  · rename_i x2 x3 x4 x5 x6 e7 e8
    refine Touches.trans ?_ e8
    exact Touches.step (State.ejTake_touches ..) rfl (Touches.step (State.setEj_touches ..) rfl (Touches.refl _ _))
  · rename_i x9 x10 x11 x12 e13
    exact Touches.refl _ _

theorem State.ejTimes_touches (n : Nat) (a1 : Nat) (a2 : State) : Touches 0x20807000000004080000000000000000000000000000000000000000000000000000000000000a07f4000000000000000000000000000000040000c0000000022080211 a2 (State.ejTimes n a1 a2) := by
  fun_induction State.ejTimes n a1 a2
  · rename_i x1
    exact Touches.refl _ _
  · rename_i x2 x3 x4 x5 e6 e7
    refine Touches.trans ?_ e7
    exact Touches.step (State.ejTake_touches ..) rfl (Touches.step (State.setEj_touches ..) rfl (Touches.refl _ _))
  · rename_i x8 x9 x10 e11
    exact Touches.refl _ _

theorem State.ejHeld_touches (s : State) (n : Nat) : Touches 0x20807000000004080000000000000000000000000000000000000000000000000000000000000a07f4000000000000000000000000000000040000c0000000022080211 s (State.ejHeld s n) := by
  unfold State.ejHeld
  extract_lets -merge +onlyGivenNames x1
  clear_value x1
  split
  · refine Touches.ite ?_ ?_
    · exact Touches.step (State.ejTake_touches ..) rfl (Touches.step (State.setEj_touches ..) rfl (Touches.refl _ _))
    · exact Touches.refl _ _
  · exact Touches.refl _ _

theorem State.ejHeldAll_touches (s : State) (n : Nat) : Touches 0x20807000000004080000000000000000000000000000000000000000000000000000000000000a07f4000000000000000000000000000000040000c0000000022080211 s (State.ejHeldAll s n) := by
  unfold State.ejHeldAll
  refine Touches.foldl (fun t1 y2 h3 => ?_) ?_
  · exact Touches.step (State.ejHeld_touches ..) rfl h3
  · exact Touches.refl _ _

theorem State.ejEndCount_touches (s : State) (n : Nat) : Touches 0x807000000004080000000000000000000000000000000000000000000000000000000000000a07f400000000000000000000000000000004000080000000022080211 s (State.ejEndCount s n) := by
  unfold State.ejEndCount
  extract_lets -merge +onlyGivenNames x1
  clear_value x1
  split
  · refine Touches.ite ?_ ?_
    · exact Touches.step (State.ejPulseEnd_touches ..) rfl (Touches.refl _ _)
    · exact Touches.refl _ _
  · exact Touches.refl _ _

theorem State.ejCycle_touches (s : State) (n : Nat) : Touches 0x20807000000004080000000000000000000000000000000000000000000000000000000000000a07f4000000000000000000000000000000040000c0000000022080211 s (State.ejCycle s n) := by
  unfold State.ejCycle
  extract_lets -merge +onlyGivenNames x1
  have h2 : Touches 0x20807000000004080000000000000000000000000000000000000000000000000000000000000a07f4000000000000000000000000000000040000c0000000022080211 s x1 := by unfold x1; exact Touches.step (State.ejEndCount_touches ..) rfl (Touches.refl _ _)
  clear_value x1
  refine Touches.ite ?_ ?_
  · exact h2
  · extract_lets -merge +onlyGivenNames x3
    have h4 : Touches 0x20807000000004080000000000000000000000000000000000000000000000000000000000000a07f4000000000000000000000000000000040000c0000000022080211 s x3 := by unfold x3; exact Touches.step (State.ejCounts_touches ..) rfl h2
    clear_value x3
    exact Touches.step (State.ejTimes_touches ..) rfl h4

theorem State.ejAll_touches (s : State) : Touches 0x20807000000004080000000000000000000000000000000000000000000000000000000000000a07f4000000000000000000000000000000040000c0000000022080211 s (State.ejAll s) := by
  unfold State.ejAll
  extract_lets -merge +onlyGivenNames x1
  extract_lets -merge +onlyGivenNames x2
  have h6 : Touches 0x20807000000004080000000000000000000000000000000000000000000000000000000000000a07f4000000000000000000000000000000040000c0000000022080211 s x2 := by
    unfold x2
    refine Touches.foldl (fun t3 y4 h5 => ?_) ?_
    · exact Touches.step (State.ejCycle_touches ..) rfl h5
    · exact Touches.refl _ _
  clear_value x2
  clear_value x1
  extract_lets -merge +onlyGivenNames x7
  extract_lets -merge +onlyGivenNames x8
  have h9 : Touches 0x20807000000004080000000000000000000000000000000000000000000000000000000000000a07f4000000000000000000000000000000040000c0000000022080211 s x8 := by unfold x8; exact Touches.setMot h6 rfl
  clear_value x8
  clear_value x7
  refine Touches.foldl (fun t10 y11 h12 => ?_) ?_
  · exact Touches.step (State.ejCycle_touches ..) rfl h12
  · exact h9

theorem State.armManual_touches (s : State) (n : Nat) (time : Bool) (key : Nat) (seq : Nat) (cmd : Bool) : Touches 0x20807000000004080000000000000000000000000000000000000000000000000000000000000b07f4000000000000000000000000000000040000c0000000022080211 s (State.armManual s n time key seq cmd) := by
  unfold State.armManual
  refine Touches.ite ?_ ?_
  · exact Touches.refl _ _
  · extract_lets -merge +onlyGivenNames x1
    clear_value x1
    split
    · extract_lets -merge +onlyGivenNames x2
      have h3 : Touches 0x20807000000004080000000000000000000000000000000000000000000000000000000000000b07f4000000000000000000000000000000040000c0000000022080211 s x2 := by unfold x2; exact Touches.step (State.ejReport_touches ..) rfl (Touches.refl _ _)
      clear_value x2
      refine Touches.ite ?_ ?_
      · refine Touches.trans ?_ (State.setB_touches _ _ _ rfl 197 rfl grp_EJ_ARM_STATUS)
        exact Touches.trans h3 (State.setF_touches _ _ _ rfl 197 rfl grp_EJ_ARM_STATUS)
      · exact h3
    · extract_lets -merge +onlyGivenNames x4
      have h5 : Touches 0x20807000000004080000000000000000000000000000000000000000000000000000000000000b07f4000000000000000000000000000000040000c0000000022080211 s x4 := by unfold x4; exact Touches.step (State.ejInsert_touches ..) rfl (Touches.refl _ _)
      clear_value x4
      extract_lets -merge +onlyGivenNames x6
      have h7 : Touches 0x20807000000004080000000000000000000000000000000000000000000000000000000000000b07f4000000000000000000000000000000040000c0000000022080211 s x6 := by
        unfold x6
        refine Touches.ite ?_ ?_
        · refine Touches.trans ?_ (State.setB_touches _ _ _ rfl 197 rfl grp_EJ_ARM_STATUS)
          exact Touches.trans h5 (State.setF_touches _ _ _ rfl 197 rfl grp_EJ_ARM_STATUS)
        · exact h5
      clear_value x6
      exact Touches.step (State.ejAll_touches ..) rfl h7

theorem State.writeArm_touches (s : State) (v : Nat) : Touches 0x20807000000004080000000000000000000000000000000000000000000000000000000000000b87f4000000000000000000000000000000040000c0000000022080211 s (State.writeArm s v) := by
  unfold State.writeArm
  extract_lets -merge +onlyGivenNames x1
  have h2 : Touches 0x20807000000004080000000000000000000000000000000000000000000000000000000000000b87f4000000000000000000000000000000040000c0000000022080211 s x1 := by unfold x1; exact State.wr_touches _ _ _ rfl 196 rfl grp_EJ_ARM_CMD
  clear_value x1
  refine Touches.ite ?_ ?_
  · exact h2
  · exact Touches.step (State.armManual_touches ..) rfl h2

theorem State.delayEnd_touches (s : State) (n : Nat) : Touches 0x20807000000004080000000000000000000000000000000000000000000000000000000000000a07f4000000000000000000000000000000040000c0000000022080211 s (State.delayEnd s n) := by
  unfold State.delayEnd
  refine Touches.ite ?_ ?_
  · refine Touches.ite ?_ ?_
    · exact Touches.step (State.ejCut_touches ..) rfl (Touches.refl _ _)
    · refine Touches.ite ?_ ?_
      · exact Touches.step (State.ejAll_touches ..) rfl (Touches.step (State.ejTurnOn_touches ..) rfl (Touches.refl _ _))
      · exact Touches.refl _ _
  · exact Touches.refl _ _

theorem State.widthEnd_touches (s : State) (n : Nat) : Touches 0x20807000000004080000000000000000000000000000000000000000000000000000000000000a07f4000000000000000000000000000000040000c0000000022080211 s (State.widthEnd s n) := by
  unfold State.widthEnd
  refine Touches.ite ?_ ?_
  · split
    · exact Touches.step (State.ejAll_touches ..) rfl (Touches.step (State.ejEndCount_touches ..) rfl (Touches.refl _ _))
    · refine Touches.ite ?_ ?_
      · exact Touches.step (State.ejAll_touches ..) rfl (Touches.step (State.ejPulseEnd_touches ..) rfl (Touches.refl _ _))
      · exact Touches.refl _ _
  · exact Touches.refl _ _

theorem State.gapEnd_touches (s : State) (n : Nat) : Touches 0x20807000000004080000000000000000000000000000000000000000000000000000000000000a07f4000000000000000000000000000000040000c0000000022080211 s (State.gapEnd s n) := by
  unfold State.gapEnd
  refine Touches.ite ?_ ?_
  · extract_lets -merge +onlyGivenNames x1
    have h2 : Touches 0x20807000000004080000000000000000000000000000000000000000000000000000000000000a07f4000000000000000000000000000000040000c0000000022080211 s x1 := by unfold x1; exact Touches.step (State.ejGo_touches ..) rfl (Touches.refl _ _)
    clear_value x1
    refine Touches.ite ?_ ?_
    · exact h2
    · exact Touches.step (State.ejAll_touches ..) rfl (Touches.step (State.ejHeldAll_touches ..) rfl h2)
  · exact Touches.refl _ _

theorem State.maxOn_touches (s : State) (n : Nat) : Touches 0x20807000000004080000000000000000000000000000000000000000000000000000000000000a07f4000000000000000000000000000000040000c0000000022080211 s (State.maxOn s n) := by
  unfold State.maxOn
  refine Touches.ite ?_ ?_
  · exact Touches.step (State.ejAll_touches ..) rfl (Touches.step (State.ejPulseEnd_touches ..) rfl (Touches.refl _ _))
  · exact Touches.refl _ _

theorem State.deferExpired_touches (s : State) (n : Nat) : Touches 0x807000000004080000000000000000000000000000000000000000000000000000000000000a07f400000000000000000000000000000004000080000000022080211 s (State.deferExpired s n) := by
  unfold State.deferExpired
  extract_lets -merge +onlyGivenNames x1
  clear_value x1
  extract_lets -merge +onlyGivenNames x2
  clear_value x2
  extract_lets -merge +onlyGivenNames x3
  have h4 : Touches 0x807000000004080000000000000000000000000000000000000000000000000000000000000a07f400000000000000000000000000000004000080000000022080211 s x3 := by unfold x3; exact Touches.step (State.setEj_touches ..) rfl (Touches.refl _ _)
  clear_value x3
  refine Touches.foldl (fun t5 y6 h7 => ?_) ?_
  · exact Touches.step (State.ejReport_touches ..) rfl (Touches.step (State.ejLeave_touches ..) rfl h7)
  · exact h4

theorem State.writeEjCtrl_touches (s : State) (v : Nat) : Touches 0x20807000000004080000000000000000000000000000000000000000000000000000000000000a0ff4000000000000000000000000000000040000c0000000022080211 s (State.writeEjCtrl s v) := by
  unfold State.writeEjCtrl
  extract_lets -merge +onlyGivenNames x1
  have h2 : Touches 0x20807000000004080000000000000000000000000000000000000000000000000000000000000a0ff4000000000000000000000000000000040000c0000000022080211 s x1 := by unfold x1; exact State.wr_touches _ _ _ rfl 192 rfl grp_EJ_CTRL
  clear_value x1
  refine Touches.ite ?_ ?_
  · exact Touches.step (State.ejAll_touches ..) rfl h2
  · refine Touches.foldl (fun t3 y4 h5 => ?_) ?_
    · exact Touches.step (State.ejHeldAll_touches ..) rfl (Touches.step (State.ejCut_touches ..) rfl h5)
    · exact h2

theorem State.writeOutCfg_touches (s : State) (n : Nat) (v : Nat) : Touches 0x20807000000004080000000000000000000000000000000000000000000000000000000000000a07f4400000000000000000000000000000040000c0000000022080211 s (State.writeOutCfg s n v) := by
  unfold State.writeOutCfg
  extract_lets -merge +onlyGivenNames x1
  extract_lets -merge +onlyGivenNames x2
  clear_value x2
  extract_lets -merge +onlyGivenNames x3
  have h4 : Touches 0x20807000000004080000000000000000000000000000000000000000000000000000000000000a07f4400000000000000000000000000000040000c0000000022080211 s x3 := by
    unfold x3
    refine Touches.trans ?_ (State.setF_touches _ _ _ rfl 179 rfl (grp_EJ_OUT_CFG _))
    exact State.wr_touches _ _ _ rfl 179 rfl (grp_EJ_OUT_CFG _)
  clear_value x3
  clear_value x1
  refine Touches.ite ?_ ?_
  · exact h4
  · exact Touches.step (State.ejHeldAll_touches ..) rfl (Touches.step (State.ejCut_touches ..) rfl h4)

theorem State.writeFlush_touches (s : State) (n : Nat) (v : Nat) : Touches 0x807000000004080000000000000000000000000000000000000000000000000000000000000a07f400000000000000000000000000000004000080000000022080211 s (State.writeFlush s n v) := by
  unfold State.writeFlush
  refine Touches.ite ?_ ?_
  · exact Touches.refl _ _
  · extract_lets -merge +onlyGivenNames x1
    clear_value x1
    extract_lets -merge +onlyGivenNames x2
    extract_lets -merge +onlyGivenNames x3
    have h4 : Touches 0x807000000004080000000000000000000000000000000000000000000000000000000000000a07f400000000000000000000000000000004000080000000022080211 s x3 := by unfold x3; exact Touches.step (State.setEj_touches ..) rfl (Touches.refl _ _)
    clear_value x3
    clear_value x2
    refine Touches.step (State.ejReport_touches ..) rfl ?_
    refine Touches.foldl (fun t5 y6 h7 => ?_) ?_
    · exact Touches.step (State.ejLeave_touches ..) rfl h7
    · exact h4

theorem State.ejLogRead_touches (s : State) : Touches 0x10000000000000000000000000000000000000000000000000000000005 s (State.ejLogRead s) := by
  unfold State.ejLogRead
  extract_lets -merge +onlyGivenNames x1
  extract_lets -merge +onlyGivenNames x2
  have h6 : Touches 0x10000000000000000000000000000000000000000000000000000000005 s x2 := by
    unfold x2
    refine Touches.foldl (fun t3 y4 h5 => ?_) ?_
    · exact Touches.trans h5 (State.setF_touches _ _ _ rfl 201 rfl (grp_EJ_LOG_DATA _))
    · exact Touches.refl _ _
  clear_value x2
  clear_value x1
  exact Touches.setBus h6 rfl

theorem State.ejLogFlag_touches (s : State) (k : Nat) : Touches 0x80000 s (State.ejLogFlag s k) := by
  unfold State.ejLogFlag
  extract_lets -merge +onlyGivenNames x1
  refine Touches.ite ?_ ?_
  · exact Touches.refl _ _
  · exact Touches.setMot (Touches.refl _ _) rfl

theorem State.readback_touches (s : State) (n : Nat) (level : Bool) (open_ : Bool) : Touches 0x8070000000040800000000000000000000000000000000000000000000000000000000000000003400000000000000000000000000000005800880000000022080251 s (State.readback s n level open_) := by
  unfold State.readback
  extract_lets -merge +onlyGivenNames x1
  clear_value x1
  split
  · exact Touches.refl _ _
  · refine Touches.ite ?_ ?_
    · exact Touches.refl _ _
    · extract_lets -merge +onlyGivenNames x2
      have h3 : Touches 0x8070000000040800000000000000000000000000000000000000000000000000000000000000003400000000000000000000000000000005800880000000022080251 s x2 := by unfold x2; exact Touches.step (State.setEj_touches ..) rfl (Touches.refl _ _)
      clear_value x2
      extract_lets -merge +onlyGivenNames x4
      have h5 : Touches 0x8070000000040800000000000000000000000000000000000000000000000000000000000000003400000000000000000000000000000005800880000000022080251 s x4 := by
        unfold x4
        refine Touches.ite ?_ ?_
        · refine Touches.step (State.reportEject_touches ..) rfl ?_
          exact Touches.trans h3 (State.setF_touches _ _ _ rfl 53 rfl grp_EJ_OUT_STS)
        · exact h3
      clear_value x4
      refine Touches.ite ?_ ?_
      · exact h5
      · refine Touches.ite ?_ ?_
        · extract_lets -merge +onlyGivenNames x6
          have h7 : Touches 0x8070000000040800000000000000000000000000000000000000000000000000000000000000003400000000000000000000000000000005800880000000022080251 s x6 := by
            unfold x6
            split
            · exact Touches.step (State.ejLogFlag_touches ..) rfl h5
            · exact Touches.step (State.ejCurFlags_touches ..) rfl h5
          clear_value x6
          exact Touches.step (State.reportEject_touches ..) rfl h7
        · extract_lets -merge +onlyGivenNames x8
          have h9 : Touches 0x8070000000040800000000000000000000000000000000000000000000000000000000000000003400000000000000000000000000000005800880000000022080251 s x8 := by unfold x8; exact Touches.step (State.reportEject_touches ..) rfl h5
          clear_value x8
          refine Touches.ite ?_ ?_
          · exact Touches.step (State.lineStop_touches ..) rfl h9
          · exact h9

theorem execArmCommand_ends (value : Nat) (s : State) : Ends 0x20807000000004080000000000000000000000000000000000000000000000000000000000000b87f4000000000000000000000000001020040000c0000000022080295 s (execArmCommand value s) := by
  unfold execArmCommand
  refine Ends.next ?_
  refine Touches.trans ?_ (State.regWrite_touches _ _ _ _ rfl ?_)
  · exact Touches.refl _ _
  · intro y1
    exact Touches.step (State.writeArm_touches ..) rfl (Touches.refl _ _)

theorem execTimeEntryDue_ends (s : State) : Ends 0x20807000000004080000000000000000000000000000000000000000000000000000000000000a07f4000000000000000000000000000000040000c0000000022080211 s (execTimeEntryDue s) := by
  unfold execTimeEntryDue
  exact Ends.next (Touches.step (State.ejAll_touches ..) rfl (Touches.refl _ _))

theorem execDelayEnd_ends (out : Nat) (s : State) : Ends 0x20807000000004080000000000000000000000000000000000000000000000000000000000000a07f4000000000000000000000000000000040000c0000000022080211 s (execDelayEnd out s) := by
  unfold execDelayEnd
  exact Ends.next (Touches.step (State.delayEnd_touches ..) rfl (Touches.refl _ _))

theorem execPulseEnd_ends (out : Nat) (s : State) : Ends 0x20807000000004080000000000000000000000000000000000000000000000000000000000000a07f4000000000000000000000000000000040000c0000000022080211 s (execPulseEnd out s) := by
  unfold execPulseEnd
  exact Ends.next (Touches.step (State.widthEnd_touches ..) rfl (Touches.refl _ _))

theorem execGapEnd_ends (out : Nat) (s : State) : Ends 0x20807000000004080000000000000000000000000000000000000000000000000000000000000a07f4000000000000000000000000000000040000c0000000022080211 s (execGapEnd out s) := by
  unfold execGapEnd
  exact Ends.next (Touches.step (State.gapEnd_touches ..) rfl (Touches.refl _ _))

theorem execMaxOn_ends (out : Nat) (s : State) : Ends 0x20807000000004080000000000000000000000000000000000000000000000000000000000000a07f4000000000000000000000000000000040000c0000000022080211 s (execMaxOn out s) := by
  unfold execMaxOn
  exact Ends.next (Touches.step (State.maxOn_touches ..) rfl (Touches.refl _ _))

theorem execDeferExpired_ends (out : Nat) (s : State) : Ends 0x807000000004080000000000000000000000000000000000000000000000000000000000000a07f400000000000000000000000000000004000080000000022080211 s (execDeferExpired out s) := by
  unfold execDeferExpired
  refine Ends.next ?_
  refine Touches.ite ?_ ?_
  · exact Touches.step (State.deferExpired_touches ..) rfl (Touches.refl _ _)
  · exact Touches.refl _ _

theorem execEjCtrlWrite_ends (value : Nat) (s : State) : Ends 0x20807000000004080000000000000000000000000000000000000000000000000000000000000a0ff4000000000000000000000000001020040000c0000000022080295 s (execEjCtrlWrite value s) := by
  unfold execEjCtrlWrite
  refine Ends.next ?_
  refine Touches.trans ?_ (State.regWrite_touches _ _ _ _ rfl ?_)
  · exact Touches.refl _ _
  · intro y1
    exact Touches.step (State.writeEjCtrl_touches ..) rfl (Touches.refl _ _)

theorem execOutCfgWrite_ends (out : Nat) (value : Nat) (s : State) : Ends 0x20807000000004080000000000000000000000000000000000000000000000000000000000000a07f4400000000000000000000000001020040000c0000000022080295 s (execOutCfgWrite out value s) := by
  unfold execOutCfgWrite
  refine Ends.next ?_
  refine Touches.ite ?_ ?_
  · refine Touches.trans ?_ (State.regWrite_touches _ _ _ _ rfl ?_)
    · exact Touches.refl _ _
    · intro y1
      exact Touches.step (State.writeOutCfg_touches ..) rfl (Touches.refl _ _)
  · exact Touches.refl _ _

theorem execFlush_ends (out : Nat) (value : Nat) (s : State) : Ends 0x807000000004080000000000000000000000000000000000000000000000000000000000000a07f400000000000000000000000000102004000080000000022080295 s (execFlush out value s) := by
  unfold execFlush
  refine Ends.next ?_
  refine Touches.ite ?_ ?_
  · refine Touches.trans ?_ (State.regWrite_touches _ _ _ _ rfl ?_)
    · exact Touches.refl _ _
    · intro y1
      exact Touches.step (State.writeFlush_touches ..) rfl (Touches.refl _ _)
  · exact Touches.refl _ _

theorem execEjLogRead_ends (s : State) : Ends 0x8070000000040800000000000000000000000000000000000000000000000000000000000010000000000000000000000000000000102000000000000000022000295 s (execEjLogRead s) := by
  unfold execEjLogRead
  refine Ends.next ?_
  refine Touches.trans ?_ (State.regRead_touches _ _ _ rfl ?_)
  · exact Touches.refl _ _
  · intro y1
    exact Touches.step (State.ejLogRead_touches ..) rfl (Touches.refl _ _)

theorem execReadbackCheck_ends (out : Nat) (level : Bool) (openLoad : Bool) (s : State) : Ends 0x8070000000040800000000000000000000000000000000000000000000000000000000000000003400000000000000000000000000000005800880000000022080251 s (execReadbackCheck out level openLoad s) := by
  unfold execReadbackCheck
  exact Ends.next (Touches.step (State.readback_touches ..) rfl (Touches.refl _ _))

theorem execOutputOvercurrent_ends (out : Nat) (s : State) : Ends 0x8070000000040800000000000000000000000000000000000000000000000000000000000000003400000000000000000000000000000005000880000000022080211 s (execOutputOvercurrent out s) := by
  unfold execOutputOvercurrent
  refine Ends.ite ?_ ?_
  · exact Ends.next (Touches.refl _ _)
  · extract_lets -merge +onlyGivenNames x1
    have h2 : Touches 0x8070000000040800000000000000000000000000000000000000000000000000000000000000003400000000000000000000000000000005000880000000022080211 s x1 := by unfold x1; exact State.setF_touches _ _ _ rfl 53 rfl grp_EJ_OUT_STS
    clear_value x1
    extract_lets -merge +onlyGivenNames x3
    clear_value x3
    extract_lets -merge +onlyGivenNames x4
    have h5 : Touches 0x8070000000040800000000000000000000000000000000000000000000000000000000000000003400000000000000000000000000000005000880000000022080211 s x4 := by unfold x4; exact Touches.step (State.ejCurFlags_touches ..) rfl (Touches.step (State.setEj_touches ..) rfl h2)
    clear_value x4
    exact Ends.next (Touches.step (State.reportEject_touches ..) rfl h5)

end Sys2Proof.Machine
end

