-- ==== Sys2Proof/Laws/FrameTracks.lean ====
section
/-! SUPPORT. What each operation of Machine/Tracks.lean can do: the parts of the state it touches (Touches). -/

-- One declaration at a time: many proofs at once would each hold a thread with a large stack.
set_option Elab.async false

namespace Sys2Proof.Machine

theorem State.trkCount_touches (s : State) : Touches 0x100000000001 s (State.trkCount s) := by
  unfold State.trkCount
  exact State.setF_touches _ _ _ rfl 13 rfl grp_MOT_TRK_ACTIVE

theorem State.setTrk_touches (s : State) (slot : Nat) (t : Track) : Touches 0x100000080001 s (State.setTrk s slot t) := by
  unfold State.setTrk
  exact Touches.step (State.trkCount_touches ..) rfl (Touches.setMot (Touches.refl _ _) rfl)

theorem State.trkReport_touches (s : State) (sts : Nat) (detail : Nat) : Touches 0x8070000000040800000000000000000000000000000000000000000000000000000000000000000000000000000000000000000000000004000000000080022080211 s (State.trkReport s sts detail) := by
  unfold State.trkReport
  exact State.motReport_touches _ _ _ _ _ rfl 12 rfl grp_MOT_TRK_STATUS

theorem State.fallback_touches (s : State) (c : Nat) : Touches 0x8070000000040800000000000000000000000000000000000000000000000000000000000000000000000000000000000000000000000004000000000080022080211 s (State.fallback s c) := by
  unfold State.fallback
  extract_lets -merge +onlyGivenNames x1
  clear_value x1
  refine Touches.ite ?_ ?_
  · exact State.setF_touches _ _ _ rfl 12 rfl grp_MOT_TRK_STATUS
  · refine Touches.ite ?_ ?_
    · exact Touches.refl _ _
    · exact Touches.step (State.trkReport_touches ..) rfl (State.setF_touches _ _ _ rfl 12 rfl grp_MOT_TRK_STATUS)

theorem State.convertTrk_touches (s : State) (slot : Nat) : Touches 0x8070000000040800000000000000000000000000000000000000000000000000000000000000000000000000000000000000000000000004000000000100022080211 s (State.convertTrk s slot) := by
  unfold State.convertTrk
  split
  · exact Touches.refl _ _
  · refine Touches.ite ?_ ?_
    · exact Touches.refl _ _
    · extract_lets -merge +onlyGivenNames x1
      clear_value x1
      extract_lets -merge +onlyGivenNames x2
      have h3 : Touches 0x8070000000040800000000000000000000000000000000000000000000000000000000000000000000000000000000000000000000000004000000000100022080211 s x2 := by unfold x2; exact Touches.step (State.setTrk_touches ..) rfl (Touches.refl _ _)
      clear_value x2
      refine Touches.ite ?_ ?_
      · exact Touches.step (State.xingDrop_touches ..) rfl h3
      · extract_lets -merge +onlyGivenNames x4
        extract_lets -merge +onlyGivenNames x5
        have h6 : Touches 0x8070000000040800000000000000000000000000000000000000000000000000000000000000000000000000000000000000000000000004000000000100022080211 s x5 := by unfold x5; exact Touches.setMot h3 rfl
        clear_value x5
        clear_value x4
        exact Touches.step (State.xingFill_touches ..) rfl h6

theorem State.noteConv_touches (s : State) (c : Nat) : Touches 0x8070000000040800000000000000000000000000000000000000000000000000000000000000000000000000000000000000000000000004000000000080022080211 s (State.noteConv s c) := by
  unfold State.noteConv
  exact Touches.step (State.fallback_touches ..) rfl (Touches.step (State.setCh_touches ..) rfl (Touches.refl _ _))

theorem State.convertChan_touches (s : State) (c : Nat) : Touches 0x8070000000040800000000000000000000000000000000000000000000000000000000000000000000000000000000000000000000000004000000000180022080211 s (State.convertChan s c) := by
  unfold State.convertChan
  extract_lets -merge +onlyGivenNames x1
  refine Touches.ite ?_ ?_
  · exact Touches.refl _ _
  · refine Touches.step (State.noteConv_touches ..) rfl ?_
    refine Touches.foldl (fun t2 y3 h4 => ?_) ?_
    · exact Touches.step (State.convertTrk_touches ..) rfl h4
    · exact Touches.refl _ _

theorem State.convertNow_touches (s : State) (c : Nat) : Touches 0x8070000000040800000000000000000000000000000000000000000000000000000000000000000000000000000000000000000000000004000000000180022080211 s (State.convertNow s c) := by
  unfold State.convertNow
  extract_lets -merge +onlyGivenNames x1
  clear_value x1
  extract_lets -merge +onlyGivenNames x2
  clear_value x2
  extract_lets -merge +onlyGivenNames x3
  clear_value x3
  refine Touches.ite ?_ ?_
  · exact Touches.step (State.convertChan_touches ..) rfl (Touches.step (State.setCh_touches ..) rfl (Touches.refl _ _))
  · exact Touches.refl _ _

theorem State.armTrack_touches (s : State) (n : Nat) (slot : Nat) (t : Track) (tol : Nat) : Touches 0x807000000004080000000000000000000000000000000000000000000000000000000000000a07f400000000000000000000000000000004000080000000022080211 s (State.armTrack s n slot t tol).2 := by
  unfold State.armTrack
  extract_lets -merge +onlyGivenNames x1
  clear_value x1
  extract_lets -merge +onlyGivenNames x2
  clear_value x2
  refine Touches.ite2 ?_ ?_
  · exact Touches.pair2 (Touches.refl _ _)
  · refine Touches.ite2 ?_ ?_
    · refine Touches.pair2 ?_
      exact Touches.step (State.ejReport_touches ..) rfl (Touches.step (State.ejLeave_touches ..) rfl (Touches.refl _ _))
    · refine Touches.ite2 ?_ ?_
      · exact Touches.pair2 (Touches.step (State.ejReport_touches ..) rfl (Touches.refl _ _))
      · refine Touches.ite2 ?_ ?_
        · exact Touches.pair2 (Touches.refl _ _)
        · exact Touches.pair2 (Touches.step (State.ejInsert_touches ..) rfl (Touches.refl _ _))

theorem State.dispose_touches (s : State) (slot : Nat) (t : Track) : Touches 0x20807000000004080000000000000000000000000000000000000000000000000000000000000a07f4000000000000000000000000000000048000a0000000022080251 s (State.dispose s slot t).2.2 := by
  unfold State.dispose
  split
  · exact Touches.pair2 (Touches.refl _ _)
  · extract_lets -merge +onlyGivenNames x1
    clear_value x1
    extract_lets -merge +onlyGivenNames x2
    clear_value x2
    extract_lets -merge +onlyGivenNames x3
    clear_value x3
    split
    · exact Touches.pair2 (Touches.refl _ _)
    · exact Touches.pair2 (Touches.step (State.lineStop_touches ..) rfl (Touches.refl _ _))
    · rename_i x4 e5 e6
      split
      · rename_i x7 x8 e9
        have h10 : Touches 0x20807000000004080000000000000000000000000000000000000000000000000000000000000a07f4000000000000000000000000000000048000a0000000022080251 s x8 := Touches.of_eq (fun d => d.2) e9 (Touches.step (State.armTrack_touches ..) rfl (Touches.refl _ _))
        exact h10
      · rename_i x11 x12 e13
        have h14 : Touches 0x20807000000004080000000000000000000000000000000000000000000000000000000000000a07f4000000000000000000000000000000048000a0000000022080251 s x12 := Touches.of_eq (fun d => d.2) e13 (Touches.step (State.armTrack_touches ..) rfl (Touches.refl _ _))
        exact h14
      · rename_i x15 x16 x17 e18 e19 e20
        have h21 : Touches 0x20807000000004080000000000000000000000000000000000000000000000000000000000000a07f4000000000000000000000000000000048000a0000000022080251 s x17 := Touches.of_eq (fun d => d.2) e20 (Touches.step (State.armTrack_touches ..) rfl (Touches.refl _ _))
        split
        rename_i x22 x23 x24 e25
        have h26 : Touches 0x20807000000004080000000000000000000000000000000000000000000000000000000000000a07f4000000000000000000000000000000048000a0000000022080251 s x24 := by
          refine Touches.of_eq (fun d => d.2) e25 ?_
          refine Touches.ite2 ?_ ?_
          · refine Touches.pair2 ?_
            refine Touches.step (State.ejReport_touches ..) rfl ?_
            refine Touches.step (State.total_touches ..) rfl ?_
            exact Touches.trans h21 (State.inc_touches _ _ _ rfl 34 rfl grp_EJ_OVF_CNT)
          · exact h21
        split
        · exact h26
        · split
          · rename_i x27 x28 e29
            have h30 : Touches 0x20807000000004080000000000000000000000000000000000000000000000000000000000000a07f4000000000000000000000000000000048000a0000000022080251 s x28 := Touches.of_eq (fun d => d.2) e29 (Touches.step (State.armTrack_touches ..) rfl h26)
            exact h30
          · rename_i x31 x32 e33
            have h34 : Touches 0x20807000000004080000000000000000000000000000000000000000000000000000000000000a07f4000000000000000000000000000000048000a0000000022080251 s x32 := Touches.of_eq (fun d => d.2) e33 (Touches.step (State.armTrack_touches ..) rfl h26)
            exact h34
          · rename_i x35 x36 x37 e38 e39 e40
            have h41 : Touches 0x20807000000004080000000000000000000000000000000000000000000000000000000000000a07f4000000000000000000000000000000048000a0000000022080251 s x37 := Touches.of_eq (fun d => d.2) e40 (Touches.step (State.armTrack_touches ..) rfl h26)
            exact Touches.pair2 (Touches.step (State.lineStop_touches ..) rfl h41)
        · rename_i x42 e43 e44
          exact Touches.pair2 (Touches.step (State.lineStop_touches ..) rfl h26)

theorem State.sendRec_touches (s : State) (r : VRec) : Touches 0x8070000000040800000000000000000000000000000000000000000000000000000000000000000000000000000000000000000000000004000000000000026080211 s (State.sendRec s r) := by
  unfold State.sendRec
  refine Touches.ite ?_ ?_
  · exact Touches.step (State.xingDrop_touches ..) rfl (Touches.refl _ _)
  · extract_lets -merge +onlyGivenNames x1
    clear_value x1
    extract_lets -merge +onlyGivenNames x2
    have h3 : Touches 0x8070000000040800000000000000000000000000000000000000000000000000000000000000000000000000000000000000000000000004000000000000026080211 s x2 := by unfold x2; exact Touches.setMbx (Touches.refl _ _) rfl
    clear_value x2
    exact Touches.step (State.xingFill_touches ..) rfl h3

theorem State.giveVerdict_touches (s : State) (slot : Nat) (verdict : Nat) (rule : Nat) : Touches 0x2080700000000408000000202080000000000404c941500000000100200000000000000000000a07f4000000000000000000000000000000048000a80001000260ec255 s (State.giveVerdict s slot verdict rule) := by
  unfold State.giveVerdict
  split
  · exact Touches.refl _ _
  · extract_lets -merge +onlyGivenNames x1
    clear_value x1
    extract_lets -merge +onlyGivenNames x2
    have h3 : Touches 0x2080700000000408000000202080000000000404c941500000000100200000000000000000000a07f4000000000000000000000000000000048000a80001000260ec255 s x2 := by unfold x2; exact Touches.step (State.total_touches ..) rfl (Touches.step (State.setTrk_touches ..) rfl (Touches.refl _ _))
    clear_value x2
    split
    rename_i x4 x5 x6 e7
    have h8 : Touches 0x2080700000000408000000202080000000000404c941500000000100200000000000000000000a07f4000000000000000000000000000000048000a80001000260ec255 s x6 := by
      refine Touches.of_eq (fun d => d.2) e7 ?_
      refine Touches.ite2 ?_ ?_
      · refine Touches.pair2 ?_
        refine Touches.step (State.ejReport_touches ..) rfl ?_
        exact Touches.trans h3 (State.inc_touches _ _ _ rfl 32 rfl grp_EJ_LATE_CNT)
      · refine Touches.ite2 ?_ ?_
        · exact h3
        · exact h3
    split
    rename_i x9 x10 x11 x12 e13
    have h14 : Touches 0x2080700000000408000000202080000000000404c941500000000100200000000000000000000a07f4000000000000000000000000000000048000a80001000260ec255 s x12 := Touches.of_eq (fun d => d.2.2) e13 (Touches.step (State.dispose_touches ..) rfl h8)
    extract_lets -merge +onlyGivenNames x15
    clear_value x15
    extract_lets -merge +onlyGivenNames x16
    have h17 : Touches 0x2080700000000408000000202080000000000404c941500000000100200000000000000000000a07f4000000000000000000000000000000048000a80001000260ec255 s x16 := by unfold x16; exact Touches.trans h14 (State.setF_touches _ _ _ rfl 418 rfl grp_MBX_RSEQ_NEXT)
    clear_value x16
    extract_lets -merge +onlyGivenNames x18
    have h19 : Touches 0x2080700000000408000000202080000000000404c941500000000100200000000000000000000a07f4000000000000000000000000000000048000a80001000260ec255 s x18 := by unfold x18; exact Touches.step (State.sendRec_touches ..) rfl h17
    clear_value x18
    refine Touches.ite ?_ ?_
    · exact Touches.step (State.trackCancel_touches ..) rfl h19
    · exact h19

theorem State.closeWins_touches (s : State) (l : List Nat) : Touches 0x40000000000000000000000000000000100001 s (State.closeWins s l) := by
  unfold State.closeWins
  refine Touches.foldl (fun t1 y2 h3 => ?_) ?_
  · split
    · refine Touches.ite ?_ ?_
      · exact Touches.step (State.winFree_touches ..) rfl h3
      · exact h3
    · exact h3
  · exact Touches.refl _ _

theorem State.enterWin_touches (s : State) (slot : Nat) : Touches 0x8070000000040800000000000000000000000000000000000000000000000000000000000000000000000001010070040200000000000000000000000100022180211 s (State.enterWin s slot) := by
  unfold State.enterWin
  split
  · refine Touches.ite ?_ ?_
    · exact Touches.refl _ _
    · extract_lets -merge +onlyGivenNames x1
      clear_value x1
      refine Touches.ite ?_ ?_
      · exact Touches.step (State.winOpenAll_touches ..) rfl (Touches.step (State.setTrk_touches ..) rfl (Touches.refl _ _))
      · exact Touches.step (State.setTrk_touches ..) rfl (Touches.refl _ _)
  · exact Touches.refl _ _

theorem State.closeJudge_touches (s : State) (slot : Nat) (t : Track) : Touches 0x2080700000000408000000202080000000000406c941500000000100200000000000000000000a07f4000000000000000000000000000000048000a80001000260ec255 s (State.closeJudge s slot t) := by
  unfold State.closeJudge
  refine Touches.ite ?_ ?_
  · exact Touches.step (State.giveVerdict_touches ..) rfl (Touches.refl _ _)
  · refine Touches.ite ?_ ?_
    · exact Touches.step (State.giveVerdict_touches ..) rfl (Touches.refl _ _)
    · split
      · exact Touches.step (State.giveVerdict_touches ..) rfl (Touches.refl _ _)
      · exact Touches.step (State.trackReady_touches ..) rfl (Touches.step (State.setTrk_touches ..) rfl (Touches.refl _ _))

theorem State.advance_touches (s : State) (slot : Nat) : Touches 0x2080700000000408000000202080000000000406c941500000000100200000000000000000000a07f4000000000000000400000000000000048000a80001000261ec255 s (State.advance s slot) := by
  unfold State.advance
  split
  · exact Touches.refl _ _
  · extract_lets -merge +onlyGivenNames x1
    clear_value x1
    extract_lets -merge +onlyGivenNames x2
    clear_value x2
    extract_lets -merge +onlyGivenNames x3
    clear_value x3
    extract_lets -merge +onlyGivenNames x4
    have h5 : Touches 0x2080700000000408000000202080000000000406c941500000000100200000000000000000000a07f4000000000000000400000000000000048000a80001000261ec255 s x4 := by
      unfold x4
      refine Touches.ite ?_ ?_
      · exact Touches.step (State.winCloseAll_touches ..) rfl (Touches.refl _ _)
      · exact Touches.refl _ _
    clear_value x4
    extract_lets -merge +onlyGivenNames x6
    have h7 : Touches 0x2080700000000408000000202080000000000406c941500000000100200000000000000000000a07f4000000000000000400000000000000048000a80001000261ec255 s x6 := by
      unfold x6
      refine Touches.ite ?_ ?_
      · refine Touches.ite ?_ ?_
        · exact Touches.step (State.giveVerdict_touches ..) rfl h5
        · exact Touches.step (State.closeJudge_touches ..) rfl h5
      · refine Touches.ite ?_ ?_
        · exact Touches.step (State.giveVerdict_touches ..) rfl h5
        · exact h5
    clear_value x6
    split
    · refine Touches.ite ?_ ?_
      · refine Touches.step (State.winCloseAll_touches ..) rfl ?_
        exact Touches.step (State.trkCount_touches ..) rfl (Touches.setMot h7 rfl)
      · exact h7
    · exact h7

theorem State.openAll_touches (s : State) (l : List Nat) : Touches 0x8070000000040800000000000000000000000000000000000000000000000000000000000000000000000001010070040200000000000000000000000100022180211 s (State.openAll s l) := by
  unfold State.openAll
  extract_lets -merge +onlyGivenNames x1
  have h2 : Touches 0x8070000000040800000000000000000000000000000000000000000000000000000000000000000000000001010070040200000000000000000000000100022180211 s x1 := by unfold x1; exact Touches.step (State.closeWins_touches ..) rfl (Touches.refl _ _)
  clear_value x1
  refine Touches.foldl (fun t3 y4 h5 => ?_) ?_
  · exact Touches.step (State.enterWin_touches ..) rfl h5
  · exact h2

theorem State.advanceAll_touches (s : State) (l : List Nat) (c : Option Nat) : Touches 0x2080700000000408000000202080000000000406c941500000000100200000000000000000000a07f4000000010100700402000000000000048000a80001000261ec255 s (State.advanceAll s l c) := by
  unfold State.advanceAll
  extract_lets -merge +onlyGivenNames x1
  have h2 : Touches 0x2080700000000408000000202080000000000406c941500000000100200000000000000000000a07f4000000010100700402000000000000048000a80001000261ec255 s x1 := by unfold x1; exact Touches.step (State.openAll_touches ..) rfl (Touches.refl _ _)
  clear_value x1
  extract_lets -merge +onlyGivenNames x3
  have h4 : Touches 0x2080700000000408000000202080000000000406c941500000000100200000000000000000000a07f4000000010100700402000000000000048000a80001000261ec255 s x3 := by
    unfold x3
    split
    · exact Touches.step (State.lineTrigAll_touches ..) rfl h2
    · exact h2
  clear_value x3
  refine Touches.foldl (fun t5 y6 h7 => ?_) ?_
  · exact Touches.step (State.advance_touches ..) rfl h7
  · exact h4

theorem State.revCheck_touches (s : State) (c : Nat) : Touches 0x2080700000000408000000202080000000000404c941500000000100200000000000000000000a07f4000000000000000000000000000000048000a80001800260ec255 s (State.revCheck s c) := by
  unfold State.revCheck
  refine Touches.ite ?_ ?_
  · extract_lets -merge +onlyGivenNames x1
    refine Touches.ite ?_ ?_
    · exact Touches.refl _ _
    · refine Touches.foldl (fun t2 y3 h4 => ?_) ?_
      · exact Touches.step (State.giveVerdict_touches ..) rfl h4
      · exact Touches.step (State.trkReport_touches ..) rfl (Touches.refl _ _)
  · exact Touches.refl _ _

theorem State.openTrk_touches (s : State) (g : Nat) (p : Nat) : Touches 0x2080700000000408000000002080000000000006f9595000000000000000000000000000000000000000000000000000000000000000002004800000000f800220e02d5 s (State.openTrk s g p) := by
  unfold State.openTrk
  split
  · exact Touches.refl _ _
  · refine Touches.ite ?_ ?_
    · exact Touches.refl _ _
    · extract_lets -merge +onlyGivenNames x1
      split
      · rename_i x2 x3 e4
        have h5 : Touches 0x2080700000000408000000002080000000000006f9595000000000000000000000000000000000000000000000000000000000000000002004800000000f800220e02d5 s x3 := Touches.of_eq (fun d => d.2) e4 (Touches.step (State.pick_touches ..) rfl (Touches.refl _ _))
        extract_lets -merge +onlyGivenNames x6
        have h7 : Touches 0x2080700000000408000000002080000000000006f9595000000000000000000000000000000000000000000000000000000000000000002004800000000f800220e02d5 s x6 := by
          unfold x6
          refine Touches.step (State.trkReport_touches ..) rfl ?_
          refine Touches.step (State.total_touches ..) rfl ?_
          exact Touches.trans h5 (State.inc_touches _ _ _ rfl 15 rfl grp_MOT_TRK_DROPPED)
        clear_value x6
        clear_value x1
        refine Touches.ite ?_ ?_
        · exact Touches.step (State.lineStop_touches ..) rfl h7
        · exact h7
      · rename_i x8 x9 x10 e11
        have h12 : Touches 0x2080700000000408000000002080000000000006f9595000000000000000000000000000000000000000000000000000000000000000002004800000000f800220e02d5 s x10 := Touches.of_eq (fun d => d.2) e11 (Touches.step (State.pick_touches ..) rfl (Touches.refl _ _))
        extract_lets -merge +onlyGivenNames x13
        clear_value x13
        extract_lets -merge +onlyGivenNames x14
        have h15 : Touches 0x2080700000000408000000002080000000000006f9595000000000000000000000000000000000000000000000000000000000000000002004800000000f800220e02d5 s x14 := by unfold x14; exact Touches.trans h12 (State.setF_touches _ _ _ rfl 16 rfl grp_MOT_TRK_NEXT_SEQ)
        clear_value x14
        extract_lets -merge +onlyGivenNames x16
        clear_value x16
        extract_lets -merge +onlyGivenNames x17
        clear_value x17
        extract_lets -merge +onlyGivenNames x18
        clear_value x18
        extract_lets -merge +onlyGivenNames x19
        have h20 : Touches 0x2080700000000408000000002080000000000006f9595000000000000000000000000000000000000000000000000000000000000000002004800000000f800220e02d5 s x19 := by
          unfold x19
          refine Touches.step (State.wake_touches ..) rfl ?_
          refine Touches.step (State.total_touches ..) rfl ?_
          refine Touches.trans ?_ (State.inc_touches _ _ _ rfl 14 rfl grp_MOT_TRK_OPENED)
          exact Touches.step (State.setTrk_touches ..) rfl h15
        clear_value x19
        exact Touches.step (State.trackSubmit_touches ..) rfl (Touches.step (State.noteConv_touches ..) rfl h20)

theorem State.createEnd_touches (s : State) : Touches 0x2080700000000408000000202080000000000406c941500000000100200000000000000000000a07f4000000010100700402000000000000048000a80001000261ec255 s (State.createEnd s) := by
  unfold State.createEnd
  exact Touches.step (State.advanceAll_touches ..) rfl (Touches.refl _ _)

theorem State.present_touches (s : State) (src : Nat) (pres : Nat) (p : State → GateRec → Nat) : Touches 0x2080700000000408000000202080000000000406f959500000000100200000000000000000000a07f4000000010100700402000000000020048000a8000f800261ec2d5 s (State.present s src pres p) := by
  unfold State.present
  extract_lets -merge +onlyGivenNames x1
  refine Touches.step (State.createEnd_touches ..) rfl ?_
  refine Touches.foldl (fun t2 y3 h4 => ?_) ?_
  · split
    · exact Touches.step (State.openTrk_touches ..) rfl h4
    · exact h4
  · exact Touches.refl _ _

theorem State.declare_touches (s : State) (g : Nat) (p : Nat) : Touches 0x2080700000000408000000202080000000000406f959500000000100200000000000000000000a07f4000000010100700402000000000020048000e8000f800261ec2d5 s (State.declare s g p) := by
  unfold State.declare
  extract_lets -merge +onlyGivenNames x1
  clear_value x1
  refine Touches.ite ?_ ?_
  · refine Touches.step (State.ejAll_touches ..) rfl ?_
    exact Touches.step (State.createEnd_touches ..) rfl (Touches.step (State.openTrk_touches ..) rfl (Touches.refl _ _))
  · exact Touches.step (State.trkReport_touches ..) rfl (Touches.refl _ _)

theorem State.commit_touches (s : State) (slot : Nat) (seq : Nat) (v : Nat) (rule : Nat) : Touches 0x2080700000000408000000202080000000000404c941500000000100200000000000000000000a07f4000000000000000000000000000000048000f80001800260ec255 s (State.commit s slot seq v rule) := by
  unfold State.commit
  refine Touches.ite ?_ ?_
  · exact Touches.step (State.trkReport_touches ..) rfl (Touches.refl _ _)
  · split
    · exact Touches.step (State.trkReport_touches ..) rfl (Touches.refl _ _)
    · refine Touches.ite ?_ ?_
      · exact Touches.step (State.trkReport_touches ..) rfl (Touches.refl _ _)
      · split
        · refine Touches.ite ?_ ?_
          · refine Touches.step (State.ejReport_touches ..) rfl ?_
            exact Touches.step (State.total_touches ..) rfl (State.inc_touches _ _ _ rfl 33 rfl grp_EJ_LATE_ARRIVED)
          · exact Touches.step (State.trkReport_touches ..) rfl (Touches.refl _ _)
        · split
          · exact Touches.step (State.trkReport_touches ..) rfl (Touches.refl _ _)
          · exact Touches.step (State.setTrk_touches ..) rfl (Touches.refl _ _)
        · rename_i x1 e2 e3
          refine Touches.ite ?_ ?_
          · exact Touches.step (State.ejAll_touches ..) rfl (Touches.step (State.giveVerdict_touches ..) rfl (Touches.refl _ _))
          · exact Touches.step (State.ejAll_touches ..) rfl (Touches.step (State.giveVerdict_touches ..) rfl (Touches.refl _ _))

theorem State.schedCommits_touches (s : State) : Touches 0x2080700000000408000000202080000000000404c941500000000100200000000000000000000a07f4000000000000000000000000000000048000f80001800260ec255 s (State.schedCommits s) := by
  unfold State.schedCommits
  extract_lets -merge +onlyGivenNames x1
  refine Touches.foldl (fun t2 y3 h4 => ?_) ?_
  · exact Touches.step (State.commit_touches ..) rfl h4
  · exact Touches.setSched (Touches.refl _ _) rfl

theorem State.evidence_touches (s : State) (c : Nat) (flag : Nat) (p : Track → Bool) : Touches 0x100000080001 s (State.evidence s c flag p) := by
  unfold State.evidence
  refine Touches.foldl (fun t1 y2 h3 => ?_) ?_
  · split
    · refine Touches.ite ?_ ?_
      · exact Touches.step (State.ejSuspect_touches ..) rfl h3
      · exact Touches.step (State.setTrk_touches ..) rfl h3
    · exact h3
  · exact Touches.refl _ _

theorem State.wireEvent_touches (s : State) (c : Nat) : Touches 0x100000080001 s (State.wireEvent s c) := by
  unfold State.wireEvent
  exact Touches.step (State.evidence_touches ..) rfl (Touches.refl _ _)

theorem State.glitchEvent_touches (s : State) (c : Nat) : Touches 0x100000080001 s (State.glitchEvent s c) := by
  unfold State.glitchEvent
  extract_lets -merge +onlyGivenNames x1
  clear_value x1
  extract_lets -merge +onlyGivenNames x2
  clear_value x2
  refine Touches.ite ?_ ?_
  · exact Touches.refl _ _
  · exact Touches.step (State.evidence_touches ..) rfl (Touches.refl _ _)

theorem State.writeGate_touches (s : State) (g : Nat) (v : Nat) : Touches 0x8070000000040800000000000000000000000000000000000000000000000000000000000000000000000000000000000000000000000004000000200080022080211 s (State.writeGate s g v) := by
  unfold State.writeGate
  extract_lets -merge +onlyGivenNames x1
  clear_value x1
  refine Touches.ite ?_ ?_
  · exact Touches.refl _ _
  · refine Touches.ite ?_ ?_
    · exact Touches.step (State.trkReport_touches ..) rfl (Touches.refl _ _)
    · exact State.setB_touches _ _ _ rfl 26 rfl (grp_MOT_GATE_CFG _)

theorem State.writeOffs_touches (s : State) (g : Nat) (which : Nat) (v : Nat) : Touches 0x8070000000040800000000000000000000000000000000000000000000000000000000000000000000000000000000000000000000000004000003800080022080211 s (State.writeOffs s g which v) := by
  unfold State.writeOffs
  extract_lets -merge +onlyGivenNames x1
  clear_value x1
  extract_lets -merge +onlyGivenNames x2
  clear_value x2
  extract_lets -merge +onlyGivenNames x3
  clear_value x3
  extract_lets -merge +onlyGivenNames x4
  clear_value x4
  refine Touches.ite ?_ ?_
  · exact Touches.step (State.trkReport_touches ..) rfl (Touches.refl _ _)
  · refine Touches.trans ?_ (State.setF_touches _ _ _ rfl 30 rfl (grp_MOT_GATE_MARGIN _))
    refine Touches.trans ?_ (State.setF_touches _ _ _ rfl 29 rfl (grp_MOT_GATE_FIRE _))
    exact State.setF_touches _ _ _ rfl 28 rfl (grp_MOT_GATE_WIN _)

theorem State.writeTrkCfg_touches (s : State) (v : Nat) : Touches 0x2000080001 s (State.writeTrkCfg s v) := by
  unfold State.writeTrkCfg
  extract_lets -merge +onlyGivenNames x1
  clear_value x1
  extract_lets -merge +onlyGivenNames x2
  clear_value x2
  extract_lets -merge +onlyGivenNames x3
  have h4 : Touches 0x2000080001 s x3 := by unfold x3; exact State.wr_touches _ _ _ rfl 6 rfl grp_MOT_TRK_CFG
  clear_value x3
  extract_lets -merge +onlyGivenNames x5
  have h6 : Touches 0x2000080001 s x5 := by
    unfold x5
    refine Touches.ite ?_ ?_
    · exact Touches.trans h4 (State.setF_touches _ _ _ rfl 6 rfl grp_MOT_TRK_CFG)
    · exact h4
  clear_value x5
  refine Touches.ite ?_ ?_
  · exact Touches.setMot h6 rfl
  · exact h6

theorem State.convTick_touches (s : State) : Touches 0x8070000000040800000000000000000000000000000000000000000000000000000000000000000000000000000000000000000000000004000000000180022080211 s (State.convTick s) := by
  unfold State.convTick
  split
  · exact Touches.refl _ _
  · extract_lets -merge +onlyGivenNames x1
    clear_value x1
    refine Touches.ite ?_ ?_
    · refine Touches.foldl (fun t2 y3 h4 => ?_) ?_
      · exact Touches.step (State.convertChan_touches ..) rfl h4
      · exact Touches.setMot (Touches.refl _ _) rfl
    · exact Touches.refl _ _

theorem State.deadlineUpdate_touches (s : State) : Touches 0xa0000 s (State.deadlineUpdate s) := by
  unfold State.deadlineUpdate
  split
  · exact Touches.refl _ _
  · exact Touches.step (State.trackDeadline_touches ..) rfl (Touches.setMot (Touches.refl _ _) rfl)

theorem State.unitPair_touches (s : State) (m : Sparse Nat) (off : Nat) (v : Nat) : Touches 0x2080700000000408000000202080000000000406f959500000000100200000000000000000000b07f4000000010100700402000000000020048000f8000f800261ec2d5 s (State.unitPair s m off v).2 := by
  unfold State.unitPair
  extract_lets -merge +onlyGivenNames x1
  clear_value x1
  extract_lets -merge +onlyGivenNames x2
  clear_value x2
  refine Touches.ite2 ?_ ?_
  · refine Touches.ite2 ?_ ?_
    · exact Touches.pair2 (Touches.step (State.declare_touches ..) rfl (Touches.refl _ _))
    · exact Touches.pair2 (Touches.refl _ _)
  · refine Touches.ite2 ?_ ?_
    · exact Touches.pair2 (Touches.step (State.commit_touches ..) rfl (Touches.refl _ _))
    · refine Touches.ite2 ?_ ?_
      · refine Touches.ite2 ?_ ?_
        · exact Touches.pair2 (Touches.step (State.armManual_touches ..) rfl (Touches.refl _ _))
        · exact Touches.pair2 (Touches.refl _ _)
      · exact Touches.pair2 (Touches.refl _ _)

theorem State.unitPairs_touches (s : State) (m : Sparse Nat) (a2 : List Nat) : Touches 0x2080700000000408000000202080000000000406f959500000000100200000000000000000000b07f4000000010100700402000000000020048000f8000f800261ec2d5 s (State.unitPairs s m a2) := by
  fun_induction State.unitPairs s m a2
  · rename_i x1 x2 x3 x4 x5 x6 e7
    have h8 : Touches 0x2080700000000408000000202080000000000406f959500000000100200000000000000000000b07f4000000010100700402000000000020048000f8000f800261ec2d5 x1 x6.2 := by unfold x6; exact Touches.step (State.unitPair_touches ..) rfl (Touches.refl _ _)
    exact Touches.trans h8 e7
  · rename_i x9 x10 x11 e12
    exact Touches.refl _ _

theorem State.unitMessage_touches (s : State) (words : List Nat) : Touches 0x2080700000000408000000202080000000000406f959500000000100200000000000000000000b07f4000000010100700402000000000020048000f8000f800261ec2d5 s (State.unitMessage s words) := by
  unfold State.unitMessage
  split
  rename_i x1 x2 x3 e4
  have h5 : Touches 0x2080700000000408000000202080000000000406f959500000000100200000000000000000000b07f4000000010100700402000000000020048000f8000f800261ec2d5 s x3 := Touches.of_eq (fun d => d.2) e4 (Touches.step (State.freshList_touches ..) rfl (Touches.refl _ _))
  extract_lets -merge +onlyGivenNames x6
  clear_value x6
  exact Touches.step (State.unitPairs_touches ..) rfl h5

end Sys2Proof.Machine
end

