-- ==== Sys2Proof/Laws/FrameCamLink.lean ====
section
/-! SUPPORT. What each operation of Machine/CamLink.lean can do: the parts of the state it touches (Touches). -/

-- One declaration at a time: many proofs at once would each hold a thread with a large stack.
set_option Elab.async false

namespace Sys2Proof.Machine

theorem State.portGo_touches (s : State) (p : Nat) (st : Nat) : Touches 0x200000000000000000000000000000100001 s (State.portGo s p st) := by
  unfold State.portGo
  refine Touches.trans ?_ (State.setF_touches _ _ _ rfl 110 rfl (grp_CXP_PORT_STATUS _))
  exact Touches.step (State.setPort_touches ..) rfl (Touches.refl _ _)

theorem State.portDiscover_touches (s : State) (p : Nat) : Touches 0x4000000000000000000000000000000000200000000000000000000000000000300001 s (State.portDiscover s p) := by
  unfold State.portDiscover
  extract_lets -merge +onlyGivenNames x1
  have h2 : Touches 0x4000000000000000000000000000000000200000000000000000000000000000300001 s x1 := by
    unfold x1
    refine Touches.ite ?_ ?_
    · exact Touches.refl _ _
    · exact Touches.step (State.synthRate_touches ..) rfl (Touches.refl _ _)
  clear_value x1
  extract_lets -merge +onlyGivenNames x3
  clear_value x3
  extract_lets -merge +onlyGivenNames x4
  have h5 : Touches 0x4000000000000000000000000000000000200000000000000000000000000000300001 s x4 := by unfold x4; exact Touches.step (State.setPort_touches ..) rfl h2
  clear_value x4
  refine Touches.step (State.portGo_touches ..) rfl ?_
  exact Touches.trans h5 (State.setF_touches _ _ _ rfl 110 rfl (grp_CXP_PORT_STATUS _))

theorem State.imgCut_touches (s : State) (p : Nat) : Touches 0x100000 s (State.imgCut s p) := by
  unfold State.imgCut
  extract_lets -merge +onlyGivenNames x1
  clear_value x1
  extract_lets -merge +onlyGivenNames x2
  have h3 : Touches 0x100000 s x2 := by unfold x2; exact Touches.step (State.setPort_touches ..) rfl (Touches.refl _ _)
  clear_value x2
  split
  · exact h3
  · split
    · refine Touches.ite ?_ ?_
      · exact h3
      · extract_lets -merge +onlyGivenNames x4
        clear_value x4
        exact Touches.step (State.setPipe_touches ..) rfl h3
    · rename_i x5 x6 e7
      exact h3

theorem State.imgEnd_touches (s : State) (p : Nat) : Touches 0x8070000000040800000000000000000000000000000000000000000000000000000000000000000000000000000000000200000000000000000000000000022100211 s (State.imgEnd s p) := by
  unfold State.imgEnd
  split
  · exact Touches.refl _ _
  · extract_lets -merge +onlyGivenNames x1
    have h2 : Touches 0x8070000000040800000000000000000000000000000000000000000000000000000000000000000000000000000000000200000000000000000000000000022100211 s x1 := by
      unfold x1
      refine Touches.ite ?_ ?_
      · exact Touches.step (State.camReport_touches ..) rfl (Touches.refl _ _)
      · exact Touches.refl _ _
    clear_value x1
    extract_lets -merge +onlyGivenNames x3
    have h4 : Touches 0x8070000000040800000000000000000000000000000000000000000000000000000000000000000000000000000000000200000000000000000000000000022100211 s x3 := by
      unfold x3
      refine Touches.ite ?_ ?_
      · exact Touches.step (State.camReport_touches ..) rfl h2
      · exact h2
    clear_value x3
    extract_lets -merge +onlyGivenNames x5
    have h6 : Touches 0x8070000000040800000000000000000000000000000000000000000000000000000000000000000000000000000000000200000000000000000000000000022100211 s x5 := by unfold x5; exact Touches.step (State.imgCut_touches ..) rfl h4
    clear_value x5
    exact Touches.step (State.setPort_touches ..) rfl h6

theorem State.portClear_touches (s : State) (p : Nat) : Touches 0x8070000000040800000000000000000000000000000000000000000000000000000000000000000000000000000010000200000000000000000000000000022180211 s (State.portClear s p) := by
  unfold State.portClear
  refine Touches.step (State.retireWaits_touches ..) rfl ?_
  exact Touches.step (State.retireOut_touches ..) rfl (Touches.step (State.imgEnd_touches ..) rfl (Touches.refl _ _))

theorem State.portDown_touches (s : State) (p : Nat) (sts : Nat) (detail : Nat) : Touches 0x8070000000040800000000000000000000000000000000000000000000000000000000000000000000000000000010000200000000000000000000000000022180211 s (State.portDown s p sts detail) := by
  unfold State.portDown
  refine Touches.step (State.camReport_touches ..) rfl ?_
  refine Touches.trans ?_ (State.setF_touches _ _ _ rfl 110 rfl (grp_CXP_PORT_STATUS _))
  refine Touches.trans ?_ (State.setF_touches _ _ _ rfl 110 rfl (grp_CXP_PORT_STATUS _))
  exact Touches.step (State.portGo_touches ..) rfl (Touches.step (State.portClear_touches ..) rfl (Touches.refl _ _))

theorem State.portResync_touches (s : State) (p : Nat) : Touches 0x10000200000000000000000000000000000180001 s (State.portResync s p) := by
  unfold State.portResync
  extract_lets -merge +onlyGivenNames x1
  have h2 : Touches 0x10000200000000000000000000000000000180001 s x1 := by unfold x1; exact Touches.step (State.imgCut_touches ..) rfl (Touches.refl _ _)
  clear_value x1
  extract_lets -merge +onlyGivenNames x3
  clear_value x3
  extract_lets -merge +onlyGivenNames x4
  have h5 : Touches 0x10000200000000000000000000000000000180001 s x4 := by unfold x4; exact Touches.step (State.setPort_touches ..) rfl h2
  clear_value x4
  refine Touches.step (State.portGo_touches ..) rfl ?_
  exact Touches.step (State.retireWaits_touches ..) rfl (Touches.step (State.retireOut_touches ..) rfl h5)

theorem State.writePortCfg_touches (s : State) (p : Nat) (v : Nat) : Touches 0x8070000000040800000000000000000000000000000000000000000000000004000000000000000000000000000010000300000000000000000000000000022380211 s (State.writePortCfg s p v) := by
  unfold State.writePortCfg
  extract_lets -merge +onlyGivenNames x1
  clear_value x1
  extract_lets -merge +onlyGivenNames x2
  clear_value x2
  extract_lets -merge +onlyGivenNames x3
  clear_value x3
  extract_lets -merge +onlyGivenNames x4
  clear_value x4
  extract_lets -merge +onlyGivenNames x5
  have h6 : Touches 0x8070000000040800000000000000000000000000000000000000000000000004000000000000000000000000000010000300000000000000000000000000022380211 s x5 := by
    unfold x5
    refine Touches.trans ?_ (State.setF_touches _ _ _ rfl 109 rfl (grp_CXP_PORT_CFG _))
    exact State.setF_touches _ _ _ rfl 109 rfl (grp_CXP_PORT_CFG _)
  clear_value x5
  refine Touches.ite ?_ ?_
  · refine Touches.step (State.camReport_touches ..) rfl ?_
    exact Touches.trans h6 (State.setB_touches _ _ _ rfl 109 rfl (grp_CXP_PORT_CFG _))
  · extract_lets -merge +onlyGivenNames x7
    have h8 : Touches 0x8070000000040800000000000000000000000000000000000000000000000004000000000000000000000000000010000300000000000000000000000000022380211 s x7 := by unfold x7; exact Touches.trans h6 (State.setB_touches _ _ _ rfl 109 rfl (grp_CXP_PORT_CFG _))
    clear_value x7
    refine Touches.ite ?_ ?_
    · exact Touches.step (State.portOwns_touches ..) rfl (Touches.step (State.portGo_touches ..) rfl h8)
    · refine Touches.ite ?_ ?_
      · extract_lets -merge +onlyGivenNames x9
        have h10 : Touches 0x8070000000040800000000000000000000000000000000000000000000000004000000000000000000000000000010000300000000000000000000000000022380211 s x9 := by
          unfold x9
          refine Touches.ite ?_ ?_
          · exact Touches.step (State.portOwns_touches ..) rfl h8
          · exact h8
        clear_value x9
        refine Touches.trans ?_ (State.setF_touches _ _ _ rfl 110 rfl (grp_CXP_PORT_STATUS _))
        refine Touches.trans ?_ (State.setF_touches _ _ _ rfl 110 rfl (grp_CXP_PORT_STATUS _))
        exact Touches.step (State.portGo_touches ..) rfl (Touches.step (State.portClear_touches ..) rfl h10)
      · exact h8

theorem State.portConfig_touches (s : State) (p : Nat) : Touches 0x200000000000000000000000000020100001 s (State.portConfig s p) := by
  unfold State.portConfig
  exact Touches.step (State.emit_touches ..) rfl (Touches.step (State.portGo_touches ..) rfl (Touches.refl _ _))

theorem State.portUp_touches (s : State) (p : Nat) : Touches 0x200000000000000000000000000000100001 s (State.portUp s p) := by
  unfold State.portUp
  extract_lets -merge +onlyGivenNames x1
  clear_value x1
  extract_lets -merge +onlyGivenNames x2
  have h3 : Touches 0x200000000000000000000000000000100001 s x2 := by unfold x2; exact Touches.step (State.setPort_touches ..) rfl (Touches.refl _ _)
  clear_value x2
  refine Touches.trans ?_ (State.setF_touches _ _ _ rfl 110 rfl (grp_CXP_PORT_STATUS _))
  refine Touches.trans ?_ (State.setF_touches _ _ _ rfl 110 rfl (grp_CXP_PORT_STATUS _))
  exact Touches.step (State.portGo_touches ..) rfl h3

theorem State.ctrlStart_touches (s : State) (p : Nat) (v : Nat) : Touches 0x6000000000000000000000000000000000020100001 s (State.ctrlStart s p v) := by
  unfold State.ctrlStart
  extract_lets -merge +onlyGivenNames x1
  have h2 : Touches 0x6000000000000000000000000000000000020100001 s x1 := by unfold x1; exact State.wr_touches _ _ _ rfl 138 rfl (grp_CXP_CTRL_CMD _)
  clear_value x1
  refine Touches.ite ?_ ?_
  · exact h2
  · refine Touches.ite ?_ ?_
    · exact Touches.trans h2 (State.setB_touches _ _ _ rfl 139 rfl (grp_CXP_CTRL_STATUS _))
    · extract_lets -merge +onlyGivenNames x3
      clear_value x3
      extract_lets -merge +onlyGivenNames x4
      have h5 : Touches 0x6000000000000000000000000000000000020100001 s x4 := by
        unfold x4
        refine Touches.trans ?_ (State.setB_touches _ _ _ rfl 139 rfl (grp_CXP_CTRL_STATUS _))
        refine Touches.trans ?_ (State.setB_touches _ _ _ rfl 139 rfl (grp_CXP_CTRL_STATUS _))
        exact Touches.trans h2 (State.setB_touches _ _ _ rfl 139 rfl (grp_CXP_CTRL_STATUS _))
      clear_value x4
      exact Touches.step (State.emit_touches ..) rfl (Touches.step (State.setPort_touches ..) rfl h5)

theorem State.ctrlAck_touches (s : State) (p : Nat) (code : Nat) (neg : Bool) (data : Nat) (bad : Bool) : Touches 0x8070000000040800000000000000000000000000000000000000000000000000000000000000000000000000005000000200000000000000000000000000022000211 s (State.ctrlAck s p code neg data bad) := by
  unfold State.ctrlAck
  refine Touches.ite ?_ ?_
  · exact Touches.refl _ _
  · extract_lets -merge +onlyGivenNames x1
    have h2 : Touches 0x8070000000040800000000000000000000000000000000000000000000000000000000000000000000000000005000000200000000000000000000000000022000211 s x1 := by unfold x1; exact State.setB_touches _ _ _ rfl 139 rfl (grp_CXP_CTRL_STATUS _)
    clear_value x1
    refine Touches.ite ?_ ?_
    · exact Touches.trans h2 (State.setB_touches _ _ _ rfl 139 rfl (grp_CXP_CTRL_STATUS _))
    · extract_lets -merge +onlyGivenNames x3
      have h4 : Touches 0x8070000000040800000000000000000000000000000000000000000000000000000000000000000000000000005000000200000000000000000000000000022000211 s x3 := by unfold x3; exact Touches.trans h2 (State.setF_touches _ _ _ rfl 139 rfl (grp_CXP_CTRL_STATUS _))
      clear_value x3
      refine Touches.ite ?_ ?_
      · refine Touches.step (State.camReport_touches ..) rfl ?_
        exact Touches.trans h4 (State.setB_touches _ _ _ rfl 139 rfl (grp_CXP_CTRL_STATUS _))
      · refine Touches.ite ?_ ?_
        · exact h4
        · exact Touches.trans h4 (State.setF_touches _ _ _ rfl 137 rfl (grp_CXP_CTRL_DATA _))

theorem State.ctrlLate_touches (s : State) (p : Nat) : Touches 0x8070000000040800000000000000000000000000000000000000000000000000000000000000000000000000004000000200000000000000000000000000022000211 s (State.ctrlLate s p) := by
  unfold State.ctrlLate
  refine Touches.ite ?_ ?_
  · refine Touches.step (State.camReport_touches ..) rfl ?_
    refine Touches.trans ?_ (State.setB_touches _ _ _ rfl 139 rfl (grp_CXP_CTRL_STATUS _))
    exact State.setB_touches _ _ _ rfl 139 rfl (grp_CXP_CTRL_STATUS _)
  · exact Touches.refl _ _

theorem State.writeTrig_touches (s : State) (p : Nat) (v : Nat) : Touches 0x8070000000040800000000000000000000000000000000000000000000000000000000000000000000000000000010000a00000000000000000000000000022180211 s (State.writeTrig s p v) := by
  unfold State.writeTrig
  extract_lets -merge +onlyGivenNames x1
  clear_value x1
  extract_lets -merge +onlyGivenNames x2
  clear_value x2
  extract_lets -merge +onlyGivenNames x3
  clear_value x3
  extract_lets -merge +onlyGivenNames x4
  clear_value x4
  extract_lets -merge +onlyGivenNames x5
  clear_value x5
  extract_lets -merge +onlyGivenNames x6
  clear_value x6
  extract_lets -merge +onlyGivenNames x7
  clear_value x7
  extract_lets -merge +onlyGivenNames x8
  clear_value x8
  extract_lets -merge +onlyGivenNames x9
  have h10 : Touches 0x8070000000040800000000000000000000000000000000000000000000000000000000000000000000000000000010000a00000000000000000000000000022180211 s x9 := by
    unfold x9
    refine Touches.ite ?_ ?_
    · exact Touches.step (State.retireWaits_touches ..) rfl (Touches.refl _ _)
    · exact Touches.refl _ _
  clear_value x9
  extract_lets -merge +onlyGivenNames x11
  have h12 : Touches 0x8070000000040800000000000000000000000000000000000000000000000000000000000000000000000000000010000a00000000000000000000000000022180211 s x11 := by unfold x11; exact Touches.trans h10 (State.wr_touches _ _ _ rfl 112 rfl (grp_CXP_TRIG_CFG _))
  clear_value x11
  extract_lets -merge +onlyGivenNames x13
  have h14 : Touches 0x8070000000040800000000000000000000000000000000000000000000000000000000000000000000000000000010000a00000000000000000000000000022180211 s x13 := by
    unfold x13
    refine Touches.trans ?_ (State.setF_touches _ _ _ rfl 112 rfl (grp_CXP_TRIG_CFG _))
    refine Touches.trans ?_ (State.setF_touches _ _ _ rfl 112 rfl (grp_CXP_TRIG_CFG _))
    exact Touches.trans h12 (State.setF_touches _ _ _ rfl 112 rfl (grp_CXP_TRIG_CFG _))
  clear_value x13
  extract_lets -merge +onlyGivenNames x15
  clear_value x15
  extract_lets -merge +onlyGivenNames x16
  have h17 : Touches 0x8070000000040800000000000000000000000000000000000000000000000000000000000000000000000000000010000a00000000000000000000000000022180211 s x16 := by
    unfold x16
    refine Touches.ite ?_ ?_
    · exact Touches.step (State.setPort_touches ..) rfl h14
    · exact h14
  clear_value x16
  extract_lets -merge +onlyGivenNames x18
  clear_value x18
  extract_lets -merge +onlyGivenNames x19
  have h20 : Touches 0x8070000000040800000000000000000000000000000000000000000000000000000000000000000000000000000010000a00000000000000000000000000022180211 s x19 := by
    unfold x19
    refine Touches.ite ?_ ?_
    · exact Touches.step (State.setPort_touches ..) rfl h17
    · exact h17
  clear_value x19
  refine Touches.ite ?_ ?_
  · exact Touches.step (State.camReport_touches ..) rfl h20
  · exact h20

theorem State.phaseMoved_touches (s : State) (p : Nat) : Touches 0x100000 s (State.phaseMoved s p) := by
  unfold State.phaseMoved
  refine Touches.ite ?_ ?_
  · exact Touches.step (State.setPort_touches ..) rfl (Touches.refl _ _)
  · exact Touches.refl _ _

theorem State.frameTime_touches (s : State) (p : Nat) : Touches 0x8070000000040800000000000000000000000000000000000000000000000000000000000000000000000000000050000200000000000000000000000000022180211 s (State.frameTime s p) := by
  unfold State.frameTime
  refine Touches.ite ?_ ?_
  · exact Touches.step (State.trigDue_touches ..) rfl (Touches.step (State.setPort_touches ..) rfl (Touches.refl _ _))
  · exact Touches.refl _ _

theorem State.softTrig_touches (s : State) (p : Nat) (v : Nat) : Touches 0x8070000000040800000000000000000000000000000000000000000000000000000000000000000000000000000050000200000000000000000000000000022180211 s (State.softTrig s p v) := by
  unfold State.softTrig
  refine Touches.ite ?_ ?_
  · exact Touches.step (State.trigDue_touches ..) rfl (Touches.refl _ _)
  · exact Touches.refl _ _

theorem State.fbRegs_touches (s : State) (p : Nat) : Touches 0x10000100000000000000000000000000000000000001 s (State.fbRegs s p) := by
  unfold State.fbRegs
  extract_lets -merge +onlyGivenNames x1
  have h2 : Touches 0x10000100000000000000000000000000000000000001 s x1 := by unfold x1; exact State.setF_touches _ _ _ rfl 121 rfl (grp_CXP_FB_STATUS _)
  clear_value x1
  refine Touches.foldl (fun t3 y4 h5 => ?_) ?_
  · exact Touches.trans h5 (State.setF_touches _ _ _ rfl 141 rfl (grp_ISP_PIPE_STATUS _))
  · exact h2

theorem State.rebindSplit_touches (s : State) (p : Nat) (old : Nat) : Touches 0x8070000000040800000000000000000000000000000000000000000000000000000000000000000000000000000000000200000000000000000000000000022180211 s (State.rebindSplit s p old) := by
  unfold State.rebindSplit
  extract_lets -merge +onlyGivenNames x1
  clear_value x1
  extract_lets -merge +onlyGivenNames x2
  extract_lets -merge +onlyGivenNames x3
  have h4 : Touches 0x8070000000040800000000000000000000000000000000000000000000000000000000000000000000000000000000000200000000000000000000000000022180211 s x3 := by unfold x3; exact Touches.step (State.setPipe_touches ..) rfl (Touches.refl _ _)
  clear_value x3
  clear_value x2
  refine Touches.foldl (fun t5 y6 h7 => ?_) ?_
  · exact Touches.step (State.camReport_touches ..) rfl (Touches.step (State.camSend_touches ..) rfl h7)
  · exact h4

theorem State.rebindSwitch_touches (s : State) (p : Nat) : Touches 0x8070000000040800000000000000000000000000000000000000000000000000000000000000000000000000010000000600000000000000000000000000022180211 s (State.rebindSwitch s p) := by
  unfold State.rebindSwitch
  split
  · exact Touches.refl _ _
  · extract_lets -merge +onlyGivenNames x1
    clear_value x1
    extract_lets -merge +onlyGivenNames x2
    clear_value x2
    extract_lets -merge +onlyGivenNames x3
    have h4 : Touches 0x8070000000040800000000000000000000000000000000000000000000000000000000000000000000000000010000000600000000000000000000000000022180211 s x3 := by unfold x3; exact Touches.step (State.setPort_touches ..) rfl (Touches.refl _ _)
    clear_value x3
    extract_lets -merge +onlyGivenNames x5
    have h6 : Touches 0x8070000000040800000000000000000000000000000000000000000000000000000000000000000000000000010000000600000000000000000000000000022180211 s x5 := by
      unfold x5
      refine Touches.trans ?_ (State.setB_touches _ _ _ rfl 111 rfl (grp_CXP_BIND _))
      exact Touches.trans h4 (State.setF_touches _ _ _ rfl 111 rfl (grp_CXP_BIND _))
    clear_value x5
    extract_lets -merge +onlyGivenNames x7
    clear_value x7
    extract_lets -merge +onlyGivenNames x8
    have h9 : Touches 0x8070000000040800000000000000000000000000000000000000000000000000000000000000000000000000010000000600000000000000000000000000022180211 s x8 := by
      unfold x8
      refine Touches.ite ?_ ?_
      · refine Touches.trans ?_ (State.setF_touches _ _ _ rfl 141 rfl (grp_ISP_PIPE_STATUS _))
        exact Touches.trans h6 (State.setF_touches _ _ _ rfl 141 rfl (grp_ISP_PIPE_STATUS _))
      · exact h6
    clear_value x8
    refine Touches.step (State.rebindSplit_touches ..) rfl ?_
    refine Touches.ite ?_ ?_
    · exact Touches.step (State.pipeLeave_touches ..) rfl h9
    · exact h9

theorem State.wholeStart_touches (s : State) (p : Nat) (k : Nat) (seq : Nat) (tm : Bool) : Touches 0x8070000000040800000000000000000000000000000000000000000000000000000000000000000000000001010000000000000000000000000000000000022180211 s (State.wholeStart s p k seq tm) := by
  unfold State.wholeStart
  refine Touches.ite ?_ ?_
  · exact Touches.step (State.partStart_touches ..) rfl (Touches.refl _ _)
  · exact Touches.refl _ _

theorem State.putImg_touches (s : State) (p : Nat) (g : RxImg) : Touches 0x100000 s (State.putImg s p g) := by
  unfold State.putImg
  exact Touches.step (State.setPort_touches ..) rfl (Touches.refl _ _)

theorem State.dropFrame_touches (s : State) (p : Nat) : Touches 0x10000000000000000000000000000000000180001 s (State.dropFrame s p) := by
  unfold State.dropFrame
  extract_lets -merge +onlyGivenNames x1
  clear_value x1
  refine Touches.ite ?_ ?_
  · exact Touches.refl _ _
  · split
    · exact Touches.step (State.retire_touches ..) rfl (Touches.step (State.setPort_touches ..) rfl (Touches.refl _ _))
    · exact Touches.refl _ _

theorem State.dropEmpty_touches (s : State) (p : Nat) (h : ImgHead) : Touches 0x10000000000000000000000000000000000180001 s (State.dropEmpty s p h) := by
  unfold State.dropEmpty
  extract_lets -merge +onlyGivenNames x1
  clear_value x1
  refine Touches.ite ?_ ?_
  · refine Touches.foldl (fun t2 y3 h4 => ?_) ?_
    · refine Touches.ite ?_ ?_
      · exact Touches.step (State.voidIn_touches ..) rfl h4
      · exact Touches.step (State.retire_touches ..) rfl h4
    · exact Touches.step (State.setPort_touches ..) rfl (Touches.refl _ _)
  · exact Touches.refl _ _

theorem State.imgTake_touches (s : State) (p : Nat) (g : RxImg) : Touches 0x1200000000000000000000000000000000100001 s (State.imgTake s p g) := by
  unfold State.imgTake
  extract_lets -merge +onlyGivenNames x1
  have h2 : Touches 0x1200000000000000000000000000000000100001 s x1 := by
    unfold x1
    refine Touches.trans ?_ (State.setF_touches _ _ _ rfl 122 rfl (grp_CXP_HDR_SIZE _))
    exact State.setF_touches _ _ _ rfl 122 rfl (grp_CXP_HDR_SIZE _)
  clear_value x1
  refine Touches.step (State.putImg_touches ..) rfl ?_
  refine Touches.step (State.setPort_touches ..) rfl ?_
  exact Touches.trans h2 (State.inc_touches _ _ _ rfl 125 rfl (grp_CXP_CNT_FRAMES _))

theorem State.framePair_touches (s : State) (p : Nat) (g : RxImg) (t : Trig) : Touches 0x807000000004080101000000000000000000000000000001c080000000000000000000000000000000000001010011200200000000000000000000000000026180617 s (State.framePair s p g t) := by
  unfold State.framePair
  extract_lets -merge +onlyGivenNames x1
  clear_value x1
  extract_lets -merge +onlyGivenNames x2
  clear_value x2
  extract_lets -merge +onlyGivenNames x3
  clear_value x3
  extract_lets -merge +onlyGivenNames x4
  refine Touches.ite ?_ ?_
  · refine Touches.step (State.imgTake_touches ..) rfl ?_
    unfold x4
    exact Touches.step (State.setPort_touches ..) rfl (Touches.refl _ _)
  · refine Touches.ite ?_ ?_
    · exact Touches.step (State.putImg_touches ..) rfl (Touches.step (State.dropFrame_touches ..) rfl (Touches.refl _ _))
    · refine Touches.ite ?_ ?_
      · refine Touches.step (State.imgTake_touches ..) rfl ?_
        refine Touches.step (State.wholeStart_touches ..) rfl ?_
        unfold x4
        exact Touches.step (State.setPort_touches ..) rfl (Touches.refl _ _)
      · extract_lets -merge +onlyGivenNames x5
        split
        · rename_i x6 x7 e8
          have h9 : Touches 0x807000000004080101000000000000000000000000000001c080000000000000000000000000000000000001010011200200000000000000000000000000026180617 s x7 := Touches.of_eq (fun d => d.2) e8 (Touches.step (State.pick_touches ..) rfl (Touches.refl _ _))
          refine Touches.step (State.putImg_touches ..) rfl ?_
          exact Touches.step (State.camReport_touches ..) rfl (Touches.step (State.dropFrame_touches ..) rfl h9)
        · rename_i x10 x11 x12 e13
          have h14 : Touches 0x807000000004080101000000000000000000000000000001c080000000000000000000000000000000000001010011200200000000000000000000000000026180617 s x12 := Touches.of_eq (fun d => d.2) e13 (Touches.step (State.pick_touches ..) rfl (Touches.refl _ _))
          split
          rename_i x15 x16 x17 e18
          have h19 : Touches 0x807000000004080101000000000000000000000000000001c080000000000000000000000000000000000001010011200200000000000000000000000000026180617 s x17 := Touches.of_eq (fun d => d.2) e18 (Touches.step (State.freshList_touches ..) rfl h14)
          split
          split
          rename_i x20 x21 x22 e23
          have h24 : Touches 0x807000000004080101000000000000000000000000000001c080000000000000000000000000000000000001010011200200000000000000000000000000026180617 s x22 := Touches.of_eq (fun d => d.2) e23 (Touches.step (State.vwrite_touches ..) rfl h19)
          extract_lets -merge +onlyGivenNames x25
          clear_value x25
          extract_lets -merge +onlyGivenNames x26
          clear_value x26
          extract_lets -merge +onlyGivenNames x27
          have h28 : Touches 0x807000000004080101000000000000000000000000000001c080000000000000000000000000000000000001010011200200000000000000000000000000026180617 s x27 := by unfold x27; exact Touches.step (State.setPort_touches ..) rfl h24
          clear_value x27
          clear_value x5
          refine Touches.step (State.imgTake_touches ..) rfl ?_
          unfold x4
          exact Touches.step (State.setPort_touches ..) rfl h28

theorem State.header_touches (s : State) (p : Nat) (h : ImgHead) (bad : Bool) : Touches 0x807000000004080101000000000000000000000000000001c080000000000000000000000000000000000001010011600600000000000000000000000000026180617 s (State.header s p h bad) := by
  unfold State.header
  extract_lets -merge +onlyGivenNames x1
  have h2 : Touches 0x807000000004080101000000000000000000000000000001c080000000000000000000000000000000000001010011600600000000000000000000000000026180617 s x1 := by unfold x1; exact Touches.step (State.rebindSwitch_touches ..) rfl (Touches.step (State.imgEnd_touches ..) rfl (Touches.refl _ _))
  clear_value x1
  extract_lets -merge +onlyGivenNames x3
  clear_value x3
  extract_lets -merge +onlyGivenNames x4
  have h5 : Touches 0x807000000004080101000000000000000000000000000001c080000000000000000000000000000000000001010011600600000000000000000000000000026180617 s x4 := by unfold x4; exact Touches.step (State.setPort_touches ..) rfl h2
  clear_value x4
  extract_lets -merge +onlyGivenNames x6
  have h7 : Touches 0x807000000004080101000000000000000000000000000001c080000000000000000000000000000000000001010011600600000000000000000000000000026180617 s x6 := by
    unfold x6
    refine Touches.ite ?_ ?_
    · exact h5
    · exact Touches.trans h5 (State.setF_touches _ _ _ rfl 123 rfl (grp_CXP_HDR_FMT _))
  clear_value x6
  extract_lets -merge +onlyGivenNames x8
  clear_value x8
  extract_lets -merge +onlyGivenNames x9
  clear_value x9
  refine Touches.ite ?_ ?_
  · exact Touches.step (State.putImg_touches ..) rfl h7
  · refine Touches.ite ?_ ?_
    · exact Touches.step (State.putImg_touches ..) rfl (Touches.step (State.dropFrame_touches ..) rfl h7)
    · split
      · refine Touches.step (State.putImg_touches ..) rfl ?_
        refine Touches.step (State.camReport_touches ..) rfl ?_
        exact Touches.step (State.dropEmpty_touches ..) rfl (Touches.step (State.dropFrame_touches ..) rfl h7)
      · refine Touches.ite ?_ ?_
        · exact Touches.step (State.putImg_touches ..) rfl h7
        · refine Touches.ite ?_ ?_
          · exact Touches.step (State.imgTake_touches ..) rfl h7
          · split
            · exact Touches.step (State.putImg_touches ..) rfl h7
            · exact Touches.step (State.framePair_touches ..) rfl h7

theorem State.linePaired_touches (s : State) (p : Nat) (t : Trig) (bad : Bool) : Touches 0x8800000000000000000000000000000000180001 s (State.linePaired s p t bad) := by
  unfold State.linePaired
  extract_lets -merge +onlyGivenNames x1
  have h2 : Touches 0x8800000000000000000000000000000000180001 s x1 := by unfold x1; exact State.inc_touches _ _ _ rfl 124 rfl (grp_CXP_CNT_LINES _)
  clear_value x1
  refine Touches.ite ?_ ?_
  · refine Touches.step (State.camSend_touches ..) rfl ?_
    exact Touches.trans h2 (State.inc_touches _ _ _ rfl 128 rfl (grp_CXP_CNT_MARKED _))
  · exact h2

theorem State.frameLost_touches (s : State) (p : Nat) (t : Trig) : Touches 0x10000000000000000000000000000000000180001 s (State.frameLost s p t) := by
  unfold State.frameLost
  extract_lets -merge +onlyGivenNames x1
  clear_value x1
  refine Touches.ite ?_ ?_
  · exact Touches.step (State.undeliv_touches ..) rfl (Touches.step (State.setPort_touches ..) rfl (Touches.refl _ _))
  · exact Touches.refl _ _

theorem State.pipeIn_touches (s : State) (k : Nat) (l : InLine) : Touches 0x100000 s (State.pipeIn s k l) := by
  unfold State.pipeIn
  exact Touches.step (State.setPipe_touches ..) rfl (Touches.refl _ _)

theorem State.lineIn_touches (s : State) (p : Nat) (g : RxImg) (t : Trig) (bad : Bool) (lost : Bool) (b : List Byte) : Touches 0x18800000000000000000000000000000000180001 s (State.lineIn s p g t bad lost b) := by
  unfold State.lineIn
  refine Touches.ite ?_ ?_
  · exact Touches.step (State.retire_touches ..) rfl (Touches.refl _ _)
  · refine Touches.step (State.voidFlush_touches ..) rfl ?_
    exact Touches.step (State.pipeIn_touches ..) rfl (Touches.step (State.linePaired_touches ..) rfl (Touches.refl _ _))

theorem State.frameIn_touches (s : State) (p : Nat) (g : RxImg) (t : Trig) (bad : Bool) (lost : Bool) (b : List Byte) : Touches 0x18800000000000000000000000000000000180001 s (State.frameIn s p g t bad lost b) := by
  unfold State.frameIn
  refine Touches.ite ?_ ?_
  · exact Touches.step (State.pipeIn_touches ..) rfl (Touches.step (State.frameLost_touches ..) rfl (Touches.refl _ _))
  · exact Touches.step (State.pipeIn_touches ..) rfl (Touches.step (State.linePaired_touches ..) rfl (Touches.refl _ _))

theorem State.lineFb_touches (s : State) (p : Nat) (i : Nat) (g : RxImg) (t : Trig) (bad : Bool) (lost : Bool) (b : List Byte) : Touches 0x807000000004080101000000000000000000000000000001c080000000000000000000000000000000000000000018800200000000000000000000000000026180617 s (State.lineFb s p i g t bad lost b) := by
  unfold State.lineFb
  extract_lets -merge +onlyGivenNames x1
  have h2 : Touches 0x807000000004080101000000000000000000000000000001c080000000000000000000000000000000000000000018800200000000000000000000000000026180617 s x1 := by
    unfold x1
    refine Touches.ite ?_ ?_
    · exact Touches.step (State.frameLost_touches ..) rfl (Touches.refl _ _)
    · exact Touches.step (State.linePaired_touches ..) rfl (Touches.refl _ _)
  clear_value x1
  split
  extract_lets -merge +onlyGivenNames x3
  clear_value x3
  extract_lets -merge +onlyGivenNames x4
  clear_value x4
  extract_lets -merge +onlyGivenNames x5
  have h6 : Touches 0x807000000004080101000000000000000000000000000001c080000000000000000000000000000000000000000018800200000000000000000000000000026180617 s x5 := by
    unfold x5
    refine Touches.ite ?_ ?_
    · refine Touches.ite ?_ ?_
      · exact h2
      · exact Touches.step (State.camReport_touches ..) rfl h2
    · exact h2
  clear_value x5
  split
  rename_i x7 x8 x9 e10
  have h11 : Touches 0x807000000004080101000000000000000000000000000001c080000000000000000000000000000000000000000018800200000000000000000000000000026180617 s x9 := by
    refine Touches.of_eq (fun d => d.2) e10 ?_
    refine Touches.ite2 ?_ ?_
    · exact h6
    · exact Touches.step (State.vwrite_touches ..) rfl h6
  extract_lets -merge +onlyGivenNames x12
  clear_value x12
  extract_lets -merge +onlyGivenNames x13
  clear_value x13
  exact Touches.step (State.setPort_touches ..) rfl h11

theorem State.frameEnd_touches (s : State) (p : Nat) (g : RxImg) : Touches 0x10000100000000000000000000000000000000100001 s (State.frameEnd s p g) := by
  unfold State.frameEnd
  extract_lets -merge +onlyGivenNames x1
  clear_value x1
  extract_lets -merge +onlyGivenNames x2
  have h3 : Touches 0x10000100000000000000000000000000000000100001 s x2 := by
    unfold x2
    split
    · exact Touches.step (State.setPort_touches ..) rfl (Touches.refl _ _)
    · exact Touches.refl _ _
  clear_value x2
  extract_lets -merge +onlyGivenNames x4
  clear_value x4
  split
  · exact Touches.step (State.fbRegs_touches ..) rfl (Touches.step (State.setPort_touches ..) rfl h3)
  · exact h3

theorem State.lineNext_touches (s : State) (p : Nat) (g : RxImg) : Touches 0x8070000000040800000000000000000000000000000000000000000000000000000000000000000000000000010000100200000000000000000000000000022100211 s (State.lineNext s p g) := by
  unfold State.lineNext
  extract_lets -merge +onlyGivenNames x1
  clear_value x1
  extract_lets -merge +onlyGivenNames x2
  have h3 : Touches 0x8070000000040800000000000000000000000000000000000000000000000000000000000000000000000000010000100200000000000000000000000000022100211 s x2 := by unfold x2; exact Touches.step (State.putImg_touches ..) rfl (Touches.refl _ _)
  clear_value x2
  refine Touches.ite ?_ ?_
  · exact Touches.step (State.imgEnd_touches ..) rfl (Touches.step (State.frameEnd_touches ..) rfl h3)
  · exact h3

theorem State.lineUnsol_touches (s : State) (p : Nat) (g : RxImg) : Touches 0x8070000000040800000000000000000000000000000000000000000000000000000000000000000000000000010080100200000000000000000000000000022100211 s (State.lineUnsol s p g) := by
  unfold State.lineUnsol
  extract_lets -merge +onlyGivenNames x1
  have h2 : Touches 0x8070000000040800000000000000000000000000000000000000000000000000000000000000000000000000010080100200000000000000000000000000022100211 s x1 := by unfold x1; exact State.inc_touches _ _ _ rfl 132 rfl (grp_CXP_CNT_UNSOL _)
  clear_value x1
  refine Touches.step (State.lineNext_touches ..) rfl ?_
  refine Touches.ite ?_ ?_
  · exact h2
  · exact Touches.step (State.camReport_touches ..) rfl h2

theorem State.lineTrig_touches (s : State) (p : Nat) : Touches 0x100000 s (State.lineTrig s p).2 := by
  unfold State.lineTrig
  extract_lets -merge +onlyGivenNames x1
  clear_value x1
  refine Touches.ite2 ?_ ?_
  · exact Touches.pair2 (Touches.refl _ _)
  · split
    · exact Touches.pair2 (Touches.step (State.setPort_touches ..) rfl (Touches.refl _ _))
    · exact Touches.pair2 (Touches.refl _ _)

theorem State.rxLine_touches (s : State) (p : Nat) (bad : Bool) (lost : Bool) (b : List Byte) : Touches 0x807000000004080101000000000000000000000000000001c080000000000000000000000000000000000000010198900200000000000000000000000000026180617 s (State.rxLine s p bad lost b) := by
  unfold State.rxLine
  split
  · exact Touches.refl _ _
  · extract_lets -merge +onlyGivenNames x1
    clear_value x1
    refine Touches.ite ?_ ?_
    · exact Touches.step (State.lineNext_touches ..) rfl (State.inc_touches _ _ _ rfl 132 rfl (grp_CXP_CNT_UNSOL _))
    · refine Touches.ite ?_ ?_
      · exact Touches.step (State.lineNext_touches ..) rfl (State.inc_touches _ _ _ rfl 133 rfl (grp_CXP_CNT_DISCARD _))
      · refine Touches.ite ?_ ?_
        · extract_lets -merge +onlyGivenNames x2
          have h3 : Touches 0x807000000004080101000000000000000000000000000001c080000000000000000000000000000000000000010198900200000000000000000000000000026180617 s x2 := by unfold x2; exact State.inc_touches _ _ _ rfl 133 rfl (grp_CXP_CNT_DISCARD _)
          clear_value x2
          split
          · rename_i x4 x5 x6 e7
            have h8 : Touches 0x807000000004080101000000000000000000000000000001c080000000000000000000000000000000000000010198900200000000000000000000000000026180617 s x6 := Touches.of_eq (fun d => d.2) e7 (Touches.step (State.lineTrig_touches ..) rfl h3)
            refine Touches.step (State.lineNext_touches ..) rfl ?_
            refine Touches.ite ?_ ?_
            · exact Touches.step (State.retire_touches ..) rfl h8
            · exact Touches.step (State.voidFlush_touches ..) rfl (Touches.step (State.linePaired_touches ..) rfl h8)
          · rename_i x9 x10 e11
            have h12 : Touches 0x807000000004080101000000000000000000000000000001c080000000000000000000000000000000000000010198900200000000000000000000000000026180617 s x10 := Touches.of_eq (fun d => d.2) e11 (Touches.step (State.lineTrig_touches ..) rfl h3)
            refine Touches.step (State.lineNext_touches ..) rfl ?_
            split
            · exact Touches.step (State.linePaired_touches ..) rfl h12
            · exact h12
        · refine Touches.ite ?_ ?_
          · split
            · rename_i x13 x14 x15 e16
              have h17 : Touches 0x807000000004080101000000000000000000000000000001c080000000000000000000000000000000000000010198900200000000000000000000000000026180617 s x15 := Touches.of_eq (fun d => d.2) e16 (Touches.step (State.lineTrig_touches ..) rfl (Touches.refl _ _))
              exact Touches.step (State.lineNext_touches ..) rfl (Touches.step (State.retire_touches ..) rfl h17)
            · rename_i x18 x19 e20
              have h21 : Touches 0x807000000004080101000000000000000000000000000001c080000000000000000000000000000000000000010198900200000000000000000000000000026180617 s x19 := Touches.of_eq (fun d => d.2) e20 (Touches.step (State.lineTrig_touches ..) rfl (Touches.refl _ _))
              exact Touches.step (State.lineNext_touches ..) rfl h21
          · refine Touches.ite ?_ ?_
            · split
              · rename_i x22 x23 x24 e25
                have h26 : Touches 0x807000000004080101000000000000000000000000000001c080000000000000000000000000000000000000010198900200000000000000000000000000026180617 s x24 := Touches.of_eq (fun d => d.2) e25 (Touches.step (State.lineTrig_touches ..) rfl (Touches.refl _ _))
                exact Touches.step (State.lineNext_touches ..) rfl (Touches.step (State.lineIn_touches ..) rfl h26)
              · rename_i x27 x28 e29
                have h30 : Touches 0x807000000004080101000000000000000000000000000001c080000000000000000000000000000000000000010198900200000000000000000000000000026180617 s x28 := Touches.of_eq (fun d => d.2) e29 (Touches.step (State.lineTrig_touches ..) rfl (Touches.refl _ _))
                exact Touches.step (State.lineUnsol_touches ..) rfl h30
            · split
              · exact Touches.step (State.lineUnsol_touches ..) rfl (Touches.refl _ _)
              · extract_lets -merge +onlyGivenNames x31
                clear_value x31
                exact Touches.step (State.lineNext_touches ..) rfl (Touches.step (State.lineFb_touches ..) rfl (Touches.refl _ _))
              · exact Touches.step (State.lineNext_touches ..) rfl (Touches.step (State.frameIn_touches ..) rfl (Touches.refl _ _))

theorem State.strayData_touches (s : State) (p : Nat) (n : Nat) : Touches 0x8070000000040800000000000000000000000000000000000000000000000000000000000000000000000000000180000200000000000000000000000000022100211 s (State.strayData s p n) := by
  unfold State.strayData
  split
  rename_i x1 x2 x3 e4
  have h5 : Touches 0x8070000000040800000000000000000000000000000000000000000000000000000000000000000000000000000180000200000000000000000000000000022100211 s x3 := Touches.of_eq (fun d => d.2) e4 (Touches.step (State.fresh_touches ..) rfl (Touches.refl _ _))
  extract_lets -merge +onlyGivenNames x6
  clear_value x6
  refine Touches.ite ?_ ?_
  · exact Touches.trans h5 (State.inc_touches _ _ _ rfl 132 rfl (grp_CXP_CNT_UNSOL _))
  · refine Touches.ite ?_ ?_
    · exact Touches.trans h5 (State.inc_touches _ _ _ rfl 133 rfl (grp_CXP_CNT_DISCARD _))
    · extract_lets -merge +onlyGivenNames x7
      clear_value x7
      extract_lets -merge +onlyGivenNames x8
      clear_value x8
      extract_lets -merge +onlyGivenNames x9
      have h10 : Touches 0x8070000000040800000000000000000000000000000000000000000000000000000000000000000000000000000180000200000000000000000000000000022100211 s x9 := by
        unfold x9
        refine Touches.step (State.setPort_touches ..) rfl ?_
        exact Touches.trans h5 (State.inc_touches _ _ _ rfl 132 rfl (grp_CXP_CNT_UNSOL _))
      clear_value x9
      refine Touches.ite ?_ ?_
      · exact h10
      · exact Touches.step (State.camReport_touches ..) rfl h10

theorem State.rxBytes_touches (p : Nat) (bad : Bool) (lost : Bool) (a3 : Nat) (a4 : State) (a5 : List Byte) : Touches 0x807000000004080101000000000000000000000000000001c080000000000000000000000000000000000000010198900200000000000000000000000000026180617 a4 (State.rxBytes p bad lost a3 a4 a5) := by
  fun_induction State.rxBytes p bad lost a3 a4 a5
  · rename_i x1 x2
    exact Touches.refl _ _
  · rename_i x3 x4 x5 e6 e7
    exact Touches.refl _ _
  · rename_i x8 x9 x10 e11 e12
    exact Touches.step (State.strayData_touches ..) rfl (Touches.refl _ _)
  · rename_i x13 x14 x15 x16 e17 x18 e19
    exact Touches.step (State.setPort_touches ..) rfl (Touches.refl _ _)
  · rename_i x20 x21 x22 x23 e24 x25 e26 x27 e28
    have h29 : Touches 0x807000000004080101000000000000000000000000000001c080000000000000000000000000000000000000010198900200000000000000000000000000026180617 x21 x27 := by unfold x27; exact Touches.step (State.setPort_touches ..) rfl (Touches.refl _ _)
    exact Touches.trans (Touches.step (State.rxLine_touches ..) rfl h29) e28

theorem State.packet_touches (s : State) (p : Nat) (k : CamPkt) : Touches 0x807000000004080101000000000000000000000000000001c080000000000000000000000000000000000001010199f00600000000000000000000000000026180617 s (State.packet s p k) := by
  unfold State.packet
  split
  · exact Touches.step (State.header_touches ..) rfl (Touches.refl _ _)
  · extract_lets -merge +onlyGivenNames x1
    clear_value x1
    extract_lets -merge +onlyGivenNames x2
    clear_value x2
    extract_lets -merge +onlyGivenNames x3
    have h4 : Touches 0x807000000004080101000000000000000000000000000001c080000000000000000000000000000000000001010199f00600000000000000000000000000026180617 s x3 := by
      unfold x3
      refine Touches.ite ?_ ?_
      · exact Touches.step (State.setPort_touches ..) rfl (Touches.refl _ _)
      · exact Touches.refl _ _
    clear_value x3
    exact Touches.step (State.rxBytes_touches ..) rfl h4

theorem State.tagsTake_touches (p : Nat) (a1 : Nat) (a2 : State) : Touches 0x807000000004080101000000000000000000000000000001c080000000000000000000000000000000000001010199f00600000000000000000000000000026180617 a2 (State.tagsTake p a1 a2) := by
  fun_induction State.tagsTake p a1 a2
  · rename_i x1
    exact Touches.refl _ _
  · rename_i x2 x3 x4 e5
    exact Touches.refl _ _
  · rename_i x6 x7 x8 x9 e10 x11 e12
    have h13 : Touches 0x807000000004080101000000000000000000000000000001c080000000000000000000000000000000000001010199f00600000000000000000000000000026180617 x7 x11 := by unfold x11; exact Touches.step (State.setPort_touches ..) rfl (Touches.refl _ _)
    exact Touches.trans (Touches.step (State.packet_touches ..) rfl h13) e12

theorem State.tagsIn_touches (s : State) (p : Nat) (tag : Nat) (k : CamPkt) : Touches 0x807000000004080101000000000000000000000000000001c080000000000000000000000000000000000001010199f00600000000000000000000000000026180617 s (State.tagsIn s p tag k) := by
  unfold State.tagsIn
  extract_lets -merge +onlyGivenNames x1
  clear_value x1
  extract_lets -merge +onlyGivenNames x2
  clear_value x2
  extract_lets -merge +onlyGivenNames x3
  clear_value x3
  extract_lets -merge +onlyGivenNames x4
  have h5 : Touches 0x807000000004080101000000000000000000000000000001c080000000000000000000000000000000000001010199f00600000000000000000000000000026180617 s x4 := by unfold x4; exact Touches.step (State.tagsTake_touches ..) rfl (Touches.step (State.setPort_touches ..) rfl (Touches.refl _ _))
  clear_value x4
  extract_lets -merge +onlyGivenNames x6
  clear_value x6
  exact Touches.step (State.tagsTake_touches ..) rfl (Touches.step (State.setPort_touches ..) rfl h5)

theorem State.packetIn_touches (s : State) (p : Nat) (lane : Nat) (tag : Nat) (stream : Nat) (k : CamPkt) : Touches 0x20807000000004080101000000000000000000000000000001c08000000000000000000000000000000000000101019ff00600000000000000000000000000026180617 s (State.packetIn s p lane tag stream k) := by
  unfold State.packetIn
  refine Touches.ite ?_ ?_
  · exact Touches.refl _ _
  · split
    extract_lets -merge +onlyGivenNames x1
    have h2 : Touches 0x20807000000004080101000000000000000000000000000001c08000000000000000000000000000000000000101019ff00600000000000000000000000000026180617 s x1 := by unfold x1; exact State.inc_touches _ _ _ rfl 127 rfl (grp_CXP_CNT_SYM _)
    clear_value x1
    extract_lets -merge +onlyGivenNames x3
    have h4 : Touches 0x20807000000004080101000000000000000000000000000001c08000000000000000000000000000000000000101019ff00600000000000000000000000000026180617 s x3 := by
      unfold x3
      refine Touches.ite ?_ ?_
      · refine Touches.step (State.total_touches ..) rfl ?_
        exact Touches.trans h2 (State.inc_touches _ _ _ rfl 126 rfl (grp_CXP_CNT_CRC _))
      · exact h2
    clear_value x3
    extract_lets -merge +onlyGivenNames x5
    clear_value x5
    extract_lets -merge +onlyGivenNames x6
    have h7 : Touches 0x20807000000004080101000000000000000000000000000001c08000000000000000000000000000000000000101019ff00600000000000000000000000000026180617 s x6 := by unfold x6; exact Touches.step (State.setPort_touches ..) rfl h4
    clear_value x6
    refine Touches.ite ?_ ?_
    · exact Touches.trans h7 (State.inc_touches _ _ _ rfl 132 rfl (grp_CXP_CNT_UNSOL _))
    · refine Touches.ite ?_ ?_
      · exact Touches.step (State.packet_touches ..) rfl h7
      · exact Touches.step (State.tagsIn_touches ..) rfl h7

theorem State.lineTimeout_touches (s : State) (p : Nat) : Touches 0x8070000000040800000000000000000000000000000000000000000000000000000000000000000000000000000010000200000000000000000000000000022180211 s (State.lineTimeout s p) := by
  unfold State.lineTimeout
  split
  · refine Touches.ite ?_ ?_
    · refine Touches.step (State.portResync_touches ..) rfl ?_
      refine Touches.step (State.camReport_touches ..) rfl ?_
      exact Touches.step (State.retire_touches ..) rfl (Touches.step (State.setPort_touches ..) rfl (Touches.refl _ _))
    · exact Touches.refl _ _
  · exact Touches.refl _ _

theorem State.frameTimeout_touches (s : State) (p : Nat) : Touches 0x8070000000040800000000000000000000000000000000000000000000000000000000000000000000000000000010000200000000000000000000000000022180211 s (State.frameTimeout s p) := by
  unfold State.frameTimeout
  split
  · refine Touches.ite ?_ ?_
    · refine Touches.step (State.portResync_touches ..) rfl ?_
      refine Touches.step (State.camReport_touches ..) rfl ?_
      exact Touches.step (State.retire_touches ..) rfl (Touches.step (State.setPort_touches ..) rfl (Touches.refl _ _))
    · exact Touches.refl _ _
  · exact Touches.refl _ _

theorem State.tmFrame_touches (s : State) (k : Nat) : Touches 0x208070000000040801010000002000000000000000000001e9c080000000000000000000000000000000000007810000100000000000000000000000000000026180615 s (State.tmFrame s k) := by
  unfold State.tmFrame
  extract_lets -merge +onlyGivenNames x1
  split
  · refine Touches.ite ?_ ?_
    · exact Touches.refl _ _
    · extract_lets -merge +onlyGivenNames x2
      have h3 : Touches 0x208070000000040801010000002000000000000000000001e9c080000000000000000000000000000000000007810000100000000000000000000000000000026180615 s x2 := by unfold x2; exact Touches.step (State.wholeStart_touches ..) rfl (Touches.refl _ _)
      clear_value x2
      clear_value x1
      split
      extract_lets -merge +onlyGivenNames x4
      clear_value x4
      extract_lets -merge +onlyGivenNames x5
      clear_value x5
      split
      rename_i x6 x7 x8 e9
      have h10 : Touches 0x208070000000040801010000002000000000000000000001e9c080000000000000000000000000000000000007810000100000000000000000000000000000026180615 s x8 := by
        refine Touches.of_eq (fun d => d.2) e9 ?_
        refine Touches.foldlOf (fun d : _ × _ => d.2) (fun t11 y12 h13 => ?_) ?_
        · split
          extract_lets -merge +onlyGivenNames x14
          clear_value x14
          refine Touches.ite2 ?_ ?_
          · exact h13
          · split
            · rename_i x15 x16 x17 e18
              have h19 : Touches 0x208070000000040801010000002000000000000000000001e9c080000000000000000000000000000000000007810000100000000000000000000000000000026180615 s x17 := Touches.of_eq (fun d => d.2) e18 (Touches.step (State.vread_touches ..) rfl h13)
              exact h19
            · rename_i x20 x21 x22 e23
              have h24 : Touches 0x208070000000040801010000002000000000000000000001e9c080000000000000000000000000000000000007810000100000000000000000000000000000026180615 s x22 := Touches.of_eq (fun d => d.2) e23 (Touches.step (State.vread_touches ..) rfl h13)
              exact h24
        · exact h3
      extract_lets -merge +onlyGivenNames x25
      have h26 : Touches 0x208070000000040801010000002000000000000000000001e9c080000000000000000000000000000000000007810000100000000000000000000000000000026180615 s x25 := by unfold x25; exact Touches.step (State.pipeLines_touches ..) rfl h10
      clear_value x25
      extract_lets -merge +onlyGivenNames x27
      clear_value x27
      refine Touches.step (State.fbRegs_touches ..) rfl ?_
      refine Touches.trans ?_ (State.inc_touches _ _ _ rfl 148 rfl (grp_ISP_CNT_TM_FRAMES _))
      exact Touches.step (State.setPort_touches ..) rfl h26
  · rename_i x28 x29 e30
    exact Touches.refl _ _

theorem State.writeBind_touches (s : State) (p : Nat) (v : Nat) : Touches 0x8070000000040800000000000000000000000000000000000000000000000000000000000000000000000000000000000600180000000000000000000000022100211 s (State.writeBind s p v) := by
  unfold State.writeBind
  extract_lets -merge +onlyGivenNames x1
  clear_value x1
  extract_lets -merge +onlyGivenNames x2
  have h3 : Touches 0x8070000000040800000000000000000000000000000000000000000000000000000000000000000000000000000000000600180000000000000000000000022100211 s x2 := by unfold x2; exact State.setF_touches _ _ _ rfl 111 rfl (grp_CXP_BIND _)
  clear_value x2
  refine Touches.ite ?_ ?_
  · exact h3
  · split
    · exact Touches.step (State.imgReport_touches ..) rfl h3
    · extract_lets -merge +onlyGivenNames x4
      extract_lets -merge +onlyGivenNames x5
      clear_value x5
      extract_lets -merge +onlyGivenNames x6
      clear_value x6
      refine Touches.ite ?_ ?_
      · exact Touches.step (State.imgReport_touches ..) rfl h3
      · refine Touches.ite ?_ ?_
        · exact Touches.step (State.camReport_touches ..) rfl h3
        · refine Touches.trans ?_ (State.setB_touches _ _ _ rfl 111 rfl (grp_CXP_BIND _))
          exact Touches.step (State.setPort_touches ..) rfl h3

theorem State.onPort_ends (s : State) (p : Nat) (f : State → State) {m : Nat} (hf : ∀ t, Touches m t (f t)) :
    Ends m s (s.onPort p f) := ⟨_, rfl, Touches.ite (hf s) (Touches.refl _ _)⟩

theorem execPortEnable_ends (port : Nat) (value : Nat) (s : State) : Ends 0x8070000000040800000000000000000000000000000000000000000000000004000000000000000000000000000010000300000000102000000000000000022380295 s (execPortEnable port value s) := by
  unfold execPortEnable
  refine State.onPort_ends _ _ _ ?_
  intro y1
  refine Touches.trans ?_ (State.regWrite_touches _ _ _ _ rfl ?_)
  · exact Touches.refl _ _
  · intro y2
    exact Touches.step (State.writePortCfg_touches ..) rfl (Touches.refl _ _)

theorem execPocxpPowered_ends (port : Nat) (s : State) : Ends 0x4000000000000000000000000000000000200000000000000000000000000000300001 s (execPocxpPowered port s) := by
  unfold execPocxpPowered
  refine State.onPort_ends _ _ _ ?_
  intro y1
  refine Touches.ite ?_ ?_
  · exact Touches.step (State.portDiscover_touches ..) rfl (Touches.refl _ _)
  · exact Touches.refl _ _

theorem execDiscover_ends (port : Nat) (ok : Bool) (s : State) : Ends 0x8070000000040800000000000000000000000000000000000000000000000000000000000000000000000000000010000200000000000000000000000000022180211 s (execDiscover port ok s) := by
  unfold execDiscover
  refine State.onPort_ends _ _ _ ?_
  intro y1
  refine Touches.ite ?_ ?_
  · exact Touches.refl _ _
  · refine Touches.ite ?_ ?_
    · exact Touches.step (State.portConfig_touches ..) rfl (Touches.refl _ _)
    · refine Touches.ite ?_ ?_
      · exact Touches.step (State.portDown_touches ..) rfl (Touches.refl _ _)
      · exact Touches.refl _ _

theorem execConfig_ends (port : Nat) (ok : Bool) (s : State) : Ends 0x8070000000040800000000000000000000000000000000000000000000000000000000000000000000000000000010000200000000000000000000000000022180211 s (execConfig port ok s) := by
  unfold execConfig
  refine State.onPort_ends _ _ _ ?_
  intro y1
  refine Touches.ite ?_ ?_
  · exact Touches.refl _ _
  · refine Touches.ite ?_ ?_
    · exact Touches.step (State.portUp_touches ..) rfl (Touches.refl _ _)
    · refine Touches.ite ?_ ?_
      · exact Touches.step (State.portDown_touches ..) rfl (Touches.refl _ _)
      · exact Touches.refl _ _

theorem execCameraLinkDown_ends (port : Nat) (lane : Nat) (s : State) : Ends 0x8070000000040800000000000000000000000000000000000000000000000000000000000000000000000000000010000200000000000000000000000000022180211 s (execCameraLinkDown port lane s) := by
  unfold execCameraLinkDown
  refine State.onPort_ends _ _ _ ?_
  intro y1
  refine Touches.ite ?_ ?_
  · exact Touches.step (State.portDown_touches ..) rfl (Touches.refl _ _)
  · exact Touches.refl _ _

theorem execDownRetry_ends (port : Nat) (s : State) : Ends 0x4000000000000000000000000000400000200000000000000000000000000000300001 s (execDownRetry port s) := by
  unfold execDownRetry
  refine State.onPort_ends _ _ _ ?_
  intro y1
  refine Touches.ite ?_ ?_
  · exact Touches.step (State.portDiscover_touches ..) rfl (State.inc_touches _ _ _ rfl 135 rfl (grp_CXP_CNT_RETRY _))
  · exact Touches.refl _ _

theorem execResyncEnd_ends (port : Nat) (s : State) : Ends 0x200000000000000000000000000000100001 s (execResyncEnd port s) := by
  unfold execResyncEnd
  refine State.onPort_ends _ _ _ ?_
  intro y1
  refine Touches.ite ?_ ?_
  · exact Touches.step (State.portGo_touches ..) rfl (Touches.refl _ _)
  · exact Touches.refl _ _

theorem execCtrlTransaction_ends (port : Nat) (value : Nat) (s : State) : Ends 0x8070000000040800000000000000000000000000000000000000000000000000000000000000000000000000006000000000000000102000000000000000022100295 s (execCtrlTransaction port value s) := by
  unfold execCtrlTransaction
  refine State.onPort_ends _ _ _ ?_
  intro y1
  refine Touches.trans ?_ (State.regWrite_touches _ _ _ _ rfl ?_)
  · exact Touches.refl _ _
  · intro y2
    exact Touches.step (State.ctrlStart_touches ..) rfl (Touches.refl _ _)

theorem execCtrlAck_ends (port : Nat) (code : Nat) (negative : Bool) (data : Nat) (bad : Bool) (s : State) : Ends 0x8070000000040800000000000000000000000000000000000000000000000000000000000000000000000000005000000200000000000000000000000000022000211 s (execCtrlAck port code negative data bad s) := by
  unfold execCtrlAck
  refine State.onPort_ends _ _ _ ?_
  intro y1
  exact Touches.step (State.ctrlAck_touches ..) rfl (Touches.refl _ _)

theorem execCtrlTimeout_ends (port : Nat) (s : State) : Ends 0x8070000000040800000000000000000000000000000000000000000000000000000000000000000000000000004000000200000000000000000000000000022000211 s (execCtrlTimeout port s) := by
  unfold execCtrlTimeout
  refine State.onPort_ends _ _ _ ?_
  intro y1
  exact Touches.step (State.ctrlLate_touches ..) rfl (Touches.refl _ _)

theorem execFrameTimeTrigger_ends (port : Nat) (s : State) : Ends 0x8070000000040800000000000000000000000000000000000000000000000000000000000000000000000000000050000200000000000000000000000000022180211 s (execFrameTimeTrigger port s) := by
  unfold execFrameTimeTrigger
  refine State.onPort_ends _ _ _ ?_
  intro y1
  exact Touches.step (State.frameTime_touches ..) rfl (Touches.refl _ _)

theorem execSoftTrigger_ends (port : Nat) (value : Nat) (s : State) : Ends 0x8070000000040800000000000000000000000000000000000000000000000000000000000000000000000000000050000200000000102000000000000000022180295 s (execSoftTrigger port value s) := by
  unfold execSoftTrigger
  refine State.onPort_ends _ _ _ ?_
  intro y1
  refine Touches.trans ?_ (State.regWrite_touches _ _ _ _ rfl ?_)
  · exact Touches.refl _ _
  · intro y2
    exact Touches.step (State.softTrig_touches ..) rfl (Touches.refl _ _)

theorem execDelayedTrigger_ends (port : Nat) (s : State) : Ends 0x8070000000040800000000000000000000000000000000000000000000000000000000000000000000000000000050000200000000000000000000000000022180211 s (execDelayedTrigger port s) := by
  unfold execDelayedTrigger
  refine State.onPort_ends _ _ _ ?_
  intro y1
  exact Touches.step (State.trigDelayed_touches ..) rfl (Touches.refl _ _)

theorem execTrigCfgWrite_ends (port : Nat) (value : Nat) (s : State) : Ends 0x8070000000040800000000000000000000000000000000000000000000000000000000000000000000000000000010000a00000000102000000000000000022180295 s (execTrigCfgWrite port value s) := by
  unfold execTrigCfgWrite
  refine State.onPort_ends _ _ _ ?_
  intro y1
  refine Touches.trans ?_ (State.regWrite_touches _ _ _ _ rfl ?_)
  · exact Touches.refl _ _
  · intro y2
    exact Touches.step (State.writeTrig_touches ..) rfl (Touches.refl _ _)

theorem execStreamPacket_ends (port : Nat) (lane : Nat) (tag : Nat) (bytes : List Byte) (bad : Bool) (symErrs : Nat) (stream : Nat) (lost : Bool) (s : State) : Ends 0x20807000000004080101000000000000000000000000000001c08000000000000000000000000000000000000101019ff00600000000000000000000000000026180617 s (execStreamPacket port lane tag bytes bad symErrs stream lost s) := by
  unfold execStreamPacket
  refine State.onPort_ends _ _ _ ?_
  intro y1
  exact Touches.step (State.packetIn_touches ..) rfl (Touches.refl _ _)

theorem execImageHeader_ends (port : Nat) (lane : Nat) (tag : Nat) (head : ImgHead) (bad : Bool) (symErrs : Nat) (s : State) : Ends 0x20807000000004080101000000000000000000000000000001c08000000000000000000000000000000000000101019ff00600000000000000000000000000026180617 s (execImageHeader port lane tag head bad symErrs s) := by
  unfold execImageHeader
  refine State.onPort_ends _ _ _ ?_
  intro y1
  exact Touches.step (State.packetIn_touches ..) rfl (Touches.refl _ _)

theorem execLineTimeout_ends (port : Nat) (s : State) : Ends 0x8070000000040800000000000000000000000000000000000000000000000000000000000000000000000000000010000200000000000000000000000000022180211 s (execLineTimeout port s) := by
  unfold execLineTimeout
  refine State.onPort_ends _ _ _ ?_
  intro y1
  exact Touches.step (State.lineTimeout_touches ..) rfl (Touches.refl _ _)

theorem execFrameTimeout_ends (port : Nat) (s : State) : Ends 0x8070000000040800000000000000000000000000000000000000000000000000000000000000000000000000000010000200000000000000000000000000022180211 s (execFrameTimeout port s) := by
  unfold execFrameTimeout
  refine State.onPort_ends _ _ _ ?_
  intro y1
  exact Touches.step (State.frameTimeout_touches ..) rfl (Touches.refl _ _)

theorem execPipelineLine_ends (pipe : Nat) (s : State) : Ends 0x6000000000000000000000000000000000000000180001 s (execPipelineLine pipe s) := by
  unfold execPipelineLine
  refine Ends.next ?_
  refine Touches.ite ?_ ?_
  · exact Touches.step (State.pipeLine_touches ..) rfl (Touches.refl _ _)
  · exact Touches.refl _ _

theorem execPartImageComplete_ends (pipe : Nat) (s : State) : Ends 0x807000000004080101000000000000000000000000500001c080000000000000000000000000000000000000490000000000000000000000000000000000026100617 s (execPartImageComplete pipe s) := by
  unfold execPartImageComplete
  refine Ends.next ?_
  refine Touches.ite ?_ ?_
  · exact Touches.step (State.partComplete_touches ..) rfl (Touches.refl _ _)
  · exact Touches.refl _ _

theorem execThroughMemoryFrame_ends (pipe : Nat) (s : State) : Ends 0x208070000000040801010000002000000000000000000001e9c080000000000000000000000000000000000007810000100000000000000000000000000000026180615 s (execThroughMemoryFrame pipe s) := by
  unfold execThroughMemoryFrame
  refine Ends.next ?_
  refine Touches.ite ?_ ?_
  · exact Touches.step (State.tmFrame_touches ..) rfl (Touches.refl _ _)
  · exact Touches.refl _ _

theorem execRebindRequest_ends (port : Nat) (value : Nat) (s : State) : Ends 0x8070000000040800000000000000000000000000000000000000000000000000000000000000000000000000000000000600180000102000000000000000022100295 s (execRebindRequest port value s) := by
  unfold execRebindRequest
  refine State.onPort_ends _ _ _ ?_
  intro y1
  refine Touches.trans ?_ (State.regWrite_touches _ _ _ _ rfl ?_)
  · exact Touches.refl _ _
  · intro y2
    exact Touches.step (State.writeBind_touches ..) rfl (Touches.refl _ _)

theorem execRebindSwitch_ends (port : Nat) (s : State) : Ends 0x8070000000040800000000000000000000000000000000000000000000000000000000000000000000000000010000000600000000000000000000000000022180211 s (execRebindSwitch port s) := by
  unfold execRebindSwitch
  refine State.onPort_ends _ _ _ ?_
  intro y1
  exact Touches.step (State.rebindSwitch_touches ..) rfl (Touches.refl _ _)

theorem execOutHeadWrite_ends (pipe : Nat) (value : Nat) (s : State) : Ends 0x8070000000040800000000000000000000000000000000000000000000000000000000000000000000000000100000000000000000102000000000000000022100295 s (execOutHeadWrite pipe value s) := by
  unfold execOutHeadWrite
  refine Ends.next ?_
  refine Touches.ite ?_ ?_
  · refine Touches.trans ?_ (State.regWrite_touches _ _ _ _ rfl ?_)
    · exact Touches.refl _ _
    · intro y1
      exact Touches.step (State.writeOutHead_touches ..) rfl (Touches.refl _ _)
  · exact Touches.refl _ _

theorem execPipeCellWrite_ends (pipe : Nat) (value : Nat) (s : State) : Ends 0x8070000000040800000000000000000000000000000000000000000000000000000000000000000000000000020000000000180000102000000000000000022000295 s (execPipeCellWrite pipe value s) := by
  unfold execPipeCellWrite
  refine Ends.next ?_
  refine Touches.ite ?_ ?_
  · refine Touches.trans ?_ (State.regWrite_touches _ _ _ _ rfl ?_)
    · exact Touches.refl _ _
    · intro y1
      exact Touches.step (State.writePipeCell_touches ..) rfl (Touches.refl _ _)
  · exact Touches.refl _ _

theorem execCxpEventPacket_ends (port : Nat) (event : Bool) (s : State) : Ends 0x200000000000000000000000000000000000000001 s (execCxpEventPacket port event s) := by
  unfold execCxpEventPacket
  refine State.onPort_ends _ _ _ ?_
  intro y1
  refine Touches.ite ?_ ?_
  · exact State.inc_touches _ _ _ rfl 134 rfl (grp_CXP_CNT_EVENT _)
  · exact Touches.refl _ _

end Sys2Proof.Machine
end

