-- ==== Sys2Proof/Laws/FrameRing.lean ====
section
/-! SUPPORT. What each operation of Machine/Ring.lean can do: the parts of the state it touches (Touches). -/

-- One declaration at a time: many proofs at once would each hold a thread with a large stack.
set_option Elab.async false

namespace Sys2Proof.Machine

theorem State.setSide_touches (s : State) (w : Nat) (x : RSide) : Touches 0x400000 s (State.setSide s w x) := by
  unfold State.setSide
  exact Touches.setRing (Touches.refl _ _) rfl

theorem State.ringReport_touches (s : State) (sts : Nat) (detail : Nat) : Touches 0x8070000000040800000000000000000000000000000000000000000000040000000000000000000000000000000000000000000000000000000000000000022000211 s (State.ringReport s sts detail) := by
  unfold State.ringReport
  exact State.report_touches _ _ _ _ _ rfl 263 rfl grp_RING_STATUS

theorem State.ringLimited_touches (s : State) (sts : Nat) (detail : Nat → Nat) (side : Nat) (n : Nat) : Touches 0x8070000000040800000000000000000000000000000000000000000000040000000000000000000000000000000000000000000000000000000000000000022000215 s (State.ringLimited s sts detail side n) := by
  unfold State.ringLimited
  exact State.reportLimited_touches _ _ _ _ _ _ _ rfl 263 rfl grp_RING_STATUS

theorem State.ringReady_touches (s : State) : Touches 0x40000000800000000000000000000000000000000000000000000000000000000000000051 s (State.ringReady s) := by
  unfold State.ringReady
  extract_lets -merge +onlyGivenNames x1
  clear_value x1
  extract_lets -merge +onlyGivenNames x2
  clear_value x2
  extract_lets -merge +onlyGivenNames x3
  have h4 : Touches 0x40000000800000000000000000000000000000000000000000000000000000000000000051 s x3 := by unfold x3; exact State.setB_touches _ _ _ rfl 263 rfl grp_RING_STATUS
  clear_value x3
  refine Touches.ite ?_ ?_
  · exact h4
  · refine Touches.ite ?_ ?_
    · exact Touches.step (State.relays_touches ..) rfl h4
    · exact Touches.step (State.relaysFall_touches ..) rfl h4

theorem State.ringGo_touches (s : State) (st : Nat) : Touches 0x40000000800000000000000000000000000000000000000000000000000000000000000051 s (State.ringGo s st) := by
  unfold State.ringGo
  exact Touches.step (State.ringReady_touches ..) rfl (State.setF_touches _ _ _ rfl 263 rfl grp_RING_STATUS)

theorem State.ringEmit_touches (s : State) (w : Nat) (f : RFrame) (seq : Nat) : Touches 0x20000000 s (State.ringEmit s w f seq) := by
  unfold State.ringEmit
  extract_lets -merge +onlyGivenNames x1
  clear_value x1
  exact Touches.step (State.emit_touches ..) rfl (Touches.refl _ _)

theorem State.ringWake_touches (s : State) (w : Nat) : Touches 0x8070000000040800000000000000000000000000000000000000000020000804000000000000000000000000000000000000000000000000000000000000022600211 s (State.ringWake s w) := by
  unfold State.ringWake
  refine Touches.ite ?_ ?_
  · exact Touches.refl _ _
  · extract_lets -merge +onlyGivenNames x1
    clear_value x1
    extract_lets -merge +onlyGivenNames x2
    have h3 : Touches 0x8070000000040800000000000000000000000000000000000000000020000804000000000000000000000000000000000000000000000000000000000000022600211 s x2 := by unfold x2; exact Touches.step (State.setSide_touches ..) rfl (Touches.refl _ _)
    clear_value x2
    extract_lets -merge +onlyGivenNames x4
    have h8 : Touches 0x8070000000040800000000000000000000000000000000000000000020000804000000000000000000000000000000000000000000000000000000000000022600211 s x4 := by
      unfold x4
      refine Touches.foldl (fun t5 y6 h7 => ?_) ?_
      · exact Touches.step (State.emit_touches ..) rfl (Touches.step (State.txCmd_touches ..) rfl h7)
      · exact h3
    clear_value x4
    refine Touches.ite ?_ ?_
    · exact h8
    · exact Touches.trans h8 (State.setF_touches _ _ _ rfl 274 rfl (grp_RING_SIDE_STATUS _))

theorem State.ringPush_touches (w : Nat) (a1 : Nat) (a2 : State) : Touches 0x8070000000040800000000000000000000000000000000000000000060000804000000000000000000000000000000000000000000000000000000000000022600211 a2 (State.ringPush w a1 a2) := by
  fun_induction State.ringPush w a1 a2
  · rename_i x1
    exact Touches.refl _ _
  · rename_i x2 x3 x4 e5
    exact Touches.refl _ _
  · rename_i x6 x7 x8 x9 x10 e11 e12
    exact Touches.refl _ _
  · rename_i x13 x14 x15 x16 x17 e18 e19 x20 x21 x22 e23
    have h24 : Touches 0x8070000000040800000000000000000000000000000000000000000060000804000000000000000000000000000000000000000000000000000000000000022600211 x14 x20 := by unfold x20; exact Touches.step (State.ringWake_touches ..) rfl (Touches.refl _ _)
    have h25 : Touches 0x8070000000040800000000000000000000000000000000000000000060000804000000000000000000000000000000000000000000000000000000000000022600211 x14 x22 := by
      unfold x22
      refine Touches.trans ?_ (State.inc_touches _ _ _ rfl 275 rfl (grp_RING_SIDE_FRAMES_TX _))
      exact Touches.step (State.ringEmit_touches ..) rfl h24
    exact Touches.trans (Touches.step (State.setSide_touches ..) rfl h25) e23

theorem State.ringSend_touches (s : State) (w : Nat) (f : RFrame) : Touches 0x8070000000040800000000000000000000000000000000000000000060000804000000000000000000000000000000000000000000000000000000000000022600211 s (State.ringSend s w f) := by
  unfold State.ringSend
  extract_lets -merge +onlyGivenNames x1
  clear_value x1
  extract_lets -merge +onlyGivenNames x2
  have h3 : Touches 0x8070000000040800000000000000000000000000000000000000000060000804000000000000000000000000000000000000000000000000000000000000022600211 s x2 := by unfold x2; exact Touches.step (State.setSide_touches ..) rfl (Touches.refl _ _)
  clear_value x2
  exact Touches.step (State.ringPush_touches ..) rfl h3

theorem State.ringOn_touches (s : State) (w : Nat) (f : RFrame) : Touches 0x8070000000040800000000000000000000000000000000000000000060000804000000000000000000000000000000000000000000000000000000000000022600211 s (State.ringOn s w f) := by
  unfold State.ringOn
  refine Touches.ite ?_ ?_
  · exact Touches.step (State.ringSend_touches ..) rfl (Touches.refl _ _)
  · exact Touches.step (State.ringSend_touches ..) rfl (Touches.refl _ _)

theorem State.ringBoth_touches (s : State) (f : RFrame) : Touches 0x8070000000040800000000000000000000000000000000000000000060000804000000000000000000000000000000000000000000000000000000000000022600211 s (State.ringBoth s f) := by
  unfold State.ringBoth
  extract_lets -merge +onlyGivenNames x1
  have h2 : Touches 0x8070000000040800000000000000000000000000000000000000000060000804000000000000000000000000000000000000000000000000000000000000022600211 s x1 := by
    unfold x1
    refine Touches.ite ?_ ?_
    · exact Touches.step (State.ringSend_touches ..) rfl (Touches.refl _ _)
    · exact Touches.refl _ _
  clear_value x1
  refine Touches.ite ?_ ?_
  · exact Touches.step (State.ringSend_touches ..) rfl h2
  · exact h2

theorem State.ringInject_touches (s : State) (f : RFrame) : Touches 0x8070000000040800000000000000000000000000000000000000000064040804000000000000000000000000000000000000000000000000000000000000022600215 s (State.ringInject s f) := by
  unfold State.ringInject
  refine Touches.ite ?_ ?_
  · exact Touches.step (State.ringLimited_touches ..) rfl (State.inc_touches _ _ _ rfl 271 rfl grp_RING_CNT_DST_ABSENT)
  · refine Touches.ite ?_ ?_
    · exact Touches.setRing (Touches.refl _ _) rfl
    · extract_lets -merge +onlyGivenNames x1
      clear_value x1
      extract_lets -merge +onlyGivenNames x2
      clear_value x2
      extract_lets -merge +onlyGivenNames x3
      extract_lets -merge +onlyGivenNames x4
      have h5 : Touches 0x8070000000040800000000000000000000000000000000000000000064040804000000000000000000000000000000000000000000000000000000000000022600215 s x4 := by unfold x4; exact Touches.setRing (Touches.refl _ _) rfl
      clear_value x4
      clear_value x3
      exact Touches.step (State.ringSend_touches ..) rfl h5

theorem State.ringAgain_touches (s : State) (f : RFrame) : Touches 0x8070000000040800000000000000000000000000000000000000000064040804000000000000000000000000000000000000000000000000000000000000022600215 s (State.ringAgain s f) := by
  unfold State.ringAgain
  refine Touches.ite ?_ ?_
  · exact Touches.step (State.ringLimited_touches ..) rfl (State.inc_touches _ _ _ rfl 271 rfl grp_RING_CNT_DST_ABSENT)
  · exact Touches.step (State.ringSend_touches ..) rfl (Touches.refl _ _)

theorem State.ringRelease_touches (s : State) : Touches 0x8070000000040800000000000000000000000000000000000000000064040804000000000000000000000000000000000000000000000000000000000000022600215 s (State.ringRelease s) := by
  unfold State.ringRelease
  extract_lets -merge +onlyGivenNames x1
  extract_lets -merge +onlyGivenNames x2
  extract_lets -merge +onlyGivenNames x3
  extract_lets -merge +onlyGivenNames x4
  have h5 : Touches 0x8070000000040800000000000000000000000000000000000000000064040804000000000000000000000000000000000000000000000000000000000000022600215 s x4 := by unfold x4; exact Touches.setRing (Touches.refl _ _) rfl
  clear_value x4
  clear_value x1
  clear_value x2
  clear_value x3
  refine Touches.foldl (fun t6 y7 h8 => ?_) ?_
  · exact Touches.step (State.ringInject_touches ..) rfl h8
  · refine Touches.foldl (fun t9 y10 h11 => ?_) ?_
    · exact Touches.step (State.ringAgain_touches ..) rfl h11
    · exact h5

theorem State.reshardReport_touches (s : State) (sts : Nat) (layout : Nat) : Touches 0x8070000000040800000000000000000000080000010000000000000000000000000000000000000000000000000000000000000000000000000000000000022000211 s (State.reshardReport s sts layout) := by
  unfold State.reshardReport
  refine Touches.trans ?_ (State.setF_touches _ _ _ rfl 360 rfl grp_SCHED_RS_STATUS)
  exact State.report_touches _ _ _ _ _ rfl 333 rfl grp_SCHED_STATUS

theorem State.reshardRead_touches (s : State) (layout : Nat) (va : Nat) (n : Nat) : Touches 0x208070000000040801010000002000000000080000010001e9c080000000000000000000000000000000000000000000000000000000000000000000000000026000615 s (State.reshardRead s layout va n).2 := by
  unfold State.reshardRead
  split
  · rename_i x1 x2 x3 e4
    have h5 : Touches 0x208070000000040801010000002000000000080000010001e9c080000000000000000000000000000000000000000000000000000000000000000000000000026000615 s x3 := Touches.of_eq (fun d => d.2) e4 (Touches.step (State.vread_touches ..) rfl (Touches.refl _ _))
    exact h5
  · rename_i x6 x7 x8 e9
    have h10 : Touches 0x208070000000040801010000002000000000080000010001e9c080000000000000000000000000000000000000000000000000000000000000000000000000026000615 s x8 := Touches.of_eq (fun d => d.2) e9 (Touches.step (State.vread_touches ..) rfl (Touches.refl _ _))
    split
    rename_i x11 x12 x13 e14
    have h15 : Touches 0x208070000000040801010000002000000000080000010001e9c080000000000000000000000000000000000000000000000000000000000000000000000000026000615 s x13 := by
      refine Touches.of_eq (fun d => d.2) e14 ?_
      exact Touches.step (State.freshList_touches ..) rfl (Touches.step (State.reshardReport_touches ..) rfl h10)
    exact h15

theorem State.reshardWrite_touches (s : State) (layout : Nat) (va : Nat) (b : List Byte) : Touches 0x807000000004080101000000000000000008000001000001c080000000000000000000000000000000000000000000000000000000000000000000000000026000617 s (State.reshardWrite s layout va b) := by
  unfold State.reshardWrite
  split
  · rename_i x1 x2 e3
    have h4 : Touches 0x807000000004080101000000000000000008000001000001c080000000000000000000000000000000000000000000000000000000000000000000000000026000617 s x2 := Touches.of_eq (fun d => d.2) e3 (Touches.step (State.vwrite_touches ..) rfl (Touches.refl _ _))
    exact h4
  · rename_i x5 x6 x7 e8
    have h9 : Touches 0x807000000004080101000000000000000008000001000001c080000000000000000000000000000000000000000000000000000000000000000000000000026000617 s x7 := Touches.of_eq (fun d => d.2) e8 (Touches.step (State.vwrite_touches ..) rfl (Touches.refl _ _))
    exact Touches.step (State.reshardReport_touches ..) rfl h9

theorem State.sendPiece_touches (dst : Nat) (layout : Nat) (a2 : Nat) (a3 : State) (a4 : Nat) (a5 : Nat) : Touches 0x208070000000040801010000002000000000080000010001e9c080000064040804000000000000000000000000000000000000000000000000000000000000026600615 a3 (State.sendPiece dst layout a2 a3 a4 a5) := by
  fun_induction State.sendPiece dst layout a2 a3 a4 a5
  · rename_i x1 x2 x3
    exact Touches.refl _ _
  · rename_i x4 x5 x6 x7 x8 x9 x10 e11 x12 e13
    have h14 : Touches 0x208070000000040801010000002000000000080000010001e9c080000064040804000000000000000000000000000000000000000000000000000000000000026600615 x5 x10 := Touches.of_eq (fun d => d.2) e11 (Touches.step (State.reshardRead_touches ..) rfl (Touches.refl _ _))
    have h15 : Touches 0x208070000000040801010000002000000000080000010001e9c080000064040804000000000000000000000000000000000000000000000000000000000000026600615 x5 x12 := by unfold x12; exact Touches.step (State.ringInject_touches ..) rfl h14
    exact Touches.trans h15 e13

theorem State.reshardEnd_touches (s : State) : Touches 0x807000000004080101000000280000000008000001500001c080000000000000000000000000000000000000000000000000000000000000000000000000026400617 s (State.reshardEnd s) := by
  unfold State.reshardEnd
  split
  · exact Touches.refl _ _
  · refine Touches.ite ?_ ?_
    · exact Touches.refl _ _
    · extract_lets -merge +onlyGivenNames x1
      extract_lets -merge +onlyGivenNames x2
      have h3 : Touches 0x807000000004080101000000280000000008000001500001c080000000000000000000000000000000000000000000000000000000000000000000000000026400617 s x2 := by
        unfold x2
        refine Touches.trans ?_ (State.setB_touches _ _ _ rfl 360 rfl grp_SCHED_RS_STATUS)
        exact Touches.setRing (Touches.refl _ _) rfl
      clear_value x2
      clear_value x1
      extract_lets -merge +onlyGivenNames x4
      have h5 : Touches 0x807000000004080101000000280000000008000001500001c080000000000000000000000000000000000000000000000000000000000000000000000000026400617 s x4 := by
        unfold x4
        refine Touches.ite ?_ ?_
        · exact Touches.trans h3 (State.setF_touches _ _ _ rfl 360 rfl grp_SCHED_RS_STATUS)
        · exact h3
      clear_value x4
      extract_lets -merge +onlyGivenNames x6
      have h7 : Touches 0x807000000004080101000000280000000008000001500001c080000000000000000000000000000000000000000000000000000000000000000000000000026400617 s x6 := by
        unfold x6
        refine Touches.ite ?_ ?_
        · exact h5
        · exact Touches.step (State.reshardReport_touches ..) rfl h5
      clear_value x6
      extract_lets -merge +onlyGivenNames x8
      have h9 : Touches 0x807000000004080101000000280000000008000001500001c080000000000000000000000000000000000000000000000000000000000000000000000000026400617 s x8 := by
        unfold x8
        refine Touches.ite ?_ ?_
        · exact h7
        · exact Touches.step (State.reshardReport_touches ..) rfl h7
      clear_value x8
      extract_lets -merge +onlyGivenNames x10
      clear_value x10
      extract_lets -merge +onlyGivenNames x11
      extract_lets -merge +onlyGivenNames x12
      have h13 : Touches 0x807000000004080101000000280000000008000001500001c080000000000000000000000000000000000000000000000000000000000000000000000000026400617 s x12 := by unfold x12; exact Touches.step (State.reshardWrite_touches ..) rfl h9
      clear_value x12
      clear_value x11
      extract_lets -merge +onlyGivenNames x14
      have h15 : Touches 0x807000000004080101000000280000000008000001500001c080000000000000000000000000000000000000000000000000000000000000000000000000026400617 s x14 := by unfold x14; exact Touches.step (State.cellAdd_touches ..) rfl h13
      clear_value x14
      refine Touches.ite ?_ ?_
      · exact h15
      · exact Touches.trans h15 (State.voided_touches _ _ rfl 400 rfl grp_SYS_REPRO_STATUS)

theorem State.reshardSend_touches (layout : Nat) (a1 : List (Nat × List (Nat × Nat × Nat))) (a2 : State) : Touches 0x208070000000040801010000002000000000080000010001e9c080000064040804000000000000000000000000000000000000000000000000000000000000026600617 a2 (State.reshardSend layout a1 a2) := by
  fun_induction State.reshardSend layout a1 a2
  · rename_i x1
    exact Touches.refl _ _
  · rename_i x2 x3 x4 x5 x6 e7
    have h21 : Touches 0x208070000000040801010000002000000000080000010001e9c080000064040804000000000000000000000000000000000000000000000000000000000000026600617 x5 x6 := by
      unfold x6
      refine Touches.ite ?_ ?_
      · refine Touches.foldl (fun t8 y9 h10 => ?_) ?_
        · split
          rename_i x11 x12 x13 e14
          have h15 : Touches 0x208070000000040801010000002000000000080000010001e9c080000064040804000000000000000000000000000000000000000000000000000000000000026600617 x5 x13 := Touches.of_eq (fun d => d.2) e14 (Touches.step (State.reshardRead_touches ..) rfl h10)
          exact Touches.step (State.reshardWrite_touches ..) rfl h15
        · exact Touches.refl _ _
      · extract_lets -merge +onlyGivenNames x16
        have h20 : Touches 0x208070000000040801010000002000000000080000010001e9c080000064040804000000000000000000000000000000000000000000000000000000000000026600617 x5 x16 := by
          unfold x16
          refine Touches.foldl (fun t17 y18 h19 => ?_) ?_
          · exact Touches.step (State.sendPiece_touches ..) rfl h19
          · exact Touches.refl _ _
        clear_value x16
        refine Touches.ite ?_ ?_
        · exact h20
        · exact Touches.step (State.ringInject_touches ..) rfl h20
    exact Touches.trans h21 e7

theorem State.reshardStart_touches (s : State) (old : LayoutRec) (new : LayoutRec) : Touches 0x208070000000040801010000002800000000180000015001e9c080000064040804000000000000000000000000000000000000000000000000000000000000026600617 s (State.reshardStart s old new) := by
  unfold State.reshardStart
  extract_lets -merge +onlyGivenNames x1
  clear_value x1
  extract_lets -merge +onlyGivenNames x2
  clear_value x2
  extract_lets -merge +onlyGivenNames x3
  have h4 : Touches 0x208070000000040801010000002800000000180000015001e9c080000064040804000000000000000000000000000000000000000000000000000000000000026600617 s x3 := by unfold x3; exact Touches.step (State.reshardSend_touches ..) rfl (Touches.refl _ _)
  clear_value x3
  extract_lets -merge +onlyGivenNames x5
  extract_lets -merge +onlyGivenNames x6
  extract_lets -merge +onlyGivenNames x7
  extract_lets -merge +onlyGivenNames x8
  extract_lets -merge +onlyGivenNames x9
  clear_value x9
  extract_lets -merge +onlyGivenNames x10
  clear_value x10
  extract_lets -merge +onlyGivenNames x11
  have h12 : Touches 0x208070000000040801010000002800000000180000015001e9c080000064040804000000000000000000000000000000000000000000000000000000000000026600617 s x11 := by
    unfold x11
    refine Touches.trans ?_ (State.inc_touches _ _ _ rfl 361 rfl grp_SCHED_RS_BYTES)
    refine Touches.trans ?_ (State.setF_touches _ _ _ rfl 360 rfl grp_SCHED_RS_STATUS)
    exact Touches.trans h4 (State.setB_touches _ _ _ rfl 360 rfl grp_SCHED_RS_STATUS)
  clear_value x11
  clear_value x5
  clear_value x6
  clear_value x7
  clear_value x8
  exact Touches.step (State.reshardEnd_touches ..) rfl (Touches.setRing h12 rfl)

theorem State.reshardFrame_touches (s : State) (src : Nat) (lost : Nat) (b : List Byte) : Touches 0x807000000004080101000000000000000018000001000001c080000000000000000000000000000000000000000000000000000000000000000000000000026400617 s (State.reshardFrame s src lost b) := by
  unfold State.reshardFrame
  split
  · exact Touches.refl _ _
  · split
    extract_lets -merge +onlyGivenNames x1
    clear_value x1
    refine Touches.ite ?_ ?_
    · extract_lets -merge +onlyGivenNames x2
      clear_value x2
      exact Touches.setRing (Touches.refl _ _) rfl
    · split
      · exact Touches.setRing (Touches.refl _ _) rfl
      · extract_lets -merge +onlyGivenNames x3
        extract_lets -merge +onlyGivenNames x4
        have h5 : Touches 0x807000000004080101000000000000000018000001000001c080000000000000000000000000000000000000000000000000000000000000000000000000026400617 s x4 := by unfold x4; exact Touches.setRing (Touches.refl _ _) rfl
        clear_value x4
        clear_value x3
        refine Touches.step (State.reshardWrite_touches ..) rfl ?_
        exact Touches.trans h5 (State.inc_touches _ _ _ rfl 361 rfl grp_SCHED_RS_BYTES)

theorem State.quiesceOn_touches (s : State) : Touches 0x8070000000040800000000000000000000000000000000000000000060000804000000000000000000000000000000000000000000000000000000000000022600211 s (State.quiesceOn s) := by
  unfold State.quiesceOn
  refine Touches.ite ?_ ?_
  · exact Touches.refl _ _
  · extract_lets -merge +onlyGivenNames x1
    extract_lets -merge +onlyGivenNames x2
    clear_value x2
    extract_lets -merge +onlyGivenNames x3
    extract_lets -merge +onlyGivenNames x4
    have h5 : Touches 0x8070000000040800000000000000000000000000000000000000000060000804000000000000000000000000000000000000000000000000000000000000022600211 s x4 := by unfold x4; exact Touches.setRing (Touches.refl _ _) rfl
    clear_value x4
    clear_value x1
    clear_value x3
    refine Touches.foldl (fun t6 y7 h8 => ?_) ?_
    · exact Touches.step (State.ringOn_touches ..) rfl h8
    · exact h5

theorem State.ringStop_touches (s : State) : Touches 0x400000 s (State.ringStop s) := by
  unfold State.ringStop
  refine Touches.ite ?_ ?_
  · exact Touches.refl _ _
  · exact Touches.setRing (Touches.refl _ _) rfl

theorem State.masterStart_touches (s : State) : Touches 0x8070000000040800000000000000000000000000000000000000000060000804000000000000000000000000000000000000000000000000000000000000022600211 s (State.masterStart s) := by
  unfold State.masterStart
  refine Touches.ite ?_ ?_
  · exact Touches.refl _ _
  · extract_lets -merge +onlyGivenNames x1
    split
    · unfold x1
      extract_lets -merge +onlyGivenNames x2
      extract_lets -merge +onlyGivenNames x3
      have h4 : Touches 0x8070000000040800000000000000000000000000000000000000000060000804000000000000000000000000000000000000000000000000000000000000022600211 s x3 := by unfold x3; exact Touches.step (State.ringStop_touches ..) rfl (Touches.setRing (Touches.refl _ _) rfl)
      clear_value x3
      clear_value x2
      extract_lets -merge +onlyGivenNames x5
      extract_lets -merge +onlyGivenNames x6
      have h7 : Touches 0x8070000000040800000000000000000000000000000000000000000060000804000000000000000000000000000000000000000000000000000000000000022600211 s x6 := by unfold x6; exact Touches.setRing h4 rfl
      clear_value x6
      clear_value x5
      extract_lets -merge +onlyGivenNames x8
      have h9 : Touches 0x8070000000040800000000000000000000000000000000000000000060000804000000000000000000000000000000000000000000000000000000000000022600211 s x8 := by unfold x8; exact Touches.step (State.ringBoth_touches ..) rfl h7
      clear_value x8
      exact Touches.step (State.quiesceOn_touches ..) rfl (Touches.setRing h9 rfl)
    · split
      · refine Touches.ite ?_ ?_
        · exact Touches.refl _ _
        · unfold x1
          extract_lets -merge +onlyGivenNames x10
          extract_lets -merge +onlyGivenNames x11
          have h12 : Touches 0x8070000000040800000000000000000000000000000000000000000060000804000000000000000000000000000000000000000000000000000000000000022600211 s x11 := by unfold x11; exact Touches.step (State.ringStop_touches ..) rfl (Touches.setRing (Touches.refl _ _) rfl)
          clear_value x11
          clear_value x10
          extract_lets -merge +onlyGivenNames x13
          extract_lets -merge +onlyGivenNames x14
          have h15 : Touches 0x8070000000040800000000000000000000000000000000000000000060000804000000000000000000000000000000000000000000000000000000000000022600211 s x14 := by unfold x14; exact Touches.setRing h12 rfl
          clear_value x14
          clear_value x13
          extract_lets -merge +onlyGivenNames x16
          have h17 : Touches 0x8070000000040800000000000000000000000000000000000000000060000804000000000000000000000000000000000000000000000000000000000000022600211 s x16 := by unfold x16; exact Touches.step (State.ringBoth_touches ..) rfl h15
          clear_value x16
          exact Touches.step (State.quiesceOn_touches ..) rfl (Touches.setRing h17 rfl)
      · exact Touches.refl _ _

theorem State.masterGone_touches (s : State) (present : Nat) : Touches 0x8070000000040800000000000000000000000000000000000000000000140000000000000000000000000000000000000000000000000000000000000000022000211 s (State.masterGone s present) := by
  unfold State.masterGone
  refine Touches.ite ?_ ?_
  · exact Touches.step (State.ringReport_touches ..) rfl (State.setB_touches _ _ _ rfl 265 rfl grp_RING_LAYOUT)
  · exact Touches.refl _ _

theorem State.reshardCut_touches (s : State) (present : Nat) : Touches 0x400000 s (State.reshardCut s present) := by
  unfold State.reshardCut
  exact Touches.setRing (Touches.refl _ _) rfl

theorem State.switchTopo_touches (s : State) (layout : Nat) (present : Nat) (epoch : Nat) : Touches 0x80700000000408000000000000000000000000000000000000000000181c0000000800000000000000000000000000000000000000000000000000000000022400251 s (State.switchTopo s layout present epoch) := by
  unfold State.switchTopo
  extract_lets -merge +onlyGivenNames x1
  clear_value x1
  extract_lets -merge +onlyGivenNames x2
  have h3 : Touches 0x80700000000408000000000000000000000000000000000000000000181c0000000800000000000000000000000000000000000000000000000000000000022400251 s x2 := by
    unfold x2
    refine Touches.ite ?_ ?_
    · refine Touches.trans ?_ (State.raise_touches _ _ _ rfl 273 rfl grp_RING_QUIESCE_US)
      exact State.inc_touches _ _ _ rfl 272 rfl grp_RING_CNT_QUIESCE
    · exact Touches.refl _ _
  clear_value x2
  extract_lets -merge +onlyGivenNames x4
  have h5 : Touches 0x80700000000408000000000000000000000000000000000000000000181c0000000800000000000000000000000000000000000000000000000000000000022400251 s x4 := by
    unfold x4
    refine Touches.trans ?_ (State.setF_touches _ _ _ rfl 265 rfl grp_RING_LAYOUT)
    exact Touches.trans h3 (State.setF_touches _ _ _ rfl 264 rfl grp_RING_TOPO)
  clear_value x4
  extract_lets -merge +onlyGivenNames x6
  have h7 : Touches 0x80700000000408000000000000000000000000000000000000000000181c0000000800000000000000000000000000000000000000000000000000000000022400251 s x6 := by
    unfold x6
    refine Touches.step (State.reshardCut_touches ..) rfl ?_
    refine Touches.step (State.masterGone_touches ..) rfl ?_
    exact Touches.trans h5 (State.setF_touches _ _ _ rfl 264 rfl grp_RING_TOPO)
  clear_value x6
  extract_lets -merge +onlyGivenNames x8
  clear_value x8
  extract_lets -merge +onlyGivenNames x9
  have h10 : Touches 0x80700000000408000000000000000000000000000000000000000000181c0000000800000000000000000000000000000000000000000000000000000000022400251 s x9 := by
    unfold x9
    refine Touches.trans ?_ (State.setB_touches _ _ _ rfl 263 rfl grp_RING_STATUS)
    exact Touches.trans h7 (State.setF_touches _ _ _ rfl 264 rfl grp_RING_TOPO)
  clear_value x9
  extract_lets -merge +onlyGivenNames x11
  clear_value x11
  extract_lets -merge +onlyGivenNames x12
  clear_value x12
  exact Touches.step (State.ringGo_touches ..) rfl h10

theorem State.switchApply_touches (s : State) (layout : Nat) (present : Nat) (epoch : Nat) : Touches 0x208070000000040801010000002800000000180000015001e9c08000007c1c0804000800000000000000000000000000000000000000000000000000000000026600657 s (State.switchApply s layout present epoch) := by
  unfold State.switchApply
  extract_lets -merge +onlyGivenNames x1
  clear_value x1
  extract_lets -merge +onlyGivenNames x2
  clear_value x2
  extract_lets -merge +onlyGivenNames x3
  have h4 : Touches 0x208070000000040801010000002800000000180000015001e9c08000007c1c0804000800000000000000000000000000000000000000000000000000000000026600657 s x3 := by unfold x3; exact Touches.step (State.switchTopo_touches ..) rfl (Touches.refl _ _)
  clear_value x3
  extract_lets -merge +onlyGivenNames x5
  have h6 : Touches 0x208070000000040801010000002800000000180000015001e9c08000007c1c0804000800000000000000000000000000000000000000000000000000000000026600657 s x5 := by
    unfold x5
    refine Touches.ite ?_ ?_
    · exact h4
    · exact Touches.step (State.ringReport_touches ..) rfl h4
  clear_value x5
  extract_lets -merge +onlyGivenNames x7
  have h8 : Touches 0x208070000000040801010000002800000000180000015001e9c08000007c1c0804000800000000000000000000000000000000000000000000000000000000026600657 s x7 := by
    unfold x7
    refine Touches.ite ?_ ?_
    · exact Touches.trans h6 (State.setB_touches _ _ _ rfl 265 rfl grp_RING_LAYOUT)
    · exact h6
  clear_value x7
  extract_lets -merge +onlyGivenNames x9
  clear_value x9
  extract_lets -merge +onlyGivenNames x10
  have h11 : Touches 0x208070000000040801010000002800000000180000015001e9c08000007c1c0804000800000000000000000000000000000000000000000000000000000000026600657 s x10 := by unfold x10; exact Touches.step (State.ringBoth_touches ..) rfl h8
  clear_value x10
  extract_lets -merge +onlyGivenNames x12
  have h13 : Touches 0x208070000000040801010000002800000000180000015001e9c08000007c1c0804000800000000000000000000000000000000000000000000000000000000026600657 s x12 := by unfold x12; exact Touches.step (State.ringRelease_touches ..) rfl h11
  clear_value x12
  refine Touches.ite ?_ ?_
  · exact h13
  · split
    · exact Touches.step (State.reshardStart_touches ..) rfl h13
    · rename_i x14 x15 e16
      exact h13

theorem State.masterSwitch_touches (s : State) : Touches 0x208070000000040801010000002800000000180000015001e9c08000007c1c0804000800000000000000000000000000000000000000000000000000000000026600657 s (State.masterSwitch s) := by
  unfold State.masterSwitch
  split
  · exact Touches.refl _ _
  · extract_lets -merge +onlyGivenNames x1
    clear_value x1
    refine Touches.ite ?_ ?_
    · exact Touches.refl _ _
    · extract_lets -merge +onlyGivenNames x2
      extract_lets -merge +onlyGivenNames x3
      have h4 : Touches 0x208070000000040801010000002800000000180000015001e9c08000007c1c0804000800000000000000000000000000000000000000000000000000000000026600657 s x3 := by unfold x3; exact Touches.setRing (Touches.refl _ _) rfl
      clear_value x3
      clear_value x2
      extract_lets -merge +onlyGivenNames x5
      clear_value x5
      exact Touches.step (State.masterStart_touches ..) rfl (Touches.step (State.switchApply_touches ..) rfl h4)

theorem State.topoNew_touches (s : State) (present : Nat) : Touches 0x80700000000408000000000000000000000000000000000000000000601c0804000000000000000000000000000000000000000000000000000000000000022600211 s (State.topoNew s present) := by
  unfold State.topoNew
  extract_lets -merge +onlyGivenNames x1
  clear_value x1
  refine Touches.ite ?_ ?_
  · exact Touches.refl _ _
  · extract_lets -merge +onlyGivenNames x2
    have h3 : Touches 0x80700000000408000000000000000000000000000000000000000000601c0804000000000000000000000000000000000000000000000000000000000000022600211 s x2 := by unfold x2; exact Touches.step (State.masterGone_touches ..) rfl (Touches.refl _ _)
    clear_value x2
    extract_lets -merge +onlyGivenNames x4
    have h5 : Touches 0x80700000000408000000000000000000000000000000000000000000601c0804000000000000000000000000000000000000000000000000000000000000022600211 s x4 := by
      unfold x4
      refine Touches.trans ?_ (State.setF_touches _ _ _ rfl 264 rfl grp_RING_TOPO)
      exact Touches.trans h3 (State.setB_touches _ _ _ rfl 263 rfl grp_RING_STATUS)
    clear_value x4
    exact Touches.step (State.masterStart_touches ..) rfl (Touches.setRing h5 rfl)

theorem State.linkDrop_touches (s : State) (w : Nat) : Touches 0x8070000000040800000000000000000000000000000000000000000060000804000000000000000000000000000000000000000000000000000000000000022600211 s (State.linkDrop s w) := by
  unfold State.linkDrop
  extract_lets -merge +onlyGivenNames x1
  clear_value x1
  extract_lets -merge +onlyGivenNames x2
  extract_lets -merge +onlyGivenNames x3
  extract_lets -merge +onlyGivenNames x4
  have h5 : Touches 0x8070000000040800000000000000000000000000000000000000000060000804000000000000000000000000000000000000000000000000000000000000022600211 s x4 := by unfold x4; exact Touches.setRing (Touches.refl _ _) rfl
  clear_value x4
  clear_value x2
  clear_value x3
  extract_lets -merge +onlyGivenNames x6
  have h7 : Touches 0x8070000000040800000000000000000000000000000000000000000060000804000000000000000000000000000000000000000000000000000000000000022600211 s x6 := by unfold x6; exact Touches.step (State.setSide_touches ..) rfl h5
  clear_value x6
  extract_lets -merge +onlyGivenNames x8
  have h12 : Touches 0x8070000000040800000000000000000000000000000000000000000060000804000000000000000000000000000000000000000000000000000000000000022600211 s x8 := by
    unfold x8
    refine Touches.foldl (fun t9 y10 h11 => ?_) ?_
    · refine Touches.step (State.rxUnlock_touches ..) rfl ?_
      exact Touches.trans h11 (State.setB_touches _ _ _ rfl 247 rfl (grp_LANE_STATUS _))
    · exact h7
  clear_value x8
  refine Touches.step (State.quiesceOn_touches ..) rfl ?_
  refine Touches.trans ?_ (State.setF_touches _ _ _ rfl 274 rfl (grp_RING_SIDE_STATUS _))
  exact Touches.trans h12 (State.setF_touches _ _ _ rfl 274 rfl (grp_RING_SIDE_STATUS _))

theorem State.linkTrain_touches (s : State) (w : Nat) : Touches 0x8070000000040800000000000000000000000000000000000000001060000804000000000000000000000000000000000000000000000000000000000000022600211 s (State.linkTrain s w) := by
  unfold State.linkTrain
  extract_lets -merge +onlyGivenNames x1
  have h2 : Touches 0x8070000000040800000000000000000000000000000000000000001060000804000000000000000000000000000000000000000000000000000000000000022600211 s x1 := by unfold x1; exact Touches.step (State.linkDrop_touches ..) rfl (Touches.refl _ _)
  clear_value x1
  extract_lets -merge +onlyGivenNames x3
  clear_value x3
  extract_lets -merge +onlyGivenNames x4
  have h5 : Touches 0x8070000000040800000000000000000000000000000000000000001060000804000000000000000000000000000000000000000000000000000000000000022600211 s x4 := by unfold x4; exact Touches.step (State.setSide_touches ..) rfl h2
  clear_value x4
  extract_lets -merge +onlyGivenNames x6
  have h15 : Touches 0x8070000000040800000000000000000000000000000000000000001060000804000000000000000000000000000000000000000000000000000000000000022600211 s x6 := by
    unfold x6
    refine Touches.foldl (fun t7 y8 h9 => ?_) ?_
    · extract_lets -merge +onlyGivenNames x10
      have h11 : Touches 0x8070000000040800000000000000000000000000000000000000001060000804000000000000000000000000000000000000000000000000000000000000022600211 s x10 := by
        unfold x10
        refine Touches.ite ?_ ?_
        · exact h9
        · exact Touches.step (State.rxGo_touches ..) rfl h9
      clear_value x10
      extract_lets -merge +onlyGivenNames x12
      clear_value x12
      extract_lets -merge +onlyGivenNames x13
      have h14 : Touches 0x8070000000040800000000000000000000000000000000000000001060000804000000000000000000000000000000000000000000000000000000000000022600211 s x13 := by unfold x13; exact Touches.step (State.setLn_touches ..) rfl h11
      clear_value x13
      refine Touches.ite ?_ ?_
      · exact h14
      · exact Touches.step (State.txCmd_touches ..) rfl h14
    · exact h5
  clear_value x6
  refine Touches.trans ?_ (State.inc_touches _ _ _ rfl 281 rfl (grp_RING_SIDE_TRAIN _))
  exact Touches.trans h15 (State.setF_touches _ _ _ rfl 274 rfl (grp_RING_SIDE_STATUS _))

theorem State.ringBreak_touches (s : State) : Touches 0x40000000800000000000000000000000000000000000000000000000000000000000400051 s (State.ringBreak s) := by
  unfold State.ringBreak
  extract_lets -merge +onlyGivenNames x1
  have h2 : Touches 0x40000000800000000000000000000000000000000000000000000000000000000000400051 s x1 := by unfold x1; exact Touches.step (State.ringStop_touches ..) rfl (Touches.refl _ _)
  clear_value x1
  exact Touches.step (State.ringGo_touches ..) rfl (Touches.setRing h2 rfl)

theorem State.linkLost_touches (s : State) (w : Nat) (test : Bool) : Touches 0x8070000000040800000000000000000000000000000000000000001060040804000800000000000000000000000000000000000000000000000000000000022600251 s (State.linkLost s w test) := by
  unfold State.linkLost
  extract_lets -merge +onlyGivenNames x1
  extract_lets -merge +onlyGivenNames x2
  clear_value x2
  extract_lets -merge +onlyGivenNames x3
  have h4 : Touches 0x8070000000040800000000000000000000000000000000000000001060040804000800000000000000000000000000000000000000000000000000000000022600251 s x3 := by
    unfold x3
    refine Touches.ite ?_ ?_
    · exact Touches.step (State.setSide_touches ..) rfl (Touches.refl _ _)
    · exact Touches.refl _ _
  clear_value x3
  extract_lets -merge +onlyGivenNames x5
  have h6 : Touches 0x8070000000040800000000000000000000000000000000000000001060040804000800000000000000000000000000000000000000000000000000000000022600251 s x5 := by
    unfold x5
    refine Touches.ite ?_ ?_
    · refine Touches.trans ?_ (State.setF_touches _ _ _ rfl 274 rfl (grp_RING_SIDE_STATUS _))
      exact Touches.step (State.linkDrop_touches ..) rfl h4
    · exact Touches.step (State.linkTrain_touches ..) rfl h4
  clear_value x5
  refine Touches.ite ?_ ?_
  · extract_lets -merge +onlyGivenNames x7
    have h8 : Touches 0x8070000000040800000000000000000000000000000000000000001060040804000800000000000000000000000000000000000000000000000000000000022600251 s x7 := by unfold x7; exact Touches.step (State.ringBreak_touches ..) rfl (Touches.step (State.ringReport_touches ..) rfl h6)
    clear_value x7
    refine Touches.ite ?_ ?_
    · exact Touches.step (State.ringSend_touches ..) rfl h8
    · exact h8
  · exact h6

theorem State.ringLeft_touches (s : State) : Touches 0x8070000000040800000000000000000000000000000000000000000060140804000800000000000000000000000000000000000000000000000000000000022600251 s (State.ringLeft s) := by
  unfold State.ringLeft
  extract_lets -merge +onlyGivenNames x1
  extract_lets -merge +onlyGivenNames x2
  have h10 : Touches 0x8070000000040800000000000000000000000000000000000000000060140804000800000000000000000000000000000000000000000000000000000000022600251 s x2 := by
    unfold x2
    refine Touches.foldl (fun t3 y4 h5 => ?_) ?_
    · extract_lets -merge +onlyGivenNames x6
      have h7 : Touches 0x8070000000040800000000000000000000000000000000000000000060140804000800000000000000000000000000000000000000000000000000000000022600251 s x6 := by
        unfold x6
        refine Touches.ite ?_ ?_
        · exact Touches.step (State.ringReport_touches ..) rfl h5
        · exact h5
      clear_value x6
      refine Touches.ite ?_ ?_
      · exact h7
      · extract_lets -merge +onlyGivenNames x8
        have h9 : Touches 0x8070000000040800000000000000000000000000000000000000000060140804000800000000000000000000000000000000000000000000000000000000022600251 s x8 := by unfold x8; exact Touches.step (State.linkDrop_touches ..) rfl h7
        clear_value x8
        exact Touches.step (State.setSide_touches ..) rfl h9
    · exact Touches.refl _ _
  extract_lets -merge +onlyGivenNames x11
  extract_lets -merge +onlyGivenNames x12
  have h13 : Touches 0x8070000000040800000000000000000000000000000000000000000060140804000800000000000000000000000000000000000000000000000000000000022600251 s x12 := by unfold x12; exact Touches.setRing h10 rfl
  extract_lets -merge +onlyGivenNames x14
  have h15 : Touches 0x8070000000040800000000000000000000000000000000000000000060140804000800000000000000000000000000000000000000000000000000000000022600251 s x14 := by
    unfold x14
    refine Touches.ite ?_ ?_
    · refine Touches.step (State.ringReport_touches ..) rfl ?_
      exact Touches.trans h13 (State.setB_touches _ _ _ rfl 265 rfl grp_RING_LAYOUT)
    · exact h13
  extract_lets -merge +onlyGivenNames x16
  have h17 : Touches 0x8070000000040800000000000000000000000000000000000000000060140804000800000000000000000000000000000000000000000000000000000000022600251 s x16 := by unfold x16; exact Touches.trans h15 (State.setB_touches _ _ _ rfl 263 rfl grp_RING_STATUS)
  refine Touches.ite ?_ ?_
  · exact Touches.step (State.ringGo_touches ..) rfl h17
  · exact h17

theorem State.discoverStart_touches (s : State) : Touches 0x8070000000040800000000000000000000000000000000000000000060040804000800000000000000000000000000000000000000000000000000000000022600251 s (State.discoverStart s) := by
  unfold State.discoverStart
  refine Touches.ite ?_ ?_
  · extract_lets -merge +onlyGivenNames x1
    have h2 : Touches 0x8070000000040800000000000000000000000000000000000000000060040804000800000000000000000000000000000000000000000000000000000000022600251 s x1 := by
      unfold x1
      refine Touches.ite ?_ ?_
      · exact Touches.step (State.ringGo_touches ..) rfl (Touches.refl _ _)
      · exact Touches.refl _ _
    clear_value x1
    exact Touches.step (State.ringSend_touches ..) rfl (Touches.setRing h2 rfl)
  · exact Touches.refl _ _

theorem State.ringJudge_touches (s : State) (l : List RingMember) : Touches 0x80700000000408000000000000000000000000000000000000000000601c0804000800000000000000000000000000000000000000000000000000000000022600251 s (State.ringJudge s l) := by
  unfold State.ringJudge
  extract_lets -merge +onlyGivenNames x1
  extract_lets -merge +onlyGivenNames x2
  have h3 : Touches 0x80700000000408000000000000000000000000000000000000000000601c0804000800000000000000000000000000000000000000000000000000000000022600251 s x2 := by unfold x2; exact Touches.setRing (Touches.refl _ _) rfl
  clear_value x2
  clear_value x1
  extract_lets -merge +onlyGivenNames x4
  clear_value x4
  extract_lets -merge +onlyGivenNames x5
  clear_value x5
  extract_lets -merge +onlyGivenNames x6
  split
  · unfold x6
    exact Touches.step (State.ringGo_touches ..) rfl (Touches.step (State.ringReport_touches ..) rfl h3)
  · extract_lets -merge +onlyGivenNames x7
    split
    · unfold x6
      exact Touches.step (State.ringGo_touches ..) rfl (Touches.step (State.ringReport_touches ..) rfl h3)
    · extract_lets -merge +onlyGivenNames x8
      clear_value x8
      split
      · unfold x6
        exact Touches.step (State.ringGo_touches ..) rfl (Touches.step (State.ringReport_touches ..) rfl h3)
      · extract_lets -merge +onlyGivenNames x9
        have h10 : Touches 0x80700000000408000000000000000000000000000000000000000000601c0804000800000000000000000000000000000000000000000000000000000000022600251 s x9 := by unfold x9; exact Touches.step (State.ringStop_touches ..) rfl h3
        clear_value x9
        clear_value x7
        extract_lets -merge +onlyGivenNames x11
        have h12 : Touches 0x80700000000408000000000000000000000000000000000000000000601c0804000800000000000000000000000000000000000000000000000000000000022600251 s x11 := by
          unfold x11
          refine Touches.ite ?_ ?_
          · exact Touches.step (State.ringGo_touches ..) rfl h10
          · exact h10
        clear_value x11
        exact Touches.step (State.topoNew_touches ..) rfl h12

theorem State.ringAcked_touches (s : State) (w : Nat) (ack : Nat) : Touches 0x8070000000040800000000000000000000000000000000000000000860000804000000000000000000000000000000000000000000000000000000000000022600211 s (State.ringAcked s w ack) := by
  unfold State.ringAcked
  extract_lets -merge +onlyGivenNames x1
  clear_value x1
  extract_lets -merge +onlyGivenNames x2
  clear_value x2
  extract_lets -merge +onlyGivenNames x3
  clear_value x3
  refine Touches.ite ?_ ?_
  · exact Touches.refl _ _
  · extract_lets -merge +onlyGivenNames x4
    extract_lets -merge +onlyGivenNames x5
    have h9 : Touches 0x8070000000040800000000000000000000000000000000000000000860000804000000000000000000000000000000000000000000000000000000000000022600211 s x5 := by
      unfold x5
      refine Touches.foldl (fun t6 y7 h8 => ?_) ?_
      · refine Touches.ite ?_ ?_
        · exact h8
        · exact Touches.trans h8 (State.raise_touches _ _ _ rfl 280 rfl (grp_RING_SIDE_RETRY_HWM _))
      · exact Touches.refl _ _
    clear_value x5
    clear_value x4
    extract_lets -merge +onlyGivenNames x10
    have h11 : Touches 0x8070000000040800000000000000000000000000000000000000000860000804000000000000000000000000000000000000000000000000000000000000022600211 s x10 := by unfold x10; exact Touches.step (State.setSide_touches ..) rfl h9
    clear_value x10
    exact Touches.step (State.quiesceOn_touches ..) rfl (Touches.step (State.ringPush_touches ..) rfl h11)

theorem State.ringNak_touches (s : State) (w : Nat) : Touches 0x20400000 s (State.ringNak s w) := by
  unfold State.ringNak
  extract_lets -merge +onlyGivenNames x1
  clear_value x1
  refine Touches.ite ?_ ?_
  · exact Touches.refl _ _
  · exact Touches.step (State.emit_touches ..) rfl (Touches.step (State.setSide_touches ..) rfl (Touches.refl _ _))

theorem State.ringTake_touches (s : State) (w : Nat) (h : RingHead) (k : State → State) {m : Nat} (hm : 0x80700000000408000000000000000000000000000000000000000009e0000804000000000000000000000000000000000000000000000000000000000000022600211 ||| m = m)
    (hk : ∀ t, Touches m t (k t)) : Touches m s (s.ringTake w h k) := by
  unfold State.ringTake
  refine Touches.ite (Touches.refl _ _) (Touches.ite ?_ ?_)
  · exact Touches.step (State.ringNak_touches _ _) (Touches.sub hm rfl)
      (State.inc_touches _ _ _ (Touches.sub hm rfl) 277 (mask_bit hm rfl) (grp_RING_SIDE_CRC _))
  · extract_lets x1 x2 x3 x4
    have h1 : Touches m s x1 := by
      unfold x1
      split
      · exact Touches.step (State.ringAcked_touches ..) (Touches.sub hm rfl) (Touches.refl _ _)
      · exact Touches.refl _ _
    refine Touches.ite (Touches.step (State.ringNak_touches _ _) (Touches.sub hm rfl) h1) (Touches.trans ?_ (hk _))
    exact Touches.step (State.emit_touches _ _) (Touches.sub hm rfl) ((Touches.step (State.setSide_touches ..) (Touches.sub hm rfl)
      h1).trans (State.inc_touches _ _ _ (Touches.sub hm rfl) 276 (mask_bit hm rfl) (grp_RING_SIDE_FRAMES_RX _)))

theorem State.ringLost_touches (s : State) (w : Nat) (src : Nat) (n : Nat) : Touches 0x8070000000040800000000002800000000000000000000000000000002040000000000000000000000000000000000000000000000000000000000000000022000215 s (State.ringLost s w src n) := by
  unfold State.ringLost
  extract_lets -merge +onlyGivenNames x1
  have h2 : Touches 0x8070000000040800000000002800000000000000000000000000000002040000000000000000000000000000000000000000000000000000000000000000022000215 s x1 := by
    unfold x1
    refine Touches.trans ?_ (State.voided_touches _ _ rfl 400 rfl grp_SYS_REPRO_STATUS)
    exact State.inc_touches _ _ _ rfl 270 rfl grp_RING_CNT_LOST
  clear_value x1
  exact Touches.step (State.ringLimited_touches ..) rfl h2

theorem State.ringDeliver_touches (s : State) (w : Nat) (h : RingHead) (b : List Byte) : Touches 0x807000000004080101000000280000000018000001000001c080000003040000000000000000000000000000000000000000000000000000000000000000026400617 s (State.ringDeliver s w h b) := by
  unfold State.ringDeliver
  extract_lets -merge +onlyGivenNames x1
  clear_value x1
  extract_lets -merge +onlyGivenNames x2
  clear_value x2
  extract_lets -merge +onlyGivenNames x3
  clear_value x3
  refine Touches.ite ?_ ?_
  · exact State.inc_touches _ _ _ rfl 269 rfl grp_RING_CNT_DUP
  · extract_lets -merge +onlyGivenNames x4
    extract_lets -merge +onlyGivenNames x5
    have h6 : Touches 0x807000000004080101000000280000000018000001000001c080000003040000000000000000000000000000000000000000000000000000000000000000026400617 s x5 := by unfold x5; exact Touches.setRing (Touches.refl _ _) rfl
    clear_value x5
    clear_value x4
    extract_lets -merge +onlyGivenNames x7
    have h8 : Touches 0x807000000004080101000000280000000018000001000001c080000003040000000000000000000000000000000000000000000000000000000000000000026400617 s x7 := by
      unfold x7
      refine Touches.ite ?_ ?_
      · exact h6
      · exact Touches.step (State.ringLost_touches ..) rfl h6
    clear_value x7
    refine Touches.ite ?_ ?_
    · exact Touches.step (State.reshardFrame_touches ..) rfl h8
    · exact Touches.step (State.emit_touches ..) rfl h8

theorem State.ringData_touches (s : State) (w : Nat) (h : RingHead) (b : List Byte) : Touches 0x807000000004080101000000280000000018000001000001c080000063040804000000000000000000000000000000000000000000000000000000000000026600617 s (State.ringData s w h b) := by
  unfold State.ringData
  extract_lets -merge +onlyGivenNames x1
  clear_value x1
  refine Touches.ite ?_ ?_
  · exact Touches.step (State.ringLost_touches ..) rfl (Touches.refl _ _)
  · refine Touches.ite ?_ ?_
    · exact Touches.refl _ _
    · refine Touches.ite ?_ ?_
      · exact Touches.step (State.ringDeliver_touches ..) rfl (Touches.refl _ _)
      · refine Touches.ite ?_ ?_
        · refine Touches.step (State.ringSend_touches ..) rfl ?_
          exact Touches.step (State.ringDeliver_touches ..) rfl (Touches.refl _ _)
        · exact Touches.step (State.ringSend_touches ..) rfl (Touches.refl _ _)

theorem State.ringReplay_touches (s : State) (w : Nat) (cnt : Fld) {m : Nat} (hm : 0x8070000000040800000000000000000000000000000000000000001060040804000800000000000000000000000000000000000000000000000000000000022600251 ||| m = m) (b : Nat)
    (hb : m.testBit (31 + b) = true) (g : Grp b cnt.reg.off) : Touches m s (s.ringReplay w cnt) := by
  unfold State.ringReplay
  extract_lets x
  split
  · exact Touches.refl _ _
  · refine Touches.ite ?_ (Touches.foldl (fun _ _ h => Touches.step (State.ringEmit_touches ..) (Touches.sub hm rfl) h) ?_)
    · exact Touches.step (State.linkLost_touches ..) (Touches.sub hm rfl)
        (Touches.step (State.ringReport_touches ..) (Touches.sub hm rfl) (Touches.refl _ _))
    · exact Touches.step (State.setSide_touches ..) (Touches.sub hm rfl)
        (State.inc_touches _ _ _ (Touches.sub hm rfl) b hb g)

theorem State.driverTx_touches (s : State) (l : Nat) (cmd : Nat) : Touches 0x807000000004080000000000000000000000000000000000000000000000080c000000000000000000000000000000000000000000000000000000000000022200211 s (State.driverTx s l cmd) := by
  unfold State.driverTx
  refine Touches.ite ?_ ?_
  · exact Touches.step (State.laneReport_touches ..) rfl (Touches.refl _ _)
  · extract_lets -merge +onlyGivenNames x1
    have h2 : Touches 0x807000000004080000000000000000000000000000000000000000000000080c000000000000000000000000000000000000000000000000000000000000022200211 s x1 := by
      unfold x1
      refine Touches.ite ?_ ?_
      · exact Touches.refl _ _
      · exact State.setF_touches _ _ _ rfl 248 rfl (grp_LANE_TX_CMD _)
    clear_value x1
    exact Touches.step (State.txCmd_touches ..) rfl h2

theorem State.writeLaneTx_touches (s : State) (l : Nat) (v : Nat) : Touches 0x807000000004080000000000000000000000000000000000000000000000080c000000000000000000000000000000000000000000000000000000000000022200211 s (State.writeLaneTx s l v) := by
  unfold State.writeLaneTx
  extract_lets -merge +onlyGivenNames x1
  clear_value x1
  refine Touches.ite ?_ ?_
  · exact State.setF_touches _ _ _ rfl 248 rfl (grp_LANE_TX_CMD _)
  · exact Touches.step (State.driverTx_touches ..) rfl (Touches.refl _ _)

theorem State.laneCmd_touches (s : State) (lane : Nat) (cmd : Nat) : Touches 0x807000000004080000000000000000000000000000000000000000000000080c000000000000000000000000000000000000000000102000000000000000022200295 s (State.laneCmd s lane cmd) := by
  unfold State.laneCmd
  refine Touches.ite ?_ ?_
  · exact Touches.refl _ _
  · refine Touches.trans ?_ (State.regWrite_touches _ _ _ _ rfl ?_)
    · exact Touches.refl _ _
    · intro y1
      exact Touches.step (State.driverTx_touches ..) rfl (Touches.refl _ _)

theorem execTxL0_ends (lane : Nat) (s : State) : Ends 0x807000000004080000000000000000000000000000000000000000000000080c000000000000000000000000000000000000000000102000000000000000022200295 s (execTxL0 lane s) := by
  unfold execTxL0
  exact Ends.next (Touches.step (State.laneCmd_touches ..) rfl (Touches.refl _ _))

theorem execTxL1_ends (lane : Nat) (s : State) : Ends 0x807000000004080000000000000000000000000000000000000000000000080c000000000000000000000000000000000000000000102000000000000000022200295 s (execTxL1 lane s) := by
  unfold execTxL1
  exact Ends.next (Touches.step (State.laneCmd_touches ..) rfl (Touches.refl _ _))

theorem execTxL2_ends (lane : Nat) (s : State) : Ends 0x807000000004080000000000000000000000000000000000000000000000080c000000000000000000000000000000000000000000102000000000000000022200295 s (execTxL2 lane s) := by
  unfold execTxL2
  exact Ends.next (Touches.step (State.laneCmd_touches ..) rfl (Touches.refl _ _))

theorem execTxOff_ends (lane : Nat) (s : State) : Ends 0x807000000004080000000000000000000000000000000000000000000000080c000000000000000000000000000000000000000000102000000000000000022200295 s (execTxOff lane s) := by
  unfold execTxOff
  exact Ends.next (Touches.step (State.laneCmd_touches ..) rfl (Touches.refl _ _))

theorem execTxWake_ends (lane : Nat) (s : State) : Ends 0x807000000004080000000000000000000000000000000000000000000000080c000000000000000000000000000000000000000000102000000000000000022200295 s (execTxWake lane s) := by
  unfold execTxWake
  exact Ends.next (Touches.step (State.laneCmd_touches ..) rfl (Touches.refl _ _))

theorem execPrbsOn_ends (lane : Nat) (s : State) : Ends 0x807000000004080000000000000000000000000000000000000000000000080c000000000000000000000000000000000000000000102000000000000000022200295 s (execPrbsOn lane s) := by
  unfold execPrbsOn
  exact Ends.next (Touches.step (State.laneCmd_touches ..) rfl (Touches.refl _ _))

theorem execPrbsOff_ends (lane : Nat) (s : State) : Ends 0x807000000004080000000000000000000000000000000000000000000000080c000000000000000000000000000000000000000000102000000000000000022200295 s (execPrbsOff lane s) := by
  unfold execPrbsOff
  exact Ends.next (Touches.step (State.laneCmd_touches ..) rfl (Touches.refl _ _))

theorem State.writeLaneRx_touches (s : State) (l : Nat) (v : Nat) : Touches 0x8070000000040800000000000000000000000000000000000000000000000014000000000000000000000000000000000000000000000000000000000000022200211 s (State.writeLaneRx s l v) := by
  unfold State.writeLaneRx
  extract_lets -merge +onlyGivenNames x1
  clear_value x1
  refine Touches.ite ?_ ?_
  · exact State.setF_touches _ _ _ rfl 249 rfl (grp_LANE_RX_CMD _)
  · refine Touches.ite ?_ ?_
    · exact Touches.step (State.laneReport_touches ..) rfl (Touches.refl _ _)
    · exact Touches.step (State.rxGo_touches ..) rfl (State.setF_touches _ _ _ rfl 249 rfl (grp_LANE_RX_CMD _))

theorem execRxStateCommand_ends (lane : Nat) (value : Nat) (s : State) : Ends 0x8070000000040800000000000000000000000000000000000000000000000014000000000000000000000000000000000000000000102000000000000000022200295 s (execRxStateCommand lane value s) := by
  unfold execRxStateCommand
  refine Ends.next ?_
  refine Touches.ite ?_ ?_
  · exact Touches.refl _ _
  · refine Touches.trans ?_ (State.regWrite_touches _ _ _ _ rfl ?_)
    · exact Touches.refl _ _
    · intro y1
      exact Touches.step (State.writeLaneRx_touches ..) rfl (Touches.refl _ _)

theorem State.writeLaneLoop_touches (s : State) (l : Nat) (v : Nat) : Touches 0x8070000000040800000000000000000000000000000000000000000000000006000000000000000000000000000000000000000000000000000000000000022000211 s (State.writeLaneLoop s l v) := by
  unfold State.writeLaneLoop
  extract_lets -merge +onlyGivenNames x1
  clear_value x1
  refine Touches.ite ?_ ?_
  · exact Touches.step (State.laneReport_touches ..) rfl (Touches.refl _ _)
  · refine Touches.ite ?_ ?_
    · exact Touches.step (State.laneReport_touches ..) rfl (State.setF_touches _ _ _ rfl 246 rfl (grp_LANE_CFG _))
    · exact Touches.step (State.rxUnlock_touches ..) rfl (State.setF_touches _ _ _ rfl 246 rfl (grp_LANE_CFG _))

theorem execLoopWrite_ends (lane : Nat) (value : Nat) (s : State) : Ends 0x8070000000040800000000000000000000000000000000000000000000000006000000000000000000000000000000000000000000102000000000000000022000295 s (execLoopWrite lane value s) := by
  unfold execLoopWrite
  refine Ends.next ?_
  refine Touches.ite ?_ ?_
  · exact Touches.refl _ _
  · refine Touches.trans ?_ (State.regWrite_touches _ _ _ _ rfl ?_)
    · exact Touches.refl _ _
    · intro y1
      exact Touches.step (State.writeLaneLoop_touches ..) rfl (Touches.refl _ _)

theorem State.writePrbs_touches (s : State) (l : Nat) (v : Nat) : Touches 0x780000000000000000000000000000000000000000000000000000000000000000000011 s (State.writePrbs s l v) := by
  unfold State.writePrbs
  extract_lets -merge +onlyGivenNames x1
  have h2 : Touches 0x780000000000000000000000000000000000000000000000000000000000000000000011 s x1 := by unfold x1; exact Touches.step (State.prbsSync_touches ..) rfl (Touches.refl _ _)
  clear_value x1
  extract_lets -merge +onlyGivenNames x3
  have h4 : Touches 0x780000000000000000000000000000000000000000000000000000000000000000000011 s x3 := by unfold x3; exact Touches.trans h2 (State.wr_touches _ _ _ rfl 252 rfl (grp_LANE_PRBS _))
  clear_value x3
  refine Touches.ite ?_ ?_
  · refine Touches.trans ?_ (State.setPair_touches _ _ _ _ rfl 254 rfl (grp_LANE_PRBS_BITS_LO _) 255 rfl (grp_LANE_PRBS_BITS_HI _))
    exact Touches.trans h4 (State.setF_touches _ _ _ rfl 253 rfl (grp_LANE_PRBS_ERR _))
  · exact h4

theorem execPrbsCheckerEnable_ends (lane : Nat) (value : Nat) (s : State) : Ends 0x8070000000040800000000000000000000000000000000000000000000000780000000000000000000000000000000000000000000102000000000000000022000295 s (execPrbsCheckerEnable lane value s) := by
  unfold execPrbsCheckerEnable
  refine Ends.next ?_
  refine Touches.ite ?_ ?_
  · exact Touches.refl _ _
  · refine Touches.trans ?_ (State.regWrite_touches _ _ _ _ rfl ?_)
    · exact Touches.refl _ _
    · intro y1
      exact Touches.step (State.writePrbs_touches ..) rfl (Touches.refl _ _)

theorem execPrbsLockAcquired_ends (lane : Nat) (s : State) : Ends 0x80000000000000000000000000000000000000000000000000000000000000000000001 s (execPrbsLockAcquired lane s) := by
  unfold execPrbsLockAcquired
  refine Ends.next ?_
  refine Touches.ite ?_ ?_
  · exact State.setB_touches _ _ _ rfl 252 rfl (grp_LANE_PRBS _)
  · exact Touches.refl _ _

theorem execPrbsLockLost_ends (lane : Nat) (s : State) : Ends 0x780000000000000000000000000000000000000000000000000000000000000000000011 s (execPrbsLockLost lane s) := by
  unfold execPrbsLockLost
  refine Ends.next ?_
  refine Touches.ite ?_ ?_
  · refine Touches.trans ?_ (State.setB_touches _ _ _ rfl 252 rfl (grp_LANE_PRBS _))
    exact Touches.step (State.prbsSync_touches ..) rfl (Touches.refl _ _)
  · exact Touches.refl _ _

theorem execSynthCalDone_ends (quad : Nat) (ok : Bool) (s : State) : Ends 0x8070000000040800000000000000000000000000000000000000000000040004000800000000000000000000000000000000000000000000000000000000022200251 s (execSynthCalDone quad ok s) := by
  unfold execSynthCalDone
  refine Ends.next ?_
  refine Touches.ite ?_ ?_
  · refine Touches.ite ?_ ?_
    · exact Touches.step (State.setSynth_touches ..) rfl (Touches.refl _ _)
    · refine Touches.step (State.ringReady_touches ..) rfl ?_
      exact Touches.step (State.laneReport_touches ..) rfl (Touches.step (State.setSynth_touches ..) rfl (Touches.refl _ _))
  · exact Touches.refl _ _

theorem execSynthLocked_ends (quad : Nat) (ok : Bool) (s : State) : Ends 0x8070000000040800000000000000000000000000000000000000000000048804000800000000000000000000000000000000000000000000000000000000022200251 s (execSynthLocked quad ok s) := by
  unfold execSynthLocked
  refine Ends.next ?_
  refine Touches.ite ?_ ?_
  · refine Touches.ite ?_ ?_
    · refine Touches.step (State.ringReady_touches ..) rfl ?_
      refine Touches.foldl (fun t1 y2 h3 => ?_) ?_
      · split
        · refine Touches.ite ?_ ?_
          · exact Touches.step (State.heldFail_touches ..) rfl h3
          · exact Touches.step (State.txDo_touches ..) rfl (Touches.step (State.heldClear_touches ..) rfl h3)
        · exact h3
      · exact Touches.step (State.setSynth_touches ..) rfl (Touches.refl _ _)
    · refine Touches.step (State.ringReady_touches ..) rfl ?_
      exact Touches.step (State.laneReport_touches ..) rfl (Touches.step (State.setSynth_touches ..) rfl (Touches.refl _ _))
  · exact Touches.refl _ _

theorem execHeldCommandTimeout_ends (lane : Nat) (s : State) : Ends 0x8070000000040800000000000000000000000000000000000000000000008004000000000000000000000000000000000000000000000000000000000000022200211 s (execHeldCommandTimeout lane s) := by
  unfold execHeldCommandTimeout
  refine Ends.next ?_
  split
  · refine Touches.ite ?_ ?_
    · exact Touches.step (State.heldFail_touches ..) rfl (Touches.refl _ _)
    · exact Touches.refl _ _
  · exact Touches.refl _ _

theorem State.sideAwake_touches (s : State) (l : Nat) : Touches 0x20000000000000000000000000000000000000000000000000000000000000000000000400001 s (State.sideAwake s l) := by
  unfold State.sideAwake
  refine Touches.ite ?_ ?_
  · exact Touches.refl _ _
  · extract_lets -merge +onlyGivenNames x1
    clear_value x1
    refine Touches.ite ?_ ?_
    · extract_lets -merge +onlyGivenNames x2
      clear_value x2
      extract_lets -merge +onlyGivenNames x3
      have h4 : Touches 0x20000000000000000000000000000000000000000000000000000000000000000000000400001 s x3 := by unfold x3; exact Touches.step (State.setSide_touches ..) rfl (Touches.refl _ _)
      clear_value x3
      refine Touches.ite ?_ ?_
      · exact h4
      · exact Touches.trans h4 (State.setF_touches _ _ _ rfl 274 rfl (grp_RING_SIDE_STATUS _))
    · exact Touches.refl _ _

theorem execFastRelock_ends (lane : Nat) (s : State) : Ends 0x20000804000000000000000000000000000000000000000000000000000000000000000600001 s (execFastRelock lane s) := by
  unfold execFastRelock
  refine Ends.next ?_
  refine Touches.ite ?_ ?_
  · exact Touches.refl _ _
  · split
    · refine Touches.ite ?_ ?_
      · exact Touches.refl _ _
      · refine Touches.step (State.sideAwake_touches ..) rfl ?_
        refine Touches.trans ?_ (State.inc_touches _ _ _ rfl 256 rfl (grp_LANE_CNT_WAKE _))
        exact Touches.step (State.rxLock_touches ..) rfl (Touches.step (State.setLn_touches ..) rfl (Touches.refl _ _))
    · exact Touches.step (State.rxLock_touches ..) rfl (Touches.refl _ _)

theorem execWakeGuardExpiry_ends (lane : Nat) (s : State) : Ends 0x8070000000040800000000000000000000000000000000000000001060043804000800000000000000000000000000000000000000000000000000000000022600251 s (execWakeGuardExpiry lane s) := by
  unfold execWakeGuardExpiry
  refine Ends.next ?_
  split
  · refine Touches.ite ?_ ?_
    · exact Touches.refl _ _
    · extract_lets -merge +onlyGivenNames x1
      have h2 : Touches 0x8070000000040800000000000000000000000000000000000000001060043804000800000000000000000000000000000000000000000000000000000000022600251 s x1 := by unfold x1; exact Touches.step (State.laneReport_touches ..) rfl (State.inc_touches _ _ _ rfl 257 rfl (grp_LANE_CNT_GUARD _))
      clear_value x1
      extract_lets -merge +onlyGivenNames x3
      have h4 : Touches 0x8070000000040800000000000000000000000000000000000000001060043804000800000000000000000000000000000000000000000000000000000000022600251 s x3 := by unfold x3; exact Touches.trans h2 (State.inc_touches _ _ _ rfl 258 rfl (grp_LANE_CNT_RETRAIN _))
      clear_value x3
      extract_lets -merge +onlyGivenNames x5
      clear_value x5
      extract_lets -merge +onlyGivenNames x6
      have h7 : Touches 0x8070000000040800000000000000000000000000000000000000001060043804000800000000000000000000000000000000000000000000000000000000022600251 s x6 := by unfold x6; exact Touches.step (State.setLn_touches ..) rfl h4
      clear_value x6
      refine Touches.ite ?_ ?_
      · exact h7
      · refine Touches.ite ?_ ?_
        · exact Touches.step (State.linkLost_touches ..) rfl h7
        · exact h7
  · exact Touches.refl _ _

theorem execRetrainComplete_ends (lane : Nat) (ok : Bool) (s : State) : Ends 0x8070000000040800000000000000000000000000000000000000000000000804000000000000000000000000000010000200000000000000000000000000022380211 s (execRetrainComplete lane ok s) := by
  unfold execRetrainComplete
  refine Ends.next ?_
  refine Touches.ite ?_ ?_
  · exact Touches.refl _ _
  · extract_lets -merge +onlyGivenNames x1
    clear_value x1
    extract_lets -merge +onlyGivenNames x2
    have h3 : Touches 0x8070000000040800000000000000000000000000000000000000000000000804000000000000000000000000000010000200000000000000000000000000022380211 s x2 := by unfold x2; exact Touches.step (State.setLn_touches ..) rfl (Touches.refl _ _)
    clear_value x2
    refine Touches.ite ?_ ?_
    · refine Touches.trans ?_ (State.inc_touches _ _ _ rfl 256 rfl (grp_LANE_CNT_WAKE _))
      exact Touches.step (State.rxLock_touches ..) rfl h3
    · split
      · refine Touches.ite ?_ ?_
        · exact Touches.step (State.portDown_touches ..) rfl h3
        · exact h3
      · exact h3

theorem execLossOfSignal_ends (lane : Nat) (s : State) : Ends 0x8070000000040800000000000000000000000000000000000000001060044804000800000000000000000000000010000200000000000000000000000000022780255 s (execLossOfSignal lane s) := by
  unfold execLossOfSignal
  refine Ends.next ?_
  refine Touches.ite ?_ ?_
  · exact Touches.refl _ _
  · extract_lets -merge +onlyGivenNames x1
    have h2 : Touches 0x8070000000040800000000000000000000000000000000000000001060044804000800000000000000000000000010000200000000000000000000000000022780255 s x1 := by unfold x1; exact State.inc_touches _ _ _ rfl 259 rfl (grp_LANE_CNT_LOS _)
    clear_value x1
    extract_lets -merge +onlyGivenNames x3
    have h4 : Touches 0x8070000000040800000000000000000000000000000000000000001060044804000800000000000000000000000010000200000000000000000000000000022780255 s x3 := by unfold x3; exact Touches.trans h2 (State.reportLimited_touches _ _ _ _ _ _ _ rfl 247 rfl (grp_LANE_STATUS _))
    clear_value x3
    extract_lets -merge +onlyGivenNames x5
    have h6 : Touches 0x8070000000040800000000000000000000000000000000000000001060044804000800000000000000000000000010000200000000000000000000000000022780255 s x5 := by
      unfold x5
      refine Touches.step (State.rxUnlock_touches ..) rfl ?_
      exact Touches.trans h4 (State.setB_touches _ _ _ rfl 247 rfl (grp_LANE_STATUS _))
    clear_value x5
    refine Touches.ite ?_ ?_
    · refine Touches.ite ?_ ?_
      · exact Touches.step (State.linkLost_touches ..) rfl h6
      · exact h6
    · split
      · refine Touches.ite ?_ ?_
        · exact Touches.step (State.portDown_touches ..) rfl h6
        · exact h6
      · exact h6

theorem execWakePatternComplete_ends (lane : Nat) (asked : Bool) (s : State) : Ends 0x4000000000000000000000000000000000000000000002000000000000000000200081 s (execWakePatternComplete lane asked s) := by
  unfold execWakePatternComplete
  refine Ends.next ?_
  refine Touches.ite ?_ ?_
  · exact Touches.refl _ _
  · extract_lets -merge +onlyGivenNames x1
    have h2 : Touches 0x4000000000000000000000000000000000000000000002000000000000000000200081 s x1 := by unfold x1; exact State.setB_touches _ _ _ rfl 247 rfl (grp_LANE_STATUS _)
    clear_value x1
    extract_lets -merge +onlyGivenNames x3
    have h4 : Touches 0x4000000000000000000000000000000000000000000002000000000000000000200081 s x3 := by
      unfold x3
      refine Touches.ite ?_ ?_
      · exact Touches.step (State.wake_touches ..) rfl h2
      · exact h2
    clear_value x3
    extract_lets -merge +onlyGivenNames x5
    clear_value x5
    refine Touches.ite ?_ ?_
    · exact Touches.step (State.rxGo_touches ..) rfl h4
    · exact h4

theorem State.sideOwn_touches (s : State) (w : Nat) (on : Bool) : Touches 0x8070000000040800000000000000000000000000000000000000000000000804000000000000000000000000000000000000000000000000000000000000022200211 s (State.sideOwn s w on) := by
  unfold State.sideOwn
  refine Touches.foldl (fun t1 y2 h3 => ?_) ?_
  · extract_lets -merge +onlyGivenNames x4
    have h5 : Touches 0x8070000000040800000000000000000000000000000000000000000000000804000000000000000000000000000000000000000000000000000000000000022200211 s x4 := by unfold x4; exact Touches.step (State.laneOwn_touches ..) rfl h3
    clear_value x4
    refine Touches.ite ?_ ?_
    · exact h5
    · refine Touches.ite ?_ ?_
      · exact Touches.step (State.txCmd_touches ..) rfl (Touches.step (State.rxGo_touches ..) rfl h5)
      · exact Touches.step (State.rxGo_touches ..) rfl (Touches.step (State.txCmd_touches ..) rfl h5)
  · exact Touches.refl _ _

theorem State.ringOff_touches (s : State) : Touches 0x80700000000408000000000000000000000000000000000000000000201c0804000800000000000000000000000000000000000000000000000000000000022600251 s (State.ringOff s) := by
  unfold State.ringOff
  extract_lets -merge +onlyGivenNames x1
  have h7 : Touches 0x80700000000408000000000000000000000000000000000000000000201c0804000800000000000000000000000000000000000000000000000000000000022600251 s x1 := by
    unfold x1
    refine Touches.foldl (fun t2 y3 h4 => ?_) ?_
    · extract_lets -merge +onlyGivenNames x5
      have h6 : Touches 0x80700000000408000000000000000000000000000000000000000000201c0804000800000000000000000000000000000000000000000000000000000000022600251 s x5 := by
        unfold x5
        refine Touches.ite ?_ ?_
        · exact h4
        · refine Touches.trans ?_ (State.setF_touches _ _ _ rfl 274 rfl (grp_RING_SIDE_STATUS _))
          exact Touches.step (State.sideOwn_touches ..) rfl h4
      clear_value x5
      exact Touches.trans h6 (State.setF_touches _ _ _ rfl 274 rfl (grp_RING_SIDE_STATUS _))
    · exact Touches.refl _ _
  clear_value x1
  extract_lets -merge +onlyGivenNames x8
  have h9 : Touches 0x80700000000408000000000000000000000000000000000000000000201c0804000800000000000000000000000000000000000000000000000000000000022600251 s x8 := by unfold x8; exact Touches.setRing h7 rfl
  clear_value x8
  extract_lets -merge +onlyGivenNames x10
  have h11 : Touches 0x80700000000408000000000000000000000000000000000000000000201c0804000800000000000000000000000000000000000000000000000000000000022600251 s x10 := by
    unfold x10
    refine Touches.trans ?_ (State.setB_touches _ _ _ rfl 265 rfl grp_RING_LAYOUT)
    exact Touches.trans h9 (State.setB_touches _ _ _ rfl 263 rfl grp_RING_STATUS)
  clear_value x10
  refine Touches.step (State.ringGo_touches ..) rfl ?_
  exact Touches.trans h11 (State.setF_touches _ _ _ rfl 264 rfl grp_RING_TOPO)

theorem State.ringOn__touches (s : State) : Touches 0x8070000000040800000000000000000000000000000000000000000000040804000800000000000000000000000000000000000000000000000000000000022200251 s (State.ringOn_ s) := by
  unfold State.ringOn_
  refine Touches.ite ?_ ?_
  · exact Touches.step (State.ringReady_touches ..) rfl (Touches.refl _ _)
  · extract_lets -merge +onlyGivenNames x1
    have h5 : Touches 0x8070000000040800000000000000000000000000000000000000000000040804000800000000000000000000000000000000000000000000000000000000022200251 s x1 := by
      unfold x1
      refine Touches.foldl (fun t2 y3 h4 => ?_) ?_
      · refine Touches.ite ?_ ?_
        · exact h4
        · exact Touches.step (State.sideOwn_touches ..) rfl h4
      · exact Touches.refl _ _
    clear_value x1
    exact Touches.step (State.ringGo_touches ..) rfl h5

theorem State.ringInserted_touches (s : State) : Touches 0x8070000000040800000000000000000000000000000000000000001060040804000800000000000000000000000000000000000000000000000000000000022600251 s (State.ringInserted s) := by
  unfold State.ringInserted
  refine Touches.ite ?_ ?_
  · refine Touches.foldl (fun t1 y2 h3 => ?_) ?_
    · extract_lets -merge +onlyGivenNames x4
      clear_value x4
      extract_lets -merge +onlyGivenNames x5
      have h6 : Touches 0x8070000000040800000000000000000000000000000000000000001060040804000800000000000000000000000000000000000000000000000000000000022600251 s x5 := by unfold x5; exact Touches.step (State.setSide_touches ..) rfl h3
      clear_value x5
      refine Touches.ite ?_ ?_
      · exact h6
      · exact Touches.step (State.linkTrain_touches ..) rfl h6
    · exact Touches.step (State.ringGo_touches ..) rfl (Touches.refl _ _)
  · exact Touches.refl _ _

theorem State.writeRingCtrl_touches (s : State) (v : Nat) : Touches 0x80700000000408000000000000000000000000000000000000000010601e0804000800000000000000000000000000000000000000000000000000000000022600251 s (State.writeRingCtrl s v) := by
  unfold State.writeRingCtrl
  extract_lets -merge +onlyGivenNames x1
  clear_value x1
  extract_lets -merge +onlyGivenNames x2
  clear_value x2
  extract_lets -merge +onlyGivenNames x3
  clear_value x3
  extract_lets -merge +onlyGivenNames x4
  have h5 : Touches 0x80700000000408000000000000000000000000000000000000000010601e0804000800000000000000000000000000000000000000000000000000000000022600251 s x4 := by unfold x4; exact State.wr_touches _ _ _ rfl 262 rfl grp_RING_CTRL
  clear_value x4
  extract_lets -merge +onlyGivenNames x6
  have h7 : Touches 0x80700000000408000000000000000000000000000000000000000010601e0804000800000000000000000000000000000000000000000000000000000000022600251 s x6 := by
    unfold x6
    refine Touches.ite ?_ ?_
    · exact Touches.step (State.ringOn__touches ..) rfl h5
    · refine Touches.ite ?_ ?_
      · exact Touches.step (State.ringOff_touches ..) rfl h5
      · exact h5
  clear_value x6
  refine Touches.foldl (fun t8 y9 h10 => ?_) ?_
  · extract_lets -merge +onlyGivenNames x11
    clear_value x11
    extract_lets -merge +onlyGivenNames x12
    clear_value x12
    refine Touches.ite ?_ ?_
    · extract_lets -merge +onlyGivenNames x13
      have h14 : Touches 0x80700000000408000000000000000000000000000000000000000010601e0804000800000000000000000000000000000000000000000000000000000000022600251 s x13 := by
        unfold x13
        refine Touches.ite ?_ ?_
        · exact Touches.step (State.linkLost_touches ..) rfl h10
        · exact Touches.trans h10 (State.setF_touches _ _ _ rfl 274 rfl (grp_RING_SIDE_STATUS _))
      clear_value x13
      exact Touches.step (State.sideOwn_touches ..) rfl h14
    · refine Touches.ite ?_ ?_
      · extract_lets -merge +onlyGivenNames x15
        have h19 : Touches 0x80700000000408000000000000000000000000000000000000000010601e0804000800000000000000000000000000000000000000000000000000000000022600251 s x15 := by
          unfold x15
          refine Touches.foldl (fun t16 y17 h18 => ?_) ?_
          · exact Touches.step (State.rxGo_touches ..) rfl (Touches.step (State.txCmd_touches ..) rfl h18)
          · exact h10
        clear_value x15
        refine Touches.ite ?_ ?_
        · extract_lets -merge +onlyGivenNames x20
          have h21 : Touches 0x80700000000408000000000000000000000000000000000000000010601e0804000800000000000000000000000000000000000000000000000000000000022600251 s x20 := by unfold x20; exact Touches.step (State.sideOwn_touches ..) rfl h19
          clear_value x20
          refine Touches.ite ?_ ?_
          · exact Touches.step (State.linkTrain_touches ..) rfl h21
          · exact Touches.trans h21 (State.setF_touches _ _ _ rfl 274 rfl (grp_RING_SIDE_STATUS _))
        · exact Touches.trans h19 (State.setF_touches _ _ _ rfl 274 rfl (grp_RING_SIDE_STATUS _))
      · exact h10
  · exact h7

theorem execRingEnable_ends (value : Nat) (s : State) : Ends 0x80700000000408000000000000000000000000000000000000000010601e08040008000000000000000000000000000000000000001020000000000000000226002d5 s (execRingEnable value s) := by
  unfold execRingEnable
  refine Ends.next ?_
  refine Touches.trans ?_ (State.regWrite_touches _ _ _ _ rfl ?_)
  · exact Touches.refl _ _
  · intro y1
    exact Touches.step (State.writeRingCtrl_touches ..) rfl (Touches.refl _ _)

theorem execRingTest_ends (value : Nat) (s : State) : Ends 0x80700000000408000000000000000000000000000000000000000010601e08040008000000000000000000000000000000000000001020000000000000000226002d5 s (execRingTest value s) := by
  unfold execRingTest
  refine Ends.next ?_
  refine Touches.trans ?_ (State.regWrite_touches _ _ _ _ rfl ?_)
  · exact Touches.refl _ _
  · intro y1
    exact Touches.step (State.writeRingCtrl_touches ..) rfl (Touches.refl _ _)

theorem execLinkTrainingDone_ends (side : Nat) (how : TrainEnd) (s : State) : Ends 0x8070000000040800000000000800000000000000000000000000000060040804000800000000000000000000000000000000000000000000000000000000122600255 s (execLinkTrainingDone side how s) := by
  unfold execLinkTrainingDone
  refine Ends.next ?_
  refine Touches.ite ?_ ?_
  · exact Touches.refl _ _
  · split
    · refine Touches.ite ?_ ?_
      · exact Touches.refl _ _
      · extract_lets -merge +onlyGivenNames x1
        have h5 : Touches 0x8070000000040800000000000800000000000000000000000000000060040804000800000000000000000000000000000000000000000000000000000000122600255 s x1 := by
          unfold x1
          refine Touches.foldl (fun t2 y3 h4 => ?_) ?_
          · refine Touches.trans ?_ (State.setB_touches _ _ _ rfl 247 rfl (grp_LANE_STATUS _))
            exact Touches.step (State.rxLock_touches ..) rfl h4
          · exact Touches.refl _ _
        clear_value x1
        extract_lets -merge +onlyGivenNames x6
        have h7 : Touches 0x8070000000040800000000000800000000000000000000000000000060040804000800000000000000000000000000000000000000000000000000000000122600255 s x6 := by
          unfold x6
          refine Touches.trans ?_ (State.setF_touches _ _ _ rfl 274 rfl (grp_RING_SIDE_STATUS _))
          exact Touches.trans h5 (State.setF_touches _ _ _ rfl 274 rfl (grp_RING_SIDE_STATUS _))
        clear_value x6
        extract_lets -merge +onlyGivenNames x8
        clear_value x8
        extract_lets -merge +onlyGivenNames x9
        have h10 : Touches 0x8070000000040800000000000800000000000000000000000000000060040804000800000000000000000000000000000000000000000000000000000000122600255 s x9 := by unfold x9; exact Touches.step (State.setSide_touches ..) rfl h7
        clear_value x9
        extract_lets -merge +onlyGivenNames x11
        have h12 : Touches 0x8070000000040800000000000800000000000000000000000000000060040804000800000000000000000000000000000000000000000000000000000000122600255 s x11 := by
          unfold x11
          refine Touches.ite ?_ ?_
          · exact h10
          · exact Touches.trans h10 (State.timing_touches _ _ _ rfl 400 rfl grp_SYS_REPRO_STATUS 1 rfl Grp.none)
        clear_value x11
        exact Touches.step (State.discoverStart_touches ..) rfl h12
    · extract_lets -merge +onlyGivenNames x13
      clear_value x13
      extract_lets -merge +onlyGivenNames x14
      have h15 : Touches 0x8070000000040800000000000800000000000000000000000000000060040804000800000000000000000000000000000000000000000000000000000000122600255 s x14 := by unfold x14; exact Touches.step (State.setSide_touches ..) rfl (State.setF_touches _ _ _ rfl 274 rfl (grp_RING_SIDE_STATUS _))
      clear_value x14
      exact Touches.step (State.ringReport_touches ..) rfl h15
    · extract_lets -merge +onlyGivenNames x16
      clear_value x16
      extract_lets -merge +onlyGivenNames x17
      have h18 : Touches 0x8070000000040800000000000800000000000000000000000000000060040804000800000000000000000000000000000000000000000000000000000000122600255 s x17 := by unfold x17; exact Touches.step (State.setSide_touches ..) rfl (State.setF_touches _ _ _ rfl 274 rfl (grp_RING_SIDE_STATUS _))
      clear_value x17
      exact Touches.step (State.ringLimited_touches ..) rfl h18

theorem execTrainRetry_ends (side : Nat) (s : State) : Ends 0x8070000000040800000000000000000000000000000000000000001060000804000000000000000000000000000000000000000000000000000000000000022600211 s (execTrainRetry side s) := by
  unfold execTrainRetry
  refine Ends.next ?_
  split
  · refine Touches.ite ?_ ?_
    · exact Touches.step (State.linkTrain_touches ..) rfl (Touches.refl _ _)
    · exact Touches.refl _ _
  · exact Touches.refl _ _

theorem execRingFrame_ends (side : Nat) (h : RingHead) (payload : List Byte) (s : State) : Ends 0x807000000004080101000000280000000018000001000001c0800009e3040804000000000000000000000000000000000000000000000000000000000000026600617 s (execRingFrame side h payload s) := by
  unfold execRingFrame
  refine Ends.next ?_
  refine Touches.trans ?_ (State.ringTake_touches _ _ _ _ rfl ?_)
  · exact Touches.refl _ _
  · intro y1
    exact Touches.step (State.ringData_touches ..) rfl (Touches.refl _ _)

theorem execAck_ends (side : Nat) (ackSeq : Nat) (s : State) : Ends 0x8070000000040800000000000000000000000000000000000000000860000804000000000000000000000000000000000000000000000000000000000000022600211 s (execAck side ackSeq s) := by
  unfold execAck
  refine Ends.next ?_
  refine Touches.ite ?_ ?_
  · exact Touches.step (State.ringAcked_touches ..) rfl (Touches.refl _ _)
  · exact Touches.refl _ _

theorem execNak_ends (side : Nat) (seq : Nat) (s : State) : Ends 0x8070000000040800000000000000000000000000000000000000001a60040804000800000000000000000000000000000000000000000000000000000000022600251 s (execNak side seq s) := by
  unfold execNak
  refine Ends.next ?_
  refine Touches.ite ?_ ?_
  · refine Touches.trans ?_ (State.ringReplay_touches _ _ _ rfl 278 rfl (grp_RING_SIDE_NAK_RETRY _))
    exact Touches.step (State.ringAcked_touches ..) rfl (Touches.refl _ _)
  · exact Touches.refl _ _

theorem execAckTimeout_ends (side : Nat) (s : State) : Ends 0x8070000000040800000000000000000000000000000000000000001460040804000800000000000000000000000000000000000000000000000000000000022600251 s (execAckTimeout side s) := by
  unfold execAckTimeout
  refine Ends.next ?_
  split
  · refine Touches.ite ?_ ?_
    · exact State.ringReplay_touches _ _ _ rfl 279 rfl (grp_RING_SIDE_TMO_RETRY _)
    · exact Touches.refl _ _
  · exact Touches.refl _ _

theorem execLinkSleep_ends (side : Nat) (s : State) : Ends 0x400800000000000000000000000000000020000004000000000000000000000000000000000000000000000000000000000000020400001 s (execLinkSleep side s) := by
  unfold execLinkSleep
  refine Ends.next ?_
  extract_lets -merge +onlyGivenNames x1
  clear_value x1
  extract_lets -merge +onlyGivenNames x2
  clear_value x2
  refine Touches.ite ?_ ?_
  · exact Touches.refl _ _
  · extract_lets -merge +onlyGivenNames x3
    have h4 : Touches 0x400800000000000000000000000000000020000004000000000000000000000000000000000000000000000000000000000000020400001 s x3 := by unfold x3; exact Touches.step (State.setSide_touches ..) rfl (Touches.refl _ _)
    clear_value x3
    extract_lets -merge +onlyGivenNames x5
    have h9 : Touches 0x400800000000000000000000000000000020000004000000000000000000000000000000000000000000000000000000000000020400001 s x5 := by
      unfold x5
      refine Touches.foldl (fun t6 y7 h8 => ?_) ?_
      · exact Touches.step (State.txCmdIdle_touches ..) rfl (Touches.step (State.emit_touches ..) rfl h8)
      · exact h4
    clear_value x5
    extract_lets -merge +onlyGivenNames x10
    have h11 : Touches 0x400800000000000000000000000000000020000004000000000000000000000000000000000000000000000000000000000000020400001 s x10 := by unfold x10; exact Touches.trans h9 (State.setF_touches _ _ _ rfl 274 rfl (grp_RING_SIDE_STATUS _))
    clear_value x10
    refine Touches.trans ?_ (State.timing_touches _ _ _ rfl 400 rfl grp_SYS_REPRO_STATUS 411 rfl (Grp.some grp_MESH_TW_FLAGS))
    exact h11

theorem execSleepBlocksReceived_ends (side : Nat) (state : Nat) (s : State) : Ends 0x20000004000000000000000000000000000000000000000000000000000000000000000600001 s (execSleepBlocksReceived side state s) := by
  unfold execSleepBlocksReceived
  refine Ends.next ?_
  refine Touches.ite ?_ ?_
  · exact Touches.refl _ _
  · extract_lets -merge +onlyGivenNames x1
    clear_value x1
    extract_lets -merge +onlyGivenNames x2
    have h3 : Touches 0x20000004000000000000000000000000000000000000000000000000000000000000000600001 s x2 := by unfold x2; exact Touches.step (State.setSide_touches ..) rfl (Touches.refl _ _)
    clear_value x2
    extract_lets -merge +onlyGivenNames x4
    have h8 : Touches 0x20000004000000000000000000000000000000000000000000000000000000000000000600001 s x4 := by
      unfold x4
      refine Touches.foldl (fun t5 y6 h7 => ?_) ?_
      · exact Touches.step (State.rxGo_touches ..) rfl h7
      · exact h3
    clear_value x4
    exact Touches.trans h8 (State.setF_touches _ _ _ rfl 274 rfl (grp_RING_SIDE_STATUS _))

theorem execRingDiscover_ends (side : Nat) (h : RingHead) (members : List RingMember) (s : State) : Ends 0x80700000000408000000000000000000000000000000000000000009e01c0804000800000000000000000000000000000000000000000000000000000000022600251 s (execRingDiscover side h members s) := by
  unfold execRingDiscover
  refine Ends.next ?_
  refine Touches.trans ?_ (State.ringTake_touches _ _ _ _ rfl ?_)
  · exact Touches.refl _ _
  · intro y1
    refine Touches.ite ?_ ?_
    · refine Touches.ite ?_ ?_
      · exact Touches.step (State.ringJudge_touches ..) rfl (Touches.refl _ _)
      · exact Touches.refl _ _
    · refine Touches.step (State.discoverStart_touches ..) rfl ?_
      exact Touches.step (State.ringSend_touches ..) rfl (Touches.refl _ _)

theorem execQuiesce_ends (side : Nat) (h : RingHead) (s : State) : Ends 0x80700000000408000000000000000000000000000000000000000009e0000804000000000000000000000000000000000000000000000000000000000000022600211 s (execQuiesce side h s) := by
  unfold execQuiesce
  refine Ends.next ?_
  refine Touches.trans ?_ (State.ringTake_touches _ _ _ _ rfl ?_)
  · exact Touches.refl _ _
  · intro y1
    refine Touches.ite ?_ ?_
    · exact Touches.refl _ _
    · exact Touches.step (State.ringOn_touches ..) rfl (Touches.step (State.ringStop_touches ..) rfl (Touches.refl _ _))

theorem execQuiesced_ends (side : Nat) (h : RingHead) (s : State) : Ends 0x208070000000040801010000002800000000180000015001e9c0800009fc1c0804000800000000000000000000000000000000000000000000000000000000026600657 s (execQuiesced side h s) := by
  unfold execQuiesced
  refine Ends.next ?_
  refine Touches.trans ?_ (State.ringTake_touches _ _ _ _ rfl ?_)
  · exact Touches.refl _ _
  · intro y1
    refine Touches.ite ?_ ?_
    · exact Touches.step (State.masterSwitch_touches ..) rfl (Touches.setRing (Touches.refl _ _) rfl)
    · refine Touches.step (State.quiesceOn_touches ..) rfl ?_
      extract_lets -merge +onlyGivenNames x2
      have h3 : Touches 0x208070000000040801010000002800000000180000015001e9c0800009fc1c0804000800000000000000000000000000000000000000000000000000000000026600657 y1 x2 := by unfold x2; exact State.setF_touches _ _ _ rfl 264 rfl grp_RING_TOPO
      clear_value x2
      exact Touches.setRing h3 rfl

theorem execSwitch_ends (side : Nat) (h : RingHead) (layout : Nat) (present : Nat) (epoch : Nat) (s : State) : Ends 0x208070000000040801010000002800000000180000015001e9c0800009fc1c0804000800000000000000000000000000000000000000000000000000000000026600657 s (execSwitch side h layout present epoch s) := by
  unfold execSwitch
  refine Ends.next ?_
  refine Touches.trans ?_ (State.ringTake_touches _ _ _ _ rfl ?_)
  · exact Touches.refl _ _
  · intro y1
    refine Touches.ite ?_ ?_
    · exact Touches.step (State.switchApply_touches ..) rfl (Touches.refl _ _)
    · exact Touches.refl _ _

theorem execRingLinkDown_ends (side : Nat) (how : Option RingHead) (s : State) : Ends 0x80700000000408000000000000000000000000000000000000000019e0040804000800000000000000000000000000000000000000000000000000000000022600251 s (execRingLinkDown side how s) := by
  unfold execRingLinkDown
  refine Ends.next ?_
  split
  · refine Touches.ite ?_ ?_
    · exact Touches.step (State.linkLost_touches ..) rfl (Touches.refl _ _)
    · exact Touches.refl _ _
  · refine Touches.trans ?_ (State.ringTake_touches _ _ _ _ rfl ?_)
    · exact Touches.refl _ _
    · intro y1
      refine Touches.ite ?_ ?_
      · exact Touches.refl _ _
      · extract_lets -merge +onlyGivenNames x2
        have h3 : Touches 0x80700000000408000000000000000000000000000000000000000019e0040804000800000000000000000000000000000000000000000000000000000000022600251 y1 x2 := by
          unfold x2
          refine Touches.ite ?_ ?_
          · exact Touches.step (State.ringBreak_touches ..) rfl (Touches.refl _ _)
          · exact Touches.refl _ _
        clear_value x2
        extract_lets -merge +onlyGivenNames x4
        clear_value x4
        extract_lets -merge +onlyGivenNames x5
        have h6 : Touches 0x80700000000408000000000000000000000000000000000000000019e0040804000800000000000000000000000000000000000000000000000000000000022600251 y1 x5 := by unfold x5; exact Touches.step (State.setSide_touches ..) rfl h3
        clear_value x5
        extract_lets -merge +onlyGivenNames x7
        clear_value x7
        extract_lets -merge +onlyGivenNames x8
        have h9 : Touches 0x80700000000408000000000000000000000000000000000000000019e0040804000800000000000000000000000000000000000000000000000000000000022600251 y1 x8 := by
          unfold x8
          refine Touches.ite ?_ ?_
          · exact Touches.step (State.ringSend_touches ..) rfl h6
          · exact h6
        clear_value x8
        exact Touches.step (State.discoverStart_touches ..) rfl (Touches.setRing h9 rfl)

theorem State.layoutTake_touches (s : State) (pos : Nat) (next : Nat) : Touches 0x8070000000040800000000000000000000000000000000000000000060000804000000000000000000000000000000000000000000000000000000000000022600211 s (State.layoutTake s pos next).2 := by
  unfold State.layoutTake
  refine Touches.ite2 ?_ ?_
  · exact Touches.pair2 (Touches.refl _ _)
  · exact Touches.pair2 (Touches.step (State.masterStart_touches ..) rfl (Touches.setRing (Touches.refl _ _) rfl))

theorem State.layoutAnswer_touches (s : State) (ok : Bool) : Touches 0x8070000000040800000000000000000000000000000000000000000000140000000000000000000000000000000000000000000000000000000000000000022000211 s (State.layoutAnswer s ok) := by
  unfold State.layoutAnswer
  refine Touches.ite ?_ ?_
  · exact Touches.refl _ _
  · exact Touches.step (State.ringReport_touches ..) rfl (State.setB_touches _ _ _ rfl 265 rfl grp_RING_LAYOUT)

theorem State.writeRingLayout_touches (s : State) (v : Nat) : Touches 0x8070000000040800000000000000000000000000000000000000000060140804000000000000000000000000000000000000180000000000000000000000022600211 s (State.writeRingLayout s v) := by
  unfold State.writeRingLayout
  extract_lets -merge +onlyGivenNames x1
  clear_value x1
  refine Touches.ite ?_ ?_
  · exact State.setF_touches _ _ _ rfl 265 rfl grp_RING_LAYOUT
  · refine Touches.ite ?_ ?_
    · exact Touches.step (State.imgReport_touches ..) rfl (State.setF_touches _ _ _ rfl 265 rfl grp_RING_LAYOUT)
    · refine Touches.ite ?_ ?_
      · exact Touches.step (State.ringReport_touches ..) rfl (Touches.refl _ _)
      · extract_lets -merge +onlyGivenNames x2
        have h3 : Touches 0x8070000000040800000000000000000000000000000000000000000060140804000000000000000000000000000000000000180000000000000000000000022600211 s x2 := by
          unfold x2
          refine Touches.trans ?_ (State.setB_touches _ _ _ rfl 265 rfl grp_RING_LAYOUT)
          exact State.setF_touches _ _ _ rfl 265 rfl grp_RING_LAYOUT
        clear_value x2
        refine Touches.ite ?_ ?_
        · split
          rename_i x4 x5 x6 e7
          have h8 : Touches 0x8070000000040800000000000000000000000000000000000000000060140804000000000000000000000000000000000000180000000000000000000000022600211 s x6 := Touches.of_eq (fun d => d.2) e7 (Touches.step (State.layoutTake_touches ..) rfl h3)
          exact Touches.step (State.layoutAnswer_touches ..) rfl h8
        · extract_lets -merge +onlyGivenNames x9
          clear_value x9
          exact Touches.step (State.ringSend_touches ..) rfl h3

theorem execLayoutRequest_ends (value : Nat) (s : State) : Ends 0x8070000000040800000000000000000000000000000000000000000060140804000000000000000000000000000000000000180000102000000000000000022600295 s (execLayoutRequest value s) := by
  unfold execLayoutRequest
  refine Ends.next ?_
  refine Touches.trans ?_ (State.regWrite_touches _ _ _ _ rfl ?_)
  · exact Touches.refl _ _
  · intro y1
    exact Touches.step (State.writeRingLayout_touches ..) rfl (Touches.refl _ _)

theorem execLayoutReq_ends (side : Nat) (h : RingHead) (layout : Nat) (s : State) : Ends 0x80700000000408000000000000000000000000000000000000000009e0000804000000000000000000000000000000000000000000000000000000000000022600211 s (execLayoutReq side h layout s) := by
  unfold execLayoutReq
  refine Ends.next ?_
  refine Touches.trans ?_ (State.ringTake_touches _ _ _ _ rfl ?_)
  · exact Touches.refl _ _
  · intro y1
    refine Touches.ite ?_ ?_
    · split
      rename_i x2 x3 x4 e5
      have h6 : Touches 0x80700000000408000000000000000000000000000000000000000009e0000804000000000000000000000000000000000000000000000000000000000000022600211 y1 x4 := by
        refine Touches.of_eq (fun d => d.2) e5 ?_
        refine Touches.ite2 ?_ ?_
        · exact Touches.step (State.layoutTake_touches ..) rfl (Touches.refl _ _)
        · exact Touches.pair2 (Touches.refl _ _)
      exact Touches.step (State.ringSend_touches ..) rfl h6
    · exact Touches.step (State.ringOn_touches ..) rfl (Touches.refl _ _)

theorem execLayoutAns_ends (side : Nat) (h : RingHead) (accepted : Bool) (s : State) : Ends 0x80700000000408000000000000000000000000000000000000000009e0140804000000000000000000000000000000000000000000000000000000000000022600211 s (execLayoutAns side h accepted s) := by
  unfold execLayoutAns
  refine Ends.next ?_
  refine Touches.trans ?_ (State.ringTake_touches _ _ _ _ rfl ?_)
  · exact Touches.refl _ _
  · intro y1
    refine Touches.ite ?_ ?_
    · refine Touches.ite ?_ ?_
      · exact Touches.step (State.layoutAnswer_touches ..) rfl (Touches.refl _ _)
      · exact Touches.refl _ _
    · exact Touches.step (State.ringOn_touches ..) rfl (Touches.refl _ _)

theorem State.quiesceOver_touches (s : State) : Touches 0x8070000000040800000000000000000000000000000000000000000064040804000000000000000000000000000000000000000000000000000000000000022600215 s (State.quiesceOver s) := by
  unfold State.quiesceOver
  refine Touches.ite ?_ ?_
  · exact Touches.step (State.ringRelease_touches ..) rfl (Touches.refl _ _)
  · exact Touches.setRing (Touches.refl _ _) rfl

theorem execQuiesceTimeout_ends (s : State) : Ends 0x8070000000040800000000000000000000000000000000000000000064140804000000000000000000000000000000000000000000000000000000000000022600215 s (execQuiesceTimeout s) := by
  unfold execQuiesceTimeout
  refine Ends.next ?_
  refine Touches.ite ?_ ?_
  · exact Touches.refl _ _
  · extract_lets -merge +onlyGivenNames x1
    have h2 : Touches 0x8070000000040800000000000000000000000000000000000000000064140804000000000000000000000000000000000000000000000000000000000000022600215 s x1 := by unfold x1; exact Touches.setRing (Touches.refl _ _) rfl
    clear_value x1
    refine Touches.step (State.quiesceOver_touches ..) rfl ?_
    refine Touches.step (State.ringReport_touches ..) rfl ?_
    exact Touches.trans h2 (State.setB_touches _ _ _ rfl 265 rfl grp_RING_LAYOUT)

theorem execTopologyRetry_ends (s : State) : Ends 0x8070000000040800000000000000000000000000000000000000000060000804000000000000000000000000000000000000000000000000000000000000022600211 s (execTopologyRetry s) := by
  unfold execTopologyRetry
  refine Ends.next ?_
  split
  · refine Touches.ite ?_ ?_
    · exact Touches.step (State.masterStart_touches ..) rfl (Touches.setRing (Touches.refl _ _) rfl)
    · exact Touches.refl _ _
  · exact Touches.refl _ _

theorem execLinkTmoExpiry_ends (side : Nat) (present : Nat) (s : State) : Ends 0x80700000000408000000000000000000000000000000000000000000601c0804000000000000000000000000000000000000000000000000000000000000022600211 s (execLinkTmoExpiry side present s) := by
  unfold execLinkTmoExpiry
  refine Ends.next ?_
  extract_lets -merge +onlyGivenNames x1
  clear_value x1
  split
  · refine Touches.ite ?_ ?_
    · exact Touches.step (State.topoNew_touches ..) rfl (Touches.step (State.setSide_touches ..) rfl (Touches.refl _ _))
    · exact Touches.refl _ _
  · exact Touches.refl _ _

theorem execReshardEnd_ends (s : State) : Ends 0x807000000004080101000000280000000008000001500001c080000060000804000000000000000000000000000000000000000000000000000000000000026600617 s (execReshardEnd s) := by
  unfold execReshardEnd
  refine Ends.next ?_
  refine Touches.step (State.masterStart_touches ..) rfl ?_
  exact Touches.step (State.reshardEnd_touches ..) rfl (Touches.refl _ _)

end Sys2Proof.Machine
end

