-- ==== Sys2Proof/Laws/FrameMailbox.lean ====
section
/-! SUPPORT. What each operation of Machine/Mailbox.lean can do: the parts of the state it touches (Touches). -/

-- One declaration at a time: many proofs at once would each hold a thread with a large stack.
set_option Elab.async false

namespace Sys2Proof.Machine

theorem State.mbxCheck_touches (s : State) : Touches 0x40800000000000000000000000000000000000000000000000000000000000000000000000000000000000000000000000000000000000000020000001 s (State.mbxCheck s) := by
  unfold State.mbxCheck
  refine Touches.ite ?_ ?_
  · exact Touches.step (State.pend_touches ..) rfl (Touches.refl _ _)
  · exact Touches.refl _ _

theorem State.mbxSetHead_touches (s : State) (h : Nat) : Touches 0x40800000008000000000000000000000000000000000000000000000000000000000000000000000000000000000000000000000000000000024000001 s (State.mbxSetHead s h) := by
  unfold State.mbxSetHead
  extract_lets -merge +onlyGivenNames x1
  have h2 : Touches 0x40800000008000000000000000000000000000000000000000000000000000000000000000000000000000000000000000000000000000000024000001 s x1 := by unfold x1; exact State.setF_touches _ _ _ rfl 416 rfl grp_MBX_HEAD
  clear_value x1
  extract_lets -merge +onlyGivenNames x3
  clear_value x3
  extract_lets -merge +onlyGivenNames x4
  have h5 : Touches 0x40800000008000000000000000000000000000000000000000000000000000000000000000000000000000000000000000000000000000000024000001 s x4 := by unfold x4; exact Touches.setMbx h2 rfl
  clear_value x4
  exact Touches.step (State.mbxCheck_touches ..) rfl h5

theorem State.writeMbxHead_touches (s : State) (v : Nat) : Touches 0x40800000808000000000000000000000000000000000000000000000000000000000000000000000000000000000000000000000000000000024000001 s (State.writeMbxHead s v) := by
  unfold State.writeMbxHead
  refine Touches.ite ?_ ?_
  · exact Touches.step (State.mbxSetHead_touches ..) rfl (Touches.refl _ _)
  · exact State.inc_touches _ _ _ rfl 424 rfl grp_MBX_CNT_HEAD_BAD

theorem State.ovfEnd_touches (s : State) : Touches 0x8070000000040800010000000000000000000000000000000000000000000000000000000000000000000000000000000000000000000000000000000000026000211 s (State.ovfEnd s) := by
  unfold State.ovfEnd
  refine Touches.ite ?_ ?_
  · exact Touches.refl _ _
  · refine Touches.trans ?_ (State.report_touches _ _ _ _ _ rfl 429 rfl grp_MBX_HSTATUS)
    exact Touches.setMbx (Touches.refl _ _) rfl

theorem State.mbxStop_touches (s : State) : Touches 0x8070000000040800010000800000000000000000000000000000000000000000000000000000000000000000000000000000000000000000000000000000026000211 s (State.mbxStop s) := by
  unfold State.mbxStop
  exact Touches.step (State.ovfEnd_touches ..) rfl (State.setB_touches _ _ _ rfl 412 rfl grp_MBX_CTRL)

theorem State.mbxStart_touches (s : State) : Touches 0x8070000000040800010018800000000000000000000000000000000000000000000000000000000000000000000000000000000000000000000000000000026000613 s (State.mbxStart s) := by
  unfold State.mbxStart
  split
  · refine Touches.trans ?_ (State.report_touches _ _ _ _ _ rfl 429 rfl grp_MBX_HSTATUS)
    exact State.setB_touches _ _ _ rfl 412 rfl grp_MBX_CTRL
  · extract_lets -merge +onlyGivenNames x1
    clear_value x1
    extract_lets -merge +onlyGivenNames x2
    have h3 : Touches 0x8070000000040800010018800000000000000000000000000000000000000000000000000000000000000000000000000000000000000000000000000000026000613 s x2 := by
      unfold x2
      refine Touches.trans ?_ (State.setF_touches _ _ _ rfl 417 rfl grp_MBX_DONE)
      exact State.setF_touches _ _ _ rfl 416 rfl grp_MBX_HEAD
    clear_value x2
    extract_lets -merge +onlyGivenNames x4
    clear_value x4
    extract_lets -merge +onlyGivenNames x5
    have h6 : Touches 0x8070000000040800010018800000000000000000000000000000000000000000000000000000000000000000000000000000000000000000000000000000026000613 s x5 := by unfold x5; exact Touches.setMbx h3 rfl
    clear_value x5
    extract_lets -merge +onlyGivenNames x7
    have h8 : Touches 0x8070000000040800010018800000000000000000000000000000000000000000000000000000000000000000000000000000000000000000000000000000026000613 s x7 := by unfold x7; exact Touches.step (State.physWrite_touches ..) rfl h6
    clear_value x7
    exact Touches.trans h8 (State.setB_touches _ _ _ rfl 412 rfl grp_MBX_CTRL)

theorem State.writeMbxCtrl_touches (s : State) (v : Nat) : Touches 0x8070000000040800010018800000000000000000000000000000000000000000000000000000000000000000000000000000000000000000000000000000026000613 s (State.writeMbxCtrl s v) := by
  unfold State.writeMbxCtrl
  refine Touches.ite ?_ ?_
  · refine Touches.ite ?_ ?_
    · exact Touches.refl _ _
    · exact Touches.step (State.mbxStart_touches ..) rfl (Touches.refl _ _)
  · refine Touches.ite ?_ ?_
    · exact Touches.step (State.mbxStop_touches ..) rfl (Touches.refl _ _)
    · exact Touches.refl _ _

theorem State.mbxHwm_touches (s : State) : Touches 0x1000000000000000000000000000000000000000000000000000000000000000000000000000000000000000000000000000000000000000001 s (State.mbxHwm s) := by
  unfold State.mbxHwm
  refine Touches.ite ?_ ?_
  · exact State.raise_touches _ _ _ rfl 425 rfl grp_MBX_CNT_HWM
  · exact Touches.refl _ _

theorem State.mbxGap_touches (s : State) (n : Nat) : Touches 0x208070000000040800010200000000000000000000000000000000000000000000000000000000000000000000000000000000000000000000000000000000022000211 s (State.mbxGap s n) := by
  unfold State.mbxGap
  refine Touches.ite ?_ ?_
  · exact Touches.refl _ _
  · extract_lets -merge +onlyGivenNames x1
    have h2 : Touches 0x208070000000040800010200000000000000000000000000000000000000000000000000000000000000000000000000000000000000000000000000000000022000211 s x1 := by unfold x1; exact Touches.step (State.total_touches ..) rfl (State.inc_touches _ _ _ rfl 422 rfl grp_MBX_CNT_GAP)
    clear_value x1
    refine Touches.step (State.pend_touches ..) rfl ?_
    exact Touches.trans h2 (State.report_touches _ _ _ _ _ rfl 429 rfl grp_MBX_HSTATUS)

theorem State.mbxPut_touches (s : State) (r : VRec) : Touches 0x80000000000000000000000000000000000000000000000000000000000000000000000000000000000000000000000000000000004000403 s (State.mbxPut s r) := by
  unfold State.mbxPut
  extract_lets -merge +onlyGivenNames x1
  have h2 : Touches 0x80000000000000000000000000000000000000000000000000000000000000000000000000000000000000000000000000000000004000403 s x1 := by unfold x1; exact Touches.step (State.physWrite_touches ..) rfl (Touches.refl _ _)
  clear_value x1
  extract_lets -merge +onlyGivenNames x3
  have h4 : Touches 0x80000000000000000000000000000000000000000000000000000000000000000000000000000000000000000000000000000000004000403 s x3 := by unfold x3; exact Touches.trans h2 (State.inc_touches _ _ _ rfl 420 rfl grp_MBX_CNT_WRITTEN)
  clear_value x3
  exact Touches.setMbx h4 rfl

theorem State.mbxFull_touches (s : State) (r : VRec) (top : Nat) : Touches 0x200000000000040800000188000000000000000000000000000000000000000000000000000000000000000000000000000000000000000000000000000000024000403 s (State.mbxFull s r top) := by
  unfold State.mbxFull
  extract_lets -merge +onlyGivenNames x1
  clear_value x1
  extract_lets -merge +onlyGivenNames x2
  have h3 : Touches 0x200000000000040800000188000000000000000000000000000000000000000000000000000000000000000000000000000000000000000000000000000000024000403 s x2 := by unfold x2; exact Touches.setMbx (Touches.refl _ _) rfl
  clear_value x2
  extract_lets -merge +onlyGivenNames x4
  have h5 : Touches 0x200000000000040800000188000000000000000000000000000000000000000000000000000000000000000000000000000000000000000000000000000000024000403 s x4 := by
    unfold x4
    refine Touches.step (State.pend_touches ..) rfl ?_
    refine Touches.step (State.total_touches ..) rfl ?_
    exact Touches.trans h3 (State.inc_touches _ _ _ rfl 421 rfl grp_MBX_CNT_OVF)
  clear_value x4
  refine Touches.ite ?_ ?_
  · exact Touches.step (State.mbxPut_touches ..) rfl (Touches.step (State.mbxSetHead_touches ..) rfl h5)
  · exact h5

theorem State.mbxPlace_touches (s : State) (r : VRec) : Touches 0x208070000000040800010188000000000000000000000000000000000000000000000000000000000000000000000000000000000000000000000000000000026000613 s (State.mbxPlace s r) := by
  unfold State.mbxPlace
  extract_lets -merge +onlyGivenNames x1
  clear_value x1
  refine Touches.ite ?_ ?_
  · refine Touches.step (State.mbxPut_touches ..) rfl ?_
    exact Touches.step (State.ovfEnd_touches ..) rfl (Touches.step (State.mbxSetHead_touches ..) rfl (Touches.refl _ _))
  · refine Touches.ite ?_ ?_
    · exact Touches.step (State.mbxFull_touches ..) rfl (Touches.refl _ _)
    · exact Touches.step (State.mbxPut_touches ..) rfl (Touches.step (State.ovfEnd_touches ..) rfl (Touches.refl _ _))

theorem State.mbxTake_touches (s : State) (r : VRec) : Touches 0x208070000000040800011798000000000000000000000000000000000000000000000000000000000000000000000000000000000000000000000000000000026000613 s (State.mbxTake s r) := by
  unfold State.mbxTake
  extract_lets -merge +onlyGivenNames x1
  clear_value x1
  refine Touches.ite ?_ ?_
  · exact State.inc_touches _ _ _ rfl 423 rfl grp_MBX_CNT_OFF
  · refine Touches.step (State.mbxCheck_touches ..) rfl ?_
    refine Touches.step (State.mbxHwm_touches ..) rfl ?_
    refine Touches.trans ?_ (State.setF_touches _ _ _ rfl 417 rfl grp_MBX_DONE)
    exact Touches.step (State.mbxPlace_touches ..) rfl (Touches.step (State.mbxGap_touches ..) rfl (Touches.refl _ _))

theorem State.verdictWrite_touches (s : State) : Touches 0x208070000000040800011798000000000000000000000000000000000000000000000000000000000000000000000000000000000000000000000000000000026000613 s (State.verdictWrite s) := by
  unfold State.verdictWrite
  split
  · refine Touches.ite ?_ ?_
    · exact Touches.step (State.mbxTake_touches ..) rfl (Touches.setMbx (Touches.refl _ _) rfl)
    · exact Touches.refl _ _
  · exact Touches.refl _ _

theorem State.writeMbxIrqCfg_touches (s : State) (v : Nat) : Touches 0x40800000040000000000000000000000000000000000000000000000000000000000000000000000000000000000000000000000000000000020000001 s (State.writeMbxIrqCfg s v) := by
  unfold State.writeMbxIrqCfg
  extract_lets -merge +onlyGivenNames x1
  have h2 : Touches 0x40800000040000000000000000000000000000000000000000000000000000000000000000000000000000000000000000000000000000000020000001 s x1 := by unfold x1; exact State.wr_touches _ _ _ rfl 419 rfl grp_MBX_IRQ_CFG
  clear_value x1
  refine Touches.step (State.mbxCheck_touches ..) rfl ?_
  refine Touches.ite ?_ ?_
  · exact Touches.trans h2 (State.setF_touches _ _ _ rfl 419 rfl grp_MBX_IRQ_CFG)
  · exact h2

theorem State.writeMbxCfg_touches (s : State) (v : Nat) : Touches 0x8070000000040800010001000000000000000000000000000000000000000000000000000000000000000000000000000000000000000000000000000000026000211 s (State.writeMbxCfg s v) := by
  unfold State.writeMbxCfg
  extract_lets -merge +onlyGivenNames x1
  clear_value x1
  extract_lets -merge +onlyGivenNames x2
  have h3 : Touches 0x8070000000040800010001000000000000000000000000000000000000000000000000000000000000000000000000000000000000000000000000000000026000211 s x2 := by unfold x2; exact Touches.setMbx (Touches.refl _ _) rfl
  clear_value x2
  refine Touches.ite ?_ ?_
  · exact Touches.trans h3 (State.report_touches _ _ _ _ _ rfl 429 rfl grp_MBX_HSTATUS)
  · extract_lets -merge +onlyGivenNames x4
    have h5 : Touches 0x8070000000040800010001000000000000000000000000000000000000000000000000000000000000000000000000000000000000000000000000000000026000211 s x4 := by unfold x4; exact Touches.trans h3 (State.wr_touches _ _ _ rfl 413 rfl grp_MBX_CFG)
    clear_value x4
    exact Touches.trans h5 (State.setF_touches _ _ _ rfl 413 rfl grp_MBX_CFG)

theorem State.writeLocked_touches (s : State) (en : Fld) (r : Reg) (v : Nat) : Touches 0x80700000000408000100000000000000000000000000000000000000000000000000000000000000000000000000000000000000000000000000000000000a2000211 s (State.writeLocked s en r v) := by
  unfold State.writeLocked
  refine Touches.ite ?_ ?_
  · exact State.report_touches _ _ _ _ _ rfl 429 rfl grp_MBX_HSTATUS
  · exact State.wr_touches _ _ _ rfl 0 rfl Grp.any

theorem State.irqClear_touches (s : State) (v : Nat) : Touches 0x40800000000000000000000000000000000000000000000000000000000000000000000000000000000000000000000000000000000000000020000001 s (State.irqClear s v) := by
  unfold State.irqClear
  extract_lets -merge +onlyGivenNames x1
  clear_value x1
  extract_lets -merge +onlyGivenNames x2
  have h3 : Touches 0x40800000000000000000000000000000000000000000000000000000000000000000000000000000000000000000000000000000000000000020000001 s x2 := by unfold x2; exact State.setF_touches _ _ _ rfl 448 rfl grp_MBX_IRQ_PEND
  clear_value x2
  refine Touches.ite ?_ ?_
  · exact Touches.step (State.mbxCheck_touches ..) rfl h3
  · exact h3

theorem State.msixFlush_touches (s : State) : Touches 0x40000000000000000000000000000000000000000000000000000000000000000000000000000000000000000000000000000000000000000020000001 s (State.msixFlush s) := by
  unfold State.msixFlush
  refine Touches.ite ?_ ?_
  · exact Touches.refl _ _
  · refine Touches.foldl (fun t1 y2 h3 => ?_) ?_
    · extract_lets -merge +onlyGivenNames x4
      refine Touches.ite ?_ ?_
      · refine Touches.step (State.emit_touches ..) rfl ?_
        exact Touches.trans h3 (State.setF_touches _ _ _ rfl 455 rfl (grp_MBX_MSIX_PBA _))
      · exact h3
    · exact Touches.refl _ _

theorem State.writeWqTail_touches (s : State) (v : Nat) : Touches 0x8070000000040880010000000000000000000000000000000000000000000000000000000000000000000000000000000000000000002000000000000000022000291 s (State.writeWqTail s v) := by
  unfold State.writeWqTail
  extract_lets -merge +onlyGivenNames x1
  have h2 : Touches 0x8070000000040880010000000000000000000000000000000000000000000000000000000000000000000000000000000000000000002000000000000000022000291 s x1 := by unfold x1; exact Touches.step (State.wake_touches ..) rfl (Touches.refl _ _)
  clear_value x1
  extract_lets -merge +onlyGivenNames x3
  clear_value x3
  extract_lets -merge +onlyGivenNames x4
  clear_value x4
  refine Touches.ite ?_ ?_
  · exact Touches.trans h2 (State.report_touches _ _ _ _ _ rfl 429 rfl grp_MBX_HSTATUS)
  · exact Touches.trans h2 (State.setF_touches _ _ _ rfl 444 rfl grp_MBX_WQ_TAIL)

theorem State.writeWqCfg_touches (s : State) (v : Nat) : Touches 0x8070000000040810010000000000000000000000000000000000000000000000000000000000000000000000000000000000000000000000000000000000022000211 s (State.writeWqCfg s v) := by
  unfold State.writeWqCfg
  refine Touches.ite ?_ ?_
  · exact State.report_touches _ _ _ _ _ rfl 429 rfl grp_MBX_HSTATUS
  · exact State.setF_touches _ _ _ rfl 441 rfl grp_MBX_WQ_CFG

theorem State.wqSubmit_touches (s : State) : Touches 0x20807000000004090901000020a0000000000006f9595001e9c080000000000000000000000000000000000000000000000000000000000000000000000000026060615 s (State.wqSubmit s) := by
  unfold State.wqSubmit
  extract_lets -merge +onlyGivenNames x1
  clear_value x1
  refine Touches.ite ?_ ?_
  · exact Touches.refl _ _
  · extract_lets -merge +onlyGivenNames x2
    clear_value x2
    split
    · rename_i x3 x4 x5 e6
      have h7 : Touches 0x20807000000004090901000020a0000000000006f9595001e9c080000000000000000000000000000000000000000000000000000000000000000000000000026060615 s x5 := Touches.of_eq (fun d => d.2) e6 (Touches.step (State.vread_touches ..) rfl (Touches.refl _ _))
      refine Touches.step (State.pend_touches ..) rfl ?_
      refine Touches.trans ?_ (State.report_touches _ _ _ _ _ rfl 429 rfl grp_MBX_HSTATUS)
      exact Touches.trans h7 (State.setB_touches _ _ _ rfl 440 rfl grp_MBX_WQ_CTRL)
    · rename_i x8 x9 x10 e11
      have h12 : Touches 0x20807000000004090901000020a0000000000006f9595001e9c080000000000000000000000000000000000000000000000000000000000000000000000000026060615 s x10 := Touches.of_eq (fun d => d.2) e11 (Touches.step (State.vread_touches ..) rfl (Touches.refl _ _))
      refine Touches.step (State.submit_touches ..) rfl ?_
      exact Touches.trans h12 (State.setF_touches _ _ _ rfl 445 rfl grp_MBX_WQ_HEAD)

theorem State.bar2Fault_touches (s : State) (reason : Nat) : Touches 0x8070000000040800810000000000000000000000000000000000000000000000000000000000000000000000000000000000000000000000000000000000022000215 s (State.bar2Fault s reason) := by
  unfold State.bar2Fault
  refine Touches.trans ?_ (State.reportLimited_touches _ _ _ _ _ _ _ rfl 429 rfl grp_MBX_HSTATUS)
  exact State.inc_touches _ _ _ rfl 436 rfl grp_MBX_CNT_BAR2_FAULT

theorem State.bar2Read_touches (s : State) (a : Nat) (n : Nat) : Touches 0x208070000000040801810000002000000000000000000001e8c080000000000000000000000000000000000000000000000000000000000000000000000000026000615 s (State.bar2Read s a n).2 := by
  unfold State.bar2Read
  refine Touches.ite2 ?_ ?_
  · split
    · rename_i x1 x2 x3 e4
      have h5 : Touches 0x208070000000040801810000002000000000000000000001e8c080000000000000000000000000000000000000000000000000000000000000000000000000026000615 s x3 := Touches.of_eq (fun d => d.2) e4 (Touches.step (State.readPiece_touches ..) rfl (Touches.refl _ _))
      exact h5
    · rename_i x6 x7 x8 e9
      have h10 : Touches 0x208070000000040801810000002000000000000000000001e8c080000000000000000000000000000000000000000000000000000000000000000000000000026000615 s x8 := Touches.of_eq (fun d => d.2) e9 (Touches.step (State.readPiece_touches ..) rfl (Touches.refl _ _))
      exact Touches.pair2 (Touches.step (State.bar2Fault_touches ..) rfl h10)
  · refine Touches.ite2 ?_ ?_
    · split
      · rename_i x11 x12 e13
        have h14 : Touches 0x208070000000040801810000002000000000000000000001e8c080000000000000000000000000000000000000000000000000000000000000000000000000026000615 s x12 := Touches.of_eq (fun d => d.2) e13 (Touches.step (State.eccRead_touches ..) rfl (Touches.refl _ _))
        exact h14
      · rename_i x15 x16 e17
        have h18 : Touches 0x208070000000040801810000002000000000000000000001e8c080000000000000000000000000000000000000000000000000000000000000000000000000026000615 s x16 := Touches.of_eq (fun d => d.2) e17 (Touches.step (State.eccRead_touches ..) rfl (Touches.refl _ _))
        exact Touches.pair2 (Touches.step (State.bar2Fault_touches ..) rfl (Touches.step (State.txFail_touches ..) rfl h18))
    · refine Touches.pair2 ?_
      exact Touches.step (State.bar2Fault_touches ..) rfl (Touches.step (State.txFail_touches ..) rfl (Touches.refl _ _))

theorem State.bar2Write_touches (s : State) (a : Nat) (b : List Byte) : Touches 0x807000000004080181000000000000000000000000000000c080000000000000000000000000000000000000000000000000000000000000000000000000026000617 s (State.bar2Write s a b) := by
  unfold State.bar2Write
  refine Touches.ite ?_ ?_
  · split
    · rename_i x1 x2 x3 e4
      have h5 : Touches 0x807000000004080181000000000000000000000000000000c080000000000000000000000000000000000000000000000000000000000000000000000000026000617 s x3 := Touches.of_eq (fun d => d.2) e4 (Touches.step (State.writePiece_touches ..) rfl (Touches.refl _ _))
      exact Touches.step (State.bar2Fault_touches ..) rfl h5
    · rename_i x6 x7 e8
      have h9 : Touches 0x807000000004080181000000000000000000000000000000c080000000000000000000000000000000000000000000000000000000000000000000000000026000617 s x7 := Touches.of_eq (fun d => d.2) e8 (Touches.step (State.writePiece_touches ..) rfl (Touches.refl _ _))
      exact h9
  · refine Touches.ite ?_ ?_
    · exact Touches.step (State.physWrite_touches ..) rfl (Touches.refl _ _)
    · exact Touches.step (State.bar2Fault_touches ..) rfl (Touches.step (State.txFail_touches ..) rfl (Touches.refl _ _))

theorem State.bar2ReadLoop_touches (a0 : Nat) (a1 : State) (a2 : Nat) (a3 : Nat) (a4 : List Byte) : Touches 0x208070000000040801810000002000000000000000000001e8c080000000000000000000000000000000000000000000000000000000000000000000000000026000615 a1 (State.bar2ReadLoop a0 a1 a2 a3 a4) := by
  fun_induction State.bar2ReadLoop a0 a1 a2 a3 a4
  · rename_i x1 x2 x3 x4
    exact Touches.setMbx (Touches.refl _ _) rfl
  · rename_i x5 x6 x7 x8
    exact Touches.setMbx (Touches.refl _ _) rfl
  · rename_i x9 x10 x11 x12 x13 e14 x15 x16 e17
    have h18 : Touches 0x208070000000040801810000002000000000000000000001e8c080000000000000000000000000000000000000000000000000000000000000000000000000026000615 x10 x16.2 := by unfold x16; exact Touches.step (State.bar2Read_touches ..) rfl (Touches.refl _ _)
    exact Touches.trans h18 e17

theorem State.bar2WriteLoop_touches (a0 : Nat) (a1 : State) (a2 : Nat) (a3 : List Byte) : Touches 0x807000000004080181000000000000000000000000000000c080000000000000000000000000000000000000000000000000000000000000000000000000026000617 a1 (State.bar2WriteLoop a0 a1 a2 a3) := by
  fun_induction State.bar2WriteLoop a0 a1 a2 a3
  · rename_i x1 x2 x3
    exact Touches.refl _ _
  · rename_i x4 x5 x6
    exact Touches.refl _ _
  · rename_i x7 x8 x9 x10 e11 x12 e13
    exact Touches.trans (Touches.step (State.bar2Write_touches ..) rfl (Touches.refl _ _)) e13

theorem State.bar2_touches (s : State) (off : Nat) (n : Nat) (wr : Option (List Byte)) : Touches 0x208070000000040801810000002000000000000000000001e8c080000000000000000000000000000000000000000000000000000000000000000000000000026000617 s (State.bar2 s off n wr) := by
  unfold State.bar2
  extract_lets -merge +onlyGivenNames x1
  clear_value x1
  refine Touches.ite ?_ ?_
  · exact Touches.refl _ _
  · split
    · exact Touches.step (State.bar2WriteLoop_touches ..) rfl (Touches.refl _ _)
    · exact Touches.step (State.bar2ReadLoop_touches ..) rfl (Touches.refl _ _)

theorem State.hwLeave_touches (s : State) : Touches 0x24000000 s (State.hwLeave s) := by
  unfold State.hwLeave
  split
  · refine Touches.ite ?_ ?_
    · extract_lets -merge +onlyGivenNames x1
      clear_value x1
      exact Touches.step (State.emit_touches ..) rfl (Touches.setMbx (Touches.refl _ _) rfl)
    · exact Touches.refl _ _
  · exact Touches.refl _ _

theorem State.hwAnswer_touches (s : State) (a : Nat) (b : List Byte) : Touches 0x4000000 s (State.hwAnswer s a b) := by
  unfold State.hwAnswer
  exact Touches.setMbx (Touches.refl _ _) rfl

theorem State.hwDiscard_touches (s : State) (cause : Nat) : Touches 0x807000000004080101000000000000000000000000000000c080000000000000000000000000000000000000000000000000000000000000000000000000026000615 s (State.hwDiscard s cause) := by
  unfold State.hwDiscard
  split
  · refine Touches.step (State.txFail_touches ..) rfl ?_
    exact Touches.step (State.hwinFault_touches ..) rfl (Touches.setMbx (Touches.refl _ _) rfl)
  · exact Touches.refl _ _

theorem State.hostReset_touches (s : State) (sts : Nat) (detail : Nat) (linkLost : Bool) : Touches 0x3800807000000004080d41400000000000000000000000000000c080000000000000000000000000000000000000000000000000000000000000000000000000026000615 s (State.hostReset s sts detail linkLost) := by
  unfold State.hostReset
  extract_lets -merge +onlyGivenNames x1
  have h2 : Touches 0x3800807000000004080d41400000000000000000000000000000c080000000000000000000000000000000000000000000000000000000000000000000000000026000615 s x1 := by
    unfold x1
    refine Touches.trans ?_ (State.clearRegs_touches _ _ _ rfl 514 rfl grp_rangeA0410)
    refine Touches.trans ?_ (State.clearRegs_touches _ _ _ rfl 513 rfl grp_rangeA3000)
    exact State.clearRegs_touches _ _ _ rfl 512 rfl grp_rangeA2000
  clear_value x1
  extract_lets -merge +onlyGivenNames x3
  have h4 : Touches 0x3800807000000004080d41400000000000000000000000000000c080000000000000000000000000000000000000000000000000000000000000000000000000026000615 s x3 := by unfold x3; exact Touches.trans h2 (State.setF_touches _ _ _ rfl 448 rfl grp_MBX_IRQ_PEND)
  clear_value x3
  extract_lets -merge +onlyGivenNames x5
  have h6 : Touches 0x3800807000000004080d41400000000000000000000000000000c080000000000000000000000000000000000000000000000000000000000000000000000000026000615 s x5 := by
    unfold x5
    refine Touches.trans ?_ (State.setB_touches _ _ _ rfl 429 rfl grp_MBX_HSTATUS)
    exact Touches.trans h4 (State.setB_touches _ _ _ rfl 429 rfl grp_MBX_HSTATUS)
  clear_value x5
  extract_lets -merge +onlyGivenNames x7
  have h8 : Touches 0x3800807000000004080d41400000000000000000000000000000c080000000000000000000000000000000000000000000000000000000000000000000000000026000615 s x7 := by
    unfold x7
    refine Touches.trans ?_ (State.setB_touches _ _ _ rfl 435 rfl grp_MBX_HWIN_CTRL)
    exact Touches.trans h6 (State.setB_touches _ _ _ rfl 440 rfl grp_MBX_WQ_CTRL)
  clear_value x7
  extract_lets -merge +onlyGivenNames x9
  clear_value x9
  extract_lets -merge +onlyGivenNames x10
  clear_value x10
  extract_lets -merge +onlyGivenNames x11
  have h12 : Touches 0x3800807000000004080d41400000000000000000000000000000c080000000000000000000000000000000000000000000000000000000000000000000000000026000615 s x11 := by
    unfold x11
    exact Touches.upd h8 rfl rfl rfl rfl rfl rfl rfl
      (by intro p hp; cases p <;> first | rfl | exact absurd hp (by decide))
  clear_value x11
  extract_lets -merge +onlyGivenNames x13
  have h17 : Touches 0x3800807000000004080d41400000000000000000000000000000c080000000000000000000000000000000000000000000000000000000000000000000000000026000615 s x13 := by
    unfold x13
    refine Touches.foldl (fun t14 y15 h16 => ?_) ?_
    · exact Touches.step (State.hwDiscard_touches ..) rfl h16
    · exact h12
  clear_value x13
  extract_lets -merge +onlyGivenNames x18
  have h19 : Touches 0x3800807000000004080d41400000000000000000000000000000c080000000000000000000000000000000000000000000000000000000000000000000000000026000615 s x18 := by
    unfold x18
    refine Touches.ite ?_ ?_
    · refine Touches.trans ?_ (State.setF_touches _ _ _ rfl 427 rfl grp_MBX_LINK)
      refine Touches.trans ?_ (State.setF_touches _ _ _ rfl 427 rfl grp_MBX_LINK)
      exact Touches.trans h17 (State.setF_touches _ _ _ rfl 427 rfl grp_MBX_LINK)
    · exact h17
  clear_value x18
  extract_lets -merge +onlyGivenNames x20
  clear_value x20
  extract_lets -merge +onlyGivenNames x21
  have h22 : Touches 0x3800807000000004080d41400000000000000000000000000000c080000000000000000000000000000000000000000000000000000000000000000000000000026000615 s x21 := by
    unfold x21
    refine Touches.ite ?_ ?_
    · exact Touches.setMbx h19 rfl
    · exact h19
  clear_value x21
  refine Touches.trans ?_ (State.report_touches _ _ _ _ _ rfl 429 rfl grp_MBX_HSTATUS)
  exact Touches.trans h22 (State.inc_touches _ _ _ rfl 439 rfl grp_MBX_CNT_RESETS)

theorem State.cfgWrite_touches (s : State) (w : ConfigWrite) : Touches 0x40000010000000000000000000000000000000000000000000000000000000000000000000000000000000000000000000000000000000000024000001 s (State.cfgWrite s w) := by
  unfold State.cfgWrite
  refine Touches.ite ?_ ?_
  · exact Touches.refl _ _
  · extract_lets -merge +onlyGivenNames x1
    have h2 : Touches 0x40000010000000000000000000000000000000000000000000000000000000000000000000000000000000000000000000000000000000000024000001 s x1 := by
      unfold x1
      refine Touches.trans ?_ (State.setB_touches _ _ _ rfl 429 rfl grp_MBX_HSTATUS)
      exact State.setB_touches _ _ _ rfl 429 rfl grp_MBX_HSTATUS
    clear_value x1
    extract_lets -merge +onlyGivenNames x3
    clear_value x3
    extract_lets -merge +onlyGivenNames x4
    clear_value x4
    extract_lets -merge +onlyGivenNames x5
    have h6 : Touches 0x40000010000000000000000000000000000000000000000000000000000000000000000000000000000000000000000000000000000000000024000001 s x5 := by unfold x5; exact Touches.setMbx h2 rfl
    clear_value x5
    extract_lets -merge +onlyGivenNames x7
    clear_value x7
    extract_lets -merge +onlyGivenNames x8
    clear_value x8
    extract_lets -merge +onlyGivenNames x9
    have h10 : Touches 0x40000010000000000000000000000000000000000000000000000000000000000000000000000000000000000000000000000000000000000024000001 s x9 := by
      unfold x9
      refine Touches.ite ?_ ?_
      · exact Touches.setMbx h6 rfl
      · exact Touches.setMbx h6 rfl
    clear_value x9
    exact Touches.step (State.msixFlush_touches ..) rfl h10

theorem State.linkTrained_touches (s : State) (speed : Nat) (width : Nat) : Touches 0x8070000000040800014000000000000000000000000000000000000000000000000000000000000000000000000000000000000000000000000000000000022000211 s (State.linkTrained s speed width) := by
  unfold State.linkTrained
  refine Touches.ite ?_ ?_
  · exact Touches.refl _ _
  · extract_lets -merge +onlyGivenNames x1
    have h2 : Touches 0x8070000000040800014000000000000000000000000000000000000000000000000000000000000000000000000000000000000000000000000000000000022000211 s x1 := by
      unfold x1
      refine Touches.trans ?_ (State.setF_touches _ _ _ rfl 427 rfl grp_MBX_LINK)
      refine Touches.trans ?_ (State.setF_touches _ _ _ rfl 427 rfl grp_MBX_LINK)
      exact State.setF_touches _ _ _ rfl 427 rfl grp_MBX_LINK
    clear_value x1
    refine Touches.ite ?_ ?_
    · exact Touches.trans h2 (State.report_touches _ _ _ _ _ rfl 429 rfl grp_MBX_HSTATUS)
    · exact h2

theorem State.runsetAsk_touches (s : State) (regs : List (Nat × Nat)) : Touches 0xc070000000040c00000000000000000000000000000000000000000000000000000000000000000000000000000000000000000000000000000000000000026000211 s (State.runsetAsk s regs) := by
  unfold State.runsetAsk
  refine Touches.ite ?_ ?_
  · exact Touches.refl _ _
  · extract_lets -merge +onlyGivenNames x1
    clear_value x1
    extract_lets -merge +onlyGivenNames x2
    have h3 : Touches 0xc070000000040c00000000000000000000000000000000000000000000000000000000000000000000000000000000000000000000000000000000000000026000211 s x2 := by unfold x2; exact Touches.setMbx (Touches.refl _ _) rfl
    clear_value x2
    refine Touches.step (State.flashAsk_touches ..) rfl ?_
    exact Touches.trans h3 (State.setB_touches _ _ _ rfl 447 rfl grp_MBX_RUNSET_STATUS)

theorem State.runsetStored_touches (s : State) : Touches 0x8070000000040c00000000000000000000000000000000000000000000000000000000000000000000000000000000000000000000000000000000000000026000211 s (State.runsetStored s) := by
  unfold State.runsetStored
  split
  · exact Touches.refl _ _
  · refine Touches.ite ?_ ?_
    · extract_lets -merge +onlyGivenNames x1
      clear_value x1
      extract_lets -merge +onlyGivenNames x2
      have h3 : Touches 0x8070000000040c00000000000000000000000000000000000000000000000000000000000000000000000000000000000000000000000000000000000000026000211 s x2 := by unfold x2; exact Touches.setMbx (Touches.refl _ _) rfl
      clear_value x2
      extract_lets -merge +onlyGivenNames x4
      have h5 : Touches 0x8070000000040c00000000000000000000000000000000000000000000000000000000000000000000000000000000000000000000000000000000000000026000211 s x4 := by
        unfold x4
        refine Touches.trans ?_ (State.setB_touches _ _ _ rfl 447 rfl grp_MBX_RUNSET_STATUS)
        exact Touches.trans h3 (State.setB_touches _ _ _ rfl 447 rfl grp_MBX_RUNSET_STATUS)
      clear_value x4
      exact Touches.step (State.stageStore_touches ..) rfl (Touches.step (State.flashDone_touches ..) rfl h5)
    · exact Touches.refl _ _

end Sys2Proof.Machine
end

