-- ==== Sys2Proof/Laws/FrameImageExec.lean ====
section
/-! SUPPORT. What each operation of Machine/ImageExec.lean can do: the parts of the state it touches (Touches). -/

-- One declaration at a time: many proofs at once would each hold a thread with a large stack.
set_option Elab.async false

namespace Sys2Proof.Machine

theorem State.imgState_touches (s : State) (st : Nat) : Touches 0x40800000000000000000000000000000000000000000000000000000000000000000000000000000000000000080000000000000000000000020000001 s (State.imgState s st) := by
  unfold State.imgState
  extract_lets -merge +onlyGivenNames x1
  clear_value x1
  extract_lets -merge +onlyGivenNames x2
  have h3 : Touches 0x40800000000000000000000000000000000000000000000000000000000000000000000000000000000000000080000000000000000000000020000001 s x2 := by unfold x2; exact State.setF_touches _ _ _ rfl 96 rfl grp_BOOT_IMG_STATUS
  clear_value x2
  refine Touches.ite ?_ ?_
  · exact h3
  · exact Touches.step (State.pend_touches ..) rfl h3

theorem State.imgBusy_touches (s : State) : Touches 0x80000000000000000000000000000001 s (State.imgBusy s) := by
  unfold State.imgBusy
  exact State.setB_touches _ _ _ rfl 96 rfl grp_BOOT_IMG_STATUS

theorem State.imgFail_touches (s : State) (f : ImgFail) : Touches 0x8070000000040800000000000000000000000000000000000000000000000000000000000000000000000000000000000000180000000000000000000000022000211 s (State.imgFail s f) := by
  unfold State.imgFail
  extract_lets -merge +onlyGivenNames x1
  have h2 : Touches 0x8070000000040800000000000000000000000000000000000000000000000000000000000000000000000000000000000000180000000000000000000000022000211 s x1 := by
    unfold x1
    refine Touches.trans ?_ (State.setF_touches _ _ _ rfl 96 rfl grp_BOOT_IMG_STATUS)
    exact State.setF_touches _ _ _ rfl 96 rfl grp_BOOT_IMG_STATUS
  clear_value x1
  refine Touches.step (State.imgReport_touches ..) rfl ?_
  exact Touches.trans h2 (State.setF_touches _ _ _ rfl 97 rfl grp_BOOT_IMG_DETAIL)

theorem State.slotRegs_touches (s : State) : Touches 0x800000000000000000000000000000001 s (State.slotRegs s) := by
  unfold State.slotRegs
  extract_lets -merge +onlyGivenNames x1
  clear_value x1
  extract_lets -merge +onlyGivenNames x2
  clear_value x2
  extract_lets -merge +onlyGivenNames x3
  clear_value x3
  extract_lets -merge +onlyGivenNames x4
  have h5 : Touches 0x800000000000000000000000000000001 s x4 := by
    unfold x4
    refine Touches.trans ?_ (State.setF_touches _ _ _ rfl 100 rfl grp_BOOT_IMG_SLOTS)
    exact State.setB_touches _ _ _ rfl 100 rfl grp_BOOT_IMG_SLOTS
  clear_value x4
  refine Touches.trans ?_ (State.setB_touches _ _ _ rfl 100 rfl grp_BOOT_IMG_SLOTS)
  exact Touches.trans h5 (State.setF_touches _ _ _ rfl 100 rfl grp_BOOT_IMG_SLOTS)

theorem State.keyRegs_touches (s : State) : Touches 0x1000000000000000000000000000000001 s (State.keyRegs s) := by
  unfold State.keyRegs
  refine Touches.trans ?_ (State.setF_touches _ _ _ rfl 101 rfl grp_BOOT_IMG_KEYS)
  exact State.setF_touches _ _ _ rfl 101 rfl grp_BOOT_IMG_KEYS

theorem State.dataCopy_touches (s : State) (im : Image) : Touches 0x402 s (State.dataCopy s im) := by
  unfold State.dataCopy
  refine Touches.foldl (fun t1 y2 h3 => ?_) ?_
  · split
    · exact Touches.step (State.physWrite_touches ..) rfl h3
    · exact h3
  · exact Touches.refl _ _

theorem State.imgLoad_touches (s : State) (src : Nat) : Touches 0x8070000000040800000000000000000000000000000000000000000000000000000000000000000000000000000000000000180000000000000000000000022000713 s (State.imgLoad s src) := by
  unfold State.imgLoad
  refine Touches.ite ?_ ?_
  · exact Touches.step (State.imgReport_touches ..) rfl (Touches.refl _ _)
  · extract_lets -merge +onlyGivenNames x1
    extract_lets -merge +onlyGivenNames x2
    have h3 : Touches 0x8070000000040800000000000000000000000000000000000000000000000000000000000000000000000000000000000000180000000000000000000000022000713 s x2 := by unfold x2; exact Touches.setImg (Touches.refl _ _) rfl
    clear_value x2
    clear_value x1
    split
    · exact Touches.step (State.imgFail_touches ..) rfl h3
    · extract_lets -merge +onlyGivenNames x4
      extract_lets -merge +onlyGivenNames x5
      have h6 : Touches 0x8070000000040800000000000000000000000000000000000000000000000000000000000000000000000000000000000000180000000000000000000000022000713 s x5 := by unfold x5; exact Touches.step (State.dataCopy_touches ..) rfl (Touches.setImg h3 rfl)
      clear_value x5
      clear_value x4
      refine Touches.step (State.imgBusy_touches ..) rfl ?_
      refine Touches.step (State.imgState_touches ..) rfl ?_
      exact Touches.trans h6 (State.setF_touches _ _ _ rfl 96 rfl grp_BOOT_IMG_STATUS)

theorem State.setWords8_touches (s : State) (r : Nat → Fld) (l : List Byte) {m : Nat} (hm : 0x1 ||| m = m) (b : Nat)
    (hb : m.testBit (31 + b) = true) (g : ∀ k, Grp b (r k).reg.off) : Touches m s (s.setWords8 r l) :=
  Touches.foldl (fun _ k h => h.trans (State.setF_touches _ _ _ hm b hb (g k))) (Touches.refl _ _)

theorem State.gatesSet_touches (s : State) (gates : List GateRec) : Touches 0x3000000000000000000000000000000000000000000000000000000000000000000000000000000000040000000000000000000000000000000000000200000000000001 s (State.gatesSet s gates) := by
  unfold State.gatesSet
  extract_lets -merge +onlyGivenNames x1
  have h2 : Touches 0x3000000000000000000000000000000000000000000000000000000000000000000000000000000000040000000000000000000000000000000000000200000000000001 s x1 := by
    unfold x1
    refine Touches.trans ?_ (State.clearRegs_touches _ _ _ rfl 510 rfl grp_range12800)
    exact State.clearRegs_touches _ _ _ rfl 509 rfl grp_range10900
  clear_value x1
  extract_lets -merge +onlyGivenNames x3
  have h7 : Touches 0x3000000000000000000000000000000000000000000000000000000000000000000000000000000000040000000000000000000000000000000000000200000000000001 s x3 := by
    unfold x3
    refine Touches.foldl (fun t4 y5 h6 => ?_) ?_
    · refine Touches.trans ?_ (State.setF_touches _ _ _ rfl 26 rfl (grp_MOT_GATE_CFG _))
      refine Touches.trans ?_ (State.setF_touches _ _ _ rfl 26 rfl (grp_MOT_GATE_CFG _))
      refine Touches.trans ?_ (State.setF_touches _ _ _ rfl 26 rfl (grp_MOT_GATE_CFG _))
      exact Touches.trans h6 (State.setF_touches _ _ _ rfl 26 rfl (grp_MOT_GATE_CFG _))
    · exact h2
  clear_value x3
  refine Touches.foldl (fun t8 y9 h10 => ?_) ?_
  · extract_lets -merge +onlyGivenNames x11
    extract_lets -merge +onlyGivenNames x12
    clear_value x12
    exact Touches.trans h10 (State.setF_touches _ _ _ rfl 179 rfl (grp_EJ_OUT_CFG _))
  · exact h7

theorem State.cellsSet_touches (s : State) (syncs : List SyncRec) : Touches 0x4000000000000000000000000000000000000000000005000000000000000000000000000000000000000000000000000000000000000000000000000000000000000001 s (State.cellsSet s syncs) := by
  unfold State.cellsSet
  extract_lets -merge +onlyGivenNames x1
  have h2 : Touches 0x4000000000000000000000000000000000000000000005000000000000000000000000000000000000000000000000000000000000000000000000000000000000000001 s x1 := by unfold x1; exact State.clearRegs_touches _ _ _ rfl 511 rfl grp_range80000
  clear_value x1
  refine Touches.foldl (fun t3 y4 h5 => ?_) ?_
  · refine Touches.trans ?_ (State.setB_touches _ _ _ rfl 331 rfl (grp_SYNC_STATE _))
    exact Touches.trans h5 (State.setF_touches _ _ _ rfl 329 rfl (grp_SYNC_COUNT _))
  · exact h2

theorem State.gillsSet_touches (s : State) (parts : List PartRec) : Touches 0x40000000000000001002000000000000000000000000000000000000000000000000000000000000000000000000008001 s (State.gillsSet s parts) := by
  unfold State.gillsSet
  refine Touches.foldl (fun t1 y2 h3 => ?_) ?_
  · extract_lets -merge +onlyGivenNames x4
    clear_value x4
    extract_lets -merge +onlyGivenNames x5
    extract_lets -merge +onlyGivenNames x6
    have h7 : Touches 0x40000000000000001002000000000000000000000000000000000000000000000000000000000000000000000000008001 s x6 := by unfold x6; exact Touches.step (State.setGl_touches ..) rfl h3
    clear_value x6
    clear_value x5
    extract_lets -merge +onlyGivenNames x8
    have h9 : Touches 0x40000000000000001002000000000000000000000000000000000000000000000000000000000000000000000000008001 s x8 := by unfold x8; exact Touches.trans h7 (State.setF_touches _ _ _ rfl 282 rfl (grp_GILL_STATUS _))
    clear_value x8
    extract_lets -merge +onlyGivenNames x10
    have h11 : Touches 0x40000000000000001002000000000000000000000000000000000000000000000000000000000000000000000000008001 s x10 := by unfold x10; exact Touches.trans h9 (State.setF_touches _ _ _ rfl 282 rfl (grp_GILL_STATUS _))
    clear_value x10
    exact Touches.trans h11 (State.setF_touches _ _ _ rfl 359 rfl (grp_SCHED_GILL_RES _))
  · exact Touches.refl _ _

theorem State.queuesSet_touches (s : State) (qs : List QueueRec) (ps : List PartRec) : Touches 0x804000000000000000000000000000000000000000000000000000000000000000000000000000000000000000020001 s (State.queuesSet s qs ps) := by
  unfold State.queuesSet
  extract_lets -merge +onlyGivenNames x1
  have h6 : Touches 0x804000000000000000000000000000000000000000000000000000000000000000000000000000000000000000020001 s x1 := by
    unfold x1
    refine Touches.foldl (fun t2 y3 h4 => ?_) ?_
    · extract_lets -merge +onlyGivenNames x5
      clear_value x5
      refine Touches.trans ?_ (State.setF_touches _ _ _ rfl 343 rfl (grp_SCHED_Q_CFG _))
      exact Touches.trans h4 (State.setF_touches _ _ _ rfl 343 rfl (grp_SCHED_Q_CFG _))
    · exact Touches.refl _ _
  clear_value x1
  extract_lets -merge +onlyGivenNames x7
  have h11 : Touches 0x804000000000000000000000000000000000000000000000000000000000000000000000000000000000000000020001 s x7 := by
    unfold x7
    refine Touches.foldl (fun t8 y9 h10 => ?_) ?_
    · exact Touches.trans h10 (State.setF_touches _ _ _ rfl 352 rfl (grp_SCHED_P_QUANTUM _))
    · exact h6
  clear_value x7
  exact Touches.setSched h11 rfl

theorem State.camsSet_touches (s : State) (cams : List CamRec) (isps : List IspRec) : Touches 0x8070000000040800000000000000000000000000000000000000000000000000000000000000000000000000010000100400000000000000000000000000022100211 s (State.camsSet s cams isps) := by
  unfold State.camsSet
  extract_lets -merge +onlyGivenNames x1
  have h11 : Touches 0x8070000000040800000000000000000000000000000000000000000000000000000000000000000000000000010000100400000000000000000000000000022100211 s x1 := by
    unfold x1
    refine Touches.foldl (fun t2 y3 h4 => ?_) ?_
    · extract_lets -merge +onlyGivenNames x5
      clear_value x5
      extract_lets -merge +onlyGivenNames x6
      have h7 : Touches 0x8070000000040800000000000000000000000000000000000000000000000000000000000000000000000000010000100400000000000000000000000000022100211 s x6 := by
        unfold x6
        refine Touches.trans ?_ (State.setF_touches _ _ _ rfl 111 rfl (grp_CXP_BIND _))
        exact Touches.trans h4 (State.setF_touches _ _ _ rfl 111 rfl (grp_CXP_BIND _))
      clear_value x6
      extract_lets -merge +onlyGivenNames x8
      clear_value x8
      extract_lets -merge +onlyGivenNames x9
      have h10 : Touches 0x8070000000040800000000000000000000000000000000000000000000000000000000000000000000000000010000100400000000000000000000000000022100211 s x9 := by unfold x9; exact Touches.step (State.setPort_touches ..) rfl h7
      clear_value x9
      refine Touches.trans ?_ (State.setB_touches _ _ _ rfl 111 rfl (grp_CXP_BIND _))
      exact Touches.trans h10 (State.setF_touches _ _ _ rfl 121 rfl (grp_CXP_FB_STATUS _))
    · exact Touches.refl _ _
  clear_value x1
  refine Touches.foldl (fun t12 y13 h14 => ?_) ?_
  · extract_lets -merge +onlyGivenNames x15
    have h16 : Touches 0x8070000000040800000000000000000000000000000000000000000000000000000000000000000000000000010000100400000000000000000000000000022100211 s x15 := by unfold x15; exact Touches.step (State.setPipe_touches ..) rfl h14
    clear_value x15
    extract_lets -merge +onlyGivenNames x17
    clear_value x17
    extract_lets -merge +onlyGivenNames x18
    have h19 : Touches 0x8070000000040800000000000000000000000000000000000000000000000000000000000000000000000000010000100400000000000000000000000000022100211 s x18 := by unfold x18; exact Touches.trans h16 (State.setF_touches _ _ _ rfl 141 rfl (grp_ISP_PIPE_STATUS _))
    clear_value x18
    extract_lets -merge +onlyGivenNames x20
    have h21 : Touches 0x8070000000040800000000000000000000000000000000000000000000000000000000000000000000000000010000100400000000000000000000000000022100211 s x20 := by unfold x20; exact Touches.trans h19 (State.setF_touches _ _ _ rfl 141 rfl (grp_ISP_PIPE_STATUS _))
    clear_value x20
    split
    · refine Touches.trans ?_ (State.setB_touches _ _ _ rfl 141 rfl (grp_ISP_PIPE_STATUS _))
      exact Touches.trans h21 (State.setB_touches _ _ _ rfl 141 rfl (grp_ISP_PIPE_STATUS _))
    · split
      · refine Touches.trans ?_ (State.setB_touches _ _ _ rfl 141 rfl (grp_ISP_PIPE_STATUS _))
        exact Touches.trans h21 (State.setB_touches _ _ _ rfl 141 rfl (grp_ISP_PIPE_STATUS _))
      · refine Touches.step (State.ispReport_touches ..) rfl ?_
        refine Touches.trans ?_ (State.setB_touches _ _ _ rfl 141 rfl (grp_ISP_PIPE_STATUS _))
        exact Touches.trans h21 (State.setB_touches _ _ _ rfl 141 rfl (grp_ISP_PIPE_STATUS _))
  · exact h11

theorem State.portsSwitch_touches (s : State) (old : List (Nat × List Nat × Nat)) : Touches 0x8070000000040800000000000000000000000000000000000000000000000004000000000000000000000000000010000300000000000000000000000000022380251 s (State.portsSwitch s old) := by
  unfold State.portsSwitch
  extract_lets -merge +onlyGivenNames x1
  clear_value x1
  extract_lets -merge +onlyGivenNames x2
  have h3 : Touches 0x8070000000040800000000000000000000000000000000000000000000000004000000000000000000000000000010000300000000000000000000000000022380251 s x2 := by unfold x2; exact Touches.setPwr (Touches.refl _ _) rfl
  clear_value x2
  extract_lets -merge +onlyGivenNames x4
  have h5 : Touches 0x8070000000040800000000000000000000000000000000000000000000000004000000000000000000000000000010000300000000000000000000000000022380251 s x4 := by unfold x4; exact Touches.step (State.pocxpDetect_touches ..) rfl h3
  clear_value x4
  refine Touches.foldl (fun t6 y7 h8 => ?_) ?_
  · refine Touches.ite ?_ ?_
    · exact h8
    · extract_lets -merge +onlyGivenNames x9
      have h10 : Touches 0x8070000000040800000000000000000000000000000000000000000000000004000000000000000000000000000010000300000000000000000000000000022380251 s x9 := by
        unfold x9
        refine Touches.trans ?_ (State.setB_touches _ _ _ rfl 109 rfl (grp_CXP_PORT_CFG _))
        exact Touches.step (State.portOwns_touches ..) rfl h8
      clear_value x9
      extract_lets -merge +onlyGivenNames x11
      have h12 : Touches 0x8070000000040800000000000000000000000000000000000000000000000004000000000000000000000000000010000300000000000000000000000000022380251 s x11 := by
        unfold x11
        refine Touches.trans ?_ (State.setF_touches _ _ _ rfl 110 rfl (grp_CXP_PORT_STATUS _))
        exact Touches.step (State.portGo_touches ..) rfl (Touches.step (State.portClear_touches ..) rfl h10)
      clear_value x11
      extract_lets -merge +onlyGivenNames x13
      have h14 : Touches 0x8070000000040800000000000000000000000000000000000000000000000004000000000000000000000000000010000300000000000000000000000000022380251 s x13 := by unfold x13; exact Touches.trans h12 (State.setF_touches _ _ _ rfl 110 rfl (grp_CXP_PORT_STATUS _))
      clear_value x13
      refine Touches.ite ?_ ?_
      · exact h14
      · exact Touches.step (State.writePortCfg_touches ..) rfl h14
  · exact h5

theorem State.ringRole_touches (s : State) (r : Option RingRec) : Touches 0x80700000000408000000000000000000000000000000000000000000201c0804000800000000000000000000000000000000000000000000000000000000022600251 s (State.ringRole s r) := by
  unfold State.ringRole
  extract_lets -merge +onlyGivenNames x1
  have h2 : Touches 0x80700000000408000000000000000000000000000000000000000000201c0804000800000000000000000000000000000000000000000000000000000000022600251 s x1 := by
    unfold x1
    refine Touches.ite ?_ ?_
    · exact Touches.refl _ _
    · exact Touches.step (State.ringOff_touches ..) rfl (Touches.refl _ _)
  clear_value x1
  extract_lets -merge +onlyGivenNames x3
  have h4 : Touches 0x80700000000408000000000000000000000000000000000000000000201c0804000800000000000000000000000000000000000000000000000000000000022600251 s x3 := by
    unfold x3
    refine Touches.trans ?_ (State.setF_touches _ _ _ rfl 264 rfl grp_RING_TOPO)
    exact Touches.trans h2 (State.setF_touches _ _ _ rfl 264 rfl grp_RING_TOPO)
  clear_value x3
  extract_lets -merge +onlyGivenNames x5
  have h6 : Touches 0x80700000000408000000000000000000000000000000000000000000201c0804000800000000000000000000000000000000000000000000000000000000022600251 s x5 := by unfold x5; exact Touches.trans h4 (State.setF_touches _ _ _ rfl 265 rfl grp_RING_LAYOUT)
  clear_value x5
  refine Touches.ite ?_ ?_
  · exact Touches.step (State.ringOn__touches ..) rfl h6
  · exact Touches.step (State.ringReady_touches ..) rfl h6

theorem State.unitsSet_touches (s : State) (im : Image) : Touches 0x7008070000000040800000000000000001008440804005000000001002000000000000000000000000040000000010000100400000000000000000000200000022928211 s (State.unitsSet s im) := by
  unfold State.unitsSet
  extract_lets -merge +onlyGivenNames x1
  have h2 : Touches 0x7008070000000040800000000000000001008440804005000000001002000000000000000000000000040000000010000100400000000000000000000200000022928211 s x1 := by
    unfold x1
    refine Touches.step (State.gillsSet_touches ..) rfl ?_
    exact Touches.step (State.cellsSet_touches ..) rfl (Touches.step (State.gatesSet_touches ..) rfl (Touches.refl _ _))
  clear_value x1
  extract_lets -merge +onlyGivenNames x3
  have h4 : Touches 0x7008070000000040800000000000000001008440804005000000001002000000000000000000000000040000000010000100400000000000000000000200000022928211 s x3 := by unfold x3; exact Touches.step (State.camsSet_touches ..) rfl (Touches.step (State.queuesSet_touches ..) rfl h2)
  clear_value x3
  exact Touches.step (State.pfxClear_touches ..) rfl h4

theorem State.imgCommit_touches (s : State) : Touches 0x7008070000000040800000020000c000010084408040050000000010020201c080400080000000000004000000001001010070e680000000000000000200000022fa8751 s (State.imgCommit s) := by
  unfold State.imgCommit
  split
  · exact Touches.refl _ _
  · extract_lets -merge +onlyGivenNames x1
    extract_lets -merge +onlyGivenNames x2
    extract_lets -merge +onlyGivenNames x3
    extract_lets -merge +onlyGivenNames x4
    clear_value x4
    extract_lets -merge +onlyGivenNames x5
    have h6 : Touches 0x7008070000000040800000020000c000010084408040050000000010020201c080400080000000000004000000001001010070e680000000000000000200000022fa8751 s x5 := by
      unfold x5
      exact Touches.upd (Touches.refl _ _) rfl rfl rfl rfl rfl rfl rfl
        (by intro p hp; cases p <;> first | rfl | exact absurd hp (by decide))
    clear_value x5
    clear_value x1
    clear_value x2
    clear_value x3
    extract_lets -merge +onlyGivenNames x7
    have h8 : Touches 0x7008070000000040800000020000c000010084408040050000000010020201c080400080000000000004000000001001010070e680000000000000000200000022fa8751 s x7 := by
      unfold x7
      refine Touches.trans ?_ (State.setF_touches _ _ _ rfl 99 rfl grp_BOOT_IMG_REV)
      exact Touches.trans h6 (State.setF_touches _ _ _ rfl 98 rfl grp_BOOT_IMG_ACTIVE)
    clear_value x7
    extract_lets -merge +onlyGivenNames x9
    have h10 : Touches 0x7008070000000040800000020000c000010084408040050000000010020201c080400080000000000004000000001001010070e680000000000000000200000022fa8751 s x9 := by unfold x9; exact Touches.trans h8 (State.setWords8_touches _ _ _ rfl 103 rfl (fun _ => (grp_BOOT_IMG_DIGEST _)))
    clear_value x9
    extract_lets -merge +onlyGivenNames x11
    have h12 : Touches 0x7008070000000040800000020000c000010084408040050000000010020201c080400080000000000004000000001001010070e680000000000000000200000022fa8751 s x11 := by unfold x11; exact Touches.trans h10 (State.setWords8_touches _ _ _ rfl 399 rfl (fun _ => (grp_SYS_REPRO_DIGEST _)))
    clear_value x11
    extract_lets -merge +onlyGivenNames x13
    have h14 : Touches 0x7008070000000040800000020000c000010084408040050000000010020201c080400080000000000004000000001001010070e680000000000000000200000022fa8751 s x13 := by
      unfold x13
      refine Touches.trans ?_ (State.setF_touches _ _ _ rfl 400 rfl grp_SYS_REPRO_STATUS)
      exact Touches.trans h12 (State.wr_touches _ _ _ rfl 400 rfl grp_SYS_REPRO_STATUS)
    clear_value x13
    extract_lets -merge +onlyGivenNames x15
    have h16 : Touches 0x7008070000000040800000020000c000010084408040050000000010020201c080400080000000000004000000001001010070e680000000000000000200000022fa8751 s x15 := by
      unfold x15
      refine Touches.step (State.unitsSet_touches ..) rfl ?_
      refine Touches.trans ?_ (State.setF_touches _ _ _ rfl 418 rfl grp_MBX_RSEQ_NEXT)
      exact Touches.trans h14 (State.setF_touches _ _ _ rfl 104 rfl grp_MESH_ROUTESET)
    clear_value x15
    extract_lets -merge +onlyGivenNames x17
    have h18 : Touches 0x7008070000000040800000020000c000010084408040050000000010020201c080400080000000000004000000001001010070e680000000000000000200000022fa8751 s x17 := by unfold x17; exact Touches.step (State.ringRole_touches ..) rfl (Touches.step (State.portsSwitch_touches ..) rfl h16)
    clear_value x17
    extract_lets -merge +onlyGivenNames x19
    have h20 : Touches 0x7008070000000040800000020000c000010084408040050000000010020201c080400080000000000004000000001001010070e680000000000000000200000022fa8751 s x19 := by unfold x19; exact Touches.trans h18 (State.setF_touches _ _ _ rfl 102 rfl grp_BOOT_IMG_LOAD_MS)
    clear_value x19
    extract_lets -merge +onlyGivenNames x21
    have h22 : Touches 0x7008070000000040800000020000c000010084408040050000000010020201c080400080000000000004000000001001010070e680000000000000000200000022fa8751 s x21 := by
      unfold x21
      refine Touches.step (State.imgState_touches ..) rfl ?_
      exact Touches.trans h20 (State.setF_touches _ _ _ rfl 96 rfl grp_BOOT_IMG_STATUS)
    clear_value x21
    exact Touches.step (State.stageDigests_touches ..) rfl (Touches.step (State.imgBusy_touches ..) rfl h22)

theorem State.imgForget_touches (s : State) : Touches 0x500 s (State.imgForget s) := by
  unfold State.imgForget
  exact Touches.upd (Touches.refl _ _) rfl rfl rfl rfl rfl rfl rfl
    (by intro p hp; cases p <;> first | rfl | exact absurd hp (by decide))

theorem State.imgUnload_touches (s : State) : Touches 0x7208070000000040801010000802400001008440804005f09e9c0810020201c080400080000000000004000000001001010070c780000000000000000200000026fabf57 s (State.imgUnload s) := by
  unfold State.imgUnload
  refine Touches.ite ?_ ?_
  · exact Touches.step (State.imgReport_touches ..) rfl (Touches.refl _ _)
  · extract_lets -merge +onlyGivenNames x1
    extract_lets -merge +onlyGivenNames x2
    have h6 : Touches 0x7208070000000040801010000802400001008440804005f09e9c0810020201c080400080000000000004000000001001010070c780000000000000000200000026fabf57 s x2 := by
      unfold x2
      refine Touches.foldl (fun t3 y4 h5 => ?_) ?_
      · exact Touches.step (State.dmaAbort_touches ..) rfl h5
      · exact Touches.refl _ _
    clear_value x2
    clear_value x1
    extract_lets -merge +onlyGivenNames x7
    have h8 : Touches 0x7208070000000040801010000802400001008440804005f09e9c0810020201c080400080000000000004000000001001010070c780000000000000000200000026fabf57 s x7 := by
      unfold x7
      refine Touches.ite ?_ ?_
      · exact Touches.step (State.mbxStop_touches ..) rfl h6
      · exact h6
    clear_value x7
    extract_lets -merge +onlyGivenNames x9
    have h10 : Touches 0x7208070000000040801010000802400001008440804005f09e9c0810020201c080400080000000000004000000001001010070c780000000000000000200000026fabf57 s x9 := by
      unfold x9
      refine Touches.trans ?_ (State.setF_touches _ _ _ rfl 99 rfl grp_BOOT_IMG_REV)
      refine Touches.trans ?_ (State.setF_touches _ _ _ rfl 98 rfl grp_BOOT_IMG_ACTIVE)
      exact Touches.step (State.imgForget_touches ..) rfl h8
    clear_value x9
    extract_lets -merge +onlyGivenNames x11
    have h12 : Touches 0x7208070000000040801010000802400001008440804005f09e9c0810020201c080400080000000000004000000001001010070c780000000000000000200000026fabf57 s x11 := by
      unfold x11
      refine Touches.trans ?_ (State.setWords8_touches _ _ _ rfl 399 rfl (fun _ => (grp_SYS_REPRO_DIGEST _)))
      exact Touches.trans h10 (State.setWords8_touches _ _ _ rfl 103 rfl (fun _ => (grp_BOOT_IMG_DIGEST _)))
    clear_value x11
    extract_lets -merge +onlyGivenNames x13
    have h14 : Touches 0x7208070000000040801010000802400001008440804005f09e9c0810020201c080400080000000000004000000001001010070c780000000000000000200000026fabf57 s x13 := by
      unfold x13
      refine Touches.step (State.camsSet_touches ..) rfl ?_
      refine Touches.step (State.queuesSet_touches ..) rfl ?_
      refine Touches.step (State.gillsSet_touches ..) rfl ?_
      exact Touches.step (State.cellsSet_touches ..) rfl (Touches.step (State.gatesSet_touches ..) rfl h12)
    clear_value x13
    extract_lets -merge +onlyGivenNames x15
    have h16 : Touches 0x7208070000000040801010000802400001008440804005f09e9c0810020201c080400080000000000004000000001001010070c780000000000000000200000026fabf57 s x15 := by
      unfold x15
      refine Touches.step (State.ringRole_touches ..) rfl ?_
      exact Touches.step (State.portsSwitch_touches ..) rfl (Touches.step (State.pfxClear_touches ..) rfl h14)
    clear_value x15
    refine Touches.step (State.imgBusy_touches ..) rfl ?_
    refine Touches.step (State.imgState_touches ..) rfl ?_
    exact Touches.trans h16 (State.setF_touches _ _ _ rfl 104 rfl grp_MESH_ROUTESET)

theorem State.imgStore_touches (s : State) : Touches 0xc070000000040800000000000000000000000000000000000000000000000000000000000000000000000000000000000000980000000000000000000000022000311 s (State.imgStore s) := by
  unfold State.imgStore
  refine Touches.ite ?_ ?_
  · exact Touches.step (State.imgReport_touches ..) rfl (Touches.refl _ _)
  · split
    · exact Touches.step (State.imgFail_touches ..) rfl (Touches.refl _ _)
    · split
      · exact Touches.step (State.imgFail_touches ..) rfl (Touches.refl _ _)
      · extract_lets -merge +onlyGivenNames x1
        clear_value x1
        extract_lets -merge +onlyGivenNames x2
        clear_value x2
        extract_lets -merge +onlyGivenNames x3
        clear_value x3
        extract_lets -merge +onlyGivenNames x4
        extract_lets -merge +onlyGivenNames x5
        extract_lets -merge +onlyGivenNames x6
        have h7 : Touches 0xc070000000040800000000000000000000000000000000000000000000000000000000000000000000000000000000000000980000000000000000000000022000311 s x6 := by unfold x6; exact Touches.setImg (Touches.refl _ _) rfl
        clear_value x6
        clear_value x4
        clear_value x5
        refine Touches.step (State.imgBusy_touches ..) rfl ?_
        exact Touches.step (State.slotRegs_touches ..) rfl (Touches.step (State.flashAsk_touches ..) rfl h7)

theorem State.storeDone_touches (s : State) : Touches 0x8070000000040800000000000000000000000000000000000000000000000000000000000000000000000000000000000000880000000000000000000000022000311 s (State.storeDone s) := by
  unfold State.storeDone
  split
  · exact Touches.refl _ _
  · refine Touches.ite ?_ ?_
    · extract_lets -merge +onlyGivenNames x1
      extract_lets -merge +onlyGivenNames x2
      have h3 : Touches 0x8070000000040800000000000000000000000000000000000000000000000000000000000000000000000000000000000000880000000000000000000000022000311 s x2 := by unfold x2; exact Touches.setImg (Touches.refl _ _) rfl
      clear_value x2
      clear_value x1
      refine Touches.step (State.stageStore_touches ..) rfl ?_
      refine Touches.step (State.imgBusy_touches ..) rfl ?_
      exact Touches.step (State.slotRegs_touches ..) rfl (Touches.step (State.flashDone_touches ..) rfl h3)
    · exact Touches.refl _ _

theorem State.keyRecord_touches (s : State) : Touches 0xc070000000040800000000000000000000000000000000000000000000000000000000000000000000000000000000000000180000000000000000000000022000311 s (State.keyRecord s) := by
  unfold State.keyRecord
  refine Touches.ite ?_ ?_
  · exact Touches.step (State.imgReport_touches ..) rfl (Touches.refl _ _)
  · extract_lets -merge +onlyGivenNames x1
    extract_lets -merge +onlyGivenNames x2
    clear_value x2
    refine Touches.ite ?_ ?_
    · exact Touches.step (State.imgReport_touches ..) rfl (Touches.refl _ _)
    · extract_lets -merge +onlyGivenNames x3
      clear_value x3
      extract_lets -merge +onlyGivenNames x4
      clear_value x4
      extract_lets -merge +onlyGivenNames x5
      extract_lets -merge +onlyGivenNames x6
      clear_value x6
      extract_lets -merge +onlyGivenNames x7
      extract_lets -merge +onlyGivenNames x8
      have h9 : Touches 0xc070000000040800000000000000000000000000000000000000000000000000000000000000000000000000000000000000180000000000000000000000022000311 s x8 := by unfold x8; exact Touches.setImg (Touches.refl _ _) rfl
      clear_value x8
      clear_value x1
      clear_value x5
      clear_value x7
      exact Touches.step (State.imgBusy_touches ..) rfl (Touches.step (State.flashAsk_touches ..) rfl h9)

theorem State.keyDone_touches (s : State) : Touches 0x8070000000040800000000000000000000000000000000000000000000000000000000000000000000000000000000000001080000000000000000000000022000311 s (State.keyDone s) := by
  unfold State.keyDone
  split
  · exact Touches.refl _ _
  · refine Touches.ite ?_ ?_
    · extract_lets -merge +onlyGivenNames x1
      extract_lets -merge +onlyGivenNames x2
      have h3 : Touches 0x8070000000040800000000000000000000000000000000000000000000000000000000000000000000000000000000000001080000000000000000000000022000311 s x2 := by unfold x2; exact Touches.setImg (Touches.refl _ _) rfl
      clear_value x2
      clear_value x1
      refine Touches.step (State.stageStore_touches ..) rfl ?_
      refine Touches.step (State.imgBusy_touches ..) rfl ?_
      exact Touches.step (State.keyRegs_touches ..) rfl (Touches.step (State.flashDone_touches ..) rfl h3)
    · exact Touches.refl _ _

theorem State.writeImgCtrl_touches (s : State) (v : Nat) : Touches 0x720c070000000040801010000802400001008440804005f09e9c0810020201c080400080000000000004000000001001010070cf88000000000000000200000026fabf57 s (State.writeImgCtrl s v) := by
  unfold State.writeImgCtrl
  extract_lets -merge +onlyGivenNames x1
  have h2 : Touches 0x720c070000000040801010000802400001008440804005f09e9c0810020201c080400080000000000004000000001001010070cf88000000000000000200000026fabf57 s x1 := by unfold x1; exact State.setF_touches _ _ _ rfl 92 rfl grp_BOOT_IMG_CTRL
  clear_value x1
  refine Touches.ite ?_ ?_
  · exact Touches.step (State.imgLoad_touches ..) rfl h2
  · refine Touches.ite ?_ ?_
    · exact Touches.step (State.imgUnload_touches ..) rfl h2
    · refine Touches.ite ?_ ?_
      · exact Touches.step (State.imgStore_touches ..) rfl h2
      · refine Touches.ite ?_ ?_
        · exact Touches.step (State.keyRecord_touches ..) rfl h2
        · exact h2

theorem State.routeReport_touches (s : State) (sts : Nat) (detail : Nat) : Touches 0x8070000000040800000000000000000000000000000000000000000000000000000000000000000000000000000000000020000000000000000000000000022000211 s (State.routeReport s sts detail) := by
  unfold State.routeReport
  exact State.report_touches _ _ _ _ _ rfl 106 rfl grp_MESH_EPOCH_STATUS

theorem State.writeRouteset_touches (s : State) (v : Nat) : Touches 0x8070000000040800000000400000000000000000000000000000000000000000000000000000000000000000000000000028000000000000000000000000022000311 s (State.writeRouteset s v) := by
  unfold State.writeRouteset
  extract_lets -merge +onlyGivenNames x1
  clear_value x1
  extract_lets -merge +onlyGivenNames x2
  have h3 : Touches 0x8070000000040800000000400000000000000000000000000000000000000000000000000000000000000000000000000028000000000000000000000000022000311 s x2 := by unfold x2; exact State.setF_touches _ _ _ rfl 104 rfl grp_MESH_ROUTESET
  clear_value x2
  refine Touches.ite ?_ ?_
  · exact h3
  · refine Touches.ite ?_ ?_
    · exact Touches.step (State.routeReport_touches ..) rfl h3
    · refine Touches.ite ?_ ?_
      · exact Touches.step (State.routeReport_touches ..) rfl h3
      · extract_lets -merge +onlyGivenNames x4
        have h5 : Touches 0x8070000000040800000000400000000000000000000000000000000000000000000000000000000000000000000000000028000000000000000000000000022000311 s x4 := by unfold x4; exact Touches.trans h3 (State.setB_touches _ _ _ rfl 104 rfl grp_MESH_ROUTESET)
        clear_value x4
        extract_lets -merge +onlyGivenNames x6
        extract_lets -merge +onlyGivenNames x7
        have h8 : Touches 0x8070000000040800000000400000000000000000000000000000000000000000000000000000000000000000000000000028000000000000000000000000022000311 s x7 := by unfold x7; exact Touches.setImg h5 rfl
        clear_value x7
        clear_value x6
        refine Touches.ite ?_ ?_
        · exact Touches.trans h8 (State.setB_touches _ _ _ rfl 411 rfl grp_MESH_TW_FLAGS)
        · exact h8

theorem State.heldRegs_touches (s : State) : Touches 0x20000000000000000000000000000000001 s (State.heldRegs s) := by
  unfold State.heldRegs
  exact State.setF_touches _ _ _ rfl 106 rfl grp_MESH_EPOCH_STATUS

theorem State.epochFlip_touches (s : State) (inflight : List Nat) : Touches 0x28000000000000000000000000000000101 s (State.epochFlip s inflight) := by
  unfold State.epochFlip
  split
  · exact Touches.refl _ _
  · refine Touches.ite ?_ ?_
    · exact Touches.refl _ _
    · extract_lets -merge +onlyGivenNames x1
      extract_lets -merge +onlyGivenNames x2
      extract_lets -merge +onlyGivenNames x3
      extract_lets -merge +onlyGivenNames x4
      have h5 : Touches 0x28000000000000000000000000000000101 s x4 := by unfold x4; exact Touches.setImg (Touches.refl _ _) rfl
      clear_value x4
      clear_value x1
      clear_value x2
      clear_value x3
      refine Touches.step (State.heldRegs_touches ..) rfl ?_
      exact Touches.trans h5 (State.setF_touches _ _ _ rfl 104 rfl grp_MESH_ROUTESET)

theorem State.routeFree_touches (s : State) (route : Nat) : Touches 0x60000000000000000000000000000000101 s (State.routeFree s route) := by
  unfold State.routeFree
  split
  · exact Touches.refl _ _
  · refine Touches.ite ?_ ?_
    · extract_lets -merge +onlyGivenNames x1
      extract_lets -merge +onlyGivenNames x2
      have h3 : Touches 0x60000000000000000000000000000000101 s x2 := by unfold x2; exact Touches.setImg (Touches.refl _ _) rfl
      clear_value x2
      clear_value x1
      refine Touches.step (State.heldRegs_touches ..) rfl ?_
      exact Touches.trans h3 (State.raise_touches _ _ _ rfl 107 rfl grp_MESH_EPOCH_HOLD)
    · exact Touches.refl _ _

theorem State.routeDone_touches (s : State) : Touches 0xa8000000000000000000000000000000101 s (State.routeDone s) := by
  unfold State.routeDone
  split
  · exact Touches.refl _ _
  · refine Touches.ite ?_ ?_
    · extract_lets -merge +onlyGivenNames x1
      extract_lets -merge +onlyGivenNames x2
      have h3 : Touches 0xa8000000000000000000000000000000101 s x2 := by unfold x2; exact Touches.setImg (Touches.refl _ _) rfl
      clear_value x2
      clear_value x1
      extract_lets -merge +onlyGivenNames x4
      have h5 : Touches 0xa8000000000000000000000000000000101 s x4 := by
        unfold x4
        refine Touches.trans ?_ (State.setB_touches _ _ _ rfl 104 rfl grp_MESH_ROUTESET)
        exact Touches.trans h3 (State.setF_touches _ _ _ rfl 104 rfl grp_MESH_ROUTESET)
      clear_value x4
      refine Touches.step (State.heldRegs_touches ..) rfl ?_
      exact Touches.trans h5 (State.inc_touches _ _ _ rfl 108 rfl grp_MESH_EPOCH_COUNT)
    · exact Touches.refl _ _

theorem State.routeLate_touches (s : State) : Touches 0x8070000000040800000000000000000000000000000000000000000000000000000000000000000000000000000000000020000000000000000000000000022000311 s (State.routeLate s) := by
  unfold State.routeLate
  split
  · exact Touches.refl _ _
  · refine Touches.ite ?_ ?_
    · exact Touches.refl _ _
    · extract_lets -merge +onlyGivenNames x1
      extract_lets -merge +onlyGivenNames x2
      have h3 : Touches 0x8070000000040800000000000000000000000000000000000000000000000000000000000000000000000000000000000020000000000000000000000000022000311 s x2 := by unfold x2; exact Touches.setImg (Touches.refl _ _) rfl
      clear_value x2
      clear_value x1
      split
      · exact Touches.step (State.routeReport_touches ..) rfl h3
      · split
        rename_i x4 x5 x6 e7
        have h8 : Touches 0x8070000000040800000000000000000000000000000000000000000000000000000000000000000000000000000000000020000000000000000000000000022000311 s x6 := Touches.of_eq (fun d => d.2) e7 (Touches.step (State.fresh_touches ..) rfl h3)
        exact Touches.step (State.routeReport_touches ..) rfl h8

theorem execLoad_ends (src : Nat) (s : State) : Ends 0x720c070000000040801010000802400001008440804005f09e9c0810020201c080400080000000000004000000001001010070cf88000102000000000200000026fabfd7 s (execLoad src s) := by
  unfold execLoad
  refine Ends.next ?_
  refine Touches.trans ?_ (State.regWrite_touches _ _ _ _ rfl ?_)
  · exact Touches.refl _ _
  · intro y1
    exact Touches.step (State.writeImgCtrl_touches ..) rfl (Touches.refl _ _)

theorem execImageCommit_ends (s : State) : Ends 0x7008070000000040800000020000c000010084408040050000000010020201c080400080000000000004000000001001010070e680000000000000000200000022fa8751 s (execImageCommit s) := by
  unfold execImageCommit
  exact Ends.next (Touches.step (State.imgCommit_touches ..) rfl (Touches.refl _ _))

theorem execUnload_ends (src : Nat) (s : State) : Ends 0x720c070000000040801010000802400001008440804005f09e9c0810020201c080400080000000000004000000001001010070cf88000102000000000200000026fabfd7 s (execUnload src s) := by
  unfold execUnload
  refine Ends.next ?_
  refine Touches.trans ?_ (State.regWrite_touches _ _ _ _ rfl ?_)
  · exact Touches.refl _ _
  · intro y1
    exact Touches.step (State.writeImgCtrl_touches ..) rfl (Touches.refl _ _)

theorem execStore_ends (src : Nat) (s : State) : Ends 0x720c070000000040801010000802400001008440804005f09e9c0810020201c080400080000000000004000000001001010070cf88000102000000000200000026fabfd7 s (execStore src s) := by
  unfold execStore
  refine Ends.next ?_
  refine Touches.trans ?_ (State.regWrite_touches _ _ _ _ rfl ?_)
  · exact Touches.refl _ _
  · intro y1
    exact Touches.step (State.writeImgCtrl_touches ..) rfl (Touches.refl _ _)

theorem execStoreComplete_ends (s : State) : Ends 0x8070000000040800000000000000000000000000000000000000000000000000000000000000000000000000000000000000880000000000000000000000022000311 s (execStoreComplete s) := by
  unfold execStoreComplete
  exact Ends.next (Touches.step (State.storeDone_touches ..) rfl (Touches.refl _ _))

theorem execKeyrec_ends (src : Nat) (s : State) : Ends 0x720c070000000040801010000802400001008440804005f09e9c0810020201c080400080000000000004000000001001010070cf88000102000000000200000026fabfd7 s (execKeyrec src s) := by
  unfold execKeyrec
  refine Ends.next ?_
  refine Touches.trans ?_ (State.regWrite_touches _ _ _ _ rfl ?_)
  · exact Touches.refl _ _
  · intro y1
    exact Touches.step (State.writeImgCtrl_touches ..) rfl (Touches.refl _ _)

theorem execKeyrecApplied_ends (s : State) : Ends 0x8070000000040800000000000000000000000000000000000000000000000000000000000000000000000000000000000001080000000000000000000000022000311 s (execKeyrecApplied s) := by
  unfold execKeyrecApplied
  exact Ends.next (Touches.step (State.keyDone_touches ..) rfl (Touches.refl _ _))

theorem execRouteSetChange_ends (value : Nat) (s : State) : Ends 0x8070000000040800000000400000000000000000000000000000000000000000000000000000000000000000000000000028000000102000000000000000022000395 s (execRouteSetChange value s) := by
  unfold execRouteSetChange
  refine Ends.next ?_
  refine Touches.trans ?_ (State.regWrite_touches _ _ _ _ rfl ?_)
  · exact Touches.refl _ _
  · intro y1
    exact Touches.step (State.writeRouteset_touches ..) rfl (Touches.refl _ _)

theorem execEpochBoundary_ends (inflight : List Nat) (s : State) : Ends 0x28000000000000000000000000000000101 s (execEpochBoundary inflight s) := by
  unfold execEpochBoundary
  exact Ends.next (Touches.step (State.epochFlip_touches ..) rfl (Touches.refl _ _))

theorem execRouteRelease_ends (route : Nat) (s : State) : Ends 0x60000000000000000000000000000000101 s (execRouteRelease route s) := by
  unfold execRouteRelease
  exact Ends.next (Touches.step (State.routeFree_touches ..) rfl (Touches.refl _ _))

theorem execRouteChangeComplete_ends (s : State) : Ends 0xa8000000000000000000000000000000101 s (execRouteChangeComplete s) := by
  unfold execRouteChangeComplete
  exact Ends.next (Touches.step (State.routeDone_touches ..) rfl (Touches.refl _ _))

theorem execRouteChangeTimeout_ends (s : State) : Ends 0x8070000000040800000000000000000000000000000000000000000000000000000000000000000000000000000000000020000000000000000000000000022000311 s (execRouteChangeTimeout s) := by
  unfold execRouteChangeTimeout
  exact Ends.next (Touches.step (State.routeLate_touches ..) rfl (Touches.refl _ _))

end Sys2Proof.Machine
end

