-- ==== Sys2Proof/Laws/FrameJournalExec.lean ====
section
/-! SUPPORT. What each operation of Machine/JournalExec.lean can do: the parts of the state it touches (Touches). -/

-- One declaration at a time: many proofs at once would each hold a thread with a large stack.
set_option Elab.async false

namespace Sys2Proof.Machine

theorem State.tailLoop_touches (a0 : Nat) (a1 : State) : Touches 0x8070000000040800000000000000000000000000000000000000000000000000000000000000000000000000000000000000000000000000000000000000022000011 a1 (State.tailLoop a0 a1) := by
  fun_induction State.tailLoop a0 a1
  · rename_i x1
    exact Touches.refl _ _
  · rename_i x2 x3 x4 x5 e6
    exact Touches.refl _ _
  · rename_i x7 x8 x9 x10 e11 x12 e13
    exact Touches.trans (Touches.step (State.stage_touches ..) rfl (Touches.setJrn (Touches.refl _ _) rfl)) e13

theorem State.stageTails_touches (s : State) : Touches 0x8070000000040800000000000000000000000000000000000000000000000000000000000000000000000000000000000000000000000000000000000000022000011 s (State.stageTails s) := by
  unfold State.stageTails
  exact Touches.step (State.tailLoop_touches ..) rfl (Touches.refl _ _)

theorem State.makeTails_touches (a0 : Nat) (a1 : State) (a2 : Nat) (a3 : Nat) : Touches 0x2000000 a1 (State.makeTails a0 a1 a2 a3).2 := by
  fun_induction State.makeTails a0 a1 a2 a3
  · rename_i x1 x2 x3
    exact Touches.pair2 (Touches.refl _ _)
  · rename_i x4 x5 x6 x7 x8 e9
    exact Touches.pair2 (Touches.refl _ _)
  · rename_i x10 x11 x12 x13 x14 e15 x16 x17 e18
    have h19 : Touches 0x2000000 x11 x16.2 := by unfold x16; exact Touches.step (State.makeRec_touches ..) rfl (Touches.refl _ _)
    have h20 : Touches 0x2000000 x11 x17.2 := by unfold x17; exact Touches.trans h19 e18
    exact h20

theorem State.endRec_touches (s : State) (kind : Nat) (pages : Nat) : Touches 0x2000000 s (State.endRec s kind pages).2 := by
  unfold State.endRec
  exact Touches.step (State.makeRec_touches ..) rfl (Touches.refl _ _)

theorem State.holdupSet_touches (s : State) (cause : Nat) (pages : List PageFact) : Touches 0x297f0000000040800000000000000000000000000000000000000000000000000000000000000000000000000000000000000000000000000001000000000022000211 s (State.holdupSet s cause pages) := by
  unfold State.holdupSet
  extract_lets -merge +onlyGivenNames x1
  clear_value x1
  extract_lets -merge +onlyGivenNames x2
  clear_value x2
  extract_lets -merge +onlyGivenNames x3
  have h4 : Touches 0x297f0000000040800000000000000000000000000000000000000000000000000000000000000000000000000000000000000000000000000001000000000022000211 s x3 := by unfold x3; exact Touches.setJrn (Touches.refl _ _) rfl
  clear_value x3
  extract_lets -merge +onlyGivenNames x5
  have h6 : Touches 0x297f0000000040800000000000000000000000000000000000000000000000000000000000000000000000000000000000000000000000000001000000000022000211 s x5 := by unfold x5; exact Touches.trans h4 (State.setB_touches _ _ _ rfl 489 rfl grp_JRN_STATUS)
  clear_value x5
  refine Touches.ite ?_ ?_
  · exact Touches.setJrn h6 rfl
  · extract_lets -merge +onlyGivenNames x7
    extract_lets -merge +onlyGivenNames x8
    have h9 : Touches 0x297f0000000040800000000000000000000000000000000000000000000000000000000000000000000000000000000000000000000000000001000000000022000211 s x8.2 := by unfold x8; exact Touches.step (State.makeRec_touches ..) rfl h6
    clear_value x8
    clear_value x7
    extract_lets -merge +onlyGivenNames x10
    have h11 : Touches 0x297f0000000040800000000000000000000000000000000000000000000000000000000000000000000000000000000000000000000000000001000000000022000211 s x10.2 := by unfold x10; exact Touches.step (State.makeRec_touches ..) rfl h9
    clear_value x10
    extract_lets -merge +onlyGivenNames x12
    have h13 : Touches 0x297f0000000040800000000000000000000000000000000000000000000000000000000000000000000000000000000000000000000000000001000000000022000211 s x12.2 := by unfold x12; exact Touches.step (State.makeTails_touches ..) rfl h11
    clear_value x12
    extract_lets -merge +onlyGivenNames x14
    have h15 : Touches 0x297f0000000040800000000000000000000000000000000000000000000000000000000000000000000000000000000000000000000000000001000000000022000211 s x14 := by unfold x14; exact h13
    clear_value x14
    extract_lets -merge +onlyGivenNames x16
    clear_value x16
    extract_lets -merge +onlyGivenNames x17
    have h18 : Touches 0x297f0000000040800000000000000000000000000000000000000000000000000000000000000000000000000000000000000000000000000001000000000022000211 s x17 := by unfold x17; exact Touches.setJrn h15 rfl
    clear_value x17
    extract_lets -merge +onlyGivenNames x19
    extract_lets -merge +onlyGivenNames x20
    clear_value x20
    extract_lets -merge +onlyGivenNames x21
    clear_value x21
    extract_lets -merge +onlyGivenNames x22
    have h23 : Touches 0x297f0000000040800000000000000000000000000000000000000000000000000000000000000000000000000000000000000000000000000001000000000022000211 s x22 := by unfold x22; exact Touches.setJrn h18 rfl
    clear_value x22
    clear_value x19
    extract_lets -merge +onlyGivenNames x24
    have h25 : Touches 0x297f0000000040800000000000000000000000000000000000000000000000000000000000000000000000000000000000000000000000000001000000000022000211 s x24.1 := by unfold x24; exact Touches.step (State.programSeq_touches ..) rfl h23
    clear_value x24
    extract_lets -merge +onlyGivenNames x26
    have h27 : Touches 0x297f0000000040800000000000000000000000000000000000000000000000000000000000000000000000000000000000000000000000000001000000000022000211 s x26 := by unfold x26; exact h25
    clear_value x26
    extract_lets -merge +onlyGivenNames x28
    clear_value x28
    extract_lets -merge +onlyGivenNames x29
    have h30 : Touches 0x297f0000000040800000000000000000000000000000000000000000000000000000000000000000000000000000000000000000000000000001000000000022000211 s x29 := by unfold x29; exact Touches.setJrn h27 rfl
    clear_value x29
    exact Touches.trans h30 (State.setF_touches _ _ _ rfl 491 rfl grp_JRN_STAGE)

theorem State.holdupFinal_touches (s : State) (f : PageFact) : Touches 0x297f0000000040800000000000000000000000000000000000000000000000000000000000000000000000000000000000000000000000000001000000000022000211 s (State.holdupFinal s f) := by
  unfold State.holdupFinal
  refine Touches.ite ?_ ?_
  · exact Touches.refl _ _
  · extract_lets -merge +onlyGivenNames x1
    have h2 : Touches 0x297f0000000040800000000000000000000000000000000000000000000000000000000000000000000000000000000000000000000000000001000000000022000211 s x1 := by unfold x1; exact State.setF_touches _ _ _ rfl 41 rfl grp_PWR_HOLDUP
    clear_value x1
    extract_lets -merge +onlyGivenNames x3
    clear_value x3
    extract_lets -merge +onlyGivenNames x4
    have h5 : Touches 0x297f0000000040800000000000000000000000000000000000000000000000000000000000000000000000000000000000000000000000000001000000000022000211 s x4.2 := by
      unfold x4
      refine Touches.ite2 ?_ ?_
      · exact h2
      · exact Touches.step (State.makeTails_touches ..) rfl h2
    clear_value x4
    extract_lets -merge +onlyGivenNames x6
    have h7 : Touches 0x297f0000000040800000000000000000000000000000000000000000000000000000000000000000000000000000000000000000000000000001000000000022000211 s x6.2 := by unfold x6; exact Touches.step (State.endRec_touches ..) rfl h5
    clear_value x6
    extract_lets -merge +onlyGivenNames x8
    have h9 : Touches 0x297f0000000040800000000000000000000000000000000000000000000000000000000000000000000000000000000000000000000000000001000000000022000211 s x8 := by
      unfold x8
      refine Touches.ite ?_ ?_
      · exact Touches.step (State.putPage_touches ..) rfl h7
      · exact h2
    clear_value x8
    exact Touches.setJrn h9 rfl

theorem State.jrnRead_touches (s : State) : Touches 0x180000000000000000000000000000000000000000000000000000000000000000000000000000000000000000000000000000000000000000000000000000000000011 s (State.jrnRead s) := by
  unfold State.jrnRead
  extract_lets -merge +onlyGivenNames x1
  clear_value x1
  split
  rename_i x2 x3 x4 e5
  have h6 : Touches 0x180000000000000000000000000000000000000000000000000000000000000000000000000000000000000000000000000000000000000000000000000000000000011 s x4 := Touches.of_eq (fun d => d.2) e5 (Touches.step (State.freshList_touches ..) rfl (Touches.refl _ _))
  extract_lets -merge +onlyGivenNames x7
  extract_lets -merge +onlyGivenNames x8
  have h12 : Touches 0x180000000000000000000000000000000000000000000000000000000000000000000000000000000000000000000000000000000000000000000000000000000000011 s x8 := by
    unfold x8
    refine Touches.foldl (fun t9 y10 h11 => ?_) ?_
    · exact Touches.trans h11 (State.setF_touches _ _ _ rfl 505 rfl (grp_JRN_RD_DATA _))
    · exact h6
  clear_value x8
  clear_value x7
  exact Touches.trans h12 (State.setB_touches _ _ _ rfl 504 rfl grp_JRN_RD_CTRL)

theorem execStageRecord_ends (ty : Nat) (body : List Byte) (s : State) : Ends 0x8070000000040800000000000000000000000000000000000000000000000000000000000000000000000000000000000000000000000000000000000000022000011 s (execStageRecord ty body s) := by
  unfold execStageRecord
  refine Ends.next ?_
  refine Touches.ite ?_ ?_
  · exact Touches.step (State.stage_touches ..) rfl (Touches.refl _ _)
  · exact Touches.refl _ _

theorem execPageProgram_ends (ok : Bool) (s : State) : Ends 0x2d7f0000000040800000000000000000000000000000000000000000000000000000000000000000000000000000000000000000000000000000000000000022000211 s (execPageProgram ok s) := by
  unfold execPageProgram
  refine Ends.next ?_
  refine Touches.ite ?_ ?_
  · exact Touches.step (State.programNow_touches ..) rfl (Touches.refl _ _)
  · exact Touches.refl _ _

theorem execFlushMsExpiry_ends (ok : Bool) (s : State) : Ends 0x2d7f0000000040800000000000000000000000000000000000000000000000000000000000000000000000000000000000000000000000000000000000000022000211 s (execFlushMsExpiry ok s) := by
  unfold execFlushMsExpiry
  refine Ends.next ?_
  split
  · extract_lets -merge +onlyGivenNames x1
    clear_value x1
    refine Touches.ite ?_ ?_
    · exact Touches.step (State.programNow_touches ..) rfl (Touches.refl _ _)
    · exact Touches.refl _ _
  · exact Touches.refl _ _

theorem State.writeJrnCtrl_touches (s : State) (v : Nat) (ok : Bool) : Touches 0x2d7f0000000040800000000000000000000000000000000000000000000000000000000000000000000000000000000000000000000000000000000000000022000211 s (State.writeJrnCtrl s v ok) := by
  unfold State.writeJrnCtrl
  refine Touches.ite ?_ ?_
  · exact Touches.step (State.programNow_touches ..) rfl (Touches.refl _ _)
  · exact Touches.refl _ _

theorem State.writeJrnRd_touches (s : State) (v : Nat) : Touches 0x180000000000000000000000000000000000000000000000000000000000000000000000000000000000000000000000000000000000000000000000000000000000011 s (State.writeJrnRd s v) := by
  unfold State.writeJrnRd
  refine Touches.ite ?_ ?_
  · exact Touches.refl _ _
  · exact Touches.step (State.jrnRead_touches ..) rfl (Touches.refl _ _)

theorem execJournalFlush_ends (ok : Bool) (s : State) : Ends 0x2d7f0000000040800000000000000000000000000000000000000000000000000000000000000000000000000000000000000000000102000000000000000022000295 s (execJournalFlush ok s) := by
  unfold execJournalFlush
  refine Ends.next ?_
  refine Touches.trans ?_ (State.regWrite_touches _ _ _ _ rfl ?_)
  · exact Touches.refl _ _
  · intro y1
    exact Touches.step (State.writeJrnCtrl_touches ..) rfl (Touches.refl _ _)

theorem execDeferLong_ends (s : State) : Ends 0x8070000000040800000000000000000000000000000000000000000000000000000000000000000000000000000000000000000000000000000000000000022000211 s (execDeferLong s) := by
  unfold execDeferLong
  refine Ends.next ?_
  refine Touches.ite ?_ ?_
  · refine Touches.trans ?_ (State.report_touches _ _ _ _ _ rfl 489 rfl grp_JRN_STATUS)
    exact Touches.setJrn (Touches.refl _ _) rfl
  · exact Touches.refl _ _

theorem execSubsectorErase_ends (ok : Bool) (s : State) : Ends 0x2e7f0000000040800000000000000000000000000000000000000000000000000000000000000000000000000000000000000000000000000000000000000022000211 s (execSubsectorErase ok s) := by
  unfold execSubsectorErase
  refine Ends.next ?_
  refine Touches.ite ?_ ?_
  · exact Touches.step (State.eraseOldest_touches ..) rfl (Touches.refl _ _)
  · exact Touches.refl _ _

theorem execCountersRecord_ends (s : State) : Ends 0x8070000000040800000000000000000000000000000000000000000000000000000000000000000000000000000000000000000000000000000000000000022000011 s (execCountersRecord s) := by
  unfold execCountersRecord
  refine Ends.next ?_
  refine Touches.ite ?_ ?_
  · exact Touches.step (State.stage_touches ..) rfl (Touches.setJrn (Touches.refl _ _) rfl)
  · exact Touches.refl _ _

theorem execEjectTailRecord_ends (s : State) : Ends 0x8070000000040800000000000000000000000000000000000000000000000000000000000000000000000000000000000000000000000000000000000000022000011 s (execEjectTailRecord s) := by
  unfold execEjectTailRecord
  refine Ends.next ?_
  refine Touches.ite ?_ ?_
  · exact Touches.step (State.stageTails_touches ..) rfl (Touches.refl _ _)
  · exact Touches.refl _ _

theorem execJournalRead_ends (s : State) : Ends 0x188070000000040800000000000000000000000000000000000000000000000000000000000000000000000000000000000000000000102000000000000000022000295 s (execJournalRead s) := by
  unfold execJournalRead
  refine Ends.next ?_
  refine Touches.trans ?_ (State.regWrite_touches _ _ _ _ rfl ?_)
  · exact Touches.refl _ _
  · intro y1
    exact Touches.step (State.writeJrnRd_touches ..) rfl (Touches.refl _ _)

end Sys2Proof.Machine
end

