-- ==== Sys2Proof/Laws/FramePeripheral.lean ====
section
/-! SUPPORT. What each operation of Machine/Peripheral.lean can do: the parts of the state it touches (Touches). -/

-- One declaration at a time: many proofs at once would each hold a thread with a large stack.
set_option Elab.async false

namespace Sys2Proof.Machine

theorem State.spiRegs_touches (s : State) : Touches 0x200000000000000000000000000000000000000000000000000000000000000000000000000000000000000000000000000000000000000000000000001 s (State.spiRegs s) := by
  unfold State.spiRegs
  refine Touches.trans ?_ (State.setB_touches _ _ _ rfl 458 rfl grp_SPI_STATUS)
  refine Touches.trans ?_ (State.setF_touches _ _ _ rfl 458 rfl grp_SPI_STATUS)
  exact State.setF_touches _ _ _ rfl 458 rfl grp_SPI_STATUS

theorem State.spiRecord_touches (s : State) (e : SpiEntry) (state : Nat) (sts : Nat) (st : Nat) (words : Nat) (bits : Nat) (frameRej : Bool) (partialW : Bool) : Touches 0x18200000000000000000000000000000000000000000000000000000000000000000000000000000000000000000000000000000000000000000008000001 s (State.spiRecord s e state sts st words bits frameRej partialW) := by
  unfold State.spiRecord
  extract_lets -merge +onlyGivenNames x1
  clear_value x1
  extract_lets -merge +onlyGivenNames x2
  clear_value x2
  extract_lets -merge +onlyGivenNames x3
  have h4 : Touches 0x18200000000000000000000000000000000000000000000000000000000000000000000000000000000000000000000000000000000000000000008000001 s x3 := by unfold x3; exact Touches.setSpi (Touches.refl _ _) rfl
  clear_value x3
  extract_lets -merge +onlyGivenNames x5
  have h6 : Touches 0x18200000000000000000000000000000000000000000000000000000000000000000000000000000000000000000000000000000000000000000008000001 s x5 := by unfold x5; exact Touches.trans h4 (State.inc_touches _ _ _ rfl 464 rfl grp_SPI_CNT_ENTRIES)
  clear_value x5
  refine Touches.step (State.spiRegs_touches ..) rfl ?_
  refine Touches.ite ?_ ?_
  · exact h6
  · exact Touches.trans h6 (State.inc_touches _ _ _ rfl 465 rfl grp_SPI_CNT_FAILED)

theorem State.spiSkip_touches (s : State) (a1 : List SpiEntry) : Touches 0x18200000000000000000000000000000000000000000000000000000000000000000000000000000000000000000000000000000000000000000008000001 s (State.spiSkip s a1) := by
  fun_induction State.spiSkip s a1
  · rename_i x1
    exact Touches.refl _ _
  · rename_i x2 x3 x4 e5
    exact Touches.trans (Touches.step (State.spiRecord_touches ..) rfl (Touches.refl _ _)) e5

theorem State.spiStore_touches (s : State) (off : Nat) (a2 : List Nat) : Touches 0x40000000000000000000000000000000000000000000000000000000000000000000000000000000000000000000000000000000000000000000000000001 s (State.spiStore s off a2) := by
  fun_induction State.spiStore s off a2
  · rename_i x1 x2
    exact Touches.refl _ _
  · rename_i x3 x4 x5 x6 e7
    exact Touches.trans (State.setF_touches _ _ _ rfl 467 rfl (grp_SPI_RXBUF _)) e7

theorem State.spiPush_touches (s : State) (v : Nat) : Touches 0x807000000024080000000000000000000000000000000000000000000000000000000000000000000000000000000000000000000000000000000000000002a000211 s (State.spiPush s v) := by
  unfold State.spiPush
  refine Touches.ite ?_ ?_
  · exact Touches.refl _ _
  · extract_lets -merge +onlyGivenNames x1
    clear_value x1
    extract_lets -merge +onlyGivenNames x2
    refine Touches.ite ?_ ?_
    · unfold x2
      exact State.report_touches _ _ _ _ _ rfl 458 rfl grp_SPI_STATUS
    · refine Touches.ite ?_ ?_
      · unfold x2
        exact State.report_touches _ _ _ _ _ rfl 458 rfl grp_SPI_STATUS
      · refine Touches.ite ?_ ?_
        · unfold x2
          exact State.report_touches _ _ _ _ _ rfl 458 rfl grp_SPI_STATUS
        · extract_lets -merge +onlyGivenNames x3
          clear_value x3
          refine Touches.ite ?_ ?_
          · unfold x2
            exact State.report_touches _ _ _ _ _ rfl 458 rfl grp_SPI_STATUS
          · refine Touches.ite ?_ ?_
            · exact State.report_touches _ _ _ _ _ rfl 458 rfl grp_SPI_STATUS
            · exact Touches.step (State.spiRegs_touches ..) rfl (Touches.setSpi (Touches.refl _ _) rfl)

theorem State.spiStart_touches (s : State) : Touches 0x200000000000000000000000000000000000000000000000000000000000000000000000000000000000000000000000000000000000000000028000001 s (State.spiStart s) := by
  unfold State.spiStart
  split
  · exact Touches.refl _ _
  · refine Touches.ite ?_ ?_
    · extract_lets -merge +onlyGivenNames x1
      clear_value x1
      extract_lets -merge +onlyGivenNames x2
      have h3 : Touches 0x200000000000000000000000000000000000000000000000000000000000000000000000000000000000000000000000000000000000000000028000001 s x2 := by unfold x2; exact Touches.setSpi (Touches.refl _ _) rfl
      clear_value x2
      exact Touches.step (State.spiRegs_touches ..) rfl (Touches.step (State.emit_touches ..) rfl h3)
    · exact Touches.refl _ _

theorem State.spiEnd_touches (s : State) (st : Nat) (rx : List Nat) : Touches 0x807000005824080000000000000000000000000000000000000000000000000000000000000000000000000000000000000000000000000000000000000002a000211 s (State.spiEnd s st rx) := by
  unfold State.spiEnd
  split
  · exact Touches.refl _ _
  · extract_lets -merge +onlyGivenNames x1
    clear_value x1
    refine Touches.ite ?_ ?_
    · extract_lets -merge +onlyGivenNames x2
      extract_lets -merge +onlyGivenNames x3
      clear_value x3
      extract_lets -merge +onlyGivenNames x4
      have h5 : Touches 0x807000005824080000000000000000000000000000000000000000000000000000000000000000000000000000000000000000000000000000000000000002a000211 s x4 := by unfold x4; exact Touches.setSpi (Touches.refl _ _) rfl
      clear_value x4
      clear_value x2
      extract_lets -merge +onlyGivenNames x6
      have h7 : Touches 0x807000005824080000000000000000000000000000000000000000000000000000000000000000000000000000000000000000000000000000000000000002a000211 s x6 := by unfold x6; exact Touches.trans h5 (State.report_touches _ _ _ _ _ rfl 458 rfl grp_SPI_STATUS)
      clear_value x6
      exact Touches.step (State.spiSkip_touches ..) rfl (Touches.step (State.spiRecord_touches ..) rfl h7)
    · extract_lets -merge +onlyGivenNames x8
      extract_lets -merge +onlyGivenNames x9
      have h10 : Touches 0x807000005824080000000000000000000000000000000000000000000000000000000000000000000000000000000000000000000000000000000000000002a000211 s x9 := by
        unfold x9
        refine Touches.ite ?_ ?_
        · exact Touches.step (State.spiStore_touches ..) rfl (Touches.refl _ _)
        · exact Touches.refl _ _
      clear_value x9
      clear_value x8
      extract_lets -merge +onlyGivenNames x11
      clear_value x11
      extract_lets -merge +onlyGivenNames x12
      have h13 : Touches 0x807000005824080000000000000000000000000000000000000000000000000000000000000000000000000000000000000000000000000000000000000002a000211 s x12 := by unfold x12; exact Touches.setSpi h10 rfl
      clear_value x12
      exact Touches.step (State.spiRecord_touches ..) rfl h13

theorem State.spiAbort_touches (s : State) (cause : Nat) (edges : Nat) (st : Nat) (rx : List Nat) : Touches 0x807000005824080000000000000000000000000000000000000000000000000000000000000000000000000000000000000000000000000000000000000002a000211 s (State.spiAbort s cause edges st rx) := by
  unfold State.spiAbort
  split
  · refine Touches.ite ?_ ?_
    · exact Touches.refl _ _
    · refine Touches.step (State.spiRegs_touches ..) rfl ?_
      exact Touches.step (State.spiSkip_touches ..) rfl (Touches.setSpi (Touches.refl _ _) rfl)
  · extract_lets -merge +onlyGivenNames x1
    refine Touches.ite ?_ ?_
    · extract_lets -merge +onlyGivenNames x2
      have h3 : Touches 0x807000005824080000000000000000000000000000000000000000000000000000000000000000000000000000000000000000000000000000000000000002a000211 s x2 := by unfold x2; exact Touches.step (State.spiEnd_touches ..) rfl (Touches.refl _ _)
      clear_value x2
      clear_value x1
      refine Touches.step (State.spiRegs_touches ..) rfl ?_
      exact Touches.step (State.spiSkip_touches ..) rfl (Touches.setSpi h3 rfl)
    · extract_lets -merge +onlyGivenNames x4
      clear_value x4
      extract_lets -merge +onlyGivenNames x5
      have h6 : Touches 0x807000005824080000000000000000000000000000000000000000000000000000000000000000000000000000000000000000000000000000000000000002a000211 s x5 := by unfold x5; exact Touches.setSpi (Touches.refl _ _) rfl
      clear_value x5
      extract_lets -merge +onlyGivenNames x7
      clear_value x7
      extract_lets -merge +onlyGivenNames x8
      clear_value x8
      extract_lets -merge +onlyGivenNames x9
      clear_value x9
      extract_lets -merge +onlyGivenNames x10
      clear_value x10
      extract_lets -merge +onlyGivenNames x11
      clear_value x11
      extract_lets -merge +onlyGivenNames x12
      extract_lets -merge +onlyGivenNames x13
      have h14 : Touches 0x807000005824080000000000000000000000000000000000000000000000000000000000000000000000000000000000000000000000000000000000000002a000211 s x13 := by unfold x13; exact Touches.trans h6 (State.report_touches _ _ _ _ _ rfl 458 rfl grp_SPI_STATUS)
      clear_value x13
      clear_value x12
      extract_lets -merge +onlyGivenNames x15
      have h16 : Touches 0x807000005824080000000000000000000000000000000000000000000000000000000000000000000000000000000000000000000000000000000000000002a000211 s x15 := by
        unfold x15
        refine Touches.ite ?_ ?_
        · exact Touches.step (State.spiStore_touches ..) rfl h14
        · exact h14
      clear_value x15
      extract_lets -merge +onlyGivenNames x17
      clear_value x17
      extract_lets -merge +onlyGivenNames x18
      have h19 : Touches 0x807000005824080000000000000000000000000000000000000000000000000000000000000000000000000000000000000000000000000000000000000002a000211 s x18 := by
        unfold x18
        refine Touches.ite ?_ ?_
        · exact Touches.step (State.spiStore_touches ..) rfl h14
        · exact h14
      clear_value x18
      extract_lets -merge +onlyGivenNames x20
      have h21 : Touches 0x807000005824080000000000000000000000000000000000000000000000000000000000000000000000000000000000000000000000000000000000000002a000211 s x20 := by unfold x20; exact Touches.trans h19 (State.report_touches _ _ _ _ _ rfl 458 rfl grp_SPI_STATUS)
      clear_value x20
      extract_lets -merge +onlyGivenNames x22
      have h23 : Touches 0x807000005824080000000000000000000000000000000000000000000000000000000000000000000000000000000000000000000000000000000000000002a000211 s x22 := by
        unfold x22
        refine Touches.ite ?_ ?_
        · exact Touches.step (State.spiStore_touches ..) rfl h14
        · exact h14
      clear_value x22
      extract_lets -merge +onlyGivenNames x24
      have h25 : Touches 0x807000005824080000000000000000000000000000000000000000000000000000000000000000000000000000000000000000000000000000000000000002a000211 s x24 := by unfold x24; exact Touches.trans h23 (State.report_touches _ _ _ _ _ rfl 458 rfl grp_SPI_STATUS)
      clear_value x24
      extract_lets -merge +onlyGivenNames x26
      have h27 : Touches 0x807000005824080000000000000000000000000000000000000000000000000000000000000000000000000000000000000000000000000000000000000002a000211 s x26 := by
        unfold x26
        refine Touches.ite ?_ ?_
        · exact Touches.step (State.spiRecord_touches ..) rfl h16
        · refine Touches.ite ?_ ?_
          · exact Touches.step (State.spiRecord_touches ..) rfl h21
          · exact Touches.step (State.spiRecord_touches ..) rfl h25
      clear_value x26
      exact Touches.step (State.spiRegs_touches ..) rfl (Touches.step (State.spiSkip_touches ..) rfl h27)

theorem State.spiAbortFree_touches (s : State) (cause : Nat) : Touches 0x807000005824080000000000000000000000000000000000000000000000000000000000000000000000000000000000000000000000000000000000000002a000211 s (State.spiAbortFree s cause) := by
  unfold State.spiAbortFree
  split
  · exact Touches.step (State.spiAbort_touches ..) rfl (Touches.refl _ _)
  · split
    rename_i x1 x2 x3 e4
    have h5 : Touches 0x807000005824080000000000000000000000000000000000000000000000000000000000000000000000000000000000000000000000000000000000000002a000211 s x3 := Touches.of_eq (fun d => d.2) e4 (Touches.step (State.fresh_touches ..) rfl (Touches.refl _ _))
    split
    rename_i x6 x7 x8 e9
    have h10 : Touches 0x807000005824080000000000000000000000000000000000000000000000000000000000000000000000000000000000000000000000000000000000000002a000211 s x8 := Touches.of_eq (fun d => d.2) e9 (Touches.step (State.fresh_touches ..) rfl h5)
    split
    rename_i x11 x12 x13 e14
    have h15 : Touches 0x807000005824080000000000000000000000000000000000000000000000000000000000000000000000000000000000000000000000000000000000000002a000211 s x13 := Touches.of_eq (fun d => d.2) e14 (Touches.step (State.freshList_touches ..) rfl h10)
    exact Touches.step (State.spiAbort_touches ..) rfl h15

theorem State.spiPop_touches (s : State) : Touches 0x4200000000000000000000000000000000000000000000000000000000000000000000000000000000000000000000000000000000000000000008000005 s (State.spiPop s) := by
  unfold State.spiPop
  extract_lets -merge +onlyGivenNames x1
  clear_value x1
  extract_lets -merge +onlyGivenNames x2
  clear_value x2
  extract_lets -merge +onlyGivenNames x3
  clear_value x3
  extract_lets -merge +onlyGivenNames x4
  have h5 : Touches 0x4200000000000000000000000000000000000000000000000000000000000000000000000000000000000000000000000000000000000000000008000005 s x4 := by
    unfold x4
    exact Touches.upd (Touches.refl _ _) rfl rfl rfl rfl rfl rfl rfl
      (by intro p hp; cases p <;> first | rfl | exact absurd hp (by decide))
  clear_value x4
  refine Touches.step (State.spiRegs_touches ..) rfl ?_
  refine Touches.trans ?_ (State.setF_touches _ _ _ rfl 463 rfl (grp_SPI_CPL _))
  refine Touches.trans ?_ (State.setF_touches _ _ _ rfl 463 rfl (grp_SPI_CPL _))
  exact Touches.trans h5 (State.setF_touches _ _ _ rfl 463 rfl (grp_SPI_CPL _))

theorem State.i2cRegs_touches (s : State) : Touches 0x400000000000000000000000000000000000000000000000000000000000000000000000000000000000000000000000000000000000000000000000000001 s (State.i2cRegs s) := by
  unfold State.i2cRegs
  refine Touches.trans ?_ (State.setF_touches _ _ _ rfl 471 rfl grp_I2C_FILL)
  refine Touches.trans ?_ (State.setF_touches _ _ _ rfl 471 rfl grp_I2C_FILL)
  exact State.setF_touches _ _ _ rfl 471 rfl grp_I2C_FILL

theorem State.setBufByte_touches (s : State) (r : Nat → Fld) (k : Nat) (x : Byte) {m : Nat} (hm : 0x1 ||| m = m) (b : Nat)
    (hb : m.testBit (31 + b) = true) (g : ∀ k, Grp b (r k).reg.off) :
    Touches m s (s.setBufByte r k x) := State.setF_touches _ _ _ hm b hb (g _)

theorem State.setBuf_touches (s : State) (r : Nat → Fld) (k : Nat) (l : List Byte) {m : Nat} (hm : 0x1 ||| m = m) (b : Nat)
    (hb : m.testBit (31 + b) = true) (g : ∀ k, Grp b (r k).reg.off) :
    Touches m s (s.setBuf r k l) := by
  induction l generalizing s k with
  | nil => exact Touches.refl _ _
  | cons x l ih => exact (State.setBufByte_touches s r k x hm b hb g).trans (ih _ _)

theorem State.i2cRecord_touches (s : State) (c : I2cCmd) (state : Nat) (sts : Nat) (written : Nat) (read : Nat) : Touches 0x40400000000000000000000000000000000000000000000000000000000000000000000000000000000000000000000000000000000000000000000010000001 s (State.i2cRecord s c state sts written read) := by
  unfold State.i2cRecord
  refine Touches.ite ?_ ?_
  · exact Touches.step (State.i2cRegs_touches ..) rfl (Touches.refl _ _)
  · extract_lets -merge +onlyGivenNames x1
    clear_value x1
    refine Touches.step (State.i2cRegs_touches ..) rfl ?_
    exact Touches.trans (Touches.setI2c (Touches.refl _ _) rfl) (State.inc_touches _ _ _ rfl 479 rfl grp_I2C_CNT_CMDS)

theorem State.i2cSkip_touches (s : State) (a1 : List I2cCmd) : Touches 0x40400000000000000000000000000000000000000000000000000000000000000000000000000000000000000000000000000000000000000000000010000001 s (State.i2cSkip s a1) := by
  fun_induction State.i2cSkip s a1
  · rename_i x1
    exact Touches.refl _ _
  · rename_i x2 x3 x4 e5
    exact Touches.trans (Touches.step (State.i2cRecord_touches ..) rfl (Touches.setI2c (Touches.refl _ _) rfl)) e5

theorem State.i2cPush_touches (s : State) (v : Nat) : Touches 0x8070000600040800000000000000000000000000000000000000000000000000000000000000000000000000000000000000000000000000000000000000032000211 s (State.i2cPush s v) := by
  unfold State.i2cPush
  refine Touches.ite ?_ ?_
  · exact Touches.refl _ _
  · extract_lets -merge +onlyGivenNames x1
    clear_value x1
    extract_lets -merge +onlyGivenNames x2
    refine Touches.ite ?_ ?_
    · unfold x2
      exact State.report_touches _ _ _ _ _ rfl 470 rfl grp_I2C_STATUS
    · refine Touches.ite ?_ ?_
      · unfold x2
        exact State.report_touches _ _ _ _ _ rfl 470 rfl grp_I2C_STATUS
      · refine Touches.ite ?_ ?_
        · unfold x2
          exact State.report_touches _ _ _ _ _ rfl 470 rfl grp_I2C_STATUS
        · refine Touches.ite ?_ ?_
          · exact State.report_touches _ _ _ _ _ rfl 470 rfl grp_I2C_STATUS
          · exact Touches.step (State.i2cRegs_touches ..) rfl (Touches.setI2c (Touches.refl _ _) rfl)

theorem State.i2cRelease_touches (s : State) : Touches 0x200000000000000000000000000000000000000000000000000000000000000000000000000000000000000000000000000000000000000000000010000001 s (State.i2cRelease s) := by
  unfold State.i2cRelease
  extract_lets -merge +onlyGivenNames x1
  clear_value x1
  extract_lets -merge +onlyGivenNames x2
  have h3 : Touches 0x200000000000000000000000000000000000000000000000000000000000000000000000000000000000000000000000000000000000000000000010000001 s x2 := by unfold x2; exact Touches.setI2c (Touches.refl _ _) rfl
  clear_value x2
  refine Touches.trans ?_ (State.setB_touches _ _ _ rfl 470 rfl grp_I2C_STATUS)
  exact Touches.trans h3 (State.setB_touches _ _ _ rfl 470 rfl grp_I2C_STATUS)

theorem State.i2cApply_touches (s : State) : Touches 0x2000000000000000000000000000000000000000000000000000000000000000000000000000000000000000000000000000000000000000000000000010000001 s (State.i2cApply s) := by
  unfold State.i2cApply
  split
  · exact Touches.refl _ _
  · extract_lets -merge +onlyGivenNames x1
    have h5 : Touches 0x2000000000000000000000000000000000000000000000000000000000000000000000000000000000000000000000000000000000000000000000000010000001 s x1 := by
      unfold x1
      refine Touches.foldl (fun t2 y3 h4 => ?_) ?_
      · exact Touches.trans h4 (State.setF_touches _ _ _ rfl 486 rfl (grp_I2C_TWIN_LIVE _))
      · exact Touches.refl _ _
    clear_value x1
    exact Touches.setI2c h5 rfl

theorem State.i2cStart_touches (s : State) (pulses : Nat) : Touches 0x8072040600040800000000000000000000000000000000000000000000000000000000000000000000000000000000000000000000000000000000000000032000211 s (State.i2cStart s pulses) := by
  unfold State.i2cStart
  split
  · exact Touches.refl _ _
  · extract_lets -merge +onlyGivenNames x1
    clear_value x1
    refine Touches.ite ?_ ?_
    · refine Touches.ite ?_ ?_
      · extract_lets -merge +onlyGivenNames x2
        clear_value x2
        extract_lets -merge +onlyGivenNames x3
        have h4 : Touches 0x8072040600040800000000000000000000000000000000000000000000000000000000000000000000000000000000000000000000000000000000000000032000211 s x3 := by unfold x3; exact Touches.setI2c (Touches.refl _ _) rfl
        clear_value x3
        extract_lets -merge +onlyGivenNames x5
        have h6 : Touches 0x8072040600040800000000000000000000000000000000000000000000000000000000000000000000000000000000000000000000000000000000000000032000211 s x5 := by unfold x5; exact Touches.trans h4 (State.report_touches _ _ _ _ _ rfl 470 rfl grp_I2C_STATUS)
        clear_value x5
        exact Touches.step (State.i2cRelease_touches ..) rfl (Touches.step (State.i2cRecord_touches ..) rfl h6)
      · extract_lets -merge +onlyGivenNames x7
        extract_lets -merge +onlyGivenNames x8
        extract_lets -merge +onlyGivenNames x9
        clear_value x9
        extract_lets -merge +onlyGivenNames x10
        have h11 : Touches 0x8072040600040800000000000000000000000000000000000000000000000000000000000000000000000000000000000000000000000000000000000000032000211 s x10 := by unfold x10; exact Touches.setI2c (Touches.refl _ _) rfl
        clear_value x10
        clear_value x7
        clear_value x8
        extract_lets -merge +onlyGivenNames x12
        have h13 : Touches 0x8072040600040800000000000000000000000000000000000000000000000000000000000000000000000000000000000000000000000000000000000000032000211 s x12 := by
          unfold x12
          refine Touches.trans ?_ (State.setB_touches _ _ _ rfl 470 rfl grp_I2C_STATUS)
          exact Touches.trans h11 (State.setB_touches _ _ _ rfl 470 rfl grp_I2C_STATUS)
        clear_value x12
        refine Touches.step (State.i2cRegs_touches ..) rfl ?_
        exact Touches.step (State.emit_touches ..) rfl (Touches.step (State.i2cApply_touches ..) rfl h13)
    · exact Touches.refl _ _

theorem State.i2cEnd_touches (s : State) (r : I2cResult) : Touches 0x8070940600040800000000000000000000000000000000000000000000000000000000000000000000000000000000000000000000000000000000000000032000211 s (State.i2cEnd s r) := by
  unfold State.i2cEnd
  split
  · exact Touches.refl _ _
  · refine Touches.ite ?_ ?_
    · exact Touches.refl _ _
    · split
      extract_lets -merge +onlyGivenNames x1
      have h2 : Touches 0x8070940600040800000000000000000000000000000000000000000000000000000000000000000000000000000000000000000000000000000000000000032000211 s x1 := by unfold x1; exact State.setBuf_touches _ _ _ _ rfl 484 rfl (fun _ => (grp_I2C_RXBUF _))
      clear_value x1
      extract_lets -merge +onlyGivenNames x3
      have h4 : Touches 0x8070940600040800000000000000000000000000000000000000000000000000000000000000000000000000000000000000000000000000000000000000032000211 s x3 := by
        unfold x3
        refine Touches.ite ?_ ?_
        · exact Touches.trans h2 (State.inc_touches _ _ _ rfl 481 rfl grp_I2C_CNT_NACK)
        · exact h2
      clear_value x3
      extract_lets -merge +onlyGivenNames x5
      have h6 : Touches 0x8070940600040800000000000000000000000000000000000000000000000000000000000000000000000000000000000000000000000000000000000000032000211 s x5 := by
        unfold x5
        refine Touches.ite ?_ ?_
        · exact h4
        · exact Touches.trans h4 (State.report_touches _ _ _ _ _ rfl 470 rfl grp_I2C_STATUS)
      clear_value x5
      extract_lets -merge +onlyGivenNames x7
      have h8 : Touches 0x8070940600040800000000000000000000000000000000000000000000000000000000000000000000000000000000000000000000000000000000000000032000211 s x7 := by unfold x7; exact Touches.step (State.i2cRecord_touches ..) rfl h6
      clear_value x7
      refine Touches.ite ?_ ?_
      · extract_lets -merge +onlyGivenNames x9
        have h10 : Touches 0x8070940600040800000000000000000000000000000000000000000000000000000000000000000000000000000000000000000000000000000000000000032000211 s x9 := by unfold x9; exact Touches.trans h8 (State.setB_touches _ _ _ rfl 470 rfl grp_I2C_STATUS)
        clear_value x9
        exact Touches.setI2c h10 rfl
      · exact Touches.step (State.i2cRelease_touches ..) rfl h8

theorem State.i2cLost_touches (s : State) (byte : Nat) (bit : Nat) (winner : Option (Nat × Bool)) : Touches 0x80700c0600040800000000000000000000000000000000000000000000000000000000000000000000000000000000000000000000000000000000000000032000211 s (State.i2cLost s byte bit winner) := by
  unfold State.i2cLost
  split
  · exact Touches.refl _ _
  · refine Touches.ite ?_ ?_
    · exact Touches.refl _ _
    · extract_lets -merge +onlyGivenNames x1
      have h2 : Touches 0x80700c0600040800000000000000000000000000000000000000000000000000000000000000000000000000000000000000000000000000000000000000032000211 s x1 := by unfold x1; exact State.inc_touches _ _ _ rfl 480 rfl grp_I2C_CNT_ARB_LOST
      clear_value x1
      extract_lets -merge +onlyGivenNames x3
      have h4 : Touches 0x80700c0600040800000000000000000000000000000000000000000000000000000000000000000000000000000000000000000000000000000000000000032000211 s x3 := by unfold x3; exact Touches.trans h2 (State.report_touches _ _ _ _ _ rfl 470 rfl grp_I2C_STATUS)
      clear_value x3
      extract_lets -merge +onlyGivenNames x5
      clear_value x5
      extract_lets -merge +onlyGivenNames x6
      clear_value x6
      extract_lets -merge +onlyGivenNames x7
      have h8 : Touches 0x80700c0600040800000000000000000000000000000000000000000000000000000000000000000000000000000000000000000000000000000000000000032000211 s x7 := by unfold x7; exact Touches.setI2c h4 rfl
      clear_value x7
      extract_lets -merge +onlyGivenNames x9
      have h10 : Touches 0x80700c0600040800000000000000000000000000000000000000000000000000000000000000000000000000000000000000000000000000000000000000032000211 s x9 := by
        unfold x9
        refine Touches.trans ?_ (State.setB_touches _ _ _ rfl 470 rfl grp_I2C_STATUS)
        exact Touches.trans h8 (State.setB_touches _ _ _ rfl 470 rfl grp_I2C_STATUS)
      clear_value x9
      extract_lets -merge +onlyGivenNames x11
      clear_value x11
      extract_lets -merge +onlyGivenNames x12
      have h13 : Touches 0x80700c0600040800000000000000000000000000000000000000000000000000000000000000000000000000000000000000000000000000000000000000032000211 s x12 := by unfold x12; exact Touches.setI2c h10 rfl
      clear_value x12
      extract_lets -merge +onlyGivenNames x14
      have h15 : Touches 0x80700c0600040800000000000000000000000000000000000000000000000000000000000000000000000000000000000000000000000000000000000000032000211 s x14 := by unfold x14; exact Touches.trans h13 (State.report_touches _ _ _ _ _ rfl 470 rfl grp_I2C_STATUS)
      clear_value x14
      extract_lets -merge +onlyGivenNames x16
      have h17 : Touches 0x80700c0600040800000000000000000000000000000000000000000000000000000000000000000000000000000000000000000000000000000000000000032000211 s x16 := by unfold x16; exact Touches.trans h10 (State.setB_touches _ _ _ rfl 470 rfl grp_I2C_STATUS)
      clear_value x16
      extract_lets -merge +onlyGivenNames x18
      clear_value x18
      extract_lets -merge +onlyGivenNames x19
      have h20 : Touches 0x80700c0600040800000000000000000000000000000000000000000000000000000000000000000000000000000000000000000000000000000000000000032000211 s x19 := by
        unfold x19
        refine Touches.ite ?_ ?_
        · exact Touches.step (State.i2cRelease_touches ..) rfl (Touches.step (State.i2cRecord_touches ..) rfl h15)
        · exact Touches.step (State.i2cRegs_touches ..) rfl (Touches.setI2c h17 rfl)
      clear_value x19
      split
      · refine Touches.ite ?_ ?_
        · extract_lets -merge +onlyGivenNames x21
          have h22 : Touches 0x80700c0600040800000000000000000000000000000000000000000000000000000000000000000000000000000000000000000000000000000000000000032000211 s x21 := by unfold x21; exact Touches.trans h20 (State.setB_touches _ _ _ rfl 470 rfl grp_I2C_STATUS)
          clear_value x21
          exact Touches.setI2c h22 rfl
        · exact h20
      · exact h20

theorem State.i2cSclTimeout_touches (s : State) : Touches 0x8070040600040800000000000000000000000000000000000000000000000000000000000000000000000000000000000000000000000000000000000000032000211 s (State.i2cSclTimeout s) := by
  unfold State.i2cSclTimeout
  split
  · exact Touches.refl _ _
  · refine Touches.ite ?_ ?_
    · exact Touches.refl _ _
    · extract_lets -merge +onlyGivenNames x1
      extract_lets -merge +onlyGivenNames x2
      clear_value x2
      extract_lets -merge +onlyGivenNames x3
      have h4 : Touches 0x8070040600040800000000000000000000000000000000000000000000000000000000000000000000000000000000000000000000000000000000000000032000211 s x3 := by unfold x3; exact Touches.setI2c (Touches.refl _ _) rfl
      clear_value x3
      clear_value x1
      extract_lets -merge +onlyGivenNames x5
      have h6 : Touches 0x8070040600040800000000000000000000000000000000000000000000000000000000000000000000000000000000000000000000000000000000000000032000211 s x5 := by unfold x5; exact Touches.trans h4 (State.report_touches _ _ _ _ _ rfl 470 rfl grp_I2C_STATUS)
      clear_value x5
      extract_lets -merge +onlyGivenNames x7
      have h8 : Touches 0x8070040600040800000000000000000000000000000000000000000000000000000000000000000000000000000000000000000000000000000000000000032000211 s x7 := by unfold x7; exact Touches.step (State.i2cRelease_touches ..) rfl (Touches.step (State.i2cRecord_touches ..) rfl h6)
      clear_value x7
      refine Touches.trans ?_ (State.setB_touches _ _ _ rfl 470 rfl grp_I2C_STATUS)
      exact Touches.step (State.i2cSkip_touches ..) rfl h8

theorem State.i2cBusFree_touches (s : State) : Touches 0x200000000000000000000000000000000000000000000000000000000000000000000000000000000000000000000000000000000000000000000010000001 s (State.i2cBusFree s) := by
  unfold State.i2cBusFree
  refine Touches.ite ?_ ?_
  · exact Touches.refl _ _
  · exact Touches.trans (Touches.setI2c (Touches.refl _ _) rfl) (State.setB_touches _ _ _ rfl 470 rfl grp_I2C_STATUS)

theorem State.i2cCommit_touches (s : State) : Touches 0x2000000000000000000000000000000000000000000000000000000000000000000000000000000000000000000000000000000000000000000000000010000001 s (State.i2cCommit s) := by
  unfold State.i2cCommit
  extract_lets -merge +onlyGivenNames x1
  clear_value x1
  extract_lets -merge +onlyGivenNames x2
  have h3 : Touches 0x2000000000000000000000000000000000000000000000000000000000000000000000000000000000000000000000000000000000000000000000000010000001 s x2 := by unfold x2; exact Touches.setI2c (Touches.refl _ _) rfl
  clear_value x2
  refine Touches.ite ?_ ?_
  · exact Touches.step (State.i2cApply_touches ..) rfl h3
  · exact h3

theorem State.i2cBusStart_touches (s : State) : Touches 0x2000200000000000000000000000000000000000000000000000000000000000000000000000000000000000000000000000000000000000000000000010000001 s (State.i2cBusStart s) := by
  unfold State.i2cBusStart
  refine Touches.step (State.i2cApply_touches ..) rfl ?_
  exact Touches.trans (Touches.setI2c (Touches.refl _ _) rfl) (State.setB_touches _ _ _ rfl 470 rfl grp_I2C_STATUS)

theorem State.i2cTarget_touches (s : State) (read : Bool) (bytes : List Byte) (n : Nat) : Touches 0x8070000200040800000000000000000000000000000000000000000000000000000000000000000000000000000000000000000000000000000000000000032000215 s (State.i2cTarget s read bytes n) := by
  unfold State.i2cTarget
  refine Touches.ite ?_ ?_
  · exact Touches.refl _ _
  · extract_lets -merge +onlyGivenNames x1
    have h2 : Touches 0x8070000200040800000000000000000000000000000000000000000000000000000000000000000000000000000000000000000000000000000000000000032000215 s x1 := by unfold x1; exact State.setB_touches _ _ _ rfl 470 rfl grp_I2C_STATUS
    clear_value x1
    refine Touches.ite ?_ ?_
    · extract_lets -merge +onlyGivenNames x3
      clear_value x3
      extract_lets -merge +onlyGivenNames x4
      extract_lets -merge +onlyGivenNames x5
      have h6 : Touches 0x8070000200040800000000000000000000000000000000000000000000000000000000000000000000000000000000000000000000000000000000000000032000215 s x5 := by unfold x5; exact Touches.step (State.emit_touches ..) rfl h2
      clear_value x5
      clear_value x4
      exact Touches.setI2c h6 rfl
    · split
      · exact Touches.setI2c h2 rfl
      · extract_lets -merge +onlyGivenNames x7
        clear_value x7
        extract_lets -merge +onlyGivenNames x8
        extract_lets -merge +onlyGivenNames x9
        extract_lets -merge +onlyGivenNames x10
        clear_value x10
        split
        extract_lets -merge +onlyGivenNames x11
        clear_value x11
        extract_lets -merge +onlyGivenNames x12
        have h13 : Touches 0x8070000200040800000000000000000000000000000000000000000000000000000000000000000000000000000000000000000000000000000000000000032000215 s x12 := by unfold x12; exact Touches.setI2c h2 rfl
        clear_value x12
        clear_value x8
        clear_value x9
        split
        · exact Touches.trans h13 (State.reportLimited_touches _ _ _ _ _ _ _ rfl 470 rfl grp_I2C_STATUS)
        · exact h13

theorem State.i2cTargetEnd_touches (s : State) (how : Nat) : Touches 0x8072200600040800000000000000000000000000000000000000000000000000000000000000000000000000000000000000000000000000000000000000032000211 s (State.i2cTargetEnd s how) := by
  unfold State.i2cTargetEnd
  split
  · exact Touches.refl _ _
  · extract_lets -merge +onlyGivenNames x1
    have h5 : Touches 0x8072200600040800000000000000000000000000000000000000000000000000000000000000000000000000000000000000000000000000000000000000032000211 s x1 := by
      unfold x1
      refine Touches.ite ?_ ?_
      · refine Touches.foldl (fun t2 y3 h4 => ?_) ?_
        · exact Touches.trans h4 (State.setBufByte_touches _ _ _ _ rfl 486 rfl (fun _ => (grp_I2C_TWIN_LIVE _)))
        · exact Touches.refl _ _
      · exact Touches.refl _ _
    clear_value x1
    extract_lets -merge +onlyGivenNames x6
    have h7 : Touches 0x8072200600040800000000000000000000000000000000000000000000000000000000000000000000000000000000000000000000000000000000000000032000211 s x6 := by
      unfold x6
      refine Touches.ite ?_ ?_
      · exact Touches.trans h5 (State.report_touches _ _ _ _ _ rfl 470 rfl grp_I2C_STATUS)
      · exact h5
    clear_value x6
    extract_lets -merge +onlyGivenNames x8
    clear_value x8
    extract_lets -merge +onlyGivenNames x9
    extract_lets -merge +onlyGivenNames x10
    clear_value x10
    extract_lets -merge +onlyGivenNames x11
    have h12 : Touches 0x8072200600040800000000000000000000000000000000000000000000000000000000000000000000000000000000000000000000000000000000000000032000211 s x11 := by unfold x11; exact Touches.setI2c h7 rfl
    clear_value x11
    clear_value x9
    refine Touches.step (State.i2cRegs_touches ..) rfl ?_
    refine Touches.trans ?_ (State.setB_touches _ _ _ rfl 470 rfl grp_I2C_STATUS)
    exact Touches.trans h12 (State.inc_touches _ _ _ rfl 482 rfl grp_I2C_CNT_TGT_TXN)

theorem State.i2cTargetTimeout_touches (s : State) : Touches 0x8072200600040800000000000000000000000000000000000000000000000000000000000000000000000000000000000000000000000000000000000000032000211 s (State.i2cTargetTimeout s) := by
  unfold State.i2cTargetTimeout
  refine Touches.ite ?_ ?_
  · exact Touches.refl _ _
  · refine Touches.trans ?_ (State.report_touches _ _ _ _ _ rfl 470 rfl grp_I2C_STATUS)
    exact Touches.step (State.i2cTargetEnd_touches ..) rfl (Touches.refl _ _)

theorem State.i2cAbort_touches (s : State) (cause : Nat) (written : Nat) (read : Nat) : Touches 0x8070040600040800000000000000000000000000000000000000000000000000000000000000000000000000000000000000000000000000000000000000032000211 s (State.i2cAbort s cause written read) := by
  unfold State.i2cAbort
  extract_lets -merge +onlyGivenNames x1
  have h2 : Touches 0x8070040600040800000000000000000000000000000000000000000000000000000000000000000000000000000000000000000000000000000000000000032000211 s x1 := by unfold x1; exact State.report_touches _ _ _ _ _ rfl 470 rfl grp_I2C_STATUS
  clear_value x1
  extract_lets -merge +onlyGivenNames x3
  have h7 : Touches 0x8070040600040800000000000000000000000000000000000000000000000000000000000000000000000000000000000000000000000000000000000000032000211 s x3 := by
    unfold x3
    split
    · exact Touches.step (State.i2cRecord_touches ..) rfl h2
    · rename_i x4 x5 e6
      exact Touches.refl _ _
  clear_value x3
  extract_lets -merge +onlyGivenNames x8
  refine Touches.step (State.i2cRegs_touches ..) rfl ?_
  refine Touches.step (State.i2cSkip_touches ..) rfl ?_
  exact Touches.step (State.i2cRelease_touches ..) rfl (Touches.setI2c h7 rfl)

theorem State.portsLost_touches (s : State) : Touches 0x807224065824080000000000000000000000000000000000000000000000000000000000000000000000000000000000000000000000000000000000000003a000211 s (State.portsLost s) := by
  unfold State.portsLost
  extract_lets -merge +onlyGivenNames x1
  have h2 : Touches 0x807224065824080000000000000000000000000000000000000000000000000000000000000000000000000000000000000000000000000000000000000003a000211 s x1 := by unfold x1; exact Touches.step (State.spiAbortFree_touches ..) rfl (Touches.refl _ _)
  clear_value x1
  split
  rename_i x3 x4 x5 e6
  have h7 : Touches 0x807224065824080000000000000000000000000000000000000000000000000000000000000000000000000000000000000000000000000000000000000003a000211 s x5 := by
    refine Touches.of_eq (fun d => d.2) e6 ?_
    refine Touches.ite2 ?_ ?_
    · exact Touches.step (State.fresh_touches ..) rfl h2
    · exact h2
  split
  rename_i x8 x9 x10 e11
  have h12 : Touches 0x807224065824080000000000000000000000000000000000000000000000000000000000000000000000000000000000000000000000000000000000000003a000211 s x10 := by
    refine Touches.of_eq (fun d => d.2) e11 ?_
    refine Touches.ite2 ?_ ?_
    · exact Touches.step (State.fresh_touches ..) rfl h7
    · exact h7
  exact Touches.step (State.i2cTargetEnd_touches ..) rfl (Touches.step (State.i2cAbort_touches ..) rfl h12)

theorem State.i2cPop_touches (s : State) : Touches 0xc400000000000000000000000000000000000000000000000000000000000000000000000000000000000000000000000000000000000000000000010000005 s (State.i2cPop s) := by
  unfold State.i2cPop
  extract_lets -merge +onlyGivenNames x1
  clear_value x1
  extract_lets -merge +onlyGivenNames x2
  clear_value x2
  extract_lets -merge +onlyGivenNames x3
  clear_value x3
  extract_lets -merge +onlyGivenNames x4
  have h5 : Touches 0xc400000000000000000000000000000000000000000000000000000000000000000000000000000000000000000000000000000000000000000000010000005 s x4 := by
    unfold x4
    exact Touches.upd (Touches.refl _ _) rfl rfl rfl rfl rfl rfl rfl
      (by intro p hp; cases p <;> first | rfl | exact absurd hp (by decide))
  clear_value x4
  refine Touches.step (State.i2cRegs_touches ..) rfl ?_
  refine Touches.trans ?_ (State.wr_touches _ _ _ rfl 476 rfl grp_I2C_CPL1)
  exact Touches.trans h5 (State.wr_touches _ _ _ rfl 475 rfl grp_I2C_CPL0)

theorem State.i2cLogPop_touches (s : State) : Touches 0x20400000000000000000000000000000000000000000000000000000000000000000000000000000000000000000000000000000000000000000000010000005 s (State.i2cLogPop s) := by
  unfold State.i2cLogPop
  extract_lets -merge +onlyGivenNames x1
  clear_value x1
  refine Touches.step (State.i2cRegs_touches ..) rfl ?_
  refine Touches.trans ?_ (State.wr_touches _ _ _ rfl 478 rfl grp_I2C_TLOG)
  exact Touches.upd (Touches.refl _ _) rfl rfl rfl rfl rfl rfl rfl
    (by intro p hp; cases p <;> first | rfl | exact absurd hp (by decide))

end Sys2Proof.Machine
end

