-- ==== Sys2Proof/Laws/FrameReset.lean ====
section
/-! SUPPORT. What each operation of Machine/Reset.lean can do: the parts of the state it touches (Touches). -/

-- One declaration at a time: many proofs at once would each hold a thread with a large stack.
set_option Elab.async false

namespace Sys2Proof.Machine

theorem State.bootReport_touches (s : State) (sts : Nat) (detail : Nat) : Touches 0x8070000000040800000000000000000000000000000000000000000000000000000000000000000000000000000000000000000000100000000000000000022000211 s (State.bootReport s sts detail) := by
  unfold State.bootReport
  exact State.report_touches _ _ _ _ _ rfl 73 rfl grp_SYS_BOOT_STATUS

theorem State.fmapReport_touches (s : State) (sts : Nat) (detail : Nat) : Touches 0x8070000000040800000000000000000000000000000000000000000000000000000000000000000000000000000000000000000040100000000000000000022000211 s (State.fmapReport s sts detail) := by
  unfold State.fmapReport
  exact Touches.step (State.bootReport_touches ..) rfl (State.setF_touches _ _ _ rfl 83 rfl grp_BOOT_FMAP_STATUS)

theorem State.bootGo_touches (s : State) (st : Nat) : Touches 0x40800000000000000000000000000000000000000000000000000000000000000000000000000000000000000000000100000000000000000020000001 s (State.bootGo s st) := by
  unfold State.bootGo
  exact Touches.step (State.pend_touches ..) rfl (State.setF_touches _ _ _ rfl 73 rfl grp_SYS_BOOT_STATUS)

theorem State.fatalEnd_touches (s : State) (sts : Nat) (detail : Nat) : Touches 0x40800000000000000000000000000000000000000000000000000000000000000000000000000000000000000000000500000000000000000720000241 s (State.fatalEnd s sts detail) := by
  unfold State.fatalEnd
  extract_lets -merge +onlyGivenNames x1
  have h2 : Touches 0x40800000000000000000000000000000000000000000000000000000000000000000000000000000000000000000000500000000000000000720000241 s x1 := by
    unfold x1
    refine Touches.ite ?_ ?_
    · exact Touches.refl _ _
    · refine Touches.trans ?_ (State.setF_touches _ _ _ rfl 75 rfl grp_SYS_FATAL)
      exact State.setF_touches _ _ _ rfl 75 rfl grp_SYS_FATAL
  clear_value x1
  extract_lets -merge +onlyGivenNames x3
  have h4 : Touches 0x40800000000000000000000000000000000000000000000000000000000000000000000000000000000000000000000500000000000000000720000241 s x3 := by
    unfold x3
    refine Touches.ite ?_ ?_
    · exact h2
    · refine Touches.trans ?_ (State.wr_touches _ _ _ rfl 3 rfl grp_SYS_CAP_UNITS)
      refine Touches.trans ?_ (State.wr_touches _ _ _ rfl 2 rfl grp_SYS_REV)
      exact Touches.trans h2 (State.setF_touches _ _ _ rfl 1 rfl grp_SYS_ID)
  clear_value x3
  extract_lets -merge +onlyGivenNames x5
  clear_value x5
  extract_lets -merge +onlyGivenNames x6
  have h7 : Touches 0x40800000000000000000000000000000000000000000000000000000000000000000000000000000000000000000000500000000000000000720000241 s x6 := by unfold x6; exact Touches.setBoot h4 rfl
  clear_value x6
  exact Touches.step (State.holdStart_touches ..) rfl (Touches.step (State.bootGo_touches ..) rfl h7)

theorem State.fatal_touches (s : State) (sts : Nat) (detail : Nat) : Touches 0x8070000000040800000000000000000000000000000000000000000000000000000000000000000000000000000000000000000000500000000000000000722000251 s (State.fatal s sts detail) := by
  unfold State.fatal
  exact Touches.step (State.fatalEnd_touches ..) rfl (Touches.step (State.bootReport_touches ..) rfl (Touches.refl _ _))

theorem State.outputsOff_touches (s : State) : Touches 0x3400000000000000000000000000000000000000000000020080001 s (State.outputsOff s) := by
  unfold State.outputsOff
  refine Touches.foldl (fun t1 y2 h3 => ?_) ?_
  · refine Touches.ite ?_ ?_
    · exact Touches.step (State.ejOff_touches ..) rfl h3
    · exact h3
  · exact Touches.refl _ _

theorem State.afresh_touches (s : State) : Touches 0x9fffffe7 s s.afresh :=
  ⟨fun _ => rfl, fun _ => rfl, fun _ => rfl, fun h => by
      simp only [State.shaped, Bool.and_eq_true] at h ⊢
      exact ⟨⟨⟨⟨⟨⟨⟨⟨rfl, rfl⟩, rfl⟩, rfl⟩, rfl⟩, rfl⟩, h.1.1.2⟩, rfl⟩, rfl⟩,
    ⟨List.suffix_refl _, Nat.le_refl _, Nat.le_refl _, rfl⟩,
    fun p hp => (by cases p <;> first | rfl | exact absurd hp (by decide)),
    fun _ _ e => absurd Grp.any (e 0 (by decide))⟩

theorem State.flashRegs_touches (s : State) : Touches 0x400000000000000000000000000000000000000000000000000000000000000000000000000000000000001800040000000000000000000000000001 s (State.flashRegs s) := by
  unfold State.flashRegs
  extract_lets -merge +onlyGivenNames x1
  have h2 : Touches 0x400000000000000000000000000000000000000000000000000000000000000000000000000000000000001800040000000000000000000000000001 s x1 := by
    unfold x1
    refine Touches.trans ?_ (State.setB_touches _ _ _ rfl 447 rfl grp_MBX_RUNSET_STATUS)
    exact Touches.step (State.keyRegs_touches ..) rfl (Touches.step (State.slotRegs_touches ..) rfl (Touches.refl _ _))
  clear_value x1
  exact Touches.trans h2 (State.setF_touches _ _ _ rfl 83 rfl grp_BOOT_FMAP_STATUS)

theorem State.inHold_touches (s : State) : Touches 0x34000000000000000000000000000000000000000000000bfffffe7 s (State.inHold s) := by
  unfold State.inHold
  extract_lets -merge +onlyGivenNames x1
  have h2 : Touches 0x34000000000000000000000000000000000000000000000bfffffe7 s x1 := by unfold x1; exact Touches.step (State.outputsOff_touches ..) rfl (Touches.refl _ _)
  clear_value x1
  extract_lets -merge +onlyGivenNames x3
  have h4 : Touches 0x34000000000000000000000000000000000000000000000bfffffe7 s x3 := by unfold x3; exact Touches.step (State.afresh_touches ..) rfl h2
  clear_value x3
  exact Touches.setPwr h4 rfl

theorem State.stageEnter_touches (s : State) (k : Nat) : Touches 0x100000000000000000000000201 s (State.stageEnter s k) := by
  unfold State.stageEnter
  extract_lets -merge +onlyGivenNames x1
  have h2 : Touches 0x100000000000000000000000201 s x1 := by unfold x1; exact State.setF_touches _ _ _ rfl 73 rfl grp_SYS_BOOT_STATUS
  clear_value x1
  exact Touches.setBoot h2 rfl

theorem State.tripTell_touches (s : State) : Touches 0x8070000000040800000000000000000000000000000000000000000000000000000000000000000000000000000000000000000000100000000800000000022000251 s (State.tripTell s) := by
  unfold State.tripTell
  refine Touches.ite ?_ ?_
  · refine Touches.step (State.bootReport_touches ..) rfl ?_
    exact Touches.trans (Touches.setPwr (Touches.refl _ _) rfl) (State.setF_touches _ _ _ rfl 40 rfl grp_PWR_MOD_STATUS)
  · exact Touches.refl _ _

theorem State.coldStart_touches (s : State) (fresh : Bool) : Touches 0x8070000000040c000000000000000000000000000000000000000000000000000000000000000034000000000000000000018008401000000008000000000bffffff7 s (State.coldStart s fresh) := by
  unfold State.coldStart
  extract_lets -merge +onlyGivenNames x1
  clear_value x1
  extract_lets -merge +onlyGivenNames x2
  extract_lets -merge +onlyGivenNames x3
  have h4 : Touches 0x8070000000040c000000000000000000000000000000000000000000000000000000000000000034000000000000000000018008401000000008000000000bffffff7 s x3 := by unfold x3; exact Touches.step (State.afresh_touches ..) rfl (Touches.step (State.outputsOff_touches ..) rfl (Touches.refl _ _))
  clear_value x3
  clear_value x2
  extract_lets -merge +onlyGivenNames x5
  clear_value x5
  extract_lets -merge +onlyGivenNames x6
  have h7 : Touches 0x8070000000040c000000000000000000000000000000000000000000000000000000000000000034000000000000000000018008401000000008000000000bffffff7 s x6 := by
    unfold x6
    exact Touches.upd h4 rfl rfl rfl rfl rfl rfl rfl
      (by intro p hp; cases p <;> first | rfl | exact absurd hp (by decide))
  clear_value x6
  extract_lets -merge +onlyGivenNames x8
  have h9 : Touches 0x8070000000040c000000000000000000000000000000000000000000000000000000000000000034000000000000000000018008401000000008000000000bffffff7 s x8 := by
    unfold x8
    refine Touches.trans ?_ (State.setF_touches _ _ _ rfl 88 rfl grp_BOOT_RESTARTS)
    exact Touches.step (State.flashRegs_touches ..) rfl h7
  clear_value x8
  exact Touches.step (State.tripTell_touches ..) rfl (Touches.step (State.stageEnter_touches ..) rfl h9)

theorem State.warmBase_touches (s : State) : Touches 0x34000000000000000000000000000000000000000000000bfffffe7 s s.warmBase :=
  ⟨fun h => Sparse.sorted_filter _ _ h, fun h => h, fun h => h,
    fun h => by
      have k := (State.afresh_touches _).shape ((State.outputsOff_touches s).shape h)
      simp only [State.shaped, Bool.and_eq_true] at k ⊢
      exact ⟨⟨⟨⟨k.1.1.1.1, rfl⟩, k.1.1.2⟩, k.1.2⟩, k.2⟩,
    ⟨(State.outputsOff_touches s).hist.out, (State.outputsOff_touches s).hist.now, (State.outputsOff_touches s).hist.free,
      (State.outputsOff_touches s).hist.pending⟩,
    fun p hp => (by cases p <;> first | exact absurd hp (by decide) | exact (State.outputsOff_touches s).same .now (by decide) | exact (State.outputsOff_touches s).same .free (by decide) | exact (State.outputsOff_touches s).same .pending (by decide)),
    fun _ _ e => absurd Grp.any (e 0 (by decide))⟩

theorem State.warmStart_touches (s : State) : Touches 0x140000000004000000000000000000000000000100000000000000000000040000000000000034000000000000000000018000401004020100000000000bfffffe7 s (State.warmStart s) := by
  unfold State.warmStart
  extract_lets -merge +onlyGivenNames x1
  have h2 : Touches 0x140000000004000000000000000000000000000100000000000000000000040000000000000034000000000000000000018000401004020100000000000bfffffe7 s x1 := by unfold x1; exact Touches.step (State.warmBase_touches ..) rfl (Touches.refl _ _)
  clear_value x1
  extract_lets -merge +onlyGivenNames x3
  have h4 : Touches 0x140000000004000000000000000000000000000100000000000000000000040000000000000034000000000000000000018000401004020100000000000bfffffe7 s x3 := by
    unfold x3
    refine Touches.trans ?_ (State.wr_touches _ _ _ rfl 54 rfl grp_CLK_STATUS)
    refine Touches.trans ?_ (State.setB_touches _ _ _ rfl 63 rfl grp_PWR_MODE_STATUS)
    exact Touches.trans h2 (State.setF_touches _ _ _ rfl 63 rfl grp_PWR_MODE_STATUS)
  clear_value x3
  extract_lets -merge +onlyGivenNames x5
  have h6 : Touches 0x140000000004000000000000000000000000000100000000000000000000040000000000000034000000000000000000018000401004020100000000000bfffffe7 s x5 := by
    unfold x5
    refine Touches.trans ?_ (State.setB_touches _ _ _ rfl 45 rfl grp_PWR_RELAY)
    exact Touches.trans h4 (State.setB_touches _ _ _ rfl 45 rfl grp_PWR_RELAY)
  clear_value x5
  extract_lets -merge +onlyGivenNames x7
  have h8 : Touches 0x140000000004000000000000000000000000000100000000000000000000040000000000000034000000000000000000018000401004020100000000000bfffffe7 s x7 := by
    unfold x7
    refine Touches.trans ?_ (State.setB_touches _ _ _ rfl 487 rfl grp_JRN_CTRL)
    exact Touches.trans h6 (State.setB_touches _ _ _ rfl 489 rfl grp_JRN_STATUS)
  clear_value x7
  extract_lets -merge +onlyGivenNames x9
  have h10 : Touches 0x140000000004000000000000000000000000000100000000000000000000040000000000000034000000000000000000018000401004020100000000000bfffffe7 s x9 := by
    unfold x9
    refine Touches.trans ?_ (State.setB_touches _ _ _ rfl 73 rfl grp_SYS_BOOT_STATUS)
    exact Touches.trans h8 (State.setB_touches _ _ _ rfl 333 rfl grp_SCHED_STATUS)
  clear_value x9
  extract_lets -merge +onlyGivenNames x11
  have h12 : Touches 0x140000000004000000000000000000000000000100000000000000000000040000000000000034000000000000000000018000401004020100000000000bfffffe7 s x11 := by
    unfold x11
    refine Touches.ite ?_ ?_
    · exact Touches.step (State.deferEnd_touches ..) rfl h10
    · exact h10
  clear_value x11
  extract_lets -merge +onlyGivenNames x13
  have h17 : Touches 0x140000000004000000000000000000000000000100000000000000000000040000000000000034000000000000000000018000401004020100000000000bfffffe7 s x13 := by
    unfold x13
    refine Touches.foldl (fun t14 y15 h16 => ?_) ?_
    · refine Touches.ite ?_ ?_
      · exact Touches.trans h16 (State.setB_touches _ _ _ rfl 247 rfl (grp_LANE_STATUS _))
      · exact h16
    · exact h12
  clear_value x13
  extract_lets -merge +onlyGivenNames x18
  clear_value x18
  extract_lets -merge +onlyGivenNames x19
  have h20 : Touches 0x140000000004000000000000000000000000000100000000000000000000040000000000000034000000000000000000018000401004020100000000000bfffffe7 s x19 := by unfold x19; exact Touches.setPwr h17 rfl
  clear_value x19
  exact Touches.step (State.stageEnter_touches ..) rfl (Touches.step (State.flashRegs_touches ..) rfl h20)

theorem State.pulsesCut_touches (s : State) (all : Bool) : Touches 0x807000000004080000000000000000000000000000000000000000000000000000000000000a07f400000000000000000000000000000004000080000000022080211 s (State.pulsesCut s all) := by
  unfold State.pulsesCut
  refine Touches.foldl (fun t1 y2 h3 => ?_) ?_
  · refine Touches.ite ?_ ?_
    · exact Touches.step (State.ejCut_touches ..) rfl h3
    · exact h3
  · exact Touches.refl _ _

theorem State.memLost_touches (s : State) : Touches 0x802 s s.memLost :=
  ⟨id, fun _ => rfl, fun _ => rfl, id, ⟨List.suffix_refl _, Nat.le_refl _, Nat.le_refl _, rfl⟩,
    fun p hp => (by cases p <;> first | rfl | exact absurd hp (by decide)), fun _ _ _ => rfl⟩

theorem State.shedAll_touches (s : State) : Touches 0x807224065824080000400000000400000000000000000000000000000000080400000000000000000000000000000000000008000000040204000000000003b200bf7 s (State.shedAll s) := by
  unfold State.shedAll
  extract_lets -merge +onlyGivenNames x1
  have h2 : Touches 0x807224065824080000400000000400000000000000000000000000000000080400000000000000000000000000000000000008000000040204000000000003b200bf7 s x1 := by
    unfold x1
    refine Touches.step (State.portsLost_touches ..) rfl ?_
    exact Touches.step (State.annDrop_touches ..) rfl (Touches.step (State.lanesFloor_touches ..) rfl (Touches.refl _ _))
  clear_value x1
  extract_lets -merge +onlyGivenNames x3
  have h4 : Touches 0x807224065824080000400000000400000000000000000000000000000000080400000000000000000000000000000000000008000000040204000000000003b200bf7 s x3 := by
    unfold x3
    refine Touches.trans ?_ (State.wr_touches _ _ _ rfl 54 rfl grp_CLK_STATUS)
    exact Touches.trans h2 (State.setF_touches _ _ _ rfl 47 rfl grp_PWR_POCXP_STS)
  clear_value x3
  extract_lets -merge +onlyGivenNames x5
  have h6 : Touches 0x807224065824080000400000000400000000000000000000000000000000080400000000000000000000000000000000000008000000040204000000000003b200bf7 s x5 := by
    unfold x5
    refine Touches.trans ?_ (State.setF_touches _ _ _ rfl 427 rfl grp_MBX_LINK)
    refine Touches.trans ?_ (State.setF_touches _ _ _ rfl 427 rfl grp_MBX_LINK)
    exact Touches.trans h4 (State.setF_touches _ _ _ rfl 427 rfl grp_MBX_LINK)
  clear_value x5
  extract_lets -merge +onlyGivenNames x7
  have h8 : Touches 0x807224065824080000400000000400000000000000000000000000000000080400000000000000000000000000000000000008000000040204000000000003b200bf7 s x7 := by
    unfold x7
    refine Touches.trans ?_ (State.setB_touches _ _ _ rfl 63 rfl grp_PWR_MODE_STATUS)
    exact Touches.trans h6 (State.setF_touches _ _ _ rfl 63 rfl grp_PWR_MODE_STATUS)
  clear_value x7
  extract_lets -merge +onlyGivenNames x9
  extract_lets -merge +onlyGivenNames x10
  have h11 : Touches 0x807224065824080000400000000400000000000000000000000000000000080400000000000000000000000000000000000008000000040204000000000003b200bf7 s x10 := by
    unfold x10
    refine Touches.ite ?_ ?_
    · exact h8
    · refine Touches.step (State.imgBusy_touches ..) rfl ?_
      exact Touches.step (State.imgState_touches ..) rfl (Touches.setImg h8 rfl)
  clear_value x10
  clear_value x9
  refine Touches.step (State.memLost_touches ..) rfl ?_
  exact Touches.upd h11 rfl rfl rfl rfl rfl rfl rfl
    (by intro p hp; cases p <;> first | rfl | exact absurd hp (by decide))

theorem State.lossActed_touches (s : State) (cause : Nat) (pages : List PageFact) : Touches 0x2297f224065824080000400000000400000000000000000000000000000000080400080000000a07f40000000000000000000008000000040684188000000003b280bf7 s (State.lossActed s cause pages) := by
  unfold State.lossActed
  extract_lets -merge +onlyGivenNames x1
  clear_value x1
  extract_lets -merge +onlyGivenNames x2
  have h3 : Touches 0x2297f224065824080000400000000400000000000000000000000000000000080400080000000a07f40000000000000000000008000000040684188000000003b280bf7 s x2 := by
    unfold x2
    refine Touches.step (State.relaysFall_touches ..) rfl ?_
    exact Touches.step (State.lineStop_touches ..) rfl (Touches.setPwr (Touches.refl _ _) rfl)
  clear_value x2
  extract_lets -merge +onlyGivenNames x4
  have h5 : Touches 0x2297f224065824080000400000000400000000000000000000000000000000080400080000000a07f40000000000000000000008000000040684188000000003b280bf7 s x4 := by unfold x4; exact Touches.step (State.pulsesCut_touches ..) rfl h3
  clear_value x4
  extract_lets -merge +onlyGivenNames x6
  have h7 : Touches 0x2297f224065824080000400000000400000000000000000000000000000000080400080000000a07f40000000000000000000008000000040684188000000003b280bf7 s x6 := by
    unfold x6
    refine Touches.ite ?_ ?_
    · exact Touches.trans h5 (State.report_touches _ _ _ _ _ rfl 40 rfl grp_PWR_MOD_STATUS)
    · refine Touches.trans ?_ (State.report_touches _ _ _ _ _ rfl 40 rfl grp_PWR_MOD_STATUS)
      exact Touches.step (State.total_touches ..) rfl h5
  clear_value x6
  exact Touches.step (State.holdupSet_touches ..) rfl (Touches.step (State.shedAll_touches ..) rfl h7)

theorem State.vinLost_touches (s : State) (cause : Nat) (pages : List PageFact) : Touches 0x2297f224065824080000400000000400000000000000000000000000000000080400080000000a07f40000000000000000000008000000040684188000000003b280bf7 s (State.vinLost s cause pages) := by
  unfold State.vinLost
  refine Touches.ite ?_ ?_
  · exact Touches.refl _ _
  · refine Touches.ite ?_ ?_
    · exact Touches.setPwr (Touches.refl _ _) rfl
    · refine Touches.ite ?_ ?_
      · exact Touches.setPwr (Touches.refl _ _) rfl
      · exact Touches.step (State.lossActed_touches ..) rfl (Touches.refl _ _)

theorem State.tripHold_touches (s : State) : Touches 0x34000000000000000000000000000000000000000000000bfffffe7 s (State.tripHold s) := by
  unfold State.tripHold
  refine Touches.ite ?_ ?_
  · exact Touches.step (State.inHold_touches ..) rfl (Touches.refl _ _)
  · exact Touches.refl _ _

theorem State.thermalTrip_touches (s : State) (pages : List PageFact) : Touches 0x2297f224065824080000400000000400000000000000000000000000000000080400080000000a07f4000000000000000000000800000004068418800000000bffffff7 s (State.thermalTrip s pages) := by
  unfold State.thermalTrip
  refine Touches.ite ?_ ?_
  · exact Touches.refl _ _
  · refine Touches.step (State.tripHold_touches ..) rfl ?_
    extract_lets -merge +onlyGivenNames x1
    have h2 : Touches 0x2297f224065824080000400000000400000000000000000000000000000000080400080000000a07f4000000000000000000000800000004068418800000000bffffff7 s x1 := by unfold x1; exact Touches.step (State.lossActed_touches ..) rfl (Touches.refl _ _)
    clear_value x1
    exact Touches.setPwr h2 rfl

theorem State.powerOn_touches (s : State) : Touches 0x8070000000040c000000000000000000000000000000000000000000000000000000000000000034000000000000000000018008401000000008000000000bffffff7 s (State.powerOn s) := by
  unfold State.powerOn
  refine Touches.ite ?_ ?_
  · exact Touches.refl _ _
  · extract_lets -merge +onlyGivenNames x1
    clear_value x1
    extract_lets -merge +onlyGivenNames x2
    have h3 : Touches 0x8070000000040c000000000000000000000000000000000000000000000000000000000000000034000000000000000000018008401000000008000000000bffffff7 s x2 := by unfold x2; exact Touches.setPwr (Touches.refl _ _) rfl
    clear_value x2
    refine Touches.ite ?_ ?_
    · extract_lets -merge +onlyGivenNames x4
      have h5 : Touches 0x8070000000040c000000000000000000000000000000000000000000000000000000000000000034000000000000000000018008401000000008000000000bffffff7 s x4 := by unfold x4; exact Touches.step (State.inHold_touches ..) rfl h3
      clear_value x4
      exact Touches.setPwr h5 rfl
    · exact Touches.step (State.coldStart_touches ..) rfl h3

theorem State.bankEmpty_touches (s : State) : Touches 0x34000000000000000000000000000000000000000000000bfffffe7 s (State.bankEmpty s) := by
  unfold State.bankEmpty
  refine Touches.ite ?_ ?_
  · exact Touches.refl _ _
  · extract_lets -merge +onlyGivenNames x1
    have h2 : Touches 0x34000000000000000000000000000000000000000000000bfffffe7 s x1 := by unfold x1; exact Touches.step (State.inHold_touches ..) rfl (Touches.refl _ _)
    clear_value x1
    exact Touches.setPwr h2 rfl

theorem State.nrstAssert_touches (s : State) : Touches 0x34000000000000000000000000000000000000000000000bfffffe7 s (State.nrstAssert s) := by
  unfold State.nrstAssert
  extract_lets -merge +onlyGivenNames x1
  clear_value x1
  extract_lets -merge +onlyGivenNames x2
  have h3 : Touches 0x34000000000000000000000000000000000000000000000bfffffe7 s x2 := by unfold x2; exact Touches.setPwr (Touches.refl _ _) rfl
  clear_value x2
  refine Touches.ite ?_ ?_
  · exact h3
  · extract_lets -merge +onlyGivenNames x4
    have h5 : Touches 0x34000000000000000000000000000000000000000000000bfffffe7 s x4 := by unfold x4; exact Touches.step (State.inHold_touches ..) rfl h3
    clear_value x4
    exact Touches.setPwr h5 rfl

theorem State.nrstRelease_touches (s : State) : Touches 0x8070000000040c000000000000000000000000000000000000000000000000000000000000000034000000000000000000018008401000000008000000000bffffff7 s (State.nrstRelease s) := by
  unfold State.nrstRelease
  refine Touches.ite ?_ ?_
  · exact Touches.refl _ _
  · extract_lets -merge +onlyGivenNames x1
    clear_value x1
    extract_lets -merge +onlyGivenNames x2
    have h3 : Touches 0x8070000000040c000000000000000000000000000000000000000000000000000000000000000034000000000000000000018008401000000008000000000bffffff7 s x2 := by unfold x2; exact Touches.setPwr (Touches.refl _ _) rfl
    clear_value x2
    refine Touches.ite ?_ ?_
    · exact Touches.step (State.coldStart_touches ..) rfl h3
    · exact h3

theorem State.internalReset_touches (s : State) (pages : List PageFact) : Touches 0x297f0000000040c000000000000000000000000000000000000000000000000000000000000000034000000000000000000018008401000000018000000000bffffff7 s (State.internalReset s pages) := by
  unfold State.internalReset
  extract_lets -merge +onlyGivenNames x1
  clear_value x1
  extract_lets -merge +onlyGivenNames x2
  extract_lets -merge +onlyGivenNames x3
  have h4 : Touches 0x297f0000000040c000000000000000000000000000000000000000000000000000000000000000034000000000000000000018008401000000018000000000bffffff7 s x3.1 := by unfold x3; exact Touches.step (State.programSeq_touches ..) rfl (Touches.refl _ _)
  clear_value x3
  clear_value x2
  extract_lets -merge +onlyGivenNames x5
  have h6 : Touches 0x297f0000000040c000000000000000000000000000000000000000000000000000000000000000034000000000000000000018008401000000018000000000bffffff7 s x5.2 := by unfold x5; exact Touches.step (State.endRec_touches ..) rfl h4
  clear_value x5
  extract_lets -merge +onlyGivenNames x7
  have h8 : Touches 0x297f0000000040c000000000000000000000000000000000000000000000000000000000000000034000000000000000000018008401000000018000000000bffffff7 s x7 := by
    unfold x7
    refine Touches.ite ?_ ?_
    · exact Touches.refl _ _
    · split
      · refine Touches.ite ?_ ?_
        · refine Touches.step (State.putPage_touches ..) rfl ?_
          exact Touches.trans h6 (State.setF_touches _ _ _ rfl 41 rfl grp_PWR_HOLDUP)
        · exact h4
      · exact h4
  clear_value x7
  exact Touches.step (State.coldStart_touches ..) rfl h8

end Sys2Proof.Machine
end

