-- ==== Sys2Proof/Laws/FramePowerExec.lean ====
section
/-! SUPPORT. What each operation of Machine/PowerExec.lean can do: the parts of the state it touches (Touches). -/

-- One declaration at a time: many proofs at once would each hold a thread with a large stack.
set_option Elab.async false

namespace Sys2Proof.Machine

theorem State.clocksSet_touches (s : State) (run : Nat) (lock : Nat) : Touches 0x8070000000040800000000000000000000000000000000000000000000000000000000000000000000000000000000000000000000000002000000000000022080211 s (State.clocksSet s run lock) := by
  unfold State.clocksSet
  extract_lets -merge +onlyGivenNames x1
  have h2 : Touches 0x8070000000040800000000000000000000000000000000000000000000000000000000000000000000000000000000000000000000000002000000000000022080211 s x1 := by
    unfold x1
    refine Touches.trans ?_ (State.setF_touches _ _ _ rfl 54 rfl grp_CLK_STATUS)
    exact State.setF_touches _ _ _ rfl 54 rfl grp_CLK_STATUS
  clear_value x1
  refine Touches.ite ?_ ?_
  · exact Touches.step (State.xingDrain_touches ..) rfl h2
  · exact h2

theorem State.clocksAll_touches (s : State) : Touches 0x8070000000040800000000000000000000000000000000000000000000000000000000000000000000000000000000000000000000000022000000000000022080211 s (State.clocksAll s) := by
  unfold State.clocksAll
  exact Touches.step (State.coreClock_touches ..) rfl (Touches.step (State.clocksSet_touches ..) rfl (Touches.refl _ _))

theorem State.modeReport_touches (s : State) (sts : Nat) (detail : Nat) : Touches 0x8070000000040800000000000000000000000000000000000000000000000000000000000000000000000000000000000000000000000400000000000000022000211 s (State.modeReport s sts detail) := by
  unfold State.modeReport
  exact State.report_touches _ _ _ _ _ rfl 63 rfl grp_PWR_MODE_STATUS

theorem State.modeResult_touches (s : State) (r : Nat) : Touches 0x40800000000000000000000000000000000000000000000000000000000000000000000000000000000000000000000000400000000000000020000001 s (State.modeResult s r) := by
  unfold State.modeResult
  exact Touches.step (State.pend_touches ..) rfl (State.setF_touches _ _ _ rfl 63 rfl grp_PWR_MODE_STATUS)

theorem State.modeRefuse_touches (s : State) (detail : Nat) : Touches 0x8070000000040800000000000000000000000000000000000000000000000000000000000000000000000000000000000000000000000400000000000000022000211 s (State.modeRefuse s detail) := by
  unfold State.modeRefuse
  refine Touches.step (State.modeReport_touches ..) rfl ?_
  exact Touches.step (State.modeResult_touches ..) rfl (Touches.refl _ _)

theorem State.wakeArm_touches (s : State) : Touches 0x80 s (State.wakeArm s) := by
  unfold State.wakeArm
  extract_lets -merge +onlyGivenNames x1
  clear_value x1
  extract_lets -merge +onlyGivenNames x2
  extract_lets -merge +onlyGivenNames x3
  clear_value x3
  extract_lets -merge +onlyGivenNames x4
  have h5 : Touches 0x80 s x4 := by
    unfold x4
    refine Touches.ite ?_ ?_
    · exact Touches.setMode (Touches.refl _ _) rfl
    · exact Touches.refl _ _
  clear_value x4
  clear_value x2
  exact Touches.setMode h5 rfl

theorem State.modeBegin_touches (s : State) : Touches 0x400800000000000000000000000000000000000000000000000000000000000000000000000000000000000400000000000000000000001 s (State.modeBegin s) := by
  unfold State.modeBegin
  refine Touches.trans ?_ (State.timing_touches _ _ _ rfl 400 rfl grp_SYS_REPRO_STATUS 411 rfl (Grp.some grp_MESH_TW_FLAGS))
  exact State.setB_touches _ _ _ rfl 63 rfl grp_PWR_MODE_STATUS

theorem State.modeEnter_touches (s : State) (target : Nat) : Touches 0x8070000000040800000000400800000000000000010000000000000000000804000000000000000000000000000000000000000000000402000000000000022280291 s (State.modeEnter s target) := by
  unfold State.modeEnter
  extract_lets -merge +onlyGivenNames x1
  clear_value x1
  refine Touches.ite ?_ ?_
  · refine Touches.step (State.modeRefuse_touches ..) rfl ?_
    refine Touches.trans ?_ (State.setF_touches _ _ _ rfl 63 rfl grp_PWR_MODE_STATUS)
    exact State.setB_touches _ _ _ rfl 63 rfl grp_PWR_MODE_STATUS
  · extract_lets -merge +onlyGivenNames x2
    have h3 : Touches 0x8070000000040800000000400800000000000000010000000000000000000804000000000000000000000000000000000000000000000402000000000000022280291 s x2 := by unfold x2; exact Touches.step (State.wakeArm_touches ..) rfl (Touches.step (State.modeBegin_touches ..) rfl (Touches.refl _ _))
    clear_value x2
    extract_lets -merge +onlyGivenNames x4
    clear_value x4
    extract_lets -merge +onlyGivenNames x5
    have h6 : Touches 0x8070000000040800000000400800000000000000010000000000000000000804000000000000000000000000000000000000000000000402000000000000022280291 s x5 := by unfold x5; exact Touches.setMode h3 rfl
    clear_value x5
    extract_lets -merge +onlyGivenNames x7
    have h8 : Touches 0x8070000000040800000000400800000000000000010000000000000000000804000000000000000000000000000000000000000000000402000000000000022280291 s x7 := by unfold x7; exact Touches.trans h6 (State.setB_touches _ _ _ rfl 333 rfl grp_SCHED_STATUS)
    clear_value x7
    extract_lets -merge +onlyGivenNames x9
    have h10 : Touches 0x8070000000040800000000400800000000000000010000000000000000000804000000000000000000000000000000000000000000000402000000000000022280291 s x9 := by
      unfold x9
      refine Touches.ite ?_ ?_
      · exact Touches.step (State.lanesFloor_touches ..) rfl h8
      · exact h8
    clear_value x9
    refine Touches.trans ?_ (State.setF_touches _ _ _ rfl 63 rfl grp_PWR_MODE_STATUS)
    exact Touches.step (State.clocksSet_touches ..) rfl h10

theorem State.exitStart_touches (s : State) (driver : Bool) (second : Option Nat) : Touches 0x400800000000000000000000000000000000000000000000000000000000000000000000000000000000000400000000000000000000081 s (State.exitStart s driver second) := by
  unfold State.exitStart
  extract_lets -merge +onlyGivenNames x1
  have h2 : Touches 0x400800000000000000000000000000000000000000000000000000000000000000000000000000000000000400000000000000000000081 s x1 := by unfold x1; exact Touches.step (State.modeBegin_touches ..) rfl (Touches.refl _ _)
  clear_value x1
  exact Touches.setMode h2 rfl

theorem State.writeModeReq_touches (s : State) (v : Nat) : Touches 0x8070000000040800000000400800000000000000010000000000000000000804000000000000000000000000000000000000000000000602000000000000022280291 s (State.writeModeReq s v) := by
  unfold State.writeModeReq
  extract_lets -merge +onlyGivenNames x1
  clear_value x1
  extract_lets -merge +onlyGivenNames x2
  have h3 : Touches 0x8070000000040800000000400800000000000000010000000000000000000804000000000000000000000000000000000000000000000602000000000000022280291 s x2 := by unfold x2; exact State.setF_touches _ _ _ rfl 62 rfl grp_PWR_MODE_REQ
  clear_value x2
  refine Touches.ite ?_ ?_
  · exact h3
  · refine Touches.ite ?_ ?_
    · exact Touches.step (State.modeRefuse_touches ..) rfl h3
    · refine Touches.ite ?_ ?_
      · exact Touches.step (State.modeRefuse_touches ..) rfl h3
      · refine Touches.ite ?_ ?_
        · exact Touches.step (State.modeResult_touches ..) rfl h3
        · refine Touches.ite ?_ ?_
          · exact Touches.step (State.modeEnter_touches ..) rfl h3
          · exact Touches.step (State.exitStart_touches ..) rfl h3

theorem State.meshDrained_touches (s : State) : Touches 0x8070000000040800000000000000000000000000000000000000000000000000000000000000000000000000000000000000000000000402000000000000022080291 s (State.meshDrained s) := by
  unfold State.meshDrained
  refine Touches.ite ?_ ?_
  · extract_lets -merge +onlyGivenNames x1
    have h2 : Touches 0x8070000000040800000000000000000000000000000000000000000000000000000000000000000000000000000000000000000000000402000000000000022080291 s x1 := by
      unfold x1
      refine Touches.trans ?_ (State.setF_touches _ _ _ rfl 63 rfl grp_PWR_MODE_STATUS)
      exact Touches.step (State.clocksSet_touches ..) rfl (Touches.refl _ _)
    clear_value x1
    exact Touches.setMode h2 rfl
  · exact Touches.refl _ _

theorem State.modeUndo_touches (s : State) : Touches 0x80700000000408000000002080000000000006f95950000000000000000008040000000000000000000000000000000000000000000004220000000000000222e0295 s (State.modeUndo s) := by
  unfold State.modeUndo
  extract_lets -merge +onlyGivenNames x1
  clear_value x1
  extract_lets -merge +onlyGivenNames x2
  have h3 : Touches 0x80700000000408000000002080000000000006f95950000000000000000008040000000000000000000000000000000000000000000004220000000000000222e0295 s x2 := by unfold x2; exact Touches.step (State.clocksAll_touches ..) rfl (Touches.refl _ _)
  clear_value x2
  extract_lets -merge +onlyGivenNames x4
  have h5 : Touches 0x80700000000408000000002080000000000006f95950000000000000000008040000000000000000000000000000000000000000000004220000000000000222e0295 s x4 := by unfold x4; exact Touches.step (State.lanesBack_touches ..) rfl h3
  clear_value x4
  extract_lets -merge +onlyGivenNames x6
  clear_value x6
  extract_lets -merge +onlyGivenNames x7
  have h8 : Touches 0x80700000000408000000002080000000000006f95950000000000000000008040000000000000000000000000000000000000000000004220000000000000222e0295 s x7 := by unfold x7; exact Touches.setMode h5 rfl
  clear_value x7
  refine Touches.step (State.admitOpen_touches ..) rfl ?_
  exact Touches.trans h8 (State.setB_touches _ _ _ rfl 63 rfl grp_PWR_MODE_STATUS)

theorem State.modeRollback_touches (s : State) (sts : Nat) (detail : Nat) : Touches 0x80700000000408000000002080000000000006f95950000000000000000008040000000000000000000000000000000000000000000104220000000000000222e0295 s (State.modeRollback s sts detail) := by
  unfold State.modeRollback
  refine Touches.step (State.modeReport_touches ..) rfl ?_
  refine Touches.trans ?_ (State.inc_touches _ _ _ rfl 69 rfl grp_PWR_ROLLBACKS)
  exact Touches.step (State.modeResult_touches ..) rfl (Touches.step (State.modeUndo_touches ..) rfl (Touches.refl _ _))

theorem State.modeCommit_touches (s : State) : Touches 0x80700000000408000000002080000000000006f95950000000000000000008040000000000400000000000000000000000000000000104220000000000000222e02b5 s (State.modeCommit s) := by
  unfold State.modeCommit
  refine Touches.ite ?_ ?_
  · exact Touches.refl _ _
  · refine Touches.ite ?_ ?_
    · exact Touches.step (State.modeRollback_touches ..) rfl (Touches.refl _ _)
    · refine Touches.ite ?_ ?_
      · exact Touches.step (State.modeRollback_touches ..) rfl (Touches.refl _ _)
      · extract_lets -merge +onlyGivenNames x1
        extract_lets -merge +onlyGivenNames x2
        have h3 : Touches 0x80700000000408000000002080000000000006f95950000000000000000008040000000000400000000000000000000000000000000104220000000000000222e02b5 s x2 := by unfold x2; exact State.setF_touches _ _ _ rfl 63 rfl grp_PWR_MODE_STATUS
        extract_lets -merge +onlyGivenNames x4
        clear_value x4
        extract_lets -merge +onlyGivenNames x5
        have h6 : Touches 0x80700000000408000000002080000000000006f95950000000000000000008040000000000400000000000000000000000000000000104220000000000000222e02b5 s x5 := by unfold x5; exact Touches.setMode h3 rfl
        extract_lets -merge +onlyGivenNames x7
        have h8 : Touches 0x80700000000408000000002080000000000006f95950000000000000000008040000000000400000000000000000000000000000000104220000000000000222e02b5 s x7 := by unfold x7; exact Touches.trans h6 (State.setF_touches _ _ _ rfl 203 rfl grp_PTP_STATUS)
        clear_value x7
        extract_lets -merge +onlyGivenNames x9
        extract_lets -merge +onlyGivenNames x10
        have h11 : Touches 0x80700000000408000000002080000000000006f95950000000000000000008040000000000400000000000000000000000000000000104220000000000000222e02b5 s x10 := by
          unfold x10
          refine Touches.ite ?_ ?_
          · exact Touches.setTime h8 rfl
          · exact h6
        clear_value x10
        clear_value x9
        refine Touches.step (State.modeResult_touches ..) rfl ?_
        exact Touches.trans h11 (State.setB_touches _ _ _ rfl 63 rfl grp_PWR_MODE_STATUS)

theorem State.modeBack_touches (s : State) (failedStep : Option Nat) : Touches 0x80700000000408000000002080000000000006f95950000000000000000008040000000000000000000000000000000000000000000104220000000000000222e0295 s (State.modeBack s failedStep) := by
  unfold State.modeBack
  refine Touches.ite ?_ ?_
  · exact Touches.refl _ _
  · refine Touches.ite ?_ ?_
    · exact Touches.step (State.modeRollback_touches ..) rfl (Touches.refl _ _)
    · split
      · split
        rename_i x1 x2 x3 e4
        have h5 : Touches 0x80700000000408000000002080000000000006f95950000000000000000008040000000000000000000000000000000000000000000104220000000000000222e0295 s x3 := Touches.of_eq (fun d => d.2) e4 (Touches.step (State.fresh_touches ..) rfl (Touches.refl _ _))
        refine Touches.step (State.modeRollback_touches ..) rfl ?_
        exact Touches.trans h5 (State.setF_touches _ _ _ rfl 63 rfl grp_PWR_MODE_STATUS)
      · exact Touches.refl _ _

theorem State.exitFail_touches (s : State) : Touches 0x80700000000408000000000000000000000000000000000000000000000000000000000000000000000000000000000000000000000004000000000000000220002d1 s (State.exitFail s) := by
  unfold State.exitFail
  extract_lets -merge +onlyGivenNames x1
  have h2 : Touches 0x80700000000408000000000000000000000000000000000000000000000000000000000000000000000000000000000000000000000004000000000000000220002d1 s x1 := by unfold x1; exact Touches.step (State.modeReport_touches ..) rfl (Touches.refl _ _)
  clear_value x1
  extract_lets -merge +onlyGivenNames x3
  clear_value x3
  extract_lets -merge +onlyGivenNames x4
  have h5 : Touches 0x80700000000408000000000000000000000000000000000000000000000000000000000000000000000000000000000000000000000004000000000000000220002d1 s x4 := by unfold x4; exact Touches.setPwr h2 rfl
  clear_value x4
  exact Touches.setMode h5 rfl

theorem State.exitDone_touches (s : State) : Touches 0x80700000000408000000006088000000000006f95950000000000000000008040000000000000000000000000000000000000000000204220000000000000222e0295 s (State.exitDone s) := by
  unfold State.exitDone
  extract_lets -merge +onlyGivenNames x1
  clear_value x1
  extract_lets -merge +onlyGivenNames x2
  clear_value x2
  extract_lets -merge +onlyGivenNames x3
  have h4 : Touches 0x80700000000408000000006088000000000006f95950000000000000000008040000000000000000000000000000000000000000000204220000000000000222e0295 s x3 := by unfold x3; exact State.setF_touches _ _ _ rfl 70 rfl grp_PWR_EXIT_US
  clear_value x3
  extract_lets -merge +onlyGivenNames x5
  have h6 : Touches 0x80700000000408000000006088000000000006f95950000000000000000008040000000000000000000000000000000000000000000204220000000000000222e0295 s x5 := by
    unfold x5
    refine Touches.step (State.modeUndo_touches ..) rfl ?_
    exact Touches.trans h4 (State.setF_touches _ _ _ rfl 63 rfl grp_PWR_MODE_STATUS)
  clear_value x5
  split
  · exact Touches.step (State.modeEnter_touches ..) rfl (Touches.setMode h6 rfl)
  · refine Touches.ite ?_ ?_
    · exact Touches.step (State.modeResult_touches ..) rfl (Touches.setMode h6 rfl)
    · exact h6

theorem State.pllFail_touches (s : State) (d : Nat) : Touches 0x80700000000408000000000000000000000000000000000000000000000000000000000000000000000000000000000000000000005004060000000000007220802d1 s (State.pllFail s d) := by
  unfold State.pllFail
  refine Touches.ite ?_ ?_
  · exact Touches.refl _ _
  · refine Touches.ite ?_ ?_
    · extract_lets -merge +onlyGivenNames x1
      clear_value x1
      extract_lets -merge +onlyGivenNames x2
      have h3 : Touches 0x80700000000408000000000000000000000000000000000000000000000000000000000000000000000000000000000000000000005004060000000000007220802d1 s x2 := by unfold x2; exact Touches.setBoot (Touches.refl _ _) rfl
      clear_value x2
      extract_lets -merge +onlyGivenNames x4
      have h5 : Touches 0x80700000000408000000000000000000000000000000000000000000000000000000000000000000000000000000000000000000005004060000000000007220802d1 s x4 := by
        unfold x4
        refine Touches.trans ?_ (State.report_touches _ _ _ _ _ rfl 55 rfl grp_CLK_FAIL)
        exact Touches.trans h3 (State.setF_touches _ _ _ rfl 73 rfl grp_SYS_BOOT_STATUS)
      clear_value x4
      refine Touches.ite ?_ ?_
      · exact h5
      · exact Touches.step (State.fatalEnd_touches ..) rfl h5
    · refine Touches.ite ?_ ?_
      · exact Touches.step (State.exitFail_touches ..) rfl (State.report_touches _ _ _ _ _ rfl 55 rfl grp_CLK_FAIL)
      · refine Touches.ite ?_ ?_
        · extract_lets -merge +onlyGivenNames x6
          clear_value x6
          extract_lets -merge +onlyGivenNames x7
          clear_value x7
          extract_lets -merge +onlyGivenNames x8
          have h9 : Touches 0x80700000000408000000000000000000000000000000000000000000000000000000000000000000000000000000000000000000005004060000000000007220802d1 s x8 := by
            unfold x8
            exact Touches.upd (Touches.refl _ _) rfl rfl rfl rfl rfl rfl rfl
              (by intro p hp; cases p <;> first | rfl | exact absurd hp (by decide))
          clear_value x8
          refine Touches.trans ?_ (State.report_touches _ _ _ _ _ rfl 55 rfl grp_CLK_FAIL)
          exact Touches.step (State.clocksSet_touches ..) rfl h9
        · exact Touches.refl _ _

theorem State.modeAbandon_touches (s : State) : Touches 0x80700000000408000000002080000000000006f95950000000000000000008040000000000000000000000000000000000000000000004220000000000000222e0295 s (State.modeAbandon s) := by
  unfold State.modeAbandon
  refine Touches.ite ?_ ?_
  · exact Touches.refl _ _
  · refine Touches.ite ?_ ?_
    · exact Touches.trans (Touches.setMode (Touches.refl _ _) rfl) (State.setB_touches _ _ _ rfl 63 rfl grp_PWR_MODE_STATUS)
    · exact Touches.step (State.modeUndo_touches ..) rfl (Touches.refl _ _)

theorem State.failSafe_touches (s : State) : Touches 0x40800000000000000000000000000000000000000000000000000000000000000003400000000000000000000000000000000800000000000020080241 s (State.failSafe s) := by
  unfold State.failSafe
  extract_lets -merge +onlyGivenNames x1
  have h2 : Touches 0x40800000000000000000000000000000000000000000000000000000000000000003400000000000000000000000000000000800000000000020080241 s x1 := by unfold x1; exact Touches.step (State.outputsOff_touches ..) rfl (Touches.step (State.lineStop_touches ..) rfl (Touches.refl _ _))
  clear_value x1
  exact Touches.upd h2 rfl rfl rfl rfl rfl rfl rfl
    (by intro p hp; cases p <;> first | rfl | exact absurd hp (by decide))

theorem State.monoStop_touches (s : State) : Touches 0x20 s (State.monoStop s) := by
  unfold State.monoStop
  exact Touches.setTime (Touches.refl _ _) rfl

theorem State.clockFail_touches (s : State) (d : Nat) : Touches 0x3800807000000004080d4140002080000000000006f959500000c0800000000008040000000000000034000000000000000000000000000004268000000000000bffffff7 s (State.clockFail s d) := by
  unfold State.clockFail
  refine Touches.ite ?_ ?_
  · exact Touches.refl _ _
  · extract_lets -merge +onlyGivenNames x1
    have h2 : Touches 0x3800807000000004080d4140002080000000000006f959500000c0800000000008040000000000000034000000000000000000000000000004268000000000000bffffff7 s x1 := by unfold x1; exact State.setF_touches _ _ _ rfl 55 rfl grp_CLK_FAIL
    clear_value x1
    extract_lets -merge +onlyGivenNames x3
    have h4 : Touches 0x3800807000000004080d4140002080000000000006f959500000c0800000000008040000000000000034000000000000000000000000000004268000000000000bffffff7 s x3 := by unfold x3; exact Touches.trans h2 (State.report_touches _ _ _ _ _ rfl 55 rfl grp_CLK_FAIL)
    clear_value x3
    refine Touches.ite ?_ ?_
    · exact Touches.step (State.inHold_touches ..) rfl h4
    · extract_lets -merge +onlyGivenNames x5
      have h6 : Touches 0x3800807000000004080d4140002080000000000006f959500000c0800000000008040000000000000034000000000000000000000000000004268000000000000bffffff7 s x5 := by unfold x5; exact Touches.step (State.modeAbandon_touches ..) rfl h4
      clear_value x5
      extract_lets -merge +onlyGivenNames x7
      clear_value x7
      extract_lets -merge +onlyGivenNames x8
      have h9 : Touches 0x3800807000000004080d4140002080000000000006f959500000c0800000000008040000000000000034000000000000000000000000000004268000000000000bffffff7 s x8 := by unfold x8; exact Touches.setBoot h6 rfl
      clear_value x8
      extract_lets -merge +onlyGivenNames x10
      have h11 : Touches 0x3800807000000004080d4140002080000000000006f959500000c0800000000008040000000000000034000000000000000000000000000004268000000000000bffffff7 s x10 := by unfold x10; exact Touches.step (State.clocksSet_touches ..) rfl h9
      clear_value x10
      refine Touches.ite ?_ ?_
      · exact Touches.step (State.hostReset_touches ..) rfl h11
      · refine Touches.ite ?_ ?_
        · exact Touches.step (State.lanesFloor_touches ..) rfl h11
        · refine Touches.step (State.failSafe_touches ..) rfl ?_
          refine Touches.ite ?_ ?_
          · exact Touches.step (State.monoStop_touches ..) rfl h11
          · exact h11

theorem State.positionReached_touches (s : State) (ring : Bool) : Touches 0x8070000000040800000000000000000000000000000000000000001060140804000800000000000000000000000000000000000000000000010000000000022600251 s (State.positionReached s ring) := by
  unfold State.positionReached
  refine Touches.ite ?_ ?_
  · refine Touches.ite ?_ ?_
    · exact Touches.refl _ _
    · refine Touches.ite ?_ ?_
      · exact Touches.step (State.ringInserted_touches ..) rfl (State.setB_touches _ _ _ rfl 45 rfl grp_PWR_RELAY)
      · refine Touches.ite ?_ ?_
        · exact Touches.step (State.ringLeft_touches ..) rfl (State.setB_touches _ _ _ rfl 45 rfl grp_PWR_RELAY)
        · exact Touches.refl _ _
  · refine Touches.ite ?_ ?_
    · exact Touches.refl _ _
    · extract_lets -merge +onlyGivenNames x1
      have h2 : Touches 0x8070000000040800000000000000000000000000000000000000001060140804000800000000000000000000000000000000000000000000010000000000022600251 s x1 := by unfold x1; exact State.setB_touches _ _ _ rfl 45 rfl grp_PWR_RELAY
      clear_value x1
      refine Touches.foldl (fun t3 y4 h5 => ?_) ?_
      · refine Touches.step (State.ptpPortDown_touches ..) rfl ?_
        exact Touches.trans h5 (State.setB_touches _ _ _ rfl 232 rfl (grp_PTP_PORT_STATUS _))
      · exact h2

theorem execPowerOnStart_ends (s : State) : Ends 0x8070000000040c000000000000000000000000000000000000000000000000000000000000000034000000000000000000018008401000000008000000000bffffff7 s (execPowerOnStart s) := by
  unfold execPowerOnStart
  exact Ends.next (Touches.step (State.powerOn_touches ..) rfl (Touches.refl _ _))

theorem execInputLoss_ends (pages : List PageFact) (s : State) : Ends 0x2297f224065824080000400000000400000000000000000000000000000000080400080000000a07f40000000000000000000008000000040684188000000003b280bf7 s (execInputLoss pages s) := by
  unfold execInputLoss
  exact Ends.next (Touches.step (State.vinLost_touches ..) rfl (Touches.refl _ _))

theorem execOvervoltageLockout_ends (pages : List PageFact) (s : State) : Ends 0x2297f224065824080000400000000400000000000000000000000000000000080400080000000a07f40000000000000000000008000000040684188000000003b280bf7 s (execOvervoltageLockout pages s) := by
  unfold execOvervoltageLockout
  exact Ends.next (Touches.step (State.vinLost_touches ..) rfl (Touches.refl _ _))

theorem execNrstAssert_ends (s : State) : Ends 0x34000000000000000000000000000000000000000000000bfffffe7 s (execNrstAssert s) := by
  unfold execNrstAssert
  exact Ends.next (Touches.step (State.nrstAssert_touches ..) rfl (Touches.refl _ _))

theorem execNrstRelease_ends (s : State) : Ends 0x8070000000040c000000000000000000000000000000000000000000000000000000000000000034000000000000000000018008401000000008000000000bffffff7 s (execNrstRelease s) := by
  unfold execNrstRelease
  exact Ends.next (Touches.step (State.nrstRelease_touches ..) rfl (Touches.refl _ _))

theorem execInternalReset_ends (pages : List PageFact) (s : State) : Ends 0x297f0000000040c000000000000000000000000000000000000000000000000000000000000000034000000000000000000018008401000000018000000000bffffff7 s (execInternalReset pages s) := by
  unfold execInternalReset
  refine Ends.next ?_
  refine Touches.ite ?_ ?_
  · exact Touches.step (State.internalReset_touches ..) rfl (Touches.refl _ _)
  · exact Touches.refl _ _

theorem execThermalTrip_ends (pages : List PageFact) (s : State) : Ends 0x2297f224065824080000400000000400000000000000000000000000000000080400080000000a07f4000000000000000000000800000004068418800000000bffffff7 s (execThermalTrip pages s) := by
  unfold execThermalTrip
  exact Ends.next (Touches.step (State.thermalTrip_touches ..) rfl (Touches.refl _ _))

theorem execBankDischargeFloor_ends (s : State) : Ends 0x34000000000000000000000000000000000000000000000bfffffe7 s (execBankDischargeFloor s) := by
  unfold execBankDischargeFloor
  exact Ends.next (Touches.step (State.bankEmpty_touches ..) rfl (Touches.refl _ _))

theorem execPllLockTimeout_ends (domain : Nat) (s : State) : Ends 0x80700000000408000000000000000000000000000000000000000000000000000000000000000000000000000000000000000000005004060000000000007220802d1 s (execPllLockTimeout domain s) := by
  unfold execPllLockTimeout
  exact Ends.next (Touches.step (State.pllFail_touches ..) rfl (Touches.refl _ _))

theorem execClockFailure_ends (domain : Nat) (s : State) : Ends 0x3800807000000004080d4140002080000000000006f959500000c0800000000008040000000000000034000000000000000000000000000004268000000000000bffffff7 s (execClockFailure domain s) := by
  unfold execClockFailure
  exact Ends.next (Touches.step (State.clockFail_touches ..) rfl (Touches.refl _ _))

theorem execSwitchPositionReached_ends (ring : Bool) (s : State) : Ends 0x8070000000040800000000000000000000000000000000000000001060140804000800000000000000000000000000000000000000000000010000000000022600251 s (execSwitchPositionReached ring s) := by
  unfold execSwitchPositionReached
  exact Ends.next (Touches.step (State.positionReached_touches ..) rfl (Touches.refl _ _))

theorem execModeRequest_ends (value : Nat) (s : State) : Ends 0x8070000000040800000000400800000000000000010000000000000000000804000000000000000000000000000000000000000000102602000000000000022280295 s (execModeRequest value s) := by
  unfold execModeRequest
  refine Ends.next ?_
  refine Touches.trans ?_ (State.regWrite_touches _ _ _ _ rfl ?_)
  · exact Touches.refl _ _
  · intro y1
    exact Touches.step (State.writeModeReq_touches ..) rfl (Touches.refl _ _)

theorem execMyceliumDrained_ends (s : State) : Ends 0x8070000000040800000000000000000000000000000000000000000000000000000000000000000000000000000000000000000000000402000000000000022080291 s (execMyceliumDrained s) := by
  unfold execMyceliumDrained
  exact Ends.next (Touches.step (State.meshDrained_touches ..) rfl (Touches.refl _ _))

theorem execModeCommit_ends (s : State) : Ends 0x80700000000408000000002080000000000006f95950000000000000000008040000000000400000000000000000000000000000000104220000000000000222e02b5 s (execModeCommit s) := by
  unfold execModeCommit
  exact Ends.next (Touches.step (State.modeCommit_touches ..) rfl (Touches.refl _ _))

theorem execModeEntryTimeout_ends (s : State) : Ends 0x80700000000408000000002080000000000006f95950000000000000000008040000000000000000000000000000000000000000000104220000000000000222e0295 s (execModeEntryTimeout s) := by
  unfold execModeEntryTimeout
  refine Ends.next ?_
  refine Touches.ite ?_ ?_
  · exact Touches.step (State.modeRollback_touches ..) rfl (Touches.refl _ _)
  · exact Touches.refl _ _

theorem execModeRollback_ends (failedStep : Option Nat) (s : State) : Ends 0x80700000000408000000002080000000000006f95950000000000000000008040000000000000000000000000000000000000000000104220000000000000222e0295 s (execModeRollback failedStep s) := by
  unfold execModeRollback
  exact Ends.next (Touches.step (State.modeBack_touches ..) rfl (Touches.refl _ _))

theorem execModeExit_ends (s : State) : Ends 0x400800000000000000000000000000000000000000000000000000000000000000000000000000000000000400000000000000000000081 s (execModeExit s) := by
  unfold execModeExit
  refine Ends.next ?_
  refine Touches.ite ?_ ?_
  · exact Touches.step (State.exitStart_touches ..) rfl (Touches.refl _ _)
  · exact Touches.refl _ _

theorem execExitComplete_ends (failed : Bool) (s : State) : Ends 0x80700000000408000000006088000000000006f95950000000000000000008040000000000000000000000000000000000000000000204220000000000000222e02d5 s (execExitComplete failed s) := by
  unfold execExitComplete
  refine Ends.next ?_
  refine Touches.ite ?_ ?_
  · refine Touches.ite ?_ ?_
    · exact Touches.step (State.exitFail_touches ..) rfl (Touches.refl _ _)
    · exact Touches.step (State.exitDone_touches ..) rfl (Touches.refl _ _)
  · exact Touches.refl _ _

theorem execHoldupFinalPage_ends (f : PageFact) (s : State) : Ends 0x297f00000000408000000000000000000000000000000000000000000000000000000000000000034000000000000000000000000000000000010000000000bffffff7 s (execHoldupFinalPage f s) := by
  unfold execHoldupFinalPage
  refine Ends.next ?_
  refine Touches.step (State.tripHold_touches ..) rfl ?_
  exact Touches.step (State.holdupFinal_touches ..) rfl (Touches.refl _ _)

theorem execWakeTimerExpiry_ends (s : State) : Ends 0x2000000000000000000000081 s (execWakeTimerExpiry s) := by
  unfold execWakeTimerExpiry
  refine Ends.next ?_
  refine Touches.ite ?_ ?_
  · exact Touches.step (State.wake_touches ..) rfl (Touches.refl _ _)
  · exact Touches.refl _ _

theorem execControllerWatchdog_ends (chan : Nat) (txs : List (Nat × Nat × Nat × Nat)) (s : State) : Ends 0x807000000004080000000000000000000000000000000000c080000000000000000000000000003400000000000000000000000000000000800000000000022080655 s (execControllerWatchdog chan txs s) := by
  unfold execControllerWatchdog
  refine Ends.next ?_
  refine Touches.ite ?_ ?_
  · exact Touches.refl _ _
  · extract_lets -merge +onlyGivenNames x1
    have h5 : Touches 0x807000000004080000000000000000000000000000000000c080000000000000000000000000003400000000000000000000000000000000800000000000022080655 s x1 := by
      unfold x1
      refine Touches.foldl (fun t2 y3 h4 => ?_) ?_
      · exact Touches.step (State.txFail_touches ..) rfl h4
      · exact Touches.refl _ _
    clear_value x1
    refine Touches.step (State.failSafe_touches ..) rfl ?_
    exact Touches.trans h5 (State.report_touches _ _ _ _ _ rfl 300 rfl grp_MMU_STATUS)

end Sys2Proof.Machine
end

