-- ==== Sys2Proof/Laws/FrameBootExec.lean ====
section
/-! SUPPORT. What each operation of Machine/BootExec.lean can do: the parts of the state it touches (Touches). -/

-- One declaration at a time: many proofs at once would each hold a thread with a large stack.
set_option Elab.async false

namespace Sys2Proof.Machine

theorem State.stageEnd_touches (s : State) (k : Nat) : Touches 0x4000100000000000000000000000201 s (State.stageEnd s k) := by
  unfold State.stageEnd
  exact Touches.step (State.stageEnter_touches ..) rfl (State.setF_touches _ _ _ rfl 91 rfl (grp_BOOT_STAGE_US _))

theorem State.stageLate_touches (s : State) : Touches 0x8070000000040800000000000000000000000000000000000000000000000000000000000000000000000000000000000000000000500000000000000000722000251 s (State.stageLate s) := by
  unfold State.stageLate
  extract_lets -merge +onlyGivenNames x1
  clear_value x1
  split
  · refine Touches.ite ?_ ?_
    · exact Touches.step (State.fatal_touches ..) rfl (Touches.refl _ _)
    · exact Touches.refl _ _
  · exact Touches.refl _ _

theorem State.stClocks_touches (s : State) (refclk : Bool) : Touches 0x8070000000040800000000000000000000000000000000000000000000000001100002022040000000000000000000000000004000100022000000000000026080231 s (State.stClocks s refclk) := by
  unfold State.stClocks
  refine Touches.ite ?_ ?_
  · exact Touches.refl _ _
  · extract_lets -merge +onlyGivenNames x1
    have h2 : Touches 0x8070000000040800000000000000000000000000000000000000000000000001100002022040000000000000000000000000004000100022000000000000026080231 s x1 := by unfold x1; exact Touches.step (State.clocksAll_touches ..) rfl (Touches.refl _ _)
    clear_value x1
    extract_lets -merge +onlyGivenNames x3
    have h4 : Touches 0x8070000000040800000000000000000000000000000000000000000000000001100002022040000000000000000000000000004000100022000000000000026080231 s x3 := by
      unfold x3
      refine Touches.ite ?_ ?_
      · exact h2
      · exact Touches.step (State.timeStart_touches ..) rfl h2
    clear_value x3
    exact Touches.step (State.stageEnd_touches ..) rfl (Touches.setMbx h4 rfl)

theorem State.stFuses_touches (s : State) (f : FuseFacts) : Touches 0x4080700000000408000000000000000000000000000000000000000000000000000000000000000000000000000000000000000050005c0000000000000000722000251 s (State.stFuses s f) := by
  unfold State.stFuses
  refine Touches.ite ?_ ?_
  · exact Touches.refl _ _
  · extract_lets -merge +onlyGivenNames x1
    have h2 : Touches 0x4080700000000408000000000000000000000000000000000000000000000000000000000000000000000000000000000000000050005c0000000000000000722000251 s x1 := by
      unfold x1
      refine Touches.ite ?_ ?_
      · exact Touches.refl _ _
      · exact Touches.step (State.bootReport_touches ..) rfl (State.setF_touches _ _ _ rfl 89 rfl grp_BOOT_FUSE_CORR)
    clear_value x1
    split
    · exact Touches.step (State.fatal_touches ..) rfl h2
    · extract_lets -merge +onlyGivenNames x3
      have h4 : Touches 0x4080700000000408000000000000000000000000000000000000000000000000000000000000000000000000000000000000000050005c0000000000000000722000251 s x3 := by
        unfold x3
        refine Touches.trans ?_ (State.setF_touches _ _ _ rfl 71 rfl grp_SYS_SERIAL_LO)
        exact Touches.trans h2 (State.setF_touches _ _ _ rfl 1 rfl grp_SYS_ID)
      clear_value x3
      extract_lets -merge +onlyGivenNames x5
      have h6 : Touches 0x4080700000000408000000000000000000000000000000000000000000000000000000000000000000000000000000000000000050005c0000000000000000722000251 s x5 := by
        unfold x5
        refine Touches.ite ?_ ?_
        · exact h2
        · refine Touches.trans ?_ (State.clearRegs_touches _ _ _ rfl 507 rfl grp_range4)
          exact Touches.trans h4 (State.setF_touches _ _ _ rfl 72 rfl grp_SYS_SERIAL_HI)
      clear_value x5
      exact Touches.step (State.stageEnd_touches ..) rfl (Touches.setBoot h6 rfl)

theorem State.sessionAdd_touches (s : State) (e : Nat) : Touches 0x200 s (State.sessionAdd s e).2 := by
  unfold State.sessionAdd
  refine Touches.ite2 ?_ ?_
  · exact Touches.pair2 (Touches.refl _ _)
  · exact Touches.pair2 (Touches.setBoot (Touches.refl _ _) rfl)

theorem State.finding_touches (s : State) (e : Nat) : Touches 0x8070000000040800000000000000000000000000000000000000000000000000000000000000000000000000000000000000000000500000000000000000722000251 s (State.finding s e) := by
  unfold State.finding
  refine Touches.ite ?_ ?_
  · exact Touches.refl _ _
  · split
    · rename_i x1 x2 e3
      have h4 : Touches 0x8070000000040800000000000000000000000000000000000000000000000000000000000000000000000000000000000000000000500000000000000000722000251 s x2 := Touches.of_eq (fun d => d.2) e3 (Touches.step (State.sessionAdd_touches ..) rfl (Touches.refl _ _))
      exact Touches.step (State.fatal_touches ..) rfl h4
    · rename_i x5 x6 e7
      have h8 : Touches 0x8070000000040800000000000000000000000000000000000000000000000000000000000000000000000000000000000000000000500000000000000000722000251 s x6 := Touches.of_eq (fun d => d.2) e7 (Touches.step (State.sessionAdd_touches ..) rfl (Touches.refl _ _))
      exact Touches.step (State.bootReport_touches ..) rfl h8

theorem State.stSelftest_touches (s : State) (found : List Finding) : Touches 0x8070000000040800000000000000000000000000000000000000000000000000000000000000000000000000000000000000004000500000000000000000722000251 s (State.stSelftest s found) := by
  unfold State.stSelftest
  refine Touches.ite ?_ ?_
  · exact Touches.refl _ _
  · extract_lets -merge +onlyGivenNames x1
    have h5 : Touches 0x8070000000040800000000000000000000000000000000000000000000000000000000000000000000000000000000000000004000500000000000000000722000251 s x1 := by
      unfold x1
      refine Touches.foldl (fun t2 y3 h4 => ?_) ?_
      · exact Touches.step (State.finding_touches ..) rfl h4
      · exact Touches.refl _ _
    clear_value x1
    refine Touches.ite ?_ ?_
    · exact h5
    · split
      · exact Touches.step (State.fatal_touches ..) rfl h5
      · exact Touches.step (State.stageEnd_touches ..) rfl h5

theorem State.capSet_touches (s : State) (gills : Nat) : Touches 0x400000001 s (State.capSet s gills) := by
  unfold State.capSet
  extract_lets -merge +onlyGivenNames x1
  extract_lets -merge +onlyGivenNames x2
  have h3 : Touches 0x400000001 s x2 := by
    unfold x2
    refine Touches.trans ?_ (State.setF_touches _ _ _ rfl 3 rfl grp_SYS_CAP_UNITS)
    exact State.setF_touches _ _ _ rfl 3 rfl grp_SYS_CAP_UNITS
  clear_value x2
  clear_value x1
  extract_lets -merge +onlyGivenNames x4
  have h5 : Touches 0x400000001 s x4 := by
    unfold x4
    refine Touches.trans ?_ (State.setF_touches _ _ _ rfl 3 rfl grp_SYS_CAP_UNITS)
    exact Touches.trans h3 (State.setF_touches _ _ _ rfl 3 rfl grp_SYS_CAP_UNITS)
  clear_value x4
  extract_lets -merge +onlyGivenNames x6
  have h7 : Touches 0x400000001 s x6 := by
    unfold x6
    refine Touches.trans ?_ (State.setF_touches _ _ _ rfl 3 rfl grp_SYS_CAP_UNITS)
    exact Touches.trans h5 (State.setF_touches _ _ _ rfl 3 rfl grp_SYS_CAP_UNITS)
  clear_value x6
  refine Touches.trans ?_ (State.setF_touches _ _ _ rfl 3 rfl grp_SYS_CAP_UNITS)
  exact Touches.trans h7 (State.setF_touches _ _ _ rfl 3 rfl grp_SYS_CAP_UNITS)

theorem State.cfgLoad_touches (s : State) (ok : Bool) : Touches 0x800000000000000000000000000000000000000000000000000000000000000000000000000000000000000000000000000000000000800000000000000000000000001 s (State.cfgLoad s ok) := by
  unfold State.cfgLoad
  split
  · exact State.wr_touches _ _ _ rfl 76 rfl grp_BOOT_CFG
  · rename_i x1 x2 x3 e4
    exact State.clearRegs_touches _ _ _ rfl 508 rfl grp_range1000

theorem State.fieldLoad_touches (s : State) (ok0 : Bool) (ok1 : Bool) : Touches 0xc070000000040800000000000000000000000000000000000000000000000000000000000000000000000000000000000000000040100000000000000000022000211 s (State.fieldLoad s ok0 ok1) := by
  unfold State.fieldLoad
  refine Touches.ite ?_ ?_
  · extract_lets -merge +onlyGivenNames x1
    clear_value x1
    extract_lets -merge +onlyGivenNames x2
    clear_value x2
    extract_lets -merge +onlyGivenNames x3
    have h4 : Touches 0xc070000000040800000000000000000000000000000000000000000000000000000000000000000000000000000000000000000040100000000000000000022000211 s x3 := by
      unfold x3
      refine Touches.trans ?_ (State.setF_touches _ _ _ rfl 83 rfl grp_BOOT_FMAP_STATUS)
      exact Touches.setBoot (Touches.refl _ _) rfl
    clear_value x3
    refine Touches.ite ?_ ?_
    · exact h4
    · extract_lets -merge +onlyGivenNames x5
      clear_value x5
      extract_lets -merge +onlyGivenNames x6
      have h7 : Touches 0xc070000000040800000000000000000000000000000000000000000000000000000000000000000000000000000000000000000040100000000000000000022000211 s x6 := by unfold x6; exact Touches.setBoot h4 rfl
      clear_value x6
      exact Touches.step (State.flashAsk_touches ..) rfl (Touches.step (State.fmapReport_touches ..) rfl h7)
  · extract_lets -merge +onlyGivenNames x8
    clear_value x8
    extract_lets -merge +onlyGivenNames x9
    have h10 : Touches 0xc070000000040800000000000000000000000000000000000000000000000000000000000000000000000000000000000000000040100000000000000000022000211 s x9 := by
      unfold x9
      refine Touches.trans ?_ (State.setF_touches _ _ _ rfl 83 rfl grp_BOOT_FMAP_STATUS)
      exact Touches.setBoot (Touches.refl _ _) rfl
    clear_value x9
    refine Touches.step (State.fmapReport_touches ..) rfl ?_
    exact Touches.trans h10 (State.setB_touches _ _ _ rfl 73 rfl grp_SYS_BOOT_STATUS)

theorem State.mapMerge_touches (s : State) : Touches 0x12000000000000000000400000201 s (State.mapMerge s) := by
  unfold State.mapMerge
  extract_lets -merge +onlyGivenNames x1
  extract_lets -merge +onlyGivenNames x2
  clear_value x2
  extract_lets -merge +onlyGivenNames x3
  have h4 : Touches 0x12000000000000000000400000201 s x3 := by unfold x3; exact Touches.setBoot (Touches.refl _ _) rfl
  clear_value x3
  clear_value x1
  extract_lets -merge +onlyGivenNames x5
  have h6 : Touches 0x12000000000000000000400000201 s x5 := by
    unfold x5
    refine Touches.trans ?_ (State.setWords8_touches _ _ _ rfl 81 rfl (fun _ => (grp_BOOT_MAP_DIGEST _)))
    exact Touches.trans h4 (State.setF_touches _ _ _ rfl 78 rfl grp_BOOT_MAP_COUNT)
  clear_value x5
  exact Touches.step (State.capSet_touches ..) rfl h6

theorem State.stMap_touches (s : State) (cfgOk : Bool) (ok0 : Bool) (ok1 : Bool) : Touches 0x80c070000000040800000000000000000000000000000000000000000000000000000000000000000000000000000000000000004052d00000000000000000722000251 s (State.stMap s cfgOk ok0 ok1) := by
  unfold State.stMap
  refine Touches.ite ?_ ?_
  · exact Touches.refl _ _
  · extract_lets -merge +onlyGivenNames x1
    have h2 : Touches 0x80c070000000040800000000000000000000000000000000000000000000000000000000000000000000000000000000000000004052d00000000000000000722000251 s x1 := by unfold x1; exact Touches.step (State.cfgLoad_touches ..) rfl (Touches.refl _ _)
    clear_value x1
    refine Touches.ite ?_ ?_
    · exact Touches.step (State.stageEnd_touches ..) rfl (Touches.setBoot h2 rfl)
    · extract_lets -merge +onlyGivenNames x3
      have h4 : Touches 0x80c070000000040800000000000000000000000000000000000000000000000000000000000000000000000000000000000000004052d00000000000000000722000251 s x3 := by unfold x3; exact Touches.step (State.mapMerge_touches ..) rfl (Touches.step (State.fieldLoad_touches ..) rfl h2)
      clear_value x3
      refine Touches.ite ?_ ?_
      · exact Touches.step (State.fatal_touches ..) rfl h4
      · extract_lets -merge +onlyGivenNames x5
        have h6 : Touches 0x80c070000000040800000000000000000000000000000000000000000000000000000000000000000000000000000000000000004052d00000000000000000722000251 s x5 := by
          unfold x5
          split
          · refine Touches.ite ?_ ?_
            · exact h4
            · exact Touches.step (State.fmapReport_touches ..) rfl h4
          · exact h4
        clear_value x5
        extract_lets -merge +onlyGivenNames x7
        clear_value x7
        extract_lets -merge +onlyGivenNames x8
        clear_value x8
        extract_lets -merge +onlyGivenNames x9
        have h10 : Touches 0x80c070000000040800000000000000000000000000000000000000000000000000000000000000000000000000000000000000004052d00000000000000000722000251 s x9 := by
          unfold x9
          exact Touches.upd h6 rfl rfl rfl rfl rfl rfl rfl
            (by intro p hp; cases p <;> first | rfl | exact absurd hp (by decide))
        clear_value x9
        exact Touches.step (State.stageEnd_touches ..) rfl h10

theorem State.laneFail_touches (s : State) (l : Nat) : Touches 0x4000000000000000000000000000000000000000000000000000000000000000000001 s (State.laneFail s l) := by
  unfold State.laneFail
  exact State.setB_touches _ _ _ rfl 247 rfl (grp_LANE_STATUS _)

theorem State.stTrain_touches (s : State) (ddr : Option Nat) (lanes : Nat) (phys : Nat) : Touches 0x8070000000040800000000000000000000000000000000000000000000000004000000000000000000000000000000000000006000500000000000000000722000251 s (State.stTrain s ddr lanes phys) := by
  unfold State.stTrain
  refine Touches.ite ?_ ?_
  · exact Touches.refl _ _
  · extract_lets -merge +onlyGivenNames x1
    extract_lets -merge +onlyGivenNames x2
    have h6 : Touches 0x8070000000040800000000000000000000000000000000000000000000000004000000000000000000000000000000000000006000500000000000000000722000251 s x2 := by
      unfold x2
      refine Touches.ite ?_ ?_
      · refine Touches.foldl (fun t3 y4 h5 => ?_) ?_
        · exact Touches.step (State.laneFail_touches ..) rfl h5
        · exact Touches.refl _ _
      · exact Touches.refl _ _
    clear_value x2
    clear_value x1
    extract_lets -merge +onlyGivenNames x7
    have h11 : Touches 0x8070000000040800000000000000000000000000000000000000000000000004000000000000000000000000000000000000006000500000000000000000722000251 s x7 := by
      unfold x7
      refine Touches.foldl (fun t8 y9 h10 => ?_) ?_
      · refine Touches.step (State.bootReport_touches ..) rfl ?_
        refine Touches.trans ?_ (State.setF_touches _ _ _ rfl 90 rfl grp_BOOT_LANE_CAL)
        exact Touches.step (State.laneFail_touches ..) rfl h10
      · exact h6
    clear_value x7
    extract_lets -merge +onlyGivenNames x12
    have h16 : Touches 0x8070000000040800000000000000000000000000000000000000000000000004000000000000000000000000000000000000006000500000000000000000722000251 s x12 := by
      unfold x12
      refine Touches.foldl (fun t13 y14 h15 => ?_) ?_
      · refine Touches.ite ?_ ?_
        · exact Touches.step (State.bootReport_touches ..) rfl h15
        · exact h15
      · exact h11
    clear_value x12
    extract_lets -merge +onlyGivenNames x17
    clear_value x17
    extract_lets -merge +onlyGivenNames x18
    have h19 : Touches 0x8070000000040800000000000000000000000000000000000000000000000004000000000000000000000000000000000000006000500000000000000000722000251 s x18 := by unfold x18; exact Touches.setBoot h16 rfl
    clear_value x18
    split
    · exact Touches.step (State.fatal_touches ..) rfl h19
    · exact Touches.step (State.stageEnd_touches ..) rfl (Touches.setBoot h19 rfl)

theorem State.pkgTake_touches (s : State) (p : Package) (slot : Nat) : Touches 0x4200100000000000000000000000201 s (State.pkgTake s p slot) := by
  unfold State.pkgTake
  refine Touches.step (State.stageEnd_touches ..) rfl ?_
  extract_lets -merge +onlyGivenNames x1
  have h2 : Touches 0x4200100000000000000000000000201 s x1 := by unfold x1; exact State.setF_touches _ _ _ rfl 86 rfl grp_BOOT_FW_SLOT
  clear_value x1
  exact Touches.setBoot h2 rfl

theorem State.pkgCopied_touches (s : State) (p : Option Package) : Touches 0x200 s (State.pkgCopied s p) := by
  unfold State.pkgCopied
  exact Touches.setBoot (Touches.refl _ _) rfl

theorem State.pkgTry_touches (s : State) (l : List (Option Package × Nat)) : Touches 0x8070000000040800000000000000000000000000000000000000000000000000000000000000000000000000000000000000004200500000000000000000722000251 s (s.pkgTry l) := by
  induction l generalizing s with
  | nil => exact Touches.step (State.fatal_touches ..) rfl (State.setF_touches _ _ _ rfl 86 rfl grp_BOOT_FW_SLOT)
  | cons x l ih =>
    unfold State.pkgTry
    have h : Touches 0x8070000000040800000000000000000000000000000000000000000000000000000000000000000000000000000000000000004200500000000000000000722000251 s (s.pkgCopied x.1) := (State.pkgCopied_touches ..).mono rfl
    extract_lets t
    split
    · exact Touches.step (State.pkgTake_touches ..) rfl h
    · exact Touches.trans (Touches.step (State.bootReport_touches ..) rfl h) (ih _)
    · exact Touches.trans h (ih _)

theorem State.stFwload_touches (s : State) (a : Option Package) (b : Option Package) : Touches 0x8070000000040800000000000000000000000000000000000000000000000000000000000000000000000000000000000000004200500000000000000000722000251 s (State.stFwload s a b) := by
  unfold State.stFwload
  refine Touches.ite ?_ ?_
  · exact Touches.refl _ _
  · exact Touches.step (State.pkgTry_touches ..) rfl (Touches.setBoot (Touches.refl _ _) rfl)

theorem State.waitEnd_touches (s : State) : Touches 0x200 s (State.waitEnd s) := by
  unfold State.waitEnd
  exact Touches.setBoot (Touches.refl _ _) rfl

theorem State.pkgOffer_touches (s : State) : Touches 0x8070000000040800000000000000000000000000000000000000000000000000000000000000000000000000000000000000004200100000000000000000022000211 s (State.pkgOffer s) := by
  unfold State.pkgOffer
  refine Touches.ite ?_ ?_
  · exact Touches.refl _ _
  · extract_lets -merge +onlyGivenNames x1
    clear_value x1
    extract_lets -merge +onlyGivenNames x2
    have h3 : Touches 0x8070000000040800000000000000000000000000000000000000000000000000000000000000000000000000000000000000004200100000000000000000022000211 s x2 := by unfold x2; exact Touches.step (State.pkgCopied_touches ..) rfl (Touches.step (State.waitEnd_touches ..) rfl (Touches.refl _ _))
    clear_value x2
    split
    · exact Touches.step (State.pkgTake_touches ..) rfl h3
    · exact Touches.step (State.bootReport_touches ..) rfl h3
    · exact h3

theorem State.pkgLate_touches (s : State) : Touches 0x8070000000040800000000000000000000000000000000000000000000000000000000000000000000000000000000000000000000100000000000000000022000211 s (State.pkgLate s) := by
  unfold State.pkgLate
  refine Touches.ite ?_ ?_
  · exact Touches.step (State.bootReport_touches ..) rfl (Touches.step (State.waitEnd_touches ..) rfl (Touches.refl _ _))
  · exact Touches.refl _ _

theorem State.stSpores_touches (s : State) : Touches 0x4000100000000000000001000000201 s (State.stSpores s) := by
  unfold State.stSpores
  refine Touches.ite ?_ ?_
  · exact Touches.step (State.stageEnd_touches ..) rfl (State.wr_touches _ _ _ rfl 5 rfl grp_SYS_TILE_VER)
  · exact Touches.refl _ _

theorem State.restartDue_touches (s : State) : Touches 0x240 s (State.restartDue s) := by
  unfold State.restartDue
  extract_lets -merge +onlyGivenNames x1
  clear_value x1
  extract_lets -merge +onlyGivenNames x2
  have h3 : Touches 0x240 s x2 := by unfold x2; exact Touches.setPwr (Touches.refl _ _) rfl
  clear_value x2
  exact Touches.setBoot h3 rfl

theorem State.sporeLate_touches (s : State) (g : Nat) (spore : Nat) : Touches 0x8070000000040800000000000000000000000000000000000000000000000000000000000000000000000000000000000000000800500000000000000000722000251 s (State.sporeLate s g spore) := by
  unfold State.sporeLate
  refine Touches.ite ?_ ?_
  · exact Touches.refl _ _
  · extract_lets -merge +onlyGivenNames x1
    clear_value x1
    extract_lets -merge +onlyGivenNames x2
    clear_value x2
    refine Touches.ite ?_ ?_
    · exact Touches.setBoot (Touches.refl _ _) rfl
    · extract_lets -merge +onlyGivenNames x3
      extract_lets -merge +onlyGivenNames x4
      clear_value x4
      split
      · rename_i x5 x6 e7
        have h8 : Touches 0x8070000000040800000000000000000000000000000000000000000000000000000000000000000000000000000000000000000800500000000000000000722000251 s x6 := Touches.of_eq (fun d => d.2) e7 (Touches.step (State.sessionAdd_touches ..) rfl (Touches.refl _ _))
        exact Touches.step (State.fatal_touches ..) rfl h8
      · rename_i x9 x10 e11
        have h12 : Touches 0x8070000000040800000000000000000000000000000000000000000000000000000000000000000000000000000000000000000800500000000000000000722000251 s x10 := Touches.of_eq (fun d => d.2) e11 (Touches.step (State.sessionAdd_touches ..) rfl (Touches.refl _ _))
        extract_lets -merge +onlyGivenNames x13
        have h14 : Touches 0x8070000000040800000000000000000000000000000000000000000000000000000000000000000000000000000000000000000800500000000000000000722000251 s x13 := by unfold x13; exact Touches.step (State.bootReport_touches ..) rfl h12
        clear_value x13
        clear_value x3
        refine Touches.ite ?_ ?_
        · exact Touches.step (State.fatal_touches ..) rfl h14
        · refine Touches.step (State.restartDue_touches ..) rfl ?_
          exact Touches.trans h14 (State.setF_touches _ _ _ rfl 88 rfl grp_BOOT_RESTARTS)

theorem State.lossRegs_touches (s : State) (l : List (Nat × JRec)) : Touches 0x800000000000000000000000000000000000000000000000000000000000000000000000000000000000000000000000000000000000000000000000000000000001 s (State.lossRegs s l) := by
  unfold State.lossRegs
  split
  · exact Touches.refl _ _
  · extract_lets -merge +onlyGivenNames x1
    extract_lets -merge +onlyGivenNames x2
    clear_value x2
    refine Touches.trans ?_ (State.setF_touches _ _ _ rfl 496 rfl grp_JRN_LAST_LOSS)
    exact State.setF_touches _ _ _ rfl 496 rfl grp_JRN_LAST_LOSS

theorem State.totalsLoad_touches (s : State) (l : List (Nat × JRec)) : Touches 0x200000000000000000000000000000000000000000000000000000000000000000000000000000000000000000000000000000000000000000000000000000000000001 s (State.totalsLoad s l) := by
  unfold State.totalsLoad
  split
  · exact Touches.refl _ _
  · refine Touches.foldl (fun t1 y2 h3 => ?_) ?_
    · exact Touches.trans h3 (State.inc_touches _ _ _ rfl 506 rfl (grp_JRN_TOT _))
    · exact Touches.refl _ _

theorem State.runwaySet_touches (s : State) (wr : Nat) : Touches 0x2000000 s (State.runwaySet s wr) := by
  unfold State.runwaySet
  extract_lets -merge +onlyGivenNames x1
  clear_value x1
  extract_lets -merge +onlyGivenNames x2
  clear_value x2
  exact Touches.setJrn (Touches.refl _ _) rfl

theorem State.replayCold_touches (s : State) : Touches 0x218870000000040800000000000000000000000000000000000000000000000000000000000000000000000000000000000000000000000000000000000000022000211 s (State.replayCold s) := by
  unfold State.replayCold
  split
  · extract_lets -merge +onlyGivenNames x1
    have h2 : Touches 0x218870000000040800000000000000000000000000000000000000000000000000000000000000000000000000000000000000000000000000000000000000022000211 s x1 := by unfold x1; exact Touches.step (State.runwaySet_touches ..) rfl (Touches.refl _ _)
    clear_value x1
    extract_lets -merge +onlyGivenNames x3
    clear_value x3
    extract_lets -merge +onlyGivenNames x4
    have h5 : Touches 0x218870000000040800000000000000000000000000000000000000000000000000000000000000000000000000000000000000000000000000000000000000022000211 s x4 := by unfold x4; exact Touches.setJrn h2 rfl
    clear_value x4
    exact Touches.trans h5 (State.report_touches _ _ _ _ _ rfl 489 rfl grp_JRN_STATUS)
  · extract_lets -merge +onlyGivenNames x6
    clear_value x6
    extract_lets -merge +onlyGivenNames x7
    extract_lets -merge +onlyGivenNames x8
    clear_value x8
    extract_lets -merge +onlyGivenNames x9
    have h10 : Touches 0x218870000000040800000000000000000000000000000000000000000000000000000000000000000000000000000000000000000000000000000000000000022000211 s x9 := by unfold x9; exact Touches.step (State.runwaySet_touches ..) rfl (Touches.refl _ _)
    clear_value x9
    clear_value x7
    extract_lets -merge +onlyGivenNames x11
    clear_value x11
    extract_lets -merge +onlyGivenNames x12
    have h13 : Touches 0x218870000000040800000000000000000000000000000000000000000000000000000000000000000000000000000000000000000000000000000000000000022000211 s x12 := by unfold x12; exact Touches.setJrn h10 rfl
    clear_value x12
    extract_lets -merge +onlyGivenNames x14
    have h15 : Touches 0x218870000000040800000000000000000000000000000000000000000000000000000000000000000000000000000000000000000000000000000000000000022000211 s x14 := by
      unfold x14
      refine Touches.ite ?_ ?_
      · exact h13
      · refine Touches.trans ?_ (State.report_touches _ _ _ _ _ rfl 489 rfl grp_JRN_STATUS)
        exact Touches.trans h13 (State.inc_touches _ _ _ rfl 501 rfl grp_JRN_CNT_CRC)
    clear_value x14
    extract_lets -merge +onlyGivenNames x16
    have h17 : Touches 0x218870000000040800000000000000000000000000000000000000000000000000000000000000000000000000000000000000000000000000000000000000022000211 s x16 := by unfold x16; exact Touches.step (State.lossRegs_touches ..) rfl (Touches.step (State.totalsLoad_touches ..) rfl h15)
    clear_value x16
    extract_lets -merge +onlyGivenNames x18
    clear_value x18
    extract_lets -merge +onlyGivenNames x19
    have h20 : Touches 0x218870000000040800000000000000000000000000000000000000000000000000000000000000000000000000000000000000000000000000000000000000022000211 s x19 := by unfold x19; exact Touches.trans h17 (State.setF_touches _ _ _ rfl 489 rfl grp_JRN_STATUS)
    clear_value x19
    refine Touches.ite ?_ ?_
    · exact Touches.trans h20 (State.report_touches _ _ _ _ _ rfl 489 rfl grp_JRN_STATUS)
    · exact h20

theorem State.replayWarm_touches (s : State) : Touches 0x10000000000000000000000000000000000000000000000000000000000000000000000000000000000000000000000000000000000000000000000000002000001 s (State.replayWarm s) := by
  unfold State.replayWarm
  extract_lets -merge +onlyGivenNames x1
  have h2 : Touches 0x10000000000000000000000000000000000000000000000000000000000000000000000000000000000000000000000000000000000000000000000000002000001 s x1 := by unfold x1; exact State.setF_touches _ _ _ rfl 489 rfl grp_JRN_STATUS
  clear_value x1
  exact Touches.setJrn h2 rfl

theorem State.earlyStage_touches (s : State) : Touches 0x8070000000040800000000000000000000000000000000000000000000000000000000000000000000000000000000000000000000000000000000000000022000211 s (State.earlyStage s) := by
  unfold State.earlyStage
  extract_lets -merge +onlyGivenNames x1
  refine Touches.foldl (fun t2 y3 h4 => ?_) ?_
  · exact Touches.step (State.stage_touches ..) rfl h4
  · exact Touches.setBoot (Touches.refl _ _) rfl

theorem State.stSupervisor_touches (s : State) : Touches 0x21cff4000000040800000000000000000000000000000000000000000000000000000000000000000000000000000000000000004000100000000000000000822000211 s (State.stSupervisor s) := by
  unfold State.stSupervisor
  refine Touches.ite ?_ ?_
  · exact Touches.refl _ _
  · extract_lets -merge +onlyGivenNames x1
    have h2 : Touches 0x21cff4000000040800000000000000000000000000000000000000000000000000000000000000000000000000000000000000004000100000000000000000822000211 s x1 := by unfold x1; exact State.wr_touches _ _ _ rfl 4 rfl grp_SYS_SUP_VER
    clear_value x1
    extract_lets -merge +onlyGivenNames x3
    clear_value x3
    extract_lets -merge +onlyGivenNames x4
    have h5 : Touches 0x21cff4000000040800000000000000000000000000000000000000000000000000000000000000000000000000000000000000004000100000000000000000822000211 s x4 := by unfold x4; exact Touches.setBoot h2 rfl
    clear_value x4
    extract_lets -merge +onlyGivenNames x6
    have h7 : Touches 0x21cff4000000040800000000000000000000000000000000000000000000000000000000000000000000000000000000000000004000100000000000000000822000211 s x6 := by unfold x6; exact Touches.trans h5 (State.setB_touches _ _ _ rfl 487 rfl grp_JRN_CTRL)
    clear_value x6
    extract_lets -merge +onlyGivenNames x8
    have h9 : Touches 0x21cff4000000040800000000000000000000000000000000000000000000000000000000000000000000000000000000000000004000100000000000000000822000211 s x8 := by
      unfold x8
      refine Touches.ite ?_ ?_
      · exact Touches.step (State.replayWarm_touches ..) rfl h7
      · exact Touches.step (State.replayCold_touches ..) rfl h7
    clear_value x8
    extract_lets -merge +onlyGivenNames x10
    clear_value x10
    extract_lets -merge +onlyGivenNames x11
    have h12 : Touches 0x21cff4000000040800000000000000000000000000000000000000000000000000000000000000000000000000000000000000004000100000000000000000822000211 s x11 := by unfold x11; exact Touches.setJrn h9 rfl
    clear_value x11
    extract_lets -merge +onlyGivenNames x13
    have h14 : Touches 0x21cff4000000040800000000000000000000000000000000000000000000000000000000000000000000000000000000000000004000100000000000000000822000211 s x13 := by
      unfold x13
      refine Touches.trans ?_ (State.setB_touches _ _ _ rfl 489 rfl grp_JRN_STATUS)
      exact Touches.step (State.earlyStage_touches ..) rfl h12
    clear_value x13
    refine Touches.step (State.stageEnd_touches ..) rfl ?_
    exact Touches.step (State.jrnRegs_touches ..) rfl (Touches.step (State.reqsOpen_touches ..) rfl h14)

theorem State.supLate_touches (s : State) : Touches 0x8070000000040800000000000000000000000000000000000000000000000000000000000000000000000000000000000000000000500000000000000000722000251 s (State.supLate s) := by
  unfold State.supLate
  refine Touches.ite ?_ ?_
  · exact Touches.step (State.fatal_touches ..) rfl (Touches.refl _ _)
  · exact Touches.refl _ _

theorem State.imgMissed_touches (s : State) (code : Nat) : Touches 0x8070000000040800000000000000000000000000000000000000000000000000000000000000000000000000000000000000000000100000000000000000022000211 s (State.imgMissed s code) := by
  unfold State.imgMissed
  extract_lets -merge +onlyGivenNames x1
  have h2 : Touches 0x8070000000040800000000000000000000000000000000000000000000000000000000000000000000000000000000000000000000100000000000000000022000211 s x1 := by unfold x1; exact Touches.step (State.bootReport_touches ..) rfl (Touches.refl _ _)
  clear_value x1
  exact Touches.setBoot h2 rfl

theorem State.stImage_touches (s : State) : Touches 0x7008070000000040800000020000c000010084408040050000000010020201c080400080000000000004000000001001010070e784000100000000000200000022fa8753 s (State.stImage s) := by
  unfold State.stImage
  refine Touches.ite ?_ ?_
  · exact Touches.refl _ _
  · refine Touches.ite ?_ ?_
    · exact Touches.step (State.stageEnter_touches ..) rfl (Touches.refl _ _)
    · refine Touches.ite ?_ ?_
      · split
        rename_i x1 x2 x3 e4
        have h5 : Touches 0x7008070000000040800000020000c000010084408040050000000010020201c080400080000000000004000000001001010070e784000100000000000200000022fa8753 s x3 := Touches.of_eq (fun d => d.2) e4 (Touches.step (State.fresh_touches ..) rfl (Touches.refl _ _))
        exact Touches.step (State.stageEnd_touches ..) rfl (Touches.step (State.imgMissed_touches ..) rfl h5)
      · extract_lets -merge +onlyGivenNames x6
        have h7 : Touches 0x7008070000000040800000020000c000010084408040050000000010020201c080400080000000000004000000001001010070e784000100000000000200000022fa8753 s x6 := by unfold x6; exact Touches.step (State.imgLoad_touches ..) rfl (Touches.refl _ _)
        clear_value x6
        refine Touches.ite ?_ ?_
        · exact Touches.step (State.stageEnd_touches ..) rfl (Touches.step (State.imgCommit_touches ..) rfl h7)
        · exact Touches.step (State.stageEnd_touches ..) rfl (Touches.step (State.imgMissed_touches ..) rfl h7)

theorem State.stHold_touches (s : State) : Touches 0x4000100000000000000000000000201 s (State.stHold s) := by
  unfold State.stHold
  refine Touches.ite ?_ ?_
  · exact Touches.step (State.stageEnd_touches ..) rfl (Touches.refl _ _)
  · exact Touches.refl _ _

theorem State.fieldPut_touches (s : State) (e : Nat) (driver : Bool) : Touches 0xc070000000040800000000002800000000000000000000000000000000000000000000000000000000000000000000000000000040000000000000000000022000211 s (State.fieldPut s e driver) := by
  unfold State.fieldPut
  extract_lets -merge +onlyGivenNames x1
  clear_value x1
  extract_lets -merge +onlyGivenNames x2
  have h3 : Touches 0xc070000000040800000000002800000000000000000000000000000000000000000000000000000000000000000000000000000040000000000000000000022000211 s x2 := by unfold x2; exact Touches.setBoot (Touches.refl _ _) rfl
  clear_value x2
  extract_lets -merge +onlyGivenNames x4
  have h5 : Touches 0xc070000000040800000000002800000000000000000000000000000000000000000000000000000000000000000000000000000040000000000000000000022000211 s x4 := by
    unfold x4
    refine Touches.trans ?_ (State.setB_touches _ _ _ rfl 83 rfl grp_BOOT_FMAP_STATUS)
    exact Touches.trans h3 (State.setF_touches _ _ _ rfl 83 rfl grp_BOOT_FMAP_STATUS)
  clear_value x4
  extract_lets -merge +onlyGivenNames x6
  have h7 : Touches 0xc070000000040800000000002800000000000000000000000000000000000000000000000000000000000000000000000000000040000000000000000000022000211 s x6 := by
    unfold x6
    refine Touches.ite ?_ ?_
    · exact h5
    · refine Touches.trans ?_ (State.voided_touches _ _ rfl 400 rfl grp_SYS_REPRO_STATUS)
      exact Touches.trans h5 (State.setB_touches _ _ _ rfl 83 rfl grp_BOOT_FMAP_STATUS)
  clear_value x6
  exact Touches.step (State.flashAsk_touches ..) rfl h7

theorem State.fieldAdd_touches (s : State) (e : Nat) : Touches 0xc070000000040800000000002800000000000000000000000000000000000000000000000000000000000000000000000000000040100000000000000000022000211 s (State.fieldAdd s e) := by
  unfold State.fieldAdd
  extract_lets -merge +onlyGivenNames x1
  clear_value x1
  refine Touches.ite ?_ ?_
  · exact Touches.step (State.fmapReport_touches ..) rfl (Touches.refl _ _)
  · refine Touches.ite ?_ ?_
    · exact Touches.refl _ _
    · exact Touches.step (State.fieldPut_touches ..) rfl (Touches.refl _ _)

theorem State.fieldStored_touches (s : State) : Touches 0x8070000000040800000000000000000000000000000000000000000000000000000000000000000000000000000000000000000040000000000000000000022000211 s (State.fieldStored s) := by
  unfold State.fieldStored
  refine Touches.ite ?_ ?_
  · extract_lets -merge +onlyGivenNames x1
    clear_value x1
    extract_lets -merge +onlyGivenNames x2
    extract_lets -merge +onlyGivenNames x3
    clear_value x3
    extract_lets -merge +onlyGivenNames x4
    clear_value x4
    extract_lets -merge +onlyGivenNames x5
    have h6 : Touches 0x8070000000040800000000000000000000000000000000000000000000000000000000000000000000000000000000000000000040000000000000000000022000211 s x5 := by unfold x5; exact Touches.setBoot (Touches.refl _ _) rfl
    clear_value x5
    clear_value x2
    extract_lets -merge +onlyGivenNames x7
    have h8 : Touches 0x8070000000040800000000000000000000000000000000000000000000000000000000000000000000000000000000000000000040000000000000000000022000211 s x7 := by unfold x7; exact Touches.trans h6 (State.setB_touches _ _ _ rfl 83 rfl grp_BOOT_FMAP_STATUS)
    clear_value x7
    split
    rename_i x9 x10 x11 e12
    have h13 : Touches 0x8070000000040800000000000000000000000000000000000000000000000000000000000000000000000000000000000000000040000000000000000000022000211 s x11 := Touches.of_eq (fun d => d.2) e12 (Touches.step (State.fresh_touches ..) rfl h8)
    exact Touches.step (State.stageStore_touches ..) rfl (Touches.step (State.flashDone_touches ..) rfl h13)
  · exact Touches.refl _ _

theorem State.sessionQueue_touches (s : State) : Touches 0xc070000000040800000000002800000000000000000000000000000000000000000000000000000000000000000000000000000040100000000000000000022000211 s (State.sessionQueue s) := by
  unfold State.sessionQueue
  refine Touches.ite ?_ ?_
  · exact Touches.refl _ _
  · refine Touches.foldl (fun t1 y2 h3 => ?_) ?_
    · refine Touches.ite ?_ ?_
      · exact h3
      · refine Touches.ite ?_ ?_
        · exact Touches.step (State.fmapReport_touches ..) rfl h3
        · exact Touches.step (State.fieldPut_touches ..) rfl h3
    · exact Touches.refl _ _

theorem State.writeBootCtrl_touches (s : State) (v : Nat) (pages : List PageFact) : Touches 0x2d7f4000000040c00000000000000000000000000010000000000000000000004000000000000003400000000000000000001804a401004020118000000000bffffff7 s (State.writeBootCtrl s v pages) := by
  unfold State.writeBootCtrl
  refine Touches.ite ?_ ?_
  · exact Touches.step (State.internalReset_touches ..) rfl (Touches.refl _ _)
  · refine Touches.ite ?_ ?_
    · refine Touches.ite ?_ ?_
      · exact Touches.refl _ _
      · exact Touches.step (State.warmStart_touches ..) rfl (Touches.refl _ _)
    · refine Touches.ite ?_ ?_
      · exact Touches.step (State.flashAsk_touches ..) rfl (Touches.refl _ _)
      · refine Touches.ite ?_ ?_
        · exact Touches.step (State.pkgOffer_touches ..) rfl (Touches.refl _ _)
        · exact Touches.refl _ _

theorem execClocks_ends (refclk : Bool) (s : State) : Ends 0x8070000000040800000000000000000000000000000000000000000000000001100002022040000000000000000000000000004000100022000000000000026080231 s (execClocks refclk s) := by
  unfold execClocks
  exact Ends.next (Touches.step (State.stClocks_touches ..) rfl (Touches.refl _ _))

theorem execFuses_ends (facts : FuseFacts) (s : State) : Ends 0x4080700000000408000000000000000000000000000000000000000000000000000000000000000000000000000000000000000050005c0000000000000000722000251 s (execFuses facts s) := by
  unfold execFuses
  exact Ends.next (Touches.step (State.stFuses_touches ..) rfl (Touches.refl _ _))

theorem execSelftest_ends (found : List Finding) (s : State) : Ends 0x8070000000040800000000000000000000000000000000000000000000000000000000000000000000000000000000000000004000500000000000000000722000251 s (execSelftest found s) := by
  unfold execSelftest
  exact Ends.next (Touches.step (State.stSelftest_touches ..) rfl (Touches.refl _ _))

theorem execMap_ends (cfgOk : Bool) (copy0Ok : Bool) (copy1Ok : Bool) (s : State) : Ends 0x80c070000000040800000000000000000000000000000000000000000000000000000000000000000000000000000000000000004052d00000000000000000722000251 s (execMap cfgOk copy0Ok copy1Ok s) := by
  unfold execMap
  exact Ends.next (Touches.step (State.stMap_touches ..) rfl (Touches.refl _ _))

theorem execTrain_ends (ddr : Option Nat) (lanes : Nat) (phys : Nat) (s : State) : Ends 0x8070000000040800000000000000000000000000000000000000000000000004000000000000000000000000000000000000006000500000000000000000722000251 s (execTrain ddr lanes phys s) := by
  unfold execTrain
  exact Ends.next (Touches.step (State.stTrain_touches ..) rfl (Touches.refl _ _))

theorem execFwload_ends (a : Option Package) (b : Option Package) (s : State) : Ends 0x8070000000040800000000000000000000000000000000000000000000000000000000000000000000000000000000000000004200500000000000000000722000251 s (execFwload a b s) := by
  unfold execFwload
  exact Ends.next (Touches.step (State.stFwload_touches ..) rfl (Touches.refl _ _))

theorem execPkgReady_ends (s : State) : Ends 0x2d7f4000000040c00000000000000000000000000010000000000000000000004000000000000003400000000000000000001804a401024020118000000000bffffff7 s (execPkgReady s) := by
  unfold execPkgReady
  refine Ends.next ?_
  refine Touches.trans ?_ (State.regWrite_touches _ _ _ _ rfl ?_)
  · exact Touches.refl _ _
  · intro y1
    exact Touches.step (State.writeBootCtrl_touches ..) rfl (Touches.refl _ _)

theorem execHostPkgTimeout_ends (s : State) : Ends 0x8070000000040800000000000000000000000000000000000000000000000000000000000000000000000000000000000000000000100000000000000000022000211 s (execHostPkgTimeout s) := by
  unfold execHostPkgTimeout
  exact Ends.next (Touches.step (State.pkgLate_touches ..) rfl (Touches.refl _ _))

theorem execSpores_ends (s : State) : Ends 0x4000100000000000000001000000201 s (execSpores s) := by
  unfold execSpores
  exact Ends.next (Touches.step (State.stSpores_touches ..) rfl (Touches.refl _ _))

theorem execSporeAckTimeout_ends (gill : Nat) (spore : Nat) (s : State) : Ends 0x8070000000040800000000000000000000000000000000000000000000000000000000000000000000000000000000000000000800500000000000000000722000251 s (execSporeAckTimeout gill spore s) := by
  unfold execSporeAckTimeout
  exact Ends.next (Touches.step (State.sporeLate_touches ..) rfl (Touches.refl _ _))

theorem execSupervisor_ends (s : State) : Ends 0x21cff4000000040800000000000000000000000000000000000000000000000000000000000000000000000000000000000000004000100000000000000000822000211 s (execSupervisor s) := by
  unfold execSupervisor
  exact Ends.next (Touches.step (State.stSupervisor_touches ..) rfl (Touches.refl _ _))

theorem execSupStartTimeout_ends (s : State) : Ends 0x8070000000040800000000000000000000000000000000000000000000000000000000000000000000000000000000000000000000500000000000000000722000251 s (execSupStartTimeout s) := by
  unfold execSupStartTimeout
  exact Ends.next (Touches.step (State.supLate_touches ..) rfl (Touches.refl _ _))

theorem execImage_ends (s : State) : Ends 0x7008070000000040800000020000c000010084408040050000000010020201c080400080000000000004000000001001010070e784000100000000000200000022fa8753 s (execImage s) := by
  unfold execImage
  exact Ends.next (Touches.step (State.stImage_touches ..) rfl (Touches.refl _ _))

theorem execHold_ends (s : State) : Ends 0x4000100000000000000000000000201 s (execHold s) := by
  unfold execHold
  exact Ends.next (Touches.step (State.stHold_touches ..) rfl (Touches.refl _ _))

theorem execStageTimeout_ends (s : State) : Ends 0x8070000000040800000000000000000000000000000000000000000000000000000000000000000000000000000000000000000000500000000000000000722000251 s (execStageTimeout s) := by
  unfold execStageTimeout
  exact Ends.next (Touches.step (State.stageLate_touches ..) rfl (Touches.refl _ _))

theorem execColdStart_ends (pages : List PageFact) (s : State) : Ends 0x2d7f4000000040c00000000000000000000000000010000000000000000000004000000000000003400000000000000000001804a401024020118000000000bffffff7 s (execColdStart pages s) := by
  unfold execColdStart
  refine Ends.next ?_
  refine Touches.trans ?_ (State.regWrite_touches _ _ _ _ rfl ?_)
  · exact Touches.refl _ _
  · intro y1
    exact Touches.step (State.writeBootCtrl_touches ..) rfl (Touches.refl _ _)

theorem execWarmStart_ends (s : State) : Ends 0x2d7f4000000040c00000000000000000000000000010000000000000000000004000000000000003400000000000000000001804a401024020118000000000bffffff7 s (execWarmStart s) := by
  unfold execWarmStart
  refine Ends.next ?_
  refine Touches.trans ?_ (State.regWrite_touches _ _ _ _ rfl ?_)
  · exact Touches.refl _ _
  · intro y1
    exact Touches.step (State.writeBootCtrl_touches ..) rfl (Touches.refl _ _)

theorem execSaveCfg_ends (s : State) : Ends 0x2d7f4000000040c00000000000000000000000000010000000000000000000004000000000000003400000000000000000001804a401024020118000000000bffffff7 s (execSaveCfg s) := by
  unfold execSaveCfg
  refine Ends.next ?_
  refine Touches.trans ?_ (State.regWrite_touches _ _ _ _ rfl ?_)
  · exact Touches.refl _ _
  · intro y1
    exact Touches.step (State.writeBootCtrl_touches ..) rfl (Touches.refl _ _)

theorem execFieldAddition_ends (entry : Nat) (s : State) : Ends 0xc070000000040800000000002800000000000000000000000000000000000000000000000000000000000000000000000000000040102000000000000000022000295 s (execFieldAddition entry s) := by
  unfold execFieldAddition
  refine Ends.next ?_
  refine Touches.trans ?_ (State.regWrite_touches _ _ _ _ rfl ?_)
  · exact Touches.refl _ _
  · intro y1
    exact Touches.step (State.fieldAdd_touches ..) rfl (Touches.refl _ _)

theorem execFieldMapCopiesWritten_ends (s : State) : Ends 0x8070000000040800000000000000000000000000000000000000000000000000000000000000000000000000000000000000000040000000000000000000022000211 s (execFieldMapCopiesWritten s) := by
  unfold execFieldMapCopiesWritten
  exact Ends.next (Touches.step (State.fieldStored_touches ..) rfl (Touches.refl _ _))

end Sys2Proof.Machine
end

