-- ==== Sys2Proof/Laws/FrameGillExec.lean ====
section
/-! SUPPORT. What each operation of Machine/GillExec.lean can do: the parts of the state it touches (Touches). -/

-- One declaration at a time: many proofs at once would each hold a thread with a large stack.
set_option Elab.async false

namespace Sys2Proof.Machine

theorem execBundleIssue_ends (gill : Nat) (s : State) : Ends 0x80700000000408000000001c28000000000000000050080000011fe00000000000000000000000000000000000000000000000000000000000000000000002205da15 s (execBundleIssue gill s) := by
  unfold execBundleIssue
  exact Ends.next (Touches.step (State.bundleIssue_touches ..) rfl (Touches.refl _ _))

theorem execGillMemFaultStop_ends (gill : Nat) (s : State) : Ends 0x807000000004080000000000000000000000000000400000000101a00000000000000000000000000000000000000000000000000000000000000000000002200c211 s (execGillMemFaultStop gill s) := by
  unfold execGillMemFaultStop
  exact Ends.next (Touches.step (State.memFaultStop_touches ..) rfl (Touches.refl _ _))

theorem execTimedOpTimeout_ends (gill : Nat) (s : State) : Ends 0x807000000004080000000000280000000000000000400000000101a00000000000000000000000000000000000000000000000000000000000000000000002200c211 s (execTimedOpTimeout gill s) := by
  unfold execTimedOpTimeout
  exact Ends.next (Touches.step (State.timedOut_touches ..) rfl (Touches.refl _ _))

theorem execQueueMessageArrival_ends (gill : Nat) (port : Nat) (src : Nat) (srcPort : Nat) (s : State) : Ends 0x8070000000040800000000000000000000000000005000000001000000000000000000000000000000000000000000000000000000000000000000000000022018215 s (execQueueMessageArrival gill port src srcPort s) := by
  unfold execQueueMessageArrival
  exact Ends.next (Touches.step (State.arrive_touches ..) rfl (Touches.refl _ _))

theorem execQueueCreditReturn_ends (gill : Nat) (port : Nat) (s : State) : Ends 0x1000000000000000000000000000000000000000000000000000000000000000000000000000008001 s (execQueueCreditReturn gill port s) := by
  unfold execQueueCreditReturn
  exact Ends.next (Touches.step (State.creditBack_touches ..) rfl (Touches.refl _ _))

theorem execFenceComplete_ends (gill : Nat) (s : State) : Ends 0x1000000000000000000000000000000000000000000000000000000000000000000000000000008001 s (execFenceComplete gill s) := by
  unfold execFenceComplete
  exact Ends.next (Touches.step (State.fenceDone_touches ..) rfl (Touches.refl _ _))

theorem execInvocationEnd_ends (gill : Nat) (s : State) : Ends 0x8070000000040800000000000000000000000000000000000001002000000000000000000000000000000000000000000000000000000000000000000000022008211 s (execInvocationEnd gill s) := by
  unfold execInvocationEnd
  exact Ends.next (Touches.step (State.invocationEnd_touches ..) rfl (Touches.refl _ _))

theorem execDbgHalt_ends (gill : Nat) (s : State) : Ends 0x8070000000040800000000000000000000000000000000000000002000000000000000000000000000000000000000000000000000102000000000000000022000295 s (execDbgHalt gill s) := by
  unfold execDbgHalt
  refine Ends.next ?_
  refine Touches.ite ?_ ?_
  · refine Touches.trans ?_ (State.regWrite_touches _ _ _ _ rfl ?_)
    · exact Touches.refl _ _
    · intro y1
      exact Touches.step (State.dbgHalt_touches ..) rfl (Touches.refl _ _)
  · exact Touches.refl _ _

theorem execDbgResume_ends (gill : Nat) (s : State) : Ends 0x8070000000040800000000000000000000000000000000000000002000000000000000000000000000000000000000000000000000102000000000000000022000295 s (execDbgResume gill s) := by
  unfold execDbgResume
  refine Ends.next ?_
  refine Touches.ite ?_ ?_
  · refine Touches.trans ?_ (State.regWrite_touches _ _ _ _ rfl ?_)
    · exact Touches.refl _ _
    · intro y1
      exact Touches.step (State.dbgResume_touches ..) rfl (Touches.refl _ _)
  · exact Touches.refl _ _

theorem execDbgStep_ends (gill : Nat) (s : State) : Ends 0x80700000000408000000001c28000000000000000050080000011fe00000000000000000000000000000000000000000000000000010200000000000000002205da95 s (execDbgStep gill s) := by
  unfold execDbgStep
  refine Ends.next ?_
  refine Touches.ite ?_ ?_
  · refine Touches.trans ?_ (State.regWrite_touches _ _ _ _ rfl ?_)
    · exact Touches.refl _ _
    · intro y1
      exact Touches.step (State.dbgStep_touches ..) rfl (Touches.refl _ _)
  · exact Touches.refl _ _

end Sys2Proof.Machine
end

