-- ==== Sys2Proof/Laws/FrameDetect.lean ====
section
/-! SUPPORT. What each operation of Machine/Detect.lean can do: the parts of the state it touches (Touches). -/

-- One declaration at a time: many proofs at once would each hold a thread with a large stack.
set_option Elab.async false

namespace Sys2Proof.Machine

theorem State.detReport_touches (s : State) (sts : Nat) (detail : Nat) : Touches 0x8070000000040800000000000000000000000000000000000002000000000000000000000000000000000000000000000000000000000000000000000000022000211 s (State.detReport s sts detail) := by
  unfold State.detReport
  exact State.report_touches _ _ _ _ _ rfl 294 rfl grp_DET_STATUS

theorem State.detFail_touches (s : State) (e : Nat) (i : Nat) (r : RunChain) (b : List Byte) (sts : Nat) (detail : Nat) : Touches 0x807000000004080101000000000000000000000000010001c092000000000000000000000000000000000000000000000000000000000000000000000000026000e17 s (State.detFail s e i r b sts detail).2 := by
  unfold State.detFail
  extract_lets -merge +onlyGivenNames x1
  have h2 : Touches 0x807000000004080101000000000000000000000000010001c092000000000000000000000000000000000000000000000000000000000000000000000000026000e17 s x1 := by unfold x1; exact Touches.step (State.detReport_touches ..) rfl (State.inc_touches _ _ _ rfl 297 rfl grp_DET_CNT_FAIL)
  clear_value x1
  extract_lets -merge +onlyGivenNames x3
  clear_value x3
  split
  rename_i x4 x5 x6 e7
  have h8 : Touches 0x807000000004080101000000000000000000000000010001c092000000000000000000000000000000000000000000000000000000000000000000000000026000e17 s x6 := Touches.of_eq (fun d => d.2) e7 (Touches.step (State.dmaPut_touches ..) rfl h2)
  exact h8

theorem State.detWrite_touches (s : State) (e : Nat) (i : Nat) (r : RunChain) (b : List Byte) (out : Nat) (dropped : Nat) (removed : Nat) (l : List Box) : Touches 0x807000000004080101000000000000000000000000010001c0be000000000000000000000000000000000000000000000000000000000000000000000000026000e17 s (State.detWrite s e i r b out dropped removed l).2 := by
  unfold State.detWrite
  split
  · rename_i x1 x2 x3 e4
    have h5 : Touches 0x807000000004080101000000000000000000000000010001c0be000000000000000000000000000000000000000000000000000000000000000000000000026000e17 s x3 := Touches.of_eq (fun d => d.2) e4 (Touches.step (State.dmaPut_touches ..) rfl (Touches.refl _ _))
    exact Touches.step (State.detFail_touches ..) rfl h5
  · rename_i x6 x7 e8
    have h9 : Touches 0x807000000004080101000000000000000000000000010001c0be000000000000000000000000000000000000000000000000000000000000000000000000026000e17 s x7 := Touches.of_eq (fun d => d.2) e8 (Touches.step (State.dmaPut_touches ..) rfl (Touches.refl _ _))
    split
    · rename_i x10 x11 x12 e13
      have h14 : Touches 0x807000000004080101000000000000000000000000010001c0be000000000000000000000000000000000000000000000000000000000000000000000000026000e17 s x12 := Touches.of_eq (fun d => d.2) e13 (Touches.step (State.dmaPut_touches ..) rfl h9)
      exact Touches.step (State.detFail_touches ..) rfl h14
    · rename_i x15 x16 e17
      have h18 : Touches 0x807000000004080101000000000000000000000000010001c0be000000000000000000000000000000000000000000000000000000000000000000000000026000e17 s x16 := Touches.of_eq (fun d => d.2) e17 (Touches.step (State.dmaPut_touches ..) rfl h9)
      extract_lets -merge +onlyGivenNames x19
      have h20 : Touches 0x807000000004080101000000000000000000000000010001c0be000000000000000000000000000000000000000000000000000000000000000000000000026000e17 s x19 := by
        unfold x19
        refine Touches.ite ?_ ?_
        · exact h18
        · refine Touches.step (State.detReport_touches ..) rfl ?_
          exact Touches.trans h18 (State.inc_touches _ _ _ rfl 298 rfl grp_DET_CNT_DROPPED)
      clear_value x19
      refine Touches.pair2 ?_
      refine Touches.ite ?_ ?_
      · exact Touches.trans h20 (State.inc_touches _ _ _ rfl 295 rfl grp_DET_CNT_BOXDEC)
      · exact Touches.trans h20 (State.inc_touches _ _ _ rfl 296 rfl grp_DET_CNT_NMS)

theorem State.boxdecItem_touches (e : Nat) (i : Nat) (s : State) (r : RunChain) (b : List Byte) : Touches 0x208070000000040801010000002000000000000000000101e9c0be000000000000000000000000000000000000000000000000000000000000000000000000026000e17 s (State.boxdecItem e i s r b).2 := by
  unfold State.boxdecItem
  split
  · exact Touches.step (State.detFail_touches ..) rfl (Touches.refl _ _)
  · extract_lets -merge +onlyGivenNames x1
    clear_value x1
    extract_lets -merge +onlyGivenNames x2
    clear_value x2
    extract_lets -merge +onlyGivenNames x3
    extract_lets -merge +onlyGivenNames x4
    split
    · rename_i x5 x6 x7 e8
      have h9 : Touches 0x208070000000040801010000002000000000000000000101e9c0be000000000000000000000000000000000000000000000000000000000000000000000000026000e17 s x7 := by
        refine Touches.of_eq (fun d => d.2) e8 ?_
        unfold x3
        exact Touches.step (State.dmaGet_touches ..) rfl (Touches.refl _ _)
      unfold x4
      exact Touches.step (State.detFail_touches ..) rfl h9
    · rename_i x10 x11 x12 e13
      have h14 : Touches 0x208070000000040801010000002000000000000000000101e9c0be000000000000000000000000000000000000000000000000000000000000000000000000026000e17 s x12 := by
        refine Touches.of_eq (fun d => d.2) e13 ?_
        unfold x3
        exact Touches.step (State.dmaGet_touches ..) rfl (Touches.refl _ _)
      split
      · rename_i x15 x16 x17 e18
        have h19 : Touches 0x208070000000040801010000002000000000000000000101e9c0be000000000000000000000000000000000000000000000000000000000000000000000000026000e17 s x17 := by
          refine Touches.of_eq (fun d => d.2) e18 ?_
          unfold x3
          exact Touches.step (State.dmaGet_touches ..) rfl h14
        unfold x4
        exact Touches.step (State.detFail_touches ..) rfl h19
      · rename_i x20 x21 x22 e23
        have h24 : Touches 0x208070000000040801010000002000000000000000000101e9c0be000000000000000000000000000000000000000000000000000000000000000000000000026000e17 s x22 := by
          refine Touches.of_eq (fun d => d.2) e23 ?_
          unfold x3
          exact Touches.step (State.dmaGet_touches ..) rfl h14
        split
        · rename_i x25 x26 x27 e28
          have h29 : Touches 0x208070000000040801010000002000000000000000000101e9c0be000000000000000000000000000000000000000000000000000000000000000000000000026000e17 s x27 := by
            refine Touches.of_eq (fun d => d.2) e28 ?_
            unfold x3
            exact Touches.step (State.dmaGet_touches ..) rfl h24
          unfold x4
          exact Touches.step (State.detFail_touches ..) rfl h29
        · rename_i x30 x31 x32 e33
          have h34 : Touches 0x208070000000040801010000002000000000000000000101e9c0be000000000000000000000000000000000000000000000000000000000000000000000000026000e17 s x32 := by
            refine Touches.of_eq (fun d => d.2) e33 ?_
            unfold x3
            exact Touches.step (State.dmaGet_touches ..) rfl h24
          split
          · rename_i x35 x36 x37 e38
            have h39 : Touches 0x208070000000040801010000002000000000000000000101e9c0be000000000000000000000000000000000000000000000000000000000000000000000000026000e17 s x37 := by
              refine Touches.of_eq (fun d => d.2) e38 ?_
              unfold x3
              exact Touches.step (State.dmaGet_touches ..) rfl h34
            unfold x4
            exact Touches.step (State.detFail_touches ..) rfl h39
          · rename_i x40 x41 x42 e43
            have h44 : Touches 0x208070000000040801010000002000000000000000000101e9c0be000000000000000000000000000000000000000000000000000000000000000000000000026000e17 s x42 := by
              refine Touches.of_eq (fun d => d.2) e43 ?_
              unfold x3
              exact Touches.step (State.dmaGet_touches ..) rfl h34
            extract_lets -merge +onlyGivenNames x45
            extract_lets -merge +onlyGivenNames x46
            extract_lets -merge +onlyGivenNames x47
            clear_value x47
            exact Touches.step (State.detWrite_touches ..) rfl h44

theorem State.nmsItem_touches (e : Nat) (i : Nat) (s : State) (r : RunChain) (b : List Byte) : Touches 0x208070000000040801010000002000000000000000000101e9c0be000000000000000000000000000000000000000000000000000000000000000000000000026000e17 s (State.nmsItem e i s r b).2 := by
  unfold State.nmsItem
  split
  · exact Touches.step (State.detFail_touches ..) rfl (Touches.refl _ _)
  · split
    · rename_i x1 x2 x3 e4
      have h5 : Touches 0x208070000000040801010000002000000000000000000101e9c0be000000000000000000000000000000000000000000000000000000000000000000000000026000e17 s x3 := Touches.of_eq (fun d => d.2) e4 (Touches.step (State.dmaGet_touches ..) rfl (Touches.refl _ _))
      exact Touches.step (State.detFail_touches ..) rfl h5
    · rename_i x6 x7 x8 e9
      have h10 : Touches 0x208070000000040801010000002000000000000000000101e9c0be000000000000000000000000000000000000000000000000000000000000000000000000026000e17 s x8 := Touches.of_eq (fun d => d.2) e9 (Touches.step (State.dmaGet_touches ..) rfl (Touches.refl _ _))
      extract_lets -merge +onlyGivenNames x11
      clear_value x11
      refine Touches.ite2 ?_ ?_
      · exact Touches.step (State.detFail_touches ..) rfl h10
      · split
        · rename_i x12 x13 x14 e15
          have h16 : Touches 0x208070000000040801010000002000000000000000000101e9c0be000000000000000000000000000000000000000000000000000000000000000000000000026000e17 s x14 := Touches.of_eq (fun d => d.2) e15 (Touches.step (State.dmaGet_touches ..) rfl h10)
          exact Touches.step (State.detFail_touches ..) rfl h16
        · rename_i x17 x18 x19 e20
          have h21 : Touches 0x208070000000040801010000002000000000000000000101e9c0be000000000000000000000000000000000000000000000000000000000000000000000000026000e17 s x19 := Touches.of_eq (fun d => d.2) e20 (Touches.step (State.dmaGet_touches ..) rfl h10)
          extract_lets -merge +onlyGivenNames x22
          split
          exact Touches.step (State.detWrite_touches ..) rfl h21

theorem State.detItem_touches (s : State) (e i op us : Nat) (k : State → RunChain → List Byte → ItemRes × State) {m : Nat}
    (hm : 0x8070000000040801010000000000000000000000000d0801c0c0000000000000000000000000000000000000000000000000000000000000000000000000026001e17 ||| m = m) (hk : ∀ t r b, Touches m t (k t r b).2) : Touches m s (s.detItem e i op us k) :=
  State.runItem_touches _ _ _ _ _ _ (Touches.sub hm rfl) (fun t _ _ =>
    (State.raise_touches t _ _ (Touches.sub hm rfl) 299 (mask_bit hm rfl) grp_DET_MAX_US).trans (hk _ _ _))

end Sys2Proof.Machine
end

