-- ==== Sys2Proof/Laws/FrameMemExec.lean ====
section
/-! SUPPORT. What each operation of Machine/MemExec.lean can do: the parts of the state it touches (Touches). -/

-- One declaration at a time: many proofs at once would each hold a thread with a large stack.
set_option Elab.async false

namespace Sys2Proof.Machine

theorem State.memFacts_touches (s : State) (bad : Option Nat) (weak : Option Nat) (chan : Nat) (ns : Nat) : Touches 0x4000000000000000000000000000000000000000000000000000000000000000000000000000000000000401 s (State.memFacts s bad weak chan ns) := by
  unfold State.memFacts
  extract_lets -merge +onlyGivenNames x1
  extract_lets -merge +onlyGivenNames x2
  have h3 : Touches 0x4000000000000000000000000000000000000000000000000000000000000000000000000000000000000401 s x2 := by
    unfold x2
    split
    · refine Touches.ite ?_ ?_
      · exact Touches.refl _ _
      · exact Touches.setMmu (Touches.refl _ _) rfl
    · exact Touches.refl _ _
  clear_value x2
  clear_value x1
  extract_lets -merge +onlyGivenNames x4
  extract_lets -merge +onlyGivenNames x5
  have h6 : Touches 0x4000000000000000000000000000000000000000000000000000000000000000000000000000000000000401 s x5 := by
    unfold x5
    split
    · refine Touches.ite ?_ ?_
      · exact h3
      · exact Touches.setMmu h3 rfl
    · exact h3
  clear_value x5
  clear_value x4
  refine Touches.ite ?_ ?_
  · exact Touches.trans h6 (State.raise_touches _ _ _ rfl 319 rfl (grp_MEM_CH_LAT_MAX _))
  · exact h6

theorem State.walkFail_touches (s : State) (gi : Nat) (slot : Nat) : Touches 0x807000000004080000000000000000000000000000500000c081000000000000000000000000000000000000000000000000000000000000000000000000022008615 s (State.walkFail s gi slot) := by
  unfold State.walkFail
  split
  · exact Touches.refl _ _
  · extract_lets -merge +onlyGivenNames x1
    have h2 : Touches 0x807000000004080000000000000000000000000000500000c081000000000000000000000000000000000000000000000000000000000000000000000000022008615 s x1 := by unfold x1; exact Touches.step (State.txFail_touches ..) rfl (Touches.refl _ _)
    clear_value x1
    extract_lets -merge +onlyGivenNames x3
    extract_lets -merge +onlyGivenNames x4
    exact Touches.step (State.settleAll_touches ..) rfl (Touches.step (State.setGl_touches ..) rfl h2)

theorem execTransactionResponse_ends (gill : Nat) (slot : Nat) (walk : Bool) (bad : Option Nat) (weak : Option Nat) (chan : Nat) (ns : Nat) (ref : Nat) (retry : Nat) (s : State) : Ends 0x80700000000408010100001c000000000000000000500401c081000000000000000000000000000000000000000000000000000000000000000000000000026048617 s (execTransactionResponse gill slot walk bad weak chan ns ref retry s) := by
  unfold execTransactionResponse
  extract_lets -merge +onlyGivenNames x1
  have h2 : Touches 0x80700000000408010100001c000000000000000000500401c081000000000000000000000000000000000000000000000000000000000000000000000000026048617 s x1 := by unfold x1; exact Touches.step (State.twCount_touches ..) rfl (Touches.step (State.memFacts_touches ..) rfl (Touches.refl _ _))
  clear_value x1
  refine Ends.next ?_
  refine Touches.ite ?_ ?_
  · exact Touches.step (State.walkFail_touches ..) rfl h2
  · exact Touches.step (State.storeResponse_touches ..) rfl h2

theorem execGlobalLoadResponse_ends (gill : Nat) (slot : Nat) (ref : Nat) (retry : Nat) (s : State) : Ends 0x2080700000000408010100001c2000000000000000000001e9c081000000000000000000000000000000000000000000000000000000000000000000000000026048615 s (execGlobalLoadResponse gill slot ref retry s) := by
  unfold execGlobalLoadResponse
  refine Ends.next ?_
  refine Touches.step (State.loadResponse_touches ..) rfl ?_
  exact Touches.step (State.twCount_touches ..) rfl (Touches.refl _ _)

theorem execUnmap_ends (s : State) : Ends 0x8070000000040800000000000000000000000000000000000180000000000000000000000000000000000000000000000000000000102000000000000000022000695 s (execUnmap s) := by
  unfold execUnmap
  refine Ends.next ?_
  refine Touches.trans ?_ (State.regWrite_touches _ _ _ _ rfl ?_)
  · exact Touches.refl _ _
  · intro y1
    exact Touches.step (State.writeMmuOp_touches ..) rfl (Touches.refl _ _)

theorem execMapR_ends (s : State) : Ends 0x8070000000040800000000000000000000000000000000000180000000000000000000000000000000000000000000000000000000102000000000000000022000695 s (execMapR s) := by
  unfold execMapR
  refine Ends.next ?_
  refine Touches.trans ?_ (State.regWrite_touches _ _ _ _ rfl ?_)
  · exact Touches.refl _ _
  · intro y1
    exact Touches.step (State.writeMmuOp_touches ..) rfl (Touches.refl _ _)

theorem execMapRw_ends (s : State) : Ends 0x8070000000040800000000000000000000000000000000000180000000000000000000000000000000000000000000000000000000102000000000000000022000695 s (execMapRw s) := by
  unfold execMapRw
  refine Ends.next ?_
  refine Touches.trans ?_ (State.regWrite_touches _ _ _ _ rfl ?_)
  · exact Touches.refl _ _
  · intro y1
    exact Touches.step (State.writeMmuOp_touches ..) rfl (Touches.refl _ _)

theorem execMmuOpComplete_ends (s : State) : Ends 0x80000000000000000000000000000000000000000000000000000000000000000000000000000000401 s (execMmuOpComplete s) := by
  unfold execMmuOpComplete
  exact Ends.next (Touches.step (State.mmuOpDone_touches ..) rfl (Touches.refl _ _))

theorem execFaultRecordPop_ends (s : State) : Ends 0x8070000000040800000000000000000000000000000000020080000000000000000000000000000000000000000000000000000000102000000000000000022000695 s (execFaultRecordPop s) := by
  unfold execFaultRecordPop
  refine Ends.next ?_
  refine Touches.trans ?_ (State.regRead_touches _ _ _ rfl ?_)
  · exact Touches.refl _ _
  · intro y1
    exact Touches.step (State.fqPop_touches ..) rfl (Touches.refl _ _)

theorem execRefresh_ends (chan : Nat) (ns : Nat) (s : State) : Ends 0x2000000000000000000000000000000000000000000000000000000000000000000000000000000000000401 s (execRefresh chan ns s) := by
  unfold execRefresh
  refine Ends.next ?_
  refine Touches.ite ?_ ?_
  · exact Touches.step (State.refresh_touches ..) rfl (Touches.refl _ _)
  · exact Touches.refl _ _

theorem execZqCalibration_ends (chan : Nat) (s : State) : Ends 0x400 s (execZqCalibration chan s) := by
  unfold execZqCalibration
  refine Ends.next ?_
  refine Touches.ite ?_ ?_
  · exact Touches.step (State.zqCal_touches ..) rfl (Touches.refl _ _)
  · exact Touches.refl _ _

theorem execMr4Read_ends (chan : Nat) (range : Nat) (s : State) : Ends 0x8070000000040800000000000000000000000000000000100080000000000000000000000000000000000000000000000000000000000000000000000000022000611 s (execMr4Read chan range s) := by
  unfold execMr4Read
  refine Ends.next ?_
  refine Touches.ite ?_ ?_
  · exact Touches.step (State.mr4_touches ..) rfl (Touches.refl _ _)
  · exact Touches.refl _ _

theorem execDmaSubmit_ends (eng : Nat) (value : Nat) (s : State) : Ends 0x8070000000040800000000000000000000000000000148000000000000000000000000000000000000000000000000000000000000102000000000000000022001295 s (execDmaSubmit eng value s) := by
  unfold execDmaSubmit
  refine Ends.next ?_
  refine Touches.ite ?_ ?_
  · refine Touches.trans ?_ (State.regWrite_touches _ _ _ _ rfl ?_)
    · exact Touches.refl _ _
    · intro y1
      exact Touches.step (State.writeDmaHi_touches ..) rfl (Touches.refl _ _)
  · exact Touches.refl _ _

theorem execChainStart_ends (eng : Nat) (s : State) : Ends 0x208070000000040801010000002000000000000000005f09e9c080000000000000000000000000000000000000000000000000000000000000000000000000026003e17 s (execChainStart eng s) := by
  unfold execChainStart
  refine Ends.next ?_
  refine Touches.ite ?_ ?_
  · exact Touches.step (State.chainStart_touches ..) rfl (Touches.refl _ _)
  · exact Touches.refl _ _

theorem execCopy_ends (eng : Nat) (item : Nat) (s : State) : Ends 0x208070000000040801010000002000000000000000000d09e9c080000000000000000000000000000000000000000000000000000000000000000000000000026001e17 s (execCopy eng item s) := by
  unfold execCopy
  refine Ends.next ?_
  refine Touches.trans ?_ (State.runItem_touches _ _ _ _ _ _ rfl ?_)
  · exact Touches.refl _ _
  · intro y1
    intro y2
    intro y3
    exact Touches.step (State.copyItem_touches ..) rfl (Touches.refl _ _)

theorem execFill_ends (eng : Nat) (item : Nat) (s : State) : Ends 0x8070000000040801010000000000000000000000000d0801c080000000000000000000000000000000000000000000000000000000000000000000000000026001e17 s (execFill eng item s) := by
  unfold execFill
  refine Ends.next ?_
  refine Touches.trans ?_ (State.runItem_touches _ _ _ _ _ _ rfl ?_)
  · exact Touches.refl _ _
  · intro y1
    intro y2
    intro y3
    exact Touches.step (State.fillItem_touches ..) rfl (Touches.refl _ _)

theorem execCopy2d_ends (eng : Nat) (item : Nat) (s : State) : Ends 0x208070000000040801010000002000000000000000000d09e9c080000000000000000000000000000000000000000000000000000000000000000000000000026001e17 s (execCopy2d eng item s) := by
  unfold execCopy2d
  refine Ends.next ?_
  refine Touches.trans ?_ (State.runItem_touches _ _ _ _ _ _ rfl ?_)
  · exact Touches.refl _ _
  · intro y1
    intro y2
    intro y3
    exact Touches.step (State.copy2dItem_touches ..) rfl (Touches.refl _ _)

theorem execSignal_ends (eng : Nat) (item : Nat) (s : State) : Ends 0x8070000000040801010000000000000000000000005d0801c080000000000000000000000000000000000000000000000000000000000000000000000000026001e17 s (execSignal eng item s) := by
  unfold execSignal
  refine Ends.next ?_
  refine Touches.trans ?_ (State.runItem_touches _ _ _ _ _ _ rfl ?_)
  · exact Touches.refl _ _
  · intro y1
    intro y2
    intro y3
    exact Touches.step (State.signalItem_touches ..) rfl (Touches.refl _ _)

theorem execChainEnd_ends (eng : Nat) (s : State) : Ends 0x8070000000040800000000000000000000000000005208000000000000000000000000000000000000000000000000000000000000000000000000000000022003215 s (execChainEnd eng s) := by
  unfold execChainEnd
  refine Ends.next ?_
  refine Touches.ite ?_ ?_
  · exact Touches.step (State.chainEnd_touches ..) rfl (Touches.refl _ _)
  · exact Touches.refl _ _

theorem execDmaAbort_ends (eng : Nat) (part : List (Nat × Nat)) (s : State) : Ends 0x208070000000040801010000002000000000000000005f09e9c080000000000000000000000000000000000000000000000000000000102000000000000000026003e97 s (execDmaAbort eng part s) := by
  unfold execDmaAbort
  refine Ends.next ?_
  refine Touches.ite ?_ ?_
  · refine Touches.trans ?_ (State.regWrite_touches _ _ _ _ rfl ?_)
    · exact Touches.refl _ _
    · intro y1
      exact Touches.step (State.dmaAbort_touches ..) rfl (Touches.refl _ _)
  · exact Touches.refl _ _

theorem execBoxdec_ends (eng : Nat) (item : Nat) (us : Nat) (s : State) : Ends 0x208070000000040801010000002000000000000000000d09e9c0fe000000000000000000000000000000000000000000000000000000000000000000000000026001e17 s (execBoxdec eng item us s) := by
  unfold execBoxdec
  refine Ends.next ?_
  refine Touches.trans ?_ (State.detItem_touches _ _ _ _ _ _ rfl ?_)
  · exact Touches.refl _ _
  · intro y1
    intro y2
    intro y3
    exact Touches.step (State.boxdecItem_touches ..) rfl (Touches.refl _ _)

theorem execNms_ends (eng : Nat) (item : Nat) (us : Nat) (s : State) : Ends 0x208070000000040801010000002000000000000000000d09e9c0fe000000000000000000000000000000000000000000000000000000000000000000000000026001e17 s (execNms eng item us s) := by
  unfold execNms
  refine Ends.next ?_
  refine Touches.trans ?_ (State.detItem_touches _ _ _ _ _ _ rfl ?_)
  · exact Touches.refl _ _
  · intro y1
    intro y2
    intro y3
    exact Touches.step (State.nmsItem_touches ..) rfl (Touches.refl _ _)

theorem execSyncAdd_ends (cell : Nat) (value : Nat) (s : State) : Ends 0x8070000000040800000000000000000000000000005000000000000000000000000000000000000000000000000000000000000000102000000000000000022000295 s (execSyncAdd cell value s) := by
  unfold execSyncAdd
  refine Ends.next ?_
  refine Touches.ite ?_ ?_
  · refine Touches.trans ?_ (State.regWrite_touches _ _ _ _ rfl ?_)
    · exact Touches.refl _ _
    · intro y1
      exact Touches.step (State.hostCellAdd_touches ..) rfl (Touches.refl _ _)
  · exact Touches.refl _ _

theorem execSyncReset_ends (cell : Nat) (s : State) : Ends 0x8070000000040800000000000000000000000000005000000000000000000000000000000000000000000000000000000000000000102000000000000000022000295 s (execSyncReset cell s) := by
  unfold execSyncReset
  refine Ends.next ?_
  refine Touches.ite ?_ ?_
  · refine Touches.trans ?_ (State.regWrite_touches _ _ _ _ rfl ?_)
    · exact Touches.refl _ _
    · intro y1
      exact Touches.step (State.cellReset_touches ..) rfl (Touches.refl _ _)
  · exact Touches.refl _ _

theorem execSyncGrant_ends (cell : Nat) (s : State) : Ends 0x500000000100000000000000000000000000000000000000000000000000000000000000000000000000000c001 s (execSyncGrant cell s) := by
  unfold execSyncGrant
  exact Ends.next (Touches.step (State.syncGrant_touches ..) rfl (Touches.refl _ _))

end Sys2Proof.Machine
end

