-- ==== Sys2Proof/Laws/FrameEncoder.lean ====
section
/-! SUPPORT. What each operation of Machine/Encoder.lean can do: the parts of the state it touches (Touches). -/

-- One declaration at a time: many proofs at once would each hold a thread with a large stack.
set_option Elab.async false

namespace Sys2Proof.Machine

theorem State.publish_touches (s : State) (c : Nat) (v : Speed) : Touches 0x8070000000040800000000000000000000000000000000000000000000000000000000000000000000018000000000000000000000000004000000000180022080211 s (State.publish s c v) := by
  unfold State.publish
  extract_lets -merge +onlyGivenNames x1
  clear_value x1
  extract_lets -merge +onlyGivenNames x2
  have h3 : Touches 0x8070000000040800000000000000000000000000000000000000000000000000000000000000000000018000000000000000000000000004000000000180022080211 s x2 := by unfold x2; exact Touches.step (State.setCh_touches ..) rfl (Touches.refl _ _)
  clear_value x2
  extract_lets -merge +onlyGivenNames x4
  have h5 : Touches 0x8070000000040800000000000000000000000000000000000000000000000000000000000000000000018000000000000000000000000004000000000180022080211 s x4 := by unfold x4; exact Touches.trans h3 (State.setF_touches _ _ _ rfl 164 rfl (grp_MOT_CH_SPEED _))
  clear_value x4
  refine Touches.step (State.convertNow_touches ..) rfl ?_
  exact Touches.trans h5 (State.setB_touches _ _ _ rfl 165 rfl (grp_MOT_CH_STATUS _))

theorem State.periodUpdate_touches (s : State) (c : Nat) : Touches 0x8070000000040800000000000000000000000000000000000000000000000000000000000000000000018000000000000000000000000004000000000180022080211 s (State.periodUpdate s c) := by
  unfold State.periodUpdate
  extract_lets -merge +onlyGivenNames x1
  clear_value x1
  extract_lets -merge +onlyGivenNames x2
  clear_value x2
  extract_lets -merge +onlyGivenNames x3
  have h4 : Touches 0x8070000000040800000000000000000000000000000000000000000000000000000000000000000000018000000000000000000000000004000000000180022080211 s x3 := by unfold x3; exact Touches.step (State.setCh_touches ..) rfl (Touches.refl _ _)
  clear_value x3
  refine Touches.ite ?_ ?_
  · exact h4
  · extract_lets -merge +onlyGivenNames x5
    have h6 : Touches 0x8070000000040800000000000000000000000000000000000000000000000000000000000000000000018000000000000000000000000004000000000180022080211 s x5 := by unfold x5; exact Touches.step (State.publish_touches ..) rfl h4
    clear_value x5
    refine Touches.ite ?_ ?_
    · exact Touches.step (State.setCh_touches ..) rfl h6
    · exact h6

theorem State.gateDone_touches (s : State) (c : Nat) : Touches 0x8070000000040800000000000000000000000000000000000000000000000000000000000000000000018000000000000000000000000004000000000180022080211 s (State.gateDone s c) := by
  unfold State.gateDone
  extract_lets -merge +onlyGivenNames x1
  clear_value x1
  extract_lets -merge +onlyGivenNames x2
  clear_value x2
  extract_lets -merge +onlyGivenNames x3
  have h4 : Touches 0x8070000000040800000000000000000000000000000000000000000000000000000000000000000000018000000000000000000000000004000000000180022080211 s x3 := by unfold x3; exact Touches.step (State.setCh_touches ..) rfl (Touches.refl _ _)
  clear_value x3
  extract_lets -merge +onlyGivenNames x5
  clear_value x5
  extract_lets -merge +onlyGivenNames x6
  have h7 : Touches 0x8070000000040800000000000000000000000000000000000000000000000000000000000000000000018000000000000000000000000004000000000180022080211 s x6 := by
    unfold x6
    refine Touches.ite ?_ ?_
    · refine Touches.step (State.setCh_touches ..) rfl ?_
      exact Touches.trans h4 (State.setB_touches _ _ _ rfl 165 rfl (grp_MOT_CH_STATUS _))
    · exact h4
  clear_value x6
  refine Touches.ite ?_ ?_
  · extract_lets -merge +onlyGivenNames x8
    have h9 : Touches 0x8070000000040800000000000000000000000000000000000000000000000000000000000000000000018000000000000000000000000004000000000180022080211 s x8 := by unfold x8; exact Touches.step (State.publish_touches ..) rfl h7
    clear_value x8
    refine Touches.ite ?_ ?_
    · refine Touches.step (State.publish_touches ..) rfl ?_
      exact Touches.trans h9 (State.setB_touches _ _ _ rfl 165 rfl (grp_MOT_CH_STATUS _))
    · exact h9
  · exact h7

theorem State.wakeMotion_touches (s : State) (c : Nat) : Touches 0x2000000000000000000000081 s (State.wakeMotion s c) := by
  unfold State.wakeMotion
  extract_lets -merge +onlyGivenNames x1
  clear_value x1
  extract_lets -merge +onlyGivenNames x2
  clear_value x2
  refine Touches.ite ?_ ?_
  · extract_lets -merge +onlyGivenNames x3
    clear_value x3
    extract_lets -merge +onlyGivenNames x4
    clear_value x4
    extract_lets -merge +onlyGivenNames x5
    have h6 : Touches 0x2000000000000000000000081 s x5 := by unfold x5; exact Touches.setMode (Touches.refl _ _) rfl
    clear_value x5
    refine Touches.ite ?_ ?_
    · exact Touches.step (State.wake_touches ..) rfl h6
    · exact h6
  · exact Touches.refl _ _

theorem State.backJudge_touches (s : State) (c : Nat) : Touches 0x8070000000040800000000000000000000000000000000000000000000000000500000000040000001010000000000000000000000000004000000000000022080231 s (State.backJudge s c) := by
  unfold State.backJudge
  extract_lets -merge +onlyGivenNames x1
  clear_value x1
  extract_lets -merge +onlyGivenNames x2
  clear_value x2
  extract_lets -merge +onlyGivenNames x3
  have h4 : Touches 0x8070000000040800000000000000000000000000000000000000000000000000500000000040000001010000000000000000000000000004000000000000022080231 s x3 := by unfold x3; exact State.setB_touches _ _ _ rfl 165 rfl (grp_MOT_CH_STATUS _)
  clear_value x3
  refine Touches.ite ?_ ?_
  · extract_lets -merge +onlyGivenNames x5
    have h6 : Touches 0x8070000000040800000000000000000000000000000000000000000000000000500000000040000001010000000000000000000000000004000000000000022080231 s x5 := by
      unfold x5
      refine Touches.step (State.chReport_touches ..) rfl ?_
      exact Touches.trans h4 (State.inc_touches _ _ _ rfl 173 rfl (grp_MOT_CH_CNT_REV _))
    clear_value x5
    extract_lets -merge +onlyGivenNames x7
    clear_value x7
    extract_lets -merge +onlyGivenNames x8
    have h9 : Touches 0x8070000000040800000000000000000000000000000000000000000000000000500000000040000001010000000000000000000000000004000000000000022080231 s x8 := by unfold x8; exact Touches.step (State.ejBackward_touches ..) rfl (Touches.step (State.setCh_touches ..) rfl h6)
    clear_value x8
    refine Touches.ite ?_ ?_
    · exact Touches.step (State.evtPush_touches ..) rfl h9
    · exact h9
  · exact h4

theorem State.moved_touches (s : State) (c : Nat) : Touches 0x2080700000000408000000202080000000000406c941500000000100200000000052000000004a07f4010100010100700402000000000020048000e80001800261ec2f5 s (State.moved s c) := by
  unfold State.moved
  extract_lets -merge +onlyGivenNames x1
  have h2 : Touches 0x2080700000000408000000202080000000000406c941500000000100200000000052000000004a07f4010100010100700402000000000020048000e80001800261ec2f5 s x1 := by unfold x1; exact Touches.step (State.backJudge_touches ..) rfl (Touches.refl _ _)
  clear_value x1
  extract_lets -merge +onlyGivenNames x3
  have h4 : Touches 0x2080700000000408000000202080000000000406c941500000000100200000000052000000004a07f4010100010100700402000000000020048000e80001800261ec2f5 s x3 := by unfold x3; exact Touches.step (State.wakeMotion_touches ..) rfl h2
  clear_value x3
  extract_lets -merge +onlyGivenNames x5
  have h6 : Touches 0x2080700000000408000000202080000000000406c941500000000100200000000052000000004a07f4010100010100700402000000000020048000e80001800261ec2f5 s x5 := by unfold x5; exact Touches.step (State.markCheck_touches ..) rfl h4
  clear_value x5
  extract_lets -merge +onlyGivenNames x7
  have h8 : Touches 0x2080700000000408000000202080000000000406c941500000000100200000000052000000004a07f4010100010100700402000000000020048000e80001800261ec2f5 s x7 := by unfold x7; exact Touches.step (State.advanceAll_touches ..) rfl h6
  clear_value x7
  exact Touches.step (State.ejAll_touches ..) rfl (Touches.step (State.revCheck_touches ..) rfl h8)

theorem State.jumpX_touches (s : State) (c : Nat) (v : Nat) : Touches 0x1800000000000000000000000000000000000000000000081 s (State.jumpX s c v) := by
  unfold State.jumpX
  extract_lets -merge +onlyGivenNames x1
  clear_value x1
  extract_lets -merge +onlyGivenNames x2
  have h3 : Touches 0x1800000000000000000000000000000000000000000000081 s x2 := by unfold x2; exact Touches.step (State.setX_touches ..) rfl (Touches.refl _ _)
  clear_value x2
  exact Touches.setMode h3 rfl

theorem State.addX_touches (s : State) (c : Nat) (i : Int) : Touches 0x7800000000000000000000000000000000000000000000001 s (State.addX s c i) := by
  unfold State.addX
  extract_lets -merge +onlyGivenNames x1
  clear_value x1
  extract_lets -merge +onlyGivenNames x2
  have h3 : Touches 0x7800000000000000000000000000000000000000000000001 s x2 := by unfold x2; exact Touches.step (State.setX_touches ..) rfl (Touches.refl _ _)
  clear_value x2
  refine Touches.ite ?_ ?_
  · exact Touches.step (State.setE_touches ..) rfl h3
  · exact h3

theorem State.step1_touches (s : State) (c : Nat) (up : Bool) : Touches 0x7800000000000000000000000000000000000000000080001 s (State.step1 s c up) := by
  unfold State.step1
  extract_lets -merge +onlyGivenNames x1
  clear_value x1
  extract_lets -merge +onlyGivenNames x2
  clear_value x2
  exact Touches.step (State.addX_touches ..) rfl (Touches.step (State.setCh_touches ..) rfl (Touches.refl _ _))

theorem State.glitch_touches (s : State) (c : Nat) : Touches 0x80000000000000000000000000000000000000100000080001 s (State.glitch s c) := by
  unfold State.glitch
  extract_lets -merge +onlyGivenNames x1
  have h2 : Touches 0x80000000000000000000000000000000000000100000080001 s x1 := by unfold x1; exact State.inc_touches _ _ _ rfl 168 rfl (grp_MOT_CH_CNT_GLITCH _)
  clear_value x1
  exact Touches.step (State.glitchEvent_touches ..) rfl (Touches.step (State.setCh_touches ..) rfl h2)

theorem State.quadError_touches (s : State) (c : Nat) (was : Nat) (now_ : Nat) : Touches 0x8070000000040800000000000000000000000000000000000000000000000000000000000000000000290000000000000000000000000004000000000100022080215 s (State.quadError s c was now_) := by
  unfold State.quadError
  refine Touches.step (State.chLimited_touches ..) rfl ?_
  exact Touches.step (State.glitch_touches ..) rfl (State.inc_touches _ _ _ rfl 170 rfl (grp_MOT_CH_CNT_QUAD _))

theorem State.indexLatch_touches (s : State) (c : Nat) : Touches 0x8070000000040800000000000000000000000000000000000000000000000000500000000040000000470000000000000000000000000004000000000000022080231 s (State.indexLatch s c) := by
  unfold State.indexLatch
  extract_lets -merge +onlyGivenNames x1
  clear_value x1
  extract_lets -merge +onlyGivenNames x2
  clear_value x2
  extract_lets -merge +onlyGivenNames x3
  clear_value x3
  extract_lets -merge +onlyGivenNames x4
  have h5 : Touches 0x8070000000040800000000000000000000000000000000000000000000000000500000000040000000470000000000000000000000000004000000000000022080231 s x4 := by
    unfold x4
    refine Touches.trans ?_ (State.setB_touches _ _ _ rfl 165 rfl (grp_MOT_CH_STATUS _))
    exact State.setPair_touches _ _ _ _ rfl 166 rfl (grp_MOT_CH_IDX_LO _) 167 rfl (grp_MOT_CH_IDX_HI _)
  clear_value x4
  extract_lets -merge +onlyGivenNames x6
  clear_value x6
  extract_lets -merge +onlyGivenNames x7
  have h8 : Touches 0x8070000000040800000000000000000000000000000000000000000000000000500000000040000000470000000000000000000000000004000000000000022080231 s x7 := by
    unfold x7
    refine Touches.ite ?_ ?_
    · refine Touches.step (State.chReport_touches ..) rfl ?_
      exact Touches.trans h5 (State.inc_touches _ _ _ rfl 171 rfl (grp_MOT_CH_CNT_INDEX _))
    · exact h5
  clear_value x7
  extract_lets -merge +onlyGivenNames x9
  clear_value x9
  extract_lets -merge +onlyGivenNames x10
  have h11 : Touches 0x8070000000040800000000000000000000000000000000000000000000000000500000000040000000470000000000000000000000000004000000000000022080231 s x10 := by unfold x10; exact Touches.step (State.setCh_touches ..) rfl h8
  clear_value x10
  extract_lets -merge +onlyGivenNames x12
  clear_value x12
  refine Touches.ite ?_ ?_
  · exact Touches.step (State.evtPush_touches ..) rfl h11
  · exact h11

theorem State.decode_touches (s : State) (c : Nat) (was : Nat) (lv : Nat) : Touches 0x2080700000000408000000202080000000000406c941500000000100200000000052000000004a07f4016ff8010100700402000000000020048000e80001800261ec2f5 s (State.decode s c was lv) := by
  unfold State.decode
  refine Touches.ite ?_ ?_
  · exact Touches.refl _ _
  · refine Touches.ite ?_ ?_
    · extract_lets -merge +onlyGivenNames x1
      clear_value x1
      extract_lets -merge +onlyGivenNames x2
      have h3 : Touches 0x2080700000000408000000202080000000000406c941500000000100200000000052000000004a07f4016ff8010100700402000000000020048000e80001800261ec2f5 s x2 := by
        unfold x2
        refine Touches.ite ?_ ?_
        · exact Touches.refl _ _
        · refine Touches.ite ?_ ?_
          · exact Touches.step (State.quadError_touches ..) rfl (Touches.refl _ _)
          · exact Touches.step (State.periodUpdate_touches ..) rfl (Touches.step (State.step1_touches ..) rfl (Touches.refl _ _))
      clear_value x2
      extract_lets -merge +onlyGivenNames x4
      clear_value x4
      extract_lets -merge +onlyGivenNames x5
      have h6 : Touches 0x2080700000000408000000202080000000000406c941500000000100200000000052000000004a07f4016ff8010100700402000000000020048000e80001800261ec2f5 s x5 := by unfold x5; exact Touches.step (State.moved_touches ..) rfl h3
      clear_value x5
      refine Touches.ite ?_ ?_
      · exact Touches.step (State.indexLatch_touches ..) rfl h6
      · exact h6
    · refine Touches.ite ?_ ?_
      · refine Touches.ite ?_ ?_
        · exact Touches.refl _ _
        · extract_lets -merge +onlyGivenNames x7
          clear_value x7
          split
          · extract_lets -merge +onlyGivenNames x8
            clear_value x8
            refine Touches.ite ?_ ?_
            · extract_lets -merge +onlyGivenNames x9
              have h10 : Touches 0x2080700000000408000000202080000000000406c941500000000100200000000052000000004a07f4016ff8010100700402000000000020048000e80001800261ec2f5 s x9 := by unfold x9; exact Touches.step (State.setCh_touches ..) rfl (Touches.refl _ _)
              clear_value x9
              refine Touches.step (State.moved_touches ..) rfl ?_
              exact Touches.step (State.periodUpdate_touches ..) rfl (Touches.step (State.step1_touches ..) rfl h10)
            · refine Touches.ite ?_ ?_
              · exact Touches.refl _ _
              · exact Touches.step (State.quadError_touches ..) rfl (Touches.step (State.setCh_touches ..) rfl (Touches.refl _ _))
          · exact Touches.step (State.quadError_touches ..) rfl (Touches.step (State.setCh_touches ..) rfl (Touches.refl _ _))
          · exact Touches.step (State.setCh_touches ..) rfl (Touches.refl _ _)
          · exact Touches.step (State.quadError_touches ..) rfl (Touches.refl _ _)
      · exact Touches.refl _ _

theorem State.edges_touches (s : State) (c : Nat) (mask : Nat) (held : Nat) : Touches 0x2080700000000408000000202080000000000406c941500000000100200000000052000000004a07f4016ff8010100700402000000000020048000e80001800261ec2f5 s (State.edges s c mask held) := by
  unfold State.edges
  refine Touches.ite ?_ ?_
  · exact Touches.refl _ _
  · extract_lets -merge +onlyGivenNames x1
    clear_value x1
    extract_lets -merge +onlyGivenNames x2
    clear_value x2
    extract_lets -merge +onlyGivenNames x3
    refine Touches.ite ?_ ?_
    · exact Touches.refl _ _
    · extract_lets -merge +onlyGivenNames x4
      clear_value x4
      extract_lets -merge +onlyGivenNames x5
      clear_value x5
      extract_lets -merge +onlyGivenNames x6
      have h7 : Touches 0x2080700000000408000000202080000000000406c941500000000100200000000052000000004a07f4016ff8010100700402000000000020048000e80001800261ec2f5 s x6 := by unfold x6; exact Touches.step (State.setCh_touches ..) rfl (Touches.refl _ _)
      clear_value x6
      clear_value x3
      extract_lets -merge +onlyGivenNames x8
      have h9 : Touches 0x2080700000000408000000202080000000000406c941500000000100200000000052000000004a07f4016ff8010100700402000000000020048000e80001800261ec2f5 s x8 := by
        unfold x8
        refine Touches.trans ?_ (State.setF_touches _ _ _ rfl 165 rfl (grp_MOT_CH_STATUS _))
        exact Touches.trans h7 (State.setF_touches _ _ _ rfl 165 rfl (grp_MOT_CH_STATUS _))
      clear_value x8
      exact Touches.step (State.decode_touches ..) rfl h9

theorem State.glitchFault_touches (s : State) (c : Nat) : Touches 0x8070000000040800000000000000000000000000000000000000000000000000000000000000000000090000000000000000000000000004000000000100022080215 s (State.glitchFault s c) := by
  unfold State.glitchFault
  refine Touches.ite ?_ ?_
  · exact Touches.refl _ _
  · exact Touches.step (State.chLimited_touches ..) rfl (Touches.step (State.glitch_touches ..) rfl (Touches.refl _ _))

theorem State.serialReject_touches (s : State) (c : Nat) (sts : Nat) (detail : Nat) : Touches 0x8070000000040800000000000000000000000000000000000000000000000000000000000000000000898000000000000000000000000004000000000180022080215 s (State.serialReject s c sts detail) := by
  unfold State.serialReject
  extract_lets -merge +onlyGivenNames x1
  have h2 : Touches 0x8070000000040800000000000000000000000000000000000000000000000000000000000000000000898000000000000000000000000004000000000180022080215 s x1 := by
    unfold x1
    refine Touches.step (State.chLimited_touches ..) rfl ?_
    exact Touches.step (State.glitch_touches ..) rfl (State.inc_touches _ _ _ rfl 172 rfl (grp_MOT_CH_CNT_SER _))
  clear_value x1
  extract_lets -merge +onlyGivenNames x3
  clear_value x3
  extract_lets -merge +onlyGivenNames x4
  clear_value x4
  extract_lets -merge +onlyGivenNames x5
  have h6 : Touches 0x8070000000040800000000000000000000000000000000000000000000000000000000000000000000898000000000000000000000000004000000000180022080215 s x5 := by unfold x5; exact Touches.step (State.setCh_touches ..) rfl h2
  clear_value x5
  refine Touches.ite ?_ ?_
  · refine Touches.step (State.publish_touches ..) rfl ?_
    refine Touches.step (State.chReport_touches ..) rfl ?_
    exact Touches.trans h6 (State.setB_touches _ _ _ rfl 165 rfl (grp_MOT_CH_STATUS _))
  · exact h6

theorem State.serialAccept_touches (s : State) (c : Nat) (pos : Nat) (first : Bool) (delta : Int) (at_ : Nat) : Touches 0x2080700000000408000000202080000000000406c941500000000100200000000052000000004a07f40101f8010100700402000000000020048000e80001800261ec2f5 s (State.serialAccept s c pos first delta at_) := by
  unfold State.serialAccept
  extract_lets -merge +onlyGivenNames x1
  have h2 : Touches 0x2080700000000408000000202080000000000406c941500000000100200000000052000000004a07f40101f8010100700402000000000020048000e80001800261ec2f5 s x1 := by
    unfold x1
    refine Touches.ite ?_ ?_
    · exact Touches.step (State.setE_touches ..) rfl (Touches.step (State.jumpX_touches ..) rfl (Touches.refl _ _))
    · exact Touches.step (State.addX_touches ..) rfl (Touches.refl _ _)
  clear_value x1
  extract_lets -merge +onlyGivenNames x3
  clear_value x3
  extract_lets -merge +onlyGivenNames x4
  clear_value x4
  extract_lets -merge +onlyGivenNames x5
  have h6 : Touches 0x2080700000000408000000202080000000000406c941500000000100200000000052000000004a07f40101f8010100700402000000000020048000e80001800261ec2f5 s x5 := by unfold x5; exact Touches.step (State.setCh_touches ..) rfl h2
  clear_value x5
  extract_lets -merge +onlyGivenNames x7
  have h8 : Touches 0x2080700000000408000000202080000000000406c941500000000100200000000052000000004a07f40101f8010100700402000000000020048000e80001800261ec2f5 s x7 := by
    unfold x7
    refine Touches.ite ?_ ?_
    · exact Touches.trans h6 (State.setB_touches _ _ _ rfl 165 rfl (grp_MOT_CH_STATUS _))
    · exact h6
  clear_value x7
  exact Touches.step (State.moved_touches ..) rfl (Touches.step (State.publish_touches ..) rfl h8)

theorem State.serialReading_touches (s : State) (c : Nat) (f : SerialFrame) : Touches 0x2080700000000408000000202080000000000406c941500000000100200000000052000000004a07f42189f8010100700402000000000020048000e80001800261ec2f5 s (State.serialReading s c f) := by
  unfold State.serialReading
  refine Touches.ite ?_ ?_
  · exact Touches.refl _ _
  · extract_lets -merge +onlyGivenNames x1
    have h2 : Touches 0x2080700000000408000000202080000000000406c941500000000100200000000052000000004a07f42189f8010100700402000000000020048000e80001800261ec2f5 s x1 := by
      unfold x1
      refine Touches.ite ?_ ?_
      · exact State.setF_touches _ _ _ rfl 178 rfl (grp_MOT_CH_SER_DLY _)
      · exact Touches.refl _ _
    clear_value x1
    split
    · exact Touches.step (State.serialReject_touches ..) rfl h2
    · extract_lets -merge +onlyGivenNames x3
      clear_value x3
      extract_lets -merge +onlyGivenNames x4
      clear_value x4
      extract_lets -merge +onlyGivenNames x5
      clear_value x5
      refine Touches.ite ?_ ?_
      · exact Touches.step (State.serialReject_touches ..) rfl h2
      · extract_lets -merge +onlyGivenNames x6
        have h7 : Touches 0x2080700000000408000000202080000000000406c941500000000100200000000052000000004a07f42189f8010100700402000000000020048000e80001800261ec2f5 s x6 := by
          unfold x6
          refine Touches.ite ?_ ?_
          · exact Touches.trans h2 (State.inc_touches _ _ _ rfl 172 rfl (grp_MOT_CH_CNT_SER _))
          · exact h2
        clear_value x6
        exact Touches.step (State.serialAccept_touches ..) rfl h7

theorem State.serialPoll_touches (s : State) (c : Nat) : Touches 0x20000000 s (State.serialPoll s c) := by
  unfold State.serialPoll
  refine Touches.ite ?_ ?_
  · exact Touches.step (State.emit_touches ..) rfl (Touches.refl _ _)
  · exact Touches.refl _ _

theorem State.disagree_touches (s : State) (c : Nat) (k : Nat) : Touches 0x8070000000040800000000000000000000000000000000000000000000000000000000000000000000110000000000000000000000000004000000000100022080215 s (State.disagree s c k) := by
  unfold State.disagree
  extract_lets -merge +onlyGivenNames x1
  clear_value x1
  extract_lets -merge +onlyGivenNames x2
  clear_value x2
  refine Touches.ite ?_ ?_
  · exact Touches.refl _ _
  · extract_lets -merge +onlyGivenNames x3
    have h4 : Touches 0x8070000000040800000000000000000000000000000000000000000000000000000000000000000000110000000000000000000000000004000000000100022080215 s x3 := by unfold x3; exact Touches.step (State.setCh_touches ..) rfl (Touches.refl _ _)
    clear_value x3
    extract_lets -merge +onlyGivenNames x5
    have h6 : Touches 0x8070000000040800000000000000000000000000000000000000000000000000000000000000000000110000000000000000000000000004000000000100022080215 s x5 := by
      unfold x5
      refine Touches.trans ?_ (State.inc_touches _ _ _ rfl 169 rfl (grp_MOT_CH_CNT_WIRE _))
      exact Touches.trans h4 (State.setB_touches _ _ _ rfl 165 rfl (grp_MOT_CH_STATUS _))
    clear_value x5
    exact Touches.step (State.chLimited_touches ..) rfl (Touches.step (State.wireEvent_touches ..) rfl h6)

theorem State.agree_touches (s : State) (c : Nat) (k : Nat) : Touches 0x80000 s (State.agree s c k) := by
  unfold State.agree
  extract_lets -merge +onlyGivenNames x1
  clear_value x1
  extract_lets -merge +onlyGivenNames x2
  clear_value x2
  exact Touches.step (State.setCh_touches ..) rfl (Touches.refl _ _)

theorem State.wireFault_touches (s : State) (c : Nat) (k : Nat) : Touches 0x8070000000040800000000000000000000000000000000000000000000000000000000000000000000018000000000000000000000000004800000000180022080251 s (State.wireFault s c k) := by
  unfold State.wireFault
  extract_lets -merge +onlyGivenNames x1
  clear_value x1
  refine Touches.ite ?_ ?_
  · exact Touches.refl _ _
  · extract_lets -merge +onlyGivenNames x2
    have h3 : Touches 0x8070000000040800000000000000000000000000000000000000000000000000000000000000000000018000000000000000000000000004800000000180022080251 s x2 := by unfold x2; exact Touches.step (State.setCh_touches ..) rfl (Touches.refl _ _)
    clear_value x2
    extract_lets -merge +onlyGivenNames x4
    have h5 : Touches 0x8070000000040800000000000000000000000000000000000000000000000000000000000000000000018000000000000000000000000004800000000180022080251 s x4 := by
      unfold x4
      refine Touches.step (State.chReport_touches ..) rfl ?_
      exact Touches.trans h3 (State.setB_touches _ _ _ rfl 165 rfl (grp_MOT_CH_STATUS _))
    clear_value x4
    extract_lets -merge +onlyGivenNames x6
    have h7 : Touches 0x8070000000040800000000000000000000000000000000000000000000000000000000000000000000018000000000000000000000000004800000000180022080251 s x6 := by unfold x6; exact Touches.step (State.publish_touches ..) rfl h5
    clear_value x6
    refine Touches.ite ?_ ?_
    · exact Touches.step (State.lineStop_touches ..) rfl h7
    · exact h7

theorem State.wireHeal_touches (s : State) (c : Nat) (k : Nat) : Touches 0x10000000000000000000000000000000000000000000080001 s (State.wireHeal s c k) := by
  unfold State.wireHeal
  extract_lets -merge +onlyGivenNames x1
  clear_value x1
  extract_lets -merge +onlyGivenNames x2
  clear_value x2
  refine Touches.ite ?_ ?_
  · exact Touches.refl _ _
  · extract_lets -merge +onlyGivenNames x3
    clear_value x3
    refine Touches.ite ?_ ?_
    · refine Touches.trans ?_ (State.setB_touches _ _ _ rfl 165 rfl (grp_MOT_CH_STATUS _))
      exact Touches.step (State.setCh_touches ..) rfl (Touches.refl _ _)
    · exact Touches.step (State.setCh_touches ..) rfl (Touches.refl _ _)

theorem State.chRefuse_touches (s : State) (c : Nat) (off : Nat) : Touches 0x8070000000040800000000000000000000000000000000000000000000000000000000000000000000010000000000000000000000000004000000000000022080211 s (State.chRefuse s c off) := by
  unfold State.chRefuse
  exact Touches.step (State.chReport_touches ..) rfl (Touches.refl _ _)

theorem State.chEnable_touches (s : State) (c : Nat) : Touches 0x2080700000000408000000202080000000000406c941500000000100200000000052000000004a07f40101e0010100700402000000000020048000e80001800261ec2f5 s (State.chEnable s c) := by
  unfold State.chEnable
  extract_lets -merge +onlyGivenNames x1
  clear_value x1
  extract_lets -merge +onlyGivenNames x2
  have h3 : Touches 0x2080700000000408000000202080000000000406c941500000000100200000000052000000004a07f40101e0010100700402000000000020048000e80001800261ec2f5 s x2 := by unfold x2; exact Touches.step (State.setE_touches ..) rfl (Touches.refl _ _)
  clear_value x2
  extract_lets -merge +onlyGivenNames x4
  have h5 : Touches 0x2080700000000408000000202080000000000406c941500000000100200000000052000000004a07f40101e0010100700402000000000020048000e80001800261ec2f5 s x4 := by
    unfold x4
    refine Touches.trans ?_ (State.setB_touches _ _ _ rfl 165 rfl (grp_MOT_CH_STATUS _))
    refine Touches.trans ?_ (State.setB_touches _ _ _ rfl 165 rfl (grp_MOT_CH_STATUS _))
    exact Touches.trans h3 (State.setB_touches _ _ _ rfl 165 rfl (grp_MOT_CH_STATUS _))
  clear_value x4
  extract_lets -merge +onlyGivenNames x6
  clear_value x6
  refine Touches.step (State.moved_touches ..) rfl ?_
  exact Touches.step (State.publish_touches ..) rfl (Touches.step (State.setCh_touches ..) rfl h5)

theorem State.chDisable_touches (s : State) (c : Nat) : Touches 0x8070000000040800000000000000000000000000000000000000000000000000000000000000000000018000000000000000000000000004000000000180022080211 s (State.chDisable s c) := by
  unfold State.chDisable
  extract_lets -merge +onlyGivenNames x1
  clear_value x1
  extract_lets -merge +onlyGivenNames x2
  have h3 : Touches 0x8070000000040800000000000000000000000000000000000000000000000000000000000000000000018000000000000000000000000004000000000180022080211 s x2 := by unfold x2; exact Touches.step (State.setCh_touches ..) rfl (Touches.refl _ _)
  clear_value x2
  extract_lets -merge +onlyGivenNames x4
  have h5 : Touches 0x8070000000040800000000000000000000000000000000000000000000000000000000000000000000018000000000000000000000000004000000000180022080211 s x4 := by
    unfold x4
    refine Touches.trans ?_ (State.setB_touches _ _ _ rfl 165 rfl (grp_MOT_CH_STATUS _))
    exact Touches.trans h3 (State.setB_touches _ _ _ rfl 165 rfl (grp_MOT_CH_STATUS _))
  clear_value x4
  exact Touches.step (State.publish_touches ..) rfl h5

theorem State.writeChCfg_touches (s : State) (c : Nat) (v : Nat) : Touches 0x2080700000000408000000202080000000000406c941500000000100200000000052000000004a07f40101e0090100700402000000000020048000e80001800261ec2f5 s (State.writeChCfg s c v) := by
  unfold State.writeChCfg
  extract_lets -merge +onlyGivenNames x1
  extract_lets -merge +onlyGivenNames x2
  clear_value x2
  extract_lets -merge +onlyGivenNames x3
  clear_value x3
  extract_lets -merge +onlyGivenNames x4
  clear_value x4
  extract_lets -merge +onlyGivenNames x5
  clear_value x5
  refine Touches.ite ?_ ?_
  · exact Touches.step (State.chRefuse_touches ..) rfl (Touches.refl _ _)
  · extract_lets -merge +onlyGivenNames x6
    have h7 : Touches 0x2080700000000408000000202080000000000406c941500000000100200000000052000000004a07f40101e0090100700402000000000020048000e80001800261ec2f5 s x6 := by
      unfold x6
      refine Touches.trans ?_ (State.setF_touches _ _ _ rfl 152 rfl (grp_MOT_CH_CFG _))
      exact State.wr_touches _ _ _ rfl 152 rfl (grp_MOT_CH_CFG _)
    clear_value x6
    clear_value x1
    extract_lets -merge +onlyGivenNames x8
    have h9 : Touches 0x2080700000000408000000202080000000000406c941500000000100200000000052000000004a07f40101e0090100700402000000000020048000e80001800261ec2f5 s x8 := by unfold x8; exact Touches.trans h7 (State.setB_touches _ _ _ rfl 165 rfl (grp_MOT_CH_STATUS _))
    clear_value x8
    refine Touches.ite ?_ ?_
    · exact Touches.step (State.chEnable_touches ..) rfl h9
    · refine Touches.ite ?_ ?_
      · exact Touches.step (State.chDisable_touches ..) rfl h9
      · exact h9

theorem State.writeThreshold_touches (s : State) (c : Nat) (hi : Bool) (v : Nat) : Touches 0x8070000000040800000000000000000000000000000000000000000000000000000000000000000000010300000000000000000000000004000000000000022080211 s (State.writeThreshold s c hi v) := by
  unfold State.writeThreshold
  extract_lets -merge +onlyGivenNames x1
  clear_value x1
  extract_lets -merge +onlyGivenNames x2
  clear_value x2
  extract_lets -merge +onlyGivenNames x3
  clear_value x3
  refine Touches.ite ?_ ?_
  · exact Touches.step (State.chRefuse_touches ..) rfl (Touches.refl _ _)
  · refine Touches.trans ?_ (State.setF_touches _ _ _ rfl 158 rfl (grp_MOT_CH_VLO _))
    exact State.setF_touches _ _ _ rfl 157 rfl (grp_MOT_CH_VHI _)

theorem State.writeWire_touches (s : State) (c : Nat) (v : Nat) : Touches 0x40000000000000000000000000000000000000000080001 s (State.writeWire s c v) := by
  unfold State.writeWire
  extract_lets -merge +onlyGivenNames x1
  extract_lets -merge +onlyGivenNames x2
  have h3 : Touches 0x40000000000000000000000000000000000000000080001 s x2 := by unfold x2; exact State.wr_touches _ _ _ rfl 155 rfl (grp_MOT_CH_WIRE _)
  clear_value x2
  clear_value x1
  extract_lets -merge +onlyGivenNames x4
  have h5 : Touches 0x40000000000000000000000000000000000000000080001 s x4 := by
    unfold x4
    refine Touches.ite ?_ ?_
    · exact Touches.trans h3 (State.setF_touches _ _ _ rfl 155 rfl (grp_MOT_CH_WIRE _))
    · exact h3
  clear_value x4
  refine Touches.ite ?_ ?_
  · exact Touches.step (State.setCh_touches ..) rfl h5
  · exact h5

theorem State.writeX_touches (s : State) (c : Nat) (hi : Bool) (v : Nat) : Touches 0x80700000000408000000000000000000000000000000000000000000000000005000000000400000010118000000000000000000000000040000000000000220802b1 s (State.writeX s c hi v) := by
  unfold State.writeX
  extract_lets -merge +onlyGivenNames x1
  extract_lets -merge +onlyGivenNames x2
  clear_value x2
  refine Touches.ite ?_ ?_
  · exact Touches.step (State.chRefuse_touches ..) rfl (Touches.refl _ _)
  · exact Touches.step (State.backJudge_touches ..) rfl (Touches.step (State.jumpX_touches ..) rfl (Touches.refl _ _))

theorem State.writeSerCfg_touches (s : State) (c : Nat) (v : Nat) : Touches 0x8070000000040800000000000000000000000000000000000000000000000000000000000000000002010000000000000000000000000004000000000000022080211 s (State.writeSerCfg s c v) := by
  unfold State.writeSerCfg
  extract_lets -merge +onlyGivenNames x1
  extract_lets -merge +onlyGivenNames x2
  clear_value x2
  extract_lets -merge +onlyGivenNames x3
  clear_value x3
  refine Touches.ite ?_ ?_
  · exact Touches.step (State.chRefuse_touches ..) rfl (Touches.refl _ _)
  · exact State.wr_touches _ _ _ rfl 174 rfl (grp_MOT_CH_SER_CFG _)

theorem State.writeSerCrc_touches (s : State) (c : Nat) (v : Nat) : Touches 0x8070000000040800000000000000000000000000000000000000000000000000000000000000000008010000000000000000000000000004000000000000022080211 s (State.writeSerCrc s c v) := by
  unfold State.writeSerCrc
  extract_lets -merge +onlyGivenNames x1
  refine Touches.ite ?_ ?_
  · exact Touches.step (State.chRefuse_touches ..) rfl (Touches.refl _ _)
  · exact State.wr_touches _ _ _ rfl 176 rfl (grp_MOT_CH_SER_CRC _)

theorem State.writeSerJump_touches (s : State) (c : Nat) (v : Nat) : Touches 0x8070000000040800000000000000000000000000000000000000000000000000000000000000000010010000000000000000000000000004000000000000022080211 s (State.writeSerJump s c v) := by
  unfold State.writeSerJump
  extract_lets -merge +onlyGivenNames x1
  refine Touches.ite ?_ ?_
  · exact Touches.step (State.chRefuse_touches ..) rfl (Touches.refl _ _)
  · extract_lets -merge +onlyGivenNames x2
    have h3 : Touches 0x8070000000040800000000000000000000000000000000000000000000000000000000000000000010010000000000000000000000000004000000000000022080211 s x2 := by unfold x2; exact State.wr_touches _ _ _ rfl 177 rfl (grp_MOT_CH_SER_JUMP _)
    clear_value x2
    clear_value x1
    refine Touches.ite ?_ ?_
    · exact Touches.trans h3 (State.setF_touches _ _ _ rfl 177 rfl (grp_MOT_CH_SER_JUMP _))
    · exact h3

theorem State.diEdge_touches (s : State) (n : Nat) : Touches 0x2080700000000408000000202080000000000406f959500000000100200000000050000000004a07f400000001010070040200000000002004c000e8000f800261ec2f5 s (State.diEdge s n) := by
  unfold State.diEdge
  extract_lets -merge +onlyGivenNames x1
  clear_value x1
  extract_lets -merge +onlyGivenNames x2
  have h3 : Touches 0x2080700000000408000000202080000000000406f959500000000100200000000050000000004a07f400000001010070040200000000002004c000e8000f800261ec2f5 s x2 := by unfold x2; exact Touches.step (State.diLevels_touches ..) rfl (Touches.setPwr (Touches.refl _ _) rfl)
  clear_value x2
  extract_lets -merge +onlyGivenNames x4
  clear_value x4
  extract_lets -merge +onlyGivenNames x5
  have h6 : Touches 0x2080700000000408000000202080000000000406f959500000000100200000000050000000004a07f400000001010070040200000000002004c000e8000f800261ec2f5 s x5 := by
    unfold x5
    refine Touches.ite ?_ ?_
    · exact Touches.step (State.evtPush_touches ..) rfl h3
    · exact h3
  clear_value x5
  extract_lets -merge +onlyGivenNames x7
  have h8 : Touches 0x2080700000000408000000202080000000000406f959500000000100200000000050000000004a07f400000001010070040200000000002004c000e8000f800261ec2f5 s x7 := by
    unfold x7
    refine Touches.ite ?_ ?_
    · exact Touches.step (State.wake_touches ..) rfl h6
    · exact h6
  clear_value x7
  refine Touches.ite ?_ ?_
  · exact Touches.step (State.ejAll_touches ..) rfl (Touches.step (State.present_touches ..) rfl h8)
  · exact h8

theorem State.diHeld_touches (s : State) (n : Nat) (since : Option Nat) : Touches 0x2080700000000408000000202080000000000406f959500000000100200000000050000000004a07f400000001010070040200000000002004c000e8000f800261ec2f5 s (State.diHeld s n since) := by
  unfold State.diHeld
  split
  · refine Touches.ite ?_ ?_
    · exact Touches.step (State.diEdge_touches ..) rfl (Touches.refl _ _)
    · exact Touches.refl _ _
  · exact Touches.refl _ _

theorem State.diJudge_touches (s : State) (n : Nat) : Touches 0x2080700000000408000000202080000000000406f959500000000100200000000050000000004a07f400000001010070040200000000002004c000e8000f800261ec2f5 s (State.diJudge s n) := by
  unfold State.diJudge
  exact Touches.step (State.diHeld_touches ..) rfl (Touches.refl _ _)

theorem State.diSeen_touches (s : State) (n : Nat) (raw : Bool) (held : Nat) : Touches 0x2080700000000408000000202080000000000406f959500000000100200000000050000000004a07f400000001010070040200000000002004c000e8000f800261ec2f5 s (State.diSeen s n raw held) := by
  unfold State.diSeen
  extract_lets -merge +onlyGivenNames x1
  clear_value x1
  exact Touches.step (State.diHeld_touches ..) rfl (Touches.setPwr (Touches.refl _ _) rfl)

theorem State.writeDiCfg_touches (s : State) (v : Nat) : Touches 0x2080700000000408000000202080000000000406f959500000000100200000000050000000004a07f400000001010070040200000000002004e000e8000f800261ec2f5 s (State.writeDiCfg s v) := by
  unfold State.writeDiCfg
  refine Touches.foldl (fun t1 y2 h3 => ?_) ?_
  · exact Touches.step (State.diJudge_touches ..) rfl h3
  · exact Touches.step (State.diLevels_touches ..) rfl (State.wr_touches _ _ _ rfl 50 rfl grp_MOT_DI_CFG)

end Sys2Proof.Machine
end

