-- ==== Sys2Proof/Laws/FrameMotionExec.lean ====
section
/-! SUPPORT. What each operation of Machine/MotionExec.lean can do: the parts of the state it touches (Touches). -/

-- One declaration at a time: many proofs at once would each hold a thread with a large stack.
set_option Elab.async false

namespace Sys2Proof.Machine

theorem State.encIn_touches (s : State) (k : State → State) {m : Nat} (hk : ∀ t, Touches m t (k t)) :
    Touches m s (s.encIn k) := Touches.ite (Touches.refl _ _) (hk s)

theorem execEdgeAccepted_ends (chan : Nat) (mask : Nat) (held : Nat) (s : State) : Ends 0x2080700000000408000000202080000000000406c941500000000100200000000052000000004a07f4016ff8010100700402000000000020048000e80001800261ec2f5 s (execEdgeAccepted chan mask held s) := by
  unfold execEdgeAccepted
  refine Ends.next ?_
  refine Touches.trans ?_ (State.encIn_touches _ _ ?_)
  · exact Touches.refl _ _
  · intro y1
    exact Touches.step (State.edges_touches ..) rfl (Touches.refl _ _)

theorem execGlitchFault_ends (chan : Nat) (s : State) : Ends 0x8070000000040800000000000000000000000000000000000000000000000000000000000000000000090000000000000000000000000004000000000100022080215 s (execGlitchFault chan s) := by
  unfold execGlitchFault
  refine Ends.next ?_
  refine Touches.trans ?_ (State.encIn_touches _ _ ?_)
  · exact Touches.refl _ _
  · intro y1
    exact Touches.step (State.glitchFault_touches ..) rfl (Touches.refl _ _)

theorem execSerialPoll_ends (chan : Nat) (s : State) : Ends 0x20000000 s (execSerialPoll chan s) := by
  unfold execSerialPoll
  exact Ends.next (Touches.step (State.serialPoll_touches ..) rfl (Touches.refl _ _))

theorem execSerialReading_ends (chan : Nat) (frame : SerialFrame) (s : State) : Ends 0x2080700000000408000000202080000000000406c941500000000100200000000052000000004a07f42189f8010100700402000000000020048000e80001800261ec2f5 s (execSerialReading chan frame s) := by
  unfold execSerialReading
  refine Ends.next ?_
  refine Touches.trans ?_ (State.encIn_touches _ _ ?_)
  · exact Touches.refl _ _
  · intro y1
    exact Touches.step (State.serialReading_touches ..) rfl (Touches.refl _ _)

theorem execWireDisagree_ends (chan : Nat) (pair : Nat) (s : State) : Ends 0x8070000000040800000000000000000000000000000000000000000000000000000000000000000000110000000000000000000000000004000000000100022080215 s (execWireDisagree chan pair s) := by
  unfold execWireDisagree
  refine Ends.next ?_
  refine Touches.trans ?_ (State.encIn_touches _ _ ?_)
  · exact Touches.refl _ _
  · intro y1
    exact Touches.step (State.disagree_touches ..) rfl (Touches.refl _ _)

theorem execWireDisagreeEnd_ends (chan : Nat) (pair : Nat) (s : State) : Ends 0x80000 s (execWireDisagreeEnd chan pair s) := by
  unfold execWireDisagreeEnd
  refine Ends.next ?_
  refine Touches.trans ?_ (State.encIn_touches _ _ ?_)
  · exact Touches.refl _ _
  · intro y1
    exact Touches.step (State.agree_touches ..) rfl (Touches.refl _ _)

theorem execWireFault_ends (chan : Nat) (pair : Nat) (s : State) : Ends 0x8070000000040800000000000000000000000000000000000000000000000000000000000000000000018000000000000000000000000004800000000180022080251 s (execWireFault chan pair s) := by
  unfold execWireFault
  refine Ends.next ?_
  refine Touches.trans ?_ (State.encIn_touches _ _ ?_)
  · exact Touches.refl _ _
  · intro y1
    exact Touches.step (State.wireFault_touches ..) rfl (Touches.refl _ _)

theorem execWireFaultClear_ends (chan : Nat) (pair : Nat) (s : State) : Ends 0x10000000000000000000000000000000000000000000080001 s (execWireFaultClear chan pair s) := by
  unfold execWireFaultClear
  refine Ends.next ?_
  refine Touches.trans ?_ (State.encIn_touches _ _ ?_)
  · exact Touches.refl _ _
  · intro y1
    exact Touches.step (State.wireHeal_touches ..) rfl (Touches.refl _ _)

theorem execSpeedPeriodTick_ends (s : State) : Ends 0x8070000000040800000000000000000000000000000000000000000000000000000000000000000000018000000000000000000000000004000000000180022080211 s (execSpeedPeriodTick s) := by
  unfold execSpeedPeriodTick
  refine Ends.next ?_
  refine Touches.foldl (fun t1 y2 h3 => ?_) ?_
  · refine Touches.ite ?_ ?_
    · exact Touches.step (State.periodUpdate_touches ..) rfl h3
    · exact h3
  · exact Touches.refl _ _

theorem execCountGateEnd_ends (chan : Nat) (s : State) : Ends 0x8070000000040800000000000000000000000000000000000000000000000000000000000000000000018000000000000000000000000004000000000180022080211 s (execCountGateEnd chan s) := by
  unfold execCountGateEnd
  refine Ends.next ?_
  refine Touches.ite ?_ ?_
  · exact Touches.step (State.gateDone_touches ..) rfl (Touches.refl _ _)
  · exact Touches.refl _ _

theorem execChCfgWrite_ends (chan : Nat) (value : Nat) (s : State) : Ends 0x2080700000000408000000202080000000000406c941500000000100200000000052000000004a07f40101e0090100700402000000001020048000e80001800261ec2f5 s (execChCfgWrite chan value s) := by
  unfold execChCfgWrite
  refine Ends.next ?_
  refine Touches.ite ?_ ?_
  · refine Touches.trans ?_ (State.regWrite_touches _ _ _ _ rfl ?_)
    · exact Touches.refl _ _
    · intro y1
      exact Touches.step (State.writeChCfg_touches ..) rfl (Touches.refl _ _)
  · exact Touches.refl _ _

theorem execSpeedThresholdWrite_ends (chan : Nat) (high : Bool) (value : Nat) (s : State) : Ends 0x8070000000040800000000000000000000000000000000000000000000000000000000000000000000010300000000000000000000102004000000000000022080295 s (execSpeedThresholdWrite chan high value s) := by
  unfold execSpeedThresholdWrite
  refine Ends.next ?_
  refine Touches.ite ?_ ?_
  · refine Touches.trans ?_ (State.regWrite_touches _ _ _ _ rfl ?_)
    · exact Touches.refl _ _
    · intro y1
      exact Touches.step (State.writeThreshold_touches ..) rfl (Touches.refl _ _)
  · exact Touches.refl _ _

theorem execDiEdgeQualified_ends (input : Nat) (raw : Bool) (held : Nat) (s : State) : Ends 0x2080700000000408000000202080000000000406f959500000000100200000000050000000004a07f400000001010070040200000000002004c000e8000f800261ec2f5 s (execDiEdgeQualified input raw held s) := by
  unfold execDiEdgeQualified
  exact Ends.next (Touches.step (State.diSeen_touches ..) rfl (Touches.refl _ _))

theorem execDiCfgWrite_ends (value : Nat) (s : State) : Ends 0x2080700000000408000000202080000000000406f959500000000100200000000050000000004a07f400000001010070040200000000102004e000e8000f800261ec2f5 s (execDiCfgWrite value s) := by
  unfold execDiCfgWrite
  refine Ends.next ?_
  refine Touches.trans ?_ (State.regWrite_touches _ _ _ _ rfl ?_)
  · exact Touches.refl _ _
  · intro y1
    exact Touches.step (State.writeDiCfg_touches ..) rfl (Touches.refl _ _)

theorem execConvPeriodTick_ends (s : State) : Ends 0x8070000000040800000000000000000000000000000000000000000000000000000000000000000000000000000000000000000000000004000000000180022080211 s (execConvPeriodTick s) := by
  unfold execConvPeriodTick
  exact Ends.next (Touches.step (State.convTick_touches ..) rfl (Touches.refl _ _))

theorem execTrkCfgWrite_ends (value : Nat) (s : State) : Ends 0x8070000000040800000000000000000000000000000000000000000000000000000000000000000000000000000000000000000000102000000000000002022080295 s (execTrkCfgWrite value s) := by
  unfold execTrkCfgWrite
  refine Ends.next ?_
  refine Touches.trans ?_ (State.regWrite_touches _ _ _ _ rfl ?_)
  · exact Touches.refl _ _
  · intro y1
    exact Touches.step (State.writeTrkCfg_touches ..) rfl (Touches.refl _ _)

theorem execImagePresenceReport_ends (s : State) : Ends 0x2080700000000408000000202080000000000406f959500000000100200000000000000000000a07f4000000010100700402000000000020048000e8000f800261ec2d5 s (execImagePresenceReport s) := by
  unfold execImagePresenceReport
  split
  · refine Ends.next ?_
    refine Touches.step (State.camDrain_touches ..) rfl ?_
    refine Touches.step (State.ejAll_touches ..) rfl ?_
    exact Touches.step (State.present_touches ..) rfl (Touches.setCam (Touches.refl _ _) rfl)
  · rename_i x1 e2
    exact Ends.next (Touches.step (State.camDrain_touches ..) rfl (Touches.refl _ _))

theorem State.writeDecl_touches (s : State) (v : Nat) : Touches 0x2080700000000408000000202080000000000406f959500000000100200000000000000000000a07f4000000010100700402000000000020048000e8040f800261ec2d5 s (State.writeDecl s v) := by
  unfold State.writeDecl
  extract_lets -merge +onlyGivenNames x1
  have h2 : Touches 0x2080700000000408000000202080000000000406f959500000000100200000000000000000000a07f4000000010100700402000000000020048000e8040f800261ec2d5 s x1 := by unfold x1; exact State.wr_touches _ _ _ rfl 23 rfl grp_MOT_TRK_DECL_HI
  clear_value x1
  refine Touches.ite ?_ ?_
  · exact Touches.step (State.declare_touches ..) rfl h2
  · exact h2

theorem State.writeCommit_touches (s : State) (v : Nat) : Touches 0x2080700000000408000000202080000000000404c941500000000100200000000000000000000a07f4000000000000000000000000000000048000f80001800260ec255 s (State.writeCommit s v) := by
  unfold State.writeCommit
  exact Touches.step (State.commit_touches ..) rfl (Touches.refl _ _)

theorem execTrackDeclare_ends (value : Nat) (s : State) : Ends 0x2080700000000408000000202080000000000406f959500000000100200000000000000000000a07f4000000010100700402000000001020048000e8040f800261ec2d5 s (execTrackDeclare value s) := by
  unfold execTrackDeclare
  refine Ends.next ?_
  refine Touches.trans ?_ (State.regWrite_touches _ _ _ _ rfl ?_)
  · exact Touches.refl _ _
  · intro y1
    exact Touches.step (State.writeDecl_touches ..) rfl (Touches.refl _ _)

theorem execTrackCommit_ends (value : Nat) (s : State) : Ends 0x2080700000000408000000202080000000000404c941500000000100200000000000000000000a07f4000000000000000000000000001020048000f80001800260ec2d5 s (execTrackCommit value s) := by
  unfold execTrackCommit
  refine Ends.next ?_
  refine Touches.trans ?_ (State.regWrite_touches _ _ _ _ rfl ?_)
  · exact Touches.refl _ _
  · intro y1
    exact Touches.step (State.writeCommit_touches ..) rfl (Touches.refl _ _)

theorem execTrackUnitMessage_ends (gill : Nat) (s : State) : Ends 0x2080700000000408000000202080000000000406f959500000000100200000000000000000000b07f4000000010100700402000000000020048000f8000f800261fc2d5 s (execTrackUnitMessage gill s) := by
  unfold execTrackUnitMessage
  split
  · rename_i x1 x2 e3
    have h4 : Touches 0x2080700000000408000000202080000000000406f959500000000100200000000000000000000b07f4000000010100700402000000000020048000f8000f800261fc2d5 s x2 := Touches.of_eq (fun d => d.2) e3 (Touches.step (State.takeFlight_touches ..) rfl (Touches.refl _ _))
    exact Ends.next h4
  · rename_i x5 x6 x7 e8
    have h9 : Touches 0x2080700000000408000000202080000000000406f959500000000100200000000000000000000b07f4000000010100700402000000000020048000f8000f800261fc2d5 s x7 := Touches.of_eq (fun d => d.2) e8 (Touches.step (State.takeFlight_touches ..) rfl (Touches.refl _ _))
    exact Ends.next (Touches.step (State.unitMessage_touches ..) rfl (Touches.step (State.settleAll_touches ..) rfl h9))

theorem execGateEnable_ends (gate : Nat) (value : Nat) (s : State) : Ends 0x8070000000040800000000000000000000000000000000000000000000000000000000000000000000000000000000000000000000102004000000200080022080295 s (execGateEnable gate value s) := by
  unfold execGateEnable
  refine Ends.next ?_
  refine Touches.ite ?_ ?_
  · refine Touches.trans ?_ (State.regWrite_touches _ _ _ _ rfl ?_)
    · exact Touches.refl _ _
    · intro y1
      exact Touches.step (State.writeGate_touches ..) rfl (Touches.refl _ _)
  · exact Touches.refl _ _

theorem execGateOffsetWrite_ends (gate : Nat) (which : Nat) (value : Nat) (s : State) : Ends 0x8070000000040800000000000000000000000000000000000000000000000000000000000000000000000000000000000000000000102004000003800080022080295 s (execGateOffsetWrite gate which value s) := by
  unfold execGateOffsetWrite
  refine Ends.next ?_
  refine Touches.ite ?_ ?_
  · refine Touches.trans ?_ (State.regWrite_touches _ _ _ _ rfl ?_)
    · exact Touches.refl _ _
    · intro y1
      exact Touches.step (State.writeOffs_touches ..) rfl (Touches.refl _ _)
  · exact Touches.refl _ _

theorem execDeadlineUpdate_ends (s : State) : Ends 0xa0000 s (execDeadlineUpdate s) := by
  unfold execDeadlineUpdate
  exact Ends.next (Touches.step (State.deadlineUpdate_touches ..) rfl (Touches.refl _ _))

end Sys2Proof.Machine
end

