-- ==== Sys2Proof/Laws/FramePortExec.lean ====
section
/-! SUPPORT. What each operation of Machine/PortExec.lean can do: the parts of the state it touches (Touches). -/

-- One declaration at a time: many proofs at once would each hold a thread with a large stack.
set_option Elab.async false

namespace Sys2Proof.Machine

theorem State.writeSpiCtrl_touches (s : State) (v : Nat) (edges : Nat) (st : Nat) (rx : List Nat) : Touches 0x80700000582c080000000000000000000000000000000000000000000000000000000000000000000000000000000000000000000000000000000000000002a000211 s (State.writeSpiCtrl s v edges st rx) := by
  unfold State.writeSpiCtrl
  extract_lets -merge +onlyGivenNames x1
  have h2 : Touches 0x80700000582c080000000000000000000000000000000000000000000000000000000000000000000000000000000000000000000000000000000000000002a000211 s x1 := by unfold x1; exact State.setF_touches _ _ _ rfl 456 rfl grp_SPI_CTRL
  clear_value x1
  refine Touches.ite ?_ ?_
  · exact Touches.step (State.spiAbort_touches ..) rfl h2
  · refine Touches.ite ?_ ?_
    · exact Touches.step (State.spiAbort_touches ..) rfl h2
    · exact h2

theorem State.writeSpiCtrlFree_touches (s : State) (v : Nat) : Touches 0x80700000582c080000000000000000000000000000000000000000000000000000000000000000000000000000000000000000000000000000000000000002a000211 s (State.writeSpiCtrlFree s v) := by
  unfold State.writeSpiCtrlFree
  extract_lets -merge +onlyGivenNames x1
  have h2 : Touches 0x80700000582c080000000000000000000000000000000000000000000000000000000000000000000000000000000000000000000000000000000000000002a000211 s x1 := by unfold x1; exact State.setF_touches _ _ _ rfl 456 rfl grp_SPI_CTRL
  clear_value x1
  refine Touches.ite ?_ ?_
  · exact Touches.step (State.spiAbortFree_touches ..) rfl h2
  · refine Touches.ite ?_ ?_
    · exact Touches.step (State.spiAbortFree_touches ..) rfl h2
    · exact h2

theorem State.writeI2cCtrl_touches (s : State) (v : Nat) (written : Nat) (read : Nat) : Touches 0x8072240680040800000000000000000000000000000000000000000000000000000000000000000000000000000000000000000000000000000000000000032000211 s (State.writeI2cCtrl s v written read) := by
  unfold State.writeI2cCtrl
  extract_lets -merge +onlyGivenNames x1
  clear_value x1
  extract_lets -merge +onlyGivenNames x2
  have h3 : Touches 0x8072240680040800000000000000000000000000000000000000000000000000000000000000000000000000000000000000000000000000000000000000032000211 s x2 := by
    unfold x2
    refine Touches.trans ?_ (State.setF_touches _ _ _ rfl 468 rfl grp_I2C_CTRL)
    exact State.setF_touches _ _ _ rfl 468 rfl grp_I2C_CTRL
  clear_value x2
  extract_lets -merge +onlyGivenNames x4
  clear_value x4
  extract_lets -merge +onlyGivenNames x5
  have h6 : Touches 0x8072240680040800000000000000000000000000000000000000000000000000000000000000000000000000000000000000000000000000000000000000032000211 s x5 := by
    unfold x5
    refine Touches.ite ?_ ?_
    · exact Touches.step (State.i2cTargetEnd_touches ..) rfl h3
    · exact h3
  clear_value x5
  extract_lets -merge +onlyGivenNames x7
  have h8 : Touches 0x8072240680040800000000000000000000000000000000000000000000000000000000000000000000000000000000000000000000000000000000000000032000211 s x7 := by
    unfold x7
    refine Touches.ite ?_ ?_
    · exact Touches.step (State.i2cCommit_touches ..) rfl h6
    · exact h6
  clear_value x7
  refine Touches.ite ?_ ?_
  · exact Touches.step (State.i2cAbort_touches ..) rfl h8
  · refine Touches.ite ?_ ?_
    · exact Touches.step (State.i2cAbort_touches ..) rfl h8
    · exact h8

theorem execSpiPush_ends (value : Nat) (s : State) : Ends 0x807000000024080000000000000000000000000000000000000000000000000000000000000000000000000000000000000000000010200000000000000002a000295 s (execSpiPush value s) := by
  unfold execSpiPush
  refine Ends.next ?_
  refine Touches.trans ?_ (State.regWrite_touches _ _ _ _ rfl ?_)
  · exact Touches.refl _ _
  · intro y1
    exact Touches.step (State.spiPush_touches ..) rfl (Touches.refl _ _)

theorem execSpiEntryStart_ends (s : State) : Ends 0x200000000000000000000000000000000000000000000000000000000000000000000000000000000000000000000000000000000000000000028000001 s (execSpiEntryStart s) := by
  unfold execSpiEntryStart
  exact Ends.next (Touches.step (State.spiStart_touches ..) rfl (Touches.refl _ _))

theorem execSpiEntryEnd_ends (status : Nat) (rx : List Nat) (s : State) : Ends 0x807000005824080000000000000000000000000000000000000000000000000000000000000000000000000000000000000000000000000000000000000002a000211 s (execSpiEntryEnd status rx s) := by
  unfold execSpiEntryEnd
  exact Ends.next (Touches.step (State.spiEnd_touches ..) rfl (Touches.refl _ _))

theorem execSpiAbort_ends (value : Nat) (edges : Nat) (status : Nat) (rx : List Nat) (s : State) : Ends 0x80700000582c080000000000000000000000000000000000000000000000000000000000000000000000000000000000000000000010200000000000000002a000295 s (execSpiAbort value edges status rx s) := by
  unfold execSpiAbort
  refine Ends.next ?_
  refine Touches.trans ?_ (State.regWrite_touches _ _ _ _ rfl ?_)
  · exact Touches.refl _ _
  · intro y1
    exact Touches.step (State.writeSpiCtrl_touches ..) rfl (Touches.refl _ _)

theorem execSpiCplPop_ends (s : State) : Ends 0x807000000424080000000000000000000000000000000000000000000000000000000000000000000000000000000000000000000010200000000000000002a000295 s (execSpiCplPop s) := by
  unfold execSpiCplPop
  refine Ends.next ?_
  refine Touches.trans ?_ (State.regRead_touches _ _ _ rfl ?_)
  · exact Touches.refl _ _
  · intro y1
    exact Touches.step (State.spiPop_touches ..) rfl (Touches.refl _ _)

theorem execI2cPush_ends (value : Nat) (s : State) : Ends 0x8070000600040800000000000000000000000000000000000000000000000000000000000000000000000000000000000000000000102000000000000000032000295 s (execI2cPush value s) := by
  unfold execI2cPush
  refine Ends.next ?_
  refine Touches.trans ?_ (State.regWrite_touches _ _ _ _ rfl ?_)
  · exact Touches.refl _ _
  · intro y1
    exact Touches.step (State.i2cPush_touches ..) rfl (Touches.refl _ _)

theorem execI2cCommandStart_ends (pulses : Nat) (s : State) : Ends 0x8072040600040800000000000000000000000000000000000000000000000000000000000000000000000000000000000000000000000000000000000000032000211 s (execI2cCommandStart pulses s) := by
  unfold execI2cCommandStart
  exact Ends.next (Touches.step (State.i2cStart_touches ..) rfl (Touches.refl _ _))

theorem execI2cCommandEnd_ends (r : I2cResult) (s : State) : Ends 0x8070940600040800000000000000000000000000000000000000000000000000000000000000000000000000000000000000000000000000000000000000032000211 s (execI2cCommandEnd r s) := by
  unfold execI2cCommandEnd
  exact Ends.next (Touches.step (State.i2cEnd_touches ..) rfl (Touches.refl _ _))

theorem execArbitrationLost_ends (byte : Nat) (bit : Nat) (winner : Option (Nat × Bool)) (s : State) : Ends 0x80700c0600040800000000000000000000000000000000000000000000000000000000000000000000000000000000000000000000000000000000000000032000211 s (execArbitrationLost byte bit winner s) := by
  unfold execArbitrationLost
  exact Ends.next (Touches.step (State.i2cLost_touches ..) rfl (Touches.refl _ _))

theorem execSclTimeout_ends (s : State) : Ends 0x8070040600040800000000000000000000000000000000000000000000000000000000000000000000000000000000000000000000000000000000000000032000211 s (execSclTimeout s) := by
  unfold execSclTimeout
  exact Ends.next (Touches.step (State.i2cSclTimeout_touches ..) rfl (Touches.refl _ _))

theorem execBusFree_ends (s : State) : Ends 0x200000000000000000000000000000000000000000000000000000000000000000000000000000000000000000000000000000000000000000000010000001 s (execBusFree s) := by
  unfold execBusFree
  exact Ends.next (Touches.step (State.i2cBusFree_touches ..) rfl (Touches.refl _ _))

theorem execI2cBusStart_ends (s : State) : Ends 0x2000200000000000000000000000000000000000000000000000000000000000000000000000000000000000000000000000000000000000000000000010000001 s (execI2cBusStart s) := by
  unfold execI2cBusStart
  exact Ends.next (Touches.step (State.i2cBusStart_touches ..) rfl (Touches.refl _ _))

theorem execTargetTransaction_ends (read : Bool) (bytes : List Byte) (count : Nat) (s : State) : Ends 0x8070000200040800000000000000000000000000000000000000000000000000000000000000000000000000000000000000000000000000000000000000032000215 s (execTargetTransaction read bytes count s) := by
  unfold execTargetTransaction
  exact Ends.next (Touches.step (State.i2cTarget_touches ..) rfl (Touches.refl _ _))

theorem execTargetTransactionEnd_ends (repeated : Bool) (s : State) : Ends 0x8072200600040800000000000000000000000000000000000000000000000000000000000000000000000000000000000000000000000000000000000000032000211 s (execTargetTransactionEnd repeated s) := by
  unfold execTargetTransactionEnd
  exact Ends.next (Touches.step (State.i2cTargetEnd_touches ..) rfl (Touches.refl _ _))

theorem execTargetSclTimeout_ends (s : State) : Ends 0x8072200600040800000000000000000000000000000000000000000000000000000000000000000000000000000000000000000000000000000000000000032000211 s (execTargetSclTimeout s) := by
  unfold execTargetSclTimeout
  exact Ends.next (Touches.step (State.i2cTargetTimeout_touches ..) rfl (Touches.refl _ _))

theorem execTwinCommit_ends (s : State) : Ends 0x8072240680040800000000000000000000000000000000000000000000000000000000000000000000000000000000000000000000102000000000000000032000295 s (execTwinCommit s) := by
  unfold execTwinCommit
  extract_lets -merge +onlyGivenNames x1
  clear_value x1
  refine Ends.next ?_
  refine Touches.trans ?_ (State.regWrite_touches _ _ _ _ rfl ?_)
  · exact Touches.refl _ _
  · intro y2
    exact Touches.step (State.writeI2cCtrl_touches ..) rfl (Touches.refl _ _)

theorem execI2cAbort_ends (value : Nat) (written : Nat) (read : Nat) (s : State) : Ends 0x8072240680040800000000000000000000000000000000000000000000000000000000000000000000000000000000000000000000102000000000000000032000295 s (execI2cAbort value written read s) := by
  unfold execI2cAbort
  refine Ends.next ?_
  refine Touches.trans ?_ (State.regWrite_touches _ _ _ _ rfl ?_)
  · exact Touches.refl _ _
  · intro y1
    exact Touches.step (State.writeI2cCtrl_touches ..) rfl (Touches.refl _ _)

theorem execI2cCplPop_ends (s : State) : Ends 0x807000c400040800000000000000000000000000000000000000000000000000000000000000000000000000000000000000000000102000000000000000032000295 s (execI2cCplPop s) := by
  unfold execI2cCplPop
  refine Ends.next ?_
  refine Touches.trans ?_ (State.regRead_touches _ _ _ rfl ?_)
  · exact Touches.refl _ _
  · intro y1
    exact Touches.step (State.i2cPop_touches ..) rfl (Touches.refl _ _)

theorem execI2cTlogPop_ends (s : State) : Ends 0x8070020400040800000000000000000000000000000000000000000000000000000000000000000000000000000000000000000000102000000000000000032000295 s (execI2cTlogPop s) := by
  unfold execI2cTlogPop
  refine Ends.next ?_
  refine Touches.trans ?_ (State.regRead_touches _ _ _ rfl ?_)
  · exact Touches.refl _ _
  · intro y1
    exact Touches.step (State.i2cLogPop_touches ..) rfl (Touches.refl _ _)

end Sys2Proof.Machine
end

