-- ==== Sys2Proof/Laws/FrameSchedExec.lean ====
section
/-! SUPPORT. What each operation of Machine/SchedExec.lean can do: the parts of the state it touches (Touches). -/

-- One declaration at a time: many proofs at once would each hold a thread with a large stack.
set_option Elab.async false

namespace Sys2Proof.Machine

theorem execSubmit_ends (value : Nat) (s : State) : Ends 0x2080700000000408000000202080000000000406f959500000000100200000000000000000000a07f4000000000000000000000000001020048000f80001800260ec2d5 s (execSubmit value s) := by
  unfold execSubmit
  refine Ends.next ?_
  refine Touches.step (State.schedCommits_touches ..) rfl ?_
  refine Touches.trans ?_ (State.regWrite_touches _ _ _ _ rfl ?_)
  · exact Touches.refl _ _
  · intro y1
    exact Touches.step (State.writeSub_touches ..) rfl (Touches.refl _ _)

theorem execWorkMessage_ends (gill : Nat) (s : State) : Ends 0x2080700000000408000000202080000000000406f959500000000100200000000000000000000a07f4000000000000000000000000000000048000f80001800260fc255 s (execWorkMessage gill s) := by
  unfold execWorkMessage
  refine Ends.next ?_
  refine Touches.step (State.schedCommits_touches ..) rfl ?_
  exact Touches.step (State.workMessage_touches ..) rfl (Touches.refl _ _)

theorem execDispatch_ends (executor : Nat) (s : State) : Ends 0x2080700000000408000000207ca8000000000587c94150080000011fe00000000000000000000a07f4000000000000000000000000000000048000f80001801260fda55 s (execDispatch executor s) := by
  unfold execDispatch
  refine Ends.next ?_
  refine Touches.step (State.schedCommits_touches ..) rfl ?_
  exact Touches.step (State.dispatch_touches ..) rfl (Touches.refl _ _)

theorem execStealToken_ends (part : Nat) (s : State) : Ends 0x800000000020000000000000000000000000000000000000000000000000000000000000000000000000000000000000000100020001 s (execStealToken part s) := by
  unfold execStealToken
  exact Ends.next (Touches.step (State.stealToken_touches ..) rfl (Touches.refl _ _))

theorem execQuantumExpiry_ends (work : Nat) (s : State) : Ends 0x2080700000000408000000207ca8000000000587c94150080000011fe00000000000000000000a07f4000000000000000000000000000000048000f80001801260fda55 s (execQuantumExpiry work s) := by
  unfold execQuantumExpiry
  refine Ends.next ?_
  refine Touches.step (State.schedCommits_touches ..) rfl ?_
  exact Touches.step (State.quantumExpiry_touches ..) rfl (Touches.refl _ _)

theorem execPreemptDrainDone_ends (work : Nat) (s : State) : Ends 0x20000 s (execPreemptDrainDone work s) := by
  unfold execPreemptDrainDone
  exact Ends.next (Touches.step (State.drainDone_touches ..) rfl (Touches.refl _ _))

theorem execSaveComplete_ends (work : Nat) (bad : Option Nat) (s : State) : Ends 0x2080700000000408000000202080000000000414c941500000c08100200000000000000000000a07f4000000000000000000000000000000048000f80001800260ec657 s (execSaveComplete work bad s) := by
  unfold execSaveComplete
  refine Ends.next ?_
  refine Touches.step (State.schedCommits_touches ..) rfl ?_
  exact Touches.step (State.saveDone_touches ..) rfl (Touches.refl _ _)

theorem execRestoreComplete_ends (work : Nat) (bad : Option Nat) (s : State) : Ends 0x20807000000004080000002020a0000000000424c9415001e8c08100600000000000000000000a07f4000000000000000000000000000000048000f80001800260ece55 s (execRestoreComplete work bad s) := by
  unfold execRestoreComplete
  refine Ends.next ?_
  refine Touches.step (State.schedCommits_touches ..) rfl ?_
  exact Touches.step (State.restoreDone_touches ..) rfl (Touches.refl _ _)

theorem execStateSwapComplete_ends (gill : Nat) (s : State) : Ends 0x20807000000004080101002060a0000000000544c9415001e9c08100600000000000000000000a07f4000000000000000000000000000000048000f80001800260ece55 s (execStateSwapComplete gill s) := by
  unfold execStateSwapComplete
  refine Ends.next ?_
  refine Touches.step (State.schedCommits_touches ..) rfl ?_
  exact Touches.step (State.swapDone_touches ..) rfl (Touches.refl _ _)

theorem execGangEnd_ends (work : Nat) (s : State) : Ends 0x2080700000000408000000202080000000000404c941500000000100200000000000000000000a07f4000000000000000000000000000000048000f80001800260ee255 s (execGangEnd work s) := by
  unfold execGangEnd
  refine Ends.next ?_
  refine Touches.step (State.schedCommits_touches ..) rfl ?_
  exact Touches.step (State.gangEnd_touches ..) rfl (Touches.refl _ _)

theorem execWorkCancel_ends (value : Nat) (s : State) : Ends 0x80700000000408000000002080000000000404c941500000000100200000000000000000000000000000000000000000000000000010200000000000000002206c295 s (execWorkCancel value s) := by
  unfold execWorkCancel
  refine Ends.next ?_
  refine Touches.trans ?_ (State.regWrite_touches _ _ _ _ rfl ?_)
  · exact Touches.refl _ _
  · intro y1
    exact Touches.step (State.hostCancel_touches ..) rfl (Touches.refl _ _)

theorem execCplLogRead_ends (s : State) : Ends 0x8070000000040800000000000000000000000002000000000000000000000000000000000000000000000000000000000000000000102000000000000000022000295 s (execCplLogRead s) := by
  unfold execCplLogRead
  refine Ends.next ?_
  refine Touches.trans ?_ (State.regRead_touches _ _ _ rfl ?_)
  · exact Touches.refl _ _
  · intro y1
    exact Touches.step (State.cplRead_touches ..) rfl (Touches.refl _ _)

theorem execTimingWindowArm_ends (s : State) : Ends 0x80700000000408000000007c8000000000000000000000000000000000000000000000000000000000000000000000000000000000102000000000000000022040295 s (execTimingWindowArm s) := by
  unfold execTimingWindowArm
  refine Ends.next ?_
  refine Touches.trans ?_ (State.regWrite_touches _ _ _ _ rfl ?_)
  · exact Touches.refl _ _
  · intro y1
    exact Touches.step (State.twArm_touches ..) rfl (Touches.refl _ _)

theorem execVcStall_ends (vc : Nat) (router : Nat) (last : Nat) (s : State) : Ends 0x8070000000040800000000006000000000000000000000000000000000000000000000000000000000000000000000000000000000000000000000000000022040211 s (execVcStall vc router last s) := by
  unfold execVcStall
  exact Ends.next (Touches.step (State.vcStall_touches ..) rfl (Touches.refl _ _))

end Sys2Proof.Machine
end

