-- ==== Sys2Proof/Laws/FrameBusWrite.lean ====
section
/-! SUPPORT. What each operation of Machine/BusWrite.lean can do: the parts of the state it touches (Touches). -/

-- One declaration at a time: many proofs at once would each hold a thread with a large stack.
set_option Elab.async false

namespace Sys2Proof.Machine

theorem State.plain_touches (s : State) (r : Reg) (v : Nat) : Touches 0x80000001 s (State.plain s r v) := by
  unfold State.plain
  exact State.wr_touches _ _ _ rfl 0 rfl Grp.any

theorem State.atLeast_touches (s : State) (f : Fld) (n : Nat) : Touches 0x80000001 s (State.atLeast s f n) := by
  unfold State.atLeast
  refine Touches.ite ?_ ?_
  · exact State.setF_touches _ _ _ rfl 0 rfl Grp.any
  · exact Touches.refl _ _

theorem State.atMost_touches (s : State) (f : Fld) (n : Nat) : Touches 0x80000001 s (State.atMost s f n) := by
  unfold State.atMost
  refine Touches.ite ?_ ?_
  · exact State.setF_touches _ _ _ rfl 0 rfl Grp.any
  · exact Touches.refl _ _

theorem State.writeBoot_touches (s : State) (r : Reg) (v : Nat) : Touches 0x722d7f4000000040c01010000802c00001008440804015f09e9c0810020201c080400080000000000344000000001001010070df8ca401004020118002000000bffffff7 s (State.writeBoot s r v) := by
  unfold State.writeBoot
  split
  · exact Touches.step (State.atLeast_touches ..) rfl (Touches.step (State.plain_touches ..) rfl (Touches.refl _ _))
  · refine Touches.ite ?_ ?_
    · exact Touches.setPwr (Touches.refl _ _) rfl
    · exact Touches.step (State.writeBootCtrl_touches ..) rfl (Touches.refl _ _)
  · exact Touches.step (State.fieldAdd_touches ..) rfl (Touches.refl _ _)
  · exact Touches.step (State.writeImgCtrl_touches ..) rfl (Touches.refl _ _)
  · rename_i x1 e2 e3 e4 e5
    exact Touches.step (State.plain_touches ..) rfl (Touches.refl _ _)

theorem State.writeClk_touches (s : State) (r : Reg) (v : Nat) : Touches 0x80000001 s (State.writeClk s r v) := by
  unfold State.writeClk
  split
  · exact Touches.step (State.atMost_touches ..) rfl (Touches.step (State.plain_touches ..) rfl (Touches.refl _ _))
  · rename_i x1 e2
    exact Touches.step (State.plain_touches ..) rfl (Touches.refl _ _)

theorem State.writePwr_touches (s : State) (r : Reg) (v : Nat) : Touches 0x80700000000408000000004008000000000000000100000000000000000008040008000000000000000000000000000000000000000006020700000000000a22802d1 s (State.writePwr s r v) := by
  unfold State.writePwr
  split
  · exact Touches.step (State.writeModeReq_touches ..) rfl (Touches.refl _ _)
  · exact Touches.step (State.atLeast_touches ..) rfl (Touches.step (State.plain_touches ..) rfl (Touches.refl _ _))
  · exact Touches.step (State.plain_touches ..) rfl (Touches.refl _ _)
  · refine Touches.ite ?_ ?_
    · exact Touches.step (State.plain_touches ..) rfl (Touches.refl _ _)
    · exact Touches.refl _ _
  · exact Touches.step (State.relayRequest_touches ..) rfl (Touches.refl _ _)
  · exact Touches.step (State.pocxpEnable_touches ..) rfl (Touches.refl _ _)
  · exact Touches.step (State.pocxpClear_touches ..) rfl (Touches.refl _ _)
  · exact Touches.step (State.plain_touches ..) rfl (Touches.refl _ _)
  · rename_i x1 e2 e3 e4 e5 e6 e7 e8 e9
    exact Touches.step (State.plain_touches ..) rfl (Touches.refl _ _)

theorem State.writeJrn_touches (s : State) (r : Reg) (v : Nat) : Touches 0x1ad7f00000000408000000000000000000000000000000000000000000000000000000000000000000000000000000000000000000000000000000000000000a2000211 s (State.writeJrn s r v) := by
  unfold State.writeJrn
  split
  · split
    rename_i x1 x2 x3 e4
    have h5 : Touches 0x1ad7f00000000408000000000000000000000000000000000000000000000000000000000000000000000000000000000000000000000000000000000000000a2000211 s x3 := Touches.of_eq (fun d => d.2) e4 (Touches.step (State.fresh_touches ..) rfl (Touches.refl _ _))
    exact Touches.step (State.writeJrnCtrl_touches ..) rfl h5
  · refine Touches.step (State.atLeast_touches ..) rfl ?_
    refine Touches.step (State.atLeast_touches ..) rfl ?_
    exact Touches.step (State.atLeast_touches ..) rfl (Touches.step (State.plain_touches ..) rfl (Touches.refl _ _))
  · exact Touches.step (State.writeJrnRd_touches ..) rfl (Touches.refl _ _)
  · rename_i x6 e7 e8 e9
    exact Touches.step (State.plain_touches ..) rfl (Touches.refl _ _)

theorem State.writeSpi_touches (s : State) (r : Reg) (v : Nat) : Touches 0x80700000582c08000000000000000000000000000000000000000000000000000000000000000000000000000000000000000000000000000000000000000aa000211 s (State.writeSpi s r v) := by
  unfold State.writeSpi
  split
  · exact Touches.step (State.writeSpiCtrlFree_touches ..) rfl (Touches.refl _ _)
  · refine Touches.step (State.atLeast_touches ..) rfl ?_
    refine Touches.step (State.atLeast_touches ..) rfl ?_
    exact Touches.step (State.atLeast_touches ..) rfl (Touches.step (State.plain_touches ..) rfl (Touches.refl _ _))
  · exact Touches.step (State.spiPush_touches ..) rfl (Touches.refl _ _)
  · rename_i x1 e2 e3 e4
    exact Touches.step (State.plain_touches ..) rfl (Touches.refl _ _)

theorem State.writeI2c_touches (s : State) (r : Reg) (v : Nat) : Touches 0x80722406800408000000000000000000000000000000000000000000000000000000000000000000000000000000000000000000000000000000000000000b2000211 s (State.writeI2c s r v) := by
  unfold State.writeI2c
  split
  · split
    rename_i x1 x2 x3 e4
    have h5 : Touches 0x80722406800408000000000000000000000000000000000000000000000000000000000000000000000000000000000000000000000000000000000000000b2000211 s x3 := Touches.of_eq (fun d => d.2) e4 (Touches.step (State.fresh_touches ..) rfl (Touches.refl _ _))
    split
    rename_i x6 x7 x8 e9
    have h10 : Touches 0x80722406800408000000000000000000000000000000000000000000000000000000000000000000000000000000000000000000000000000000000000000b2000211 s x8 := Touches.of_eq (fun d => d.2) e9 (Touches.step (State.fresh_touches ..) rfl h5)
    exact Touches.step (State.writeI2cCtrl_touches ..) rfl h10
  · exact Touches.step (State.atMost_touches ..) rfl (Touches.step (State.plain_touches ..) rfl (Touches.refl _ _))
  · exact Touches.step (State.i2cPush_touches ..) rfl (Touches.refl _ _)
  · rename_i x11 e12 e13 e14
    exact Touches.step (State.plain_touches ..) rfl (Touches.refl _ _)

theorem State.writePtp_touches (s : State) (r : Reg) (v : Nat) : Touches 0x80700000000408000000000000000000000000000000000000000000000000015a00000220600000000000000000000000000000000000000000000000000a2000231 s (State.writePtp s r v) := by
  unfold State.writePtp
  split
  · exact Touches.step (State.writePtpCfg_touches ..) rfl (Touches.refl _ _)
  · exact Touches.step (State.writeRate_touches ..) rfl (Touches.refl _ _)
  · exact Touches.step (State.writeStepCtrl_touches ..) rfl (Touches.refl _ _)
  · refine Touches.step (State.atMost_touches ..) rfl ?_
    exact Touches.step (State.atMost_touches ..) rfl (Touches.step (State.plain_touches ..) rfl (Touches.refl _ _))
  · exact Touches.step (State.atLeast_touches ..) rfl (Touches.step (State.plain_touches ..) rfl (Touches.refl _ _))
  · exact Touches.step (State.writeMarkHi_touches ..) rfl (Touches.refl _ _)
  · exact Touches.step (State.stepLogRegs_touches ..) rfl (Touches.step (State.plain_touches ..) rfl (Touches.refl _ _))
  · rename_i x1 e2 e3 e4 e5 e6 e7 e8
    exact Touches.step (State.plain_touches ..) rfl (Touches.refl _ _)

theorem State.writeChan_touches (s : State) (c : Nat) (r : Reg) (v : Nat) : Touches 0x2080700000000408000000202080000000000406c941500000000100200000000052000000004a07f41b01fb490100700402000000000020048000e80001800a61ec2f5 s (State.writeChan s c r v) := by
  unfold State.writeChan
  split
  · exact Touches.step (State.writeChCfg_touches ..) rfl (Touches.refl _ _)
  · exact Touches.step (State.writeWire_touches ..) rfl (Touches.refl _ _)
  · refine Touches.ite ?_ ?_
    · exact Touches.step (State.plain_touches ..) rfl (Touches.refl _ _)
    · exact Touches.refl _ _
  · exact Touches.step (State.writeThreshold_touches ..) rfl (Touches.refl _ _)
  · exact Touches.step (State.writeThreshold_touches ..) rfl (Touches.refl _ _)
  · exact Touches.step (State.writeX_touches ..) rfl (Touches.refl _ _)
  · exact Touches.step (State.writeX_touches ..) rfl (Touches.refl _ _)
  · exact Touches.step (State.writeSerCfg_touches ..) rfl (Touches.refl _ _)
  · refine Touches.step (State.atLeast_touches ..) rfl ?_
    exact Touches.step (State.atLeast_touches ..) rfl (Touches.step (State.plain_touches ..) rfl (Touches.refl _ _))
  · exact Touches.step (State.writeSerCrc_touches ..) rfl (Touches.refl _ _)
  · exact Touches.step (State.writeSerJump_touches ..) rfl (Touches.refl _ _)
  · rename_i x1 e2 e3 e4 e5 e6 e7 e8 e9 e10 e11 e12
    exact Touches.step (State.plain_touches ..) rfl (Touches.refl _ _)

theorem State.writeGateReg_touches (s : State) (g : Nat) (r : Reg) (v : Nat) : Touches 0x8070000000040800000000000000000000000000000000000000000000000000000000000000000000000000000000000000000000000004000003a000800a2080211 s (State.writeGateReg s g r v) := by
  unfold State.writeGateReg
  split
  · exact Touches.step (State.writeGate_touches ..) rfl (Touches.refl _ _)
  · exact Touches.step (State.writeOffs_touches ..) rfl (Touches.refl _ _)
  · exact Touches.step (State.writeOffs_touches ..) rfl (Touches.refl _ _)
  · exact Touches.step (State.writeOffs_touches ..) rfl (Touches.refl _ _)
  · rename_i x1 e2 e3 e4 e5
    exact Touches.step (State.plain_touches ..) rfl (Touches.refl _ _)

theorem State.writeMot_touches (s : State) (r : Reg) (v : Nat) : Touches 0x2080700000000408000000202080000000000406f959500000000100200000000052000000004a07f41b01fb49010070040200000000002004e000fba40f820a61ec2f5 s (State.writeMot s r v) := by
  unfold State.writeMot
  extract_lets -merge +onlyGivenNames x1
  clear_value x1
  refine Touches.ite ?_ ?_
  · exact Touches.step (State.writeChan_touches ..) rfl (Touches.refl _ _)
  · refine Touches.ite ?_ ?_
    · exact Touches.step (State.writeGateReg_touches ..) rfl (Touches.refl _ _)
    · split
      · exact Touches.step (State.writeTrkCfg_touches ..) rfl (Touches.refl _ _)
      · exact Touches.step (State.writeDecl_touches ..) rfl (Touches.refl _ _)
      · exact Touches.step (State.writeCommit_touches ..) rfl (Touches.refl _ _)
      · exact Touches.step (State.writeDiCfg_touches ..) rfl (Touches.refl _ _)
      · rename_i x2 e3 e4 e5 e6
        exact Touches.step (State.plain_touches ..) rfl (Touches.refl _ _)

theorem State.writeEj_touches (s : State) (r : Reg) (v : Nat) : Touches 0x20807000000004080000000000000000000000000000000000000000000000000000000000000b8ff4400000000000000000000000000000048000c00000000a2080251 s (State.writeEj s r v) := by
  unfold State.writeEj
  extract_lets -merge +onlyGivenNames x1
  clear_value x1
  refine Touches.ite ?_ ?_
  · split
    · exact Touches.step (State.writeOutCfg_touches ..) rfl (Touches.refl _ _)
    · exact Touches.step (State.atLeast_touches ..) rfl (Touches.step (State.plain_touches ..) rfl (Touches.refl _ _))
    · exact Touches.step (State.writeFlush_touches ..) rfl (Touches.refl _ _)
    · rename_i x2 e3 e4 e5
      exact Touches.step (State.plain_touches ..) rfl (Touches.refl _ _)
  · split
    · exact Touches.step (State.writeEjCtrl_touches ..) rfl (Touches.refl _ _)
    · exact Touches.step (State.writeArm_touches ..) rfl (Touches.refl _ _)
    · exact Touches.step (State.writeLstop_touches ..) rfl (Touches.refl _ _)
    · rename_i x6 e7 e8 e9
      exact Touches.step (State.plain_touches ..) rfl (Touches.refl _ _)

theorem State.writeCxp_touches (s : State) (r : Reg) (v : Nat) : Touches 0x8070000000040800000000000000000000000000000000000000000000000004000000000000000000000000006050000f001800000000000000000000000a2380211 s (State.writeCxp s r v) := by
  unfold State.writeCxp
  extract_lets -merge +onlyGivenNames x1
  clear_value x1
  split
  · exact Touches.step (State.writePortCfg_touches ..) rfl (Touches.refl _ _)
  · exact Touches.step (State.writeBind_touches ..) rfl (Touches.refl _ _)
  · exact Touches.step (State.writeTrig_touches ..) rfl (Touches.refl _ _)
  · exact Touches.step (State.phaseMoved_touches ..) rfl (Touches.step (State.plain_touches ..) rfl (Touches.refl _ _))
  · exact Touches.step (State.phaseMoved_touches ..) rfl (Touches.step (State.plain_touches ..) rfl (Touches.refl _ _))
  · exact Touches.step (State.softTrig_touches ..) rfl (Touches.refl _ _)
  · refine Touches.step (State.atLeast_touches ..) rfl ?_
    exact Touches.step (State.atLeast_touches ..) rfl (Touches.step (State.plain_touches ..) rfl (Touches.refl _ _))
  · refine Touches.ite ?_ ?_
    · exact Touches.refl _ _
    · exact Touches.step (State.plain_touches ..) rfl (Touches.refl _ _)
  · exact Touches.step (State.ctrlStart_touches ..) rfl (Touches.refl _ _)
  · exact Touches.step (State.atLeast_touches ..) rfl (Touches.step (State.plain_touches ..) rfl (Touches.refl _ _))
  · rename_i x2 e3 e4 e5 e6 e7 e8 e9 e10 e11 e12
    exact Touches.step (State.plain_touches ..) rfl (Touches.refl _ _)

theorem State.writeIsp_touches (s : State) (r : Reg) (v : Nat) : Touches 0x80700000000408000000000000000000000000000000000000000000000000000000000000000000000000001200000000001800000000000000000000000a2100211 s (State.writeIsp s r v) := by
  unfold State.writeIsp
  extract_lets -merge +onlyGivenNames x1
  clear_value x1
  split
  · exact Touches.step (State.writePipeCell_touches ..) rfl (Touches.refl _ _)
  · extract_lets -merge +onlyGivenNames x2
    clear_value x2
    refine Touches.ite ?_ ?_
    · exact Touches.refl _ _
    · exact Touches.step (State.plain_touches ..) rfl (Touches.refl _ _)
  · exact Touches.step (State.writeOutHead_touches ..) rfl (Touches.refl _ _)
  · rename_i x3 e4 e5 e6
    exact Touches.step (State.plain_touches ..) rfl (Touches.refl _ _)

theorem State.writeLane_touches (s : State) (r : Reg) (v : Nat) : Touches 0x8070000000040800000000000000000000000000000000000000000000000f9e0000000000000000000000000000000000000000000000000000000000000a2200211 s (State.writeLane s r v) := by
  unfold State.writeLane
  extract_lets -merge +onlyGivenNames x1
  clear_value x1
  split
  · exact Touches.step (State.writeLaneLoop_touches ..) rfl (Touches.refl _ _)
  · exact Touches.step (State.writeLaneTx_touches ..) rfl (Touches.refl _ _)
  · exact Touches.step (State.writeLaneRx_touches ..) rfl (Touches.refl _ _)
  · refine Touches.step (State.atLeast_touches ..) rfl ?_
    exact Touches.step (State.atLeast_touches ..) rfl (Touches.step (State.plain_touches ..) rfl (Touches.refl _ _))
  · exact Touches.step (State.atLeast_touches ..) rfl (Touches.step (State.plain_touches ..) rfl (Touches.refl _ _))
  · exact Touches.step (State.writePrbs_touches ..) rfl (Touches.refl _ _)
  · rename_i x2 e3 e4 e5 e6 e7 e8
    exact Touches.step (State.plain_touches ..) rfl (Touches.refl _ _)

theorem State.writeRing_touches (s : State) (r : Reg) (v : Nat) : Touches 0x80700000000408000000000000000000000000000000000000000010603e08040008000000000000000000000000000000001800000000000000000000000a2600251 s (State.writeRing s r v) := by
  unfold State.writeRing
  split
  · exact Touches.step (State.writeRingCtrl_touches ..) rfl (Touches.refl _ _)
  · exact Touches.step (State.writeRingLayout_touches ..) rfl (Touches.refl _ _)
  · extract_lets -merge +onlyGivenNames x1
    have h2 : Touches 0x80700000000408000000000000000000000000000000000000000010603e08040008000000000000000000000000000000001800000000000000000000000a2600251 s x1 := by
      unfold x1
      refine Touches.step (State.atMost_touches ..) rfl ?_
      exact Touches.step (State.atLeast_touches ..) rfl (Touches.step (State.plain_touches ..) rfl (Touches.refl _ _))
    clear_value x1
    extract_lets -merge +onlyGivenNames x3
    clear_value x3
    refine Touches.ite ?_ ?_
    · exact Touches.trans h2 (State.setF_touches _ _ _ rfl 266 rfl grp_RING_LINK_CFG)
    · exact h2
  · exact Touches.step (State.atLeast_touches ..) rfl (Touches.step (State.plain_touches ..) rfl (Touches.refl _ _))
  · exact Touches.step (State.atLeast_touches ..) rfl (Touches.step (State.plain_touches ..) rfl (Touches.refl _ _))
  · rename_i x4 e5 e6 e7 e8 e9
    exact Touches.step (State.plain_touches ..) rfl (Touches.refl _ _)

theorem State.writeMesh_touches (s : State) (r : Reg) (v : Nat) : Touches 0x80700000000408000000007c80000000000000000000000000000000000000000000000000000000000000000000000000280000000000000000000000000a2040311 s (State.writeMesh s r v) := by
  unfold State.writeMesh
  split
  · exact Touches.step (State.writeRouteset_touches ..) rfl (Touches.refl _ _)
  · exact Touches.step (State.atLeast_touches ..) rfl (Touches.step (State.plain_touches ..) rfl (Touches.refl _ _))
  · exact Touches.step (State.atLeast_touches ..) rfl (Touches.step (State.plain_touches ..) rfl (Touches.refl _ _))
  · refine Touches.ite ?_ ?_
    · exact Touches.step (State.twArm_touches ..) rfl (Touches.refl _ _)
    · exact Touches.refl _ _
  · exact Touches.step (State.twRegs_touches ..) rfl (Touches.step (State.plain_touches ..) rfl (Touches.refl _ _))
  · rename_i x1 e2 e3 e4 e5 e6
    exact Touches.step (State.plain_touches ..) rfl (Touches.refl _ _)

theorem State.writeMem_touches (s : State) (r : Reg) (v : Nat) : Touches 0x80700000000408000000000000000000000000000000000001800000000000000000000000000000000000000000000000000000000000000000000000000a2000611 s (State.writeMem s r v) := by
  unfold State.writeMem
  split
  · exact Touches.step (State.writeMmuOp_touches ..) rfl (Touches.refl _ _)
  · exact Touches.step (State.atLeast_touches ..) rfl (Touches.step (State.plain_touches ..) rfl (Touches.refl _ _))
  · rename_i x1 e2 e3
    exact Touches.step (State.plain_touches ..) rfl (Touches.refl _ _)

theorem State.writeDma_touches (s : State) (r : Reg) (v : Nat) : Touches 0x208070000000040801010000002000000000000000005f49e9c0800000000000000000000000000000000000000000000000000000000000000000000000000a6003e17 s (State.writeDma s r v) := by
  unfold State.writeDma
  extract_lets -merge +onlyGivenNames x1
  clear_value x1
  refine Touches.ite ?_ ?_
  · split
    · refine Touches.ite ?_ ?_
      · split
        rename_i x2 x3 x4 e5
        have h6 : Touches 0x208070000000040801010000002000000000000000005f49e9c0800000000000000000000000000000000000000000000000000000000000000000000000000a6003e17 s x4 := Touches.of_eq (fun d => d.2) e5 (Touches.step (State.freshList_touches ..) rfl (Touches.refl _ _))
        exact Touches.step (State.dmaAbort_touches ..) rfl h6
      · exact Touches.refl _ _
    · exact Touches.step (State.writeDmaHi_touches ..) rfl (Touches.refl _ _)
    · rename_i x7 e8 e9
      exact Touches.step (State.plain_touches ..) rfl (Touches.refl _ _)
  · exact Touches.step (State.plain_touches ..) rfl (Touches.refl _ _)

theorem State.writeSync_touches (s : State) (r : Reg) (v : Nat) : Touches 0x80700000000408000000000000000000000000000050000000000000000000000000000000000000000000000000000000000000000000000000000000000a2000215 s (State.writeSync s r v) := by
  unfold State.writeSync
  extract_lets -merge +onlyGivenNames x1
  clear_value x1
  split
  · exact Touches.step (State.hostCellAdd_touches ..) rfl (Touches.refl _ _)
  · refine Touches.ite ?_ ?_
    · exact Touches.step (State.cellReset_touches ..) rfl (Touches.refl _ _)
    · exact Touches.refl _ _
  · rename_i x2 e3 e4
    exact Touches.step (State.plain_touches ..) rfl (Touches.refl _ _)

theorem State.writeSched_touches (s : State) (r : Reg) (v : Nat) : Touches 0x2080700000000408000000202080000000000406f959500000000100200000000000000000000a07f4000000000000000000000000000020048000f80001800a60ec2d5 s (State.writeSched s r v) := by
  unfold State.writeSched
  extract_lets -merge +onlyGivenNames x1
  clear_value x1
  refine Touches.ite ?_ ?_
  · refine Touches.ite ?_ ?_
    · exact Touches.step (State.plain_touches ..) rfl (Touches.refl _ _)
    · exact Touches.refl _ _
  · split
    · refine Touches.step (State.schedCommits_touches ..) rfl ?_
      exact Touches.step (State.writeSub_touches ..) rfl (Touches.refl _ _)
    · exact Touches.step (State.hostCancel_touches ..) rfl (Touches.refl _ _)
    · rename_i x2 e3 e4
      exact Touches.step (State.plain_touches ..) rfl (Touches.refl _ _)

theorem State.writeBar2Va_touches (s : State) (r : Reg) (v : Nat) : Touches 0x80000001 s (State.writeBar2Va s r v) := by
  unfold State.writeBar2Va
  extract_lets -merge +onlyGivenNames x1
  have h2 : Touches 0x80000001 s x1 := by unfold x1; exact Touches.step (State.plain_touches ..) rfl (Touches.refl _ _)
  clear_value x1
  refine Touches.ite ?_ ?_
  · exact h2
  · exact Touches.refl _ _

theorem State.writeMbx_touches (s : State) (r : Reg) (v : Nat) : Touches 0x80700000000408900108598000000000000000000000000000000000000000000000000000000000000000000000000000000000000020000000000000000a6000693 s (State.writeMbx s r v) := by
  unfold State.writeMbx
  extract_lets -merge +onlyGivenNames x1
  clear_value x1
  refine Touches.ite ?_ ?_
  · exact Touches.step (State.msixFlush_touches ..) rfl (Touches.step (State.plain_touches ..) rfl (Touches.refl _ _))
  · split
    · exact Touches.step (State.writeMbxCtrl_touches ..) rfl (Touches.refl _ _)
    · exact Touches.step (State.writeMbxCfg_touches ..) rfl (Touches.refl _ _)
    · exact Touches.step (State.writeLocked_touches ..) rfl (Touches.refl _ _)
    · exact Touches.step (State.writeLocked_touches ..) rfl (Touches.refl _ _)
    · exact Touches.step (State.writeMbxHead_touches ..) rfl (Touches.refl _ _)
    · exact Touches.step (State.writeMbxIrqCfg_touches ..) rfl (Touches.refl _ _)
    · exact Touches.step (State.atLeast_touches ..) rfl (Touches.step (State.plain_touches ..) rfl (Touches.refl _ _))
    · exact Touches.step (State.writeBar2Va_touches ..) rfl (Touches.refl _ _)
    · exact Touches.step (State.writeBar2Va_touches ..) rfl (Touches.refl _ _)
    · exact Touches.step (State.atMost_touches ..) rfl (Touches.step (State.plain_touches ..) rfl (Touches.refl _ _))
    · exact Touches.step (State.writeWqCfg_touches ..) rfl (Touches.refl _ _)
    · exact Touches.step (State.writeLocked_touches ..) rfl (Touches.refl _ _)
    · exact Touches.step (State.writeLocked_touches ..) rfl (Touches.refl _ _)
    · exact Touches.step (State.writeWqTail_touches ..) rfl (Touches.refl _ _)
    · exact Touches.step (State.irqClear_touches ..) rfl (Touches.refl _ _)
    · rename_i x2 e3 e4 e5 e6 e7 e8 e9 e10 e11 e12 e13 e14 e15 e16 e17
      exact Touches.step (State.plain_touches ..) rfl (Touches.refl _ _)

theorem State.writePfx_touches (s : State) (r : Reg) (v : Nat) : Touches 0x807000000004080101000000000000000860000000000001c0800000000000000000000000000000000000000000000000000000000000000000000000000a6800617 s (State.writePfx s r v) := by
  unfold State.writePfx
  split
  · exact Touches.step (State.writePfxCtrl_touches ..) rfl (Touches.refl _ _)
  · refine Touches.step (State.atLeast_touches ..) rfl ?_
    refine Touches.step (State.atMost_touches ..) rfl ?_
    exact Touches.step (State.atLeast_touches ..) rfl (Touches.step (State.plain_touches ..) rfl (Touches.refl _ _))
  · rename_i x1 e2 e3
    exact Touches.step (State.plain_touches ..) rfl (Touches.refl _ _)

theorem State.writeAdp_touches (s : State) (r : Reg) (v : Nat) : Touches 0x208070000000040801010000002000009c00000000000001e9c0800000000000000000000000000000000000000000000000000000000000000000000000000a6800615 s (State.writeAdp s r v) := by
  unfold State.writeAdp
  split
  · exact Touches.step (State.adpRegs_touches ..) rfl (Touches.step (State.plain_touches ..) rfl (Touches.refl _ _))
  · exact Touches.step (State.writeAdpCmd_touches ..) rfl (Touches.refl _ _)
  · rename_i x1 e2 e3
    exact Touches.step (State.plain_touches ..) rfl (Touches.refl _ _)

theorem State.writeAug_touches (s : State) (r : Reg) (v : Nat) : Touches 0x80000001 s (State.writeAug s r v) := by
  unfold State.writeAug
  extract_lets -merge +onlyGivenNames x1
  clear_value x1
  refine Touches.ite ?_ ?_
  · exact Touches.refl _ _
  · exact Touches.step (State.plain_touches ..) rfl (Touches.refl _ _)

theorem State.writeAnn_touches (s : State) (r : Reg) (v : Nat) : Touches 0x8070000000040801010000002ac400000000000000000001c0800000000000000000000000000000000000000000000000000000000000000000000000000a7002617 s (State.writeAnn s r v) := by
  unfold State.writeAnn
  split
  · exact Touches.step (State.writeAnnCtrl_touches ..) rfl (Touches.refl _ _)
  · rename_i x1 e2
    exact Touches.step (State.plain_touches ..) rfl (Touches.refl _ _)

theorem State.writeGill_touches (s : State) (r : Reg) (v : Nat) : Touches 0x80700000000408000000001c28000000000000000050080000011fe0000000000000000000000000000000000000000000000000000000000000000000000a205da15 s (State.writeGill s r v) := by
  unfold State.writeGill
  extract_lets -merge +onlyGivenNames x1
  clear_value x1
  split
  · refine Touches.ite ?_ ?_
    · exact Touches.step (State.dbgHalt_touches ..) rfl (Touches.refl _ _)
    · refine Touches.ite ?_ ?_
      · exact Touches.step (State.dbgResume_touches ..) rfl (Touches.refl _ _)
      · refine Touches.ite ?_ ?_
        · exact Touches.step (State.dbgStep_touches ..) rfl (Touches.refl _ _)
        · exact Touches.refl _ _
  · rename_i x2 e3
    exact Touches.step (State.plain_touches ..) rfl (Touches.refl _ _)

theorem State.writeReg_touches (s : State) (r : Reg) (v : Nat) : Touches 0x73ad7f62406d82c0c91010879fcaec4009c08640efd595f49e9c1811ff0603e0f9f5a080002206b8ff45b01fb49136070140f2df8ca40102606e718fba40f820bffffff7 s (State.writeReg s r v) := by
  unfold State.writeReg
  extract_lets -merge +onlyGivenNames x1
  clear_value x1
  refine Touches.ite ?_ ?_
  · exact Touches.step (State.plain_touches ..) rfl (Touches.refl _ _)
  · refine Touches.ite ?_ ?_
    · exact Touches.step (State.writeBoot_touches ..) rfl (Touches.refl _ _)
    · refine Touches.ite ?_ ?_
      · exact Touches.step (State.writeClk_touches ..) rfl (Touches.refl _ _)
      · refine Touches.ite ?_ ?_
        · exact Touches.step (State.writePwr_touches ..) rfl (Touches.refl _ _)
        · refine Touches.ite ?_ ?_
          · exact Touches.step (State.writeJrn_touches ..) rfl (Touches.refl _ _)
          · refine Touches.ite ?_ ?_
            · exact Touches.step (State.writeSpi_touches ..) rfl (Touches.refl _ _)
            · refine Touches.ite ?_ ?_
              · exact Touches.step (State.writeI2c_touches ..) rfl (Touches.refl _ _)
              · refine Touches.ite ?_ ?_
                · exact Touches.step (State.writePtp_touches ..) rfl (Touches.refl _ _)
                · refine Touches.ite ?_ ?_
                  · exact Touches.step (State.writeMot_touches ..) rfl (Touches.refl _ _)
                  · refine Touches.ite ?_ ?_
                    · exact Touches.step (State.writeEj_touches ..) rfl (Touches.refl _ _)
                    · refine Touches.ite ?_ ?_
                      · exact Touches.step (State.writeCxp_touches ..) rfl (Touches.refl _ _)
                      · refine Touches.ite ?_ ?_
                        · exact Touches.step (State.writeIsp_touches ..) rfl (Touches.refl _ _)
                        · refine Touches.ite ?_ ?_
                          · exact Touches.step (State.writeLane_touches ..) rfl (Touches.refl _ _)
                          · refine Touches.ite ?_ ?_
                            · exact Touches.step (State.writeRing_touches ..) rfl (Touches.refl _ _)
                            · refine Touches.ite ?_ ?_
                              · exact Touches.step (State.writeMesh_touches ..) rfl (Touches.refl _ _)
                              · refine Touches.ite ?_ ?_
                                · exact Touches.step (State.writeMem_touches ..) rfl (Touches.refl _ _)
                                · refine Touches.ite ?_ ?_
                                  · exact Touches.step (State.writeDma_touches ..) rfl (Touches.refl _ _)
                                  · refine Touches.ite ?_ ?_
                                    · exact Touches.step (State.writeSync_touches ..) rfl (Touches.refl _ _)
                                    · refine Touches.ite ?_ ?_
                                      · exact Touches.step (State.writeSched_touches ..) rfl (Touches.refl _ _)
                                      · refine Touches.ite ?_ ?_
                                        · exact Touches.step (State.writeMbx_touches ..) rfl (Touches.refl _ _)
                                        · refine Touches.ite ?_ ?_
                                          · exact Touches.step (State.writePfx_touches ..) rfl (Touches.refl _ _)
                                          · refine Touches.ite ?_ ?_
                                            · exact Touches.step (State.writeAdp_touches ..) rfl (Touches.refl _ _)
                                            · refine Touches.ite ?_ ?_
                                              · exact Touches.step (State.writeAug_touches ..) rfl (Touches.refl _ _)
                                              · refine Touches.ite ?_ ?_
                                                · exact Touches.step (State.writeAnn_touches ..) rfl (Touches.refl _ _)
                                                · exact Touches.step (State.writeGill_touches ..) rfl (Touches.refl _ _)

end Sys2Proof.Machine
end

