-- ==== Sys2Proof/Laws/FrameBusExec.lean ====
section
/-! SUPPORT. What each operation of Machine/BusExec.lean can do: the parts of the state it touches (Touches). -/

-- One declaration at a time: many proofs at once would each hold a thread with a large stack.
set_option Elab.async false

namespace Sys2Proof.Machine

theorem State.runWrite_touches (s : State) (off : Nat) (v : Nat) : Touches 0x73ad7f62406d82c0c91010879fcaec4009c08640efd595f49e9c1811ff0603e0f9f5a080002206b8ff45b01fb49136070140f2df8ca40102606e718fba40f820bffffff7 s (State.runWrite s off v).2 := by
  unfold State.runWrite
  split
  · exact Touches.pair2 (Touches.refl _ _)
  · extract_lets -merge +onlyGivenNames x1
    have h2 : Touches 0x73ad7f62406d82c0c91010879fcaec4009c08640efd595f49e9c1811ff0603e0f9f5a080002206b8ff45b01fb49136070140f2df8ca40102606e718fba40f820bffffff7 s x1 := by unfold x1; exact Touches.step (State.writeReg_touches ..) rfl (Touches.refl _ _)
    clear_value x1
    exact h2

theorem State.runStep_touches (s : State) (l : List (Nat × Nat)) (a : RunStep) : Touches 0x73ad7f62406d82c0c91010879fcaec4009c08640efd595f49e9c1811ff0603e0f9f5a080002206b8ff45b01fb49136070140f2df8ca40102606e718fba40f820bffffff7 s (State.runStep s l a).2 := by
  unfold State.runStep
  split
  · split
    rename_i x1 x2 x3 e4
    have h5 : Touches 0x73ad7f62406d82c0c91010879fcaec4009c08640efd595f49e9c1811ff0603e0f9f5a080002206b8ff45b01fb49136070140f2df8ca40102606e718fba40f820bffffff7 s x3 := Touches.of_eq (fun d => d.2) e4 (Touches.step (State.runWrite_touches ..) rfl (Touches.refl _ _))
    exact h5
  · extract_lets -merge +onlyGivenNames x6
    have h7 : Touches 0x73ad7f62406d82c0c91010879fcaec4009c08640efd595f49e9c1811ff0603e0f9f5a080002206b8ff45b01fb49136070140f2df8ca40102606e718fba40f820bffffff7 s x6 := by unfold x6; exact Touches.step (State.writePfxCtrl_touches ..) rfl (Touches.refl _ _)
    clear_value x6
    exact h7
  · split
    · exact Touches.pair2 (Touches.refl _ _)
    · split
      rename_i x8 x9 x10 e11
      have h12 : Touches 0x73ad7f62406d82c0c91010879fcaec4009c08640efd595f49e9c1811ff0603e0f9f5a080002206b8ff45b01fb49136070140f2df8ca40102606e718fba40f820bffffff7 s x10 := Touches.of_eq (fun d => d.2) e11 (Touches.step (State.runWrite_touches ..) rfl (Touches.refl _ _))
      exact h12

theorem runAll_touches (l : List (Nat × Nat)) (a1 : List RunStep) (a2 : State) : Touches 0x73ad7f62406d82c0c91010879fcaec4009c08640efd595f49e9c1811ff0603e0f9f5a080002206b8ff45b01fb49136070140f2df8ca40102606e718fba40f820bffffff7 a2 (runAll l a1 a2).2 := by
  fun_induction runAll l a1 a2
  · rename_i x1
    exact Touches.pair2 (Touches.refl _ _)
  · rename_i x2 x3 x4 x5 x6 e7
    have h8 : Touches 0x73ad7f62406d82c0c91010879fcaec4009c08640efd595f49e9c1811ff0603e0f9f5a080002206b8ff45b01fb49136070140f2df8ca40102606e718fba40f820bffffff7 x4 x6 := Touches.of_eq (fun d => d.2) e7 (Touches.step (State.runStep_touches ..) rfl (Touches.refl _ _))
    exact h8
  · rename_i x9 x10 x11 x12 e13 e14
    have h15 : Touches 0x73ad7f62406d82c0c91010879fcaec4009c08640efd595f49e9c1811ff0603e0f9f5a080002206b8ff45b01fb49136070140f2df8ca40102606e718fba40f820bffffff7 x11 x12 := Touches.of_eq (fun d => d.2) e13 (Touches.step (State.runStep_touches ..) rfl (Touches.refl _ _))
    exact Touches.trans h15 e14

theorem State.runReport_touches (s : State) (off : Nat) : Touches 0x8070000000040c00010000000000000000000000000000000000000000000000000000000000000000000000000000000000000000000000000000000000022000211 s (State.runReport s off) := by
  unfold State.runReport
  refine Touches.trans ?_ (State.report_touches _ _ _ _ _ rfl 429 rfl grp_MBX_HSTATUS)
  exact State.setF_touches _ _ _ rfl 447 rfl grp_MBX_RUNSET_STATUS

theorem State.runApply_touches (s : State) : Touches 0x73ad7f62406d82c0c91010879fcaec4009c08640efd595f49e9c1811ff0603e0f9f5a080002206b8ff45b01fb49136070140f2df8ca40102606e718fba40f820bffffff7 s (State.runApply s) := by
  unfold State.runApply
  refine Touches.ite ?_ ?_
  · exact Touches.refl _ _
  · extract_lets -merge +onlyGivenNames x1
    have h2 : Touches 0x73ad7f62406d82c0c91010879fcaec4009c08640efd595f49e9c1811ff0603e0f9f5a080002206b8ff45b01fb49136070140f2df8ca40102606e718fba40f820bffffff7 s x1 := by unfold x1; exact State.setB_touches _ _ _ rfl 447 rfl grp_MBX_RUNSET_STATUS
    clear_value x1
    refine Touches.ite ?_ ?_
    · exact Touches.step (State.runReport_touches ..) rfl h2
    · split
      · rename_i x3 x4 x5 e6
        have h7 : Touches 0x73ad7f62406d82c0c91010879fcaec4009c08640efd595f49e9c1811ff0603e0f9f5a080002206b8ff45b01fb49136070140f2df8ca40102606e718fba40f820bffffff7 s x5 := Touches.of_eq (fun d => d.2) e6 (Touches.step (runAll_touches ..) rfl h2)
        exact Touches.step (State.runReport_touches ..) rfl h7
      · rename_i x8 x9 e10
        have h11 : Touches 0x73ad7f62406d82c0c91010879fcaec4009c08640efd595f49e9c1811ff0603e0f9f5a080002206b8ff45b01fb49136070140f2df8ca40102606e718fba40f820bffffff7 s x9 := Touches.of_eq (fun d => d.2) e10 (Touches.step (runAll_touches ..) rfl h2)
        exact Touches.trans h11 (State.setB_touches _ _ _ rfl 447 rfl grp_MBX_RUNSET_STATUS)

theorem State.writeRunset_touches (s : State) (v : Nat) : Touches 0x73ad7f62406d82c0c91010879fcaec4009c08640efd595f49e9c1811ff0603e0f9f5a080002206b8ff45b01fb49136070140f2df8ca40102606e718fba40f820bffffff7 s (State.writeRunset s v) := by
  unfold State.writeRunset
  extract_lets -merge +onlyGivenNames x1
  have h2 : Touches 0x73ad7f62406d82c0c91010879fcaec4009c08640efd595f49e9c1811ff0603e0f9f5a080002206b8ff45b01fb49136070140f2df8ca40102606e718fba40f820bffffff7 s x1 := by unfold x1; exact Touches.step (State.plain_touches ..) rfl (Touches.refl _ _)
  clear_value x1
  extract_lets -merge +onlyGivenNames x3
  have h4 : Touches 0x73ad7f62406d82c0c91010879fcaec4009c08640efd595f49e9c1811ff0603e0f9f5a080002206b8ff45b01fb49136070140f2df8ca40102606e718fba40f820bffffff7 s x3 := by
    unfold x3
    refine Touches.ite ?_ ?_
    · exact Touches.step (State.runsetAsk_touches ..) rfl h2
    · exact h2
  clear_value x3
  refine Touches.ite ?_ ?_
  · exact Touches.step (State.runApply_touches ..) rfl h4
  · exact h4

theorem State.putReg_touches (s : State) (off : Nat) (v : Nat) : Touches 0x73ad7f62406d82c0c91010879fcaec4009c08640efd595f49e9c1811ff0603e0f9f5a080002206b8ff45b01fb49136070140f2df8ca40102606e718fba40f820bffffff7 s (State.putReg s off v) := by
  unfold State.putReg
  split
  · exact Touches.refl _ _
  · extract_lets -merge +onlyGivenNames x1
    clear_value x1
    refine Touches.ite ?_ ?_
    · exact Touches.step (State.writeRunset_touches ..) rfl (Touches.refl _ _)
    · exact Touches.step (State.writeReg_touches ..) rfl (Touches.refl _ _)

theorem State.put32_touches (s : State) (off : Nat) (v : Nat) : Touches 0x73ad7f62406d82c0c91010879fcaec4009c08640efd595f49e9c1811ff0603e0f9f5a080002206b8ff45b01fb49136070140f2df8ca40102606e718fba40f820bffffff7 s (State.put32 s off v) := by
  unfold State.put32
  refine Touches.trans ?_ (State.access_touches _ _ _ _ _ _ _ rfl ?_)
  · exact Touches.refl _ _
  · intro y1
    exact Touches.step (State.putReg_touches ..) rfl (Touches.refl _ _)

theorem State.hostSts_touches (s : State) (sts : Nat) (off : Nat) : Touches 0x8070000000040800010000000000000000000000000000000000000000000000000000000000000000000000000000000000000000000000000000000000022000211 s (State.hostSts s sts off) := by
  unfold State.hostSts
  exact State.report_touches _ _ _ _ _ rfl 429 rfl grp_MBX_HSTATUS

theorem State.hostWrite_touches (s : State) (off : Nat) (size : Nat) (v : Nat) : Touches 0x73ad7f62406d82c0c91010879fcaec4009c08640efd595f49e9c1811ff0603e0f9f5a080002206b8ff45b01fb49136070140f2df8ca40102606e718fba40f820bffffff7 s (State.hostWrite s off size v) := by
  unfold State.hostWrite
  refine Touches.ite ?_ ?_
  · exact Touches.step (State.hostSts_touches ..) rfl (Touches.refl _ _)
  · refine Touches.ite ?_ ?_
    · exact Touches.step (State.hostSts_touches ..) rfl (Touches.refl _ _)
    · refine Touches.ite ?_ ?_
      · exact Touches.step (State.put32_touches ..) rfl (Touches.step (State.put32_touches ..) rfl (Touches.refl _ _))
      · exact Touches.step (State.put32_touches ..) rfl (Touches.refl _ _)

theorem State.measured_touches (s : State) (off : Nat) : Touches 0x700000000000000000000000000200000000000000000000010000000000000000080011 s (State.measured s off) := by
  unfold State.measured
  refine Touches.ite ?_ ?_
  · extract_lets -merge +onlyGivenNames x1
    clear_value x1
    refine Touches.ite ?_ ?_
    · extract_lets -merge +onlyGivenNames x2
      clear_value x2
      split
      rename_i x3 x4 x5 e6
      have h7 : Touches 0x700000000000000000000000000200000000000000000000010000000000000000080011 s x5 := Touches.of_eq (fun d => d.2) e6 (Touches.step (State.fresh_touches ..) rfl (Touches.refl _ _))
      exact Touches.trans h7 (State.setF_touches _ _ _ rfl 57 rfl grp_CLK_MEAS)
    · exact State.setF_touches _ _ _ rfl 57 rfl grp_CLK_MEAS
  · refine Touches.ite ?_ ?_
    · split
      · exact Touches.refl _ _
      · split
        rename_i x8 x9 x10 e11
        have h12 : Touches 0x700000000000000000000000000200000000000000000000010000000000000000080011 s x10 := Touches.of_eq (fun d => d.2) e11 (Touches.step (State.fresh_touches ..) rfl (Touches.refl _ _))
        exact Touches.setMot h12 rfl
    · refine Touches.ite ?_ ?_
      · exact State.wr_touches _ _ _ rfl 146 rfl (grp_ISP_LOAD _)
      · refine Touches.ite ?_ ?_
        · exact Touches.step (State.prbsSync_touches ..) rfl (Touches.refl _ _)
        · exact Touches.refl _ _

theorem State.readClears_touches (s : State) (off : Nat) : Touches 0x80080001 s (State.readClears s off) := by
  unfold State.readClears
  refine Touches.ite ?_ ?_
  · exact Touches.setMot (Touches.refl _ _) rfl
  · refine Touches.ite ?_ ?_
    · exact Touches.setMot (Touches.refl _ _) rfl
    · split
      · exact Touches.refl _ _
      · refine Touches.ite ?_ ?_
        · exact Touches.refl _ _
        · exact State.wr_touches _ _ _ rfl 0 rfl Grp.any

theorem State.ownRead_touches (s : State) (off : Nat) : Touches 0x2c40420000000000000000000200000000200000002008000000000000030007e1c1f90000000000000000000000000000000000000000000000000018000425 s (State.ownRead s off).2 := by
  unfold State.ownRead
  refine Touches.ite2 ?_ ?_
  · exact Touches.pair2 (Touches.step (State.fqPop_touches ..) rfl (Touches.refl _ _))
  · refine Touches.ite2 ?_ ?_
    · exact Touches.pair2 (Touches.step (State.evtPop_touches ..) rfl (Touches.refl _ _))
    · refine Touches.ite2 ?_ ?_
      · exact Touches.pair2 (Touches.step (State.samplePop_touches ..) rfl (Touches.refl _ _))
      · refine Touches.ite2 ?_ ?_
        · exact Touches.pair2 (Touches.step (State.spiPop_touches ..) rfl (Touches.refl _ _))
        · refine Touches.ite2 ?_ ?_
          · exact Touches.pair2 (Touches.step (State.i2cPop_touches ..) rfl (Touches.refl _ _))
          · refine Touches.ite2 ?_ ?_
            · exact Touches.pair2 (Touches.step (State.i2cLogPop_touches ..) rfl (Touches.refl _ _))
            · refine Touches.ite2 ?_ ?_
              · exact Touches.pair2 (Touches.step (State.ejLogRead_touches ..) rfl (Touches.refl _ _))
              · refine Touches.ite2 ?_ ?_
                · exact Touches.pair2 (Touches.step (State.cplRead_touches ..) rfl (Touches.refl _ _))
                · refine Touches.ite2 ?_ ?_
                  · exact Touches.pair2 (Touches.step (State.adpRead_touches ..) rfl (Touches.refl _ _))
                  · refine Touches.ite2 ?_ ?_
                    · exact Touches.pair2 (Touches.step (State.snapshot_touches ..) rfl (Touches.refl _ _))
                    · refine Touches.ite2 ?_ ?_
                      · exact Touches.pair2 (Touches.step (State.ofsRead_touches ..) rfl (Touches.refl _ _))
                      · exact Touches.pair2 (Touches.refl _ _)

theorem State.latchHigh_touches (s : State) (off : Nat) : Touches 0x4 s (State.latchHigh s off) := by
  unfold State.latchHigh
  refine Touches.ite ?_ ?_
  · exact Touches.setBus (Touches.refl _ _) rfl
  · exact Touches.refl _ _

theorem State.getReg_touches (s : State) (off : Nat) : Touches 0x2c40420000000000000000000200000000200000002008000000000070030007e1c1f90000000000000200000000000000000000010000000000000098080435 s (State.getReg s off) := by
  unfold State.getReg
  split
  · exact Touches.setBus (Touches.refl _ _) rfl
  · split
    · rename_i x1 x2 e3
      have h4 : Touches 0x2c40420000000000000000000200000000200000002008000000000070030007e1c1f90000000000000200000000000000000000010000000000000098080435 s x2 := Touches.of_eq (fun d => d.2) e3 (Touches.step (State.ownRead_touches ..) rfl (Touches.refl _ _))
      exact Touches.step (State.latchHigh_touches ..) rfl h4
    · rename_i x5 x6 e7
      have h8 : Touches 0x2c40420000000000000000000200000000200000002008000000000070030007e1c1f90000000000000200000000000000000000010000000000000098080435 s x6 := Touches.of_eq (fun d => d.2) e7 (Touches.step (State.ownRead_touches ..) rfl (Touches.refl _ _))
      extract_lets -merge +onlyGivenNames x9
      have h10 : Touches 0x2c40420000000000000000000200000000200000002008000000000070030007e1c1f90000000000000200000000000000000000010000000000000098080435 s x9 := by unfold x9; exact Touches.step (State.measured_touches ..) rfl h8
      clear_value x9
      refine Touches.step (State.latchHigh_touches ..) rfl ?_
      exact Touches.step (State.readClears_touches ..) rfl (Touches.setBus h10 rfl)

theorem State.getBytes_touches (s : State) (off : Nat) (lane : Nat) (len : Nat) : Touches 0x2c40420000000000000000000200000000200000002008000000000070030007e1c1f90000000000000200000000000000000000010000000000000098080435 s (State.getBytes s off lane len) := by
  unfold State.getBytes
  extract_lets -merge +onlyGivenNames x1
  have h2 : Touches 0x2c40420000000000000000000200000000200000002008000000000070030007e1c1f90000000000000200000000000000000000010000000000000098080435 s x1 := by unfold x1; exact Touches.step (State.getReg_touches ..) rfl (Touches.refl _ _)
  clear_value x1
  refine Touches.ite ?_ ?_
  · extract_lets -merge +onlyGivenNames x3
    have h4 : Touches 0x2c40420000000000000000000200000000200000002008000000000070030007e1c1f90000000000000200000000000000000000010000000000000098080435 s x3 := by unfold x3; exact Touches.step (State.getReg_touches ..) rfl h2
    clear_value x3
    exact Touches.setBus h4 rfl
  · exact Touches.setBus h2 rfl

theorem State.hostRead_touches (s : State) (off : Nat) (size : Nat) : Touches 0x807002c40424080001000000000000200000000200000002008000000000070030007e1c1f900000000000002000000000000000001020100000000000000ba0806b5 s (State.hostRead s off size) := by
  unfold State.hostRead
  refine Touches.ite ?_ ?_
  · exact Touches.step (State.hostSts_touches ..) rfl (Touches.setBus (Touches.refl _ _) rfl)
  · extract_lets -merge +onlyGivenNames x1
    clear_value x1
    refine Touches.trans ?_ (State.access_touches _ _ _ _ _ _ _ rfl ?_)
    · exact Touches.refl _ _
    · intro y2
      exact Touches.step (State.getBytes_touches ..) rfl (Touches.refl _ _)

theorem State.heldPerform_touches (s : State) : Touches 0x73ad7f626c6dc2c0c91010879fcaec400bc08640eff595f49ebc1811ff0603e0f9f7a087e1e3ffb8ff45b01fb49336070140f2df8ca40102616e718fba40f820bffffff7 s (State.heldPerform s) := by
  unfold State.heldPerform
  split
  · exact Touches.refl _ _
  · refine Touches.ite ?_ ?_
    · exact Touches.refl _ _
    · extract_lets -merge +onlyGivenNames x1
      clear_value x1
      extract_lets -merge +onlyGivenNames x2
      have h3 : Touches 0x73ad7f626c6dc2c0c91010879fcaec400bc08640eff595f49ebc1811ff0603e0f9f7a087e1e3ffb8ff45b01fb49336070140f2df8ca40102616e718fba40f820bffffff7 s x2 := by unfold x2; exact Touches.setBus (Touches.refl _ _) rfl
      clear_value x2
      refine Touches.ite ?_ ?_
      · exact Touches.step (State.putReg_touches ..) rfl h3
      · exact Touches.step (State.getBytes_touches ..) rfl h3

theorem State.stReady_touches (s : State) : Touches 0x73ad7f62406d82c0c91010879fcaec4009c08640efd595f49e9c1811ff0603e0f9f5a080002206b8ff45b01fb49136070140f2df8ca40302606e718fba40f820bffffff7 s (State.stReady s) := by
  unfold State.stReady
  refine Touches.ite ?_ ?_
  · exact Touches.refl _ _
  · extract_lets -merge +onlyGivenNames x1
    clear_value x1
    extract_lets -merge +onlyGivenNames x2
    have h3 : Touches 0x73ad7f62406d82c0c91010879fcaec4009c08640efd595f49e9c1811ff0603e0f9f5a080002206b8ff45b01fb49136070140f2df8ca40302606e718fba40f820bffffff7 s x2 := by unfold x2; exact State.setF_touches _ _ _ rfl 74 rfl grp_SYS_START_MS
    clear_value x2
    extract_lets -merge +onlyGivenNames x4
    clear_value x4
    extract_lets -merge +onlyGivenNames x5
    clear_value x5
    extract_lets -merge +onlyGivenNames x6
    have h7 : Touches 0x73ad7f62406d82c0c91010879fcaec4009c08640efd595f49e9c1811ff0603e0f9f5a080002206b8ff45b01fb49136070140f2df8ca40302606e718fba40f820bffffff7 s x6 := by
      unfold x6
      exact Touches.upd h3 rfl rfl rfl rfl rfl rfl rfl
        (by intro p hp; cases p <;> first | rfl | exact absurd hp (by decide))
    clear_value x6
    extract_lets -merge +onlyGivenNames x8
    have h9 : Touches 0x73ad7f62406d82c0c91010879fcaec4009c08640efd595f49e9c1811ff0603e0f9f5a080002206b8ff45b01fb49136070140f2df8ca40302606e718fba40f820bffffff7 s x8 := by
      unfold x8
      refine Touches.ite ?_ ?_
      · exact Touches.trans h7 (State.setF_touches _ _ _ rfl 63 rfl grp_PWR_MODE_STATUS)
      · exact h7
    clear_value x8
    extract_lets -merge +onlyGivenNames x10
    have h11 : Touches 0x73ad7f62406d82c0c91010879fcaec4009c08640efd595f49e9c1811ff0603e0f9f5a080002206b8ff45b01fb49136070140f2df8ca40302606e718fba40f820bffffff7 s x10 := by
      unfold x10
      refine Touches.step (State.relays_touches ..) rfl ?_
      refine Touches.step (State.holdStart_touches ..) rfl ?_
      refine Touches.step (State.stageDigests_touches ..) rfl ?_
      exact Touches.step (State.stageStart_touches ..) rfl (Touches.step (State.bootGo_touches ..) rfl h9)
    clear_value x10
    extract_lets -merge +onlyGivenNames x12
    have h13 : Touches 0x73ad7f62406d82c0c91010879fcaec4009c08640efd595f49e9c1811ff0603e0f9f5a080002206b8ff45b01fb49136070140f2df8ca40302606e718fba40f820bffffff7 s x12 := by
      unfold x12
      refine Touches.step (State.schedCommits_touches ..) rfl ?_
      exact Touches.step (State.admitOpen_touches ..) rfl (Touches.step (State.sessionQueue_touches ..) rfl h11)
    clear_value x12
    refine Touches.ite ?_ ?_
    · exact Touches.step (State.runApply_touches ..) rfl h13
    · exact h13

theorem execRegisterWrite_ends (off : Nat) (size : Nat) (value : Nat) (s : State) : Ends 0x73ad7f62406d82c0c91010879fcaec4009c08640efd595f49e9c1811ff0603e0f9f5a080002206b8ff45b01fb49136070140f2df8ca40102606e718fba40f820bffffff7 s (execRegisterWrite off size value s) := by
  unfold execRegisterWrite
  refine Ends.next ?_
  refine Touches.ite ?_ ?_
  · exact Touches.step (State.hostWrite_touches ..) rfl (Touches.refl _ _)
  · exact Touches.refl _ _

theorem execRcRead_ends (off : Nat) (size : Nat) (s : State) : Ends 0x807002c40424080001000000000000200000000200000002008000000000070030007e1c1f900000000000002000000000000000001020100000000000000ba0806b5 s (execRcRead off size s) := by
  unfold execRcRead
  refine Ends.next ?_
  refine Touches.ite ?_ ?_
  · exact Touches.step (State.hostRead_touches ..) rfl (Touches.refl _ _)
  · exact Touches.refl _ _

theorem execLowWordRead_ends (off : Nat) (s : State) : Ends 0x807002c40424080001000000000000200000000200000002008000000000070030007e1c1f900000000000002000000000000000001020100000000000000ba0806b5 s (execLowWordRead off s) := by
  unfold execLowWordRead
  exact Ends.next (Touches.step (State.hostRead_touches ..) rfl (Touches.refl _ _))

theorem execHeldAccessPerform_ends (s : State) : Ends 0x73ad7f626c6dc2c0c91010879fcaec400bc08640eff595f49ebc1811ff0603e0f9f7a087e1e3ffb8ff45b01fb49336070140f2df8ca40102616e718fba40f820bffffff7 s (execHeldAccessPerform s) := by
  unfold execHeldAccessPerform
  exact Ends.next (Touches.step (State.heldPerform_touches ..) rfl (Touches.refl _ _))

theorem execRunsetSave_ends (autoApply : Bool) (runAuto : Bool) (s : State) : Ends 0x73ad7f62406d82c0c91010879fcaec4009c08640efd595f49e9c1811ff0603e0f9f5a080002206b8ff45b01fb49136070140f2df8ca40102606e718fba40f820bffffff7 s (execRunsetSave autoApply runAuto s) := by
  unfold execRunsetSave
  exact Ends.next (Touches.step (State.put32_touches ..) rfl (Touches.refl _ _))

theorem execRunsetApply_ends (s : State) : Ends 0x73ad7f62406d82c0c91010879fcaec4009c08640efd595f49e9c1811ff0603e0f9f5a080002206b8ff45b01fb49136070140f2df8ca40102606e718fba40f820bffffff7 s (execRunsetApply s) := by
  unfold execRunsetApply
  refine Ends.next ?_
  refine Touches.trans ?_ (State.regWrite_touches _ _ _ _ rfl ?_)
  · exact Touches.refl _ _
  · intro y1
    exact Touches.step (State.runApply_touches ..) rfl (Touches.refl _ _)

theorem execRunSetStored_ends (s : State) : Ends 0x8070000000040c00000000000000000000000000000000000000000000000000000000000000000000000000000000000000000000000000000000000000026000211 s (execRunSetStored s) := by
  unfold execRunSetStored
  exact Ends.next (Touches.step (State.runsetStored_touches ..) rfl (Touches.refl _ _))

theorem execReady_ends (s : State) : Ends 0x73ad7f62406d82c0c91010879fcaec4009c08640efd595f49e9c1811ff0603e0f9f5a080002206b8ff45b01fb49136070140f2df8ca40302606e718fba40f820bffffff7 s (execReady s) := by
  unfold execReady
  exact Ends.next (Touches.step (State.stReady_touches ..) rfl (Touches.refl _ _))

end Sys2Proof.Machine
end

