-- ==== Sys2Proof/Laws/FrameHostExec.lean ====
section
/-! SUPPORT. What each operation of Machine/HostExec.lean can do: the parts of the state it touches (Touches). -/

-- One declaration at a time: many proofs at once would each hold a thread with a large stack.
set_option Elab.async false

namespace Sys2Proof.Machine

theorem execVerdictRecordWrite_ends (s : State) : Ends 0x208070000000040800011798000000000000000000000000000000000000000000000000000000000000000000000000000000000000000000000000000000026000613 s (execVerdictRecordWrite s) := by
  unfold execVerdictRecordWrite
  exact Ends.next (Touches.step (State.verdictWrite_touches ..) rfl (Touches.refl _ _))

theorem execMbxEnable_ends (value : Nat) (s : State) : Ends 0x8070000000040800010018800000000000000000000000000000000000000000000000000000000000000000000000000000000000102000000000000000026000697 s (execMbxEnable value s) := by
  unfold execMbxEnable
  refine Ends.next ?_
  refine Touches.trans ?_ (State.regWrite_touches _ _ _ _ rfl ?_)
  · exact Touches.refl _ _
  · intro y1
    exact Touches.step (State.writeMbxCtrl_touches ..) rfl (Touches.refl _ _)

theorem execMbxHeadWrite_ends (value : Nat) (s : State) : Ends 0x8070000000040800000808000000000000000000000000000000000000000000000000000000000000000000000000000000000000102000000000000000026000295 s (execMbxHeadWrite value s) := by
  unfold execMbxHeadWrite
  refine Ends.next ?_
  refine Touches.trans ?_ (State.regWrite_touches _ _ _ _ rfl ?_)
  · exact Touches.refl _ _
  · intro y1
    exact Touches.step (State.writeMbxHead_touches ..) rfl (Touches.refl _ _)

theorem execMbxReadyAge_ends (s : State) : Ends 0x40800000000000000000000000000000000000000000000000000000000000000000000000000000000000000000000000000000000000000020000001 s (execMbxReadyAge s) := by
  unfold execMbxReadyAge
  exact Ends.next (Touches.step (State.mbxCheck_touches ..) rfl (Touches.refl _ _))

theorem execIrqPendClear_ends (value : Nat) (s : State) : Ends 0x8070000000040800000000000000000000000000000000000000000000000000000000000000000000000000000000000000000000102000000000000000022000295 s (execIrqPendClear value s) := by
  unfold execIrqPendClear
  refine Ends.next ?_
  refine Touches.trans ?_ (State.regWrite_touches _ _ _ _ rfl ?_)
  · exact Touches.refl _ _
  · intro y1
    exact Touches.step (State.irqClear_touches ..) rfl (Touches.refl _ _)

theorem execWqDoorbell_ends (value : Nat) (s : State) : Ends 0x8070000000040880010000000000000000000000000000000000000000000000000000000000000000000000000000000000000000102000000000000000022000295 s (execWqDoorbell value s) := by
  unfold execWqDoorbell
  refine Ends.next ?_
  refine Touches.trans ?_ (State.regWrite_touches _ _ _ _ rfl ?_)
  · exact Touches.refl _ _
  · intro y1
    exact Touches.step (State.writeWqTail_touches ..) rfl (Touches.refl _ _)

theorem execWqEntrySubmit_ends (s : State) : Ends 0x20807000000004090901002020a0000000000406f9595001e9c08100200000000000000000000a07f4000000000000000000000000000000048000f80001800260ec655 s (execWqEntrySubmit s) := by
  unfold execWqEntrySubmit
  refine Ends.next ?_
  refine Touches.step (State.schedCommits_touches ..) rfl ?_
  exact Touches.step (State.wqSubmit_touches ..) rfl (Touches.refl _ _)

theorem execBar2Access_ends (off : Nat) (len : Nat) (data : Option (List Byte)) (s : State) : Ends 0x208070000000040801810000002000000000000000000001e8c080000000000000000000000000000000000000000000000000000000000000000000000000026000617 s (execBar2Access off len data s) := by
  unfold execBar2Access
  exact Ends.next (Touches.step (State.bar2_touches ..) rfl (Touches.refl _ _))

theorem execHostWindowAccess_ends (answer : Option (Nat × List Byte)) (s : State) : Ends 0x24000000 s (execHostWindowAccess answer s) := by
  unfold execHostWindowAccess
  refine Ends.next ?_
  split
  · exact Touches.step (State.hwLeave_touches ..) rfl (Touches.refl _ _)
  · exact Touches.step (State.hwAnswer_touches ..) rfl (Touches.refl _ _)

theorem execHostWindowTimeout_ends (write : Bool) (cause : Nat) (s : State) : Ends 0x807000000004080101000000000000000000000000000000c080000000000000000000000000000000000000000000000000000000000000000000000000026000615 s (execHostWindowTimeout write cause s) := by
  unfold execHostWindowTimeout
  refine Ends.next ?_
  refine Touches.ite ?_ ?_
  · exact Touches.refl _ _
  · refine Touches.ite ?_ ?_
    · refine Touches.ite ?_ ?_
      · exact Touches.refl _ _
      · exact Touches.step (State.hwDiscard_touches ..) rfl (Touches.refl _ _)
    · exact Touches.setMbx (Touches.refl _ _) rfl

theorem execPerstAssert_ends (s : State) : Ends 0x3800807000000004080d41400000000000000000000000000000c080000000000000000000000000000000000000000000000000000000000000000000000000026000615 s (execPerstAssert s) := by
  unfold execPerstAssert
  refine Ends.next ?_
  refine Touches.ite ?_ ?_
  · exact Touches.refl _ _
  · exact Touches.step (State.hostReset_touches ..) rfl (Touches.setMbx (Touches.refl _ _) rfl)

theorem execPerstRelease_ends (refclk : Bool) (s : State) : Ends 0x4000000 s (execPerstRelease refclk s) := by
  unfold execPerstRelease
  exact Ends.next (Touches.setMbx (Touches.refl _ _) rfl)

theorem execFunctionLevelReset_ends (s : State) : Ends 0x3800807000000004080d41400000000000000000000000000000c080000000000000000000000000000000000000000000000000000000000000000000000000026000615 s (execFunctionLevelReset s) := by
  unfold execFunctionLevelReset
  refine Ends.next ?_
  refine Touches.ite ?_ ?_
  · exact Touches.step (State.hostReset_touches ..) rfl (Touches.refl _ _)
  · exact Touches.refl _ _

theorem execLinkDown_ends (s : State) : Ends 0x3800807000000004080d41400000000000000000000000000000c080000000000000000000000000000000000000000000000000000000000000000000000000026000615 s (execLinkDown s) := by
  unfold execLinkDown
  refine Ends.next ?_
  refine Touches.ite ?_ ?_
  · exact Touches.step (State.hostReset_touches ..) rfl (Touches.refl _ _)
  · exact Touches.refl _ _

theorem execPcieLinkUp_ends (speed : Nat) (width : Nat) (s : State) : Ends 0x8070000000040800014000000000000000000000000000000000000000000000000000000000000000000000000000000000000000000000000000000000022000211 s (execPcieLinkUp speed width s) := by
  unfold execPcieLinkUp
  exact Ends.next (Touches.step (State.linkTrained_touches ..) rfl (Touches.refl _ _))

theorem execConfigSpaceWrite_ends (w : ConfigWrite) (s : State) : Ends 0x40000010000000000000000000000000000000000000000000000000000000000000000000000000000000000000000000000000000000000024000001 s (execConfigSpaceWrite w s) := by
  unfold execConfigSpaceWrite
  exact Ends.next (Touches.step (State.cfgWrite_touches ..) rfl (Touches.refl _ _))

theorem execAerError_ends (bit : Nat) (s : State) : Ends 0x8070000000040802010000000000000000000000000000000000000000000000000000000000000000000000000000000000000000000000000000000000022000215 s (execAerError bit s) := by
  unfold execAerError
  refine Ends.next ?_
  refine Touches.trans ?_ (State.reportLimited_touches _ _ _ _ _ _ _ rfl 429 rfl grp_MBX_HSTATUS)
  exact State.inc_touches _ _ _ rfl 438 rfl grp_MBX_CNT_PCIE_ERR

end Sys2Proof.Machine
end

