-- ==== Sys2Proof/Laws/FrameDispatch.lean ====
section
/-! SUPPORT. What each operation of Machine/Dispatch.lean can do: the parts of the state it touches (Touches). -/

-- One declaration at a time: many proofs at once would each hold a thread with a large stack.
set_option Elab.async false

namespace Sys2Proof.Machine

theorem exec_ends (i : Instr) (s : State) : Ends 0x3ffbfff6bec6dc2c0d9fc15ff9fceffdd1fdf87fffff595f4ffbc1ff1fffff3eff9f7bf87e1e3ffb8ff47bfffb4ffb77fff40feff8fa52ff2637ff7ffba40f83fbffffff7 s (exec i s) := by
  unfold exec
  split
  · exact Ends.step (execRegisterWrite_ends ..) rfl (Touches.refl _ _)
  · exact Ends.step (execRcRead_ends ..) rfl (Touches.refl _ _)
  · exact Ends.step (execLowWordRead_ends ..) rfl (Touches.refl _ _)
  · exact Ends.step (execInputLoss_ends ..) rfl (Touches.refl _ _)
  · exact Ends.step (execOvervoltageLockout_ends ..) rfl (Touches.refl _ _)
  · exact Ends.step (execInternalReset_ends ..) rfl (Touches.refl _ _)
  · exact Ends.step (execThermalTrip_ends ..) rfl (Touches.refl _ _)
  · exact Ends.step (execHoldupEstimateTick_ends ..) rfl (Touches.refl _ _)
  · exact Ends.step (execHoldupCapMeasured_ends ..) rfl (Touches.refl _ _)
  · exact Ends.step (execPocxpDetectDone_ends ..) rfl (Touches.refl _ _)
  · exact Ends.step (execPocxpOvercurrent_ends ..) rfl (Touches.refl _ _)
  · exact Ends.step (execPocxpFaultClear_ends ..) rfl (Touches.refl _ _)
  · exact Ends.step (execEncSupplyFault_ends ..) rfl (Touches.refl _ _)
  · exact Ends.step (execVejSupplyLow_ends ..) rfl (Touches.refl _ _)
  · exact Ends.step (execReadbackCheck_ends ..) rfl (Touches.refl _ _)
  · exact Ends.step (execOutputOvercurrent_ends ..) rfl (Touches.refl _ _)
  · exact Ends.step (execRelayPositionCheck_ends ..) rfl (Touches.refl _ _)
  · exact Ends.step (execRelayRequestWrite_ends ..) rfl (Touches.refl _ _)
  · exact Ends.step (execDiEdgeQualified_ends ..) rfl (Touches.refl _ _)
  · exact Ends.step (execDiCfgWrite_ends ..) rfl (Touches.refl _ _)
  · exact Ends.step (execLstopRelease_ends ..) rfl (Touches.refl _ _)
  · exact Ends.step (execPllLockTimeout_ends ..) rfl (Touches.refl _ _)
  · exact Ends.step (execClockFailure_ends ..) rfl (Touches.refl _ _)
  · exact Ends.step (execModeRequest_ends ..) rfl (Touches.refl _ _)
  · exact Ends.step (execModeRollback_ends ..) rfl (Touches.refl _ _)
  · exact Ends.step (execExitComplete_ends ..) rfl (Touches.refl _ _)
  · exact Ends.step (execWakePatternComplete_ends ..) rfl (Touches.refl _ _)
  · exact Ends.step (execClocks_ends ..) rfl (Touches.refl _ _)
  · exact Ends.step (execFuses_ends ..) rfl (Touches.refl _ _)
  · exact Ends.step (execSelftest_ends ..) rfl (Touches.refl _ _)
  · exact Ends.step (execMap_ends ..) rfl (Touches.refl _ _)
  · exact Ends.step (execTrain_ends ..) rfl (Touches.refl _ _)
  · exact Ends.step (execFwload_ends ..) rfl (Touches.refl _ _)
  · exact Ends.step (execPkgReady_ends ..) rfl (Touches.refl _ _)
  · exact Ends.step (execSporeAckTimeout_ends ..) rfl (Touches.refl _ _)
  · exact Ends.step (execImage_ends ..) rfl (Touches.refl _ _)
  · exact Ends.step (execColdStart_ends ..) rfl (Touches.refl _ _)
  · exact Ends.step (execFieldAddition_ends ..) rfl (Touches.refl _ _)
  · exact Ends.step (execLoad_ends ..) rfl (Touches.refl _ _)
  · exact Ends.step (execUnload_ends ..) rfl (Touches.refl _ _)
  · exact Ends.step (execStore_ends ..) rfl (Touches.refl _ _)
  · exact Ends.step (execKeyrec_ends ..) rfl (Touches.refl _ _)
  · exact Ends.step (execRouteSetChange_ends ..) rfl (Touches.refl _ _)
  · exact Ends.step (execEpochBoundary_ends ..) rfl (Touches.refl _ _)
  · exact Ends.step (execRouteRelease_ends ..) rfl (Touches.refl _ _)
  · exact Ends.step (execEdgeAccepted_ends ..) rfl (Touches.refl _ _)
  · exact Ends.step (execGlitchFault_ends ..) rfl (Touches.refl _ _)
  · exact Ends.step (execSerialPoll_ends ..) rfl (Touches.refl _ _)
  · exact Ends.step (execSerialReading_ends ..) rfl (Touches.refl _ _)
  · exact Ends.step (execWireDisagree_ends ..) rfl (Touches.refl _ _)
  · exact Ends.step (execWireFault_ends ..) rfl (Touches.refl _ _)
  · exact Ends.step (execWireFaultClear_ends ..) rfl (Touches.refl _ _)
  · exact Ends.step (execCountGateEnd_ends ..) rfl (Touches.refl _ _)
  · exact Ends.step (execChCfgWrite_ends ..) rfl (Touches.refl _ _)
  · exact Ends.step (execSpeedThresholdWrite_ends ..) rfl (Touches.refl _ _)
  · exact Ends.step (execTrkCfgWrite_ends ..) rfl (Touches.refl _ _)
  · exact Ends.step (execTrackDeclare_ends ..) rfl (Touches.refl _ _)
  · exact Ends.step (execTrackCommit_ends ..) rfl (Touches.refl _ _)
  · exact Ends.step (execTrackUnitMessage_ends ..) rfl (Touches.refl _ _)
  · exact Ends.step (execGateEnable_ends ..) rfl (Touches.refl _ _)
  · exact Ends.step (execGateOffsetWrite_ends ..) rfl (Touches.refl _ _)
  · exact Ends.step (execArmCommand_ends ..) rfl (Touches.refl _ _)
  · exact Ends.step (execDelayEnd_ends ..) rfl (Touches.refl _ _)
  · exact Ends.step (execPulseEnd_ends ..) rfl (Touches.refl _ _)
  · exact Ends.step (execGapEnd_ends ..) rfl (Touches.refl _ _)
  · exact Ends.step (execMaxOn_ends ..) rfl (Touches.refl _ _)
  · exact Ends.step (execDeferExpired_ends ..) rfl (Touches.refl _ _)
  · exact Ends.step (execEjCtrlWrite_ends ..) rfl (Touches.refl _ _)
  · exact Ends.step (execOutCfgWrite_ends ..) rfl (Touches.refl _ _)
  · exact Ends.step (execFlush_ends ..) rfl (Touches.refl _ _)
  · exact Ends.step (execRateWrite_ends ..) rfl (Touches.refl _ _)
  · exact Ends.step (execStepRequest_ends ..) rfl (Touches.refl _ _)
  · exact Ends.step (execPtpCfgWrite_ends ..) rfl (Touches.refl _ _)
  · exact Ends.step (execPtpRx_ends ..) rfl (Touches.refl _ _)
  · exact Ends.step (execPtpTx_ends ..) rfl (Touches.refl _ _)
  · exact Ends.step (execPtpSample_ends ..) rfl (Touches.refl _ _)
  · exact Ends.step (execHoldover_ends ..) rfl (Touches.refl _ _)
  · exact Ends.step (execMarkArm_ends ..) rfl (Touches.refl _ _)
  · exact Ends.step (execPortEnable_ends ..) rfl (Touches.refl _ _)
  · exact Ends.step (execPocxpPowered_ends ..) rfl (Touches.refl _ _)
  · exact Ends.step (execDiscover_ends ..) rfl (Touches.refl _ _)
  · exact Ends.step (execConfig_ends ..) rfl (Touches.refl _ _)
  · exact Ends.step (execCameraLinkDown_ends ..) rfl (Touches.refl _ _)
  · exact Ends.step (execDownRetry_ends ..) rfl (Touches.refl _ _)
  · exact Ends.step (execResyncEnd_ends ..) rfl (Touches.refl _ _)
  · exact Ends.step (execCtrlTransaction_ends ..) rfl (Touches.refl _ _)
  · exact Ends.step (execCtrlAck_ends ..) rfl (Touches.refl _ _)
  · exact Ends.step (execCtrlTimeout_ends ..) rfl (Touches.refl _ _)
  · exact Ends.step (execFrameTimeTrigger_ends ..) rfl (Touches.refl _ _)
  · exact Ends.step (execSoftTrigger_ends ..) rfl (Touches.refl _ _)
  · exact Ends.step (execDelayedTrigger_ends ..) rfl (Touches.refl _ _)
  · exact Ends.step (execTrigCfgWrite_ends ..) rfl (Touches.refl _ _)
  · exact Ends.step (execStreamPacket_ends ..) rfl (Touches.refl _ _)
  · exact Ends.step (execImageHeader_ends ..) rfl (Touches.refl _ _)
  · exact Ends.step (execLineTimeout_ends ..) rfl (Touches.refl _ _)
  · exact Ends.step (execFrameTimeout_ends ..) rfl (Touches.refl _ _)
  · exact Ends.step (execPipelineLine_ends ..) rfl (Touches.refl _ _)
  · exact Ends.step (execPartImageComplete_ends ..) rfl (Touches.refl _ _)
  · exact Ends.step (execThroughMemoryFrame_ends ..) rfl (Touches.refl _ _)
  · exact Ends.step (execRebindRequest_ends ..) rfl (Touches.refl _ _)
  · exact Ends.step (execRebindSwitch_ends ..) rfl (Touches.refl _ _)
  · exact Ends.step (execOutHeadWrite_ends ..) rfl (Touches.refl _ _)
  · exact Ends.step (execPipeCellWrite_ends ..) rfl (Touches.refl _ _)
  · exact Ends.step (execTxL0_ends ..) rfl (Touches.refl _ _)
  · exact Ends.step (execTxL1_ends ..) rfl (Touches.refl _ _)
  · exact Ends.step (execTxL2_ends ..) rfl (Touches.refl _ _)
  · exact Ends.step (execTxOff_ends ..) rfl (Touches.refl _ _)
  · exact Ends.step (execTxWake_ends ..) rfl (Touches.refl _ _)
  · exact Ends.step (execPrbsOn_ends ..) rfl (Touches.refl _ _)
  · exact Ends.step (execPrbsOff_ends ..) rfl (Touches.refl _ _)
  · exact Ends.step (execRxStateCommand_ends ..) rfl (Touches.refl _ _)
  · exact Ends.step (execSynthCalDone_ends ..) rfl (Touches.refl _ _)
  · exact Ends.step (execSynthLocked_ends ..) rfl (Touches.refl _ _)
  · exact Ends.step (execHeldCommandTimeout_ends ..) rfl (Touches.refl _ _)
  · exact Ends.step (execFastRelock_ends ..) rfl (Touches.refl _ _)
  · exact Ends.step (execWakeGuardExpiry_ends ..) rfl (Touches.refl _ _)
  · exact Ends.step (execRetrainComplete_ends ..) rfl (Touches.refl _ _)
  · exact Ends.step (execLossOfSignal_ends ..) rfl (Touches.refl _ _)
  · exact Ends.step (execLoopWrite_ends ..) rfl (Touches.refl _ _)
  · exact Ends.step (execPrbsCheckerEnable_ends ..) rfl (Touches.refl _ _)
  · exact Ends.step (execRingEnable_ends ..) rfl (Touches.refl _ _)
  · exact Ends.step (execRingTest_ends ..) rfl (Touches.refl _ _)
  · exact Ends.step (execLinkTrainingDone_ends ..) rfl (Touches.refl _ _)
  · exact Ends.step (execTrainRetry_ends ..) rfl (Touches.refl _ _)
  · exact Ends.step (execRingFrame_ends ..) rfl (Touches.refl _ _)
  · exact Ends.step (execAck_ends ..) rfl (Touches.refl _ _)
  · exact Ends.step (execNak_ends ..) rfl (Touches.refl _ _)
  · exact Ends.step (execAckTimeout_ends ..) rfl (Touches.refl _ _)
  · exact Ends.step (execLinkSleep_ends ..) rfl (Touches.refl _ _)
  · exact Ends.step (execRingDiscover_ends ..) rfl (Touches.refl _ _)
  · exact Ends.step (execQuiesce_ends ..) rfl (Touches.refl _ _)
  · exact Ends.step (execQuiesced_ends ..) rfl (Touches.refl _ _)
  · exact Ends.step (execSwitch_ends ..) rfl (Touches.refl _ _)
  · exact Ends.step (execRingLinkDown_ends ..) rfl (Touches.refl _ _)
  · exact Ends.step (execLayoutReq_ends ..) rfl (Touches.refl _ _)
  · exact Ends.step (execLayoutAns_ends ..) rfl (Touches.refl _ _)
  · exact Ends.step (execLayoutRequest_ends ..) rfl (Touches.refl _ _)
  · exact Ends.step (execLinkTmoExpiry_ends ..) rfl (Touches.refl _ _)
  · exact Ends.step (execBundleIssue_ends ..) rfl (Touches.refl _ _)
  · exact Ends.step (execGlobalLoadResponse_ends ..) rfl (Touches.refl _ _)
  · exact Ends.step (execGillMemFaultStop_ends ..) rfl (Touches.refl _ _)
  · exact Ends.step (execSyncGrant_ends ..) rfl (Touches.refl _ _)
  · exact Ends.step (execTimedOpTimeout_ends ..) rfl (Touches.refl _ _)
  · exact Ends.step (execQueueMessageArrival_ends ..) rfl (Touches.refl _ _)
  · exact Ends.step (execQueueCreditReturn_ends ..) rfl (Touches.refl _ _)
  · exact Ends.step (execFenceComplete_ends ..) rfl (Touches.refl _ _)
  · exact Ends.step (execInvocationEnd_ends ..) rfl (Touches.refl _ _)
  · exact Ends.step (execDbgHalt_ends ..) rfl (Touches.refl _ _)
  · exact Ends.step (execDbgResume_ends ..) rfl (Touches.refl _ _)
  · exact Ends.step (execDbgStep_ends ..) rfl (Touches.refl _ _)
  · exact Ends.step (execBoxdec_ends ..) rfl (Touches.refl _ _)
  · exact Ends.step (execNms_ends ..) rfl (Touches.refl _ _)
  · exact Ends.step (execTransactionResponse_ends ..) rfl (Touches.refl _ _)
  · exact Ends.step (execRefresh_ends ..) rfl (Touches.refl _ _)
  · exact Ends.step (execZqCalibration_ends ..) rfl (Touches.refl _ _)
  · exact Ends.step (execMr4Read_ends ..) rfl (Touches.refl _ _)
  · exact Ends.step (execControllerWatchdog_ends ..) rfl (Touches.refl _ _)
  · exact Ends.step (execDmaSubmit_ends ..) rfl (Touches.refl _ _)
  · exact Ends.step (execChainStart_ends ..) rfl (Touches.refl _ _)
  · exact Ends.step (execCopy_ends ..) rfl (Touches.refl _ _)
  · exact Ends.step (execFill_ends ..) rfl (Touches.refl _ _)
  · exact Ends.step (execCopy2d_ends ..) rfl (Touches.refl _ _)
  · exact Ends.step (execSignal_ends ..) rfl (Touches.refl _ _)
  · exact Ends.step (execChainEnd_ends ..) rfl (Touches.refl _ _)
  · exact Ends.step (execDmaAbort_ends ..) rfl (Touches.refl _ _)
  · exact Ends.step (execSyncAdd_ends ..) rfl (Touches.refl _ _)
  · exact Ends.step (execSyncReset_ends ..) rfl (Touches.refl _ _)
  · exact Ends.step (execSubmit_ends ..) rfl (Touches.refl _ _)
  · exact Ends.step (execWorkMessage_ends ..) rfl (Touches.refl _ _)
  · exact Ends.step (execDispatch_ends ..) rfl (Touches.refl _ _)
  · exact Ends.step (execStealToken_ends ..) rfl (Touches.refl _ _)
  · exact Ends.step (execQuantumExpiry_ends ..) rfl (Touches.refl _ _)
  · exact Ends.step (execPreemptDrainDone_ends ..) rfl (Touches.refl _ _)
  · exact Ends.step (execSaveComplete_ends ..) rfl (Touches.refl _ _)
  · exact Ends.step (execRestoreComplete_ends ..) rfl (Touches.refl _ _)
  · exact Ends.step (execStateSwapComplete_ends ..) rfl (Touches.refl _ _)
  · exact Ends.step (execGangEnd_ends ..) rfl (Touches.refl _ _)
  · exact Ends.step (execWorkCancel_ends ..) rfl (Touches.refl _ _)
  · exact Ends.step (execWalk_ends ..) rfl (Touches.refl _ _)
  · exact Ends.step (execInsert_ends ..) rfl (Touches.refl _ _)
  · exact Ends.step (execRelease_ends ..) rfl (Touches.refl _ _)
  · exact Ends.step (execPin_ends ..) rfl (Touches.refl _ _)
  · exact Ends.step (execUnpin_ends ..) rfl (Touches.refl _ _)
  · exact Ends.step (execEvict_ends ..) rfl (Touches.refl _ _)
  · exact Ends.step (execGather_ends ..) rfl (Touches.refl _ _)
  · exact Ends.step (execPublish_ends ..) rfl (Touches.refl _ _)
  · exact Ends.step (execPfxFormat_ends ..) rfl (Touches.refl _ _)
  · exact Ends.step (execAnnAbort_ends ..) rfl (Touches.refl _ _)
  · exact Ends.step (execVcStall_ends ..) rfl (Touches.refl _ _)
  · exact Ends.step (execMbxEnable_ends ..) rfl (Touches.refl _ _)
  · exact Ends.step (execMbxHeadWrite_ends ..) rfl (Touches.refl _ _)
  · exact Ends.step (execIrqPendClear_ends ..) rfl (Touches.refl _ _)
  · exact Ends.step (execWqDoorbell_ends ..) rfl (Touches.refl _ _)
  · exact Ends.step (execBar2Access_ends ..) rfl (Touches.refl _ _)
  · exact Ends.step (execHostWindowAccess_ends ..) rfl (Touches.refl _ _)
  · exact Ends.step (execHostWindowTimeout_ends ..) rfl (Touches.refl _ _)
  · exact Ends.step (execRunsetSave_ends ..) rfl (Touches.refl _ _)
  · exact Ends.step (execSpiPush_ends ..) rfl (Touches.refl _ _)
  · exact Ends.step (execSpiEntryEnd_ends ..) rfl (Touches.refl _ _)
  · exact Ends.step (execSpiAbort_ends ..) rfl (Touches.refl _ _)
  · exact Ends.step (execI2cPush_ends ..) rfl (Touches.refl _ _)
  · exact Ends.step (execI2cCommandStart_ends ..) rfl (Touches.refl _ _)
  · exact Ends.step (execI2cCommandEnd_ends ..) rfl (Touches.refl _ _)
  · exact Ends.step (execArbitrationLost_ends ..) rfl (Touches.refl _ _)
  · exact Ends.step (execTargetTransaction_ends ..) rfl (Touches.refl _ _)
  · exact Ends.step (execTargetTransactionEnd_ends ..) rfl (Touches.refl _ _)
  · exact Ends.step (execI2cAbort_ends ..) rfl (Touches.refl _ _)
  · exact Ends.step (execStageRecord_ends ..) rfl (Touches.refl _ _)
  · exact Ends.step (execPageProgram_ends ..) rfl (Touches.refl _ _)
  · exact Ends.step (execFlushMsExpiry_ends ..) rfl (Touches.refl _ _)
  · exact Ends.step (execJournalFlush_ends ..) rfl (Touches.refl _ _)
  · exact Ends.step (execSubsectorErase_ends ..) rfl (Touches.refl _ _)
  · exact Ends.step (execHoldupFinalPage_ends ..) rfl (Touches.refl _ _)
  · exact Ends.step (execEthernetLinkChange_ends ..) rfl (Touches.refl _ _)
  · exact Ends.step (execPerstRelease_ends ..) rfl (Touches.refl _ _)
  · exact Ends.step (execPcieLinkUp_ends ..) rfl (Touches.refl _ _)
  · exact Ends.step (execConfigSpaceWrite_ends ..) rfl (Touches.refl _ _)
  · exact Ends.step (execAerError_ends ..) rfl (Touches.refl _ _)
  · exact Ends.step (execSupplyLowCleared_ends ..) rfl (Touches.refl _ _)
  · exact Ends.step (execWireDisagreeEnd_ends ..) rfl (Touches.refl _ _)
  · exact Ends.step (execSleepBlocksReceived_ends ..) rfl (Touches.refl _ _)
  · exact Ends.step (execSwitchPositionReached_ends ..) rfl (Touches.refl _ _)
  · exact Ends.step (execPrbsLockAcquired_ends ..) rfl (Touches.refl _ _)
  · exact Ends.step (execPrbsLockLost_ends ..) rfl (Touches.refl _ _)
  · exact Ends.step (execCxpEventPacket_ends ..) rfl (Touches.refl _ _)
  · exact Ends.step (execHeldAccessPerform_ends ..) rfl (Touches.refl _ _)
  · exact Ends.step (execPowerOnStart_ends ..) rfl (Touches.refl _ _)
  · exact Ends.step (execVinShortDip_ends ..) rfl (Touches.refl _ _)
  · exact Ends.step (execNrstAssert_ends ..) rfl (Touches.refl _ _)
  · exact Ends.step (execNrstRelease_ends ..) rfl (Touches.refl _ _)
  · exact Ends.step (execThermalThrottleStart_ends ..) rfl (Touches.refl _ _)
  · exact Ends.step (execThermalThrottleEnd_ends ..) rfl (Touches.refl _ _)
  · exact Ends.step (execVcamLow_ends ..) rfl (Touches.refl _ _)
  · exact Ends.step (execHeartbeatLoss_ends ..) rfl (Touches.refl _ _)
  · exact Ends.step (execLstopHoldExpiry_ends ..) rfl (Touches.refl _ _)
  · exact Ends.step (execMyceliumDrained_ends ..) rfl (Touches.refl _ _)
  · exact Ends.step (execModeCommit_ends ..) rfl (Touches.refl _ _)
  · exact Ends.step (execModeEntryTimeout_ends ..) rfl (Touches.refl _ _)
  · exact Ends.step (execModeExit_ends ..) rfl (Touches.refl _ _)
  · exact Ends.step (execWakeTimerExpiry_ends ..) rfl (Touches.refl _ _)
  · exact Ends.step (execHostPkgTimeout_ends ..) rfl (Touches.refl _ _)
  · exact Ends.step (execSpores_ends ..) rfl (Touches.refl _ _)
  · exact Ends.step (execSupervisor_ends ..) rfl (Touches.refl _ _)
  · exact Ends.step (execSupStartTimeout_ends ..) rfl (Touches.refl _ _)
  · exact Ends.step (execHold_ends ..) rfl (Touches.refl _ _)
  · exact Ends.step (execReady_ends ..) rfl (Touches.refl _ _)
  · exact Ends.step (execStageTimeout_ends ..) rfl (Touches.refl _ _)
  · exact Ends.step (execWarmStart_ends ..) rfl (Touches.refl _ _)
  · exact Ends.step (execSaveCfg_ends ..) rfl (Touches.refl _ _)
  · exact Ends.step (execPerstAssert_ends ..) rfl (Touches.refl _ _)
  · exact Ends.step (execFunctionLevelReset_ends ..) rfl (Touches.refl _ _)
  · exact Ends.step (execLinkDown_ends ..) rfl (Touches.refl _ _)
  · exact Ends.step (execImageCommit_ends ..) rfl (Touches.refl _ _)
  · exact Ends.step (execStoreComplete_ends ..) rfl (Touches.refl _ _)
  · exact Ends.step (execKeyrecApplied_ends ..) rfl (Touches.refl _ _)
  · exact Ends.step (execRouteChangeComplete_ends ..) rfl (Touches.refl _ _)
  · exact Ends.step (execRouteChangeTimeout_ends ..) rfl (Touches.refl _ _)
  · exact Ends.step (execSpeedPeriodTick_ends ..) rfl (Touches.refl _ _)
  · exact Ends.step (execConvPeriodTick_ends ..) rfl (Touches.refl _ _)
  · exact Ends.step (execImagePresenceReport_ends ..) rfl (Touches.refl _ _)
  · exact Ends.step (execTimeEntryDue_ends ..) rfl (Touches.refl _ _)
  · exact Ends.step (execEjLogRead_ends ..) rfl (Touches.refl _ _)
  · exact Ends.step (execMotionFreerun_ends ..) rfl (Touches.refl _ _)
  · exact Ends.step (execStepApply_ends ..) rfl (Touches.refl _ _)
  · exact Ends.step (execSamplePop_ends ..) rfl (Touches.refl _ _)
  · exact Ends.step (execEvtPop_ends ..) rfl (Touches.refl _ _)
  · exact Ends.step (execPtpSnapshotRead_ends ..) rfl (Touches.refl _ _)
  · exact Ends.step (execPtpOfsRead_ends ..) rfl (Touches.refl _ _)
  · exact Ends.step (execQuiesceTimeout_ends ..) rfl (Touches.refl _ _)
  · exact Ends.step (execTopologyRetry_ends ..) rfl (Touches.refl _ _)
  · exact Ends.step (execUnmap_ends ..) rfl (Touches.refl _ _)
  · exact Ends.step (execMapR_ends ..) rfl (Touches.refl _ _)
  · exact Ends.step (execMapRw_ends ..) rfl (Touches.refl _ _)
  · exact Ends.step (execMmuOpComplete_ends ..) rfl (Touches.refl _ _)
  · exact Ends.step (execFaultRecordPop_ends ..) rfl (Touches.refl _ _)
  · exact Ends.step (execDeadlineUpdate_ends ..) rfl (Touches.refl _ _)
  · exact Ends.step (execCplLogRead_ends ..) rfl (Touches.refl _ _)
  · exact Ends.step (execReshardEnd_ends ..) rfl (Touches.refl _ _)
  · exact Ends.step (execAdpWrite_ends ..) rfl (Touches.refl _ _)
  · exact Ends.step (execAdpStage_ends ..) rfl (Touches.refl _ _)
  · exact Ends.step (execAdpPublish_ends ..) rfl (Touches.refl _ _)
  · exact Ends.step (execAdpClear_ends ..) rfl (Touches.refl _ _)
  · exact Ends.step (execAdpDescRead_ends ..) rfl (Touches.refl _ _)
  · exact Ends.step (execAugJob_ends ..) rfl (Touches.refl _ _)
  · exact Ends.step (execAnnealProblem_ends ..) rfl (Touches.refl _ _)
  · exact Ends.step (execSweepEnd_ends ..) rfl (Touches.refl _ _)
  · exact Ends.step (execAnnResultWrite_ends ..) rfl (Touches.refl _ _)
  · exact Ends.step (execTimingWindowArm_ends ..) rfl (Touches.refl _ _)
  · exact Ends.step (execVerdictRecordWrite_ends ..) rfl (Touches.refl _ _)
  · exact Ends.step (execMbxReadyAge_ends ..) rfl (Touches.refl _ _)
  · exact Ends.step (execWqEntrySubmit_ends ..) rfl (Touches.refl _ _)
  · exact Ends.step (execRunsetApply_ends ..) rfl (Touches.refl _ _)
  · exact Ends.step (execSpiEntryStart_ends ..) rfl (Touches.refl _ _)
  · exact Ends.step (execSpiCplPop_ends ..) rfl (Touches.refl _ _)
  · exact Ends.step (execSclTimeout_ends ..) rfl (Touches.refl _ _)
  · exact Ends.step (execBusFree_ends ..) rfl (Touches.refl _ _)
  · exact Ends.step (execTwinCommit_ends ..) rfl (Touches.refl _ _)
  · exact Ends.step (execI2cCplPop_ends ..) rfl (Touches.refl _ _)
  · exact Ends.step (execI2cTlogPop_ends ..) rfl (Touches.refl _ _)
  · exact Ends.step (execDeferLong_ends ..) rfl (Touches.refl _ _)
  · exact Ends.step (execCountersRecord_ends ..) rfl (Touches.refl _ _)
  · exact Ends.step (execEjectTailRecord_ends ..) rfl (Touches.refl _ _)
  · exact Ends.step (execJournalRead_ends ..) rfl (Touches.refl _ _)
  · exact Ends.step (execTimeValuesResume_ends ..) rfl (Touches.refl _ _)
  · exact Ends.step (execI2cBusStart_ends ..) rfl (Touches.refl _ _)
  · exact Ends.step (execTargetSclTimeout_ends ..) rfl (Touches.refl _ _)
  · exact Ends.step (execFieldMapCopiesWritten_ends ..) rfl (Touches.refl _ _)
  · exact Ends.step (execRunSetStored_ends ..) rfl (Touches.refl _ _)
  · exact Ends.step (execBankDischargeFloor_ends ..) rfl (Touches.refl _ _)

end Sys2Proof.Machine
end

