-- ==== Sys2Proof/Laws/State.lean ====
section
/-! SUPPORT. State: what each update of Ops leaves alone, and reading a register or a field after one. -/

-- One declaration at a time: many proofs at once would each hold a thread with a large stack.
set_option Elab.async false

namespace Sys2Proof.Machine

/-! ## One lemma for each part of the state and each update -/

@[simp] theorem State.wr_mem (s : State) (r : Reg) (v : Word) : (s.wr r v).mem = s.mem := rfl
@[simp] theorem State.wr_bus (s : State) (r : Reg) (v : Word) : (s.wr r v).bus = s.bus := rfl
@[simp] theorem State.wr_now (s : State) (r : Reg) (v : Word) : (s.wr r v).now = s.now := rfl
@[simp] theorem State.wr_free (s : State) (r : Reg) (v : Word) : (s.wr r v).free = s.free := rfl
@[simp] theorem State.wr_time (s : State) (r : Reg) (v : Word) : (s.wr r v).time = s.time := rfl
@[simp] theorem State.wr_pwr (s : State) (r : Reg) (v : Word) : (s.wr r v).pwr = s.pwr := rfl
@[simp] theorem State.wr_mode (s : State) (r : Reg) (v : Word) : (s.wr r v).mode = s.mode := rfl
@[simp] theorem State.wr_img (s : State) (r : Reg) (v : Word) : (s.wr r v).img = s.img := rfl
@[simp] theorem State.wr_boot (s : State) (r : Reg) (v : Word) : (s.wr r v).boot = s.boot := rfl
@[simp] theorem State.wr_mmu (s : State) (r : Reg) (v : Word) : (s.wr r v).mmu = s.mmu := rfl
@[simp] theorem State.wr_sram (s : State) (r : Reg) (v : Word) : (s.wr r v).sram = s.sram := rfl
@[simp] theorem State.wr_dma (s : State) (r : Reg) (v : Word) : (s.wr r v).dma = s.dma := rfl
@[simp] theorem State.wr_chainsDone (s : State) (r : Reg) (v : Word) : (s.wr r v).chainsDone = s.chainsDone := rfl
@[simp] theorem State.wr_waits (s : State) (r : Reg) (v : Word) : (s.wr r v).waits = s.waits := rfl
@[simp] theorem State.wr_gill (s : State) (r : Reg) (v : Word) : (s.wr r v).gill = s.gill := rfl
@[simp] theorem State.wr_flights (s : State) (r : Reg) (v : Word) : (s.wr r v).flights = s.flights := rfl
@[simp] theorem State.wr_sched (s : State) (r : Reg) (v : Word) : (s.wr r v).sched = s.sched := rfl
@[simp] theorem State.wr_tw (s : State) (r : Reg) (v : Word) : (s.wr r v).tw = s.tw := rfl
@[simp] theorem State.wr_mot (s : State) (r : Reg) (v : Word) : (s.wr r v).mot = s.mot := rfl
@[simp] theorem State.wr_cam (s : State) (r : Reg) (v : Word) : (s.wr r v).cam = s.cam := rfl
@[simp] theorem State.wr_lanes (s : State) (r : Reg) (v : Word) : (s.wr r v).lanes = s.lanes := rfl
@[simp] theorem State.wr_ring (s : State) (r : Reg) (v : Word) : (s.wr r v).ring = s.ring := rfl
@[simp] theorem State.wr_pfx (s : State) (r : Reg) (v : Word) : (s.wr r v).pfx = s.pfx := rfl
@[simp] theorem State.wr_ann (s : State) (r : Reg) (v : Word) : (s.wr r v).ann = s.ann := rfl
@[simp] theorem State.wr_jrn (s : State) (r : Reg) (v : Word) : (s.wr r v).jrn = s.jrn := rfl
@[simp] theorem State.wr_mbx (s : State) (r : Reg) (v : Word) : (s.wr r v).mbx = s.mbx := rfl
@[simp] theorem State.wr_spi (s : State) (r : Reg) (v : Word) : (s.wr r v).spi = s.spi := rfl
@[simp] theorem State.wr_i2c (s : State) (r : Reg) (v : Word) : (s.wr r v).i2c = s.i2c := rfl
@[simp] theorem State.wr_out (s : State) (r : Reg) (v : Word) : (s.wr r v).out = s.out := rfl
@[simp] theorem State.wr_pending (s : State) (r : Reg) (v : Word) : (s.wr r v).pending = s.pending := rfl

@[simp] theorem State.setF_mem (s : State) (f : Fld) (n : Nat) : (s.setF f n).mem = s.mem := rfl
@[simp] theorem State.setF_bus (s : State) (f : Fld) (n : Nat) : (s.setF f n).bus = s.bus := rfl
@[simp] theorem State.setF_now (s : State) (f : Fld) (n : Nat) : (s.setF f n).now = s.now := rfl
@[simp] theorem State.setF_free (s : State) (f : Fld) (n : Nat) : (s.setF f n).free = s.free := rfl
@[simp] theorem State.setF_time (s : State) (f : Fld) (n : Nat) : (s.setF f n).time = s.time := rfl
@[simp] theorem State.setF_pwr (s : State) (f : Fld) (n : Nat) : (s.setF f n).pwr = s.pwr := rfl
@[simp] theorem State.setF_mode (s : State) (f : Fld) (n : Nat) : (s.setF f n).mode = s.mode := rfl
@[simp] theorem State.setF_img (s : State) (f : Fld) (n : Nat) : (s.setF f n).img = s.img := rfl
@[simp] theorem State.setF_boot (s : State) (f : Fld) (n : Nat) : (s.setF f n).boot = s.boot := rfl
@[simp] theorem State.setF_mmu (s : State) (f : Fld) (n : Nat) : (s.setF f n).mmu = s.mmu := rfl
@[simp] theorem State.setF_sram (s : State) (f : Fld) (n : Nat) : (s.setF f n).sram = s.sram := rfl
@[simp] theorem State.setF_dma (s : State) (f : Fld) (n : Nat) : (s.setF f n).dma = s.dma := rfl
@[simp] theorem State.setF_chainsDone (s : State) (f : Fld) (n : Nat) : (s.setF f n).chainsDone = s.chainsDone := rfl
@[simp] theorem State.setF_waits (s : State) (f : Fld) (n : Nat) : (s.setF f n).waits = s.waits := rfl
@[simp] theorem State.setF_gill (s : State) (f : Fld) (n : Nat) : (s.setF f n).gill = s.gill := rfl
@[simp] theorem State.setF_flights (s : State) (f : Fld) (n : Nat) : (s.setF f n).flights = s.flights := rfl
@[simp] theorem State.setF_sched (s : State) (f : Fld) (n : Nat) : (s.setF f n).sched = s.sched := rfl
@[simp] theorem State.setF_tw (s : State) (f : Fld) (n : Nat) : (s.setF f n).tw = s.tw := rfl
@[simp] theorem State.setF_mot (s : State) (f : Fld) (n : Nat) : (s.setF f n).mot = s.mot := rfl
@[simp] theorem State.setF_cam (s : State) (f : Fld) (n : Nat) : (s.setF f n).cam = s.cam := rfl
@[simp] theorem State.setF_lanes (s : State) (f : Fld) (n : Nat) : (s.setF f n).lanes = s.lanes := rfl
@[simp] theorem State.setF_ring (s : State) (f : Fld) (n : Nat) : (s.setF f n).ring = s.ring := rfl
@[simp] theorem State.setF_pfx (s : State) (f : Fld) (n : Nat) : (s.setF f n).pfx = s.pfx := rfl
@[simp] theorem State.setF_ann (s : State) (f : Fld) (n : Nat) : (s.setF f n).ann = s.ann := rfl
@[simp] theorem State.setF_jrn (s : State) (f : Fld) (n : Nat) : (s.setF f n).jrn = s.jrn := rfl
@[simp] theorem State.setF_mbx (s : State) (f : Fld) (n : Nat) : (s.setF f n).mbx = s.mbx := rfl
@[simp] theorem State.setF_spi (s : State) (f : Fld) (n : Nat) : (s.setF f n).spi = s.spi := rfl
@[simp] theorem State.setF_i2c (s : State) (f : Fld) (n : Nat) : (s.setF f n).i2c = s.i2c := rfl
@[simp] theorem State.setF_out (s : State) (f : Fld) (n : Nat) : (s.setF f n).out = s.out := rfl
@[simp] theorem State.setF_pending (s : State) (f : Fld) (n : Nat) : (s.setF f n).pending = s.pending := rfl

@[simp] theorem State.setB_mem (s : State) (f : Fld) (b : Bool) : (s.setB f b).mem = s.mem := rfl
@[simp] theorem State.setB_bus (s : State) (f : Fld) (b : Bool) : (s.setB f b).bus = s.bus := rfl
@[simp] theorem State.setB_now (s : State) (f : Fld) (b : Bool) : (s.setB f b).now = s.now := rfl
@[simp] theorem State.setB_free (s : State) (f : Fld) (b : Bool) : (s.setB f b).free = s.free := rfl
@[simp] theorem State.setB_time (s : State) (f : Fld) (b : Bool) : (s.setB f b).time = s.time := rfl
@[simp] theorem State.setB_pwr (s : State) (f : Fld) (b : Bool) : (s.setB f b).pwr = s.pwr := rfl
@[simp] theorem State.setB_mode (s : State) (f : Fld) (b : Bool) : (s.setB f b).mode = s.mode := rfl
@[simp] theorem State.setB_img (s : State) (f : Fld) (b : Bool) : (s.setB f b).img = s.img := rfl
@[simp] theorem State.setB_boot (s : State) (f : Fld) (b : Bool) : (s.setB f b).boot = s.boot := rfl
@[simp] theorem State.setB_mmu (s : State) (f : Fld) (b : Bool) : (s.setB f b).mmu = s.mmu := rfl
@[simp] theorem State.setB_sram (s : State) (f : Fld) (b : Bool) : (s.setB f b).sram = s.sram := rfl
@[simp] theorem State.setB_dma (s : State) (f : Fld) (b : Bool) : (s.setB f b).dma = s.dma := rfl
@[simp] theorem State.setB_chainsDone (s : State) (f : Fld) (b : Bool) : (s.setB f b).chainsDone = s.chainsDone := rfl
@[simp] theorem State.setB_waits (s : State) (f : Fld) (b : Bool) : (s.setB f b).waits = s.waits := rfl
@[simp] theorem State.setB_gill (s : State) (f : Fld) (b : Bool) : (s.setB f b).gill = s.gill := rfl
@[simp] theorem State.setB_flights (s : State) (f : Fld) (b : Bool) : (s.setB f b).flights = s.flights := rfl
@[simp] theorem State.setB_sched (s : State) (f : Fld) (b : Bool) : (s.setB f b).sched = s.sched := rfl
@[simp] theorem State.setB_tw (s : State) (f : Fld) (b : Bool) : (s.setB f b).tw = s.tw := rfl
@[simp] theorem State.setB_mot (s : State) (f : Fld) (b : Bool) : (s.setB f b).mot = s.mot := rfl
@[simp] theorem State.setB_cam (s : State) (f : Fld) (b : Bool) : (s.setB f b).cam = s.cam := rfl
@[simp] theorem State.setB_lanes (s : State) (f : Fld) (b : Bool) : (s.setB f b).lanes = s.lanes := rfl
@[simp] theorem State.setB_ring (s : State) (f : Fld) (b : Bool) : (s.setB f b).ring = s.ring := rfl
@[simp] theorem State.setB_pfx (s : State) (f : Fld) (b : Bool) : (s.setB f b).pfx = s.pfx := rfl
@[simp] theorem State.setB_ann (s : State) (f : Fld) (b : Bool) : (s.setB f b).ann = s.ann := rfl
@[simp] theorem State.setB_jrn (s : State) (f : Fld) (b : Bool) : (s.setB f b).jrn = s.jrn := rfl
@[simp] theorem State.setB_mbx (s : State) (f : Fld) (b : Bool) : (s.setB f b).mbx = s.mbx := rfl
@[simp] theorem State.setB_spi (s : State) (f : Fld) (b : Bool) : (s.setB f b).spi = s.spi := rfl
@[simp] theorem State.setB_i2c (s : State) (f : Fld) (b : Bool) : (s.setB f b).i2c = s.i2c := rfl
@[simp] theorem State.setB_out (s : State) (f : Fld) (b : Bool) : (s.setB f b).out = s.out := rfl
@[simp] theorem State.setB_pending (s : State) (f : Fld) (b : Bool) : (s.setB f b).pending = s.pending := rfl

@[simp] theorem State.inc_mem (s : State) (f : Fld) (n : Nat) : (s.inc f n).mem = s.mem := rfl
@[simp] theorem State.inc_bus (s : State) (f : Fld) (n : Nat) : (s.inc f n).bus = s.bus := rfl
@[simp] theorem State.inc_now (s : State) (f : Fld) (n : Nat) : (s.inc f n).now = s.now := rfl
@[simp] theorem State.inc_free (s : State) (f : Fld) (n : Nat) : (s.inc f n).free = s.free := rfl
@[simp] theorem State.inc_time (s : State) (f : Fld) (n : Nat) : (s.inc f n).time = s.time := rfl
@[simp] theorem State.inc_pwr (s : State) (f : Fld) (n : Nat) : (s.inc f n).pwr = s.pwr := rfl
@[simp] theorem State.inc_mode (s : State) (f : Fld) (n : Nat) : (s.inc f n).mode = s.mode := rfl
@[simp] theorem State.inc_img (s : State) (f : Fld) (n : Nat) : (s.inc f n).img = s.img := rfl
@[simp] theorem State.inc_boot (s : State) (f : Fld) (n : Nat) : (s.inc f n).boot = s.boot := rfl
@[simp] theorem State.inc_mmu (s : State) (f : Fld) (n : Nat) : (s.inc f n).mmu = s.mmu := rfl
@[simp] theorem State.inc_sram (s : State) (f : Fld) (n : Nat) : (s.inc f n).sram = s.sram := rfl
@[simp] theorem State.inc_dma (s : State) (f : Fld) (n : Nat) : (s.inc f n).dma = s.dma := rfl
@[simp] theorem State.inc_chainsDone (s : State) (f : Fld) (n : Nat) : (s.inc f n).chainsDone = s.chainsDone := rfl
@[simp] theorem State.inc_waits (s : State) (f : Fld) (n : Nat) : (s.inc f n).waits = s.waits := rfl
@[simp] theorem State.inc_gill (s : State) (f : Fld) (n : Nat) : (s.inc f n).gill = s.gill := rfl
@[simp] theorem State.inc_flights (s : State) (f : Fld) (n : Nat) : (s.inc f n).flights = s.flights := rfl
@[simp] theorem State.inc_sched (s : State) (f : Fld) (n : Nat) : (s.inc f n).sched = s.sched := rfl
@[simp] theorem State.inc_tw (s : State) (f : Fld) (n : Nat) : (s.inc f n).tw = s.tw := rfl
@[simp] theorem State.inc_mot (s : State) (f : Fld) (n : Nat) : (s.inc f n).mot = s.mot := rfl
@[simp] theorem State.inc_cam (s : State) (f : Fld) (n : Nat) : (s.inc f n).cam = s.cam := rfl
@[simp] theorem State.inc_lanes (s : State) (f : Fld) (n : Nat) : (s.inc f n).lanes = s.lanes := rfl
@[simp] theorem State.inc_ring (s : State) (f : Fld) (n : Nat) : (s.inc f n).ring = s.ring := rfl
@[simp] theorem State.inc_pfx (s : State) (f : Fld) (n : Nat) : (s.inc f n).pfx = s.pfx := rfl
@[simp] theorem State.inc_ann (s : State) (f : Fld) (n : Nat) : (s.inc f n).ann = s.ann := rfl
@[simp] theorem State.inc_jrn (s : State) (f : Fld) (n : Nat) : (s.inc f n).jrn = s.jrn := rfl
@[simp] theorem State.inc_mbx (s : State) (f : Fld) (n : Nat) : (s.inc f n).mbx = s.mbx := rfl
@[simp] theorem State.inc_spi (s : State) (f : Fld) (n : Nat) : (s.inc f n).spi = s.spi := rfl
@[simp] theorem State.inc_i2c (s : State) (f : Fld) (n : Nat) : (s.inc f n).i2c = s.i2c := rfl
@[simp] theorem State.inc_out (s : State) (f : Fld) (n : Nat) : (s.inc f n).out = s.out := rfl
@[simp] theorem State.inc_pending (s : State) (f : Fld) (n : Nat) : (s.inc f n).pending = s.pending := rfl

@[simp] theorem State.raise_mem (s : State) (f : Fld) (n : Nat) : (s.raise f n).mem = s.mem := rfl
@[simp] theorem State.raise_bus (s : State) (f : Fld) (n : Nat) : (s.raise f n).bus = s.bus := rfl
@[simp] theorem State.raise_now (s : State) (f : Fld) (n : Nat) : (s.raise f n).now = s.now := rfl
@[simp] theorem State.raise_free (s : State) (f : Fld) (n : Nat) : (s.raise f n).free = s.free := rfl
@[simp] theorem State.raise_time (s : State) (f : Fld) (n : Nat) : (s.raise f n).time = s.time := rfl
@[simp] theorem State.raise_pwr (s : State) (f : Fld) (n : Nat) : (s.raise f n).pwr = s.pwr := rfl
@[simp] theorem State.raise_mode (s : State) (f : Fld) (n : Nat) : (s.raise f n).mode = s.mode := rfl
@[simp] theorem State.raise_img (s : State) (f : Fld) (n : Nat) : (s.raise f n).img = s.img := rfl
@[simp] theorem State.raise_boot (s : State) (f : Fld) (n : Nat) : (s.raise f n).boot = s.boot := rfl
@[simp] theorem State.raise_mmu (s : State) (f : Fld) (n : Nat) : (s.raise f n).mmu = s.mmu := rfl
@[simp] theorem State.raise_sram (s : State) (f : Fld) (n : Nat) : (s.raise f n).sram = s.sram := rfl
@[simp] theorem State.raise_dma (s : State) (f : Fld) (n : Nat) : (s.raise f n).dma = s.dma := rfl
@[simp] theorem State.raise_chainsDone (s : State) (f : Fld) (n : Nat) : (s.raise f n).chainsDone = s.chainsDone := rfl
@[simp] theorem State.raise_waits (s : State) (f : Fld) (n : Nat) : (s.raise f n).waits = s.waits := rfl
@[simp] theorem State.raise_gill (s : State) (f : Fld) (n : Nat) : (s.raise f n).gill = s.gill := rfl
@[simp] theorem State.raise_flights (s : State) (f : Fld) (n : Nat) : (s.raise f n).flights = s.flights := rfl
@[simp] theorem State.raise_sched (s : State) (f : Fld) (n : Nat) : (s.raise f n).sched = s.sched := rfl
@[simp] theorem State.raise_tw (s : State) (f : Fld) (n : Nat) : (s.raise f n).tw = s.tw := rfl
@[simp] theorem State.raise_mot (s : State) (f : Fld) (n : Nat) : (s.raise f n).mot = s.mot := rfl
@[simp] theorem State.raise_cam (s : State) (f : Fld) (n : Nat) : (s.raise f n).cam = s.cam := rfl
@[simp] theorem State.raise_lanes (s : State) (f : Fld) (n : Nat) : (s.raise f n).lanes = s.lanes := rfl
@[simp] theorem State.raise_ring (s : State) (f : Fld) (n : Nat) : (s.raise f n).ring = s.ring := rfl
@[simp] theorem State.raise_pfx (s : State) (f : Fld) (n : Nat) : (s.raise f n).pfx = s.pfx := rfl
@[simp] theorem State.raise_ann (s : State) (f : Fld) (n : Nat) : (s.raise f n).ann = s.ann := rfl
@[simp] theorem State.raise_jrn (s : State) (f : Fld) (n : Nat) : (s.raise f n).jrn = s.jrn := rfl
@[simp] theorem State.raise_mbx (s : State) (f : Fld) (n : Nat) : (s.raise f n).mbx = s.mbx := rfl
@[simp] theorem State.raise_spi (s : State) (f : Fld) (n : Nat) : (s.raise f n).spi = s.spi := rfl
@[simp] theorem State.raise_i2c (s : State) (f : Fld) (n : Nat) : (s.raise f n).i2c = s.i2c := rfl
@[simp] theorem State.raise_out (s : State) (f : Fld) (n : Nat) : (s.raise f n).out = s.out := rfl
@[simp] theorem State.raise_pending (s : State) (f : Fld) (n : Nat) : (s.raise f n).pending = s.pending := rfl

@[simp] theorem State.setPair_mem (s : State) (lo hi : Fld) (n : Nat) : (s.setPair lo hi n).mem = s.mem := rfl
@[simp] theorem State.setPair_bus (s : State) (lo hi : Fld) (n : Nat) : (s.setPair lo hi n).bus = s.bus := rfl
@[simp] theorem State.setPair_now (s : State) (lo hi : Fld) (n : Nat) : (s.setPair lo hi n).now = s.now := rfl
@[simp] theorem State.setPair_free (s : State) (lo hi : Fld) (n : Nat) : (s.setPair lo hi n).free = s.free := rfl
@[simp] theorem State.setPair_time (s : State) (lo hi : Fld) (n : Nat) : (s.setPair lo hi n).time = s.time := rfl
@[simp] theorem State.setPair_pwr (s : State) (lo hi : Fld) (n : Nat) : (s.setPair lo hi n).pwr = s.pwr := rfl
@[simp] theorem State.setPair_mode (s : State) (lo hi : Fld) (n : Nat) : (s.setPair lo hi n).mode = s.mode := rfl
@[simp] theorem State.setPair_img (s : State) (lo hi : Fld) (n : Nat) : (s.setPair lo hi n).img = s.img := rfl
@[simp] theorem State.setPair_boot (s : State) (lo hi : Fld) (n : Nat) : (s.setPair lo hi n).boot = s.boot := rfl
@[simp] theorem State.setPair_mmu (s : State) (lo hi : Fld) (n : Nat) : (s.setPair lo hi n).mmu = s.mmu := rfl
@[simp] theorem State.setPair_sram (s : State) (lo hi : Fld) (n : Nat) : (s.setPair lo hi n).sram = s.sram := rfl
@[simp] theorem State.setPair_dma (s : State) (lo hi : Fld) (n : Nat) : (s.setPair lo hi n).dma = s.dma := rfl
@[simp] theorem State.setPair_chainsDone (s : State) (lo hi : Fld) (n : Nat) : (s.setPair lo hi n).chainsDone = s.chainsDone := rfl
@[simp] theorem State.setPair_waits (s : State) (lo hi : Fld) (n : Nat) : (s.setPair lo hi n).waits = s.waits := rfl
@[simp] theorem State.setPair_gill (s : State) (lo hi : Fld) (n : Nat) : (s.setPair lo hi n).gill = s.gill := rfl
@[simp] theorem State.setPair_flights (s : State) (lo hi : Fld) (n : Nat) : (s.setPair lo hi n).flights = s.flights := rfl
@[simp] theorem State.setPair_sched (s : State) (lo hi : Fld) (n : Nat) : (s.setPair lo hi n).sched = s.sched := rfl
@[simp] theorem State.setPair_tw (s : State) (lo hi : Fld) (n : Nat) : (s.setPair lo hi n).tw = s.tw := rfl
@[simp] theorem State.setPair_mot (s : State) (lo hi : Fld) (n : Nat) : (s.setPair lo hi n).mot = s.mot := rfl
@[simp] theorem State.setPair_cam (s : State) (lo hi : Fld) (n : Nat) : (s.setPair lo hi n).cam = s.cam := rfl
@[simp] theorem State.setPair_lanes (s : State) (lo hi : Fld) (n : Nat) : (s.setPair lo hi n).lanes = s.lanes := rfl
@[simp] theorem State.setPair_ring (s : State) (lo hi : Fld) (n : Nat) : (s.setPair lo hi n).ring = s.ring := rfl
@[simp] theorem State.setPair_pfx (s : State) (lo hi : Fld) (n : Nat) : (s.setPair lo hi n).pfx = s.pfx := rfl
@[simp] theorem State.setPair_ann (s : State) (lo hi : Fld) (n : Nat) : (s.setPair lo hi n).ann = s.ann := rfl
@[simp] theorem State.setPair_jrn (s : State) (lo hi : Fld) (n : Nat) : (s.setPair lo hi n).jrn = s.jrn := rfl
@[simp] theorem State.setPair_mbx (s : State) (lo hi : Fld) (n : Nat) : (s.setPair lo hi n).mbx = s.mbx := rfl
@[simp] theorem State.setPair_spi (s : State) (lo hi : Fld) (n : Nat) : (s.setPair lo hi n).spi = s.spi := rfl
@[simp] theorem State.setPair_i2c (s : State) (lo hi : Fld) (n : Nat) : (s.setPair lo hi n).i2c = s.i2c := rfl
@[simp] theorem State.setPair_out (s : State) (lo hi : Fld) (n : Nat) : (s.setPair lo hi n).out = s.out := rfl
@[simp] theorem State.setPair_pending (s : State) (lo hi : Fld) (n : Nat) : (s.setPair lo hi n).pending = s.pending := rfl

@[simp] theorem State.clearRegs_mem (s : State) (lo hi : Nat) : (s.clearRegs lo hi).mem = s.mem := rfl
@[simp] theorem State.clearRegs_bus (s : State) (lo hi : Nat) : (s.clearRegs lo hi).bus = s.bus := rfl
@[simp] theorem State.clearRegs_now (s : State) (lo hi : Nat) : (s.clearRegs lo hi).now = s.now := rfl
@[simp] theorem State.clearRegs_free (s : State) (lo hi : Nat) : (s.clearRegs lo hi).free = s.free := rfl
@[simp] theorem State.clearRegs_time (s : State) (lo hi : Nat) : (s.clearRegs lo hi).time = s.time := rfl
@[simp] theorem State.clearRegs_pwr (s : State) (lo hi : Nat) : (s.clearRegs lo hi).pwr = s.pwr := rfl
@[simp] theorem State.clearRegs_mode (s : State) (lo hi : Nat) : (s.clearRegs lo hi).mode = s.mode := rfl
@[simp] theorem State.clearRegs_img (s : State) (lo hi : Nat) : (s.clearRegs lo hi).img = s.img := rfl
@[simp] theorem State.clearRegs_boot (s : State) (lo hi : Nat) : (s.clearRegs lo hi).boot = s.boot := rfl
@[simp] theorem State.clearRegs_mmu (s : State) (lo hi : Nat) : (s.clearRegs lo hi).mmu = s.mmu := rfl
@[simp] theorem State.clearRegs_sram (s : State) (lo hi : Nat) : (s.clearRegs lo hi).sram = s.sram := rfl
@[simp] theorem State.clearRegs_dma (s : State) (lo hi : Nat) : (s.clearRegs lo hi).dma = s.dma := rfl
@[simp] theorem State.clearRegs_chainsDone (s : State) (lo hi : Nat) : (s.clearRegs lo hi).chainsDone = s.chainsDone := rfl
@[simp] theorem State.clearRegs_waits (s : State) (lo hi : Nat) : (s.clearRegs lo hi).waits = s.waits := rfl
@[simp] theorem State.clearRegs_gill (s : State) (lo hi : Nat) : (s.clearRegs lo hi).gill = s.gill := rfl
@[simp] theorem State.clearRegs_flights (s : State) (lo hi : Nat) : (s.clearRegs lo hi).flights = s.flights := rfl
@[simp] theorem State.clearRegs_sched (s : State) (lo hi : Nat) : (s.clearRegs lo hi).sched = s.sched := rfl
@[simp] theorem State.clearRegs_tw (s : State) (lo hi : Nat) : (s.clearRegs lo hi).tw = s.tw := rfl
@[simp] theorem State.clearRegs_mot (s : State) (lo hi : Nat) : (s.clearRegs lo hi).mot = s.mot := rfl
@[simp] theorem State.clearRegs_cam (s : State) (lo hi : Nat) : (s.clearRegs lo hi).cam = s.cam := rfl
@[simp] theorem State.clearRegs_lanes (s : State) (lo hi : Nat) : (s.clearRegs lo hi).lanes = s.lanes := rfl
@[simp] theorem State.clearRegs_ring (s : State) (lo hi : Nat) : (s.clearRegs lo hi).ring = s.ring := rfl
@[simp] theorem State.clearRegs_pfx (s : State) (lo hi : Nat) : (s.clearRegs lo hi).pfx = s.pfx := rfl
@[simp] theorem State.clearRegs_ann (s : State) (lo hi : Nat) : (s.clearRegs lo hi).ann = s.ann := rfl
@[simp] theorem State.clearRegs_jrn (s : State) (lo hi : Nat) : (s.clearRegs lo hi).jrn = s.jrn := rfl
@[simp] theorem State.clearRegs_mbx (s : State) (lo hi : Nat) : (s.clearRegs lo hi).mbx = s.mbx := rfl
@[simp] theorem State.clearRegs_spi (s : State) (lo hi : Nat) : (s.clearRegs lo hi).spi = s.spi := rfl
@[simp] theorem State.clearRegs_i2c (s : State) (lo hi : Nat) : (s.clearRegs lo hi).i2c = s.i2c := rfl
@[simp] theorem State.clearRegs_out (s : State) (lo hi : Nat) : (s.clearRegs lo hi).out = s.out := rfl
@[simp] theorem State.clearRegs_pending (s : State) (lo hi : Nat) : (s.clearRegs lo hi).pending = s.pending := rfl

@[simp] theorem State.setByte_regs (s : State) (a : Nat) (b : Byte) : (s.setByte a b).regs = s.regs := rfl
@[simp] theorem State.setByte_bus (s : State) (a : Nat) (b : Byte) : (s.setByte a b).bus = s.bus := rfl
@[simp] theorem State.setByte_now (s : State) (a : Nat) (b : Byte) : (s.setByte a b).now = s.now := rfl
@[simp] theorem State.setByte_free (s : State) (a : Nat) (b : Byte) : (s.setByte a b).free = s.free := rfl
@[simp] theorem State.setByte_time (s : State) (a : Nat) (b : Byte) : (s.setByte a b).time = s.time := rfl
@[simp] theorem State.setByte_pwr (s : State) (a : Nat) (b : Byte) : (s.setByte a b).pwr = s.pwr := rfl
@[simp] theorem State.setByte_mode (s : State) (a : Nat) (b : Byte) : (s.setByte a b).mode = s.mode := rfl
@[simp] theorem State.setByte_img (s : State) (a : Nat) (b : Byte) : (s.setByte a b).img = s.img := rfl
@[simp] theorem State.setByte_boot (s : State) (a : Nat) (b : Byte) : (s.setByte a b).boot = s.boot := rfl
@[simp] theorem State.setByte_mmu (s : State) (a : Nat) (b : Byte) : (s.setByte a b).mmu = s.mmu := rfl
@[simp] theorem State.setByte_sram (s : State) (a : Nat) (b : Byte) : (s.setByte a b).sram = s.sram := rfl
@[simp] theorem State.setByte_dma (s : State) (a : Nat) (b : Byte) : (s.setByte a b).dma = s.dma := rfl
@[simp] theorem State.setByte_chainsDone (s : State) (a : Nat) (b : Byte) : (s.setByte a b).chainsDone = s.chainsDone := rfl
@[simp] theorem State.setByte_waits (s : State) (a : Nat) (b : Byte) : (s.setByte a b).waits = s.waits := rfl
@[simp] theorem State.setByte_gill (s : State) (a : Nat) (b : Byte) : (s.setByte a b).gill = s.gill := rfl
@[simp] theorem State.setByte_flights (s : State) (a : Nat) (b : Byte) : (s.setByte a b).flights = s.flights := rfl
@[simp] theorem State.setByte_sched (s : State) (a : Nat) (b : Byte) : (s.setByte a b).sched = s.sched := rfl
@[simp] theorem State.setByte_tw (s : State) (a : Nat) (b : Byte) : (s.setByte a b).tw = s.tw := rfl
@[simp] theorem State.setByte_mot (s : State) (a : Nat) (b : Byte) : (s.setByte a b).mot = s.mot := rfl
@[simp] theorem State.setByte_cam (s : State) (a : Nat) (b : Byte) : (s.setByte a b).cam = s.cam := rfl
@[simp] theorem State.setByte_lanes (s : State) (a : Nat) (b : Byte) : (s.setByte a b).lanes = s.lanes := rfl
@[simp] theorem State.setByte_ring (s : State) (a : Nat) (b : Byte) : (s.setByte a b).ring = s.ring := rfl
@[simp] theorem State.setByte_pfx (s : State) (a : Nat) (b : Byte) : (s.setByte a b).pfx = s.pfx := rfl
@[simp] theorem State.setByte_ann (s : State) (a : Nat) (b : Byte) : (s.setByte a b).ann = s.ann := rfl
@[simp] theorem State.setByte_jrn (s : State) (a : Nat) (b : Byte) : (s.setByte a b).jrn = s.jrn := rfl
@[simp] theorem State.setByte_mbx (s : State) (a : Nat) (b : Byte) : (s.setByte a b).mbx = s.mbx := rfl
@[simp] theorem State.setByte_spi (s : State) (a : Nat) (b : Byte) : (s.setByte a b).spi = s.spi := rfl
@[simp] theorem State.setByte_i2c (s : State) (a : Nat) (b : Byte) : (s.setByte a b).i2c = s.i2c := rfl
@[simp] theorem State.setByte_out (s : State) (a : Nat) (b : Byte) : (s.setByte a b).out = s.out := rfl
@[simp] theorem State.setByte_pending (s : State) (a : Nat) (b : Byte) : (s.setByte a b).pending = s.pending := rfl

@[simp] theorem State.emit_regs (s : State) (o : Out) : (s.emit o).regs = s.regs := rfl
@[simp] theorem State.emit_mem (s : State) (o : Out) : (s.emit o).mem = s.mem := rfl
@[simp] theorem State.emit_bus (s : State) (o : Out) : (s.emit o).bus = s.bus := rfl
@[simp] theorem State.emit_now (s : State) (o : Out) : (s.emit o).now = s.now := rfl
@[simp] theorem State.emit_free (s : State) (o : Out) : (s.emit o).free = s.free := rfl
@[simp] theorem State.emit_time (s : State) (o : Out) : (s.emit o).time = s.time := rfl
@[simp] theorem State.emit_pwr (s : State) (o : Out) : (s.emit o).pwr = s.pwr := rfl
@[simp] theorem State.emit_mode (s : State) (o : Out) : (s.emit o).mode = s.mode := rfl
@[simp] theorem State.emit_img (s : State) (o : Out) : (s.emit o).img = s.img := rfl
@[simp] theorem State.emit_boot (s : State) (o : Out) : (s.emit o).boot = s.boot := rfl
@[simp] theorem State.emit_mmu (s : State) (o : Out) : (s.emit o).mmu = s.mmu := rfl
@[simp] theorem State.emit_sram (s : State) (o : Out) : (s.emit o).sram = s.sram := rfl
@[simp] theorem State.emit_dma (s : State) (o : Out) : (s.emit o).dma = s.dma := rfl
@[simp] theorem State.emit_chainsDone (s : State) (o : Out) : (s.emit o).chainsDone = s.chainsDone := rfl
@[simp] theorem State.emit_waits (s : State) (o : Out) : (s.emit o).waits = s.waits := rfl
@[simp] theorem State.emit_gill (s : State) (o : Out) : (s.emit o).gill = s.gill := rfl
@[simp] theorem State.emit_flights (s : State) (o : Out) : (s.emit o).flights = s.flights := rfl
@[simp] theorem State.emit_sched (s : State) (o : Out) : (s.emit o).sched = s.sched := rfl
@[simp] theorem State.emit_tw (s : State) (o : Out) : (s.emit o).tw = s.tw := rfl
@[simp] theorem State.emit_mot (s : State) (o : Out) : (s.emit o).mot = s.mot := rfl
@[simp] theorem State.emit_cam (s : State) (o : Out) : (s.emit o).cam = s.cam := rfl
@[simp] theorem State.emit_lanes (s : State) (o : Out) : (s.emit o).lanes = s.lanes := rfl
@[simp] theorem State.emit_ring (s : State) (o : Out) : (s.emit o).ring = s.ring := rfl
@[simp] theorem State.emit_pfx (s : State) (o : Out) : (s.emit o).pfx = s.pfx := rfl
@[simp] theorem State.emit_ann (s : State) (o : Out) : (s.emit o).ann = s.ann := rfl
@[simp] theorem State.emit_jrn (s : State) (o : Out) : (s.emit o).jrn = s.jrn := rfl
@[simp] theorem State.emit_mbx (s : State) (o : Out) : (s.emit o).mbx = s.mbx := rfl
@[simp] theorem State.emit_spi (s : State) (o : Out) : (s.emit o).spi = s.spi := rfl
@[simp] theorem State.emit_i2c (s : State) (o : Out) : (s.emit o).i2c = s.i2c := rfl
@[simp] theorem State.emit_pending (s : State) (o : Out) : (s.emit o).pending = s.pending := rfl

@[simp] theorem State.emit_out (s : State) (x : Out) : (s.emit x).out = x :: s.out := rfl

/-- What a report can do, whatever its field is. -/
theorem State.report_any (s : State) (f : Fld) (a b c : Nat) : Touches 0x80700000000408000000000000000000000000000000000000000000000000000000000000000000000000000000000000000000000000000000000000000a2000211 s (s.report f a b c) :=
  State.report_touches _ _ _ _ _ rfl 0 rfl Grp.any

@[simp] theorem State.pend_mem (s : State) (n : Nat) : (s.pend n).mem = s.mem :=
  (State.pend_touches ..).same .mem (by decide)
@[simp] theorem State.pend_bus (s : State) (n : Nat) : (s.pend n).bus = s.bus :=
  (State.pend_touches ..).same .bus (by decide)
@[simp] theorem State.pend_now (s : State) (n : Nat) : (s.pend n).now = s.now :=
  (State.pend_touches ..).same .now (by decide)
@[simp] theorem State.pend_free (s : State) (n : Nat) : (s.pend n).free = s.free :=
  (State.pend_touches ..).same .free (by decide)
@[simp] theorem State.pend_time (s : State) (n : Nat) : (s.pend n).time = s.time :=
  (State.pend_touches ..).same .time (by decide)
@[simp] theorem State.pend_pwr (s : State) (n : Nat) : (s.pend n).pwr = s.pwr :=
  (State.pend_touches ..).same .pwr (by decide)
@[simp] theorem State.pend_mode (s : State) (n : Nat) : (s.pend n).mode = s.mode :=
  (State.pend_touches ..).same .mode (by decide)
@[simp] theorem State.pend_img (s : State) (n : Nat) : (s.pend n).img = s.img :=
  (State.pend_touches ..).same .img (by decide)
@[simp] theorem State.pend_boot (s : State) (n : Nat) : (s.pend n).boot = s.boot :=
  (State.pend_touches ..).same .boot (by decide)
@[simp] theorem State.pend_mmu (s : State) (n : Nat) : (s.pend n).mmu = s.mmu :=
  (State.pend_touches ..).same .mmu (by decide)
@[simp] theorem State.pend_sram (s : State) (n : Nat) : (s.pend n).sram = s.sram :=
  (State.pend_touches ..).same .sram (by decide)
@[simp] theorem State.pend_dma (s : State) (n : Nat) : (s.pend n).dma = s.dma :=
  (State.pend_touches ..).same .dma (by decide)
@[simp] theorem State.pend_chainsDone (s : State) (n : Nat) : (s.pend n).chainsDone = s.chainsDone :=
  (State.pend_touches ..).same .chainsDone (by decide)
@[simp] theorem State.pend_waits (s : State) (n : Nat) : (s.pend n).waits = s.waits :=
  (State.pend_touches ..).same .waits (by decide)
@[simp] theorem State.pend_gill (s : State) (n : Nat) : (s.pend n).gill = s.gill :=
  (State.pend_touches ..).same .gill (by decide)
@[simp] theorem State.pend_flights (s : State) (n : Nat) : (s.pend n).flights = s.flights :=
  (State.pend_touches ..).same .flights (by decide)
@[simp] theorem State.pend_sched (s : State) (n : Nat) : (s.pend n).sched = s.sched :=
  (State.pend_touches ..).same .sched (by decide)
@[simp] theorem State.pend_tw (s : State) (n : Nat) : (s.pend n).tw = s.tw :=
  (State.pend_touches ..).same .tw (by decide)
@[simp] theorem State.pend_mot (s : State) (n : Nat) : (s.pend n).mot = s.mot :=
  (State.pend_touches ..).same .mot (by decide)
@[simp] theorem State.pend_cam (s : State) (n : Nat) : (s.pend n).cam = s.cam :=
  (State.pend_touches ..).same .cam (by decide)
@[simp] theorem State.pend_lanes (s : State) (n : Nat) : (s.pend n).lanes = s.lanes :=
  (State.pend_touches ..).same .lanes (by decide)
@[simp] theorem State.pend_ring (s : State) (n : Nat) : (s.pend n).ring = s.ring :=
  (State.pend_touches ..).same .ring (by decide)
@[simp] theorem State.pend_pfx (s : State) (n : Nat) : (s.pend n).pfx = s.pfx :=
  (State.pend_touches ..).same .pfx (by decide)
@[simp] theorem State.pend_ann (s : State) (n : Nat) : (s.pend n).ann = s.ann :=
  (State.pend_touches ..).same .ann (by decide)
@[simp] theorem State.pend_jrn (s : State) (n : Nat) : (s.pend n).jrn = s.jrn :=
  (State.pend_touches ..).same .jrn (by decide)
@[simp] theorem State.pend_mbx (s : State) (n : Nat) : (s.pend n).mbx = s.mbx :=
  (State.pend_touches ..).same .mbx (by decide)
@[simp] theorem State.pend_spi (s : State) (n : Nat) : (s.pend n).spi = s.spi :=
  (State.pend_touches ..).same .spi (by decide)
@[simp] theorem State.pend_i2c (s : State) (n : Nat) : (s.pend n).i2c = s.i2c :=
  (State.pend_touches ..).same .i2c (by decide)
@[simp] theorem State.pend_pending (s : State) (n : Nat) : (s.pend n).pending = s.pending :=
  (State.pend_touches ..).same .pending (by decide)

@[simp] theorem State.report_mem (s : State) (f : Fld) (a b c : Nat) : (s.report f a b c).mem = s.mem :=
  (State.report_any ..).same .mem (by decide)
@[simp] theorem State.report_bus (s : State) (f : Fld) (a b c : Nat) : (s.report f a b c).bus = s.bus :=
  (State.report_any ..).same .bus (by decide)
@[simp] theorem State.report_now (s : State) (f : Fld) (a b c : Nat) : (s.report f a b c).now = s.now :=
  (State.report_any ..).same .now (by decide)
@[simp] theorem State.report_time (s : State) (f : Fld) (a b c : Nat) : (s.report f a b c).time = s.time :=
  (State.report_any ..).same .time (by decide)
@[simp] theorem State.report_pwr (s : State) (f : Fld) (a b c : Nat) : (s.report f a b c).pwr = s.pwr :=
  (State.report_any ..).same .pwr (by decide)
@[simp] theorem State.report_mode (s : State) (f : Fld) (a b c : Nat) : (s.report f a b c).mode = s.mode :=
  (State.report_any ..).same .mode (by decide)
@[simp] theorem State.report_img (s : State) (f : Fld) (a b c : Nat) : (s.report f a b c).img = s.img :=
  (State.report_any ..).same .img (by decide)
@[simp] theorem State.report_mmu (s : State) (f : Fld) (a b c : Nat) : (s.report f a b c).mmu = s.mmu :=
  (State.report_any ..).same .mmu (by decide)
@[simp] theorem State.report_sram (s : State) (f : Fld) (a b c : Nat) : (s.report f a b c).sram = s.sram :=
  (State.report_any ..).same .sram (by decide)
@[simp] theorem State.report_dma (s : State) (f : Fld) (a b c : Nat) : (s.report f a b c).dma = s.dma :=
  (State.report_any ..).same .dma (by decide)
@[simp] theorem State.report_chainsDone (s : State) (f : Fld) (a b c : Nat) : (s.report f a b c).chainsDone = s.chainsDone :=
  (State.report_any ..).same .chainsDone (by decide)
@[simp] theorem State.report_waits (s : State) (f : Fld) (a b c : Nat) : (s.report f a b c).waits = s.waits :=
  (State.report_any ..).same .waits (by decide)
@[simp] theorem State.report_gill (s : State) (f : Fld) (a b c : Nat) : (s.report f a b c).gill = s.gill :=
  (State.report_any ..).same .gill (by decide)
@[simp] theorem State.report_flights (s : State) (f : Fld) (a b c : Nat) : (s.report f a b c).flights = s.flights :=
  (State.report_any ..).same .flights (by decide)
@[simp] theorem State.report_sched (s : State) (f : Fld) (a b c : Nat) : (s.report f a b c).sched = s.sched :=
  (State.report_any ..).same .sched (by decide)
@[simp] theorem State.report_tw (s : State) (f : Fld) (a b c : Nat) : (s.report f a b c).tw = s.tw :=
  (State.report_any ..).same .tw (by decide)
@[simp] theorem State.report_mot (s : State) (f : Fld) (a b c : Nat) : (s.report f a b c).mot = s.mot :=
  (State.report_any ..).same .mot (by decide)
@[simp] theorem State.report_cam (s : State) (f : Fld) (a b c : Nat) : (s.report f a b c).cam = s.cam :=
  (State.report_any ..).same .cam (by decide)
@[simp] theorem State.report_lanes (s : State) (f : Fld) (a b c : Nat) : (s.report f a b c).lanes = s.lanes :=
  (State.report_any ..).same .lanes (by decide)
@[simp] theorem State.report_ring (s : State) (f : Fld) (a b c : Nat) : (s.report f a b c).ring = s.ring :=
  (State.report_any ..).same .ring (by decide)
@[simp] theorem State.report_pfx (s : State) (f : Fld) (a b c : Nat) : (s.report f a b c).pfx = s.pfx :=
  (State.report_any ..).same .pfx (by decide)
@[simp] theorem State.report_ann (s : State) (f : Fld) (a b c : Nat) : (s.report f a b c).ann = s.ann :=
  (State.report_any ..).same .ann (by decide)
@[simp] theorem State.report_mbx (s : State) (f : Fld) (a b c : Nat) : (s.report f a b c).mbx = s.mbx :=
  (State.report_any ..).same .mbx (by decide)
@[simp] theorem State.report_spi (s : State) (f : Fld) (a b c : Nat) : (s.report f a b c).spi = s.spi :=
  (State.report_any ..).same .spi (by decide)
@[simp] theorem State.report_i2c (s : State) (f : Fld) (a b c : Nat) : (s.report f a b c).i2c = s.i2c :=
  (State.report_any ..).same .i2c (by decide)
@[simp] theorem State.report_pending (s : State) (f : Fld) (a b c : Nat) : (s.report f a b c).pending = s.pending :=
  (State.report_any ..).same .pending (by decide)

/-! ## Registers and fields -/

/-- Reading a register after writing one: registers at other offsets are as before. -/
theorem State.rd_wr_other (s : State) (r q : Reg) (v : Word) (h : Sparse.sorted s.regs = true) (e : q.off ≠ r.off) :
    (s.wr r v).rd q = s.rd q := Sparse.get_put_other _ _ _ _ _ _ h e

theorem State.rd_wr (s : State) (r : Reg) (v : Word) (h : Sparse.sorted s.regs = true) : (s.wr r v).rd r = v := by
  unfold State.rd State.wr
  rw [Sparse.get_put _ _ _ _ _ h, if_pos rfl]

/-- The keys rise after each update of the register file. -/
theorem State.sorted_wr (s : State) (r : Reg) (v : Word) (h : Sparse.sorted s.regs = true) :
    Sparse.sorted (s.wr r v).regs = true := Sparse.sorted_put _ _ _ _ h

theorem State.sorted_setF (s : State) (f : Fld) (n : Nat) (h : Sparse.sorted s.regs = true) :
    Sparse.sorted (s.setF f n).regs = true := State.sorted_wr _ _ _ h

theorem State.sorted_setB (s : State) (f : Fld) (b : Bool) (h : Sparse.sorted s.regs = true) :
    Sparse.sorted (s.setB f b).regs = true := State.sorted_wr _ _ _ h

theorem State.sorted_inc (s : State) (f : Fld) (n : Nat) (h : Sparse.sorted s.regs = true) :
    Sparse.sorted (s.inc f n).regs = true := State.sorted_wr _ _ _ h

theorem State.sorted_raise (s : State) (f : Fld) (n : Nat) (h : Sparse.sorted s.regs = true) :
    Sparse.sorted (s.raise f n).regs = true := State.sorted_wr _ _ _ h

theorem State.sorted_emit (s : State) (x : Out) (h : Sparse.sorted s.regs = true) :
    Sparse.sorted (s.emit x).regs = true := h

theorem State.sorted_pend (s : State) (n : Nat) (h : Sparse.sorted s.regs = true) :
    Sparse.sorted (s.pend n).regs = true := (State.pend_touches ..).regs h

theorem State.sorted_report (s : State) (f : Fld) (a b c : Nat) (h : Sparse.sorted s.regs = true) :
    Sparse.sorted (s.report f a b c).regs = true := (State.report_any ..).regs h

/-- A field of a 32-bit register: its bounds are in order and within the word. -/
abbrev Fld.fits (f : Fld) : Prop := f.lo ≤ f.hi ∧ f.hi < 32

/-- The bits of a value with a field replaced. -/
theorem Fld.testBit_into (f : Fld) (v n j : Nat) :
    (f.into v n).testBit j = if j < f.lo then v.testBit j else if j < f.lo + f.width then n.testBit (j - f.lo)
      else v.testBit j := by
  have hv : v = 2 ^ f.lo * (v / 2 ^ f.lo) + v % 2 ^ f.lo := (Nat.div_add_mod _ _).symm
  have hd : v / 2 ^ f.lo = 2 ^ f.width * (v / 2 ^ f.lo / 2 ^ f.width) + v / 2 ^ f.lo % 2 ^ f.width :=
    (Nat.div_add_mod _ _).symm
  have e : f.into v n
      = 2 ^ f.lo * (2 ^ f.width * (v / 2 ^ f.lo / 2 ^ f.width) + n % 2 ^ f.width) + v % 2 ^ f.lo := by
    unfold Fld.into Fld.of
    rw [Nat.mul_add, Nat.mul_comm (2 ^ f.lo) (n % 2 ^ f.width)]
    have : v = 2 ^ f.lo * (2 ^ f.width * (v / 2 ^ f.lo / 2 ^ f.width)) + v / 2 ^ f.lo % 2 ^ f.width * 2 ^ f.lo
        + v % 2 ^ f.lo := by
      rw [Nat.mul_comm (v / 2 ^ f.lo % 2 ^ f.width), ← Nat.mul_add, ← hd, ← hv]
    omega
  rw [e, Nat.testBit_two_pow_mul_add _ (Nat.mod_lt _ (Nat.two_pow_pos _)),
    Nat.testBit_two_pow_mul_add _ (Nat.mod_lt _ (Nat.two_pow_pos _)), Nat.testBit_mod_two_pow]
  have hj : ¬j < f.lo → v.testBit j = (v / 2 ^ f.lo).testBit (j - f.lo) := fun h => by
    conv => lhs; rw [hv]
    rw [Nat.testBit_two_pow_mul_add _ (Nat.mod_lt _ (Nat.two_pow_pos _)), if_neg h]
  split
  · rename_i h
    simp [h]
  · rename_i h
    rw [hj h]
    by_cases hw : j - f.lo < f.width
    · rw [if_pos hw, if_pos (by omega), Nat.testBit_mod_two_pow]
      simp [hw]
    · rw [if_neg hw, if_neg (by omega)]
      conv => rhs; rw [hd]
      rw [Nat.testBit_two_pow_mul_add _ (Nat.mod_lt _ (Nat.two_pow_pos _)), if_neg hw]

/-- The bits of a field's value. -/
theorem Fld.testBit_of (f : Fld) (v j : Nat) : (f.of v).testBit j = (decide (j < f.width) && v.testBit (f.lo + j)) := by
  unfold Fld.of
  rw [Nat.testBit_mod_two_pow, Nat.testBit_div_two_pow, Nat.add_comm]

/-- The field's value after its replacement. -/
theorem Fld.of_into (f : Fld) (v n : Nat) : f.of (f.into v n) = n % 2 ^ f.width := by
  apply Nat.eq_of_testBit_eq
  intro j
  rw [Fld.testBit_of, Fld.testBit_into, Nat.testBit_mod_two_pow]
  by_cases h : j < f.width
  · rw [if_neg (by omega), if_pos (by omega), Nat.add_sub_cancel_left]
  · simp [h]

/-- Another field's value after it. -/
theorem Fld.of_into_other (f g : Fld) (v n : Nat) (hf : f.lo ≤ f.hi) (hg : g.lo ≤ g.hi) (h : g.hi < f.lo ∨ f.hi < g.lo) :
    g.of (f.into v n) = g.of v := by
  apply Nat.eq_of_testBit_eq
  intro j
  rw [Fld.testBit_of, Fld.testBit_into, Fld.testBit_of]
  by_cases hj : j < g.width
  · have hw : f.width = f.hi - f.lo + 1 := rfl
    have hw2 : g.width = g.hi - g.lo + 1 := rfl
    rcases h with h | h
    · rw [if_pos (by omega)]
    · rw [if_neg (by omega), if_neg (by omega)]
  · simp [hj]

/-- A replaced value stays within the word. -/
theorem Fld.into_lt (f : Fld) (v n : Nat) (hf : f.fits) (hv : v < 2 ^ 32) : f.into v n < 2 ^ 32 := by
  apply Nat.lt_pow_two_of_testBit
  intro j hj
  have hw : f.width = f.hi - f.lo + 1 := rfl
  obtain ⟨h1, h2⟩ := hf
  rw [Fld.testBit_into, if_neg (by omega), if_neg (by omega)]
  exact Nat.testBit_lt_two_pow (Nat.lt_of_lt_of_le hv (Nat.pow_le_pow_right (by decide) hj))

/-- READING A FIELD AFTER WRITING IT. -/
theorem State.fld_setF (s : State) (f : Fld) (n : Nat) (h : Sparse.sorted s.regs = true) (hf : f.fits) :
    (s.setF f n).fld f = n % 2 ^ f.width := by
  unfold State.fld State.setF
  rw [State.rd_wr _ _ _ h, BitVec.toNat_ofNat, Nat.mod_eq_of_lt (Fld.into_lt _ _ _ hf (BitVec.isLt _)), Fld.of_into]

/-- Another field, of the same register or not. -/
theorem State.fld_setF_other (s : State) (f g : Fld) (n : Nat) (h : Sparse.sorted s.regs = true) (hf : f.fits) (hg : g.fits)
    (e : g.reg.off ≠ f.reg.off ∨ g.reg = f.reg ∧ (g.hi < f.lo ∨ f.hi < g.lo)) : (s.setF f n).fld g = s.fld g := by
  unfold State.fld State.setF
  rcases e with e | ⟨e, e2⟩
  · rw [State.rd_wr_other _ _ _ _ h e]
  · rw [e, State.rd_wr _ _ _ h, BitVec.toNat_ofNat, Nat.mod_eq_of_lt (Fld.into_lt _ _ _ hf (BitVec.isLt _)),
      Fld.of_into_other _ _ _ _ hf.1 hg.1 e2]

/-- A register at another offset. -/
theorem State.rd_setF_other (s : State) (f : Fld) (q : Reg) (n : Nat) (h : Sparse.sorted s.regs = true)
    (e : q.off ≠ f.reg.off) : (s.setF f n).rd q = s.rd q := State.rd_wr_other _ _ _ _ h e

/-- A register after an interrupt becomes pending: only MBX_IRQ_PEND and the PBA change. -/
theorem State.rd_msix (s : State) (n : Nat) (q : Reg) (h : Sparse.sorted s.regs = true) (hn : n < 64)
    (e : q.off ∉ [0xA3000, 0xA3004]) : (s.msix n).rd q = s.rd q := by
  unfold State.msix
  split
  · rfl
  · split
    · refine State.rd_setF_other _ _ _ _ h ?_
      have : n / 32 = 0 ∨ n / 32 = 1 := by omega
      simp only [List.mem_cons, List.not_mem_nil, or_false, not_or] at e
      rcases this with k | k <;> rw [k]
      · exact e.1
      · exact e.2
    · rfl

theorem State.rd_pend (s : State) (n : Nat) (q : Reg) (h : Sparse.sorted s.regs = true)
    (e : q.off ∉ [0xA0800, 0xA3000, 0xA3004]) : (s.pend n).rd q = s.rd q := by
  simp only [List.mem_cons, List.not_mem_nil, or_false, not_or] at e
  obtain ⟨e1, e2, e3⟩ := e
  unfold State.pend
  extract_lets p x b
  have hx : x.rd q = s.rd q := State.rd_setF_other _ _ _ _ h e1
  have hs : Sparse.sorted x.regs = true := State.sorted_setF _ _ _ h
  by_cases hp : p.testBit n = true
  · rw [if_pos hp]
  · rw [if_neg hp]
    by_cases hb : 128 ≤ b
    · rw [if_pos hb, State.rd_msix _ _ _ hs (Nat.mod_lt _ (by decide)) (by simp [e2, e3]), hx]
    · rw [if_neg hb, hx]

/-! ## Register frames -/

/-- From `s` to `t` the register file stays sorted, and only the registers at the offsets listed change. -/
def RegsOnly (l : List Nat) (s t : State) : Prop :=
  Sparse.sorted s.regs = true → Sparse.sorted t.regs = true ∧ OnlyRegs l s t

theorem RegsOnly.refl (l : List Nat) (s : State) : RegsOnly l s s := fun h => ⟨h, fun _ _ => rfl⟩

theorem RegsOnly.trans {l : List Nat} {a b c : State} (h : RegsOnly l a b) (k : RegsOnly l b c) : RegsOnly l a c := fun x =>
  ⟨(k (h x).1).1, fun q e => ((k (h x).1).2 q e).trans ((h x).2 q e)⟩

/-- A longer list promises less. -/
theorem RegsOnly.mono {l m : List Nat} {a b : State} (h : RegsOnly l a b) (e : ∀ o, o ∈ l → o ∈ m) : RegsOnly m a b := fun x =>
  ⟨(h x).1, fun q ne => (h x).2 q (fun i => ne (e _ i))⟩

/-- A state with the same register file. -/
theorem RegsOnly.of_eq (l : List Nat) {a b : State} (e : b.regs = a.regs) : RegsOnly l a b := fun h =>
  ⟨e ▸ h, fun _ _ => by unfold State.rd; rw [e]⟩

theorem RegsOnly.wr (s : State) (r : Reg) (v : Word) {l : List Nat} (e : r.off ∈ l) : RegsOnly l s (s.wr r v) := fun h =>
  ⟨State.sorted_wr _ _ _ h, fun _ ne => State.rd_wr_other _ _ _ _ h (fun x => ne (x ▸ e))⟩

theorem RegsOnly.setF (s : State) (f : Fld) (n : Nat) {l : List Nat} (e : f.reg.off ∈ l) : RegsOnly l s (s.setF f n) :=
  RegsOnly.wr _ _ _ e

theorem RegsOnly.pend (s : State) (n : Nat) : RegsOnly reportRegs s (s.pend n) := fun h =>
  ⟨State.sorted_pend _ _ h, fun _ e => State.rd_pend _ _ _ h (fun i => e (by
    simp only [reportRegs, List.mem_cons] at i ⊢
    rcases i with i | i | i | i
    · exact .inl i
    · exact .inr (.inl i)
    · exact .inr (.inr (.inl i))
    · cases i))⟩

theorem RegsOnly.stagePut (s : State) (ty len : Nat) (body : List Byte) : RegsOnly reportRegs s (s.stagePut ty len body) := by
  unfold State.stagePut
  refine RegsOnly.trans (RegsOnly.of_eq reportRegs ?_) (RegsOnly.trans (RegsOnly.setF _ _ _ ?_)
    (RegsOnly.trans (RegsOnly.setF _ _ _ ?_) (RegsOnly.setF _ _ _ ?_)))
  · rfl
  · decide
  · decide
  · decide

theorem RegsOnly.ite {l : List Nat} {s a b : State} {c : Prop} [Decidable c] (h : RegsOnly l s a) (k : RegsOnly l s b) :
    RegsOnly l s (if c then a else b) := by split <;> assumption

theorem RegsOnly.stageDropped (s : State) (first : Option Nat) : RegsOnly reportRegs s (s.stageDropped first) := by
  unfold State.stageDropped
  have h : RegsOnly reportRegs s (s.inc R.JRN_CNT_DROP_COUNT) := RegsOnly.setF _ _ _ (by decide)
  refine RegsOnly.ite (h.trans (RegsOnly.of_eq _ rfl)) ?_
  split
  rename_i f t ht
  have hf : RegsOnly reportRegs s t := by
    cases first with
    | none => injection ht with _ e; exact e ▸ h.trans (RegsOnly.of_eq _ rfl)
    | some x => injection ht with _ e; exact e ▸ h
  have hd : ∀ u : State, RegsOnly reportRegs u ((u.setF R.JRN_STATUS_LAST_STS 0xE003).pend 30) := fun u =>
    (RegsOnly.setF u R.JRN_STATUS_LAST_STS 0xE003 (by decide)).trans (RegsOnly.pend _ _)
  have hp := (hf.trans (RegsOnly.of_eq reportRegs
    (b := { t with jrn := { t.jrn with stageDrop := 1, dropFirst := f % 65536 } }) rfl)).trans (hd _)
  exact RegsOnly.ite (hp.trans (RegsOnly.stagePut _ _ _ _))
    ((hp.trans (RegsOnly.setF _ R.JRN_CNT_DROP_COUNT _ (by decide))).trans (RegsOnly.of_eq _ rfl))

theorem RegsOnly.journal (s : State) (a b c : Nat) : RegsOnly reportRegs s (s.journal a b c) :=
  RegsOnly.ite (RegsOnly.ite (RegsOnly.stagePut _ _ _ _) (RegsOnly.stageDropped _ _)) (RegsOnly.of_eq _ rfl)

/-- A status report changes its LAST_STS and the registers of reportRegs. -/
theorem RegsOnly.report (s : State) (f : Fld) (a b c : Nat) : RegsOnly (f.reg.off :: reportRegs) s (s.report f a b c) :=
  (RegsOnly.setF s f a (List.mem_cons_self ..)).trans
    (((RegsOnly.journal _ _ _ _).trans (RegsOnly.pend _ _)).mono (fun _ h => List.mem_cons_of_mem _ h))

/-- What a report does after its LAST_STS. -/
theorem RegsOnly.afterSet (s : State) (f : Fld) (a b c : Nat) : RegsOnly reportRegs (s.setF f a) (s.report f a b c) :=
  (RegsOnly.journal _ _ _ _).trans (RegsOnly.pend _ _)

/-- A field after a status report, away from what the report changes. -/
theorem State.fld_report (s : State) (f g : Fld) (a b c : Nat) (h : Sparse.sorted s.regs = true)
    (e : g.reg.off ∉ f.reg.off :: reportRegs) : (s.report f a b c).fld g = s.fld g := by
  unfold State.fld
  rw [((RegsOnly.report s f a b c) h).2 _ e]

/-- The LAST_STS field of a report holds the status; the fields beside it stay. -/
theorem State.fld_report_last (s : State) (f : Fld) (a b c : Nat) (h : Sparse.sorted s.regs = true) (hf : f.fits)
    (e : f.reg.off ∉ reportRegs) : (s.report f a b c).fld f = a % 2 ^ f.width := by
  rw [← State.fld_setF s f a h hf]
  exact congrArg (fun v => f.of (BitVec.toNat v)) ((RegsOnly.afterSet s f a b c (State.sorted_setF s f a h)).2 _ e)

theorem State.fld_report_beside (s : State) (f g : Fld) (a b c : Nat) (h : Sparse.sorted s.regs = true) (hf : f.fits)
    (hg : g.fits) (er : g.reg = f.reg) (eb : g.hi < f.lo ∨ f.hi < g.lo) (e : f.reg.off ∉ reportRegs) :
    (s.report f a b c).fld g = s.fld g := by
  rw [← State.fld_setF_other s f g a h hf hg (.inr ⟨er, eb⟩)]
  exact congrArg (fun v => g.of (BitVec.toNat v)) ((RegsOnly.afterSet s f a b c (State.sorted_setF s f a h)).2 _ (er ▸ e))

/-- A field after an interrupt becomes pending. -/
theorem State.fld_pend (s : State) (n : Nat) (g : Fld) (h : Sparse.sorted s.regs = true) (e : g.reg.off ∉ reportRegs) :
    (s.pend n).fld g = s.fld g := by
  unfold State.fld
  rw [((RegsOnly.pend s n) h).2 _ e]

/-- A field after a register is written at another offset. -/
theorem State.fld_wr_other (s : State) (r : Reg) (g : Fld) (v : Word) (h : Sparse.sorted s.regs = true)
    (e : g.reg.off ≠ r.off) : (s.wr r v).fld g = s.fld g := by
  unfold State.fld
  rw [State.rd_wr_other _ _ _ _ h e]

/-! ## Accesses -/

/-- An access that reaches its block is performed. -/
theorem State.access_served (s : State) (off value : Nat) (write : Bool) (k : State → State) (h : s.served off = true) :
    s.access off value write k = k s := by
  unfold State.served at h
  unfold State.access
  rw [Bool.and_eq_true, Bool.and_eq_true] at h
  obtain ⟨⟨h1, h2⟩, h3⟩ := h
  have h0 : (s.pwr.inReset || s.pmode == 4) = false := by
    cases e : s.pwr.inReset <;> simp_all
  rw [h0, if_neg (by decide)]
  by_cases hb : s.bootState = 0 ∨ (!s.boot.mapped) = true
  · rw [if_pos hb, Bool.and_eq_true, decide_eq_true_eq] at h3
    rw [if_pos hb, if_pos h3.1, if_pos h3.2]
  · rw [if_neg hb, Bool.and_eq_true] at h3
    rw [if_neg hb, if_neg (by cases e : s.absent off <;> simp_all), if_neg (by cases e : s.gated off <;> simp_all)]

theorem State.regWrite_served (s : State) (r : Reg) (value : Nat) (k : State → State) (h : s.served r.off = true) :
    s.regWrite r value k = k s := State.access_served _ _ _ _ _ h

theorem State.regRead_served (s : State) (r : Reg) (k : State → State) (h : s.served r.off = true) :
    s.regRead r k = k s := State.access_served _ _ _ _ _ h

end Sys2Proof.Machine
end

