-- ==== Sys2Proof/Tests/Slice0.lean ====
section
/-! SUPPORT. Slice0: the author's tests. Ill-formed commands are refused; a few steps on small states, whose results are
worked out from the spec; and for every statement with hypotheses a state and operands that meet them. -/

namespace Sys2Proof.Tests

open Sys2Proof Sys2Proof.Machine

set_option maxRecDepth 20000
-- One theorem at a time: each kernel evaluation would otherwise hold a thread with a large stack.
set_option Elab.async false

/-! ## Small states -/

/-- The module after bring-up, in RUN. -/
def up : State :=
  let s : State := { State.reset with
    pwr := { vinGood := true, inReset := false, dead := false, pwrOk := true }
    boot := { mapped := true, phyStart := 3, supStarted := true } }
  (((s.setF R.SYS_BOOT_STATUS_STATE 1).setF R.PWR_MODE_STATUS_MODE 1).setF R.JRN_STATUS_REPLAYED 1).wr R.CLK_STATUS 0x01FF01FF
/-- An image with one gate, one data record and two route sets. -/
def img0 : Image := ⟨0, 0, 0, 0, 0, 0, 7, 1, [], [], [], [], [⟨1, 0x9000, 0x1000, 3, false, 0, 3, 0xFF⟩], [], [], [], [], [], [⟨0, 0, 0, 0, 2, 0, 0⟩], [], [], [], [(0, []), (1, [])]⟩
/-- The module in RUN with an image. -/
def upImg : State := { up with img := { up.img with active := some img0 } }.setF R.BOOT_IMG_STATUS_STATE 2
/-- With the track unit and the gate enabled. -/
def upTrk : State := (((upImg.setF R.MOT_TRK_CFG_EN 1).setF (R.MOT_GATE_CFG_EN 0) 1).setF (R.MOT_GATE_FIRE_FIRE_OFFS 0) 100).setF (R.MOT_GATE_WIN_W 0) 20
/-- A track of gate 0. -/
def trk0 : Track := { seq := 9, gate := 0, chan := 0, p := 0, w := 20, f := 100, d := 99 }
/-- A channel in a mode. -/
def upCh (m : Nat) : State := (up.setF (R.MOT_CH_CFG_EN 3) 1).setF (R.MOT_CH_CFG_MODE 3) m
/-- An image with a camera on port 7 and a pipeline 3 with no stage. -/
def camImg : Image := { img0 with
  mems := [⟨0, 0, 0, 0, 0x10000, 0xFFFFFFFF, 0xFFFFFFFF, false, false⟩]
  isps := [⟨3, 0, [], 0, 0, []⟩], cams := [⟨7, 1, 0, 3, 8, 0, 0, 0, 0⟩], syncs := [⟨5, 1, 0, 8⟩] }
/-- The module in RUN with a camera port in state `st` bound to pipeline 3, with its trigger source. -/
def upCam (st src : Nat) : State :=
  ((({ upImg with img := { up.img with active := some camImg } }.setF (R.CXP_PORT_STATUS_STATE 7) st).setF (R.CXP_TRIG_CFG_SRC 7) src).setF
    (R.CXP_BIND_CURRENT 7) 3).setF (R.CXP_TRIG_CFG_MAX_OUT 7) 64
/-- The same with a port beyond its registers. -/
def withPort (s : State) (x : CamPort) : State := { s with cam.ports := setAt s.cam.ports 7 x }
def withPipe (s : State) (x : Pipe) : State := { s with cam.pipes := setAt s.cam.pipes 3 x }
def head0 : ImgHead := ⟨4, 1, 0x101, 0, 8, 4, false, 0⟩
def trig0 : Trig := { count := 5, mono := 6, num := 0 }
def inLine0 : InLine := { line := ⟨7, 5, 6, 0, false, 0, false, none, false, 0, false, [], [], []⟩, bytes := [1, 2, 3, 4], width := 4 }
def part0 : PartImg := { port := 7, trk := 0xFFFF, seq := 0, p := 0, w := 0, slot := 0, split := true }
/-- The module in RUN with its synthesisers locked. -/
def upSyn : State := { up with lanes.synth := [3, 3, 3, 3, 3, 3] }
def ringImg : Image := { img0 with rings := [⟨0, 4, 0, []⟩] }
/-- The module in RUN with its ring enabled in a state and both links up. -/
def upRing (st : Nat) : State :=
  (((({ upSyn with img := { up.img with active := some ringImg } }.setF R.RING_CTRL_EN 1).setF R.RING_STATUS_STATE st).setF
    (R.RING_SIDE_STATUS_LINK 0) 2).setF (R.RING_SIDE_STATUS_LINK 1) 2).setF R.RING_TOPO_POSITION 1
def setLane (s : State) (l : Nat) (x : Lane) : State := { s with lanes.lane := setAt s.lanes.lane l x }
def setSide0 (s : State) (x : RSide) : State := { s with ring.sides := setAt s.ring.sides 1 x }
def rhead : RingHead := { seq := 0, vc := 3, src := 2, dst := 1, e2e := 0, endpoint := 0x6000, epoch := 0, crcOk := true, ack := none }
/-- Code of one bundle: slot 0, the rest NOP, and one of NOPs. -/
def code1 (x : Nat) : List Byte := leBytes 8 x ++ List.replicate 248 0
def gillImg (x : Nat) : Image := { img0 with
  parts := [⟨0, 0, 2 ^ 63, 0, 0⟩], progs := [⟨0, 2, 0, [], [], code1 x⟩]
  mems := [⟨0, 0, 0, 0, 0x10000, 0xFFFFFFFF, 0xFFFFFFFF, false, false⟩]
  queues := [⟨255, 1, 0, 0, 0, 4, 0xFFFF, 7⟩, ⟨254, 2, 0, 0xFFFF, 0x700F, 4, 0xFFFF, 7⟩]
  syncs := [⟨4095, 0, 1, 0xFF⟩] }
/-- The module in RUN with gill 63 in a state, at a bundle with one word in slot 0. -/
def upGill (st x : Nat) : State :=
  { upImg with img := { up.img with active := some (gillImg x) } }.setF (R.GILL_STATUS_STATE 63) st
def withGill (s : State) (g : Gill) : State := { s with gill := setAt s.gill 63 g }
def acc0 : GAcc := ⟨3, 5, 0, false, 0x40, 4, 7, 64, 1, [], 0, 0⟩
def runOf (b : List Byte) : RunChain := ⟨⟨0, none, none, none, none⟩, 7, false, 0, [b], [none], 0⟩
/-- The module in RUN with engine 15 running a chain of one item. -/
def upDma (b : List Byte) : State := { upGill 0 0 with dma := setAt up.dma 15 { run := some (runOf b) } }
def fillB : List Byte := [2, 0, 32, 0, 0, 0, 0, 0] ++ leBytes 8 0 ++ leBytes 8 (2 ^ 39 + 60) ++ leBytes 4 8 ++ [1, 2, 3, 4]
def copyB : List Byte := [1, 0, 48, 0, 0, 0, 0, 0] ++ leBytes 8 0 ++ leBytes 8 (2 ^ 39 + 60) ++ leBytes 8 (2 ^ 39 + 100) ++ leBytes 4 8 ++ List.replicate 12 0
def copy2B : List Byte := [3, 0, 48, 0, 0, 0, 0, 0] ++ leBytes 8 0 ++ leBytes 8 (2 ^ 39 + 60) ++ leBytes 8 (2 ^ 39 + 100) ++ leBytes 4 4 ++ leBytes 4 2 ++ leBytes 4 8 ++ leBytes 4 8
def signalB : List Byte := [4, 0, 32, 0, 0, 0, 0, 0] ++ leBytes 8 0 ++ leBytes 2 4095 ++ leBytes 2 3 ++ List.replicate 12 0
def boxB : List Byte := [0x10, 0, 80, 0, 0, 0, 0, 0] ++ leBytes 8 0 ++ leBytes 8 (2 ^ 39) ++ leBytes 8 (2 ^ 39) ++ leBytes 8 (2 ^ 39) ++ leBytes 8 (2 ^ 39)
  ++ leBytes 8 (2 ^ 39) ++ leBytes 4 1 ++ [1, 0, 0, 0] ++ leBytes 2 0 ++ leBytes 2 1 ++ leBytes 4 100 ++ leBytes 4 100 ++ leBytes 4 0
def nmsB : List Byte := [0x11, 0, 48, 0, 0, 0, 0, 0] ++ leBytes 8 0 ++ leBytes 8 (2 ^ 39) ++ leBytes 8 (2 ^ 39 + 4096) ++ [128, 0] ++ leBytes 2 1 ++ List.replicate 12 0
def work0 (st : WSt) : Work := { id := 9, queue := 255, src := 0, desc := [255, 9, 0, 0, 0, 0, 0, 0, 0, 0, 0, 0, 0, 0, 0, 0], st := st, gset := [63] }
def upWork (w : Work) : State := ({ upGill 0 0 with sched.works := [w], sched.nextId := 10 }.setB R.SCHED_STATUS_ADMIT_OPEN true).setB (R.SCHED_Q_CFG_RUN 255) true
def pfxImg : Image := { gillImg 0 with
  mems := [⟨0, 3, 0, 0, 2 ^ 24, 0xFFFFFFFF, 0xFFFFFFFF, false, false⟩]
  queues := [⟨255, 1, 0, 0xFFFF, 0xA000, 4, 0xFFFF, 7⟩, ⟨254, 1, 0, 0xFFFF, 0x8000, 4, 0xFFFF, 7⟩] }
/-- The module in RUN with the prefix unit formatted, one request in its list, and some bytes in memory. -/
def upPfx (q : PReq) (m : List (Nat × Byte)) : State :=
  ((((({ up with img := { up.img with active := some pfxImg }, mem := m, pfx.list := some (9, [q]), pfx.nodes := [16], pfx.blocks := [0] }.setF
    R.PFX_STATUS_FORMATTED 1).setF R.PFX_CTRL_EN 1).setF R.PFX_CFG_NODES_K 1).setF R.PFX_CFG_BLK_4K 1).setF R.PFX_NBLK_NBLK 2).setF
    R.BOOT_IMG_STATUS_STATE 2
def node16 : List (Nat × Byte) := [(1024, 3), (1028, 0x11), (1030, 0xFF), (1031, 0xFF)]
def unitWork (q : Nat) (lo : Nat) : Work := { work0 .running with
  queue := q, handed := true, since := some 0, gset := [], desc := [q, 0, 0, 0, 0, 0, 0, 0, 0, 0, lo, 0, 0, 0, 0, 0] }
/-- A job with no operator and one sample of one element. -/
def augMem : List (Nat × Byte) := [(0x8009, 0x40), (0x8012, 1), (0x8019, 0x50), (0x8041, 0x60), (0x8049, 0x70), (0x8050, 1), (0x8052, 1), (0x8054, 1)]
def upAug : State := { upPfx ⟨0, 0, 0, 0, 0, 0⟩ augMem with pfx := {}, sched.works := [unitWork 255 0x8000] }
def annProb0 : AnnProb := { n := 1, replicas := 1, resultVa := 0x4000, sweeps := 2, betas := [0, 0], fields := [1], clamps := [0], adj := [[]] }
def upAnn (st : Nat) : State :=
  { upPfx ⟨0, 0, 0, 0, 0, 0⟩ [] with pfx := {}, sched.works := [unitWork 254 0x8000], ann := { work := some 9, prob := annProb0, reps := [{ spins := [true] }] } }.setF
    R.ANN_STATUS_STATE st
def hostImg : Image := { gillImg 0 with mems := [⟨0, 5, 0, 0, 2 ^ 24, 0xFFFFFFFF, 0xFFFFFFFF, true, true⟩] }
/-- The module in RUN with its link up, configured, and an image with a host-visible partition. -/
def upHost : State :=
  ({ up with img := { up.img with active := some hostImg }, mbx := { mse := true } }.setF R.BOOT_IMG_STATUS_STATE 2).setB R.MBX_LINK_UP true
/-- The module in RUN with an empty ring of `2 ^ k` records enabled. -/
def upMbx (k : Nat) : State :=
  ((((upHost.setF R.MBX_CFG_ENTRIES_LOG2 k).setF R.MBX_CTRL_EN 1).setF R.MBX_RSEQ_NEXT_RSEQ_NEXT 5).setF R.MBX_HEAD_HEAD 5).setF R.MBX_DONE_DONE 4
def vrec0 : VRec := { rseq := 5, tseq := 7, mono := 9, p := -3, gate := 15, verdict := 2, rule := 1, status := 0, evid := 0, disp := 1, slot := 511 }
def spi0 : SpiEntry := ⟨0x70, 0x10000, 3⟩
def i2c0 : I2cCmd := ⟨0x155, 0x30000, false⟩
/-- The journal runs, with its runway and energy. -/
def upJrn : State :=
  { up with jrn := { up.jrn with runway := 200, wr := 70, oldest := 0, staging := [⟨2, 3, 1, 0, 0, []⟩, ⟨8, 6, 2, 0, 0, []⟩] } }.setF
    R.PWR_HOLDUP_E_MJ 10000

/-- A public key of P-256, chosen so that both numbers of the signature of `keyMsg` are its digest. -/
def key0 : List Byte :=
  [166, 158, 182, 141, 88, 103, 211, 100, 192, 13, 211, 145, 148, 155, 193, 255, 137, 71, 209, 107, 187, 170, 183, 35,
   162, 11, 102, 71, 57, 31, 32, 237, 101, 176, 70, 183, 221, 63, 31, 82, 81, 17, 93, 26, 151, 135, 21, 61, 208, 36,
   132, 27, 43, 103, 193, 211, 14, 113, 52, 120, 81, 45, 213, 93]
/-- Its digest. -/
def key0Dig : List Byte :=
  [65, 49, 132, 193, 28, 201, 208, 165, 218, 152, 112, 62, 255, 195, 223, 151, 2, 180, 233, 116, 36, 254, 136, 191, 7,
   227, 186, 225, 54, 100, 157, 32]
/-- The first 52 bytes of a key record that writes slot 1, with sequence number 1. -/
def keyMsg : List Byte :=
  [69, 88, 71, 75, 1, 1, 0, 0, 1, 0, 0, 0, 0, 0, 0, 0, 1, 17, 18, 19, 20, 21, 22, 23, 24, 25, 26, 27, 28, 29, 30, 31,
   32, 33, 34, 35, 36, 37, 38, 39, 40, 41, 42, 43, 44, 45, 46, 47, 0, 0, 0, 0]
/-- The signature of those bytes by that key. -/
def keySig : List Byte :=
  [224, 69, 17, 177, 139, 56, 36, 228, 176, 244, 20, 162, 231, 48, 149, 134, 96, 195, 81, 233, 20, 99, 169, 154, 123,
   216, 207, 242, 59, 0, 235, 214, 224, 69, 17, 177, 139, 56, 36, 228, 176, 244, 20, 162, 231, 48, 149, 134, 96, 195,
   81, 233, 20, 99, 169, 154, 123, 216, 207, 242, 59, 0, 235, 214]
/-- The whole record, signed by the key in slot 0. -/
def keyBytes : List Byte := keyMsg ++ key0 ++ keySig
/-- A firmware package with that key and signature. -/
def goodPkg : Package := ⟨key0, keySig, 1, 8, 9, keyMsg⟩
/-- The module in stage FWLOAD, its fuses naming the key. -/
def upFw : State := { State.reset with
  pwr := { vinGood := true, inReset := false, dead := false }, boot := { running := true, keyDigest := key0Dig } }.setF
    R.SYS_BOOT_STATUS_STAGE 6
/-- The module in RUN with the key record in device memory. -/
def upKey : State :=
  { up with
    img := { up.img with keys := [some key0Dig, none, none, none] }
    mem := (keyBytes.zipIdx.filter (fun (x : Byte × Nat) => x.1 != 0)).map (fun (x : Byte × Nat) => (x.2, x.1)) }.setF R.BOOT_IMG_LEN_LEN 180
/-- The digest of no bytes. -/
def noneDig : List Byte :=
  [227, 176, 196, 66, 152, 252, 28, 20, 154, 251, 244, 200, 153, 111, 185, 36, 39, 174, 65, 228, 100, 155, 147, 76,
   164, 149, 153, 27, 120, 82, 184, 85]
/-- The key of the image below, chosen as the one above; its digest. -/
def imgKey : List Byte :=
  [23, 71, 78, 3, 79, 121, 84, 110, 210, 182, 56, 86, 80, 20, 121, 90, 150, 213, 101, 6, 75, 88, 205, 135, 244, 128,
   164, 211, 69, 224, 7, 196, 184, 172, 197, 71, 252, 70, 5, 243, 28, 189, 39, 4, 48, 84, 244, 86, 30, 245, 125, 90,
   253, 91, 21, 242, 180, 216, 178, 5, 107, 214, 200, 142]
def imgKeyDig : List Byte :=
  [184, 171, 216, 167, 81, 22, 65, 91, 5, 147, 207, 76, 111, 0, 130, 208, 202, 176, 47, 130, 18, 219, 187, 58, 102,
   230, 161, 148, 84, 160, 147, 132]
/-- Both numbers of its signature: the digest of its header and section table. -/
def imgDig : List Byte :=
  [74, 58, 116, 74, 89, 170, 16, 114, 49, 180, 158, 173, 216, 254, 229, 17, 190, 114, 89, 121, 184, 209, 64, 110, 106,
   222, 70, 232, 69, 24, 143, 217]
/-- The header and the table of an image of five empty sections. -/
def imgFront : List Byte :=
  [69, 88, 71, 82, 1, 0, 128, 0, 128, 16, 0, 0, 5, 0, 0, 0, 0, 0, 0, 0, 0, 0, 0, 0, 0, 0, 0, 0, 7, 0, 0, 0, 2, 0, 0,
   0, 1, 0, 0, 0]
  ++ List.replicate 88 0 ++ [1, 2, 3, 4, 7].flatMap (fun t => [t, 0, 0, 0, 0, 16] ++ List.replicate 10 0 ++ noneDig)
/-- The whole image. -/
def imgBytes : List Byte := imgFront ++ List.replicate 3728 0 ++ imgKey ++ imgDig ++ imgDig
/-- The bytes of a list other than 0, at their addresses. -/
def cells : Nat → List Byte → List (Nat × Byte)
  | _, [] => []
  | k, b :: l => if b = 0 then cells (k + 1) l else (k, b) :: cells (k + 1) l
/-- The module in RUN with one gill, that image in slot A and in device memory. -/
def upLoad : State :=
  { up with
    img := { up.img with keys := [some imgKeyDig, none, none, none], slots := [⟨true, 1, imgBytes⟩, {}] }
    mem := cells 0 imgBytes }.setF R.BOOT_IMG_LEN_LEN 4224 |>.setF R.SYS_CAP_UNITS_GILLS 1
theorem cells_above : ∀ (l : List Byte) (n k : Nat), n < k → Sparse.above n (cells k l) = true
  | [], _, _, _ => rfl
  | b :: l, n, k, h => by
    unfold cells
    split
    · exact cells_above l n (k + 1) (by omega)
    · simp [Sparse.above, h, cells_above l n (k + 1) (by omega)]
theorem get_after (k : Nat) (m : List (Nat × Byte)) : ∀ pre : List (Nat × Byte), (∀ e ∈ pre, e.1 < k) →
    Sparse.get (pre ++ m) k 0 = Sparse.get m k 0
  | [], _ => rfl
  | (i, v) :: pre, h => by
    have hi : i < k := h (i, v) (by simp)
    have := get_after k m pre (fun e he => h e (by simp [he]))
    simp only [List.cons_append, Sparse.get]
    rw [if_neg (by omega), if_neg (by omega), this]
/-- Device memory that holds a list's bytes from an address on reads as that list. -/
theorem bytes_cells (s : State) : ∀ (l : List Byte) (k : Nat) (pre : List (Nat × Byte)), (∀ e ∈ pre, e.1 < k) →
    s.mem = pre ++ cells k l → s.bytes k l.length = l
  | [], _, _, _, _ => rfl
  | b :: l, k, pre, hp, hm => by
    have hb : s.byte k = b := by
      simp only [State.byte, hm, get_after k _ pre hp]
      unfold cells
      split
      · rename_i h
        rw [h]
        exact Sparse.get_of_above 0 _ k k (cells_above l k (k + 1) (by omega)) (by omega)
      · simp [Sparse.get]
    have ht : s.bytes (k + 1) l.length = l := by
      unfold cells at hm
      split at hm
      · exact bytes_cells s l (k + 1) pre (fun e he => Nat.lt_succ_of_lt (hp e he)) hm
      · refine bytes_cells s l (k + 1) (pre ++ [(k, b)]) ?_ (by simp [hm])
        intro e he
        rcases List.mem_append.1 he with h | h
        · exact Nat.lt_succ_of_lt (hp e h)
        · rw [List.mem_singleton.1 h]
          exact Nat.lt_succ_self k
    simp [State.bytes, hb, ht]
theorem some_getD {α : Type} (o : Option α) (d : α) (h : o.isSome = true) : o = some (o.getD d) := by
  cases o <;> simp at h ⊢
/-- What LOAD and STORE check, and what they find. -/
def upLoadA : State := { upLoad.setF R.BOOT_IMG_CTRL_SRC (0 % 4) with img := { upLoad.img with loadAt := upLoad.now } }
def upLoadC : State := upLoad.setF R.BOOT_IMG_CTRL_SRC (2 % 4)
def imgLoaded : Image := (upLoadA.imgStages (0 % 4)).toOption.getD img0
def imgFound : Image := (upLoadC.checkFront imgBytes).toOption.getD img0
theorem upLoad_stages : (upLoadA.imgStages (0 % 4)).toOption = some imgLoaded := some_getD _ _ (by decide +kernel)
theorem upLoad_front : (upLoadC.checkFront imgBytes).toOption = some imgFound := some_getD _ _ (by decide +kernel)
theorem upLoad_copy : (upLoadC.imgCopy 2).toOption = some imgBytes := by
  have hb : upLoadC.bytes 0 imgBytes.length = imgBytes := bytes_cells upLoadC imgBytes 0 [] (by simp) rfl
  have hn : imgBytes.length = 4224 := by decide +kernel
  have ha : upLoadC.pair R.BOOT_IMG_ADDR_LO_ADDR_LO R.BOOT_IMG_ADDR_HI_ADDR_HI = 0 ∧ upLoadC.fld R.BOOT_IMG_LEN_LEN = 4224 := by
    decide +kernel
  have hf : 0 + 4224 ≤ upLoadC.memFree := by decide +kernel
  have hm : upLoadC.imgMem = some imgBytes := by
    simp only [State.imgMem, ha.1, ha.2]
    rw [if_pos ⟨by decide, hf⟩, ← hn, hb]
  simp [State.imgCopy, hm, Except.toOption]
/-- The signature verifies. -/
theorem key_sig : ecdsaVerify key0 (sha256 keyMsg) keySig = true := by decide +kernel
theorem upFw_good : upFw.pkgBad (some goodPkg) = none := by
  have hd : sha256 key0 = upFw.boot.keyDigest := by decide +kernel
  have hv : ¬ goodPkg.secVer < upFw.boot.minVer := by decide +kernel
  show (if sha256 key0 ≠ upFw.boot.keyDigest ∨ (!ecdsaVerify key0 (sha256 keyMsg) keySig) = true then
    some 0x100C else if goodPkg.secVer < upFw.boot.minVer then some 0x100E else none) = none
  rw [key_sig, if_neg (fun h => h.elim (fun h => h hd) (fun h => nomatch h)), if_neg hv]
theorem keyBytes_parts : slice keyBytes 0x34 64 = key0 ∧ keyBytes.take 0x34 = keyMsg ∧ slice keyBytes 0x74 64 = keySig := by
  decide +kernel
theorem upKey_good : (upKey.setF R.BOOT_IMG_CTRL_SRC (2 % 4)).keyBad keyBytes = 0 := by
  obtain ⟨hk, hm, hs⟩ := keyBytes_parts
  have hd : (upKey.setF R.BOOT_IMG_CTRL_SRC (2 % 4)).img.keys.getD (leAt keyBytes 0x30 1) none = some (sha256 key0) := by
    decide +kernel
  simp only [State.keyBad, hk, hm, hs, hd, key_sig]
  decide +kernel


/-! ## WellFormed refuses an ill-formed operand, for each of its checks -/

theorem test_wf_refuses_1 : ([
    .registerWrite (2 ^ 21) 4 0xFF, .registerWrite 0x60008 3 0xFF, .registerWrite 0x60008 4 (2 ^ 32), .rcRead (2 ^ 21)
    4, .rcRead 0xC0000 3, .lowWordRead (2 ^ 21), .holdupCapMeasured (65536), .pocxpDetectDone (24) true,
    .pocxpOvercurrent (24), .pocxpFaultClear (2 ^ 32), .encSupplyFault (4), .vejSupplyLow (2), .readbackCheck (16)
    false false, .outputOvercurrent (16), .relayRequestWrite (2 ^ 32), .diEdgeQualified (8) true 5000, .diCfgWrite (2 ^
    32), .lstopRelease (2 ^ 32), .pllLockTimeout (9), .clockFailure (9), .modeRequest (2 ^ 32), .wakePatternComplete
    (24) true, .sporeAckTimeout (64) 3, .sporeAckTimeout 63 (65536), .selftest [.tile 64 0], .selftest [.tile 63 68], .selftest [.router 64],
    .selftest [.link 7 8], .selftest [.link 0 9], .fieldAddition (2 ^ 32)] : List Instr).all (fun i => !i.wf) = true := by
  decide

theorem test_wf_refuses_2 : ([
    .load (4), .unload (4), .store (4), .keyrec (4), .routeSetChange (2 ^ 32), .edgeAccepted (4) 5 1000, .edgeAccepted
    3 (8) 1000, .glitchFault (4), .serialPoll (4), .serialReading (4) ⟨true, 77, true, true, 0, 0, 0⟩, .wireDisagree
    (4) 1, .wireDisagree 3 (3), .wireFault (4) 1, .wireFault 3 (3), .wireFaultClear (4) 1, .wireFaultClear 3 (3),
    .countGateEnd (4), .chCfgWrite (4) 0x11, .chCfgWrite 3 (2 ^ 32), .speedThresholdWrite (4) true 0xFFFFFF,
    .speedThresholdWrite 3 true (2 ^ 32), .trkCfgWrite (2 ^ 32), .trackDeclare (2 ^ 32), .trackCommit (2 ^ 32)] : List Instr).all (fun i => !i.wf) = true := by
  decide

theorem test_wf_refuses_3 : ([
    .trackUnitMessage (64), .gateEnable (16) 1, .gateEnable 0 (2 ^ 32), .gateOffsetWrite (16) 2 0xFFFFFF,
    .gateOffsetWrite 15 (3) 0xFFFFFF, .gateOffsetWrite 15 2 (2 ^ 32), .armCommand (2 ^ 32), .delayEnd (16), .pulseEnd
    (16), .gapEnd (16), .maxOn (16), .deferExpired (16), .ejCtrlWrite (2 ^ 32), .outCfgWrite (16) 1, .outCfgWrite 15
    (2 ^ 32), .flush (16) 1, .flush 15 (2 ^ 32), .rateWrite (2 ^ 32), .stepRequest (2 ^ 32), .ptpCfgWrite (2 ^ 32),
    .ptpRx (2) 0 65535 10 0 true 0, .ptpRx 0 0 65535 10 (256) true 0, .ptpTx (2) 0 65535 0 0, .ptpSample (2)
    ⟨65536000,70000000,0,0,0,0⟩ 5 0] : List Instr).all (fun i => !i.wf) = true := by
  decide

theorem test_wf_refuses_4 : ([
    .holdover (2), .markArm (2 ^ 32), .portEnable (8) 1, .portEnable 7 (2 ^ 32), .pocxpPowered (8), .discover (8)
    true, .config (8) true, .cameraLinkDown (8) 15, .cameraLinkDown 7 (24), .downRetry (8), .resyncEnd (8),
    .ctrlTransaction (8) 0xC0000000, .ctrlTransaction 7 (2 ^ 32), .ctrlAck (8) 1 false 0xFFFFFFFF false, .ctrlTimeout
    (8), .frameTimeTrigger (8), .softTrigger (8) 1, .softTrigger 7 (2 ^ 32), .delayedTrigger (8), .trigCfgWrite (8) 0,
    .trigCfgWrite 7 (2 ^ 32), .streamPacket (8) 0 5 [1] false 3 1 false,
    .streamPacket 7 (16) 5 [1] false 3 1 false, .streamPacket 7 0 (256) [1] false 3 1 false, .imageHeader (8) 0 5 head0 false 0,
    .imageHeader 7 (16) 5 head0 false 0, .imageHeader 7 0 (256) head0 false 0, .lineTimeout (8)] : List Instr).all (fun i => !i.wf) = true := by
  decide

theorem test_wf_refuses_5 : ([
    .frameTimeout (8), .pipelineLine (4), .partImageComplete (4), .throughMemoryFrame (4), .rebindRequest (8) 0x103,
    .rebindRequest 7 (2 ^ 32), .rebindSwitch (8), .outHeadWrite (4) 2047, .outHeadWrite 3 (2 ^ 32), .pipeCellWrite (4)
    5, .pipeCellWrite 3 (2 ^ 32), .txL0 (24), .txL1 (24), .txL2 (24), .txOff (24), .txWake (24), .prbsOn (24),
    .prbsOff (24), .rxStateCommand (24) 0x80000003, .rxStateCommand 23 (2 ^ 32), .synthCalDone (6) false, .synthLocked
    (6) true, .heldCommandTimeout (24), .fastRelock (24)] : List Instr).all (fun i => !i.wf) = true := by
  decide

theorem test_wf_refuses_6 : ([
    .wakeGuardExpiry (24), .retrainComplete (24) true, .lossOfSignal (24), .loopWrite (24) 1, .loopWrite 23 (2 ^ 32),
    .prbsCheckerEnable (24) 0x1000, .prbsCheckerEnable 23 (2 ^ 32), .ringEnable (2 ^ 32), .ringTest (2 ^ 32),
    .linkTrainingDone (2) (.fail 3), .trainRetry (2), .ringFrame (2) rhead [1, 2], .ack (2) 1, .nak (2) 0, .ackTimeout
    (2), .linkSleep (2), .ringDiscover (2) rhead [], .quiesce (2) rhead, .quiesced (2) rhead, .switch (2) rhead 0 7
    256, .switch 1 rhead 0 7 (65536), .ringLinkDown (2) none, .layoutReq (2) rhead 1, .layoutAns (2) rhead false] : List Instr).all (fun i => !i.wf) = true := by
  decide

theorem test_wf_refuses_7 : ([
    .layoutRequest (2 ^ 32), .linkTmoExpiry (2) 5, .bundleIssue (64), .globalLoadResponse (64) 5 0 0,
    .globalLoadResponse 63 (16) 0 0, .gillMemFaultStop (64), .syncGrant (4096), .timedOpTimeout (64),
    .queueMessageArrival (64) 7 62 7, .queueMessageArrival 63 (16) 62 7, .queueMessageArrival 63 7 (65536) 7,
    .queueCreditReturn (64) 7, .queueCreditReturn 63 (16), .fenceComplete (64), .invocationEnd (64), .dbgHalt (64),
    .dbgResume (64), .dbgStep (64), .boxdec (16) 0 5, .boxdec 15 (256) 5, .nms (16) 0 5, .nms 15 (256) 5,
    .transactionResponse (64) 5 true none none 4 0 0 0, .transactionResponse 63 (16) true none none 4 0 0 0] : List Instr).all (fun i => !i.wf) = true := by
  decide

theorem test_wf_refuses_8 : ([
    .transactionResponse 63 5 true none none (4) 0 0 0, .refresh (4) 5, .zqCalibration (4), .mr4Read (4) 3, .mr4Read 3
    (4), .controllerWatchdog (4) [], .dmaSubmit (16) 0x80000001, .dmaSubmit 15 (2 ^ 32), .chainStart (16), .copy (16)
    0, .copy 15 (256), .fill (16) 0, .fill 15 (256), .copy2d (16) 0, .copy2d 15 (256), .signal (16) 0, .signal 15
    (256), .chainEnd (16), .dmaAbort (16) [], .syncAdd (4096) 3, .syncAdd 4095 (2 ^ 32), .syncReset (4096), .submit (2
    ^ 32), .workMessage (64)] : List Instr).all (fun i => !i.wf) = true := by
  decide

theorem test_wf_refuses_9 : ([
    .dispatch (65536), .quantumExpiry (2 ^ 32), .preemptDrainDone (2 ^ 32), .saveComplete (2 ^ 32) none,
    .restoreComplete (2 ^ 32) none, .stateSwapComplete (64), .gangEnd (2 ^ 32), .workCancel (2 ^ 32), .pfxFormat
    (2 ^ 32), .annAbort (2 ^ 32), .mbxEnable (2 ^ 32), .mbxHeadWrite (2 ^ 32), .irqPendClear (2 ^ 32), .wqDoorbell (2
    ^ 32), .bar2Access (2 ^ 35) 0 (some [7, 8, 9]), .hostWindowTimeout true 0, .hostWindowTimeout true 4, .spiPush (2
    ^ 32), .spiAbort (2 ^ 32) 5 0 [], .i2cPush (2 ^ 32), .i2cAbort (2 ^ 32) 0 0, .stageRecord 0 [1, 2], .stageRecord
    10 [1, 2], .ethernetLinkChange (2) true] : List Instr).all (fun i => !i.wf) = true := by
  decide

theorem test_wf_refuses_10 : ([
    .pcieLinkUp 0 8, .pcieLinkUp 5 8, .pcieLinkUp 4 3, .supplyLowCleared (3), .wireDisagreeEnd (4) 2, .wireDisagreeEnd
    3 (3), .sleepBlocksReceived (2) 2, .prbsLockAcquired (24), .prbsLockLost (24), .cxpEventPacket (8) true] : List Instr).all (fun i => !i.wf) = true := by
  decide

theorem test_wf_accepts : ([.registerWrite 0x1FFFFC 4 0xFFFFFFFF, .rcRead 0x1FFFF8 8, .bundleIssue 63, .rxStateCommand 23 5,
    .dmaSubmit 15 0xFFFFFFFF] : List Instr).all Instr.wf = true := by decide

/-! ## Small steps -/

/-- The field of the next state, if there is one. -/
def after (o : Res) (f : State → Nat) : Option Nat :=
  match o with
  | .next t => some (f t)
  | _ => none

/-- The check value of CRC-32 (IEEE 802.3): "123456789". -/
theorem test_crc32_check : crc32 [0x31, 0x32, 0x33, 0x34, 0x35, 0x36, 0x37, 0x38, 0x39] = 0xCBF43926 := by decide +kernel

/-- The example of FIPS 180-4: SHA-256 of "abc". -/
theorem test_sha256_abc : (sha256 [0x61, 0x62, 0x63]).take 8 = [0xBA, 0x78, 0x16, 0xBF, 0x8F, 0x01, 0xCF, 0xEA] := by
  decide +kernel

/-- The queue is first in, first out. -/
theorem test_step_takes_the_front : after (step { State.reset with pending := [.vinShortDip, .nrstAssert] })
    (fun t => t.pending.length + 10 * t.fld R.PWR_MOD_STATUS_LOSS_SEEN) = some 11 := by decide +kernel

/-- R20: a misaligned write is discarded and reported. -/
theorem test_write_misaligned : after (exec (.registerWrite 0x60009 4 5) upImg)
    (fun t => t.fld R.MBX_HSTATUS_LAST_STS + t.fld R.MMU_OP_VA_LO_VA_LO) = some 0xC00E := by decide +kernel

/-- R13: only the RW bits of BOOT_L2P_SEL take a write. -/
theorem test_write_reserved_bits : after (exec (.registerWrite 0x1048 4 0xFFFFFFFF) upImg)
    (fun t => (t.rd R.BOOT_L2P_SEL).toNat) = some 0x3F3F := by decide +kernel

/-- R13: a read of a counter returns it and clears it. -/
theorem test_read_clears : after (exec (.rcRead 0x10820 4) (upImg.setF R.MOT_TRK_OPENED_OPENED 5))
    (fun t => 100 * t.bus.data + t.fld R.MOT_TRK_OPENED_OPENED) = some 500 := by decide +kernel

/-- R412: ADD wraps; the destination is also a source. -/
theorem test_add_wraps : after (exec (.bundleIssue 63) (withGill (upGill 1 (scalarWord 1 2 2 0 1 1))
    { s := (List.replicate 64 0).set 2 0xFFFFFFFF })) (fun t => (t.gl 63).s.getD 2 7) = some 0 := by decide +kernel

/-- R412: SAR keeps the sign, and shifts by b mod 32. -/
theorem test_sar_sign : after (exec (.bundleIssue 63) (withGill (upGill 1 (scalarWord 0xB 3 2 0 1 33))
    { s := (List.replicate 64 0).set 2 0x80000000 })) (fun t => (t.gl 63).s.getD 3 7) = some 0xC0000000 := by decide +kernel

/-- R412: MULHS of −1 and 2 is −1. -/
theorem test_mulhs : after (exec (.bundleIssue 63) (withGill (upGill 1 (scalarWord 4 3 2 0 1 2))
    { s := (List.replicate 64 0).set 2 0xFFFFFFFF })) (fun t => (t.gl 63).s.getD 3 7) = some 0xFFFFFFFF := by decide +kernel

/-- R499: a cell's count saturates at its 24 bits. -/
theorem test_cell_saturates : after (exec (.syncAdd 4095 3) ((upGill 0 0).setF (R.SYNC_COUNT_COUNT 4095) 0xFFFFFE))
    (fun t => t.fld (R.SYNC_COUNT_COUNT 4095)) = some 0xFFFFFF := by decide +kernel

/-- R725: a pop of an empty queue gives zero. -/
theorem test_pop_empty : after (exec .i2cTlogPop up) (fun t => t.bus.data + t.i2c.tlog.length) = some 0 := by decide +kernel

/-! ## The hypotheses of the statements are met -/

theorem witness_SupplyEvents :
    (∃ s : State, MemCanon s ∧ s.shaped = true ∧ s.pwr.vinGood = false ∧ s.jrn.holdup = false ∧ s.pwr.nrstLow = false)
      ∧
    (∃ s : State, MemCanon s ∧ s.shaped = true ∧ s.pwr.dead = false ∧ s.pwr.vinGood = true ∧ s.pwr.inReset = false ∧
      s.pwr.lost = false) ∧
    (∃ s : State, MemCanon s ∧ s.shaped = true ∧ s.pwr.dead = false ∧ s.pwr.vinGood = true ∧ s.pwr.inReset = false ∧
      s.pwr.lost = false) ∧
    (∃ s : State, MemCanon s ∧ s.shaped = true) ∧
    (∃ s : State, MemCanon s ∧ s.shaped = true ∧ s.pwr.dead = false) ∧
    (∃ s : State, MemCanon s ∧ s.shaped = true ∧ s.pwr.nrstLow = true ∧ s.pwr.vinGood = true) ∧
    (∃ s : State, MemCanon s ∧ s.shaped = true ∧ s.pwr.resetReq = true ∧ s.pwr.inReset = false ∧ s.pwr.lost = false) ∧
    (∃ s : State, MemCanon s ∧ s.shaped = true ∧ s.pwr.dead = false ∧ s.pwr.inReset = false ∧ s.pwr.lost = false) :=
  ⟨⟨State.reset, by decide +kernel⟩,
    ⟨{ State.reset with pwr := { dead := false, vinGood := true, inReset := false } }, by decide +kernel⟩,
    ⟨{ State.reset with pwr := { dead := false, vinGood := true, inReset := false } }, by decide +kernel⟩,
    ⟨State.reset, by decide +kernel⟩,
    ⟨{ State.reset with pwr := { dead := false, vinGood := true, inReset := false } }, by decide +kernel⟩,
    ⟨{ State.reset with pwr := { dead := false, vinGood := true, nrstLow := true } }, by decide +kernel⟩,
    ⟨{ State.reset with pwr := { dead := false, vinGood := true, inReset := false, resetReq := true } },
    by decide +kernel⟩, ⟨{ State.reset with pwr := { dead := false, vinGood := true, inReset := false } },
    by decide +kernel⟩⟩

theorem witness_SupplyMonitors :
    (∃ s : State, MemCanon s ∧ s.shaped = true ∧ s.bit R.PWR_MOD_STATUS_THROTTLE = false) ∧
    (∃ s : State, MemCanon s ∧ s.shaped = true) ∧
    (∃ s : State, MemCanon s ∧ s.shaped = true ∧ s.jrn.deferring = false) ∧
    (∃ s : State, MemCanon s ∧ s.shaped = true) ∧
    (∃ s : State, MemCanon s ∧ s.shaped = true) ∧
    (∃ (lane : Nat) (s : State), MemCanon s ∧ s.shaped = true ∧ s.pwr.pocxpDet.testBit lane = true ∧ lane < 16) ∧
    (∃ (lane : Nat) (s : State), MemCanon s ∧ s.shaped = true ∧ s.pwr.pocxpDet.testBit lane = true ∧ lane < 16) ∧
    (∃ (lane : Nat) (s : State), MemCanon s ∧ s.shaped = true ∧ (s.fld R.PWR_POCXP_STS_ON).testBit lane = true) ∧
    (∃ s : State, MemCanon s ∧ s.shaped = true ∧ s.served R.PWR_POCXP_STS.off = true) ∧
    (∃ s : State, MemCanon s ∧ s.shaped = true) ∧
    (∃ (chan : Nat) (s : State), MemCanon s ∧ s.shaped = true ∧ (s.fld R.PWR_ENC_SUP_EN).testBit chan = true ∧ (s.fld
      R.PWR_ENC_SUP_FAULT).testBit chan = false) ∧
    (∃ (group : Nat) (s : State), MemCanon s ∧ s.shaped = true ∧ s.bit (vejLowFld group) = false) :=
  ⟨⟨up.setF R.CLK_STATUS_RUNNING 0x1FF, by decide +kernel⟩, ⟨(up.setF R.CLK_STATUS_RUNNING 0x1FF).setF
    R.CLK_CORE_CORE_MHZ 750, by decide +kernel⟩, ⟨up, by decide +kernel⟩, ⟨up, by decide +kernel⟩, ⟨up,
    by decide +kernel⟩, ⟨15, { up with pwr.pocxpDet := 0x8001 }, by decide +kernel⟩, ⟨15,
    { up with pwr.pocxpDet := 0x8001 }, by decide +kernel⟩, ⟨15, up.setF R.PWR_POCXP_STS_ON 0x8001,
    by decide +kernel⟩, ⟨up.setF R.PWR_POCXP_STS_FAULT 3, by decide +kernel⟩, ⟨up, by decide +kernel⟩, ⟨3, up.setF
    R.PWR_ENC_SUP_EN 15, by decide +kernel⟩, ⟨1, up, by decide +kernel⟩⟩

theorem witness_RelaysAndInputs :
    (∃ (out : Nat) (level : Bool) (k : EjCheck) (l : List EjCheck) (s : State), MemCanon s ∧ s.shaped = true ∧ (s.ej
      out).checks = k :: l ∧ k.due ≤ s.now ∧ out < 16 ∧ level = k.on) ∧
    (∃ (out : Nat) (level : Bool) (k : EjCheck) (l : List EjCheck) (s : State), MemCanon s ∧ s.shaped = true ∧ (s.ej
      out).checks = k :: l ∧ k.due ≤ s.now ∧ out < 16 ∧ level ≠ k.on) ∧
    (∃ (out : Nat) (s : State), MemCanon s ∧ s.shaped = true ∧ out < s.ejOuts ∧ out < 16) ∧
    (∃ s : State, MemCanon s ∧ s.shaped = true) ∧
    (∃ s : State, MemCanon s ∧ s.shaped = true ∧ s.bit R.PWR_RELAY_RING_POS ≠ s.pwr.ringDrive) ∧
    (∃ s : State, MemCanon s ∧ s.shaped = true ∧ s.bit R.PWR_RELAY_ETH_POS ≠ s.pwr.ethDrive) ∧
    (∃ s : State, MemCanon s ∧ s.shaped = true ∧ s.bit R.PWR_RELAY_RING_POS = s.pwr.ringDrive ∧ s.bit
      R.PWR_RELAY_ETH_POS = s.pwr.ethDrive) ∧
    (∃ s : State, MemCanon s ∧ s.shaped = true ∧ s.served R.PWR_RELAY.off = true) ∧
    (∃ (input : Nat) (raw : Bool) (held : Nat) (s : State), MemCanon s ∧ s.shaped = true ∧ input < 8 ∧
      s.pwr.diRaw.testBit input ≠ raw ∧ s.diQual ≤ held ∧ held ≤ s.now) ∧
    (∃ (held : Nat) (s : State), MemCanon s ∧ s.shaped = true ∧ held < s.diQual ∧ held ≤ s.now) ∧
    (∃ s : State, MemCanon s ∧ s.shaped = true ∧ s.served R.MOT_DI_CFG.off = true) ∧
    (∃ s : State, MemCanon s ∧ s.shaped = true ∧ s.pwr.holdEnd.any (fun e => decide (e ≤ s.now)) = true ∧ s.bit
      R.EJ_LSTOP_ASSERTED = true ∧ (s.pwr.relPend = true ∨ s.bit R.EJ_LSTOP_AUTO_REL = true)) ∧
    (∃ (value : Nat) (s : State), MemCanon s ∧ s.shaped = true ∧ s.served R.EJ_LSTOP.off = true ∧ s.bit
      R.EJ_LSTOP_ASSERTED = true ∧ R.EJ_LSTOP_RELEASE.of value = 1 ∧ s.holding = false) ∧
    (∃ (value : Nat) (s : State), MemCanon s ∧ s.shaped = true ∧ s.served R.EJ_LSTOP.off = true ∧ s.bit
      R.EJ_LSTOP_ASSERTED = true ∧ R.EJ_LSTOP_RELEASE.of value = 1 ∧ s.holding = true) :=
  ⟨⟨15, true, ⟨true, 0, none⟩, [⟨false, 9, none⟩], up.setEj 15
    { up.ej 15 with checks := [⟨true, 0, none⟩, ⟨false, 9, none⟩] }, by decide +kernel⟩, ⟨15, false, ⟨true, 0, some
    0⟩, [], up.setEj 15 { up.ej 15 with checks := [⟨true, 0, some 0⟩] }, by decide +kernel⟩, ⟨15, up,
    by decide +kernel⟩, ⟨{ up with pwr.ringDrive := true }, by decide +kernel⟩, ⟨{ up with pwr.ringDrive := true },
    by decide +kernel⟩, ⟨{ up with pwr.ethDrive := true }, by decide +kernel⟩, ⟨up, by decide +kernel⟩, ⟨up,
    by decide +kernel⟩, ⟨7, true, 5, { up.setF R.MOT_DI_CFG_QUAL_US 0 with now := 5 }, by decide +kernel⟩, ⟨4,
    { up with now := 5 }, by decide +kernel⟩, ⟨up, by decide +kernel⟩,
    ⟨{ up.setF R.EJ_LSTOP_ASSERTED 1 with pwr.holdEnd := some 5, pwr.relPend := true, now := 5 }, by decide +kernel⟩,
    ⟨4294967295, up.setF R.EJ_LSTOP_ASSERTED 1, by decide +kernel⟩, ⟨4294967295,
    { up.setF R.EJ_LSTOP_ASSERTED 1 with pwr.holdEnd := some 5 }, by decide +kernel⟩⟩

theorem witness_ClockEvents :
    (∃ (domain : Nat) (s : State), MemCanon s ∧ s.shaped = true ∧ 1 ≤ domain ∧ domain ≤ 8 ∧ domain ≠ 3 ∧ domain ≠ 4 ∧
      s.boot.running = true ∧ s.fld R.SYS_BOOT_STATUS_STAGE = 1 ∧ s.boot.noLock.testBit domain = false) ∧
    (∃ (domain : Nat) (s : State), MemCanon s ∧ s.shaped = true ∧ (domain = 3 ∨ domain = 4) ∧ s.boot.running = true ∧
      s.fld R.SYS_BOOT_STATUS_STAGE = 1 ∧ s.boot.noLock.testBit domain = false) ∧
    (∃ (domain : Nat) (s : State), MemCanon s ∧ s.shaped = true ∧ 4 ≤ domain ∧ domain ≤ 8 ∧ s.boot.running = false ∧
      s.mode.active = true ∧ s.mode.exiting = true ∧ s.mode.origin = 3) ∧
    (∃ (domain : Nat) (s : State), MemCanon s ∧ s.shaped = true ∧ domain ∈ [1, 2, 5, 6, 7, 8] ∧ s.pwr.inReset = false
      ∧ (s.fld R.CLK_STATUS_RUNNING).testBit domain = true) ∧
    (∃ s : State, MemCanon s ∧ s.shaped = true ∧ s.pwr.inReset = false ∧ (s.fld R.CLK_STATUS_RUNNING).testBit 3 =
      true) ∧
    (∃ s : State, MemCanon s ∧ s.shaped = true ∧ s.pwr.inReset = false ∧ (s.fld R.CLK_STATUS_RUNNING).testBit 4 =
      true) ∧
    (∃ s : State, MemCanon s ∧ s.shaped = true ∧ s.pwr.inReset = false ∧ (s.fld R.CLK_STATUS_RUNNING).testBit 0 =
      true) ∧
    (∃ (value : Nat) (s : State), MemCanon s ∧ s.shaped = true ∧ s.served R.PWR_MODE_REQ.off = true ∧ s.pmode = 1 ∧
      s.bit R.PWR_MODE_STATUS_BUSY = false ∧ R.PWR_MODE_REQ_GO.of value = 1 ∧ (R.PWR_MODE_REQ_TARGET.of value = 2 ∨
      R.PWR_MODE_REQ_TARGET.of value = 3) ∧ s.modeCond (R.PWR_MODE_REQ_TARGET.of value) = 0) ∧
    (∃ (value : Nat) (s : State), MemCanon s ∧ s.shaped = true ∧ s.served R.PWR_MODE_REQ.off = true ∧ (s.pmode = 2 ∨
      s.pmode = 3) ∧ s.bit R.PWR_MODE_STATUS_BUSY = false ∧ R.PWR_MODE_REQ_GO.of value = 1 ∧ R.PWR_MODE_REQ_TARGET.of
      value = 1) ∧
    (∃ (value : Nat) (s : State), MemCanon s ∧ s.shaped = true ∧ s.served R.PWR_MODE_REQ.off = true ∧ s.bit
      R.PWR_MODE_STATUS_BUSY = true ∧ R.PWR_MODE_REQ_GO.of value = 1) ∧
    (∃ s : State, MemCanon s ∧ s.shaped = true ∧ s.mode.active = true ∧ s.mode.exiting = false ∧ s.mode.target = 3 ∧
      s.mode.drained = false ∧ s.gill.all (fun g => g.acc.all (fun a => a.st != 0)) = true) ∧
    (∃ s : State, MemCanon s ∧ s.shaped = true ∧ s.mode.active = true ∧ s.mode.exiting = false ∧ (s.mode.target = 2 ∨
      (s.mode.target = 3 ∧ s.mode.drained = true ∧ 150 ≤ s.fld R.PWR_MODE_CFG_TIMEOUT_US)) ∧ s.wakeSet = false ∧
      s.modeLate = false) ∧
    (∃ s : State, MemCanon s ∧ s.shaped = true ∧ s.mode.active = true ∧ s.mode.exiting = false ∧ (s.mode.target = 3 →
      s.mode.drained = true) ∧ s.wakeSet = true) ∧
    (∃ s : State, MemCanon s ∧ s.shaped = true ∧ s.mode.active = true ∧ s.mode.exiting = false ∧ (s.mode.target = 3 →
      s.mode.drained = true) ∧ s.wakeSet = false ∧ s.modeLate = true) ∧
    (∃ s : State, MemCanon s ∧ s.shaped = true ∧ s.mode.active = true ∧ s.mode.exiting = false ∧ s.mode.startAt +
      s.fld R.PWR_MODE_CFG_TIMEOUT_US * 1000 < s.now) ∧
    (∃ (failedStep : Option Nat) (s : State), MemCanon s ∧ s.shaped = true ∧ s.mode.active = true ∧ s.mode.exiting =
      false ∧ (s.wakeSet = true ∨ failedStep.isSome = true)) :=
  ⟨⟨8,
    { State.reset with pwr := { vinGood := true, inReset := false, dead := false }, boot := { running := true, supVer := 5, tileVer := 7 } }.setF
    R.SYS_BOOT_STATUS_STAGE 1, by decide +kernel⟩, ⟨4,
    { State.reset with pwr := { vinGood := true, inReset := false, dead := false }, boot := { running := true, supVer := 5, tileVer := 7 } }.setF
    R.SYS_BOOT_STATUS_STAGE 1, by decide +kernel⟩, ⟨8,
    { up.setF R.PWR_MODE_STATUS_MODE 3 with mode := { active := true, exiting := true, target := 1, origin := 3 } },
    by decide +kernel⟩, ⟨8, up.setF R.CLK_STATUS_RUNNING 0x1FF, by decide +kernel⟩, ⟨upHost.setF R.CLK_STATUS_RUNNING
    0x1FF, by decide +kernel⟩, ⟨upSyn.setF R.CLK_STATUS_RUNNING 0x1FF, by decide +kernel⟩, ⟨upSyn.setF
    R.CLK_STATUS_RUNNING 0x1FF, by decide +kernel⟩, ⟨0x80000003, up, by decide +kernel⟩, ⟨0x80000001, up.setF
    R.PWR_MODE_STATUS_MODE 3, by decide +kernel⟩, ⟨0x80000001, up.setB R.PWR_MODE_STATUS_BUSY true,
    by decide +kernel⟩, ⟨{ up with mode := { active := true, target := 3, origin := 1 } }, by decide +kernel⟩,
    ⟨{ up with mode := { active := true, target := 3, origin := 1, drained := true } }, by decide +kernel⟩,
    ⟨{ (up.setF R.PWR_WAKE_LATCH_LATCH 32).setF R.PWR_WAKE_EN_TIMER 1 with mode := { active := true, target := 2, origin := 1 } },
    by decide +kernel⟩, ⟨{ up with mode := { active := true, target := 2, origin := 1 }, now := 1000000000 },
    by decide +kernel⟩, ⟨{ up with mode := { active := true, target := 2, origin := 1 }, now := 1000000000 },
    by decide +kernel⟩, ⟨(some 3), { up with mode := { active := true, target := 2, origin := 1 } },
    by decide +kernel⟩⟩

theorem witness_ModeExitEvents :
    (∃ s : State, MemCanon s ∧ s.shaped = true ∧ (s.pmode = 2 ∨ s.pmode = 3) ∧ s.mode.active = false ∧ s.wakeSet =
      true) ∧
    (∃ s : State, MemCanon s ∧ s.shaped = true ∧ s.mode.active = true ∧ s.mode.exiting = true ∧ s.mode.second = none)
      ∧
    (∃ s : State, MemCanon s ∧ s.shaped = true ∧ s.mode.active = true ∧ s.mode.exiting = true) ∧
    (∃ s : State, MemCanon s ∧ s.shaped = true ∧ (s.pmode = 2 ∨ s.pmode = 3) ∧ s.mode.commitAt + s.fld
      R.PWR_WAKE_TIMER_MS * 1000000 ≤ s.now ∧ s.mode.armed.testBit 5 = true ∧ (s.rd R.PWR_WAKE_EN).toNat.testBit 5 =
      true) ∧
    (∃ (lane : Nat) (s : State), MemCanon s ∧ s.shaped = true ∧ lane < 24 ∧ s.laneHere lane = true ∧ (s.rxOf lane = 1
      ∨ s.rxOf lane = 2)) ∧
    (∃ (lane : Nat) (s : State), MemCanon s ∧ s.shaped = true ∧ lane < 24 ∧ s.laneHere lane = true ∧ (s.rxOf lane = 1
      ∨ s.rxOf lane = 2) ∧ s.ceiling 0 = true) ∧
    (∃ (lane : Nat) (s : State), MemCanon s ∧ s.shaped = true ∧ lane < 24 ∧ s.laneHere lane = true ∧ (s.rxOf lane = 1
      ∨ s.rxOf lane = 2) ∧ (s.fld R.PWR_WAKE_LANE_RX).testBit lane = true ∧ s.mode.armed.testBit 4 = true ∧ (s.rd
      R.PWR_WAKE_EN).toNat.testBit 4 = true) ∧
    (∃ s : State, MemCanon s ∧ s.shaped = true ∧ s.boot.running = true ∧ s.fld R.SYS_BOOT_STATUS_STAGE = 1 ∧
      s.boot.noLock.testBit 2 = false) ∧
    (∃ (facts : FuseFacts) (s : State), MemCanon s ∧ s.shaped = true ∧ s.boot.running = true ∧ s.fld
      R.SYS_BOOT_STATUS_STAGE = 2 ∧ facts.badWord = none ∧ s.boot.warm = false) ∧
    (∃ (facts : FuseFacts) (s : State), MemCanon s ∧ s.shaped = true ∧ s.boot.running = true ∧ s.fld
      R.SYS_BOOT_STATUS_STAGE = 2 ∧ facts.badWord = none ∧ s.boot.warm = true) ∧
    (∃ (facts : FuseFacts) (word : Nat) (s : State), MemCanon s ∧ s.shaped = true ∧ s.boot.running = true ∧ s.fld
      R.SYS_BOOT_STATUS_STAGE = 2 ∧ facts.badWord = some word) ∧
    (∃ (found : List Finding) (s : State), MemCanon s ∧ s.shaped = true ∧ s.boot.running = true ∧ s.fld
      R.SYS_BOOT_STATUS_STAGE = 3 ∧ found.all (fun f => mapNames s.knownMap (entryOf f)) = true ∧ meshCut s.knownMap =
      none) ∧
    (∃ (f : Finding) (s : State), MemCanon s ∧ s.shaped = true ∧ s.boot.running = true ∧ s.fld R.SYS_BOOT_STATUS_STAGE
      = 3 ∧ s.boot.warm = false ∧ mapNames s.knownMap (entryOf f) = false ∧ s.boot.sessionMap.length < 16) ∧
    (∃ (r : Nat) (s : State), MemCanon s ∧ s.shaped = true ∧ s.boot.running = true ∧ s.fld R.SYS_BOOT_STATUS_STAGE = 3
      ∧ meshCut s.knownMap = some r) ∧
    (∃ s : State, MemCanon s ∧ s.shaped = true ∧ s.boot.running = true ∧ s.fld R.SYS_BOOT_STATUS_STAGE = 4 ∧
      s.boot.warm = true) ∧
    (∃ s : State, MemCanon s ∧ s.shaped = true ∧ s.boot.running = true ∧ s.fld R.SYS_BOOT_STATUS_STAGE = 4 ∧
      s.boot.warm = false ∧ (logicalGills (mergeMap s.boot.fuseMap s.boot.newest.map s.boot.sessionMap) ((variantUnits
      (s.fld R.SYS_ID_VARIANT)).getD 0 0)).length ∈ List.range' 1 64) ∧
    (∃ s : State, MemCanon s ∧ s.shaped = true ∧ s.boot.running = true ∧ s.fld R.SYS_BOOT_STATUS_STAGE = 4 ∧
      s.boot.warm = false ∧ (logicalGills (mergeMap s.boot.fuseMap [] s.boot.sessionMap) ((variantUnits (s.fld
      R.SYS_ID_VARIANT)).getD 0 0)).length ∈ List.range' 1 64) :=
  ⟨⟨((up.setF R.PWR_MODE_STATUS_MODE 3).setF R.PWR_WAKE_LATCH_LATCH 32).setF R.PWR_WAKE_EN_TIMER 1,
    by decide +kernel⟩,
    ⟨{ up.setF R.PWR_MODE_STATUS_MODE 2 with mode := { active := true, exiting := true, target := 1, origin := 2 } },
    by decide +kernel⟩,
    ⟨{ up.setF R.PWR_MODE_STATUS_MODE 2 with mode := { active := true, exiting := true, target := 1, origin := 2 } },
    by decide +kernel⟩,
    ⟨{ (up.setF R.PWR_MODE_STATUS_MODE 2).setF R.PWR_WAKE_EN_TIMER 1 with mode := { armed := 63 }, now := 10000000000 },
    by decide +kernel⟩, ⟨23, up.setF (R.LANE_STATUS_RX_STATE 23) 2, by decide +kernel⟩, ⟨23, up.setF
    (R.LANE_STATUS_RX_STATE 23) 2, by decide +kernel⟩, ⟨15,
    { ((up.setF (R.LANE_STATUS_RX_STATE 15) 2).setF R.PWR_WAKE_LANE_RX 0x8000).wr R.PWR_WAKE_EN 0x3F with mode := { armed := 63 } },
    by decide +kernel⟩,
    ⟨{ State.reset with pwr := { vinGood := true, inReset := false, dead := false }, boot := { running := true, supVer := 5, tileVer := 7 } }.setF
    R.SYS_BOOT_STATUS_STAGE 1, by decide +kernel⟩, ⟨⟨0x24, 7, [], [], 1, 1, none⟩,
    { State.reset with pwr := { vinGood := true, inReset := false, dead := false }, boot := { running := true, supVer := 5, tileVer := 7 } }.setF
    R.SYS_BOOT_STATUS_STAGE 2, by decide +kernel⟩, ⟨⟨0x24, 7, [], [], 1, 1, none⟩,
    { ({ State.reset with pwr := { vinGood := true, inReset := false, dead := false } }.setF R.SYS_BOOT_STATUS_STAGE 2) with boot := { running := true, warm := true } },
    by decide +kernel⟩, ⟨⟨0x24, 7, [], [], 1, 1, some 3⟩, 3,
    { State.reset with pwr := { vinGood := true, inReset := false, dead := false }, boot := { running := true, supVer := 5, tileVer := 7 } }.setF
    R.SYS_BOOT_STATUS_STAGE 2, by decide +kernel⟩, ⟨[],
    { State.reset with pwr := { vinGood := true, inReset := false, dead := false }, boot := { running := true, supVer := 5, tileVer := 7 } }.setF
    R.SYS_BOOT_STATUS_STAGE 3, by decide +kernel⟩, ⟨.link 9 10,
    { State.reset with pwr := { vinGood := true, inReset := false, dead := false }, boot := { running := true, supVer := 5, tileVer := 7 } }.setF
    R.SYS_BOOT_STATUS_STAGE 3, by decide +kernel⟩, ⟨0,
    { State.reset with pwr := { vinGood := true, inReset := false, dead := false }, boot := { running := true, fuseMap := [3 * 2 ^ 30] } }.setF
    R.SYS_BOOT_STATUS_STAGE 3, by decide +kernel⟩,
    ⟨{ ({ State.reset with pwr := { vinGood := true, inReset := false, dead := false }, boot := { running := true, supVer := 5, tileVer := 7 } }.setF R.SYS_BOOT_STATUS_STAGE 4) with boot := { running := true, warm := true } },
    by decide +kernel⟩,
    ⟨{ State.reset with pwr := { vinGood := true, inReset := false, dead := false }, boot := { running := true, fuseMap := [3 * 2 ^ 30] } }.setF
    R.SYS_BOOT_STATUS_STAGE 4, by decide +kernel⟩,
    ⟨{ State.reset with pwr := { vinGood := true, inReset := false, dead := false }, boot := { running := true, fuseMap := [3 * 2 ^ 30] } }.setF
    R.SYS_BOOT_STATUS_STAGE 4, by decide +kernel⟩⟩

theorem witness_BringUpEvents :
    (∃ (ddr : Option Nat) (s : State), MemCanon s ∧ s.shaped = true ∧ s.boot.running = true ∧ s.fld
      R.SYS_BOOT_STATUS_STAGE = 5 ∧ ddr = none) ∧
    (∃ s : State, MemCanon s ∧ s.shaped = true ∧ s.boot.running = true ∧ s.fld R.SYS_BOOT_STATUS_STAGE = 5) ∧
    (∃ (p : Package) (s : State), MemCanon s ∧ s.shaped = true ∧ s.boot.running = true ∧ s.fld R.SYS_BOOT_STATUS_STAGE
      = 6 ∧ s.boot.hostWait = false ∧ s.bit R.BOOT_CFG_SLOT_PREF = false ∧ s.pkgBad (some p) = none) ∧
    (∃ (a : Option Package) (b : Option Package) (stsA : Nat) (stsB : Nat) (s : State), MemCanon s ∧ s.shaped = true ∧
      s.boot.running = true ∧ s.fld R.SYS_BOOT_STATUS_STAGE = 6 ∧ s.boot.hostWait = false ∧ s.pkgBad a = some stsA ∧
      s.pkgBad b = some stsB) ∧
    (∃ s : State, MemCanon s ∧ s.shaped = true ∧ s.served R.BOOT_CTRL.off = true ∧ s.boot.running = true ∧ s.fld
      R.SYS_BOOT_STATUS_STAGE = 6 ∧ s.boot.hostWait = true) ∧
    (∃ s : State, MemCanon s ∧ s.shaped = true ∧ s.boot.running = true ∧ s.fld R.SYS_BOOT_STATUS_STAGE = 6 ∧
      s.boot.hostWait = true ∧ s.boot.stageAt + s.fld R.BOOT_CFG_HOST_WAIT_S * 1000000000 ≤ s.now) ∧
    (∃ s : State, MemCanon s ∧ s.shaped = true ∧ s.boot.running = true ∧ s.fld R.SYS_BOOT_STATUS_STAGE = 7) ∧
    (∃ (gill : Nat) (spore : Nat) (s : State), MemCanon s ∧ s.shaped = true ∧ s.boot.running = true ∧ s.fld
      R.SYS_BOOT_STATUS_STAGE = 7 ∧ gill < s.gills ∧ Sparse.sorted s.boot.sporeTries = true ∧ Sparse.get
      s.boot.sporeTries (65536 * gill + spore) 0 < 3) ∧
    (∃ (gill : Nat) (spore : Nat) (s : State), MemCanon s ∧ s.shaped = true ∧ s.boot.running = true ∧ s.fld
      R.SYS_BOOT_STATUS_STAGE = 7 ∧ gill < s.gills ∧ Sparse.get s.boot.sporeTries (65536 * gill + spore) 0 = 3 ∧
      s.boot.sessionMap.length < 16 ∧ s.fld R.BOOT_RESTARTS_COUNT < 2) ∧
    (∃ s : State, MemCanon s ∧ s.shaped = true ∧ s.boot.running = true ∧ s.fld R.SYS_BOOT_STATUS_STAGE = 8) ∧
    (∃ s : State, MemCanon s ∧ s.shaped = true ∧ s.boot.running = true ∧ s.fld R.SYS_BOOT_STATUS_STAGE = 8 ∧
      s.boot.stageAt + 20000000 ≤ s.now) ∧
    (∃ s : State, MemCanon s ∧ s.shaped = true ∧ s.boot.running = true ∧ s.fld R.SYS_BOOT_STATUS_STAGE = 9 ∧ s.bit
      R.BOOT_CFG_AUTO_IMAGE = true ∧ s.now ≤ s.boot.stageAt + 1000 * s.imageLimit ∧ (s.imgLoad (s.fld
      R.BOOT_IMG_SLOTS_NEWEST)).img.shadow.isSome = true) ∧
    (∃ s : State, MemCanon s ∧ s.shaped = true ∧ s.boot.running = true ∧ s.fld R.SYS_BOOT_STATUS_STAGE = 9 ∧ s.bit
      R.BOOT_CFG_AUTO_IMAGE = true ∧ s.now ≤ s.boot.stageAt + 1000 * s.imageLimit ∧ (s.imgLoad (s.fld
      R.BOOT_IMG_SLOTS_NEWEST)).img.shadow = none) ∧
    (∃ s : State, MemCanon s ∧ s.shaped = true ∧ s.boot.running = true ∧ s.fld R.SYS_BOOT_STATUS_STAGE = 9 ∧ s.bit
      R.BOOT_CFG_AUTO_IMAGE = false) ∧
    (∃ s : State, MemCanon s ∧ s.shaped = true ∧ s.boot.running = true ∧ s.fld R.SYS_BOOT_STATUS_STAGE = 10 ∧ s.bit
      R.PWR_MOD_STATUS_CHARGED = true) ∧
    (∃ s : State, MemCanon s ∧ s.shaped = true ∧ s.boot.running = true ∧ s.fld R.SYS_BOOT_STATUS_STAGE = 11 ∧
      s.boot.noImage = false ∧ s.mbx.runAuto = false) ∧
    (∃ s : State, MemCanon s ∧ s.shaped = true ∧ s.boot.running = true ∧ s.fld R.SYS_BOOT_STATUS_STAGE = 11 ∧
      s.boot.noImage = true) ∧
    (∃ s : State, MemCanon s ∧ s.shaped = true ∧ s.boot.running = true ∧ s.boot.hostWait = false ∧ (∃ us, s.stageLimit
      (s.fld R.SYS_BOOT_STATUS_STAGE) = some us ∧ s.boot.stageAt + us * 1000 ≤ s.now)) :=
  ⟨⟨none,
    { State.reset with pwr := { vinGood := true, inReset := false, dead := false }, boot := { running := true, supVer := 5, tileVer := 7 } }.setF
    R.SYS_BOOT_STATUS_STAGE 5, by decide +kernel⟩,
    ⟨{ State.reset with pwr := { vinGood := true, inReset := false, dead := false }, boot := { running := true, supVer := 5, tileVer := 7 } }.setF
    R.SYS_BOOT_STATUS_STAGE 5, by decide +kernel⟩, ⟨goodPkg, upFw, by decide +kernel, by decide +kernel,
    by decide +kernel, by decide +kernel, by decide +kernel, by decide +kernel, upFw_good⟩, ⟨none, none, 0x100C,
    0x100C,
    { State.reset with pwr := { vinGood := true, inReset := false, dead := false }, boot := { running := true, supVer := 5, tileVer := 7 } }.setF
    R.SYS_BOOT_STATUS_STAGE 6, by decide +kernel⟩,
    ⟨{ ({ State.reset with pwr := { vinGood := true, inReset := false, dead := false }, boot := { running := true, supVer := 5, tileVer := 7 } }.setF R.SYS_BOOT_STATUS_STAGE 6) with boot := { running := true, hostWait := true, mapped := true } },
    by decide +kernel⟩,
    ⟨{ ({ State.reset with pwr := { vinGood := true, inReset := false, dead := false }, boot := { running := true, supVer := 5, tileVer := 7 } }.setF R.SYS_BOOT_STATUS_STAGE 6) with boot := { running := true, hostWait := true }, now := 100000000000 },
    by decide +kernel⟩,
    ⟨{ State.reset with pwr := { vinGood := true, inReset := false, dead := false }, boot := { running := true, supVer := 5, tileVer := 7 } }.setF
    R.SYS_BOOT_STATUS_STAGE 7, by decide +kernel⟩, ⟨63, 3,
    { State.reset with pwr := { vinGood := true, inReset := false, dead := false }, boot := { running := true, supVer := 5, tileVer := 7 } }.setF
    R.SYS_BOOT_STATUS_STAGE 7, by decide +kernel⟩, ⟨0, 3,
    { State.reset with pwr := { vinGood := true, inReset := false, dead := false }, boot := { running := true, sporeTries := [(3, 3)] } }.setF
    R.SYS_BOOT_STATUS_STAGE 7, by decide +kernel⟩,
    ⟨{ State.reset with pwr := { vinGood := true, inReset := false, dead := false }, boot := { running := true, supVer := 5, tileVer := 7 } }.setF
    R.SYS_BOOT_STATUS_STAGE 8, by decide +kernel⟩,
    ⟨{ ({ State.reset with pwr := { vinGood := true, inReset := false, dead := false }, boot := { running := true, supVer := 5, tileVer := 7 } }.setF R.SYS_BOOT_STATUS_STAGE 8) with now := 20000000 },
    by decide +kernel⟩,
    ⟨{ ({ State.reset with pwr := { vinGood := true, inReset := false, dead := false }, boot := { running := true }, img := { up.img with shadow := some img0 } }.setF R.SYS_BOOT_STATUS_STAGE 9) with now := 5 }.setB
    R.BOOT_CFG_AUTO_IMAGE true, by decide +kernel⟩,
    ⟨{ ({ State.reset with pwr := { vinGood := true, inReset := false, dead := false }, boot := { running := true } }.setF R.SYS_BOOT_STATUS_STAGE 9) with now := 5 }.setB
    R.BOOT_CFG_AUTO_IMAGE true, by decide +kernel⟩,
    ⟨({ State.reset with pwr := { vinGood := true, inReset := false, dead := false }, boot := { running := true, supVer := 5, tileVer := 7 } }.setF
    R.SYS_BOOT_STATUS_STAGE 9).setF R.BOOT_CFG_AUTO_IMAGE 0, by decide +kernel⟩,
    ⟨({ State.reset with pwr := { vinGood := true, inReset := false, dead := false }, boot := { running := true, supVer := 5, tileVer := 7 } }.setF
    R.SYS_BOOT_STATUS_STAGE 10).setF R.PWR_MOD_STATUS_CHARGED 1, by decide +kernel⟩,
    ⟨{ State.reset with pwr := { vinGood := true, inReset := false, dead := false }, boot := { running := true, supVer := 5, tileVer := 7 } }.setF
    R.SYS_BOOT_STATUS_STAGE 11, by decide +kernel⟩,
    ⟨{ State.reset with pwr := { vinGood := true, inReset := false, dead := false }, boot := { running := true, noImage := true } }.setF
    R.SYS_BOOT_STATUS_STAGE 11, by decide +kernel⟩,
    ⟨{ ({ State.reset with pwr := { vinGood := true, inReset := false, dead := false }, boot := { running := true, supVer := 5, tileVer := 7 } }.setF R.SYS_BOOT_STATUS_STAGE 5) with now := 300000000 },
    by decide +kernel⟩⟩

theorem witness_StartCommands :
    (∃ s : State, MemCanon s ∧ s.shaped = true ∧ s.served R.BOOT_CTRL.off = true) ∧
    (∃ s : State, MemCanon s ∧ s.shaped = true ∧ s.served R.BOOT_CTRL.off = true ∧ s.bootState ≠ 0) ∧
    (∃ s : State, MemCanon s ∧ s.shaped = true ∧ s.served R.BOOT_CTRL.off = true ∧ s.jrn.reqs = [] ∧ s.jrn.deferring =
      false ∧ s.boot.supStarted = true ∧ s.energyOk 15 = true) ∧
    (∃ s : State, MemCanon s ∧ s.shaped = true ∧ s.served R.BOOT_CTRL.off = true ∧ s.jrn.reqs = [] ∧ s.jrn.deferring =
      false ∧ s.boot.supStarted = true ∧ s.energyOk 15 = false) ∧
    (∃ s : State, MemCanon s ∧ s.shaped = true ∧ s.served R.BOOT_CTRL.off = true ∧ s.boot.supStarted = false) ∧
    (∃ (entry : Nat) (s : State), MemCanon s ∧ s.shaped = true ∧ s.served R.BOOT_FMAP_ADD.off = true ∧ s.fieldBad
      entry = 0 ∧ s.fieldHas entry = false) ∧
    (∃ s : State, MemCanon s ∧ s.shaped = true ∧ s.mbx.perst = false) ∧
    (∃ s : State, MemCanon s ∧ s.shaped = true ∧ s.cfgOpen = true) :=
  ⟨⟨up, by decide +kernel⟩, ⟨up, by decide +kernel⟩, ⟨up.setF R.PWR_HOLDUP_E_MJ 10000, by decide +kernel⟩, ⟨up,
    by decide +kernel⟩, ⟨{ up with boot.supStarted := false }, by decide +kernel⟩, ⟨0x80000500, up.setF
    R.PWR_HOLDUP_E_MJ 60000, by decide +kernel⟩, ⟨up, by decide +kernel⟩, ⟨up.setF R.MBX_LINK_UP 1,
    by decide +kernel⟩⟩

theorem witness_ImageCommands :
    (∃ s : State, MemCanon s ∧ s.shaped = true ∧ s.bit R.MBX_LINK_UP = true) ∧
    (∃ (src : Nat) (im : Image) (s : State), MemCanon s ∧ s.shaped = true ∧ s.served R.BOOT_IMG_CTRL.off = true ∧
      s.fld R.BOOT_IMG_STATUS_STATE = 0 ∧
      (({ s.setF R.BOOT_IMG_CTRL_SRC (src % 4) with img := { s.img with loadAt := s.now } } : State).imgStages (src %
      4)).toOption = some im) ∧
    (∃ (src : Nat) (f : ImgFail) (s : State), MemCanon s ∧ s.shaped = true ∧ s.served R.BOOT_IMG_CTRL.off = true ∧
      s.fld R.BOOT_IMG_STATUS_STATE = 0 ∧ failOf
      (({ s.setF R.BOOT_IMG_CTRL_SRC (src % 4) with img := { s.img with loadAt := s.now } } : State).imgStages (src %
      4)) = some f) ∧
    (∃ s : State, MemCanon s ∧ s.shaped = true ∧ s.img.shadow.isSome = true) ∧
    (∃ s : State, MemCanon s ∧ s.shaped = true ∧ s.served R.BOOT_IMG_CTRL.off = true ∧ s.unloadOk = true) ∧
    (∃ s : State, MemCanon s ∧ s.shaped = true ∧ s.img.storing.isSome = true ∧ s.flashReady 6 = true ∧
      s.jrn.reqs.length = 1) ∧
    (∃ s : State, MemCanon s ∧ s.shaped = true ∧ s.img.keyNew.isSome = true ∧ s.flashReady 3 = true ∧
      s.jrn.reqs.length = 1) ∧
    (∃ (src : Nat) (b : List Byte) (im : Image) (s : State), MemCanon s ∧ s.shaped = true ∧ s.served
      R.BOOT_IMG_CTRL.off = true ∧ s.img.storing = none ∧ ((s.setF R.BOOT_IMG_CTRL_SRC (src % 4)).imgCopy 2).toOption
      = some b ∧ ((s.setF R.BOOT_IMG_CTRL_SRC (src % 4)).checkFront b).toOption = some im) ∧
    (∃ (src : Nat) (b : List Byte) (f : ImgFail) (s : State), MemCanon s ∧ s.shaped = true ∧ s.served
      R.BOOT_IMG_CTRL.off = true ∧ s.img.storing = none ∧ ((s.setF R.BOOT_IMG_CTRL_SRC (src % 4)).imgCopy 2).toOption
      = some b ∧ failOf ((s.setF R.BOOT_IMG_CTRL_SRC (src % 4)).checkFront b) = some f) ∧
    (∃ (src : Nat) (f : ImgFail) (s : State), MemCanon s ∧ s.shaped = true ∧ s.served R.BOOT_IMG_CTRL.off = true ∧
      s.img.storing = none ∧ failOf ((s.setF R.BOOT_IMG_CTRL_SRC (src % 4)).imgCopy 2) = some f) ∧
    (∃ (src : Nat) (s : State), MemCanon s ∧ s.shaped = true ∧ s.served R.BOOT_IMG_CTRL.off = true ∧ s.img.keyNew =
      none ∧ (s.setF R.BOOT_IMG_CTRL_SRC (src % 4)).keyBad ((s.setF R.BOOT_IMG_CTRL_SRC (src % 4)).imgMem.getD []) ≠
      0) ∧
    (∃ (src : Nat) (b : List Byte) (s : State), MemCanon s ∧ s.shaped = true ∧ s.served R.BOOT_IMG_CTRL.off = true ∧
      s.img.keyNew = none ∧ (s.setF R.BOOT_IMG_CTRL_SRC (src % 4)).imgMem = some b ∧ (s.setF R.BOOT_IMG_CTRL_SRC (src
      % 4)).keyBad b = 0) :=
  ⟨⟨up.setF R.MBX_LINK_UP 1, by decide +kernel⟩, ⟨0, imgLoaded, upLoad, by decide +kernel, by decide +kernel,
    by decide +kernel, by decide +kernel, upLoad_stages⟩, ⟨0, ⟨1, 0x2010, 0, 0, 0⟩, up, by decide +kernel⟩,
    ⟨{ up with img := { up.img with shadow := some img0 } }, by decide +kernel⟩, ⟨upImg, by decide +kernel⟩,
    ⟨{ up with img := { up.img with storing := some (1, 5, []) }, jrn := { reqs := [⟨6, 0⟩] } }.setF R.PWR_HOLDUP_E_MJ
    60000, by decide +kernel⟩,
    ⟨{ up with img := { up.img with keyNew := some ([none, some []], 5, 6) }, jrn := { reqs := [⟨3, 0⟩] } }.setF
    R.PWR_HOLDUP_E_MJ 60000, by decide +kernel⟩, ⟨2, imgBytes, imgFound, upLoad, by decide +kernel, by decide +kernel,
    by decide +kernel, by decide +kernel, upLoad_copy, upLoad_front⟩, ⟨2, [], ⟨2, 0x2001, 0, 0, 0⟩, up,
    by decide +kernel⟩, ⟨2, ⟨1, 0x2008, 0, 0, 0⟩, up.setF R.BOOT_IMG_LEN_LEN 0x4000001, by decide +kernel⟩, ⟨3, up,
    by decide +kernel⟩, ⟨2, keyBytes, upKey, by decide +kernel, by decide +kernel, by decide +kernel,
    by decide +kernel, by decide +kernel, upKey_good⟩⟩

theorem witness_RouteSetCommands :
    (∃ (value : Nat) (s : State), MemCanon s ∧ s.shaped = true ∧ s.served R.MESH_ROUTESET.off = true ∧
      R.MESH_ROUTESET_GO.of value = 1 ∧ s.setDeclared (R.MESH_ROUTESET_NEXT.of value) = true ∧ s.bit
      R.MESH_ROUTESET_BUSY = false ∧ s.bit R.BOOT_IMG_STATUS_BUSY = false) ∧
    (∃ s : State, MemCanon s ∧ s.shaped = true ∧ s.img.change.any (fun c => !c.flipped) = true) ∧
    (∃ (route : Nat) (s : State), MemCanon s ∧ s.shaped = true ∧ s.img.change.any (fun c => c.held.contains route) =
      true ∧ s.oldOn route = false) ∧
    (∃ s : State, MemCanon s ∧ s.shaped = true ∧ s.img.change.any (fun c => c.flipped && c.held.isEmpty) = true ∧
      s.flights.all (fun f => f.tag == s.fld R.MESH_ROUTESET_EPOCH) = true) ∧
    (∃ s : State, MemCanon s ∧ s.shaped = true ∧ s.img.change.any (fun c => !c.late && decide (c.startAt + s.fld
      R.MESH_EPOCH_CFG_TIMEOUT_US * 1000 ≤ s.now)) = true) :=
  ⟨⟨0x10100, upImg, by decide +kernel⟩, ⟨{ upImg with img := { upImg.img with change := some { next := 1 } } },
    by decide +kernel⟩, ⟨3,
    { upImg with img := { upImg.img with change := some { next := 1, flipped := true, held := [3, 4] } } },
    by decide +kernel⟩, ⟨{ upImg with img := { upImg.img with change := some { next := 1, flipped := true } } }.setF
    R.MESH_ROUTESET_BUSY 1, by decide +kernel⟩,
    ⟨{ upImg with img := { upImg.img with change := some { next := 1 } }, now := 100000000000 }, by decide +kernel⟩⟩

theorem witness_EncoderEvents :
    (∃ (chan : Nat) (mask : Nat) (held : Nat) (s : State), MemCanon s ∧ s.shaped = true ∧ s.pwr.lost = false ∧ chan <
      s.encChans ∧ s.qualNs chan ≤ held ∧ mask ∈ [1, 2, 3, 4, 5, 6, 7] ∧ (s.ch chan).edge = [none, none, none] ∧ chan
      < 4) ∧
    (∃ (chan : Nat) (mask : Nat) (held : Nat) (s : State), MemCanon s ∧ s.shaped = true ∧ s.pwr.lost = false ∧ chan <
      s.encChans ∧ s.qualNs chan ≤ held ∧ mask ∈ [1, 2] ∧ (s.ch chan).edge = [none, none, none] ∧ chan < 4 ∧ s.chOn
      chan = true ∧ s.chMode chan = 1 ∧ (quadPos (s.fld (R.MOT_CH_STATUS_LEVEL chan) ^^^ mask) + 4 - quadPos (s.fld
      (R.MOT_CH_STATUS_LEVEL chan))) % 4 = 1) ∧
    (∃ (chan : Nat) (s : State), MemCanon s ∧ s.shaped = true ∧ s.pwr.lost = false ∧ chan < s.encChans ∧ chan < 4) ∧
    (∃ (chan : Nat) (s : State), MemCanon s ∧ s.shaped = true ∧ s.chOn chan = true ∧ (s.chMode chan = 3 ∨ s.chMode
      chan = 4)) ∧
    (∃ (chan : Nat) (frame : SerialFrame) (s : State), MemCanon s ∧ s.shaped = true ∧ s.pwr.lost = false ∧ s.chOn chan
      = true ∧ (s.chMode chan = 3 ∨ s.chMode chan = 4) ∧ s.serialStatus chan frame = none ∧ (s.ch chan).raw = none ∧
      chan < 4) ∧
    (∃ (chan : Nat) (frame : SerialFrame) (sts : Nat) (s : State), MemCanon s ∧ s.shaped = true ∧ s.pwr.lost = false ∧
      s.chOn chan = true ∧ s.chMode chan = 4 ∧ s.serialStatus chan frame = some sts ∧ chan < 4) ∧
    (∃ (chan : Nat) (pair : Nat) (s : State), MemCanon s ∧ s.shaped = true ∧ s.pwr.lost = false ∧ s.chOn chan = true ∧
      s.pairChecked chan pair = true ∧ s.fld (R.MOT_CH_WIRE_WIRE_CYC chan) ≠ 0 ∧ (s.ch chan).apart.testBit pair =
      false ∧ chan < 4) ∧
    (∃ (chan : Nat) (pair : Nat) (s : State), MemCanon s ∧ s.shaped = true ∧ s.pwr.lost = false ∧ s.chOn chan = true ∧
      (s.ch chan).apart.testBit pair = true ∧ s.fld (R.MOT_CH_WIRE_WIRE_CYC chan) ≠ 0 ∧ (s.ch chan).faulted.testBit
      pair = false ∧ (s.ch chan).apartAt.getD pair 0 + s.faultNs chan ≤ s.now ∧ chan < 4) ∧
    (∃ (chan : Nat) (pair : Nat) (s : State), MemCanon s ∧ s.shaped = true ∧ s.pwr.lost = false ∧ (s.ch chan).broken =
      2 ^ pair ∧ (s.ch chan).apart.testBit pair = false ∧ ((s.ch chan).agreeAt.getD pair none).any (fun a => decide (a
      + s.faultNs chan ≤ s.now)) = true ∧ chan < 4) ∧
    (∃ (chan : Nat) (pair : Nat) (s : State), MemCanon s ∧ s.shaped = true ∧ s.pwr.lost = false ∧ (s.ch
      chan).broken.testBit pair = true ∧ (s.ch chan).broken ≠ 2 ^ pair ∧ (s.ch chan).apart.testBit pair = false ∧
      ((s.ch chan).agreeAt.getD pair none).any (fun a => decide (a + s.faultNs chan ≤ s.now)) = true ∧ chan < 4) ∧
    (∃ (c : Nat) (s : State), MemCanon s ∧ s.shaped = true ∧ s.mot.tracks = [] ∧ c < 4 ∧ s.chOn c = true ∧ (s.chMode c
      = 1 ∨ s.chMode c = 2)) ∧
    (∃ (chan : Nat) (s : State), MemCanon s ∧ s.shaped = true ∧ s.chOn chan = true ∧ (s.chMode chan = 1 ∨ s.chMode
      chan = 2) ∧ s.gateDue chan = true ∧ chan < 4) :=
  ⟨⟨3, 5, 1000, upCh 1, by decide +kernel⟩, ⟨3, 1, 1000, upCh 1, by decide +kernel⟩, ⟨3, up, by decide +kernel⟩, ⟨3,
    upCh 4, by decide +kernel⟩, ⟨3, ⟨false, 77, true, true, 0, 0, 0⟩, upCh 3, by decide +kernel⟩, ⟨3, ⟨false, 77,
    true, true, 0, 0, 0⟩, 0x4007, upCh 4, by decide +kernel⟩, ⟨3, 1, upCh 1, by decide +kernel⟩, ⟨3, 1,
    { upCh 1 with mot.chans := setAt up.mot.chans 3 { apart := 2 }, now := 1000000000000 }, by decide +kernel⟩, ⟨3, 1,
    { upCh 1 with mot.chans := setAt up.mot.chans 3 { broken := 2, agreeAt := [none, some 0, none] }, now := 1000000000000 },
    by decide +kernel⟩, ⟨3, 1,
    { upCh 1 with mot.chans := setAt up.mot.chans 3 { broken := 3, agreeAt := [none, some 0, none] }, now := 1000000000000 },
    by decide +kernel⟩, ⟨3, upCh 1, by decide +kernel⟩, ⟨3, { upCh 1 with now := 1000000000 }, by decide +kernel⟩⟩

theorem witness_ChannelCommands :
    (∃ (chan : Nat) (value : Nat) (s : State), MemCanon s ∧ s.shaped = true ∧ chan < 4 ∧ s.served (R.MOT_CH_CFG
      chan).off = true ∧ s.bit (R.MOT_CH_CFG_EN chan) = false ∧ (R.MOT_CH_CFG_MODE chan).of value ≤ 4) ∧
    (∃ (chan : Nat) (value : Nat) (s : State), MemCanon s ∧ s.shaped = true ∧ chan < 4 ∧ s.served (R.MOT_CH_VHI
      chan).off = true ∧ s.fld (R.MOT_CH_VLO_V_LO chan) < value % 2 ^ 24) ∧
    (∃ (chan : Nat) (value : Nat) (s : State), MemCanon s ∧ s.shaped = true ∧ chan < 4 ∧ s.served (R.MOT_CH_VLO
      chan).off = true ∧ value % 2 ^ 24 < s.fld (R.MOT_CH_VHI_V_HI chan)) ∧
    (∃ (g : Nat) (s : State), MemCanon s ∧ s.shaped = true ∧ s.mot.gridAt = some g ∧ g + 1000 * s.fld
      R.MOT_TRK_CFG_CONV_PERIOD ≤ s.motNow) ∧
    (∃ s : State, MemCanon s ∧ s.shaped = true ∧ s.served R.MOT_TRK_CFG.off = true) ∧
    (∃ (pipe : Nat) (count : Nat) (l : List CamEvt) (s : State), MemCanon s ∧ s.shaped = true ∧ s.cam.xing6 =
      .presence pipe count :: l) ∧
    (∃ (pipe : Nat) (count : Nat) (l : List CamEvt) (r : GateRec) (s : State), MemCanon s ∧ s.shaped = true ∧
      s.cam.xing6 = .presence pipe count :: l ∧ s.img.active.map (·.gates) = some [r] ∧ r.gate < 16 ∧ r.src = 1 ∧
      r.pres = pipe ∧ s.bit R.MOT_TRK_CFG_EN = true ∧ s.bit (R.MOT_GATE_CFG_EN r.gate) = true ∧ (List.range 512).any
      (fun k => s.mot.tracks.all (fun p => p.1 != k)) = true) ∧
    (∃ (gate : Nat) (s : State), MemCanon s ∧ s.shaped = true ∧ gate < 16 ∧ s.served (R.MOT_GATE_CFG gate).off = true
      ∧ (s.gateOf gate).isSome = true ∧ offsOk (s.fld (R.MOT_GATE_FIRE_FIRE_OFFS gate)) (s.fld (R.MOT_GATE_WIN_W
      gate)) (s.fld (R.MOT_GATE_MARGIN_MARGIN gate)) = true) ∧
    (∃ (gate : Nat) (s : State), MemCanon s ∧ s.shaped = true ∧ gate < 16 ∧ s.served (R.MOT_GATE_WIN gate).off = true
      ∧ s.bit (R.MOT_GATE_CFG_EN gate) = false) ∧
    (∃ (gate : Nat) (s : State), MemCanon s ∧ s.shaped = true ∧ gate < 16 ∧ s.served (R.MOT_GATE_FIRE gate).off = true
      ∧ s.bit (R.MOT_GATE_CFG_EN gate) = false) ∧
    (∃ (gate : Nat) (s : State), MemCanon s ∧ s.shaped = true ∧ gate < 16 ∧ s.served (R.MOT_GATE_MARGIN gate).off =
      true ∧ s.bit (R.MOT_GATE_CFG_EN gate) = false) :=
  ⟨⟨3, 0x11, up, by decide +kernel⟩, ⟨3, 0xFFFFFF, up, by decide +kernel⟩, ⟨3, 0, up, by decide +kernel⟩, ⟨0,
    { upTrk with mot.gridAt := some 0, mot.tracks := [(5, trk0), (6, { trk0 with st := .decided })], time.mono := 1000000 },
    by decide +kernel⟩, ⟨up, by decide +kernel⟩, ⟨1, 2, [.line 7 5 3, .presence 3 4],
    { up with cam.xing6 := [.presence 1 2, .line 7 5 3, .presence 3 4] }, by decide +kernel⟩, ⟨1, 2, [], ⟨0, 0, 0, 0,
    1, 1, 0⟩,
    { upTrk with img := { up.img with active := some { img0 with gates := [⟨0, 0, 0, 0, 1, 1, 0⟩] } }, cam.xing6 := [.presence 1 2] },
    by decide +kernel⟩, ⟨0, upTrk, by decide +kernel⟩, ⟨15, up, by decide +kernel⟩, ⟨15, up, by decide +kernel⟩, ⟨15,
    up, by decide +kernel⟩⟩

theorem witness_TrackCommands :
    (∃ (value : Nat) (s : State), MemCanon s ∧ s.shaped = true ∧ s.served R.MOT_TRK_DECL_HI.off = true ∧
      R.MOT_TRK_DECL_HI_GO.of value = 1 ∧ (s.gateOf (R.MOT_TRK_DECL_HI_GATE.of value)).any (fun r => r.src == 2) =
      true ∧ s.bit (R.MOT_GATE_CFG_EN (R.MOT_TRK_DECL_HI_GATE.of value)) = true ∧ s.bit R.MOT_TRK_CFG_EN = true ∧
      (List.range 512).any (fun k => s.mot.tracks.all (fun p => p.1 != k)) = true) ∧
    (∃ (value : Nat) (s : State), MemCanon s ∧ s.shaped = true ∧ s.served R.MOT_TRK_COMMIT.off = true ∧
      R.MOT_TRK_COMMIT_VERDICT.of value ∈ [1, 2, 3, 5] ∧ (s.trk? (R.MOT_TRK_COMMIT_SLOT.of value)).any (fun x => x.seq
      == s.fld R.MOT_TRK_COMMIT_SEQ_SEQ && x.st == .window && x.held.isNone) = true) ∧
    (∃ (value : Nat) (s : State), MemCanon s ∧ s.shaped = true ∧ s.served R.MOT_TRK_COMMIT.off = true ∧
      R.MOT_TRK_COMMIT_VERDICT.of value ∈ [1, 2, 3, 5] ∧ (s.trk? (R.MOT_TRK_COMMIT_SLOT.of value)).any (fun x => x.seq
      == s.fld R.MOT_TRK_COMMIT_SEQ_SEQ && x.st == .compute && (x.flags &&& (s.rd R.MOT_TRK_FORCE).toNat) % 8 == 0) =
      true) ∧
    (∃ (gill : Nat) (s : State), MemCanon s ∧ s.shaped = true ∧ s.flights.any (fun f => f.gill == gill && f.dst ==
      0x6000) = true) ∧
    (∃ (value : Nat) (s : State), MemCanon s ∧ s.shaped = true ∧ s.served R.EJ_ARM_CMD.off = true ∧ R.EJ_ARM_CMD_GO.of
      value = 1 ∧ R.EJ_ARM_CMD_OUT.of value < s.ejOuts ∧ s.armJudge (R.EJ_ARM_CMD_OUT.of value) (R.EJ_ARM_CMD_TIME.of
      value == 1) (if R.EJ_ARM_CMD_TIME.of value = 1 then s.pair R.EJ_ARM_KEY_LO_KEY_LO R.EJ_ARM_KEY_HI_KEY_HI else
      s.pair R.EJ_ARM_KEY_LO_KEY_LO R.EJ_ARM_KEY_HI_KEY_HI % 2 ^ 48) = none) :=
  ⟨⟨0x80000010, upTrk, by decide +kernel⟩, ⟨0x405,
    { upTrk with mot.tracks := [(5, { trk0 with st := .window })] }.setF R.MOT_TRK_COMMIT_SEQ_SEQ 9,
    by decide +kernel⟩, ⟨0x405, { upTrk with mot.tracks := [(5, { trk0 with st := .compute })] }.setF
    R.MOT_TRK_COMMIT_SEQ_SEQ 9, by decide +kernel⟩, ⟨63,
    { up with flights := [{ gill := 63, port := 0, dst := 0x6000, dport := 0, words := [0x10844, 0x80000010], seq := 1 }] },
    by decide +kernel⟩, ⟨0x8000000F, up.setF R.EJ_ARM_KEY_LO_KEY_LO 1000, by decide +kernel⟩⟩

theorem witness_EjectorEvents :
    (∃ (n : Nat) (s : State), MemCanon s ∧ s.shaped = true ∧ s.pwr.lost = false ∧ n < 16 ∧ n < s.ejOuts ∧ s.ejEnabled
      n = true ∧ s.ejSt n = 0 ∧ (s.ej n).counts = [] ∧ (s.ej n).times.any (fun a => !a.fresh && decide (a.key ≤
      s.motNow)) = true ∧ s.fld (R.EJ_OUT_TIMING_ON_DELAY_US n) = 0) ∧
    (∃ (out : Nat) (s : State), MemCanon s ∧ s.shaped = true ∧ s.ejSt out = 1 ∧ out < s.ejOuts ∧ s.pwr.lost = false ∧
      (s.ej out).endAt ≤ s.now) ∧
    (∃ (out : Nat) (s : State), MemCanon s ∧ s.shaped = true ∧ s.ejSt out = 2 ∧ out < s.ejOuts ∧ (s.ej out).endCnt =
      none ∧ (s.ej out).endAt ≤ s.now) ∧
    (∃ (out : Nat) (s : State), MemCanon s ∧ s.shaped = true ∧ s.ejSt out = 3 ∧ out < s.ejOuts ∧ (s.ej out).endAt ≤
      s.now ∧ (s.ej out).held = [] ∧ s.mot.outs.all (fun x => x.counts.isEmpty && x.times.isEmpty && x.endCnt.isNone)
      = true) ∧
    (∃ (out : Nat) (s : State), MemCanon s ∧ s.shaped = true ∧ s.ejSt out = 2 ∧ out < s.ejOuts ∧ (s.ej out).onAt +
      1000000 * s.fld (R.EJ_OUT_LIMIT_MAX_ON_MS out) ≤ s.now) ∧
    (∃ (out : Nat) (s : State), MemCanon s ∧ s.shaped = true ∧ out < s.ejOuts ∧ out < 16) ∧
    (∃ s : State, MemCanon s ∧ s.shaped = true ∧ s.served R.EJ_CTRL.off = true) ∧
    (∃ (out : Nat) (s : State), MemCanon s ∧ s.shaped = true ∧ out < 16 ∧ s.served (R.EJ_OUT_CFG out).off = true) ∧
    (∃ (out : Nat) (value : Nat) (s : State), MemCanon s ∧ s.shaped = true ∧ out < 16 ∧ s.served (R.EJ_OUT_CTRL
      out).off = true ∧ (R.EJ_OUT_CTRL_FLUSH out).of value = 1) ∧
    (∃ s : State, MemCanon s ∧ s.shaped = true ∧ s.served (R.EJ_LOG_DATA 0).off = true) :=
  ⟨⟨0, ({ up with mot.outs := setAt up.mot.outs 0 { times := [{ key := 0, time := true, fresh := false }] } }.setF
    R.EJ_CTRL_EN 1).setF (R.EJ_OUT_CFG_EN 0) 1, by decide +kernel⟩, ⟨15, up.setF (R.EJ_OUT_STATUS_STATE 15) 1,
    by decide +kernel⟩, ⟨15, up.setF (R.EJ_OUT_STATUS_STATE 15) 2, by decide +kernel⟩, ⟨15, up.setF
    (R.EJ_OUT_STATUS_STATE 15) 3, by decide +kernel⟩, ⟨15,
    { up.setF (R.EJ_OUT_STATUS_STATE 15) 2 with now := 100000000000 }, by decide +kernel⟩, ⟨15,
    { up with mot.outs := setAt up.mot.outs 15 { held := [⟨{ key := 0 }, 0, 0⟩, ⟨{ key := 1 }, 100000000000, 0⟩] }, now := 100000000000 },
    by decide +kernel⟩, ⟨up, by decide +kernel⟩, ⟨15, up, by decide +kernel⟩, ⟨15, 1,
    { up with mot.outs := setAt up.mot.outs 15 { times := [{ key := 0, time := true, fresh := false }] } },
    by decide +kernel⟩, ⟨{ up with mot.log := { ents := [(0, List.replicate 32 7)] } }, by decide +kernel⟩⟩

theorem witness_ClockCommands :
    (∃ s : State, MemCanon s ∧ s.shaped = true ∧ s.time.copy = none ∧ s.time.runs = false ∧ s.time.stopAt + 1000 ≤
      s.now) ∧
    (∃ s : State, MemCanon s ∧ s.shaped = true ∧ s.served R.PTP_RATE.off = true ∧ s.fld R.PTP_SERVO_CFG_MODE = 1) ∧
    (∃ (value : Nat) (s : State), MemCanon s ∧ s.shaped = true ∧ s.served R.PTP_STEP_CTRL.off = true ∧
      R.PTP_STEP_CTRL_GO.of value = 1 ∧ s.fld R.PTP_SERVO_CFG_MODE = 1 ∧ s.time.step = none ∧ s.fld
      R.PTP_STEP_NS_STEP_NS < giga ∧ 0 ≤ s.ptpNs + signed 64 (s.pair R.PTP_STEP_SEC_LO_STEP_SEC_LO
      R.PTP_STEP_SEC_HI_STEP_SEC_HI) * giga) ∧
    (∃ s : State, MemCanon s ∧ s.shaped = true ∧ s.time.runs = true ∧ s.time.step.any (fun d => decide (d.2 < giga ∧ 0
      ≤ s.ptpNs + (d.1 * giga + d.2))) = true) ∧
    (∃ (value : Nat) (s : State), MemCanon s ∧ s.shaped = true ∧ s.served R.PTP_CFG.off = true ∧ s.bit R.PTP_CFG_EN =
      false ∧ R.PTP_CFG_ROLE.of value ≤ 1) ∧
    (∃ (port : Nat) (s : State), MemCanon s ∧ s.shaped = true ∧ s.bit R.PTP_CFG_EN = true ∧ s.fld R.PTP_STATUS_SYNC ≠
      3 ∧ port < 2 ∧ s.time.heardAt + s.fld R.PTP_HOLD_HOLD_MS * 1000000 ≤ s.now) :=
  ⟨⟨{ State.reset with now := 1000 }, by decide +kernel⟩, ⟨up.setF R.PTP_SERVO_CFG_MODE 1, by decide +kernel⟩,
    ⟨0x80000000, (up.setF R.PTP_SERVO_CFG_MODE 1).setF R.PTP_STEP_NS_STEP_NS 999999999, by decide +kernel⟩,
    ⟨{ up with time.step := some (1, 999999999), time.runs := true }.setF R.PTP_STATUS_STEP_SEQ 255,
    by decide +kernel⟩, ⟨1, up, by decide +kernel⟩, ⟨1, (up.setF R.PTP_CFG_EN 1).setF R.PTP_HOLD_HOLD_MS 0,
    by decide +kernel⟩⟩

theorem witness_ClockMessagesAndQueues :
    (∃ (port : Nat) (domain : Nat) (inSubset : Bool) (took : Nat) (s : State), MemCanon s ∧ s.shaped = true ∧ port < 2
      ∧ s.ptpPort port = true ∧ inSubset = true ∧ domain = s.fld R.PTP_CFG_DOMAIN ∧ took = 0 ∧ s.time.rx.length < 32)
      ∧
    (∃ (port : Nat) (took : Nat) (s : State), MemCanon s ∧ s.shaped = true ∧ port < 2 ∧ s.ptpPort port = true ∧ took =
      0 ∧ s.bit R.PTP_CFG_ONE_STEP = false ∧ (s.time.tx.getD port []).length < 16) ∧
    (∃ (port : Nat) (s : State), MemCanon s ∧ s.shaped = true ∧ s.ptpPort port = true ∧ s.time.samples.length < 16 ∧
      port < 2) ∧
    (∃ s : State, MemCanon s ∧ s.shaped = true ∧ s.served R.PTP_SNAP_FRAC.off = true) ∧
    (∃ s : State, MemCanon s ∧ s.shaped = true ∧ s.served R.PTP_OFS_NS.off = true) ∧
    (∃ (value : Nat) (s : State), MemCanon s ∧ s.shaped = true ∧ s.served R.PTP_EVT_MARK_HI.off = true ∧ s.encChans ≤
      R.PTP_EVT_MARK_HI_MARK_CHAN.of value) :=
  ⟨⟨0, 0, true, 0, (({ up with time.runs := true, pwr.ethDrive := true }.setF R.PTP_CFG_EN 1).setF
    (R.PTP_PORT_STATUS_LINK 0) 1).setF R.PTP_CFG_ROLE 1, by decide +kernel⟩, ⟨0, 0,
    (({ up with time.runs := true, pwr.ethDrive := true }.setF R.PTP_CFG_EN 1).setF (R.PTP_PORT_STATUS_LINK 0) 1).setF
    R.PTP_CFG_ROLE 1, by decide +kernel⟩, ⟨0, (({ up with time.runs := true, pwr.ethDrive := true }.setF R.PTP_CFG_EN
    1).setF (R.PTP_PORT_STATUS_LINK 0) 1).setF R.PTP_CFG_ROLE 1, by decide +kernel⟩,
    ⟨{ up with time.mono := 5000000007 }, by decide +kernel⟩, ⟨{ up with time.ofs := -7 }, by decide +kernel⟩,
    ⟨0xFFFFFFFF, up.setF R.SYS_CAP_UNITS_ENC_CH 3, by decide +kernel⟩⟩

theorem witness_CameraPortStates :
    (∃ (port : Nat) (value : Nat) (s : State), MemCanon s ∧ s.shaped = true ∧ port < 8 ∧ port < s.cxpPorts ∧ s.served
      (R.CXP_PORT_CFG port).off = true ∧ s.portTaken port = false ∧ ((R.CXP_PORT_CFG_EN port).of value = 0 ∨ s.bit
      (R.CXP_PORT_CFG_EN port) = false)) ∧
    (∃ (port : Nat) (s : State), MemCanon s ∧ s.shaped = true ∧ port < 8 ∧ port < s.cxpPorts ∧ s.pst port = 1 ∧
      s.portPowered port = true) ∧
    (∃ (port : Nat) (s : State), MemCanon s ∧ s.shaped = true ∧ port < 8 ∧ port < s.cxpPorts ∧ s.pst port = 2) ∧
    (∃ (port : Nat) (s : State), MemCanon s ∧ s.shaped = true ∧ port < 8 ∧ port < s.cxpPorts ∧ s.pst port = 2 ∧
      s.portFor port 500000000 = true) ∧
    (∃ (port : Nat) (s : State), MemCanon s ∧ s.shaped = true ∧ port < 8 ∧ port < s.cxpPorts ∧ s.pst port = 3) ∧
    (∃ (port : Nat) (s : State), MemCanon s ∧ s.shaped = true ∧ port < 8 ∧ port < s.cxpPorts ∧ s.pst port = 3 ∧
      s.portFor port 200000000 = true) ∧
    (∃ (port : Nat) (lane : Nat) (s : State), MemCanon s ∧ s.shaped = true ∧ port < 8 ∧ port < s.cxpPorts ∧ (s.pst
      port = 4 ∨ s.pst port = 5) ∧ (s.portLanes port).contains lane = true ∧ (s.ln lane).retrain = false) ∧
    (∃ (port : Nat) (s : State), MemCanon s ∧ s.shaped = true ∧ port < 8 ∧ port < s.cxpPorts ∧ s.pst port = 6 ∧
      s.portFor port 100000000 = true) ∧
    (∃ (port : Nat) (s : State), MemCanon s ∧ s.shaped = true ∧ port < 8 ∧ port < s.cxpPorts ∧ s.pst port = 5 ∧
      s.portQuiet port = true) :=
  ⟨⟨7, 1, up, by decide +kernel⟩, ⟨7, upCam 1 0, by decide +kernel⟩, ⟨7, upCam 2 0, by decide +kernel⟩, ⟨7,
    { upCam 2 0 with now := 600000000 }, by decide +kernel⟩, ⟨7, upCam 3 0, by decide +kernel⟩, ⟨7,
    { upCam 3 0 with now := 600000000 }, by decide +kernel⟩, ⟨7, 14, withPort (upCam 4 1)
    { outst := [trig0], waits := [trig0] }, by decide +kernel⟩, ⟨7, { upCam 6 0 with now := 600000000 },
    by decide +kernel⟩, ⟨7, { upCam 5 0 with now := 600000000 }, by decide +kernel⟩⟩

theorem witness_CameraControl :
    (∃ (port : Nat) (value : Nat) (s : State), MemCanon s ∧ s.shaped = true ∧ port < 8 ∧ port < s.cxpPorts ∧ s.served
      (R.CXP_CTRL_CMD port).off = true ∧ (R.CXP_CTRL_CMD_GO port).of value = 1 ∧ s.bit (R.CXP_CTRL_STATUS_BUSY port) =
      false ∧ (s.pst port = 4 ∨ s.pst port = 5)) ∧
    (∃ (port : Nat) (s : State), MemCanon s ∧ s.shaped = true ∧ port < 8 ∧ port < s.cxpPorts ∧ s.bit
      (R.CXP_CTRL_STATUS_BUSY port) = true) ∧
    (∃ (port : Nat) (negative : Bool) (bad : Bool) (s : State), MemCanon s ∧ s.shaped = true ∧ port < 8 ∧ port <
      s.cxpPorts ∧ s.bit (R.CXP_CTRL_STATUS_BUSY port) = true ∧ (negative = true ∨ bad = true)) ∧
    (∃ (port : Nat) (s : State), MemCanon s ∧ s.shaped = true ∧ port < 8 ∧ port < s.cxpPorts ∧ s.bit
      (R.CXP_CTRL_STATUS_BUSY port) = true ∧ (s.port port).ctrlAt + 1000000 * s.fld (R.CXP_CTRL_TMO_MS port) ≤ s.now)
      :=
  ⟨⟨7, 0xC0000000, upCam 4 0, by decide +kernel⟩, ⟨7, (upCam 4 0).setB (R.CXP_CTRL_STATUS_BUSY 7) true,
    by decide +kernel⟩, ⟨7, true, false, (upCam 4 0).setB (R.CXP_CTRL_STATUS_BUSY 7) true, by decide +kernel⟩, ⟨7,
    { (upCam 4 0).setB (R.CXP_CTRL_STATUS_BUSY 7) true with now := 1000000000000 }, by decide +kernel⟩⟩

theorem witness_CameraTriggers :
    (∃ (port : Nat) (s : State), MemCanon s ∧ s.shaped = true ∧ port < 8 ∧ port < s.cxpPorts ∧ s.fld
      (R.CXP_TRIG_CFG_SRC port) = 3 ∧ s.fld (R.CXP_TRIG_PERIOD_PERIOD_US port) ≠ 0 ∧ s.timeDue port = true ∧ s.pst
      port = 4 ∧ s.trigOff = false ∧ (s.port port).open_ < s.fld (R.CXP_TRIG_CFG_MAX_OUT port) ∧ (s.port port).waits =
      [] ∧ (s.port port).lastAt.all (fun a => decide (a + s.fld (R.CXP_TRIG_MINP_MIN_PERIOD_NS port) ≤ s.now)) = true)
      ∧
    (∃ (port : Nat) (value : Nat) (s : State), MemCanon s ∧ s.shaped = true ∧ port < 8 ∧ port < s.cxpPorts ∧ s.served
      (R.CXP_TRIG_SOFT port).off = true ∧ (R.CXP_TRIG_SOFT_GO port).of value = 1 ∧ s.fld (R.CXP_TRIG_CFG_SRC port) = 4
      ∧ s.pst port = 4 ∧ s.trigOff = false ∧ (s.port port).open_ < s.fld (R.CXP_TRIG_CFG_MAX_OUT port) ∧ (s.port
      port).waits = [] ∧ (s.port port).lastAt.all (fun a => decide (a + s.fld (R.CXP_TRIG_MINP_MIN_PERIOD_NS port) ≤
      s.now)) = true) ∧
    (∃ (port : Nat) (x : Trig) (l : List Trig) (s : State), MemCanon s ∧ s.shaped = true ∧ port < 8 ∧ port <
      s.cxpPorts ∧ (s.port port).waits = x :: l ∧ x.void = false ∧ s.pst port = 4 ∧ s.trigOff = false ∧ (s.port
      port).open_ < s.fld (R.CXP_TRIG_CFG_MAX_OUT port) ∧ (s.port port).lastAt.all (fun a => decide (a + s.fld
      (R.CXP_TRIG_MINP_MIN_PERIOD_NS port) ≤ s.now)) = true) ∧
    (∃ (port : Nat) (value : Nat) (s : State), MemCanon s ∧ s.shaped = true ∧ port < 8 ∧ port < s.cxpPorts ∧ s.served
      (R.CXP_TRIG_CFG port).off = true ∧ (R.CXP_TRIG_CFG_SRC port).of value ≤ 4 ∧ (R.CXP_TRIG_CFG_SRC port).of value ≠
      1 ∧ (s.port port).waits = []) ∧
    (∃ (port : Nat) (s : State), MemCanon s ∧ s.shaped = true ∧ port < 8 ∧ port < s.cxpPorts ∧ s.pst port = 4 ∧ s.fld
      (R.CXP_TRIG_CFG_SRC port) = 1 ∧ (s.port port).outst.head?.any (fun x => decide (x.at_ + 1000 * s.fld
      (R.CXP_WDOG_LINE_US port) ≤ s.now)) = true) ∧
    (∃ (port : Nat) (s : State), MemCanon s ∧ s.shaped = true ∧ port < 8 ∧ port < s.cxpPorts ∧ s.pst port = 4 ∧ s.fld
      (R.CXP_TRIG_CFG_SRC port) ≠ 1 ∧ (s.port port).outst.head?.any (fun x => decide (x.at_ + 1000000 * s.fld
      (R.CXP_WDOG_FRAME_MS port) ≤ s.now)) = true) :=
  ⟨⟨7, (upCam 4 3).setF (R.CXP_TRIG_PERIOD_PERIOD_US 7) 1, by decide +kernel⟩, ⟨7, 1, upCam 4 4, by decide +kernel⟩,
    ⟨7, trig0, [trig0], withPort (upCam 4 3) { waits := [trig0, trig0] }, by decide +kernel⟩, ⟨7, 0, upCam 4 0,
    by decide +kernel⟩, ⟨7, { withPort (upCam 4 1) { outst := [trig0] } with now := 1000000000 }, by decide +kernel⟩,
    ⟨7, { withPort (upCam 4 3) { outst := [trig0] } with now := 1000000000000 }, by decide +kernel⟩⟩

theorem witness_CameraData :
    (∃ (port : Nat) (lane : Nat) (stream : Nat) (s : State), MemCanon s ∧ s.shaped = true ∧ port < 8 ∧ port <
      s.cxpPorts ∧ (s.pst port = 4 ∨ s.pst port = 5) ∧ (s.portLanes port).contains lane = true ∧ stream ≠ 0) ∧
    (∃ (port : Nat) (lane : Nat) (bytes : List Byte) (g : RxImg) (x : Trig) (s : State), MemCanon s ∧ s.shaped = true
      ∧ port < 8 ∧ port < s.cxpPorts ∧ s.pst port = 4 ∧ (s.portLanes port).contains lane = true ∧ (s.portLanes
      port).length = 1 ∧ s.camMute = false ∧ (s.camRec port).isSome = true ∧ s.fld (R.CXP_TRIG_CFG_SRC port) = 1 ∧
      (s.port port).img = some g ∧ g.rejected = false ∧ g.bad = false ∧ g.pipe < 4 ∧ s.bit (R.ISP_PIPE_STATUS_HELD
      g.pipe) = false ∧ (s.port port).outst.head? = some x ∧ bytes ≠ [] ∧ bytes.length ≤ 16384 ∧ g.buf.length +
      bytes.length = headLineBytes g.head) ∧
    (∃ (port : Nat) (lane : Nat) (head : ImgHead) (s : State), MemCanon s ∧ s.shaped = true ∧ port < 8 ∧ port <
      s.cxpPorts ∧ s.pst port = 4 ∧ (s.portLanes port).contains lane = true ∧ (s.portLanes port).length = 1 ∧
      head.stream = 0 ∧ s.camMute = false ∧ s.headBad port head = none ∧ s.fld (R.CXP_TRIG_CFG_SRC port) = 1 ∧ (s.port
      port).img = none ∧ (s.port port).rebind = none) ∧
    (∃ (port : Nat) (lane : Nat) (head : ImgHead) (x : Trig) (s : State), MemCanon s ∧ s.shaped = true ∧ port < 8 ∧
      port < s.cxpPorts ∧ s.pst port = 4 ∧ (s.portLanes port).contains lane = true ∧ (s.portLanes port).length = 1 ∧
      head.stream = 0 ∧ s.camMute = false ∧ s.headBad port head = none ∧ 2 ≤ s.fld (R.CXP_TRIG_CFG_SRC port) ∧ s.bit
      (R.CXP_BIND_MODE port) = false ∧ s.bit (R.ISP_PIPE_STATUS_HELD (s.fld (R.CXP_BIND_CURRENT port))) = false ∧
      (s.port port).oldest = some x ∧ (s.port port).img = none ∧ (s.port port).rebind = none) ∧
    (∃ (pipe : Nat) (s : State), MemCanon s ∧ s.shaped = true ∧ pipe < 4 ∧ (s.ispRec pipe).isSome = true ∧ (s.pipe
      pipe).inq ≠ [] ∧ s.pipeFree pipe = true) ∧
    (∃ (pipe : Nat) (q : PartImg) (s : State), MemCanon s ∧ s.shaped = true ∧ pipe < 4 ∧ (s.ispRec pipe).isSome = true
      ∧ (s.pipe pipe).parts.find? (s.partDone pipe) = some q) ∧
    (∃ (pipe : Nat) (s : State), MemCanon s ∧ s.shaped = true ∧ pipe < 4 ∧ (s.ispRec pipe).isSome = true ∧ (List.range
      8).any (fun p => (s.port p).fbs.any (fun f => f.whole && f.pipe == pipe)) = true ∧ s.pipeFree pipe = true) ∧
    (∃ (port : Nat) (value : Nat) (s : State), MemCanon s ∧ s.shaped = true ∧ port < 8 ∧ port < s.cxpPorts ∧ s.served
      (R.CXP_BIND port).off = true ∧ (R.CXP_BIND_GO port).of value = 1 ∧ s.bit (R.CXP_BIND_MODE port) = true ∧
      (s.camRec port).any (fun r => r.alt.testBit ((R.CXP_BIND_NEXT port).of value)) = true) ∧
    (∃ (port : Nat) (s : State), MemCanon s ∧ s.shaped = true ∧ port < 8 ∧ port < s.cxpPorts ∧ (s.port
      port).rebind.isSome = true ∧ s.bit (R.CXP_BIND_MODE port) = true) ∧
    (∃ (pipe : Nat) (s : State), MemCanon s ∧ s.shaped = true ∧ pipe < 4 ∧ s.served (R.ISP_OUT_HEAD pipe).off = true)
      ∧
    (∃ (pipe : Nat) (value : Nat) (s : State), MemCanon s ∧ s.shaped = true ∧ pipe < 4 ∧ s.served (R.ISP_PIPE_CELL
      pipe).off = true ∧ (s.img.active.bind (·.sync? ((R.ISP_PIPE_CELL_CELL pipe).of value))).any (fun c =>
      c.units.testBit 3) = true) :=
  ⟨⟨7, 14, 1, upCam 4 0, by decide +kernel⟩, ⟨7, 14, [2, 3, 4], { head := head0, buf := [1], pipe := 3 }, trig0,
    withPort (upCam 4 1)
    { img := some { head := head0, buf := [1], pipe := 3 }, outst := [trig0, { trig0 with void := true }] },
    by decide +kernel⟩, ⟨7, 14, head0, upCam 4 1, by decide +kernel⟩, ⟨7, 14, { head0 with area := true }, trig0,
    withPort (upCam 4 3) { outst := [trig0] }, by decide +kernel⟩, ⟨3, withPipe (upCam 4 1)
    { inq := [inLine0, inLine0] }, by decide +kernel⟩, ⟨3, { part0 with closed := true }, withPipe (upCam 4 1)
    { parts := [{ part0 with closed := true }] }, by decide +kernel⟩, ⟨3, withPort (upCam 4 3)
    { fbs := [{ slot := 0, head := head0, trig := trig0, seq := 0, pipe := 3, whole := true }] }, by decide +kernel⟩,
    ⟨7, 0x103, (upCam 4 3).setB (R.CXP_BIND_MODE 7) true, by decide +kernel⟩, ⟨7, (withPort (upCam 4 3)
    { rebind := some 2 }).setB (R.CXP_BIND_MODE 7) true, by decide +kernel⟩, ⟨3, upCam 4 1, by decide +kernel⟩, ⟨3, 5,
    upCam 4 1, by decide +kernel⟩⟩

theorem witness_LaneCommands :
    (∃ (lane : Nat) (s : State), MemCanon s ∧ s.shaped = true ∧ lane < 24 ∧ s.served (R.LANE_TX_CMD lane).off = true ∧
      s.bit (R.LANE_STATUS_OWNED lane) = false ∧ s.laneDown lane = false ∧ s.synth (quadOf lane) = 3 ∧ (s.ln
      lane).held = none ∧ s.ceiling 0 = true) ∧
    (∃ (lane : Nat) (s : State), MemCanon s ∧ s.shaped = true ∧ lane < 24 ∧ s.served (R.LANE_TX_CMD lane).off = true ∧
      s.bit (R.LANE_STATUS_OWNED lane) = false ∧ s.laneDown lane = false ∧ s.synth (quadOf lane) ≠ 3 ∧ (s.ln
      lane).held = none ∧ s.ceiling 0 = true) ∧
    (∃ (lane : Nat) (s : State), MemCanon s ∧ s.shaped = true ∧ lane < 24 ∧ s.served (R.LANE_TX_CMD lane).off = true ∧
      s.bit (R.LANE_STATUS_OWNED lane) = false ∧ s.laneDown lane = false ∧ s.synth (quadOf lane) = 3 ∧ (s.ln
      lane).held = none ∧ s.ceiling 1 = true) ∧
    (∃ (lane : Nat) (s : State), MemCanon s ∧ s.shaped = true ∧ lane < 24 ∧ s.served (R.LANE_TX_CMD lane).off = true ∧
      s.bit (R.LANE_STATUS_OWNED lane) = false ∧ s.laneDown lane = false ∧ s.ceiling 2 = true) ∧
    (∃ (lane : Nat) (s : State), MemCanon s ∧ s.shaped = true ∧ lane < 24 ∧ s.served (R.LANE_TX_CMD lane).off = true ∧
      s.bit (R.LANE_STATUS_OWNED lane) = false ∧ s.laneDown lane = false ∧ s.ceiling 3 = true) ∧
    (∃ (lane : Nat) (s : State), MemCanon s ∧ s.shaped = true ∧ lane < 24 ∧ s.served (R.LANE_TX_CMD lane).off = true ∧
      s.bit (R.LANE_STATUS_OWNED lane) = false ∧ s.laneDown lane = false ∧ s.synth (quadOf lane) = 3 ∧ (s.ln
      lane).held = none) ∧
    (∃ (lane : Nat) (s : State), MemCanon s ∧ s.shaped = true ∧ lane < 24 ∧ s.served (R.LANE_TX_CMD lane).off = true ∧
      s.bit (R.LANE_STATUS_OWNED lane) = false ∧ s.laneDown lane = false ∧ s.synth (quadOf lane) = 3 ∧ (s.ln
      lane).held = none) ∧
    (∃ (lane : Nat) (s : State), MemCanon s ∧ s.shaped = true ∧ lane < 24 ∧ s.served (R.LANE_TX_CMD lane).off = true ∧
      s.bit (R.LANE_STATUS_OWNED lane) = false ∧ s.laneDown lane = false) ∧
    (∃ (lane : Nat) (value : Nat) (s : State), MemCanon s ∧ s.shaped = true ∧ lane < 24 ∧ s.served (R.LANE_RX_CMD
      lane).off = true ∧ s.bit (R.LANE_STATUS_OWNED lane) = false ∧ s.laneDown lane = false ∧ (R.LANE_RX_CMD_GO
      lane).of value = 1 ∧ s.ceiling ((R.LANE_RX_CMD_STATE lane).of value) = true) ∧
    (∃ (lane : Nat) (value : Nat) (s : State), MemCanon s ∧ s.shaped = true ∧ lane < 24 ∧ s.served (R.LANE_CFG
      lane).off = true ∧ s.bit (R.LANE_STATUS_OWNED lane) = false ∧ s.laneDown lane = false ∧ (R.LANE_CFG_LOOP
      lane).of value ≤ 2) ∧
    (∃ (lane : Nat) (value : Nat) (s : State), MemCanon s ∧ s.shaped = true ∧ lane < 24 ∧ s.served (R.LANE_PRBS
      lane).off = true ∧ (R.LANE_PRBS_CHK_EN lane).of value = 1) :=
  ⟨⟨23, upSyn.setF (R.LANE_STATUS_TX_STATE 23) 1, by decide +kernel⟩, ⟨23, up.setF (R.LANE_STATUS_TX_STATE 23) 1,
    by decide +kernel⟩, ⟨23, upSyn, by decide +kernel⟩, ⟨23, upSyn, by decide +kernel⟩, ⟨23, upSyn,
    by decide +kernel⟩, ⟨23, upSyn, by decide +kernel⟩, ⟨23, upSyn, by decide +kernel⟩, ⟨23, upSyn,
    by decide +kernel⟩, ⟨23, 0x80000003, upSyn, by decide +kernel⟩, ⟨23, 1, upSyn, by decide +kernel⟩, ⟨23, 0x1000,
    upSyn, by decide +kernel⟩⟩

theorem witness_LaneEvents :
    (∃ (quad : Nat) (s : State), MemCanon s ∧ s.shaped = true ∧ s.synth quad = 1 ∧ quad < 6) ∧
    (∃ (quad : Nat) (s : State), MemCanon s ∧ s.shaped = true ∧ s.synth quad = 1 ∧ quad < 6) ∧
    (∃ (quad : Nat) (s : State), MemCanon s ∧ s.shaped = true ∧ s.synth quad = 2 ∧ quad < 6 ∧ (quadLanes quad).all
      (fun l => (s.ln l).held.all (fun c => needsSynth c.1 && decide (s.now ≤ s.heldDue l c))) = true) ∧
    (∃ (quad : Nat) (s : State), MemCanon s ∧ s.shaped = true ∧ s.synth quad = 2 ∧ quad < 6) ∧
    (∃ (lane : Nat) (s : State), MemCanon s ∧ s.shaped = true ∧ lane < 24 ∧ (s.ln lane).held.any (fun c => decide
      (s.heldDue lane c ≤ s.now)) = true) ∧
    (∃ (lane : Nat) (s : State), MemCanon s ∧ s.shaped = true ∧ lane < 24 ∧ s.laneHere lane = true ∧ s.rxOf lane = 0 ∧
      (s.ln lane).retrain = false ∧ (s.ln lane).guardAt.any (fun d => decide (s.now ≤ d)) = true) ∧
    (∃ (lane : Nat) (s : State), MemCanon s ∧ s.shaped = true ∧ lane < 24 ∧ s.laneHere lane = true ∧ s.rxOf lane = 0 ∧
      (s.ln lane).retrain = false ∧ (s.ln lane).guardAt = none) ∧
    (∃ (lane : Nat) (s : State), MemCanon s ∧ s.shaped = true ∧ lane < 24 ∧ (s.ln lane).guardAt.any (fun d => decide
      (d ≤ s.now)) = true) ∧
    (∃ (lane : Nat) (s : State), MemCanon s ∧ s.shaped = true ∧ lane < 24 ∧ (s.ln lane).retrain = true) ∧
    (∃ (lane : Nat) (port : Nat) (s : State), MemCanon s ∧ s.shaped = true ∧ lane < 24 ∧ (s.ln lane).retrain = true ∧
      s.laneOwner lane = some port ∧ (s.pst port = 4 ∨ s.pst port = 5)) ∧
    (∃ (lane : Nat) (s : State), MemCanon s ∧ s.shaped = true ∧ lane < 24 ∧ s.laneHere lane = true ∧ s.rxOf lane = 0)
      :=
  ⟨⟨5, { upSyn with lanes.synth := [3, 3, 3, 3, 3, 1] }, by decide +kernel⟩, ⟨5,
    { upSyn with lanes.synth := [3, 3, 3, 3, 3, 1] }, by decide +kernel⟩, ⟨5,
    { setLane upSyn 22 { held := some (1, 0) } with lanes.synth := [3, 3, 3, 3, 3, 2] }, by decide +kernel⟩, ⟨5,
    { upSyn with lanes.synth := [3, 3, 3, 3, 3, 2] }, by decide +kernel⟩, ⟨23,
    { setLane upSyn 23 { held := some (0, 0) } with now := 1000000000 }, by decide +kernel⟩, ⟨23, (setLane upSyn 23
    { guardAt := some 5 }).setF (R.LANE_STATUS_RX_STATE 23) 0, by decide +kernel⟩, ⟨23, upSyn.setF
    (R.LANE_STATUS_RX_STATE 23) 0, by decide +kernel⟩, ⟨15, { setLane upSyn 15 { guardAt := some 5 } with now := 9 },
    by decide +kernel⟩, ⟨15, setLane upSyn 15 { retrain := true }, by decide +kernel⟩, ⟨14, 7, setLane (upCam 4 1) 14
    { retrain := true }, by decide +kernel⟩, ⟨15, upSyn.setF (R.LANE_STATUS_RX_STATE 15) 0, by decide +kernel⟩⟩

theorem witness_RingLinks :
    (∃ (value : Nat) (s : State), MemCanon s ∧ s.shaped = true ∧ s.served R.RING_CTRL.off = true ∧ value % 8 = 0 ∧
      s.fld R.RING_CTRL_EN = 1 ∧ (s.rd R.RING_CTRL).toNat < 2 ∧ s.link 0 ≠ 4 ∧ s.link 1 ≠ 4) ∧
    (∃ (value : Nat) (s : State), MemCanon s ∧ s.shaped = true ∧ s.served R.RING_CTRL.off = true ∧ value &&&
      R.RING_CTRL.rw = 1 ∧ (s.rd R.RING_CTRL).toNat = 0 ∧ s.ringRec.isSome = true) ∧
    (∃ (value : Nat) (s : State), MemCanon s ∧ s.shaped = true ∧ s.served R.RING_CTRL.off = true ∧ value &&&
      R.RING_CTRL.rw = 3 ∧ s.fld R.RING_CTRL_EN = 1 ∧ (s.rd R.RING_CTRL).toNat < 2 ∧ s.linkUp 0 = false) ∧
    (∃ (side : Nat) (how : TrainEnd) (s : State), MemCanon s ∧ s.shaped = true ∧ side < 2 ∧ s.link side = 1 ∧ (how
      matches .up _) = false) ∧
    (∃ (side : Nat) (s : State), MemCanon s ∧ s.shaped = true ∧ side < 2 ∧ s.link side = 1 ∧ s.bit
      R.PWR_RELAY_RING_POS = true) ∧
    (∃ (side : Nat) (s : State), MemCanon s ∧ s.shaped = true ∧ side < 2 ∧ (s.side side).failedAt.any (fun t => decide
      (t + 10000000 ≤ s.now)) = true ∧ s.link side = 0) ∧
    (∃ (side : Nat) (ackSeq : Nat) (n : Nat) (s : State), MemCanon s ∧ s.shaped = true ∧ side < 2 ∧ s.linkUp side =
      true ∧ (s.side side).wait = [] ∧ (ackSeq + 4096 - ((s.side side).next + 4096 - (s.side side).buf.length) % 4096)
      % 4096 = n ∧ n ≤ (s.side side).buf.length ∧ s.ring.owed = []) ∧
    (∃ (side : Nat) (seq : Nat) (n : Nat) (s : State), MemCanon s ∧ s.shaped = true ∧ side < 2 ∧ s.linkUp side = true
      ∧ (s.side side).wait = [] ∧ (seq + 4096 - ((s.side side).next + 4096 - (s.side side).buf.length) % 4096) % 4096
      = n ∧ n < (s.side side).buf.length ∧ s.ring.owed = [] ∧ ((s.side side).buf.drop n).head?.any (fun e => decide
      (e.replays < (s.side side).retryMax)) = true) ∧
    (∃ (side : Nat) (s : State), MemCanon s ∧ s.shaped = true ∧ side < 2 ∧ s.linkUp side = true ∧ (s.side
      side).buf.head?.any (fun e => decide (e.lastAt + (s.side side).ackTmo ≤ s.now ∧ e.replays < (s.side
      side).retryMax)) = true) ∧
    (∃ (side : Nat) (s : State), MemCanon s ∧ s.shaped = true ∧ side < 2 ∧ s.linkUp side = true ∧ (s.side
      side).txSleep = false ∧ (s.side side).buf = [] ∧ (s.side side).wait = [] ∧ s.fld R.RING_LINK_CFG_SLEEP_US ≠ 0 ∧
      (s.side side).idleAt + 1000 * s.fld R.RING_LINK_CFG_SLEEP_US ≤ s.now) ∧
    (∃ (side : Nat) (s : State), MemCanon s ∧ s.shaped = true ∧ side < 2 ∧ s.hasRing = true ∧ s.linkUp side = true ∧
      s.rst ≠ 4 ∧ s.rst ≠ 5) ∧
    (∃ (side : Nat) (s : State), MemCanon s ∧ s.shaped = true ∧ side < 2 ∧ s.hasRing = true ∧ s.linkUp side = true ∧
      (s.rst = 4 ∨ s.rst = 5)) ∧
    (∃ (side : Nat) (h : RingHead) (s : State), MemCanon s ∧ s.shaped = true ∧ side < 2 ∧ s.hasRing = true ∧ s.linkUp
      side = true ∧ (s.side side).rxSleep = false ∧ h.crcOk = true ∧ h.ack = none ∧ h.seq = (s.side side).expect ∧
      h.src ≠ s.rpos ∧ (s.rst = 4 ∨ s.rst = 5)) ∧
    (∃ (side : Nat) (present : Nat) (s : State), MemCanon s ∧ s.shaped = true ∧ side < 2 ∧ (if s.linkUp side then
      (s.side side).cut.map (·.2) else (s.side side).lostAt).any (fun t => decide (t + 1000000 * s.fld
      R.RING_TMO_LINK_TMO_MS ≤ s.now)) = true ∧ (s.rst = 2 ∨ s.rst = 6) ∧ lowPos (present % 256 ||| 2 ^ s.rpos) =
      s.rpos) ∧
    (∃ (side : Nat) (present : Nat) (s : State), MemCanon s ∧ s.shaped = true ∧ side < 2 ∧ (if s.linkUp side then
      (s.side side).cut.map (·.2) else (s.side side).lostAt).any (fun t => decide (t + 1000000 * s.fld
      R.RING_TMO_LINK_TMO_MS ≤ s.now)) = true ∧ (s.rst = 2 ∨ s.rst = 6) ∧ lowPos (present % 256 ||| 2 ^ s.rpos) ≠
      s.rpos) :=
  ⟨⟨0, upRing 4, by decide +kernel⟩, ⟨1, (upRing 0).setF R.RING_CTRL_EN 0, by decide +kernel⟩, ⟨3, (upRing 2).setF
    (R.RING_SIDE_STATUS_LINK 0) 0, by decide +kernel⟩, ⟨1, (.fail 3), (upRing 2).setF (R.RING_SIDE_STATUS_LINK 1) 1,
    by decide +kernel⟩, ⟨1, ((upRing 3).setF (R.RING_SIDE_STATUS_LINK 1) 1).setB R.PWR_RELAY_RING_POS true,
    by decide +kernel⟩, ⟨1,
    { (setSide0 (upRing 2) { failedAt := some 0 }).setF (R.RING_SIDE_STATUS_LINK 1) 0 with now := 10000000 },
    by decide +kernel⟩, ⟨1, 1, 1, setSide0 (upRing 4) { buf := [⟨0, { src := 1, dst := 2 }, 0, 0, 0⟩], next := 1 },
    by decide +kernel⟩, ⟨1, 1, 1, setSide0 (upRing 4)
    { buf := [⟨0, { src := 1, dst := 2 }, 0, 0, 0⟩, ⟨1, { src := 1, dst := 2 }, 0, 0, 0⟩], next := 2 },
    by decide +kernel⟩, ⟨1,
    { setSide0 (upRing 4) { buf := [⟨0, { src := 1, dst := 2 }, 0, 0, 0⟩], next := 1 } with now := 100000000 },
    by decide +kernel⟩, ⟨1, { (upRing 4).setF R.RING_LINK_CFG_SLEEP_US 5 with now := 5000 }, by decide +kernel⟩, ⟨1,
    upRing 2, by decide +kernel⟩, ⟨1, upRing 4, by decide +kernel⟩, ⟨1, rhead, upRing 4, by decide +kernel⟩, ⟨1, 4,
    { (setSide0 (upRing 6) { lostAt := some 0 }).setF (R.RING_SIDE_STATUS_LINK 1) 1 with now := 1000000000000 },
    by decide +kernel⟩, ⟨1, 5,
    { (setSide0 (upRing 6) { lostAt := some 0 }).setF (R.RING_SIDE_STATUS_LINK 1) 1 with now := 1000000000000 },
    by decide +kernel⟩⟩

theorem witness_RingFrames :
    (∃ (side : Nat) (h : RingHead) (s : State), MemCanon s ∧ s.shaped = true ∧ side < 2 ∧ s.hasRing = true ∧ s.linkUp
      side = true ∧ (s.side side).rxSleep = false ∧ h.crcOk = true ∧ h.ack = none ∧ h.seq = (s.side side).expect ∧
      h.epoch = s.fld R.RING_TOPO_EPOCH ∧ h.dst = s.rpos ∧ h.src ≠ s.rpos ∧ h.endpoint / 4096 ≠ 0xB ∧ h.e2e =
      Sparse.get s.ring.e2eRx (h.src * 4 + h.vc) 0 ∧ h.e2e < 65536) ∧
    (∃ (side : Nat) (h : RingHead) (s : State), MemCanon s ∧ s.shaped = true ∧ side < 2 ∧ s.hasRing = true ∧ s.linkUp
      side = true ∧ (s.side side).rxSleep = false ∧ h.crcOk = true ∧ h.ack = none ∧ h.seq = (s.side side).expect ∧
      h.src ≠ s.rpos) ∧
    (∃ (side : Nat) (h : RingHead) (s : State), MemCanon s ∧ s.shaped = true ∧ side < 2 ∧ s.hasRing = true ∧ s.linkUp
      side = true ∧ (s.side side).rxSleep = false ∧ h.crcOk = true ∧ h.ack = none ∧ h.seq = (s.side side).expect ∧
      h.src ≠ s.rpos) ∧
    (∃ (side : Nat) (h : RingHead) (s : State), MemCanon s ∧ s.shaped = true ∧ side < 2 ∧ s.hasRing = true ∧ s.linkUp
      side = true ∧ (s.side side).rxSleep = false ∧ h.crcOk = true ∧ h.ack = none ∧ h.seq = (s.side side).expect ∧
      h.src ≠ s.rpos) ∧
    (∃ (side : Nat) (h : RingHead) (epoch : Nat) (s : State), MemCanon s ∧ s.shaped = true ∧ side < 2 ∧ s.hasRing =
      true ∧ s.linkUp side = true ∧ (s.side side).rxSleep = false ∧ h.crcOk = true ∧ h.ack = none ∧ h.seq = (s.side
      side).expect ∧ h.src ≠ s.rpos ∧ epoch % 256 = (s.fld R.RING_TOPO_EPOCH + 1) % 256) ∧
    (∃ (side : Nat) (h : RingHead) (s : State), MemCanon s ∧ s.shaped = true ∧ side < 2 ∧ s.hasRing = true ∧ s.linkUp
      side = true ∧ (s.side side).rxSleep = false ∧ h.crcOk = true ∧ h.ack = none ∧ h.seq = (s.side side).expect ∧
      h.dst = s.rpos ∧ s.bit R.RING_STATUS_MASTER = false) ∧
    (∃ (side : Nat) (h : RingHead) (s : State), MemCanon s ∧ s.shaped = true ∧ side < 2 ∧ s.hasRing = true ∧ s.linkUp
      side = true ∧ (s.side side).rxSleep = false ∧ h.crcOk = true ∧ h.ack = none ∧ h.seq = (s.side side).expect ∧
      h.dst = s.rpos ∧ s.bit R.RING_STATUS_MASTER = true ∧ s.ring.queue = []) ∧
    (∃ (side : Nat) (h : RingHead) (s : State), MemCanon s ∧ s.shaped = true ∧ side < 2 ∧ s.hasRing = true ∧ s.linkUp
      side = true ∧ (s.side side).rxSleep = false ∧ h.crcOk = true ∧ h.ack = none ∧ h.seq = (s.side side).expect ∧
      h.dst = s.rpos ∧ s.bit R.RING_LAYOUT_BUSY = true) ∧
    (∃ (side : Nat) (h : RingHead) (s : State), MemCanon s ∧ s.shaped = true ∧ side < 2 ∧ s.hasRing = true ∧ s.linkUp
      side = true ∧ (s.side side).rxSleep = false ∧ h.crcOk = true ∧ h.ack = none ∧ h.seq = (s.side side).expect ∧
      h.dst = s.rpos) ∧
    (∃ (value : Nat) (s : State), MemCanon s ∧ s.shaped = true ∧ s.served R.RING_LAYOUT.off = true ∧
      R.RING_LAYOUT_GO.of value = 1 ∧ R.RING_LAYOUT_NEXT.of value < (s.ringRec.map (·.nlayout)).getD 0 ∧ (s.rst = 4 ∨
      s.rst = 5) ∧ s.bit R.RING_LAYOUT_BUSY = false ∧ s.bit R.RING_STATUS_MASTER = false) ∧
    (∃ (value : Nat) (s : State), MemCanon s ∧ s.shaped = true ∧ s.served R.RING_LAYOUT.off = true ∧
      R.RING_LAYOUT_GO.of value = 1 ∧ R.RING_LAYOUT_NEXT.of value < (s.ringRec.map (·.nlayout)).getD 0 ∧ (s.rst = 4 ∨
      s.rst = 5) ∧ s.bit R.RING_LAYOUT_BUSY = false ∧ s.bit R.RING_STATUS_MASTER = true ∧ s.ring.queue = []) ∧
    (∃ s : State, MemCanon s ∧ s.shaped = true ∧ s.ring.stop = true ∧ (s.rst = 6 → s.ring.cur.isSome = true) ∧
      s.ring.stopAt + 1000 * s.fld R.RING_TMO_QUIESCE_TMO_US ≤ s.now) ∧
    (∃ s : State, MemCanon s ∧ s.shaped = true ∧ s.ring.topoAt.any (fun t => decide (t + 1000000 ≤ s.now)) = true) ∧
    (∃ (present : Nat) (s : State), MemCanon s ∧ s.shaped = true ∧ s.ring.topoAt.any (fun t => decide (t + 1000000 ≤
      s.now)) = true ∧ s.bit R.RING_STATUS_MASTER = true ∧ s.ring.cur = none ∧ s.ring.topo = some present) :=
  ⟨⟨1, rhead, upRing 4, by decide +kernel⟩, ⟨1, rhead, upRing 3, by decide +kernel⟩, ⟨1, rhead, upRing 4,
    by decide +kernel⟩, ⟨1, rhead, upRing 4, by decide +kernel⟩, ⟨1, rhead, 256, (upRing 4).setF R.RING_TOPO_EPOCH
    255, by decide +kernel⟩, ⟨1, rhead, upRing 4, by decide +kernel⟩, ⟨1, rhead, (upRing 4).setB R.RING_STATUS_MASTER
    true, by decide +kernel⟩, ⟨1, rhead, (upRing 4).setB R.RING_LAYOUT_BUSY true, by decide +kernel⟩, ⟨1, rhead,
    (upRing 4).setB R.RING_LAYOUT_BUSY true, by decide +kernel⟩, ⟨0x10100,
    { upRing 4 with img := { up.img with active := some { ringImg with rings := [⟨0, 4, 2, []⟩] } } },
    by decide +kernel⟩, ⟨0x10100,
    { (upRing 4).setB R.RING_STATUS_MASTER true with img := { up.img with active := some { ringImg with rings := [⟨0, 4, 2, []⟩] } } },
    by decide +kernel⟩, ⟨{ upRing 4 with ring.stop := true, now := 1000000000 }, by decide +kernel⟩,
    ⟨{ upRing 4 with ring.topoAt := some 0, now := 1000000000 }, by decide +kernel⟩, ⟨3,
    { (upRing 4).setB R.RING_STATUS_MASTER true with ring.topoAt := some 0, ring.topo := some 3, now := 1000000000 },
    by decide +kernel⟩⟩

theorem witness_GillEvents :
    (∃ (gill : Nat) (s : State), MemCanon s ∧ s.shaped = true ∧ gill < 64 ∧ gill < s.gills ∧ s.gst gill = 1 ∧ (s.gl
      gill).halt = none ∧ s.runs = true ∧ (s.gl gill).acc = [] ∧ (s.gl gill).sincs = [] ∧ (s.gl gill).loops = [] ∧
      (s.gprog gill).any (fun pr => bundleSlots pr.code (s.gpc gill) == List.replicate 16 0 && decide (s.gpc gill + 1
      < pr.bundles) && decide (pr.bundles ≤ 4096)) = true) ∧
    (∃ (gill : Nat) (slot : Nat) (a : GAcc) (s : State), MemCanon s ∧ s.shaped = true ∧ gill < 64 ∧ gill < s.gills ∧
      (s.gl gill).due slot false = some a ∧ (s.gl gill).acc.filter (fun b => b.seq == a.seq && b.ls == a.ls &&
      !b.write) = [a] ∧ a.len = 4 ∧ a.mask ≠ 0 ∧ a.reg < 64 ∧ s.dataRange 1 a.va 4 = true) ∧
    (∃ (gill : Nat) (s : State), MemCanon s ∧ s.shaped = true ∧ gill < 64 ∧ gill < s.gills ∧ (s.gl
      gill).memFault.isSome = true ∧ 1 ≤ s.gst gill ∧ s.gst gill ≤ 4) ∧
    (∃ (cell : Nat) (s : State), MemCanon s ∧ s.shaped = true ∧ cell < 4096 ∧ (s.cellWaiters cell).head?.any (fun w =>
      decide (w.n ≤ s.fld (R.SYNC_COUNT_COUNT cell) ∧ w.gill < 64)) = true) ∧
    (∃ (gill : Nat) (s : State), MemCanon s ∧ s.shaped = true ∧ gill < 64 ∧ gill < s.gills ∧ (s.gst gill = 3 ∨ s.gst
      gill = 4) ∧ (s.gl gill).blocked.isSome = true ∧ (s.gl gill).granted = none ∧ (opOf (s.sySlot gill) = 3 ∨ opOf
      (s.sySlot gill) = 8 ∨ opOf (s.sySlot gill) = 9) ∧ (s.gl gill).sreg (bf (s.sySlot gill) 45 40) ≤ s.waitedCycles
      (s.gl gill) ∧ bf (s.sySlot gill) 36 34 ≠ 0) ∧
    (∃ (gill : Nat) (s : State), MemCanon s ∧ s.shaped = true ∧ gill < 64 ∧ gill < s.gills ∧ (s.gst gill = 3 ∨ s.gst
      gill = 4) ∧ (s.gl gill).blocked.isSome = true ∧ (s.gl gill).granted = none ∧ (opOf (s.sySlot gill) = 3 ∨ opOf
      (s.sySlot gill) = 8 ∨ opOf (s.sySlot gill) = 9) ∧ (s.gl gill).sreg (bf (s.sySlot gill) 45 40) ≤ s.waitedCycles
      (s.gl gill) ∧ bf (s.sySlot gill) 36 34 = 0) ∧
    (∃ (gill : Nat) (port : Nat) (src : Nat) (srcPort : Nat) (f : Flight) (l : List Flight) (s : State), MemCanon s ∧
      s.shaped = true ∧ gill < 64 ∧ port < 8 ∧ s.flights = f :: l ∧ f.gill = src ∧ f.port = srcPort ∧ f.dst = 0x1000 +
      gill ∧ f.dport = port ∧ s.flightHeld f = false) ∧
    (∃ (gill : Nat) (port : Nat) (s : State), MemCanon s ∧ s.shaped = true ∧ gill < 64 ∧ port < 8 ∧ 0 < ((s.gl
      gill).ports.getD port {}).back) ∧
    (∃ (gill : Nat) (s : State), MemCanon s ∧ s.shaped = true ∧ gill < 64 ∧ s.gst gill = 3 ∧ opOf (s.sySlot gill) = 6
      ∧ s.drained gill = true) ∧
    (∃ (gill : Nat) (n : Nat) (s : State), MemCanon s ∧ s.shaped = true ∧ gill < 64 ∧ (s.gl gill).halt = some n ∧
      s.drained gill = true) ∧
    (∃ (gill : Nat) (s : State), MemCanon s ∧ s.shaped = true ∧ gill < 64 ∧ s.served (R.GILL_DBG_CTRL gill).off = true
      ∧ s.dbgRefused gill = false ∧ 1 ≤ s.gst gill ∧ s.gst gill ≤ 3) ∧
    (∃ (gill : Nat) (s : State), MemCanon s ∧ s.shaped = true ∧ gill < 64 ∧ s.served (R.GILL_DBG_CTRL gill).off = true
      ∧ s.dbgRefused gill = false ∧ s.gst gill = 4) ∧
    (∃ (gill : Nat) (s : State), MemCanon s ∧ s.shaped = true ∧ gill < 64 ∧ s.served (R.GILL_DBG_CTRL gill).off = true
      ∧ s.dbgRefused gill = false ∧ s.gst gill = 4 ∧ s.gprog gill = none ∧ (s.gl gill).halt = none) ∧
    (∃ (gill : Nat) (s : State), MemCanon s ∧ s.shaped = true ∧ gill < 64 ∧ s.served (R.GILL_DBG_CTRL gill).off = true
      ∧ s.dbgRefused gill = false ∧ s.gst gill = 4 ∧ (s.gl gill).halt = none ∧ (s.gl gill).acc = [] ∧ (s.gl
      gill).sincs = [] ∧ (s.gl gill).loops = [] ∧ (s.gprog gill).any (fun pr => bundleSlots pr.code (s.gpc gill) ==
      List.replicate 16 0 && decide (s.gpc gill + 1 < pr.bundles) && decide (pr.bundles ≤ 4096)) = true) :=
  ⟨⟨63, upGill 1 0, by decide +kernel⟩, ⟨63, 5, ⟨3, 5, 0, false, 0x44, 4, 7, 64, 1, [], 0, 0⟩, withGill
    { upGill 1 0 with mem := [(0x46, 9)] }
    { acc := [⟨3, 9, 1, true, 0x44, 4, 0, 64, 1, [1, 2, 3, 4], 0, 0⟩, ⟨3, 5, 0, false, 0x44, 4, 7, 64, 1, [], 0, 0⟩].reverse },
    by decide +kernel⟩, ⟨63, withGill (upGill 1 0) { memFault := some (3, 5, 0x40) }, by decide +kernel⟩, ⟨4095,
    { (upGill 3 0).setF (R.SYNC_COUNT_COUNT 4095) 5 with waits := [⟨4095, 63, 5⟩] }, by decide +kernel⟩, ⟨63, withGill
    { upGill 3 0 with img := { up.img with active := some { gillImg 0 with progs := [⟨0, 2, 0, [], [], List.replicate 104 0 ++ leBytes 8 (9 * 2 ^ 56 + 2 ^ 34) ++ List.replicate 16 0⟩] } } }
    { blocked := some 0 }, by decide +kernel⟩, ⟨63, withGill
    { upGill 3 0 with img := { up.img with active := some { gillImg 0 with progs := [⟨0, 2, 0, [], [], List.replicate 104 0 ++ leBytes 8 (3 * 2 ^ 56) ++ List.replicate 16 0⟩] } } }
    { blocked := some 0 }, by decide +kernel⟩, ⟨63, 7, 62, 7, ⟨62, 7, 0x103F, 7, [1, 2], 0, 0⟩, [⟨62, 7, 0x103F, 7,
    [3], 0, 0⟩], { upGill 1 0 with flights := [⟨62, 7, 0x103F, 7, [1, 2], 0, 0⟩, ⟨62, 7, 0x103F, 7, [3], 0, 0⟩] },
    by decide +kernel⟩, ⟨63, 7, withGill (upGill 1 0)
    { ports := (List.replicate 7 {}) ++ [{ used := 3, back := 1 }] }, by decide +kernel⟩, ⟨63,
    { upGill 3 0 with img := { up.img with active := some { gillImg 0 with progs := [⟨0, 2, 0, [], [], List.replicate 104 0 ++ leBytes 8 (6 * 2 ^ 56) ++ List.replicate 16 0⟩] } } },
    by decide +kernel⟩, ⟨63, 0, withGill (upGill 1 0) { halt := some 0 }, by decide +kernel⟩, ⟨63, upGill 1 0 |>.setF
    (R.GILL_STATUS_PART 63) 5, by decide +kernel⟩, ⟨63, upGill 4 0 |>.setF (R.GILL_STATUS_PART 63) 5,
    by decide +kernel⟩, ⟨63, upGill 4 0 |>.setF (R.GILL_STATUS_PART 63) 5 |>.setF (R.GILL_PC_PROG 63) 5,
    by decide +kernel⟩, ⟨63, upGill 4 0 |>.setF (R.GILL_STATUS_PART 63) 5, by decide +kernel⟩⟩

theorem witness_MemoryCommands :
    (∃ s : State, MemCanon s ∧ s.shaped = true ∧ s.served R.MMU_OP.off = true ∧ s.mmuRefusal 1 (s.fld
      R.MMU_OP_VA_LO_VA_LO + 2 ^ 32 * s.fld R.MMU_OP_VA_HI_VA_HI) (s.fld R.MMU_OP_PA_LO_PA_LO + 2 ^ 32 * s.fld
      R.MMU_OP_PA_HI_PA_HI) (s.fld R.MMU_OP_CTX_CTX) = 0 ∧ (s.img.active.bind (fun im => im.memAt (s.fld
      R.MMU_OP_VA_LO_VA_LO + 2 ^ 32 * s.fld R.MMU_OP_VA_HI_VA_HI) 1)).isSome = true) ∧
    (∃ s : State, MemCanon s ∧ s.shaped = true ∧ s.served R.MMU_OP.off = true ∧ s.mmuRefusal 2 (s.fld
      R.MMU_OP_VA_LO_VA_LO + 2 ^ 32 * s.fld R.MMU_OP_VA_HI_VA_HI) (s.fld R.MMU_OP_PA_LO_PA_LO + 2 ^ 32 * s.fld
      R.MMU_OP_PA_HI_PA_HI) (s.fld R.MMU_OP_CTX_CTX) = 0 ∧ (s.img.active.bind (fun im => im.memAt (s.fld
      R.MMU_OP_VA_LO_VA_LO + 2 ^ 32 * s.fld R.MMU_OP_VA_HI_VA_HI) 1)).isSome = true) ∧
    (∃ s : State, MemCanon s ∧ s.shaped = true ∧ s.served R.MMU_OP.off = true ∧ s.mmuRefusal 3 (s.fld
      R.MMU_OP_VA_LO_VA_LO + 2 ^ 32 * s.fld R.MMU_OP_VA_HI_VA_HI) (s.fld R.MMU_OP_PA_LO_PA_LO + 2 ^ 32 * s.fld
      R.MMU_OP_PA_HI_PA_HI) (s.fld R.MMU_OP_CTX_CTX) = 0 ∧ (s.img.active.bind (fun im => im.memAt (s.fld
      R.MMU_OP_VA_LO_VA_LO + 2 ^ 32 * s.fld R.MMU_OP_VA_HI_VA_HI) 1)).isSome = true) ∧
    (∃ s : State, MemCanon s ∧ s.shaped = true ∧ s.bit R.MMU_STATUS_OP_BUSY = true) ∧
    (∃ (gill : Nat) (slot : Nat) (a : GAcc) (s : State), MemCanon s ∧ s.shaped = true ∧ gill < 64 ∧ (s.gl gill).due
      slot true = some a) ∧
    (∃ (gill : Nat) (slot : Nat) (a : GAcc) (s : State), MemCanon s ∧ s.shaped = true ∧ gill < 64 ∧ (s.gl gill).due
      slot true = some a ∧ (a.len = 4 ∨ a.mask = 65535) ∧ a.data.length = a.len ∧ s.dataRange 1 a.va a.len = true) ∧
    (∃ (chan : Nat) (s : State), MemCanon s ∧ s.shaped = true ∧ chan < 4 ∧ s.memDue chan s.mmu.lastRef (s.refreshNs
      chan).1 = true) ∧
    (∃ (chan : Nat) (s : State), MemCanon s ∧ s.shaped = true ∧ chan < 4 ∧ s.memDue chan s.mmu.lastZq 128000000 =
      true) ∧
    (∃ (chan : Nat) (range : Nat) (s : State), MemCanon s ∧ s.shaped = true ∧ chan < 4 ∧ range < 4 ∧ s.memDue chan
      s.mmu.lastMr4 16000000 = true ∧ s.fld (R.MEM_CH_STATUS_TEMP chan) ≠ range) ∧
    (∃ (chan : Nat) (s : State), MemCanon s ∧ s.shaped = true ∧ chan < 4) :=
  ⟨⟨((upGill 0 0).setF R.MMU_OP_CTX_CTX 2), by decide +kernel⟩, ⟨((upGill 0 0).setF R.MMU_OP_CTX_CTX 2),
    by decide +kernel⟩, ⟨((upGill 0 0).setF R.MMU_OP_CTX_CTX 2), by decide +kernel⟩,
    ⟨{ upGill 0 0 with mmu.op := [⟨1, 0, 4096, 0, false, false⟩] }.setB R.MMU_STATUS_OP_BUSY true, by decide +kernel⟩,
    ⟨63, 5, ⟨3, 5, 0, true, 0x40, 4, 7, 64, 1, [], 0, 0⟩, withGill (upGill 1 0)
    { acc := [⟨3, 5, 0, true, 0x40, 4, 7, 64, 1, [], 0, 0⟩] }, by decide +kernel⟩, ⟨63, 5, ⟨3, 5, 0, true, 0x44, 4, 7,
    64, 1, [1, 2, 3, 4], 0, 0⟩, withGill (upGill 1 0)
    { acc := [⟨3, 5, 0, true, 0x44, 4, 7, 64, 1, [1, 2, 3, 4], 0, 0⟩] }, by decide +kernel⟩, ⟨3,
    { upGill 0 0 with now := 77777 }, by decide +kernel⟩, ⟨3, { upGill 0 0 with now := 777777777 },
    by decide +kernel⟩, ⟨3, 3, { upGill 0 0 with now := 777777777 }, by decide +kernel⟩, ⟨3, upGill 0 0,
    by decide +kernel⟩⟩

theorem witness_DmaItems :
    (∃ (eng : Nat) (item : Nat) (s : State), MemCanon s ∧ s.shaped = true ∧ (s.eng eng).run.any (fun r => itemOp
      (r.items.getD item []) == 1 && r.canStart item false && r.cpl == 0 && r.chain.reach.isNone && decide (item <
      r.res.length) && s.tileRange (leAt (r.items.getD item []) 16 8) (leAt (r.items.getD item []) 32 4) &&
      s.tileRange (leAt (r.items.getD item []) 24 8) (leAt (r.items.getD item []) 32 4) && decide (leAt (r.items.getD
      item []) 16 8 % 4 = 0 ∧ leAt (r.items.getD item []) 24 8 % 4 = 0 ∧ leAt (r.items.getD item []) 32 4 % 4 = 0 ∧ 4
      ≤ leAt (r.items.getD item []) 32 4 ∧ leAt (r.items.getD item []) 32 4 ≤ 2 ^ 28) && !rangesMeet (leAt
      (r.items.getD item []) 16 8) (leAt (r.items.getD item []) 32 4) (leAt (r.items.getD item []) 24 8) (leAt
      (r.items.getD item []) 32 4)) = true ∧ eng < 16) ∧
    (∃ (eng : Nat) (item : Nat) (s : State), MemCanon s ∧ s.shaped = true ∧ (s.eng eng).run.any (fun r => itemOp
      (r.items.getD item []) == 2 && r.canStart item false && r.cpl == 0 && r.chain.reach.isNone && decide (item <
      r.res.length) && s.tileRange (leAt (r.items.getD item []) 16 8) (leAt (r.items.getD item []) 24 4) && decide
      (leAt (r.items.getD item []) 16 8 % 4 = 0 ∧ leAt (r.items.getD item []) 24 4 % 4 = 0)) = true ∧ eng < 16) ∧
    (∃ (eng : Nat) (item : Nat) (s : State), MemCanon s ∧ s.shaped = true ∧ (s.eng eng).run.any (fun r => itemOp
      (r.items.getD item []) == 3 && r.canStart item false && r.cpl == 0 && r.chain.reach.isNone && decide (item <
      r.res.length) && decide (1 ≤ leAt (r.items.getD item []) 36 4 ∧ leAt (r.items.getD item []) 36 4 ≤ 65535 ∧ leAt
      (r.items.getD item []) 32 4 ≤ leAt (r.items.getD item []) 44 4 ∧ leAt (r.items.getD item []) 32 4 ≤ 2 ^ 20) &&
      s.tileRange (leAt (r.items.getD item []) 16 8) ((leAt (r.items.getD item []) 36 4 - 1) * leAt (r.items.getD item
      []) 40 4 + leAt (r.items.getD item []) 32 4) && s.tileRange (leAt (r.items.getD item []) 24 8) ((leAt
      (r.items.getD item []) 36 4 - 1) * leAt (r.items.getD item []) 44 4 + leAt (r.items.getD item []) 32 4) &&
      decide (leAt (r.items.getD item []) 16 8 % 4 = 0 ∧ leAt (r.items.getD item []) 24 8 % 4 = 0 ∧ leAt (r.items.getD
      item []) 32 4 % 4 = 0 ∧ leAt (r.items.getD item []) 40 4 % 4 = 0 ∧ leAt (r.items.getD item []) 44 4 % 4 = 0 ∧
      leAt (r.items.getD item []) 16 8 + ((leAt (r.items.getD item []) 36 4 - 1) * leAt (r.items.getD item []) 40 4 +
      leAt (r.items.getD item []) 32 4) ≤ leAt (r.items.getD item []) 24 8)) = true ∧ eng < 16) ∧
    (∃ (eng : Nat) (item : Nat) (s : State), MemCanon s ∧ s.shaped = true ∧ (s.eng eng).run.any (fun r => itemOp
      (r.items.getD item []) == 4 && r.canStart item true && r.cpl == 0 && r.chain.reach.isNone && decide (item <
      r.res.length) && decide (leAt (r.items.getD item []) 16 2 < 4096) && s.cellProducer (leAt (r.items.getD item [])
      16 2) (0x7000 + eng) none) = true ∧ eng < 16) ∧
    (∃ (eng : Nat) (item : Nat) (s : State), MemCanon s ∧ s.shaped = true ∧ (s.eng eng).run.any (fun r => itemOp
      (r.items.getD item []) == 16 && r.canStart item false && r.cpl == 0 && r.chain.reach.isNone && decide (item <
      r.res.length) && (boxdecBad (r.items.getD item [])).isNone && s.tileRange (leAt (r.items.getD item []) 0x10 8)
      (16 * leAt (r.items.getD item []) 0x38 4) && s.tileRange (leAt (r.items.getD item []) 0x18 8) (4 * leAt
      (r.items.getD item []) 0x38 4) && s.tileRange (leAt (r.items.getD item []) 0x20 8) (leAt (r.items.getD item [])
      0x38 4 * leAt (r.items.getD item []) 0x3C 1) && s.tileRange (leAt (r.items.getD item []) 0x28 8) 512 &&
      s.tileRange (leAt (r.items.getD item []) 0x30 8) (32 + 32 * leAt (r.items.getD item []) 0x42 2)) = true ∧ eng <
      16) ∧
    (∃ (eng : Nat) (item : Nat) (s : State), MemCanon s ∧ s.shaped = true ∧ (s.eng eng).run.any (fun r => itemOp
      (r.items.getD item []) == 17 && r.canStart item false && r.cpl == 0 && r.chain.reach.isNone && decide (item <
      r.res.length) && (nmsBad (r.items.getD item [])).isNone && decide (leAt (s.sramBytes (leAt (r.items.getD item
      []) 0x10 8 % 2 ^ 39) 4) 0 4 ≤ 8192) && s.tileRange (leAt (r.items.getD item []) 0x10 8) (32 + 32 * 8192) &&
      s.tileRange (leAt (r.items.getD item []) 0x18 8) (32 + 32 * 8192)) = true ∧ eng < 16) :=
  ⟨⟨15, 0, { upDma copyB with sram := [(60, 9), (62, 8), (67, 7)] }, by decide +kernel⟩, ⟨15, 0, upDma fillB,
    by decide +kernel⟩, ⟨15, 0, { upDma copy2B with sram := [(60, 9), (62, 8), (68, 7)] }, by decide +kernel⟩, ⟨15, 0,
    upDma signalB, by decide +kernel⟩, ⟨15, 0, upDma boxB, by decide +kernel⟩, ⟨15, 0, upDma nmsB, by decide +kernel⟩⟩

theorem witness_DmaChains :
    (∃ (eng : Nat) (value : Nat) (s : State), MemCanon s ∧ s.shaped = true ∧ eng < 16 ∧ s.served (R.DMA_SUB_HI
      eng).off = true ∧ (R.DMA_SUB_HI_GO eng).of value = 1 ∧ s.chainFull eng = false) ∧
    (∃ (eng : Nat) (s : State), MemCanon s ∧ s.shaped = true ∧ eng < 16 ∧ (s.eng eng).run = none ∧ (s.eng
      eng).queue.head?.any (fun c => c.gill.any (fun g => decide (g < 64 ∧ c.va % 65536 + 64 ≤ 65536) && chainHeadOk
      (s.sramBytes (g * 2 ^ 22 + c.va) 32) && leAt (s.sramBytes (g * 2 ^ 22 + c.va) 32) 0 2 == 1 && leAt (s.sramBytes
      (g * 2 ^ 22 + c.va + 32) 16) 0 4 == 0x200002 && leAt (s.sramBytes (g * 2 ^ 22 + c.va + 32) 16) 8 8 == 0)) =
      true) ∧
    (∃ (eng : Nat) (s : State), MemCanon s ∧ s.shaped = true ∧ eng < 16 ∧ (s.eng eng).run.any (fun r => decide
      (r.items.length ≤ r.recs)) = true) ∧
    (∃ (eng : Nat) (s : State), MemCanon s ∧ s.shaped = true ∧ eng < 16 ∧ s.served (R.DMA_ENG_CTRL eng).off = true ∧
      (s.eng eng).run = none) ∧
    (∃ (cell : Nat) (s : State), MemCanon s ∧ s.shaped = true ∧ cell < 4096 ∧ s.served (R.SYNC_ADD cell).off = true ∧
      s.cellProducer cell 0x5000 none = true) ∧
    (∃ (cell : Nat) (s : State), MemCanon s ∧ s.shaped = true ∧ cell < 4096 ∧ s.served (R.SYNC_CTL cell).off = true ∧
      (s.img.active.bind (·.sync? cell)).isSome = true ∧ s.cellWaiters cell = []) :=
  ⟨⟨15, 0x80000001, upGill 0 0, by decide +kernel⟩, ⟨15,
    { upGill 0 0 with dma := setAt up.dma 15 { queue := [⟨0, some 63, none, none, none⟩] }, sram := [(63 * 2 ^ 22, 1), (63 * 2 ^ 22 + 32, 2), (63 * 2 ^ 22 + 34, 32)] },
    by decide +kernel⟩, ⟨15,
    { upGill 0 0 with dma := setAt up.dma 15 { run := some { runOf fillB with recs := 1, res := [some ⟨0, 1, 8, 0⟩] } } },
    by decide +kernel⟩, ⟨15, { upGill 0 0 with dma := setAt up.dma 15 { queue := [⟨0, some 63, none, none, none⟩] } },
    by decide +kernel⟩, ⟨4095, (upGill 0 0).setF (R.SYNC_COUNT_COUNT 4095) 0xFFFFFE, by decide +kernel⟩, ⟨4095,
    (upGill 0 0).setF (R.SYNC_COUNT_COUNT 4095) 7, by decide +kernel⟩⟩

theorem witness_WorkAdmission :
    (∃ (value : Nat) (s : State), MemCanon s ∧ s.shaped = true ∧ s.served R.SCHED_SUB_CTRL.off = true ∧
      R.SCHED_SUB_CTRL_GO.of value = 1 ∧ s.sched.incs = [] ∧ s.admitShut = false ∧ s.judge 0 s.subWords = none ∧
      s.pmode = 1) ∧
    (∃ (value : Nat) (s : State), MemCanon s ∧ s.shaped = true ∧ s.served R.SCHED_SUB_CTRL.off = true ∧
      R.SCHED_SUB_CTRL_GO.of value = 1 ∧ s.sched.incs = [] ∧ s.bit R.SCHED_STATUS_ADMIT_OPEN = false ∧ s.pmode = 1) ∧
    (∃ (gill : Nat) (f : Flight) (l : List Flight) (s : State), MemCanon s ∧ s.shaped = true ∧ s.sched.incs = [] ∧
      s.flights = f :: l ∧ f.gill = gill ∧ (f.dst / 4096 = 12 ∨ f.dst / 4096 = 7 ∨ f.dst / 4096 = 8 ∨ f.dst / 4096 =
      10) ∧ f.words.length = 16 ∧ s.flightHeld f = false ∧ s.judge 1 f.words = none) ∧
    (∃ s : State, MemCanon s ∧ s.shaped = true ∧ s.mot.xing9 ≠ []) :=
  ⟨⟨0x80000000, ((upWork (work0 .ready)).setF (R.SCHED_SUB_W_W 0) 255).setF (R.SCHED_SUB_W_W 4) 0xFFFFFFFF,
    by decide +kernel⟩, ⟨0x80000000, ((upWork (work0 .ready)).setB R.SCHED_STATUS_ADMIT_OPEN false),
    by decide +kernel⟩, ⟨63, ⟨63, 0, 0xC000, 0, [255, 0, 0, 0, 0, 0, 0, 0, 0, 0, 0, 0, 0, 0, 0, 0], 0, 0⟩, [],
    { upWork (work0 .ready) with flights := [⟨63, 0, 0xC000, 0, [255, 0, 0, 0, 0, 0, 0, 0, 0, 0, 0, 0, 0, 0, 0, 0], 0, 0⟩] },
    by decide +kernel⟩, ⟨{ upWork (work0 .ready) with mot.xing9 := [⟨0, 1, 2⟩] }, by decide +kernel⟩⟩

theorem witness_WorkProgress :
    (∃ (executor : Nat) (s : State), MemCanon s ∧ s.shaped = true ∧ s.runs = true ∧ s.sched.incs = [] ∧ executor /
      4096 = 12 ∧ s.sched.works.length = 1 ∧ s.sched.works.all (fun w => w.st == .ready && w.src == 0 && w.gset.length
      == 1 && w.gset.all (fun g => decide (g < 64) && !s.gillBusy g) && w.swaps == [] && !s.doomed w && s.bit
      (R.SCHED_Q_CFG_RUN w.queue) && (s.queueOf w.queue).any (fun r => r.executor == executor && r.model == 0xFFFF &&
      (s.queueProg r).isSome)) = true) ∧
    (∃ (executor : Nat) (w : Work) (s : State), MemCanon s ∧ s.shaped = true ∧ s.runs = true ∧ s.sched.incs = [] ∧
      executor / 4096 ≠ 12 ∧ s.sched.works = [w] ∧ w.st = .ready ∧ s.doomed w = false ∧ s.bit (R.SCHED_Q_CFG_RUN
      w.queue) = true ∧ (s.queueOf w.queue).map QueueRec.executor = some executor ∧ s.unitAccepts executor = true) ∧
    (∃ (part : Nat) (s : State), MemCanon s ∧ s.shaped = true ∧ Sparse.sorted s.sched.tokens = true ∧ s.partGills part
      ≠ []) ∧
    (∃ (part : Nat) (s : State), MemCanon s ∧ s.shaped = true ∧ s.sched.works.length = 1 ∧ s.sched.works.all (fun w =>
      w.st == .ready && (s.queueOf w.queue).any (fun r => r.place == 1 && r.part == part) && w.gset != [(s.partGills
      part).getD (Sparse.get s.sched.tokens part 0 % (s.partGills part).length) 0]) = true ∧ s.partGills part ≠ [] ∧
      s.gillBusy ((s.partGills part).getD (Sparse.get s.sched.tokens part 0 % (s.partGills part).length) 0) = false) ∧
    (∃ (work : Nat) (s : State), MemCanon s ∧ s.shaped = true ∧ s.sched.incs = [] ∧ (s.runs = false ∨
      s.sched.works.length = 1) ∧ (s.work? work).any (fun w => s.quantumDone w) = true) ∧
    (∃ (work : Nat) (s : State), MemCanon s ∧ s.shaped = true ∧ (s.work? work).any (fun w => w.st == .saving &&
      !w.drained && s.gangDrained w) = true) ∧
    (∃ (work : Nat) (s : State), MemCanon s ∧ s.shaped = true ∧ s.sched.incs = [] ∧ (s.work? work).any (fun w => w.st
      == .saving && w.drained && w.gset.length == 1 && w.gset.all (· < 64)) = true) ∧
    (∃ (work : Nat) (s : State), MemCanon s ∧ s.shaped = true ∧ s.sched.incs = [] ∧ (s.work? work).any (fun w => w.st
      == .saving && w.drained && w.gset.length == 1 && w.gset.all (fun g => decide (g < 64) && (s.queueOf w.queue).any
      (fun r => (s.saveVa r.part g w.level).any (fun va => (s.gprog g).any (fun pr => s.dataRange 1 va pr.saveBytes &&
      va % 64 == 0))))) = true) ∧
    (∃ (work : Nat) (g : Nat) (s : State), MemCanon s ∧ s.shaped = true ∧ s.sched.incs = [] ∧ (s.work? work).any (fun
      w => w.st == .saving && w.drained && w.src == 0 && decide (w.queue < 256) && w.gset.contains g) = true) ∧
    (∃ (work : Nat) (s : State), MemCanon s ∧ s.shaped = true ∧ s.sched.incs = [] ∧ s.mmu.bad = [] ∧ (s.work?
      work).any (fun w => w.st == .restoring && w.swaps == [] && w.saved.length == 1 && w.saved.all (fun m => decide
      (m.gill < 64) && w.gset == [m.gill] && !m.ended)) = true) ∧
    (∃ (work : Nat) (s : State), MemCanon s ∧ s.shaped = true ∧ s.sched.incs = [] ∧ s.mmu.bad = [] ∧ (s.work?
      work).any (fun w => w.st == .restoring && w.swaps == [] && w.saved.length == 1 && w.saved.all (fun m => decide
      (m.gill < 64 ∧ m.prog < 4096) && w.gset == [m.gill] && !m.ended && (s.img.active.bind (·.prog? m.prog)).any (fun
      pr => pr.live.length == 1 && pr.live.all (fun l => decide (l.1 + l.2 ≤ 1024))))) = true) ∧
    (∃ (work : Nat) (g : Nat) (s : State), MemCanon s ∧ s.shaped = true ∧ s.sched.incs = [] ∧ (s.work? work).any (fun
      w => w.st == .restoring && w.swaps == [] && w.src == 0 && decide (w.queue < 256) && w.gset.contains g) = true) ∧
    (∃ (gill : Nat) (s : State), MemCanon s ∧ s.shaped = true ∧ gill < 64 ∧ s.sched.incs = [] ∧ s.sched.works.length =
      1 ∧ s.sched.works.all (fun w => w.st == .running && w.swaps.contains gill && w.swaps.any (· != gill) &&
      (s.queueOf w.queue).any (fun r => (s.img.active.bind (·.model? r.model)).any (fun m => m.stateKib == 0 &&
      (s.img.active.bind (·.mem? m.weightPart)).isSome))) = true) ∧
    (∃ (gill : Nat) (s : State), MemCanon s ∧ s.shaped = true ∧ gill < 64 ∧ s.sched.incs = [] ∧ s.sched.works.length =
      1 ∧ s.sched.works.all (fun w => w.st == .running && w.swaps == [gill] && (s.queueOf w.queue).any (fun r =>
      (s.img.active.bind (·.model? r.model)).any (fun m => m.stateKib == 0 && (s.img.active.bind (·.mem?
      m.weightPart)).isSome))) = true) ∧
    (∃ (work : Nat) (s : State), MemCanon s ∧ s.shaped = true ∧ s.sched.incs = [] ∧ s.sched.works.length = 1 ∧
      s.sched.works.all (fun w => w.id == work && !w.handed && w.since.isSome && w.src == 0 && decide (w.queue < 256)
      && w.desc.all (· == 0) && w.gset.all (fun g => (s.gl g).outcome == some 0)) = true) ∧
    (∃ (work : Nat) (s : State), MemCanon s ∧ s.shaped = true ∧ s.sched.incs = [] ∧ s.sched.works.length = 1 ∧
      s.sched.works.all (fun w => w.id == work && !w.handed && w.since.isSome && w.src == 0 && decide (w.queue < 256)
      && w.desc.all (· == 0) && w.gset.any (fun g => (s.gl g).outcome.any (· != 0))) = true) ∧
    (∃ (value : Nat) (s : State), MemCanon s ∧ s.shaped = true ∧ s.served R.SCHED_CANCEL.off = true ∧
      s.sched.works.length = 1 ∧ s.sched.works.all (fun w => w.id % 2 ^ 32 == value % 2 ^ 32 && !w.handed) = true) ∧
    (∃ s : State, MemCanon s ∧ s.shaped = true ∧ s.served (R.SCHED_CPL_DATA 0).off = true) ∧
    (∃ (r : Reshard) (s : State), MemCanon s ∧ s.shaped = true ∧ s.ring.reshard = some r ∧ r.ends = []) :=
  ⟨⟨0xC000, upWork { work0 .ready with desc := [255, 9, 0, 0, 0xFFFFFFFF, 0xFFFFFFFF, 0, 0, 0, 0, 0, 0, 0, 0, 0, 0] },
    by decide +kernel⟩, ⟨0x700F, { work0 .ready with queue := 254, gset := [] }, (upWork
    { work0 .ready with queue := 254, gset := [] }).setB (R.SCHED_Q_CFG_RUN 254) true, by decide +kernel⟩, ⟨0,
    { upWork (work0 .ready) with sched.works := [] }, by decide +kernel⟩, ⟨0,
    { upWork { work0 .ready with gset := [62] } with img := { up.img with active := some { gillImg 0 with queues := [⟨255, 1, 1, 0, 0, 4, 0xFFFF, 7⟩] } } },
    by decide +kernel⟩, ⟨9, upWork { work0 .running with since := some 0 }, by decide +kernel⟩, ⟨9, upWork
    { work0 .saving with since := some 0 }, by decide +kernel⟩, ⟨9, upWork { work0 .saving with drained := true },
    by decide +kernel⟩, ⟨9,
    { upWork { work0 .saving with drained := true } with img := { up.img with active := some { gillImg 0 with mems := [⟨0, 0, 0, 0, 2 ^ 24, 0xFFFFFFFF, 0xFFFFFFFF, false, false⟩], progs := [⟨1, 2, 0, [(3, 1)], [], []⟩] } } }.setF
    (R.GILL_PC_PROG 63) 1, by decide +kernel⟩, ⟨9, 63, upWork { work0 .saving with drained := true },
    by decide +kernel⟩, ⟨9, upWork { work0 .restoring with saved := [⟨63, {}, 1, 2, false⟩] }, by decide +kernel⟩, ⟨9,
    { upWork { work0 .restoring with saved := [⟨63, {}, 1, 2, false⟩] } with mem := [(40960 + 11264 + 5, 7)], sram := [(63 * 2 ^ 22 + 64 * 3, 9)], img := { up.img with active := some { gillImg 0 with mems := [⟨0, 0, 0, 0, 2 ^ 24, 0xFFFFFFFF, 0xFFFFFFFF, false, false⟩], progs := [⟨1, 2, 0, [(3, 1)], [], []⟩] } } },
    by decide +kernel⟩, ⟨9, 63, upWork { work0 .restoring with saved := [⟨63, {}, 1, 2, false⟩] }, by decide +kernel⟩,
    ⟨63,
    { upWork (work0 .ready) with img := { up.img with active := some { gillImg 0 with queues := [⟨255, 1, 0, 0, 0, 4, 7, 7⟩], models := [⟨7, 0, 0, 0, 1, 0, 0⟩] } }, sched.works := [{ id := 9, queue := 255, src := 0, desc := [], st := .running, gset := [63, 62], swaps := [63, 62] }] },
    by decide +kernel⟩, ⟨63,
    { upWork (work0 .ready) with img := { up.img with active := some { gillImg 0 with queues := [⟨255, 1, 0, 0, 0, 4, 7, 7⟩], models := [⟨7, 0, 0, 0, 1, 0, 0⟩] } }, sched.works := [{ id := 9, queue := 255, src := 0, desc := [], st := .running, gset := [63], swaps := [63] }] },
    by decide +kernel⟩, ⟨9,
    { withGill (upWork { work0 .running with since := some 0, desc := List.replicate 16 0 }) { outcome := some 0 } with now := 5 },
    by decide +kernel⟩, ⟨9,
    { withGill (upWork { work0 .running with since := some 0, desc := List.replicate 16 0 }) { outcome := some 0x9806 } with now := 5 },
    by decide +kernel⟩, ⟨9, upWork (work0 .ready), by decide +kernel⟩,
    ⟨{ upWork (work0 .ready) with sched.log := [(0, List.replicate 32 7)] }, by decide +kernel⟩,
    ⟨{ pieces := [], ends := [], cell := 4095, statusVa := 0 },
    { upWork (work0 .ready) with ring.reshard := some { pieces := [], ends := [], cell := 4095, statusVa := 0 } },
    by decide +kernel⟩⟩

theorem witness_PrefixRequests :
    (∃ (gill : Option Nat) (s : State), MemCanon s ∧ s.shaped = true ∧ s.bit R.PFX_STATUS_FORMATTED = true ∧ s.bit
      R.PFX_CTRL_EN = true ∧ s.bit R.PFX_STATUS_CORRUPT = false ∧ (s.pfxAsk gill).any (fun q => q.op == 4 &&
      q.resultVa == 0 && decide (q.arg < s.nodeTop) && s.dataRange 9 (s.pfxBase + 64 * q.arg) 64 && decide (s.pfxBase
      % 64 = 0) && (readNode (s.bytes (s.pfxBase + 64 * q.arg) 64)).used && (readNode (s.bytes (s.pfxBase + 64 *
      q.arg) 64)).refs != 0xFFFF) = true) ∧
    (∃ (gill : Option Nat) (s : State), MemCanon s ∧ s.shaped = true ∧ s.bit R.PFX_STATUS_FORMATTED = true ∧ s.bit
      R.PFX_CTRL_EN = true ∧ s.bit R.PFX_STATUS_CORRUPT = false ∧ (s.pfxAsk gill).any (fun q => q.op == 5 &&
      q.resultVa == 0 && decide (q.arg < s.nodeTop) && s.dataRange 9 (s.pfxBase + 64 * q.arg) 64 && decide (s.pfxBase
      % 64 = 0) && (readNode (s.bytes (s.pfxBase + 64 * q.arg) 64)).used) = true) ∧
    (∃ (gill : Option Nat) (s : State), MemCanon s ∧ s.shaped = true ∧ s.bit R.PFX_STATUS_FORMATTED = true ∧ s.bit
      R.PFX_CTRL_EN = true ∧ s.bit R.PFX_STATUS_CORRUPT = false ∧ (s.pfxAsk gill).any (fun q => q.op == 3 &&
      q.resultVa == 0 && decide (q.arg < s.nodeTop) && s.dataRange 9 (s.pfxBase + 64 * q.arg) 64 && decide (s.pfxBase
      % 64 = 0) && (readNode (s.bytes (s.pfxBase + 64 * q.arg) 64)).used && (readNode (s.bytes (s.pfxBase + 64 *
      q.arg) 64)).refs != 0) = true) ∧
    (∃ (gill : Option Nat) (s : State), MemCanon s ∧ s.shaped = true ∧ s.bit R.PFX_STATUS_FORMATTED = true ∧ s.bit
      R.PFX_CTRL_EN = true ∧ s.bit R.PFX_STATUS_CORRUPT = false ∧ (s.pfxAsk gill).any (fun q => q.op == 6 &&
      q.resultVa == 0 && decide (q.arg < s.nodeTop) && s.dataRange 9 (s.pfxBase + 64 * q.arg) 64 && decide (s.pfxBase
      % 64 = 0) && (readNode (s.bytes (s.pfxBase + 64 * q.arg) 64)).state && !(readNode (s.bytes (s.pfxBase + 64 *
      q.arg) 64)).pin && (readNode (s.bytes (s.pfxBase + 64 * q.arg) 64)).refs == 0 && (readNode (s.bytes (s.pfxBase +
      64 * q.arg) 64)).first != 0xFFFF) = true) ∧
    (∃ (gill : Option Nat) (s : State), MemCanon s ∧ s.shaped = true ∧ s.bit R.PFX_STATUS_FORMATTED = true ∧ s.bit
      R.PFX_CTRL_EN = true ∧ s.bit R.PFX_STATUS_CORRUPT = false ∧ (s.pfxAsk gill).any (fun q => q.op == 1 &&
      q.resultVa == 0 && q.arg == 1 && decide (q.flags < 16) && decide (s.pfxBase % 64 = 0) && s.dataRange 9
      (s.pfxBase + 64 * (q.flags % 16)) 64 && decide (q.va1 % 2 = 0) && s.dataRange 9 q.va1 2 && decide (0 < leAt
      (s.bytes q.va1 2) 0 2 ∧ leAt (s.bytes q.va1 2) 0 2 < 0xFFF0) && (readNode (s.bytes (s.pfxBase + 64 * (q.flags %
      16)) 64)).first == 0xFFFF && (readNode (s.bytes (s.pfxBase + 64 * (q.flags % 16)) 64)).state) = true) ∧
    (∃ (gill : Option Nat) (s : State), MemCanon s ∧ s.shaped = true ∧ s.bit R.PFX_STATUS_FORMATTED = true ∧ s.bit
      R.PFX_CTRL_EN = true ∧ s.bit R.PFX_STATUS_CORRUPT = false ∧ (s.pfxAsk gill).any (fun q => q.op == 2 &&
      q.resultVa == 0 && q.arg == 1 && decide (q.flags < 16) && decide (s.pfxBase % 64 = 0) && s.dataRange 9
      (s.pfxBase + 64 * (q.flags % 16)) 64 && decide (q.va1 % 2 = 0) && s.dataRange 9 q.va1 2 && decide (0 < leAt
      (s.bytes q.va1 2) 0 2 ∧ leAt (s.bytes q.va1 2) 0 2 < 0xFFF0) && (readNode (s.bytes (s.pfxBase + 64 * (q.flags %
      16)) 64)).first == 0xFFFF && s.roomFor 1 && decide (s.fld R.PFX_CFG_BLK_4K = 1) && s.dataRange 9 q.va2 4096 &&
      s.dataRange 9 s.pfxBase (2 ^ 22 + 4096 * s.fld R.PFX_NBLK_NBLK) && decide (s.pfxBase % 4096 = 0 ∧ q.va2 % 64 =
      0)) = true) ∧
    (∃ (value : Nat) (s : State), MemCanon s ∧ s.shaped = true ∧ s.served R.PFX_CTRL.off = true ∧ R.PFX_CTRL_FORMAT.of
      value = 1 ∧ s.bit R.PFX_STATUS_BUSY = false ∧ (s.img.active.bind (fun im => im.mems.find? (·.kind == 3))).any
      (fun m => m.base == s.pfxBase && decide (2 ^ 22 + s.fld R.PFX_NBLK_NBLK * s.blkBytes ≤ m.size)) = true) :=
  ⟨⟨none, upPfx ⟨4, 0, 16, 0, 0, 0⟩ node16, by decide +kernel⟩, ⟨none, upPfx ⟨5, 0, 16, 0, 0, 0⟩ [(1024, 7), (1028,
    0x11), (1030, 0xFF), (1031, 0xFF)], by decide +kernel⟩, ⟨none, upPfx ⟨3, 0, 16, 0, 0, 0⟩ [(1024, 3), (1034, 1)],
    by decide +kernel⟩, ⟨none, upPfx ⟨6, 0, 16, 0, 0, 0⟩ node16, by decide +kernel⟩, ⟨none, upPfx ⟨1, 0, 1, 0x8000, 0,
    0⟩ [(0, 3), (4, 0xFF), (5, 0xFF), (0x8000, 5)], by decide +kernel⟩, ⟨none, upPfx ⟨2, 0, 1, 0x8000, 0x8040, 0⟩ [(4,
    0xFF), (5, 0xFF), (0x8000, 5)], by decide +kernel⟩, ⟨0x3, (upPfx ⟨0, 0, 0, 0, 0, 0⟩ []).setF R.PFX_CFG_NODES_K 0,
    by decide +kernel⟩⟩

theorem witness_AdapterCommands :
    (∃ s : State, MemCanon s ∧ s.shaped = true ∧ s.served R.ADP_CMD.off = true ∧ (s.adapter (s.fld
      R.ADP_SEL_INDEX)).inPrev = 0 ∧ (4 ≤ s.adpWindow.rank ∧ s.adpWindow.rank ≤ 64 ∧ s.adpWindow.rank % 4 = 0 ∧
      s.adpWindow.ty ≤ 2 ∧ 1 ≤ s.adpWindow.nlayer) ∧ s.dataRange 9 s.adpWindow.liveVa (32 * s.adpWindow.nlayer) = true
      ∧ (List.range s.adpWindow.nlayer).all (fun k => layerOk (slice (s.bytes s.adpWindow.liveVa (32 *
      s.adpWindow.nlayer)) (32 * k) 32)) = true) ∧
    (∃ s : State, MemCanon s ∧ s.shaped = true ∧ s.served R.ADP_CMD.off = true ∧ (4 ≤ s.adpWindow.rank ∧
      s.adpWindow.rank ≤ 64 ∧ s.adpWindow.rank % 4 = 0 ∧ s.adpWindow.ty ≤ 2 ∧ 1 ≤ s.adpWindow.nlayer) ∧ s.dataRange 9
      s.adpWindow.stageVa (32 * s.adpWindow.nlayer) = true ∧ (List.range s.adpWindow.nlayer).all (fun k => layerOk
      (slice (s.bytes s.adpWindow.stageVa (32 * s.adpWindow.nlayer)) (32 * k) 32)) = true) ∧
    (∃ s : State, MemCanon s ∧ s.shaped = true ∧ s.served R.ADP_CMD.off = true ∧ (s.adapter (s.fld
      R.ADP_SEL_INDEX)).stage = true ∧ (s.adapter (s.fld R.ADP_SEL_INDEX)).inPrev = 0 ∧ s.fld R.ADP_SEL_INDEX < 1024)
      ∧
    (∃ s : State, MemCanon s ∧ s.shaped = true ∧ s.served R.ADP_CMD.off = true ∧ Sparse.sorted s.pfx.adapters = true ∧
      (s.adapter (s.fld R.ADP_SEL_INDEX)).inPrev = 0 ∧ (s.adapter (s.fld R.ADP_SEL_INDEX)).inLive = 0) ∧
    (∃ s : State, MemCanon s ∧ s.shaped = true ∧ s.served (R.ADP_DESC 0).off = true) ∧
    (∃ (gill : Option Nat) (s : State), MemCanon s ∧ s.shaped = true ∧ (s.pfxAsk gill).any (fun q => q.op == 8 &&
      decide (q.arg < 1024) && !q.flags.testBit 5 && (s.adapter q.arg).live && decide (0 < q.va2 / 65536 % 65536) &&
      decide (q.va2 % 65536 + q.va2 / 65536 % 65536 ≤ (s.adapter q.arg).nlayer)) = true) ∧
    (∃ s : State, MemCanon s ∧ s.shaped = true ∧ s.pfx.gather.isSome = true) ∧
    (∃ (gill : Option Nat) (s : State), MemCanon s ∧ s.shaped = true ∧ (s.pfxAsk gill).any (fun q => q.op == 9 &&
      q.resultVa == 0 && decide (q.arg < 1024) && (s.adapter q.arg).stage && (s.adapter q.arg).inPrev == 0) = true) :=
  ⟨⟨((((upPfx ⟨0, 0, 0, 0, 0, 0⟩ [(0x4000, 16), (0x4002, 16)]).setF (R.ADP_DESC_DESC 0) 0x400).setF (R.ADP_DESC_DESC
    1) 0x100).setF (R.ADP_DESC_DESC 2) 0x4000).setF (R.ADP_DESC_DESC 4) 0x4000, by decide +kernel⟩, ⟨((((upPfx ⟨0, 0,
    0, 0, 0, 0⟩ [(0x4000, 16), (0x4002, 16)]).setF (R.ADP_DESC_DESC 0) 0x400).setF (R.ADP_DESC_DESC 1) 0x100).setF
    (R.ADP_DESC_DESC 2) 0x4000).setF (R.ADP_DESC_DESC 4) 0x4000, by decide +kernel⟩,
    ⟨{ upPfx ⟨0, 0, 0, 0, 0, 0⟩ [] with pfx.adapters := [(1023, { stage := true, stageVa := 64 })] }.setF
    R.ADP_SEL_INDEX 1023, by decide +kernel⟩,
    ⟨{ upPfx ⟨0, 0, 0, 0, 0, 0⟩ [] with pfx.adapters := [(1023, { stage := true, stageVa := 64 })] }.setF
    R.ADP_SEL_INDEX 1023, by decide +kernel⟩,
    ⟨{ upPfx ⟨0, 0, 0, 0, 0, 0⟩ [] with pfx.adapters := [(1023, { stage := true, stageVa := 64 })] }.setF
    R.ADP_SEL_INDEX 1023, by decide +kernel⟩, ⟨none,
    { upPfx ⟨8, 0, 1023, 0, 0x10000, 0⟩ [] with pfx.adapters := [(1023, { live := true, nlayer := 1, rank := 4 })] },
    by decide +kernel⟩,
    ⟨{ upPfx ⟨8, 0, 1023, 0, 0x10000, 0⟩ [] with pfx.gather := some ⟨⟨8, 0, 1023, 0x8000, 0x10000, 0⟩, .work 9, { live := true, nlayer := 1, rank := 4 }, false, some 0⟩ },
    by decide +kernel⟩, ⟨none,
    { upPfx ⟨9, 0, 1023, 0, 0, 0⟩ [] with pfx.adapters := [(1023, { stage := true, stageVa := 64 })] },
    by decide +kernel⟩⟩

theorem witness_AugmentAndAnneal :
    (∃ (w : Work) (va : Nat) (ns : Nat) (s : State), MemCanon s ∧ s.shaped = true ∧ s.sched.works.find? (fun w =>
      w.handed && ((s.queueOf w.queue).map QueueRec.executor) == some 0xA000 && s.chainsDone.all (fun d => d.work !=
      w.id)) = some w ∧ va = w.desc.getD 10 0 + 2 ^ 32 * w.desc.getD 11 0 ∧ va % 64 = 0 ∧ ns = leAt (s.bytes va 64)
      0x12 2 ∧ s.dataRange 10 va (64 + 32 * ns) = true ∧ leAt (s.bytes va 64) 0x10 1 = 0 ∧ jobBad (s.bytes va 64) []
      ((List.range ns).map (fun k => s.bytes (va + 64 + 32 * k) 32)) = none) ∧
    (∃ s : State, MemCanon s ∧ s.shaped = true ∧ s.fld R.ANN_STATUS_STATE = 0 ∧ s.hasAnnealer = true ∧
      (s.sched.works.find? (fun w => w.handed && ((s.queueOf w.queue).map QueueRec.executor) == some 0x8000 &&
      s.chainsDone.all (fun d => d.work != w.id))).any (fun w => (s.goodProblem (w.desc.getD 10 0 + 2 ^ 32 *
      (w.desc.getD 11 0 % 256))).isSome) = true) ∧
    (∃ s : State, MemCanon s ∧ s.shaped = true ∧ s.fld R.ANN_STATUS_STATE = 3) ∧
    (∃ s : State, MemCanon s ∧ s.shaped = true ∧ s.fld R.ANN_STATUS_STATE = 4 ∧ s.ann.work.isSome = true) ∧
    (∃ (value : Nat) (s : State), MemCanon s ∧ s.shaped = true ∧ s.served R.ANN_CTRL.off = true ∧ R.ANN_CTRL_ABORT.of
      value = 1 ∧ s.fld R.ANN_STATUS_STATE = 3) :=
  ⟨⟨unitWork 255 0x8000, 0x8000, 1, upAug, by decide +kernel⟩,
    ⟨{ upAnn 0 with ann := {}, mem := [(0x8000, 1), (0x8002, 1), (0x8010, 0x80), (0x8011, 0x80), (0x8019, 0x81), (0x8021, 0x40), (0x8028, 2), (0x8030, 1), (0x8080, 1)] },
    by decide +kernel⟩, ⟨upAnn 3, by decide +kernel⟩, ⟨upAnn 4, by decide +kernel⟩, ⟨2, upAnn 3, by decide +kernel⟩⟩

theorem witness_TimingEvents :
    (∃ s : State, MemCanon s ∧ s.shaped = true ∧ s.served R.MESH_TW_CTRL.off = true ∧ (s.sched.works.find? (fun w =>
      w.id % 2 ^ 32 == s.fld R.MESH_TW_WORK_WORK_ID)).any (fun w => !w.handed && w.since.isNone && (w.st == .ready ||
      w.st == .held)) = true) ∧
    (∃ s : State, MemCanon s ∧ s.shaped = true ∧ s.served R.MESH_TW_CTRL.off = true ∧ (s.sched.works.find? (fun w =>
      w.id % 2 ^ 32 == s.fld R.MESH_TW_WORK_WORK_ID)).all (fun w => w.handed || w.since.isSome) = true) ∧
    (∃ (vc : Nat) (router : Nat) (last : Nat) (s : State), MemCanon s ∧ s.shaped = true ∧ s.bit R.MESH_PROG_CFG_EN =
      true ∧ vc < 4 ∧ router < 64 ∧ last + s.fld R.MESH_PROG_CFG_STALL_US * 1000 ≤ s.now ∧ s.tw.stalls.contains (vc,
      router, last) = false) :=
  ⟨⟨(upWork (work0 .ready)).setF R.MESH_TW_WORK_WORK_ID 9, by decide +kernel⟩, ⟨up, by decide +kernel⟩, ⟨3, 63, 0,
    { up.setF R.MESH_PROG_CFG_EN 1 with now := 10000000000 }, by decide +kernel⟩⟩

theorem witness_MailboxRing :
    (∃ (value : Nat) (s : State), MemCanon s ∧ s.shaped = true ∧ s.served R.MBX_CTRL.off = true ∧ value % 2 = 1 ∧
      s.bit R.MBX_CTRL_EN = false ∧ s.mbxRefusal = none) ∧
    (∃ s : State, MemCanon s ∧ s.shaped = true ∧ s.bit R.MBX_CTRL_EN = true ∧ s.pmode = 1 ∧ s.mbxAuto = false ∧
      s.mbx.xing8.head?.any (fun r => decide (seqDist (s.fld R.MBX_DONE_DONE + 1) r.rseq < 0x80000000 ∧ r.rseq < 2 ^
      32 ∧ seqDist (s.fld R.MBX_HEAD_HEAD) r.rseq < s.ringN)) = true) ∧
    (∃ (value : Nat) (s : State), MemCanon s ∧ s.shaped = true ∧ s.served R.MBX_HEAD.off = true ∧ seqDist (s.fld
      R.MBX_HEAD_HEAD) value ≤ s.mbxLevel) ∧
    (∃ (value : Nat) (s : State), MemCanon s ∧ s.shaped = true ∧ s.served R.MBX_HEAD.off = true ∧ s.mbxLevel < seqDist
      (s.fld R.MBX_HEAD_HEAD) value) ∧
    (∃ s : State, MemCanon s ∧ s.shaped = true ∧ s.mbxReady = true) ∧
    (∃ s : State, MemCanon s ∧ s.shaped = true ∧ s.served R.MBX_IRQ_PEND.off = true ∧ s.mbxReady = false) :=
  ⟨⟨1, (upMbx 2).setF R.MBX_CTRL_EN 0, by decide +kernel⟩, ⟨{ upMbx 2 with mbx.xing8 := [vrec0, vrec0] },
    by decide +kernel⟩, ⟨7, { (upMbx 2).setF R.MBX_DONE_DONE 7 with mbx.unread := [(6, 1), (7, 2)] },
    by decide +kernel⟩, ⟨8, (upMbx 2).setF R.MBX_DONE_DONE 6, by decide +kernel⟩, ⟨(upMbx 2).setF R.MBX_IRQ_CFG_THR 0,
    by decide +kernel⟩, ⟨((upMbx 2).setF R.MBX_IRQ_PEND_PEND 7).setF R.MBX_IRQ_CFG_THR 3, by decide +kernel⟩⟩

theorem witness_HostAccess :
    (∃ (value : Nat) (s : State), MemCanon s ∧ s.shaped = true ∧ s.served R.MBX_WQ_TAIL.off = true ∧ value < 2 ^ 32 ∧
      seqDist (s.fld R.MBX_WQ_HEAD_HEAD) value ≤ s.wqN ∧ seqDist (s.fld R.MBX_WQ_HEAD_HEAD) (s.fld R.MBX_WQ_TAIL_TAIL)
      ≤ seqDist (s.fld R.MBX_WQ_HEAD_HEAD) value) ∧
    (∃ s : State, MemCanon s ∧ s.shaped = true ∧ s.bit R.MBX_WQ_CTRL_EN = true ∧ s.fld R.MBX_WQ_HEAD_HEAD ≠ s.fld
      R.MBX_WQ_TAIL_TAIL ∧ s.pmode = 1 ∧ s.bit R.SCHED_STATUS_ADMIT_OPEN = false ∧ s.sched.incs = [] ∧ s.dataRange 5
      (s.pair R.MBX_WQ_BASE_LO_BASE_LO R.MBX_WQ_BASE_HI_BASE_HI + 64 * (s.fld R.MBX_WQ_HEAD_HEAD % s.wqN)) 64 = true ∧
      (s.pair R.MBX_WQ_BASE_LO_BASE_LO R.MBX_WQ_BASE_HI_BASE_HI + 64 * (s.fld R.MBX_WQ_HEAD_HEAD % s.wqN)) % 64 = 0) ∧
    (∃ (off : Nat) (data : Option (List Byte)) (s : State), MemCanon s ∧ s.shaped = true ∧ data.isSome = true ∧
      s.barOpen = true ∧ off + (data.getD []).length ≤ 2 ^ s.mbx.barLog2 ∧ s.img.active.isSome = true ∧ s.dataRange 5
      (s.bar2Va off) (data.getD []).length = true) ∧
    (∃ (off : Nat) (len : Nat) (data : Option (List Byte)) (s : State), MemCanon s ∧ s.shaped = true ∧ data = none ∧
      s.barOpen = true ∧ off + len ≤ 2 ^ s.mbx.barLog2 ∧ s.img.active.isSome = true ∧ s.dataRange 5 (s.bar2Va off) len
      = true) ∧
    (∃ (answer : Option (Nat × List Byte)) (s : State), MemCanon s ∧ s.shaped = true ∧ answer = none ∧ s.mbx.hwPosted
      ≠ [] ∧ s.bit R.MBX_LINK_UP = true) ∧
    (∃ (answer : Option (Nat × List Byte)) (a : Nat) (v : Byte) (s : State), MemCanon s ∧ s.shaped = true ∧ answer =
      some (a, [v])) ∧
    (∃ (write : Bool) (cause : Nat) (s : State), MemCanon s ∧ s.shaped = true ∧ write = true ∧ 1 ≤ cause ∧ cause ≤ 3 ∧
      s.mbx.hwPosted ≠ [] ∧ (cause = 1 → s.hwOverdue = true)) ∧
    (∃ (write : Bool) (cause : Nat) (s : State), MemCanon s ∧ s.shaped = true ∧ write = false ∧ 1 ≤ cause ∧ cause ≤ 3)
      ∧
    (∃ s : State, MemCanon s ∧ s.shaped = true ∧ s.served R.MBX_RUNSET_CTRL.off = true ∧ s.img.active.isSome = true) ∧
    (∃ s : State, MemCanon s ∧ s.shaped = true ∧ s.served R.MBX_RUNSET_CTRL.off = true ∧ s.mbx.runValid = true ∧
      s.img.active.isSome = true ∧ s.words8 R.BOOT_IMG_DIGEST_DIGEST ≠ s.mbx.runDigest) ∧
    (∃ s : State, MemCanon s ∧ s.shaped = true ∧ s.served R.MBX_RUNSET_CTRL.off = true ∧ s.mbx.runValid = true ∧
      s.img.active.isSome = true ∧ s.words8 R.BOOT_IMG_DIGEST_DIGEST = s.mbx.runDigest ∧ (runAll s.mbx.runRegs
      s.runSteps (s.setB R.MBX_RUNSET_STATUS_APPLIED false)).1 = none) :=
  ⟨⟨16, (upHost.setF R.MBX_WQ_CFG_LOG2 4), by decide +kernel⟩, ⟨((upHost.setF R.MBX_WQ_CFG_LOG2 4).setF
    R.MBX_WQ_CTRL_EN 1).setF R.MBX_WQ_TAIL_TAIL 3, by decide +kernel⟩, ⟨63, (some [7, 8, 9]), upHost,
    by decide +kernel⟩, ⟨63, 2, none, { upHost with mem := [(63, 9), (64, 8)] }, by decide +kernel⟩, ⟨none,
    { upHost with mbx.hwPosted := [{ src := 0x7000, pa := 2 ^ 38, bus := 64, data := [1, 2], at_ := 0 }] },
    by decide +kernel⟩, ⟨some (64, [9]), 64, 9, upHost, by decide +kernel⟩, ⟨true, 3,
    { upHost with mbx.hwPosted := [{ src := 0x7000, pa := 2 ^ 38, bus := 64, data := [1, 2], at_ := 0 }] },
    by decide +kernel⟩, ⟨false, 2, upHost, by decide +kernel⟩, ⟨upHost, by decide +kernel⟩,
    ⟨{ upHost with mbx.runValid := true, mbx.runDigest := [1] }, by decide +kernel⟩,
    ⟨{ (upPfx ⟨0, 0, 0, 0, 0, 0⟩ []).setF R.PFX_CFG_NODES_K 0 with mbx.runValid := true, mbx.runDigest := List.replicate 32 0, mbx.runRegs := [(0x3124, 1)] },
    by decide +kernel⟩⟩

theorem witness_HostLink :
    (∃ s : State, MemCanon s ∧ s.shaped = true ∧ s.mbx.perst = true) ∧
    (∃ (speed : Nat) (width : Nat) (s : State), MemCanon s ∧ s.shaped = true ∧ s.mbx.perst = false ∧ s.pwr.inReset =
      false ∧ 1 ≤ speed ∧ speed ≤ 4 ∧ width ∈ [1, 2, 4, 8] ∧ (s.fld R.CLK_STATUS_RUNNING).testBit 3 = true) ∧
    (∃ s : State, MemCanon s ∧ s.shaped = true ∧ s.cfgOpen = true) ∧
    (∃ s : State, MemCanon s ∧ s.shaped = true) :=
  ⟨⟨{ upHost with mbx.perst := true }, by decide +kernel⟩, ⟨4, 8, upHost.setF R.CLK_STATUS_RUNNING 0xFF,
    by decide +kernel⟩, ⟨upHost, by decide +kernel⟩, ⟨upHost, by decide +kernel⟩⟩

theorem witness_SpiCommands :
    (∃ (value : Nat) (s : State), MemCanon s ∧ s.shaped = true ∧ s.served R.SPI_PUSH.off = true ∧ R.SPI_PUSH_GO.of
      value = 1 ∧ 4 ≤ (⟨(s.rd R.SPI_ENT0).toNat, (s.rd R.SPI_ENT1).toNat, (s.rd R.SPI_ENT2).toNat⟩ : SpiEntry).bits ∧
      0 < (⟨(s.rd R.SPI_ENT0).toNat, (s.rd R.SPI_ENT1).toNat, (s.rd R.SPI_ENT2).toNat⟩ : SpiEntry).count ∧ (⟨(s.rd
      R.SPI_ENT0).toNat, (s.rd R.SPI_ENT1).toNat, (s.rd R.SPI_ENT2).toNat⟩ : SpiEntry).count ≤ 256 ∧ ((⟨(s.rd
      R.SPI_ENT0).toNat, (s.rd R.SPI_ENT1).toNat, (s.rd R.SPI_ENT2).toNat⟩ : SpiEntry).statChk = true → (⟨(s.rd
      R.SPI_ENT0).toNat, (s.rd R.SPI_ENT1).toNat, (s.rd R.SPI_ENT2).toNat⟩ : SpiEntry).status = true) ∧
      (s.spi.queue.getLast?.or s.spi.running).all (fun p => !p.chain) = true ∧ s.spi.queue.length < 32) ∧
    (∃ s : State, MemCanon s ∧ s.shaped = true ∧ s.spi.queue.head?.any (fun e => !e.chain) = true ∧ s.bit
      R.SPI_CTRL_EN = true ∧ s.spi.running = none ∧ s.spi.cpl.length < 32) ∧
    (∃ s : State, MemCanon s ∧ s.shaped = true ∧ s.spi.running.any (fun e => !e.status) = true) ∧
    (∃ (value : Nat) (s : State), MemCanon s ∧ s.shaped = true ∧ s.served R.SPI_CTRL.off = true ∧ R.SPI_CTRL_ABORT.of
      value = 1) :=
  ⟨⟨0x80000000,
    { (up.setF R.SPI_ENT0_BITS_M1 3).setF R.SPI_ENT1_COUNT 256 with spi := { queue := List.replicate 31 spi0 } },
    by decide +kernel⟩,
    ⟨{ up.setF R.SPI_CTRL_EN 1 with spi := { queue := [spi0], cpl := List.replicate 31 ⟨0, 0, 0⟩ } },
    by decide +kernel⟩, ⟨{ up with spi := { running := some spi0 } }, by decide +kernel⟩, ⟨3,
    { up with spi := { running := some spi0, queue := [spi0] } }, by decide +kernel⟩⟩

theorem witness_I2cCommands :
    (∃ (value : Nat) (s : State), MemCanon s ∧ s.shaped = true ∧ s.served R.I2C_PUSH.off = true ∧ R.I2C_PUSH_GO.of
      value = 1 ∧ (0 < (⟨(s.rd R.I2C_CMD0).toNat, (s.rd R.I2C_CMD1).toNat, false⟩ : I2cCmd).wlen ∨ 0 < (⟨(s.rd
      R.I2C_CMD0).toNat, (s.rd R.I2C_CMD1).toNat, false⟩ : I2cCmd).rlen) ∧ (⟨(s.rd R.I2C_CMD0).toNat, (s.rd
      R.I2C_CMD1).toNat, false⟩ : I2cCmd).block = false ∧ s.bit R.I2C_CTRL_TEN = false ∧ s.i2c.queue.length < 16) ∧
    (∃ (pulses : Nat) (s : State), MemCanon s ∧ s.shaped = true ∧ s.i2c.queue ≠ [] ∧ s.bit R.I2C_CTRL_CEN = true ∧
      s.i2c.running = false ∧ s.i2c.cpl.length < 16 ∧ s.i2c.busFree = true ∧ pulses ≤ 9) ∧
    (∃ s : State, MemCanon s ∧ s.shaped = true ∧ s.i2c.running = true ∧ s.i2c.seq.getLast?.any (fun c => !c.nostop &&
      !c.recorded) = true) ∧
    (∃ s : State, MemCanon s ∧ s.shaped = true ∧ s.i2c.running = true ∧ s.i2c.seq ≠ [] ∧ s.i2c.retries + 1 ≤ s.fld
      R.I2C_CFG_RETRY_MAX) ∧
    (∃ s : State, MemCanon s ∧ s.shaped = true ∧ s.i2c.running = true ∧ s.i2c.seq ≠ [] ∧ s.bit R.I2C_CFG_SMBUS = true)
      ∧
    (∃ s : State, MemCanon s ∧ s.shaped = true ∧ s.i2c.running = false ∧ s.bit R.I2C_STATUS_HOLDING = false) ∧
    (∃ (read : Bool) (s : State), MemCanon s ∧ s.shaped = true ∧ s.bit R.I2C_CTRL_TEN = true ∧ read = true) ∧
    (∃ s : State, MemCanon s ∧ s.shaped = true ∧ s.i2c.tgt.isSome = true) ∧
    (∃ s : State, MemCanon s ∧ s.shaped = true ∧ s.served R.I2C_CTRL.off = true ∧ s.i2c.busFree = true) ∧
    (∃ (value : Nat) (s : State), MemCanon s ∧ s.shaped = true ∧ s.served R.I2C_CTRL.off = true ∧ R.I2C_CTRL_ABORT.of
      value = 1) ∧
    (∃ s : State, MemCanon s ∧ s.shaped = true) ∧
    (∃ s : State, MemCanon s ∧ s.shaped = true ∧ s.i2c.tgt.isSome = true) :=
  ⟨⟨0x80000000, { up.setF R.I2C_CMD0_WLEN 255 with i2c := { queue := List.replicate 15 i2c0 } }, by decide +kernel⟩,
    ⟨9,
    { up.setF R.I2C_CTRL_CEN 1 with i2c := { queue := [i2c0], cpl := List.replicate 15 ⟨0, 0, 0⟩, busFree := true } },
    by decide +kernel⟩, ⟨{ up with i2c := { running := true, seq := [i2c0] } }, by decide +kernel⟩,
    ⟨{ up.setF R.I2C_CFG_RETRY_MAX 15 with i2c := { running := true, seq := [i2c0], retries := 14 } },
    by decide +kernel⟩, ⟨{ up.setF R.I2C_CFG_SMBUS 1 with i2c := { running := true, seq := [i2c0] } },
    by decide +kernel⟩, ⟨up, by decide +kernel⟩, ⟨true, { up.setF R.I2C_CTRL_TEN 1 with i2c := { tptr := 255 } },
    by decide +kernel⟩, ⟨{ up with i2c := { tgt := some ⟨true, 0, 3, false, false, []⟩ } }, by decide +kernel⟩,
    ⟨{ (up.setF (R.I2C_TWIN_DATA 31) 0x55).setF R.I2C_CTRL_TEN 1 with i2c := { busFree := true } },
    by decide +kernel⟩, ⟨5, { up with i2c := { running := true, seq := [i2c0], queue := [i2c0] } },
    by decide +kernel⟩, ⟨{ up with i2c := { busFree := true, waiting := some [5] } }, by decide +kernel⟩,
    ⟨{ up with i2c := { tgt := some ⟨true, 0, 3, false, false, []⟩ } }, by decide +kernel⟩⟩

theorem witness_JournalCommands :
    (∃ (ty : Nat) (s : State), MemCanon s ∧ s.shaped = true ∧ 2 ≤ ty ∧ ty ≤ 9 ∧ s.stageFits ty ([0, 1, 3, 8, 4, 2, 2,
      1, 2, 1].getD ty 1) = true) ∧
    (∃ s : State, MemCanon s ∧ s.shaped = true ∧ s.jrnRuns = true ∧ s.jrn.flashOff = false ∧ s.jrn.deferring = false ∧
      65 < s.jrn.runway ∧ s.energyOk 15 = true ∧ s.jrn.stageDrop = 0 ∧ s.pageReady.1 ≠ [] ∧ s.pageReady.2 = true) ∧
    (∃ s : State, MemCanon s ∧ s.shaped = true ∧ s.jrnRuns = true ∧ s.jrn.flashOff = false ∧ s.jrn.deferring = false ∧
      65 < s.jrn.runway ∧ s.energyOk 15 = true ∧ s.jrn.stageDrop = 0 ∧ s.pageReady.1 ≠ [] ∧ s.jrn.staging.head?.any
      (fun r => r.start != s.jrn.startCnt || decide (r.mono + s.fld R.JRN_CFG_FLUSH_MS * 1000000 ≤ s.time.mono)) =
      true) ∧
    (∃ s : State, MemCanon s ∧ s.shaped = true ∧ s.served R.JRN_CTRL.off = true ∧ s.jrnRuns = true ∧ s.jrn.flashOff =
      false ∧ s.jrn.deferring = false ∧ 65 < s.jrn.runway ∧ s.energyOk 15 = true ∧ s.jrn.stageDrop = 0 ∧ s.pageReady.1
      ≠ []) ∧
    (∃ s : State, MemCanon s ∧ s.shaped = true ∧ s.jrn.deferring = true ∧ s.jrn.deferLong = false ∧ s.jrn.deferAt +
      2000000000 ≤ s.now) ∧
    (∃ s : State, MemCanon s ∧ s.shaped = true ∧ s.jrnRuns = true ∧ s.jrn.runway < 128 ∧ s.jrn.flashOff = false ∧
      s.energyOk 1 = true) ∧
    (∃ s : State, MemCanon s ∧ s.shaped = true ∧ s.jrnRuns = true ∧ s.jrn.cntAt + s.fld R.JRN_CFG_CNT_S * 1000000000 ≤
      s.now ∧ s.stageFits 2 3 = true) ∧
    (∃ s : State, MemCanon s ∧ s.shaped = true ∧ s.jrnRuns = true ∧ s.jrn.tailSent ≤ s.mot.log.total ∧ s.mot.log.total
      ≤ s.jrn.tailSent + 1024) ∧
    (∃ s : State, MemCanon s ∧ s.shaped = true ∧ s.jrn.holdup = true ∧ s.jrn.flashOff = false ∧ s.ejActive = false) ∧
    (∃ s : State, MemCanon s ∧ s.shaped = true ∧ s.served R.JRN_RD_CTRL.off = true ∧ s.jrn.flashOff = false ∧
      (s.jrn.pages.find? (fun e => e.1 == s.fld R.JRN_RD_OFS_PAGE)).any (fun e => e.2 != []) = true) ∧
    (∃ s : State, MemCanon s ∧ s.shaped = true ∧ s.flashReady 2 = true ∧ s.jrn.reqs.length = 1) ∧
    (∃ s : State, MemCanon s ∧ s.shaped = true ∧ s.flashReady 4 = true ∧ s.jrn.reqs.length = 1 ∧ s.mbx.runNew.isSome =
      true) :=
  ⟨⟨9, upJrn, by decide +kernel⟩, ⟨upJrn, by decide +kernel⟩, ⟨{ upJrn with time.mono := 10000000000 },
    by decide +kernel⟩, ⟨upJrn, by decide +kernel⟩,
    ⟨{ upJrn with jrn := { upJrn.jrn with deferring := true }, now := 2000000000 }, by decide +kernel⟩,
    ⟨{ upJrn with jrn := { upJrn.jrn with runway := 127 } }, by decide +kernel⟩,
    ⟨{ upJrn with now := 100000000000000 }, by decide +kernel⟩,
    ⟨{ upJrn with mot.log := { ents := [(0, List.replicate 32 7)], total := 1 } }, by decide +kernel⟩,
    ⟨{ upJrn with jrn := { upJrn.jrn with holdup := true } }, by decide +kernel⟩,
    ⟨{ upJrn with jrn := { upJrn.jrn with pages := [(0, List.replicate 256 7)] } }, by decide +kernel⟩,
    ⟨{ upJrn with jrn := { upJrn.jrn with reqs := [⟨2, 0⟩] } }.setB R.BOOT_FMAP_STATUS_WRITE_PENDING true,
    by decide +kernel⟩,
    ⟨{ upJrn with jrn := { upJrn.jrn with reqs := [⟨4, 0⟩] }, mbx.runNew := some ([1], true, [(0x3124, 5)]) },
    by decide +kernel⟩⟩

theorem witness_RemainingEvents :
    (∃ (port : Nat) (s : State), MemCanon s ∧ s.shaped = true ∧ port < 2 ∧ s.pwr.inReset = false) ∧
    (∃ (which : Nat) (s : State), MemCanon s ∧ s.shaped = true ∧ which = 0) ∧
    (∃ (which : Nat) (s : State), MemCanon s ∧ s.shaped = true ∧ which = 1) ∧
    (∃ (which : Nat) (s : State), MemCanon s ∧ s.shaped = true ∧ which = 2) ∧
    (∃ (chan : Nat) (s : State), MemCanon s ∧ s.shaped = true ∧ chan < 4 ∧ s.pwr.lost = false) ∧
    (∃ (side : Nat) (state : Nat) (s : State), MemCanon s ∧ s.shaped = true ∧ side < 2 ∧ s.linkUp side = true ∧ (state
      = 1 ∨ state = 2)) ∧
    (∃ s : State, MemCanon s ∧ s.shaped = true ∧ s.time.copy.any (fun c => !c.2.2) = true ∧ s.time.runs = true) ∧
    (∃ (ring : Bool) (s : State), MemCanon s ∧ s.shaped = true ∧ ring = false) ∧
    (∃ (ring : Bool) (s : State), MemCanon s ∧ s.shaped = true ∧ ring = true ∧ s.hasRing = true ∧ s.linkUp 0 = false ∧
      s.linkUp 1 = false) ∧
    (∃ s : State, MemCanon s ∧ s.shaped = true ∧ s.pwr.lost = true ∧ s.pwr.vinGood = false) ∧
    (∃ (lane : Nat) (s : State), MemCanon s ∧ s.shaped = true ∧ lane < 24 ∧ s.laneHere lane = true ∧ s.bit
      (R.LANE_PRBS_CHK_EN lane) = true) ∧
    (∃ (lane : Nat) (s : State), MemCanon s ∧ s.shaped = true ∧ lane < 24 ∧ s.laneHere lane = true) ∧
    (∃ (port : Nat) (s : State), MemCanon s ∧ s.shaped = true ∧ port < 8 ∧ port < s.cxpPorts) :=
  ⟨⟨1, up, by decide +kernel⟩, ⟨0, up.setB R.PWR_MOD_STATUS_VEJ_A_LOW true, by decide +kernel⟩, ⟨1, up.setB
    R.PWR_MOD_STATUS_VEJ_B_LOW true, by decide +kernel⟩, ⟨2, up.setB R.PWR_MOD_STATUS_VCAM_LOW true,
    by decide +kernel⟩, ⟨3, up, by decide +kernel⟩, ⟨1, 2, upRing 4, by decide +kernel⟩,
    ⟨{ up with time.copy := some (7, 0, false), time.runs := true }, by decide +kernel⟩, ⟨false,
    { up with pwr.ethDrive := true }, by decide +kernel⟩, ⟨true, { up with pwr.ringDrive := true },
    by decide +kernel⟩, ⟨{ up with pwr.lost := true, pwr.vinGood := false }, by decide +kernel⟩, ⟨23, up.setF
    (R.LANE_PRBS_CHK_EN 23) 1, by decide +kernel⟩, ⟨23, up.setF (R.LANE_PRBS_LOCK 23) 1, by decide +kernel⟩, ⟨7, up,
    by decide +kernel⟩⟩

theorem witness_RegisterWrites :
    (∃ (off : Nat) (size : Nat) (s : State), MemCanon s ∧ s.shaped = true ∧ off ∈ plainOffs ∧ size = 4 ∧ s.served off
      = true) ∧
    (∃ (off : Nat) (size : Nat) (s : State), MemCanon s ∧ s.shaped = true ∧ off % 8 = 0 ∧ size = 8) ∧
    (∃ (off : Nat) (size : Nat) (s : State), MemCanon s ∧ s.shaped = true ∧ off % size ≠ 0 ∧ size ∈ [1, 2, 4, 8]) ∧
    (∃ (off : Nat) (size : Nat) (s : State), MemCanon s ∧ s.shaped = true ∧ off % size = 0 ∧ size ∈ [1, 2]) ∧
    (∃ (off : Nat) (size : Nat) (value : Nat) (s : State), MemCanon s ∧ s.shaped = true ∧ off % 4 = 0 ∧ size = 4 ∧
      value < 2 ^ 32 ∧ s.pwr.inReset = false ∧ s.pmode ≠ 4 ∧ s.bootState ≠ 0 ∧ s.boot.mapped = true ∧ s.absent off =
      false ∧ s.gated off = true) ∧
    (∃ (off : Nat) (size : Nat) (s : State), MemCanon s ∧ s.shaped = true ∧ off % 4 = 0 ∧ size = 4 ∧ s.pwr.inReset =
      false ∧ s.pmode ≠ 4 ∧ s.bootState = 0 ∧ 0x4000 ≤ off ∧ s.boot.earlyAccess = false) ∧
    (∃ (off : Nat) (size : Nat) (s : State), MemCanon s ∧ s.shaped = true ∧ off % 4 = 0 ∧ size = 4 ∧ s.pwr.inReset =
      false ∧ s.pmode ≠ 4 ∧ s.bootState = 0 ∧ 0x4000 ≤ off ∧ s.boot.earlyAccess = true) :=
  ⟨⟨0x60008, 4, upImg, by decide +kernel⟩, ⟨0x60010, 8, upImg, by decide +kernel⟩, ⟨0x60011, 4, upImg,
    by decide +kernel⟩, ⟨0x60011, 1, upImg, by decide +kernel⟩, ⟨0x60010, 4, 5, (up.setF R.PWR_MODE_STATUS_MODE
    3).setF R.CLK_STATUS_RUNNING 0x1F, by decide +kernel⟩, ⟨0x60010, 4, up.setF R.SYS_BOOT_STATUS_STATE 0,
    by decide +kernel⟩, ⟨0x60010, 4, { up.setF R.SYS_BOOT_STATUS_STATE 0 with boot.earlyAccess := true },
    by decide +kernel⟩⟩

theorem witness_AbsentUnits :
    (∃ (off : Nat) (size : Nat) (s : State), MemCanon s ∧ s.shaped = true ∧ size ∈ [4, 8] ∧ off % size = 0 ∧
      s.pwr.inReset = false ∧ s.pmode ≠ 4 ∧ s.bootState ≠ 0 ∧ s.boot.mapped = true ∧ s.absent off = true) ∧
    (∃ (off : Nat) (size : Nat) (s : State), MemCanon s ∧ s.shaped = true ∧ size ∈ [1, 2, 4, 8] ∧ off % size = 0 ∧
      s.pwr.inReset = false ∧ s.pmode ≠ 4 ∧ s.bootState ≠ 0 ∧ s.boot.mapped = true ∧ s.absent (off - off % 4) = true)
      ∧
    (∃ (off : Nat) (s : State), MemCanon s ∧ s.shaped = true ∧ off % 4 = 0 ∧ s.pwr.inReset = false ∧ s.pmode ≠ 4 ∧
      s.bootState ≠ 0 ∧ s.boot.mapped = true ∧ s.absent off = true) :=
  ⟨⟨0x1FC010, 4, (upImg.setF R.SYS_CAP_UNITS_GILLS 20).setF R.SYS_CAP_UNITS_PUFFBALL 0, by decide +kernel⟩, ⟨0xC0000,
    4, (upImg.setF R.SYS_CAP_UNITS_GILLS 20).setF R.SYS_CAP_UNITS_PUFFBALL 0, by decide +kernel⟩, ⟨0xC0010,
    (upImg.setF R.SYS_CAP_UNITS_GILLS 20).setF R.SYS_CAP_UNITS_PUFFBALL 0, by decide +kernel⟩⟩

theorem witness_RegisterReads :
    (∃ (off : Nat) (size : Nat) (s : State), MemCanon s ∧ s.shaped = true ∧ off ∈ rcOffs ∧ size = 4 ∧ s.served off =
      true ∧ Sparse.get s.bus.shadows off none = none) ∧
    (∃ (off : Nat) (size : Nat) (s : State), MemCanon s ∧ s.shaped = true ∧ off % size = 0 ∧ size ∈ [1, 2] ∧ s.gated
      (off - off % 4) = false) ∧
    (∃ (off : Nat) (size : Nat) (s : State), MemCanon s ∧ s.shaped = true ∧ off % 8 = 0 ∧ size = 8 ∧ s.served off =
      true) ∧
    (∃ (off : Nat) (size : Nat) (s : State), MemCanon s ∧ s.shaped = true ∧ off % size ≠ 0 ∧ size ∈ [1, 2, 4, 8]) ∧
    (∃ (off : Nat) (size : Nat) (s : State), MemCanon s ∧ s.shaped = true ∧ size ∈ [1, 2, 4, 8] ∧ off % size = 0 ∧
      s.pwr.inReset = false ∧ s.pmode ≠ 4 ∧ s.bootState ≠ 0 ∧ s.boot.mapped = true ∧ s.absent (off - off % 4) = false
      ∧ s.gated (off - off % 4) = true) :=
  ⟨⟨0x10820, 4, upImg.setF R.MOT_TRK_OPENED_OPENED 5, by decide +kernel⟩, ⟨0x10815, 1, upImg.setF
    R.MOT_TRK_OPENED_OPENED 5, by decide +kernel⟩, ⟨0x10010, 8, upImg, by decide +kernel⟩, ⟨0x60011, 4, upImg,
    by decide +kernel⟩, ⟨0x30010, 4, (up.setF R.PWR_MODE_STATUS_MODE 2).setF R.CLK_STATUS_RUNNING 0xDF,
    by decide +kernel⟩⟩

theorem witness_ConsistentReads :
    (∃ (off : Nat) (s : State), MemCanon s ∧ s.shaped = true ∧ off % 4 = 0 ∧ isLow off = true ∧ s.served off = true ∧
      Sparse.get s.bus.shadows off none = none) :=
  ⟨0x10338, (upImg.setF (R.MOT_CH_X_LO_X_LO 3) 7).setF (R.MOT_CH_X_HI_X_HI 3) 9, by decide +kernel⟩

theorem witness_HeldAccesses :
    (∃ (a : HeldAccess) (l : List HeldAccess) (s : State), MemCanon s ∧ s.shaped = true ∧ s.bus.held = a :: l ∧
      a.write = true ∧ a.off % 4 = 0 ∧ s.mode.active = false ∧ s.gated a.off = false ∧ s.served a.off = true) ∧
    (∃ (a : HeldAccess) (l : List HeldAccess) (s : State), MemCanon s ∧ s.shaped = true ∧ s.bus.held = a :: l ∧
      a.write = false ∧ a.off % 4 = 0 ∧ a.len ∈ [1, 2, 4, 8] ∧ (a.off + a.lane) % a.len = 0 ∧ a.lane < 4 ∧
      s.mode.active = false ∧ s.gated a.off = false ∧ s.served a.off = true) :=
  ⟨⟨⟨0x60010, true, 7, 0, 4⟩, [], { up with bus.held := [⟨0x60010, true, 7, 0, 4⟩] }, by decide +kernel⟩, ⟨⟨0x10820,
    false, 0, 2, 2⟩, [], { up with bus.held := [⟨0x10820, false, 0, 2, 2⟩] }, by decide +kernel⟩⟩

theorem witness_PoppedQueues :
    (∃ s : State, MemCanon s ∧ s.shaped = true ∧ s.served (R.MMU_FQ_DATA 0).off = true) ∧
    (∃ s : State, MemCanon s ∧ s.shaped = true ∧ s.served (R.PTP_EVT_DATA 0).off = true) ∧
    (∃ s : State, MemCanon s ∧ s.shaped = true ∧ s.served R.PTP_SMP_OFS_LO.off = true) ∧
    (∃ s : State, MemCanon s ∧ s.shaped = true ∧ s.served (R.SPI_CPL 0).off = true) ∧
    (∃ s : State, MemCanon s ∧ s.shaped = true ∧ s.served R.I2C_CPL0.off = true) ∧
    (∃ s : State, MemCanon s ∧ s.shaped = true ∧ s.served R.I2C_TLOG.off = true) :=
  ⟨⟨{ upGill 0 0 with mmu.fq := [List.replicate 32 7, []] }, by decide +kernel⟩,
    ⟨{ up with time.evts := [⟨1, 2, 3, 4⟩, ⟨5, 6, 7, 8⟩] }, by decide +kernel⟩,
    ⟨{ up with time.samples := [⟨1, -7, 3, 4, 5⟩] }, by decide +kernel⟩,
    ⟨{ up with spi := { cpl := [⟨1, 2, 3⟩, ⟨4, 5, 6⟩] } }, by decide +kernel⟩,
    ⟨{ up with i2c := { cpl := [⟨1, 2, 3⟩, ⟨4, 5, 6⟩] } }, by decide +kernel⟩, ⟨{ up with i2c := { tlog := [1, 2] } },
    by decide +kernel⟩⟩

theorem witness_GillScalarResults : ∃ (gill op d a b sb imm : Nat) (x y : BitVec 32) (pr : ProgRec) (s : State),
    MemCanon s ∧ s.shaped = true ∧ (gill < 64 ∧ gill < s.gills ∧ s.gst gill = 1 ∧ (s.gl gill).halt = none ∧ s.runs = true
      ∧ (s.gl gill).acc = [] ∧ (s.gl gill).sincs = [] ∧ (s.gl gill).loops = []) ∧
    (1 ≤ op ∧ op ≤ 0x10 ∧ d < 64 ∧ a < 64 ∧ b < 64 ∧ sb < 2 ∧ imm < 2 ^ 32 ∧ (sb = 1 → b = 0) ∧ (sb = 0 → imm = 0)
      ∧ (op = 0x10 → a = 0)) ∧
    (s.gprog gill = some pr ∧ s.gpc gill + 1 < pr.bundles ∧ pr.bundles ≤ 4096
      ∧ bundleSlots pr.code (s.gpc gill) = scalarWord op d a b sb imm :: List.replicate 15 0) ∧
    ((s.gl gill).s.getD a 0 = x.toNat ∧ (if sb = 1 then imm else (s.gl gill).s.getD b 0) = y.toNat) :=
  ⟨63, 0x10, 63, 0, 0, 1, 0xFFFFFFFF, 0, 0xFFFFFFFF,
    ⟨0, 2, 0, [], [], code1 (scalarWord 0x10 63 0 0 1 0xFFFFFFFF)⟩,
    upGill 1 (scalarWord 0x10 63 0 0 1 0xFFFFFFFF), by decide +kernel⟩

theorem witness_StepRunsTheFrontCommand : ∃ (c : Instr) (rest : List Instr) (s : State), s.pending = c :: rest :=
  ⟨.vinShortDip, [.nrstAssert], { State.reset with pending := [.vinShortDip, .nrstAssert] }, rfl⟩

theorem witness_StepOnAnEmptyQueue : ∃ s : State, s.pending = [] ∧ s.time.runs = false := ⟨State.reset, rfl, rfl⟩

theorem witness_steps : ∃ s t : State, MemCanon s ∧ s.shaped = true ∧ step s = .next t :=
  ⟨State.reset, _, by decide +kernel, by decide +kernel, rfl⟩

theorem witness_FrameOfEveryCommand : ∃ (c : Instr) (s t : State) (l : List (Nat → Nat)),
    MemCanon s ∧ exec c s = .next t ∧ Frame.regs c = some l :=
  ⟨.vinShortDip, State.reset, _, _, by decide +kernel, rfl, rfl⟩

end Sys2Proof.Tests
end

section
/-! PROOFS. Scope, the frames: what a step keeps follows from Touches, which the Frame files prove of every operation. The frame
of a command is its mask, read as a list of parts and a list of groups of registers. -/

set_option Elab.async false

namespace Sys2Proof.Machine

/-! ## What one command keeps -/

/-- The next state of a command is one that Touches speaks of. -/
theorem Ends.touches {m : Nat} {s t : State} {o : Res} (h : Ends m s o) (e : o = .next t) : Touches m s t := by
  obtain ⟨u, hu, touch⟩ := h
  cases hu.symm.trans e
  exact touch

/-- Settles O51. -/
theorem historyIsKept : Obligations.HistoryIsKept := fun c s _ e => ((exec_ends c s).touches e).hist

/-- Settles O55: with a command waiting by its frame, and otherwise by that of the idle step. -/
theorem theTablesKeepTheirShape : Obligations.TheTablesKeepTheirShape := by
  intro s t shaped e
  unfold step at e
  cases hq : s.pending with
  | nil =>
    rw [hq] at e
    cases e
    exact (State.idle_touches s).shape shaped
  | cons c rest =>
    rw [hq] at e
    exact ((exec_ends c { s with pending := rest }).touches e).shape shaped

/-- Settles O56. -/
theorem theTablesHaveTheirShapeAtReset : Obligations.TheTablesHaveTheirShapeAtReset := by
  unfold Obligations.TheTablesHaveTheirShapeAtReset
  decide

/-- Settles O58: the register file is empty after reset, so that every register reads its reset value. -/
theorem resetValues : Obligations.ResetValues := by
  unfold Obligations.ResetValues
  decide

/-! ## Frames by masks and groups -/

/-- The parts of the state, in the order of their numbers. -/
def allParts : List Part :=
  [.regs, .mem, .bus, .now, .free, .time, .pwr, .mode, .img, .boot, .mmu, .sram, .dma, .chainsDone, .waits, .gill,
    .flights, .sched, .tw, .mot, .cam, .lanes, .ring, .pfx, .ann, .jrn, .mbx, .spi, .i2c, .out, .pending]

/-- The parts a mask names. -/
def partsOf (m : Nat) : List Part := allParts.filter (fun p => m.testBit p.bit)

theorem mem_partsOf (m : Nat) (p : Part) : p ∈ partsOf m ↔ m.testBit p.bit = true := by
  have hp : p ∈ allParts := by cases p <;> decide
  simp [partsOf, hp]

/-- The mask of a list of groups, from bit 0 on. -/
def groupMask (l : List Nat) : Nat := l.foldl (fun m b => m ||| 2 ^ b) 0

theorem testBit_groupMask (l : List Nat) (n : Nat) : (groupMask l).testBit n = true → n ∈ l := by
  suffices h : ∀ (l : List Nat) (m : Nat), (l.foldl (fun m b => m ||| 2 ^ b) m).testBit n = true →
      m.testBit n = true ∨ n ∈ l from fun hn => (h l 0 hn).resolve_left (by simp)
  intro l
  induction l with
  | nil => exact fun m hm => .inl hm
  | cons b l ih =>
    intro m hm
    rcases ih _ hm with h | h
    · rw [Nat.testBit_or, Bool.or_eq_true, Nat.testBit_two_pow, decide_eq_true_eq] at h
      rcases h with h | h
      · exact .inl h
      · exact .inr (h ▸ List.mem_cons_self ..)
    · exact .inr (List.mem_cons_of_mem _ h)

/-- The parts that a mask does not name stay. -/
theorem Touches.parts {m : Nat} {s t : State} (h : Touches m s t) : OnlyParts (partsOf m) s t :=
  h.onlyParts _ fun p hp => Bool.eq_false_iff.mpr fun hb => hp ((mem_partsOf m p).mpr hb)

/-- `gs` are the groups of the rows listed, in their order. -/
def GroupsOf (l : List (Nat → Nat)) (gs : List Nat) : Prop := l = gs.map grpOff

theorem GroupsOf.append {k l : List (Nat → Nat)} {gs hs : List Nat} (h : GroupsOf k gs) (i : GroupsOf l hs) :
    GroupsOf (k ++ l) (gs ++ hs) := by rw [GroupsOf, h, i, List.map_append]

theorem GroupsOf.list {l : List (Nat → Nat)} (gs : List Nat) (h : l = gs.map grpOff := by rfl) : GroupsOf l gs := h

/-- Some rows more. -/
theorem GroupsOf.and {k l : List (Nat → Nat)} {gs : List Nat} (h : GroupsOf k gs) (hs : List Nat)
    (i : l = hs.map grpOff := by rfl) : GroupsOf (k ++ l) (gs ++ hs) := h.append i

/-- A mask within the groups of a list promises the registers outside their rows. -/
theorem Touches.rows {m : Nat} {s t : State} {l : List (Nat → Nat)} {gs : List Nat} (h : Touches m s t)
    (c : Sparse.sorted s.regs = true) (g : GroupsOf l gs) (e : m >>> 31 ||| groupMask gs = groupMask gs) :
    Frame.OnlyRows l s t := by
  refine fun r hr => h.grps c r fun b hb => ?_
  have hg : (groupMask gs).testBit b = true := by rw [← e, Nat.testBit_or, Nat.testBit_shiftRight, hb, Bool.true_or]
  rintro ⟨k, hk⟩
  exact hr _ (g ▸ List.mem_map_of_mem (testBit_groupMask gs b hg)) k hk

/-- What Obligations.FrameOfEveryCommand says of one command in one state. -/
def Framed (c : Instr) (s : State) : Prop := ∀ t : State, MemCanon s → exec c s = .next t →
  OnlyParts (Frame.parts c) s t ∧ ∀ l, Frame.regs c = some l → Frame.OnlyRows l s t

/-- A command with a frame of registers, whose rows have the groups `gs`. -/
theorem Framed.rows {m : Nat} {c : Instr} {s : State} {l : List (Nat → Nat)} {gs : List Nat} (h : Ends m s (exec c s))
    (hp : Frame.parts c = partsOf m) (hr : Frame.regs c = some l) (g : GroupsOf l gs)
    (hg : m >>> 31 ||| groupMask gs = groupMask gs := by decide +kernel) : Framed c s := by
  intro t canon e
  have touch := h.touches e
  obtain ⟨-, -, sorted⟩ := canon
  refine ⟨hp ▸ touch.parts, fun k hk => ?_⟩
  cases hr.symm.trans hk
  exact touch.rows sorted g hg

/-- A command that may change any register. -/
theorem Framed.any {m : Nat} {c : Instr} {s : State} (h : Ends m s (exec c s)) (hp : Frame.parts c = partsOf m)
    (hr : Frame.regs c = none) : Framed c s :=
  fun t _ e => ⟨hp ▸ (h.touches e).parts, fun l hl => by rw [hr] at hl; cases hl⟩

/-! ## The groups of the rows that many commands share -/

theorem groupsOf_reportRows : GroupsOf Frame.reportRows [500, 490, 491, 489, 448, 455] := rfl

theorem groupsOf_trackRows : GroupsOf Frame.trackRows [55, 32, 200, 198, 52, 188, 190, 189, 187, 191, 186, 185, 183,
    34, 36, 293, 282, 506, 418, 404, 410, 13, 12, 341, 339, 359, 351, 347, 348, 344, 333, 329, 331] := rfl

theorem groupsOf_readRows : GroupsOf Frame.readRows [506, 437, 429, 314, 315, 317, 316, 312, 402, 308, 309, 307,
    300] := rfl

theorem groupsOf_ejectorRows : GroupsOf Frame.ejectorRows [55, 200, 198, 188, 190, 189, 187, 191, 186, 185, 183, 36]
    := rfl

theorem groupsOf_imageRows : GroupsOf Frame.imageRows [509, 510, 511, 377, 98, 97, 103, 99, 96, 111, 129, 121, 109,
    110, 326, 328, 327, 320, 325, 179, 293, 282, 141, 506, 256, 247, 437, 412, 429, 314, 315, 317, 316, 312, 402,
    104, 308, 309, 307, 300, 26, 363, 368, 232, 265, 274, 263, 264, 359, 352, 343, 329, 331, 399] := rfl

theorem groupsOf_submissionRows : GroupsOf Frame.submissionRows [404, 410, 341, 339, 351, 345, 347, 350, 348, 346,
    344, 333, 337, 336, 329, 331] := rfl

theorem groupsOf_ringRows : GroupsOf Frame.ringRows [256, 247, 275, 274] := rfl

theorem groupsOf_writeRows : GroupsOf Frame.writeRows [437, 429, 308, 307, 300] := rfl

theorem groupsOf_lossRows : GroupsOf Frame.lossRows [391, 96, 55, 54, 200, 198, 52, 188, 190, 189, 187, 191, 186,
    185, 183, 36, 479, 482, 471, 470, 486, 502, 497, 494, 492, 495, 506, 493, 256, 247, 427, 232, 41, 63, 40, 47,
    464, 465, 467, 458] := rfl

theorem groupsOf_windowRows : GroupsOf Frame.windowRows [131, 130, 129, 110, 119, 149, 141] := rfl

theorem groupsOf_commitRows : GroupsOf Frame.commitRows [509, 510, 511, 377, 98, 103, 102, 99, 96, 111, 129, 121,
    109, 110, 179, 293, 282, 141, 256, 247, 418, 104, 26, 363, 368, 232, 265, 274, 263, 264, 359, 352, 343, 329,
    331, 399, 400] := rfl

theorem groupsOf_bundleRows : GroupsOf Frame.bundleRows [320, 286, 289, 287, 288, 284, 285, 293, 283, 282, 402, 407,
    408, 409, 329, 331] := rfl

theorem groupsOf_fatalRows : GroupsOf Frame.fatalRows [73, 3, 75, 1, 2] := rfl

/-- THE FRAME OF EVERY COMMAND: the mask of its meaning names the parts of Frame.parts and the groups of Frame.regs. -/
theorem framed (c : Instr) (s : State) : Framed c s := by
  cases c with
  | registerWrite => exact .any (execRegisterWrite_ends ..) rfl rfl
  | rcRead => exact .any (execRcRead_ends ..) rfl rfl
  | lowWordRead => exact .any (execLowWordRead_ends ..) rfl rfl
  | inputLoss => exact .rows (execInputLoss_ends ..) rfl rfl (groupsOf_reportRows.append groupsOf_lossRows)
  | overvoltageLockout =>
    exact .rows (execOvervoltageLockout_ends ..) rfl rfl (groupsOf_reportRows.append groupsOf_lossRows)
  | internalReset => exact .any (execInternalReset_ends ..) rfl rfl
  | thermalTrip => exact .any (execThermalTrip_ends ..) rfl rfl
  | holdupEstimateTick =>
    exact .rows (execHoldupEstimateTick_ends ..) rfl rfl (groupsOf_reportRows.and [37, 38, 39, 40, 41, 43, 49, 492,
      493, 494, 495, 497, 499, 502])
  | holdupCapMeasured => exact .rows (execHoldupCapMeasured_ends ..) rfl rfl (groupsOf_reportRows.and [40, 42])
  | pocxpDetectDone => exact .rows (execPocxpDetectDone_ends ..) rfl rfl (groupsOf_reportRows.and [40, 47])
  | pocxpOvercurrent => exact .rows (execPocxpOvercurrent_ends ..) rfl rfl (groupsOf_reportRows.and [40, 47])
  | pocxpFaultClear => exact .rows (execPocxpFaultClear_ends ..) rfl rfl (groupsOf_reportRows.and [47, 66, 73])
  | encSupplyFault => exact .rows (execEncSupplyFault_ends ..) rfl rfl (groupsOf_reportRows.and [40, 48])
  | vejSupplyLow => exact .rows (execVejSupplyLow_ends ..) rfl rfl (groupsOf_reportRows.and [36, 40, 55])
  | readbackCheck =>
    exact .rows (execReadbackCheck_ends ..) rfl rfl (groupsOf_reportRows.and [36, 40, 52, 53, 55, 183, 185, 186])
  | outputOvercurrent =>
    exact .rows (execOutputOvercurrent_ends ..) rfl rfl (groupsOf_reportRows.and [36, 40, 53, 55, 183, 185, 186])
  | relayPositionCheck => exact .rows (execRelayPositionCheck_ends ..) rfl rfl (groupsOf_reportRows.and [40, 232])
  | relayRequestWrite =>
    exact .rows (execRelayRequestWrite_ends ..) rfl rfl (groupsOf_reportRows.and [45, 66, 73, 232])
  | diEdgeQualified =>
    exact .rows (execDiEdgeQualified_ends ..) rfl rfl ((((groupsOf_reportRows.append groupsOf_trackRows).append
      groupsOf_submissionRows).append groupsOf_windowRows).and [14, 15, 16, 35, 51, 66, 203, 241, 243])
  | diCfgWrite =>
    exact .rows (execDiCfgWrite_ends ..) rfl rfl ((((groupsOf_reportRows.append groupsOf_trackRows).append
      groupsOf_submissionRows).append groupsOf_windowRows).and [14, 15, 16, 35, 50, 51, 66, 73, 203, 241, 243])
  | lstopRelease => exact .rows (execLstopRelease_ends ..) rfl rfl (groupsOf_reportRows.and [52, 66, 73])
  | pllLockTimeout =>
    exact .rows (execPllLockTimeout_ends ..) rfl rfl ((groupsOf_reportRows.append groupsOf_fatalRows).and [54, 55,
      63])
  | clockFailure => exact .any (execClockFailure_ends ..) rfl rfl
  | modeRequest =>
    exact .rows (execModeRequest_ends ..) rfl rfl (groupsOf_reportRows.and [54, 62, 63, 66, 73, 247, 256, 333, 400,
      411])
  | modeRollback =>
    exact .rows (execModeRollback_ends ..) rfl rfl ((groupsOf_reportRows.append groupsOf_submissionRows).and [54,
      58, 63, 69, 247, 256])
  | exitComplete =>
    exact .rows (execExitComplete_ends ..) rfl rfl ((groupsOf_reportRows.append groupsOf_submissionRows).and [54,
      58, 63, 70, 247, 256, 400, 411])
  | wakePatternComplete => exact .rows (execWakePatternComplete_ends ..) rfl rfl (.list [66, 247])
  | clocks =>
    exact .rows (execClocks_ends ..) rfl rfl (groupsOf_reportRows.and [54, 58, 73, 91, 203, 210, 214, 222, 241,
      245])
  | fuses =>
    exact .rows (execFuses_ends ..) rfl rfl ((groupsOf_reportRows.append groupsOf_fatalRows).and [71, 72, 89, 91,
      507])
  | selftest => exact .rows (execSelftest_ends ..) rfl rfl ((groupsOf_reportRows.append groupsOf_fatalRows).and [91])
  | map =>
    exact .rows (execMap_ends ..) rfl rfl ((groupsOf_reportRows.append groupsOf_fatalRows).and [76, 78, 81, 83, 91,
      499, 508])
  | train =>
    exact .rows (execTrain_ends ..) rfl rfl ((groupsOf_reportRows.append groupsOf_fatalRows).and [90, 91, 247])
  | fwload => exact .rows (execFwload_ends ..) rfl rfl ((groupsOf_reportRows.append groupsOf_fatalRows).and [86, 91])
  | pkgReady => exact .any (execPkgReady_ends ..) rfl rfl
  | sporeAckTimeout =>
    exact .rows (execSporeAckTimeout_ends ..) rfl rfl ((groupsOf_reportRows.append groupsOf_fatalRows).and [88])
  | image =>
    exact .rows (execImage_ends ..) rfl rfl ((groupsOf_reportRows.append groupsOf_commitRows).and [73, 91, 97])
  | coldStart => exact .any (execColdStart_ends ..) rfl rfl
  | fieldAddition =>
    exact .rows (execFieldAddition_ends ..) rfl rfl (groupsOf_reportRows.and [66, 73, 83, 400, 402, 499])
  | load =>
    exact .rows (execLoad_ends ..) rfl rfl ((groupsOf_reportRows.append groupsOf_imageRows).and [66, 73, 92, 100,
      499])
  | unload =>
    exact .rows (execUnload_ends ..) rfl rfl ((groupsOf_reportRows.append groupsOf_imageRows).and [66, 73, 92, 100,
      499])
  | store =>
    exact .rows (execStore_ends ..) rfl rfl ((groupsOf_reportRows.append groupsOf_imageRows).and [66, 73, 92, 100,
      499])
  | keyrec =>
    exact .rows (execKeyrec_ends ..) rfl rfl ((groupsOf_reportRows.append groupsOf_imageRows).and [66, 73, 92, 100,
      499])
  | routeSetChange =>
    exact .rows (execRouteSetChange_ends ..) rfl rfl (groupsOf_reportRows.and [66, 73, 104, 106, 411])
  | epochBoundary => exact .rows (execEpochBoundary_ends ..) rfl rfl (.list [104, 106])
  | routeRelease => exact .rows (execRouteRelease_ends ..) rfl rfl (.list [106, 107])
  | edgeAccepted =>
    exact .rows (execEdgeAccepted_ends ..) rfl rfl (((groupsOf_reportRows.append groupsOf_trackRows).append
      groupsOf_windowRows).and [35, 66, 160, 161, 162, 163, 164, 165, 166, 167, 168, 170, 171, 173, 203, 238, 241,
      243, 350])
  | glitchFault => exact .rows (execGlitchFault_ends ..) rfl rfl (groupsOf_reportRows.and [13, 55, 165, 168])
  | serialPoll => exact .rows (execSerialPoll_ends ..) rfl rfl (.list [])
  | serialReading =>
    exact .rows (execSerialReading_ends ..) rfl rfl (((groupsOf_reportRows.append groupsOf_trackRows).append
      groupsOf_windowRows).and [35, 66, 160, 161, 162, 163, 164, 165, 168, 172, 173, 178, 203, 238, 241, 243, 350])
  | wireDisagree => exact .rows (execWireDisagree_ends ..) rfl rfl (groupsOf_reportRows.and [13, 55, 165, 169])
  | wireFault => exact .rows (execWireFault_ends ..) rfl rfl (groupsOf_reportRows.and [12, 13, 52, 55, 164, 165])
  | wireFaultClear => exact .rows (execWireFaultClear_ends ..) rfl rfl (.list [165])
  | countGateEnd => exact .rows (execCountGateEnd_ends ..) rfl rfl (groupsOf_reportRows.and [12, 13, 55, 164, 165])
  | chCfgWrite =>
    exact .rows (execChCfgWrite_ends ..) rfl rfl (((groupsOf_reportRows.append groupsOf_trackRows).append
      groupsOf_windowRows).and [35, 66, 73, 152, 162, 163, 164, 165, 173, 203, 238, 241, 243, 350])
  | speedThresholdWrite =>
    exact .rows (execSpeedThresholdWrite_ends ..) rfl rfl (groupsOf_reportRows.and [55, 66, 73, 157, 158, 165])
  | trkCfgWrite => exact .rows (execTrkCfgWrite_ends ..) rfl rfl (groupsOf_reportRows.and [6, 66, 73])
  | trackDeclare =>
    exact .rows (execTrackDeclare_ends ..) rfl rfl ((((groupsOf_reportRows.append groupsOf_trackRows).append
      groupsOf_submissionRows).append groupsOf_windowRows).and [14, 15, 16, 23, 35, 66, 73])
  | trackCommit =>
    exact .rows (execTrackCommit_ends ..) rfl rfl ((groupsOf_reportRows.append groupsOf_trackRows).and [33, 35, 66,
      73])
  | trackUnitMessage =>
    exact .rows (execTrackUnitMessage_ends ..) rfl rfl ((((groupsOf_reportRows.append groupsOf_trackRows).append
      groupsOf_submissionRows).append groupsOf_windowRows).and [14, 15, 16, 33, 35, 66, 197])
  | gateEnable => exact .rows (execGateEnable_ends ..) rfl rfl (groupsOf_reportRows.and [12, 26, 55, 66, 73])
  | gateOffsetWrite =>
    exact .rows (execGateOffsetWrite_ends ..) rfl rfl (groupsOf_reportRows.and [12, 28, 29, 30, 55, 66, 73])
  | armCommand =>
    exact .rows (execArmCommand_ends ..) rfl rfl ((groupsOf_reportRows.append groupsOf_ejectorRows).and [35, 66, 73,
      196, 197, 506])
  | delayEnd =>
    exact .rows (execDelayEnd_ends ..) rfl rfl ((groupsOf_reportRows.append groupsOf_ejectorRows).and [35, 506])
  | pulseEnd =>
    exact .rows (execPulseEnd_ends ..) rfl rfl ((groupsOf_reportRows.append groupsOf_ejectorRows).and [35, 506])
  | gapEnd =>
    exact .rows (execGapEnd_ends ..) rfl rfl ((groupsOf_reportRows.append groupsOf_ejectorRows).and [35, 506])
  | maxOn => exact .rows (execMaxOn_ends ..) rfl rfl ((groupsOf_reportRows.append groupsOf_ejectorRows).and [35, 506])
  | deferExpired => exact .rows (execDeferExpired_ends ..) rfl rfl (groupsOf_reportRows.append groupsOf_ejectorRows)
  | ejCtrlWrite =>
    exact .rows (execEjCtrlWrite_ends ..) rfl rfl ((groupsOf_reportRows.append groupsOf_ejectorRows).and [35, 66,
      73, 192, 506])
  | outCfgWrite =>
    exact .rows (execOutCfgWrite_ends ..) rfl rfl ((groupsOf_reportRows.append groupsOf_ejectorRows).and [35, 66,
      73, 179, 506])
  | flush => exact .rows (execFlush_ends ..) rfl rfl ((groupsOf_reportRows.append groupsOf_ejectorRows).and [66, 73])
  | rateWrite => exact .rows (execRateWrite_ends ..) rfl rfl (groupsOf_reportRows.and [66, 73, 203, 210])
  | stepRequest => exact .rows (execStepRequest_ends ..) rfl rfl (groupsOf_reportRows.and [66, 73, 203, 214])
  | ptpCfgWrite => exact .rows (execPtpCfgWrite_ends ..) rfl rfl (groupsOf_reportRows.and [66, 73, 202, 203])
  | ptpRx => exact .rows (execPtpRx_ends ..) rfl rfl (groupsOf_reportRows.and [203, 233, 235, 237])
  | ptpTx => exact .rows (execPtpTx_ends ..) rfl rfl (groupsOf_reportRows.and [203, 234, 236])
  | ptpSample => exact .rows (execPtpSample_ends ..) rfl rfl (groupsOf_reportRows.and [203, 210, 214, 222, 232])
  | holdover => exact .rows (execHoldover_ends ..) rfl rfl (groupsOf_reportRows.and [203])
  | markArm => exact .rows (execMarkArm_ends ..) rfl rfl (groupsOf_reportRows.and [66, 73, 203, 238, 240, 241, 243])
  | portEnable => exact .rows (execPortEnable_ends ..) rfl rfl (groupsOf_reportRows.and [66, 73, 109, 110, 129, 247])
  | pocxpPowered => exact .rows (execPocxpPowered_ends ..) rfl rfl (.list [110, 247])
  | discover => exact .rows (execDiscover_ends ..) rfl rfl (groupsOf_reportRows.and [110, 129])
  | config => exact .rows (execConfig_ends ..) rfl rfl (groupsOf_reportRows.and [110, 129])
  | cameraLinkDown => exact .rows (execCameraLinkDown_ends ..) rfl rfl (groupsOf_reportRows.and [110, 129])
  | downRetry => exact .rows (execDownRetry_ends ..) rfl rfl (.list [110, 135, 247])
  | resyncEnd => exact .rows (execResyncEnd_ends ..) rfl rfl (.list [110])
  | ctrlTransaction => exact .rows (execCtrlTransaction_ends ..) rfl rfl (groupsOf_reportRows.and [66, 73, 138, 139])
  | ctrlAck => exact .rows (execCtrlAck_ends ..) rfl rfl (groupsOf_reportRows.and [110, 137, 139])
  | ctrlTimeout => exact .rows (execCtrlTimeout_ends ..) rfl rfl (groupsOf_reportRows.and [110, 139])
  | frameTimeTrigger => exact .rows (execFrameTimeTrigger_ends ..) rfl rfl (groupsOf_reportRows.and [110, 129, 131])
  | softTrigger => exact .rows (execSoftTrigger_ends ..) rfl rfl (groupsOf_reportRows.and [66, 73, 110, 129, 131])
  | delayedTrigger => exact .rows (execDelayedTrigger_ends ..) rfl rfl (groupsOf_reportRows.and [110, 129, 131])
  | trigCfgWrite => exact .rows (execTrigCfgWrite_ends ..) rfl rfl (groupsOf_reportRows.and [66, 73, 110, 112, 129])
  | streamPacket =>
    exact .rows (execStreamPacket_ends ..) rfl rfl ((groupsOf_reportRows.append groupsOf_writeRows).and [110, 111,
      121, 122, 123, 124, 125, 126, 127, 128, 129, 132, 133, 141, 149, 309, 506])
  | imageHeader =>
    exact .rows (execImageHeader_ends ..) rfl rfl ((groupsOf_reportRows.append groupsOf_writeRows).and [110, 111,
      121, 122, 123, 124, 125, 126, 127, 128, 129, 132, 133, 141, 149, 309, 506])
  | lineTimeout => exact .rows (execLineTimeout_ends ..) rfl rfl (groupsOf_reportRows.and [110, 129])
  | frameTimeout => exact .rows (execFrameTimeout_ends ..) rfl rfl (groupsOf_reportRows.and [110, 129])
  | pipelineLine => exact .rows (execPipelineLine_ends ..) rfl rfl (.list [150, 151])
  | partImageComplete =>
    exact .rows (execPartImageComplete_ends ..) rfl rfl ((groupsOf_reportRows.append groupsOf_writeRows).and [141,
      144, 147, 309, 329, 331])
  | throughMemoryFrame =>
    exact .rows (execThroughMemoryFrame_ends ..) rfl rfl ((groupsOf_reportRows.append groupsOf_readRows).and [121,
      141, 148, 149, 150, 151])
  | rebindRequest =>
    exact .rows (execRebindRequest_ends ..) rfl rfl (groupsOf_reportRows.and [66, 73, 96, 97, 110, 111])
  | rebindSwitch => exact .rows (execRebindSwitch_ends ..) rfl rfl (groupsOf_reportRows.and [110, 111, 141])
  | outHeadWrite => exact .rows (execOutHeadWrite_ends ..) rfl rfl (groupsOf_reportRows.and [66, 73, 145])
  | pipeCellWrite => exact .rows (execPipeCellWrite_ends ..) rfl rfl (groupsOf_reportRows.and [66, 73, 96, 97, 142])
  | txL0 => exact .rows (execTxL0_ends ..) rfl rfl (groupsOf_reportRows.and [66, 73, 247, 248, 256])
  | txL1 => exact .rows (execTxL1_ends ..) rfl rfl (groupsOf_reportRows.and [66, 73, 247, 248, 256])
  | txL2 => exact .rows (execTxL2_ends ..) rfl rfl (groupsOf_reportRows.and [66, 73, 247, 248, 256])
  | txOff => exact .rows (execTxOff_ends ..) rfl rfl (groupsOf_reportRows.and [66, 73, 247, 248, 256])
  | txWake => exact .rows (execTxWake_ends ..) rfl rfl (groupsOf_reportRows.and [66, 73, 247, 248, 256])
  | prbsOn => exact .rows (execPrbsOn_ends ..) rfl rfl (groupsOf_reportRows.and [66, 73, 247, 248, 256])
  | prbsOff => exact .rows (execPrbsOff_ends ..) rfl rfl (groupsOf_reportRows.and [66, 73, 247, 248, 256])
  | rxStateCommand => exact .rows (execRxStateCommand_ends ..) rfl rfl (groupsOf_reportRows.and [66, 73, 247, 249])
  | synthCalDone => exact .rows (execSynthCalDone_ends ..) rfl rfl (groupsOf_reportRows.and [232, 247, 263])
  | synthLocked => exact .rows (execSynthLocked_ends ..) rfl rfl (groupsOf_reportRows.and [232, 247, 256, 260, 263])
  | heldCommandTimeout => exact .rows (execHeldCommandTimeout_ends ..) rfl rfl (groupsOf_reportRows.and [247, 260])
  | fastRelock => exact .rows (execFastRelock_ends ..) rfl rfl (.list [247, 256, 274])
  | wakeGuardExpiry =>
    exact .rows (execWakeGuardExpiry_ends ..) rfl rfl ((groupsOf_reportRows.append groupsOf_ringRows).and [232, 257,
      258, 263, 281])
  | retrainComplete =>
    exact .rows (execRetrainComplete_ends ..) rfl rfl (groupsOf_reportRows.and [110, 129, 247, 256])
  | lossOfSignal =>
    exact .rows (execLossOfSignal_ends ..) rfl rfl ((groupsOf_reportRows.append groupsOf_ringRows).and [110, 129,
      232, 259, 263, 281])
  | loopWrite => exact .rows (execLoopWrite_ends ..) rfl rfl (groupsOf_reportRows.and [66, 73, 246, 247])
  | prbsCheckerEnable =>
    exact .rows (execPrbsCheckerEnable_ends ..) rfl rfl (groupsOf_reportRows.and [66, 73, 252, 253, 254, 255])
  | ringEnable =>
    exact .rows (execRingEnable_ends ..) rfl rfl ((groupsOf_reportRows.append groupsOf_ringRows).and [66, 73, 232,
      262, 263, 264, 265, 281])
  | ringTest =>
    exact .rows (execRingTest_ends ..) rfl rfl ((groupsOf_reportRows.append groupsOf_ringRows).and [66, 73, 232,
      262, 263, 264, 265, 281])
  | linkTrainingDone =>
    exact .rows (execLinkTrainingDone_ends ..) rfl rfl ((groupsOf_reportRows.append groupsOf_ringRows).and [1, 232,
      263, 400])
  | trainRetry =>
    exact .rows (execTrainRetry_ends ..) rfl rfl ((groupsOf_reportRows.append groupsOf_ringRows).and [281])
  | ringFrame =>
    exact .rows (execRingFrame_ends ..) rfl rfl (((groupsOf_reportRows.append groupsOf_ringRows).append
      groupsOf_writeRows).and [263, 269, 270, 276, 277, 280, 309, 333, 360, 361, 400, 402])
  | ack => exact .rows (execAck_ends ..) rfl rfl ((groupsOf_reportRows.append groupsOf_ringRows).and [280])
  | nak =>
    exact .rows (execNak_ends ..) rfl rfl ((groupsOf_reportRows.append groupsOf_ringRows).and [232, 263, 278, 280,
      281])
  | ackTimeout =>
    exact .rows (execAckTimeout_ends ..) rfl rfl ((groupsOf_reportRows.append groupsOf_ringRows).and [232, 263, 279,
      281])
  | linkSleep => exact .rows (execLinkSleep_ends ..) rfl rfl (.list [247, 274, 400, 411])
  | ringDiscover =>
    exact .rows (execRingDiscover_ends ..) rfl rfl ((groupsOf_reportRows.append groupsOf_ringRows).and [232, 263,
      264, 265, 276, 277, 280])
  | quiesce =>
    exact .rows (execQuiesce_ends ..) rfl rfl ((groupsOf_reportRows.append groupsOf_ringRows).and [276, 277, 280])
  | quiesced =>
    exact .rows (execQuiesced_ends ..) rfl rfl (((groupsOf_reportRows.append groupsOf_readRows).append
      groupsOf_ringRows).and [232, 263, 264, 265, 271, 272, 273, 276, 277, 280, 329, 331, 333, 360, 361, 400])
  | switch =>
    exact .rows (execSwitch_ends ..) rfl rfl (((groupsOf_reportRows.append groupsOf_readRows).append
      groupsOf_ringRows).and [232, 263, 264, 265, 271, 272, 273, 276, 277, 280, 329, 331, 333, 360, 361, 400])
  | ringLinkDown =>
    exact .rows (execRingLinkDown_ends ..) rfl rfl ((groupsOf_reportRows.append groupsOf_ringRows).and [232, 263,
      276, 277, 280, 281])
  | layoutReq =>
    exact .rows (execLayoutReq_ends ..) rfl rfl ((groupsOf_reportRows.append groupsOf_ringRows).and [276, 277, 280])
  | layoutAns =>
    exact .rows (execLayoutAns_ends ..) rfl rfl ((groupsOf_reportRows.append groupsOf_ringRows).and [263, 265, 276,
      277, 280])
  | layoutRequest =>
    exact .rows (execLayoutRequest_ends ..) rfl rfl ((groupsOf_reportRows.append groupsOf_ringRows).and [66, 73, 96,
      97, 263, 265])
  | linkTmoExpiry =>
    exact .rows (execLinkTmoExpiry_ends ..) rfl rfl ((groupsOf_reportRows.append groupsOf_ringRows).and [263, 264,
      265])
  | bundleIssue =>
    exact .rows (execBundleIssue_ends ..) rfl rfl ((groupsOf_reportRows.append groupsOf_bundleRows).and [400])
  | globalLoadResponse =>
    exact .rows (execGlobalLoadResponse_ends ..) rfl rfl ((groupsOf_reportRows.append groupsOf_readRows).and [293,
      407, 408, 409])
  | gillMemFaultStop =>
    exact .rows (execGillMemFaultStop_ends ..) rfl rfl (groupsOf_reportRows.and [282, 284, 285, 293, 331])
  | syncGrant => exact .rows (execSyncGrant_ends ..) rfl rfl (.list [293, 329, 331])
  | timedOpTimeout =>
    exact .rows (execTimedOpTimeout_ends ..) rfl rfl (groupsOf_reportRows.and [282, 284, 285, 293, 331, 400, 402])
  | queueMessageArrival =>
    exact .rows (execQueueMessageArrival_ends ..) rfl rfl (groupsOf_reportRows.and [293, 329, 331])
  | queueCreditReturn => exact .rows (execQueueCreditReturn_ends ..) rfl rfl (.list [293])
  | fenceComplete => exact .rows (execFenceComplete_ends ..) rfl rfl (.list [293])
  | invocationEnd => exact .rows (execInvocationEnd_ends ..) rfl rfl (groupsOf_reportRows.and [282, 293])
  | dbgHalt => exact .rows (execDbgHalt_ends ..) rfl rfl (groupsOf_reportRows.and [66, 73, 282])
  | dbgResume => exact .rows (execDbgResume_ends ..) rfl rfl (groupsOf_reportRows.and [66, 73, 282])
  | dbgStep =>
    exact .rows (execDbgStep_ends ..) rfl rfl ((groupsOf_reportRows.append groupsOf_bundleRows).and [66, 73, 400])
  | boxdec =>
    exact .rows (execBoxdec_ends ..) rfl rfl ((groupsOf_reportRows.append groupsOf_readRows).and [294, 295, 296,
      297, 298, 299, 320, 325, 327, 328])
  | nms =>
    exact .rows (execNms_ends ..) rfl rfl ((groupsOf_reportRows.append groupsOf_readRows).and [294, 295, 296, 297,
      298, 299, 320, 325, 327, 328])
  | transactionResponse =>
    exact .rows (execTransactionResponse_ends ..) rfl rfl ((groupsOf_reportRows.append groupsOf_writeRows).and [293,
      309, 319, 329, 331, 407, 408, 409])
  | refresh => exact .rows (execRefresh_ends ..) rfl rfl (.list [318])
  | zqCalibration => exact .rows (execZqCalibration_ends ..) rfl rfl (.list [])
  | mr4Read => exact .rows (execMr4Read_ends ..) rfl rfl (groupsOf_reportRows.and [300, 313])
  | controllerWatchdog =>
    exact .rows (execControllerWatchdog_ends ..) rfl rfl (groupsOf_reportRows.and [52, 183, 185, 186, 300, 307,
      308])
  | dmaSubmit => exact .rows (execDmaSubmit_ends ..) rfl rfl (groupsOf_reportRows.and [66, 73, 320, 323, 325])
  | chainStart =>
    exact .rows (execChainStart_ends ..) rfl rfl ((groupsOf_reportRows.append groupsOf_readRows).and [320, 325, 326,
      327, 328, 329, 331])
  | copy =>
    exact .rows (execCopy_ends ..) rfl rfl ((groupsOf_reportRows.append groupsOf_readRows).and [320, 325, 327, 328])
  | fill =>
    exact .rows (execFill_ends ..) rfl rfl ((groupsOf_reportRows.append groupsOf_writeRows).and [309, 320, 325, 327,
      328])
  | copy2d =>
    exact .rows (execCopy2d_ends ..) rfl rfl ((groupsOf_reportRows.append groupsOf_readRows).and [320, 325, 327,
      328])
  | signal =>
    exact .rows (execSignal_ends ..) rfl rfl ((groupsOf_reportRows.append groupsOf_writeRows).and [309, 320, 325,
      327, 328, 329, 331])
  | chainEnd => exact .rows (execChainEnd_ends ..) rfl rfl (groupsOf_reportRows.and [320, 326, 329, 331])
  | dmaAbort =>
    exact .rows (execDmaAbort_ends ..) rfl rfl ((groupsOf_reportRows.append groupsOf_readRows).and [66, 73, 320,
      325, 326, 327, 328, 329, 331])
  | syncAdd => exact .rows (execSyncAdd_ends ..) rfl rfl (groupsOf_reportRows.and [66, 73, 329, 331])
  | syncReset => exact .rows (execSyncReset_ends ..) rfl rfl (groupsOf_reportRows.and [66, 73, 329, 331])
  | submit =>
    exact .rows (execSubmit_ends ..) rfl rfl (((groupsOf_reportRows.append groupsOf_trackRows).append
      groupsOf_submissionRows).and [33, 35, 66, 73])
  | workMessage =>
    exact .rows (execWorkMessage_ends ..) rfl rfl (((groupsOf_reportRows.append groupsOf_trackRows).append
      groupsOf_submissionRows).and [33, 35])
  | dispatch =>
    exact .rows (execDispatch_ends ..) rfl rfl (((groupsOf_reportRows.append groupsOf_trackRows).append
      groupsOf_bundleRows).and [1, 33, 35, 349, 350, 356, 357, 400, 411])
  | stealToken => exact .rows (execStealToken_ends ..) rfl rfl (.list [1, 358, 400])
  | quantumExpiry =>
    exact .rows (execQuantumExpiry_ends ..) rfl rfl (((groupsOf_reportRows.append groupsOf_trackRows).append
      groupsOf_bundleRows).and [1, 33, 35, 349, 350, 356, 357, 400, 411])
  | preemptDrainDone => exact .rows (execPreemptDrainDone_ends ..) rfl rfl (.list [])
  | saveComplete =>
    exact .rows (execSaveComplete_ends ..) rfl rfl ((groupsOf_reportRows.append groupsOf_trackRows).and [33, 35,
      300, 307, 308, 353])
  | restoreComplete =>
    exact .rows (execRestoreComplete_ends ..) rfl rfl ((groupsOf_reportRows.append groupsOf_trackRows).and [33, 35,
      283, 300, 307, 308, 312, 314, 315, 316, 317, 354, 402])
  | stateSwapComplete =>
    exact .rows (execStateSwapComplete_ends ..) rfl rfl (((groupsOf_reportRows.append groupsOf_trackRows).append
      groupsOf_readRows).and [33, 35, 283, 355, 357, 411])
  | gangEnd =>
    exact .rows (execGangEnd_ends ..) rfl rfl ((groupsOf_reportRows.append groupsOf_trackRows).and [33, 35])
  | workCancel =>
    exact .rows (execWorkCancel_ends ..) rfl rfl (groupsOf_reportRows.and [66, 73, 282, 293, 329, 331, 333, 339,
      341, 344, 347, 348, 351, 359, 404, 410])
  | walk =>
    exact .rows (execWalk_ends ..) rfl rfl ((groupsOf_reportRows.append groupsOf_readRows).and [293, 329, 331, 363,
      368, 369, 370, 373, 376])
  | insert =>
    exact .rows (execInsert_ends ..) rfl rfl ((groupsOf_reportRows.append groupsOf_readRows).and [1, 293, 329, 331,
      363, 368, 371, 372, 373, 376, 400])
  | release =>
    exact .rows (execRelease_ends ..) rfl rfl ((groupsOf_reportRows.append groupsOf_readRows).and [293, 329, 331,
      363, 368, 373, 376])
  | pin =>
    exact .rows (execPin_ends ..) rfl rfl ((groupsOf_reportRows.append groupsOf_readRows).and [293, 329, 331, 363,
      368, 373, 376])
  | unpin =>
    exact .rows (execUnpin_ends ..) rfl rfl ((groupsOf_reportRows.append groupsOf_readRows).and [293, 329, 331, 363,
      368, 373, 376])
  | evict =>
    exact .rows (execEvict_ends ..) rfl rfl ((groupsOf_reportRows.append groupsOf_readRows).and [1, 293, 329, 331,
      363, 368, 372, 373, 376, 400])
  | gather =>
    exact .rows (execGather_ends ..) rfl rfl ((groupsOf_reportRows.append groupsOf_readRows).and [293, 329, 331,
      363, 373, 376, 377, 379])
  | publish =>
    exact .rows (execPublish_ends ..) rfl rfl ((groupsOf_reportRows.append groupsOf_readRows).and [293, 329, 331,
      363, 373, 376, 377, 380])
  | pfxFormat =>
    exact .rows (execPfxFormat_ends ..) rfl rfl ((groupsOf_reportRows.append groupsOf_writeRows).and [66, 73, 309,
      362, 363, 368])
  | annAbort =>
    exact .rows (execAnnAbort_ends ..) rfl rfl ((groupsOf_reportRows.append groupsOf_writeRows).and [66, 73, 309,
      391, 395, 396, 398, 400, 402])
  | vcStall => exact .rows (execVcStall_ends ..) rfl rfl (groupsOf_reportRows.and [402, 403])
  | mbxEnable => exact .rows (execMbxEnable_ends ..) rfl rfl (groupsOf_reportRows.and [66, 73, 412, 416, 417, 429])
  | mbxHeadWrite => exact .rows (execMbxHeadWrite_ends ..) rfl rfl (groupsOf_reportRows.and [66, 73, 416, 424])
  | irqPendClear => exact .rows (execIrqPendClear_ends ..) rfl rfl (groupsOf_reportRows.and [66, 73])
  | wqDoorbell => exact .rows (execWqDoorbell_ends ..) rfl rfl (groupsOf_reportRows.and [66, 73, 429, 444])
  | bar2Access =>
    exact .rows (execBar2Access_ends ..) rfl rfl ((groupsOf_reportRows.append groupsOf_writeRows).and [312, 314,
      315, 316, 317, 402, 436, 506])
  | hostWindowAccess => exact .rows (execHostWindowAccess_ends ..) rfl rfl (.list [])
  | hostWindowTimeout =>
    exact .rows (execHostWindowTimeout_ends ..) rfl rfl (groupsOf_reportRows.append groupsOf_writeRows)
  | runsetSave => exact .any (execRunsetSave_ends ..) rfl rfl
  | spiPush => exact .rows (execSpiPush_ends ..) rfl rfl (groupsOf_reportRows.and [66, 73, 458])
  | spiEntryEnd => exact .rows (execSpiEntryEnd_ends ..) rfl rfl (groupsOf_reportRows.and [458, 464, 465, 467])
  | spiAbort => exact .rows (execSpiAbort_ends ..) rfl rfl (groupsOf_reportRows.and [66, 73, 456, 458, 464, 465, 467])
  | i2cPush => exact .rows (execI2cPush_ends ..) rfl rfl (groupsOf_reportRows.and [66, 73, 470, 471])
  | i2cCommandStart =>
    exact .rows (execI2cCommandStart_ends ..) rfl rfl (groupsOf_reportRows.and [470, 471, 479, 486])
  | i2cCommandEnd =>
    exact .rows (execI2cCommandEnd_ends ..) rfl rfl (groupsOf_reportRows.and [470, 471, 479, 481, 484])
  | arbitrationLost =>
    exact .rows (execArbitrationLost_ends ..) rfl rfl (groupsOf_reportRows.and [470, 471, 479, 480])
  | targetTransaction => exact .rows (execTargetTransaction_ends ..) rfl rfl (groupsOf_reportRows.and [470])
  | targetTransactionEnd =>
    exact .rows (execTargetTransactionEnd_ends ..) rfl rfl (groupsOf_reportRows.and [470, 471, 482, 486])
  | i2cAbort =>
    exact .rows (execI2cAbort_ends ..) rfl rfl (groupsOf_reportRows.and [66, 73, 468, 470, 471, 479, 482, 486])
  | stageRecord => exact .rows (execStageRecord_ends ..) rfl rfl groupsOf_reportRows
  | pageProgram =>
    exact .rows (execPageProgram_ends ..) rfl rfl (groupsOf_reportRows.and [492, 493, 494, 495, 497, 499, 502])
  | flushMsExpiry =>
    exact .rows (execFlushMsExpiry_ends ..) rfl rfl (groupsOf_reportRows.and [492, 493, 494, 495, 497, 499, 502])
  | journalFlush =>
    exact .rows (execJournalFlush_ends ..) rfl rfl (groupsOf_reportRows.and [66, 73, 492, 493, 494, 495, 497, 499,
      502])
  | subsectorErase =>
    exact .rows (execSubsectorErase_ends ..) rfl rfl (groupsOf_reportRows.and [492, 493, 494, 495, 498, 499, 502])
  | holdupFinalPage => exact .any (execHoldupFinalPage_ends ..) rfl rfl
  | ethernetLinkChange => exact .rows (execEthernetLinkChange_ends ..) rfl rfl (.list [232])
  | perstRelease => exact .rows (execPerstRelease_ends ..) rfl rfl (.list [])
  | pcieLinkUp => exact .rows (execPcieLinkUp_ends ..) rfl rfl (groupsOf_reportRows.and [427, 429])
  | configSpaceWrite => exact .rows (execConfigSpaceWrite_ends ..) rfl rfl (.list [429, 455])
  | aerError => exact .rows (execAerError_ends ..) rfl rfl (groupsOf_reportRows.and [429, 438])
  | supplyLowCleared => exact .rows (execSupplyLowCleared_ends ..) rfl rfl (.list [40])
  | wireDisagreeEnd => exact .rows (execWireDisagreeEnd_ends ..) rfl rfl (.list [])
  | sleepBlocksReceived => exact .rows (execSleepBlocksReceived_ends ..) rfl rfl (.list [247, 274])
  | switchPositionReached =>
    exact .rows (execSwitchPositionReached_ends ..) rfl rfl ((groupsOf_reportRows.append groupsOf_ringRows).and [45,
      232, 263, 265, 281])
  | prbsLockAcquired => exact .rows (execPrbsLockAcquired_ends ..) rfl rfl (.list [252])
  | prbsLockLost => exact .rows (execPrbsLockLost_ends ..) rfl rfl (.list [252, 253, 254, 255])
  | cxpEventPacket => exact .rows (execCxpEventPacket_ends ..) rfl rfl (.list [134])
  | heldAccessPerform => exact .any (execHeldAccessPerform_ends ..) rfl rfl
  | powerOnStart => exact .any (execPowerOnStart_ends ..) rfl rfl
  | vinShortDip => exact .rows (execVinShortDip_ends ..) rfl rfl (.list [40])
  | nrstAssert => exact .any (execNrstAssert_ends ..) rfl rfl
  | nrstRelease => exact .any (execNrstRelease_ends ..) rfl rfl
  | thermalThrottleStart =>
    exact .rows (execThermalThrottleStart_ends ..) rfl rfl (groupsOf_reportRows.and [40, 58, 333, 400, 411])
  | thermalThrottleEnd => exact .rows (execThermalThrottleEnd_ends ..) rfl rfl (.list [40, 58, 333])
  | vcamLow => exact .rows (execVcamLow_ends ..) rfl rfl (groupsOf_reportRows.and [40, 47])
  | heartbeatLoss => exact .rows (execHeartbeatLoss_ends ..) rfl rfl (.list [232])
  | lstopHoldExpiry => exact .rows (execLstopHoldExpiry_ends ..) rfl rfl (.list [52])
  | myceliumDrained => exact .rows (execMyceliumDrained_ends ..) rfl rfl (groupsOf_reportRows.and [54, 63])
  | modeCommit =>
    exact .rows (execModeCommit_ends ..) rfl rfl ((groupsOf_reportRows.append groupsOf_submissionRows).and [54, 58,
      63, 69, 203, 247, 256])
  | modeEntryTimeout =>
    exact .rows (execModeEntryTimeout_ends ..) rfl rfl ((groupsOf_reportRows.append groupsOf_submissionRows).and
      [54, 58, 63, 69, 247, 256])
  | modeExit => exact .rows (execModeExit_ends ..) rfl rfl (.list [63, 400, 411])
  | wakeTimerExpiry => exact .rows (execWakeTimerExpiry_ends ..) rfl rfl (.list [66])
  | hostPkgTimeout => exact .rows (execHostPkgTimeout_ends ..) rfl rfl (groupsOf_reportRows.and [73])
  | spores => exact .rows (execSpores_ends ..) rfl rfl (.list [5, 73, 91])
  | supervisor =>
    exact .rows (execSupervisor_ends ..) rfl rfl (groupsOf_reportRows.and [4, 73, 91, 487, 492, 493, 494, 495, 496,
      499, 501, 506])
  | supStartTimeout =>
    exact .rows (execSupStartTimeout_ends ..) rfl rfl (groupsOf_reportRows.append groupsOf_fatalRows)
  | hold => exact .rows (execHold_ends ..) rfl rfl (.list [73, 91])
  | ready => exact .any (execReady_ends ..) rfl rfl
  | stageTimeout => exact .rows (execStageTimeout_ends ..) rfl rfl (groupsOf_reportRows.append groupsOf_fatalRows)
  | warmStart => exact .any (execWarmStart_ends ..) rfl rfl
  | saveCfg => exact .any (execSaveCfg_ends ..) rfl rfl
  | perstAssert =>
    exact .rows (execPerstAssert_ends ..) rfl rfl ((groupsOf_reportRows.append groupsOf_writeRows).and [427, 435,
      439, 440, 512, 513, 514])
  | functionLevelReset =>
    exact .rows (execFunctionLevelReset_ends ..) rfl rfl ((groupsOf_reportRows.append groupsOf_writeRows).and [427,
      435, 439, 440, 512, 513, 514])
  | linkDown =>
    exact .rows (execLinkDown_ends ..) rfl rfl ((groupsOf_reportRows.append groupsOf_writeRows).and [427, 435, 439,
      440, 512, 513, 514])
  | imageCommit => exact .rows (execImageCommit_ends ..) rfl rfl (groupsOf_reportRows.append groupsOf_commitRows)
  | storeComplete => exact .rows (execStoreComplete_ends ..) rfl rfl (groupsOf_reportRows.and [96, 100])
  | keyrecApplied => exact .rows (execKeyrecApplied_ends ..) rfl rfl (groupsOf_reportRows.and [96, 101])
  | routeChangeComplete => exact .rows (execRouteChangeComplete_ends ..) rfl rfl (.list [104, 106, 108])
  | routeChangeTimeout => exact .rows (execRouteChangeTimeout_ends ..) rfl rfl (groupsOf_reportRows.and [106])
  | speedPeriodTick =>
    exact .rows (execSpeedPeriodTick_ends ..) rfl rfl (groupsOf_reportRows.and [12, 13, 55, 164, 165])
  | convPeriodTick => exact .rows (execConvPeriodTick_ends ..) rfl rfl (groupsOf_reportRows.and [12, 13, 55])
  | imagePresenceReport =>
    exact .rows (execImagePresenceReport_ends ..) rfl rfl ((((groupsOf_reportRows.append groupsOf_trackRows).append
      groupsOf_submissionRows).append groupsOf_windowRows).and [14, 15, 16, 35, 66])
  | timeEntryDue =>
    exact .rows (execTimeEntryDue_ends ..) rfl rfl ((groupsOf_reportRows.append groupsOf_ejectorRows).and [35, 506])
  | ejLogRead => exact .rows (execEjLogRead_ends ..) rfl rfl (groupsOf_reportRows.and [66, 73, 201])
  | motionFreerun => exact .rows (execMotionFreerun_ends ..) rfl rfl (groupsOf_reportRows.and [203])
  | stepApply => exact .rows (execStepApply_ends ..) rfl rfl (groupsOf_reportRows.and [203, 214, 245])
  | samplePop =>
    exact .rows (execSamplePop_ends ..) rfl rfl (groupsOf_reportRows.and [66, 73, 222, 223, 224, 225, 226, 227])
  | evtPop => exact .rows (execEvtPop_ends ..) rfl rfl (groupsOf_reportRows.and [66, 73, 241, 242])
  | ptpSnapshotRead =>
    exact .rows (execPtpSnapshotRead_ends ..) rfl rfl (groupsOf_reportRows.and [66, 73, 204, 205, 206, 207, 208,
      209])
  | ptpOfsRead => exact .rows (execPtpOfsRead_ends ..) rfl rfl (groupsOf_reportRows.and [66, 73, 215, 216, 217])
  | quiesceTimeout =>
    exact .rows (execQuiesceTimeout_ends ..) rfl rfl ((groupsOf_reportRows.append groupsOf_ringRows).and [263, 265,
      271])
  | topologyRetry => exact .rows (execTopologyRetry_ends ..) rfl rfl (groupsOf_reportRows.append groupsOf_ringRows)
  | unmap => exact .rows (execUnmap_ends ..) rfl rfl (groupsOf_reportRows.and [66, 73, 300, 301])
  | mapR => exact .rows (execMapR_ends ..) rfl rfl (groupsOf_reportRows.and [66, 73, 300, 301])
  | mapRw => exact .rows (execMapRw_ends ..) rfl rfl (groupsOf_reportRows.and [66, 73, 300, 301])
  | mmuOpComplete => exact .rows (execMmuOpComplete_ends ..) rfl rfl (.list [300])
  | faultRecordPop => exact .rows (execFaultRecordPop_ends ..) rfl rfl (groupsOf_reportRows.and [66, 73, 300, 310])
  | deadlineUpdate => exact .rows (execDeadlineUpdate_ends ..) rfl rfl (.list [])
  | cplLogRead => exact .rows (execCplLogRead_ends ..) rfl rfl (groupsOf_reportRows.and [66, 73, 342])
  | reshardEnd =>
    exact .rows (execReshardEnd_ends ..) rfl rfl (((groupsOf_reportRows.append groupsOf_ringRows).append
      groupsOf_writeRows).and [309, 329, 331, 333, 360, 400, 402])
  | adpWrite =>
    exact .rows (execAdpWrite_ends ..) rfl rfl ((groupsOf_reportRows.append groupsOf_readRows).and [66, 73, 375,
      376, 377, 380])
  | adpStage =>
    exact .rows (execAdpStage_ends ..) rfl rfl ((groupsOf_reportRows.append groupsOf_readRows).and [66, 73, 375,
      376, 377, 380])
  | adpPublish =>
    exact .rows (execAdpPublish_ends ..) rfl rfl ((groupsOf_reportRows.append groupsOf_readRows).and [66, 73, 375,
      376, 377, 380])
  | adpClear =>
    exact .rows (execAdpClear_ends ..) rfl rfl ((groupsOf_reportRows.append groupsOf_readRows).and [66, 73, 375,
      376, 377, 380])
  | adpDescRead => exact .rows (execAdpDescRead_ends ..) rfl rfl (groupsOf_reportRows.and [66, 73, 378])
  | augJob =>
    exact .rows (execAugJob_ends ..) rfl rfl ((groupsOf_reportRows.append groupsOf_readRows).and [381, 385, 387,
      388, 389])
  | annealProblem =>
    exact .rows (execAnnealProblem_ends ..) rfl rfl ((groupsOf_reportRows.append groupsOf_readRows).and [391, 392,
      393, 394, 395, 396, 398])
  | sweepEnd => exact .rows (execSweepEnd_ends ..) rfl rfl (groupsOf_reportRows.and [391, 393, 394, 397, 400, 402])
  | annResultWrite =>
    exact .rows (execAnnResultWrite_ends ..) rfl rfl ((groupsOf_reportRows.append groupsOf_writeRows).and [309, 391,
      395, 396, 398])
  | timingWindowArm =>
    exact .rows (execTimingWindowArm_ends ..) rfl rfl (groupsOf_reportRows.and [66, 73, 404, 407, 408, 409, 410,
      411])
  | verdictRecordWrite =>
    exact .rows (execVerdictRecordWrite_ends ..) rfl rfl (groupsOf_reportRows.and [416, 417, 420, 421, 422, 423,
      425, 429, 506])
  | mbxReadyAge => exact .rows (execMbxReadyAge_ends ..) rfl rfl (.list [448, 455])
  | wqEntrySubmit =>
    exact .rows (execWqEntrySubmit_ends ..) rfl rfl ((((groupsOf_reportRows.append groupsOf_trackRows).append
      groupsOf_readRows).append groupsOf_submissionRows).and [33, 35, 440, 445])
  | runsetApply => exact .any (execRunsetApply_ends ..) rfl rfl
  | spiEntryStart => exact .rows (execSpiEntryStart_ends ..) rfl rfl (.list [458])
  | spiCplPop => exact .rows (execSpiCplPop_ends ..) rfl rfl (groupsOf_reportRows.and [66, 73, 458, 463])
  | sclTimeout => exact .rows (execSclTimeout_ends ..) rfl rfl (groupsOf_reportRows.and [470, 471, 479])
  | busFree => exact .rows (execBusFree_ends ..) rfl rfl (.list [470])
  | twinCommit =>
    exact .rows (execTwinCommit_ends ..) rfl rfl (groupsOf_reportRows.and [66, 73, 468, 470, 471, 479, 482, 486])
  | i2cCplPop => exact .rows (execI2cCplPop_ends ..) rfl rfl (groupsOf_reportRows.and [66, 73, 471, 475, 476])
  | i2cTlogPop => exact .rows (execI2cTlogPop_ends ..) rfl rfl (groupsOf_reportRows.and [66, 73, 471, 478])
  | deferLong => exact .rows (execDeferLong_ends ..) rfl rfl groupsOf_reportRows
  | countersRecord => exact .rows (execCountersRecord_ends ..) rfl rfl groupsOf_reportRows
  | ejectTailRecord => exact .rows (execEjectTailRecord_ends ..) rfl rfl groupsOf_reportRows
  | journalRead => exact .rows (execJournalRead_ends ..) rfl rfl (groupsOf_reportRows.and [66, 73, 504, 505])
  | timeValuesResume => exact .rows (execTimeValuesResume_ends ..) rfl rfl (.list [203])
  | i2cBusStart => exact .rows (execI2cBusStart_ends ..) rfl rfl (.list [470, 486])
  | targetSclTimeout =>
    exact .rows (execTargetSclTimeout_ends ..) rfl rfl (groupsOf_reportRows.and [470, 471, 482, 486])
  | fieldMapCopiesWritten => exact .rows (execFieldMapCopiesWritten_ends ..) rfl rfl (groupsOf_reportRows.and [83])
  | runSetStored => exact .rows (execRunSetStored_ends ..) rfl rfl (groupsOf_reportRows.and [447])
  | bankDischargeFloor => exact .any (execBankDischargeFloor_ends ..) rfl rfl

/-- Settles O57: each command has the frame that Frame gives for it. -/
theorem frameOfEveryCommand : Obligations.FrameOfEveryCommand := fun c s => framed c s

end Sys2Proof.Machine
end

section
/-! PROOFS. Scope, the accesses of the bus: what answers a read or a write of a register. -/

set_option Elab.async false

namespace Sys2Proof.Machine

/-! ## Accesses and what answers them -/

theorem exec_registerWrite (s : State) (off size v : Nat) :
    exec (.registerWrite off size v) s = execRegisterWrite off size v s := rfl

theorem exec_rcRead (s : State) (off size : Nat) : exec (.rcRead off size) s = execRcRead off size s := rfl

/-- A 32-bit write, of 4 bytes or twice of 8 (R20). -/
theorem exec_registerWrite_word (s : State) (off v : Nat) (h : off % 4 = 0) :
    exec (.registerWrite off 4 v) s = .next (s.put32 off v) := by
  simp [exec_registerWrite, execRegisterWrite, State.hostWrite, h]

theorem exec_registerWrite_double (s : State) (off v : Nat) (h : off % 8 = 0) :
    exec (.registerWrite off 8 v) s = .next ((s.put32 off v).put32 (off + 4) (v / 2 ^ 32)) := by
  simp [exec_registerWrite, execRegisterWrite, State.hostWrite, h]

/-- An aligned read of any width (R20). -/
theorem exec_rcRead_aligned (s : State) (off size : Nat) (hs : size ∈ [1, 2, 4, 8]) (h : off % size = 0) :
    exec (.rcRead off size) s = .next (s.access (off - off % 4) 0 false
      (·.getBytes (off - off % 4) (off % 4) size) (off % 4) size) := by
  rw [exec_rcRead, execRcRead, if_pos (List.contains_iff_mem.mpr hs), State.hostRead, if_neg (not_not_intro h)]

theorem exec_rcRead_word (s : State) (off : Nat) (h : off % 4 = 0) :
    exec (.rcRead off 4) s = .next (s.access off 0 false (·.getBytes off 0 4)) := by
  rw [exec_rcRead_aligned s off 4 (by decide) h, h, Nat.sub_zero]

theorem exec_rcRead_misaligned (s : State) (off size : Nat) (hs : size ∈ [1, 2, 4, 8]) (h : off % size ≠ 0) :
    exec (.rcRead off size) s = .next ({ s with bus.data := 0 }.hostSts 0xC00E off) := by
  rw [exec_rcRead, execRcRead, if_pos (List.contains_iff_mem.mpr hs), State.hostRead, if_pos h]

/-- LOW_WORD_READ is a read of 32 bits (log entry 13). -/
theorem exec_lowWordRead (s : State) (off : Nat) : exec (.lowWordRead off) s = exec (.rcRead off 4) s := rfl

/-- After the end of MAP an access asks for its unit and its domain only (R17, R140). -/
theorem State.access_mapped (s : State) (off v : Nat) (w : Bool) (k : State → State) (lane len : Nat)
    (hr : s.pwr.inReset = false) (hm : s.pmode ≠ 4) (hb : s.bootState ≠ 0) (hp : s.boot.mapped = true) :
    s.access off v w k lane len = if s.absent off then { s with bus.data := 0 }
      else if s.gated off then { s with bus.held := s.bus.held ++ [(⟨off, w, v, lane, len⟩ : HeldAccess)] }.wake 1
      else k s := by
  have h1 : ¬ (s.pwr.inReset || s.pmode == 4) = true := by simp [hr, hm]
  have h2 : ¬ (s.bootState = 0 ∨ (!s.boot.mapped) = true) := by simp [hb, hp]
  rw [State.access, if_neg h1, if_neg h2]

/-- A read of an ungated block reads its register, or reads 0: in reset or OFF, early in bring-up, of an absent unit. -/
theorem State.readAccess_cases (s : State) (off v : Nat) (h : s.gated off = false) :
    (∀ k lane len, s.access off v false k lane len = k s) ∨
      (∀ k lane len, s.access off v false k lane len = { s with bus.data := 0 }) := by
  have ungated : ¬ s.gated off = true := Bool.eq_false_iff.mp h
  by_cases reset : (s.pwr.inReset || s.pmode == 4) = true
  · exact .inr fun k lane len => by rw [State.access, if_pos reset]
  by_cases early : s.bootState = 0 ∨ (!s.boot.mapped) = true
  · by_cases block : off < 0x4000
    · by_cases serving : s.earlyServed = true
      · exact .inl fun k lane len => by rw [State.access, if_neg reset, if_pos early, if_pos block, if_pos serving]
      · exact .inr fun k lane len => by rw [State.access, if_neg reset, if_pos early, if_pos block, if_neg serving]
    · exact .inr fun k lane len => by rw [State.access, if_neg reset, if_pos early, if_neg block, if_pos Bool.not_false]
  by_cases missing : s.absent off = true
  · exact .inr fun k lane len => by rw [State.access, if_neg reset, if_neg early, if_pos missing]
  · exact .inl fun k lane len => by rw [State.access, if_neg reset, if_neg early, if_neg missing, if_neg ungated]

/-- Both words of an aligned pair belong to one unit (R17). -/
theorem State.absent_next (s : State) (off : Nat) (h : off % 8 = 0) : s.absent (off + 4) = s.absent off := by
  have near (b : Nat) (hb : b % 8 = 0) : (b ≤ off + 4 ↔ b ≤ off) ∧ (off + 4 < b ↔ off < b) := by omega
  have step (b n : Nat) (hb : b % 8 = 0) (hn : n % 8 = 0) : (off + 4 - b) / n = (off - b) / n := by
    obtain ⟨m, rfl⟩ := Nat.dvd_of_mod_eq_zero hn
    rw [← Nat.div_div_eq_div_mul, ← Nat.div_div_eq_div_mul]
    congr 1
    omega
  simp only [State.absent, near, step]

/-- Both words of an aligned pair stand in one domain (R140). -/
theorem State.gated_next (s : State) (off : Nat) (h : off % 8 = 0) : s.gated (off + 4) = s.gated off := by
  have same : gateDomain (off + 4) = gateDomain off := by
    have near (b : Nat) (hb : b % 8 = 0) : (b ≤ off + 4 ↔ b ≤ off) ∧ (off + 4 < b ↔ off < b) := by omega
    simp only [gateDomain, near]
  unfold State.gated
  rw [same]

/-- Whether an access reaches its block is one answer for both words of an aligned pair. -/
theorem State.served_next (s : State) (off : Nat) (h : off % 8 = 0) : s.served (off + 4) = s.served off := by
  have early : (off + 4 < 0x4000 ↔ off < 0x4000) := by omega
  simp only [State.served, s.absent_next off h, s.gated_next off h, early]

/-- A write that its absent unit ignores (R17). -/
theorem State.put32_absent (s : State) (off v : Nat) (hr : s.pwr.inReset = false) (hm : s.pmode ≠ 4)
    (hb : s.bootState ≠ 0) (hp : s.boot.mapped = true) (ha : s.absent off = true) :
    s.put32 off v = { s with bus.data := 0 } := by
  rw [State.put32, s.access_mapped _ _ _ _ _ _ hr hm hb hp, if_pos ha]

/-- Settles O42: after the end of MAP an access asks first whether its unit is absent, and then answers 0 at once. Both
words of an access of 64 bits belong to one unit. -/
theorem absentUnits : Obligations.AbsentUnits := by
  unfold Obligations.AbsentUnits
  refine ⟨?_, ?_, ?_⟩
  · rintro off size v s - - ⟨hsize, al, hr, hm, hb, hp, ha⟩
    have first := s.put32_absent off v hr hm hb hp ha
    simp only [List.mem_cons, List.not_mem_nil, or_false] at hsize
    rcases hsize with rfl | rfl
    · exact ⟨_, exec_registerWrite_word s off v al, first⟩
    · refine ⟨_, exec_registerWrite_double s off v al, ?_⟩
      rw [first]
      exact State.put32_absent _ _ _ hr hm hb hp ((s.absent_next off al).trans ha)
  · rintro off size s - - ⟨hsize, al, hr, hm, hb, hp, ha⟩
    refine ⟨_, exec_rcRead_aligned s off size hsize al, ?_⟩
    rw [s.access_mapped _ _ _ _ _ _ hr hm hb hp, if_pos ha]
  · rintro off s - - ⟨al, hr, hm, hb, hp, ha⟩
    refine ⟨_, (exec_lowWordRead s off).trans (exec_rcRead_word s off al), ?_⟩
    rw [s.access_mapped _ _ _ _ _ _ hr hm hb hp, if_pos ha]

/-! ## Words and registers -/

/-- The bits of a word after some are cleared. -/
theorem testBit_maskOff (m c j : Nat) : (maskOff m c).testBit j = (m.testBit j && !c.testBit j) := by
  unfold maskOff
  induction j generalizing m c with
  | zero =>
    have low : (m &&& c) % 2 = 1 ↔ m % 2 = 1 ∧ c % 2 = 1 := by
      have h := Nat.testBit_and m c 0
      rwa [Nat.testBit_zero, Nat.testBit_zero, Nat.testBit_zero, Bool.eq_iff_iff, Bool.and_eq_true, decide_eq_true_eq,
        decide_eq_true_eq, decide_eq_true_eq] at h
    have le : m &&& c ≤ m := Nat.and_le_left
    rw [Nat.testBit_zero, Nat.testBit_zero, Nat.testBit_zero, Bool.eq_iff_iff, Bool.and_eq_true, Bool.not_eq_true',
      decide_eq_true_eq, decide_eq_true_eq, decide_eq_false_iff_not]
    omega
  | succ j ih =>
    have half : (m - (m &&& c)) / 2 = m / 2 - (m / 2 &&& c / 2) := by
      have high : (m &&& c) / 2 = m / 2 &&& c / 2 := Nat.and_div_two
      have low : (m &&& c) % 2 = m % 2 &&& c % 2 := Nat.and_mod_two_pow (n := 1)
      have le : m % 2 &&& c % 2 ≤ m % 2 := Nat.and_le_left
      omega
    rw [Nat.testBit_succ, Nat.testBit_succ, Nat.testBit_succ, half, ih]

/-- The register at an offset stands there. -/
theorem regAt_off {off : Nat} {r : Reg} (h : regAt off = some r) : r.off = off := by
  obtain ⟨row, -, rfl⟩ := Option.map_eq_some_iff.mp h
  rfl

/-! ## Reads leave the registers that decide whether an access is served -/

/-- The registers that State.served looks at: the units present, the state of bring-up, the power mode, the clocks. -/
def statusOffs : List Nat := [R.SYS_CAP_UNITS.off, R.SYS_BOOT_STATUS.off, R.PWR_MODE_STATUS.off, R.CLK_STATUS.off]

/-- From `s` to `t` the register file stays sorted, and the registers of statusOffs read as before. -/
def KeepsStatus (s t : State) : Prop :=
  Sparse.sorted s.regs = true → Sparse.sorted t.regs = true ∧ ∀ r : Reg, r.off ∈ statusOffs → t.rd r = s.rd r

theorem KeepsStatus.refl (s : State) : KeepsStatus s s := fun h => ⟨h, fun _ _ => rfl⟩

theorem KeepsStatus.trans {a b c : State} (h : KeepsStatus a b) (k : KeepsStatus b c) : KeepsStatus a c := fun x =>
  ⟨(k (h x).1).1, fun r e => ((k (h x).1).2 r e).trans ((h x).2 r e)⟩

theorem KeepsStatus.of_eq {a b : State} (e : b.regs = a.regs) : KeepsStatus a b := fun h =>
  ⟨e ▸ h, fun _ _ => by unfold State.rd; rw [e]⟩

theorem KeepsStatus.wr {a b : State} (h : KeepsStatus a b) (r : Reg) (v : Word) (e : r.off ∉ statusOffs) :
    KeepsStatus a (b.wr r v) := h.trans fun x =>
  ⟨b.sorted_wr r v x, fun q hq => b.rd_wr_other r q v x (fun h => e (h ▸ hq))⟩

theorem KeepsStatus.setF {a b : State} (h : KeepsStatus a b) (f : Fld) (n : Nat) (e : f.reg.off ∉ statusOffs) :
    KeepsStatus a (b.setF f n) := h.wr _ _ e

theorem KeepsStatus.foldl {β : Type} {a b : State} {f : State → β → State} {l : List β}
    (hf : ∀ t x, KeepsStatus a t → KeepsStatus a (f t x)) (hb : KeepsStatus a b) : KeepsStatus a (l.foldl f b) := by
  induction l generalizing b with
  | nil => exact hb
  | cons x l ih => exact ih (hf b x hb)

/-- An array of registers beyond CLK and PWR holds none of them. -/
theorem regOff_notMem_status {base : Nat} (stride cnt k : Nat) (h : 0x4000 ≤ base) :
    regOff base stride cnt k ∉ statusOffs := by
  have bound : ∀ o ∈ statusOffs, o < 0x4000 := by decide
  have far : base ≤ regOff base stride cnt k := by
    unfold regOff
    split <;> omega
  exact fun hm => absurd (bound _ hm) (by omega)

/-- A shadow of `n` words beyond the early blocks is filled. -/
theorem KeepsStatus.words {a b : State} (h : KeepsStatus a b) (f : Nat → Fld) (v : Nat → Nat) (n : Nat)
    (e : ∀ k, (f k).reg.off ∉ statusOffs) :
    KeepsStatus a ((List.range n).foldl (fun s k => s.setF (f k) (v k)) b) :=
  .foldl (fun _ k hk => hk.setF _ _ (e k)) h

theorem State.fqPop_keepsStatus (s : State) : KeepsStatus s s.fqPop := by
  unfold State.fqPop
  extract_lets r _ _ a b
  have ha : KeepsStatus s a := .of_eq rfl
  have hb : KeepsStatus s b := ha.words _ _ _ fun k => regOff_notMem_status _ _ k (by decide)
  exact hb.setF _ _ (by decide)

theorem State.evtPop_keepsStatus (s : State) : KeepsStatus s s.evtPop := by
  unfold State.evtPop
  extract_lets r _ a b c
  have ha : KeepsStatus s a := .of_eq rfl
  have hb : KeepsStatus s b := ha.words _ _ _ fun k => regOff_notMem_status _ _ k (by decide)
  have hc : KeepsStatus s c := hb.setF _ _ (by decide)
  exact hc.trans (.of_eq rfl)

theorem KeepsStatus.setPair {a b : State} (h : KeepsStatus a b) (lo hi : Fld) (n : Nat) (e : lo.reg.off ∉ statusOffs)
    (e' : hi.reg.off ∉ statusOffs) : KeepsStatus a (b.setPair lo hi n) := (h.setF _ _ e).setF _ _ e'

theorem State.samplePop_keepsStatus (s : State) : KeepsStatus s s.samplePop := by
  unfold State.samplePop
  extract_lets x _ a b c d e f
  have ha : KeepsStatus s a := .of_eq rfl
  have hb : KeepsStatus s b := ha.setPair _ _ _ (by decide) (by decide)
  have hc : KeepsStatus s c := hb.setF _ _ (by decide)
  have hd : KeepsStatus s d := hc.setPair _ _ _ (by decide) (by decide)
  have he : KeepsStatus s e := (hd.setF _ _ (by decide)).setF _ _ (by decide)
  have hf : KeepsStatus s f := he.setF _ _ (by decide)
  exact hf.trans (.of_eq rfl)

theorem KeepsStatus.spiRegs {a b : State} (h : KeepsStatus a b) : KeepsStatus a b.spiRegs :=
  ((h.setF _ _ (by decide)).setF _ _ (by decide)).setF _ _ (by decide)

theorem State.spiPop_keepsStatus (s : State) : KeepsStatus s s.spiPop := by
  unfold State.spiPop
  extract_lets r _ _ a
  have ha : KeepsStatus s a := .of_eq rfl
  exact (((ha.setF _ _ (by decide)).setF _ _ (by decide)).setF _ _ (by decide)).spiRegs

theorem KeepsStatus.i2cRegs {a b : State} (h : KeepsStatus a b) : KeepsStatus a b.i2cRegs :=
  ((h.setF _ _ (by decide)).setF _ _ (by decide)).setF _ _ (by decide)

theorem State.i2cPop_keepsStatus (s : State) : KeepsStatus s s.i2cPop := by
  unfold State.i2cPop
  extract_lets r _ _ a
  have ha : KeepsStatus s a := .of_eq rfl
  exact ((ha.wr _ _ (by decide)).wr _ _ (by decide)).i2cRegs

theorem State.i2cLogPop_keepsStatus (s : State) : KeepsStatus s s.i2cLogPop := by
  unfold State.i2cLogPop
  extract_lets e _ _
  refine KeepsStatus.i2cRegs (KeepsStatus.wr ?_ _ _ (by decide))
  exact .of_eq rfl

theorem State.ejLogRead_keepsStatus (s : State) : KeepsStatus s s.ejLogRead := by
  unfold State.ejLogRead
  extract_lets b a
  have ha : KeepsStatus s a := (KeepsStatus.refl s).words _ _ _ fun k => regOff_notMem_status _ _ k (by decide)
  exact ha.trans (.of_eq rfl)

theorem State.cplRead_keepsStatus (s : State) : KeepsStatus s s.cplRead := by
  unfold State.cplRead
  extract_lets b a
  have ha : KeepsStatus s a := (KeepsStatus.refl s).words _ _ _ fun k => regOff_notMem_status _ _ k (by decide)
  exact ha.trans (.of_eq rfl)

theorem State.adpRead_keepsStatus (s : State) : KeepsStatus s s.adpRead := by
  unfold State.adpRead
  extract_lets b a
  clear_value b
  have ha : KeepsStatus s a := (KeepsStatus.refl s).words _ _ _ fun k => regOff_notMem_status _ _ k (by decide)
  exact ha.trans (.of_eq rfl)

theorem State.snapshot_keepsStatus (s : State) : KeepsStatus s s.snapshot := by
  unfold State.snapshot
  extract_lets t a b c d
  have ha : KeepsStatus s a := (KeepsStatus.refl s).setF _ _ (by decide)
  have hb : KeepsStatus s b := ha.setF _ _ (by decide)
  have hc : KeepsStatus s c := hb.setPair _ _ _ (by decide) (by decide)
  have hd : KeepsStatus s d := hc.setPair _ _ _ (by decide) (by decide)
  exact hd.trans (.of_eq rfl)

theorem State.ofsRead_keepsStatus (s : State) : KeepsStatus s s.ofsRead := by
  unfold State.ofsRead
  extract_lets n a b
  have ha : KeepsStatus s a := (KeepsStatus.refl s).setF _ _ (by decide)
  have hb : KeepsStatus s b := ha.setPair _ _ _ (by decide) (by decide)
  exact hb.trans (.of_eq rfl)

theorem State.prbsSync_keepsStatus (s : State) (l : Nat) : KeepsStatus s (s.prbsSync l) := by
  unfold State.prbsSync
  split
  · simp only [State.fresh]
    refine KeepsStatus.setF (KeepsStatus.setPair ?_ _ _ _ ?_ ?_) _ _ ?_
    · exact .of_eq rfl
    · exact regOff_notMem_status _ _ _ (by decide)
    · exact regOff_notMem_status _ _ _ (by decide)
    · exact regOff_notMem_status _ _ _ (by decide)
  · exact .refl s

/-- The registers with a read of their own, and what that read does (State.ownRead). -/
def ownReads : List (Nat × (State → State)) :=
  [((R.MMU_FQ_DATA 0).off, State.fqPop), ((R.PTP_EVT_DATA 0).off, State.evtPop),
    (R.PTP_SMP_OFS_LO.off, State.samplePop), ((R.SPI_CPL 0).off, State.spiPop), (R.I2C_CPL0.off, State.i2cPop), (R.I2C_TLOG.off, State.i2cLogPop),
    ((R.EJ_LOG_DATA 0).off, State.ejLogRead), ((R.SCHED_CPL_DATA 0).off, State.cplRead),
    ((R.ADP_DESC 0).off, State.adpRead), (R.PTP_SNAP_FRAC.off, State.snapshot), (R.PTP_OFS_NS.off, State.ofsRead)]

/-- A register has a read of its own or not. -/
theorem State.ownRead_cases (off : Nat) :
    (∃ f, (off, f) ∈ ownReads ∧ ∀ s : State, s.ownRead off = (true, f s)) ∨
      (off ∉ ownReads.map Prod.fst ∧ ∀ s : State, s.ownRead off = (false, s)) := by
  by_cases h : off ∈ ownReads.map Prod.fst
  · refine .inl ?_
    simp only [ownReads, List.map_cons, List.map_nil, List.mem_cons, List.not_mem_nil, or_false] at h
    rcases h with rfl | rfl | rfl | rfl | rfl | rfl | rfl | rfl | rfl | rfl | rfl
    · exact ⟨State.fqPop, by simp [ownReads], fun _ => rfl⟩
    · exact ⟨State.evtPop, by simp [ownReads], fun _ => rfl⟩
    · exact ⟨State.samplePop, by simp [ownReads], fun _ => rfl⟩
    · exact ⟨State.spiPop, by simp [ownReads], fun _ => rfl⟩
    · exact ⟨State.i2cPop, by simp [ownReads], fun _ => rfl⟩
    · exact ⟨State.i2cLogPop, by simp [ownReads], fun _ => rfl⟩
    · exact ⟨State.ejLogRead, by simp [ownReads], fun _ => rfl⟩
    · exact ⟨State.cplRead, by simp [ownReads], fun _ => rfl⟩
    · exact ⟨State.adpRead, by simp [ownReads], fun _ => rfl⟩
    · exact ⟨State.snapshot, by simp [ownReads], fun _ => rfl⟩
    · exact ⟨State.ofsRead, by simp [ownReads], fun _ => rfl⟩
  · refine .inr ⟨h, fun s => ?_⟩
    simp only [ownReads, List.map_cons, List.map_nil, List.mem_cons, List.not_mem_nil, or_false, not_or] at h
    obtain ⟨h1, h2, h3, h4, h5, h6, h7, h8, h9, h10, h11⟩ := h
    rw [State.ownRead, if_neg h1, if_neg h2, if_neg h3, if_neg h4, if_neg h5, if_neg h6, if_neg h7, if_neg h8,
      if_neg h9, if_neg h10, if_neg h11]

theorem ownReads_keepsStatus {off : Nat} {f : State → State} (h : (off, f) ∈ ownReads) (s : State) :
    KeepsStatus s (f s) := by
  have all : ∀ e ∈ ownReads, ∀ s : State, KeepsStatus s (e.2 s) := by
    simp only [ownReads, List.forall_mem_cons]
    exact ⟨State.fqPop_keepsStatus, State.evtPop_keepsStatus, State.samplePop_keepsStatus, State.spiPop_keepsStatus,
      State.i2cPop_keepsStatus, State.i2cLogPop_keepsStatus, State.ejLogRead_keepsStatus, State.cplRead_keepsStatus,
      State.adpRead_keepsStatus, State.snapshot_keepsStatus, State.ofsRead_keepsStatus, List.forall_mem_nil _⟩
  exact all _ h s

/-- What such a read leaves behind does not depend on the bus's data of before. -/
theorem ownReads_data {off : Nat} {f : State → State} (h : (off, f) ∈ ownReads) (s : State) (x : Nat) :
    f { s with bus.data := x } = f s := by
  have all : ∀ e ∈ ownReads, ∀ (s : State) (x : Nat), e.2 { s with bus.data := x } = e.2 s := by
    simp only [ownReads, List.forall_mem_cons]
    exact ⟨fun _ _ => rfl, fun _ _ => rfl, fun _ _ => rfl, fun _ _ => rfl, fun _ _ => rfl, fun _ _ => rfl, fun _ _ => rfl,
      fun _ _ => rfl, fun _ _ => rfl, fun _ _ => rfl, fun _ _ => rfl, List.forall_mem_nil _⟩
  exact all _ h s x

theorem State.measured_keepsStatus (s : State) (off : Nat) : KeepsStatus s (s.measured off) := by
  unfold State.measured
  split
  · extract_lets d
    split
    · simp only [State.fresh]
      exact KeepsStatus.setF (.of_eq rfl) _ _ (by decide)
    · exact (KeepsStatus.refl s).setF _ _ (by decide)
  · split
    · split
      · exact .refl s
      · exact .of_eq rfl
    · split
      · exact (KeepsStatus.refl s).wr _ _ (regOff_notMem_status _ _ _ (by decide))
      · split
        · exact s.prbsSync_keepsStatus _
        · exact .refl s

theorem State.readClears_keepsStatus (s : State) (off : Nat) : KeepsStatus s (s.readClears off) := by
  have none_there : ∀ o ∈ statusOffs, ((regAt o).map Reg.rc).getD 0 = 0 := by decide
  unfold State.readClears
  split
  · exact .of_eq rfl
  · split
    · exact .of_eq rfl
    · split
      · exact .refl s
      · next r hr =>
        split
        · exact .refl s
        · next hc =>
          refine (KeepsStatus.refl s).wr _ _ fun hm => hc ?_
          have h := none_there _ hm
          rwa [regAt_off hr, hr] at h

theorem State.latchHigh_keepsStatus (s : State) (off : Nat) : KeepsStatus s (s.latchHigh off) := by
  unfold State.latchHigh
  split
  · exact .of_eq rfl
  · exact .refl s

/-- A read that has reached its block, by what the read of its register is. -/
theorem State.getReg_latched {s : State} {off v : Nat} (h : Sparse.get s.bus.shadows off none = some v) :
    s.getReg off = { s with bus.shadows := Sparse.put s.bus.shadows off none none, bus.data := v } := by
  rw [State.getReg, h]

theorem State.getReg_own {s : State} {off : Nat} {f : State → State} (h : Sparse.get s.bus.shadows off none = none)
    (hf : s.ownRead off = (true, f s)) : s.getReg off = (f s).latchHigh off := by
  rw [State.getReg, h]
  simp only [hf]

theorem State.getReg_live {s : State} {off : Nat} (h : Sparse.get s.bus.shadows off none = none)
    (hf : s.ownRead off = (false, s)) : s.getReg off
      = (State.readClears { s.measured off with bus.data := (s.measured off).shown off } off).latchHigh off := by
  rw [State.getReg, h]
  simp only [hf]

theorem State.getReg_keepsStatus (s : State) (off : Nat) : KeepsStatus s (s.getReg off) := by
  cases h : Sparse.get s.bus.shadows off none with
  | some v => rw [State.getReg_latched h]; exact .of_eq rfl
  | none =>
    rcases State.ownRead_cases off with ⟨f, hf, own⟩ | ⟨-, live⟩
    · rw [State.getReg_own h (own s)]
      exact (ownReads_keepsStatus hf s).trans (State.latchHigh_keepsStatus _ _)
    · rw [State.getReg_live h (live s)]
      refine KeepsStatus.trans ?_ (State.latchHigh_keepsStatus _ _)
      refine KeepsStatus.trans ?_ (State.readClears_keepsStatus _ _)
      exact (s.measured_keepsStatus off).trans (.of_eq rfl)

/-- Whether an access is served depends on these alone. -/
theorem State.served_congr {s t : State} (hpwr : t.pwr = s.pwr) (hboot : t.boot = s.boot)
    (hunits : t.rd R.SYS_CAP_UNITS = s.rd R.SYS_CAP_UNITS) (hstate : t.rd R.SYS_BOOT_STATUS = s.rd R.SYS_BOOT_STATUS)
    (hmode : t.rd R.PWR_MODE_STATUS = s.rd R.PWR_MODE_STATUS) (hclk : t.rd R.CLK_STATUS = s.rd R.CLK_STATUS) (o : Nat) :
    t.served o = s.served o := by
  have field (f : Fld) (e : t.rd f.reg = s.rd f.reg) : t.fld f = s.fld f := by rw [State.fld, State.fld, e]
  have hp : t.pmode = s.pmode := field _ hmode
  have hb : t.bootState = s.bootState := field _ hstate
  have hc (d : Nat) : t.clocked d = s.clocked d := congrArg (Nat.testBit · d) (field R.CLK_STATUS_RUNNING hclk)
  have hchans : t.encChans = s.encChans := field _ hunits
  have houts : t.ejOuts = s.ejOuts := field _ hunits
  have hports : t.cxpPorts = s.cxpPorts := field _ hunits
  have hlanes : t.cxpLanes = s.cxpLanes := field _ hunits
  have hring : t.hasRing = s.hasRing := congrArg (· != 0) (field R.SYS_CAP_UNITS_RING hunits)
  have hann : t.hasAnnealer = s.hasAnnealer := congrArg (· != 0) (field R.SYS_CAP_UNITS_PUFFBALL hunits)
  have hgills : t.gills = s.gills := field _ hunits
  have ha : t.absent o = s.absent o := by
    simp only [State.absent, State.laneHere, hchans, houts, hports, hlanes, hring, hann, hgills]
  have hg : t.gated o = s.gated o := by simp only [State.gated, hc, hboot]
  simp only [State.served, State.earlyServed, hpwr, hp, hb, hboot, ha, hg]

/-- A read changes nothing that decides whether an access is served. -/
theorem State.served_getReg (s : State) (off o : Nat) (h : Sparse.sorted s.regs = true) :
    (s.getReg off).served o = s.served o := by
  have touch := s.getReg_touches off
  have hpwr : (s.getReg off).pwr = s.pwr := touch.same .pwr (by decide)
  have hboot : (s.getReg off).boot = s.boot := touch.same .boot (by decide)
  have hrd := (s.getReg_keepsStatus off h).2
  have hunits := hrd R.SYS_CAP_UNITS (by decide)
  have hstate := hrd R.SYS_BOOT_STATUS (by decide)
  have hmode := hrd R.PWR_MODE_STATUS (by decide)
  have hclk := hrd R.CLK_STATUS (by decide)
  exact State.served_congr hpwr hboot hunits hstate hmode hclk o

theorem State.prbsSync_data (s : State) (l x : Nat) :
    State.prbsSync { s with bus.data := x } l = { s.prbsSync l with bus.data := x } := by
  unfold State.prbsSync
  by_cases locked : s.bit (R.LANE_PRBS_LOCK l) = true
  · rw [if_pos locked, if_pos (show State.bit { s with bus.data := x } (R.LANE_PRBS_LOCK l) = true from locked)]
    rfl
  · rw [if_neg locked, if_neg (show ¬ State.bit { s with bus.data := x } (R.LANE_PRBS_LOCK l) = true from locked)]

/-- The running measurements leave the bus's data alone and do not look at it. -/
theorem State.measured_data (s : State) (off x : Nat) :
    State.measured { s with bus.data := x } off = { s.measured off with bus.data := x } := by
  unfold State.measured
  split
  · by_cases on : s.clocked (s.fld R.CLK_MEAS_SEL_DOMAIN) = true
    · have on' : State.clocked { s with bus.data := x }
          (State.fld { s with bus.data := x } R.CLK_MEAS_SEL_DOMAIN) = true := on
      simp only [on, on', if_true]
      rfl
    · have on' : ¬ State.clocked { s with bus.data := x }
          (State.fld { s with bus.data := x } R.CLK_MEAS_SEL_DOMAIN) = true := on
      simp only [if_neg on, if_neg on']
      rfl
  · split
    · rw [show State.fld { s with bus.data := x } R.CLK_XING_SEL_XING = s.fld R.CLK_XING_SEL_XING from rfl]
      cases xingDepth (s.fld R.CLK_XING_SEL_XING) <;> rfl
    · split
      · rfl
      · split
        · exact s.prbsSync_data _ x
        · rfl

/-- A read does not depend on the bus's data of before. -/
theorem State.getReg_data (s : State) (off x : Nat) : State.getReg { s with bus.data := x } off = s.getReg off := by
  have e : Sparse.get ({ s with bus.data := x } : State).bus.shadows off none = Sparse.get s.bus.shadows off none := rfl
  cases h : Sparse.get s.bus.shadows off none with
  | some v => rw [State.getReg_latched h, State.getReg_latched (e.trans h)]
  | none =>
    rcases State.ownRead_cases off with ⟨f, hf, own⟩ | ⟨-, live⟩
    · rw [State.getReg_own h (own s), State.getReg_own (e.trans h) (own _), ownReads_data hf s x]
    · rw [State.getReg_live h (live s), State.getReg_live (e.trans h) (live _), s.measured_data off x]
      rfl

end Sys2Proof.Machine
end

section
/-! PROOFS. Scope, the reads: values that span two registers, counters, narrow, wide, held and misaligned reads. -/

set_option Elab.async false

namespace Sys2Proof.Machine

/-! ## Reads of 32 bits -/

/-- A read of up to 4 bytes returns bytes of the whole read (R20). -/
theorem State.getBytes_narrow (s : State) (off lane len : Nat) (h : len ≠ 8) : s.getBytes off lane len
    = { s.getReg off with bus.data := (s.getReg off).bus.data / 2 ^ (8 * lane) % 2 ^ (8 * len) } := by
  rw [State.getBytes]
  exact if_neg h

theorem State.getBytes_word (s : State) (off : Nat) :
    s.getBytes off 0 4 = { s.getReg off with bus.data := (s.getReg off).bus.data % 2 ^ 32 } := by
  rw [s.getBytes_narrow off 0 4 (by decide), Nat.mul_zero, Nat.pow_zero, Nat.div_one]

theorem exec_rcRead_served {s : State} {off : Nat} (al : off % 4 = 0) (h : s.served off = true) :
    exec (.rcRead off 4) s = .next { s.getReg off with bus.data := (s.getReg off).bus.data % 2 ^ 32 } := by
  rw [exec_rcRead_word s off al, s.access_served _ _ _ _ h, s.getBytes_word]

/-! ## Values that span two registers (R21) -/

/-- What a register reads as does not depend on the bus. -/
theorem State.shown_bus (s : State) (b : Bus) (off : Nat) : State.shown { s with bus := b } off = s.shown off := rfl

theorem State.latchHigh_low (s : State) {off : Nat} (h : isLow off = true) : s.latchHigh off
    = { s with bus.shadows := Sparse.put s.bus.shadows (off + 4) (some (s.shown (off + 4))) none } := if_pos h

theorem State.latchHigh_data (s : State) (off : Nat) : (s.latchHigh off).bus.data = s.bus.data := by
  unfold State.latchHigh
  split <;> rfl

theorem State.readClears_bus (s : State) (off : Nat) : (s.readClears off).bus = s.bus :=
  (s.readClears_touches off).same .bus (by decide)

/-- A read of a register with nothing latched ends with the latch of the word above it. -/
theorem State.getReg_latches {s : State} {off : Nat} (h : Sparse.get s.bus.shadows off none = none) :
    ∃ t : State, s.getReg off = t.latchHigh off := by
  rcases State.ownRead_cases off with ⟨f, -, own⟩ | ⟨-, live⟩
  · exact ⟨_, State.getReg_own h (own s)⟩
  · exact ⟨_, State.getReg_live h (live s)⟩

/-- No high word has a read of its own. -/
theorem highWord_notMem_ownReads {off : Nat} (h : isLow off = true) : off + 4 ∉ ownReads.map Prod.fst := by
  have none_low : ∀ o ∈ ownReads.map Prod.fst, isLow (o - 4) = false := by decide
  intro hm
  have low := none_low _ hm
  rw [Nat.add_sub_cancel, h] at low
  cases low

/-- A read of a register without a read of its own and with nothing latched returns what it shows. -/
theorem State.getReg_live_data {s : State} {off : Nat} (h : Sparse.get s.bus.shadows off none = none)
    (hn : off ∉ ownReads.map Prod.fst) : (s.getReg off).bus.data = (s.measured off).shown off := by
  have live : s.ownRead off = (false, s) := by
    rcases State.ownRead_cases off with ⟨f, hf, -⟩ | ⟨-, live⟩
    · exact absurd (List.mem_map_of_mem hf) hn
    · exact live s
  rw [State.getReg_live h live, State.latchHigh_data, State.readClears_bus]

/-- Settles O44: a read with nothing latched ends with the latch of the word above, and no high word has a read of its
own, so that its next read returns the latch if there is one and what the register shows if there is none. -/
theorem consistentReads : Obligations.ConsistentReads := by
  rintro off s - - ⟨al, low, served, free⟩
  obtain ⟨t, ht⟩ := State.getReg_latches free
  have latched : Sparse.get (s.getReg off).bus.shadows (off + 4) none = some ((s.getReg off).shown (off + 4)) := by
    rw [ht, t.latchHigh_low low]
    unfold Sparse.put
    rw [if_neg (by simp), Sparse.get_insert, if_pos rfl]
    exact congrArg some (t.shown_bus _ _).symm
  have al' : (off + 4) % 4 = 0 := by omega
  refine ⟨_, (exec_lowWordRead s off).trans (exec_rcRead_served al served), latched, fun u hu served' sorted => ?_,
    fun u free' served' => ?_⟩
  · have held : Sparse.get u.bus.shadows (off + 4) none = some ((s.getReg off).shown (off + 4)) := hu ▸ latched
    refine ⟨_, exec_rcRead_served al' served', ?_⟩
    rw [State.getReg_latched held]
    exact ⟨rfl, by rw [Sparse.get_put _ _ _ _ _ sorted, if_pos rfl]⟩
  · refine ⟨_, exec_rcRead_served al' served', ?_⟩
    rw [State.getReg_live_data free' (highWord_notMem_ownReads low)]

/-! ## Reads of counters (R13) -/

/-- A register whose read shows what it holds, clears its RC bits and does nothing else. -/
abbrev PlainRead (off : Nat) : Prop :=
  off ∉ ownReads.map Prod.fst ∧ isLow off = false ∧
    off ∉ [R.BOOT_MAP_ENTRY.off, R.BOOT_L2P.off, R.CLK_XING_HWM.off, R.CLK_XING_DROP.off, R.MOT_TRK_V_SEQ.off,
      R.MOT_TRK_V_STATE.off, R.MOT_TRK_V_DL_LO.off, R.MOT_TRK_V_DL_HI.off, R.CLK_MEAS.off] ∧
    ¬ (0x100000 ≤ off ∧ off % 0x4000 = 0x28) ∧ ¬ (0x91000 ≤ off ∧ off < 0x93000) ∧
    ¬ (0x30000 ≤ off ∧ off < 0x31000 ∧ off % 0x400 = 0x14) ∧
    ¬ (0x40000 ≤ off ∧ off < 0x46000 ∧ 0x18 ≤ off % 0x400 ∧ off % 0x400 < 0x28)

/-- The read of such a register with nothing latched. -/
theorem State.getReg_plain {s : State} {off : Nat} {r : Reg} (hp : PlainRead off) (hr : regAt off = some r)
    (h : Sparse.get s.bus.shadows off none = none) : s.getReg off
      = if r.rc = 0 then { s with bus.data := (s.rd r).toNat }
        else { s with bus.data := (s.rd r).toNat }.wr r (BitVec.ofNat 32 (maskOff (s.rd r).toNat r.rc)) := by
  obtain ⟨own, low, special, debug, queue, load, prbs⟩ := hp
  simp only [List.mem_cons, List.not_mem_nil, or_false, not_or] at special
  obtain ⟨entry, l2p, hwm, drop, vseq, vstate, vlo, vhi, meas⟩ := special
  have live : s.ownRead off = (false, s) := by
    rcases State.ownRead_cases off with ⟨f, hf, -⟩ | ⟨-, live⟩
    · exact absurd (List.mem_map_of_mem hf) own
    · exact live s
  have hmeas : s.measured off = s := by
    rw [State.measured, if_neg meas, if_neg hwm, if_neg load, if_neg prbs]
  have hshown : s.shown off = (s.rd r).toNat := by
    rw [State.shown, if_neg entry, if_neg l2p, if_neg hwm, if_neg drop, if_neg vseq, if_neg vstate, if_neg vlo,
      if_neg vhi, if_neg debug, if_neg (fun c => queue ⟨c.1, c.2.1⟩), hr]
  rw [State.getReg_live h live, hmeas, hshown, State.latchHigh, low, State.readClears, if_neg hwm, if_neg drop, hr]
  rfl

/-- The counters of rcOffs are such registers. -/
theorem rcOffs_plainRead : ∀ off ∈ rcOffs, PlainRead off ∧ off % 4 = 0 ∧ (regAt off).isSome = true := by decide

/-- The value read is the one held. -/
theorem State.getReg_plain_data {s : State} {off : Nat} {r : Reg} (hp : PlainRead off) (hr : regAt off = some r)
    (h : Sparse.get s.bus.shadows off none = none) : (s.getReg off).bus.data = (s.rd r).toNat := by
  rw [State.getReg_plain hp hr h]
  split <;> rfl

/-- The register keeps its other bits. -/
theorem State.getReg_plain_rd {s : State} {off : Nat} {r : Reg} (hp : PlainRead off) (hr : regAt off = some r)
    (h : Sparse.get s.bus.shadows off none = none) (sorted : Sparse.sorted s.regs = true) (j : Nat) (hj : j < 32) :
    ((s.getReg off).rd r).toNat.testBit j = ((s.rd r).toNat.testBit j && !r.rc.testBit j) := by
  rw [State.getReg_plain hp hr h]
  split
  · next e =>
    rw [e, Nat.zero_testBit, Bool.not_false, Bool.and_true]
    rfl
  · rw [State.rd_wr { s with bus.data := (s.rd r).toNat } _ _ sorted, BitVec.toNat_ofNat, Nat.testBit_mod_two_pow,
      testBit_maskOff]
    simp only [hj, decide_true, Bool.true_and]

/-- The read changes its own register only, and the bus. -/
theorem State.getReg_plain_frame {s : State} {off : Nat} {r : Reg} (hp : PlainRead off) (hr : regAt off = some r)
    (h : Sparse.get s.bus.shadows off none = none) (sorted : Sparse.sorted s.regs = true) :
    OnlyRegs [off] s (s.getReg off) ∧ OnlyParts [.regs, .bus] s (s.getReg off) := by
  have hb : Touches 0x80000005 s { s with bus.data := (s.rd r).toNat } := Touches.setBus (Touches.refl _ _) rfl
  have here : r.off = off := regAt_off hr
  rw [State.getReg_plain hp hr h]
  split
  · exact ⟨fun _ _ => rfl, hb.parts⟩
  · refine ⟨fun q hq => ?_, (hb.trans (State.wr_touches _ _ _ rfl 0 rfl Grp.any)).parts⟩
    refine State.rd_wr_other { s with bus.data := (s.rd r).toNat } r q _ sorted fun e => hq ?_
    rw [e, here]
    exact List.mem_singleton_self off

/-! ## Reads of other widths, held reads and misaligned ones -/

/-- An access that reaches its block is performed, whatever its width. -/
theorem State.access_reaches {s : State} {off : Nat} (h : s.served off = true) (v : Nat) (w : Bool) (k : State → State)
    (lane len : Nat) : s.access off v w k lane len = k s := by
  unfold State.served at h
  rw [Bool.and_eq_true, Bool.and_eq_true, Bool.not_eq_true', bne_iff_ne] at h
  obtain ⟨⟨reset, mode⟩, h⟩ := h
  by_cases early : s.bootState = 0 ∨ (!s.boot.mapped) = true
  · rw [if_pos early, Bool.and_eq_true, decide_eq_true_eq] at h
    rw [State.access, if_neg (by simp [reset, mode]), if_pos early, if_pos h.1, if_pos h.2]
  · rw [if_neg early, Bool.and_eq_true, Bool.not_eq_true', Bool.not_eq_true'] at h
    rw [not_or] at early
    rw [s.access_mapped _ _ _ _ _ _ reset mode early.1 (by simpa using early.2), h.1, h.2]
    rfl

theorem exec_rcRead_double {s : State} {off : Nat} (al : off % 8 = 0) (h : s.served off = true) :
    exec (.rcRead off 8) s = .next (s.getBytes off 0 8) := by
  have lane : off % 4 = 0 := by omega
  rw [exec_rcRead_aligned s off 8 (by decide) al, lane, Nat.sub_zero, State.access_reaches h]

theorem State.getBytes_double (s : State) (off lane : Nat) : s.getBytes off lane 8
    = { (s.getReg off).getReg (off + 4) with bus.data := (s.getReg off).bus.data % 2 ^ 32
        + 2 ^ 32 * (((s.getReg off).getReg (off + 4)).bus.data % 2 ^ 32) } := rfl

/-- Bytes within a word do not depend on what stands above it. -/
theorem bytes_of_word (d lane len : Nat) (h : lane + len ≤ 4) :
    d % 2 ^ 32 / 2 ^ (8 * lane) % 2 ^ (8 * len) = d / 2 ^ (8 * lane) % 2 ^ (8 * len) := by
  apply Nat.eq_of_testBit_eq
  intro j
  rw [Nat.testBit_mod_two_pow, Nat.testBit_mod_two_pow, Nat.testBit_div_two_pow, Nat.testBit_div_two_pow,
    Nat.testBit_mod_two_pow]
  by_cases hj : j < 8 * len
  · rw [decide_eq_true (show j + 8 * lane < 32 by omega), Bool.true_and]
  · rw [decide_eq_false hj, Bool.false_and, Bool.false_and]

theorem RegsOnly.wake (s : State) (bit : Nat) : RegsOnly [R.PWR_WAKE_LATCH_LATCH.reg.off] s (s.wake bit) :=
  .ite ((RegsOnly.setF s R.PWR_WAKE_LATCH_LATCH _ (List.mem_singleton_self _)).trans (.of_eq _ rfl)) (.refl _ _)

theorem OnlyParts.mono {l k : List Part} {s t : State} (h : OnlyParts l s t) (e : l ⊆ k) : OnlyParts k s t :=
  fun p hp => h p fun hl => hp (e hl)

/-- An access to a gated domain is held, and wakes: nothing else changes (R140). -/
theorem State.hold_wake (s : State) (a : HeldAccess) (sorted : Sparse.sorted s.regs = true) :
    (State.wake { s with bus.held := s.bus.held ++ [a] } 1).bus = { s.bus with held := s.bus.held ++ [a] } ∧
      OnlyRegs [R.PWR_WAKE_LATCH_LATCH.reg.off] s (State.wake { s with bus.held := s.bus.held ++ [a] } 1) ∧
      OnlyParts [.bus, .regs, .mode] s (State.wake { s with bus.held := s.bus.held ++ [a] } 1) := by
  have held : Touches 0x4 s { s with bus.held := s.bus.held ++ [a] } := Touches.setBus (Touches.refl _ _) rfl
  have woken := State.wake_touches { s with bus.held := s.bus.held ++ [a] } 1
  exact ⟨woken.same .bus (by decide), (RegsOnly.wake { s with bus.held := s.bus.held ++ [a] } 1 sorted).2,
    fun p hp => Part.same_trans (held.parts.mono (by decide) p hp) (woken.parts.mono (by decide) p hp)⟩

/-- Settles O43: a read is of one register whatever its width (getReg), with its bytes selected afterwards; of 64 bits it
is two such reads, the second served because the first keeps what that depends on. -/
theorem registerReads : Obligations.RegisterReads := by
  unfold Obligations.RegisterReads
  refine ⟨?_, ?_, ?_, ?_, ?_⟩
  · rintro off size s ⟨-, -, sorted⟩ - ⟨hoff, rfl, served, free⟩
    obtain ⟨plain, al, here⟩ := rcOffs_plainRead off hoff
    obtain ⟨r, hr⟩ := Option.isSome_iff_exists.mp here
    obtain ⟨regs, parts⟩ := State.getReg_plain_frame plain hr free sorted
    refine ⟨_, exec_rcRead_served al served, ?_, regs, ?_⟩
    · have bits (j : Nat) (hj : j < 32) := State.getReg_plain_rd plain hr free sorted j hj
      simp only [hr, Option.all_some, Bool.and_eq_true, beq_iff_eq, List.all_eq_true, List.mem_range]
      exact ⟨by rw [State.getReg_plain_data plain hr free, Nat.mod_eq_of_lt (BitVec.isLt _)], bits⟩
    · exact fun p hp => Part.same_trans (parts p hp)
        ((Touches.setBus (m := 0x4) (Touches.refl _ _) rfl).parts.mono (by decide) p hp)
  · rintro off size s - - ⟨al, hsize, ungated⟩
    have fits : off % 4 + size ≤ 4 ∧ size ≠ 8 ∧ size ∈ [1, 2, 4, 8] := by
      simp only [List.mem_cons, List.not_mem_nil, or_false] at hsize ⊢
      rcases hsize with rfl | rfl <;> omega
    obtain ⟨fits, ne, hsize⟩ := fits
    refine ⟨_, exec_rcRead_aligned s off size hsize al, _, exec_rcRead_word s (off - off % 4) (by omega), ?_⟩
    rcases s.readAccess_cases (off - off % 4) 0 ungated with reaches | zero
    · rw [reaches, reaches, State.getBytes_narrow _ _ _ _ ne, State.getBytes_word, ← bytes_of_word _ _ _ fits]
    · rw [zero, zero, Nat.zero_div, Nat.zero_mod]
  · rintro off size s ⟨-, -, sorted⟩ - ⟨al, rfl, served⟩
    have served' : (s.getReg off).served (off + 4) = true := by
      rw [s.served_getReg _ _ sorted, s.served_next off al, served]
    refine ⟨_, exec_rcRead_double al served, _, _, exec_rcRead_served (by omega) served,
      exec_rcRead_served (by omega) served', ?_⟩
    rw [State.getReg_data, State.getBytes_double]
  · rintro off size s ⟨-, -, sorted⟩ - ⟨mis, hsize⟩
    refine ⟨_, exec_rcRead_misaligned s off size hsize mis, State.report_bus .., ?_, ?_, ?_⟩
    · exact State.fld_report_last _ _ _ _ _ sorted (by decide) (by decide)
    · exact (RegsOnly.report { s with bus.data := 0 } _ _ _ _ sorted).2
    · have zero : Touches 0x4 s { s with bus.data := 0 } := Touches.setBus (Touches.refl _ _) rfl
      have told := State.report_any { s with bus.data := 0 } R.MBX_HSTATUS_LAST_STS 0xC00E (off % 65536) 0
      exact fun p hp => Part.same_trans (zero.parts.mono (by decide) p hp) (told.parts.mono (by decide) p hp)
  · rintro off size s ⟨-, -, sorted⟩ - ⟨hsize, al, hr, hm, hb, hp, ha, hg⟩
    refine ⟨_, exec_rcRead_aligned s off size hsize al, ?_⟩
    rw [s.access_mapped _ _ _ _ _ _ hr hm hb hp, ha, hg]
    obtain ⟨bus, regs, parts⟩ := s.hold_wake ⟨off - off % 4, false, 0, off % 4, size⟩ sorted
    exact ⟨congrArg Bus.held bus, regs, parts⟩

end Sys2Proof.Machine
end

section
/-! PROOFS. Scope, what fails: the two statements that the model refutes, each with a state at which it does. -/

set_option Elab.async false

namespace Sys2Proof.Machine

/-! ## Two statements that fail -/

/-- The module after bring-up, in RUN, with every domain clocked: the blocks of BAR0 are served. -/
def servedState : State :=
  (((({ State.reset with pwr.inReset := false, boot.mapped := true } : State).setF R.SYS_BOOT_STATUS_STATE 1).setF
    R.PWR_MODE_STATUS_MODE 1).wr R.CLK_STATUS 0x01FF01FF)

/-- The same with port 7 triggered by its encoder (SRC 1) and no trigger count set. -/
def lineTriggered : State := servedState.setF (R.CXP_TRIG_CFG_SRC 7) 1

/-- Refutes O41: a write of CXP_TRIG_PHASE_LO of port 7, one of the registers of plainOffs, does more than its access
types say. With SRC 1 it moves the port's next trigger count at once (phaseMoved), so that the cameras' part changes. -/
theorem not_registerWrites : ¬ Obligations.RegisterWrites := by
  unfold Obligations.RegisterWrites
  rintro ⟨plain, -⟩
  obtain ⟨t, ht, -, -, parts⟩ :=
    plain 0x27010 4 0 lineTriggered (by decide +kernel) (by decide +kernel) (by decide +kernel)
  have cams : t.cam = lineTriggered.cam := parts .cam (by decide)
  cases ht
  have before : (lineTriggered.port 7).next = none := by decide +kernel
  have after : ((lineTriggered.hostWrite 0x27010 4 0).port 7).next = some 1 := by decide +kernel
  have kept : ((lineTriggered.hostWrite 0x27010 4 0).port 7).next = (lineTriggered.port 7).next :=
    congrArg (fun c : Cams => (c.ports.getD 7 {}).next) cams
  cases after.symm.trans (kept.trans before)

/-- A served module whose SPI completion queue holds a record with a first word of 33 bits, which no bound on the
queue's entries excludes. -/
def wideRecord : State := { servedState with spi := { cpl := [⟨2 ^ 32, 0, 0⟩] } }

/-- Refutes O46: a read that pops an SPI completion returns the record's first word as the queue holds it, while the
register of 32 bits takes it modulo 2^32. For a record with a wider word the two differ. -/
theorem not_poppedQueues : ¬ Obligations.PoppedQueues := by
  unfold Obligations.PoppedQueues
  rintro ⟨-, -, -, spiCplPop, -⟩
  obtain ⟨t, ht, -, data, -⟩ := spiCplPop wideRecord (by decide +kernel) (by decide +kernel) (by decide +kernel)
  cases ht
  have wide : (wideRecord.regRead (R.SPI_CPL 0) State.spiPop).bus.data = 2 ^ 32 := by decide +kernel
  have narrow := ((wideRecord.regRead (R.SPI_CPL 0) State.spiPop).rd (R.SPI_CPL 0)).isLt
  exact absurd (data.symm.trans wide) (Nat.ne_of_lt narrow)

end Sys2Proof.Machine
end

section
/-! PROOFS. Scope, messages to the track unit: what TRACK_UNIT_MESSAGE does with a message whose route a change of the route
set holds (R226), and the statement that this refutes. -/

set_option Elab.async false

namespace Sys2Proof.Machine

/-! ## Messages held at their source -/

/-- Where every message that passes the test is held, none is taken and the state stays. -/
theorem State.takeFlight_held (s : State) (p : Flight → Bool) (held : ∀ f ∈ s.flights, p f = true → s.flightHeld f = true) :
    s.takeFlight p = (none, s) := by
  have none_free : s.flights.findIdx? (fun f => p f && !s.flightHeld f) = none := by
    rw [List.findIdx?_eq_none_iff]
    intro f hf
    cases hp : p f with
    | false => rfl
    | true => rw [held f hf hp]; rfl
  unfold State.takeFlight
  rw [none_free]

/-- TRACK_UNIT_MESSAGE changes nothing while every message of the gill to the track unit is held. -/
theorem exec_trackUnitMessage_held (gill : Nat) (s : State)
    (held : ∀ f ∈ s.flights, (f.gill == gill && f.dst == 0x6000) = true → s.flightHeld f = true) :
    exec (.trackUnitMessage gill) s = .next s := by
  change execTrackUnitMessage gill s = .next s
  unfold execTrackUnitMessage
  rw [State.takeFlight_held s _ held]

/-- The route of the messages of gill 63 to the track unit, by a path. -/
def trackRoute (path : List Nat) : CRoute := ⟨some 1, 0x103F, 0x6000, 3, false, 0, 0xFF, [path], 0, 0⟩

/-- An image of two route sets that lead this route along different paths. -/
def twoSetImage : Image := {
  total := 0, keySlot := 0, secVer := 0, minSup := 0, minTile := 0, variants := 7, id := 1, rev := 0, names := [], digest := []
  parts := [], progs := [], routes := [⟨1, 0x103F, 0x6000, 3, false, 0, 3, 0xFF⟩], mems := [], isps := [], cams := [],
  queues := [], models := [], gates := [], syncs := [], rings := [], datas := []
  sets := [(0, [trackRoute [63, 62]]), (1, [trackRoute [63, 55]])] }

/-- A change to set 1 has passed its epoch boundary while old-tag flits of the route were still on their way, and gill 63 has
then sent the track unit a declaration: the route is held, and the message of the new tag with it. -/
def heldDeclaration : State :=
  (({ servedState with img.active := some twoSetImage }.writeRouteset 0x10100).epochFlip [0]).doSend 63 0 0x6000 0
    [0x10844, 0x80000000]

/-- Its message waits at the gill for the old-tag flits of its route. -/
theorem heldDeclaration_held : ∀ f ∈ heldDeclaration.flights, heldDeclaration.flightHeld f = true := by decide +kernel

/-- Refutes O12: the clause of TRACK_UNIT_MESSAGE asks that one message of the gill to the track unit fewer be on its way
afterwards, whenever there was one. In heldDeclaration the only one is held by a change of the route set (R226), so that the
command takes none and their number stays. -/
theorem not_trackCommands : ¬ Obligations.TrackCommands := by
  unfold Obligations.TrackCommands
  rintro ⟨-, -, -, message, -⟩
  obtain ⟨t, ht, fewer⟩ :=
    message 63 heldDeclaration (by decide +kernel) (by decide +kernel) (by decide +kernel)
  have stays : exec (.trackUnitMessage 63) heldDeclaration = .next heldDeclaration :=
    exec_trackUnitMessage_held 63 heldDeclaration fun f hf _ => heldDeclaration_held f hf
  cases stays.symm.trans ht
  exact Nat.succ_ne_self _ fewer

end Sys2Proof.Machine
end

section
/-! PROOFS. Scope, fields through operations: which operations leave a field of a register as it reads, and what a field reads
after the operations that the image loader and the route set share. -/

set_option Elab.async false

namespace Sys2Proof.Machine

/-! ## A field that stays -/

/-- From `s` to `t` the register file stays sorted and a field reads as before. -/
structure KeepsFld (g : Fld) (s t : State) : Prop where
  sorted : Sparse.sorted s.regs = true → Sparse.sorted t.regs = true
  fld : Sparse.sorted s.regs = true → t.fld g = s.fld g

/-- Two fields of 32-bit registers that share no bit: they stand in registers at different offsets or apart in one. -/
abbrev Fld.Apart (f g : Fld) : Prop :=
  f.fits ∧ g.fits ∧ (g.reg.off ≠ f.reg.off ∨ g.reg = f.reg ∧ (g.hi < f.lo ∨ f.hi < g.lo))

theorem KeepsFld.refl (g : Fld) (s : State) : KeepsFld g s s := ⟨id, fun _ => rfl⟩

theorem KeepsFld.trans {g : Fld} {a b c : State} (h : KeepsFld g a b) (k : KeepsFld g b c) : KeepsFld g a c :=
  ⟨k.sorted ∘ h.sorted, fun x => (k.fld (h.sorted x)).trans (h.fld x)⟩

/-- A state with the same register file. -/
theorem KeepsFld.of_eq {g : Fld} {a b : State} (e : b.regs = a.regs) : KeepsFld g a b :=
  ⟨fun h => e ▸ h, fun _ => by unfold State.fld State.rd; rw [e]⟩

/-- The loader's state beside the registers. -/
theorem KeepsFld.setImg {g : Fld} {a b : State} (x : Loader) (h : KeepsFld g a b) : KeepsFld g a { b with img := x } :=
  ⟨h.sorted, h.fld⟩

theorem RegsOnly.keepsFld {l : List Nat} {g : Fld} {a b : State} (h : RegsOnly l a b) (e : g.reg.off ∉ l) : KeepsFld g a b :=
  ⟨fun x => (h x).1, fun x => by unfold State.fld; rw [(h x).2 _ e]⟩

theorem KeepsFld.setF {g f : Fld} {a b : State} (n : Nat) (h : KeepsFld g a b) (e : f.Apart g := by decide) :
    KeepsFld g a (b.setF f n) :=
  h.trans ⟨b.sorted_setF f n, fun x => b.fld_setF_other f g n x e.1 e.2.1 e.2.2⟩

theorem KeepsFld.setB {g f : Fld} {a b : State} (v : Bool) (h : KeepsFld g a b) (e : f.Apart g := by decide) :
    KeepsFld g a (b.setB f v) := h.setF _ e

theorem KeepsFld.inc {g f : Fld} {a b : State} (n : Nat) (h : KeepsFld g a b) (e : f.Apart g := by decide) :
    KeepsFld g a (b.inc f n) := h.setF _ e

/-- A write of a register at another offset. -/
theorem KeepsFld.wr {g : Fld} {a b : State} (r : Reg) (v : Word) (h : KeepsFld g a b) (e : g.reg.off ≠ r.off := by decide) :
    KeepsFld g a (b.wr r v) := h.trans ⟨b.sorted_wr r v, fun x => b.fld_wr_other r g v x e⟩

theorem KeepsFld.pend {g : Fld} {a b : State} (n : Nat) (h : KeepsFld g a b) (e : g.reg.off ∉ reportRegs := by decide) :
    KeepsFld g a (b.pend n) := h.trans ((RegsOnly.pend b n).keepsFld e)

/-- A status report, for a field that is no part of its LAST_STS. -/
theorem KeepsFld.report {g f : Fld} {a b : State} (sts detail inst : Nat) (h : KeepsFld g a b) (e : f.Apart g := by decide)
    (k : g.reg.off ∉ reportRegs := by decide) : KeepsFld g a (b.report f sts detail inst) :=
  (h.setF sts e).trans ((RegsOnly.afterSet b f sts detail inst).keepsFld k)

theorem KeepsFld.ite {g : Fld} {s a b : State} {c : Prop} [Decidable c] (h : KeepsFld g s a) (k : KeepsFld g s b) :
    KeepsFld g s (if c then a else b) := by split <;> assumption

theorem KeepsFld.foldl {β : Type} {g : Fld} {a b : State} {f : State → β → State} {l : List β}
    (hf : ∀ t x, KeepsFld g t (f t x)) (hb : KeepsFld g a b) : KeepsFld g a (l.foldl f b) := by
  induction l generalizing b with
  | nil => exact hb
  | cons x l ih => exact ih (hb.trans (hf b x))

/-- A limited status report either reports or changes no register. -/
theorem KeepsFld.reportLimited {g f : Fld} {a b : State} (sts : Nat) (detail : Nat → Nat) (inst ms n : Nat)
    (h : KeepsFld g a b) (e : f.Apart g := by decide) (k : g.reg.off ∉ reportRegs := by decide) :
    KeepsFld g a (b.reportLimited f sts detail inst ms n) := by
  have counted : KeepsFld g a (b.limit sts inst ms n).2 := h.trans (.of_eq ((b.limit_touches ..).same .regs (by decide)))
  unfold State.reportLimited
  split
  · next hl =>
    rw [hl] at counted
    exact counted.report _ _ _ e k
  · next hl =>
    rw [hl] at counted
    exact counted

/-- A field that has been set, after operations that leave it. -/
theorem State.fld_of_setF {s t : State} {f : Fld} {n : Nat} (h : KeepsFld f (s.setF f n) t) (sorted : Sparse.sorted s.regs = true)
    (e : f.fits := by decide) : t.fld f = n % 2 ^ f.width :=
  (h.fld (s.sorted_setF f n sorted)).trans (s.fld_setF f n sorted e)

/-- A flag that is kept reads as before. -/
theorem KeepsFld.bit {g : Fld} {s t : State} (h : KeepsFld g s t) (sorted : Sparse.sorted s.regs = true) : t.bit g = s.bit g := by
  unfold State.bit
  rw [h.fld sorted]

/-! ## Staging a record -/

/-- A staged record, like a status report, changes the journal's counters and the interrupts only. -/
theorem RegsOnly.stage (s : State) (ty len : Nat) (body : List Byte) (first : Option Nat) :
    RegsOnly reportRegs s (s.stage ty len body first) :=
  RegsOnly.ite (RegsOnly.stagePut _ _ _ _) (RegsOnly.stageDropped _ _)

/-- From `s` to `t` the requests to the flash stay. -/
structure KeepsReqs (s t : State) : Prop where
  reqs : t.jrn.reqs = s.jrn.reqs

theorem KeepsReqs.trans {a b c : State} (h : KeepsReqs a b) (k : KeepsReqs b c) : KeepsReqs a c := ⟨k.reqs.trans h.reqs⟩

/-- An operation that leaves the journal alone. -/
theorem KeepsReqs.of_jrn {a b : State} (h : b.jrn = a.jrn) : KeepsReqs a b := ⟨congrArg Journal.reqs h⟩

theorem KeepsReqs.setStageDrop {a b : State} (h : KeepsReqs a b) (n : Nat) :
    KeepsReqs a { b with jrn := { b.jrn with stageDrop := n } } := ⟨h.reqs⟩

theorem KeepsReqs.setDropFirst {a b : State} (h : KeepsReqs a b) (n k : Nat) :
    KeepsReqs a { b with jrn := { b.jrn with stageDrop := n, dropFirst := k } } := ⟨h.reqs⟩

theorem KeepsReqs.ite {s a b : State} {c : Prop} [Decidable c] (h : KeepsReqs s a) (k : KeepsReqs s b) :
    KeepsReqs s (if c then a else b) := by split <;> assumption

theorem State.stagePut_keepsReqs (s : State) (ty len : Nat) (body : List Byte) : KeepsReqs s (s.stagePut ty len body) := by
  refine ⟨?_⟩
  unfold State.stagePut
  simp only [State.raise_jrn, State.setF_jrn]

theorem State.stageDropped_keepsReqs (s : State) (first : Option Nat) : KeepsReqs s (s.stageDropped first) := by
  unfold State.stageDropped
  have counting (t : State) : KeepsReqs t (t.inc R.JRN_CNT_DROP_COUNT) := .of_jrn (State.inc_jrn ..)
  extract_lets -merge +onlyGivenNames c
  have counted : KeepsReqs s c := counting s
  clear_value c
  refine .ite (counted.setStageDrop _) ?_
  split
  rename_i f t taken
  have same : KeepsReqs s t := by
    cases first with
    | none => cases taken; exact ⟨counted.reqs⟩
    | some f => cases taken; exact counted
  extract_lets -merge +onlyGivenNames src
  extract_lets -merge +onlyGivenNames noted
  have noting : KeepsReqs s noted := same.setDropFirst _ _
  clear_value noted
  have telling : KeepsReqs noted ((noted.setF R.JRN_STATUS_LAST_STS 0xE003).pend 30) :=
    .of_jrn ((State.pend_jrn ..).trans (State.setF_jrn ..))
  extract_lets -merge +onlyGivenNames told
  have kept : KeepsReqs s told := noting.trans telling
  clear_value told
  refine .ite (kept.trans (State.stagePut_keepsReqs ..)) ?_
  extract_lets -merge +onlyGivenNames lost
  have losing : KeepsReqs s lost := kept.trans (counting told)
  clear_value lost
  exact losing.setStageDrop _

/-- A staged record leaves the requests to the flash alone. -/
theorem State.stage_keepsReqs (s : State) (ty len : Nat) (body : List Byte) (first : Option Nat) :
    KeepsReqs s (s.stage ty len body first) :=
  .ite (s.stagePut_keepsReqs ..) (s.stageDropped_keepsReqs _)

/-! ## Registers that the switch of an image's units does not reach -/

/-- An offset outside three pages: BOOT, MESH's route set, and the host link's registers of the mailbox. -/
abbrev OutsidePages (off : Nat) : Prop :=
  (off < 0x1000 ∨ 0x2000 ≤ off) ∧ (off < 0x50000 ∨ 0x51000 ≤ off) ∧ (off < 0xA0400 ∨ 0xA0440 ≤ off)

/-- The registers that an image's units, ports and ring take with a commit or an unload, that the memory system's faults
change, and that a status report changes. -/
def unitGroups : List Nat :=
  [26, 109, 110, 111, 121, 129, 141, 179, 232, 247, 256, 263, 264, 265, 274, 282, 293, 300, 307, 308, 329, 331, 343, 352, 359,
    363, 368, 377, 448, 455, 489, 490, 491, 500, 509, 510, 511]

/-- A row of registers is outside the pages when each register is. Beyond its last there is none. -/
theorem outsidePages_row {base stride cnt : Nat}
    (h : 0 < stride ∧ (base + stride * cnt ≤ 0x1000 ∨ 0x2000 ≤ base ∧ base + stride * cnt ≤ 0x50000 ∨
      0x51000 ≤ base ∧ base + stride * cnt ≤ 0xA0400 ∨ 0xA0440 ≤ base)) (k : Nat) :
    OutsidePages (regOff base stride cnt k) := by
  unfold regOff
  split
  · next hk =>
    have bound : stride * k < stride * cnt := Nat.mul_lt_mul_of_pos_left hk h.1
    omega
  · omega

theorem unitGroups_outsidePages : ∀ b ∈ unitGroups, ∀ k, OutsidePages (grpOff b k) := by
  have row (base stride cnt : Nat) := @outsidePages_row base stride cnt
  have one (r : Reg) (h : OutsidePages r.off) (_ : Nat) : OutsidePages r.off := h
  simp only [unitGroups, List.forall_mem_cons]
  exact ⟨row 0x10900 0x20 16 (by decide), row 0x20000 0x1000 8 (by decide), row 0x20004 0x1000 8 (by decide),
    row 0x20008 0x1000 8 (by decide), row 0x20030 0x1000 8 (by decide), row 0x20054 0x1000 8 (by decide),
    row 0x30000 0x400 4 (by decide), row 0x12000 0x40 16 (by decide), row 0x8110 0x40 2 (by decide),
    row 0x40004 0x400 24 (by decide), row 0x40040 0x400 24 (by decide), one R.RING_STATUS (by decide),
    one R.RING_TOPO (by decide), one R.RING_LAYOUT (by decide), row 0x48040 0x40 2 (by decide),
    row 0x100000 0x4000 64 (by decide), row 0x10002C 0x4000 64 (by decide), one R.MMU_STATUS (by decide),
    one R.MMU_FQ_LOST (by decide), one R.MMU_CNT_FAULTS (by decide), row 0x80000 0x10 4096 (by decide),
    row 0x80008 0x10 4096 (by decide), row 0x91000 0x20 256 (by decide), row 0x93004 0x20 32 (by decide),
    row 0x93800 0x4 64 (by decide), one R.PFX_STATUS (by decide), one R.PFX_USED (by decide),
    one R.ADP_INFLIGHT (by decide), one R.MBX_IRQ_PEND (by decide), row 0xA3000 0x4 2 (by decide),
    one R.JRN_STATUS (by decide), one R.JRN_SEQ (by decide), one R.JRN_STAGE (by decide), one R.JRN_CNT_DROP (by decide),
    fun k => show OutsidePages (0x10900 + k % 512) by omega, fun k => show OutsidePages (0x12800 + k % 64) by omega,
    fun k => show OutsidePages (0x80000 + k % 65536) by omega, List.forall_mem_nil _⟩

/-- An operation on those groups leaves the fields within the pages. -/
theorem Touches.keepsFld {m : Nat} {s t : State} (h : Touches m s t) (g : Fld)
    (c : m >>> 31 ||| groupMask unitGroups = groupMask unitGroups := by decide +kernel)
    (e : ¬ OutsidePages g.reg.off := by decide) : KeepsFld g s t := by
  refine ⟨h.regs, fun sorted => ?_⟩
  unfold State.fld
  rw [h.grps sorted g.reg fun b hb => ?_]
  have member : (groupMask unitGroups).testBit b = true := by
    rw [← c, Nat.testBit_or, Nat.testBit_shiftRight, hb, Bool.true_or]
  rintro ⟨k, hk⟩
  exact e (hk ▸ unitGroups_outsidePages b (testBit_groupMask _ _ member) k)

end Sys2Proof.Machine
end

section
/-! PROOFS. Scope, route sets: how a change of the route set begins, flips the epoch, releases its held routes, completes, and
is reported late (R226, R227). -/

set_option Elab.async false

namespace Sys2Proof.Machine

/-! ## The steps of a change -/

theorem exec_routeSetChange_served {s : State} (value : Nat) (h : s.served R.MESH_ROUTESET.off = true) :
    exec (.routeSetChange value) s = .next (s.writeRouteset value) :=
  congrArg Host.Outcome.next (s.regWrite_served R.MESH_ROUTESET value (·.writeRouteset value) h)

/-- A change to a declared set begins when none runs and the loader is not busy: the registers say so, and the change waits
for its epoch boundary. -/
theorem State.writeRouteset_begins {s : State} {value : Nat} (sorted : Sparse.sorted s.regs = true)
    (go : R.MESH_ROUTESET_GO.of value = 1) (declared : s.setDeclared (R.MESH_ROUTESET_NEXT.of value) = true)
    (free : s.bit R.MESH_ROUTESET_BUSY = false) (idle : s.bit R.BOOT_IMG_STATUS_BUSY = false) :
    (s.writeRouteset value).fld R.MESH_ROUTESET_BUSY = 1 ∧
      (s.writeRouteset value).fld R.MESH_ROUTESET_NEXT = R.MESH_ROUTESET_NEXT.of value ∧
      (s.writeRouteset value).img.change = some { next := R.MESH_ROUTESET_NEXT.of value, startAt := s.now } := by
  unfold State.writeRouteset
  extract_lets n a b change c
  have busy : KeepsFld R.MESH_ROUTESET_BUSY s a := (KeepsFld.refl _ s).setF n
  have image : KeepsFld R.BOOT_IMG_STATUS_BUSY s a := (KeepsFld.refl _ s).setF n
  have named : a.setDeclared n = true := declared
  rw [if_neg (by rw [go]; decide), if_neg (by rw [named]; decide),
    if_neg (by rw [busy.bit sorted, image.bit sorted, free, idle]; decide)]
  have window (g : Fld) (e : R.MESH_TW_FLAGS_MODE.Apart g) :
      KeepsFld g b (if c.bit R.MESH_TW_CTRL_OPEN then c.setB R.MESH_TW_FLAGS_MODE true else c) :=
    .ite (((KeepsFld.refl g b).setImg _).setB true e) ((KeepsFld.refl g b).setImg _)
  refine ⟨State.fld_of_setF (window _ (by decide)) (busy.sorted sorted), ?_, ?_⟩
  · rw [State.fld_of_setF (((KeepsFld.refl _ a).setB true).trans (window _ (by decide))) sorted]
    exact Nat.mod_mod _ _
  · have now : b.now = s.now := (State.setB_now ..).trans (State.setF_now ..)
    have begun : c.img.change = some { next := n, startAt := s.now } := by rw [← now]
    split
    · exact (congrArg Loader.change (State.setB_img ..)).trans begun
    · exact begun

/-- The epoch boundary: the epoch flips, and the change notes its moment and the routes it holds. -/
theorem State.epochFlip_flips {s : State} {c : RouteChange} (inflight : List Nat) (sorted : Sparse.sorted s.regs = true)
    (change : s.img.change = some c) (waits : c.flipped = false) :
    (∃ held, (s.epochFlip inflight).img.change = some { c with flipped := true, flipAt := s.now, held := held }) ∧
      (s.epochFlip inflight).fld R.MESH_ROUTESET_EPOCH = 1 - s.fld R.MESH_ROUTESET_EPOCH := by
  unfold State.epochFlip
  split
  · next missing => cases missing.symm.trans change
  · next d hd =>
    cases hd.symm.trans change
    rw [if_neg (by rw [waits]; decide)]
    extract_lets new held next noted
    refine ⟨⟨held, rfl⟩, ?_⟩
    have kept : KeepsFld R.MESH_ROUTESET_EPOCH (noted.setF R.MESH_ROUTESET_EPOCH (1 - noted.fld R.MESH_ROUTESET_EPOCH))
        (noted.setF R.MESH_ROUTESET_EPOCH (1 - noted.fld R.MESH_ROUTESET_EPOCH)).heldRegs := (KeepsFld.refl _ _).setF _
    rw [State.fld_of_setF kept sorted]
    exact Nat.mod_eq_of_lt (Nat.lt_of_le_of_lt (Nat.sub_le _ _) (by decide))

/-- A held route without old-tag flits leaves the hold. -/
theorem State.routeFree_releases {s : State} {c : RouteChange} {route : Nat} (change : s.img.change = some c)
    (held : c.held.contains route = true) (clear : s.oldOn route = false) :
    (s.routeFree route).img.change = some { c with held := c.held.filter (· != route) } := by
  unfold State.routeFree
  rw [change]
  simp only [held, clear, Bool.not_false, Bool.and_self, if_true]
  rfl

/-- With nothing held and no old-tag flit left, the change ends and its set is the current one. -/
theorem State.routeDone_completes {s : State} {c : RouteChange} (sorted : Sparse.sorted s.regs = true)
    (change : s.img.change = some c) (flipped : c.flipped = true) (free : c.held = [])
    (tags : s.flights.all (fun f => f.tag == s.fld R.MESH_ROUTESET_EPOCH) = true) :
    s.routeDone.img.change = none ∧ s.routeDone.fld R.MESH_ROUTESET_BUSY = 0 ∧
      s.routeDone.fld R.MESH_ROUTESET_CURRENT = c.next % 2 ^ R.MESH_ROUTESET_CURRENT.width ∧
      s.routeDone.fld R.MESH_EPOCH_STATUS_HELD = 0 := by
  unfold State.routeDone
  split
  · next missing => cases missing.symm.trans change
  · next d hd =>
    cases hd.symm.trans change
    rw [if_pos ⟨flipped, free, tags⟩]
    extract_lets next ended a
    have current : KeepsFld R.MESH_ROUTESET_CURRENT (ended.setF R.MESH_ROUTESET_CURRENT c.next) a :=
      (KeepsFld.refl _ _).setB _
    have sortedA : Sparse.sorted a.regs = true := current.sorted (ended.sorted_setF _ _ sorted)
    refine ⟨rfl, ?_, ?_, ?_⟩
    · exact State.fld_of_setF (n := 0) (((KeepsFld.refl _ a).inc 1).setF _) (ended.sorted_setF _ _ sorted)
    · exact State.fld_of_setF ((current.inc 1).setF _) sorted
    · exact State.fld_of_setF (n := 0) (KeepsFld.refl _ _) (a.sorted_inc _ _ sortedA)

/-- A report of the route set's status leaves the change as it is. -/
theorem State.routeReport_tells {s : State} {c : Option RouteChange} (sts detail : Nat) (sorted : Sparse.sorted s.regs = true)
    (change : s.img.change = c) : (s.routeReport sts detail).img.change = c ∧
      (s.routeReport sts detail).fld R.MESH_EPOCH_STATUS_LAST_STS = sts % 65536 :=
  ⟨(congrArg Loader.change (State.report_img ..)).trans change, s.fld_report_last _ _ _ _ sorted (by decide) (by decide)⟩

/-- A change past its limit becomes late, and is reported. -/
theorem State.routeLate_reports {s : State} {c : RouteChange} (sorted : Sparse.sorted s.regs = true)
    (change : s.img.change = some c) (early : c.late = false)
    (past : c.startAt + s.fld R.MESH_EPOCH_CFG_TIMEOUT_US * 1000 ≤ s.now) : ∃ (u : State) (detail : Nat),
    s.routeLate = u.routeReport 0x200E detail ∧ Sparse.sorted u.regs = true ∧
      u.img.change = some { c with late := true } := by
  unfold State.routeLate
  split
  · next missing => cases missing.symm.trans change
  · next d hd =>
    cases hd.symm.trans change
    rw [if_neg (by rw [early, not_or]; exact ⟨Bool.false_ne_true, Nat.not_lt.mpr past⟩)]
    extract_lets next noted
    split
    · exact ⟨noted, _, rfl, sorted, rfl⟩
    · exact ⟨noted.fresh.2, noted.fresh.1, rfl, sorted, rfl⟩

/-! ## The statement -/

/-- Settles O9: each command of a change is one step of it, and a field reads what that step sets it to. -/
theorem routeSetCommands : Obligations.RouteSetCommands := by
  unfold Obligations.RouteSetCommands
  refine ⟨?_, ?_, ?_, ?_, ?_⟩
  · rintro value s ⟨-, -, sorted⟩ - ⟨served, go, declared, free, idle⟩
    exact ⟨_, exec_routeSetChange_served value served, State.writeRouteset_begins sorted go declared free idle⟩
  · rintro inflight s ⟨-, -, sorted⟩ - waits
    obtain ⟨c, change, hc⟩ := (Option.any_eq_true _ _).mp waits
    obtain ⟨⟨held, flipped⟩, epoch⟩ := State.epochFlip_flips inflight sorted change (by simpa using hc)
    exact ⟨s.epochFlip inflight, rfl, by rw [flipped]; simp, epoch⟩
  · rintro route s - - ⟨waits, clear⟩
    obtain ⟨c, change, held⟩ := (Option.any_eq_true _ _).mp waits
    exact ⟨s.routeFree route, rfl, by simp [State.routeFree_releases change held clear]⟩
  · rintro s ⟨-, -, sorted⟩ - ⟨ends, tags⟩
    obtain ⟨c, change, hc⟩ := (Option.any_eq_true _ _).mp ends
    obtain ⟨flipped, free⟩ := Bool.and_eq_true_iff.mp hc
    rw [change]
    exact ⟨_, rfl, State.routeDone_completes sorted change flipped (List.isEmpty_iff.mp free) tags⟩
  · rintro s ⟨-, -, sorted⟩ - due
    obtain ⟨c, change, hc⟩ := (Option.any_eq_true _ _).mp due
    obtain ⟨early, past⟩ := Bool.and_eq_true_iff.mp hc
    obtain ⟨u, detail, told, sortedU, late⟩ :=
      State.routeLate_reports sorted change (by simpa using early) (of_decide_eq_true past)
    obtain ⟨kept, status⟩ := State.routeReport_tells 0x200E detail sortedU late
    exact ⟨u.routeReport 0x200E detail, congrArg Host.Outcome.next told, by rw [kept]; rfl, status⟩

end Sys2Proof.Machine
end

section
/-! PROOFS. Scope, images: what a load, a commit, an unload, a store and a key record leave in the loader and its registers, and
the reset of the host interface by a lost link (R213 to R217, R228, R664). -/

set_option Elab.async false

namespace Sys2Proof.Machine

/-! ## The loader's state through the operations of other units -/

@[simp] theorem State.imgState_img (s : State) (st : Nat) : (s.imgState st).img = s.img :=
  (State.imgState_touches ..).same .img (by decide)
@[simp] theorem State.imgBusy_img (s : State) : s.imgBusy.img = s.img := (State.imgBusy_touches ..).same .img (by decide)
@[simp] theorem State.imgReport_img (s : State) (sts detail : Nat) : (s.imgReport sts detail).img = s.img :=
  (State.imgReport_touches ..).same .img (by decide)
@[simp] theorem State.imgFail_img (s : State) (f : ImgFail) : (s.imgFail f).img = s.img :=
  (State.imgFail_touches ..).same .img (by decide)
@[simp] theorem State.dataCopy_img (s : State) (im : Image) : (s.dataCopy im).img = s.img :=
  (State.dataCopy_touches ..).same .img (by decide)
@[simp] theorem State.slotRegs_img (s : State) : s.slotRegs.img = s.img :=
  (State.slotRegs_touches ..).same .img (by decide)
@[simp] theorem State.keyRegs_img (s : State) : s.keyRegs.img = s.img := (State.keyRegs_touches ..).same .img (by decide)
@[simp] theorem State.flashAsk_img (s : State) (object value : Nat) : (s.flashAsk object value).img = s.img :=
  (State.flashAsk_touches ..).same .img (by decide)
@[simp] theorem State.flashDone_img (s : State) : s.flashDone.img = s.img :=
  (State.flashDone_touches ..).same .img (by decide)
@[simp] theorem State.stageStore_img (s : State) (object copy seq : Nat) (mark : List Byte) :
    (s.stageStore object copy seq mark).img = s.img := (State.stageStore_touches ..).same .img (by decide)
@[simp] theorem State.stageDigests_img (s : State) : s.stageDigests.img = s.img :=
  (State.stageDigests_touches ..).same .img (by decide)
@[simp] theorem State.gatesSet_img (s : State) (gates : List GateRec) : (s.gatesSet gates).img = s.img :=
  (State.gatesSet_touches ..).same .img (by decide)
@[simp] theorem State.cellsSet_img (s : State) (syncs : List SyncRec) : (s.cellsSet syncs).img = s.img :=
  (State.cellsSet_touches ..).same .img (by decide)
@[simp] theorem State.gillsSet_img (s : State) (parts : List PartRec) : (s.gillsSet parts).img = s.img :=
  (State.gillsSet_touches ..).same .img (by decide)
@[simp] theorem State.queuesSet_img (s : State) (qs : List QueueRec) (ps : List PartRec) : (s.queuesSet qs ps).img = s.img :=
  (State.queuesSet_touches ..).same .img (by decide)
@[simp] theorem State.camsSet_img (s : State) (cams : List CamRec) (isps : List IspRec) : (s.camsSet cams isps).img = s.img :=
  (State.camsSet_touches ..).same .img (by decide)
@[simp] theorem State.pfxClear_img (s : State) : s.pfxClear.img = s.img := (State.pfxClear_touches ..).same .img (by decide)
@[simp] theorem State.unitsSet_img (s : State) (im : Image) : (s.unitsSet im).img = s.img :=
  (State.unitsSet_touches ..).same .img (by decide)
@[simp] theorem State.portsSwitch_img (s : State) (old : List (Nat × List Nat × Nat)) : (s.portsSwitch old).img = s.img :=
  (State.portsSwitch_touches ..).same .img (by decide)
@[simp] theorem State.ringRole_img (s : State) (r : Option RingRec) : (s.ringRole r).img = s.img :=
  (State.ringRole_touches ..).same .img (by decide)

@[simp] theorem State.setWords8_img (s : State) (r : Nat → Fld) (b : List Byte) : (s.setWords8 r b).img = s.img := by
  unfold State.setWords8
  exact List.foldlRecOn (motive := fun t : State => t.img = s.img) _ _ rfl fun _ h _ _ => h

/-! ## Fields through the loader's operations -/

/-- A register below a row or beyond it is none of it. -/
theorem ne_regOff {base stride cnt off : Nat}
    (h : off < base ∨ 0 < stride ∧ base + stride * cnt ≤ off ∧ off < 0x1000000) (k : Nat) : off ≠ regOff base stride cnt k := by
  unfold regOff
  split
  · next hk =>
    rcases h with low | ⟨pos, high, -⟩
    · omega
    · have bound : stride * k < stride * cnt := Nat.mul_lt_mul_of_pos_left hk pos
      omega
  · omega

theorem KeepsFld.setWords8 {g : Fld} {a b : State} {r : Nat → Fld} (l : List Byte) (h : KeepsFld g a b)
    (e : ∀ k, g.reg.off ≠ (r k).reg.off) : KeepsFld g a (b.setWords8 r l) :=
  .foldl (fun t k => KeepsFld.wr _ _ (.refl g t) (e k)) h

theorem KeepsFld.imgState {g : Fld} {a b : State} (st : Nat) (h : KeepsFld g a b)
    (e : R.BOOT_IMG_STATUS_STATE.Apart g := by decide) (k : g.reg.off ∉ reportRegs := by decide) :
    KeepsFld g a (b.imgState st) := by
  unfold State.imgState
  exact .ite (h.setF st e) ((h.setF st e).pend 5 k)

/-- After the state is put, only an interrupt may follow. -/
theorem State.imgState_puts (s : State) (st : Nat) :
    KeepsFld R.BOOT_IMG_STATUS_STATE (s.setF R.BOOT_IMG_STATUS_STATE st) (s.imgState st) := by
  unfold State.imgState
  exact .ite (.refl _ _) ((KeepsFld.refl _ _).pend 5)

theorem KeepsFld.imgBusy {g : Fld} {a b : State} (h : KeepsFld g a b) (e : R.BOOT_IMG_STATUS_BUSY.Apart g := by decide) :
    KeepsFld g a b.imgBusy := h.setB _ e

theorem State.fld_imgBusy {s : State} (sorted : Sparse.sorted s.regs = true)
    (h : s.img.storing.isSome = true ∨ s.img.keyNew.isSome = true) : s.imgBusy.fld R.BOOT_IMG_STATUS_BUSY = 1 := by
  have busy : (s.fld R.BOOT_IMG_STATUS_STATE % 2 == 1 || s.img.storing.isSome || s.img.keyNew.isSome) = true := by
    rcases h with h | h <;> simp [h]
  refine (State.fld_of_setF (KeepsFld.refl _ _) sorted).trans ?_
  rw [busy]
  decide

theorem KeepsFld.imgReport {g : Fld} {a b : State} (sts detail : Nat) (h : KeepsFld g a b)
    (d : R.BOOT_IMG_DETAIL_DETAIL.Apart g := by decide) (e : R.BOOT_IMG_STATUS_LAST_STS.Apart g := by decide)
    (k : g.reg.off ∉ reportRegs := by decide) : KeepsFld g a (b.imgReport sts detail) :=
  (h.setF detail d).report sts detail 0 e k

theorem State.fld_imgReport {s : State} (sts detail : Nat) (sorted : Sparse.sorted s.regs = true) :
    (s.imgReport sts detail).fld R.BOOT_IMG_STATUS_LAST_STS = sts % 65536 :=
  State.fld_report_last _ _ _ _ _ (s.sorted_setF _ _ sorted) (by decide) (by decide)

/-- A stage that fails changes no state of the loader. -/
theorem State.imgFail_keeps (s : State) (f : ImgFail) : KeepsFld R.BOOT_IMG_STATUS_STATE s (s.imgFail f) :=
  ((((KeepsFld.refl _ s).setF f.stage).setF f.sect).setF f.recd).imgReport f.sts f.detail

/-- A stage that fails is reported with its status. -/
theorem State.fld_imgFail {s : State} (f : ImgFail) (sorted : Sparse.sorted s.regs = true) :
    (s.imgFail f).fld R.BOOT_IMG_STATUS_LAST_STS = f.sts % 65536 :=
  State.fld_imgReport _ _ (State.sorted_setF _ _ _ (State.sorted_setF _ _ _ (State.sorted_setF _ _ _ sorted)))

theorem KeepsFld.stageDigests {g : Fld} {a b : State} (h : KeepsFld g a b) (e : g.reg.off ∉ reportRegs := by decide) :
    KeepsFld g a b.stageDigests := h.trans ((RegsOnly.stage _ _ _ _ _).keepsFld e)

/-! ## Results of the checks -/

theorem eq_ok_of_toOption {α : Type} {x : Except ImgFail α} {a : α} (h : x.toOption = some a) : x = .ok a := by
  cases x with
  | error f => cases h
  | ok b => cases h; rfl

theorem eq_error_of_failOf {α : Type} {x : Except ImgFail α} {f : ImgFail} (h : failOf x = some f) : x = .error f := by
  cases x with
  | error e => cases h; rfl
  | ok b => cases h

/-! ## The commands that write BOOT_IMG_CTRL -/

/-- The values that the four commands write: SRC, and one action's bit. -/
theorem imgCtrl_value : ∀ k < 4, ∀ n < 4, R.BOOT_IMG_CTRL_SRC.of (k * 16 + 2 ^ n) = k ∧
    ∀ m < 4, (k * 16 + 2 ^ n).testBit m = decide (m = n) := by decide

/-- The action whose bit is set is performed, after SRC has been written. -/
theorem State.writeImgCtrl_action (s : State) (src n : Nat) (hn : n < 4) : s.writeImgCtrl (src % 4 * 16 + 2 ^ n) =
    if n = 0 then (s.setF R.BOOT_IMG_CTRL_SRC (src % 4)).imgLoad (src % 4)
    else if n = 1 then (s.setF R.BOOT_IMG_CTRL_SRC (src % 4)).imgUnload
    else if n = 2 then (s.setF R.BOOT_IMG_CTRL_SRC (src % 4)).imgStore
    else (s.setF R.BOOT_IMG_CTRL_SRC (src % 4)).keyRecord := by
  obtain ⟨hsrc, hbit⟩ := imgCtrl_value (src % 4) (Nat.mod_lt _ (by decide)) n hn
  unfold State.writeImgCtrl
  simp only [hsrc, hbit 0 (by decide), hbit 1 (by decide), hbit 2 (by decide), hbit 3 (by decide), decide_eq_true_eq,
    eq_comm (b := n)]
  have last : n ≠ 0 → n ≠ 1 → n ≠ 2 → n = 3 := by omega
  split
  · rfl
  · split
    · rfl
    · split
      · rfl
      · next h0 h1 h2 => rw [if_pos (last h0 h1 h2)]

theorem exec_load_served {s : State} (src : Nat) (h : s.served R.BOOT_IMG_CTRL.off = true) :
    exec (.load src) s = .next ((s.setF R.BOOT_IMG_CTRL_SRC (src % 4)).imgLoad (src % 4)) :=
  congrArg Host.Outcome.next ((s.regWrite_served R.BOOT_IMG_CTRL _ _ h).trans (s.writeImgCtrl_action src 0 (by decide)))

theorem exec_unload_served {s : State} (src : Nat) (h : s.served R.BOOT_IMG_CTRL.off = true) :
    exec (.unload src) s = .next (s.setF R.BOOT_IMG_CTRL_SRC (src % 4)).imgUnload :=
  congrArg Host.Outcome.next ((s.regWrite_served R.BOOT_IMG_CTRL _ _ h).trans (s.writeImgCtrl_action src 1 (by decide)))

theorem exec_store_served {s : State} (src : Nat) (h : s.served R.BOOT_IMG_CTRL.off = true) :
    exec (.store src) s = .next (s.setF R.BOOT_IMG_CTRL_SRC (src % 4)).imgStore :=
  congrArg Host.Outcome.next ((s.regWrite_served R.BOOT_IMG_CTRL _ _ h).trans (s.writeImgCtrl_action src 2 (by decide)))

theorem exec_keyrec_served {s : State} (src : Nat) (h : s.served R.BOOT_IMG_CTRL.off = true) :
    exec (.keyrec src) s = .next (s.setF R.BOOT_IMG_CTRL_SRC (src % 4)).keyRecord :=
  congrArg Host.Outcome.next ((s.regWrite_served R.BOOT_IMG_CTRL _ _ h).trans (s.writeImgCtrl_action src 3 (by decide)))

/-! ## Loading -/

/-- The loader with the moment of its load noted: the state in which the stages check. -/
def State.loadNoted (s : State) : State := { s with img := { s.img with loadAt := s.now } }

/-- An image that passes every stage waits in the shadow for its commit. -/
theorem State.imgLoad_passes {s : State} {src : Nat} {im : Image} (sorted : Sparse.sorted s.regs = true)
    (idle : s.fld R.BOOT_IMG_STATUS_STATE = 0) (passes : (s.loadNoted.imgStages src).toOption = some im) :
    (s.imgLoad src).img.shadow = some im ∧ (s.imgLoad src).fld R.BOOT_IMG_STATUS_STAGE = 9 ∧
      (s.imgLoad src).fld R.BOOT_IMG_STATUS_STATE = 1 ∧ (s.imgLoad src).img.active = s.img.active := by
  have good := eq_ok_of_toOption passes
  unfold State.loadNoted at good
  unfold State.imgLoad
  rw [if_neg (not_not_intro idle)]
  dsimp only
  rw [good]
  dsimp only
  generalize hu : State.dataCopy _ im = u
  have sortedU : Sparse.sorted u.regs = true := hu ▸ (State.dataCopy_touches ..).regs sorted
  have loader : u.img = { s.img with loadAt := s.now, shadow := some im } := hu ▸ State.dataCopy_img ..
  refine ⟨by simp [loader], ?_, ?_, by simp [loader]⟩
  · exact State.fld_of_setF (((KeepsFld.refl _ _).imgState 1).imgBusy) sortedU
  · exact State.fld_of_setF (State.imgState_puts _ 1).imgBusy (State.sorted_setF _ _ _ sortedU)

/-- A failing image is reported, and nothing waits. -/
theorem State.imgLoad_fails {s : State} {src : Nat} {f : ImgFail} (sorted : Sparse.sorted s.regs = true)
    (idle : s.fld R.BOOT_IMG_STATUS_STATE = 0) (fails : failOf (s.loadNoted.imgStages src) = some f) :
    (s.imgLoad src).img.shadow = s.img.shadow ∧ (s.imgLoad src).fld R.BOOT_IMG_STATUS_STATE = 0 ∧
      (s.imgLoad src).fld R.BOOT_IMG_STATUS_LAST_STS = f.sts % 65536 := by
  have bad := eq_error_of_failOf fails
  have same : s.imgLoad src = s.loadNoted.imgFail f := by
    unfold State.imgLoad
    rw [if_neg (not_not_intro idle)]
    unfold State.loadNoted at bad ⊢
    dsimp only
    rw [bad]
  rw [same]
  refine ⟨by rw [State.imgFail_img]; rfl, ?_, State.fld_imgFail f sorted⟩
  exact ((State.imgFail_keeps s.loadNoted f).fld sorted).trans idle

/-! ## Commit and unload -/

/-- The two rows of digests, for a field of a register that stands beside them. -/
theorem KeepsFld.digests {g : Fld} {a b : State} (image run : List Byte) (h : KeepsFld g a b)
    (e : g.reg.off < 0x1140 ∨ 0x1160 ≤ g.reg.off := by decide) (k : 0x60 ≤ g.reg.off := by decide)
    (l : g.reg.off < 0x1000000 := by decide) :
    KeepsFld g a ((b.setWords8 R.BOOT_IMG_DIGEST_DIGEST image).setWords8 R.SYS_REPRO_DIGEST_DIGEST run) :=
  (h.setWords8 image (ne_regOff (e.imp_right fun x => ⟨by decide, x, l⟩))).setWords8 run
    (ne_regOff (.inr ⟨by decide, k, l⟩))

/-- The image of the shadow becomes the active one. -/
def State.imageTaken (s : State) (im : Image) : State :=
  { s with
    img := { s.img with active := some im, shadow := none }
    mmu := { s.mmu with remap := [], op := [] }
    sched.nextId := 1 }

/-- The registers that name the active image and its fingerprint. -/
def State.imageNamed (s : State) (im : Image) : State :=
  let s := (s.setF R.BOOT_IMG_ACTIVE_IMAGE_ID im.id).setF R.BOOT_IMG_REV_IMAGE_REV im.rev
  let s := s.setWords8 R.BOOT_IMG_DIGEST_DIGEST im.digest
  let s := s.setWords8 R.SYS_REPRO_DIGEST_DIGEST (sha256 s.fingerBytes)
  (s.wr R.SYS_REPRO_STATUS 0).setF R.SYS_REPRO_STATUS_R_MAP_PENDING (s.fld R.BOOT_FMAP_STATUS_MERGE_PENDING)

/-- Route set 0 comes into force, and every unit, port and ring side takes what the image gives it. -/
def State.unitsSwitched (s : State) (im : Image) (old : List (Nat × List Nat × Nat)) : State :=
  let s := ((s.setF R.MESH_ROUTESET_CURRENT 0).setF R.MBX_RSEQ_NEXT_RSEQ_NEXT 1).unitsSet im
  let s := (s.portsSwitch old).ringRole im.rings.head?
  s.setF R.BOOT_IMG_LOAD_MS_LOAD_MS (min ((s.now - s.img.loadAt) / 1000000) 65535)

/-- A commit is those steps, and then the loader's own registers. -/
theorem State.imgCommit_eq {s : State} {im : Image} (shadow : s.img.shadow = some im) : s.imgCommit =
    (((((s.imageTaken im).imageNamed im).unitsSwitched im s.portsNow).setF R.BOOT_IMG_STATUS_STAGE 10).imgState
      2).imgBusy.stageDigests := by
  unfold State.imgCommit
  split
  · next missing => cases missing.symm.trans shadow
  · next d hd => cases hd.symm.trans shadow; rfl

theorem State.imageNamed_keeps (s : State) (im : Image) : KeepsFld R.MESH_ROUTESET_CURRENT s (s.imageNamed im) := by
  have named := ((KeepsFld.refl R.MESH_ROUTESET_CURRENT s).setF (f := R.BOOT_IMG_ACTIVE_IMAGE_ID) im.id).setF
    (f := R.BOOT_IMG_REV_IMAGE_REV) im.rev
  exact ((named.digests _ _).wr _ _).setF _

theorem State.imageNamed_img (s : State) (im : Image) : (s.imageNamed im).img = s.img :=
  ((State.setF_img ..).trans (State.wr_img ..)).trans (((State.setWords8_img ..).trans (State.setWords8_img ..)).trans
    ((State.setF_img ..).trans (State.setF_img ..)))

/-- After the switch route set 0 is in force. -/
theorem State.unitsSwitched_keeps (s : State) (im : Image) (old : List (Nat × List Nat × Nat)) :
    KeepsFld R.MESH_ROUTESET_CURRENT (s.setF R.MESH_ROUTESET_CURRENT 0) (s.unitsSwitched im old) := by
  have start := (KeepsFld.refl R.MESH_ROUTESET_CURRENT (s.setF R.MESH_ROUTESET_CURRENT 0)).setF
    (f := R.MBX_RSEQ_NEXT_RSEQ_NEXT) 1
  have units := start.trans ((State.unitsSet_touches _ im).keepsFld _)
  have switched := (units.trans ((State.portsSwitch_touches _ old).keepsFld _)).trans
    ((State.ringRole_touches _ im.rings.head?).keepsFld _)
  exact switched.setF _

theorem State.unitsSwitched_img (s : State) (im : Image) (old : List (Nat × List Nat × Nat)) :
    (s.unitsSwitched im old).img = s.img :=
  ((State.setF_img ..).trans ((State.ringRole_img ..).trans (State.portsSwitch_img ..))).trans
    ((State.unitsSet_img ..).trans ((State.setF_img ..).trans (State.setF_img ..)))

/-- A commit makes the image of the shadow active, with route set 0 in force. -/
theorem State.imgCommit_activates {s : State} {im : Image} (sorted : Sparse.sorted s.regs = true)
    (shadow : s.img.shadow = some im) : s.imgCommit.img = { s.img with active := some im, shadow := none } ∧
      s.imgCommit.fld R.BOOT_IMG_STATUS_STATE = 2 ∧ s.imgCommit.fld R.BOOT_IMG_STATUS_STAGE = 10 ∧
      s.imgCommit.fld R.MESH_ROUTESET_CURRENT = 0 := by
  rw [State.imgCommit_eq shadow]
  have sortedN : Sparse.sorted ((s.imageTaken im).imageNamed im).regs = true := (State.imageNamed_keeps ..).sorted sorted
  have loader : ((s.imageTaken im).imageNamed im).img = { s.img with active := some im, shadow := none } :=
    State.imageNamed_img ..
  generalize (s.imageTaken im).imageNamed im = named at sortedN loader ⊢
  have current := named.unitsSwitched_keeps im s.portsNow
  have sortedU := current.sorted (named.sorted_setF _ _ sortedN)
  have same := named.unitsSwitched_img im s.portsNow
  generalize named.unitsSwitched im s.portsNow = u at current sortedU same ⊢
  refine ⟨?_, ?_, ?_, ?_⟩
  · rw [State.stageDigests_img, State.imgBusy_img, State.imgState_img, State.setF_img, same, loader]
  · exact State.fld_of_setF (State.imgState_puts _ 2).imgBusy.stageDigests (u.sorted_setF _ _ sortedU)
  · exact State.fld_of_setF ((KeepsFld.refl _ _).imgState 2).imgBusy.stageDigests sortedU
  · exact State.fld_of_setF ((current.setF 10).imgState 2).imgBusy.stageDigests sortedN

/-- Every DMA engine is aborted. -/
def State.dmaStopped (s : State) : State := (List.range 16).foldl (fun (s : State) (e : Nat) => s.dmaAbort e []) s

/-- The mailbox is disabled. -/
def State.mailboxStopped (s : State) : State := if s.bit R.MBX_CTRL_EN then s.mbxStop else s

/-- The registers that name an image are cleared. -/
def State.imageUnnamed (s : State) : State :=
  let s := (s.setF R.BOOT_IMG_ACTIVE_IMAGE_ID 0).setF R.BOOT_IMG_REV_IMAGE_REV 0
  (s.setWords8 R.BOOT_IMG_DIGEST_DIGEST []).setWords8 R.SYS_REPRO_DIGEST_DIGEST []

/-- Every unit, port and ring side loses what an image had given it. -/
def State.unitsCleared (s : State) (old : List (Nat × List Nat × Nat)) : State :=
  let s := ((((s.gatesSet []).cellsSet []).gillsSet []).queuesSet [] []).camsSet [] []
  (s.pfxClear.portsSwitch old).ringRole none

/-- An unload is those steps, and then the loader's own registers. -/
theorem State.imgUnload_eq {s : State} (ok : s.unloadOk = true) : s.imgUnload =
    (((s.dmaStopped.mailboxStopped.imgForget.imageUnnamed.unitsCleared s.portsNow).setF R.MESH_ROUTESET_CURRENT 0).imgState
      0).imgBusy := by
  unfold State.imgUnload
  rw [if_neg (by rw [ok]; decide)]
  rfl

theorem State.sorted_dmaStopped {s : State} (sorted : Sparse.sorted s.regs = true) :
    Sparse.sorted s.dmaStopped.regs = true := by
  unfold State.dmaStopped
  exact (Touches.foldl (fun t e h => h.trans (State.dmaAbort_touches t e [])) (Touches.refl _ s)).regs sorted

theorem State.sorted_mailboxStopped {s : State} (sorted : Sparse.sorted s.regs = true) :
    Sparse.sorted s.mailboxStopped.regs = true := by
  unfold State.mailboxStopped
  split
  · exact (State.mbxStop_touches ..).regs sorted
  · exact sorted

theorem State.imgForget_active (s : State) : s.imgForget.img.active = none := rfl

/-- A write of SRC does not decide whether an unload may go on. -/
theorem State.unloadOk_setSrc (s : State) (src : Nat) (sorted : Sparse.sorted s.regs = true) :
    (s.setF R.BOOT_IMG_CTRL_SRC src).unloadOk = s.unloadOk := by
  have kept (g : Fld) (e : R.BOOT_IMG_CTRL_SRC.Apart g) : KeepsFld g s (s.setF R.BOOT_IMG_CTRL_SRC src) :=
    (KeepsFld.refl g s).setF src e
  unfold State.unloadOk
  rw [(kept R.BOOT_IMG_STATUS_STATE (by decide)).fld sorted, (kept R.MESH_ROUTESET_BUSY (by decide)).bit sorted,
    (kept R.MOT_TRK_ACTIVE_ACTIVE (by decide)).fld sorted, (kept R.EJ_LSTOP_RUN (by decide)).bit sorted, State.setF_sched]

theorem State.imageUnnamed_keeps (s : State) :
    KeepsFld R.BOOT_IMG_ACTIVE_IMAGE_ID (s.setF R.BOOT_IMG_ACTIVE_IMAGE_ID 0) s.imageUnnamed :=
  ((KeepsFld.refl _ _).setF 0).digests _ _

theorem State.imageUnnamed_img (s : State) : s.imageUnnamed.img = s.img :=
  ((State.setWords8_img ..).trans (State.setWords8_img ..)).trans ((State.setF_img ..).trans (State.setF_img ..))

theorem State.unitsCleared_keeps (s : State) (old : List (Nat × List Nat × Nat)) :
    KeepsFld R.BOOT_IMG_ACTIVE_IMAGE_ID s (s.unitsCleared old) := by
  have tables := ((State.gatesSet_touches s []).keepsFld R.BOOT_IMG_ACTIVE_IMAGE_ID).trans
    ((State.cellsSet_touches _ []).keepsFld _)
  have queues := (tables.trans ((State.gillsSet_touches _ []).keepsFld _)).trans ((State.queuesSet_touches _ [] []).keepsFld _)
  have cams := (queues.trans ((State.camsSet_touches _ [] []).keepsFld _)).trans ((State.pfxClear_touches _).keepsFld _)
  exact (cams.trans ((State.portsSwitch_touches _ old).keepsFld _)).trans ((State.ringRole_touches _ none).keepsFld _)

theorem State.unitsCleared_img (s : State) (old : List (Nat × List Nat × Nat)) : (s.unitsCleared old).img = s.img := by
  unfold State.unitsCleared
  simp only [State.ringRole_img, State.portsSwitch_img, State.pfxClear_img, State.camsSet_img, State.queuesSet_img,
    State.gillsSet_img, State.cellsSet_img, State.gatesSet_img]

/-- After an unload no image is active. -/
theorem State.imgUnload_clears {s : State} (sorted : Sparse.sorted s.regs = true) (ok : s.unloadOk = true) :
    s.imgUnload.img.active = none ∧ s.imgUnload.fld R.BOOT_IMG_STATUS_STATE = 0 ∧
      s.imgUnload.fld R.BOOT_IMG_ACTIVE_IMAGE_ID = 0 := by
  rw [State.imgUnload_eq ok]
  have sortedF := (State.imgForget_touches _).regs (State.sorted_mailboxStopped (State.sorted_dmaStopped sorted))
  have forgot := s.dmaStopped.mailboxStopped.imgForget_active
  generalize s.dmaStopped.mailboxStopped.imgForget = forgotten at sortedF forgot ⊢
  have cleared := forgotten.imageUnnamed_keeps.trans (forgotten.imageUnnamed.unitsCleared_keeps s.portsNow)
  have sortedC := cleared.sorted (forgotten.sorted_setF _ _ sortedF)
  have same := (forgotten.imageUnnamed.unitsCleared_img s.portsNow).trans forgotten.imageUnnamed_img
  generalize forgotten.imageUnnamed.unitsCleared s.portsNow = u at cleared sortedC same ⊢
  refine ⟨?_, ?_, ?_⟩
  · rw [State.imgBusy_img, State.imgState_img, State.setF_img, same, forgot]
  · exact State.fld_of_setF (State.imgState_puts _ 0).imgBusy (u.sorted_setF _ _ sortedC)
  · exact State.fld_of_setF ((cleared.setF 0).imgState 0).imgBusy sortedF

/-! ## Writes of the flash -/

/-- The write of the only request leaves the flash without one. -/
theorem State.flashDone_last {s : State} (one : s.jrn.reqs.length = 1) : s.flashDone.jrn.reqs = [] := by
  have last : s.jrn.reqs.tail = [] := by
    obtain ⟨r, hr⟩ := List.length_eq_one_iff.mp one
    rw [hr]; rfl
  unfold State.flashDone
  extract_lets -merge +onlyGivenNames resumed
  have same : resumed.jrn.reqs = s.jrn.reqs := by
    unfold resumed
    split <;> rfl
  clear_value resumed
  extract_lets -merge +onlyGivenNames src
  extract_lets -merge +onlyGivenNames done
  have none_left : done.jrn.reqs = [] := (congrArg List.tail same).trans last
  rw [none_left]
  exact none_left

/-- A slot holds an image, and none is being stored. -/
def State.slotWritten (s : State) (k seq : Nat) (b : List Byte) : State :=
  { s with img := { s.img with storing := none, slots := s.img.slots.set k ⟨true, seq, b⟩ } }

theorem State.storeDone_eq {s : State} {k seq : Nat} {b : List Byte} (storing : s.img.storing = some (k, seq, b))
    (ready : s.flashReady 6 = true) :
    s.storeDone = (s.slotWritten k seq b).flashDone.slotRegs.imgBusy.stageStore 6 k seq (sha256 b) := by
  unfold State.storeDone
  split
  · next missing => cases missing.symm.trans storing
  · next k' seq' b' h =>
    cases h.symm.trans storing
    rw [if_pos ready]
    rfl

/-- The keys, their minimum and the record's sequence are in force, and no record waits. -/
def State.keysWritten (s : State) (keys : List (Option (List Byte))) (min seq : Nat) : State :=
  { s with img := { s.img with keyNew := none, keys := keys, minSec := min, keySeq := seq } }

theorem State.keyDone_eq {s : State} {keys : List (Option (List Byte))} {min seq : Nat}
    (waiting : s.img.keyNew = some (keys, min, seq)) (ready : s.flashReady 3 = true) :
    s.keyDone = (s.keysWritten keys min seq).flashDone.keyRegs.imgBusy.stageStore 3 1 seq (leBytes 4 seq) := by
  unfold State.keyDone
  split
  · next missing => cases missing.symm.trans waiting
  · next keys' min' seq' h =>
    cases h.symm.trans waiting
    rw [if_pos ready]
    rfl

/-- The end of the write of a slot: the slot holds the image, and the flash has no request left. -/
theorem State.storeDone_writes {s : State} {k seq : Nat} {b : List Byte} (storing : s.img.storing = some (k, seq, b))
    (ready : s.flashReady 6 = true) (one : s.jrn.reqs.length = 1) :
    s.storeDone.img = (s.slotWritten k seq b).img ∧ s.storeDone.jrn.reqs = [] := by
  rw [State.storeDone_eq storing ready]
  have done : (s.slotWritten k seq b).flashDone.jrn.reqs = [] := State.flashDone_last one
  have slots (t : State) : KeepsReqs t t.slotRegs.imgBusy := (KeepsReqs.of_jrn
    ((State.slotRegs_touches t).same .jrn (by decide))).trans (.of_jrn ((State.imgBusy_touches _).same .jrn (by decide)))
  exact ⟨by simp only [State.stageStore_img, State.imgBusy_img, State.slotRegs_img, State.flashDone_img],
    ((slots _).trans (State.stage_keepsReqs ..)).reqs.trans done⟩

/-- The end of the write of a key table: the table is in force, and the flash has no request left. -/
theorem State.keyDone_writes {s : State} {keys : List (Option (List Byte))} {min seq : Nat}
    (waiting : s.img.keyNew = some (keys, min, seq)) (ready : s.flashReady 3 = true) (one : s.jrn.reqs.length = 1) :
    s.keyDone.img = (s.keysWritten keys min seq).img ∧ s.keyDone.jrn.reqs = [] := by
  rw [State.keyDone_eq waiting ready]
  have done : (s.keysWritten keys min seq).flashDone.jrn.reqs = [] := State.flashDone_last one
  have table (t : State) : KeepsReqs t t.keyRegs.imgBusy := (KeepsReqs.of_jrn
    ((State.keyRegs_touches t).same .jrn (by decide))).trans (.of_jrn ((State.imgBusy_touches _).same .jrn (by decide)))
  exact ⟨by simp only [State.stageStore_img, State.imgBusy_img, State.keyRegs_img, State.flashDone_img],
    ((table _).trans (State.stage_keepsReqs ..)).reqs.trans done⟩

/-! ## Store and key records -/

/-- The slot that a store writes: the one that is not the newest valid one. -/
def State.storeSlot (s : State) : Nat := if s.fld R.BOOT_IMG_SLOTS_VALID = 0 ∨ s.bit R.BOOT_IMG_SLOTS_NEWEST then 0 else 1

/-- An image is being stored in a slot, which is not valid until the end of its write. -/
def State.storeBegun (s : State) (b : List Byte) : State :=
  { s with img := { s.img with
      storing := some (s.storeSlot, (s.img.slots.getD (1 - s.storeSlot) {}).seq + 1, b)
      slots := s.img.slots.set s.storeSlot { s.img.slots.getD s.storeSlot {} with valid := false } } }

theorem State.imgStore_eq {s : State} {b : List Byte} {im : Image} (free : s.img.storing = none)
    (copy : (s.imgCopy 2).toOption = some b) (front : (s.checkFront b).toOption = some im) :
    s.imgStore = ((s.storeBegun (b.take im.total)).flashAsk 6).slotRegs.imgBusy := by
  unfold State.imgStore
  rw [if_neg (by rw [free]; decide)]
  split
  · next f h => cases h.symm.trans (eq_ok_of_toOption copy)
  · next b' h =>
    cases h.symm.trans (eq_ok_of_toOption copy)
    split
    · next f h => cases h.symm.trans (eq_ok_of_toOption front)
    · next im' h => cases h.symm.trans (eq_ok_of_toOption front); rfl

/-- An image that passes the first stages is being stored. -/
theorem State.imgStore_begins {s : State} {b : List Byte} {im : Image} (sorted : Sparse.sorted s.regs = true)
    (free : s.img.storing = none) (copy : (s.imgCopy 2).toOption = some b) (front : (s.checkFront b).toOption = some im) :
    s.imgStore.img.storing.map (·.2.2) = some (b.take im.total) ∧ s.imgStore.fld R.BOOT_IMG_STATUS_BUSY = 1 ∧
      s.imgStore.img.active = s.img.active := by
  rw [State.imgStore_eq free copy front]
  have asked (t : State) : (t.flashAsk 6).slotRegs.img = t.img := (State.slotRegs_img _).trans (State.flashAsk_img ..)
  have sortedA (t : State) (h : Sparse.sorted t.regs = true) : Sparse.sorted (t.flashAsk 6).slotRegs.regs = true :=
    (State.slotRegs_touches ..).regs ((State.flashAsk_touches ..).regs h)
  refine ⟨?_, State.fld_imgBusy (sortedA _ sorted) (.inl (by rw [asked]; rfl)), ?_⟩
  · rw [State.imgBusy_img, asked]; rfl
  · rw [State.imgBusy_img, asked]; rfl

/-- A store that fails a stage is reported, and nothing is stored. -/
theorem State.imgStore_fails {s : State} {f : ImgFail} (sorted : Sparse.sorted s.regs = true) (free : s.img.storing = none)
    (fails : failOf (s.imgCopy 2) = some f ∨ ∃ b, (s.imgCopy 2).toOption = some b ∧ failOf (s.checkFront b) = some f) :
    s.imgStore.fld R.BOOT_IMG_STATUS_LAST_STS = f.sts % 65536 ∧ s.imgStore.img.storing = none := by
  have same : s.imgStore = s.imgFail f := by
    unfold State.imgStore
    rw [if_neg (by rw [free]; decide)]
    rcases fails with copy | ⟨b, copy, front⟩
    · rw [eq_error_of_failOf copy]
    · rw [eq_ok_of_toOption copy]
      dsimp only
      rw [eq_error_of_failOf front]
  rw [same, State.imgFail_img]
  exact ⟨State.fld_imgFail f sorted, free⟩

/-- A key record that fails a condition is reported, and the keys stay. -/
theorem State.keyRecord_fails {s : State} (sorted : Sparse.sorted s.regs = true) (free : s.img.keyNew = none)
    (bad : s.keyBad (s.imgMem.getD []) ≠ 0) :
    s.keyRecord.fld R.BOOT_IMG_STATUS_LAST_STS = 0x200F ∧ s.keyRecord.img = s.img := by
  have same : s.keyRecord = s.imgReport 0x200F (s.keyBad (s.imgMem.getD [])) := by
    unfold State.keyRecord
    rw [if_neg (by rw [free]; decide)]
    exact if_pos bad
  rw [same]
  exact ⟨State.fld_imgReport _ _ sorted, State.imgReport_img ..⟩

/-- The keys and the minimum that a key record asks for. -/
def State.keysAsked (s : State) (b : List Byte) : List (Option (List Byte)) × Nat :=
  (if leAt b 4 1 = 1 then s.img.keys.set (leAt b 5 1) (some (slice b 16 32))
    else if leAt b 4 1 = 2 then s.img.keys.set (leAt b 5 1) none else s.img.keys,
   if leAt b 4 1 = 3 then leAt b 12 4 else s.img.minSec)

/-- A key record waits for its write. -/
def State.keyBegun (s : State) (b : List Byte) : State :=
  { s with img := { s.img with keyNew := some ((s.keysAsked b).1, (s.keysAsked b).2, leAt b 8 4) } }

theorem State.keyRecord_eq {s : State} {b : List Byte} (free : s.img.keyNew = none) (record : s.imgMem = some b)
    (good : s.keyBad b = 0) : s.keyRecord = ((s.keyBegun b).flashAsk 3).imgBusy := by
  unfold State.keyRecord
  rw [if_neg (by rw [free]; decide), record]
  exact if_neg (not_not_intro good)

/-- A good key record waits for its write. -/
theorem State.keyRecord_begins {s : State} {b : List Byte} (sorted : Sparse.sorted s.regs = true) (free : s.img.keyNew = none)
    (record : s.imgMem = some b) (good : s.keyBad b = 0) :
    s.keyRecord.img.keyNew.map (fun x => x.2.2) = some (leAt b 8 4) ∧ s.keyRecord.img.keys = s.img.keys ∧
      s.keyRecord.fld R.BOOT_IMG_STATUS_BUSY = 1 := by
  rw [State.keyRecord_eq free record good]
  have sortedA (t : State) (h : Sparse.sorted t.regs = true) : Sparse.sorted (t.flashAsk 3).regs = true :=
    (State.flashAsk_touches ..).regs h
  refine ⟨?_, ?_, State.fld_imgBusy (sortedA _ sorted) (.inr (by rw [State.flashAsk_img]; rfl))⟩
  · rw [State.imgBusy_img, State.flashAsk_img]; rfl
  · rw [State.imgBusy_img, State.flashAsk_img]; rfl

/-! ## The reset of the host interface -/

/-- A posted write that is discarded leaves BME and the size of BAR0 alone. -/
theorem State.hwDiscard_keeps (s : State) (cause : Nat) :
    KeepsFld R.MBX_HSTATUS_BME s (s.hwDiscard cause) ∧ (s.hwDiscard cause).mbx.barLog2 = s.mbx.barLog2 := by
  have faulted (t : State) : KeepsFld R.MBX_HSTATUS_BME t (t.hwinFault cause) := by
    have counted := (KeepsFld.refl R.MBX_HSTATUS_BME t).inc (f := R.MBX_CNT_HWIN_FAULT_COUNT) 1
    exact counted.reportLimited _ _ _ _ _
  have apart (t : State) : (t.hwinFault cause).mbx = t.mbx := (State.hwinFault_touches ..).same .mbx (by decide)
  have failed (t : State) (src pa : Nat) : (t.txFail 3 src 7 pa pa 1 0).mbx = t.mbx :=
    (State.txFail_touches ..).same .mbx (by decide)
  unfold State.hwDiscard
  split
  · next w l hw =>
    have taken : KeepsFld R.MBX_HSTATUS_BME s { s with mbx.hwPosted := l } := .of_eq rfl
    exact ⟨(taken.trans (faulted _)).trans ((State.txFail_touches ..).keepsFld _), by rw [failed, apart]⟩
  · exact ⟨.refl _ _, rfl⟩

/-- The function is as after its reset: BAR0 has its smallest size, no message is sent, and no read waits. -/
def State.functionReset (s : State) : State :=
  { s with
    mbx.mse := false, mbx.barLog2 := 32, mbx.barNext := none, mbx.msixEn := false, mbx.msixMask := false
    bus.held := s.bus.held.filter (·.write) }

/-- The registers of the messages and of the link are cleared. -/
def State.hostCleared (s : State) : State :=
  ((((s.clearRegs 0xA2000 0xA2400).clearRegs 0xA3000 0xA3008).clearRegs 0xA0410 0xA0418).setF R.MBX_IRQ_PEND_PEND 0).setB
    R.MBX_HSTATUS_D3 false

/-- The host may no longer be addressed. -/
def State.hostClosed (s : State) : State :=
  ((s.setB R.MBX_HSTATUS_BME false).setB R.MBX_WQ_CTRL_EN false).setB R.MBX_HWIN_CTRL_EN false

/-- Every posted write is discarded. -/
def State.postsDropped (s : State) : State := s.mbx.hwPosted.foldl (fun (s : State) _ => s.hwDiscard 1) s

/-- The link reads as down. -/
def State.linkCleared (s : State) : State := ((s.setF R.MBX_LINK_UP 0).setF R.MBX_LINK_SPEED 0).setF R.MBX_LINK_WIDTH 0

/-- The link trains again by itself where it is so configured. -/
def State.linkRetried (s : State) : State := if s.bit R.MBX_CFG_LINK_AUTO then { s with mbx.autoLink := true } else s

/-- A reset by a lost link is those steps, and then its report. -/
theorem State.hostReset_eq (s : State) (sts detail : Nat) : s.hostReset sts detail true =
    (s.hostCleared.hostClosed.functionReset.postsDropped.linkCleared.linkRetried.inc R.MBX_CNT_RESETS_COUNT).report
      R.MBX_HSTATUS_LAST_STS sts detail := rfl

theorem State.sorted_hostCleared {s : State} (sorted : Sparse.sorted s.regs = true) : Sparse.sorted s.hostCleared.regs = true := by
  have cleared (t : State) (lo hi : Nat) (h : Sparse.sorted t.regs = true) : Sparse.sorted (t.clearRegs lo hi).regs = true :=
    Sparse.sorted_filter _ _ h
  exact State.sorted_setB _ _ _ (State.sorted_setF _ _ _ (cleared _ _ _ (cleared _ _ _ (cleared s _ _ sorted))))

theorem State.hostClosed_keeps (s : State) : KeepsFld R.MBX_HSTATUS_BME (s.setF R.MBX_HSTATUS_BME 0) s.hostClosed :=
  ((KeepsFld.refl _ _).setB false).setB false

theorem KeepsFld.functionReset {g : Fld} {a b : State} (h : KeepsFld g a b) : KeepsFld g a b.functionReset :=
  ⟨h.sorted, h.fld⟩

theorem State.functionReset_barLog2 (s : State) : s.functionReset.mbx.barLog2 = 32 := rfl

theorem State.postsDropped_keeps (s : State) :
    KeepsFld R.MBX_HSTATUS_BME s s.postsDropped ∧ s.postsDropped.mbx.barLog2 = s.mbx.barLog2 :=
  ⟨.foldl (fun t _ => (t.hwDiscard_keeps 1).1) (.refl _ _),
    List.foldlRecOn (motive := fun t : State => t.mbx.barLog2 = s.mbx.barLog2) _ _ rfl fun t h _ _ =>
      (t.hwDiscard_keeps 1).2.trans h⟩

theorem State.linkCleared_barLog2 (s : State) : s.linkCleared.mbx.barLog2 = s.mbx.barLog2 := rfl

theorem KeepsFld.linkRetried {g : Fld} {a b : State} (h : KeepsFld g a b) : KeepsFld g a b.linkRetried :=
  .ite (h.trans (.of_eq rfl)) h

theorem State.linkRetried_barLog2 (s : State) : s.linkRetried.mbx.barLog2 = s.mbx.barLog2 := by
  unfold State.linkRetried
  split <;> rfl

/-- The host interface after its link is lost: the link is down, the host may not be addressed, BAR0 has its smallest size, and
the status is reported. -/
theorem State.hostReset_linkLost {s : State} (sts detail : Nat) (sorted : Sparse.sorted s.regs = true) :
    (s.hostReset sts detail true).fld R.MBX_LINK_UP = 0 ∧ (s.hostReset sts detail true).fld R.MBX_HSTATUS_BME = 0 ∧
      (s.hostReset sts detail true).mbx.barLog2 = 32 ∧
      (s.hostReset sts detail true).fld R.MBX_HSTATUS_LAST_STS = sts % 65536 := by
  rw [State.hostReset_eq]
  have sortedC := State.sorted_hostCleared sorted
  generalize s.hostCleared = c at sortedC ⊢
  have closed : KeepsFld R.MBX_HSTATUS_BME (c.setF R.MBX_HSTATUS_BME 0) c.hostClosed.functionReset :=
    c.hostClosed_keeps.functionReset
  have size := c.hostClosed.functionReset_barLog2
  generalize c.hostClosed.functionReset = f at closed size ⊢
  obtain ⟨dropped, same⟩ := f.postsDropped_keeps
  have bme := closed.trans dropped
  have sortedP := bme.sorted (c.sorted_setF _ _ sortedC)
  have small := same.trans size
  generalize f.postsDropped = p at bme sortedP small ⊢
  have link : KeepsFld R.MBX_LINK_UP (p.setF R.MBX_LINK_UP 0) p.linkCleared := ((KeepsFld.refl _ _).setF 0).setF 0
  have bme' : KeepsFld R.MBX_HSTATUS_BME (c.setF R.MBX_HSTATUS_BME 0) p.linkCleared := ((bme.setF 0).setF 0).setF 0
  refine ⟨?_, ?_, ?_, ?_⟩
  · exact State.fld_of_setF ((link.linkRetried.inc 1).report sts detail 0) sortedP
  · exact State.fld_of_setF ((bme'.linkRetried.inc 1).report sts detail 0) sortedC
  · exact (congrArg Mailbox.barLog2 ((State.report_mbx ..).trans (State.inc_mbx ..))).trans
      ((State.linkRetried_barLog2 _).trans (p.linkCleared_barLog2.trans small))
  · exact State.fld_report_last _ _ _ _ _ ((link.linkRetried.inc 1).sorted (p.sorted_setF _ _ sortedP)) (by decide) (by decide)

/-! ## The statement -/

/-- Settles O8: each command is a few named steps, and what it leaves in the loader and its registers is what the last of them
to touch it has put there. -/
theorem imageCommands : Obligations.ImageCommands := by
  unfold Obligations.ImageCommands
  have ctrl (s : State) (src : Nat) (sorted : Sparse.sorted s.regs = true) :
      Sparse.sorted (s.setF R.BOOT_IMG_CTRL_SRC (src % 4)).regs = true := s.sorted_setF _ _ sorted
  have state (s : State) (src : Nat) (sorted : Sparse.sorted s.regs = true) (idle : s.fld R.BOOT_IMG_STATUS_STATE = 0) :
      (s.setF R.BOOT_IMG_CTRL_SRC (src % 4)).fld R.BOOT_IMG_STATUS_STATE = 0 :=
    (((KeepsFld.refl _ s).setF (src % 4)).fld sorted).trans idle
  refine ⟨?_, ?_, ?_, ?_, ?_, ?_, ?_, ?_, ?_, ?_, ?_, ?_⟩
  · rintro s ⟨-, -, sorted⟩ - up
    exact ⟨_, congrArg Host.Outcome.next (if_pos up), State.hostReset_linkLost 0xC001 0 sorted⟩
  · rintro src im s ⟨-, -, sorted⟩ - ⟨served, idle, passes⟩
    exact ⟨_, exec_load_served src served, State.imgLoad_passes (ctrl s src sorted) (state s src sorted idle) passes⟩
  · rintro src f s ⟨-, -, sorted⟩ - ⟨served, idle, fails⟩
    exact ⟨_, exec_load_served src served, State.imgLoad_fails (ctrl s src sorted) (state s src sorted idle) fails⟩
  · rintro s ⟨-, -, sorted⟩ - waiting
    obtain ⟨im, shadow⟩ := Option.isSome_iff_exists.mp waiting
    obtain ⟨loader, fields⟩ := State.imgCommit_activates sorted shadow
    exact ⟨s.imgCommit, rfl, by rw [loader, shadow], by rw [loader], fields⟩
  · rintro src s ⟨-, -, sorted⟩ - ⟨served, ok⟩
    obtain ⟨gone, idle, unnamed⟩ :=
      State.imgUnload_clears (ctrl s src sorted) ((s.unloadOk_setSrc (src % 4) sorted).trans ok)
    exact ⟨_, exec_unload_served src served, gone, idle, unnamed⟩
  · rintro s - - ⟨waiting, ready, one⟩
    obtain ⟨⟨k, seq, b⟩, storing⟩ := Option.isSome_iff_exists.mp waiting
    obtain ⟨loader, reqs⟩ := State.storeDone_writes storing ready one
    refine ⟨s.storeDone, rfl, by rw [loader]; rfl, reqs, ?_⟩
    rintro ⟨k', seq', b'⟩ hx bound
    cases storing.symm.trans hx
    rw [loader]
    simp [State.slotWritten, List.getD_eq_getElem?_getD, bound]
  · rintro s - - ⟨waiting, ready, one⟩
    obtain ⟨⟨keys, min, seq⟩, record⟩ := Option.isSome_iff_exists.mp waiting
    obtain ⟨loader, reqs⟩ := State.keyDone_writes record ready one
    refine ⟨s.keyDone, rfl, by rw [loader]; rfl, reqs, ?_⟩
    rintro x hx
    cases record.symm.trans hx
    rw [loader]
    exact ⟨rfl, rfl, rfl⟩
  · rintro src b im s ⟨-, -, sorted⟩ - ⟨served, free, copy, front⟩
    exact ⟨_, exec_store_served src served, State.imgStore_begins (ctrl s src sorted) free copy front⟩
  · rintro src b f s ⟨-, -, sorted⟩ - ⟨served, free, copy, front⟩
    exact ⟨_, exec_store_served src served, State.imgStore_fails (ctrl s src sorted) free (.inr ⟨b, copy, front⟩)⟩
  · rintro src f s ⟨-, -, sorted⟩ - ⟨served, free, copy⟩
    exact ⟨_, exec_store_served src served, State.imgStore_fails (ctrl s src sorted) free (.inl copy)⟩
  · rintro src s ⟨-, -, sorted⟩ - ⟨served, free, bad⟩
    obtain ⟨told, same⟩ := State.keyRecord_fails (ctrl s src sorted) free bad
    exact ⟨_, exec_keyrec_served src served, told, by rw [same]; exact free, by rw [same]; rfl⟩
  · rintro src b s ⟨-, -, sorted⟩ - ⟨served, free, record, good⟩
    exact ⟨_, exec_keyrec_served src served, State.keyRecord_begins (ctrl s src sorted) free record good⟩

end Sys2Proof.Machine
end
